-- ==== Sys2Proof/Word.lean ====
section
/-!
DEFINITION. The words of the model: bytes, 32-bit words, object references and the two kinds of value a member holds.
-/
namespace Sys2Proof

/-- One octet of memory or of a datagram. -/
abbrev Byte := BitVec 8

/-- A BE32 register or a peripheral register (scope chapter, Registers). -/
abbrev Word := BitVec 32

/-- One 10-bit symbol of the back channel (R408). -/
abbrev Symbol := BitVec 10

/-- A packed reference: class in [31:24], instance in [23:8], member in [7:0] (R29). -/
abbrev Ref := Nat

/-- The value of one member. A number is held as its unsigned encoding (signed types in two's complement, R33);
STRING and BLOB members hold octets. -/
inductive Val where
  | num (n : Nat)
  | bytes (b : List Byte)
  deriving DecidableEq, Repr

end Sys2Proof
end

