-- ==== Sys2Proof/Syntax.lean ====
section
/-!
DEFINITION. The commands the block takes, one constructor for each row of spec/opcode_table.json. A row's operands
say what the occurrence brings with it; what the block knows itself it takes from its state. `sess` is the NOAP
session on whose behalf a member is written (0 for the device's own boot records and NOAP-lite), `seq` the SEQ of
the request, `t` an engine thread 4 x engine + thread.
-/
namespace Sys2Proof

/-- One item of a WRITE (R64): the member, the type code and the value's octets. -/
structure WriteItem where
  ref : Ref
  typ : Nat
  val : List Byte
  deriving DecidableEq, Repr

/-- One item of a SUBSCRIBE (R71): the member, the mode and the period in ms. -/
structure SubItem where
  ref : Ref
  mode : Nat
  period : Nat
  deriving DecidableEq, Repr

/-- The fields of a BE32 instruction word beside its opcode (R359): COND [31:28], MODE [21:19], OPERAND [18:0]. -/
structure Be32Op where
  cond : Fin 16
  mode : Fin 8
  operand : BitVec 19
  deriving DecidableEq, Repr

/-- A block's answer to STOP in the sleep protocol (R676): STOPPED, REFUSE with a reason and detail, or none in time. -/
inductive StopAnswer where
  | stopped
  | refuse (reason detail : Nat)
  | timeout
  deriving DecidableEq, Repr

/-- Where a datagram comes from (R42, R563): the uplink, the source MAC address, the source IP address (4 or 16 octets) and UDP port, to
which its answer goes, and the address of the device that it names. -/
structure UdpSource where
  uplink : Fin 2
  mac : List Byte
  ip : List Byte
  port : Nat
  own : List Byte
  deriving DecidableEq, Repr

/-- The format of a CAN frame (R83, R579, R580): whether its identifier has 29 bits, whether it switches the bit rate, whether it is a CAN
FD frame and not a classical one, and whether it is a remote frame. -/
structure CanFormat where
  ext : Bool
  brs : Bool
  fd : Bool
  remote : Bool
  deriving DecidableEq, Repr

/-- An uplink whose link comes up, and the rate in the PHY's word on a USXGMII link (R558, R559): 0 to 3 for 1, 2.5, 5
and 10 Gbit/s, 4 and 5 for 100 and 10 Mbit/s. -/
structure UplinkRate where
  uplink : Fin 2
  rate : Fin 6
  deriving DecidableEq, Repr

/-- An error that has come about in the channel octets of a DRAM block (R468, R469): the octet, and the bits of it that are flipped. -/
structure ByteError where
  pos : Fin 272
  flip : Fin 256
  deriving DecidableEq, Repr

/-- Why a cluster faults (R353, R483): its monitor, or an uncorrectable 64-bit word of program code in its bank. -/
structure ClusterLoss where
  cluster : Fin 12
  word : Option (Fin 131072)
  deriving DecidableEq, Repr


/-- The commands of the block, one for each row of the table, with the operands each carries. The commands without operands stand
last: the compiler of Lean numbers 245 constructors with operands, and ten lie beyond. -/
inductive Instr where
  /-- REGISTER_WRITE (R6). A write to a peripheral register field that has no row of its own takes effect according to its access type. -/
  | registerWrite (src : Fin 105) (addr : Nat) (v : Word)
  /-- UNTIMED_WRITE_ARRIVAL (R14). An untimed cross-island register write takes effect 2 to 3 destination cycles after it leaves the source crossing FIFO. -/
  | untimedWriteArrival (dst : Fin 105) (srcs : List (Fin 105))
  /-- GATED_ISLAND_ACCESS_RESUME (R16). An access waiting on a clock-gated island completes normally once the clock is restored. -/
  | gatedIslandAccessResume (isl : Fin 105)
  /-- GPIO_EDGE (R20). A GPIO edge is synchronised, compared by the pattern matchers and, with debounce 0, written into the tell-tale state register. -/
  | gpioEdge (pin : Fin 160) (level : Bool)
  /-- MATCHER_DEBOUNCE_EXPIRY (R648). When a matcher's compare result has held for DEBOUNCE + 1 cycles, OUTPUT takes the new value and feeds the signal map. -/
  | matcherDebounceExpiry (m : Fin 32)
  /-- CAN_FD_FRAME_RECEIVED (R21). A received CAN FD frame is filtered, end-to-end checked and decoded into the tell-tale state of the entries it selects. -/
  | canFdFrameReceived (port : Fin 4) (fmt : CanFormat) (id : Nat) (data : List Byte)
  /-- T1S_FRAME_RECEIVED (R285). A matching 10BASE-T1S frame writes its signal-map entries' states 48 network-clock cycles after its FCS. -/
  | t1sFrameReceived (port : Fin 2) (frame : List Byte)
  /-- SIGNAL_TIMEOUT (R286). An entry whose TIMEOUT passes without an applied frame enters loss, takes LOSS_STATE and counts in TIMEOUTS. -/
  | signalTimeout (n : Fin 256)
  /-- NOAP_DATAGRAM_RECEIVED (R46). A UDP datagram on port 49702 is checked for magic, version, type, length, session and tag and discarded silently if any fails. -/
  | noapDatagramReceived (src : UdpSource) (fragment : Bool) (b : List Byte)
  /-- HELLO (R50). A HELLO creates a session in set-up and is answered with the signed HELLO response, or BUSY or STATE. -/
  | hello (src : UdpSource) (role slot : Nat) (hostKey nonce : List Byte)
  /-- KEY (R49). A KEY with a valid host signature opens the session; a failing one is answered AUTH and closes it. -/
  | key (sess seq : Nat) (sig : List Byte)
  /-- CLOSE (R53). A CLOSE from either side closes the session, and a controller close discards the staging set. -/
  | close (sess : Nat) (byDevice : Bool)
  /-- READ (R62). A READ returns the status, type and value of each listed member in request order. -/
  | read (sess seq : Nat) (staged : Bool) (refs : List Ref)
  /-- WRITE (R65). A WRITE applies its items in order, each succeeding or failing on its own. -/
  | write (sess seq : Nat) (items : List WriteItem)
  /-- COMMIT (R117). A COMMIT is checked against the STATE rules and then placed by the Stoker, which admits it or refuses it with REJECTED. -/
  | commit (sess seq mask : Nat)
  /-- COMMIT_DRY_RUN (R68). A COMMIT with DRY_RUN set is evaluated and answered as a real commit but applies nothing. -/
  | commitDryRun (sess seq mask : Nat)
  /-- SUBSCRIBE (R71). A SUBSCRIBE sets, changes or cancels on-change or periodic subscriptions for the listed members. -/
  | subscribe (sess seq : Nat) (items : List SubItem)
  /-- BULK (R765). A BULK datagram is checked in order and, if every check passes, written at its offset into a BLOB or surface. -/
  | bulk (sess seq : Nat) (target : Ref) (offset : Nat) (data : List Byte)
  /-- EVENT_ACK (R75). The host's EVENT response acknowledges an EVENT and ends the HOST claims it carried. -/
  | eventAck (sess seq : Nat)
  /-- EVENT_SEND (R76). Queued notifications are sent in an EVENT when fewer than 16 EVENTs are unacknowledged. -/
  | eventSend (sess : Nat)
  /-- EVENT_REPEAT_EXPIRY (R75). An unacknowledged EVENT is repeated after 20 ms, and dropped into EVENTS_LOST after its fifth repeat. -/
  | eventRepeatExpiry (sess seq : Nat)
  /-- PERIODIC_SUBSCRIPTION_EXPIRY (R71). A periodic subscription's period elapses and a member-value notification is queued. -/
  | periodicSubscriptionExpiry (sess : Nat) (ref : Ref)
  /-- SESSION_IDLE_TIMEOUT (R53). A session closes after IDLE_TIMEOUT without a valid host message. -/
  | sessionIdleTimeout (sess : Nat)
  /-- SESSION_LIFETIME_EXPIRY (R53). A session closes 24 hours after it opened. -/
  | sessionLifetimeExpiry (sess : Nat)
  /-- NOAP_ENABLE_WRITE (R81). Writing 0 to NOAP ENABLE closes every session. -/
  | noapEnableWrite (sess v : Nat)
  /-- NOAP_LITE_READ (R84). An authenticated, fresh NOAP-lite READ frame is answered with the member value within 1 ms. -/
  | noapLiteRead (port : Fin 4) (fmt : CanFormat) (id : Nat) (frame : List Byte)
  /-- NOAP_LITE_WRITE (R85). An authenticated, fresh NOAP-lite WRITE frame writes the member if LITE_WRITE_ENABLE and the lock rules allow. -/
  | noapLiteWrite (port : Fin 4) (fmt : CanFormat) (id : Nat) (frame : List Byte)
  /-- ALLOC (R90). ALLOC creates a scene object at its defaults at the wanted or lowest free instance. -/
  | alloc (sess cls arg : Nat)
  /-- FREE (R91). FREE releases an unleased object at once, or sets a leased one to FREEING and completes with DEFERRED. -/
  | free (sess cls : Nat) (arg : Ref)
  /-- REALIZE (R764). REALIZE checks the surface's members in order and reserves its memory in DRAM, setting STATE READY. -/
  | realize (sess surf arg : Nat)
  /-- DISCARD (R125). DISCARD empties the staging set. -/
  | discard (sess arg : Nat)
  /-- HEAD_FRAME_BOUNDARY (R250). At a head's frame boundary pending commits apply, registers and pipe state are reloaded, signatures are compared and raster threads restart. -/
  | headFrameBoundary (h : Fin 16)
  /-- HEAD_FIRST_BOUNDARY (R258). A starting head whose lanes are ready takes its first target boundary at least 250 µs later, sends MODE and begins two dark frames. -/
  | headFirstBoundary (h : Fin 16)
  /-- LINE_MATCH (R253). The beam reaches column 0 of a comparator's line and LINE_MATCH is raised. -/
  | lineMatch (h : Fin 16) (m : Fin 4)
  /-- FRAME_DONE (R254). At column 0 of frame line 1, outstanding reads of the ended frame are cancelled, its leases end and FRAME_DONE is raised. -/
  | frameDone (h : Fin 16)
  /-- SEGMENT_UNDERRUN (R264). A segment not complete when its first column reaches the mixer is replaced by REPEAT or FILL and counted. -/
  | segmentUnderrun (h : Fin 16) (p : Fin 32)
  /-- PIPE_LINE_COMPOSE (R215). A pipe stage composes the next line of its band from its slots in blend order and hands it on. -/
  | pipeLineCompose (p : Fin 32)
  /-- RACE_LINE_READ (R229). A race-mode slot waiting for source line m reads it when written or at its deadline, counting RACE_LATE if late. -/
  | raceLineRead (p : Fin 32) (slot : Fin 2) (m : Nat)
  /-- RESIDENT_LOAD_COMPLETE (R206). A pipe's frame-line-0 load of resident tile and sprite data completes. -/
  | residentLoadComplete (p : Fin 32)
  /-- DRAM_READ_COMPLETE (R481). A tagged DRAM block read completes, passes the outer-code decoder and is delivered to its master. -/
  | dramReadComplete (tag : Fin 512) (found : List ByteError)
  /-- CAPACITY_STEP (R166). On a capacity step the Stoker re-runs the model and degrades layers or puts heads in hearth-only mode until every term holds. -/
  | capacityStep (kind unit : Nat)
  /-- HEARTH_SCRUB (R270). The Hearth store scrubber reads a word, corrects single-bit errors and latches STORE_ECC on uncorrectable ones. -/
  | hearthScrub (word : Nat) (flips : Nat)
  /-- HEARTH_SLOT_WRITE (R274). A write to a tell-tale slot member is checked against lock, SHOWN, symbol and region limits and takes effect. -/
  | hearthSlotWrite (sess : Nat) (h : Fin 16) (slot : Fin 64) (m v : Nat)
  /-- SIGNAL_MAP_WRITE (R287). A write to a signal-map entry's configuration is checked and puts the entry into loss. -/
  | signalMapWrite (sess : Nat) (n : Fin 256) (m v : Nat)
  /-- HO_REQUEST_WRITE (R303). Writing HO_REQUEST sets or clears the REQUEST cause of hearth-only mode. -/
  | hoRequestWrite (sess : Nat) (h : Fin 16) (v : Nat)
  /-- ORBIT_ENABLE_WRITE (R451). A write of ORBIT_ENABLE 1 completes with STATE if any slot or plate lies within 3 pixels of the edge. -/
  | orbitEnableWrite (sess : Nat) (h : Fin 16) (v : Nat)
  /-- FAULT_CLEAR (R300). FAULT_CLEAR clears the latched Hearth faults of each named head whose cause has gone. -/
  | faultClear (sess mask : Nat)
  /-- MIXER_MISMATCH (R294). The two Hearth mixer copies disagree on a pixel and MIXER is latched on the head. -/
  | mixerMismatch (h : Fin 16)
  /-- BLINK_GENERATOR_EDGE (R279). A blink generator turns on or off at the timebase times its period and on time give. -/
  | blinkGeneratorEdge (g : Fin 2)
  /-- NOP (R368). NOP does nothing for one issue slot. -/
  | nop (t : Fin 384) (w : Be32Op)
  /-- LD_A (R366). LD.A loads A from its operand, delayed by one instruction. -/
  | ldA (t : Fin 384) (w : Be32Op)
  /-- LD_X (R366). LD.X loads X from its operand, delayed by one instruction. -/
  | ldX (t : Fin 384) (w : Be32Op)
  /-- LD_Y (R366). LD.Y loads Y from its operand, delayed by one instruction. -/
  | ldY (t : Fin 384) (w : Be32Op)
  /-- LD_B (R366). LD.B loads a zero-extended byte into A, delayed. -/
  | ldB (t : Fin 384) (w : Be32Op)
  /-- LD_H (R366). LD.H loads a zero-extended halfword into A, delayed. -/
  | ldH (t : Fin 384) (w : Be32Op)
  /-- ST_A (R368). ST.A stores A at the effective address, or untimed through the beam port. -/
  | stA (t : Fin 384) (w : Be32Op)
  /-- ST_X (R368). ST.X stores X at the effective address. -/
  | stX (t : Fin 384) (w : Be32Op)
  /-- ST_Y (R368). ST.Y stores Y at the effective address. -/
  | stY (t : Fin 384) (w : Be32Op)
  /-- ST_B (R368). ST.B stores A[7:0] at the effective address. -/
  | stB (t : Fin 384) (w : Be32Op)
  /-- ST_H (R368). ST.H stores A[15:0] at the effective address. -/
  | stH (t : Fin 384) (w : Be32Op)
  /-- ST_T (R375). ST.T issues a timed write of A through the beam port at the position in X. -/
  | stT (t : Fin 384) (w : Be32Op)
  /-- MV_XA (R368). MV.XA copies A into X. -/
  | mvXa (t : Fin 384) (w : Be32Op)
  /-- MV_YA (R368). MV.YA copies A into Y. -/
  | mvYa (t : Fin 384) (w : Be32Op)
  /-- MV_AX (R368). MV.AX copies X into A. -/
  | mvAx (t : Fin 384) (w : Be32Op)
  /-- MV_AY (R368). MV.AY copies Y into A. -/
  | mvAy (t : Fin 384) (w : Be32Op)
  /-- MV_AL (R319). MV.AL copies L into A, waiting until earlier long operations complete. -/
  | mvAl (t : Fin 384) (w : Be32Op)
  /-- MV_AT (R358). MV.AT copies TID into A. -/
  | mvAt (t : Fin 384) (w : Be32Op)
  /-- MV_AF (R357). MV.AF copies the flags into A. -/
  | mvAf (t : Fin 384) (w : Be32Op)
  /-- MV_FA (R357). MV.FA copies A[3:0] into the flags. -/
  | mvFa (t : Fin 384) (w : Be32Op)
  /-- ADD (R370). ADD adds the operand to A and sets NZCV. -/
  | add (t : Fin 384) (w : Be32Op)
  /-- ADD_C (R370). ADD.C adds the operand and C to A and sets NZCV. -/
  | addC (t : Fin 384) (w : Be32Op)
  /-- SUB (R370). SUB subtracts the operand from A and sets NZCV. -/
  | sub (t : Fin 384) (w : Be32Op)
  /-- SUB_C (R370). SUB.C subtracts the operand and the borrow from A and sets NZCV. -/
  | subC (t : Fin 384) (w : Be32Op)
  /-- RSB (R370). RSB sets A to the operand minus A and sets NZCV. -/
  | rsb (t : Fin 384) (w : Be32Op)
  /-- AND (R370). AND ands the operand into A and sets NZ. -/
  | and (t : Fin 384) (w : Be32Op)
  /-- OR (R370). OR ors the operand into A and sets NZ. -/
  | or (t : Fin 384) (w : Be32Op)
  /-- XOR (R370). XOR xors the operand into A and sets NZ. -/
  | xor (t : Fin 384) (w : Be32Op)
  /-- CMP (R370). CMP sets NZCV from A minus the operand. -/
  | cmp (t : Fin 384) (w : Be32Op)
  /-- CMP_X (R370). CMP.X sets NZCV from X minus the operand. -/
  | cmpX (t : Fin 384) (w : Be32Op)
  /-- CMP_Y (R370). CMP.Y sets NZCV from Y minus the operand. -/
  | cmpY (t : Fin 384) (w : Be32Op)
  /-- TST (R370). TST sets NZ from A and the operand. -/
  | tst (t : Fin 384) (w : Be32Op)
  /-- SHL (R370). SHL shifts A left and sets NZC. -/
  | shl (t : Fin 384) (w : Be32Op)
  /-- SHR (R370). SHR shifts A right with zero fill and sets NZC. -/
  | shr (t : Fin 384) (w : Be32Op)
  /-- SAR (R370). SAR shifts A right with sign fill and sets NZC. -/
  | sar (t : Fin 384) (w : Be32Op)
  /-- MIN (R368). MIN sets A to the signed minimum of A and the operand. -/
  | min (t : Fin 384) (w : Be32Op)
  /-- MAX (R368). MAX sets A to the signed maximum of A and the operand. -/
  | max (t : Fin 384) (w : Be32Op)
  /-- ADD_X (R368). ADD.X adds the operand to X. -/
  | addX (t : Fin 384) (w : Be32Op)
  /-- ADD_Y (R368). ADD.Y adds the operand to Y. -/
  | addY (t : Fin 384) (w : Be32Op)
  /-- MUL (R372). MUL starts a long operation giving the low 32 bits of A times the operand in L. -/
  | mul (t : Fin 384) (w : Be32Op)
  /-- MULQ (R372). MULQ starts a long operation giving the Q16.16 product in L. -/
  | mulq (t : Fin 384) (w : Be32Op)
  /-- DIV (R372). DIV starts a signed division whose result goes to L. -/
  | div (t : Fin 384) (w : Be32Op)
  /-- RECIP (R372). RECIP starts a Q16.16 reciprocal whose result goes to L. -/
  | recip (t : Fin 384) (w : Be32Op)
  /-- SQRT (R372). SQRT starts a Q16.16 square root whose result goes to L. -/
  | sqrt (t : Fin 384) (w : Be32Op)
  /-- SINCOS (R372). SINCOS starts a sine and cosine of an angle whose results go to L. -/
  | sincos (t : Fin 384) (w : Be32Op)
  /-- LONG_OP_COMPLETE (R319). A long operation completes after its latency and writes L. -/
  | longOpComplete (t : Fin 384)
  /-- JMP (R373). JMP transfers control to its target. -/
  | jmp (t : Fin 384) (w : Be32Op)
  /-- CALL (R374). CALL pushes the return address and transfers control, faulting on a full return stack. -/
  | call (t : Fin 384) (w : Be32Op)
  /-- RET (R374). RET pops the return address into PC, faulting on an empty return stack. -/
  | ret (t : Fin 384) (w : Be32Op)
  /-- WAITPOS (R343). WAITPOS suspends the thread until the beam mirror reaches the position in X. -/
  | waitpos (t : Fin 384) (w : Be32Op)
  /-- WAITPOS_END (R343). The beam mirror reaches the awaited position and the thread resumes in its next issue slot. -/
  | waitposEnd (t : Fin 384)
  /-- WAITEV (R382). WAITEV claims a pending event routed to the thread or suspends until one is pending. -/
  | waitev (t : Fin 384) (w : Be32Op)
  /-- WAITEV_CLAIM (R619). An event becomes pending for a thread waiting in WAITEV, which claims it and gets the claim word in A. -/
  | waitevClaim (t : Fin 384)
  /-- EOI (R620). EOI ends the interrupt of the source in A, which becomes pending or idle. -/
  | eoi (t : Fin 384) (w : Be32Op)
  /-- SYNCF (R379). SYNCF fences stores, discards fetched instructions and invalidates the instruction cache. -/
  | syncf (t : Fin 384) (w : Be32Op)
  /-- FENCE (R377). FENCE waits until every store of the thread has drained and been acknowledged. -/
  | fence (t : Fin 384) (w : Be32Op)
  /-- FARB (R368). FARB sets the thread's FAR_BASE. -/
  | farb (t : Fin 384) (w : Be32Op)
  /-- CINV (R383). CINV invalidates one data-cache line. -/
  | cinv (t : Fin 384) (w : Be32Op)
  /-- CINVA (R383). CINVA invalidates the whole data cache of the engine. -/
  | cinva (t : Fin 384) (w : Be32Op)
  /-- RING (R380). RING tries to post A to DOORBELL through the engine's post queue and sets C. -/
  | ring (t : Fin 384) (w : Be32Op)
  /-- DMAQ (R381). DMAQ tries to post a DMA list address to a channel through the post queue and sets C. -/
  | dmaq (t : Fin 384) (w : Be32Op)
  /-- POST_QUEUE_DEPART (R380). A post-queue entry leaves once the thread's earlier far-window stores are acknowledged, reaching DOORBELL or a DMA channel. -/
  | postQueueDepart (e : Fin 96)
  /-- STORE_DRAIN (R321). A store-buffer entry drains to the scratchpad 3 cycles after it entered or the previous drain. -/
  | storeDrain (t : Fin 384)
  /-- LOAD_DATA_ARRIVAL (R369). Data of a data-cache miss, cluster-bank, uncached or beam-port load arrive and the waiting thread becomes ready. -/
  | loadDataArrival (t : Fin 384)
  /-- FAR_WRITE_RESPONSE (R329). A far-window store receives its write response, releasing later doorbells and posts of that thread. -/
  | farWriteResponse (t : Fin 384)
  /-- TIMED_WRITE_LANDING (R344). A pending timed write takes effect when the beam reaches its position. -/
  | timedWriteLanding (isl : Fin 105)
  /-- BEAM_PORT_QUEUE_FREE (R347). A timed-write queue entry frees and a thread waiting at a full queue proceeds. -/
  | beamPortQueueFree (isl : Fin 105)
  /-- CLUSTER_FAULT (R353). A cluster monitor failure or code ECC error stops all 32 threads and removes the cluster as a capacity step. -/
  | clusterFault (c : ClusterLoss)
  /-- LOAD (R332). LOAD verifies a beam-program image and fills its declared members. -/
  | load (sess prog arg : Nat)
  /-- LANE_DIRECTION_WRITE (R385). Writing a lane's DIRECTION sets it off, transmit or receive and starts training for transmit. -/
  | laneDirectionWrite (sess : Nat) (l : Fin 32) (v : Nat)
  /-- LANE_TRAINING_START (R415). A lane starts training, ramping power over coax and sending IDLE blocks with TRAIN set. -/
  | laneTrainingStart (l : Fin 32)
  /-- BACK_CHANNEL_LOCK (R415). The lane sees 64 consecutive valid K28.5 characters and enters equalisation. -/
  | backChannelLock (l : Fin 32)
  /-- PRESET_STEP_EXPIRY (R415). Each 1 ms equalisation interval ends and the lane moves to the next preset or chooses the best one. -/
  | presetStepExpiry (l : Fin 32)
  /-- TRAINING_DEADLINE_MISSED (R416). A training deadline is missed, the lane records its reason, counts TRAIN_FAILS and waits to retry. -/
  | trainingDeadlineMissed (l : Fin 32)
  /-- TRAINING_RETRY_EXPIRY (R416). 100 ms after a training failure the lane trains again. -/
  | trainingRetryExpiry (l : Fin 32)
  /-- LANE_READY (R415). Training completes, the head-to-lane buffer is filled and the lane becomes READY. -/
  | laneReady (l : Fin 32)
  /-- COMMA_LOCK_LOSS (R417). A READY lane loses back-channel comma lock for 1 ms and retrains. -/
  | commaLockLoss (l : Fin 32)
  /-- STATUS_TIMEOUT (R417). A READY lane receives no valid STATUS for 20 ms and retrains. -/
  | statusTimeout (l : Fin 32)
  /-- PACKET_END (R403). When a transmitted packet ends, the lane chooses the next packet by rank and reserve counter. -/
  | packetEnd (l : Fin 32)
  /-- QUEUE_OVERFLOW (R404). The transmit queue would fill, so the line is truncated and counted in QUEUE_OVERFLOWS. -/
  | queueOverflow (l : Fin 32)
  /-- ACK (R413). A back-channel ACK advances the lane's acknowledged protected packets. -/
  | ack (l : Fin 32) (msg : List Symbol)
  /-- NAK (R413). A back-channel NAK makes the lane retransmit from the named SEQ. -/
  | nak (l : Fin 32) (msg : List Symbol)
  /-- RETRANSMIT_TIMEOUT (R413). No acknowledgement advances for 200 µs and the lane retransmits, retraining after 8 such timeouts. -/
  | retransmitTimeout (l : Fin 32)
  /-- STATUS (R410). A back-channel STATUS adds block errors, reports preset, caps and skew, and retrains on FWD_LOCK clear. -/
  | status (l : Fin 32) (msg : List Symbol)
  /-- SIGRET (R291). A SIGRET message delivers the bridge's signatures of a frame for later comparison. -/
  | sigret (l : Fin 32) (msg : List Symbol)
  /-- LINESTAT (R411). A LINESTAT message adds its BAD_LINES to LINE_ERROR_LINES. -/
  | linestat (l : Fin 32) (msg : List Symbol)
  /-- DATA (R414). A back-channel DATA message is accepted in order and acknowledged in BC_ACK. -/
  | data (l : Fin 32) (msg : List Symbol)
  /-- RX_MODE_PACKET (R418). A MODE packet on a receive lane sets the stream format and size for its video input. -/
  | rxModePacket (l : Fin 32) (pkt : List Byte)
  /-- RX_LINE_PACKET (R420). A LINE packet on a receive lane is written into the selected buffer, starting or completing frames. -/
  | rxLinePacket (l : Fin 32) (pkt : List Byte)
  /-- RX_PROTECTED_PACKET (R412). A protected packet on a receive lane is accepted in order and answered with ACK or NAK. -/
  | rxProtectedPacket (l : Fin 32) (pkt : List Byte)
  /-- RX_AUDIO_PACKET (R553). An AUDIO packet on a receive lane is queued for play at its presentation time. -/
  | rxAudioPacket (l : Fin 32) (pkt : List Byte)
  /-- POC_RAMP_COMPLETE (R423). A power-over-coax output finishes its 4 ms ramp to VPOC. -/
  | pocRampComplete (l : Fin 32)
  /-- POC_CUTOFF (R424). A power-over-coax output cuts off on current, power or VPOC limits, counts a fault and may latch. -/
  | pocCutoff (l : Fin 32) (cause : Nat)
  /-- POC_ENABLE_WRITE (R424). Writing POC_ENABLE enables or disables power over coax and unlatches a latched output on 0 then 1. -/
  | pocEnableWrite (sess : Nat) (l : Fin 32) (v : Nat)
  /-- ID_RESPONSE (R434). An ID_RESPONSE is verified and the panel becomes AUTHENTIC or FAILED. -/
  | idResponse (h : Fin 16) (msg : List Byte)
  /-- ID_RESPONSE_TIMEOUT (R435). No ID_RESPONSE within 60 ms and a new ID_REQUEST is sent, or the panel fails after 3 attempts. -/
  | idResponseTimeout (h : Fin 16)
  /-- READ_REPLY (R437). A wear-record READ reply delivers record bytes from the panel. -/
  | readReply (h : Fin 16) (msg : List Byte)
  /-- COMMITTED (R439). A COMMITTED reply confirms or fails a record write. -/
  | committed (h : Fin 16) (msg : List Byte)
  /-- COMMITTED_TIMEOUT (R439). No COMMITTED within 150 ms counts WRITE_FAILS and schedules a retry. -/
  | committedTimeout (h : Fin 16)
  /-- WRITE_RETRY_EXPIRY (R439). 10 s after a failed record write the whole write is repeated. -/
  | writeRetryExpiry (h : Fin 16)
  /-- DOSE_SNAPSHOT (R440). 595 s after the previous snapshot the dose and hours are snapshotted and written to the panel. -/
  | doseSnapshot (h : Fin 16)
  /-- CELL_ROW_DOSE (R443). At the end of each cell row the head's sums are added to the running doses. -/
  | cellRowDose (h : Fin 16)
  /-- GAIN_RECOMPUTE (R446). Every 60 s the gains of each ACTIVE panel are recomputed and wear events checked. -/
  | gainRecompute (h : Fin 16)
  /-- ORBIT_STEP (R450). Every 60 s a new orbit step applies at the head's next frame boundary. -/
  | orbitStep (h : Fin 16)
  /-- OPERATING_SECOND (R444). Each second a running head with a READY lane adds 1 to OPERATING_S. -/
  | operatingSecond (h : Fin 16)
  /-- ACK_NEW (R456). ACK_NEW clears NEW_PANEL. -/
  | ackNew (sess : Nat) (h : Fin 16) (arg : Nat)
  /-- ROW_READ (R457). ROW_READ returns the running dose of up to 85 cells of a row. -/
  | rowRead (sess : Nat) (h : Fin 16) (arg : Nat)
  /-- GAIN_READ (R457). GAIN_READ returns the gain codes of up to 341 cells of a row. -/
  | gainRead (sess : Nat) (h : Fin 16) (arg : Nat)
  /-- SCRUB_READ (R475). The scrubber reads a block slot, writes back a corrected block or counts an uncorrectable one. -/
  | scrubRead (d : Fin 8) (found : List ByteError)
  /-- CHANNEL_RETIRE (R489). A channel retires on monitor failure or error limit, drops writes, poisons reads and acts as a capacity step. -/
  | channelRetire (d : Fin 8) (cause : Nat)
  /-- RETIRE (R492). RETIRE retires a DRAM channel on request. -/
  | retire (sess : Nat) (d : Fin 8) (arg : Nat)
  /-- UNRETIRE (R490). UNRETIRE marks a retired channel to return after the next reset. -/
  | unretire (sess : Nat) (d : Fin 8) (arg : Nat)
  /-- DRAM_TRAINING_COMPLETE (R760). A channel's fast or full training ends, storing values or retiring the channel on failure. -/
  | dramTrainingComplete (d : Fin 8) (good : Bool)
  /-- POST (R503). POST queues a DMA list on a host-owned channel. -/
  | post (sess : Nat) (n : Fin 32) (addr : Nat)
  /-- ABORT (R511). ABORT empties a DMA channel's queue and stops its running list. -/
  | abort (sess : Nat) (n : Fin 32) (arg : Nat)
  /-- DMA_LIST_START (R508). A channel reads and checks its next list and starts or refuses it. -/
  | dmaListStart (n : Fin 32)
  /-- DMA_LIST_COMPLETE (R499). A DMA list completes after all write responses, writing its record, members and event, then following NEXT. -/
  | dmaListComplete (n : Fin 32)
  /-- KICK (R516). KICK makes the blitter read PRODUCE of a host-owned ring and run commands up to it. -/
  | kick (sess : Nat) (r : Fin 4) (arg : Nat)
  /-- RING_ENABLE_WRITE (R525). Writing a ring's ENABLE 1 sets CONSUME to PRODUCE and clears clip state; 0 stops the ring after the running command. -/
  | ringEnableWrite (sess : Nat) (r : Fin 4) (v : Nat)
  /-- FILL (R519). A FILL command writes COLOUR into every destination pixel within the clip. -/
  | fill (r : Fin 4)
  /-- COPY (R523). A COPY command copies a rectangle with rotation or mirror, resolving or refusing overlap. -/
  | copy (r : Fin 4)
  /-- CLIP (R521). A CLIP command sets the ring's clip rectangles. -/
  | clip (r : Fin 4)
  /-- BLIT_COMMAND_COMPLETE (R524). A blitter command completes, writing STATUS, SEQ_WORD and CONSUME and raising its event. -/
  | blitCommandComplete (r : Fin 4)
  /-- KEY_ON (R534). Voice KEY with argument 1 keys the voice on. -/
  | keyOn (sess : Nat) (v : Fin 128)
  /-- KEY_OFF (R534). Voice KEY with argument 0 starts the voice's release. -/
  | keyOff (sess : Nat) (v : Fin 128)
  /-- VOICE_DURATION_EXPIRY (R534). DURATION_MS after key-on the voice keys off automatically. -/
  | voiceDurationExpiry (v : Fin 128)
  /-- WAVE_TABLE_WRITE (R537). A wave table write takes effect whole at one engine sample. -/
  | waveTableWrite (sess : Nat) (t : Fin 32) (samples : List Byte)
  /-- GAINS_WRITE (R544). A crosspoint GAINS write sets new node targets applied at zero crossings or by ramp. -/
  | gainsWrite (sess : Nat) (o : Fin 48) (gains : List Byte)
  /-- FILTER_WRITE (R545). A FILTER write takes effect at one engine sample and clears the filter history. -/
  | filterWrite (sess : Nat) (o : Fin 48) (coefs : List Byte)
  /-- START (R540). START runs a sequencer from the given step. -/
  | start (sess : Nat) (q : Fin 4) (arg : Nat)
  /-- STOP (R539). STOP stops a sequencer at once. -/
  | stop (sess : Nat) (q : Fin 4) (arg : Nat)
  /-- SEQUENCER_TICK (R540). At each tick a running sequencer executes up to 16 due steps. -/
  | sequencerTick (q : Fin 4)
  /-- TDM_FRAME (R550). A TDM port moves one frame, dropping or repeating frames of a drifting slave and counting SLIPS. -/
  | tdmFrame (p : Fin 4) (slots : List Word)
  /-- AAF_PDU_RECEIVED (R568). A listener accepts a matching AAF PDU and queues its samples for presentation. -/
  | aafPduReceived (u : Fin 2) (frame : List Byte)
  /-- TALKER_PDU_SEND (R566). Every 125 or 250 µs a talker sends a PDU of the period's sample frames. -/
  | talkerPduSend (n : Fin 16)
  /-- UPLINK_LINK_UP (R559). After 10 ms of block lock without hi_ber an uplink's LINK becomes 1 and DAD runs. -/
  | uplinkLinkUp (link : UplinkRate)
  /-- UPLINK_LINK_DOWN (R559). An uplink loses lock for 1 ms, LINK becomes 0 and its queue is discarded. -/
  | uplinkLinkDown (u : Fin 2)
  /-- UPLINK_FRAME_RECEIVED (R560). An uplink MAC filters a received frame and passes it on or drops and counts it. -/
  | uplinkFrameReceived (u : Fin 2) (fcsOk : Bool) (frame : List Byte)
  /-- ARP_REQUEST (R562). An ARP request for IPV4_ADDR is answered. -/
  | arpRequest (u : Fin 2) (frame : List Byte)
  /-- ICMP_ECHO (R562). An ICMP or ICMPv6 echo request is answered. -/
  | icmpEcho (u : Fin 2) (frame : List Byte)
  /-- NEIGHBOUR_SOLICITATION (R562). A neighbour solicitation for a device address is answered with an advertisement. -/
  | neighbourSolicitation (u : Fin 2) (frame : List Byte)
  /-- REDUNDANCY_WRITE (R574). Writing REDUNDANCY closes every session and restarts both uplinks. -/
  | redundancyWrite (sess v : Nat)
  /-- PDELAY_EXCHANGE (R570). A gPTP peer-delay exchange updates LINK_DELAY_NS. -/
  | pdelayExchange (u : Fin 2) (t1 t2 t3 t4 : Nat)
  /-- GPTP_SYNC (R593). A Sync on the slave uplink yields an offset sample that steps or slews the timebase. -/
  | gptpSync (u : Fin 2) (origin correction rx : Nat)
  /-- GPTP_SYNC_SEND (R570). A master port sends Sync and Follow_Up every 125 ms. -/
  | gptpSyncSend (u : Fin 2)
  /-- SET_TIME (R599). SET_TIME steps the timebase to a given time with cause HOST. -/
  | setTime (sess t : Nat)
  /-- CAN_BUS_OFF (R583). A CAN FD controller reaches bus-off, counts BUS_OFFS and raises CAN_STATE. -/
  | canBusOff (port : Fin 4)
  /-- CAN_BUS_OFF_RECOVERY (R583). After 128 occurrences of 11 recessive bits with AUTO_RECOVER 1 the controller recovers. -/
  | canBusOffRecovery (port : Fin 4)
  /-- RESTART (R583). RESTART makes a bus-off CAN FD controller recover. -/
  | restart (sess : Nat) (port : Fin 4) (arg : Nat)
  /-- TIMER_PERIOD (R602). A timer counter reaches PERIOD, reloads and raises its PERIOD event. -/
  | timerPeriod (n : Fin 96)
  /-- TIMER_COMPARE (R603). A timer comparator matches, raises its event and adds its interval. -/
  | timerCompare (n : Fin 96) (k : Fin 2)
  /-- TIMER_CAPTURE (R606). A qualifying capture edge writes its timestamp into CAPTURE and raises the CAPTURE event. -/
  | timerCapture (n : Fin 96) (rising : Bool)
  /-- CAPTURE_READ (R607). A read of CAPTURE clears CAP_NEW. -/
  | captureRead (n : Fin 96)
  /-- TIMER_ENABLE_WRITE (R601). Setting ENABLE loads COUNT from PHASE; clearing it freezes COUNT. -/
  | timerEnableWrite (n : Fin 96) (v : Word)
  /-- PERIOD_WRITE (R604). A PERIOD write at or below the count makes the counter reload and sets PERIOD_SHORT. -/
  | periodWrite (n : Fin 96) (v : Word)
  /-- START_MASK_WRITE (R605). Writing START_MASK arms a group start, or starts late and sets START_LATE. -/
  | startMaskWrite (c : Fin 12) (v : Word)
  /-- GROUP_START (R605). The timebase reaches START_TIME and every armed channel starts in the same cycle. -/
  | groupStart (c : Fin 12)
  /-- DOORBELL (R613). A DOORBELL write raises a doorbell or owned KICK source, or is rejected and counted. -/
  | doorbell (writer : Ref) (v : Word)
  /-- RING_ACTION (R632). The RING action raises a doorbell source with ADD 1. -/
  | ringAction (sess source : Nat)
  /-- HOST_CLAIM (R625). A pending HOST source is claimed and one notification queued for the controlling session. -/
  | hostClaim (source : Fin 1024)
  /-- DAMPER_HOLD_EXPIRY (R623). A Damper group's hold-off ends and its pending sources can be claimed. -/
  | damperHoldExpiry (g : Fin 64)
  /-- EVENT_ROUTING_WRITE (R615). A write to TARGET, PROGRAM or WAKE_HOST is checked and takes effect unless the source is ACTIVE. -/
  | eventRoutingWrite (sess : Nat) (source : Fin 1024) (m v : Nat)
  /-- HOLDOFF_WRITE (R623). A HOLDOFF_US write applies from the next claim, and 0 ends a hold at once. -/
  | holdoffWrite (sess : Nat) (g : Fin 64) (v : Nat)
  /-- HOST_STATE_WRITE (R628). Writing HOST_STATE 0 wakes the host state and delivers held HOST sources at once. -/
  | hostStateWrite (sess v : Nat)
  /-- SET (R644). SET ors a mask into DATA_OUT indivisibly. -/
  | set (sess : Nat) (b : Fin 5) (mask : Nat)
  /-- GPIO_CLEAR (R644). CLEAR removes a mask from DATA_OUT indivisibly. -/
  | gpioClear (sess : Nat) (b : Fin 5) (mask : Nat)
  /-- TOGGLE (R644). TOGGLE xors a mask into DATA_OUT indivisibly. -/
  | toggle (sess : Nat) (b : Fin 5) (mask : Nat)
  /-- ROUTE_WRITE (R646). A routing write changes a function's balls, with ownership changing under R640. -/
  | routeWrite (sess m v : Nat)
  /-- MATCHER_WRITE (R649). A matcher write is checked against the Hearth lock and restarts its debounce. -/
  | matcherWrite (sess : Nat) (k : Fin 32) (m v : Nat)
  /-- HVS_THRESHOLD_CROSSING (R652). An HVS input crosses its threshold and the comparator output reaches the filter. -/
  | hvsThresholdCrossing (k : Fin 8) (above : Bool)
  /-- HVS_FILTER_EXPIRY (R652). The HVS comparator output holds for FILTER_US and the filtered level changes. -/
  | hvsFilterExpiry (k : Fin 8)
  /-- SLEEP_WINTER (R675). SLEEP with argument 1 starts the sleep protocol toward Winter. -/
  | sleepWinter (sess : Nat)
  /-- SLEEP_FROST (R675). SLEEP with argument 2 starts the sleep protocol toward Frost. -/
  | sleepFrost (sess : Nat)
  /-- BLOCK_STOP_ANSWER (R676). A block answers STOP with STOPPED or REFUSE, or times out after 2 ms. -/
  | blockStopAnswer (answer : StopAnswer)
  /-- THERMAL_SAMPLE (R679). Every 1 ms the governor reads the sensors and enters or leaves one thermal step. -/
  | thermalSample (tj predicted : Int)
  /-- POWER_AVERAGE (R681). The 1 s input-power average exceeds 58 W or falls back and the power-limit actions start or end. -/
  | powerAverage (mw vinMv vpocMv : Nat)
  /-- BOOST_REQUEST (R683). REQUEST with a length starts a boost episode if every condition holds. -/
  | boostRequest (sess arg : Nat)
  /-- BOOST_END_REQUEST (R683). REQUEST with argument 0 ends the boost episode. -/
  | boostEndRequest (sess : Nat)
  /-- IMAGE_VERIFY_COMPLETE (R699). An image's checks finish and the slot becomes ACTIVE or the other slot is tried. -/
  | imageVerifyComplete (slot : Fin 8)
  /-- FIREKEEPER_RESTART (R716). A lockstep disagreement or 100 ms watchdog expiry reloads the Firekeeper and closes every session. -/
  | firekeeperRestart (cause : Nat)
  /-- ERASE (R719). ERASE empties an image slot that is not ACTIVE. -/
  | erase (sess : Nat) (slot : Fin 8) (arg : Nat)
  /-- VERIFY (R698). VERIFY runs the image checks on a slot and returns the failure reason. -/
  | verify (sess : Nat) (slot : Fin 8) (arg : Nat)
  /-- ACTIVATE (R705). ACTIVATE records a VALID slot as preferred for the next start. -/
  | activate (sess : Nat) (slot : Fin 8) (arg : Nat)
  /-- ENROL (R702). ENROL burns the digest of the car-maker root key and sets LIFECYCLE ENROLLED. -/
  | enrol (sess : Nat) (b : List Byte)
  /-- REVOKE (R703). REVOKE burns the revocation fuse of one signing KEY_ID. -/
  | revoke (sess keyId : Nat)
  /-- REVOKE_SLOT (R703). REVOKE_SLOT revokes a host key slot or panel CA key in the device record. -/
  | revokeSlot (sess : Nat) (ref : Ref) (arg : Nat)
  /-- ADVANCE (R704). ADVANCE burns rollback fuses of a type up to the named version. -/
  | advance (sess arg : Nat)
  /-- ATTEST (R717). ATTEST returns a signed attestation report for a nonce. -/
  | attest (sess : Nat) (nonce : List Byte)
  /-- TOKEN (R723). A TOKEN write is checked and, if valid, installs the observation token and enables trace. -/
  | token (sess : Nat) (b : List Byte)
  /-- END (R724). END ends the observation token and the Chimney port turns off. -/
  | endToken (sess arg : Nat)
  /-- COUNTERS_RUN (R729). RUN with argument 1 starts every enabled counter in one fabric cycle. -/
  | countersRun (sess : Nat)
  /-- COUNTERS_STOP (R729). RUN with argument 0 stops every counter in one cycle. -/
  | countersStop (sess : Nat)
  /-- CLEAR (R729). CLEAR sets every counter to 0. -/
  | clear (sess arg : Nat)
  /-- ARM (R737). ARM sets ARMED for the next snapshot. -/
  | arm (sess arg : Nat)
  /-- TRIGGER (R731). TRIGGER requests a snapshot, taken if armed and enabled, else counted in MISSED. -/
  | trigger (sess arg : Nat)
  /-- CAN_INTEGRATED (R587). A CAN FD controller in INTEGRATING sees 11 recessive bits and becomes ERROR_ACTIVE. -/
  | canIntegrated (port : Fin 4)
  /-- CAN_PROTOCOL_ERROR (R579). A CAN FD controller detects a bus error, counts PROTOCOL_ERRORS and moves its error counters and state between ERROR_ACTIVE and ERROR_PASSIVE. -/
  | canProtocolError (port : Fin 4) (transmitter : Bool) (tecAdd recAdd : Nat)
  /-- PLCA_BEACON_RECEIVED (R577). A 10BASE-T1S node receives a BEACON and PLCA_STATUS becomes 1. -/
  | plcaBeaconReceived (port : Fin 2)
  /-- DUPLICATE_ADDRESS_DETECTION_DONE (R562). Duplicate address detection started at link up ends and ADDR_STATE marks each address valid or in conflict. -/
  | duplicateAddressDetectionDone (u : Fin 2) (conflict : Fin 4)
  /-- BLOCK_LOCK (R392). On a receive lane, the VXN9616 sees 64 consecutive valid sync headers and gains block lock on the source's forward signal. -/
  | blockLock (l : Fin 32)
  /-- BLOCK_LOCK_LOSS (R392). On a receive lane, 16 invalid sync headers within 64 blocks make the VXN9616 lose block lock and report FWD_LOCK clear. -/
  | blockLockLoss (l : Fin 32)
  /-- STATUS_SEND (R409). On a receive lane the VXN9616 sends a back-channel STATUS every 1 ms while training and at least every 10 ms while READY. -/
  | statusSend (l : Fin 32)
  /-- INSTRUCTION_CACHE_FILL (R325). An instruction-cache miss of a housekeeping thread is filled from its cluster-bank code region and the thread can issue again. -/
  | instructionCacheFill (t : Fin 384)
  /-- POC_COOLDOWN_EXPIRY (R424). 1 s after a cut-off the output ramps again. -/
  | pocCooldownExpiry (l : Fin 32)
  /-- PLCA_BEACON_SEND (R577). A coordinator 10BASE-T1S port sends a BEACON. -/
  | plcaBeaconSend (port : Fin 2)
  /-- PLCA_BEACON_LOSS (R577). A node sees no BEACON for 4,000 bit times, PLCA_STATUS falls and PLCA_LOST is raised. -/
  | plcaBeaconLoss (port : Fin 2)
  /-- ON_CHANGE_WINDOW_EXPIRY (R73). At the end of the millisecond, merged changes of a subscribed member yield one notification with the latest value. -/
  | onChangeWindowExpiry
  /-- SCENE_LEASE_EXPIRY (R136). The scene lease timer reaches SCENE_LEASE, setting SCENE_LEASE_EXPIRED so heads withdraw HOST_BOUND layers. -/
  | sceneLeaseExpiry
  /-- CAPACITY_STEP_UNDO (R169). After a lifted step stays clear for 2 s, the Stoker undoes its actions in reverse order where the model allows. -/
  | capacityStepUndo
  /-- MIGRATION_COPY_COMPLETE (R163). A hot-bank migration copy completes and heads switch to the new copy at their next boundary. -/
  | migrationCopyComplete
  /-- HEARTH_PACKAGE_LOADED (R269). The loader finishes reading the Hearth package, checks descriptors and sets PACKAGE_STATE VALID or INVALID. -/
  | hearthPackageLoaded
  /-- KEEPALIVE_LOSS (R299). The fault-pin keep-alive stops for 10 µs and unreleased pads drive the safe state. -/
  | keepaliveLoss
  /-- SUMMARY_WRITE (R452). 1,795 s after the last summary write the older xSPI summary sector is written. -/
  | summaryWrite
  /-- DRAM_INIT_COMPLETE (R477). Zero initialisation of DRAM ends and waiting DRAM accesses are served. -/
  | dramInitComplete
  /-- ENGINE_SAMPLE (R533). At each 96 kHz sample instant voices, envelopes, buses, crosspoint, filters and limiters compute one sample. -/
  | engineSample
  /-- PPS_EDGE (R592). A PPS_IN rising edge is accepted as a sample or reference, or rejected and counted. -/
  | ppsEdge
  /-- SYNC_TIMEOUT (R593). No Sync for 1 s or no PPS edge for 2 s puts the servo into HOLDOVER. -/
  | syncTimeout
  /-- PPS_OUT_RISE (R595). PPS_OUT rises when the timebase passes each whole second plus offset. -/
  | ppsOutRise
  /-- PPS_OUT_FALL (R595). PPS_OUT falls after PPS_OUT_WIDTH_US. -/
  | ppsOutFall
  /-- RTC_TICK (R596). In Winter and Frost each RTC tick advances the accumulator, timers and wake copies. -/
  | rtcTick
  /-- VIN_VALID (R657). VIN rises through 8.5 V and a cold start or restart begins with the restore table. -/
  | vinValid
  /-- CRANK_ENTRY (R658). VIN falls below 8.0 V and the device enters CRANK with hearth-only display. -/
  | crankEntry
  /-- CRANK_EXIT (R659). VIN stays at or above 8.5 V for 1 ms and CRANK ends. -/
  | crankExit
  /-- CRANK_TIMEOUT (R660). CRANK lasts 500 ms and operation ends abruptly. -/
  | crankTimeout
  /-- VIN_LOSS (R660). VIN falls below 6.0 V and operation ends abruptly. -/
  | vinLoss
  /-- OVERVOLTAGE (R660). VIN exceeds 63 V, the first stage stops and operation ends abruptly. -/
  | overvoltage
  /-- OVERVOLTAGE_CLEAR (R660). VIN stays below 60 V for 10 ms after OVERVOLTAGE and a cold start begins. -/
  | overvoltageClear
  /-- RESTORE_STEP_COMPLETE (R666). A restore-table step's duration ends and the next step begins. -/
  | restoreStepComplete
  /-- WEAR_FLUSH_END (R440). The wear flush ends when every panel answers or after 250 ms, and STOP goes to the first block. -/
  | wearFlushEnd
  /-- STOP_DELAY_EXPIRY (R676). A stopped block's delay ends and STOP goes to the next block, or power is removed after the last. -/
  | stopDelayExpiry
  /-- SLEEP_ROLLBACK_STEP (R677). After a refusal, each stopped block is restarted in reverse order after its delay. -/
  | sleepRollbackStep
  /-- WAKE_N (R674). WAKE_N held low for 2 RTC ticks wakes the device from Winter or Frost. -/
  | wakeN
  /-- RESET_N (R656). RESET_N is asserted, holding xSPI at high impedance and GPIO as pulled-down inputs. -/
  | resetN
  /-- RESET_N_RELEASE (R674). RESET_N is released after being held low and a cold start runs from step 3. -/
  | resetNRelease
  /-- THERMAL_TRIP (R679). The independent sensor reads 135 °C and the device enters Frost with the fault pins safe. -/
  | thermalTrip
  /-- BOOST_EPISODE_END (R683). A boost episode reaches its length, 20 s or the window limit and ends. -/
  | boostEpisodeEnd
  /-- BOOST_LIFETIME_FUSE (R684). Every 36,000 boost seconds a fuse burns, and at 3,000 h boost becomes EXHAUSTED. -/
  | boostLifetimeFuse
  /-- KINDLING_START (R710). After the restore table Kindling reads and verifies the Firekeeper image and boot configuration. -/
  | kindlingStart
  /-- FIREKEEPER_IMAGE_RETRY (R699). With no valid Firekeeper image Kindling retries every 1 s. -/
  | firekeeperImageRetry
  /-- BOOT_SCENE_APPLY (R707). The boot scene body is read and its records applied in order as a controlling session would. -/
  | bootSceneApply
  /-- START_DONE_DEADLINE (R714). At the last concluded start-up item, or at 900 ms, START_DONE becomes 1. -/
  | startDoneDeadline
  /-- TOKEN_EXPIRY (R724). The timebase reaches NOT_AFTER and the token becomes EXPIRED. -/
  | tokenExpiry
  /-- CHIMNEY_RECORD_SEND (R727). The next trace record, or a LOST record, leaves the FIFO on the Chimney port. -/
  | chimneyRecordSend
  /-- SNAP_IN (R731). A filtered rising edge on SNAP_IN triggers a snapshot of every island. -/
  | snapIn
  /-- SNAP_OUT_END (R733). SNAP_OUT falls 1 µs after it rose. -/
  | snapOutEnd
  /-- VIN_ABSENT (R657). VIN falls below 4.5 V, the RTC and wake domain loses power, the fault pins release and the next start is a cold start with the timebase at 0. -/
  | vinAbsent
  /-- BOOST_VIN_LOW (R683). VIN falls below 10.0 V during a boost episode and the episode ends. -/
  | boostVinLow
  /-- COMMIT_DECISION (R139). The Stoker finishes evaluating a commit, admits or refuses it, sends the COMMIT response and applies capacity steps that arrived meanwhile. -/
  | commitDecision
  /-- NOAP_LITE_RESPONSE_SENT (R86). A NOAP-lite response frame finishes its transmission on the CAN FD bus, after which the next request is no longer answered with BUSY. -/
  | noapLiteResponseSent
  deriving DecidableEq, Repr

end Sys2Proof
end

