-- ==== Sys2Proof/Decode.lean ====
section
/-!
DEFINITION. Words. No row of spec/opcode_table.json gives its command any bits, so no word of the table spells a command. The words
of BE32 instructions (R359, R360, R368) are given here both ways.
-/
namespace Sys2Proof

/-- The command that a word spells by the table's bits: none, for the table gives no row any. -/
def decodeTableWord (_nbits _w : Nat) : Option Instr := none

/-- The opcodes of R368 that are loads, stores and moves. -/
def be32Transfers : List (Nat × (Fin 384 → Be32Op → Instr)) :=
  [(0x00, .nop), (0x01, .ldA), (0x02, .ldX), (0x03, .ldY), (0x04, .ldB), (0x05, .ldH), (0x06, .stA), (0x07, .stX),
   (0x08, .stY), (0x09, .stB), (0x0A, .stH), (0x0B, .stT), (0x0C, .mvXa), (0x0D, .mvYa), (0x0E, .mvAx),
   (0x0F, .mvAy), (0x10, .mvAl), (0x11, .mvAt), (0x12, .mvAf), (0x13, .mvFa)]

/-- The opcodes of R368 that are sums, logic and comparisons. -/
def be32Sums : List (Nat × (Fin 384 → Be32Op → Instr)) :=
  [(0x14, .add), (0x15, .addC), (0x16, .sub), (0x17, .subC), (0x18, .rsb), (0x19, .and), (0x1A, .or), (0x1B, .xor),
   (0x1C, .cmp), (0x1D, .cmpX), (0x1E, .cmpY), (0x1F, .tst)]

/-- The opcodes of R368 that are shifts, extremes, pointers and long operations. -/
def be32Shifts : List (Nat × (Fin 384 → Be32Op → Instr)) :=
  [(0x20, .shl), (0x21, .shr), (0x22, .sar), (0x23, .min), (0x24, .max), (0x25, .addX), (0x26, .addY), (0x28, .mul),
   (0x29, .mulq), (0x2A, .div), (0x2B, .recip), (0x2C, .sqrt), (0x2D, .sincos)]

/-- The opcodes of R368 that are jumps, waits and orders. -/
def be32Controls : List (Nat × (Fin 384 → Be32Op → Instr)) :=
  [(0x30, .jmp), (0x31, .call), (0x32, .ret), (0x33, .waitpos), (0x34, .waitev), (0x35, .eoi), (0x36, .syncf),
   (0x37, .fence), (0x38, .farb), (0x39, .cinv), (0x3A, .cinva), (0x3B, .ring), (0x3C, .dmaq)]

/-- The opcodes of R368 with the command by which a thread issues each. -/
def be32Table : List (Nat × (Fin 384 → Be32Op → Instr)) :=
  be32Transfers ++ be32Sums ++ be32Shifts ++ be32Controls

/-- The word of an opcode and the other fields (R359): COND [31:28], OPCODE [27:22], MODE [21:19], OPERAND [18:0]. -/
def be32Word (op : BitVec 6) (w : Be32Op) : Word :=
  BitVec.ofNat 4 w.cond.val ++ op ++ BitVec.ofNat 3 w.mode.val ++ w.operand

/-- The opcode of a word (R359). -/
def be32Opcode (v : Word) : Nat := (v.extractLsb' 22 6).toNat

/-- The other fields of a word (R359). -/
def be32Fields (v : Word) : Be32Op :=
  { cond := (v.extractLsb' 28 4).toFin, mode := (v.extractLsb' 19 3).toFin, operand := v.extractLsb' 0 19 }

/-- The command by which a thread issues the instruction of a word; none for an opcode that R368 leaves undefined. -/
def decodeBe32 (t : Fin 384) (v : Word) : Option Instr :=
  (be32Table.find? (fun e => decide (e.1 = be32Opcode v))).map (fun e => e.2 t (be32Fields v))

/-- The thread and the word of a command that is a BE32 instruction. -/
def encodeBe32 (i : Instr) : Option (Fin 384 × Word) :=
  match i with
  | .nop t w => some (t, be32Word 0x00 w)
  | .ldA t w => some (t, be32Word 0x01 w)
  | .ldX t w => some (t, be32Word 0x02 w)
  | .ldY t w => some (t, be32Word 0x03 w)
  | .ldB t w => some (t, be32Word 0x04 w)
  | .ldH t w => some (t, be32Word 0x05 w)
  | .stA t w => some (t, be32Word 0x06 w)
  | .stX t w => some (t, be32Word 0x07 w)
  | .stY t w => some (t, be32Word 0x08 w)
  | .stB t w => some (t, be32Word 0x09 w)
  | .stH t w => some (t, be32Word 0x0A w)
  | .stT t w => some (t, be32Word 0x0B w)
  | .mvXa t w => some (t, be32Word 0x0C w)
  | .mvYa t w => some (t, be32Word 0x0D w)
  | .mvAx t w => some (t, be32Word 0x0E w)
  | .mvAy t w => some (t, be32Word 0x0F w)
  | .mvAl t w => some (t, be32Word 0x10 w)
  | .mvAt t w => some (t, be32Word 0x11 w)
  | .mvAf t w => some (t, be32Word 0x12 w)
  | .mvFa t w => some (t, be32Word 0x13 w)
  | .add t w => some (t, be32Word 0x14 w)
  | .addC t w => some (t, be32Word 0x15 w)
  | .sub t w => some (t, be32Word 0x16 w)
  | .subC t w => some (t, be32Word 0x17 w)
  | .rsb t w => some (t, be32Word 0x18 w)
  | .and t w => some (t, be32Word 0x19 w)
  | .or t w => some (t, be32Word 0x1A w)
  | .xor t w => some (t, be32Word 0x1B w)
  | .cmp t w => some (t, be32Word 0x1C w)
  | .cmpX t w => some (t, be32Word 0x1D w)
  | .cmpY t w => some (t, be32Word 0x1E w)
  | .tst t w => some (t, be32Word 0x1F w)
  | .shl t w => some (t, be32Word 0x20 w)
  | .shr t w => some (t, be32Word 0x21 w)
  | .sar t w => some (t, be32Word 0x22 w)
  | .min t w => some (t, be32Word 0x23 w)
  | .max t w => some (t, be32Word 0x24 w)
  | .addX t w => some (t, be32Word 0x25 w)
  | .addY t w => some (t, be32Word 0x26 w)
  | .mul t w => some (t, be32Word 0x28 w)
  | .mulq t w => some (t, be32Word 0x29 w)
  | .div t w => some (t, be32Word 0x2A w)
  | .recip t w => some (t, be32Word 0x2B w)
  | .sqrt t w => some (t, be32Word 0x2C w)
  | .sincos t w => some (t, be32Word 0x2D w)
  | .jmp t w => some (t, be32Word 0x30 w)
  | .call t w => some (t, be32Word 0x31 w)
  | .ret t w => some (t, be32Word 0x32 w)
  | .waitpos t w => some (t, be32Word 0x33 w)
  | .waitev t w => some (t, be32Word 0x34 w)
  | .eoi t w => some (t, be32Word 0x35 w)
  | .syncf t w => some (t, be32Word 0x36 w)
  | .fence t w => some (t, be32Word 0x37 w)
  | .farb t w => some (t, be32Word 0x38 w)
  | .cinv t w => some (t, be32Word 0x39 w)
  | .cinva t w => some (t, be32Word 0x3A w)
  | .ring t w => some (t, be32Word 0x3B w)
  | .dmaq t w => some (t, be32Word 0x3C w)
  | _ => none

end Sys2Proof
end

