-- ==== Sys2Proof/Machine/Bits.lean ====
section
/-!
DEFINITION. Bit fields, sign extension, byte orders and rounding, as the scope chapter fixes them (R3, R34, R759).
-/
namespace Sys2Proof.Machine

/-- Bit i of a number. -/
def bitOf (n i : Nat) : Bool := n.testBit i

/-- The field of w bits that starts at bit lo. -/
def fieldOf (n lo w : Nat) : Nat := (n >>> lo) % 2 ^ w

/-- The number with the field of w bits at lo replaced. -/
def setField (n lo w v : Nat) : Nat :=
  (n >>> (lo + w)) <<< (lo + w) + (v % 2 ^ w) <<< lo + n % 2 ^ lo

/-- The number with bit i set or cleared. -/
def setBit (n i : Nat) (b : Bool) : Nat := setField n i 1 b.toNat

/-- The signed reading of the low w bits. -/
def sintOf (w n : Nat) : Int :=
  if n % 2 ^ w < 2 ^ (w - 1) then ((n % 2 ^ w : Nat) : Int) else ((n % 2 ^ w : Nat) : Int) - 2 ^ w

/-- The two's complement encoding in w bits. -/
def twosOf (w : Nat) (i : Int) : Nat := (i % (2 ^ w : Nat)).toNat

/-- The k octets of a number, most significant first (R34). -/
def beBytes : Nat → Nat → List Byte
  | 0, _ => []
  | k + 1, n => BitVec.ofNat 8 (n >>> (8 * k)) :: beBytes k n

/-- The k octets of a number, least significant first (R3). -/
def leBytes : Nat → Nat → List Byte
  | 0, _ => []
  | k + 1, n => BitVec.ofNat 8 n :: leBytes k (n >>> 8)

/-- The number whose octets stand most significant first. -/
def ofBe (b : List Byte) : Nat := b.foldl (fun a x => a * 256 + x.toNat) 0

/-- The number whose octets stand least significant first. -/
def ofLe : List Byte → Nat
  | [] => 0
  | x :: b => x.toNat + 256 * ofLe b

/-- n octets of 0. -/
def zeros (n : Nat) : List Byte := List.replicate n 0

/-- n octets of 0xFF. -/
def ffs (n : Nat) : List Byte := List.replicate n 0xFF

/-- The octets from offset o, n of them, zero where there are none. -/
def sliceOf (b : List Byte) (o n : Nat) : List Byte :=
  let t := (b.drop o).take n
  t ++ zeros (n - t.length)

/-- The octets with n of them replaced from offset o; the list grows with zeros where it is shorter. -/
def patchBytes (b : List Byte) (o : Nat) (new : List Byte) : List Byte :=
  sliceOf b 0 o ++ new ++ b.drop (o + new.length)

/-- round(x) of R759: nearest, halves away from zero. -/
def roundRat (x : Rat) : Int :=
  if 0 ≤ x then (x + 1 / 2).floor else -((-x + 1 / 2).floor)

/-- round(n / d) of R759 for integers. -/
def roundDiv (n : Int) (d : Nat) : Int :=
  if 0 ≤ n then (2 * n + d) / (2 * d : Nat) else -((2 * (-n) + d) / (2 * d : Nat))

/-- The value limited to a range. -/
def clampInt (lo hi x : Int) : Int := if x < lo then lo else if hi < x then hi else x

/-- A saturating sum in w bits. -/
def satAdd (w a b : Nat) : Nat := min (a + b) (2 ^ w - 1)

/-- The wrapping sum in w bits. -/
def wrapAdd (w a b : Nat) : Nat := (a + b) % 2 ^ w

/-- n div d, rounded up. -/
def ceilDiv (n d : Nat) : Nat := (n + d - 1) / d

/-- The value rounded up to a multiple of m. -/
def roundUp (n m : Nat) : Nat := ceilDiv n m * m

/-- The set bits of a mask below n, rising. -/
def bitsOf (mask n : Nat) : List Nat := (List.range n).filter (fun i => mask.testBit i)

/-- The number of set bits below n. -/
def popCount (mask n : Nat) : Nat := (bitsOf mask n).length

end Sys2Proof.Machine
end

