-- ==== Sys2Proof/Machine/Crc.lean ====
section
/-!
DEFINITION. The cyclic redundancy checks of the spec: CRC-32 of R289, CRC-8 of R393 and the configurable CRC of R282.
-/
namespace Sys2Proof.Machine

/-- One bit of a reflected CRC-32 with polynomial 0x04C11DB7 (R289). -/
def crc32Bit (c : Nat) : Nat := if c % 2 = 1 then (c / 2) ^^^ 0xEDB88320 else c / 2

/-- The register of R289 after one octet. -/
def crc32Step (c b : Nat) : Nat :=
  crc32Bit (crc32Bit (crc32Bit (crc32Bit (crc32Bit (crc32Bit (crc32Bit (crc32Bit (c ^^^ b))))))))

/-- The register of R289 after octets. -/
def crc32Run (c : Nat) (l : List Byte) : Nat := l.foldl (fun c b => crc32Step c b.toNat) c

/-- CRC-32 of octets (R289). -/
def crc32 (l : List Byte) : Nat := crc32Run 0xFFFFFFFF l ^^^ 0xFFFFFFFF

/-- One bit of a CRC of w bits, most significant bit first (R282, R393). -/
def crcMsbBit (w poly c : Nat) : Nat := if bitOf c (w - 1) then (c * 2 % 2 ^ w) ^^^ poly else c * 2 % 2 ^ w

/-- The register of a CRC of w bits after one octet. -/
def crcMsbStep (w poly c b : Nat) : Nat :=
  let f := crcMsbBit w poly
  f (f (f (f (f (f (f (f (c ^^^ (b <<< (w - 8))))))))))

/-- The register of a CRC of w bits after octets. -/
def crcMsb (w poly init : Nat) (l : List Byte) : Nat := l.foldl (fun c b => crcMsbStep w poly c b.toNat) init

/-- HCRC of a packet header (R393). -/
def crc8 (l : List Byte) : Nat := crcMsb 8 0x07 0 l

/-- The bit that a self-synchronous scrambler x^58 + x^39 + 1 makes of a payload bit, from the last 58 bits on the wire, the newest
in bit 0 (R391); the receiver's descrambler makes the payload bit of the wire's in the same way. -/
def scrambleBit (past : Nat) (b : Bool) : Bool := b != (past.testBit 38 != past.testBit 57)

/-- The last 58 bits on the wire after one more. -/
def pastBits (past : Nat) (b : Bool) : Nat := (past * 2 + b.toNat) % 2 ^ 58

/-- Payload bits through the scrambler (R391), with what it then holds. -/
def scrambleBits : Nat → List Bool → Nat × List Bool
  | past, [] => (past, [])
  | past, b :: l =>
    let r := scrambleBits (pastBits past (scrambleBit past b)) l
    (r.1, scrambleBit past b :: r.2)

/-- Bits from the wire through the receiver's descrambler (R391). -/
def descrambleBits : Nat → List Bool → List Bool
  | _, [] => []
  | past, b :: l => scrambleBit past b :: descrambleBits (pastBits past b) l

/-- Octets as bits, each octet from its least significant bit (R389). -/
def bitsOfBytes (b : List Byte) : List Bool := (b.map (fun x => (List.range 8).map x.getLsbD)).flatten

/-- n octets from bits. -/
def bytesOfBits : Nat → List Bool → List Byte
  | 0, _ => []
  | n + 1, l => BitVec.ofNat 8 ((l.take 8).foldr (fun x a => x.toNat + 2 * a) 0) :: bytesOfBits n (l.drop 8)

/-- The 8 payload octets of a block through the scrambler (R391). -/
def scrambleBlock (past : Nat) (b : List Byte) : Nat × List Byte :=
  let r := scrambleBits past (bitsOfBytes b)
  (r.1, bytesOfBits b.length r.2)

end Sys2Proof.Machine
end

