-- ==== Sys2Proof/Config.lean ====
section
/-!
DEFINITION. What the spec leaves open and what it takes from elsewhere, as constants without a body: no proof can
see a value of one.
-/
namespace Sys2Proof

/-- Free value number n: the n-th value that the spec leaves open (assumption log 4). -/
opaque Config.freeValue : Nat → BitVec 64

/-- HMAC-SHA-384 of a message under a key (R48, R82), 48 octets (assumption log 5). -/
opaque Config.hmacSha384 : (key msg : List Byte) → Vector Byte 48

/-- SHA-384 (R50), 48 octets (assumption log 5). -/
opaque Config.sha384 : (msg : List Byte) → Vector Byte 48

/-- Whether an ECDSA P-384 signature over a digest verifies under a public key (R49, R434, R698, R723; assumption log 5). -/
opaque Config.ecdsaVerifies : (pub digest sig : List Byte) → Bool

/-- The device's ECDSA P-384 signature over a digest with its attestation key (HELLO response, R717), 96 octets
(assumption log 5). -/
opaque Config.ecdsaSign : (digest : List Byte) → Vector Byte 96

/-- The ECDH P-384 shared secret of R47 from the host's ephemeral public key and the number of the device's free ephemeral key,
48 octets (assumption log 5). -/
opaque Config.ecdhShared : (hostKey : List Byte) → (ephemeral : Nat) → Vector Byte 48

/-- Whether an X.509 certificate verifies under a CA's public key (R434; assumption log 5). -/
opaque Config.certVerifies : (ca cert : List Byte) → Bool

/-- The subject serialNumber of a certificate (R434; assumption log 5). -/
opaque Config.certSerial : (cert : List Byte) → List Byte

/-- The public key of a certificate (R434; assumption log 5). -/
opaque Config.certKey : (cert : List Byte) → List Byte

/-- The alpha of a sprite pixel of alpha a composed over a sprite pixel of alpha below, neither of them 255: R203 gives the
colour alone (assumption log 26). -/
opaque Config.spriteAlpha : (a below : Nat) → BitVec 8

/-- The RGB888 colour of an A4 symbol drawn as a plate: a plate has no COLOUR member (assumption log 28). -/
opaque Config.plateColour : BitVec 24

/-- The taps of the 23-tap half-band filter of R530 at 1, 3, 5, 7, 9 and 11 samples from its middle: the spec gives no coefficients
(assumption log 4). -/
opaque Config.halfBandTap : Fin 6 → Rat

/-- Whether a filtered value that is no whole sample rounds up: the spec gives no rounding for R530 (assumption log 4). -/
opaque Config.halfBandUp : Rat → Bool

/-- The AAF PCM format of a talker's PDUs: 2 INT_32BIT, 3 INT_24BIT, 4 INT_16BIT (R551 names no member for it; assumption log
42). -/
opaque Config.talkerFormat : Nat → Fin 3

/-- The Voxmor root key in the Kindling ROM, 97 octets (R700; assumption log 5). -/
opaque Config.voxmorRoot : Vector Byte 97

end Sys2Proof
end

