-- ==== Sys2Proof/Machine/Names.lean ====
section
/-!
DEFINITION. The names of the members: for each row of the object tables the packed reference of R29, written
<object>_<NAME> as the table names it. The argument is the instance, counted from the object's first instance;
a row that covers several members takes the member's index as a last argument.
-/
namespace Sys2Proof.Machine

/-- A reference packed from class, instance and member, each in its own bits (R29). -/
def mref (cls inst mem : Nat) : Ref := cls % 256 * 16777216 + inst % 65536 * 256 + mem % 256

/-- The class of a reference (R29). -/
def refClass (r : Ref) : Nat := r / 16777216 % 256

/-- The instance of a reference (R29). -/
def refInst (r : Ref) : Nat := r / 256 % 65536

/-- The member of a reference (R29). -/
def refMember (r : Ref) : Nat := r % 256

/-- The reference to the whole object, member 0 (R29). -/
def refObj (r : Ref) : Ref := r / 256 * 256

/-- STATE of a scene object, from the reference to the object (R95). -/
def obj_STATE (o : Ref) : Ref := o + 1

/-- LEASE_HEADS of a scene object (R95). -/
def obj_LEASE_HEADS (o : Ref) : Ref := o + 2

/-- 48:0010/1 (R81). -/
def noap_ENABLE : Ref := mref 0x48 0x10 1
/-- 48:0010/2 (R81). -/
def noap_PORT : Ref := mref 0x48 0x10 2
/-- 48:0010/3 (R81). -/
def noap_SESSIONS : Ref := mref 0x48 0x10 3
/-- 48:0010/4 (R81). -/
def noap_CONTROLLER : Ref := mref 0x48 0x10 4
/-- 48:0010/5 (R81). -/
def noap_TAG_FAIL : Ref := mref 0x48 0x10 5
/-- 48:0010/6 (R81). -/
def noap_DUP_COUNT : Ref := mref 0x48 0x10 6
/-- 48:0010/7 (R81). -/
def noap_EVENTS_LOST : Ref := mref 0x48 0x10 7
/-- 48:0010/8 (R81). -/
def noap_FRAG_DROPPED : Ref := mref 0x48 0x10 8
/-- 48:0010/9 (R81). -/
def noap_IDLE_TIMEOUT : Ref := mref 0x48 0x10 9
/-- 48:0011/1 (R81). -/
def lite_LITE_CONTROLLER : Ref := mref 0x48 0x11 1
/-- 48:0011/2 (R81). -/
def lite_LITE_REQ_ID : Ref := mref 0x48 0x11 2
/-- 48:0011/3 (R81). -/
def lite_LITE_RSP_ID : Ref := mref 0x48 0x11 3
/-- 48:0011/4 (R81). -/
def lite_LITE_EXT_ID : Ref := mref 0x48 0x11 4
/-- 48:0011/5 (R81). -/
def lite_LITE_WRITE_ENABLE : Ref := mref 0x48 0x11 5
/-- 48:0011/6 (R81). -/
def lite_LITE_TAG_FAIL : Ref := mref 0x48 0x11 6
/-- cc:FFFF/1 (R89). -/
def ctl_ALLOC (c : Nat) : Ref := mref c 0xFFFF 1
/-- cc:FFFF/2 (R89). -/
def ctl_FREE (c : Nat) : Ref := mref c 0xFFFF 2
/-- cc:FFFF/3 (R89). -/
def ctl_IN_USE (c : Nat) : Ref := mref c 0xFFFF 3
/-- cc:FFFF/4 (R89). -/
def ctl_LIMIT (c : Nat) : Ref := mref c 0xFFFF 4
/-- cc:FFFF/5 (R89). -/
def ctl_PENDING_FREE (c : Nat) : Ref := mref c 0xFFFF 5
/-- cc:nnnn/1 (R95). -/
def band_STATE (i : Nat) : Ref := mref 0x11 i 1
/-- cc:nnnn/1 (R95). -/
def layer_STATE (i : Nat) : Ref := mref 0x12 i 1
/-- cc:nnnn/1 (R95). -/
def surf_STATE (i : Nat) : Ref := mref 0x13 i 1
/-- cc:nnnn/1 (R95). -/
def tmap_STATE (i : Nat) : Ref := mref 0x14 i 1
/-- cc:nnnn/1 (R95). -/
def sset_STATE (i : Nat) : Ref := mref 0x15 i 1
/-- cc:nnnn/1 (R95). -/
def pal_STATE (i : Nat) : Ref := mref 0x16 i 1
/-- cc:nnnn/1 (R95). -/
def prog_STATE (i : Nat) : Ref := mref 0x17 i 1
/-- cc:nnnn/2 (R95). -/
def band_LEASE_HEADS (i : Nat) : Ref := mref 0x11 i 2
/-- cc:nnnn/2 (R95). -/
def layer_LEASE_HEADS (i : Nat) : Ref := mref 0x12 i 2
/-- cc:nnnn/2 (R95). -/
def surf_LEASE_HEADS (i : Nat) : Ref := mref 0x13 i 2
/-- cc:nnnn/2 (R95). -/
def tmap_LEASE_HEADS (i : Nat) : Ref := mref 0x14 i 2
/-- cc:nnnn/2 (R95). -/
def sset_LEASE_HEADS (i : Nat) : Ref := mref 0x15 i 2
/-- cc:nnnn/2 (R95). -/
def pal_LEASE_HEADS (i : Nat) : Ref := mref 0x16 i 2
/-- cc:nnnn/2 (R95). -/
def prog_LEASE_HEADS (i : Nat) : Ref := mref 0x17 i 2
/-- 11:nnnn/3 (R96). -/
def band_HEAD (i : Nat) : Ref := mref 0x11 i 3
/-- 11:nnnn/4 (R96). -/
def band_TOP (i : Nat) : Ref := mref 0x11 i 4
/-- 11:nnnn/5 (R96). -/
def band_HEIGHT (i : Nat) : Ref := mref 0x11 i 5
/-- 11:nnnn/6 (R96). -/
def band_ENABLE (i : Nat) : Ref := mref 0x11 i 6
/-- 11:nnnn/7 (R96). -/
def band_BACKGROUND (i : Nat) : Ref := mref 0x11 i 7
/-- 11:nnnn/8 (R96). -/
def band_PIPES (i : Nat) : Ref := mref 0x11 i 8
/-- 12:nnnn/3 (R99). -/
def layer_BAND (i : Nat) : Ref := mref 0x12 i 3
/-- 12:nnnn/4 (R99). -/
def layer_Z (i : Nat) : Ref := mref 0x12 i 4
/-- 12:nnnn/5 (R99). -/
def layer_ENABLE (i : Nat) : Ref := mref 0x12 i 5
/-- 12:nnnn/6 (R99). -/
def layer_KIND (i : Nat) : Ref := mref 0x12 i 6
/-- 12:nnnn/7 (R99). -/
def layer_SOURCE (i : Nat) : Ref := mref 0x12 i 7
/-- 12:nnnn/8 (R99). -/
def layer_PALETTE (i : Nat) : Ref := mref 0x12 i 8
/-- 12:nnnn/9 (R99). -/
def layer_DEST_X (i : Nat) : Ref := mref 0x12 i 9
/-- 12:nnnn/10 (R99). -/
def layer_DEST_Y (i : Nat) : Ref := mref 0x12 i 10
/-- 12:nnnn/11 (R99). -/
def layer_WIDTH (i : Nat) : Ref := mref 0x12 i 11
/-- 12:nnnn/12 (R99). -/
def layer_HEIGHT (i : Nat) : Ref := mref 0x12 i 12
/-- 12:nnnn/13 (R99). -/
def layer_SRC_X (i : Nat) : Ref := mref 0x12 i 13
/-- 12:nnnn/14 (R99). -/
def layer_SRC_Y (i : Nat) : Ref := mref 0x12 i 14
/-- 12:nnnn/15 (R99). -/
def layer_SRC_W (i : Nat) : Ref := mref 0x12 i 15
/-- 12:nnnn/16 (R99). -/
def layer_SRC_H (i : Nat) : Ref := mref 0x12 i 16
/-- 12:nnnn/17 (R99). -/
def layer_ALPHA (i : Nat) : Ref := mref 0x12 i 17
/-- 12:nnnn/18 (R99). -/
def layer_BLEND (i : Nat) : Ref := mref 0x12 i 18
/-- 12:nnnn/19 (R99). -/
def layer_DEGRADE (i : Nat) : Ref := mref 0x12 i 19
/-- 12:nnnn/20 (R99). -/
def layer_FALLBACK (i : Nat) : Ref := mref 0x12 i 20
/-- 12:nnnn/21 (R99). -/
def layer_HOST_BOUND (i : Nat) : Ref := mref 0x12 i 21
/-- 13:nnnn/3 (R104). -/
def surf_FORMAT (i : Nat) : Ref := mref 0x13 i 3
/-- 13:nnnn/4 (R104). -/
def surf_WIDTH (i : Nat) : Ref := mref 0x13 i 4
/-- 13:nnnn/5 (R104). -/
def surf_HEIGHT (i : Nat) : Ref := mref 0x13 i 5
/-- 13:nnnn/6 (R104). -/
def surf_PITCH (i : Nat) : Ref := mref 0x13 i 6
/-- 13:nnnn/7 (R104). -/
def surf_BUFFERS (i : Nat) : Ref := mref 0x13 i 7
/-- 13:nnnn/8 (R104). -/
def surf_STREAMING (i : Nat) : Ref := mref 0x13 i 8
/-- 13:nnnn/9 (R104). -/
def surf_PLACEMENT_HINT (i : Nat) : Ref := mref 0x13 i 9
/-- 13:nnnn/10 (R104). -/
def surf_PINNED (i : Nat) : Ref := mref 0x13 i 10
/-- 13:nnnn/11 (R104). -/
def surf_REALIZE (i : Nat) : Ref := mref 0x13 i 11
/-- 13:nnnn/12 (R104). -/
def surf_SIZE (i : Nat) : Ref := mref 0x13 i 12
/-- 13:nnnn/13 (R104). -/
def surf_LOCATION (i : Nat) : Ref := mref 0x13 i 13
/-- 13:nnnn/14 (R104). -/
def surf_ADDRESS (i : Nat) : Ref := mref 0x13 i 14
/-- 13:nnnn/15 (R104). -/
def surf_FRONT (i : Nat) : Ref := mref 0x13 i 15
/-- 13:nnnn/16 (R104). -/
def surf_OPAQUE (i : Nat) : Ref := mref 0x13 i 16
/-- 13:nnnn/17 (R104). -/
def surf_BUFFER_STATE (i : Nat) : Ref := mref 0x13 i 17
/-- 13:nnnn/18 (R104). -/
def surf_HEAD_FRONT (i : Nat) : Ref := mref 0x13 i 18
/-- 18:nnnn/1 (R124). -/
def commit_NUMBER (i : Nat) : Ref := mref 0x18 i 1
/-- 18:nnnn/2 (R124). -/
def commit_MASK (i : Nat) : Ref := mref 0x18 i 2
/-- 18:nnnn/3 (R124). -/
def commit_FLAGS (i : Nat) : Ref := mref 0x18 i 3
/-- 18:nnnn/4 (R124). -/
def commit_RESULT (i : Nat) : Ref := mref 0x18 i 4
/-- 18:nnnn/5 (R124). -/
def commit_STATE_REASON (i : Nat) : Ref := mref 0x18 i 5
/-- 18:nnnn/6 (R124). -/
def commit_STATE_HEADS (i : Nat) : Ref := mref 0x18 i 6
/-- 18:nnnn/7 (R124). -/
def commit_STATE_REF (i : Nat) : Ref := mref 0x18 i 7
/-- 18:nnnn/8 (R124). -/
def commit_REPORT (i : Nat) : Ref := mref 0x18 i 8
/-- 18:nnnn/9 (R124). -/
def commit_ADMIT_TIME (i : Nat) : Ref := mref 0x18 i 9
/-- 18:nnnn/10 (R124). -/
def commit_APPLIED_MASK (i : Nat) : Ref := mref 0x18 i 10
/-- 18:nnnn/11 (R124). -/
def commit_SUPERSEDED_MASK (i : Nat) : Ref := mref 0x18 i 11
/-- 18:nnnn/12 (R124). -/
def commit_TAKEN (i : Nat) : Ref := mref 0x18 i 12
/-- 18:nnnn/16–31 (R124). -/
def commit_APPLY_TIME_H (i k : Nat) : Ref := mref 0x18 i (16 + k)
/-- 18:FFFF/1 (R125). -/
def commitCtl_LAST_NUMBER : Ref := mref 0x18 0xFFFF 1
/-- 18:FFFF/2 (R125). -/
def commitCtl_STAGED_COUNT : Ref := mref 0x18 0xFFFF 2
/-- 18:FFFF/3 (R125). -/
def commitCtl_STAGING_LIMIT : Ref := mref 0x18 0xFFFF 3
/-- 18:FFFF/4 (R125). -/
def commitCtl_DISCARD : Ref := mref 0x18 0xFFFF 4
/-- 18:FFFF/5 (R125). -/
def commitCtl_SCENE_LEASE : Ref := mref 0x18 0xFFFF 5
/-- 18:FFFF/6 (R125). -/
def commitCtl_SCENE_LEASE_EXPIRED : Ref := mref 0x18 0xFFFF 6
/-- 1A:000n/1 (R173). -/
def report_NUMBER (i : Nat) : Ref := mref 0x1A i 1
/-- 1A:000n/2 (R173). -/
def report_RESULT (i : Nat) : Ref := mref 0x1A i 2
/-- 1A:000n/3 (R173). -/
def report_REASON (i : Nat) : Ref := mref 0x1A i 3
/-- 1A:000n/4 (R173). -/
def report_HEADS (i : Nat) : Ref := mref 0x1A i 4
/-- 1A:000n/5 (R173). -/
def report_RESOURCE (i : Nat) : Ref := mref 0x1A i 5
/-- 1A:000n/6 (R173). -/
def report_SLOT (i : Nat) : Ref := mref 0x1A i 6
/-- 1A:000n/7 (R173). -/
def report_DEMAND (i : Nat) : Ref := mref 0x1A i 7
/-- 1A:000n/8 (R173). -/
def report_CAPACITY (i : Nat) : Ref := mref 0x1A i 8
/-- 1A:000n/9 (R173). -/
def report_OBJECT (i : Nat) : Ref := mref 0x1A i 9
/-- 1A:000n/10 (R173). -/
def report_DEGRADES (i : Nat) : Ref := mref 0x1A i 10
/-- 1A:000n/11 (R173). -/
def report_EVAL_US (i : Nat) : Ref := mref 0x1A i 11
/-- 1A:000n/12 (R173). -/
def report_MIGRATIONS (i : Nat) : Ref := mref 0x1A i 12
/-- 1A:01hh/1 (R174). -/
def headRep_CLASS (i : Nat) : Ref := mref 0x1A (0x100 + i) 1
/-- 1A:01hh/2 (R174). -/
def headRep_MULTIPLE (i : Nat) : Ref := mref 0x1A (0x100 + i) 2
/-- 1A:01hh/3 (R174). -/
def headRep_OFFSET_SLOTS (i : Nat) : Ref := mref 0x1A (0x100 + i) 3
/-- 1A:01hh/4 (R174). -/
def headRep_OFFSET_NS (i : Nat) : Ref := mref 0x1A (0x100 + i) 4
/-- 1A:01hh/5 (R174). -/
def headRep_PIPES (i : Nat) : Ref := mref 0x1A (0x100 + i) 5
/-- 1A:01hh/6 (R174). -/
def headRep_LANE_PERMILLE (i : Nat) : Ref := mref 0x1A (0x100 + i) 6
/-- 1A:01hh/7 (R174). -/
def headRep_MODE (i : Nat) : Ref := mref 0x1A (0x100 + i) 7
/-- 1A:01hh/8 (R174). -/
def headRep_UNDERRUNS (i : Nat) : Ref := mref 0x1A (0x100 + i) 8
/-- 1A:02pp/1 (R174). -/
def pipeRep_HEAD (i : Nat) : Ref := mref 0x1A (0x200 + i) 1
/-- 1A:02pp/2 (R174). -/
def pipeRep_TIME_PERMILLE (i : Nat) : Ref := mref 0x1A (0x200 + i) 2
/-- 1A:02pp/3 (R174). -/
def pipeRep_SRAM_BYTES (i : Nat) : Ref := mref 0x1A (0x200 + i) 3
/-- 1A:02pp/4 (R174). -/
def pipeRep_SLOTS (i : Nat) : Ref := mref 0x1A (0x200 + i) 4
/-- 1A:02pp/5 (R174). -/
def pipeRep_FAULTED (i : Nat) : Ref := mref 0x1A (0x200 + i) 5
/-- 1A:030d/1 (R174). -/
def chanRep_SCAN_PEAK (i : Nat) : Ref := mref 0x1A (0x300 + i) 1
/-- 1A:030d/2 (R174). -/
def chanRep_VIDEO_IN (i : Nat) : Ref := mref 0x1A (0x300 + i) 2
/-- 1A:030d/3 (R174). -/
def chanRep_SCAN_CAPACITY (i : Nat) : Ref := mref 0x1A (0x300 + i) 3
/-- 1A:030d/4 (R174). -/
def chanRep_RETIRED (i : Nat) : Ref := mref 0x1A (0x300 + i) 4
/-- 1A:04ee/1 (R174). -/
def engRep_MODE (i : Nat) : Ref := mref 0x1A (0x400 + i) 1
/-- 1A:04ee/2–5 (R174). -/
def engRep_PROGRAM_T (i k : Nat) : Ref := mref 0x1A (0x400 + i) (2 + k)
/-- 1A:04ee/6 (R174). -/
def engRep_SCRATCH_USED (i : Nat) : Ref := mref 0x1A (0x400 + i) 6
/-- 1A:0500/1 (R174). -/
def migRep_MIG_SURFACE : Ref := mref 0x1A 0x500 1
/-- 1A:0500/2 (R174). -/
def migRep_MIG_DEST : Ref := mref 0x1A 0x500 2
/-- 1A:0500/3 (R174). -/
def migRep_MIG_COPIED : Ref := mref 0x1A 0x500 3
/-- 1A:0500/4 (R174). -/
def migRep_MIG_QUEUED : Ref := mref 0x1A 0x500 4
/-- 1A:0500/5 (R174). -/
def migRep_MIGRATIONS_DONE : Ref := mref 0x1A 0x500 5
/-- 1A:0500/6 (R174). -/
def migRep_MIGRATIONS_ABORTED : Ref := mref 0x1A 0x500 6
/-- 1A:0600/1 (R174). -/
def stepRep_STEPS : Ref := mref 0x1A 0x600 1
/-- 1A:0600/2 (R174). -/
def stepRep_RHO_PERMILLE : Ref := mref 0x1A 0x600 2
/-- 1A:0600/3 (R174). -/
def stepRep_ACTIONS : Ref := mref 0x1A 0x600 3
/-- 16:nnnn/3 (R181). -/
def pal_BANK (i : Nat) : Ref := mref 0x16 i 3
/-- 16:nnnn/4 (R181). -/
def pal_ENTRIES (i : Nat) : Ref := mref 0x16 i 4
/-- 14:nnnn/3 (R189). -/
def tmap_TILE_SIZE (i : Nat) : Ref := mref 0x14 i 3
/-- 14:nnnn/4 (R189). -/
def tmap_MAP (i : Nat) : Ref := mref 0x14 i 4
/-- 14:nnnn/5 (R189). -/
def tmap_TILES_0 (i : Nat) : Ref := mref 0x14 i 5
/-- 14:nnnn/6 (R189). -/
def tmap_TILES_1 (i : Nat) : Ref := mref 0x14 i 6
/-- 14:nnnn/7 (R189). -/
def tmap_SCROLL_TABLE (i : Nat) : Ref := mref 0x14 i 7
/-- 14:nnnn/8 (R189). -/
def tmap_ZERO_TRANSPARENT (i : Nat) : Ref := mref 0x14 i 8
/-- 14:nnnn/9–24 (R189). -/
def tmap_PALETTE (i k : Nat) : Ref := mref 0x14 i (9 + k)
/-- 15:nnnn/3 (R198). -/
def sset_DESCRIPTORS (i : Nat) : Ref := mref 0x15 i 3
/-- 15:nnnn/4 (R198). -/
def sset_DATA (i : Nat) : Ref := mref 0x15 i 4
/-- 15:nnnn/5–20 (R198). -/
def sset_PALETTE (i k : Nat) : Ref := mref 0x15 i (5 + k)
/-- 15:nnnn/21 (R198). -/
def sset_OVERFLOW_LINES (i : Nat) : Ref := mref 0x15 i 21
/-- 15:nnnn/22 (R198). -/
def sset_LAST_OVERFLOW_LINE (i : Nat) : Ref := mref 0x15 i 22
/-- 15:nnnn/23 (R198). -/
def sset_BAD_DESCRIPTORS (i : Nat) : Ref := mref 0x15 i 23
/-- 10:00hh/48 (R240). -/
def head_INPUT_MATRIX (i : Nat) : Ref := mref 0x10 i 48
/-- 10:00hh/49 (R240). -/
def head_OUTPUT_MATRIX (i : Nat) : Ref := mref 0x10 i 49
/-- 10:00hh/50 (R240). -/
def head_GAMMA_ENABLE (i : Nat) : Ref := mref 0x10 i 50
/-- 10:00hh/51 (R240). -/
def head_GAMMA_R (i : Nat) : Ref := mref 0x10 i 51
/-- 10:00hh/52 (R240). -/
def head_GAMMA_G (i : Nat) : Ref := mref 0x10 i 52
/-- 10:00hh/53 (R240). -/
def head_GAMMA_B (i : Nat) : Ref := mref 0x10 i 53
/-- 10:00hh/54 (R240). -/
def head_SCALER_CUSTOM (i : Nat) : Ref := mref 0x10 i 54
/-- 10:00hh/55 (R240). -/
def head_HCOEF (i : Nat) : Ref := mref 0x10 i 55
/-- 10:00hh/56 (R240). -/
def head_VCOEF (i : Nat) : Ref := mref 0x10 i 56
/-- 10:00hh/1 (R246). -/
def head_STATE (i : Nat) : Ref := mref 0x10 i 1
/-- 10:00hh/2 (R246). -/
def head_FRAME_COUNT (i : Nat) : Ref := mref 0x10 i 2
/-- 10:00hh/3 (R246). -/
def head_ENABLE (i : Nat) : Ref := mref 0x10 i 3
/-- 10:00hh/4 (R246). -/
def head_SAFETY (i : Nat) : Ref := mref 0x10 i 4
/-- 10:00hh/5 (R246). -/
def head_LANE (i : Nat) : Ref := mref 0x10 i 5
/-- 10:00hh/6 (R246). -/
def head_LANES (i : Nat) : Ref := mref 0x10 i 6
/-- 10:00hh/7 (R246). -/
def head_LINK_BPP (i : Nat) : Ref := mref 0x10 i 7
/-- 10:00hh/8 (R246). -/
def head_PIXEL_CLOCK (i : Nat) : Ref := mref 0x10 i 8
/-- 10:00hh/9 (R246). -/
def head_H_ACTIVE (i : Nat) : Ref := mref 0x10 i 9
/-- 10:00hh/10 (R246). -/
def head_H_FRONT (i : Nat) : Ref := mref 0x10 i 10
/-- 10:00hh/11 (R246). -/
def head_H_SYNC (i : Nat) : Ref := mref 0x10 i 11
/-- 10:00hh/12 (R246). -/
def head_H_BACK (i : Nat) : Ref := mref 0x10 i 12
/-- 10:00hh/13 (R246). -/
def head_V_ACTIVE (i : Nat) : Ref := mref 0x10 i 13
/-- 10:00hh/14 (R246). -/
def head_V_FRONT (i : Nat) : Ref := mref 0x10 i 14
/-- 10:00hh/15 (R246). -/
def head_V_SYNC (i : Nat) : Ref := mref 0x10 i 15
/-- 10:00hh/16 (R246). -/
def head_V_BACK (i : Nat) : Ref := mref 0x10 i 16
/-- 10:00hh/17 (R246). -/
def head_UNDERRUN_POLICY (i : Nat) : Ref := mref 0x10 i 17
/-- 10:00hh/18 (R246). -/
def head_UNDERRUN_COLOUR (i : Nat) : Ref := mref 0x10 i 18
/-- 10:00hh/19–22 (R246). -/
def head_LINE_MATCH (i k : Nat) : Ref := mref 0x10 i (19 + k)
/-- 10:00hh/23 (R246). -/
def head_PHASE_ERROR (i : Nat) : Ref := mref 0x10 i 23
/-- 10:00hh/24 (R246). -/
def head_LAST_BOUNDARY (i : Nat) : Ref := mref 0x10 i 24
/-- 10:00hh/25 (R246). -/
def head_UNDERRUN_LINES (i : Nat) : Ref := mref 0x10 i 25
/-- 10:00hh/26 (R246). -/
def head_LAST_UNDERRUN_LINE (i : Nat) : Ref := mref 0x10 i 26
/-- 10:00hh/27 (R246). -/
def head_LOCKED_WRITES (i : Nat) : Ref := mref 0x10 i 27
/-- 10:00hh/28 (R246). -/
def head_RELOCK_HELD (i : Nat) : Ref := mref 0x10 i 28
/-- 20:0100/1 (R271). -/
def hearth_PACKAGE_STATE : Ref := mref 0x20 0x100 1
/-- 20:0100/2 (R271). -/
def hearth_PACKAGE_VERSION : Ref := mref 0x20 0x100 2
/-- 20:0100/3 (R271). -/
def hearth_SYMBOLS : Ref := mref 0x20 0x100 3
/-- 20:0100/4 (R271). -/
def hearth_LOCK : Ref := mref 0x20 0x100 4
/-- 20:0100/5 (R271). -/
def hearth_BLINK0_PERIOD : Ref := mref 0x20 0x100 5
/-- 20:0100/6 (R271). -/
def hearth_BLINK0_ON : Ref := mref 0x20 0x100 6
/-- 20:0100/7 (R271). -/
def hearth_BLINK1_PERIOD : Ref := mref 0x20 0x100 7
/-- 20:0100/8 (R271). -/
def hearth_BLINK1_ON : Ref := mref 0x20 0x100 8
/-- 20:0100/9 (R271). -/
def hearth_FAULT_PINS : Ref := mref 0x20 0x100 9
/-- 20:0100/10 (R271). -/
def hearth_FAULT_CLEAR : Ref := mref 0x20 0x100 10
/-- 20:0100/11 (R271). -/
def hearth_STORE_CORRECTED : Ref := mref 0x20 0x100 11
/-- 20:0100/12 (R271). -/
def hearth_LAST_FAULT_TIME : Ref := mref 0x20 0x100 12
/-- 20:00hh/1 (R272). -/
def hhead_REACTION (i : Nat) : Ref := mref 0x20 i 1
/-- 20:00hh/2 (R272). -/
def hhead_FAULTS (i : Nat) : Ref := mref 0x20 i 2
/-- 20:00hh/3 (R272). -/
def hhead_MISMATCHES (i : Nat) : Ref := mref 0x20 i 3
/-- 20:00hh/4 (R272). -/
def hhead_MISSING_RUN (i : Nat) : Ref := mref 0x20 i 4
/-- 20:00hh/5 (R272). -/
def hhead_LAST_FAULT_FRAME (i : Nat) : Ref := mref 0x20 i 5
/-- 20:00hh/6 (R272). -/
def hhead_SIGNED_REGIONS (i : Nat) : Ref := mref 0x20 i 6
/-- 20:00hh/7 (R272). -/
def hhead_HO_CAUSE (i : Nat) : Ref := mref 0x20 i 7
/-- 20:00hh/8 (R272). -/
def hhead_HO_REQUEST (i : Nat) : Ref := mref 0x20 i 8
/-- 20:00hh/9 (R272). -/
def hhead_HO_BACKGROUND (i : Nat) : Ref := mref 0x20 i 9
/-- 20:00hh/10 (R272). -/
def hhead_PLATES (i : Nat) : Ref := mref 0x20 i 10
/-- 20:1xxx/1 (R273). -/
def slot_ENABLE (i : Nat) : Ref := mref 0x20 (0x1000 + i) 1
/-- 20:1xxx/2 (R273). -/
def slot_SYMBOL (i : Nat) : Ref := mref 0x20 (0x1000 + i) 2
/-- 20:1xxx/3 (R273). -/
def slot_X (i : Nat) : Ref := mref 0x20 (0x1000 + i) 3
/-- 20:1xxx/4 (R273). -/
def slot_Y (i : Nat) : Ref := mref 0x20 (0x1000 + i) 4
/-- 20:1xxx/5 (R273). -/
def slot_SIGNAL (i : Nat) : Ref := mref 0x20 (0x1000 + i) 5
/-- 20:1xxx/6 (R273). -/
def slot_SIGNAL_2 (i : Nat) : Ref := mref 0x20 (0x1000 + i) 6
/-- 20:1xxx/7 (R273). -/
def slot_COMBINE (i : Nat) : Ref := mref 0x20 (0x1000 + i) 7
/-- 20:1xxx/8 (R273). -/
def slot_BLINK_GEN (i : Nat) : Ref := mref 0x20 (0x1000 + i) 8
/-- 20:1xxx/9 (R273). -/
def slot_COLOUR (i : Nat) : Ref := mref 0x20 (0x1000 + i) 9
/-- 20:1xxx/10 (R273). -/
def slot_SIGNED (i : Nat) : Ref := mref 0x20 (0x1000 + i) 10
/-- 20:1xxx/11 (R273). -/
def slot_SHOWN (i : Nat) : Ref := mref 0x20 (0x1000 + i) 11
/-- 21:00nn/1 (R280). -/
def sig_SOURCE (i : Nat) : Ref := mref 0x21 i 1
/-- 21:00nn/2 (R280). -/
def sig_UNIT (i : Nat) : Ref := mref 0x21 i 2
/-- 21:00nn/3 (R280). -/
def sig_IDENT (i : Nat) : Ref := mref 0x21 i 3
/-- 21:00nn/4 (R280). -/
def sig_VALUE_POS (i : Nat) : Ref := mref 0x21 i 4
/-- 21:00nn/5 (R280). -/
def sig_VALUE_WIDTH (i : Nat) : Ref := mref 0x21 i 5
/-- 21:00nn/6 (R280). -/
def sig_DECODE (i : Nat) : Ref := mref 0x21 i 6
/-- 21:00nn/7 (R280). -/
def sig_COUNTER_POS (i : Nat) : Ref := mref 0x21 i 7
/-- 21:00nn/8 (R280). -/
def sig_COUNTER_WIDTH (i : Nat) : Ref := mref 0x21 i 8
/-- 21:00nn/9 (R280). -/
def sig_MAX_DELTA (i : Nat) : Ref := mref 0x21 i 9
/-- 21:00nn/10 (R280). -/
def sig_CRC_POS (i : Nat) : Ref := mref 0x21 i 10
/-- 21:00nn/11 (R280). -/
def sig_CRC_WIDTH (i : Nat) : Ref := mref 0x21 i 11
/-- 21:00nn/12 (R280). -/
def sig_CRC_POLY (i : Nat) : Ref := mref 0x21 i 12
/-- 21:00nn/13 (R280). -/
def sig_CRC_INIT (i : Nat) : Ref := mref 0x21 i 13
/-- 21:00nn/14 (R280). -/
def sig_CRC_XOROUT (i : Nat) : Ref := mref 0x21 i 14
/-- 21:00nn/15 (R280). -/
def sig_DATA_ID (i : Nat) : Ref := mref 0x21 i 15
/-- 21:00nn/16 (R280). -/
def sig_CRC_LEN (i : Nat) : Ref := mref 0x21 i 16
/-- 21:00nn/17 (R280). -/
def sig_TIMEOUT (i : Nat) : Ref := mref 0x21 i 17
/-- 21:00nn/18 (R280). -/
def sig_LOSS_STATE (i : Nat) : Ref := mref 0x21 i 18
/-- 21:00nn/19 (R280). -/
def sig_STATE (i : Nat) : Ref := mref 0x21 i 19
/-- 21:00nn/20 (R280). -/
def sig_IN_LOSS (i : Nat) : Ref := mref 0x21 i 20
/-- 21:00nn/21 (R280). -/
def sig_E2E_FAILS (i : Nat) : Ref := mref 0x21 i 21
/-- 21:00nn/22 (R280). -/
def sig_TIMEOUTS (i : Nat) : Ref := mref 0x21 i 22
/-- 17:nnnn/3 (R331). -/
def prog_HEAD (i : Nat) : Ref := mref 0x17 i 3
/-- 17:nnnn/4 (R331). -/
def prog_ENABLE (i : Nat) : Ref := mref 0x17 i 4
/-- 17:nnnn/5 (R331). -/
def prog_IMAGE (i : Nat) : Ref := mref 0x17 i 5
/-- 17:nnnn/6 (R331). -/
def prog_LOAD (i : Nat) : Ref := mref 0x17 i 6
/-- 17:nnnn/7 (R331). -/
def prog_LOADED (i : Nat) : Ref := mref 0x17 i 7
/-- 17:nnnn/8 (R331). -/
def prog_KIND (i : Nat) : Ref := mref 0x17 i 8
/-- 17:nnnn/9 (R331). -/
def prog_ENTRY (i : Nat) : Ref := mref 0x17 i 9
/-- 17:nnnn/10 (R331). -/
def prog_FOOTPRINT (i : Nat) : Ref := mref 0x17 i 10
/-- 17:nnnn/11 (R331). -/
def prog_BANK_BYTES (i : Nat) : Ref := mref 0x17 i 11
/-- 17:nnnn/12 (R331). -/
def prog_S_LINE (i : Nat) : Ref := mref 0x17 i 12
/-- 17:nnnn/13 (R331). -/
def prog_S_FRAME (i : Nat) : Ref := mref 0x17 i 13
/-- 17:nnnn/14 (R331). -/
def prog_RATE (i : Nat) : Ref := mref 0x17 i 14
/-- 17:nnnn/15–22 (R331). -/
def prog_TARGET (i k : Nat) : Ref := mref 0x17 i (15 + k)
/-- 17:nnnn/23 (R331). -/
def prog_ENGINE (i : Nat) : Ref := mref 0x17 i 23
/-- 17:nnnn/24 (R331). -/
def prog_THREAD (i : Nat) : Ref := mref 0x17 i 24
/-- 17:nnnn/25 (R331). -/
def prog_RUN_STATE (i : Nat) : Ref := mref 0x17 i 25
/-- 17:nnnn/26 (R331). -/
def prog_FAULT_CODE (i : Nat) : Ref := mref 0x17 i 26
/-- 17:nnnn/27 (R331). -/
def prog_FAULT_PC (i : Nat) : Ref := mref 0x17 i 27
/-- 17:nnnn/28 (R331). -/
def prog_FAULTS (i : Nat) : Ref := mref 0x17 i 28
/-- 17:nnnn/29 (R331). -/
def prog_LATE_WRITES (i : Nat) : Ref := mref 0x17 i 29
/-- 17:nnnn/30 (R331). -/
def prog_DROPPED_WRITES (i : Nat) : Ref := mref 0x17 i 30
/-- 17:nnnn/31 (R331). -/
def prog_REJECTED_STORES (i : Nat) : Ref := mref 0x17 i 31
/-- 17:nnnn/32 (R331). -/
def prog_FRAME_OVERRUNS (i : Nat) : Ref := mref 0x17 i 32
/-- 30:00ll/1 (R426). -/
def lane_DIRECTION (i : Nat) : Ref := mref 0x30 i 1
/-- 30:00ll/2 (R426). -/
def lane_MEDIA (i : Nat) : Ref := mref 0x30 i 2
/-- 30:00ll/3 (R426). -/
def lane_STATE (i : Nat) : Ref := mref 0x30 i 3
/-- 30:00ll/4 (R426). -/
def lane_TRAIN_RESULT (i : Nat) : Ref := mref 0x30 i 4
/-- 30:00ll/5 (R426). -/
def lane_PRESET (i : Nat) : Ref := mref 0x30 i 5
/-- 30:00ll/6 (R426). -/
def lane_PEER_CAPS (i : Nat) : Ref := mref 0x30 i 6
/-- 30:00ll/7 (R426). -/
def lane_POC_ENABLE (i : Nat) : Ref := mref 0x30 i 7
/-- 30:00ll/8 (R426). -/
def lane_POC_STATE (i : Nat) : Ref := mref 0x30 i 8
/-- 30:00ll/9 (R426). -/
def lane_POC_MA (i : Nat) : Ref := mref 0x30 i 9
/-- 30:00ll/10 (R426). -/
def lane_BLOCK_ERRORS (i : Nat) : Ref := mref 0x30 i 10
/-- 30:00ll/11 (R426). -/
def lane_LINE_ERROR_LINES (i : Nat) : Ref := mref 0x30 i 11
/-- 30:00ll/12 (R426). -/
def lane_CTRL_RETRANSMITS (i : Nat) : Ref := mref 0x30 i 12
/-- 30:00ll/13 (R426). -/
def lane_BC_ERRORS (i : Nat) : Ref := mref 0x30 i 13
/-- 30:00ll/14 (R426). -/
def lane_RETRAINS (i : Nat) : Ref := mref 0x30 i 14
/-- 30:00ll/15 (R426). -/
def lane_TRAIN_FAILS (i : Nat) : Ref := mref 0x30 i 15
/-- 30:00ll/16 (R426). -/
def lane_QUEUE_OVERFLOWS (i : Nat) : Ref := mref 0x30 i 16
/-- 30:00ll/17 (R426). -/
def lane_POC_FAULTS (i : Nat) : Ref := mref 0x30 i 17
/-- 30:00ll/18 (R426). -/
def lane_SKEW_BLOCKS (i : Nat) : Ref := mref 0x30 i 18
/-- 38:00ii/1 (R427). -/
def vin_LANE (i : Nat) : Ref := mref 0x38 i 1
/-- 38:00ii/2 (R427). -/
def vin_SURFACE (i : Nat) : Ref := mref 0x38 i 2
/-- 38:00ii/3 (R427). -/
def vin_BUFFER_MODE (i : Nat) : Ref := mref 0x38 i 3
/-- 38:00ii/4 (R427). -/
def vin_STREAM_STATE (i : Nat) : Ref := mref 0x38 i 4
/-- 38:00ii/5 (R427). -/
def vin_FORMAT (i : Nat) : Ref := mref 0x38 i 5
/-- 38:00ii/6 (R427). -/
def vin_WIDTH (i : Nat) : Ref := mref 0x38 i 6
/-- 38:00ii/7 (R427). -/
def vin_HEIGHT (i : Nat) : Ref := mref 0x38 i 7
/-- 38:00ii/8 (R427). -/
def vin_RATE (i : Nat) : Ref := mref 0x38 i 8
/-- 38:00ii/9 (R427). -/
def vin_FRAMES_COMPLETED (i : Nat) : Ref := mref 0x38 i 9
/-- 38:00ii/10 (R427). -/
def vin_FRAMES_DROPPED (i : Nat) : Ref := mref 0x38 i 10
/-- 38:00ii/11 (R427). -/
def vin_LINES_DAMAGED (i : Nat) : Ref := mref 0x38 i 11
/-- 38:00ii/12 (R427). -/
def vin_WRITING (i : Nat) : Ref := mref 0x38 i 12
/-- 38:00ii/13 (R427). -/
def vin_LAST_COMPLETE (i : Nat) : Ref := mref 0x38 i 13
/-- 38:00ii/14 (R427). -/
def vin_LAST_START_TIME (i : Nat) : Ref := mref 0x38 i 14
/-- 28:00hh/1 (R456). -/
def panel_IDENTITY_STATE (i : Nat) : Ref := mref 0x28 i 1
/-- 28:00hh/2 (R456). -/
def panel_FAIL_REASON (i : Nat) : Ref := mref 0x28 i 2
/-- 28:00hh/3 (R456). -/
def panel_PANEL_ID (i : Nat) : Ref := mref 0x28 i 3
/-- 28:00hh/4 (R456). -/
def panel_NEW_PANEL (i : Nat) : Ref := mref 0x28 i 4
/-- 28:00hh/5 (R456). -/
def panel_ACK_NEW (i : Nat) : Ref := mref 0x28 i 5
/-- 28:00hh/6 (R456). -/
def panel_AUTH_POLICY (i : Nat) : Ref := mref 0x28 i 6
/-- 28:00hh/7 (R456). -/
def panel_WEAR_STATE (i : Nat) : Ref := mref 0x28 i 7
/-- 28:00hh/8 (R456). -/
def panel_DOSE_REBUILT (i : Nat) : Ref := mref 0x28 i 8
/-- 28:00hh/9 (R456). -/
def panel_COMP_ENABLE (i : Nat) : Ref := mref 0x28 i 9
/-- 28:00hh/10 (R456). -/
def panel_COMP_FLOOR (i : Nat) : Ref := mref 0x28 i 10
/-- 28:00hh/11 (R456). -/
def panel_DITHER (i : Nat) : Ref := mref 0x28 i 11
/-- 28:00hh/12 (R456). -/
def panel_ORBIT_ENABLE (i : Nat) : Ref := mref 0x28 i 12
/-- 28:00hh/13 (R456). -/
def panel_ORBIT_X (i : Nat) : Ref := mref 0x28 i 13
/-- 28:00hh/14 (R456). -/
def panel_ORBIT_Y (i : Nat) : Ref := mref 0x28 i 14
/-- 28:00hh/15 (R456). -/
def panel_ORBIT_FILL (i : Nat) : Ref := mref 0x28 i 15
/-- 28:00hh/16 (R456). -/
def panel_WEAR_THRESHOLD (i : Nat) : Ref := mref 0x28 i 16
/-- 28:00hh/17 (R456). -/
def panel_WORST_LOSS (i : Nat) : Ref := mref 0x28 i 17
/-- 28:00hh/18 (R456). -/
def panel_WORST_CELL (i : Nat) : Ref := mref 0x28 i 18
/-- 28:00hh/19 (R456). -/
def panel_OPERATING_S (i : Nat) : Ref := mref 0x28 i 19
/-- 28:00hh/20 (R456). -/
def panel_LAST_PANEL_WRITE (i : Nat) : Ref := mref 0x28 i 20
/-- 28:00hh/21 (R456). -/
def panel_LAST_SUMMARY_WRITE (i : Nat) : Ref := mref 0x28 i 21
/-- 28:00hh/22 (R456). -/
def panel_WRITE_FAILS (i : Nat) : Ref := mref 0x28 i 22
/-- 28:00hh/23 (R456). -/
def panel_DOSE_GAP_MS (i : Nat) : Ref := mref 0x28 i 23
/-- 29:00hh/1 (R457). -/
def dose_GEN (i : Nat) : Ref := mref 0x29 i 1
/-- 29:00hh/2 (R457). -/
def dose_GRID (i : Nat) : Ref := mref 0x29 i 2
/-- 29:00hh/3 (R457). -/
def dose_ROW_READ (i : Nat) : Ref := mref 0x29 i 3
/-- 29:00hh/4 (R457). -/
def dose_GAIN_READ (i : Nat) : Ref := mref 0x29 i 4
/-- 68:0100/1 (R491). -/
def mem_SCRUB_BLOCKS : Ref := mref 0x68 0x100 1
/-- 68:0100/2 (R491). -/
def mem_SCRUB_PASSES : Ref := mref 0x68 0x100 2
/-- 68:0100/3 (R491). -/
def mem_LAST_PASS_TIME : Ref := mref 0x68 0x100 3
/-- 68:0100/4 (R491). -/
def mem_RESERVE_PERMILLE : Ref := mref 0x68 0x100 4
/-- 68:0100/5 (R491). -/
def mem_SEGMENT_MAP : Ref := mref 0x68 0x100 5
/-- 68:0100/6 (R491). -/
def mem_RESERVED_SEGMENT : Ref := mref 0x68 0x100 6
/-- 68:0100/7 (R491). -/
def mem_RETIRE_LIMIT : Ref := mref 0x68 0x100 7
/-- 68:0100/8 (R491). -/
def mem_SRAM_CORRECTED : Ref := mref 0x68 0x100 8
/-- 68:0100/9 (R491). -/
def mem_SRAM_UNCORRECTABLE : Ref := mref 0x68 0x100 9
/-- 68:0100/10 (R491). -/
def mem_SRAM_COLLISIONS : Ref := mref 0x68 0x100 10
/-- 68:0100/11 (R491). -/
def mem_UNMAPPED_ACCESSES : Ref := mref 0x68 0x100 11
/-- 68:0100/12 (R491). -/
def mem_INIT_TIME : Ref := mref 0x68 0x100 12
/-- 68:0100/13 (R491). -/
def mem_REPAIRED_COLUMNS : Ref := mref 0x68 0x100 13
/-- 68:0100/14 (R491). -/
def mem_LOG_NEXT : Ref := mref 0x68 0x100 14
/-- 68:000d/1 (R492). -/
def chan_STATE (i : Nat) : Ref := mref 0x68 i 1
/-- 68:000d/2 (R492). -/
def chan_RETIRE_CAUSE (i : Nat) : Ref := mref 0x68 i 2
/-- 68:000d/3 (R492). -/
def chan_TRAINING (i : Nat) : Ref := mref 0x68 i 3
/-- 68:000d/4 (R492). -/
def chan_CORRECTED (i : Nat) : Ref := mref 0x68 i 4
/-- 68:000d/5 (R492). -/
def chan_UNCORRECTABLE (i : Nat) : Ref := mref 0x68 i 5
/-- 68:000d/6 (R492). -/
def chan_UE_PASS (i : Nat) : Ref := mref 0x68 i 6
/-- 68:000d/7 (R492). -/
def chan_RMW_FAILS (i : Nat) : Ref := mref 0x68 i 7
/-- 68:000d/8 (R492). -/
def chan_RETIRE (i : Nat) : Ref := mref 0x68 i 8
/-- 68:000d/9 (R492). -/
def chan_UNRETIRE (i : Nat) : Ref := mref 0x68 i 9
/-- 68:02nn/1 (R493). -/
def errLog_TIME (i : Nat) : Ref := mref 0x68 (0x200 + i) 1
/-- 68:02nn/2 (R493). -/
def errLog_ADDRESS (i : Nat) : Ref := mref 0x68 (0x200 + i) 2
/-- 68:02nn/3 (R493). -/
def errLog_WHERE (i : Nat) : Ref := mref 0x68 (0x200 + i) 3
/-- 68:02nn/4 (R493). -/
def errLog_MASTER (i : Nat) : Ref := mref 0x68 (0x200 + i) 4
/-- 68:02nn/5 (R493). -/
def errLog_KIND (i : Nat) : Ref := mref 0x68 (0x200 + i) 5
/-- 60:00nn/1 (R513). -/
def dma_OWNER (i : Nat) : Ref := mref 0x60 i 1
/-- 60:00nn/2 (R513). -/
def dma_ALIGN (i : Nat) : Ref := mref 0x60 i 2
/-- 60:00nn/3 (R513). -/
def dma_POST (i : Nat) : Ref := mref 0x60 i 3
/-- 60:00nn/4 (R513). -/
def dma_ABORT (i : Nat) : Ref := mref 0x60 i 4
/-- 60:00nn/5 (R513). -/
def dma_STATE (i : Nat) : Ref := mref 0x60 i 5
/-- 60:00nn/6 (R513). -/
def dma_QUEUED (i : Nat) : Ref := mref 0x60 i 6
/-- 60:00nn/7 (R513). -/
def dma_LAST_SEQ (i : Nat) : Ref := mref 0x60 i 7
/-- 60:00nn/8 (R513). -/
def dma_LAST_STATUS (i : Nat) : Ref := mref 0x60 i 8
/-- 60:00nn/9 (R513). -/
def dma_LAST_DETAIL (i : Nat) : Ref := mref 0x60 i 9
/-- 60:00nn/10 (R513). -/
def dma_LAST_BYTES (i : Nat) : Ref := mref 0x60 i 10
/-- 60:00nn/11 (R513). -/
def dma_LISTS_DONE (i : Nat) : Ref := mref 0x60 i 11
/-- 60:00nn/12 (R513). -/
def dma_LISTS_FAILED (i : Nat) : Ref := mref 0x60 i 12
/-- 60:00nn/13 (R513). -/
def dma_FOREIGN_POSTS (i : Nat) : Ref := mref 0x60 i 13
/-- 61:000r/1 (R525). -/
def ring_OWNER (i : Nat) : Ref := mref 0x61 i 1
/-- 61:000r/2 (R525). -/
def ring_RING_ADDRESS (i : Nat) : Ref := mref 0x61 i 2
/-- 61:000r/3 (R525). -/
def ring_RING_SIZE (i : Nat) : Ref := mref 0x61 i 3
/-- 61:000r/4 (R525). -/
def ring_ENABLE (i : Nat) : Ref := mref 0x61 i 4
/-- 61:000r/5 (R525). -/
def ring_KICK (i : Nat) : Ref := mref 0x61 i 5
/-- 61:000r/6 (R525). -/
def ring_CONSUME (i : Nat) : Ref := mref 0x61 i 6
/-- 61:000r/7 (R525). -/
def ring_KICK_SOURCE (i : Nat) : Ref := mref 0x61 i 7
/-- 61:000r/8 (R525). -/
def ring_COMMANDS_DONE (i : Nat) : Ref := mref 0x61 i 8
/-- 61:000r/9 (R525). -/
def ring_COMMANDS_FAILED (i : Nat) : Ref := mref 0x61 i 9
/-- 61:000r/10 (R525). -/
def ring_FOREIGN_KICKS (i : Nat) : Ref := mref 0x61 i 10
/-- 61:0100/1 (R526). -/
def blit_RATE_STATE : Ref := mref 0x61 0x100 1
/-- 61:0100/2 (R526). -/
def blit_RINGS_ACTIVE : Ref := mref 0x61 0x100 2
/-- 61:0100/3 (R526). -/
def blit_CAPPED_MS : Ref := mref 0x61 0x100 3
/-- 40:00vv/1 (R531). -/
def voice_STATE (i : Nat) : Ref := mref 0x40 i 1
/-- 40:00vv/2 (R531). -/
def voice_GEN (i : Nat) : Ref := mref 0x40 i 2
/-- 40:00vv/3 (R531). -/
def voice_TABLE (i : Nat) : Ref := mref 0x40 i 3
/-- 40:00vv/4 (R531). -/
def voice_FREQ (i : Nat) : Ref := mref 0x40 i 4
/-- 40:00vv/5 (R531). -/
def voice_DUTY (i : Nat) : Ref := mref 0x40 i 5
/-- 40:00vv/6 (R531). -/
def voice_LEVEL (i : Nat) : Ref := mref 0x40 i 6
/-- 40:00vv/7 (R531). -/
def voice_ATTACK_MS (i : Nat) : Ref := mref 0x40 i 7
/-- 40:00vv/8 (R531). -/
def voice_DECAY_MS (i : Nat) : Ref := mref 0x40 i 8
/-- 40:00vv/9 (R531). -/
def voice_SUSTAIN (i : Nat) : Ref := mref 0x40 i 9
/-- 40:00vv/10 (R531). -/
def voice_RELEASE_MS (i : Nat) : Ref := mref 0x40 i 10
/-- 40:00vv/11 (R531). -/
def voice_DURATION_MS (i : Nat) : Ref := mref 0x40 i 11
/-- 40:00vv/12 (R531). -/
def voice_SWEEP_END (i : Nat) : Ref := mref 0x40 i 12
/-- 40:00vv/13 (R531). -/
def voice_SWEEP_MS (i : Nat) : Ref := mref 0x40 i 13
/-- 40:00vv/14 (R531). -/
def voice_BUS (i : Nat) : Ref := mref 0x40 i 14
/-- 40:00vv/15 (R531). -/
def voice_TRIGGER (i : Nat) : Ref := mref 0x40 i 15
/-- 40:00vv/16 (R531). -/
def voice_TRIGGER_MODE (i : Nat) : Ref := mref 0x40 i 16
/-- 40:00vv/17 (R531). -/
def voice_BLINK_GEN (i : Nat) : Ref := mref 0x40 i 17
/-- 40:00vv/18 (R531). -/
def voice_KEY (i : Nat) : Ref := mref 0x40 i 18
/-- 40:00vv/19 (R531). -/
def voice_KEY_ONS (i : Nat) : Ref := mref 0x40 i 19
/-- 40:011s/1 (R539). -/
def seqr_CLOCK (i : Nat) : Ref := mref 0x40 (0x110 + i) 1
/-- 40:011s/2 (R539). -/
def seqr_STEPS (i : Nat) : Ref := mref 0x40 (0x110 + i) 2
/-- 40:011s/3 (R539). -/
def seqr_START (i : Nat) : Ref := mref 0x40 (0x110 + i) 3
/-- 40:011s/4 (R539). -/
def seqr_STOP (i : Nat) : Ref := mref 0x40 (0x110 + i) 4
/-- 40:011s/5 (R539). -/
def seqr_RUNNING (i : Nat) : Ref := mref 0x40 (0x110 + i) 5
/-- 41:00oo/1 (R543). -/
def xout_GAINS (i : Nat) : Ref := mref 0x41 i 1
/-- 41:00oo/2 (R543). -/
def xout_ZC_TIMEOUT_MS (i : Nat) : Ref := mref 0x41 i 2
/-- 41:00oo/3 (R543). -/
def xout_RAMP_MS (i : Nat) : Ref := mref 0x41 i 3
/-- 41:00oo/4 (R543). -/
def xout_LOW_LATENCY (i : Nat) : Ref := mref 0x41 i 4
/-- 41:00oo/5 (R543). -/
def xout_FILTER (i : Nat) : Ref := mref 0x41 i 5
/-- 41:00oo/6 (R543). -/
def xout_THRESHOLD (i : Nat) : Ref := mref 0x41 i 6
/-- 41:00oo/7 (R543). -/
def xout_RELEASE_MS (i : Nat) : Ref := mref 0x41 i 7
/-- 41:00oo/8 (R543). -/
def xout_LIMITING (i : Nat) : Ref := mref 0x41 i 8
/-- 41:00oo/9 (R543). -/
def xout_CLIPS (i : Nat) : Ref := mref 0x41 i 9
/-- 42:000p/1 (R548). -/
def tdm_ENABLE (i : Nat) : Ref := mref 0x42 i 1
/-- 42:000p/2 (R548). -/
def tdm_ROLE (i : Nat) : Ref := mref 0x42 i 2
/-- 42:000p/3 (R548). -/
def tdm_RATE (i : Nat) : Ref := mref 0x42 i 3
/-- 42:000p/4 (R548). -/
def tdm_SLOTS (i : Nat) : Ref := mref 0x42 i 4
/-- 42:000p/5 (R548). -/
def tdm_WIDTH (i : Nat) : Ref := mref 0x42 i 5
/-- 42:000p/6 (R548). -/
def tdm_DELAY (i : Nat) : Ref := mref 0x42 i 6
/-- 42:000p/7 (R548). -/
def tdm_FSYNC (i : Nat) : Ref := mref 0x42 i 7
/-- 42:000p/8 (R548). -/
def tdm_OUT_SLOTS (i : Nat) : Ref := mref 0x42 i 8
/-- 42:000p/9 (R548). -/
def tdm_SLIPS (i : Nat) : Ref := mref 0x42 i 9
/-- 42:00xn/1 (R551). -/
def avtp_ENABLE (i : Nat) : Ref := mref 0x42 (0x10 + i) 1
/-- 42:00xn/2 (R551). -/
def avtp_CHANNELS (i : Nat) : Ref := mref 0x42 (0x10 + i) 2
/-- 42:00xn/3 (R551). -/
def avtp_RATE (i : Nat) : Ref := mref 0x42 (0x10 + i) 3
/-- 42:00xn/4 (R551). -/
def avtp_FIRST_OUTPUT (i : Nat) : Ref := mref 0x42 (0x10 + i) 4
/-- 42:00xn/5 (R551). -/
def avtp_PRESENT_OFFSET_NS (i : Nat) : Ref := mref 0x42 (0x10 + i) 5
/-- 42:00xn/6 (R551). -/
def avtp_LATE_SAMPLES (i : Nat) : Ref := mref 0x42 (0x10 + i) 6
/-- 42:00xn/7 (R551). -/
def avtp_MISMATCHES (i : Nat) : Ref := mref 0x42 (0x10 + i) 7
/-- 40:0100/1 (R554). -/
def avas_ENABLE : Ref := mref 0x40 0x100 1
/-- 40:0100/2 (R554). -/
def avas_SPEED_ENTRY : Ref := mref 0x40 0x100 2
/-- 40:0100/3 (R554). -/
def avas_SPEED_POS : Ref := mref 0x40 0x100 3
/-- 40:0100/4 (R554). -/
def avas_SPEED_WIDTH : Ref := mref 0x40 0x100 4
/-- 40:0100/5 (R554). -/
def avas_SPEED_SCALE : Ref := mref 0x40 0x100 5
/-- 40:0100/6 (R554). -/
def avas_CUTOFF_KMH : Ref := mref 0x40 0x100 6
/-- 40:0100/7 (R554). -/
def avas_HYSTERESIS_KMH : Ref := mref 0x40 0x100 7
/-- 40:0100/8 (R554). -/
def avas_VOICES : Ref := mref 0x40 0x100 8
/-- 40:0100/9 (R554). -/
def avas_PITCH_PER_KMH : Ref := mref 0x40 0x100 9
/-- 40:0100/10 (R554). -/
def avas_LOSS_KMH : Ref := mref 0x40 0x100 10
/-- 40:0100/11 (R554). -/
def avas_SPEED_KMH : Ref := mref 0x40 0x100 11
/-- 40:0100/12 (R554). -/
def avas_SOUNDING : Ref := mref 0x40 0x100 12
/-- 48:01xx/1 (R567). -/
def strm_STREAM_ID (i : Nat) : Ref := mref 0x48 (0x100 + i) 1
/-- 48:01xx/2 (R567). -/
def strm_DEST_MAC (i : Nat) : Ref := mref 0x48 (0x100 + i) 2
/-- 48:01xx/3 (R567). -/
def strm_VLAN_ID (i : Nat) : Ref := mref 0x48 (0x100 + i) 3
/-- 48:01xx/4 (R567). -/
def strm_CLASS (i : Nat) : Ref := mref 0x48 (0x100 + i) 4
/-- 48:01xx/5 (R567). -/
def strm_UPLINK (i : Nat) : Ref := mref 0x48 (0x100 + i) 5
/-- 48:01xx/6 (R567). -/
def strm_PDUS (i : Nat) : Ref := mref 0x48 (0x100 + i) 6
/-- 48:01xx/7 (R567). -/
def strm_SEQ_GAPS (i : Nat) : Ref := mref 0x48 (0x100 + i) 7
/-- 48:000u/1 (R584). -/
def upl_MODE (i : Nat) : Ref := mref 0x48 i 1
/-- 48:000u/2 (R584). -/
def upl_LINK (i : Nat) : Ref := mref 0x48 i 2
/-- 48:000u/3 (R584). -/
def upl_SPEED (i : Nat) : Ref := mref 0x48 i 3
/-- 48:000u/4 (R584). -/
def upl_MTU (i : Nat) : Ref := mref 0x48 i 4
/-- 48:000u/5 (R584). -/
def upl_VLAN_ID (i : Nat) : Ref := mref 0x48 i 5
/-- 48:000u/6 (R584). -/
def upl_PCP (i : Nat) : Ref := mref 0x48 i 6
/-- 48:000u/7 (R584). -/
def upl_GPTP_ROLE (i : Nat) : Ref := mref 0x48 i 7
/-- 48:000u/8 (R584). -/
def upl_INGRESS_LATENCY_NS (i : Nat) : Ref := mref 0x48 i 8
/-- 48:000u/9 (R584). -/
def upl_EGRESS_LATENCY_NS (i : Nat) : Ref := mref 0x48 i 9
/-- 48:000u/10 (R584). -/
def upl_LINK_DELAY_NS (i : Nat) : Ref := mref 0x48 i 10
/-- 48:000u/11 (R584). -/
def upl_CLASS_A_PCP (i : Nat) : Ref := mref 0x48 i 11
/-- 48:000u/12 (R584). -/
def upl_CLASS_B_PCP (i : Nat) : Ref := mref 0x48 i 12
/-- 48:000u/13 (R584). -/
def upl_IDLE_SLOPE_A (i : Nat) : Ref := mref 0x48 i 13
/-- 48:000u/14 (R584). -/
def upl_IDLE_SLOPE_B (i : Nat) : Ref := mref 0x48 i 14
/-- 48:000u/15 (R584). -/
def upl_RX_FRAMES (i : Nat) : Ref := mref 0x48 i 15
/-- 48:000u/16 (R584). -/
def upl_TX_FRAMES (i : Nat) : Ref := mref 0x48 i 16
/-- 48:000u/17 (R584). -/
def upl_RX_ERRORS (i : Nat) : Ref := mref 0x48 i 17
/-- 48:000u/18 (R584). -/
def upl_RX_DROPPED (i : Nat) : Ref := mref 0x48 i 18
/-- 48:000u/19 (R584). -/
def upl_RX_OVERSIZE (i : Nat) : Ref := mref 0x48 i 19
/-- 48:000u/20 (R584). -/
def upl_LINK_DOWNS (i : Nat) : Ref := mref 0x48 i 20
/-- 48:000u/21 (R584). -/
def upl_TX_DISCARDS (i : Nat) : Ref := mref 0x48 i 21
/-- 48:0008/1 (R585). -/
def addr_REDUNDANCY : Ref := mref 0x48 0x8 1
/-- 48:0008/2 (R585). -/
def addr_ACTIVE : Ref := mref 0x48 0x8 2
/-- 48:0008/3 (R585). -/
def addr_FAILOVERS : Ref := mref 0x48 0x8 3
/-- 48:0008/4 (R585). -/
def addr_MAC_0 : Ref := mref 0x48 0x8 4
/-- 48:0008/5 (R585). -/
def addr_MAC_1 : Ref := mref 0x48 0x8 5
/-- 48:0008/6 (R585). -/
def addr_IPV6_ADDR : Ref := mref 0x48 0x8 6
/-- 48:0008/7 (R585). -/
def addr_IPV4_ADDR : Ref := mref 0x48 0x8 7
/-- 48:0008/8 (R585). -/
def addr_ADDR_STATE : Ref := mref 0x48 0x8 8
/-- 48:000s/1 (R586). -/
def t1s_ENABLE (i : Nat) : Ref := mref 0x48 (0x2 + i) 1
/-- 48:000s/2 (R586). -/
def t1s_PLCA_ENABLE (i : Nat) : Ref := mref 0x48 (0x2 + i) 2
/-- 48:000s/3 (R586). -/
def t1s_NODE_ID (i : Nat) : Ref := mref 0x48 (0x2 + i) 3
/-- 48:000s/4 (R586). -/
def t1s_NODE_COUNT (i : Nat) : Ref := mref 0x48 (0x2 + i) 4
/-- 48:000s/5 (R586). -/
def t1s_TO_TIMER (i : Nat) : Ref := mref 0x48 (0x2 + i) 5
/-- 48:000s/6 (R586). -/
def t1s_MCAST_FILTER (i : Nat) : Ref := mref 0x48 (0x2 + i) 6
/-- 48:000s/7 (R586). -/
def t1s_MAC (i : Nat) : Ref := mref 0x48 (0x2 + i) 7
/-- 48:000s/8 (R586). -/
def t1s_PLCA_STATUS (i : Nat) : Ref := mref 0x48 (0x2 + i) 8
/-- 48:000s/9 (R586). -/
def t1s_RX_FRAMES (i : Nat) : Ref := mref 0x48 (0x2 + i) 9
/-- 48:000s/10 (R586). -/
def t1s_RX_UNMATCHED (i : Nat) : Ref := mref 0x48 (0x2 + i) 10
/-- 48:000s/11 (R586). -/
def t1s_RX_ERRORS (i : Nat) : Ref := mref 0x48 (0x2 + i) 11
/-- 48:000s/12 (R586). -/
def t1s_BEACON_LOSSES (i : Nat) : Ref := mref 0x48 (0x2 + i) 12
/-- 48:000c/1 (R587). -/
def can_MODE (i : Nat) : Ref := mref 0x48 (0x4 + i) 1
/-- 48:000c/2 (R587). -/
def can_NOMINAL (i : Nat) : Ref := mref 0x48 (0x4 + i) 2
/-- 48:000c/3 (R587). -/
def can_DATA (i : Nat) : Ref := mref 0x48 (0x4 + i) 3
/-- 48:000c/4 (R587). -/
def can_AUTO_RECOVER (i : Nat) : Ref := mref 0x48 (0x4 + i) 4
/-- 48:000c/5 (R587). -/
def can_RESTART (i : Nat) : Ref := mref 0x48 (0x4 + i) 5
/-- 48:000c/6 (R587). -/
def can_STATE (i : Nat) : Ref := mref 0x48 (0x4 + i) 6
/-- 48:000c/7 (R587). -/
def can_TEC (i : Nat) : Ref := mref 0x48 (0x4 + i) 7
/-- 48:000c/8 (R587). -/
def can_REC (i : Nat) : Ref := mref 0x48 (0x4 + i) 8
/-- 48:000c/9 (R587). -/
def can_TDC_MEASURED (i : Nat) : Ref := mref 0x48 (0x4 + i) 9
/-- 48:000c/10 (R587). -/
def can_RX_FRAMES (i : Nat) : Ref := mref 0x48 (0x4 + i) 10
/-- 48:000c/11 (R587). -/
def can_TX_FRAMES (i : Nat) : Ref := mref 0x48 (0x4 + i) 11
/-- 48:000c/12 (R587). -/
def can_PROTOCOL_ERRORS (i : Nat) : Ref := mref 0x48 (0x4 + i) 12
/-- 48:000c/13 (R587). -/
def can_BUS_OFFS (i : Nat) : Ref := mref 0x48 (0x4 + i) 13
/-- 03:0000/1 (R599). -/
def time_TIME : Ref := mref 0x03 0x0 1
/-- 03:0000/2 (R599). -/
def time_TIME_VALID : Ref := mref 0x03 0x0 2
/-- 03:0000/3 (R599). -/
def time_SOURCE : Ref := mref 0x03 0x0 3
/-- 03:0000/4 (R599). -/
def time_STATE : Ref := mref 0x03 0x0 4
/-- 03:0000/5 (R599). -/
def time_OFFSET_NS : Ref := mref 0x03 0x0 5
/-- 03:0000/6 (R599). -/
def time_RATE_PPB : Ref := mref 0x03 0x0 6
/-- 03:0000/7 (R599). -/
def time_STEP_THRESHOLD_NS : Ref := mref 0x03 0x0 7
/-- 03:0000/8 (R599). -/
def time_PPS_IN_OFFSET_NS : Ref := mref 0x03 0x0 8
/-- 03:0000/9 (R599). -/
def time_PPS_OUT_ENABLE : Ref := mref 0x03 0x0 9
/-- 03:0000/10 (R599). -/
def time_PPS_OUT_OFFSET_NS : Ref := mref 0x03 0x0 10
/-- 03:0000/11 (R599). -/
def time_PPS_OUT_WIDTH_US : Ref := mref 0x03 0x0 11
/-- 03:0000/12 (R599). -/
def time_PPS_REJECTED : Ref := mref 0x03 0x0 12
/-- 03:0000/13 (R599). -/
def time_STEPS : Ref := mref 0x03 0x0 13
/-- 03:0000/14 (R599). -/
def time_SET_TIME : Ref := mref 0x03 0x0 14
/-- 03:0000/15 (R599). -/
def time_LOG_NEXT : Ref := mref 0x03 0x0 15
/-- 03:001n/1 (R600). -/
def stepLog_TIME (i : Nat) : Ref := mref 0x03 (0x10 + i) 1
/-- 03:001n/2 (R600). -/
def stepLog_STEP (i : Nat) : Ref := mref 0x03 (0x10 + i) 2
/-- 03:001n/3 (R600). -/
def stepLog_CAUSE (i : Nat) : Ref := mref 0x03 (0x10 + i) 3
/-- 03:002n/1 (R600). -/
def epoch_ENTRY (i : Nat) : Ref := mref 0x03 (0x20 + i) 1
/-- 03:002n/2 (R600). -/
def epoch_EXIT (i : Nat) : Ref := mref 0x03 (0x20 + i) 2
/-- 03:002n/3 (R600). -/
def epoch_RTC_TICKS (i : Nat) : Ref := mref 0x03 (0x20 + i) 3
/-- 03:002n/4 (R600). -/
def epoch_WAKE_STEP (i : Nat) : Ref := mref 0x03 (0x20 + i) 4
/-- 03:002n/5 (R600). -/
def epoch_STATE_SLEPT (i : Nat) : Ref := mref 0x03 (0x20 + i) 5
/-- 50:0sss/1 (R630). -/
def ev_TARGET (i : Nat) : Ref := mref 0x50 i 1
/-- 50:0sss/2 (R630). -/
def ev_PROGRAM (i : Nat) : Ref := mref 0x50 i 2
/-- 50:0sss/3 (R630). -/
def ev_WAKE_HOST (i : Nat) : Ref := mref 0x50 i 3
/-- 50:0sss/4 (R630). -/
def ev_STATE (i : Nat) : Ref := mref 0x50 i 4
/-- 50:0sss/5 (R630). -/
def ev_COUNT (i : Nat) : Ref := mref 0x50 i 5
/-- 50:0sss/6 (R630). -/
def ev_LEVEL (i : Nat) : Ref := mref 0x50 i 6
/-- 50:0sss/7 (R630). -/
def ev_SENSE (i : Nat) : Ref := mref 0x50 i 7
/-- 50:0sss/8 (R630). -/
def ev_RAISED (i : Nat) : Ref := mref 0x50 i 8
/-- 50:0sss/9 (R630). -/
def ev_CLAIMS (i : Nat) : Ref := mref 0x50 i 9
/-- 50:04gg/1 (R631). -/
def damper_HOLDOFF_US (i : Nat) : Ref := mref 0x50 (0x400 + i) 1
/-- 50:04gg/2 (R631). -/
def damper_HOLDING (i : Nat) : Ref := mref 0x50 (0x400 + i) 2
/-- 50:04gg/3 (R631). -/
def damper_HELD_CLAIMS (i : Nat) : Ref := mref 0x50 (0x400 + i) 3
/-- 50:0800/1 (R632). -/
def evCtl_HOST_STATE : Ref := mref 0x50 0x800 1
/-- 50:0800/2 (R632). -/
def evCtl_RING : Ref := mref 0x50 0x800 2
/-- 50:0800/3 (R632). -/
def evCtl_DOORBELL_REJECTS : Ref := mref 0x50 0x800 3
/-- 50:0800/4 (R632). -/
def evCtl_EOI_ERRORS : Ref := mref 0x50 0x800 4
/-- 58:000b/1 (R642). -/
def bank_DATA_IN (i : Nat) : Ref := mref 0x58 i 1
/-- 58:000b/2 (R642). -/
def bank_DATA_OUT (i : Nat) : Ref := mref 0x58 i 2
/-- 58:000b/3 (R642). -/
def bank_OE (i : Nat) : Ref := mref 0x58 i 3
/-- 58:000b/4 (R642). -/
def bank_SET (i : Nat) : Ref := mref 0x58 i 4
/-- 58:000b/5 (R642). -/
def bank_CLEAR (i : Nat) : Ref := mref 0x58 i 5
/-- 58:000b/6 (R642). -/
def bank_TOGGLE (i : Nat) : Ref := mref 0x58 i 6
/-- 58:000b/7 (R642). -/
def bank_PULL (i : Nat) : Ref := mref 0x58 i 7
/-- 58:000b/8 (R642). -/
def bank_SLEEP_STATE (i : Nat) : Ref := mref 0x58 i 8
/-- 58:000b/9 (R642). -/
def bank_OWNER (i : Nat) : Ref := mref 0x58 i 9
/-- 58:0100/1 (R645). -/
def route_CAN_ROUTE : Ref := mref 0x58 0x100 1
/-- 58:0100/2 (R645). -/
def route_TDM_ROUTE : Ref := mref 0x58 0x100 2
/-- 58:0100/3 (R645). -/
def route_HOST_WAKE_ROUTE : Ref := mref 0x58 0x100 3
/-- 58:0100/4 (R645). -/
def route_HOST_WAKE_POLARITY : Ref := mref 0x58 0x100 4
/-- 58:02mm/1 (R647). -/
def matcher_PINS (i : Nat) : Ref := mref 0x58 (0x200 + i) 1
/-- 58:02mm/2 (R647). -/
def matcher_PATTERN (i : Nat) : Ref := mref 0x58 (0x200 + i) 2
/-- 58:02mm/3 (R647). -/
def matcher_INVERT (i : Nat) : Ref := mref 0x58 (0x200 + i) 3
/-- 58:02mm/4 (R647). -/
def matcher_DEBOUNCE (i : Nat) : Ref := mref 0x58 (0x200 + i) 4
/-- 58:02mm/5 (R647). -/
def matcher_WAKE (i : Nat) : Ref := mref 0x58 (0x200 + i) 5
/-- 58:02mm/6 (R647). -/
def matcher_WAKE_DEBOUNCE (i : Nat) : Ref := mref 0x58 (0x200 + i) 6
/-- 58:02mm/7 (R647). -/
def matcher_OUTPUT (i : Nat) : Ref := mref 0x58 (0x200 + i) 7
/-- 58:02mm/8 (R647). -/
def matcher_CHANGES (i : Nat) : Ref := mref 0x58 (0x200 + i) 8
/-- 58:03kk/1 (R651). -/
def hvs_THRESHOLD (i : Nat) : Ref := mref 0x58 (0x300 + i) 1
/-- 58:03kk/2 (R651). -/
def hvs_POLARITY (i : Nat) : Ref := mref 0x58 (0x300 + i) 2
/-- 58:03kk/3 (R651). -/
def hvs_FILTER_US (i : Nat) : Ref := mref 0x58 (0x300 + i) 3
/-- 58:03kk/4 (R651). -/
def hvs_WAKE (i : Nat) : Ref := mref 0x58 (0x300 + i) 4
/-- 58:03kk/5 (R651). -/
def hvs_LEVEL (i : Nat) : Ref := mref 0x58 (0x300 + i) 5
/-- 02:0000/1 (R686). -/
def power_STATE : Ref := mref 0x02 0x0 1
/-- 02:0000/2 (R686). -/
def power_SLEEP : Ref := mref 0x02 0x0 2
/-- 02:0000/3 (R686). -/
def power_RETAIN_DRAM : Ref := mref 0x02 0x0 3
/-- 02:0000/4 (R686). -/
def power_EMBER_SCRATCH : Ref := mref 0x02 0x0 4
/-- 02:0000/5 (R686). -/
def power_EMBER_CLUSTER : Ref := mref 0x02 0x0 5
/-- 02:0000/6 (R686). -/
def power_TELLTALE_POLICY : Ref := mref 0x02 0x0 6
/-- 02:0000/7 (R686). -/
def power_WAKE_N_ENABLE : Ref := mref 0x02 0x0 7
/-- 02:0000/8 (R686). -/
def power_LAST_WAKE_SOURCE : Ref := mref 0x02 0x0 8
/-- 02:0000/9 (R686). -/
def power_LAST_WAKE_DETAIL : Ref := mref 0x02 0x0 9
/-- 02:0000/10 (R686). -/
def power_LAST_WAKE_TIME : Ref := mref 0x02 0x0 10
/-- 02:0000/11 (R686). -/
def power_SLEEP_ABORTS : Ref := mref 0x02 0x0 11
/-- 02:0000/12 (R686). -/
def power_OPERATING_HOURS : Ref := mref 0x02 0x0 12
/-- 02:0000/13 (R686). -/
def power_SLEEP_CYCLES : Ref := mref 0x02 0x0 13
/-- 02:0001/1 (R687). -/
def abort_TIME : Ref := mref 0x02 0x1 1
/-- 02:0001/2 (R687). -/
def abort_REQUESTED : Ref := mref 0x02 0x1 2
/-- 02:0001/3 (R687). -/
def abort_STEP : Ref := mref 0x02 0x1 3
/-- 02:0001/4 (R687). -/
def abort_BLOCK : Ref := mref 0x02 0x1 4
/-- 02:0001/5 (R687). -/
def abort_REASON : Ref := mref 0x02 0x1 5
/-- 02:0001/6 (R687). -/
def abort_DETAIL : Ref := mref 0x02 0x1 6
/-- 02:0002/1 (R688). -/
def supply_SUPPLY_STATE : Ref := mref 0x02 0x2 1
/-- 02:0002/2 (R688). -/
def supply_VIN_MV : Ref := mref 0x02 0x2 2
/-- 02:0002/3 (R688). -/
def supply_INPUT_MW : Ref := mref 0x02 0x2 3
/-- 02:0002/4 (R688). -/
def supply_VPOC_MV : Ref := mref 0x02 0x2 4
/-- 02:0002/5 (R688). -/
def supply_CRANKS : Ref := mref 0x02 0x2 5
/-- 02:0002/6 (R688). -/
def supply_LAST_POWER_LOSS : Ref := mref 0x02 0x2 6
/-- 02:0003/1 (R689). -/
def therm_TJ : Ref := mref 0x02 0x3 1
/-- 02:0003/2 (R689). -/
def therm_TJ_PREDICTED : Ref := mref 0x02 0x3 2
/-- 02:0003/3 (R689). -/
def therm_STEP : Ref := mref 0x02 0x3 3
/-- 02:0003/4 (R689). -/
def therm_CAUSE : Ref := mref 0x02 0x3 4
/-- 02:0003/5 (R689). -/
def therm_TRIPS : Ref := mref 0x02 0x3 5
/-- 02:0004/1 (R689). -/
def boost_REQUEST : Ref := mref 0x02 0x4 1
/-- 02:0004/2 (R689). -/
def boost_STATE : Ref := mref 0x02 0x4 2
/-- 02:0004/3 (R689). -/
def boost_REFUSAL : Ref := mref 0x02 0x4 3
/-- 02:0004/4 (R689). -/
def boost_WINDOW_MS : Ref := mref 0x02 0x4 4
/-- 02:0004/5 (R689). -/
def boost_LIFETIME_S : Ref := mref 0x02 0x4 5
/-- 02:0004/6 (R689). -/
def boost_EPISODES : Ref := mref 0x02 0x4 6
/-- 02:01hh/1 (R690). -/
def autumn_REQUEST (i : Nat) : Ref := mref 0x02 (0x100 + i) 1
/-- 02:01hh/2 (R690). -/
def autumn_MODE (i : Nat) : Ref := mref 0x02 (0x100 + i) 2
/-- 02:01hh/3 (R690). -/
def autumn_DIM (i : Nat) : Ref := mref 0x02 (0x100 + i) 3
/-- 02:01hh/4 (R690). -/
def autumn_CAUSE (i : Nat) : Ref := mref 0x02 (0x100 + i) 4
/-- 01:0000/1 (R718). -/
def dev_SERIAL : Ref := mref 0x01 0x0 1
/-- 01:0000/2 (R718). -/
def dev_SILICON_REVISION : Ref := mref 0x01 0x0 2
/-- 01:0000/3 (R718). -/
def dev_LIFECYCLE : Ref := mref 0x01 0x0 3
/-- 01:0000/4 (R718). -/
def dev_START_DONE : Ref := mref 0x01 0x0 4
/-- 01:0000/5 (R718). -/
def dev_START_TIME_MS : Ref := mref 0x01 0x0 5
/-- 01:0000/6 (R718). -/
def dev_START_MISSING : Ref := mref 0x01 0x0 6
/-- 01:0000/7 (R718). -/
def dev_FK_STATE : Ref := mref 0x01 0x0 7
/-- 01:0000/8 (R718). -/
def dev_FK_RESTARTS : Ref := mref 0x01 0x0 8
/-- 01:0000/9 (R718). -/
def dev_BOOT_RECORD_FAILS : Ref := mref 0x01 0x0 9
/-- 01:0000/10 (R718). -/
def dev_BOOT_FAIL_OFFSET : Ref := mref 0x01 0x0 10
/-- 01:01ss/1 (R719). -/
def slotImg_STATE (i : Nat) : Ref := mref 0x01 (0x100 + i) 1
/-- 01:01ss/2 (R719). -/
def slotImg_FAIL_REASON (i : Nat) : Ref := mref 0x01 (0x100 + i) 2
/-- 01:01ss/3 (R719). -/
def slotImg_VERSION (i : Nat) : Ref := mref 0x01 (0x100 + i) 3
/-- 01:01ss/4 (R719). -/
def slotImg_SECURITY_VERSION (i : Nat) : Ref := mref 0x01 (0x100 + i) 4
/-- 01:01ss/5 (R719). -/
def slotImg_ACTIVE (i : Nat) : Ref := mref 0x01 (0x100 + i) 5
/-- 01:01ss/6 (R719). -/
def slotImg_PREFERRED (i : Nat) : Ref := mref 0x01 (0x100 + i) 6
/-- 01:01ss/7 (R719). -/
def slotImg_IMAGE (i : Nat) : Ref := mref 0x01 (0x100 + i) 7
/-- 01:01ss/8 (R719). -/
def slotImg_ERASE (i : Nat) : Ref := mref 0x01 (0x100 + i) 8
/-- 01:01ss/9 (R719). -/
def slotImg_VERIFY (i : Nat) : Ref := mref 0x01 (0x100 + i) 9
/-- 01:01ss/10 (R719). -/
def slotImg_ACTIVATE (i : Nat) : Ref := mref 0x01 (0x100 + i) 10
/-- 08:0000/1 (R720). -/
def sec_MAKER_ROOT_KEY : Ref := mref 0x08 0x0 1
/-- 08:0000/2 (R720). -/
def sec_ENROL : Ref := mref 0x08 0x0 2
/-- 08:0000/3 (R720). -/
def sec_REVOKED_KEYS : Ref := mref 0x08 0x0 3
/-- 08:0000/4 (R720). -/
def sec_REVOKE : Ref := mref 0x08 0x0 4
/-- 08:0000/5 (R720). -/
def sec_ROLLBACK_FUSES : Ref := mref 0x08 0x0 5
/-- 08:0000/6 (R720). -/
def sec_ADVANCE : Ref := mref 0x08 0x0 6
/-- 08:0000/7 (R720). -/
def sec_ATTEST : Ref := mref 0x08 0x0 7
/-- 08:0000/8 (R720). -/
def sec_ATTEST_CERT : Ref := mref 0x08 0x0 8
/-- 08:0000/9 (R720). -/
def sec_LITE_KEY : Ref := mref 0x08 0x0 9
/-- 08:001n/1 (R720). -/
def hostKey_HOST_KEY (i : Nat) : Ref := mref 0x08 (0x10 + i) 1
/-- 08:002n/1 (R720). -/
def panelCa_PANEL_CA_KEY (i : Nat) : Ref := mref 0x08 (0x20 + i) 1
/-- 08:001n/2 (R720). -/
def hostKey_REVOKED (i : Nat) : Ref := mref 0x08 (0x10 + i) 2
/-- 08:002n/2 (R720). -/
def panelCa_REVOKED (i : Nat) : Ref := mref 0x08 (0x20 + i) 2
/-- 08:001n/3 (R720). -/
def hostKey_REVOKE_SLOT (i : Nat) : Ref := mref 0x08 (0x10 + i) 3
/-- 08:002n/3 (R720). -/
def panelCa_REVOKE_SLOT (i : Nat) : Ref := mref 0x08 (0x20 + i) 3
/-- 70:0000/1 (R737). -/
def obs_TOKEN : Ref := mref 0x70 0x0 1
/-- 70:0000/2 (R737). -/
def obs_TOKEN_STATE : Ref := mref 0x70 0x0 2
/-- 70:0000/3 (R737). -/
def obs_SCOPE : Ref := mref 0x70 0x0 3
/-- 70:0000/4 (R737). -/
def obs_NOT_AFTER : Ref := mref 0x70 0x0 4
/-- 70:0000/5 (R737). -/
def obs_TRACE_KINDS : Ref := mref 0x70 0x0 5
/-- 70:0000/6 (R737). -/
def obs_TRACE_EVENTS : Ref := mref 0x70 0x0 6
/-- 70:0000/7 (R737). -/
def obs_END : Ref := mref 0x70 0x0 7
/-- 70:0000/8 (R737). -/
def obs_RECORDS_SENT : Ref := mref 0x70 0x0 8
/-- 70:0000/9 (R737). -/
def obs_RECORDS_LOST : Ref := mref 0x70 0x0 9
/-- 70:0100/1 (R737). -/
def ctrCtl_RUN : Ref := mref 0x70 0x100 1
/-- 70:0100/2 (R737). -/
def ctrCtl_CLEAR : Ref := mref 0x70 0x100 2
/-- 70:0100/3 (R737). -/
def ctrCtl_ISLAND_OFF_ACCESSES : Ref := mref 0x70 0x100 3
/-- 70:0100/4 (R737). -/
def ctrCtl_LAST_OFF_ISLAND : Ref := mref 0x70 0x100 4
/-- 70:1ccc/1 (R737). -/
def ctr_SELECT (i : Nat) : Ref := mref 0x70 (0x1000 + i) 1
/-- 70:1ccc/2 (R737). -/
def ctr_ENABLE (i : Nat) : Ref := mref 0x70 (0x1000 + i) 2
/-- 70:1ccc/3 (R737). -/
def ctr_VALUE (i : Nat) : Ref := mref 0x70 (0x1000 + i) 3
/-- 70:1ccc/4 (R737). -/
def ctr_SNAP_VALUE (i : Nat) : Ref := mref 0x70 (0x1000 + i) 4
/-- 70:0200/1 (R737). -/
def snap_ARM : Ref := mref 0x70 0x200 1
/-- 70:0200/2 (R737). -/
def snap_ARMED : Ref := mref 0x70 0x200 2
/-- 70:0200/3 (R737). -/
def snap_SOURCES : Ref := mref 0x70 0x200 3
/-- 70:0200/4 (R737). -/
def snap_EVENT : Ref := mref 0x70 0x200 4
/-- 70:0200/5 (R737). -/
def snap_SNAP_IN_FILTER : Ref := mref 0x70 0x200 5
/-- 70:0200/6 (R737). -/
def snap_TRIGGER : Ref := mref 0x70 0x200 6
/-- 70:0200/7 (R737). -/
def snap_SEQ : Ref := mref 0x70 0x200 7
/-- 70:0200/8 (R737). -/
def snap_TRIGGER_TIME : Ref := mref 0x70 0x200 8
/-- 70:0200/9 (R737). -/
def snap_CAUSE : Ref := mref 0x70 0x200 9
/-- 70:0200/10 (R737). -/
def snap_MISSED : Ref := mref 0x70 0x200 10
/-- 70:03ii/1 (R737). -/
def isl_STAMP (i : Nat) : Ref := mref 0x70 (0x300 + i) 1
/-- 70:03ii/2 (R737). -/
def isl_STATE (i : Nat) : Ref := mref 0x70 (0x300 + i) 2
/-- 70:03ii/3–6 (R737). -/
def isl_WORD (i k : Nat) : Ref := mref 0x70 (0x300 + i) (3 + k)
/-- 70:04nn/1 (R737). -/
def svcLog_TIME (i : Nat) : Ref := mref 0x70 (0x400 + i) 1
/-- 70:04nn/2 (R737). -/
def svcLog_KIND (i : Nat) : Ref := mref 0x70 (0x400 + i) 2
/-- 70:04nn/3 (R737). -/
def svcLog_UNIT (i : Nat) : Ref := mref 0x70 (0x400 + i) 3
/-- 70:04nn/4 (R737). -/
def svcLog_DETAIL (i : Nat) : Ref := mref 0x70 (0x400 + i) 4
/-- 70:0500/1 (R737). -/
def svc_LOG_NEXT : Ref := mref 0x70 0x500 1
/-- 70:0500/2 (R737). -/
def svc_LOG_ENTRIES : Ref := mref 0x70 0x500 2
/-- 40:02tt/1 (R537). -/
def wtab_SAMPLES (i : Nat) : Ref := mref 0x40 (0x200 + i) 1
/-- 41:01ii/1 (R541). -/
def xin_SOURCE (i : Nat) : Ref := mref 0x41 (0x100 + i) 1
/-- 42:003n/1 (R553). -/
def laneAud_LANE (i : Nat) : Ref := mref 0x42 (0x30 + i) 1
/-- 42:003n/2 (R553). -/
def laneAud_STREAM (i : Nat) : Ref := mref 0x42 (0x30 + i) 2
/-- 42:003n/3 (R553). -/
def laneAud_CHANNELS (i : Nat) : Ref := mref 0x42 (0x30 + i) 3
/-- 42:003n/4 (R553). -/
def laneAud_RATE (i : Nat) : Ref := mref 0x42 (0x30 + i) 4
/-- 42:003n/5 (R553). -/
def laneAud_FIRST_OUTPUT (i : Nat) : Ref := mref 0x42 (0x30 + i) 5
/-- 42:003n/6 (R553). -/
def laneAud_PRESENT_OFFSET_NS (i : Nat) : Ref := mref 0x42 (0x30 + i) 6
/-- 42:003n/7 (R553). -/
def laneAud_FRAMES (i : Nat) : Ref := mref 0x42 (0x30 + i) 7

end Sys2Proof.Machine
end

