-- ==== Sys2Proof/Machine/Sinc.lean ====
section
/-!
DEFINITION. The built-in scaler coefficients of R225, worked out from its formula.
-/
namespace Sys2Proof.Machine

/-- Built-in horizontal set 0 of R225: 64 phases of 8 coefficients of 16 bits, the first lowest. -/
def hcoefSet0 : Nat :=
  0xfffe0005fff203ff000ffffb00020000fffd000affe403fe001efff600030000fffc000fffd703fb002efff000050000fffa0013ffcb03f9003effea00070000fff90017ffbf03f4004fffe500090000fff8001bffb403f00060ffdf000bfffffff7001fffa903eb0071ffd9000dfffffff60023ff9f03e30084ffd3000ffffffff50026ff9603dc0096ffcd0011fffffff4002aff8d03d400a9ffc70013fffefff3002dff8403cc00bcffc10015fffefff20030ff7d03c100d0ffbb0017fffefff20032ff7603b700e4ffb4001afffdfff10035ff6f03ac00f8ffae001cfffdfff10037ff6903a0010dffa8001efffcfff10039ff6403930121ffa20020fffcfff0003bff5f03870136ff9c0022fffbfff0003cff5b0377014cff960025fffbfff0003dff5803690161ff900027fffafff0003eff5403590177ff8b0029fffafff0003fff52034a018cff85002bfff9fff00040ff50033801a2ff80002dfff9fff00041ff4e032801b8ff7a002ffff8fff00041ff4e031501ceff750031fff8fff00041ff4d030401e4ff700033fff7fff10041ff4d02f101f9ff6c0035fff6fff10041ff4d02df020fff670036fff6fff10040ff4e02cc0225ff630038fff5fff20040ff5002b6023aff600039fff5fff2003fff5102a30250ff5c003bfff4fff3003eff54028d0265ff59003cfff4fff3003dff56027a027aff56003dfff3fff4003cff590265028dff54003efff3fff4003bff5c025002a3ff51003ffff2fff50039ff60023a02b6ff500040fff2fff50038ff63022502ccff4e0040fff1fff60036ff67020f02dfff4d0041fff1fff60035ff6c01f902f1ff4d0041fff1fff70033ff7001e40304ff4d0041fff0fff80031ff7501ce0315ff4e0041fff0fff8002fff7a01b80328ff4e0041fff0fff9002dff8001a20338ff500040fff0fff9002bff85018c034aff52003ffff0fffa0029ff8b01770359ff54003efff0fffa0027ff9001610369ff58003dfff0fffb0025ff96014c0377ff5b003cfff0fffb0022ff9c01360387ff5f003bfff0fffc0020ffa201210393ff640039fff1fffc001effa8010d03a0ff690037fff1fffd001cffae00f803acff6f0035fff1fffd001affb400e403b7ff760032fff2fffe0017ffbb00d003c1ff7d0030fff2fffe0015ffc100bc03ccff84002dfff3fffe0013ffc700a903d4ff8d002afff4ffff0011ffcd009603dcff960026fff5ffff000fffd3008403e3ff9f0023fff6ffff000dffd9007103ebffa9001ffff7ffff000bffdf006003f0ffb4001bfff800000009ffe5004f03f4ffbf0017fff900000007ffea003e03f9ffcb0013fffa00000005fff0002e03fbffd7000ffffc00000003fff6001e03feffe4000afffd00000002fffb000f03fffff20005fffe00000000000000000400000000000000

/-- Built-in horizontal set 1 of R225: 64 phases of 8 coefficients of 16 bits, the first lowest. -/
def hcoefSet1 : Nat :=
  0x2ff8a010502ae0119ff8cfffe001e0004ff8900fb02af0122ff8dfffb001f0007ff8900f102ac012cff8efff900200009ff8800e802aa0135ff90fff70021000bff8800de02a8013fff92fff40022000dff8800d402a70148ff94fff20022000fff8800cb02a40152ff96ffef00230010ff8900c102a2015bff98ffed00240012ff8900b8029f0165ff9affea00250014ff8a00ae029d016eff9dffe700250016ff8a00a502990177ffa0ffe500260017ff8b009c02950181ffa3ffe200270019ff8c00930292018affa6ffdf0027001aff8d008a028e0193ffa9ffdd0028001cff8e0081028b019cffacffda0028001dff8f0079028601a5ffb0ffd70029001eff900070028201aeffb4ffd500290020ff920068027d01b7ffb7ffd200290021ff93005f027801c0ffbcffcf002a0022ff950057027301c8ffc0ffcd002a0023ff96004f026f01d1ffc4ffca002a0024ff980047026801daffc9ffc7002b0025ff9a003f026201e2ffceffc5002b0026ff9c0038025c01eaffd3ffc2002b0026ff9e0030025801f2ffd8ffbf002b0027ffa00029025001fbffddffbd002b0028ffa20022024a0203ffe2ffba002b0028ffa4001b0245020affe8ffb7002b0029ffa70014023c0212ffeeffb5002b0029ffa9000d0236021afff4ffb2002b002affab000602300221fffaffb0002a002affae0000022802280000ffae002a002affb0fffa022102300006ffab002a002bffb2fff4021a0236000dffa90029002bffb5ffee0212023c0014ffa70029002bffb7ffe8020a0245001bffa40028002bffbaffe20203024a0022ffa20028002bffbdffdd01fb02500029ffa00027002bffbfffd801f202580030ff9e0026002bffc2ffd301ea025c0038ff9c0026002bffc5ffce01e20262003fff9a0025002bffc7ffc901da02680047ff980024002affcaffc401d1026f004fff960023002affcdffc001c802730057ff950022002affcfffbc01c00278005fff9300210029ffd2ffb701b7027d0068ff9200200029ffd5ffb401ae02820070ff90001e0029ffd7ffb001a502860079ff8f001d0028ffdaffac019c028b0081ff8e001c0028ffddffa90193028e008aff8d001a0027ffdfffa6018a02920093ff8c00190027ffe2ffa301810295009cff8b00170026ffe5ffa00177029900a5ff8a00160025ffe7ff9d016e029d00aeff8a00140025ffeaff9a0165029f00b8ff8900120024ffedff98015b02a200c1ff8900100023ffefff96015202a400cbff88000f0022fff2ff94014802a700d4ff88000d0022fff4ff92013f02a800deff88000b0021fff7ff90013502aa00e8ff8800090020fff9ff8e012c02ac00f1ff890007001ffffbff8d012202af00fbff890004001efffeff8c011902ae0105ff8a000200000000ff87011702c40117ff870000

/-- Built-in horizontal set 2 of R225: 64 phases of 8 coefficients of 16 bits, the first lowest. -/
def hcoefSet2 : Nat :=
  0xffa7fffc0148021901530004ffa6ffffffa8fff90143021901590008ffa5fffdffa9fff5013e0219015f000cffa4fffcffa9fff10138021c01640010ffa4fffaffaaffee0133021b016a0014ffa3fff9ffabffeb012e021901700018ffa3fff8ffacffe70128021c0175001cffa2fff6ffadffe401230219017b0021ffa2fff5ffaeffe1011e021901810025ffa1fff3ffafffde011802180186002affa1fff2ffb0ffda01130219018b002effa1fff0ffb1ffd8010d021701910033ffa1ffeeffb2ffd50107021601960038ffa1ffedffb4ffd201020215019b003cffa1ffebffb5ffcf00fc021301a10041ffa1ffeaffb6ffcc00f6021301a60046ffa1ffe8ffb7ffca00f1021101ab004bffa1ffe6ffb9ffc700eb020f01b00050ffa1ffe5ffbaffc500e5020f01b40055ffa1ffe3ffbbffc200e0020d01b9005affa2ffe1ffbdffc000da020a01be005fffa2ffe0ffbeffbe00d4020801c20065ffa3ffdeffc0ffbc00cf020401c7006affa3ffddffc1ffba00c9020301cb006fffa4ffdbffc3ffb800c301ff01d00075ffa5ffd9ffc4ffb600bd01fd01d4007affa6ffd8ffc6ffb400b801f901d80080ffa7ffd6ffc7ffb200b201f801dc0085ffa8ffd4ffc9ffb100ac01f301e0008bffa9ffd3ffcaffaf00a701f101e40090ffaaffd1ffccffae00a101ee01e70096ffabffcfffceffac009b01eb01eb009bffacffceffcfffab009601e701ee00a1ffaeffccffd1ffaa009001e401f100a7ffafffcaffd3ffa9008b01e001f300acffb1ffc9ffd4ffa8008501dc01f800b2ffb2ffc7ffd6ffa7008001d801f900b8ffb4ffc6ffd8ffa6007a01d401fd00bdffb6ffc4ffd9ffa5007501d001ff00c3ffb8ffc3ffdbffa4006f01cb020300c9ffbaffc1ffddffa3006a01c7020400cfffbcffc0ffdeffa3006501c2020800d4ffbeffbeffe0ffa2005f01be020a00daffc0ffbdffe1ffa2005a01b9020d00e0ffc2ffbbffe3ffa1005501b4020f00e5ffc5ffbaffe5ffa1005001b0020f00ebffc7ffb9ffe6ffa1004b01ab021100f1ffcaffb7ffe8ffa1004601a6021300f6ffccffb6ffeaffa1004101a1021300fcffcfffb5ffebffa1003c019b02150102ffd2ffb4ffedffa10038019602160107ffd5ffb2ffeeffa1003301910217010dffd8ffb1fff0ffa1002e018b02190113ffdaffb0fff2ffa1002a018602180118ffdeffaffff3ffa1002501810219011effe1ffaefff5ffa20021017b02190123ffe4ffadfff6ffa2001c0175021c0128ffe7ffacfff8ffa3001801700219012effebffabfff9ffa30014016a021b0133ffeeffaafffaffa400100164021c0138fff1ffa9fffcffa4000c015f0219013efff5ffa9fffdffa50008015902190143fff9ffa8ffffffa60004015302190148fffcffa70000ffa70000014d0218014d0000ffa7

/-- Built-in horizontal set 3 of R225: 64 phases of 8 coefficients of 16 bits, the first lowest. -/
def hcoefSet3 : Nat :=
  0xffc80056012c01980132005cffcbffc5ffc700530129019801350060ffccffc4ffc600500127019801380063ffcdffc3ffc5004d01240198013b0066ffceffc3ffc4004a01210197013f006affcfffc2ffc30047011e01970142006dffd1ffc1ffc20044011b019801440070ffd2ffc1ffc200410118019701470074ffd3ffc0ffc1003e01150197014a0077ffd5ffbfffc0003b01120196014d007bffd6ffbfffbf0038010f01960150007effd8ffbeffbf0035010c019401530082ffd9ffbeffbe00320108019601550085ffdbffbdffbd002f0105019501580089ffdcffbdffbd002c01020194015b008cffdeffbcffbc002900ff0193015d0090ffe0ffbcffbc002600fc019301600093ffe1ffbbffbb002400f8019201620097ffe3ffbbffbb002100f501910165009affe5ffbaffba001e00f201900167009effe7ffbaffba001c00ee018e016a00a1ffe9ffbaffb9001900eb018e016c00a5ffebffb9ffb9001600e8018d016e00a8ffedffb9ffb9001400e4018b017000acffefffb9ffb9001100e10189017200b0fff1ffb9ffb8000f00dd0189017500b3fff3ffb8ffb8000c00da0187017700b7fff5ffb8ffb8000a00d60186017900bafff7ffb8ffb8000700d30185017a00befff9ffb8ffb8000500cf0184017c00c1fffbffb8ffb8000200cc0181017e00c5fffeffb8ffb8000000c80180018000c80000ffb8ffb8fffe00c5017e018100cc0002ffb8ffb8fffb00c1017c018400cf0005ffb8ffb8fff900be017a018500d30007ffb8ffb8fff700ba0179018600d6000affb8ffb8fff500b70177018700da000cffb8ffb8fff300b30175018900dd000fffb8ffb9fff100b00172018900e10011ffb9ffb9ffef00ac0170018b00e40014ffb9ffb9ffed00a8016e018d00e80016ffb9ffb9ffeb00a5016c018e00eb0019ffb9ffbaffe900a1016a018e00ee001cffbaffbaffe7009e0167019000f2001effbaffbaffe5009a0165019100f50021ffbbffbbffe300970162019200f80024ffbbffbbffe100930160019300fc0026ffbcffbcffe00090015d019300ff0029ffbcffbcffde008c015b01940102002cffbdffbdffdc0089015801950105002fffbdffbdffdb00850155019601080032ffbeffbeffd9008201530194010c0035ffbfffbeffd8007e01500196010f0038ffbfffbfffd6007b014d01960112003bffc0ffbfffd50077014a01970115003effc1ffc0ffd300740147019701180041ffc2ffc1ffd2007001440198011b0044ffc2ffc1ffd1006d01420197011e0047ffc3ffc2ffcf006a013f01970121004affc4ffc3ffce0066013b01980124004dffc5ffc3ffcd00630138019801270050ffc6ffc4ffcc00600135019801290053ffc7ffc5ffcb005c01320198012c0056ffc80000ffcc0054011f0182011f0054ffcc

/-- Built-in horizontal set 4 of R225: 64 phases of 8 coefficients of 16 bits, the first lowest. -/
def hcoefSet4 : Nat :=
  0xffff007a0100013b0103007e0001ffcafffd007800fe0139010500810003ffcbfffc007600fc0139010600830005ffcbfffa007300fa013b010800850006ffcbfff9007100f8013a010900870008ffccfff7006f00f70139010b008a0009ffccfff6006d00f50139010c008c000bffccfff5006a00f30139010e008e000cffcdfff4006800f10139010f0090000effcdfff2006600ef0139011100920010ffcdfff1006400ed0138011200950011ffcefff0006200eb0138011300970013ffceffee005f00e90138011500990015ffcfffed005d00e701390116009b0016ffcfffec005b00e601350118009e0018ffd0ffeb005900e40135011900a0001affd0ffea005700e20134011a00a2001cffd1ffe9005500e00135011b00a4001dffd1ffe8005200de0134011d00a6001fffd2ffe6005000dc0134011e00a90021ffd2ffe5004e00da0133011f00ab0023ffd3ffe4004c00d80132012000ad0025ffd4ffe3004a00d50134012100af0026ffd4ffe2004800d30132012300b10028ffd5ffe1004600d10130012400b4002affd6ffe0004400cf0130012500b6002cffd6ffdf004200cd012f012600b8002effd7ffde004000cb012e012700ba0030ffd8ffde003e00c9012c012800bc0032ffd9ffdd003c00c7012c012900be0034ffd9ffdc003a00c5012b012a00c00036ffdaffdb003800c3012b012900c30038ffdbffda003600c0012a012b00c5003affdcffd9003400be0129012c00c7003cffddffd9003200bc0128012c00c9003effdeffd8003000ba0127012e00cb0040ffdeffd7002e00b80126012f00cd0042ffdfffd6002c00b60125013000cf0044ffe0ffd6002a00b40124013000d10046ffe1ffd5002800b10123013200d30048ffe2ffd4002600af0121013400d5004affe3ffd4002500ad0120013200d8004cffe4ffd3002300ab011f013300da004effe5ffd2002100a9011e013400dc0050ffe6ffd2001f00a6011d013400de0052ffe8ffd1001d00a4011b013500e00055ffe9ffd1001c00a2011a013400e20057ffeaffd0001a00a00119013500e40059ffebffd00018009e0118013500e6005bffecffcf0016009b0116013900e7005dffedffcf001500990115013800e9005fffeeffce001300970113013800eb0062fff0ffce001100950112013800ed0064fff1ffcd001000920111013900ef0066fff2ffcd000e0090010f013900f10068fff4ffcd000c008e010e013900f3006afff5ffcc000b008c010c013900f5006dfff6ffcc0009008a010b013900f7006ffff7ffcc000800870109013a00f80071fff9ffcb000600850108013b00fa0073fffaffcb000500830106013900fc0076fffcffcb000300810105013900fe0078fffdffca0001007e0103013b0100007affff00000000007600f4012c00f400760000

/-- Built-in horizontal set 5 of R225: 64 phases of 8 coefficients of 16 bits, the first lowest. -/
def hcoefSet5 : Nat :=
  0x25008600de010000e000890028ffe60024008400dc010200e1008a0029ffe60022008200db010200e1008c002bffe70021008100da010100e2008d002cffe80020007f00d9010100e3008f002dffe8001e007e00d7010100e40090002fffe9001d007c00d6010000e500920030ffea001c007a00d5010000e600930031ffeb001b007900d400ff00e600950033ffeb0019007700d2010100e700960034ffec0018007500d100ff00e800980036ffed0017007400d000fe00e900990037ffee0015007200cf00ff00ea009a0038ffef0014007100cd00ff00ea009c003affef0013006f00cc00ff00eb009d003bfff00012006d00cb00fd00ec009f003dfff10011006c00ca00fc00ed00a0003efff2000f006a00c800fd00ed00a20040fff3000e006900c700fc00ee00a30041fff4000d006700c600fc00ef00a50042fff4000c006500c400fd00ef00a60044fff5000b006400c300fc00f000a70045fff6000a006200c200fa00f100a90047fff70009006100c000fb00f100aa0048fff80007005f00bf00fa00f200ac004afff90006005e00be00f900f300ad004bfffa0005005c00bc00fa00f300ae004dfffb0004005a00bb00f900f400b0004efffc0003005900b900f800f500b10050fffd0002005700b800f800f500b30051fffe0001005600b700f600f600b40053ffff0000005400b500f600f800b500540000ffff005300b400f600f600b700560001fffe005100b300f500f800b800570002fffd005000b100f500f800b900590003fffc004e00b000f400f900bb005a0004fffb004d00ae00f300fa00bc005c0005fffa004b00ad00f300f900be005e0006fff9004a00ac00f200fa00bf005f0007fff8004800aa00f100fb00c000610009fff7004700a900f100fa00c20062000afff6004500a700f000fc00c30064000bfff5004400a600ef00fd00c40065000cfff4004200a500ef00fc00c60067000dfff4004100a300ee00fc00c70069000efff3004000a200ed00fd00c8006a000ffff2003e00a000ed00fc00ca006c0011fff1003d009f00ec00fd00cb006d0012fff0003b009d00eb00ff00cc006f0013ffef003a009c00ea00ff00cd00710014ffef0038009a00ea00ff00cf00720015ffee0037009900e900fe00d000740017ffed0036009800e800ff00d100750018ffec0034009600e7010100d200770019ffeb0033009500e600ff00d40079001bffeb0031009300e6010000d5007a001cffea0030009200e5010000d6007c001dffe9002f009000e4010100d7007e001effe8002d008f00e3010100d9007f0020ffe8002c008d00e2010100da00810021ffe7002b008c00e1010200db00820022ffe60029008a00e1010200dc00840024ffe60028008900e0010000de0086002500000025008400d900fc00d900840025

/-- Built-in horizontal set 6 of R225: 64 phases of 8 coefficients of 16 bits, the first lowest. -/
def hcoefSet6 : Nat :=
  0x3e008900c600df00c8008b00400001003d008800c600de00c8008c00410002003c008700c500de00c9008d00420002003a008500c400e000c9008e004300030039008400c300de00ca008f004500040038008300c200dd00cb0090004600050037008200c100dd00cb0091004700060036008000c000de00cc0092004800060035007f00bf00de00cc0093004900070033007e00bf00dd00cd0094004a00080032007d00be00dd00cd0095004b00090031007b00bd00dd00ce0096004c000a0030007a00bc00dc00ce0097004e000b002f007900bb00db00cf0098004f000c002e007800ba00dc00cf00990050000c002d007700b900dc00cf009a0051000d002c007500b800dc00d0009b0052000e002b007400b700dc00d0009c0053000f002a007300b600db00d1009d005400100029007200b500db00d1009e005500110028007100b500d800d2009f005700120026006f00b400da00d200a0005800130025006e00b300d900d300a1005900140024006d00b200d900d300a2005a00150023006c00b100d900d300a3005b00160022006b00b000d900d400a4005c00160021006900af00d900d400a5005e00170020006800ae00d800d500a6005f0018001f006700ad00d800d500a700600019001e006600ac00d800d500a80061001a001d006500ab00d700d600a90062001b001c006300aa00d600d800aa0063001c001b006200a900d600d700ab0065001d001a006100a800d500d800ac0066001e0019006000a700d500d800ad0067001f0018005f00a600d500d800ae006800200017005e00a500d400d900af006900210016005c00a400d400d900b0006b00220016005b00a300d300d900b1006c00230015005a00a200d300d900b2006d00240014005900a100d300d900b3006e00250013005800a000d200da00b4006f002600120057009f00d200d800b50071002800110055009e00d100db00b50072002900100054009d00d100db00b60073002a000f0053009c00d000dc00b70074002b000e0052009b00d000dc00b80075002c000d0051009a00cf00dc00b90077002d000c0050009900cf00dc00ba0078002e000c004f009800cf00db00bb0079002f000b004e009700ce00dc00bc007a0030000a004c009600ce00dd00bd007b00310009004b009500cd00dd00be007d00320008004a009400cd00dd00bf007e003300070049009300cc00de00bf007f003500060048009200cc00de00c00080003600060047009100cb00dd00c10082003700050046009000cb00dd00c20083003800040045008f00ca00de00c30084003900030043008e00c900e000c40085003a00020042008d00c900de00c50087003c00020041008c00c800de00c60088003d00010040008b00c800df00c60089003e0000003f008a00c700e000c7008a003f

/-- Built-in vertical set 0 of R225: 64 phases of 6 coefficients of 16 bits, the first lowest. -/
def vcoefSet0 : Nat :=
  0x3fff303ff000efffd00000006ffe703fe001cfff900000009ffdb03fd002afff50000000cffd003fa0039fff10000000effc503f60049ffed00010011ffbb03f10059ffe900010013ffb203eb006affe500010015ffa903e3007cffe100020017ffa103dd008dffdc00020018ff9903d400a0ffd80003001aff9203cb00b2ffd30004001bff8c03c200c5ffce0004001cff8603b700d9ffc90005001dff8003ac00edffc40006001eff7c039f0101ffbf0007001fff7803910116ffba0008001fff740386012affb500080020ff7103760140ffb000090020ff6e03670155ffab000b0020ff6c0357016bffa6000c0020ff6a03470180ffa2000d0020ff6903360196ff9d000e0020ff69032401acff98000f001fff68031401c2ff930010001fff6902ff01d9ff8f0011001eff6902ed01efff8b0012001dff6a02d90205ff870014001dff6c02c4021bff830015001cff6e02b00231ff7f0016001bff70029c0247ff7b0017001aff720287025dff7800180019ff7502720272ff7500190018ff78025d0287ff72001a0017ff7b0247029cff70001b0016ff7f023102b0ff6e001c0015ff83021b02c4ff6c001d0014ff87020502d9ff6a001d0012ff8b01ef02edff69001e0011ff8f01d902ffff69001f0010ff9301c20314ff68001f000fff9801ac0324ff690020000eff9d01960336ff690020000dffa201800347ff6a0020000cffa6016b0357ff6c0020000bffab01550367ff6e00200009ffb001400376ff7100200008ffb5012a0386ff74001f0008ffba01160391ff78001f0007ffbf0101039fff7c001e0006ffc400ed03acff80001d0005ffc900d903b7ff86001c0004ffce00c503c2ff8c001b0004ffd300b203cbff92001a0003ffd800a003d4ff9900180002ffdc008d03ddffa100170002ffe1007c03e3ffa900150001ffe5006a03ebffb200130001ffe9005903f1ffbb00110001ffed004903f6ffc5000e0000fff1003903faffd0000c0000fff5002a03fdffdb00090000fff9001c03feffe700060000fffd000e03fffff30003000000000000040000000000

/-- Built-in vertical set 1 of R225: 64 phases of 6 coefficients of 16 bits, the first lowest. -/
def vcoefSet1 : Nat :=
  0xff9a010002b90114ff9bfffeff9900f602bb011eff9bfffdff9900ed02bb0128ff9cfffbff9900e302ba0133ff9dfffaff9900da02ba013dff9efff8ff9900d102ba0147ff9ffff6ff9900c702b90152ffa1fff4ff9900be02b9015cffa2fff2ff9a00b502b60167ffa4fff0ff9a00ac02b50171ffa6ffeeff9b00a302b2017cffa8ffecff9c009a02af0186ffabffeaff9d009102ac0191ffadffe8ff9e008802a9019bffb0ffe6ff9f008002a501a5ffb3ffe4ffa0007702a201afffb6ffe2ffa1006e029f01b9ffb9ffe0ffa30066029a01c4ffbcffddffa4005e029601cdffc0ffdbffa60056029001d7ffc4ffd9ffa7004e028b01e1ffc8ffd7ffa90046028601ebffccffd4ffab003e028101f4ffd0ffd2ffad0037027901feffd5ffd0ffaf002f02750207ffd9ffcdffb10028026e0210ffdeffcbffb3002102660219ffe4ffc9ffb5001a02600222ffe9ffc6ffb70013025a022affeeffc4ffb9000d02520232fff4ffc2ffbb0006024a023bfffaffc0ffbd0000024302430000ffbdffc0fffa023b024a0006ffbbffc2fff402320252000dffb9ffc4ffee022a025a0013ffb7ffc6ffe902220260001affb5ffc9ffe4021902660021ffb3ffcbffde0210026e0028ffb1ffcdffd902070275002fffafffd0ffd501fe02790037ffadffd2ffd001f40281003effabffd4ffcc01eb02860046ffa9ffd7ffc801e1028b004effa7ffd9ffc401d702900056ffa6ffdbffc001cd0296005effa4ffddffbc01c4029a0066ffa3ffe0ffb901b9029f006effa1ffe2ffb601af02a20077ffa0ffe4ffb301a502a50080ff9fffe6ffb0019b02a90088ff9effe8ffad019102ac0091ff9dffeaffab018602af009aff9cffecffa8017c02b200a3ff9bffeeffa6017102b500acff9afff0ffa4016702b600b5ff9afff2ffa2015c02b900beff99fff4ffa1015202b900c7ff99fff6ff9f014702ba00d1ff99fff8ff9e013d02ba00daff99fffaff9d013302ba00e3ff99fffbff9c012802bb00edff99fffdff9b011e02bb00f6ff99fffeff9b011402b90100ff9a0000ff9a010902ba0109ff9a

/-- Built-in vertical set 2 of R225: 64 phases of 6 coefficients of 16 bits, the first lowest. -/
def vcoefSet2 : Nat :=
  0xfffd012601ed01300003ffbdfffa012101ec01360007ffbcfff7011c01ed013b000affbbfff4011701ed0140000dffbbfff1011201ed01450011ffbaffee010d01ec014b0014ffbaffeb010801ec01500018ffb9ffe9010301ea0155001cffb9ffe600fe01ea015a0020ffb8ffe400f901e9015f0023ffb8ffe100f301e901640027ffb8ffdf00ee01e80169002bffb7ffdc00e901e8016d002fffb7ffda00e401e601720033ffb7ffd800df01e301770038ffb7ffd600d901e2017c003cffb7ffd400d401e101800040ffb7ffd200cf01de01850045ffb7ffd000ca01dd01890049ffb7ffce00c401dd018d004dffb7ffcc00bf01da01920052ffb7ffcb00ba01d701960056ffb8ffc900b501d5019a005bffb8ffc800b001d2019e0060ffb8ffc600aa01d101a20064ffb9ffc500a501ce01a60069ffb9ffc300a001cb01aa006effbaffc2009b01c701ae0073ffbbffc1009601c501b10078ffbbffc0009101c101b5007dffbcffbf008c01be01b80082ffbdffbe008701bc01ba0087ffbeffbd008201b801be008cffbfffbc007d01b501c10091ffc0ffbb007801b101c50096ffc1ffbb007301ae01c7009bffc2ffba006e01aa01cb00a0ffc3ffb9006901a601ce00a5ffc5ffb9006401a201d100aaffc6ffb80060019e01d200b0ffc8ffb8005b019a01d500b5ffc9ffb80056019601d700baffcbffb70052019201da00bfffccffb7004d018d01dd00c4ffceffb70049018901dd00caffd0ffb70045018501de00cfffd2ffb70040018001e100d4ffd4ffb7003c017c01e200d9ffd6ffb70038017701e300dfffd8ffb70033017201e600e4ffdaffb7002f016d01e800e9ffdcffb7002b016901e800eeffdfffb80027016401e900f3ffe1ffb80023015f01e900f9ffe4ffb80020015a01ea00feffe6ffb9001c015501ea0103ffe9ffb90018015001ec0108ffebffba0014014b01ec010dffeeffba0011014501ed0112fff1ffbb000d014001ed0117fff4ffbb000a013b01ed011cfff7ffbc0007013601ec0121fffaffbd0003013001ed0126fffd00000000011901ce01190000

/-- Built-in vertical set 3 of R225: 64 phases of 6 coefficients of 16 bits, the first lowest. -/
def vcoefSet3 : Nat :=
  0x4a010d017101130050ffd50047010a017201150052ffd600440107017101180055ffd7004101040171011a0058ffd8003f01010170011c005bffd9003c00fe016f011f005effda003900fb016f01210061ffdb003700f8016e01240063ffdc003400f5016e01260066ffdd003100f2016e01280069ffde002f00ee016c012b006cffe0002c00eb016c012d006fffe1002a00e8016b012f0072ffe2002700e5016b01310075ffe3002500e2016901330078ffe5002200df01680136007bffe6002000dc01670138007effe7001e00d90165013a0081ffe9001b00d50166013c0084ffea001900d20164013e0087ffec001700cf01630140008affed001500cc01610142008dffef001200c9016101440090fff0001000c6015e01460094fff2000e00c3015d01470097fff4000c00bf015d0149009afff5000a00bc015b014b009dfff7000800b90159014d00a0fff9000600b60158014f00a3fffa000400b30157015000a6fffc000200b00155015200a9fffe000000ad0153015300ad0000fffe00a90152015500b00002fffc00a60150015700b30004fffa00a3014f015800b60006fff900a0014d015900b90008fff7009d014b015b00bc000afff5009a0149015d00bf000cfff400970147015d00c3000efff200940146015e00c60010fff000900144016100c90012ffef008d0142016100cc0015ffed008a0140016300cf0017ffec0087013e016400d20019ffea0084013c016600d5001bffe90081013a016500d9001effe7007e0138016700dc0020ffe6007b0136016800df0022ffe500780133016900e20025ffe300750131016b00e50027ffe20072012f016b00e8002affe1006f012d016c00eb002cffe0006c012b016c00ee002fffde00690128016e00f20031ffdd00660126016e00f50034ffdc00630124016e00f80037ffdb00610121016f00fb0039ffda005e011f016f00fe003cffd9005b011c01700101003fffd80058011a017101040041ffd700550118017101070044ffd6005201150172010a0047ffd5005001130171010d004a0000004a010501620105004a

/-- Built-in vertical set 4 of R225: 64 phases of 6 coefficients of 16 bits, the first lowest. -/
def vcoefSet4 : Nat :=
  0x7100f3012f00f700750001006f00f1012e00f800770003006c00ef012f00f900790004006a00ed012e00fb007b0005006800eb012d00fc007d0007006600e9012d00fd007f0008006400e7012b00ff0081000a006100e5012c01000083000b005f00e3012c01010085000c005d00e1012b01020087000e005b00df012a01040089000f005900dd01290105008b0011005700db01290106008d0012005500d90127010700900014005300d70127010800920015005100d50126010900940017004f00d30125010b00960018004d00d10124010c0098001a004a00cf0124010d009a001c004800cd0124010e009c001d004700cb0122010f009e001f004500c90122011000a00020004300c70121011100a20022004100c50120011200a40024003f00c30120011300a60025003d00c1011f011400a80027003b00bf011e011500aa0029003900bd011d011600ac002b003700bb011d011700ae002c003500b8011d011800b0002e003400b6011b011900b20030003200b4011a011a00b40032003000b20119011b00b60034002e00b00118011d00b80035002c00ae0117011d00bb0037002b00ac0116011d00bd0039002900aa0115011e00bf003b002700a80114011f00c1003d002500a60113012000c3003f002400a40112012000c50041002200a20111012100c70043002000a00110012200c90045001f009e010f012200cb0047001d009c010e012400cd0048001c009a010d012400cf004a001a0098010c012400d1004d00180096010b012500d3004f001700940109012600d50051001500920108012700d70053001400900107012700d900550012008d0106012900db00570011008b0105012900dd0059000f00890104012a00df005b000e00870102012b00e1005d000c00850101012c00e3005f000b00830100012c00e50061000a008100ff012b00e700640008007f00fd012d00e900660007007d00fc012d00eb00680005007b00fb012e00ed006a0004007900f9012f00ef006c0003007700f8012e00f1006f0001007500f7012f00f300710000007300f5013000f50073

/-- Built-in vertical set 5 of R225: 64 phases of 6 coefficients of 16 bits, the first lowest. -/
def vcoefSet5 : Nat :=
  0x8500e1010900e300880026008300e0010700e4008a0028008200de010700e5008b0029008000dd010600e6008d002a007e00db010600e7008e002c007c00da010600e70090002d007b00d9010500e80091002e007900d7010500e900920030007700d6010400ea00940031007500d4010600ea00950032007400d3010300eb00970034007200d2010300ec00980035007000d0010300ed009a0036006f00cf010200ed009b0038006d00cd010200ee009d0039006b00cc010200ef009e003a006a00ca010200ef009f003c006800c9010100f000a1003d006600c8010000f100a2003f006500c6010000f100a40040006300c500ff00f200a50042006200c300fe00f300a70043006000c200ff00f300a80044005e00c000fe00f400aa0046005d00bf00fd00f500ab0047005b00be00fd00f500ac0049005a00bc00fc00f600ae004a005800bb00fb00f700af004c005700b900fb00f700b1004d005500b800fa00f800b2004f005300b600fb00f800b40050005200b500f900f900b50052005000b400f800fb00b60053004f00b200f800fa00b80055004d00b100f700fb00b90057004c00af00f700fb00bb0058004a00ae00f600fc00bc005a004900ac00f500fd00be005b004700ab00f500fd00bf005d004600aa00f400fe00c0005e004400a800f300ff00c20060004300a700f300fe00c30062004200a500f200ff00c50063004000a400f1010000c60065003f00a200f1010000c80066003d00a100f0010100c90068003c009f00ef010200ca006a003a009e00ef010200cc006b0039009d00ee010200cd006d0038009b00ed010200cf006f0036009a00ed010300d000700035009800ec010300d200720034009700eb010300d300740032009500ea010600d400750031009400ea010400d600770030009200e9010500d70079002e009100e8010500d9007b002d009000e7010600da007c002c008e00e7010600db007e002a008d00e6010600dd00800029008b00e5010700de00820028008a00e4010700e000830026008800e3010900e100850000008c00eb011200eb008c

/-- Built-in vertical set 6 of R225: 64 phases of 6 coefficients of 16 bits, the first lowest. -/
def vcoefSet6 : Nat :=
  0x9100d500ef00d600930042008f00d400ef00d700940043008e00d300ef00d700950044008c00d100f000d800960045008b00d000ef00d800970047008a00cf00ee00d900980048008800ce00ef00d900990049008700cd00ee00da009a004a008500cc00ee00da009c004b008400cb00ed00db009d004c008300ca00ec00db009e004e008100c900ec00dc009f004f008000c800ec00dc00a00050007f00c700eb00dd00a10051007d00c600ec00dd00a20052007c00c500eb00de00a30053007b00c400ea00de00a40055007900c300ea00df00a50056007800c200ea00df00a60057007700c100e900e000a70058007500c000ea00e000a80059007400bf00e800e100a9005b007300be00e800e100aa005c007100bc00e900e100ac005d007000bb00e800e200ad005e006f00ba00e700e200ae0060006d00b900e700e300af0061006c00b800e700e300b00062006b00b700e600e400b10063006a00b600e500e400b20065006800b500e600e400b30066006700b400e500e500b40067006600b300e400e600b50068006500b200e400e500b6006a006300b100e400e600b7006b006200b000e300e700b8006c006100af00e300e700b9006d006000ae00e200e700ba006f005e00ad00e200e800bb0070005d00ac00e100e900bc0071005c00aa00e100e800be0073005b00a900e100e800bf0074005900a800e000ea00c00075005800a700e000e900c10077005700a600df00ea00c20078005600a500df00ea00c30079005500a400de00ea00c4007b005300a300de00eb00c5007c005200a200dd00ec00c6007d005100a100dd00eb00c7007f005000a000dc00ec00c80080004f009f00dc00ec00c90081004e009e00db00ec00ca0083004c009d00db00ed00cb0084004b009c00da00ee00cc0085004a009a00da00ee00cd00870049009900d900ef00ce00880048009800d900ee00cf008a0047009700d800ef00d0008b0045009600d800f000d1008c0044009500d700ef00d3008e0043009400d700ef00d4008f0042009300d600ef00d500910000009c00e4010000e4009c

end Sys2Proof.Machine
end

