-- ==== Sys2Proof/Machine/Dict.lean ====
section
/-!
DEFINITION. The object dictionary: one row per row of the object tables, with the member's type (R33), access class
(R37), default (R32; the R695 fallback where the table says the value is loaded) and stated range (R36).
-/
namespace Sys2Proof.Machine

/-- The member types of R33. -/
inductive Ty where
  | bool | u8 | u16 | u32 | u64 | s8 | s16 | s32 | s64 | q16 | time | ref | str | blob
  deriving DecidableEq, Repr

/-- The type code on the wire (R33). -/
def Ty.code : Ty → Nat
  | .bool => 1 | .u8 => 2 | .u16 => 3 | .u32 => 4 | .u64 => 5 | .s8 => 6 | .s16 => 7 | .s32 => 8 | .s64 => 9
  | .q16 => 10 | .time => 11 | .ref => 12 | .str => 13 | .blob => 14

/-- The length in octets of a number of the type (R33); 0 for STRING and BLOB. -/
def Ty.len : Ty → Nat
  | .bool => 1 | .u8 => 1 | .u16 => 2 | .u32 => 4 | .u64 => 8 | .s8 => 1 | .s16 => 2 | .s32 => 4 | .s64 => 8
  | .q16 => 4 | .time => 8 | .ref => 4 | .str => 0 | .blob => 0

/-- The type of a code (R33). -/
def tyOfCode (c : Nat) : Option Ty :=
  match c with
  | 1 => some .bool | 2 => some .u8 | 3 => some .u16 | 4 => some .u32 | 5 => some .u64 | 6 => some .s8
  | 7 => some .s16 | 8 => some .s32 | 9 => some .s64 | 10 => some .q16 | 11 => some .time | 12 => some .ref
  | 13 => some .str | 14 => some .blob | _ => none

/-- The access classes of R37. -/
inductive Acc where
  | r | rw | rwf | w | x
  deriving DecidableEq, Repr

/-- The kinds of range a table states for a member (R36). -/
inductive Rng where
  | any
  | nat (lo hi : Nat)
  | orVal (lo hi v : Nat)
  | sint (lo hi : Int)
  | mask (m : Nat)
  | len (n : Nat)
  | lenMax (n : Nat)
  | set (l : List Nat)
  | evenNat (lo hi : Nat)
  | gamma
  | noThrees (n : Nat)
  | steps
  | pins
  | counterSelect
  | input
  deriving DecidableEq, Repr

/-- One row of an object table: the class, the instances from lo to hi, the members from m0 to m1. -/
structure MemberRow where
  cls : Nat
  lo : Nat
  hi : Nat
  m0 : Nat
  m1 : Nat
  name : String
  typ : Ty
  acc : Acc
  dflt : Val
  rng : Rng
  arg : Ty
  deriving DecidableEq, Repr

/-- Signed 16-bit values, least significant octet first, one after another. -/
def s16List (l : List Int) : List Byte := (l.map (fun x => leBytes 2 (twosOf 16 x))).flatten

/-- The identity matrix of R233, laid out as R240 gives. -/
def outputMatrixDefault : List Byte := s16List [4096, 0, 0, 0, 0, 4096, 0, 0, 0, 0, 4096, 0]

/-- The colorimetry 1 preset of R233, laid out as R240 gives. -/
def inputMatrixDefault : List Byte := s16List [4769, 0, 7343, -3970, 4769, -873, -2183, 1230, 4769, 8652, 0, -4624]

/-- The default gamma table of R240: e[k] = min(16k, 4,095). -/
def gammaDefault : List Byte := ((List.range 257).map (fun k => leBytes 2 (min (16 * k) 4095))).flatten

/-- Built-in horizontal set 0 of R225 as the octets of HCOEF (R240). -/
def hcoefDefault : List Byte := leBytes 1024 hcoefSet0

/-- Built-in vertical set 0 of R225 as the octets of VCOEF (R240). -/
def vcoefDefault : List Byte := leBytes 768 vcoefSet0

/-- The pass-through FILTER of R545: six stages of b0 = 2^30 and the rest 0. -/
def filterDefault : List Byte := ((List.range 6).map (fun _ => leBytes 4 1073741824 ++ zeros 16)).flatten

/-- PLATES with no plate (R272, the fallback of R695): symbol 0xFFFF in each of 8 plates. -/
def platesFallback : List Byte := ((List.range 8).map (fun _ => ffs 2 ++ zeros 6)).flatten

/-- SEGMENT_MAP after reset: 120 bytes of 1 (R491). -/
def segmentMapDefault : List Byte := List.replicate 120 1


/-- Class 0x01 of the object tables. -/
def dict01 : List MemberRow := [
  ⟨0x01, 0x0, 0x0, 1, 1, "SERIAL", .blob, .r, (.bytes (zeros 16)), .any, .blob⟩,
  ⟨0x01, 0x0, 0x0, 2, 2, "SILICON_REVISION", .u16, .r, (.num 0), .any, .u16⟩,
  ⟨0x01, 0x0, 0x0, 3, 3, "LIFECYCLE", .u8, .r, (.num 0), .any, .u8⟩,
  ⟨0x01, 0x0, 0x0, 4, 4, "START_DONE", .bool, .r, (.num 0), .nat 0 1, .bool⟩,
  ⟨0x01, 0x0, 0x0, 5, 5, "START_TIME_MS", .u32, .r, (.num 0), .any, .u32⟩,
  ⟨0x01, 0x0, 0x0, 6, 6, "START_MISSING", .u32, .r, (.num 0), .any, .u32⟩,
  ⟨0x01, 0x0, 0x0, 7, 7, "FK_STATE", .u8, .r, (.num 1), .any, .u8⟩,
  ⟨0x01, 0x0, 0x0, 8, 8, "FK_RESTARTS", .u32, .r, (.num 0), .any, .u32⟩,
  ⟨0x01, 0x0, 0x0, 9, 9, "BOOT_RECORD_FAILS", .u32, .r, (.num 0), .any, .u32⟩,
  ⟨0x01, 0x0, 0x0, 10, 10, "BOOT_FAIL_OFFSET", .u32, .r, (.num 4294967295), .any, .u32⟩,
  ⟨0x01, 0x100, 0x107, 1, 1, "STATE", .u8, .r, (.num 0), .any, .u8⟩,
  ⟨0x01, 0x100, 0x107, 2, 2, "FAIL_REASON", .u8, .r, (.num 0), .any, .u8⟩,
  ⟨0x01, 0x100, 0x107, 3, 3, "VERSION", .u32, .r, (.num 0), .any, .u32⟩,
  ⟨0x01, 0x100, 0x107, 4, 4, "SECURITY_VERSION", .u8, .r, (.num 0), .any, .u8⟩,
  ⟨0x01, 0x100, 0x107, 5, 5, "ACTIVE", .bool, .r, (.num 0), .nat 0 1, .bool⟩,
  ⟨0x01, 0x100, 0x107, 6, 6, "PREFERRED", .bool, .r, (.num 0), .nat 0 1, .bool⟩,
  ⟨0x01, 0x100, 0x107, 7, 7, "IMAGE", .blob, .w, (.bytes []), .any, .blob⟩,
  ⟨0x01, 0x100, 0x107, 8, 8, "ERASE", .u8, .x, (.num 0), .nat 0 0, .u8⟩,
  ⟨0x01, 0x100, 0x107, 9, 9, "VERIFY", .u8, .x, (.num 0), .nat 0 0, .u8⟩,
  ⟨0x01, 0x100, 0x107, 10, 10, "ACTIVATE", .u8, .x, (.num 0), .nat 0 0, .u8⟩]

/-- Class 0x02 of the object tables. -/
def dict02 : List MemberRow := [
  ⟨0x02, 0x0, 0x0, 1, 1, "STATE", .u8, .r, (.num 0), .any, .u8⟩,
  ⟨0x02, 0x0, 0x0, 2, 2, "SLEEP", .u8, .x, (.num 0), .nat 1 2, .u8⟩,
  ⟨0x02, 0x0, 0x0, 3, 3, "RETAIN_DRAM", .bool, .rw, (.num 0), .nat 0 1, .bool⟩,
  ⟨0x02, 0x0, 0x0, 4, 4, "EMBER_SCRATCH", .blob, .rw, (.bytes (zeros 12)), .len 12, .blob⟩,
  ⟨0x02, 0x0, 0x0, 5, 5, "EMBER_CLUSTER", .u16, .rw, (.num 0), .mask 4095, .u16⟩,
  ⟨0x02, 0x0, 0x0, 6, 6, "TELLTALE_POLICY", .u8, .rw, (.num 0), .nat 0 1, .u8⟩,
  ⟨0x02, 0x0, 0x0, 7, 7, "WAKE_N_ENABLE", .bool, .rw, (.num 1), .nat 0 1, .bool⟩,
  ⟨0x02, 0x0, 0x0, 8, 8, "LAST_WAKE_SOURCE", .u8, .r, (.num 0), .any, .u8⟩,
  ⟨0x02, 0x0, 0x0, 9, 9, "LAST_WAKE_DETAIL", .u16, .r, (.num 0), .any, .u16⟩,
  ⟨0x02, 0x0, 0x0, 10, 10, "LAST_WAKE_TIME", .time, .r, (.num 0), .any, .time⟩,
  ⟨0x02, 0x0, 0x0, 11, 11, "SLEEP_ABORTS", .u32, .r, (.num 0), .any, .u32⟩,
  ⟨0x02, 0x0, 0x0, 12, 12, "OPERATING_HOURS", .u32, .r, (.num 0), .any, .u32⟩,
  ⟨0x02, 0x0, 0x0, 13, 13, "SLEEP_CYCLES", .u32, .r, (.num 0), .any, .u32⟩,
  ⟨0x02, 0x1, 0x1, 1, 1, "TIME", .time, .r, (.num 0), .any, .time⟩,
  ⟨0x02, 0x1, 0x1, 2, 2, "REQUESTED", .u8, .r, (.num 0), .any, .u8⟩,
  ⟨0x02, 0x1, 0x1, 3, 3, "STEP", .u8, .r, (.num 0), .any, .u8⟩,
  ⟨0x02, 0x1, 0x1, 4, 4, "BLOCK", .u8, .r, (.num 0), .any, .u8⟩,
  ⟨0x02, 0x1, 0x1, 5, 5, "REASON", .u8, .r, (.num 0), .any, .u8⟩,
  ⟨0x02, 0x1, 0x1, 6, 6, "DETAIL", .u16, .r, (.num 65535), .any, .u16⟩,
  ⟨0x02, 0x2, 0x2, 1, 1, "SUPPLY_STATE", .u8, .r, (.num 0), .any, .u8⟩,
  ⟨0x02, 0x2, 0x2, 2, 2, "VIN_MV", .u16, .r, (.num 0), .any, .u16⟩,
  ⟨0x02, 0x2, 0x2, 3, 3, "INPUT_MW", .u32, .r, (.num 0), .any, .u32⟩,
  ⟨0x02, 0x2, 0x2, 4, 4, "VPOC_MV", .u16, .r, (.num 0), .any, .u16⟩,
  ⟨0x02, 0x2, 0x2, 5, 5, "CRANKS", .u32, .r, (.num 0), .any, .u32⟩,
  ⟨0x02, 0x2, 0x2, 6, 6, "LAST_POWER_LOSS", .u8, .r, (.num 0), .any, .u8⟩,
  ⟨0x02, 0x3, 0x3, 1, 1, "TJ", .s16, .r, (.num 0), .any, .s16⟩,
  ⟨0x02, 0x3, 0x3, 2, 2, "TJ_PREDICTED", .s16, .r, (.num 0), .any, .s16⟩,
  ⟨0x02, 0x3, 0x3, 3, 3, "STEP", .u8, .r, (.num 0), .any, .u8⟩,
  ⟨0x02, 0x3, 0x3, 4, 4, "CAUSE", .u8, .r, (.num 0), .any, .u8⟩,
  ⟨0x02, 0x3, 0x3, 5, 5, "TRIPS", .u32, .r, (.num 0), .any, .u32⟩,
  ⟨0x02, 0x4, 0x4, 1, 1, "REQUEST", .u16, .x, (.num 0), .nat 0 20, .u16⟩,
  ⟨0x02, 0x4, 0x4, 2, 2, "STATE", .u8, .r, (.num 0), .any, .u8⟩,
  ⟨0x02, 0x4, 0x4, 3, 3, "REFUSAL", .u8, .r, (.num 0), .any, .u8⟩,
  ⟨0x02, 0x4, 0x4, 4, 4, "WINDOW_MS", .u32, .r, (.num 0), .any, .u32⟩,
  ⟨0x02, 0x4, 0x4, 5, 5, "LIFETIME_S", .u32, .r, (.num 0), .any, .u32⟩,
  ⟨0x02, 0x4, 0x4, 6, 6, "EPISODES", .u32, .r, (.num 0), .any, .u32⟩,
  ⟨0x02, 0x100, 0x10F, 1, 1, "REQUEST", .bool, .rw, (.num 0), .nat 0 1, .bool⟩,
  ⟨0x02, 0x100, 0x10F, 2, 2, "MODE", .u8, .rw, (.num 0), .nat 0 2, .u8⟩,
  ⟨0x02, 0x100, 0x10F, 3, 3, "DIM", .u8, .rw, (.num 128), .any, .u8⟩,
  ⟨0x02, 0x100, 0x10F, 4, 4, "CAUSE", .u8, .r, (.num 0), .any, .u8⟩]

/-- Class 0x03 of the object tables. -/
def dict03 : List MemberRow := [
  ⟨0x03, 0x0, 0x0, 1, 1, "TIME", .time, .r, (.num 0), .any, .time⟩,
  ⟨0x03, 0x0, 0x0, 2, 2, "TIME_VALID", .bool, .r, (.num 0), .nat 0 1, .bool⟩,
  ⟨0x03, 0x0, 0x0, 3, 3, "SOURCE", .u8, .rw, (.num 0), .nat 0 3, .u8⟩,
  ⟨0x03, 0x0, 0x0, 4, 4, "STATE", .u8, .r, (.num 0), .any, .u8⟩,
  ⟨0x03, 0x0, 0x0, 5, 5, "OFFSET_NS", .s64, .r, (.num 0), .any, .s64⟩,
  ⟨0x03, 0x0, 0x0, 6, 6, "RATE_PPB", .s32, .r, (.num 0), .any, .s32⟩,
  ⟨0x03, 0x0, 0x0, 7, 7, "STEP_THRESHOLD_NS", .u32, .rw, (.num 10000), .nat 1000 1000000000, .u32⟩,
  ⟨0x03, 0x0, 0x0, 8, 8, "PPS_IN_OFFSET_NS", .s32, .rw, (.num 0), .sint (-500000000) (499999999), .s32⟩,
  ⟨0x03, 0x0, 0x0, 9, 9, "PPS_OUT_ENABLE", .bool, .rw, (.num 0), .nat 0 1, .bool⟩,
  ⟨0x03, 0x0, 0x0, 10, 10, "PPS_OUT_OFFSET_NS", .u32, .rw, (.num 0), .nat 0 999999999, .u32⟩,
  ⟨0x03, 0x0, 0x0, 11, 11, "PPS_OUT_WIDTH_US", .u32, .rw, (.num 100000), .nat 1 500000, .u32⟩,
  ⟨0x03, 0x0, 0x0, 12, 12, "PPS_REJECTED", .u32, .r, (.num 0), .any, .u32⟩,
  ⟨0x03, 0x0, 0x0, 13, 13, "STEPS", .u32, .r, (.num 0), .any, .u32⟩,
  ⟨0x03, 0x0, 0x0, 14, 14, "SET_TIME", .time, .x, (.num 0), .any, .time⟩,
  ⟨0x03, 0x0, 0x0, 15, 15, "LOG_NEXT", .u8, .r, (.num 0), .any, .u8⟩,
  ⟨0x03, 0x10, 0x17, 1, 1, "TIME", .time, .r, (.num 0), .any, .time⟩,
  ⟨0x03, 0x10, 0x17, 2, 2, "STEP", .s64, .r, (.num 0), .any, .s64⟩,
  ⟨0x03, 0x10, 0x17, 3, 3, "CAUSE", .u8, .r, (.num 0), .any, .u8⟩,
  ⟨0x03, 0x20, 0x23, 1, 1, "ENTRY", .time, .r, (.num 0), .any, .time⟩,
  ⟨0x03, 0x20, 0x23, 2, 2, "EXIT", .time, .r, (.num 0), .any, .time⟩,
  ⟨0x03, 0x20, 0x23, 3, 3, "RTC_TICKS", .u64, .r, (.num 0), .any, .u64⟩,
  ⟨0x03, 0x20, 0x23, 4, 4, "WAKE_STEP", .s64, .r, (.num 0), .any, .s64⟩,
  ⟨0x03, 0x20, 0x23, 5, 5, "STATE_SLEPT", .u8, .r, (.num 0), .any, .u8⟩]

/-- Class 0x08 of the object tables. -/
def dict08 : List MemberRow := [
  ⟨0x08, 0x0, 0x0, 1, 1, "MAKER_ROOT_KEY", .blob, .r, (.bytes []), .any, .blob⟩,
  ⟨0x08, 0x0, 0x0, 2, 2, "ENROL", .blob, .x, (.bytes []), .len 97, .blob⟩,
  ⟨0x08, 0x0, 0x0, 3, 3, "REVOKED_KEYS", .u64, .r, (.num 0), .any, .u64⟩,
  ⟨0x08, 0x0, 0x0, 4, 4, "REVOKE", .u8, .x, (.num 0), .mask 159, .u8⟩,
  ⟨0x08, 0x0, 0x0, 5, 5, "ROLLBACK_FUSES", .blob, .r, (.bytes (zeros 5)), .any, .blob⟩,
  ⟨0x08, 0x0, 0x0, 6, 6, "ADVANCE", .u16, .x, (.num 0), .any, .u16⟩,
  ⟨0x08, 0x0, 0x0, 7, 7, "ATTEST", .blob, .x, (.bytes []), .len 32, .blob⟩,
  ⟨0x08, 0x0, 0x0, 8, 8, "ATTEST_CERT", .blob, .r, (.bytes []), .any, .blob⟩,
  ⟨0x08, 0x0, 0x0, 9, 9, "LITE_KEY", .blob, .w, (.bytes []), .len 32, .blob⟩,
  ⟨0x08, 0x10, 0x17, 1, 1, "HOST_KEY", .blob, .r, (.bytes []), .any, .blob⟩,
  ⟨0x08, 0x20, 0x23, 1, 1, "PANEL_CA_KEY", .blob, .r, (.bytes []), .any, .blob⟩,
  ⟨0x08, 0x10, 0x17, 2, 2, "REVOKED", .bool, .r, (.num 0), .nat 0 1, .bool⟩,
  ⟨0x08, 0x20, 0x23, 2, 2, "REVOKED", .bool, .r, (.num 0), .nat 0 1, .bool⟩,
  ⟨0x08, 0x10, 0x17, 3, 3, "REVOKE_SLOT", .u8, .x, (.num 0), .nat 0 0, .u8⟩,
  ⟨0x08, 0x20, 0x23, 3, 3, "REVOKE_SLOT", .u8, .x, (.num 0), .nat 0 0, .u8⟩]

/-- Class 0x10 of the object tables. -/
def dict10 : List MemberRow := [
  ⟨0x10, 0x0, 0xF, 48, 48, "INPUT_MATRIX", .blob, .rwf, (.bytes (inputMatrixDefault)), .len 24, .blob⟩,
  ⟨0x10, 0x0, 0xF, 49, 49, "OUTPUT_MATRIX", .blob, .rwf, (.bytes (outputMatrixDefault)), .len 24, .blob⟩,
  ⟨0x10, 0x0, 0xF, 50, 50, "GAMMA_ENABLE", .bool, .rwf, (.num 0), .nat 0 1, .bool⟩,
  ⟨0x10, 0x0, 0xF, 51, 51, "GAMMA_R", .blob, .rwf, (.bytes (gammaDefault)), .gamma, .blob⟩,
  ⟨0x10, 0x0, 0xF, 52, 52, "GAMMA_G", .blob, .rwf, (.bytes (gammaDefault)), .gamma, .blob⟩,
  ⟨0x10, 0x0, 0xF, 53, 53, "GAMMA_B", .blob, .rwf, (.bytes (gammaDefault)), .gamma, .blob⟩,
  ⟨0x10, 0x0, 0xF, 54, 54, "SCALER_CUSTOM", .bool, .rwf, (.num 0), .nat 0 1, .bool⟩,
  ⟨0x10, 0x0, 0xF, 55, 55, "HCOEF", .blob, .rwf, (.bytes (hcoefDefault)), .len 1024, .blob⟩,
  ⟨0x10, 0x0, 0xF, 56, 56, "VCOEF", .blob, .rwf, (.bytes (vcoefDefault)), .len 768, .blob⟩,
  ⟨0x10, 0x0, 0xF, 1, 1, "STATE", .u8, .r, (.num 0), .any, .u8⟩,
  ⟨0x10, 0x0, 0xF, 2, 2, "FRAME_COUNT", .u32, .r, (.num 0), .any, .u32⟩,
  ⟨0x10, 0x0, 0xF, 3, 3, "ENABLE", .bool, .rwf, (.num 0), .nat 0 1, .bool⟩,
  ⟨0x10, 0x0, 0xF, 4, 4, "SAFETY", .bool, .rwf, (.num 0), .nat 0 1, .bool⟩,
  ⟨0x10, 0x0, 0xF, 5, 5, "LANE", .u8, .rwf, (.num 255), .orVal 0 31 255, .u8⟩,
  ⟨0x10, 0x0, 0xF, 6, 6, "LANES", .u8, .rwf, (.num 1), .nat 1 2, .u8⟩,
  ⟨0x10, 0x0, 0xF, 7, 7, "LINK_BPP", .u8, .rwf, (.num 24), .set [18, 24, 30], .u8⟩,
  ⟨0x10, 0x0, 0xF, 8, 8, "PIXEL_CLOCK", .u32, .rwf, (.num 148500000), .nat 4000000 740000000, .u32⟩,
  ⟨0x10, 0x0, 0xF, 9, 9, "H_ACTIVE", .u16, .rwf, (.num 1920), .evenNat 64 8192, .u16⟩,
  ⟨0x10, 0x0, 0xF, 10, 10, "H_FRONT", .u16, .rwf, (.num 88), .nat 4 4096, .u16⟩,
  ⟨0x10, 0x0, 0xF, 11, 11, "H_SYNC", .u16, .rwf, (.num 44), .nat 4 4096, .u16⟩,
  ⟨0x10, 0x0, 0xF, 12, 12, "H_BACK", .u16, .rwf, (.num 148), .nat 4 4096, .u16⟩,
  ⟨0x10, 0x0, 0xF, 13, 13, "V_ACTIVE", .u16, .rwf, (.num 1080), .nat 64 8192, .u16⟩,
  ⟨0x10, 0x0, 0xF, 14, 14, "V_FRONT", .u16, .rwf, (.num 4), .nat 1 4096, .u16⟩,
  ⟨0x10, 0x0, 0xF, 15, 15, "V_SYNC", .u16, .rwf, (.num 5), .nat 1 4096, .u16⟩,
  ⟨0x10, 0x0, 0xF, 16, 16, "V_BACK", .u16, .rwf, (.num 36), .nat 1 4096, .u16⟩,
  ⟨0x10, 0x0, 0xF, 17, 17, "UNDERRUN_POLICY", .u8, .rwf, (.num 0), .nat 0 1, .u8⟩,
  ⟨0x10, 0x0, 0xF, 18, 18, "UNDERRUN_COLOUR", .u32, .rwf, (.num 4278190080), .any, .u32⟩,
  ⟨0x10, 0x0, 0xF, 19, 22, "LINE_MATCH", .u16, .rwf, (.num 65535), .orVal 0 16383 65535, .u16⟩,
  ⟨0x10, 0x0, 0xF, 23, 23, "PHASE_ERROR", .s32, .r, (.num 0), .any, .s32⟩,
  ⟨0x10, 0x0, 0xF, 24, 24, "LAST_BOUNDARY", .time, .r, (.num 0), .any, .time⟩,
  ⟨0x10, 0x0, 0xF, 25, 25, "UNDERRUN_LINES", .u32, .r, (.num 0), .any, .u32⟩,
  ⟨0x10, 0x0, 0xF, 26, 26, "LAST_UNDERRUN_LINE", .u16, .r, (.num 0), .any, .u16⟩,
  ⟨0x10, 0x0, 0xF, 27, 27, "LOCKED_WRITES", .u32, .r, (.num 0), .any, .u32⟩,
  ⟨0x10, 0x0, 0xF, 28, 28, "RELOCK_HELD", .u32, .r, (.num 0), .any, .u32⟩]

/-- Class 0x11 of the object tables. -/
def dict11 : List MemberRow := [
  ⟨0x11, 0xFFFF, 0xFFFF, 1, 1, "ALLOC", .ref, .x, (.num 0), .any, .u16⟩,
  ⟨0x11, 0xFFFF, 0xFFFF, 2, 2, "FREE", .ref, .x, (.num 0), .any, .ref⟩,
  ⟨0x11, 0xFFFF, 0xFFFF, 3, 3, "IN_USE", .u16, .r, (.num 0), .any, .u16⟩,
  ⟨0x11, 0xFFFF, 0xFFFF, 4, 4, "LIMIT", .u16, .r, (.num 256), .any, .u16⟩,
  ⟨0x11, 0xFFFF, 0xFFFF, 5, 5, "PENDING_FREE", .u16, .r, (.num 0), .any, .u16⟩,
  ⟨0x11, 0x0, 0xFF, 1, 1, "STATE", .u8, .r, (.num 1), .any, .u8⟩,
  ⟨0x11, 0x0, 0xFF, 2, 2, "LEASE_HEADS", .u16, .r, (.num 0), .any, .u16⟩,
  ⟨0x11, 0x0, 0xFF, 3, 3, "HEAD", .ref, .rwf, (.num 0), .any, .ref⟩,
  ⟨0x11, 0x0, 0xFF, 4, 4, "TOP", .u16, .rwf, (.num 0), .any, .u16⟩,
  ⟨0x11, 0x0, 0xFF, 5, 5, "HEIGHT", .u16, .rwf, (.num 0), .any, .u16⟩,
  ⟨0x11, 0x0, 0xFF, 6, 6, "ENABLE", .bool, .rwf, (.num 0), .nat 0 1, .bool⟩,
  ⟨0x11, 0x0, 0xFF, 7, 7, "BACKGROUND", .u32, .rwf, (.num 4278190080), .any, .u32⟩,
  ⟨0x11, 0x0, 0xFF, 8, 8, "PIPES", .u32, .r, (.num 0), .any, .u32⟩]

/-- Class 0x12 of the object tables. -/
def dict12 : List MemberRow := [
  ⟨0x12, 0xFFFF, 0xFFFF, 1, 1, "ALLOC", .ref, .x, (.num 0), .any, .u16⟩,
  ⟨0x12, 0xFFFF, 0xFFFF, 2, 2, "FREE", .ref, .x, (.num 0), .any, .ref⟩,
  ⟨0x12, 0xFFFF, 0xFFFF, 3, 3, "IN_USE", .u16, .r, (.num 0), .any, .u16⟩,
  ⟨0x12, 0xFFFF, 0xFFFF, 4, 4, "LIMIT", .u16, .r, (.num 1024), .any, .u16⟩,
  ⟨0x12, 0xFFFF, 0xFFFF, 5, 5, "PENDING_FREE", .u16, .r, (.num 0), .any, .u16⟩,
  ⟨0x12, 0x0, 0x3FF, 1, 1, "STATE", .u8, .r, (.num 1), .any, .u8⟩,
  ⟨0x12, 0x0, 0x3FF, 2, 2, "LEASE_HEADS", .u16, .r, (.num 0), .any, .u16⟩,
  ⟨0x12, 0x0, 0x3FF, 3, 3, "BAND", .ref, .rwf, (.num 0), .any, .ref⟩,
  ⟨0x12, 0x0, 0x3FF, 4, 4, "Z", .u8, .rwf, (.num 0), .nat 0 31, .u8⟩,
  ⟨0x12, 0x0, 0x3FF, 5, 5, "ENABLE", .bool, .rwf, (.num 0), .nat 0 1, .bool⟩,
  ⟨0x12, 0x0, 0x3FF, 6, 6, "KIND", .u8, .rwf, (.num 0), .nat 0 3, .u8⟩,
  ⟨0x12, 0x0, 0x3FF, 7, 7, "SOURCE", .ref, .rwf, (.num 0), .any, .ref⟩,
  ⟨0x12, 0x0, 0x3FF, 8, 8, "PALETTE", .ref, .rwf, (.num 0), .any, .ref⟩,
  ⟨0x12, 0x0, 0x3FF, 9, 9, "DEST_X", .s16, .rwf, (.num 0), .any, .s16⟩,
  ⟨0x12, 0x0, 0x3FF, 10, 10, "DEST_Y", .s16, .rwf, (.num 0), .any, .s16⟩,
  ⟨0x12, 0x0, 0x3FF, 11, 11, "WIDTH", .u16, .rwf, (.num 0), .nat 1 8192, .u16⟩,
  ⟨0x12, 0x0, 0x3FF, 12, 12, "HEIGHT", .u16, .rwf, (.num 0), .nat 1 8192, .u16⟩,
  ⟨0x12, 0x0, 0x3FF, 13, 13, "SRC_X", .q16, .rwf, (.num 0), .any, .q16⟩,
  ⟨0x12, 0x0, 0x3FF, 14, 14, "SRC_Y", .q16, .rwf, (.num 0), .any, .q16⟩,
  ⟨0x12, 0x0, 0x3FF, 15, 15, "SRC_W", .u16, .rwf, (.num 0), .any, .u16⟩,
  ⟨0x12, 0x0, 0x3FF, 16, 16, "SRC_H", .u16, .rwf, (.num 0), .any, .u16⟩,
  ⟨0x12, 0x0, 0x3FF, 17, 17, "ALPHA", .u8, .rwf, (.num 255), .any, .u8⟩,
  ⟨0x12, 0x0, 0x3FF, 18, 18, "BLEND", .u8, .rwf, (.num 0), .nat 0 5, .u8⟩,
  ⟨0x12, 0x0, 0x3FF, 19, 19, "DEGRADE", .u8, .rwf, (.num 0), .nat 0 3, .u8⟩,
  ⟨0x12, 0x0, 0x3FF, 20, 20, "FALLBACK", .ref, .rwf, (.num 0), .any, .ref⟩,
  ⟨0x12, 0x0, 0x3FF, 21, 21, "HOST_BOUND", .bool, .rwf, (.num 0), .nat 0 1, .bool⟩]

/-- Class 0x13 of the object tables. -/
def dict13 : List MemberRow := [
  ⟨0x13, 0xFFFF, 0xFFFF, 1, 1, "ALLOC", .ref, .x, (.num 0), .any, .u16⟩,
  ⟨0x13, 0xFFFF, 0xFFFF, 2, 2, "FREE", .ref, .x, (.num 0), .any, .ref⟩,
  ⟨0x13, 0xFFFF, 0xFFFF, 3, 3, "IN_USE", .u16, .r, (.num 0), .any, .u16⟩,
  ⟨0x13, 0xFFFF, 0xFFFF, 4, 4, "LIMIT", .u16, .r, (.num 4096), .any, .u16⟩,
  ⟨0x13, 0xFFFF, 0xFFFF, 5, 5, "PENDING_FREE", .u16, .r, (.num 0), .any, .u16⟩,
  ⟨0x13, 0x0, 0xFFF, 1, 1, "STATE", .u8, .r, (.num 0), .any, .u8⟩,
  ⟨0x13, 0x0, 0xFFF, 2, 2, "LEASE_HEADS", .u16, .r, (.num 0), .any, .u16⟩,
  ⟨0x13, 0x0, 0xFFF, 3, 3, "FORMAT", .u8, .rw, (.num 0), .any, .u8⟩,
  ⟨0x13, 0x0, 0xFFF, 4, 4, "WIDTH", .u16, .rw, (.num 0), .nat 1 8192, .u16⟩,
  ⟨0x13, 0x0, 0xFFF, 5, 5, "HEIGHT", .u16, .rw, (.num 0), .nat 1 8192, .u16⟩,
  ⟨0x13, 0x0, 0xFFF, 6, 6, "PITCH", .u32, .rw, (.num 0), .any, .u32⟩,
  ⟨0x13, 0x0, 0xFFF, 7, 7, "BUFFERS", .u8, .rw, (.num 1), .nat 1 8, .u8⟩,
  ⟨0x13, 0x0, 0xFFF, 8, 8, "STREAMING", .bool, .rw, (.num 0), .nat 0 1, .bool⟩,
  ⟨0x13, 0x0, 0xFFF, 9, 9, "PLACEMENT_HINT", .u8, .rw, (.num 0), .nat 0 2, .u8⟩,
  ⟨0x13, 0x0, 0xFFF, 10, 10, "PINNED", .bool, .rwf, (.num 0), .nat 0 1, .bool⟩,
  ⟨0x13, 0x0, 0xFFF, 11, 11, "REALIZE", .u32, .x, (.num 0), .nat 0 0, .u8⟩,
  ⟨0x13, 0x0, 0xFFF, 12, 12, "SIZE", .u32, .r, (.num 0), .any, .u32⟩,
  ⟨0x13, 0x0, 0xFFF, 13, 13, "LOCATION", .u8, .r, (.num 0), .any, .u8⟩,
  ⟨0x13, 0x0, 0xFFF, 14, 14, "ADDRESS", .u64, .r, (.num 0), .any, .u64⟩,
  ⟨0x13, 0x0, 0xFFF, 15, 15, "FRONT", .u8, .rwf, (.num 0), .any, .u8⟩,
  ⟨0x13, 0x0, 0xFFF, 16, 16, "OPAQUE", .bool, .rwf, (.num 0), .nat 0 1, .bool⟩,
  ⟨0x13, 0x0, 0xFFF, 17, 17, "BUFFER_STATE", .u32, .r, (.num 0), .any, .u32⟩,
  ⟨0x13, 0x0, 0xFFF, 18, 18, "HEAD_FRONT", .u64, .r, (.num 18446744073709551615), .any, .u64⟩]

/-- Class 0x14 of the object tables. -/
def dict14 : List MemberRow := [
  ⟨0x14, 0xFFFF, 0xFFFF, 1, 1, "ALLOC", .ref, .x, (.num 0), .any, .u16⟩,
  ⟨0x14, 0xFFFF, 0xFFFF, 2, 2, "FREE", .ref, .x, (.num 0), .any, .ref⟩,
  ⟨0x14, 0xFFFF, 0xFFFF, 3, 3, "IN_USE", .u16, .r, (.num 0), .any, .u16⟩,
  ⟨0x14, 0xFFFF, 0xFFFF, 4, 4, "LIMIT", .u16, .r, (.num 256), .any, .u16⟩,
  ⟨0x14, 0xFFFF, 0xFFFF, 5, 5, "PENDING_FREE", .u16, .r, (.num 0), .any, .u16⟩,
  ⟨0x14, 0x0, 0xFF, 1, 1, "STATE", .u8, .r, (.num 1), .any, .u8⟩,
  ⟨0x14, 0x0, 0xFF, 2, 2, "LEASE_HEADS", .u16, .r, (.num 0), .any, .u16⟩,
  ⟨0x14, 0x0, 0xFF, 3, 3, "TILE_SIZE", .u8, .rwf, (.num 0), .nat 0 1, .u8⟩,
  ⟨0x14, 0x0, 0xFF, 4, 4, "MAP", .ref, .rwf, (.num 0), .any, .ref⟩,
  ⟨0x14, 0x0, 0xFF, 5, 5, "TILES_0", .ref, .rwf, (.num 0), .any, .ref⟩,
  ⟨0x14, 0x0, 0xFF, 6, 6, "TILES_1", .ref, .rwf, (.num 0), .any, .ref⟩,
  ⟨0x14, 0x0, 0xFF, 7, 7, "SCROLL_TABLE", .ref, .rwf, (.num 0), .any, .ref⟩,
  ⟨0x14, 0x0, 0xFF, 8, 8, "ZERO_TRANSPARENT", .bool, .rwf, (.num 1), .nat 0 1, .bool⟩,
  ⟨0x14, 0x0, 0xFF, 9, 24, "PALETTE", .ref, .rwf, (.num 0), .any, .ref⟩]

/-- Class 0x15 of the object tables. -/
def dict15 : List MemberRow := [
  ⟨0x15, 0xFFFF, 0xFFFF, 1, 1, "ALLOC", .ref, .x, (.num 0), .any, .u16⟩,
  ⟨0x15, 0xFFFF, 0xFFFF, 2, 2, "FREE", .ref, .x, (.num 0), .any, .ref⟩,
  ⟨0x15, 0xFFFF, 0xFFFF, 3, 3, "IN_USE", .u16, .r, (.num 0), .any, .u16⟩,
  ⟨0x15, 0xFFFF, 0xFFFF, 4, 4, "LIMIT", .u16, .r, (.num 256), .any, .u16⟩,
  ⟨0x15, 0xFFFF, 0xFFFF, 5, 5, "PENDING_FREE", .u16, .r, (.num 0), .any, .u16⟩,
  ⟨0x15, 0x0, 0xFF, 1, 1, "STATE", .u8, .r, (.num 1), .any, .u8⟩,
  ⟨0x15, 0x0, 0xFF, 2, 2, "LEASE_HEADS", .u16, .r, (.num 0), .any, .u16⟩,
  ⟨0x15, 0x0, 0xFF, 3, 3, "DESCRIPTORS", .ref, .rwf, (.num 0), .any, .ref⟩,
  ⟨0x15, 0x0, 0xFF, 4, 4, "DATA", .ref, .rwf, (.num 0), .any, .ref⟩,
  ⟨0x15, 0x0, 0xFF, 5, 20, "PALETTE", .ref, .rwf, (.num 0), .any, .ref⟩,
  ⟨0x15, 0x0, 0xFF, 21, 21, "OVERFLOW_LINES", .u32, .r, (.num 0), .any, .u32⟩,
  ⟨0x15, 0x0, 0xFF, 22, 22, "LAST_OVERFLOW_LINE", .u16, .r, (.num 0), .any, .u16⟩,
  ⟨0x15, 0x0, 0xFF, 23, 23, "BAD_DESCRIPTORS", .u32, .r, (.num 0), .any, .u32⟩]

/-- Class 0x16 of the object tables. -/
def dict16 : List MemberRow := [
  ⟨0x16, 0xFFFF, 0xFFFF, 1, 1, "ALLOC", .ref, .x, (.num 0), .any, .u16⟩,
  ⟨0x16, 0xFFFF, 0xFFFF, 2, 2, "FREE", .ref, .x, (.num 0), .any, .ref⟩,
  ⟨0x16, 0xFFFF, 0xFFFF, 3, 3, "IN_USE", .u16, .r, (.num 0), .any, .u16⟩,
  ⟨0x16, 0xFFFF, 0xFFFF, 4, 4, "LIMIT", .u16, .r, (.num 1024), .any, .u16⟩,
  ⟨0x16, 0xFFFF, 0xFFFF, 5, 5, "PENDING_FREE", .u16, .r, (.num 0), .any, .u16⟩,
  ⟨0x16, 0x0, 0x3FF, 1, 1, "STATE", .u8, .r, (.num 1), .any, .u8⟩,
  ⟨0x16, 0x0, 0x3FF, 2, 2, "LEASE_HEADS", .u16, .r, (.num 0), .any, .u16⟩,
  ⟨0x16, 0x0, 0x3FF, 3, 3, "BANK", .u8, .rwf, (.num 0), .nat 0 15, .u8⟩,
  ⟨0x16, 0x0, 0x3FF, 4, 4, "ENTRIES", .blob, .rwf, (.bytes (zeros 1024)), .len 1024, .blob⟩]

/-- Class 0x17 of the object tables. -/
def dict17 : List MemberRow := [
  ⟨0x17, 0xFFFF, 0xFFFF, 1, 1, "ALLOC", .ref, .x, (.num 0), .any, .u16⟩,
  ⟨0x17, 0xFFFF, 0xFFFF, 2, 2, "FREE", .ref, .x, (.num 0), .any, .ref⟩,
  ⟨0x17, 0xFFFF, 0xFFFF, 3, 3, "IN_USE", .u16, .r, (.num 0), .any, .u16⟩,
  ⟨0x17, 0xFFFF, 0xFFFF, 4, 4, "LIMIT", .u16, .r, (.num 1024), .any, .u16⟩,
  ⟨0x17, 0xFFFF, 0xFFFF, 5, 5, "PENDING_FREE", .u16, .r, (.num 0), .any, .u16⟩,
  ⟨0x17, 0x0, 0x3FF, 1, 1, "STATE", .u8, .r, (.num 1), .any, .u8⟩,
  ⟨0x17, 0x0, 0x3FF, 2, 2, "LEASE_HEADS", .u16, .r, (.num 0), .any, .u16⟩,
  ⟨0x17, 0x0, 0x3FF, 3, 3, "HEAD", .ref, .rwf, (.num 0), .any, .ref⟩,
  ⟨0x17, 0x0, 0x3FF, 4, 4, "ENABLE", .bool, .rwf, (.num 0), .nat 0 1, .bool⟩,
  ⟨0x17, 0x0, 0x3FF, 5, 5, "IMAGE", .blob, .rw, (.bytes []), .lenMax 69632, .blob⟩,
  ⟨0x17, 0x0, 0x3FF, 6, 6, "LOAD", .u8, .x, (.num 0), .nat 0 0, .u8⟩,
  ⟨0x17, 0x0, 0x3FF, 7, 7, "LOADED", .bool, .r, (.num 0), .nat 0 1, .bool⟩,
  ⟨0x17, 0x0, 0x3FF, 8, 8, "KIND", .u8, .r, (.num 0), .any, .u8⟩,
  ⟨0x17, 0x0, 0x3FF, 9, 9, "ENTRY", .u32, .r, (.num 0), .any, .u32⟩,
  ⟨0x17, 0x0, 0x3FF, 10, 10, "FOOTPRINT", .u32, .r, (.num 0), .any, .u32⟩,
  ⟨0x17, 0x0, 0x3FF, 11, 11, "BANK_BYTES", .u32, .r, (.num 0), .any, .u32⟩,
  ⟨0x17, 0x0, 0x3FF, 12, 12, "S_LINE", .u32, .r, (.num 0), .any, .u32⟩,
  ⟨0x17, 0x0, 0x3FF, 13, 13, "S_FRAME", .u32, .r, (.num 0), .any, .u32⟩,
  ⟨0x17, 0x0, 0x3FF, 14, 14, "RATE", .u32, .r, (.num 0), .any, .u32⟩,
  ⟨0x17, 0x0, 0x3FF, 15, 22, "TARGET", .ref, .rwf, (.num 0), .any, .ref⟩,
  ⟨0x17, 0x0, 0x3FF, 23, 23, "ENGINE", .u8, .r, (.num 255), .any, .u8⟩,
  ⟨0x17, 0x0, 0x3FF, 24, 24, "THREAD", .u8, .r, (.num 255), .any, .u8⟩,
  ⟨0x17, 0x0, 0x3FF, 25, 25, "RUN_STATE", .u8, .r, (.num 0), .any, .u8⟩,
  ⟨0x17, 0x0, 0x3FF, 26, 26, "FAULT_CODE", .u8, .r, (.num 0), .any, .u8⟩,
  ⟨0x17, 0x0, 0x3FF, 27, 27, "FAULT_PC", .u32, .r, (.num 0), .any, .u32⟩,
  ⟨0x17, 0x0, 0x3FF, 28, 28, "FAULTS", .u32, .r, (.num 0), .any, .u32⟩,
  ⟨0x17, 0x0, 0x3FF, 29, 29, "LATE_WRITES", .u32, .r, (.num 0), .any, .u32⟩,
  ⟨0x17, 0x0, 0x3FF, 30, 30, "DROPPED_WRITES", .u32, .r, (.num 0), .any, .u32⟩,
  ⟨0x17, 0x0, 0x3FF, 31, 31, "REJECTED_STORES", .u32, .r, (.num 0), .any, .u32⟩,
  ⟨0x17, 0x0, 0x3FF, 32, 32, "FRAME_OVERRUNS", .u32, .r, (.num 0), .any, .u32⟩]

/-- Class 0x18 of the object tables. -/
def dict18 : List MemberRow := [
  ⟨0x18, 0x0, 0xF, 1, 1, "NUMBER", .u32, .r, (.num 0), .any, .u32⟩,
  ⟨0x18, 0x0, 0xF, 2, 2, "MASK", .u16, .r, (.num 0), .any, .u16⟩,
  ⟨0x18, 0x0, 0xF, 3, 3, "FLAGS", .u8, .r, (.num 0), .any, .u8⟩,
  ⟨0x18, 0x0, 0xF, 4, 4, "RESULT", .u8, .r, (.num 0), .any, .u8⟩,
  ⟨0x18, 0x0, 0xF, 5, 5, "STATE_REASON", .u8, .r, (.num 0), .any, .u8⟩,
  ⟨0x18, 0x0, 0xF, 6, 6, "STATE_HEADS", .u16, .r, (.num 0), .any, .u16⟩,
  ⟨0x18, 0x0, 0xF, 7, 7, "STATE_REF", .ref, .r, (.num 0), .any, .ref⟩,
  ⟨0x18, 0x0, 0xF, 8, 8, "REPORT", .ref, .r, (.num 0), .any, .ref⟩,
  ⟨0x18, 0x0, 0xF, 9, 9, "ADMIT_TIME", .time, .r, (.num 0), .any, .time⟩,
  ⟨0x18, 0x0, 0xF, 10, 10, "APPLIED_MASK", .u16, .r, (.num 0), .any, .u16⟩,
  ⟨0x18, 0x0, 0xF, 11, 11, "SUPERSEDED_MASK", .u16, .r, (.num 0), .any, .u16⟩,
  ⟨0x18, 0x0, 0xF, 12, 12, "TAKEN", .u16, .r, (.num 0), .any, .u16⟩,
  ⟨0x18, 0x0, 0xF, 16, 31, "APPLY_TIME_H", .time, .r, (.num 0), .any, .time⟩,
  ⟨0x18, 0xFFFF, 0xFFFF, 1, 1, "LAST_NUMBER", .u32, .r, (.num 0), .any, .u32⟩,
  ⟨0x18, 0xFFFF, 0xFFFF, 2, 2, "STAGED_COUNT", .u16, .r, (.num 0), .any, .u16⟩,
  ⟨0x18, 0xFFFF, 0xFFFF, 3, 3, "STAGING_LIMIT", .u16, .r, (.num 8192), .any, .u16⟩,
  ⟨0x18, 0xFFFF, 0xFFFF, 4, 4, "DISCARD", .u8, .x, (.num 0), .nat 0 0, .u8⟩,
  ⟨0x18, 0xFFFF, 0xFFFF, 5, 5, "SCENE_LEASE", .u32, .rw, (.num 0), .orVal 100 600000 0, .u32⟩,
  ⟨0x18, 0xFFFF, 0xFFFF, 6, 6, "SCENE_LEASE_EXPIRED", .bool, .r, (.num 0), .nat 0 1, .bool⟩]

/-- Class 0x1A of the object tables, part 1. -/
def dict1Ap0 : List MemberRow := [
  ⟨0x1A, 0x0, 0xF, 1, 1, "NUMBER", .u32, .r, (.num 0), .any, .u32⟩,
  ⟨0x1A, 0x0, 0xF, 2, 2, "RESULT", .u8, .r, (.num 0), .any, .u8⟩,
  ⟨0x1A, 0x0, 0xF, 3, 3, "REASON", .u8, .r, (.num 0), .any, .u8⟩,
  ⟨0x1A, 0x0, 0xF, 4, 4, "HEADS", .u16, .r, (.num 0), .any, .u16⟩,
  ⟨0x1A, 0x0, 0xF, 5, 5, "RESOURCE", .u16, .r, (.num 65535), .any, .u16⟩,
  ⟨0x1A, 0x0, 0xF, 6, 6, "SLOT", .u16, .r, (.num 65535), .any, .u16⟩,
  ⟨0x1A, 0x0, 0xF, 7, 7, "DEMAND", .u64, .r, (.num 0), .any, .u64⟩,
  ⟨0x1A, 0x0, 0xF, 8, 8, "CAPACITY", .u64, .r, (.num 0), .any, .u64⟩,
  ⟨0x1A, 0x0, 0xF, 9, 9, "OBJECT", .ref, .r, (.num 0), .any, .ref⟩,
  ⟨0x1A, 0x0, 0xF, 10, 10, "DEGRADES", .blob, .r, (.bytes []), .any, .blob⟩,
  ⟨0x1A, 0x0, 0xF, 11, 11, "EVAL_US", .u32, .r, (.num 0), .any, .u32⟩,
  ⟨0x1A, 0x0, 0xF, 12, 12, "MIGRATIONS", .u16, .r, (.num 0), .any, .u16⟩,
  ⟨0x1A, 0x100, 0x10F, 1, 1, "CLASS", .u8, .r, (.num 255), .any, .u8⟩,
  ⟨0x1A, 0x100, 0x10F, 2, 2, "MULTIPLE", .u8, .r, (.num 0), .any, .u8⟩,
  ⟨0x1A, 0x100, 0x10F, 3, 3, "OFFSET_SLOTS", .u16, .r, (.num 0), .any, .u16⟩,
  ⟨0x1A, 0x100, 0x10F, 4, 4, "OFFSET_NS", .u64, .r, (.num 0), .any, .u64⟩,
  ⟨0x1A, 0x100, 0x10F, 5, 5, "PIPES", .u32, .r, (.num 0), .any, .u32⟩,
  ⟨0x1A, 0x100, 0x10F, 6, 6, "LANE_PERMILLE", .u16, .r, (.num 0), .any, .u16⟩,
  ⟨0x1A, 0x100, 0x10F, 7, 7, "MODE", .u8, .r, (.num 0), .any, .u8⟩,
  ⟨0x1A, 0x100, 0x10F, 8, 8, "UNDERRUNS", .u32, .r, (.num 0), .any, .u32⟩,
  ⟨0x1A, 0x200, 0x21F, 1, 1, "HEAD", .u8, .r, (.num 255), .any, .u8⟩,
  ⟨0x1A, 0x200, 0x21F, 2, 2, "TIME_PERMILLE", .u16, .r, (.num 0), .any, .u16⟩,
  ⟨0x1A, 0x200, 0x21F, 3, 3, "SRAM_BYTES", .u32, .r, (.num 0), .any, .u32⟩,
  ⟨0x1A, 0x200, 0x21F, 4, 4, "SLOTS", .u8, .r, (.num 0), .any, .u8⟩,
  ⟨0x1A, 0x200, 0x21F, 5, 5, "FAULTED", .bool, .r, (.num 0), .nat 0 1, .bool⟩,
  ⟨0x1A, 0x300, 0x307, 1, 1, "SCAN_PEAK", .u64, .r, (.num 0), .any, .u64⟩,
  ⟨0x1A, 0x300, 0x307, 2, 2, "VIDEO_IN", .u64, .r, (.num 0), .any, .u64⟩,
  ⟨0x1A, 0x300, 0x307, 3, 3, "SCAN_CAPACITY", .u64, .r, (.num 0), .any, .u64⟩,
  ⟨0x1A, 0x300, 0x307, 4, 4, "RETIRED", .bool, .r, (.num 0), .nat 0 1, .bool⟩,
  ⟨0x1A, 0x400, 0x45F, 1, 1, "MODE", .u8, .r, (.num 0), .any, .u8⟩,
  ⟨0x1A, 0x400, 0x45F, 2, 5, "PROGRAM_T", .ref, .r, (.num 0), .any, .ref⟩,
  ⟨0x1A, 0x400, 0x45F, 6, 6, "SCRATCH_USED", .u32, .r, (.num 0), .any, .u32⟩,
  ⟨0x1A, 0x500, 0x500, 1, 1, "MIG_SURFACE", .ref, .r, (.num 0), .any, .ref⟩,
  ⟨0x1A, 0x500, 0x500, 2, 2, "MIG_DEST", .u64, .r, (.num 0), .any, .u64⟩,
  ⟨0x1A, 0x500, 0x500, 3, 3, "MIG_COPIED", .u32, .r, (.num 0), .any, .u32⟩,
  ⟨0x1A, 0x500, 0x500, 4, 4, "MIG_QUEUED", .u16, .r, (.num 0), .any, .u16⟩,
  ⟨0x1A, 0x500, 0x500, 5, 5, "MIGRATIONS_DONE", .u32, .r, (.num 0), .any, .u32⟩,
  ⟨0x1A, 0x500, 0x500, 6, 6, "MIGRATIONS_ABORTED", .u32, .r, (.num 0), .any, .u32⟩,
  ⟨0x1A, 0x600, 0x600, 1, 1, "STEPS", .u8, .r, (.num 0), .any, .u8⟩,
  ⟨0x1A, 0x600, 0x600, 2, 2, "RHO_PERMILLE", .u16, .r, (.num 700), .any, .u16⟩]

/-- Class 0x1A of the object tables, part 2. -/
def dict1Ap1 : List MemberRow := [
  ⟨0x1A, 0x600, 0x600, 3, 3, "ACTIONS", .blob, .r, (.bytes []), .any, .blob⟩]

/-- Class 0x20 of the object tables. -/
def dict20 : List MemberRow := [
  ⟨0x20, 0x100, 0x100, 1, 1, "PACKAGE_STATE", .u8, .r, (.num 0), .any, .u8⟩,
  ⟨0x20, 0x100, 0x100, 2, 2, "PACKAGE_VERSION", .u32, .r, (.num 0), .any, .u32⟩,
  ⟨0x20, 0x100, 0x100, 3, 3, "SYMBOLS", .u16, .r, (.num 0), .any, .u16⟩,
  ⟨0x20, 0x100, 0x100, 4, 4, "LOCK", .bool, .rw, (.num 0), .nat 0 1, .bool⟩,
  ⟨0x20, 0x100, 0x100, 5, 5, "BLINK0_PERIOD", .u32, .rw, (.num 660000), .nat 250000 2000000, .u32⟩,
  ⟨0x20, 0x100, 0x100, 6, 6, "BLINK0_ON", .u32, .rw, (.num 330000), .nat 1 2000000, .u32⟩,
  ⟨0x20, 0x100, 0x100, 7, 7, "BLINK1_PERIOD", .u32, .rw, (.num 1000000), .nat 250000 2000000, .u32⟩,
  ⟨0x20, 0x100, 0x100, 8, 8, "BLINK1_ON", .u32, .rw, (.num 500000), .nat 1 2000000, .u32⟩,
  ⟨0x20, 0x100, 0x100, 9, 9, "FAULT_PINS", .u8, .r, (.num 1), .any, .u8⟩,
  ⟨0x20, 0x100, 0x100, 10, 10, "FAULT_CLEAR", .u16, .x, (.num 0), .any, .u16⟩,
  ⟨0x20, 0x100, 0x100, 11, 11, "STORE_CORRECTED", .u32, .r, (.num 0), .any, .u32⟩,
  ⟨0x20, 0x100, 0x100, 12, 12, "LAST_FAULT_TIME", .time, .r, (.num 0), .any, .time⟩,
  ⟨0x20, 0x0, 0xF, 1, 1, "REACTION", .u8, .rw, (.num 1), .nat 0 2, .u8⟩,
  ⟨0x20, 0x0, 0xF, 2, 2, "FAULTS", .u8, .r, (.num 0), .any, .u8⟩,
  ⟨0x20, 0x0, 0xF, 3, 3, "MISMATCHES", .u32, .r, (.num 0), .any, .u32⟩,
  ⟨0x20, 0x0, 0xF, 4, 4, "MISSING_RUN", .u8, .r, (.num 0), .any, .u8⟩,
  ⟨0x20, 0x0, 0xF, 5, 5, "LAST_FAULT_FRAME", .u32, .r, (.num 0), .any, .u32⟩,
  ⟨0x20, 0x0, 0xF, 6, 6, "SIGNED_REGIONS", .u8, .r, (.num 0), .any, .u8⟩,
  ⟨0x20, 0x0, 0xF, 7, 7, "HO_CAUSE", .u8, .r, (.num 0), .any, .u8⟩,
  ⟨0x20, 0x0, 0xF, 8, 8, "HO_REQUEST", .bool, .rw, (.num 0), .nat 0 1, .bool⟩,
  ⟨0x20, 0x0, 0xF, 9, 9, "HO_BACKGROUND", .u32, .rw, (.num 0), .any, .u32⟩,
  ⟨0x20, 0x0, 0xF, 10, 10, "PLATES", .blob, .rw, (.bytes (platesFallback)), .len 64, .blob⟩,
  ⟨0x20, 0x1000, 0x13FF, 1, 1, "ENABLE", .bool, .rw, (.num 0), .nat 0 1, .bool⟩,
  ⟨0x20, 0x1000, 0x13FF, 2, 2, "SYMBOL", .u16, .rw, (.num 0), .any, .u16⟩,
  ⟨0x20, 0x1000, 0x13FF, 3, 3, "X", .u16, .rw, (.num 0), .any, .u16⟩,
  ⟨0x20, 0x1000, 0x13FF, 4, 4, "Y", .u16, .rw, (.num 0), .any, .u16⟩,
  ⟨0x20, 0x1000, 0x13FF, 5, 5, "SIGNAL", .u16, .rw, (.num 65535), .orVal 0 255 65535, .u16⟩,
  ⟨0x20, 0x1000, 0x13FF, 6, 6, "SIGNAL_2", .u16, .rw, (.num 65535), .orVal 0 255 65535, .u16⟩,
  ⟨0x20, 0x1000, 0x13FF, 7, 7, "COMBINE", .u8, .rw, (.num 0), .nat 0 2, .u8⟩,
  ⟨0x20, 0x1000, 0x13FF, 8, 8, "BLINK_GEN", .u8, .rw, (.num 0), .nat 0 1, .u8⟩,
  ⟨0x20, 0x1000, 0x13FF, 9, 9, "COLOUR", .u32, .rw, (.num 0), .any, .u32⟩,
  ⟨0x20, 0x1000, 0x13FF, 10, 10, "SIGNED", .bool, .rw, (.num 1), .nat 0 1, .bool⟩,
  ⟨0x20, 0x1000, 0x13FF, 11, 11, "SHOWN", .u8, .r, (.num 0), .any, .u8⟩]

/-- Class 0x21 of the object tables. -/
def dict21 : List MemberRow := [
  ⟨0x21, 0x0, 0xFF, 1, 1, "SOURCE", .u8, .rw, (.num 0), .nat 0 3, .u8⟩,
  ⟨0x21, 0x0, 0xFF, 2, 2, "UNIT", .u8, .rw, (.num 0), .any, .u8⟩,
  ⟨0x21, 0x0, 0xFF, 3, 3, "IDENT", .u32, .rw, (.num 0), .any, .u32⟩,
  ⟨0x21, 0x0, 0xFF, 4, 4, "VALUE_POS", .u16, .rw, (.num 0), .any, .u16⟩,
  ⟨0x21, 0x0, 0xFF, 5, 5, "VALUE_WIDTH", .u8, .rw, (.num 0), .nat 1 4, .u8⟩,
  ⟨0x21, 0x0, 0xFF, 6, 6, "DECODE", .u32, .rw, (.num 4), .any, .u32⟩,
  ⟨0x21, 0x0, 0xFF, 7, 7, "COUNTER_POS", .u16, .rw, (.num 0), .any, .u16⟩,
  ⟨0x21, 0x0, 0xFF, 8, 8, "COUNTER_WIDTH", .u8, .rw, (.num 0), .set [0, 4, 8], .u8⟩,
  ⟨0x21, 0x0, 0xFF, 9, 9, "MAX_DELTA", .u8, .rw, (.num 1), .nat 1 15, .u8⟩,
  ⟨0x21, 0x0, 0xFF, 10, 10, "CRC_POS", .u16, .rw, (.num 0), .any, .u16⟩,
  ⟨0x21, 0x0, 0xFF, 11, 11, "CRC_WIDTH", .u8, .rw, (.num 0), .set [0, 8, 16], .u8⟩,
  ⟨0x21, 0x0, 0xFF, 12, 12, "CRC_POLY", .u16, .rw, (.num 29), .any, .u16⟩,
  ⟨0x21, 0x0, 0xFF, 13, 13, "CRC_INIT", .u16, .rw, (.num 255), .any, .u16⟩,
  ⟨0x21, 0x0, 0xFF, 14, 14, "CRC_XOROUT", .u16, .rw, (.num 255), .any, .u16⟩,
  ⟨0x21, 0x0, 0xFF, 15, 15, "DATA_ID", .u16, .rw, (.num 0), .any, .u16⟩,
  ⟨0x21, 0x0, 0xFF, 16, 16, "CRC_LEN", .u8, .rw, (.num 0), .any, .u8⟩,
  ⟨0x21, 0x0, 0xFF, 17, 17, "TIMEOUT", .u16, .rw, (.num 0), .nat 0 10000, .u16⟩,
  ⟨0x21, 0x0, 0xFF, 18, 18, "LOSS_STATE", .u8, .rw, (.num 1), .nat 0 3, .u8⟩,
  ⟨0x21, 0x0, 0xFF, 19, 19, "STATE", .u8, .r, (.num 0), .any, .u8⟩,
  ⟨0x21, 0x0, 0xFF, 20, 20, "IN_LOSS", .bool, .r, (.num 1), .nat 0 1, .bool⟩,
  ⟨0x21, 0x0, 0xFF, 21, 21, "E2E_FAILS", .u32, .r, (.num 0), .any, .u32⟩,
  ⟨0x21, 0x0, 0xFF, 22, 22, "TIMEOUTS", .u32, .r, (.num 0), .any, .u32⟩]

/-- Class 0x28 of the object tables. -/
def dict28 : List MemberRow := [
  ⟨0x28, 0x0, 0xF, 1, 1, "IDENTITY_STATE", .u8, .r, (.num 0), .any, .u8⟩,
  ⟨0x28, 0x0, 0xF, 2, 2, "FAIL_REASON", .u8, .r, (.num 0), .any, .u8⟩,
  ⟨0x28, 0x0, 0xF, 3, 3, "PANEL_ID", .blob, .r, (.bytes []), .any, .blob⟩,
  ⟨0x28, 0x0, 0xF, 4, 4, "NEW_PANEL", .bool, .r, (.num 0), .nat 0 1, .bool⟩,
  ⟨0x28, 0x0, 0xF, 5, 5, "ACK_NEW", .u8, .x, (.num 0), .nat 0 0, .u8⟩,
  ⟨0x28, 0x0, 0xF, 6, 6, "AUTH_POLICY", .u8, .rw, (.num 1), .nat 0 1, .u8⟩,
  ⟨0x28, 0x0, 0xF, 7, 7, "WEAR_STATE", .u8, .r, (.num 0), .any, .u8⟩,
  ⟨0x28, 0x0, 0xF, 8, 8, "DOSE_REBUILT", .bool, .r, (.num 0), .nat 0 1, .bool⟩,
  ⟨0x28, 0x0, 0xF, 9, 9, "COMP_ENABLE", .bool, .rw, (.num 1), .nat 0 1, .bool⟩,
  ⟨0x28, 0x0, 0xF, 10, 10, "COMP_FLOOR", .u16, .rw, (.num 26214), .nat 16384 32768, .u16⟩,
  ⟨0x28, 0x0, 0xF, 11, 11, "DITHER", .bool, .rw, (.num 1), .nat 0 1, .bool⟩,
  ⟨0x28, 0x0, 0xF, 12, 12, "ORBIT_ENABLE", .bool, .rw, (.num 1), .nat 0 1, .bool⟩,
  ⟨0x28, 0x0, 0xF, 13, 13, "ORBIT_X", .s8, .r, (.num 0), .any, .s8⟩,
  ⟨0x28, 0x0, 0xF, 14, 14, "ORBIT_Y", .s8, .r, (.num 0), .any, .s8⟩,
  ⟨0x28, 0x0, 0xF, 15, 15, "ORBIT_FILL", .u32, .rw, (.num 4278190080), .any, .u32⟩,
  ⟨0x28, 0x0, 0xF, 16, 16, "WEAR_THRESHOLD", .u16, .rw, (.num 6554), .nat 328 32768, .u16⟩,
  ⟨0x28, 0x0, 0xF, 17, 17, "WORST_LOSS", .u16, .r, (.num 0), .any, .u16⟩,
  ⟨0x28, 0x0, 0xF, 18, 18, "WORST_CELL", .u32, .r, (.num 0), .any, .u32⟩,
  ⟨0x28, 0x0, 0xF, 19, 19, "OPERATING_S", .u32, .r, (.num 0), .any, .u32⟩,
  ⟨0x28, 0x0, 0xF, 20, 20, "LAST_PANEL_WRITE", .time, .r, (.num 0), .any, .time⟩,
  ⟨0x28, 0x0, 0xF, 21, 21, "LAST_SUMMARY_WRITE", .time, .r, (.num 0), .any, .time⟩,
  ⟨0x28, 0x0, 0xF, 22, 22, "WRITE_FAILS", .u32, .r, (.num 0), .any, .u32⟩,
  ⟨0x28, 0x0, 0xF, 23, 23, "DOSE_GAP_MS", .u32, .r, (.num 0), .any, .u32⟩]

/-- Class 0x29 of the object tables. -/
def dict29 : List MemberRow := [
  ⟨0x29, 0x0, 0xF, 1, 1, "GEN", .u32, .r, (.num 0), .any, .u32⟩,
  ⟨0x29, 0x0, 0xF, 2, 2, "GRID", .u32, .r, (.num 0), .any, .u32⟩,
  ⟨0x29, 0x0, 0xF, 3, 3, "ROW_READ", .blob, .x, (.bytes []), .any, .u32⟩,
  ⟨0x29, 0x0, 0xF, 4, 4, "GAIN_READ", .blob, .x, (.bytes []), .any, .u32⟩]

/-- Class 0x30 of the object tables. -/
def dict30 : List MemberRow := [
  ⟨0x30, 0x0, 0x1F, 1, 1, "DIRECTION", .u8, .rw, (.num 0), .nat 0 2, .u8⟩,
  ⟨0x30, 0x0, 0x1F, 2, 2, "MEDIA", .u8, .rw, (.num 0), .nat 0 1, .u8⟩,
  ⟨0x30, 0x0, 0x1F, 3, 3, "STATE", .u8, .r, (.num 0), .any, .u8⟩,
  ⟨0x30, 0x0, 0x1F, 4, 4, "TRAIN_RESULT", .u8, .r, (.num 0), .any, .u8⟩,
  ⟨0x30, 0x0, 0x1F, 5, 5, "PRESET", .u8, .r, (.num 4), .any, .u8⟩,
  ⟨0x30, 0x0, 0x1F, 6, 6, "PEER_CAPS", .u8, .r, (.num 0), .any, .u8⟩,
  ⟨0x30, 0x0, 0x1F, 7, 7, "POC_ENABLE", .bool, .rw, (.num 0), .nat 0 1, .bool⟩,
  ⟨0x30, 0x0, 0x1F, 8, 8, "POC_STATE", .u8, .r, (.num 0), .any, .u8⟩,
  ⟨0x30, 0x0, 0x1F, 9, 9, "POC_MA", .u16, .r, (.num 0), .any, .u16⟩,
  ⟨0x30, 0x0, 0x1F, 10, 10, "BLOCK_ERRORS", .u32, .r, (.num 0), .any, .u32⟩,
  ⟨0x30, 0x0, 0x1F, 11, 11, "LINE_ERROR_LINES", .u32, .r, (.num 0), .any, .u32⟩,
  ⟨0x30, 0x0, 0x1F, 12, 12, "CTRL_RETRANSMITS", .u32, .r, (.num 0), .any, .u32⟩,
  ⟨0x30, 0x0, 0x1F, 13, 13, "BC_ERRORS", .u32, .r, (.num 0), .any, .u32⟩,
  ⟨0x30, 0x0, 0x1F, 14, 14, "RETRAINS", .u32, .r, (.num 0), .any, .u32⟩,
  ⟨0x30, 0x0, 0x1F, 15, 15, "TRAIN_FAILS", .u32, .r, (.num 0), .any, .u32⟩,
  ⟨0x30, 0x0, 0x1F, 16, 16, "QUEUE_OVERFLOWS", .u32, .r, (.num 0), .any, .u32⟩,
  ⟨0x30, 0x0, 0x1F, 17, 17, "POC_FAULTS", .u32, .r, (.num 0), .any, .u32⟩,
  ⟨0x30, 0x0, 0x1F, 18, 18, "SKEW_BLOCKS", .u8, .r, (.num 0), .any, .u8⟩]

/-- Class 0x38 of the object tables. -/
def dict38 : List MemberRow := [
  ⟨0x38, 0x0, 0xF, 1, 1, "LANE", .u8, .rw, (.num 255), .orVal 0 31 255, .u8⟩,
  ⟨0x38, 0x0, 0xF, 2, 2, "SURFACE", .ref, .rw, (.num 0), .any, .ref⟩,
  ⟨0x38, 0x0, 0xF, 3, 3, "BUFFER_MODE", .u8, .rw, (.num 0), .nat 0 1, .u8⟩,
  ⟨0x38, 0x0, 0xF, 4, 4, "STREAM_STATE", .u8, .r, (.num 0), .any, .u8⟩,
  ⟨0x38, 0x0, 0xF, 5, 5, "FORMAT", .u8, .r, (.num 0), .any, .u8⟩,
  ⟨0x38, 0x0, 0xF, 6, 6, "WIDTH", .u16, .r, (.num 0), .any, .u16⟩,
  ⟨0x38, 0x0, 0xF, 7, 7, "HEIGHT", .u16, .r, (.num 0), .any, .u16⟩,
  ⟨0x38, 0x0, 0xF, 8, 8, "RATE", .u64, .r, (.num 0), .any, .u64⟩,
  ⟨0x38, 0x0, 0xF, 9, 9, "FRAMES_COMPLETED", .u32, .r, (.num 0), .any, .u32⟩,
  ⟨0x38, 0x0, 0xF, 10, 10, "FRAMES_DROPPED", .u32, .r, (.num 0), .any, .u32⟩,
  ⟨0x38, 0x0, 0xF, 11, 11, "LINES_DAMAGED", .u32, .r, (.num 0), .any, .u32⟩,
  ⟨0x38, 0x0, 0xF, 12, 12, "WRITING", .u8, .r, (.num 255), .any, .u8⟩,
  ⟨0x38, 0x0, 0xF, 13, 13, "LAST_COMPLETE", .u8, .r, (.num 255), .any, .u8⟩,
  ⟨0x38, 0x0, 0xF, 14, 14, "LAST_START_TIME", .time, .r, (.num 0), .any, .time⟩]

/-- Class 0x40 of the object tables. -/
def dict40 : List MemberRow := [
  ⟨0x40, 0x0, 0x7F, 1, 1, "STATE", .u8, .r, (.num 0), .any, .u8⟩,
  ⟨0x40, 0x0, 0x7F, 2, 2, "GEN", .u8, .rw, (.num 0), .nat 0 3, .u8⟩,
  ⟨0x40, 0x0, 0x7F, 3, 3, "TABLE", .u8, .rw, (.num 0), .nat 0 31, .u8⟩,
  ⟨0x40, 0x0, 0x7F, 4, 4, "FREQ", .q16, .rw, (.num 65536000), .nat 65536 1310720000, .q16⟩,
  ⟨0x40, 0x0, 0x7F, 5, 5, "DUTY", .u16, .rw, (.num 32768), .any, .u16⟩,
  ⟨0x40, 0x0, 0x7F, 6, 6, "LEVEL", .u16, .rw, (.num 0), .nat 0 32768, .u16⟩,
  ⟨0x40, 0x0, 0x7F, 7, 7, "ATTACK_MS", .u16, .rw, (.num 5), .nat 0 10000, .u16⟩,
  ⟨0x40, 0x0, 0x7F, 8, 8, "DECAY_MS", .u16, .rw, (.num 0), .nat 0 10000, .u16⟩,
  ⟨0x40, 0x0, 0x7F, 9, 9, "SUSTAIN", .u16, .rw, (.num 32768), .nat 0 32768, .u16⟩,
  ⟨0x40, 0x0, 0x7F, 10, 10, "RELEASE_MS", .u16, .rw, (.num 20), .nat 0 10000, .u16⟩,
  ⟨0x40, 0x0, 0x7F, 11, 11, "DURATION_MS", .u16, .rw, (.num 0), .any, .u16⟩,
  ⟨0x40, 0x0, 0x7F, 12, 12, "SWEEP_END", .q16, .rw, (.num 0), .orVal 65536 1310720000 0, .q16⟩,
  ⟨0x40, 0x0, 0x7F, 13, 13, "SWEEP_MS", .u16, .rw, (.num 0), .nat 1 10000, .u16⟩,
  ⟨0x40, 0x0, 0x7F, 14, 14, "BUS", .u8, .rw, (.num 0), .nat 0 15, .u8⟩,
  ⟨0x40, 0x0, 0x7F, 15, 15, "TRIGGER", .u16, .rw, (.num 65535), .orVal 0 255 65535, .u16⟩,
  ⟨0x40, 0x0, 0x7F, 16, 16, "TRIGGER_MODE", .u8, .rw, (.num 0), .nat 0 2, .u8⟩,
  ⟨0x40, 0x0, 0x7F, 17, 17, "BLINK_GEN", .u8, .rw, (.num 0), .nat 0 1, .u8⟩,
  ⟨0x40, 0x0, 0x7F, 18, 18, "KEY", .u8, .x, (.num 0), .nat 0 1, .u8⟩,
  ⟨0x40, 0x0, 0x7F, 19, 19, "KEY_ONS", .u32, .r, (.num 0), .any, .u32⟩,
  ⟨0x40, 0x110, 0x113, 1, 1, "CLOCK", .u8, .rw, (.num 255), .orVal 0 15 255, .u8⟩,
  ⟨0x40, 0x110, 0x113, 2, 2, "STEPS", .blob, .rw, (.bytes []), .steps, .blob⟩,
  ⟨0x40, 0x110, 0x113, 3, 3, "START", .u8, .x, (.num 0), .any, .u8⟩,
  ⟨0x40, 0x110, 0x113, 4, 4, "STOP", .u8, .x, (.num 0), .nat 0 0, .u8⟩,
  ⟨0x40, 0x110, 0x113, 5, 5, "RUNNING", .bool, .r, (.num 0), .nat 0 1, .bool⟩,
  ⟨0x40, 0x100, 0x100, 1, 1, "ENABLE", .bool, .rw, (.num 0), .nat 0 1, .bool⟩,
  ⟨0x40, 0x100, 0x100, 2, 2, "SPEED_ENTRY", .u8, .rw, (.num 0), .any, .u8⟩,
  ⟨0x40, 0x100, 0x100, 3, 3, "SPEED_POS", .u16, .rw, (.num 0), .any, .u16⟩,
  ⟨0x40, 0x100, 0x100, 4, 4, "SPEED_WIDTH", .u8, .rw, (.num 16), .nat 1 16, .u8⟩,
  ⟨0x40, 0x100, 0x100, 5, 5, "SPEED_SCALE", .q16, .rw, (.num 0), .any, .q16⟩,
  ⟨0x40, 0x100, 0x100, 6, 6, "CUTOFF_KMH", .q16, .rw, (.num 1310720), .any, .q16⟩,
  ⟨0x40, 0x100, 0x100, 7, 7, "HYSTERESIS_KMH", .q16, .rw, (.num 131072), .nat 0 655360, .q16⟩,
  ⟨0x40, 0x100, 0x100, 8, 8, "VOICES", .blob, .rw, (.bytes (zeros 16)), .len 16, .blob⟩,
  ⟨0x40, 0x100, 0x100, 9, 9, "PITCH_PER_KMH", .q16, .rw, (.num 1311), .any, .q16⟩,
  ⟨0x40, 0x100, 0x100, 10, 10, "LOSS_KMH", .q16, .rw, (.num 0), .any, .q16⟩,
  ⟨0x40, 0x100, 0x100, 11, 11, "SPEED_KMH", .q16, .r, (.num 0), .any, .q16⟩,
  ⟨0x40, 0x100, 0x100, 12, 12, "SOUNDING", .bool, .r, (.num 0), .nat 0 1, .bool⟩,
  ⟨0x40, 0x200, 0x21F, 1, 1, "SAMPLES", .blob, .rw, (.bytes (zeros 512)), .len 512, .blob⟩]

/-- Class 0x41 of the object tables. -/
def dict41 : List MemberRow := [
  ⟨0x41, 0x0, 0x2F, 1, 1, "GAINS", .blob, .rw, (.bytes (zeros 128)), .len 128, .blob⟩,
  ⟨0x41, 0x0, 0x2F, 2, 2, "ZC_TIMEOUT_MS", .u8, .rw, (.num 20), .nat 1 100, .u8⟩,
  ⟨0x41, 0x0, 0x2F, 3, 3, "RAMP_MS", .u8, .rw, (.num 10), .nat 1 100, .u8⟩,
  ⟨0x41, 0x0, 0x2F, 4, 4, "LOW_LATENCY", .bool, .rw, (.num 0), .nat 0 1, .bool⟩,
  ⟨0x41, 0x0, 0x2F, 5, 5, "FILTER", .blob, .rw, (.bytes (filterDefault)), .len 120, .blob⟩,
  ⟨0x41, 0x0, 0x2F, 6, 6, "THRESHOLD", .u32, .rw, (.num 8388607), .nat 1 8388607, .u32⟩,
  ⟨0x41, 0x0, 0x2F, 7, 7, "RELEASE_MS", .u16, .rw, (.num 100), .nat 1 5000, .u16⟩,
  ⟨0x41, 0x0, 0x2F, 8, 8, "LIMITING", .u32, .r, (.num 0), .any, .u32⟩,
  ⟨0x41, 0x0, 0x2F, 9, 9, "CLIPS", .u32, .r, (.num 0), .any, .u32⟩,
  ⟨0x41, 0x100, 0x13F, 1, 1, "SOURCE", .u16, .rw, (.num 0), .input, .u16⟩]

/-- Class 0x42 of the object tables. -/
def dict42 : List MemberRow := [
  ⟨0x42, 0x0, 0x3, 1, 1, "ENABLE", .bool, .rw, (.num 0), .nat 0 1, .bool⟩,
  ⟨0x42, 0x0, 0x3, 2, 2, "ROLE", .u8, .rw, (.num 0), .nat 0 1, .u8⟩,
  ⟨0x42, 0x0, 0x3, 3, 3, "RATE", .u8, .rw, (.num 0), .nat 0 1, .u8⟩,
  ⟨0x42, 0x0, 0x3, 4, 4, "SLOTS", .u8, .rw, (.num 8), .nat 2 16, .u8⟩,
  ⟨0x42, 0x0, 0x3, 5, 5, "WIDTH", .u8, .rw, (.num 32), .set [16, 24, 32], .u8⟩,
  ⟨0x42, 0x0, 0x3, 6, 6, "DELAY", .u8, .rw, (.num 1), .nat 0 1, .u8⟩,
  ⟨0x42, 0x0, 0x3, 7, 7, "FSYNC", .u8, .rw, (.num 0), .mask 3, .u8⟩,
  ⟨0x42, 0x0, 0x3, 8, 8, "OUT_SLOTS", .blob, .rw, (.bytes (ffs 16)), .len 16, .blob⟩,
  ⟨0x42, 0x0, 0x3, 9, 9, "SLIPS", .u32, .r, (.num 0), .any, .u32⟩,
  ⟨0x42, 0x10, 0x2F, 1, 1, "ENABLE", .bool, .rw, (.num 0), .nat 0 1, .bool⟩,
  ⟨0x42, 0x10, 0x2F, 2, 2, "CHANNELS", .u8, .rw, (.num 2), .nat 1 8, .u8⟩,
  ⟨0x42, 0x10, 0x2F, 3, 3, "RATE", .u8, .rw, (.num 0), .nat 0 1, .u8⟩,
  ⟨0x42, 0x10, 0x2F, 4, 4, "FIRST_OUTPUT", .u8, .rw, (.num 0), .nat 0 47, .u8⟩,
  ⟨0x42, 0x10, 0x2F, 5, 5, "PRESENT_OFFSET_NS", .u32, .rw, (.num 2000000), .nat 125000 50000000, .u32⟩,
  ⟨0x42, 0x10, 0x2F, 6, 6, "LATE_SAMPLES", .u32, .r, (.num 0), .any, .u32⟩,
  ⟨0x42, 0x10, 0x2F, 7, 7, "MISMATCHES", .u32, .r, (.num 0), .any, .u32⟩,
  ⟨0x42, 0x30, 0x3F, 1, 1, "LANE", .u8, .rw, (.num 255), .orVal 0 31 255, .u8⟩,
  ⟨0x42, 0x30, 0x3F, 2, 2, "STREAM", .u8, .rw, (.num 0), .nat 0 3, .u8⟩,
  ⟨0x42, 0x30, 0x3F, 3, 3, "CHANNELS", .u8, .rw, (.num 2), .nat 1 8, .u8⟩,
  ⟨0x42, 0x30, 0x3F, 4, 4, "RATE", .u8, .rw, (.num 0), .nat 0 1, .u8⟩,
  ⟨0x42, 0x30, 0x3F, 5, 5, "FIRST_OUTPUT", .u8, .rw, (.num 0), .nat 0 47, .u8⟩,
  ⟨0x42, 0x30, 0x3F, 6, 6, "PRESENT_OFFSET_NS", .u32, .rw, (.num 2000000), .nat 125000 50000000, .u32⟩,
  ⟨0x42, 0x30, 0x3F, 7, 7, "FRAMES", .u8, .rw, (.num 6), .nat 1 24, .u8⟩]

/-- Class 0x48 of the object tables, part 1. -/
def dict48p0 : List MemberRow := [
  ⟨0x48, 0x10, 0x10, 1, 1, "ENABLE", .bool, .rw, (.num 1), .nat 0 1, .bool⟩,
  ⟨0x48, 0x10, 0x10, 2, 2, "PORT", .u16, .r, (.num 49702), .any, .u16⟩,
  ⟨0x48, 0x10, 0x10, 3, 3, "SESSIONS", .u8, .r, (.num 0), .any, .u8⟩,
  ⟨0x48, 0x10, 0x10, 4, 4, "CONTROLLER", .u32, .r, (.num 0), .any, .u32⟩,
  ⟨0x48, 0x10, 0x10, 5, 5, "TAG_FAIL", .u32, .r, (.num 0), .any, .u32⟩,
  ⟨0x48, 0x10, 0x10, 6, 6, "DUP_COUNT", .u32, .r, (.num 0), .any, .u32⟩,
  ⟨0x48, 0x10, 0x10, 7, 7, "EVENTS_LOST", .u32, .r, (.num 0), .any, .u32⟩,
  ⟨0x48, 0x10, 0x10, 8, 8, "FRAG_DROPPED", .u32, .r, (.num 0), .any, .u32⟩,
  ⟨0x48, 0x10, 0x10, 9, 9, "IDLE_TIMEOUT", .u32, .rw, (.num 10000), .nat 1000 60000, .u32⟩,
  ⟨0x48, 0x11, 0x11, 1, 1, "LITE_CONTROLLER", .u8, .rw, (.num 255), .orVal 0 3 255, .u8⟩,
  ⟨0x48, 0x11, 0x11, 2, 2, "LITE_REQ_ID", .u32, .rw, (.num 1776), .any, .u32⟩,
  ⟨0x48, 0x11, 0x11, 3, 3, "LITE_RSP_ID", .u32, .rw, (.num 1777), .any, .u32⟩,
  ⟨0x48, 0x11, 0x11, 4, 4, "LITE_EXT_ID", .bool, .rw, (.num 0), .nat 0 1, .bool⟩,
  ⟨0x48, 0x11, 0x11, 5, 5, "LITE_WRITE_ENABLE", .bool, .rw, (.num 0), .nat 0 1, .bool⟩,
  ⟨0x48, 0x11, 0x11, 6, 6, "LITE_TAG_FAIL", .u32, .r, (.num 0), .any, .u32⟩,
  ⟨0x48, 0x100, 0x11F, 1, 1, "STREAM_ID", .u64, .rw, (.num 0), .any, .u64⟩,
  ⟨0x48, 0x100, 0x11F, 2, 2, "DEST_MAC", .blob, .rw, (.bytes (zeros 6)), .len 6, .blob⟩,
  ⟨0x48, 0x100, 0x11F, 3, 3, "VLAN_ID", .u16, .rw, (.num 2), .nat 1 4094, .u16⟩,
  ⟨0x48, 0x100, 0x11F, 4, 4, "CLASS", .u8, .rw, (.num 0), .nat 0 1, .u8⟩,
  ⟨0x48, 0x100, 0x11F, 5, 5, "UPLINK", .u8, .rw, (.num 0), .nat 0 1, .u8⟩,
  ⟨0x48, 0x100, 0x11F, 6, 6, "PDUS", .u32, .r, (.num 0), .any, .u32⟩,
  ⟨0x48, 0x100, 0x11F, 7, 7, "SEQ_GAPS", .u32, .r, (.num 0), .any, .u32⟩,
  ⟨0x48, 0x0, 0x1, 1, 1, "MODE", .u8, .rw, (.num 0), .nat 0 2, .u8⟩,
  ⟨0x48, 0x0, 0x1, 2, 2, "LINK", .bool, .r, (.num 0), .nat 0 1, .bool⟩,
  ⟨0x48, 0x0, 0x1, 3, 3, "SPEED", .u8, .r, (.num 0), .any, .u8⟩,
  ⟨0x48, 0x0, 0x1, 4, 4, "MTU", .u16, .rw, (.num 1500), .nat 1280 9000, .u16⟩,
  ⟨0x48, 0x0, 0x1, 5, 5, "VLAN_ID", .u16, .rw, (.num 0), .nat 0 4094, .u16⟩,
  ⟨0x48, 0x0, 0x1, 6, 6, "PCP", .u8, .rw, (.num 0), .nat 0 7, .u8⟩,
  ⟨0x48, 0x0, 0x1, 7, 7, "GPTP_ROLE", .u8, .rw, (.num 0), .nat 0 2, .u8⟩,
  ⟨0x48, 0x0, 0x1, 8, 8, "INGRESS_LATENCY_NS", .u16, .rw, (.num 0), .any, .u16⟩,
  ⟨0x48, 0x0, 0x1, 9, 9, "EGRESS_LATENCY_NS", .u16, .rw, (.num 0), .any, .u16⟩,
  ⟨0x48, 0x0, 0x1, 10, 10, "LINK_DELAY_NS", .u32, .r, (.num 0), .any, .u32⟩,
  ⟨0x48, 0x0, 0x1, 11, 11, "CLASS_A_PCP", .u8, .rw, (.num 3), .nat 0 7, .u8⟩,
  ⟨0x48, 0x0, 0x1, 12, 12, "CLASS_B_PCP", .u8, .rw, (.num 2), .nat 0 7, .u8⟩,
  ⟨0x48, 0x0, 0x1, 13, 13, "IDLE_SLOPE_A", .u32, .r, (.num 0), .any, .u32⟩,
  ⟨0x48, 0x0, 0x1, 14, 14, "IDLE_SLOPE_B", .u32, .r, (.num 0), .any, .u32⟩,
  ⟨0x48, 0x0, 0x1, 15, 15, "RX_FRAMES", .u64, .r, (.num 0), .any, .u64⟩,
  ⟨0x48, 0x0, 0x1, 16, 16, "TX_FRAMES", .u64, .r, (.num 0), .any, .u64⟩,
  ⟨0x48, 0x0, 0x1, 17, 17, "RX_ERRORS", .u32, .r, (.num 0), .any, .u32⟩,
  ⟨0x48, 0x0, 0x1, 18, 18, "RX_DROPPED", .u32, .r, (.num 0), .any, .u32⟩]

/-- Class 0x48 of the object tables, part 2. -/
def dict48p1 : List MemberRow := [
  ⟨0x48, 0x0, 0x1, 19, 19, "RX_OVERSIZE", .u32, .r, (.num 0), .any, .u32⟩,
  ⟨0x48, 0x0, 0x1, 20, 20, "LINK_DOWNS", .u32, .r, (.num 0), .any, .u32⟩,
  ⟨0x48, 0x0, 0x1, 21, 21, "TX_DISCARDS", .u32, .r, (.num 0), .any, .u32⟩,
  ⟨0x48, 0x8, 0x8, 1, 1, "REDUNDANCY", .u8, .rw, (.num 0), .nat 0 1, .u8⟩,
  ⟨0x48, 0x8, 0x8, 2, 2, "ACTIVE", .u8, .r, (.num 255), .any, .u8⟩,
  ⟨0x48, 0x8, 0x8, 3, 3, "FAILOVERS", .u32, .r, (.num 0), .any, .u32⟩,
  ⟨0x48, 0x8, 0x8, 4, 4, "MAC_0", .blob, .r, (.bytes (zeros 6)), .any, .blob⟩,
  ⟨0x48, 0x8, 0x8, 5, 5, "MAC_1", .blob, .r, (.bytes (zeros 6)), .any, .blob⟩,
  ⟨0x48, 0x8, 0x8, 6, 6, "IPV6_ADDR", .blob, .rw, (.bytes (zeros 16)), .len 16, .blob⟩,
  ⟨0x48, 0x8, 0x8, 7, 7, "IPV4_ADDR", .u32, .rw, (.num 0), .any, .u32⟩,
  ⟨0x48, 0x8, 0x8, 8, 8, "ADDR_STATE", .u8, .r, (.num 0), .any, .u8⟩,
  ⟨0x48, 0x2, 0x3, 1, 1, "ENABLE", .bool, .rw, (.num 0), .nat 0 1, .bool⟩,
  ⟨0x48, 0x2, 0x3, 2, 2, "PLCA_ENABLE", .bool, .rw, (.num 0), .nat 0 1, .bool⟩,
  ⟨0x48, 0x2, 0x3, 3, 3, "NODE_ID", .u8, .rw, (.num 0), .nat 0 254, .u8⟩,
  ⟨0x48, 0x2, 0x3, 4, 4, "NODE_COUNT", .u8, .rw, (.num 8), .nat 1 255, .u8⟩,
  ⟨0x48, 0x2, 0x3, 5, 5, "TO_TIMER", .u8, .rw, (.num 32), .nat 1 255, .u8⟩,
  ⟨0x48, 0x2, 0x3, 6, 6, "MCAST_FILTER", .blob, .rw, (.bytes (zeros 48)), .len 48, .blob⟩,
  ⟨0x48, 0x2, 0x3, 7, 7, "MAC", .blob, .r, (.bytes (zeros 6)), .any, .blob⟩,
  ⟨0x48, 0x2, 0x3, 8, 8, "PLCA_STATUS", .bool, .r, (.num 0), .nat 0 1, .bool⟩,
  ⟨0x48, 0x2, 0x3, 9, 9, "RX_FRAMES", .u32, .r, (.num 0), .any, .u32⟩,
  ⟨0x48, 0x2, 0x3, 10, 10, "RX_UNMATCHED", .u32, .r, (.num 0), .any, .u32⟩,
  ⟨0x48, 0x2, 0x3, 11, 11, "RX_ERRORS", .u32, .r, (.num 0), .any, .u32⟩,
  ⟨0x48, 0x2, 0x3, 12, 12, "BEACON_LOSSES", .u32, .r, (.num 0), .any, .u32⟩,
  ⟨0x48, 0x4, 0x7, 1, 1, "MODE", .u8, .rw, (.num 0), .nat 0 3, .u8⟩,
  ⟨0x48, 0x4, 0x7, 2, 2, "NOMINAL", .u32, .rw, (.num 0), .any, .u32⟩,
  ⟨0x48, 0x4, 0x7, 3, 3, "DATA", .u32, .rw, (.num 0), .any, .u32⟩,
  ⟨0x48, 0x4, 0x7, 4, 4, "AUTO_RECOVER", .bool, .rw, (.num 1), .nat 0 1, .bool⟩,
  ⟨0x48, 0x4, 0x7, 5, 5, "RESTART", .u8, .x, (.num 0), .nat 0 0, .u8⟩,
  ⟨0x48, 0x4, 0x7, 6, 6, "STATE", .u8, .r, (.num 0), .any, .u8⟩,
  ⟨0x48, 0x4, 0x7, 7, 7, "TEC", .u8, .r, (.num 0), .any, .u8⟩,
  ⟨0x48, 0x4, 0x7, 8, 8, "REC", .u8, .r, (.num 0), .any, .u8⟩,
  ⟨0x48, 0x4, 0x7, 9, 9, "TDC_MEASURED", .u8, .r, (.num 0), .any, .u8⟩,
  ⟨0x48, 0x4, 0x7, 10, 10, "RX_FRAMES", .u32, .r, (.num 0), .any, .u32⟩,
  ⟨0x48, 0x4, 0x7, 11, 11, "TX_FRAMES", .u32, .r, (.num 0), .any, .u32⟩,
  ⟨0x48, 0x4, 0x7, 12, 12, "PROTOCOL_ERRORS", .u32, .r, (.num 0), .any, .u32⟩,
  ⟨0x48, 0x4, 0x7, 13, 13, "BUS_OFFS", .u32, .r, (.num 0), .any, .u32⟩]

/-- Class 0x50 of the object tables. -/
def dict50 : List MemberRow := [
  ⟨0x50, 0x0, 0x3FF, 1, 1, "TARGET", .u8, .rw, (.num 2), .nat 0 3, .u8⟩,
  ⟨0x50, 0x0, 0x3FF, 2, 2, "PROGRAM", .ref, .rw, (.num 0), .any, .ref⟩,
  ⟨0x50, 0x0, 0x3FF, 3, 3, "WAKE_HOST", .bool, .rw, (.num 0), .nat 0 1, .bool⟩,
  ⟨0x50, 0x0, 0x3FF, 4, 4, "STATE", .u8, .r, (.num 0), .any, .u8⟩,
  ⟨0x50, 0x0, 0x3FF, 5, 5, "COUNT", .u8, .r, (.num 0), .any, .u8⟩,
  ⟨0x50, 0x0, 0x3FF, 6, 6, "LEVEL", .bool, .r, (.num 0), .nat 0 1, .bool⟩,
  ⟨0x50, 0x0, 0x3FF, 7, 7, "SENSE", .u8, .r, (.num 0), .any, .u8⟩,
  ⟨0x50, 0x0, 0x3FF, 8, 8, "RAISED", .u32, .r, (.num 0), .any, .u32⟩,
  ⟨0x50, 0x0, 0x3FF, 9, 9, "CLAIMS", .u32, .r, (.num 0), .any, .u32⟩,
  ⟨0x50, 0x400, 0x43F, 1, 1, "HOLDOFF_US", .u16, .rw, (.num 0), .any, .u16⟩,
  ⟨0x50, 0x400, 0x43F, 2, 2, "HOLDING", .bool, .r, (.num 0), .nat 0 1, .bool⟩,
  ⟨0x50, 0x400, 0x43F, 3, 3, "HELD_CLAIMS", .u32, .r, (.num 0), .any, .u32⟩,
  ⟨0x50, 0x800, 0x800, 1, 1, "HOST_STATE", .u8, .rw, (.num 0), .nat 0 1, .u8⟩,
  ⟨0x50, 0x800, 0x800, 2, 2, "RING", .u16, .x, (.num 0), .nat 960 1023, .u16⟩,
  ⟨0x50, 0x800, 0x800, 3, 3, "DOORBELL_REJECTS", .u32, .r, (.num 0), .any, .u32⟩,
  ⟨0x50, 0x800, 0x800, 4, 4, "EOI_ERRORS", .u32, .r, (.num 0), .any, .u32⟩]

/-- Class 0x58 of the object tables. -/
def dict58 : List MemberRow := [
  ⟨0x58, 0x0, 0x4, 1, 1, "DATA_IN", .u32, .r, (.num 0), .any, .u32⟩,
  ⟨0x58, 0x0, 0x4, 2, 2, "DATA_OUT", .u32, .rw, (.num 0), .any, .u32⟩,
  ⟨0x58, 0x0, 0x4, 3, 3, "OE", .u32, .rw, (.num 0), .any, .u32⟩,
  ⟨0x58, 0x0, 0x4, 4, 4, "SET", .u32, .x, (.num 0), .any, .u32⟩,
  ⟨0x58, 0x0, 0x4, 5, 5, "CLEAR", .u32, .x, (.num 0), .any, .u32⟩,
  ⟨0x58, 0x0, 0x4, 6, 6, "TOGGLE", .u32, .x, (.num 0), .any, .u32⟩,
  ⟨0x58, 0x0, 0x4, 7, 7, "PULL", .u64, .rw, (.num 6148914691236517205), .noThrees 32, .u64⟩,
  ⟨0x58, 0x0, 0x4, 8, 8, "SLEEP_STATE", .u64, .rw, (.num 6148914691236517205), .any, .u64⟩,
  ⟨0x58, 0x0, 0x4, 9, 9, "OWNER", .blob, .r, (.bytes (zeros 32)), .any, .blob⟩,
  ⟨0x58, 0x100, 0x100, 1, 1, "CAN_ROUTE", .u8, .rw, (.num 0), .noThrees 4, .u8⟩,
  ⟨0x58, 0x100, 0x100, 2, 2, "TDM_ROUTE", .u8, .rw, (.num 0), .mask 15, .u8⟩,
  ⟨0x58, 0x100, 0x100, 3, 3, "HOST_WAKE_ROUTE", .u8, .rw, (.num 255), .orVal 0 1 255, .u8⟩,
  ⟨0x58, 0x100, 0x100, 4, 4, "HOST_WAKE_POLARITY", .bool, .rw, (.num 0), .nat 0 1, .bool⟩,
  ⟨0x58, 0x200, 0x21F, 1, 1, "PINS", .u32, .rw, (.num 4294967295), .pins, .u32⟩,
  ⟨0x58, 0x200, 0x21F, 2, 2, "PATTERN", .u8, .rw, (.num 0), .any, .u8⟩,
  ⟨0x58, 0x200, 0x21F, 3, 3, "INVERT", .bool, .rw, (.num 0), .nat 0 1, .bool⟩,
  ⟨0x58, 0x200, 0x21F, 4, 4, "DEBOUNCE", .u32, .rw, (.num 0), .nat 0 16777215, .u32⟩,
  ⟨0x58, 0x200, 0x21F, 5, 5, "WAKE", .bool, .rw, (.num 0), .nat 0 1, .bool⟩,
  ⟨0x58, 0x200, 0x21F, 6, 6, "WAKE_DEBOUNCE", .u8, .rw, (.num 1), .nat 1 255, .u8⟩,
  ⟨0x58, 0x200, 0x21F, 7, 7, "OUTPUT", .bool, .r, (.num 0), .nat 0 1, .bool⟩,
  ⟨0x58, 0x200, 0x21F, 8, 8, "CHANGES", .u32, .r, (.num 0), .any, .u32⟩,
  ⟨0x58, 0x300, 0x307, 1, 1, "THRESHOLD", .u8, .rw, (.num 0), .nat 0 2, .u8⟩,
  ⟨0x58, 0x300, 0x307, 2, 2, "POLARITY", .bool, .rw, (.num 0), .nat 0 1, .bool⟩,
  ⟨0x58, 0x300, 0x307, 3, 3, "FILTER_US", .u16, .rw, (.num 0), .any, .u16⟩,
  ⟨0x58, 0x300, 0x307, 4, 4, "WAKE", .bool, .rw, (.num 0), .nat 0 1, .bool⟩,
  ⟨0x58, 0x300, 0x307, 5, 5, "LEVEL", .bool, .r, (.num 0), .nat 0 1, .bool⟩]

/-- Class 0x60 of the object tables. -/
def dict60 : List MemberRow := [
  ⟨0x60, 0x0, 0x1F, 1, 1, "OWNER", .ref, .rw, (.num 0), .any, .ref⟩,
  ⟨0x60, 0x0, 0x1F, 2, 2, "ALIGN", .u8, .rw, (.num 0), .nat 0 1, .u8⟩,
  ⟨0x60, 0x0, 0x1F, 3, 3, "POST", .u64, .x, (.num 0), .any, .u64⟩,
  ⟨0x60, 0x0, 0x1F, 4, 4, "ABORT", .u8, .x, (.num 0), .nat 0 0, .u8⟩,
  ⟨0x60, 0x0, 0x1F, 5, 5, "STATE", .u8, .r, (.num 0), .any, .u8⟩,
  ⟨0x60, 0x0, 0x1F, 6, 6, "QUEUED", .u8, .r, (.num 0), .any, .u8⟩,
  ⟨0x60, 0x0, 0x1F, 7, 7, "LAST_SEQ", .u32, .r, (.num 0), .any, .u32⟩,
  ⟨0x60, 0x0, 0x1F, 8, 8, "LAST_STATUS", .u8, .r, (.num 0), .any, .u8⟩,
  ⟨0x60, 0x0, 0x1F, 9, 9, "LAST_DETAIL", .u8, .r, (.num 0), .any, .u8⟩,
  ⟨0x60, 0x0, 0x1F, 10, 10, "LAST_BYTES", .u64, .r, (.num 0), .any, .u64⟩,
  ⟨0x60, 0x0, 0x1F, 11, 11, "LISTS_DONE", .u32, .r, (.num 0), .any, .u32⟩,
  ⟨0x60, 0x0, 0x1F, 12, 12, "LISTS_FAILED", .u32, .r, (.num 0), .any, .u32⟩,
  ⟨0x60, 0x0, 0x1F, 13, 13, "FOREIGN_POSTS", .u32, .r, (.num 0), .any, .u32⟩]

/-- Class 0x61 of the object tables. -/
def dict61 : List MemberRow := [
  ⟨0x61, 0x0, 0x3, 1, 1, "OWNER", .ref, .rw, (.num 0), .any, .ref⟩,
  ⟨0x61, 0x0, 0x3, 2, 2, "RING_ADDRESS", .u64, .rw, (.num 0), .any, .u64⟩,
  ⟨0x61, 0x0, 0x3, 3, 3, "RING_SIZE", .u16, .rw, (.num 16), .set [16, 32, 64, 128, 256, 512, 1024, 2048, 4096], .u16⟩,
  ⟨0x61, 0x0, 0x3, 4, 4, "ENABLE", .bool, .rw, (.num 0), .nat 0 1, .bool⟩,
  ⟨0x61, 0x0, 0x3, 5, 5, "KICK", .u8, .x, (.num 0), .nat 0 0, .u8⟩,
  ⟨0x61, 0x0, 0x3, 6, 6, "CONSUME", .u32, .r, (.num 0), .any, .u32⟩,
  ⟨0x61, 0x0, 0x3, 7, 7, "KICK_SOURCE", .u16, .r, (.num 0), .any, .u16⟩,
  ⟨0x61, 0x0, 0x3, 8, 8, "COMMANDS_DONE", .u32, .r, (.num 0), .any, .u32⟩,
  ⟨0x61, 0x0, 0x3, 9, 9, "COMMANDS_FAILED", .u32, .r, (.num 0), .any, .u32⟩,
  ⟨0x61, 0x0, 0x3, 10, 10, "FOREIGN_KICKS", .u32, .r, (.num 0), .any, .u32⟩,
  ⟨0x61, 0x100, 0x100, 1, 1, "RATE_STATE", .u8, .r, (.num 0), .any, .u8⟩,
  ⟨0x61, 0x100, 0x100, 2, 2, "RINGS_ACTIVE", .u8, .r, (.num 0), .any, .u8⟩,
  ⟨0x61, 0x100, 0x100, 3, 3, "CAPPED_MS", .u32, .r, (.num 0), .any, .u32⟩]

/-- Class 0x68 of the object tables. -/
def dict68 : List MemberRow := [
  ⟨0x68, 0x100, 0x100, 1, 1, "SCRUB_BLOCKS", .u32, .r, (.num 0), .any, .u32⟩,
  ⟨0x68, 0x100, 0x100, 2, 2, "SCRUB_PASSES", .u32, .r, (.num 0), .any, .u32⟩,
  ⟨0x68, 0x100, 0x100, 3, 3, "LAST_PASS_TIME", .time, .r, (.num 0), .any, .time⟩,
  ⟨0x68, 0x100, 0x100, 4, 4, "RESERVE_PERMILLE", .u16, .r, (.num 700), .any, .u16⟩,
  ⟨0x68, 0x100, 0x100, 5, 5, "SEGMENT_MAP", .blob, .r, (.bytes (segmentMapDefault)), .any, .blob⟩,
  ⟨0x68, 0x100, 0x100, 6, 6, "RESERVED_SEGMENT", .u8, .r, (.num 119), .any, .u8⟩,
  ⟨0x68, 0x100, 0x100, 7, 7, "RETIRE_LIMIT", .u16, .rw, (.num 8), .nat 1 1000, .u16⟩,
  ⟨0x68, 0x100, 0x100, 8, 8, "SRAM_CORRECTED", .u32, .r, (.num 0), .any, .u32⟩,
  ⟨0x68, 0x100, 0x100, 9, 9, "SRAM_UNCORRECTABLE", .u32, .r, (.num 0), .any, .u32⟩,
  ⟨0x68, 0x100, 0x100, 10, 10, "SRAM_COLLISIONS", .u32, .r, (.num 0), .any, .u32⟩,
  ⟨0x68, 0x100, 0x100, 11, 11, "UNMAPPED_ACCESSES", .u32, .r, (.num 0), .any, .u32⟩,
  ⟨0x68, 0x100, 0x100, 12, 12, "INIT_TIME", .u32, .r, (.num 0), .any, .u32⟩,
  ⟨0x68, 0x100, 0x100, 13, 13, "REPAIRED_COLUMNS", .u16, .r, (.num 0), .any, .u16⟩,
  ⟨0x68, 0x100, 0x100, 14, 14, "LOG_NEXT", .u8, .r, (.num 0), .any, .u8⟩,
  ⟨0x68, 0x0, 0x7, 1, 1, "STATE", .u8, .r, (.num 0), .any, .u8⟩,
  ⟨0x68, 0x0, 0x7, 2, 2, "RETIRE_CAUSE", .u8, .r, (.num 0), .any, .u8⟩,
  ⟨0x68, 0x0, 0x7, 3, 3, "TRAINING", .u8, .r, (.num 0), .any, .u8⟩,
  ⟨0x68, 0x0, 0x7, 4, 4, "CORRECTED", .u32, .r, (.num 0), .any, .u32⟩,
  ⟨0x68, 0x0, 0x7, 5, 5, "UNCORRECTABLE", .u32, .r, (.num 0), .any, .u32⟩,
  ⟨0x68, 0x0, 0x7, 6, 6, "UE_PASS", .u16, .r, (.num 0), .any, .u16⟩,
  ⟨0x68, 0x0, 0x7, 7, 7, "RMW_FAILS", .u32, .r, (.num 0), .any, .u32⟩,
  ⟨0x68, 0x0, 0x7, 8, 8, "RETIRE", .u8, .x, (.num 0), .nat 0 0, .u8⟩,
  ⟨0x68, 0x0, 0x7, 9, 9, "UNRETIRE", .u8, .x, (.num 0), .nat 0 0, .u8⟩,
  ⟨0x68, 0x200, 0x20F, 1, 1, "TIME", .time, .r, (.num 0), .any, .time⟩,
  ⟨0x68, 0x200, 0x20F, 2, 2, "ADDRESS", .u64, .r, (.num 0), .any, .u64⟩,
  ⟨0x68, 0x200, 0x20F, 3, 3, "WHERE", .u8, .r, (.num 255), .any, .u8⟩,
  ⟨0x68, 0x200, 0x20F, 4, 4, "MASTER", .u8, .r, (.num 255), .any, .u8⟩,
  ⟨0x68, 0x200, 0x20F, 5, 5, "KIND", .u8, .r, (.num 0), .any, .u8⟩]

/-- Class 0x70 of the object tables. -/
def dict70 : List MemberRow := [
  ⟨0x70, 0x0, 0x0, 1, 1, "TOKEN", .blob, .w, (.bytes []), .any, .blob⟩,
  ⟨0x70, 0x0, 0x0, 2, 2, "TOKEN_STATE", .u8, .r, (.num 0), .any, .u8⟩,
  ⟨0x70, 0x0, 0x0, 3, 3, "SCOPE", .u8, .r, (.num 0), .any, .u8⟩,
  ⟨0x70, 0x0, 0x0, 4, 4, "NOT_AFTER", .time, .r, (.num 0), .any, .time⟩,
  ⟨0x70, 0x0, 0x0, 5, 5, "TRACE_KINDS", .u16, .rw, (.num 65535), .any, .u16⟩,
  ⟨0x70, 0x0, 0x0, 6, 6, "TRACE_EVENTS", .blob, .rw, (.bytes (zeros 128)), .len 128, .blob⟩,
  ⟨0x70, 0x0, 0x0, 7, 7, "END", .u8, .x, (.num 0), .nat 0 0, .u8⟩,
  ⟨0x70, 0x0, 0x0, 8, 8, "RECORDS_SENT", .u64, .r, (.num 0), .any, .u64⟩,
  ⟨0x70, 0x0, 0x0, 9, 9, "RECORDS_LOST", .u32, .r, (.num 0), .any, .u32⟩,
  ⟨0x70, 0x100, 0x100, 1, 1, "RUN", .u8, .x, (.num 0), .nat 0 1, .u8⟩,
  ⟨0x70, 0x100, 0x100, 2, 2, "CLEAR", .u8, .x, (.num 0), .nat 0 0, .u8⟩,
  ⟨0x70, 0x100, 0x100, 3, 3, "ISLAND_OFF_ACCESSES", .u32, .r, (.num 0), .any, .u32⟩,
  ⟨0x70, 0x100, 0x100, 4, 4, "LAST_OFF_ISLAND", .u8, .r, (.num 255), .any, .u8⟩,
  ⟨0x70, 0x1000, 0x11FF, 1, 1, "SELECT", .u16, .rw, (.num 65535), .counterSelect, .u16⟩,
  ⟨0x70, 0x1000, 0x11FF, 2, 2, "ENABLE", .bool, .rw, (.num 0), .nat 0 1, .bool⟩,
  ⟨0x70, 0x1000, 0x11FF, 3, 3, "VALUE", .u64, .r, (.num 0), .any, .u64⟩,
  ⟨0x70, 0x1000, 0x11FF, 4, 4, "SNAP_VALUE", .u64, .r, (.num 0), .any, .u64⟩,
  ⟨0x70, 0x200, 0x200, 1, 1, "ARM", .u8, .x, (.num 0), .nat 0 0, .u8⟩,
  ⟨0x70, 0x200, 0x200, 2, 2, "ARMED", .bool, .r, (.num 0), .nat 0 1, .bool⟩,
  ⟨0x70, 0x200, 0x200, 3, 3, "SOURCES", .u8, .rw, (.num 3), .mask 15, .u8⟩,
  ⟨0x70, 0x200, 0x200, 4, 4, "EVENT", .u16, .rw, (.num 65535), .orVal 0 1023 65535, .u16⟩,
  ⟨0x70, 0x200, 0x200, 5, 5, "SNAP_IN_FILTER", .u8, .rw, (.num 4), .any, .u8⟩,
  ⟨0x70, 0x200, 0x200, 6, 6, "TRIGGER", .u8, .x, (.num 0), .nat 0 0, .u8⟩,
  ⟨0x70, 0x200, 0x200, 7, 7, "SEQ", .u32, .r, (.num 0), .any, .u32⟩,
  ⟨0x70, 0x200, 0x200, 8, 8, "TRIGGER_TIME", .time, .r, (.num 0), .any, .time⟩,
  ⟨0x70, 0x200, 0x200, 9, 9, "CAUSE", .u8, .r, (.num 0), .any, .u8⟩,
  ⟨0x70, 0x200, 0x200, 10, 10, "MISSED", .u32, .r, (.num 0), .any, .u32⟩,
  ⟨0x70, 0x300, 0x368, 1, 1, "STAMP", .time, .r, (.num 0), .any, .time⟩,
  ⟨0x70, 0x300, 0x368, 2, 2, "STATE", .u8, .r, (.num 0), .any, .u8⟩,
  ⟨0x70, 0x300, 0x368, 3, 6, "WORD", .u32, .r, (.num 0), .any, .u32⟩,
  ⟨0x70, 0x400, 0x43F, 1, 1, "TIME", .time, .r, (.num 0), .any, .time⟩,
  ⟨0x70, 0x400, 0x43F, 2, 2, "KIND", .u8, .r, (.num 0), .any, .u8⟩,
  ⟨0x70, 0x400, 0x43F, 3, 3, "UNIT", .u16, .r, (.num 65535), .any, .u16⟩,
  ⟨0x70, 0x400, 0x43F, 4, 4, "DETAIL", .u32, .r, (.num 0), .any, .u32⟩,
  ⟨0x70, 0x500, 0x500, 1, 1, "LOG_NEXT", .u8, .r, (.num 0), .any, .u8⟩,
  ⟨0x70, 0x500, 0x500, 2, 2, "LOG_ENTRIES", .u32, .r, (.num 0), .any, .u32⟩]

/-- The rows of a class (the class map of R40); none for a class not in it. -/
def dictOf (cls : Nat) : List MemberRow :=
  match cls with
  | 0x01 => dict01
  | 0x02 => dict02
  | 0x03 => dict03
  | 0x08 => dict08
  | 0x10 => dict10
  | 0x11 => dict11
  | 0x12 => dict12
  | 0x13 => dict13
  | 0x14 => dict14
  | 0x15 => dict15
  | 0x16 => dict16
  | 0x17 => dict17
  | 0x18 => dict18
  | 0x1A => dict1Ap0 ++ dict1Ap1
  | 0x20 => dict20
  | 0x21 => dict21
  | 0x28 => dict28
  | 0x29 => dict29
  | 0x30 => dict30
  | 0x38 => dict38
  | 0x40 => dict40
  | 0x41 => dict41
  | 0x42 => dict42
  | 0x48 => dict48p0 ++ dict48p1
  | 0x50 => dict50
  | 0x58 => dict58
  | 0x60 => dict60
  | 0x61 => dict61
  | 0x68 => dict68
  | 0x70 => dict70
  | _ => []

/-- The row of a member, if the class defines it for the instance. -/
def rowOf (r : Ref) : Option MemberRow :=
  (dictOf (refClass r)).find? (fun m =>
    decide (m.lo ≤ refInst r) && decide (refInst r ≤ m.hi) && decide (m.m0 ≤ refMember r) && decide (refMember r ≤ m.m1))

/-- Whether some row of the tables covers the instance. -/
def instanceInTables (r : Ref) : Bool :=
  (dictOf (refClass r)).any (fun m => decide (m.lo ≤ refInst r) && decide (refInst r ≤ m.hi))

/-- The highest member that the tables define for the object of a reference (R30; assumption log 12). -/
def highestMember (r : Ref) : Nat :=
  (dictOf (refClass r)).foldl (fun a m =>
    if decide (m.lo ≤ refInst r) && decide (refInst r ≤ m.hi) then max a m.m1 else a) 0

end Sys2Proof.Machine
end

