-- ==== Sys2Proof/Machine/Map.lean ====
section
/-!
DEFINITION. Sparse maps: lists of (key, value) pairs in one canonical form, keys strictly rising and no entry
that holds the value an unlisted key reads as, so that equal maps are equal data.
-/
namespace Sys2Proof.Machine

/-- A sparse map from natural keys. -/
abbrev SMap (α : Type) := List (Nat × α)

/-- The entry of a key, if there is one. -/
def mapFind {α : Type} : SMap α → Nat → Option α
  | [], _ => none
  | (k, v) :: m, i => if i = k then some v else mapFind m i

/-- The value of a key; an unlisted key reads as the default. -/
def mapGet {α : Type} (m : SMap α) (i : Nat) (dflt : α) : α := (mapFind m i).getD dflt

/-- The map without a key. -/
def mapErase {α : Type} : SMap α → Nat → SMap α
  | [], _ => []
  | (k, v) :: m, i => if i = k then mapErase m i else (k, v) :: mapErase m i

/-- The map with a key's entry put in its place in the rising order. -/
def mapPut {α : Type} : SMap α → Nat → α → SMap α
  | [], i, a => [(i, a)]
  | (k, v) :: m, i, a =>
    if i < k then (i, a) :: (k, v) :: m
    else if i = k then (k, a) :: m
    else (k, v) :: mapPut m i a

/-- The map with a key set; setting the default removes the entry. -/
def mapSet {α : Type} [DecidableEq α] (m : SMap α) (i : Nat) (a dflt : α) : SMap α :=
  if a = dflt then mapErase m i else mapPut m i a

/-- The entries of a list of values under rising keys, without those that equal the default. -/
def mapOfList {α : Type} [DecidableEq α] (dflt : α) : Nat → List α → SMap α
  | _, [] => []
  | i, a :: l => if a = dflt then mapOfList dflt (i + 1) l else (i, a) :: mapOfList dflt (i + 1) l

/-- The map with consecutive keys set. -/
def mapFill {α : Type} [DecidableEq α] (m : SMap α) (i : Nat) (l : List α) (dflt : α) : SMap α :=
  m.filter (fun e => decide (e.1 < i)) ++ mapOfList dflt i l ++ m.filter (fun e => decide (i + l.length ≤ e.1))

/-- Every key of the map lies above a bound, and the keys rise. -/
def mapRisingFrom {α : Type} : Nat → SMap α → Bool
  | _, [] => true
  | b, (k, _) :: m => decide (b ≤ k) && mapRisingFrom (k + 1) m

/-- The canonical form of a map with one default: keys strictly rising, no entry equal to the default. -/
def mapWf {α : Type} [DecidableEq α] (m : SMap α) (dflt : α) : Bool :=
  mapRisingFrom 0 m && m.all (fun e => decide (e.2 ≠ dflt))

end Sys2Proof.Machine
end

