-- ==== Sys2Proof/Machine/State.lean ====
section
/-!
DEFINITION. The state of the block as plain data: the object members, the peripheral registers, memory, and for each
chapter of the spec the state its prose gives beside the tables.
-/
namespace Sys2Proof.Machine

/-- Why a step stops with a fault. No command of this block stops it: every refusal the spec names is a status, a
counter, a latched fault or an event. -/
inductive Fault where
  /-- Raised by no command; safe, since nothing can be proved from it. -/
  | none
  deriving DecidableEq, Repr

/-- Why a command has no meaning in the model. -/
inductive Refusal where
  /-- Raised by the dispatch for a row without a meaning; safe. -/
  | notModelled (mnemonic : String)
  deriving DecidableEq, Repr

/-- A 66-bit block on a lane (R389): its sync header in the order of the wire, and its 8 payload octets after the scrambler. -/
structure WireBlock where
  sync : Bool × Bool
  payload : List Byte
  deriving DecidableEq, Repr

/-- What leaves the block. -/
inductive Output where
  /-- A frame on an uplink, without its FCS (R560, R564). -/
  | eth (u : Nat) (frame : List Byte)
  /-- A BEACON on a 10BASE-T1S port with its TO_TIMER and NODE_COUNT (R577). -/
  | beacon (port toTimer nodeCount : Nat)
  /-- The acknowledgement of a frame by a CAN FD controller (R580). -/
  | canAck (port : Nat)
  /-- A CAN FD frame: controller, identifier, whether it switches its bit rate, data. -/
  | can (port : Nat) (ext brs : Bool) (id : Nat) (data : List Byte)
  /-- Blocks that a transmit lane sends (R388 to R391). -/
  | lane (l : Nat) (blocks : List WireBlock)
  /-- A back-channel message of a receive lane as its symbols (R408, R409). -/
  | backChannel (l : Nat) (msg : List Symbol)
  /-- The status and result of an action or member write that came as a command of its own. -/
  | result (sess status : Nat) (val : List Byte)
  /-- One frame of a TDM port: a word left-justified per slot, none for a slot that is not driven (R548). -/
  | tdm (port : Nat) (slots : List (Option Word))
  /-- A record on a lane of the Chimney port (R725, R726). -/
  | chimney (lane : Nat) (record : List Byte)
  deriving DecidableEq, Repr

/-- One notification of an EVENT (R74); for kind 0x01 the event source it claims; whether an on-change subscription made it
(R76). -/
structure Notif where
  kind : Nat
  flags : Nat
  ref : Ref
  time : Nat
  typ : Nat
  val : List Byte
  source : Option Nat
  onChange : Bool := false
  deriving DecidableEq, Repr

/-- An EVENT message without an acknowledgement (R75); `heard` once the datagram of its response has come. -/
structure Unacked where
  seq : Nat
  heard : Bool
  repeats : Nat
  deadline : Nat
  notifs : List Notif
  deriving DecidableEq, Repr

/-- A subscription of a session (R71); `seen` is the value last reported, for the members that are worked out at a read (R73). -/
structure Sub where
  ref : Ref
  periodic : Bool
  period : Nat
  deadline : Nat
  seen : List Byte
  deriving DecidableEq, Repr

/-- Where a NOAP message came from (R42, R563): the uplink, the source MAC address, the source IP address (4 or 16 octets) and UDP port,
and the address of the device that it named. -/
structure Peer where
  upl : Nat
  mac : List Byte
  ip : List Byte
  port : Nat
  own : List Byte
  deriving DecidableEq, Repr

/-- A request that awaits its response (R56, R57, R59): SEQ, type, FLAGS, where it came from (R42, R563), when it arrived (R60), and
whether it is being executed. -/
structure Req where
  seq : Nat
  typ : Nat
  flags : Nat
  peer : Peer
  arrived : Nat
  started : Bool
  deriving DecidableEq, Repr

/-- A kept response (R56). -/
structure Kept where
  seq : Nat
  typ : Nat
  body : List Byte
  deriving DecidableEq, Repr

/-- A NOAP session (R46 to R59), with where its latest valid request came from (R42, R563). -/
structure Session where
  id : Nat
  controller : Bool
  isOpen : Bool
  slot : Nat
  digest : List Byte
  keys : List Byte
  seqIn : Nat
  seqOut : Nat
  msgsIn : Nat
  msgsOut : Nat
  kept : List Kept
  waiting : List Req
  peer : Peer
  openedAt : Nat
  lastMsg : Nat
  subs : List Sub
  queue : List Notif
  unacked : List Unacked
  deriving DecidableEq, Repr

/-- A NOAP-lite frame that waits for the NOAP requests of its cycle (R60): whether it switched the bit rate, its identifier and octets. -/
structure LiteFrame where
  brs : Bool
  id : Nat
  octets : List Byte
  deriving DecidableEq, Repr

/-- NOAP and NOAP-lite (object dictionary chapter): FRESHNESS of the last accepted request and the stored one, the response counter,
responses not yet sent, requests accepted since the last store (R84, R86); `window` is the end of the latest millisecond of R73, `closing` is set
while a write that closes every session awaits its response (R81, R574). -/
structure Noap where
  sessions : List Session
  nextId : Nat
  liteLast : Nat
  liteStored : Nat
  liteCounter : Nat
  litePending : Nat
  liteAccepted : Nat
  liteWaiting : List LiteFrame
  window : Nat
  closing : Bool
  deriving DecidableEq, Repr

/-- A register write in a crossing FIFO or waiting on a gated island (R13, R16): the source and destination islands, the
address (for a head, a pipe or a cluster's timer block the offset in its window), the value, 1 + t for a store of thread t, else 0, and
the program that counts it, else 0; a read that waits is held in the same order, without a value. -/
structure RegWrite where
  src : Nat
  dst : Nat
  addr : Nat
  val : Word
  thread : Nat
  prog : Ref
  isRead : Bool
  deriving DecidableEq, Repr

/-- The clock islands and their crossings (R10 to R16). -/
structure Islands where
  gated : List Nat
  off : List Nat
  crossing : List RegWrite
  waiting : List RegWrite
  deriving DecidableEq, Repr

/-- A staged write (R112); late when it came after a COMMIT that is still under evaluation (R70). -/
structure Staged where
  ref : Ref
  val : Val
  late : Bool
  deriving DecidableEq, Repr

/-- A write taken by a commit with the heads it is attributed to (R113, R114). -/
structure Taken where
  ref : Ref
  val : Val
  heads : Nat
  deriving DecidableEq, Repr

/-- An admitted commit that is pending on some head (R120 to R123): the lease keys that it holds on each head (R126),
what FRONT of each surface of its scenes read at admission (R128), and the layers then withdrawn that it brings back (R137). -/
structure PendingCommit where
  number : Nat
  named : Nat
  waiting : Nat
  admitted : Nat
  writes : List Taken
  holds : SMap (List Nat)
  fronts : SMap Nat
  lifts : List Nat
  deriving DecidableEq, Repr

/-- The commit under evaluation (R69, R117): who sent it and what it takes. -/
structure Evaluation where
  sess : Nat
  seq : Nat
  number : Nat
  mask : Nat
  dryRun : Bool
  received : Nat
  taken : List Taken
  deriving DecidableEq, Repr

/-- A range of memory from lo up to hi, held by a surface, or written by a DMA channel (0 to 31) or a blitter ring
(32 to 35). -/
structure Span where
  owner : Nat
  lo : Nat
  hi : Nat
  deriving DecidableEq, Repr

/-- Scenes, the staging set, commits and leases (scene chapter). `liveAt` is the commit whose write is a head's live value, under the
key of `live`, 16 x member + head. A lease key is 16 x object + buffer; `reading` and `ended`
hold, for each head, the keys that its present frame and the frame before it read; `selected` the buffer a head's video
slot chose (R227) under the key 65536 x head + surface; `pool` the memory of the realised surfaces; `writing` the ranges
that transfers under way write. -/
structure Scene where
  live : SMap Val
  liveAt : SMap Nat
  liveNum : SMap Nat
  alloc : SMap Nat
  staging : List Staged
  evaluating : Option Evaluation
  commits : List PendingCommit
  withdrawn : List Nat
  reading : SMap (List Nat)
  ended : SMap (List Nat)
  selected : SMap Nat
  pool : List Span
  writing : List Span
  deriving DecidableEq, Repr

/-- What the event controller holds beside the members of R630 to R632: SATURATED bits, the time of the last raise,
who claimed an ACTIVE source (0 the device for the host or the Firekeeper, 1 + t a thread), the sources that waited
for a Damper hold, and whether HOST_WAKE is driven (R627). -/
structure Events where
  saturated : List Nat
  lastRaise : SMap Nat
  claimant : SMap Nat
  waited : List Nat
  hostWake : Bool
  deriving DecidableEq, Repr

/-- A trace record waiting for the Chimney port (R726). -/
structure TraceRecord where
  kind : Nat
  unit : Nat
  time : Nat
  data : Nat
  deriving DecidableEq, Repr

/-- The observation block beside its members: the record FIFO, the records dropped since the last one sent, SEQ,
whether counting runs, NOT_BEFORE of the token, the level of SNAP_OUT; when counters last counted and which did, and when the last
snapshot was triggered (R729, R731; assumption log 105). -/
structure Obs where
  fifo : List TraceRecord
  dropped : Nat
  seq : Nat
  running : Bool
  notBefore : Nat
  snapOut : Bool
  countedAt : Nat
  counted : List Nat
  snapAt : Option Nat
  deriving DecidableEq, Repr

/-- Where the supply and the restore table stand (R657, R660, R666): no supply, RESET_N held, operation ended
abruptly, a restore step (its start: 0 cold, 1 Frost, 2 Winter without DRAM, 3 Winter with DRAM), running, asleep. -/
inductive Phase where
  | absent
  | held
  | lost
  | restoring (step start : Nat)
  | running
  | winter (retain : Bool)
  | frost
  deriving DecidableEq, Repr

/-- Where the sleep protocol stands (R676, R677). -/
inductive SleepStage where
  | idle
  | flush
  | stop (block : Nat)
  | delay (block : Nat)
  | rollback (block : Nat)
  deriving DecidableEq, Repr

/-- Supply, sleep, thermal and boost state beside the members of R686 to R690: what the sleep protocol was asked for and where it
stands, the abort being rolled back, over-voltage and trip, since when each thermal step's leaving condition holds (R679), when the
power limit acted and since when the average is low (R681), boost episodes of the last 120 s, fuses and the part of a second
counted (R683, R684), RTC ticks and the timebase at entry of the present sleep, which sleep the restore table ends (0 Winter,
1 Frost), the restart that R688 reports, heads whose next thread restart counts no overrun (R659), since when the blitter is
capped and the nanoseconds of earlier spells below a whole ms (R526), the latest readings of TJ with their times and when the
thermal step last changed (R679, R680), the nanoseconds of operation since the last whole hour (R685). -/
structure Power where
  phase : Phase
  sleep : SleepStage
  sleepFor : Nat
  sceneStopped : Bool
  abortReason : Nat
  abortDetail : Nat
  overvolt : Bool
  tripped : Bool
  thermLow : SMap Nat
  powerOver : Nat
  powerLow : Option Nat
  powerLevel : Nat
  boostStart : Nat
  boostSpans : List (Nat × Nat)
  boostFuses : Nat
  boostFrac : Nat
  ticksSlept : Nat
  sleepEntry : Nat
  slept : Option Nat
  restartAfterLoss : Bool
  crankHeads : Nat
  abortAt : Nat
  abortStep : Nat
  abortBlock : Nat
  cappedSince : Option Nat
  temps : List (Nat × Int)
  stepAt : Option Nat
  cappedFrac : Nat
  hourNs : Nat
  deriving DecidableEq, Repr

/-- A tell-tale slot as a head latched it at a boundary (R275). -/
structure Slot where
  slot : Nat
  symbol : Nat
  x : Nat
  y : Nat
  blinkGen : Nat
  colour : Nat
  signed : Bool
  deriving DecidableEq, Repr

/-- A signed region of a frame at its sent position (R288), with the CRC register run so far. -/
structure Region where
  x : Nat
  y : Nat
  w : Nat
  h : Nat
  crc : Nat
  deriving DecidableEq, Repr

/-- The signatures of one frame (R290), or the ones a bridge returned (R291). -/
structure SigSet where
  frame : Nat
  crcs : List Nat
  deriving DecidableEq, Repr

/-- A change of a slot's state inside a frame (R23): the first pixel of the frame at the mixer that shows the new state, and the
state shown before it. -/
structure Cut where
  slot : Nat
  pixel : Nat
  was : Nat
  deriving DecidableEq, Repr

/-- What the Hearth plane holds of one head beside its members: the slots, blink generators and enabled plates latched
at the boundary (R275, R279), the changes of state since (R23), the regions signed in this frame, the head's own and the returned signatures (R291), the
run of matching comparisons and of frames without a mixer difference (R300), the frames left without a comparison
(R293), and the colour members frozen in hearth-only mode (R304). -/
structure HHead where
  slots : List Slot
  blink0 : Bool
  blink1 : Bool
  regions : List Region
  own : List SigSet
  returned : List SigSet
  matchRun : Nat
  mixDiff : Bool
  mixClean : Bool
  skip : Nat
  eccCause : Bool
  cuts : List Cut
  deriving DecidableEq, Repr

/-- A change of a signal-map entry that the tell-tale state register has not taken yet (R20, R21, R23, R285): when it takes it, and the
state and loss of the entry until then. -/
structure EntryChange where
  entry : Nat
  at' : Nat
  was : Nat
  wasLoss : Bool
  deriving DecidableEq, Repr

/-- The Hearth plane beside its members: per head, per signal-map entry (the counter reference; an entry that is out of
loss or has taken its reference holds one), the changes of entries on their way to the state register (R23), store words in error, the
blink generators, the fault pins. -/
structure Hearth where
  heads : SMap HHead
  refs : SMap Nat
  changes : List EntryChange
  badWords : List Nat
  blink0 : Bool
  blink1 : Bool
  keepalive : Bool
  released : Bool
  networkUp : Bool
  tripped : Bool
  deriving DecidableEq, Repr

/-- The pin block beside its members (R637 to R655): the level driven onto each pad from outside, what each pad latch
drives (level and enable), the matchers' compare results, the HVS comparator outputs,
whether every ball is held as a pulled-down input (R656), whether RESET_N is low (R696), and the time at which each input of a matcher or a
capture (R601, R647) last changed its level. -/
structure Pins where
  outside : SMap Nat
  latchLevel : SMap Nat
  latchEnable : SMap Nat
  matchResult : SMap Nat
  hvsCompare : SMap Nat
  held : Bool
  wakeRun : SMap Nat
  asleep : Bool
  resetLow : Bool
  changed : SMap Nat
  deriving DecidableEq, Repr

/-- A timer channel (R601): its register fields, the count at the timebase advance `since`, the lowest count each
comparator has not moved past, and the divider count. -/
structure Timer where
  enable : Bool
  wake : Bool
  windowEn : Bool
  prescale : Nat
  count : Nat
  since : Nat
  period : Nat
  phase : Nat
  compare0 : Nat
  compare1 : Nat
  add0 : Nat
  add1 : Nat
  next0 : Nat
  next1 : Nat
  capSrc : Nat
  capEdge : Nat
  capFilter : Nat
  capDiv : Nat
  divCount : Nat
  capture : Nat
  winOpen : Nat
  winClose : Nat
  periodShort : Bool
  capNew : Bool
  capOvr : Bool
  capOutside : Bool
  setAt : List (Nat × Nat)
  capturePrev : Nat
  edgeAt : Option Nat
  deriving DecidableEq, Repr

/-- The group-start registers of a cluster (R601, R605). -/
structure GroupStart where
  time : Nat
  mask : Nat
  late : Bool
  lateAt : Option Nat
  deriving DecidableEq, Repr

/-- The timebase beside its members: its advance without steps (R602), the servo's run of good samples, the last PPS
edge, the PPS_OUT level, the time of the last wake while its first step is awaited, the timers. -/
structure TimeSt where
  adv : Nat
  goodRun : Nat
  ppsLast : Option Nat
  ppsOut : Bool
  ppsDone : Nat
  wakeAt : Option Nat
  epochNext : Nat
  timers : SMap Timer
  starts : SMap GroupStart
  deriving DecidableEq, Repr

/-- The timing in force on a head: the RWL registers and the link members (R248, R261). -/
structure Timing where
  pixelClock : Nat
  hActive : Nat
  hFront : Nat
  hSync : Nat
  hBack : Nat
  vActive : Nat
  vFront : Nat
  vSync : Nat
  vBack : Nat
  linkBpp : Nat
  lane : Nat
  lanes : Nat
  deriving DecidableEq, Repr

/-- A pixel of three 12-bit components (R216). -/
structure Pix where
  r : Nat
  g : Nat
  b : Nat
  deriving DecidableEq, Repr

/-- A composed line waiting for the beam: the active line, its pixels, its segments that are an underrun (R263). -/
structure DoneLine where
  line : Nat
  pixels : List Pix
  late : List Nat
  deriving DecidableEq, Repr

/-- What a head holds beside its members (R243 to R265): origin and frame index of its targets, the timing in force, the
dark frames left, the commits of a re-lock, whether FRAME_DONE of the last frame has been raised, the comparators, the lines
that they have matched in this frame (4 x line + comparator), the underrun settings in force, the
underrun colours that writes of this frame replaced with the pixel of the write (R341), the colour members loaded
(R240), the orbit and Autumn settings of the frame (R450, R668), the lines composed, the pixels of the last active line
before the mixer (R264), the next active line of the frame, the latest lines from the mixer with the next panel line to send,
the line on which an underrun has been counted, the descriptors counted bad in this frame (1024 x sprite set + index, R202), the
steps of the timebase since the last boundary (R257), whether that boundary was phase-locked (R248), and the underruns that the
Stoker's report does not show yet (R175). -/
structure HeadSt where
  origin : Rat
  frame : Nat
  timing : Timing
  dark : Nat
  relock : List Nat
  lanesReady : Bool
  heldRestart : Bool
  frameDone : Bool
  cmpLine : List Nat
  cmpOn : List Bool
  matched : List Nat
  ucol : Nat
  ucolWas : List (Nat × Nat)
  upol : Nat
  loaded : SMap Val
  orbitX : Int
  orbitY : Int
  orbitStep : Nat
  autumn : Nat
  dim : Nat
  lines : List DoneLine
  prev : List Pix
  cursor : Nat
  mixed : List (Nat × List Pix)
  panelLine : Nat
  underLine : Option Nat
  badDesc : List Nat
  stepped : Int
  locked : Bool
  underruns : Nat
  deriving DecidableEq, Repr

/-- The heads, and the anchor of each coupling class (R258). -/
structure Heads where
  head : SMap HeadSt
  anchors : SMap Rat
  deriving DecidableEq, Repr

/-- A DRAM block read in flight, or one that waits for a tag (R480): its class (R478), the unit that asked (a pipe p, 32 + p for its
resident load, a thread, a DMA channel, a ring, 0 for a migration), the block and its channel, and whether it has been cancelled (R254). -/
structure DramRead where
  cls : Nat
  unit : Nat
  block : Nat
  chan : Nat
  cancelled : Bool
  deriving DecidableEq, Repr

/-- The memories beside the members of R491 to R493: the errors in the channel octets of each block (octet to flipped bits, R468),
SRAM words with an uncorrectable and with a single-bit error (R483; an octet's key divided by 8: 65536 e + its address in the scratchpad
of engine e, its address in a cluster bank), reads in flight by tag and requests that wait for one, the slots of each segment's part of
a channel that the scrubber has read in this pass (key 8 x segment + channel), each channel's corrected block that the scrubber has
still to write back (R475), the time of each channel's last MEM_CORRECTED, what
the device record holds (retired channels with their cause, stored training values), the channels whose UNRETIRE waits for
the next reset or took effect at this start, whether initialisation is over and when it began, and the power settings of
the banks that are not on (R486; 1 retention, 2 off): key c a cluster bank, 16 + e a scratchpad, 112 + p a pipe, 144 the Firekeeper. -/
structure Dram where
  errors : SMap (SMap Nat)
  badWords : List Nat
  softWords : List Nat
  reads : SMap DramRead
  waiting : List DramRead
  scrubAt : SMap Nat
  writeBack : SMap Nat
  lastCorrected : SMap Nat
  retired : SMap Nat
  stored : List Nat
  unretire : List Nat
  fullNext : List Nat
  trained : List Nat
  ready : Bool
  initStart : Nat
  banks : SMap Nat
  deriving DecidableEq, Repr

/-- The pipes of a band (R150 to R152): the head it is placed for, the first pipe, the split and the stages. -/
structure BandPlace where
  band : Ref
  head : Nat
  first : Nat
  split : Nat
  stages : Nat
  deriving DecidableEq, Repr

/-- What a beam program declares (R154, R331): KIND, S_LINE, S_FRAME, RATE, FOOTPRINT. -/
structure ProgLoad where
  kind : Nat
  sLine : Nat
  sFrame : Nat
  rate : Nat
  footprint : Nat
  deriving DecidableEq, Repr

/-- The engine and the thread of a beam program with what it declared as it was placed (R140, R154, R155); head 16 stands for a program
whose HEAD is 0. -/
structure ProgPlace where
  prog : Ref
  head : Nat
  engine : Nat
  thread : Nat
  load : ProgLoad
  deriving DecidableEq, Repr

/-- A placement of a head that waits for its boundary: by commit number, or 0 for a re-run of R166 (R141, R168). -/
structure NextPlace where
  number : Nat
  head : Nat
  bands : List BandPlace
  progs : List ProgPlace
  deriving DecidableEq, Repr

/-- The coupling of a head (R144, R159): class, multiple, offset in slots, offset in ns, and whether the offset is still to follow
from the boundary at which a new timing applies (R259). -/
structure HeadPlace where
  cls : Nat
  k : Nat
  j : Nat
  phi : Rat
  loose : Bool := false
  deriving DecidableEq, Repr

/-- An action of R166: a degraded layer with its DEGRADE, or a head with 0xFF for hearth-only mode. -/
structure Action where
  ref : Ref
  degrade : Nat
  deriving DecidableEq, Repr

/-- A migration under way (R163): the surface, its destination, its octets, and once the copy is complete the heads that
have still to switch and those that have; the DRAM blocks that its reads have brought (R481): no octets for one that came poisoned. -/
structure Migration where
  surf : Ref
  dest : Nat
  size : Nat
  copied : Bool
  toSwitch : Nat
  switched : Nat
  got : SMap (List Byte)
  deriving DecidableEq, Repr

/-- What the terms of the model count as usable (R138): thermal step 3, and the pipes, clusters and channels out of use. -/
structure Capacity where
  thermal : Bool
  pipes : List Nat
  clusters : List Nat
  chans : List Nat
  deriving DecidableEq, Repr

/-- The Stoker: the live placement, placements that wait for a boundary, coupling of the heads, the base period of each
class in ns, the actions of R166 in order, those that an undo has skipped (R169) and those in effect since a boundary, thermal step 3,
the clusters and the pipes out of use, the capacity that an evaluation under way counts since a step came (R171), migrations, memory that a migrated surface left and the heads that still read it, heads held
for a restart (R258). -/
structure Stoker where
  bands : List BandPlace
  progs : List ProgPlace
  next : List NextPlace
  heads : SMap HeadPlace
  headsNext : SMap HeadPlace
  classes : SMap Rat
  actions : List Action
  skipped : List Action
  effective : SMap (List Action)
  thermal : Bool
  clusters : List Nat
  faulted : List Nat
  counted : Option Capacity
  queue : List Ref
  migration : Option Migration
  leaving : List (Span × Nat)
  deriving DecidableEq, Repr

/-- A write of a line register (R196): its offset, the frame line from which it governs, the value, and for a sprite
descriptor the band it addresses (R204). -/
structure LineWrite where
  off : Nat
  line : Nat
  val : Nat
  band : Ref
  deriving DecidableEq, Repr

/-- The load of one layer's resident surfaces by a pipe (R206): the layer's band and slot, the blocks asked for, and the pixel of the frame
at which the last of them had arrived (R263). -/
structure ResidentLoad where
  band : Ref
  slot : Nat
  blocks : List Nat
  done : Option Nat
  deriving DecidableEq, Repr

/-- A pipe (R184, R195, R204, R231, R235): the palette store, the matrix registers written since the boundary, the line
registers written since the boundary, RACE_LATE and whether its event has been raised in this frame, its resident loads (R206), the next
line, the lines that a stage has composed, the source lines read for a race-mode slot (65536 x (8 x band + slot) + line) and their octets
(R229), the DRAM blocks of the frame in its line buffer and tile cache (R481, R482: no octets for a poisoned one), and the words of them
that have become uncorrectable (R483; an octet's address divided by 8). -/
structure Pipe where
  palette : SMap Nat
  matrix : SMap Nat
  writes : List LineWrite
  race : Nat
  raced : Bool
  loads : List ResidentLoad
  next : Nat
  out : List Nat
  raceRead : List Nat
  raceData : SMap (List Byte)
  buffer : SMap (List Byte)
  bufferBad : List Nat
  deriving DecidableEq, Repr

/-- A timed write that waits at a head or a pipe (R344 to R347): the frame and the position at which it lands, the register
offset, the value, the thread that issued it, and the program in whose members this receiver counts it, or 0. -/
structure TimedWrite where
  frame : Nat
  line : Nat
  col : Nat
  off : Nat
  val : Nat
  thread : Nat
  prog : Ref
  deriving DecidableEq, Repr

/-- The pipes, and the timed writes that wait at each head and pipe, by island. -/
structure Pipes where
  pipe : SMap Pipe
  timed : SMap (List TimedWrite)
  deriving DecidableEq, Repr

/-- An entry of a thread's store buffer (R321): where in the engine's scratchpad, the octets, and when it drains. -/
structure StoreEntry where
  addr : Nat
  bytes : List Byte
  due : Nat
  deriving DecidableEq, Repr

/-- What a thread does: it holds no program, it runs, its issued instruction waits (with its opcode and fields), it waits in
WAITPOS for a position in a frame, it waits in WAITEV, or it has stopped with a fault. -/
inductive TState where
  | empty
  | running
  | stalled (op : Nat) (cond mode operand : Nat)
  | waitPos (frame line col : Nat)
  | waitEv
  | faulted
  deriving DecidableEq, Repr

/-- An engine thread (R356): its program and head (16 for none), what its image declared at placement (whether it is a housekeeping
program, FOOTPRINT, BANK_BYTES and ENTRY), the 256-octet granules of the engine's scratchpad that its view maps onto (R324), its registers, a load that writes its register after the next
instruction (R366; register 0 A, 1 X, 2 Y), long operations under way with their end and result, the store-buffer pair,
far-window stores without a response, the start of its region of the cluster bank, what a load that waits has read, where a timed write that waits lands (frame, line, column), and the
frames in a row in which it faulted. -/
structure Thread where
  prog : Ref
  head : Nat
  house : Bool
  footprint : Nat
  bank : Nat
  entry : Nat
  view : List Nat
  state : TState
  a : Word
  x : Word
  y : Word
  l : Word
  n : Bool
  z : Bool
  c : Bool
  v : Bool
  pc : Word
  farBase : Nat
  rstack : List Word
  delayed : Option (Nat × Word)
  longs : List (Nat × Word)
  stores : List StoreEntry
  farStores : Nat
  code : Nat
  arrived : Option Word
  timedAt : Option (Nat × Nat × Nat)
  faultRun : Nat
  deriving DecidableEq, Repr

/-- An entry of an engine's post queue (R380): a word for DOORBELL, or a list for a DMA channel, with the thread, its
program, and the far-window stores of the thread that it still waits for. -/
structure Post where
  thread : Nat
  prog : Ref
  need : Nat
  channel : Option Nat
  value : Nat
  deriving DecidableEq, Repr

/-- A store to DOORBELL that has issued and waits in the engine for the write responses of `need` earlier far-window stores of its
thread (R329): thread, program, address, value. -/
structure Bell where
  thread : Nat
  prog : Ref
  need : Nat
  addr : Nat
  value : Word
  deriving DecidableEq, Repr

/-- The engines: threads by 4 x engine + thread, stores to DOORBELL that wait, scratchpad octets by 65536 x engine + address, data-cache lines by engine x 2^34 + line with their octets, instruction-cache lines by engine x 2^16 + line, and post queues. -/
structure Beam where
  threads : SMap Thread
  bells : List Bell
  scratch : SMap Nat
  dcache : SMap (List Byte)
  icache : List Nat
  posts : SMap (List Post)
  deriving DecidableEq, Repr

/-- A packet in a lane's queue (R393 to R402): its type, the sequence number of a protected packet, and its octets, header
and trailer blocks included. -/
structure Packet where
  typ : Nat
  seq : Nat
  bytes : List Byte
  deriving DecidableEq, Repr

/-- A lane: transmit queues by kind, protected packets sent and not acknowledged and those to send again, sequence numbers,
the reserve counter and the block counts of R403, the lines cut under R404 and not yet counted, timeouts in a row (R413), the training step
and the block errors of each preset (R415), what STATUS reported, whether a MODE packet is owed at the next boundary (R417), whether
LANE_DOWN has been raised (R416), receive state (block lock, which of the last 64 sync headers were invalid (R392), next SEQ, errors since
the last STATUS, the PRESET last received under TRAIN (R410)), the times of power cut-offs and whether POC_ENABLE has been written 0 since a
latch (R424), the last 58 scrambled bits sent (R391), the running disparity of the back channel sent (R408), the entries of the head-to-lane
buffer (R415), and of the frame that a receive lane takes: V_ACTIVE of the last MODE
packet, FRAME (256 for none yet), whether its LINESTAT is still to be sent, the bad lines and the bad packets (R398, R409). -/
structure LaneSt where
  modeQ : List Packet
  sigQ : List Packet
  lineQ : List Packet
  audioQ : List Packet
  ctrlQ : List Packet
  unacked : List Packet
  again : List Packet
  nextSeq : Nat
  reserve : Nat
  sinceIdle : Nat
  sent : Nat
  cutLines : List Nat
  timeouts : Nat
  bcSeq : Nat
  step : Nat
  presetErrors : List Nat
  trainStart : Nat
  locked : Bool
  modeOwed : Bool
  downRaised : Bool
  blockLock : Bool
  rxSync : List Bool
  rxPreset : Option Nat
  rxSeq : Nat
  rxErrors : Nat
  cutoffs : List Nat
  latchOff : Bool
  scrambler : Nat
  bcDisp : Bool
  entries : Nat
  rxLines : Nat
  rxFrame : Nat
  rxOwes : Bool
  rxBad : List Nat
  rxBadPackets : Nat
  deriving DecidableEq, Repr

/-- A line of a video input whose packets have come and that is not yet written (R472): its number, where it goes, and its packets' octets
with their offsets. -/
structure LinePart where
  line : Nat
  base : Nat
  parts : List (Nat × List Byte)
  deriving DecidableEq, Repr

/-- A video input beside its members (R418 to R422): the stream's timing, the buffer of the last started frame, the line
being written, the lines written whole and the lines counted as damaged in the present frame, whether the present frame is dropped,
whether a frame has started and one has completed since binding (R227), for each buffer the line and the lines written whole of the
frame that it took before the last started one (R229), the SURFACE in force since a frame start (R427), the line whose packets come in, and
the lines that wait for DRAM (R477). -/
structure VideoIn where
  timing : List Nat
  lastStart : Nat
  line : Nat
  done : List Nat
  damaged : List Nat
  dropping : Bool
  started : Bool
  complete : Bool
  earlier : SMap (List Nat)
  surface : Ref
  part : Option LinePart
  held : List LinePart
  deriving DecidableEq, Repr

/-- The lanes and the video inputs. -/
structure Lanes where
  lane : SMap LaneSt
  input : SMap VideoIn
  deriving DecidableEq, Repr

/-- A head's panel beside its members (R428 to R457): the lane of the
latest check (255 none), the last NONCE, the PANEL_ID under check and the ID_REQUESTs sent, whether AUTH_POLICY withholds the
picture, the RECORD_DIGEST accepted, the octets of the three records as read so far, the AGEING body in force, the running
dose of each cell and colour (3 x cell + colour) in 2^-32 units, the sums of the present cell row, the dose kept apart until
the panel is accepted and whether some of it had no STRESS table, the gain store and the cells whose word in it is uncorrectable (R483), whether a first computation is awaited, whether the last one found a loss at the
threshold, GEN of DOSE and HOURS, seconds and commits of HOURS, the record being written (0 none, 2 DOSE, 3 HOURS) with the
snapshots of both, failures in a row, the sectors of the summary in xSPI with the one to write next, and when dose began to
be lost. -/
structure PanelSt where
  lane : Nat
  nonce : List Byte
  newId : List Byte
  attempts : Nat
  withheld : Bool
  digest : List Byte
  records : SMap (List Byte)
  ageing : List Byte
  dose : SMap Nat
  sums : SMap Nat
  early : SMap Nat
  earlyOpen : Bool
  gains : SMap Nat
  gainBad : List Nat
  first : Bool
  high : Bool
  genDose : Nat
  genHours : Nat
  seconds : Nat
  commits : Nat
  writing : Nat
  doseImage : List Byte
  hoursImage : List Byte
  fails : Nat
  summaries : SMap (List Byte)
  nextSector : Nat
  gapFrom : Option Nat
  deriving DecidableEq, Repr

/-- The panels, by head, and whether the running doses have a place in DRAM (R444). -/
structure Wear where
  panel : SMap PanelSt
  doseLost : Bool
  flushing : List Nat
  deriving DecidableEq, Repr

/-- A voice beside its members (R532 to R535): phase, LFSR, envelope, its value at the last key-off, what GEN and TABLE read at
key-on, engine samples since the sweep began (none when no sweep runs), key events of the present sample, its output, the time of the
key-on whose automatic key-off is to come, and DURATION_MS as the last engine sample took it. -/
structure Voice where
  ph : Nat
  lfsr : Nat
  env : Rat
  held : Rat
  gen : Nat
  table : Nat
  sweep : Option Nat
  keyOff : Bool
  keyOn : Bool
  out : Int
  onAt : Option Nat
  duration : Nat
  deriving DecidableEq, Repr

/-- A crosspoint node (R544): its effective gain, the target, engine samples waited for a zero crossing (none when settled),
samples of the ramp left and the step of the ramp. -/
structure Node where
  gain : Rat
  target : Nat
  wait : Option Nat
  ramp : Nat
  step : Rat
  deriving DecidableEq, Repr

/-- A crosspoint output (R545, R546): the history of the six filter stages (x1, x2, y1, y2 of each), the samples in the
limiter's look-ahead, the limiter gain, the gain from which it recovers, and the latest outputs, newest first. -/
structure OutCh where
  hist : List Int
  ahead : List Int
  gain : Rat
  low : Rat
  outs : List Int
  deriving DecidableEq, Repr

/-- A sequencer under way (R540): the next step, the ticks left before it, the last tick. -/
structure Seq where
  step : Nat
  wait : Nat
  last : Nat
  deriving DecidableEq, Repr

/-- The audio block beside its members: the index of the last engine sample, voices, nodes (64 x output + input), outputs,
the present and the previous sample of each crosspoint input, the samples of each TDM input slot that wait (16 x port + slot),
the last sample of each, the 23 latest samples at 96 kHz of each source (newest first; TDM slots as before, listeners and lanes as for
`heard` plus 64), received stream samples with their presentation times (listener n channel c under 8 n + c, lane l stream s
channel c under 1024 + 32 l + 8 s + c; times in thirds of a nanosecond) and their rates, sequencers, the time at which each entry that blinks began to (R538), the last
frame of each TDM master port by its sample instant plus 1 (R549), samples gathered by a talker or
a lane stream (0 to 15, 16 to 31), the sequence number of each talker's PDUs, and whether an output limited at the last sample. -/
structure Audio where
  samples : Nat
  edges : SMap Nat
  voices : SMap Voice
  nodes : SMap Node
  outs : SMap OutCh
  inputs : SMap Int
  prev : SMap Int
  tdmIn : SMap (List Int)
  tdmLast : SMap Int
  past : SMap (List Int)
  heard : SMap (List (Nat × Int))
  rates : SMap Nat
  seqs : SMap Seq
  blinking : SMap Nat
  tdmAt : SMap Nat
  gathered : SMap (List (List Int))
  pduSeq : SMap Nat
  limiting : List Nat
  deriving DecidableEq, Repr

/-- A DMA list under way (R504 to R509): its header fields, its ranges, the time of the ABORT that stopped it, if one has (R511), and the
DRAM blocks that its reads have brought (R481): no octets for one that came poisoned. -/
structure DmaJob where
  seq : Nat
  flags : Nat
  next : Nat
  record : Nat
  src : List (Nat × Nat)
  dst : List (Nat × Nat)
  aborted : Option Nat
  got : SMap (List Byte)
  deriving DecidableEq, Repr

/-- A DMA channel (R503, R509): its queue, the NEXT that goes ahead of it, the list under way. -/
structure DmaChan where
  queue : List Nat
  chain : Option Nat
  job : Option DmaJob
  deriving DecidableEq, Repr

/-- A blitter command under way or refused (R522 to R524): its 64 octets, the status and DETAIL that its checks gave, the
clip rectangles (x0, y0, x1, y1) that it was started under, its index with the addresses of its slot and of its ring's header, whether
ENABLE has been written 1 since, and the DRAM blocks that its reads have brought (R481): no octets for one that came poisoned. -/
structure BlitJob where
  cmd : List Byte
  status : Nat
  detail : Nat
  clip : List (Nat × Nat × Nat × Nat)
  index : Nat
  slot : Nat
  header : Nat
  again : Bool
  got : SMap (List Byte)
  deriving DecidableEq, Repr

/-- A blitter ring beside its members (R515, R516, R521): PRODUCE as read, whether a kick waits for the running command, the
clip rectangles, the command under way. -/
structure Ring where
  produce : Nat
  rekick : Bool
  clip : List (Nat × Nat × Nat × Nat)
  job : Option BlitJob
  deriving DecidableEq, Repr

/-- The DMA channels, the blitter rings, the ring served last, and the ranges that jobs under way read (owners as for
`Scene.writing`). -/
structure Movers where
  chans : SMap DmaChan
  rings : SMap Ring
  lastRing : Nat
  reads : List Span
  deriving DecidableEq, Repr

/-- What an uplink is to do as a frame leaves it (R569, R570): nothing, note the stamp of a Sync or a peer-delay request or response
(with the 10 octets of the asking port's identity), or count a talker's PDU. -/
inductive TxMark where
  | plain
  | sync (seq : Nat)
  | pdelayReq (seq : Nat)
  | pdelayResp (seq : Nat) (asker : List Byte)
  | pdu (talker : Nat)
  deriving DecidableEq, Repr

/-- A frame in a transmit queue (R564), without its FCS. -/
structure TxFrame where
  octets : List Byte
  mark : TxMark
  deriving DecidableEq, Repr

/-- gPTP at an uplink (R569, R570): the next sequence numbers of its Sync and of its peer-delay requests, the request under way with its
stamp, the response to it (sequence number, receipt time there, stamp here), the Sync that awaits its Follow_Up (sequence number, stamp,
correction), and the stamps of the latest gPTP event message or 1722 PDU that it sent and received. -/
structure Gptp where
  syncSeq : Nat
  reqSeq : Nat
  asked : Option (Nat × Int)
  reply : Option (Nat × Int × Int)
  sync : Option (Nat × Int × Int)
  stampTx : Int
  stampRx : Int
  deriving DecidableEq, Repr

/-- The network ports beside the members of R584 to R587: controllers whose receive error counter has passed 127 (R587), the
addresses that uplink u may use and those in conflict (4 u + k: k = 0 link-local, 1 IPV6_ADDR), uplinks under duplicate
address detection (R562), the transmit queues (4 u + queue), the frame being sent by each uplink (when it ends and its queue) and the
credits of the shapers (2 u + class) of R564 and R565, gPTP (R570), the uplinks held down for their rate (R558), the time at which
uplink 1 came up as the first one (R572), and whether both uplinks are to restart (R574). -/
structure Net where
  canOver : List Nat
  usable : List Nat
  conflict : List Nat
  checking : List Nat
  queues : SMap (List TxFrame)
  sending : SMap (Nat × Nat)
  credit : SMap Int
  gptp : SMap Gptp
  heldDown : List Nat
  firstUp : Option Nat
  restart : Bool
  deriving DecidableEq, Repr

/-- What the two NOR devices, the fuses and a start hold beside the members of R718 to R720: the octets of each image slot
(2 (TYPE - 1) + slot; empty when erased), the fused digest of the car-maker root key and whether it matched at this start (R701),
the NOAP-lite key, the slot under verification by TYPE and the types whose images have concluded in this start (R699), whether
this start has released the Firekeeper and whether Kindling is to read the headers, when it began, the boot scene (0 open, 1 applied,
2 failed), the commits that it has made, the heads that one of them has reached, the heads that the boot configuration started and
that still hold the request of R713 (masks), the times of Firekeeper restarts and the time of one under way (R716). -/
structure Trust where
  slots : SMap (List Byte)
  digest : List Byte
  enrolled : Bool
  liteKey : List Byte
  trying : SMap Nat
  concluded : List Nat
  released : Bool
  kindling : Bool
  startAt : Nat
  scene : Nat
  sceneCommits : List Nat
  sceneHeads : Nat
  held : Nat
  restarts : List Nat
  reload : Option Nat
  deriving DecidableEq, Repr

/-- The block beside its queue and its memory. -/
structure Dev where
  now : Nat
  tb : Nat
  tbInc : Nat
  timers : SMap Nat
  objs : SMap Val
  dirty : SMap Nat
  regs : SMap Nat
  noap : Noap
  islands : Islands
  scene : Scene
  events : Events
  obs : Obs
  power : Power
  hearth : Hearth
  pins : Pins
  time : TimeSt
  heads : Heads
  dram : Dram
  stoker : Stoker
  pipes : Pipes
  beam : Beam
  lanes : Lanes
  wear : Wear
  audio : Audio
  movers : Movers
  net : Net
  trust : Trust
  free : Nat
  out : List Output
  deriving DecidableEq, Repr

/-- The state: the waiting commands, memory as a list of cells, and the rest of the block. -/
structure State where
  pending : List Instr
  mem : List Host.Cell
  dev : Dev
  deriving DecidableEq, Repr

/-- NOAP after reset: no session; the first SESSION value is 1 (assumption log 9). -/
def Noap.reset : Noap :=
  { sessions := [], nextId := 1, liteLast := 1024, liteStored := 0, liteCounter := 0, litePending := 0, liteAccepted := 0, liteWaiting := [], window := 0,
    closing := false }

/-- Islands after reset: nothing gated, nothing in a crossing (assumption log 9). -/
def Islands.reset : Islands := { gated := [], off := [], crossing := [], waiting := [] }

/-- Scenes after reset: nothing allocated, staged or committed (R32, R125). -/
def Scene.reset : Scene :=
  { live := [], liveAt := [], liveNum := [], alloc := [], staging := [], evaluating := none, commits := [], withdrawn := [],
    reading := [], ended := [], selected := [], pool := [], writing := [] }

/-- The event controller after reset (assumption log 9). -/
def Events.reset : Events :=
  { saturated := [], lastRaise := [], claimant := [], waited := [], hostWake := false }

/-- The observation block after reset (R727, R729). -/
def Obs.reset : Obs := { fifo := [], dropped := 0, seq := 0, running := false, notBefore := 0, snapOut := false, countedAt := 0, counted := [], snapAt := none }

/-- Supply and sleep state after reset: VIN is not yet valid (R657; assumption log 8). -/
def Power.reset : Power :=
  { phase := .absent, sleep := .idle, sleepFor := 0, sceneStopped := false, abortReason := 0, abortDetail := 0xFFFF,
    overvolt := false, tripped := false, thermLow := [], powerOver := 0, powerLow := none,
    powerLevel := 0, boostStart := 0, boostSpans := [], boostFuses := 0, boostFrac := 0, ticksSlept := 0,
    sleepEntry := 0, slept := none, restartAfterLoss := false, crankHeads := 0, abortAt := 0, abortStep := 0, abortBlock := 0,
    cappedSince := none, temps := [], stepAt := none, cappedFrac := 0, hourNs := 0 }

/-- A head's part of the Hearth plane after reset (assumption log 9). -/
def HHead.reset : HHead :=
  { slots := [], blink0 := false, blink1 := false, regions := [], own := [], returned := [], matchRun := 0,
    mixDiff := false, mixClean := true, skip := 0, eccCause := false, cuts := [] }

/-- The Hearth plane after reset: the fault pins are safe (R298). -/
def Hearth.reset : Hearth :=
  { heads := [], refs := [], changes := [], badWords := [], blink0 := false, blink1 := false, keepalive := true, released := false,
    networkUp := true, tripped := false }

/-- The pins after reset: every GPIO ball an input with pull-down (R656). -/
def Pins.reset : Pins :=
  { outside := [], latchLevel := [], latchEnable := [], matchResult := [], hvsCompare := [],
    held := true, wakeRun := [], asleep := false, resetLow := false, changed := [] }

/-- A timer channel after reset (R601). -/
def Timer.reset : Timer :=
  { enable := false, wake := false, windowEn := false, prescale := 0, count := 0, since := 0, period := 0, phase := 0,
    compare0 := 0xFFFFFFFF, compare1 := 0xFFFFFFFF, add0 := 0, add1 := 0, next0 := 0, next1 := 0, capSrc := 0x3FF,
    capEdge := 3, capFilter := 0, capDiv := 0, divCount := 0, capture := 0, winOpen := 0, winClose := 0,
    periodShort := false, capNew := false, capOvr := false, capOutside := false, setAt := [], capturePrev := 0, edgeAt := none }

/-- The group-start registers after reset (R601). -/
def GroupStart.reset : GroupStart := { time := 0, mask := 0, late := false, lateAt := none }

/-- The timebase after VIN is applied (R589). -/
def TimeSt.reset : TimeSt :=
  { adv := 0, goodRun := 0, ppsLast := none, ppsOut := false, ppsDone := 0, wakeAt := none, epochNext := 0,
    timers := [], starts := [] }

/-- No timing loaded yet (R248). -/
def Timing.reset : Timing :=
  { pixelClock := 0, hActive := 0, hFront := 0, hSync := 0, hBack := 0, vActive := 0, vFront := 0, vSync := 0,
    vBack := 0, linkBpp := 24, lane := 255, lanes := 1 }

/-- A head after reset: stopped (R246). -/
def HeadSt.reset : HeadSt :=
  { origin := 0, frame := 0, timing := Timing.reset, dark := 0, relock := [], lanesReady := false, heldRestart := false,
    frameDone := true, cmpLine := [0, 0, 0, 0], cmpOn := [false, false, false, false],
    matched := [], ucol := 0, ucolWas := [], upol := 0, loaded := [],
    orbitX := 0, orbitY := 0, orbitStep := 0, autumn := 0, dim := 0, lines := [], prev := [], cursor := 0,
    mixed := [], panelLine := 0, underLine := none, badDesc := [], stepped := 0, locked := false, underruns := 0 }

/-- The heads after reset. -/
def Heads.reset : Heads := { head := [], anchors := [] }

/-- The memories after reset: nothing known bad, nothing in flight, no channel retired or trained in the record
(assumption log 9). -/
def Dram.reset : Dram :=
  { errors := [], badWords := [], softWords := [], reads := [], waiting := [], scrubAt := [], writeBack := [], lastCorrected := [], retired := [], stored := [],
    unretire := [], fullNext := [], trained := [], ready := false, initStart := 0, banks := [] }

/-- The Stoker after reset: nothing placed (assumption log 9). -/
def Stoker.reset : Stoker :=
  { bands := [], progs := [], next := [], heads := [], headsNext := [], classes := [], actions := [], skipped := [], effective := [],
    thermal := false, clusters := [], faulted := [], counted := none, queue := [], migration := none, leaving := [] }

/-- A pipe after reset: registers of undefined reset value hold 0 (assumption log 1). -/
def Pipe.reset : Pipe :=
  { palette := [], matrix := [], writes := [], race := 0, raced := false, loads := [], next := 0, out := [], buffer := [], bufferBad := [],
    raceRead := [], raceData := [] }

/-- The pipes after reset. -/
def Pipes.reset : Pipes := { pipe := [], timed := [] }

/-- A thread that holds no program. -/
def Thread.reset : Thread :=
  { prog := 0, head := 16, house := false, footprint := 0, bank := 0, entry := 0, view := [], state := .empty, a := 0, x := 0, y := 0, l := 0, n := false, z := false, c := false, v := false, pc := 0,
    farBase := 0, rstack := [], delayed := none, longs := [], stores := [], farStores := 0, code := 0,
    arrived := none, timedAt := none, faultRun := 0 }

/-- The engines after reset: no program anywhere. -/
def Beam.reset : Beam := { threads := [], bells := [], scratch := [], dcache := [], icache := [], posts := [] }

/-- A lane after reset. Its scrambler holds zeros, where the spec lets it hold anything (R391; assumption log 118). -/
def LaneSt.reset : LaneSt :=
  { modeQ := [], sigQ := [], lineQ := [], audioQ := [], ctrlQ := [], unacked := [], again := [], nextSeq := 0, reserve := 0,
    sinceIdle := 0, sent := 0, cutLines := [], timeouts := 0, bcSeq := 0, step := 0, presetErrors := [], trainStart := 0,
    locked := false, modeOwed := false, downRaised := false, blockLock := false, rxSeq := 0, rxErrors := 0,
    rxSync := [], rxPreset := none, latchOff := false, bcDisp := false, entries := 0,
    cutoffs := [], scrambler := 0, rxLines := 0, rxFrame := 256, rxOwes := false, rxBad := [], rxBadPackets := 0 }

/-- A video input after reset. -/
def VideoIn.reset : VideoIn :=
  { timing := [], lastStart := 0, line := 0, done := [], damaged := [], dropping := false, started := false, complete := false, earlier := [], surface := 0,
    part := none, held := [] }

/-- The lanes after reset. -/
def Lanes.reset : Lanes := { lane := [], input := [] }

/-- A head's panel after reset: none seen. -/
def PanelSt.reset : PanelSt :=
  { lane := 255, nonce := [], newId := [], attempts := 0, withheld := false, digest := [], records := [], ageing := [], dose := [], sums := [],
    early := [], earlyOpen := false, gains := [], gainBad := [], first := true, high := false, genDose := 0, genHours := 0, seconds := 0, commits := 0,
    writing := 0, doseImage := [], hoursImage := [], fails := 0, summaries := [], nextSector := 0, gapFrom := none }

/-- The panels after reset. -/
def Wear.reset : Wear := { panel := [], doseLost := false, flushing := [] }

/-- A voice after reset (R533). -/
def Voice.reset : Voice :=
  { ph := 0, lfsr := 0x7FFFFF, env := 0, held := 0, gen := 0, table := 0, sweep := none, keyOff := false, keyOn := false,
    out := 0, onAt := none, duration := 0 }

/-- A node with gain 0. -/
def Node.reset : Node := { gain := 0, target := 0, wait := none, ramp := 0, step := 0 }

/-- An output without history. -/
def OutCh.reset : OutCh := { hist := List.replicate 24 0, ahead := [], gain := 1, low := 1, outs := [] }

/-- The audio block after reset. -/
def Audio.reset : Audio :=
  { samples := 0, edges := [], voices := [], nodes := [], outs := [], inputs := [], prev := [], tdmIn := [], tdmLast := [], past := [], heard := [], rates := [], seqs := [],
    blinking := [], tdmAt := [], gathered := [], pduSeq := [], limiting := [] }

/-- A DMA channel after reset: idle. -/
def DmaChan.reset : DmaChan := { queue := [], chain := none, job := none }

/-- A ring after reset. -/
def Ring.reset : Ring := { produce := 0, rekick := false, clip := [], job := none }

/-- The movers after reset: nothing under way. -/
def Movers.reset : Movers := { chans := [], rings := [], lastRing := 3, reads := [] }

/-- gPTP at an uplink after reset. -/
def Gptp.reset : Gptp := { syncSeq := 0, reqSeq := 0, asked := none, reply := none, sync := none, stampTx := 0, stampRx := 0 }

/-- The network ports after reset. -/
def Net.reset : Net :=
  { canOver := [], usable := [], conflict := [], checking := [], queues := [], sending := [], credit := [], gptp := [], heldDown := [],
    firstUp := none, restart := false }

/-- Start-up after reset: nothing in the NOR devices or the fuses (assumption log 2). -/
def Trust.reset : Trust :=
  { slots := [], digest := [], enrolled := false, liteKey := [], trying := [], concluded := [], released := false, kindling := false, startAt := 0,
    scene := 0, sceneCommits := [], sceneHeads := 0, held := 0, restarts := [], reload := none }

/-- The block after reset. -/
def Dev.reset : Dev :=
  { now := 0, tb := 0, tbInc := 5 * 2 ^ 32, timers := [], objs := [], dirty := [], regs := [],
    noap := Noap.reset, islands := Islands.reset, scene := Scene.reset, events := Events.reset,
    obs := Obs.reset,
    power := Power.reset,
    hearth := { Hearth.reset with released := true },
    pins := Pins.reset,
    time := TimeSt.reset,
    heads := Heads.reset,
    dram := Dram.reset,
    stoker := Stoker.reset,
    pipes := Pipes.reset,
    beam := Beam.reset,
    lanes := Lanes.reset,
    wear := Wear.reset,
    audio := Audio.reset,
    movers := Movers.reset,
    net := Net.reset,
    trust := Trust.reset,
    free := 0, out := [] }

/-- The state right after reset: every member at its default (R32), memory with nothing listed, no command waiting. -/
def State.reset : State := { pending := [], mem := [], dev := Dev.reset }

/-- The outcome of a command. -/
abbrev Res := Host.Outcome State Fault Refusal

end Sys2Proof.Machine
end

