-- ==== Sys2Proof/Machine/Mem.lean ====
section
/-!
DEFINITION. Memory: one canonical list of cells over the 40-bit address space; an unlisted address reads 0
(assumption log 7).
-/
namespace Sys2Proof.Machine

/-- What an address that the list does not hold reads as (assumption log 7). -/
def memDefault : Byte := 0

/-- The octet at an address. -/
def memRead (m : List Host.Cell) (a : Nat) : Byte := mapGet m a memDefault

/-- Memory with one octet written. -/
def memWrite (m : List Host.Cell) (a : Nat) (b : Byte) : List Host.Cell := mapSet m a b memDefault

/-- n octets from an address. -/
def memReadBytes (m : List Host.Cell) : Nat → Nat → List Byte
  | _, 0 => []
  | a, n + 1 => memRead m a :: memReadBytes m (a + 1) n

/-- Octets written from an address upward. -/
def memWriteBytes (m : List Host.Cell) : Nat → List Byte → List Host.Cell
  | _, [] => m
  | a, b :: bs => memWriteBytes (memWrite m a b) (a + 1) bs

/-- The little-endian number of n octets at an address (R3). -/
def memReadLe (m : List Host.Cell) (a n : Nat) : Nat := ofLe (memReadBytes m a n)

/-- A little-endian number of n octets written at an address (R3). -/
def memWriteLe (m : List Host.Cell) (a n v : Nat) : List Host.Cell := memWriteBytes m a (leBytes n v)

/-- The canonical form of memory: addresses strictly rising, no cell that holds what an unlisted address reads as. -/
def memWf (m : List Host.Cell) : Bool := mapWf m memDefault

end Sys2Proof.Machine
end

