-- ==== Sys2Proof/Machine/Timers.lean ====
section
/-!
DEFINITION. The kinds of deadline the block holds, numbered.
-/
namespace Sys2Proof.Machine

/-- Damper hold of a group (R623). -/
def tkDamper : Nat := 1
/-- SNAP_OUT pulse (R733). -/
def tkSnapOut : Nat := 2
/-- Timeout of a signal-map entry (R286). -/
def tkSignal : Nat := 3
/-- Debounce of a matcher (R648). -/
def tkMatcher : Nat := 4
/-- Scene lease (R135): the time at which its timer started. -/
def tkSceneLease : Nat := 5
/-- A head's next boundary, first boundary, or frame event (R256, R258). -/
def tkBoundary : Nat := 6
/-- First boundary of a starting head (R258). -/
def tkFirst : Nat := 7
/-- Clear time of a lifted capacity step (R169). -/
def tkCapacity : Nat := 8
/-- Hot-bank copy (R163). -/
def tkMigration : Nat := 9
/-- Blink generator edge (R279). -/
def tkBlink : Nat := 10
/-- Long operation of a thread (R319). -/
def tkLong : Nat := 11
/-- Store buffer drain of a thread (R321). -/
def tkDrain : Nat := 12
/-- Training step of a lane (R415). -/
def tkTrain : Nat := 13
/-- Training deadline of a lane (R416). -/
def tkTrainEnd : Nat := 14
/-- Training retry of a lane (R416). -/
def tkRetry : Nat := 15
/-- Back-channel STATUS of a lane (R417). -/
def tkStatus : Nat := 16
/-- Acknowledgement of protected packets (R413). -/
def tkAck : Nat := 17
/-- Power-over-coax ramp (R423). -/
def tkPocRamp : Nat := 18
/-- Power-over-coax cool-down (R424). -/
def tkPocCool : Nat := 19
/-- STATUS send of a receive lane (R409). -/
def tkStatusSend : Nat := 20
/-- ID_RESPONSE (R435). -/
def tkId : Nat := 21
/-- COMMITTED (R439). -/
def tkCommitted : Nat := 22
/-- Record write retry (R439). -/
def tkWriteRetry : Nat := 23
/-- Dose snapshot (R440). -/
def tkDose : Nat := 24
/-- Gain recompute (R446). -/
def tkGain : Nat := 25
/-- Orbit step (R450). -/
def tkOrbit : Nat := 26
/-- Summary write (R452). -/
def tkSummary : Nat := 27
/-- Operating second (R444). -/
def tkOperating : Nat := 28
/-- Channel training (R760). -/
def tkDramTrain : Nat := 29
/-- DRAM initialisation (R477). -/
def tkDramInit : Nat := 30
/-- DMA list under way (R499). -/
def tkDma : Nat := 31
/-- Blitter command under way (R524). -/
def tkBlit : Nat := 32
/-- Voice duration (R534). -/
def tkVoice : Nat := 33
/-- Sequencer tick (R540). -/
def tkSeq : Nat := 34
/-- Talker PDU (R566). -/
def tkTalker : Nat := 35
/-- Uplink lock confirmation (R559). -/
def tkUplink : Nat := 36
/-- Peer-delay request of an uplink (R570). -/
def tkPdelay : Nat := 37
/-- gPTP Sync of a master port (R570). -/
def tkSyncSend : Nat := 38
/-- Sync or PPS timeout (R593). -/
def tkSync : Nat := 39
/-- PPS_OUT fall (R595). -/
def tkPps : Nat := 40
/-- PLCA beacon (R577). -/
def tkBeacon : Nat := 41
/-- HVS filter (R652). -/
def tkHvs : Nat := 42
/-- End of a crank (R659). -/
def tkCrankExit : Nat := 43
/-- Longest crank (R660). -/
def tkCrank : Nat := 44
/-- Over-voltage clear (R660). -/
def tkOvervolt : Nat := 45
/-- Restore step (R666). -/
def tkRestore : Nat := 46
/-- Wear flush (R440). -/
def tkFlush : Nat := 47
/-- Answer to STOP (R676). -/
def tkStop : Nat := 48
/-- Delay after STOPPED (R676). -/
def tkStopDelay : Nat := 49
/-- Delay of a roll-back step (R677). -/
def tkRollback : Nat := 50
/-- Thermal sample (R679). -/
def tkThermal : Nat := 51
/-- Boost episode (R683). -/
def tkBoost : Nat := 52
/-- Firekeeper image retry (R699). -/
def tkFkRetry : Nat := 53
/-- START_DONE (R714). -/
def tkStartDone : Nat := 54
/-- Ownership change of a ball (R640). -/
def tkOwner : Nat := 55
/-- NOAP-lite response (R86). -/
def tkLite : Nat := 56
/-- Dark frames and stop of a head (R260). -/
def tkHeadStop : Nat := 57
/-- Limiter, envelope or other audio sample (R533). -/
def tkSample : Nat := 58
/-- Thermal clear time (R679). -/
def tkThermClear : Nat := 59
/-- Keep-alive of the fault pins (R299). -/
def tkKeepalive : Nat := 60
/-- Bus-off recovery (R583). -/
def tkBusOff : Nat := 61

end Sys2Proof.Machine
end

