-- ==== Sys2Proof/Machine/Ops.lean ====
section
/-!
DEFINITION. The named operations over the block that every family shares: members, registers, deadlines, free
values, outputs, status codes and timebase.
-/
namespace Sys2Proof.Machine

/-- An element put before the first that it is less than. -/
def insertWith {α : Type} (lt : α → α → Bool) (x : α) : List α → List α
  | [] => [x]
  | y :: l => if lt x y then x :: y :: l else y :: insertWith lt x l

/-- A list in the order of a test, elements that it does not tell apart in their old order. -/
def sortWith {α : Type} (lt : α → α → Bool) (l : List α) : List α := l.foldl (fun a x => insertWith lt x a) []

/-- A list sorted by a key. -/
def sortBy {α : Type} (key : α → Nat) (l : List α) : List α := sortWith (fun x y => decide (key x < key y)) l

/-- The status codes of R41. -/
inductive Status where
  | ok | noObject | noMember | access | type | range | busy | deferred | leased | rejected | auth | state
  | overlapReject | misaligned | leaseViolation
  deriving DecidableEq, Repr

/-- The code of a status (R41). -/
def Status.code : Status → Nat
  | .ok => 0 | .noObject => 1 | .noMember => 2 | .access => 3 | .type => 4 | .range => 5 | .busy => 6
  | .deferred => 7 | .leased => 8 | .rejected => 9 | .auth => 10 | .state => 11 | .overlapReject => 12
  | .misaligned => 13 | .leaseViolation => 14

/-- A command that goes on with the block alone: queue and memory stay. -/
def withDev (s : State) (d : Dev) : State := { s with dev := d }

/-- The sense of an event source (R609): 0 pulse, 1 level, 2 message, 3 reserved. -/
def eventSense (n : Nat) : Nat :=
  if n < 384 then 0
  else if n < 576 then 0
  else if n < 640 then 0
  else if n < 704 then (if n % 2 = 0 ∨ n < 656 then 0 else 3)
  else if n < 752 then (if n % 4 = 3 then 3 else 0)
  else if n < 816 then 0
  else if n < 832 then (if n % 4 = 2 then 2 else if n % 4 = 3 then 3 else 0)
  else if n < 843 then 0
  else if n < 848 then 3
  else if n < 857 then 0
  else if n < 864 then 3
  else if n < 872 then 0
  else if n < 880 then 3
  else if n < 886 then 0
  else if n < 896 then 3
  else if n < 936 then 1
  else if n < 960 then 3
  else 2

/-- A member's default (R32): the table's, or the one the table gives per source, ring or object. -/
def memberDefault (r : Ref) : Val :=
  match refClass r, refMember r with
  | 0x01, 6 => if 0x100 ≤ refInst r ∧ refInst r % 2 = 0 then .num 1 else .num 0
  | 0x50, 7 => if refInst r < 1024 then .num (eventSense (refInst r)) else .num 0
  | 0x61, 7 => if refInst r < 4 then .num (818 + 4 * refInst r) else .num 0
  | _, _ => match rowOf r with
    | some m => m.dflt
    | none => .num 0

/-- The value of a member. -/
def mGet (d : Dev) (r : Ref) : Val := mapGet d.objs r (memberDefault r)

/-- The number a member holds; 0 for octets. -/
def nGet (d : Dev) (r : Ref) : Nat :=
  match mGet d r with
  | .num n => n
  | .bytes _ => 0

/-- The octets a member holds; none for a number. -/
def bGet (d : Dev) (r : Ref) : List Byte :=
  match mGet d r with
  | .num _ => []
  | .bytes b => b

/-- The timebase in whole nanoseconds (R589). -/
def tbNs (d : Dev) : Nat := d.tb / 2 ^ 32

/-- The timebase as a register or a member gives it (R588): bits [1:0] cleared. -/
def tbRead (d : Dev) : Nat := tbNs d / 4 * 4

/-- A member set; a change is marked with the time at which it came about (R73, R74). -/
def mSet (d : Dev) (r : Ref) (v : Val) : Dev :=
  if mGet d r = v then d
  else { d with objs := mapSet d.objs r v (memberDefault r), dirty := mapPut d.dirty r (tbNs d) }

/-- A member set to a number. -/
def nSet (d : Dev) (r : Ref) (n : Nat) : Dev := mSet d r (.num n)

/-- A member set to octets. -/
def bSet (d : Dev) (r : Ref) (b : List Byte) : Dev := mSet d r (.bytes b)

/-- A saturating counter member of 32 bits raised by n. -/
def nAdd (d : Dev) (r : Ref) (n : Nat) : Dev := nSet d r (satAdd 32 (nGet d r) n)

/-- A saturating counter member of 32 bits raised by one. -/
def nInc (d : Dev) (r : Ref) : Dev := nAdd d r 1

/-- A wrapping counter member of 32 bits raised by one. -/
def nWrap (d : Dev) (r : Ref) : Dev := nSet d r (wrapAdd 32 (nGet d r) 1)

/-- Several number members set in order. -/
def nSets (d : Dev) : List (Ref × Nat) → Dev
  | [] => d
  | (r, n) :: l => nSets (nSet d r n) l

/-- Every member of an object back at its default, and no per-head value of it left (R90). -/
def dropObject (d : Dev) (o : Ref) : Dev :=
  { d with objs := d.objs.filter (fun e => refObj e.1 ≠ o)
           scene.live := d.scene.live.filter (fun e => refObj (e.1 / 16) ≠ o)
           scene.liveAt := d.scene.liveAt.filter (fun e => refObj (e.1 / 16) ≠ o)
           scene.liveNum := d.scene.liveNum.filter (fun e => refObj e.1 ≠ o) }

/-- Something leaves the block. -/
def emit (d : Dev) (o : Output) : Dev := { d with out := d.out ++ [o] }

/-- A list with an element put at its end unless it is there. -/
def addOnce (l : List Nat) (x : Nat) : List Nat := if l.contains x then l else l ++ [x]

/-- Whether the device is in Winter or Frost. -/
def asleep (d : Dev) : Bool :=
  match d.power.phase with
  | .winter _ => true
  | .frost => true
  | _ => false

/-- The result of an action or member write that came as a command of its own. -/
def emitResult (d : Dev) (sess : Nat) (st : Status) (val : List Byte) : Dev :=
  emit d (.result sess st.code val)

/-- The next value that the spec leaves open, of w bits (assumption log 4). -/
def freeNat (d : Dev) (w : Nat) : Nat := (Config.freeValue d.free).toNat % 2 ^ w

/-- The free value just read is used up. -/
def freeUsed (d : Dev) : Dev := { d with free := d.free + 1 }

/-- n free octets, from free value number k (assumption log 4). -/
def freeBytes : Nat → Nat → List Byte
  | _, 0 => []
  | k, n + 1 => BitVec.ofNat 8 (Config.freeValue k).toNat :: freeBytes (k + 1) n

/-- n free values are used up. -/
def freeUsedN (d : Dev) (n : Nat) : Dev := { d with free := d.free + n }

/-- Key of a deadline: kind and index. -/
def timerKey (kind i : Nat) : Nat := kind * 65536 + i

/-- A deadline is set dt nanoseconds from now. -/
def arm (d : Dev) (kind i dt : Nat) : Dev :=
  { d with timers := mapPut d.timers (timerKey kind i) (d.now + dt) }

/-- A deadline is dropped. -/
def disarm (d : Dev) (kind i : Nat) : Dev := { d with timers := mapErase d.timers (timerKey kind i) }

/-- Whether a deadline is held. -/
def armed (d : Dev) (kind i : Nat) : Bool := (mapFind d.timers (timerKey kind i)).isSome

/-- Whether a deadline is held and has come. -/
def due (d : Dev) (kind i : Nat) : Bool :=
  match mapFind d.timers (timerKey kind i) with
  | some t => decide (t ≤ d.now)
  | none => false

/-- Milliseconds in nanoseconds. -/
def ms (n : Nat) : Nat := n * 1000000
/-- Microseconds in nanoseconds. -/
def us (n : Nat) : Nat := n * 1000

/-- A peripheral register; an unwritten one reads its reset value as given. -/
def regGet (d : Dev) (a rst : Nat) : Nat := mapGet d.regs a rst

/-- A peripheral register set. -/
def regSet (d : Dev) (a v rst : Nat) : Dev := { d with regs := mapSet d.regs a (v % 2 ^ 32) rst }

/-- The first element of a list that meets a test, with its place. -/
def findIdxFrom {α : Type} (p : α → Bool) : Nat → List α → Option (Nat × α)
  | _, [] => none
  | i, x :: l => if p x then some (i, x) else findIdxFrom p (i + 1) l

/-- A function applied n times. -/
def iterate {α : Type} (f : α → α) : Nat → α → α
  | 0, a => a
  | n + 1, a => iterate f n (f a)

/-- Whether a session holds control (R52). -/
def isController (d : Dev) (sess : Nat) : Bool :=
  d.noap.sessions.any (fun x => decide (x.id = sess) && x.controller && x.isOpen)

/-- The controlling session, if one is open (R52). -/
def controllerOf (d : Dev) : Option Nat :=
  (d.noap.sessions.find? (fun x => x.controller && x.isOpen)).map (·.id)

/-- A session changed by a function. -/
def updSession (d : Dev) (sess : Nat) (f : Session → Session) : Dev :=
  { d with noap.sessions := d.noap.sessions.map (fun x => if x.id = sess then f x else x) }

/-- Whether a queued notification is one that a newer one of the same member replaces (R76). -/
def notifMerges (n q : Notif) : Bool := q.onChange && n.onChange && decide (q.ref = n.ref)

/-- A session's queue with a notification put in: merged with one of the same member, else at the end. -/
def queuePut (q : List Notif) (n : Notif) : List Notif :=
  if q.any (notifMerges n) then q.map (fun x => if notifMerges n x then n else x) else q ++ [n]

/-- A notification put into a session's queue of 256 (R76): on-change notifications for one member are merged;
one that finds the queue full is counted in EVENTS_LOST. -/
def queueNotif (d : Dev) (sess : Nat) (n : Notif) : Dev :=
  match d.noap.sessions.find? (fun x => x.id = sess) with
  | none => d
  | some x =>
    if x.queue.length < 256 ∨ x.queue.any (notifMerges n) then
      updSession d sess (fun y => { y with queue := queuePut y.queue n })
    else nInc d noap_EVENTS_LOST

/-- A notification for the controlling session, if there is one. -/
def notifyController (d : Dev) (n : Notif) : Dev :=
  match controllerOf d with
  | some c => queueNotif d c n
  | none => d

/-- Whether a class is one of the scene classes 11 to 17 (R87). -/
def isSceneClass (c : Nat) : Bool := decide (0x11 ≤ c) && decide (c ≤ 0x17)

/-- The allocation of a scene object: 0 free, 1 allocated, 2 FREEING (R90 to R92). -/
def allocOf (d : Dev) (o : Ref) : Nat := mapGet d.scene.alloc o 0

/-- Whether the class and the instance of a reference exist (R31, R40). -/
def objExists (d : Dev) (r : Ref) : Bool :=
  if isSceneClass (refClass r) && refInst r != 0xFFFF then allocOf d (refObj r) != 0
  else instanceInTables r

/-- Whether the class defines the member (R31); member 0 is OBJ_INFO of every object (R30). -/
def memberDefined (r : Ref) : Bool := refMember r == 0 || (rowOf r).isSome

/-- The blocks that the sleep protocol has stopped (R676), numbered as its table numbers them. -/
def stoppedBlocks (d : Dev) : Nat :=
  match d.power.sleep with
  | .idle => 0
  | .flush => 0
  | .stop b => b - 1
  | .delay b => b
  | .rollback b => b

/-- Whether the sleep protocol has stopped a block (R676). -/
def blockStopped (d : Dev) (b : Nat) : Bool := decide (b ≤ stoppedBlocks d)

/-- Whether SLEEP has stopped the scene service: WRITE, COMMIT and BULK are answered BUSY (R675). -/
def sleepBusy (d : Dev) : Bool := d.power.sceneStopped

/-- Whether LIFECYCLE forbids an access (R702): outside classes 01 and 08 while UNENROLLED. The device's own
accesses (session 0) are not host accesses. -/
def lifecycleForbids (d : Dev) (sess : Nat) (r : Ref) : Bool :=
  sess != 0 && nGet d dev_LIFECYCLE == 0 && refClass r != 1 && refClass r != 8

/-- The checks before any write or action on a member: control (R52), the sleep protocol (R675), existence (R31),
LIFECYCLE (R702). -/
def writeGate (d : Dev) (sess : Nat) (r : Ref) : Option Status :=
  if sess ≠ 0 ∧ isController d sess = false then some .access
  else if sess ≠ 0 ∧ sleepBusy d then some .busy
  else if objExists d r = false then some .noObject
  else if memberDefined r = false then some .noMember
  else if lifecycleForbids d sess r then some .state
  else none

/-- What an action answers (R37, R64): where it names no result, the response carries octets of the member's type that the spec leaves
open (assumption log 4). -/
def actionResult (r : Ref) (x : Dev × Status × List Byte) : Dev × Status × List Byte :=
  match rowOf r with
  | some m =>
    if m.acc = .x ∧ (x.2.1 = .ok ∨ x.2.1 = .deferred) ∧ x.2.2 = [] then (freeUsedN x.1 m.typ.len, x.2.1, freeBytes x.1.free m.typ.len) else x
  | none => x

/-- A member write or action that came as a command of its own: the gate of R52, R675, R31 and R702, then the
operation, whose status and result go out. -/
def withGate (d : Dev) (sess : Nat) (r : Ref) (op : Dev → Dev × Status × List Byte) : Dev :=
  match writeGate d sess r with
  | some st => emitResult d sess st []
  | none => let x := actionResult r (op d); emitResult x.1 sess x.2.1 x.2.2

/-- As withGate, for an operation that also changes memory. -/
def withGateMem (s : State) (sess : Nat) (r : Ref) (op : State → State × Status × List Byte) : State :=
  match writeGate s.dev sess r with
  | some st => withDev s (emitResult s.dev sess st [])
  | none =>
    let x := op s
    let y := actionResult r (x.1.dev, x.2)
    withDev x.1 (emitResult y.1 sess y.2.1 y.2.2)

/-- Whether an integer's reading lies in a stated range (R36). -/
def rngNat (r : Rng) (t : Ty) (n : Nat) : Bool :=
  match r with
  | .nat lo hi => decide (lo ≤ n) && decide (n ≤ hi)
  | .orVal lo hi v => decide (n = v) || (decide (lo ≤ n) && decide (n ≤ hi))
  | .sint lo hi => decide (lo ≤ sintOf (8 * t.len) n) && decide (sintOf (8 * t.len) n ≤ hi)
  | .mask m => decide (n &&& m = n)
  | .set l => l.contains n
  | .evenNat lo hi => decide (lo ≤ n) && decide (n ≤ hi) && decide (n % 2 = 0)
  | .noThrees k => (List.range k).all (fun i => decide (fieldOf n (2 * i) 2 ≠ 3))
  | .pins => (List.range 4).all (fun i => decide (fieldOf n (8 * i) 8 < 168) || decide (fieldOf n (8 * i) 8 = 255))
  | .counterSelect =>
    let g := n / 4096
    let i := n % 4096
    decide (n = 0xFFFF) || decide (i < ([1024, 64, 32, 384, 384, 32, 32, 1, 8, 1].getD g 0))
  | .input => decide (n &&& ([0, 0x000F, 0x030F, 0x00F7, 0x0FE7].getD (n / 4096) 0) = n % 4096) && decide (n < 0x5000)
  | _ => true

/-- Whether octets keep a stated range (R36, R241). -/
def rngBytes (r : Rng) (b : List Byte) : Bool :=
  match r with
  | .len n => decide (b.length = n)
  | .lenMax n => decide (b.length ≤ n)
  | .gamma => decide (b.length = 514) && (List.range 257).all (fun k => decide (ofLe (sliceOf b (2 * k) 2) ≤ 4095))
  | .steps => decide (b.length % 4 = 0) && decide (b.length ≤ 256)
  | _ => true

/-- Whether a value lies within a member's range: the width of its type, then the stated range (R36). -/
def inRange (m : MemberRow) (v : Val) : Bool :=
  match v with
  | .num n => decide (n < 256 ^ m.typ.len) && (m.typ != .bool || decide (n ≤ 1)) && rngNat m.rng m.typ n
  | .bytes b => rngBytes m.rng b

/-- A plain RW or W member written: refused with ACCESS or RANGE, else it takes effect when the write completes
(R36, R37). -/
def plainWrite (d : Dev) (r : Ref) (v : Val) : Dev × Status × List Byte :=
  match rowOf r with
  | none => (d, .noMember, [])
  | some m =>
    if m.acc ≠ .rw ∧ m.acc ≠ .w then (d, .access, [])
    else if inRange m v then (mSet d r v, .ok, [])
    else (d, .range, [])

end Sys2Proof.Machine
end

