-- ==== Sys2Proof/Machine/LaneTx.lean ====
section
/-!
DEFINITION. What goes into a transmit lane's queues (link chapter): packet headers and trailers, LINE, SIG, MODE and CTRL
packets (R393 to R401, R404, R441).
-/
namespace Sys2Proof.Machine

/-- A head beside its members. -/
def headOf (d : Dev) (h : Nat) : HeadSt := mapGet d.heads.head h HeadSt.reset

/-- A head changed. -/
def updHead (d : Dev) (h : Nat) (f : HeadSt → HeadSt) : Dev :=
  { d with heads.head := mapSet d.heads.head h (f (headOf d h)) HeadSt.reset }

/-- Columns of a line in force (R244). -/
def Timing.hTotal (t : Timing) : Nat := t.hActive + t.hFront + t.hSync + t.hBack
/-- Lines of a frame in force (R243). -/
def Timing.vTotal (t : Timing) : Nat := t.vActive + t.vFront + t.vSync + t.vBack
/-- Lines of vertical blanking in force (R243). -/
def Timing.vBlank (t : Timing) : Nat := t.vFront + t.vSync + t.vBack

/-- The frame period in force, in ns. -/
def Timing.frameNs (t : Timing) : Rat := (t.hTotal * t.vTotal * 10 ^ 9 : Nat) / (max 1 t.pixelClock : Nat)
/-- The line time in force, in ns. -/
def Timing.lineNs (t : Timing) : Rat := (t.hTotal * 10 ^ 9 : Nat) / (max 1 t.pixelClock : Nat)

/-- The beam of a head, as pixel clocks since its frame boundary (R245), never past the frame's last pixel: a step of the timebase
since then does not move it (R257). -/
def beamPixels (d : Dev) (h : Nat) : Nat :=
  let t := (headOf d h).timing
  min (((tbNs d : Int) - (headOf d h).stepped - (nGet d (head_LAST_BOUNDARY h) : Nat)).toNat * t.pixelClock / 10 ^ 9)
    (t.hTotal * t.vTotal - 1)

/-- The beam of a head: frame line and column (R243, R244); a head without frames is at (0, 0). -/
def beamPos (d : Dev) (h : Nat) : Nat × Nat :=
  if nGet d (head_STATE h) < 2 then (0, 0)
  else (beamPixels d h / max 1 (headOf d h).timing.hTotal, beamPixels d h % max 1 (headOf d h).timing.hTotal)

/-- A lane. -/
def laneOf (d : Dev) (l : Nat) : LaneSt := mapGet d.lanes.lane l LaneSt.reset

/-- A lane changed. -/
def updLane (d : Dev) (l : Nat) (f : LaneSt → LaneSt) : Dev :=
  { d with lanes.lane := mapSet d.lanes.lane l (f (laneOf d l)) LaneSt.reset }

/-- Octets from numbers. -/
def octets (l : List Nat) : List Byte := l.map (BitVec.ofNat 8)

/-- A header of seven octets with its HCRC (R393). -/
def withHcrc (h : List Byte) : List Byte := h ++ [BitVec.ofNat 8 (crc8 h)]

/-- Octets padded with zeros to whole blocks of 8. -/
def padBlocks (b : List Byte) : List Byte := b ++ zeros (roundUp b.length 8 - b.length)

/-- A trailer block (R394). -/
def trailer (crc frame : Nat) : List Byte := leBytes 4 crc ++ octets [frame, 0, 0, 0]

/-- A protected packet as sent (R399). -/
def protectedBytes (typ seq sub : Nat) (payload : List Byte) : List Byte :=
  let h := octets [typ, seq, payload.length, payload.length / 256, sub, 0, 0]
  withHcrc h ++ padBlocks payload ++ trailer (crc32 (h ++ payload)) 0

/-- A LINE packet (R395): n octets of the stream from octet o of an active line. -/
def linePacket (line o total frame : Nat) (piece : List Byte) : List Byte :=
  let p := padBlocks piece
  let flags := (if o = 0 then 1 else 0) + (if total ≤ o + 1024 then 2 else 0)
  withHcrc (octets [0x2D, flags, line, line / 256 % 64, o / 8, o / 8 / 256, p.length / 8 - 1]) ++ p ++ trailer (crc32 p) frame

/-- The packets of one line stream (R397). -/
def linePackets (line frame : Nat) (stream : List Byte) : List Packet :=
  (List.range (ceilDiv stream.length 1024)).map (fun k =>
    { typ := 0x2D, seq := line, bytes := linePacket line (1024 * k) stream.length frame ((stream.drop (1024 * k)).take 1024) })

/-- The bits of a list of numbers of w bits each, least significant first, as octets (R396). -/
def packBits (w : Nat) (l : List Nat) : List Byte :=
  let n := l.foldr (fun x a => x % 2 ^ w + a * 2 ^ w) 0
  leBytes (ceilDiv (l.length * w) 8) n

/-- Octets of LINE blocks that a lane's queue holds. -/
def queued (x : LaneSt) : Nat := x.lineQ.foldl (fun a p => a + p.bytes.length) 0

/-- A LINE packet with FLAGS.TRUNC (R395, R404) and its first n payload blocks. -/
def truncPacket (n : Nat) (p : Packet) : Packet :=
  let h := ((p.bytes.take 7).set 1 (p.bytes.getD 1 0 ||| 4)).set 6 (BitVec.ofNat 8 (n - 1))
  let body := sliceOf p.bytes 8 (8 * n)
  { p with bytes := withHcrc h ++ body ++ trailer (crc32 body) (p.bytes.getD (p.bytes.length - 4) 0).toNat }

/-- The last element of a list that meets a test, changed. -/
def mapLast {α : Type} (p : α → Bool) (f : α → α) : List α → List α
  | [] => []
  | x :: l => if p x && !l.any p then f x :: l else x :: mapLast p f l

/-- The packet of a line that fills the queue (R404): what of it fits is sent with TRUNC; where nothing of it does, the packet of the line
before it in the queue gets TRUNC, if one is left (assumption log 143). -/
def cutAt (q : List Packet) (room : Nat) (p : Packet) : List Packet :=
  if 3 ≤ room / 8 then q ++ [truncPacket (room / 8 - 2) p]
  else mapLast (fun x => decide (x.seq = p.seq)) (fun x => truncPacket (x.bytes.length / 8 - 2) x) q

/-- LINE packets put into a lane's queue of 65,536 octets in order; at the first that does not fit the line is cut, and the rest of it is
dropped (R403, R404). -/
def pushLine (d : Dev) (l : Nat) : List Packet → Dev
  | [] => d
  | p :: ps =>
    let n := queued (laneOf d l)
    if n + p.bytes.length ≤ 65536 then pushLine (updLane d l (fun x => { x with lineQ := x.lineQ ++ [p] })) l ps
    else updLane d l (fun x => { x with lineQ := cutAt x.lineQ (65536 - n) p, cutLines := x.cutLines ++ [p.seq] })

/-- Whether a head's packets can leave by its lane: the lane is READY, and the second one of a bonded pair as well (R417). -/
def pairReady (d : Dev) (l : Nat) : Bool :=
  decide (nGet d (lane_STATE l) = 6) && (List.range 16).all (fun h =>
    !(decide ((headOf d h).timing.lane = l) && decide ((headOf d h).timing.lanes = 2) && decide (nGet d (head_STATE h) ≠ 0)) ||
      decide (nGet d (lane_STATE (l + 1)) = 6))

/-- A protected packet put into its queue; it gets its SEQ when it is sent. SIG packets of a lane that is not READY, or whose pair is not,
are discarded (R417). -/
def pushProtected (d : Dev) (l typ sub : Nat) (payload : List Byte) : Dev :=
  let p : Packet := { typ := typ, seq := sub, bytes := payload }
  if 32 ≤ l then d
  else if typ = 0x66 then updLane d l (fun x => { x with modeQ := x.modeQ ++ [p] })
  else if typ = 0x55 then
    if pairReady d l then updLane d l (fun x => { x with sigQ := x.sigQ ++ [p] }) else d
  else updLane d l (fun x => { x with ctrlQ := x.ctrlQ ++ [p] })

/-- The payload of a MODE packet (R401). -/
def modePayload (t : Timing) (relock : Bool) (frame : Nat) : List Byte :=
  leBytes 4 t.pixelClock ++ ([t.hActive, t.hFront, t.hSync, t.hBack, t.vActive, t.vFront, t.vSync, t.vBack].map (leBytes 2)).flatten ++
    octets [t.linkBpp, 0, t.lanes, relock.toNat, frame] ++ zeros 7

/-- The first lane of a head in force; 0xFF for none. -/
def headLane (d : Dev) (h : Nat) : Nat := (headOf d h).timing.lane

/-- The lanes of a head in force. -/
def headLanes (d : Dev) (h : Nat) : List Nat :=
  let t := (headOf d h).timing
  if 32 ≤ t.lane then [] else if t.lanes = 2 then [t.lane, t.lane + 1] else [t.lane]

/-- A MODE packet sent by a head (R260, R261, R417). -/
def sendMode (d : Dev) (h : Nat) (relock : Bool) : Dev :=
  pushProtected d (headLane d h) 0x66 0 (modePayload (headOf d h).timing relock (nGet d (head_FRAME_COUNT h) % 256))

/-- The payload of a SIG packet (R400). -/
def sigPayload (frame : Nat) (rects : List (Nat × Nat × Nat × Nat)) (prevFrame : Nat) (crcs : List Nat) : List Byte :=
  octets [frame, rects.length, 0, 0] ++
  (rects.map (fun r => leBytes 2 r.1 ++ leBytes 2 r.2.1 ++ leBytes 2 r.2.2.1 ++ leBytes 2 r.2.2.2)).flatten ++
  octets [prevFrame, crcs.length, 0, 0] ++ (crcs.map (leBytes 4)).flatten

/-- The lane that reaches a head's panel (R407): the one in force, and for a stopped head the one that its members name. -/
def ctrlLane (d : Dev) (h : Nat) : Nat := if nGet d (head_STATE h) = 0 then nGet d (head_LANE h) else headLane d h

/-- A CTRL packet on a channel of a head's lane (R399, R407). -/
def sendCtrl (d : Dev) (h channel : Nat) (payload : List Byte) : Dev := pushProtected d (ctrlLane d h) 0x33 channel payload

/-- An entry for the fault log of a head's panel (R441). -/
def panelLog (d : Dev) (h code cause : Nat) : Dev :=
  sendCtrl d h 3 (octets [5] ++ leBytes 8 (tbNs d) ++ octets [code, cause] ++ zeros 6)

end Sys2Proof.Machine
end

