-- ==== Sys2Proof/Machine/Observe.lean ====
section
/-!
DEFINITION. Trace records, counters, snapshots and the service log (observation chapter), as operations that the
families call.
-/
namespace Sys2Proof.Machine

/-- The SCOPE bit a kind of record belongs to (R726); 5 stands for the kinds of every scope. -/
def traceScope (kind : Nat) : Nat :=
  if kind = 1 then 4
  else if kind ≤ 6 then 1
  else if kind ≤ 8 then 2
  else if kind = 9 then 3
  else if kind ≤ 11 then 0
  else 5

/-- Whether the transmitters of the Chimney port are on (R725). -/
def chimneyOn (d : Dev) : Bool := decide (nGet d obs_TOKEN_STATE = 1)

/-- Whether a kind of record is sent now (R725, R726). -/
def traceOn (d : Dev) (kind unit : Nat) : Bool :=
  chimneyOn d && bitOf (nGet d obs_TRACE_KINDS) kind && (traceScope kind == 5 || bitOf (nGet d obs_SCOPE) (traceScope kind)) &&
  (kind ≠ 1 || bitOf ((sliceOf (bGet d obs_TRACE_EVENTS) (unit / 8) 1).head?.getD 0).toNat (unit % 8))

/-- A record put into the FIFO of 1,024; one that finds it full is dropped and counted (R727). -/
def trace (d : Dev) (kind unit data : Nat) : Dev :=
  if traceOn d kind unit then
    if d.obs.fifo.length < 1024 then
      { d with obs.fifo := d.obs.fifo ++ [{ kind := kind, unit := unit, time := tbNs d, data := data }] }
    else nInc { d with obs.dropped := satAdd 32 d.obs.dropped 1 } obs_RECORDS_LOST
  else d

/-- The counters that have counted in the present cycle (R729). -/
def countedNow (d : Dev) : List Nat := if d.obs.countedAt = d.now then d.obs.counted else []

/-- Counter k counts n of a signal (R728, R729): 64 bits, saturating. -/
def counterAdd (d : Dev) (sel n k : Nat) : Dev :=
  if nGet d (ctr_SELECT k) = sel ∧ nGet d (ctr_ENABLE k) = 1 then
    nSet { d with obs.countedAt := d.now, obs.counted := addOnce (countedNow d) k } (ctr_VALUE k) (satAdd 64 (nGet d (ctr_VALUE k)) n)
  else d

/-- Every running counter that selects a signal counts n of it (R728). -/
def countSignal (d : Dev) (sel n : Nat) : Dev :=
  if d.obs.running then (List.range 512).foldl (fun d k => counterAdd d sel n k) d else d

/-- A service-log entry (R735): the last 64, in rising instance order, wrapping. -/
def serviceLog (d : Dev) (kind unit detail : Nat) : Dev :=
  let k := nGet d svc_LOG_NEXT
  nSets d [(svcLog_TIME k, tbNs d), (svcLog_KIND k, kind), (svcLog_UNIT k, unit % 65536),
    (svcLog_DETAIL k, detail % 2 ^ 32), (svc_LOG_NEXT, (k + 1) % 64),
    (svc_LOG_ENTRIES, satAdd 32 (nGet d svc_LOG_ENTRIES) 1)]

/-- A mask with bit i set for each index below n that meets a test. -/
def maskOf (n : Nat) (p : Nat → Bool) : Nat := (List.range n).foldl (fun a i => if p i then a + 2 ^ i else a) 0

/-- A thread's state as the snapshot of its cluster sorts it (R734): 1 executing, 2 waiting, 3 stopped or faulted. -/
def threadSort (d : Dev) (t : Nat) : Nat :=
  match (mapGet d.beam.threads t Thread.reset).state with
  | .running => 1
  | .stalled _ _ _ _ => 1
  | .waitPos _ _ _ => 2
  | .waitEv => 2
  | .empty => 3
  | .faulted => 3

/-- The levels of FLT_A and FLT_B (R298): true is high, and none high impedance. -/
def faultLevels (d : Dev) : Option Bool × Option Bool :=
  if d.hearth.released then (none, none)
  else if nGet d hearth_FAULT_PINS = 0 then (some true, some false)
  else (some false, some true)

/-- The four snapshot words of an island (R734). The SCAN slots of a channel's round are not modelled: word 0 of a channel
is a free value (assumption log 4). -/
def snapWords (d : Dev) (i : Nat) : List Nat :=
  if i < 12 then (List.range 3).map (fun k => maskOf 32 (fun b => threadSort d (32 * i + b) == k + 1))
  else if i < 44 then
    let p := i - 12
    let b := (d.stoker.bands.find? (fun b => decide (b.first ≤ p) && decide (p < b.first + b.split * b.stages)))
    let x := mapGet d.pipes.pipe p Pipe.reset
    [(match b with
      | some b => ((headOf d b.head).timing.vBlank + x.next) % 2 ^ 14 + b.head * 2 ^ 16
      | none => 0),
     (d.dram.reads.filter (fun e => decide (e.2.cls = 0) && decide (e.2.unit % 32 = p))).length, x.race, 0]
  else if i < 60 then
    let h := i - 44
    [(beamPos d h).2 + (beamPos d h).1 * 2 ^ 16, nGet d (head_FRAME_COUNT h), nGet d (head_STATE h), nGet d (head_UNDERRUN_LINES h)]
  else if i < 92 then
    let l := i - 60
    [nGet d (lane_STATE l), queued (laneOf d l), nGet d (lane_BLOCK_ERRORS l), (laneOf d l).unacked.length]
  else if i < 100 then
    [freeNat d 32, (d.dram.reads.filter (fun e => decide (e.2.chan = i - 92))).length, nGet d (chan_CORRECTED (i - 92)),
     nGet d (chan_UNCORRECTABLE (i - 92))]
  else if i = 100 then [d.dram.reads.length, nGet d ctrCtl_ISLAND_OFF_ACCESSES, 0, 0]
  else if i = 101 then
    [nGet d (upl_LINK 0) % 2 + 2 * (nGet d (upl_LINK 1) % 2),
     (List.range 4).foldl (fun a c => a + nGet d (can_STATE c) % 16 * 16 ^ c) 0, 0, 0]
  else if i = 102 then [d.audio.samples, nGet d avas_SOUNDING, 0, 0]
  else if i = 103 then
    [(d.scene.evaluating.map (·.number)).getD 0, nGet d commitCtl_STAGED_COUNT, 0, 0]
  else
    [maskOf 32 (fun m => nGet d (matcher_OUTPUT m) == 1),
     maskOf 8 (fun k => nGet d (hvs_LEVEL k) == 1) + ((faultLevels d).1 == some true).toNat * 2 ^ 8 +
       ((faultLevels d).2 == some true).toNat * 2 ^ 9,
     (d.objs.filter (fun e => decide (refClass e.1 = 0x20) && decide (0x1000 ≤ refInst e.1) &&
       decide (refMember e.1 = refMember (slot_SHOWN 0)))).length, 0]

/-- One island latches its words and stamp (R732). The model's islands share one clock, so the latch cycle is the
trigger cycle (assumption log 13). -/
def snapIsland (d : Dev) (t i : Nat) : Dev :=
  let off := d.islands.off.contains i
  let w := if off then [0, 0, 0, 0] else snapWords d i
  let d := if 92 ≤ i ∧ i < 100 then freeUsed d else d
  nSets d [(isl_STAMP i, t), (isl_STATE i, if off then 2 else if d.islands.gated.contains i then 1 else 0),
    (isl_WORD i 0, w.getD 0 0 % 2 ^ 32), (isl_WORD i 1, w.getD 1 0 % 2 ^ 32),
    (isl_WORD i 2, w.getD 2 0 % 2 ^ 32), (isl_WORD i 3, w.getD 3 0 % 2 ^ 32)]

/-- Every counter's VALUE copied to its SNAP_VALUE (R732). -/
def snapCounters (d : Dev) : Dev :=
  (List.range 512).foldl (fun d k => nSet d (ctr_SNAP_VALUE k) (nGet d (ctr_VALUE k))) d

/-- A trigger of the sources in a mask (R731): taken if ARMED, else counted in MISSED; one in the cycle of the snapshot's own joins
CAUSE. SNAP_OUT rises for 1 µs (R733). Not in Winter or Frost. -/
def snapTrigger (d : Dev) (cause : Nat) : Dev :=
  let en := cause &&& nGet d snap_SOURCES
  if en = 0 ∨ asleep d then d
  else if nGet d snap_ARMED = 0 ∧ d.obs.snapAt = some d.now then nSet d snap_CAUSE (nGet d snap_CAUSE ||| en)
  else if nGet d snap_ARMED = 0 then nInc d snap_MISSED
  else
    let t := tbNs d
    let d := nSets d [(snap_ARMED, 0), (snap_SEQ, satAdd 32 (nGet d snap_SEQ) 1), (snap_TRIGGER_TIME, t), (snap_CAUSE, en)]
    let d := (List.range 105).foldl (fun d i => snapIsland d t i) d
    let d := snapCounters d
    arm { d with obs.snapOut := true, obs.snapAt := some d.now } tkSnapOut 0 (us 1)

end Sys2Proof.Machine
end

