-- ==== Sys2Proof/Machine/Events.lean ====
section
/-!
DEFINITION. The event controller (events chapter): raising, claiming and ending event sources, the Damper, delivery to
the host, and the commands of that chapter other than DOORBELL.
-/
namespace Sys2Proof.Machine

/-- The Damper group of a source (R623). -/
def groupOf (n : Nat) : Nat := n / 16

/-- The claim word of a source (R618). -/
def claimWord (d : Dev) (n : Nat) (held : Bool) : Nat :=
  n + nGet d (ev_COUNT n) * 2 ^ 16
    + (if eventSense n = 1 then nGet d (ev_LEVEL n) else 0) * 2 ^ 24
    + (if d.events.saturated.contains n then 1 else 0) * 2 ^ 25
    + (if held then 1 else 0) * 2 ^ 26

/-- The hold that a claim starts (R623): HOLDOFF_US of 0 never holds. -/
def startHold (d : Dev) (g : Nat) : Dev :=
  if nGet d (damper_HOLDOFF_US g) = 0 then d
  else arm (nSet d (damper_HOLDING g) 1) tkDamper g (us (nGet d (damper_HOLDOFF_US g)))

/-- A source claimed by a claimant (R619): COUNT and SATURATED clear, the source is ACTIVE, its group may hold. -/
def claimSource (d : Dev) (n who : Nat) : Dev :=
  let g := groupOf n
  let d := nSets d [(ev_COUNT n, 0), (ev_STATE n, 2)]
  let d := nInc d (ev_CLAIMS n)
  let d := if d.events.waited.contains n then nInc d (damper_HELD_CLAIMS g) else d
  let d := { d with events.saturated := d.events.saturated.filter (· ≠ n),
                    events.waited := d.events.waited.filter (· ≠ n),
                    events.claimant := mapPut d.events.claimant n who }
  startHold d g

/-- The end of interrupt of an ACTIVE source (R620). -/
def endSource (d : Dev) (n : Nat) : Dev :=
  let d := { d with events.claimant := mapErase d.events.claimant n }
  if nGet d (ev_COUNT n) > 0 then nSet d (ev_STATE n) 1
  else if eventSense n = 1 ∧ nGet d (ev_LEVEL n) = 1 then nSets d [(ev_COUNT n, 1), (ev_STATE n, 1)]
  else nSet d (ev_STATE n) 0

/-- An EOI sent by a claimant (R620): for a source that is not ACTIVE or that another claimed it counts in
EOI_ERRORS. -/
def eoi (d : Dev) (n who : Nat) : Dev :=
  if nGet d (ev_STATE n) = 2 ∧ mapFind d.events.claimant n = some who then endSource d n
  else nInc d evCtl_EOI_ERRORS

/-- The firmware claims a FIREKEEPER source and ends it at once (R614), unless its group holds or the Firekeeper is
stopped. A level that is still asserted leaves the source PENDING for the next claim (assumption log 14). -/
def firekeeperClaim (d : Dev) (n : Nat) : Dev :=
  if nGet d (ev_TARGET n) = 2 ∧ nGet d (ev_STATE n) = 1 ∧ nGet d (damper_HOLDING (groupOf n)) = 0
      ∧ nGet d dev_FK_STATE = 1 then
    endSource (claimSource d n 0) n
  else d

/-- A source raised by an amount (R610, R611): COUNT rises and saturates, RAISED counts, the source becomes PENDING
unless it is ACTIVE, the Firekeeper takes its own. -/
def raiseBy (d : Dev) (n amt : Nat) : Dev :=
  let c := nGet d (ev_COUNT n)
  let d := nInc (nSet d (ev_COUNT n) (min 255 (c + amt))) (ev_RAISED n)
  let d := { d with events.lastRaise := mapPut d.events.lastRaise n (tbNs d),
                    events.saturated := if 255 < c + amt ∧ ¬ d.events.saturated.contains n
                                        then d.events.saturated ++ [n] else d.events.saturated,
                    events.hostWake := d.events.hostWake || (nGet d (ev_TARGET n) == 3 && nGet d (ev_WAKE_HOST n) == 1
                                        && nGet d evCtl_HOST_STATE == 1) }
  let d := if nGet d (ev_STATE n) = 2 then d else nSet d (ev_STATE n) 1
  let d := countSignal d n 1
  let d := trace d 1 n (min 255 (c + amt))
  let d := if nGet d snap_EVENT = n then snapTrigger d 4 else d
  firekeeperClaim d n

/-- A pulse source raised once. -/
def raise (d : Dev) (n : Nat) : Dev := raiseBy d n 1

/-- A level source takes a level (R610): a change to asserted adds 1. -/
def setLevel (d : Dev) (n : Nat) (b : Bool) : Dev :=
  let old := nGet d (ev_LEVEL n)
  let d := nSet d (ev_LEVEL n) b.toNat
  if b ∧ old = 0 then raiseBy d n 1 else d

/-- A group's hold ends (R623, R624): its PENDING sources have waited for it, and the Firekeeper claims its own. -/
def endHold (d : Dev) (g : Nat) : Dev :=
  let d := disarm (nSet d (damper_HOLDING g) 0) tkDamper g
  let ns := (List.range 16).map (fun k => 16 * g + k)
  let w := ns.filter (fun n => decide (nGet d (ev_STATE n) = 1) && decide (nGet d (ev_TARGET n) ≠ 0)
    && !d.events.waited.contains n)
  let d := { d with events.waited := d.events.waited ++ w }
  ns.foldl firekeeperClaim d

/-- The Firekeeper runs, and claims the FIREKEEPER sources that have waited for it (R614, R629). -/
def startFirekeeper (d : Dev) : Dev := (List.range 1024).foldl firekeeperClaim (nSet d dev_FK_STATE 1)

/-- One notification of a claimed HOST source (R625), with the claim word and the time of the latest raise. -/
def claimNotif (d : Dev) (n : Nat) (held : Bool) : Notif :=
  { kind := 1, flags := if held then 1 else 0, ref := mref 0x50 n 0, time := mapGet d.events.lastRaise n 0, typ := 4,
    val := beBytes 4 (claimWord d n held), source := some n }

/-- Whether the controlling session's queue has no room (R76), or there is no such session. -/
def controllerFull (d : Dev) : Bool :=
  match d.noap.sessions.find? (fun x => x.controller && x.isOpen) with
  | some x => decide (256 ≤ x.queue.length)
  | none => true

/-- The device claims a HOST source for the controlling session (R625); a notification that is lost ends the claim
(R626). One claimed while the host sleeps drives HOST_WAKE (R627). -/
def hostClaim (d : Dev) (n : Nat) (held : Bool) : Dev :=
  let x := claimNotif d n held
  let full := controllerFull d
  let wakes := decide (nGet d evCtl_HOST_STATE = 1) && decide (nGet d (ev_WAKE_HOST n) = 1)
  let d := notifyController (claimSource { d with events.hostWake := d.events.hostWake || wakes } n 0) x
  if full then endSource d n else d

/-- Whether a HOST source can be claimed now (R625). -/
def hostClaimable (d : Dev) (n : Nat) : Bool :=
  decide (nGet d (ev_TARGET n) = 3) && decide (nGet d (ev_STATE n) = 1) &&
  decide (nGet d (damper_HOLDING (groupOf n)) = 0) && (controllerOf d).isSome &&
  decide (nGet d dev_FK_STATE = 1) &&
  (decide (nGet d evCtl_HOST_STATE = 0) || decide (nGet d (ev_WAKE_HOST n) = 1))

/-- HOST_STATE becomes AWAKE (R628): every pending HOST source is delivered at once, marked HELD_ACROSS_SLEEP. -/
def wakeHost (d : Dev) : Dev :=
  if nGet d evCtl_HOST_STATE = 0 then d
  else
    let d := nSet d evCtl_HOST_STATE 0
    let d := { d with events.hostWake := false }
    (List.range 1024).foldl (fun d n =>
      if nGet d (ev_TARGET n) = 3 ∧ nGet d (ev_STATE n) = 1 ∧ (controllerOf d).isSome ∧ nGet d dev_FK_STATE = 1 then
        hostClaim d n true
      else d) d

/-- Every source that a claimant holds gets an implicit EOI (R622). -/
def implicitEoi (d : Dev) (who : Nat) : Dev :=
  (d.events.claimant.filter (fun e => e.2 = who)).foldl (fun d e => endSource d e.1) d

/-- The HOST claims whose notifications a list carries end (R626). -/
def endNotified (d : Dev) (l : List Notif) : Dev :=
  l.foldl (fun d n => match n.source with
    | some k => if nGet d (ev_STATE k) = 2 then endSource d k else d
    | none => d) d

/-- A write of TARGET, PROGRAM or WAKE_HOST (R615). -/
def routingWrite (d : Dev) (n m v : Nat) : Dev × Status × List Byte :=
  if nGet d (ev_STATE n) = 2 then (d, .state, [])
  else if m = 1 then
    if v ≤ 3 then (firekeeperClaim (nSet d (ev_TARGET n) v) n, .ok, []) else (d, .range, [])
  else if m = 2 then
    if v = 0 then (nSet d (ev_PROGRAM n) 0, .ok, [])
    else if refClass v ≠ 0x17 ∨ refMember v ≠ 0 ∨ v ≥ 2 ^ 32 ∨ refInst v ≥ 1024 ∨ allocOf d v = 0 then (d, .range, [])
    else if nGet d (prog_LOADED (refInst v)) = 0 then (d, .state, [])
    else if nGet d (prog_KIND (refInst v)) = 0 then (d, .range, [])
    else (nSet d (ev_PROGRAM n) v, .ok, [])
  else if m = 3 then
    if v ≤ 1 then (nSet d (ev_WAKE_HOST n) v, .ok, []) else (d, .range, [])
  else if m ≤ 9 then (d, .access, [])
  else (d, .noMember, [])

/-- The named program is freed: TARGET of its sources becomes NONE, COUNT is kept (R615). -/
def unrouteProgram (d : Dev) (o : Ref) : Dev :=
  (List.range 1024).foldl (fun d n =>
    if nGet d (ev_PROGRAM n) = o then nSet d (ev_TARGET n) 0 else d) d

/-- A write of HOLDOFF_US (R623): from the next claim, and 0 ends a hold at once. -/
def holdoffWrite (d : Dev) (g v : Nat) : Dev × Status × List Byte :=
  if v < 65536 then
    let d := nSet d (damper_HOLDOFF_US g) v
    (if v = 0 ∧ nGet d (damper_HOLDING g) = 1 then endHold d g else d, .ok, [])
  else (d, .range, [])

/-- A write of HOST_STATE (R628, R632). -/
def hostStateWrite (d : Dev) (sess v : Nat) : Dev × Status × List Byte :=
  if isController d sess = false then (d, .access, [])
  else if v = 0 then (wakeHost d, .ok, [])
  else if v = 1 then (nSet d evCtl_HOST_STATE 1, .ok, [])
  else (d, .range, [])

/-- The RING action (R632): a doorbell source raised with ADD 1. -/
def ringAction (d : Dev) (n : Nat) : Dev × Status × List Byte :=
  if 960 ≤ n ∧ n ≤ 1023 then
    let d := raiseBy d n 1
    (d, .ok, beBytes 2 (nGet d (ev_COUNT n)))
  else (d, .range, [])

/-- RING_ACTION (R632). -/
def doRingAction (sess source : Nat) (d : Dev) : Dev :=
  withGate d sess evCtl_RING (fun d => ringAction d source)

/-- HOST_CLAIM (R625). -/
def doHostClaim (n : Fin 1024) (d : Dev) : Dev :=
  if hostClaimable d n.val then hostClaim d n.val false else d

/-- DAMPER_HOLD_EXPIRY (R623, R624). -/
def doDamperHoldExpiry (g : Fin 64) (d : Dev) : Dev :=
  if due d tkDamper g.val then endHold d g.val else d

/-- EVENT_ROUTING_WRITE (R615). -/
def doEventRoutingWrite (sess : Nat) (n : Fin 1024) (m v : Nat) (d : Dev) : Dev :=
  withGate d sess (mref 0x50 n.val m) (fun d => routingWrite d n.val m v)

/-- HOLDOFF_WRITE (R623). -/
def doHoldoffWrite (sess : Nat) (g : Fin 64) (v : Nat) (d : Dev) : Dev :=
  withGate d sess (damper_HOLDOFF_US g.val) (fun d => holdoffWrite d g.val v)

/-- HOST_STATE_WRITE (R628). -/
def doHostStateWrite (sess v : Nat) (d : Dev) : Dev :=
  withGate d sess evCtl_HOST_STATE (fun d => hostStateWrite d sess v)

/-- RING_ACTION (R632). -/
def execRingAction (sess source : Nat) (s : State) : Res := .next (withDev s (doRingAction sess source s.dev))
/-- HOST_CLAIM (R625). -/
def execHostClaim (source : Fin 1024) (s : State) : Res := .next (withDev s (doHostClaim source s.dev))
/-- DAMPER_HOLD_EXPIRY (R623). -/
def execDamperHoldExpiry (g : Fin 64) (s : State) : Res := .next (withDev s (doDamperHoldExpiry g s.dev))
/-- EVENT_ROUTING_WRITE (R615). -/
def execEventRoutingWrite (sess : Nat) (source : Fin 1024) (m v : Nat) (s : State) : Res :=
  .next (withDev s (doEventRoutingWrite sess source m v s.dev))
/-- HOLDOFF_WRITE (R623). -/
def execHoldoffWrite (sess : Nat) (g : Fin 64) (v : Nat) (s : State) : Res :=
  .next (withDev s (doHoldoffWrite sess g v s.dev))
/-- HOST_STATE_WRITE (R628). -/
def execHostStateWrite (sess v : Nat) (s : State) : Res := .next (withDev s (doHostStateWrite sess v s.dev))

end Sys2Proof.Machine
end

