-- ==== Sys2Proof/Machine/Hearth.lean ====
section
/-!
DEFINITION. The Hearth plane (Hearth chapter): the signal map's states, the combination of tell-tales, the store, fault
latches and pins, hearth-only causes, and the commands that act on them alone.
-/
namespace Sys2Proof.Machine

/-- A head's live value of an RWF member: the newest write that took effect on the head, else the default (R88). -/
def liveVal (d : Dev) (h : Nat) (r : Ref) : Val := (mapFind d.scene.live (r * 16 + h)).getD (memberDefault r)

/-- A head's live value as a number. -/
def liveNat (d : Dev) (h : Nat) (r : Ref) : Nat :=
  match liveVal d h r with
  | .num n => n
  | .bytes _ => 0

/-- A head's live value as octets. -/
def liveBytes (d : Dev) (h : Nat) (r : Ref) : List Byte :=
  match liveVal d h r with
  | .num _ => []
  | .bytes b => b

/-- Whether a head runs: its STATE is other than STOPPED (R767). -/
def headRuns (d : Dev) (h : Nat) : Bool := nGet d (head_STATE h) != 0

/-- The Hearth part of a head. -/
def hheadOf (d : Dev) (h : Nat) : HHead := mapGet d.hearth.heads h HHead.reset

/-- The Hearth part of a head changed. -/
def updHHead (d : Dev) (h : Nat) (f : HHead → HHead) : Dev :=
  { d with hearth.heads := mapSet d.hearth.heads h (f (hheadOf d h)) HHead.reset }

/-- First address of the Hearth store (R266). -/
def storeBase : Nat := 0x1100000000

/-- A 32-bit word of the Hearth store at an offset. -/
def storeWord (m : List Host.Cell) (o : Nat) : Nat := memReadLe m (storeBase + o) 4

/-- Width of a symbol (R268). -/
def symWidth (m : List Host.Cell) (i : Nat) : Nat := fieldOf (storeWord m (0x100 + 16 * i)) 0 10 + 1
/-- Height of a symbol (R268). -/
def symHeight (m : List Host.Cell) (i : Nat) : Nat := fieldOf (storeWord m (0x100 + 16 * i)) 10 10 + 1
/-- Format of a symbol (R268): 0 A4, 1 I4. -/
def symFormat (m : List Host.Cell) (i : Nat) : Nat := fieldOf (storeWord m (0x100 + 16 * i)) 20 2
/-- Offset of a symbol's row 0 (R268). -/
def symData (m : List Host.Cell) (i : Nat) : Nat := fieldOf (storeWord m (0x104 + 16 * i)) 0 21
/-- Offset of a symbol's palette (R268). -/
def symPalette (m : List Host.Cell) (i : Nat) : Nat := fieldOf (storeWord m (0x108 + 16 * i)) 0 21
/-- Octets of one row of a symbol (R268). -/
def symPitch (m : List Host.Cell) (i : Nat) : Nat := ceilDiv (symWidth m i * 4) 32 * 4

/-- The slots that name a signal-map entry in SIGNAL or SIGNAL_2, as slot-object indices 64 h + s; an entry number of
0xFFFF names none (R273, R277). -/
def slotsNaming (d : Dev) (n : Nat) : List Nat :=
  (d.objs.filter (fun e => decide (refClass e.1 = 0x20) && decide (0x1000 ≤ refInst e.1) &&
    (decide (refMember e.1 = 5) || decide (refMember e.1 = 6)) && decide (e.2 = Val.num n))).map
    (fun e => refInst e.1 - 0x1000)

/-- The state of an entry as a slot sees it: an entry number above 255 contributes off (R277). -/
def entryState (d : Dev) (n : Nat) : Nat := if n < 256 then nGet d (sig_STATE n) else 0

/-- Whether an entry counts as in loss; a GPIO entry has no loss (R283; assumption log 16). -/
def entryInLoss (d : Dev) (n : Nat) : Bool :=
  decide (n < 256) && decide (nGet d (sig_IN_LOSS n) = 1) && decide (nGet d (sig_SOURCE n) ≠ 2)

/-- The rank of a state for OR: on above blink above off (R277). -/
def stateRank (x : Nat) : Nat := if x = 1 then 2 else if x = 2 then 1 else 0

/-- What COMBINE of slot i gives for its entries, each a state with its loss (R277). -/
def combineSlot (d : Dev) (i : Nat) (a b : Nat × Bool) : Nat :=
  if nGet d (slot_COMBINE i) = 1 then (if stateRank a.1 < stateRank b.1 then b.1 else a.1)
  else if nGet d (slot_COMBINE i) = 2 ∧ a.2 then b.1
  else a.1

/-- The combined state of slot i (R277). -/
def shownOf (d : Dev) (i : Nat) : Nat :=
  let e := fun n => (entryState d n, entryInLoss d n)
  combineSlot d i (e (nGet d (slot_SIGNAL i))) (e (nGet d (slot_SIGNAL_2 i)))

/-- The state and the loss of an entry as the tell-tale state register has it at a time (R20, R21, R23). -/
def entryAt (d : Dev) (n t : Nat) : Nat × Bool :=
  match d.hearth.changes.find? (fun c => decide (c.entry = n) && decide (t < c.at')) with
  | some c => (c.was, c.wasLoss)
  | none => (entryState d n, entryInLoss d n)

/-- The combined state of slot i as the state register has it at a time (R23, R277). -/
def shownAtTime (d : Dev) (i t : Nat) : Nat :=
  combineSlot d i (entryAt d (nGet d (slot_SIGNAL i)) t) (entryAt d (nGet d (slot_SIGNAL_2 i)) t)

/-- An entry is about to change, the state register taking it `lag` ns from now: what it reads until then. A change that it would have
taken later goes. -/
def noteEntry (d : Dev) (n lag : Nat) : Dev :=
  let t := d.now + lag
  let old := entryAt d n (t - 1)
  let keep := d.hearth.changes.filter (fun c => decide (d.now < c.at') && !(decide (c.entry = n) && decide (t ≤ c.at')))
  { d with hearth.changes := if lag = 0 then keep else keep ++ [{ entry := n, at' := t, was := old.1, wasLoss := old.2 }] }

/-- The first pixel of a head's present frame, counted from the frame boundary at the mixer, that shows a state which the tell-tale
state register takes `lag` ns from now (R22, R23): it reaches the lane output 12 pixel clocks after the mixer, and 14 after the
register at the earliest. -/
def cutPixel (d : Dev) (h lag : Nat) : Nat :=
  let q := headOf d h
  let t := ((tbNs d : Int) - q.stepped + (lag : Nat) - (nGet d (head_LAST_BOUNDARY h) : Nat)).toNat
  ceilDiv (t * q.timing.pixelClock) (10 ^ 9) + 2

/-- The frame that a head scans keeps the old state of slot i up to the pixel of R23. -/
def noteCut (d : Dev) (i lag : Nat) : Dev :=
  let h := i / 64
  if nGet d (head_STATE h) < 3 then d
  else updHHead d h (fun x => { x with cuts := x.cuts ++ [{ slot := i % 64, pixel := cutPixel d h lag, was := nGet d (slot_SHOWN i) }] })

/-- SHOWN of a slot worked out anew (R277) at once. -/
def recombine (d : Dev) (i : Nat) : Dev :=
  if shownOf d i = nGet d (slot_SHOWN i) then d else nSet (noteCut d i 0) (slot_SHOWN i) (shownOf d i)

/-- The times from now on at which the state register takes a change of an entry of slot i, rising, now among them. -/
def changeTimes (d : Dev) (i : Nat) : List Nat :=
  let mine := fun (c : EntryChange) => decide (d.now < c.at') &&
    (decide (c.entry = nGet d (slot_SIGNAL i)) || decide (c.entry = nGet d (slot_SIGNAL_2 i)))
  d.now :: sortBy id ((d.hearth.changes.filter mine).map (·.at'))

/-- The cuts that are still to come in the frame that a head scans, after a change of an entry of slot i (R23): one at each time at which
the register's combination changes. -/
def retime (d : Dev) (was i : Nat) : Dev :=
  let h := i / 64
  if nGet d (head_STATE h) < 3 then d
  else
    let ts := changeTimes d i
    let before := was :: ts.map (shownAtTime d i)
    let turns := (ts.zip before).filter (fun x => decide (shownAtTime d i x.1 ≠ x.2))
    let new : List Cut := turns.map (fun x => { slot := i % 64, pixel := cutPixel d h (x.1 - d.now), was := x.2 })
    updHHead d h (fun x => { x with cuts := x.cuts.filter (fun c => !(decide (c.slot = i % 64) && decide (cutPixel d h 0 < c.pixel))) ++ new })

/-- SHOWN of every slot that names an entry worked out anew after a change of the entry, with the cuts of R23 (R277). `was` is the block
before it. -/
def recombineFor (was d : Dev) (n : Nat) : Dev :=
  (slotsNaming d n).foldl (fun d i => nSet (retime d (shownAtTime was i d.now) i) (slot_SHOWN i) (shownOf d i)) d

/-- A change of an entry (R277, R284, R286) which the state register takes `lag` ns from now. -/
def entryChange (lag : Nat) (d : Dev) (n : Nat) (f : Dev → Dev) : Dev := recombineFor d (f (noteEntry d n lag)) n

/-- An entry's state written (R277, R284), with the edge that voices see and the time at which it enters blink (R538). -/
def writeEntryState (d : Dev) (n st : Nat) : Dev :=
  let old := nGet d (sig_STATE n)
  let edge := if old = 0 ∧ st ≠ 0 then 1 else if old ≠ 0 ∧ st = 0 then 2 else 0
  let blinking := if st ≠ 2 then mapErase d.audio.blinking n else if old = 2 then d.audio.blinking else mapPut d.audio.blinking n (tbNs d)
  nSet { d with audio.edges := mapSet d.audio.edges n (mapGet d.audio.edges n 0 ||| edge) 0, audio.blinking := blinking } (sig_STATE n) st

/-- The timeout of an entry counts anew from now (R286); a TIMEOUT of 0 and a GPIO entry have none (R283). -/
def rearmEntry (d : Dev) (n : Nat) : Dev :=
  if nGet d (sig_TIMEOUT n) = 0 ∨ nGet d (sig_SOURCE n) = 2 ∨ nGet d (sig_SOURCE n) = 0 then disarm d tkSignal n
  else arm d tkSignal n (ms (nGet d (sig_TIMEOUT n)))

/-- An entry enters loss (R286): STATE takes LOSS_STATE, and 3 keeps the present state; the counter reference goes. -/
def enterLoss (d : Dev) (n : Nat) : Dev :=
  let ls := nGet d (sig_LOSS_STATE n)
  entryChange 0 { d with hearth.refs := mapErase d.hearth.refs n } n (fun d =>
    let d := disarm (nSet d (sig_IN_LOSS n) 1) tkSignal n
    if ls = 3 then d else writeEntryState d n ls)

/-- The value DECODE gives (R284): 3 holds. -/
def decodeState (d : Dev) (n v : Nat) : Nat := fieldOf (nGet d (sig_DECODE n)) (2 * v) 2

/-- A value applied to an entry, which ends a loss: the state DECODE gives, 3 leaves it (R283, R284). -/
def applyValue (lag : Nat) (d : Dev) (n v : Nat) : Dev :=
  entryChange lag d n (fun d =>
    let st := decodeState d n v
    let d := nSet d (sig_IN_LOSS n) 0
    if st = 3 then d else writeEntryState d n st)

/-- Whether every head that must light is lit and no fault holds the pins (R298). -/
def pinsNormal (d : Dev) : Bool :=
  decide (nGet d hearth_PACKAGE_STATE = 2) && d.hearth.keepalive && !d.hearth.tripped &&
  (List.range 16).all (fun h =>
    (decide (liveNat d h (head_ENABLE h) ≠ 1) || decide (liveNat d h (head_SAFETY h) ≠ 1) ||
      decide (nGet d (head_STATE h) = 3) || decide (nGet d (head_STATE h) = 4)) &&
    (decide (nGet d (hhead_REACTION h) = 0) || decide (nGet d (hhead_FAULTS h) = 0)))

/-- The fault pins take the state of R298; released pads stay released (R299). -/
def updPins (d : Dev) : Dev :=
  if d.hearth.released then d else nSet d hearth_FAULT_PINS (if pinsNormal d then 0 else 1)

/-- A cause of hearth-only mode arises on a head (R303): its bit is set; the head enters at its next boundary. -/
def hoCauseSet (d : Dev) (h bit : Nat) : Dev := nSet d (hhead_HO_CAUSE h) (setBit (nGet d (hhead_HO_CAUSE h)) bit true)

/-- A cause of hearth-only mode ends on a head (R303). -/
def hoCauseClear (d : Dev) (h bit : Nat) : Dev := nSet d (hhead_HO_CAUSE h) (setBit (nGet d (hhead_HO_CAUSE h)) bit false)

/-- The notification of a latched Hearth fault, sent without a subscription (R296). -/
def faultNotif (d : Dev) (h : Nat) : Notif :=
  { kind := 0, flags := 0, ref := hhead_FAULTS h, time := tbNs d, typ := 2, val := beBytes 1 (nGet d (hhead_FAULTS h)),
    source := none }

/-- A Hearth fault latches on a head (R296, R297): FAULTS, LAST_FAULT_FRAME and LAST_FAULT_TIME, the service log, the
event, the notification, a snapshot trigger, and the head's REACTION. -/
def latchFault (d : Dev) (h bit frame : Nat) : Dev :=
  if bitOf (nGet d (hhead_FAULTS h)) bit then d
  else
    let d := nSets d [(hhead_FAULTS h, setBit (nGet d (hhead_FAULTS h)) bit true), (hhead_LAST_FAULT_FRAME h, frame),
      (hearth_LAST_FAULT_TIME, tbNs d)]
    let d := serviceLog d 1 h bit
    let d := panelLog d h 1 bit
    let d := trace d 5 h (nGet d (hhead_FAULTS h))
    let d := if nGet d (hhead_REACTION h) = 2 then hoCauseSet d h 5 else d
    let d := updPins d
    let d := raise d (384 + 8 * h + 7)
    let d := if nGet d dev_FK_STATE = 1 then notifyController d (faultNotif d h) else d
    snapTrigger d 8

/-- PACKAGE_STATE becomes INVALID, and PACKAGE is latched on every head (R269). -/
def packageInvalid (d : Dev) : Dev :=
  (List.range 16).foldl (fun d h => latchFault d h 4 (nGet d (head_FRAME_COUNT h))) (updPins (nSet d hearth_PACKAGE_STATE 3))

/-- The row range of a slot's region holds a line (R274). -/
def slotCovers (d : Dev) (m : List Host.Cell) (i y : Nat) : Bool :=
  decide (nGet d (slot_Y i) ≤ y) && decide (y < nGet d (slot_Y i) + symHeight m (nGet d (slot_SYMBOL i)))

/-- Whether no active line of a head holds more than 16 enabled slots (R274). It is enough to look at the lines on which
a slot begins. -/
def slotLinesOk (d : Dev) (m : List Host.Cell) (h : Nat) : Bool :=
  let on := ((List.range 64).map (fun s => 64 * h + s)).filter (fun i => decide (nGet d (slot_ENABLE i) = 1))
  on.all (fun i => decide ((on.filter (fun j => slotCovers d m j (nGet d (slot_Y i)))).length ≤ 16))

/-- The distance an enabled slot or plate keeps from the edge while the panel's orbit is on (R451). -/
def orbitMargin (d : Dev) (h : Nat) (on : Bool) : Nat := if on && nGet d (panel_ORBIT_ENABLE h) == 1 then 3 else 0

/-- Whether a rectangle lies within a head's live active area, a margin inside its edges (R274, R451). -/
def regionInside (d : Dev) (h k x y w ht : Nat) : Bool :=
  decide (k ≤ x) && decide (k ≤ y) && decide (x + w + k ≤ liveNat d h (head_H_ACTIVE h)) &&
  decide (y + ht + k ≤ liveNat d h (head_V_ACTIVE h))

/-- Whether a slot's symbol and region are in range (R274): the symbol exists, is at most 256 x 256, and its region lies
within the head's live active area. -/
def slotRegionOk (d : Dev) (m : List Host.Cell) (i : Nat) : Bool :=
  let h := i / 64
  let sy := nGet d (slot_SYMBOL i)
  decide (sy < nGet d hearth_SYMBOLS) && decide (symWidth m sy ≤ 256) && decide (symHeight m sy ≤ 256) &&
  regionInside d h (orbitMargin d h (nGet d (slot_ENABLE i) == 1)) (nGet d (slot_X i)) (nGet d (slot_Y i))
    (symWidth m sy) (symHeight m sy)

/-- A write to a member of slot i (R274): LOCK, then SHOWN, then the ranges, taken on the slot as it would be. The
region is checked for a write of SYMBOL, X or Y and for a write that enables the slot (assumption log 15). With the
panel's orbit on, an enabled slot keeps 3 pixels from the edge (R451). -/
def slotWrite (m : List Host.Cell) (d : Dev) (i mem v : Nat) : Dev × Status × List Byte :=
  match rowOf (mref 0x20 (0x1000 + i) mem) with
  | none => (d, .noMember, [])
  | some row =>
    if row.acc ≠ .rw then (d, .access, [])
    else if nGet d hearth_LOCK = 1 then (d, .access, [])
    else if nGet d (slot_SHOWN i) ≠ 0 then (d, .state, [])
    else if inRange row (.num v) = false then (d, .range, [])
    else
      let d' := nSet d (mref 0x20 (0x1000 + i) mem) v
      let geo := decide (mem = 2) || decide (mem = 3) || decide (mem = 4) || (decide (mem = 1) && decide (v = 1))
      if geo && !slotRegionOk d' m i then (d, .range, [])
      else if !slotLinesOk d' m (i / 64) then (d, .range, [])
      else (recombine d' i, .ok, [])

/-- Whether a slot that names an entry has SHOWN other than 0 (R287, R650). -/
def entryShown (d : Dev) (n : Nat) : Bool := (slotsNaming d n).any (fun i => decide (nGet d (slot_SHOWN i) ≠ 0))

/-- The values of UNIT and VALUE_WIDTH that the source of an entry admits (R280): UNIT is a controller, a matcher or a port, and a
GPIO value has one bit (assumption log 117). -/
def entryRange (d : Dev) (n mem v : Nat) : Bool :=
  let src := nGet d (sig_SOURCE n)
  if mem = 2 then decide (v < (if src = 1 then 4 else if src = 3 then 2 else 32))
  else if mem = 5 then decide (src ≠ 2) || decide (v = 1)
  else true

/-- A write to members 1 to 18 of a signal-map entry (R287): it puts the entry into loss, without counting; a GPIO entry has no loss
(R283). -/
def signalMapWrite (d : Dev) (n mem v : Nat) : Dev × Status × List Byte :=
  match rowOf (mref 0x21 n mem) with
  | none => (d, .noMember, [])
  | some row =>
    if row.acc ≠ .rw then (d, .access, [])
    else if nGet d hearth_LOCK = 1 then (d, .access, [])
    else if entryShown d n then (d, .state, [])
    else if (inRange row (.num v) && entryRange d n mem v) = false then (d, .range, [])
    else
      let was := d
      let d := nSet d (mref 0x21 n mem) v
      if nGet d (sig_SOURCE n) = 2 then (recombineFor was (disarm (nSet d (sig_IN_LOSS n) 0) tkSignal n) n, .ok, [])
      else (enterLoss d n, .ok, [])

/-- A write of HO_REQUEST (R303): 1 stands on its own beside a failed panel's (R436); 0 also ends the request of start-up (R713). -/
def hoRequestWrite (d : Dev) (h v : Nat) : Dev × Status × List Byte :=
  if nGet d hearth_LOCK = 1 then (d, .access, [])
  else if v = 1 then
    let x := mapGet d.wear.panel h PanelSt.reset
    let d := { d with wear.panel := mapSet d.wear.panel h { x with withheld := false } PanelSt.reset }
    (hoCauseSet (nSet d (hhead_HO_REQUEST h) 1) h 4, .ok, [])
  else if v = 0 ∧ nGet d (panel_IDENTITY_STATE h) = 3 then (d, .state, [])
  else if v = 0 then
    let d := hoCauseClear (nSet d (hhead_HO_REQUEST h) 0) h 4
    ({ d with trust.held := setBit d.trust.held h false }, .ok, [])
  else (d, .range, [])

/-- The faults of a head whose cause is no longer present (R300). -/
def clearableFaults (d : Dev) (h : Nat) : Nat :=
  let x := hheadOf d h
  let f := nGet d (hhead_FAULTS h)
  (if bitOf f 0 ∧ 3 ≤ x.matchRun then 1 else 0) + (if bitOf f 1 ∧ 3 ≤ x.matchRun then 2 else 0)
    + (if bitOf f 2 ∧ x.mixClean then 4 else 0) + (if bitOf f 3 ∧ ¬ x.eccCause then 8 else 0)
    + (if bitOf f 4 ∧ nGet d hearth_PACKAGE_STATE = 2 then 16 else 0)

/-- One head named by FAULT_CLEAR (R300): cleared when no cause remains, which also ends cause FAULT (R303). -/
def faultClearHead (d : Dev) (h : Nat) : Dev × Bool :=
  let f := nGet d (hhead_FAULTS h)
  if f ≠ 0 ∧ clearableFaults d h = f then (hoCauseClear (nSet d (hhead_FAULTS h) 0) h 5, true) else (d, false)

/-- FAULT_CLEAR (R300): the result names the heads cleared; STATE if none was. -/
def faultClear (d : Dev) (mask : Nat) : Dev × Status × List Byte :=
  if mask ≥ 65536 then (d, .range, [])
  else
    let r := (bitsOf mask 16).foldl (fun (a : Dev × Nat) h =>
      let x := faultClearHead a.1 h
      (x.1, if x.2 then a.2 + 2 ^ h else a.2)) (d, 0)
    (updPins r.1, if r.2 = 0 then .state else .ok, beBytes 2 r.2)

/-- Whether every plate of a PLATES value names no symbol or lies where R451 lets it. -/
def platesOk (d : Dev) (m : List Host.Cell) (h : Nat) (b : List Byte) : Bool :=
  (List.range 8).all (fun k =>
    let sy := ofLe (sliceOf b (8 * k) 2)
    decide (sy = 0xFFFF) ||
    (orbitMargin d h true == 0) ||
    regionInside d h 3 (ofLe (sliceOf b (8 * k + 2) 2)) (ofLe (sliceOf b (8 * k + 4) 2)) (symWidth m sy) (symHeight m sy))

/-- A write to a member of 20:00hh (R271, R272, R451). -/
def hheadWrite (m : List Host.Cell) (d : Dev) (h mem : Nat) (v : Val) : Dev × Status × List Byte :=
  if nGet d hearth_LOCK = 1 then (d, .access, [])
  else match v with
    | .num n =>
      if mem = 8 then hoRequestWrite d h n
      else let x := plainWrite d (mref 0x20 h mem) v; (updPins x.1, x.2)
    | .bytes b =>
      if mem = 10 ∧ b.length = 64 ∧ platesOk d m h b = false then (d, .range, [])
      else plainWrite d (mref 0x20 h mem) v

/-- The time of a generator's period and on time, ns (R279). -/
def blinkPeriod (d : Dev) (g : Nat) : Nat := us (nGet d (if g = 0 then hearth_BLINK0_PERIOD else hearth_BLINK1_PERIOD))
/-- The on time of a generator in ns (R279). -/
def blinkOnTime (d : Dev) (g : Nat) : Nat := us (nGet d (if g = 0 then hearth_BLINK0_ON else hearth_BLINK1_ON))

/-- Whether blink generator g is on at time t (R279): (t mod P) < D. -/
def blinkAt (d : Dev) (g t : Nat) : Bool := decide (t % blinkPeriod d g < blinkOnTime d g)

/-- Whether blink generator g is on (R279). -/
def blinkOn (d : Dev) (g : Nat) : Bool := blinkAt d g (tbNs d)

/-- The write of a blink member (R271): the period from 250,000 to 2,000,000 µs, ON from 1 to the period. -/
def blinkWrite (d : Dev) (mem v : Nat) : Dev × Status × List Byte :=
  if nGet d hearth_LOCK = 1 then (d, .access, [])
  else if mem = 5 ∨ mem = 7 then
    if 250000 ≤ v ∧ v ≤ 2000000 then (nSet d (mref 0x20 0x100 mem) v, .ok, [])
    else (d, .range, [])
  else if 1 ≤ v ∧ v ≤ nGet d (mref 0x20 0x100 (mem - 1)) then (nSet d (mref 0x20 0x100 mem) v, .ok, [])
  else (d, .range, [])

/-- A store word in error makes STORE_ECC latch on the heads whose enabled slots or plates use it (R270). -/
def symbolUses (m : List Host.Cell) (i w : Nat) : Bool :=
  let a := symData m i
  let e := a + symPitch m i * symHeight m i
  let p := symPalette m i
  (decide (a / 8 ≤ w) && decide (w * 8 < e)) ||
    (decide (symFormat m i = 1) && decide (p / 8 ≤ w) && decide (w * 8 < p + 64)) ||
    decide ((0x100 + 16 * i) / 8 ≤ w) && decide (w * 8 < 0x110 + 16 * i)

/-- The symbol of plate k of a head, if it has one (R272). -/
def plateSymbol (d : Dev) (h k : Nat) : Nat := ofLe (sliceOf (bGet d (hhead_PLATES h)) (8 * k) 2)

/-- Whether an enabled slot or a plate of a head uses a store word (R270). -/
def headUsesWord (d : Dev) (m : List Host.Cell) (h w : Nat) : Bool :=
  (List.range 64).any (fun s => decide (nGet d (slot_ENABLE (64 * h + s)) = 1) &&
    symbolUses m (nGet d (slot_SYMBOL (64 * h + s))) w) ||
  (List.range 8).any (fun k => decide (plateSymbol d h k ≠ 0xFFFF) && symbolUses m (plateSymbol d h k) w)

/-- An entry of the error log (R493): the last 16, in rising instance order, wrapping. -/
def errorLog (d : Dev) (addr place master kind : Nat) : Dev :=
  let k := nGet d mem_LOG_NEXT
  nSets d [(errLog_TIME k, tbNs d), (errLog_ADDRESS k, addr), (errLog_WHERE k, place), (errLog_MASTER k, master),
    (errLog_KIND k, kind), (mem_LOG_NEXT, (k + 1) % 16)]

/-- An SRAM word with a single-bit error was corrected (R483). -/
def sramCorrected (d : Dev) : Dev := nInc d mem_SRAM_CORRECTED

/-- An uncorrectable SRAM word was found (R483, R494): counted, logged for an SRAM port, SRAM_UNCORRECTABLE raised; its effect depends on
the bank. -/
def sramBad (d : Dev) (addr place kind : Nat) : Dev :=
  raise (errorLog (nInc d mem_SRAM_UNCORRECTABLE) addr place 8 kind) 842

/-- STORE_ECC latched on a head (R270). -/
def latchStoreEcc (d : Dev) (h : Nat) : Dev :=
  latchFault (updHHead d h (fun x => { x with eccCause := true })) h 3 (nGet d (head_FRAME_COUNT h))

/-- An uncorrectable store word found by a scrub (R270, R483): counted and logged when it is first found (assumption log 138). -/
def storeWordBad (m : List Host.Cell) (d : Dev) (w : Nat) : Dev :=
  let d := if d.hearth.badWords.contains w then d
    else sramBad { d with hearth.badWords := d.hearth.badWords ++ [w] } (storeBase + 8 * w) 11 2
  (List.range 16).foldl (fun d h => if headUsesWord d m h w then latchStoreEcc d h else d) d

/-- Whether drawing row r of a symbol reads a store word in error: of its descriptor, of the row, or of its palette (R268, R270). -/
def rowReadsBad (d : Dev) (m : List Host.Cell) (i r : Nat) : Bool :=
  let a := symData m i + r * symPitch m i
  let p := symPalette m i
  d.hearth.badWords.any (fun w =>
    (decide ((0x100 + 16 * i) / 8 ≤ w) && decide (w * 8 < 0x110 + 16 * i)) ||
    (decide (a / 8 ≤ w) && decide (w * 8 < a + symPitch m i)) ||
    (decide (symFormat m i = 1) && decide (p / 8 ≤ w) && decide (w * 8 < p + 64)))

/-- HEARTH_SLOT_WRITE (R274). -/
def doHearthSlotWrite (sess : Nat) (h : Fin 16) (slot : Fin 64) (mem v : Nat) (m : List Host.Cell) (d : Dev) : Dev :=
  withGate d sess (mref 0x20 (0x1000 + 64 * h.val + slot.val) mem) (fun d => slotWrite m d (64 * h.val + slot.val) mem v)

/-- SIGNAL_MAP_WRITE (R287). -/
def doSignalMapWrite (sess : Nat) (n : Fin 256) (mem v : Nat) (d : Dev) : Dev :=
  withGate d sess (mref 0x21 n.val mem) (fun d => signalMapWrite d n.val mem v)

/-- HO_REQUEST_WRITE (R303). -/
def doHoRequestWrite (sess : Nat) (h : Fin 16) (v : Nat) (d : Dev) : Dev :=
  withGate d sess (hhead_HO_REQUEST h.val) (fun d => hoRequestWrite d h.val v)

/-- FAULT_CLEAR (R300). -/
def doFaultClear (sess mask : Nat) (d : Dev) : Dev := withGate d sess hearth_FAULT_CLEAR (fun d => faultClear d mask)

/-- MIXER_MISMATCH (R294): the difference latches MIXER in the cycle in which it is found. -/
def doMixerMismatch (h : Fin 16) (d : Dev) : Dev :=
  let d := updHHead d h.val (fun x => { x with mixDiff := true, mixClean := false })
  latchFault d h.val 2 (nGet d (head_FRAME_COUNT h.val))

/-- KEEPALIVE_LOSS (R299): pads that are not released drive the safe state. -/
def doKeepaliveLoss (d : Dev) : Dev := updPins { d with hearth.keepalive := false }

/-- BLINK_GENERATOR_EDGE (R279): the generator takes the value its period and on time give at this timebase. -/
def doBlinkGeneratorEdge (g : Fin 2) (d : Dev) : Dev :=
  let b := blinkOn d g.val
  if g.val = 0 then { d with hearth.blink0 := b } else { d with hearth.blink1 := b }

/-- HEARTH_SCRUB (R270, R483) of store word w with a number of bits in error: one is corrected and counted, more are
uncorrectable under SECDED. -/
def doHearthScrub (w flips : Nat) (m : List Host.Cell) (d : Dev) : Dev :=
  if w ≥ 262144 then d
  else if flips = 0 then d
  else if flips = 1 then sramCorrected (nInc d hearth_STORE_CORRECTED)
  else storeWordBad m d w

/-- HEARTH_SLOT_WRITE (R274). -/
def execHearthSlotWrite (sess : Nat) (h : Fin 16) (slot : Fin 64) (m v : Nat) (s : State) : Res :=
  .next (withDev s (doHearthSlotWrite sess h slot m v s.mem s.dev))
/-- SIGNAL_MAP_WRITE (R287). -/
def execSignalMapWrite (sess : Nat) (n : Fin 256) (m v : Nat) (s : State) : Res :=
  .next (withDev s (doSignalMapWrite sess n m v s.dev))
/-- HO_REQUEST_WRITE (R303). -/
def execHoRequestWrite (sess : Nat) (h : Fin 16) (v : Nat) (s : State) : Res :=
  .next (withDev s (doHoRequestWrite sess h v s.dev))
/-- FAULT_CLEAR (R300). -/
def execFaultClear (sess mask : Nat) (s : State) : Res := .next (withDev s (doFaultClear sess mask s.dev))
/-- MIXER_MISMATCH (R294). -/
def execMixerMismatch (h : Fin 16) (s : State) : Res := .next (withDev s (doMixerMismatch h s.dev))
/-- KEEPALIVE_LOSS (R299). -/
def execKeepaliveLoss (s : State) : Res := .next (withDev s (doKeepaliveLoss s.dev))
/-- BLINK_GENERATOR_EDGE (R279). -/
def execBlinkGeneratorEdge (g : Fin 2) (s : State) : Res := .next (withDev s (doBlinkGeneratorEdge g s.dev))
/-- HEARTH_SCRUB (R270). -/
def execHearthScrub (word flips : Nat) (s : State) : Res := .next (withDev s (doHearthScrub word flips s.mem s.dev))

end Sys2Proof.Machine
end

