-- ==== Sys2Proof/Machine/Pins.lean ====
section
/-!
DEFINITION. Pins (pins chapter): ownership, pad levels, the bank actions, pattern matchers and HVS inputs.
-/
namespace Sys2Proof.Machine

/-- Whether CAN FD controller c claims its balls on a route (R637). -/
def canClaims (d : Dev) (c route : Nat) : Bool :=
  decide (c < 4) && decide (nGet d (can_MODE c) ≠ 0) && decide (fieldOf (nGet d route_CAN_ROUTE) (2 * c) 2 = route)

/-- Whether TDM port p claims its balls on a route (R637). -/
def tdmClaims (d : Dev) (p route : Nat) : Bool :=
  decide (p < 4) && decide (nGet d (tdm_ENABLE p) = 1) && decide (fieldOf (nGet d route_TDM_ROUTE) p 1 = route)

/-- Whether HOST_WAKE claims its ball on a route (R637). -/
def wakeClaims (d : Dev) (route : Nat) : Bool := decide (nGet d route_HOST_WAKE_ROUTE = route)

/-- The owner of a ball (R636, R638): 0 GPIO, 1 CAN FD, 2 TDM, 3 HOST_WAKE. -/
def ownerOf (d : Dev) (p : Nat) : Nat :=
  if p < 8 then (if canClaims d (p / 2) 0 then 1 else 0)
  else if p < 24 then (if tdmClaims d ((p - 8) / 4) 0 then 2 else 0)
  else if p = 24 then (if wakeClaims d 0 then 3 else 0)
  else if 32 ≤ p ∧ p < 48 then
    (if tdmClaims d ((p - 32) / 4) 1 then 2
     else if 40 ≤ p ∧ canClaims d ((p - 40) / 2) 1 then 1 else 0)
  else if 48 ≤ p ∧ p < 56 then
    (if canClaims d ((p - 48) / 2) 2 then 1 else if p = 48 ∧ wakeClaims d 1 then 3 else 0)
  else 0

/-- Whether two functions of equal rank claim a ball, which leaves its level and direction undefined (R639). -/
def ownerTie (d : Dev) (p : Nat) : Bool := decide (p = 48) && canClaims d 0 2 && wakeClaims d 1

/-- The level that HOST_WAKE drives (R637, R627). -/
def hostWakeLevel (d : Dev) : Nat :=
  let pol := nGet d route_HOST_WAKE_POLARITY
  if d.events.hostWake then pol else 1 - pol

/-- The output enable of a ball's owner (R637, R642). A TDM DOUT ball is driven only during its own bits, which the
model does not follow (assumption log 17). -/
def padEnable (d : Dev) (p : Nat) : Nat :=
  match ownerOf d p with
  | 0 => fieldOf (nGet d (bank_OE (p / 32))) (p % 32) 1
  | 1 => if p % 2 = 0 then 1 else 0
  | 2 =>
    let port := if p < 32 then (p - 8) / 4 else (p - 32) / 4
    if p % 4 < 2 ∧ nGet d (tdm_ROLE port) = 0 then 1 else 0
  | _ => 1

/-- The level a ball's owner drives (R637, R642). -/
def padDrive (d : Dev) (p : Nat) : Nat :=
  match ownerOf d p with
  | 0 => fieldOf (nGet d (bank_DATA_OUT (p / 32))) (p % 32) 1
  | 1 => 1
  | 2 => 0
  | _ => hostWakeLevel d

/-- The level at a pad (R641): what the pad latch drives, else what is driven from outside (1 low, 2 high), else what the
pull gives. -/
def padLevel (d : Dev) (p : Nat) : Nat :=
  if mapGet d.pins.latchEnable p 0 = 1 then
    (if ownerOf d p = 3 ∧ d.pins.asleep = false then hostWakeLevel d else mapGet d.pins.latchLevel p 0)
  else match mapGet d.pins.outside p 0 with
    | 1 => 0
    | 2 => 1
    | _ => if d.pins.held then 0 else if fieldOf (nGet d (bank_PULL (p / 32))) (2 * (p % 32)) 2 = 2 then 1 else 0

/-- The number whose bit i is f i, for i below n. -/
def gatherBits (n : Nat) (f : Nat → Nat) : Nat := (List.range n).foldl (fun a i => a + (f i % 2) * 2 ^ i) 0

/-- DATA_IN of every bank from the pad levels (R641, R642). -/
def readPads (d : Dev) : Dev :=
  let moved := (List.range 160).filter (fun p => decide (fieldOf (nGet d (bank_DATA_IN (p / 32))) (p % 32) 1 ≠ padLevel d p))
  let d := { d with pins.changed := moved.foldl (fun m p => mapPut m p d.now) d.pins.changed }
  (List.range 5).foldl (fun d b => nSet d (bank_DATA_IN b) (gatherBits 32 (fun i => padLevel d (32 * b + i)))) d

/-- The level of a matcher input: a GPIO ball, or an HVS filtered level (R647, R648). -/
def inputLevel (d : Dev) (code : Nat) : Nat :=
  if code < 160 then fieldOf (nGet d (bank_DATA_IN (code / 32))) (code % 32) 1
  else if code < 168 then nGet d (hvs_LEVEL (code - 160))
  else 0

/-- The compare result of a matcher over some input levels (R648). -/
def matcherHit (d : Dev) (lvl : Nat → Nat) (k : Nat) : Nat :=
  let pat := nGet d (matcher_PATTERN k)
  let pins := nGet d (matcher_PINS k)
  let taking := (List.range 4).filter (fun i => bitOf pat (4 + i))
  let hit := !taking.isEmpty && taking.all (fun i => decide (lvl (fieldOf pins (8 * i) 8) = fieldOf pat i 1))
  if nGet d (matcher_INVERT k) = 1 then (!hit).toNat else hit.toNat

/-- The compare result of a matcher (R648). -/
def matcherResult (d : Dev) (k : Nat) : Nat := matcherHit d (inputLevel d) k

/-- The signal-map entries of a source and unit, rising (R280). -/
def entriesOf (d : Dev) (source unit : Nat) : List Nat :=
  ((d.objs.filter (fun e => decide (refClass e.1 = 0x21) && decide (refMember e.1 = 1) && decide (e.2 = Val.num source))).map
    (fun e => refInst e.1)).filter (fun n => decide (n < 256) && decide (nGet d (sig_UNIT n) = unit))

/-- A matcher's OUTPUT takes a value (R648): CHANGES counts, its signal-map entries apply it (R283; R20 from the pad's edge),
its level source follows. -/
def matcherOutput (d : Dev) (k v : Nat) : Dev :=
  if nGet d (matcher_OUTPUT k) = v then d
  else
    let d := nInc (nSet d (matcher_OUTPUT k) v) (matcher_CHANGES k)
    let d := (entriesOf d 2 k).foldl (fun d n => applyValue 15 d n v) d
    setLevel d (896 + k) (v == 1)

/-- A matcher looks at its inputs (R648): a result that differs from OUTPUT must hold for DEBOUNCE more cycles. -/
def matcherLook (d : Dev) (k : Nat) : Dev :=
  let r := matcherResult d k
  let old := mapGet d.pins.matchResult k 0
  let d := { d with pins.matchResult := mapSet d.pins.matchResult k r 0 }
  if r = nGet d (matcher_OUTPUT k) then disarm d tkMatcher k
  else if nGet d (matcher_DEBOUNCE k) = 0 then matcherOutput (disarm d tkMatcher k) k r
  else if r ≠ old ∨ armed d tkMatcher k = false then arm d tkMatcher k (5 * nGet d (matcher_DEBOUNCE k))
  else d

/-- The pads are read and every matcher looks at them; in Winter and Frost they are not (R655). -/
def settlePins (d : Dev) : Dev :=
  if d.pins.asleep then d else (List.range 32).foldl matcherLook (readPads d)

/-- Every pad latch takes what its ball's owner drives, OWNER is worked out anew and the pads are read (R638, R640). -/
def drivePads (d : Dev) : Dev :=
  if d.pins.asleep then d
  else
    let en := fun p => if d.pins.held then 0 else if ownerTie d p then freeNat d 2 / 2 else padEnable d p
    let lv := fun p => if ownerTie d p then freeNat d 2 % 2 else padDrive d p
    let ps := List.range 160
    let d' := ps.foldl (fun (x : Dev) p =>
      { x with pins.latchEnable := mapSet x.pins.latchEnable p (en p) 0,
               pins.latchLevel := mapSet x.pins.latchLevel p (lv p) 0 }) d
    let d' := if ownerTie d 48 then freeUsed d' else d'
    let d' := (List.range 5).foldl (fun x b =>
      bSet x (bank_OWNER b) ((List.range 32).map (fun i => BitVec.ofNat 8 (ownerOf d (32 * b + i))))) d'
    settlePins d'

/-- A write of DATA_OUT, OE, PULL or SLEEP_STATE (R643). -/
def bankWrite (d : Dev) (r : Ref) (v : Val) : Dev × Status × List Byte :=
  let x := plainWrite d r v
  if x.2.1 = .ok then (drivePads x.1, x.2) else x

/-- SET, CLEAR and TOGGLE (R644): the new DATA_OUT is the result. -/
def bankAction (d : Dev) (b new : Nat) (mask : Nat) : Dev × Status × List Byte :=
  if mask ≥ 2 ^ 32 then (d, .range, [])
  else
    let d := drivePads (nSet d (bank_DATA_OUT b) new)
    (d, .ok, beBytes 4 (nGet d (bank_DATA_OUT b)))

/-- The SET action (R644). -/
def bankSet (d : Dev) (b mask : Nat) : Dev × Status × List Byte :=
  bankAction d b (nGet d (bank_DATA_OUT b) ||| mask) mask
/-- The CLEAR action (R644). -/
def bankClear (d : Dev) (b mask : Nat) : Dev × Status × List Byte :=
  bankAction d b (nGet d (bank_DATA_OUT b) &&& (mask ^^^ 0xFFFFFFFF)) mask
/-- The TOGGLE action (R644). -/
def bankToggle (d : Dev) (b mask : Nat) : Dev × Status × List Byte :=
  bankAction d b (nGet d (bank_DATA_OUT b) ^^^ mask) mask

/-- A routing write (R646): the route of an enabled controller or port cannot change. -/
def routeWrite (d : Dev) (mem v : Nat) : Dev × Status × List Byte :=
  match rowOf (mref 0x58 0x100 mem) with
  | none => (d, .noMember, [])
  | some row =>
    if inRange row (.num v) = false then (d, .range, [])
    else if mem = 1 ∧ (List.range 4).any (fun c => decide (nGet d (can_MODE c) ≠ 0) &&
        decide (fieldOf v (2 * c) 2 ≠ fieldOf (nGet d route_CAN_ROUTE) (2 * c) 2)) then (d, .state, [])
    else if mem = 2 ∧ (List.range 4).any (fun p => decide (nGet d (tdm_ENABLE p) = 1) &&
        decide (fieldOf v p 1 ≠ fieldOf (nGet d route_TDM_ROUTE) p 1)) then (d, .state, [])
    else (drivePads (nSet d (mref 0x58 0x100 mem) v), .ok, [])

/-- Whether a PATTERN makes an input take part whose PINS byte is 0xFF (R647). -/
def patternUnused (d : Dev) (k v : Nat) : Bool :=
  (List.range 4).any (fun i => bitOf v (4 + i) && decide (fieldOf (nGet d (matcher_PINS k)) (8 * i) 8 = 0xFF))

/-- A write to a matcher (R649, R650). -/
def matcherWrite (d : Dev) (k mem v : Nat) : Dev × Status × List Byte :=
  match rowOf (mref 0x58 (0x200 + k) mem) with
  | none => (d, .noMember, [])
  | some row =>
    if row.acc ≠ .rw then (d, .access, [])
    else if nGet d hearth_LOCK = 1 ∧ entriesOf d 2 k ≠ [] then (d, .access, [])
    else if (entriesOf d 2 k).any (entryShown d) then (d, .state, [])
    else if inRange row (.num v) = false then (d, .range, [])
    else if mem = 2 ∧ patternUnused d k v then (d, .range, [])
    else (settlePins (disarm (nSet d (mref 0x58 (0x200 + k) mem) v) tkMatcher k), .ok, [])

/-- Whether HVS input k is asserted at its comparator (R651): above the threshold under POLARITY 0. -/
def hvsAsserted (d : Dev) (k : Nat) : Nat :=
  let above := mapGet d.pins.hvsCompare k 0
  if nGet d (hvs_POLARITY k) = 0 then above else 1 - above

/-- An HVS filtered level takes a value (R651, R652). -/
def hvsLevel (d : Dev) (k v : Nat) : Dev :=
  settlePins (setLevel (nSet { d with pins.changed := mapPut d.pins.changed (160 + k) d.now } (hvs_LEVEL k) v) (928 + k) (v == 1))

/-- An HVS filter looks at its comparator (R652): the value must hold for FILTER_US. -/
def hvsLook (d : Dev) (k : Nat) : Dev :=
  if hvsAsserted d k = nGet d (hvs_LEVEL k) then disarm d tkHvs k
  else if nGet d (hvs_FILTER_US k) = 0 then hvsLevel d k (hvsAsserted d k)
  else arm d tkHvs k (us (nGet d (hvs_FILTER_US k)))

/-- The balls pass from their held state to their owners, and the HVS filters look at their comparators (R652, R654, R656). -/
def startPins (d : Dev) : Dev := (List.range 8).foldl hvsLook (drivePads { d with pins.held := false, pins.asleep := false })

/-- Whether the ball that HOST_WAKE owns has a level that DATA_IN does not show yet (R627, R641). -/
def wakeBallMoved (d : Dev) : Bool :=
  decide (d.power.phase = .running) && !d.pins.asleep && [24, 48].any (fun p => decide (ownerOf d p = 3) &&
    decide (fieldOf (nGet d (bank_DATA_IN (p / 32))) (p % 32) 1 ≠ padLevel d p))

/-- The pads are read again where HOST_WAKE has moved its ball (R627, R641). -/
def followWake (d : Dev) : Dev := if wakeBallMoved d then settlePins d else d

/-- A write to an HVS input (R651). -/
def hvsWrite (d : Dev) (k mem : Nat) (v : Val) : Dev × Status × List Byte :=
  let x := plainWrite d (mref 0x58 (0x300 + k) mem) v
  if x.2.1 = .ok ∧ d.pins.asleep = false then (hvsLook x.1 k, x.2) else x

/-- GPIO_EDGE (R20, R641): the level driven onto the ball from outside changes; the pads are read, the matchers compare. -/
def doGpioEdge (pin : Fin 160) (level : Bool) (d : Dev) : Dev :=
  settlePins { d with pins.outside := mapPut d.pins.outside pin.val (if level then 2 else 1) }

/-- MATCHER_DEBOUNCE_EXPIRY (R648). -/
def doMatcherDebounceExpiry (m : Fin 32) (d : Dev) : Dev :=
  if due d tkMatcher m.val then matcherOutput (disarm d tkMatcher m.val) m.val (mapGet d.pins.matchResult m.val 0) else d

/-- SET (R644). -/
def doSet (sess : Nat) (b : Fin 5) (mask : Nat) (d : Dev) : Dev :=
  withGate d sess (bank_SET b.val) (fun d => bankSet d b.val mask)
/-- CLEAR of a bank (R644). -/
def doGpioClear (sess : Nat) (b : Fin 5) (mask : Nat) (d : Dev) : Dev :=
  withGate d sess (bank_CLEAR b.val) (fun d => bankClear d b.val mask)
/-- TOGGLE (R644). -/
def doToggle (sess : Nat) (b : Fin 5) (mask : Nat) (d : Dev) : Dev :=
  withGate d sess (bank_TOGGLE b.val) (fun d => bankToggle d b.val mask)
/-- ROUTE_WRITE (R646). -/
def doRouteWrite (sess m v : Nat) (d : Dev) : Dev :=
  withGate d sess (mref 0x58 0x100 m) (fun d => routeWrite d m v)
/-- MATCHER_WRITE (R649). -/
def doMatcherWrite (sess : Nat) (k : Fin 32) (m v : Nat) (d : Dev) : Dev :=
  withGate d sess (mref 0x58 (0x200 + k.val) m) (fun d => matcherWrite d k.val m v)
/-- HVS_THRESHOLD_CROSSING (R652). -/
def doHvsThresholdCrossing (k : Fin 8) (above : Bool) (d : Dev) : Dev :=
  if mapGet d.pins.hvsCompare k.val 0 = above.toNat then d
  else
    let d := { d with pins.hvsCompare := mapSet d.pins.hvsCompare k.val above.toNat 0 }
    if d.pins.asleep then d else hvsLook d k.val
/-- HVS_FILTER_EXPIRY (R652). -/
def doHvsFilterExpiry (k : Fin 8) (d : Dev) : Dev :=
  if due d tkHvs k.val then hvsLevel (disarm d tkHvs k.val) k.val (hvsAsserted d k.val) else d

/-- GPIO_EDGE (R20). -/
def execGpioEdge (pin : Fin 160) (level : Bool) (s : State) : Res := .next (withDev s (doGpioEdge pin level s.dev))
/-- MATCHER_DEBOUNCE_EXPIRY (R648). -/
def execMatcherDebounceExpiry (m : Fin 32) (s : State) : Res := .next (withDev s (doMatcherDebounceExpiry m s.dev))
/-- SET (R644). -/
def execSet (sess : Nat) (b : Fin 5) (mask : Nat) (s : State) : Res := .next (withDev s (doSet sess b mask s.dev))
/-- CLEAR (R644). -/
def execGpioClear (sess : Nat) (b : Fin 5) (mask : Nat) (s : State) : Res :=
  .next (withDev s (doGpioClear sess b mask s.dev))
/-- TOGGLE (R644). -/
def execToggle (sess : Nat) (b : Fin 5) (mask : Nat) (s : State) : Res := .next (withDev s (doToggle sess b mask s.dev))
/-- ROUTE_WRITE (R646). -/
def execRouteWrite (sess m v : Nat) (s : State) : Res := .next (withDev s (doRouteWrite sess m v s.dev))
/-- MATCHER_WRITE (R649). -/
def execMatcherWrite (sess : Nat) (k : Fin 32) (m v : Nat) (s : State) : Res :=
  .next (withDev s (doMatcherWrite sess k m v s.dev))
/-- HVS_THRESHOLD_CROSSING (R652). -/
def execHvsThresholdCrossing (k : Fin 8) (above : Bool) (s : State) : Res :=
  .next (withDev s (doHvsThresholdCrossing k above s.dev))
/-- HVS_FILTER_EXPIRY (R652). -/
def execHvsFilterExpiry (k : Fin 8) (s : State) : Res := .next (withDev s (doHvsFilterExpiry k s.dev))

end Sys2Proof.Machine
end

