-- ==== Sys2Proof/Machine/Time.lean ====
section
/-!
DEFINITION. The timebase, its servo and the timer channels (timebase chapter).
-/
namespace Sys2Proof.Machine

/-- One nanosecond in units of the timebase (R588). -/
def nsUnit : Nat := 2 ^ 32

/-- The observation token ends (R724): TOKEN_STATE EXPIRED, the port turns off after the record it is sending. -/
def tokenEnd (d : Dev) : Dev :=
  if nGet d obs_TOKEN_STATE = 1 then
    let d := trace d 14 0 2
    nSet d obs_TOKEN_STATE 2
  else d

/-- STATE of the servo changes; leaving LOCKED raises TIME_UNLOCK (R594). -/
def servoState (d : Dev) (st : Nat) : Dev :=
  let old := nGet d time_STATE
  let d := nSet d time_STATE st
  if old = 2 ∧ st ≠ 2 then raise d 856 else d

/-- The head origins and class anchors move with a step (R257, R258). -/
def stepOrigins (d : Dev) (delta : Int) : Dev :=
  { d with heads.head := d.heads.head.map (fun e => (e.1, { e.2 with origin := e.2.origin + delta, stepped := e.2.stepped + delta })),
           heads.anchors := d.heads.anchors.map (fun e => (e.1, e.2 + delta)) }

/-- How many of the instants k × 10^9 + PPS_OUT_OFFSET_NS the timebase has reached or passed (R595). -/
def ppsPassed (d : Dev) : Nat :=
  if nGet d time_PPS_OUT_OFFSET_NS ≤ tbNs d then (tbNs d - nGet d time_PPS_OUT_OFFSET_NS) / 10 ^ 9 + 1 else 0

/-- A timebase step by delta ns (R593, R594): origins move, the log, STEPS, WAKE_STEP, TIME_STEP; a token whose window
the time leaves ends (R724). -/
def timebaseStep (d : Dev) (delta : Int) (cause : Nat) : Dev :=
  let before := tbNs d
  let k := nGet d time_LOG_NEXT
  let d := stepOrigins { d with tb := ((d.tb : Int) + delta * nsUnit).toNat } delta
  let d := nSets d [(stepLog_TIME k, before), (stepLog_STEP k, twosOf 64 delta), (stepLog_CAUSE k, cause),
    (time_LOG_NEXT, (k + 1) % 8), (time_STEPS, satAdd 32 (nGet d time_STEPS) 1)]
  let d := if cause ≠ 2 then nSet d time_TIME_VALID 1 else d
  let d := { d with time.ppsDone := min d.time.ppsDone (ppsPassed d) }
  let d := match d.time.wakeAt with
    | some w =>
      let d := { d with time.wakeAt := none }
      if before ≤ w + 10 * 10 ^ 9 then nSet d (epoch_WAKE_STEP ((d.time.epochNext + 3) % 4)) (twosOf 64 delta) else d
    | none => d
  let d := if nGet d obs_TOKEN_STATE = 1 ∧ (tbNs d < d.obs.notBefore ∨ nGet d obs_NOT_AFTER ≤ tbNs d) then tokenEnd d
    else d
  raise d 855

/-- INCREMENT for a rate adjustment in ppb (R588): 5 ns with 32 fraction bits. -/
def incrementFor (ppb : Int) : Nat := ((5 * nsUnit : Int) + roundDiv (ppb * 5 * nsUnit) 1000000000).toNat

/-- INCREMENT adjusted within ±80 ppm. How the servo follows a sample is open: the adjustment is a free value within the
bound (assumption log 18). -/
def servoAdjust (d : Dev) : Dev :=
  let r : Int := (freeNat d 64 % 160001 : Nat) - 80000
  let d := nSet (freeUsed d) time_RATE_PPB (twosOf 32 r)
  { d with tbInc := incrementFor r }

/-- One offset sample of the servo (R592, R593). -/
def servoSample (d : Dev) (e : Int) (cause : Nat) : Dev :=
  let d := nSet d time_OFFSET_NS (twosOf 64 e)
  let d := if e.natAbs > nGet d time_STEP_THRESHOLD_NS then timebaseStep d (-e) cause else servoAdjust d
  let run := if e.natAbs ≤ 100 then d.time.goodRun + 1 else 0
  let d := { d with time.goodRun := run }
  if 8 ≤ run then servoState d 2
  else if nGet d time_STATE = 2 then d
  else servoState d 1

/-- The uplink whose gPTP synchronisation is taken (R592, R573). -/
def gptpUplink (d : Dev) (u : Nat) : Bool :=
  if nGet d addr_REDUNDANCY = 1 then nGet d addr_ACTIVE == u else nGet d (upl_GPTP_ROLE u) == 1

/-- Whether SOURCE takes gPTP samples (R592). -/
def takesGptp (d : Dev) : Bool := nGet d time_SOURCE == 1 || nGet d time_SOURCE == 3

/-- A sample from a Sync with its Follow_Up on a slave uplink (R592). -/
def gptpSample (d : Dev) (u : Nat) (e : Int) : Dev :=
  if takesGptp d ∧ gptpUplink d u ∧ nGet d (upl_GPTP_ROLE u) = 1 then servoSample (arm (disarm d tkSync 2) tkSync 0 (ms 1000)) e 1 else d

/-- GPTP_SYNC (R569, R570, R592): the sample is the corrected receive stamp minus the origin time, the correction and the link delay. -/
def doGptpSync (u : Fin 2) (origin correction rx : Nat) (d : Dev) : Dev :=
  let stamp : Int := (rx : Int) - nGet d (upl_INGRESS_LATENCY_NS u.val)
  gptpSample d u.val (stamp - (origin + correction + nGet d (upl_LINK_DELAY_NS u.val) : Nat))

/-- The nearest whole second of a time in ns. -/
def nearestSecond (t : Int) : Int := roundDiv t 1000000000 * 1000000000

/-- A PPS edge taken as a sample or a reference (R592). -/
def doPpsEdge (d : Dev) : Dev :=
  let t := tbNs d
  let uses := decide (nGet d time_SOURCE = 2) || !armed d tkSync 0
  if nGet d time_SOURCE < 2 then d
  else match d.time.ppsLast with
    | none => arm { d with time.ppsLast := some t } tkSync 1 (ms 2000)
    | some l =>
      if l + 999000000 ≤ t ∧ t ≤ l + 1001000000 then
        let d := arm { d with time.ppsLast := some t } tkSync 1 (ms 2000)
        if uses = false then d
        else
        let x : Int := (t : Int) - sintOf 32 (nGet d time_PPS_IN_OFFSET_NS)
        let before := d.tb
        let d := servoSample d (x - nearestSecond x) 2
        -- a step moves the stamp of the reference with the timebase
        { d with time.ppsLast := some ((t : Int) + (((d.tb : Int) - before) / nsUnit)).toNat }
      else nInc d time_PPS_REJECTED

/-- The servo waits for its source anew (R593): gPTP has 1 s for its first Sync, PPS 2 s for its first edge. -/
def awaitSource (d : Dev) : Dev :=
  let d := { disarm (disarm (disarm d tkSync 0) tkSync 1) tkSync 2 with time.goodRun := 0, time.ppsLast := none }
  let v := nGet d time_SOURCE
  if v = 1 then arm d tkSync 2 (ms 1000) else if 2 ≤ v then arm d tkSync 1 (ms 2000) else d

/-- SYNC_TIMEOUT (R593): no Sync for 1 s, or no accepted PPS edge for 2 s; INCREMENT is held. -/
def doSyncTimeout (d : Dev) : Dev :=
  let g := due d tkSync 0 || due d tkSync 2
  let p := due d tkSync 1
  let d := if g then disarm (disarm d tkSync 0) tkSync 2 else d
  let d := if p then { disarm d tkSync 1 with time.ppsLast := none } else d
  if (takesGptp d ∧ g) ∨ (nGet d time_SOURCE = 2 ∧ p) ∨ (nGet d time_SOURCE = 3 ∧ p ∧ armed d tkSync 0 = false) then
    servoState { d with time.goodRun := 0 } 3
  else d

/-- SET_TIME (R599): STATE unless SOURCE is FREE or PPS; the result is the time after the step. -/
def setTime (d : Dev) (t : Nat) : Dev × Status × List Byte :=
  if nGet d time_SOURCE ≠ 0 ∧ nGet d time_SOURCE ≠ 2 then (d, .state, [])
  else if t ≥ 2 ^ 64 then (d, .range, [])
  else
    let d := timebaseStep d ((t : Int) - tbNs d) 3
    (d, .ok, beBytes 8 (tbRead d))

/-- A write of SOURCE (R593, R599): FREE runs INCREMENT at exactly 5 ns and takes no sample. -/
def sourceWrite (d : Dev) (v : Nat) : Dev × Status × List Byte :=
  if v > 3 then (d, .range, [])
  else
    let d := awaitSource (nSet d time_SOURCE v)
    if v = 0 then (servoState (nSet { d with tbInc := 5 * nsUnit } time_RATE_PPB 0) 0, .ok, [])
    else (servoState d 1, .ok, [])

/-- A write of PPS_OUT_ENABLE or PPS_OUT_OFFSET_NS (R595): an instant that has passed before it raises PPS_OUT no more, and PPS_OUT is
low while PPS_OUT_ENABLE is 0. -/
def ppsWrite (d : Dev) (mem : Nat) (v : Val) : Dev × Status × List Byte :=
  let x := plainWrite d (mref 3 0 mem) v
  if x.2.1 = .ok then
    let e := x.1
    let e := { e with time.ppsDone := ppsPassed e }
    (if nGet e time_PPS_OUT_ENABLE = 0 then { disarm e tkPps 0 with time.ppsOut := false } else e, x.2)
  else x

/-- PPS_OUT rises (R595): the timebase has reached or passed the next whole second plus offset. -/
def doPpsOutRise (d : Dev) : Dev :=
  if nGet d time_PPS_OUT_ENABLE = 1 ∧ nGet d time_TIME_VALID = 1 ∧ d.time.ppsDone < ppsPassed d then
    arm { d with time.ppsOut := true, time.ppsDone := ppsPassed d } tkPps 0 (us (nGet d time_PPS_OUT_WIDTH_US))
  else d

/-- PPS_OUT falls after PPS_OUT_WIDTH_US (R595). -/
def doPpsOutFall (d : Dev) : Dev :=
  if due d tkPps 0 then { disarm d tkPps 0 with time.ppsOut := false } else d

/-- A timer channel. -/
def timerOf (d : Dev) (n : Nat) : Timer := mapGet d.time.timers n Timer.reset

/-- A timer channel changed. -/
def updTimer (d : Dev) (n : Nat) (f : Timer → Timer) : Dev :=
  { d with time.timers := mapSet d.time.timers n (f (timerOf d n)) Timer.reset }

/-- Counts per period; 0 stands for 2^32 (R601). -/
def periodOf (t : Timer) : Nat := if t.period = 0 then 2 ^ 32 else t.period

/-- Timebase advance per count (R602). -/
def countStep (t : Timer) : Nat := 4 * (t.prescale + 1) * nsUnit

/-- Where an enabled channel's counter stands, a due reload not yet taken (R602). -/
def rawCount (d : Dev) (t : Timer) : Nat :=
  if t.enable then t.count + (d.time.adv - t.since) / countStep t else t.count

/-- COUNT as a read returns it (R601). -/
def timerCount (d : Dev) (t : Timer) : Nat := rawCount d t % periodOf t % 2 ^ 32

/-- Whether comparator k of a channel has a match that its counter has moved through (R603). -/
def compareDue (d : Dev) (t : Timer) (k : Nat) : Bool :=
  let c := if k = 0 then t.compare0 else t.compare1
  let nx := if k = 0 then t.next0 else t.next1
  t.enable && decide (nx ≤ c) && decide (c ≤ rawCount d t) && decide (c < periodOf t)

/-- Comparator k of channel n fires (R603): COMPARE takes the interval, the event is raised. -/
def timerFire (d : Dev) (n k : Nat) : Dev :=
  let t := timerOf d n
  if compareDue d t k then
    let d := updTimer d n (fun t =>
      if k = 0 then { t with next0 := t.compare0 + 1,
                             compare0 := if t.add0 = 0 then t.compare0 else (t.compare0 + t.add0) % periodOf t }
      else { t with next1 := t.compare1 + 1,
                    compare1 := if t.add1 = 0 then t.compare1 else (t.compare1 + t.add1) % periodOf t })
    raise d (4 * n + 1 + k)
  else d

/-- TIMER_PERIOD (R602): the counter has reached PERIOD; its outstanding matches fire first, it reloads to the count by
which it passed PERIOD and the event is raised once. -/
def timerReload (d : Dev) (n : Nat) : Dev :=
  let t := timerOf d n
  if t.enable ∧ periodOf t ≤ rawCount d t then
    let d := timerFire (timerFire d n 0) n 1
    let d := updTimer d n (fun t => { t with count := rawCount d t - periodOf t, next0 := 0, next1 := 0, since := d.time.adv - (d.time.adv - t.since) % countStep t })
    raise d (4 * n)
  else d

/-- A hardware event sets bit k of a channel's status (0x30) at a time: a write of 1, or the read that would clear CAP_NEW, in the same
cycle leaves it set (R6, R607; assumption log 105). -/
def noteSet (now : Nat) (t : Timer) (k : Nat) : Timer := { t with setAt := mapPut t.setAt k now }

/-- Whether bit k of a channel's status was set in the cycle of a time. -/
def justSet (now : Nat) (t : Timer) (k : Nat) : Bool := mapFind t.setAt k == some now

/-- Whether a channel's filter passes an edge now (R606): the input has held the new level for CAP_FILTER cycles, and its change has not
passed before. The levels of PPS_IN and of START_OF_BLANKING (sources from 168 on) come with the command alone. -/
def filterPasses (d : Dev) (t : Timer) (rising : Bool) : Bool :=
  decide (168 ≤ t.capSrc) ||
  match mapFind d.pins.changed t.capSrc with
  | some e => decide (inputLevel d t.capSrc = rising.toNat) && decide (e + 5 * t.capFilter ≤ d.now) && t.edgeAt != some e
  | none => false

/-- TIMER_CAPTURE of an edge that the filter has passed (R606). -/
def timerCapture (d : Dev) (n : Nat) (rising : Bool) : Dev :=
  let t := timerOf d n
  let c := timerCount d t
  let selected := t.capSrc ≠ 0x3FF ∧ ((t.capEdge = 0 ∧ rising) ∨ (t.capEdge = 1 ∧ ¬ rising) ∨ t.capEdge = 2)
  let inside := if t.winOpen < t.winClose then decide (t.winOpen ≤ c) && decide (c < t.winClose)
    else if t.winClose < t.winOpen then decide (t.winOpen ≤ c) || decide (c < t.winClose) else false
  if ¬ selected then d
  else if t.windowEn ∧ inside = false then updTimer d n (fun t => { noteSet d.now t 3 with capOutside := true })
  else if t.divCount < t.capDiv then updTimer d n (fun t => { t with divCount := t.divCount + 1 })
  else
    raise (updTimer d n (fun t =>
      { noteSet d.now (if t.capNew then noteSet d.now t 2 else t) 1 with
        divCount := 0, capture := c, capturePrev := t.capture, capOvr := t.capOvr || t.capNew, capNew := true })) (4 * n + 3)

/-- ENABLE set or cleared (R601): set loads COUNT from PHASE, cleared freezes COUNT. -/
def timerEnable (d : Dev) (n : Nat) (b : Bool) : Dev :=
  updTimer d n (fun t =>
    if b ∧ t.enable = false then
      { t with enable := true, count := t.phase, since := d.time.adv, next0 := t.phase + 1, next1 := t.phase + 1 }
    else if ¬ b ∧ t.enable then { t with enable := false, count := timerCount d t }
    else t)

/-- A write of the control register at 0x00 (R601): PRESCALE_M1 keeps its value while ENABLE is 1. -/
def timerControl (d : Dev) (n v : Nat) : Dev :=
  let was := (timerOf d n).enable
  let d := updTimer d n (fun t => { t with wake := bitOf v 1, windowEn := bitOf v 2, prescale := if was then t.prescale else fieldOf v 16 16 })
  timerEnable d n (bitOf v 0)

/-- A write of PERIOD (R601, R604): at or below the present count it reloads at the next count and PERIOD_SHORT is set. -/
def periodWrite (d : Dev) (n v : Nat) : Dev :=
  let t := timerOf d n
  let c := timerCount d t
  let d := updTimer d n (fun t => { t with period := v })
  let t' := timerOf d n
  if t.enable ∧ periodOf t' ≤ c then
    -- the counter stands one count short of a reload to 0 and no compare value is left to fire in this period
    updTimer d n (fun t => { noteSet d.now t 0 with periodShort := true, count := periodOf t' - 1, next0 := periodOf t', next1 := periodOf t', since := d.time.adv - (d.time.adv - t.since) % countStep t })
  else d

/-- The group-start registers of a cluster. -/
def startOf (d : Dev) (c : Nat) : GroupStart := mapGet d.time.starts c GroupStart.reset

/-- The group-start registers of a cluster changed. -/
def updStart (d : Dev) (c : Nat) (f : GroupStart → GroupStart) : Dev :=
  { d with time.starts := mapSet d.time.starts c (f (startOf d c)) GroupStart.reset }

/-- Every armed channel of a cluster starts in the same cycle (R605). -/
def groupStart (d : Dev) (c : Nat) : Dev :=
  let mask := (startOf d c).mask
  let d := (bitsOf mask 8).foldl (fun d k =>
    updTimer d (8 * c + k) (fun t => { t with enable := true, count := t.phase, since := d.time.adv, next0 := t.phase + 1, next1 := t.phase + 1 })) d
  updStart d c (fun g => { g with mask := 0 })

/-- A write of START_MASK (R601, R605): arms; START_LATE clears by writing 1; a time already passed starts at once. -/
def startMaskWrite (d : Dev) (c v : Nat) : Dev :=
  let d := updStart d c (fun g => { g with mask := fieldOf v 0 8, late := g.late && (!bitOf v 8 || g.lateAt == some d.now) })
  if (startOf d c).mask ≠ 0 ∧ (startOf d c).time < tbNs d then
    groupStart (updStart d c (fun g => { g with late := true, lateAt := some d.now })) c
  else d

/-- CAPTURE read (R607): the value, and CAP_NEW cleared; in the cycle of a capture the former value, and CAP_NEW stays. -/
def captureRead (d : Dev) (n : Nat) : Dev × Nat :=
  let t := timerOf d n
  if justSet d.now t 1 then (d, t.capturePrev) else (updTimer d n (fun t => { t with capNew := false }), t.capture)

/-- TIMER_PERIOD (R602). -/
def doTimerPeriod (n : Fin 96) (d : Dev) : Dev := timerReload d n.val
/-- TIMER_COMPARE (R603). -/
def doTimerCompare (n : Fin 96) (k : Fin 2) (d : Dev) : Dev := timerFire d n.val k.val
/-- TIMER_CAPTURE (R606, R608): the output of the channel's filter changes; capture does not operate in Winter. -/
def doTimerCapture (n : Fin 96) (rising : Bool) (d : Dev) : Dev :=
  let t := timerOf d n.val
  if asleep d ∨ filterPasses d t rising = false then d
  else timerCapture (updTimer d n.val (fun t => { t with edgeAt := mapFind d.pins.changed t.capSrc })) n.val rising
/-- GROUP_START (R605): the timebase has reached START_TIME with the mask armed. -/
def doGroupStart (c : Fin 12) (d : Dev) : Dev :=
  if (startOf d c.val).mask ≠ 0 ∧ (startOf d c.val).time ≤ tbNs d then groupStart d c.val else d
/-- SET_TIME (R599). -/
def doSetTime (sess t : Nat) (d : Dev) : Dev := withGate d sess time_SET_TIME (fun d => setTime d t)

/-- GPTP_SYNC (R593). -/
def execGptpSync (u : Fin 2) (origin correction rx : Nat) (s : State) : Res :=
  .next (withDev s (doGptpSync u origin correction rx s.dev))
/-- PPS_EDGE (R592). -/
def execPpsEdge (s : State) : Res := .next (withDev s (doPpsEdge s.dev))
/-- SYNC_TIMEOUT (R593). -/
def execSyncTimeout (s : State) : Res := .next (withDev s (doSyncTimeout s.dev))
/-- SET_TIME (R599). -/
def execSetTime (sess t : Nat) (s : State) : Res := .next (withDev s (doSetTime sess t s.dev))
/-- PPS_OUT_RISE (R595). -/
def execPpsOutRise (s : State) : Res := .next (withDev s (doPpsOutRise s.dev))
/-- PPS_OUT_FALL (R595). -/
def execPpsOutFall (s : State) : Res := .next (withDev s (doPpsOutFall s.dev))
/-- TIMER_PERIOD (R602). -/
def execTimerPeriod (n : Fin 96) (s : State) : Res := .next (withDev s (doTimerPeriod n s.dev))
/-- TIMER_COMPARE (R603). -/
def execTimerCompare (n : Fin 96) (k : Fin 2) (s : State) : Res := .next (withDev s (doTimerCompare n k s.dev))
/-- TIMER_CAPTURE (R606). -/
def execTimerCapture (n : Fin 96) (rising : Bool) (s : State) : Res :=
  .next (withDev s (doTimerCapture n rising s.dev))
/-- GROUP_START (R605). -/
def execGroupStart (c : Fin 12) (s : State) : Res := .next (withDev s (doGroupStart c s.dev))

end Sys2Proof.Machine
end

