-- ==== Sys2Proof/Machine/Dram.lean ====
section
/-!
DEFINITION. The address map, segments, interleave groups and the outer code's bookkeeping (memory chapter), as operations
that the families share.
-/
namespace Sys2Proof.Machine

/-- Bytes of one DRAM segment (R462). -/
def segBytes : Nat := 0x8000000

/-- The channels of an interleave group by its SEGMENT_MAP code (R491). -/
def groupChannels (c : Nat) : List Nat :=
  if c = 1 then [0, 1, 2, 3, 4, 5, 6, 7]
  else if c = 2 then [0, 1, 2, 3]
  else if c = 3 then [4, 5, 6, 7]
  else if 4 ≤ c ∧ c ≤ 7 then [2 * (c - 4), 2 * (c - 4) + 1]
  else if 8 ≤ c ∧ c ≤ 15 then [c - 8]
  else []

/-- The group code of a segment (R462, R491); 0 is unmapped. -/
def segCode (d : Dev) (s : Nat) : Nat := ((bGet d mem_SEGMENT_MAP).getD s 0).toNat

/-- The channels that a DRAM address' segment interleaves over. -/
def addrGroup (d : Dev) (a : Nat) : List Nat := if a < 120 * segBytes then groupChannels (segCode d (a / segBytes)) else []

/-- The channel of a DRAM address (R462). -/
def channelOfAddr (d : Dev) (a : Nat) : Option Nat :=
  let g := addrGroup d a
  if g.isEmpty then none else g[(a % segBytes) / 256 % g.length]?

/-- Whether a channel is retired (R488). -/
def chanRetired (d : Dev) (c : Nat) : Bool := nGet d (chan_STATE c) == 1

/-- The interleave group that REALIZE uses (R160): the first of G8, G4a, G4b, the G2 and the G1 without a retired
channel; 0 when every channel is retired. -/
def realizeGroup (d : Dev) : Nat :=
  ((List.range 15).map (· + 1)).find? (fun c => (groupChannels c).all (fun x => !chanRetired d x)) |>.getD 0

/-- What an address of the 40-bit map reaches (R460, R461). -/
inductive Place where
  | dram (seg : Nat)
  | bank (c : Nat)
  | store
  | periph (i off : Nat)
  | none
  deriving DecidableEq, Repr

/-- Whether a number is one of a peripheral block instance (R461). -/
def instanceListed (i : Nat) : Bool :=
  decide (i ≤ 0x0A) || (decide (0x10 ≤ i) && decide (i ≤ 0x6B)) || (decide (0x70 ≤ i) && decide (i ≤ 0x74)) ||
  (decide (0x80 ≤ i) && decide (i ≤ 0x85)) || [0x78, 0x88, 0x89, 0x8A, 0x8B, 0x8C, 0x90, 0x98].contains i

/-- The place of an address (R460, R461): an unmapped segment is unassigned (R464), and so is an instance that is not listed. -/
def placeOf (d : Dev) (a : Nat) : Place :=
  if a < 120 * segBytes then (if segCode d (a / segBytes) = 0 then .none else .dram (a / segBytes))
  else if a < 0x1000000000 then .none
  else if a < 0x1000C00000 then .bank ((a - 0x1000000000) / 0x100000)
  else if a < storeBase then .none
  else if a < storeBase + 0x200000 then .store
  else if a < 0x2000000000 then .none
  else if a < 0x2000990000 ∧ instanceListed ((a - 0x2000000000) / 0x10000) then .periph ((a - 0x2000000000) / 0x10000) (a % 0x10000)
  else .none

/-- Whether a cluster bank is on (R486): a bank in retention or off reads 0 and drops writes. -/
def bankOn (d : Dev) (c : Nat) : Bool := mapGet d.dram.banks c 0 == 0

/-- An octet read over the fabric from memory, without the effects of an error: unassigned addresses and banks that are
not on read 0 (R460, R486). -/
def fabricByte (d : Dev) (m : List Host.Cell) (a : Nat) : Byte :=
  match placeOf d a with
  | .dram _ => memRead m a
  | .bank c => if bankOn d c then memRead m a else 0
  | .store => memRead m a
  | _ => 0

/-- n octets read over the fabric. -/
def fabricBytes (d : Dev) (m : List Host.Cell) (a n : Nat) : List Byte := (List.range n).map (fun i => fabricByte d m (a + i))

/-- A little-endian number read over the fabric. -/
def fabricLe (d : Dev) (m : List Host.Cell) (a n : Nat) : Nat := ofLe (fabricBytes d m a n)

/-- The DRAM blocks that a range of n octets touches, rising. -/
def blocksOf (a n : Nat) : List Nat :=
  if n = 0 then [] else (List.range ((a + n - 1) / 256 - a / 256 + 1)).map (· + a / 256)

/-! ### Errors (R468 to R473, R483) -/

/-- The errors in the channel octets of a block: octet to flipped bits (R468). -/
def errorsOf (d : Dev) (b : Nat) : SMap Nat := mapGet d.dram.errors b []

/-- Octets in error in codeword k of a block: octets 2j + k of the data and 256 + 2i + k of the code (R468). -/
def codeErrors (d : Dev) (b k : Nat) : Nat := ((errorsOf d b).filter (fun e => decide (e.1 % 2 = k))).length

/-- Whether the decoder cannot correct a block: more than 4 octets of a codeword are in error (R469; assumption log 136). -/
def blockBad (d : Dev) (b : Nat) : Bool := decide (4 < codeErrors d b 0) || decide (4 < codeErrors d b 1)

/-- Errors that have come about in a block; two at one octet of it add up bit by bit. -/
def upset (d : Dev) (b : Nat) (es : List ByteError) : Dev :=
  let m := es.foldl (fun m e => mapSet m e.pos.val (mapGet m e.pos.val 0 ^^^ e.flip.val) 0) (errorsOf d b)
  { d with dram.errors := mapSet d.dram.errors b m [] }

/-- Whether a read of a block is poisoned (R473, R489): it is uncorrectable, or its channel is retired. -/
def blockPoisoned (d : Dev) (b : Nat) : Bool :=
  match channelOfAddr d (b * 256) with
  | some c => chanRetired d c || blockBad d b
  | none => false

/-- The first word of the cluster banks among the keys of SRAM words (R460, R483). -/
def bankWord0 : Nat := 0x1000000000 / 8

/-- The uncorrectable words of cluster banks in a range of the map (R483). -/
def bankWordsBad (d : Dev) (a n : Nat) : List Nat :=
  d.dram.badWords.filter (fun w => decide (bankWord0 ≤ w) && decide (a / 8 ≤ w) && decide (w * 8 < a + n))

/-- Whether an octet read over the fabric comes poisoned (R473, R483). -/
def octetPoisoned (d : Dev) (a : Nat) : Bool := blockPoisoned d (a / 256) || !(bankWordsBad d a 1).isEmpty

/-- An octet that a master has: of the block that its read has brought, else as memory holds it (R481). -/
def gotByte (d : Dev) (m : List Host.Cell) (got : SMap (List Byte)) (a : Nat) : Byte :=
  match mapFind got (a / 256) with
  | some bs => bs.getD (a % 256) 0
  | none => fabricByte d m a

/-- Whether an octet that a master has is poisoned (R473): as its block came, else as it stands. -/
def gotBad (d : Dev) (got : SMap (List Byte)) (a : Nat) : Bool :=
  match mapFind got (a / 256) with
  | some bs => bs.isEmpty
  | none => octetPoisoned d a

/-! ### The outer code (R468) -/

/-- The product of two octets in GF(2^8) with the field polynomial 0x11D (R468). -/
def gfMul (a b : Nat) : Nat :=
  ((List.range 8).foldl (fun (p, x) i =>
    (if b.testBit i then p ^^^ x else p, if x < 128 then 2 * x else (2 * x) ^^^ 0x11D)) (0, a)).1

/-- The i-th power of α = 0x02 (R468). -/
def gfAlpha (i : Nat) : Nat := (List.range i).foldl (fun a _ => gfMul a 2) 1

/-- A polynomial, its leading coefficient first, times (x − α^i). -/
def timesRoot (p : List Nat) (i : Nat) : List Nat :=
  (p ++ [0]).zipWith (· ^^^ ·) (0 :: p.map (gfMul (gfAlpha i)))

/-- The generator g(x) = (x − α^0) … (x − α^7), leading coefficient first (R468). -/
def rsGenerator : List Nat := (List.range 8).foldl timesRoot [1]

/-- One message octet shifted into a remainder modulo g(x), leading coefficient first. -/
def rsStep (rem : List Nat) (b : Nat) : List Nat :=
  let f := rem.headD 0 ^^^ b
  (rem.drop 1 ++ [0]).zipWith (fun r g => r ^^^ gfMul f g) (rsGenerator.drop 1)

/-- The 8 code symbols of a codeword's message (R468): the coefficients of m(x) x^8 mod g(x), that of x^7 first. -/
def rsSymbols (msg : List Nat) : List Nat := msg.foldl rsStep (List.replicate 8 0)

/-- The message of codeword k of a 256-octet block (R468): its octets 2j + k. -/
def codeMessage (block : List Byte) (k : Nat) : List Nat :=
  (List.range 128).map (fun j => (block.getD (2 * j + k) 0).toNat)

/-- The 272 channel octets of a 256-octet block (R468): the data, then symbol i of codeword k at 256 + 2 i + k. -/
def channelOctets (block : List Byte) : List Byte :=
  block ++ (List.range 16).map (fun n => BitVec.ofNat 8 ((rsSymbols (codeMessage block (n % 2))).getD (n / 2) 0))

/-- The channel octets in which DRAM stores a block that is not uncorrectable: its data with valid code (R468, R477). -/
def storedOctets (m : List Host.Cell) (b : Nat) : List Byte := channelOctets ((List.range 256).map (fun i => memRead m (b * 256 + i)))

/-! ### Slots (R479) -/

/-- RESERVE of a round of 20 slots at ρ in permille (R479). -/
def scanReserve (permille : Nat) : Nat := (20 * permille + 500) / 1000

/-- The class that wins a slot (R479), where `won` slots of the round have gone to SCAN, `waiting` are the classes with a
request (R478) and `last` is the class that the round-robin served last: SCAN below its reserve, then VIN, then FK, DMA,
ENGINE, BULK and SCAN in turn, then BLIT. -/
def slotWinner (permille won last : Nat) (waiting : List Nat) : Option Nat :=
  let turn := [2, 3, 4, 5, 0]
  let after := turn.drop (turn.findIdx (· = last) + 1) ++ turn.take (turn.findIdx (· = last) + 1)
  if waiting.contains 0 ∧ won < scanReserve permille then some 0
  else if waiting.contains 1 then some 1
  else match after.find? waiting.contains with
    | some c => some c
    | none => if waiting.contains 6 then some 6 else none

/-- Whether an address range holds a poisoned block or bank word. -/
def rangePoisoned (d : Dev) (a n : Nat) : Bool := (blocksOf a n).any (blockPoisoned d) || !(bankWordsBad d a n).isEmpty

/-- The blocks of a range that a write covers only in part (R471). -/
def partialBlocks (a n : Nat) : List Nat :=
  (blocksOf a n).filter (fun b => decide (b * 256 < a) || decide (a + n < b * 256 + 256))

/-- The blocks of a range whose read-modify-write fails (R472): those written in part over an uncorrectable block. -/
def rmwFailures (d : Dev) (a n : Nat) : List Nat := (partialBlocks a n).filter (blockBad d)

/-- Each failed read-modify-write counts in its channel's RMW_FAILS (R472). -/
def countRmwFails (d : Dev) (bs : List Nat) : Dev :=
  bs.foldl (fun d b => match channelOfAddr d (b * 256) with
    | some c => nInc d (chan_RMW_FAILS c)
    | none => d) d

/-- A block corrected on a channel (R470, R494): counted, and MEM_CORRECTED at most once per second per channel. -/
def blockCorrected (d : Dev) (c : Nat) : Dev :=
  let d := nInc d (chan_CORRECTED c)
  match mapFind d.dram.lastCorrected c with
  | some t => if d.now < t + ms 1000 then d
      else raise { d with dram.lastCorrected := mapPut d.dram.lastCorrected c d.now } (832 + c)
  | none => raise { d with dram.lastCorrected := mapPut d.dram.lastCorrected c d.now } (832 + c)

/-- The read of each read-modify-write of a range passes the decoder (R470, R471). -/
def correctPartial (d : Dev) (a n : Nat) : Dev :=
  (partialBlocks a n).foldl (fun d b => match channelOfAddr d (b * 256) with
    | some c => if (errorsOf d b).isEmpty || chanRetired d c then d else blockCorrected d c
    | none => d) d

/-- Every block of a range is written with valid code, whole or by a read-modify-write (R471, R472): it is clean, and a write-back of the
scrubber to it is dropped (R475). -/
def cleanBlocks (d : Dev) (a n : Nat) : Dev :=
  let hit := fun (b : Nat) => decide (a / 256 ≤ b) && decide (b * 256 < a + n)
  { d with dram.errors := d.dram.errors.filter (fun e => !hit e.1), dram.writeBack := d.dram.writeBack.filter (fun e => !hit e.2) }

/-- Every word of a cluster bank that a range covers whole is written with valid code (R483). -/
def cleanWords (d : Dev) (a n : Nat) : Dev :=
  let hit := fun (w : Nat) => decide (bankWord0 ≤ w) && decide (a ≤ w * 8) && decide (w * 8 + 8 ≤ a + n)
  { d with dram.badWords := d.dram.badWords.filter (fun w => !hit w), dram.softWords := d.dram.softWords.filter (fun w => !hit w) }

/-- Octets written over the fabric into DRAM or a cluster bank, one place of the map at a time: a retired channel, a bank
that is not on and an unassigned address drop them, the last two with a count (R460, R486, R489). The write must have
passed the checks of its writer. -/
def fabricPut (s : State) (a : Nat) (b : Byte) : State :=
  match placeOf s.dev a with
  | .dram _ =>
    match channelOfAddr s.dev a with
    | some c => if chanRetired s.dev c then s else { s with mem := memWrite s.mem a b }
    | none => s
  | .bank c =>
    if bankOn s.dev c then { s with mem := memWrite s.mem a b } else s
  | _ => s

/-- Octets written upward from an address by fabricPut. -/
def fabricPuts (s : State) (a : Nat) : List Byte → State
  | [] => s
  | b :: bs => fabricPuts (fabricPut s a b) (a + 1) bs

/-- Whether an address takes a write that is not dropped for its place (R460, R486). -/
def assigned (d : Dev) (a : Nat) : Bool :=
  match placeOf d a with
  | .dram _ => true
  | .bank c => bankOn d c
  | _ => false

/-- A write of a range over the fabric: its blocks and the bank words that it covers become clean; a write to an unassigned address is
dropped and counted once in UNMAPPED_ACCESSES (R460, R471, R472). -/
def fabricWrite (s : State) (a : Nat) (bs : List Byte) : State :=
  let s := if (List.range bs.length).any (fun i => !assigned s.dev (a + i)) then
      withDev s (nInc s.dev mem_UNMAPPED_ACCESSES) else s
  let s := withDev s (cleanWords (cleanBlocks (correctPartial s.dev a bs.length) a bs.length) a bs.length)
  fabricPuts s a bs

/-- The segments that a channel holds a part of, rising, with their group size (R462). -/
def channelSegs (d : Dev) (c : Nat) : List (Nat × Nat) :=
  ((List.range 120).filter (fun s => (groupChannels (segCode d s)).contains c)).map
    (fun s => (s, (groupChannels (segCode d s)).length))

/-- The key of a segment's part of a channel in the scrubber's record of a pass. -/
def scrubKey (s c : Nat) : Nat := 8 * s + c

/-- The next block slot of a channel that the scrubber has not read in this pass (R462, R474): segment and slot. -/
def scrubNext (d : Dev) (c : Nat) : Option (Nat × Nat) :=
  ((channelSegs d c).find? (fun e => decide (mapGet d.dram.scrubAt (scrubKey e.1 c) 0 < segBytes / 256 / e.2))).map
    (fun e => (e.1, mapGet d.dram.scrubAt (scrubKey e.1 c) 0))

/-- The block that slot n of a segment's part of a channel holds (R462). -/
def slotBlock (d : Dev) (c s n : Nat) : Nat :=
  let g := groupChannels (segCode d s)
  s * (segBytes / 256) + n * g.length + g.findIdx (· = c)

/-- The capacity of a channel that mapped segments do not use (R463). -/
def chanUnused (codes : List Nat) (c : Nat) : Nat :=
  codes.foldl (fun a k =>
    let g := groupChannels k
    if g.contains c then a - segBytes / g.length else a) (1920 * 0x100000)

/-- The memory in use: of realised surfaces, and of migrated ones until the last frame that reads the old copy is done (R163). -/
def heldSpans (d : Dev) : List Span := d.scene.pool ++ d.stoker.leaving.map (·.1)

/-- Whether a segment holds no realised surface (R464). -/
def segFree (d : Dev) (s : Nat) : Bool :=
  (heldSpans d).all (fun p => decide (p.hi ≤ s * segBytes) || decide ((s + 1) * segBytes ≤ p.lo))

/-- The highest-numbered free segment of a map that is mapped and not reserved (R464). -/
def lastFreeSeg (d : Dev) (codes : List Nat) : Option Nat :=
  ((List.range 120).reverse).find? (fun s => decide (codes.getD s 0 ≠ 0) && segFree d s &&
    decide (s ≠ nGet d mem_RESERVED_SEGMENT))

/-- Free segments unmapped one at a time until every channel of a group has room for one more segment (R464). -/
def unmapUntil (d : Dev) (g : Nat) : Nat → List Nat → Option (List Nat)
  | 0, _ => none
  | n + 1, codes =>
    let cs := groupChannels g
    if cs.all (fun c => decide (segBytes / cs.length ≤ chanUnused codes c)) then some codes
    else match lastFreeSeg d codes with
      | some s => unmapUntil d g n (codes.set s 0)
      | none => none

/-- One more segment mapped to a group (R464), or none if the steps cannot give room. -/
def mapOne (d : Dev) (g : Nat) (codes : List Nat) : Option (List Nat) :=
  match unmapUntil d g 121 codes with
  | some codes =>
    match (List.range 120).find? (fun s => decide (codes.getD s 0 = 0)) with
    | some s => some (codes.set s g)
    | none => none
  | none => none

/-- The runs of consecutive segments mapped to a group that REALIZE may use, as address ranges (R464, R465). -/
def groupRuns (d : Dev) (codes : List Nat) (g : Nat) : List (Nat × Nat) :=
  (List.range 120).foldl (fun (acc : List (Nat × Nat)) s =>
    if codes.getD s 0 = g ∧ s ≠ nGet d mem_RESERVED_SEGMENT then
      match acc.getLast? with
      | some (lo, hi) => if hi = s * segBytes then acc.dropLast ++ [(lo, hi + segBytes)]
          else acc ++ [(s * segBytes, (s + 1) * segBytes)]
      | none => [(s * segBytes, (s + 1) * segBytes)]
    else acc) []

/-- A range without the part that a span takes. -/
def cutRange (r : Nat × Nat) (p : Span) : List (Nat × Nat) :=
  if p.hi ≤ r.1 ∨ r.2 ≤ p.lo then [r]
  else (if r.1 < p.lo then [(r.1, p.lo)] else []) ++ (if p.hi < r.2 then [(p.hi, r.2)] else [])

/-- The unused ranges of a list of ranges. -/
def gapsIn (rs : List (Nat × Nat)) (pool : List Span) : List (Nat × Nat) :=
  pool.foldl (fun rs p => (rs.map (fun r => cutRange r p)).flatten) rs

/-- The gaps of a segment map that hold n octets for a group. -/
def fittingGaps (d : Dev) (codes : List Nat) (g n : Nat) : List (Nat × Nat) :=
  (gapsIn (groupRuns d codes g) (heldSpans d)).filter (fun r => decide (n ≤ r.2 - r.1))

/-- Segments mapped to a group until n octets fit (R464). -/
def mapUntilFits (d : Dev) (g n : Nat) : Nat → List Nat → Option (List Nat)
  | 0, _ => none
  | k + 1, codes =>
    if (fittingGaps d codes g n).isEmpty then
      match mapOne d g codes with
      | some codes => mapUntilFits d g n k codes
      | none => none
    else some codes

/-- The segment map as numbers. -/
def segCodes (d : Dev) : List Nat := (bGet d mem_SEGMENT_MAP).map (·.toNat)

/-- A segment map written; the slots of a segment that is mapped anew are still to be scrubbed (R474). -/
def setSegCodes (d : Dev) (l : List Nat) : Dev :=
  let same := fun (s : Nat) => decide (segCode d s = l.getD s 0)
  bSet { d with dram.scrubAt := d.dram.scrubAt.filter (fun e => same (e.1 / 8)) } mem_SEGMENT_MAP (l.map (BitVec.ofNat 8))

/-- A place for n octets in the group of R160, with the segment map that gives it (R464). Which of several gaps is taken is
open: the gap is chosen by a free value (assumption log 4); in a gap the lowest address is taken (assumption log 19). -/
def findPlace (d : Dev) (n : Nat) : Option (Dev × Nat) :=
  let g := realizeGroup d
  if g = 0 then none
  else match mapUntilFits d g n 122 (segCodes d) with
    | some codes =>
      match fittingGaps d codes g n with
      | [] => none
      | [r] => some (setSegCodes d codes, r.1)
      | l => some (setSegCodes (freeUsed d) codes, (l.getD (freeNat d 16 % l.length) (0, 0)).1)
    | none => none

/-- The reserved segment moves when a channel of its group is retired (R466): to the lowest free segment already mapped to
the first group without a retired channel, else to one mapped under R464. -/
def moveReserved (d : Dev) : Dev :=
  let r := nGet d mem_RESERVED_SEGMENT
  if (groupChannels (segCode d r)).any (chanRetired d) then
    let g := realizeGroup d
    if g = 0 then d
    else match (List.range 120).find? (fun s => decide (segCode d s = g) && segFree d s && decide (s ≠ r)) with
      | some s => nSet d mem_RESERVED_SEGMENT s
      | none =>
        match mapOne d g (segCodes d) with
        | some codes =>
          let s := ((List.range 120).find? (fun s => decide (codes.getD s 0 = g) && decide (segCode d s ≠ g))).getD r
          nSet (setSegCodes d codes) mem_RESERVED_SEGMENT s
        | none => d
  else d

/-- Whether a range touches the reserved segment (R465). -/
def touchesReserved (d : Dev) (a n : Nat) : Bool :=
  decide (a < (nGet d mem_RESERVED_SEGMENT + 1) * segBytes) && decide (nGet d mem_RESERVED_SEGMENT * segBytes < a + n)

/-- Requests that wait for a tag take one while the limits of R480 and R527 allow: 512 in all, 16 for a pipe, and for another master
only while fewer than 384 are in use, 64 for a DMA engine, 128 for the blitter. -/
def tagFor (d : Dev) (r : DramRead) : Option Nat :=
  let used := d.dram.reads.length
  if 512 ≤ used then none
  else if r.cls = 0 ∧ 16 ≤ (d.dram.reads.filter (fun e => decide (e.2.cls = 0) && decide (e.2.unit % 32 = r.unit % 32))).length then none
  else if r.cls ≠ 0 ∧ 384 ≤ used then none
  else if r.cls = 3 ∧ 64 ≤ (d.dram.reads.filter (fun e => decide (e.2.cls = 3) && decide (e.2.unit / 8 = r.unit / 8))).length then none
  else if r.cls = 6 ∧ 128 ≤ (d.dram.reads.filter (fun e => decide (e.2.cls = 6))).length then none
  else (List.range 512).find? (fun t => (mapFind d.dram.reads t).isNone)

/-- A slot of a channel granted to a class (R728, group 1). -/
def countSlot (d : Dev) (c cls : Nat) : Dev := countSignal d (4096 + 8 * c + cls) 1

/-- A read that takes a tag is issued and gets a slot of its channel: groups 8 and 1 count it (R728). -/
def countRead (d : Dev) (r : DramRead) : Dev :=
  countSlot (countSignal d (8 * 4096 + r.chan) 1) r.chan r.cls

/-- The slots of a write of a range (R471, R479, R728): one for a whole block, two for a read-modify-write, whose read is issued as well. -/
def countWrite (d : Dev) (a n cls : Nat) : Dev :=
  (blocksOf a n).foldl (fun d b => match channelOfAddr d (b * 256) with
    | some c =>
      if chanRetired d c then d
      else if b * 256 < a ∨ a + n < b * 256 + 256 then countSlot (countSlot (countSignal d (8 * 4096 + c) 1) c cls) c cls
      else countSlot d c cls
    | none => d) d

/-- A read asked for: it takes a tag, or waits for a completion (R480). -/
def askRead (d : Dev) (r : DramRead) : Dev :=
  match tagFor d r with
  | some t => countRead { d with dram.reads := mapPut d.dram.reads t r } r
  | none => { d with dram.waiting := d.dram.waiting ++ [r] }

/-- The DRAM blocks of a range asked for by a unit of a class, in order (R478, R480). -/
def askRange (d : Dev) (cls unit a n : Nat) : Dev :=
  (blocksOf a n).foldl (fun d b => match channelOfAddr d (b * 256) with
    | some c => askRead d { cls := cls, unit := unit, block := b, chan := c, cancelled := false }
    | none => d) d

/-- After a completion, the waiting requests are tried again in their order (R480). -/
def grantWaiting (d : Dev) : Dev :=
  d.dram.waiting.foldl (fun d r => askRead d r) { d with dram.waiting := [] }

/-- The reads that a unit of a class holds or waits for, not cancelled. Unit p is pipe p's line fetch, 32 + p its resident
load. -/
def readsOf (d : Dev) (cls unit : Nat) : Nat :=
  (d.dram.reads.filter (fun e => decide (e.2.cls = cls) && decide (e.2.unit = unit) && !e.2.cancelled)).length +
  (d.dram.waiting.filter (fun r => decide (r.cls = cls) && decide (r.unit = unit))).length

/-- Every read of a unit of a class is cancelled: one in flight holds its tag until its data arrive (R481), a waiting one is dropped. -/
def cancelReads (d : Dev) (cls unit : Nat) : Dev :=
  { d with dram.reads := d.dram.reads.map (fun e =>
             if e.2.cls = cls ∧ e.2.unit = unit then (e.1, { e.2 with cancelled := true }) else e),
           dram.waiting := d.dram.waiting.filter (fun r => !(decide (r.cls = cls) && decide (r.unit = unit))) }

end Sys2Proof.Machine
end

