-- ==== Sys2Proof/Machine/Scene.lean ====
section
/-!
DEFINITION. Scenes (scene chapter): scene objects, values per head, the staging set, attribution, surfaces and leases, with
the commands ALLOC, FREE, REALIZE, DISCARD and SCENE_LEASE_EXPIRY.
-/
namespace Sys2Proof.Machine

/-- The references of the head objects (class 10). -/
def headRef (h : Nat) : Ref := mref 0x10 h 0

/-- The LIMIT of a scene class (R89, R181, R189, R198, R331). -/
def classLimit (c : Nat) : Nat :=
  match c with
  | 0x11 => 256 | 0x12 => 1024 | 0x13 => 4096 | 0x14 => 256 | 0x15 => 256 | 0x16 => 1024 | 0x17 => 1024 | _ => 0

/-- The objects of a class that are allocated, rising (R90). -/
def allocated (d : Dev) (c : Nat) : List Ref := (d.scene.alloc.filter (fun e => decide (refClass e.1 = c))).map (·.1)

/-- A view of the RWF members: the value each one has in the scene that is looked at (R88). -/
abbrev View := Ref → Val

/-- A member of a view as a number. -/
def View.nat (v : View) (r : Ref) : Nat :=
  match v r with
  | .num n => n
  | .bytes _ => 0

/-- A head's live values (R88). -/
def liveView (d : Dev) (h : Nat) : View := fun r =>
  match rowOf r with
  | some m => if m.acc = .rwf then liveVal d h r else mGet d r
  | none => mGet d r

/-- A view with one write over it. -/
def overWrite (v : View) (r : Ref) (x : Val) : View := fun q => if q = r then x else v q

/-- A view with writes over it, in order. -/
def overWrites (v : View) (ws : List (Ref × Val)) : View := ws.foldl (fun v w => overWrite v w.1 w.2) v

/-- The writes of a commit that a head takes: those attributed to it, as R114 has it, though R88 and R120 speak of every write of
the commit (R114, R120; assumption log 106). -/
def takenFor (ws : List Taken) (h : Nat) : List (Ref × Val) :=
  (ws.filter (fun w => bitOf w.heads h)).map (fun w => (w.ref, w.val))

/-- The writes of an admitted commit that are to take effect on a head: a member whose live value comes from a newer commit keeps it,
since the live value is the newest write's (R88). -/
def takenBy (d : Dev) (c : PendingCommit) (h : Nat) : List (Ref × Val) :=
  (takenFor c.writes h).filter (fun w => decide (mapGet d.scene.liveAt (16 * w.1 + h) 0 ≤ c.number))

/-- The commits that are pending on a head, in commit-number order (R120). -/
def pendingOn (d : Dev) (h : Nat) : List PendingCommit := d.scene.commits.filter (fun c => bitOf c.waiting h)

/-- A head's live values overwritten by the commits still pending on it (R88). -/
def pendingView (d : Dev) (h : Nat) : View :=
  (pendingOn d h).foldl (fun v c => overWrites v (takenBy d c h)) (liveView d h)

/-- The staging set with a later write to a member over an earlier one (R70, R112). -/
def stagedNow (d : Dev) : List (Ref × Val) :=
  (d.scene.staging.filter (fun s => s.late || !d.scene.staging.any (fun t => t.late && t.ref == s.ref))).map
    (fun s => (s.ref, s.val))

/-- What a member has staged, if anything (R112). -/
def stagedVal (d : Dev) (r : Ref) : Option Val :=
  match d.scene.staging.find? (fun s => s.late && s.ref == r) with
  | some s => some s.val
  | none => (d.scene.staging.find? (fun s => s.ref == r)).map (·.val)

/-- STAGED_COUNT follows the staging set (R125). -/
def countStaged (d : Dev) : Dev := nSet d commitCtl_STAGED_COUNT (stagedNow d).length

/-- The scene that a head would have with every staged write applied (R88, for R113). -/
def attributionView (d : Dev) (h : Nat) : View :=
  overWrites (pendingView d h) ((d.scene.staging.filter (fun s => !s.late)).map (fun s => (s.ref, s.val)))

/-- The REF members of a scene object that a search or a chain of references follows, in rising member order (R87, R762):
FALLBACK only while DEGRADE is 3 (R103; assumption log 20). -/
def refMembers (v : View) (o : Ref) : List Ref :=
  let i := refInst o
  match refClass o with
  | 0x12 => [layer_BAND i, layer_SOURCE i, layer_PALETTE i] ++ (if v.nat (layer_DEGRADE i) = 3 then [layer_FALLBACK i] else [])
  | 0x14 => [tmap_MAP i, tmap_TILES_0 i, tmap_TILES_1 i, tmap_SCROLL_TABLE i] ++
      (List.range 16).map (fun b => tmap_PALETTE i b)
  | 0x15 => [sset_DESCRIPTORS i, sset_DATA i] ++ (List.range 16).map (fun b => sset_PALETTE i b)
  | 0x17 => (List.range 8).map (fun k => prog_TARGET i k)
  | _ => []

/-- Whether a reference names member 0 of an allocated scene object other than a control object. -/
def namesObject (d : Dev) (r : Ref) : Bool :=
  isSceneClass (refClass r) && (refMember r == 0) && (allocOf d r != 0)

/-- The objects that the REF members of an object name. -/
def refTargets (d : Dev) (v : View) (o : Ref) : List Ref :=
  ((refMembers v o).map v.nat).filter (namesObject d)

/-- An object and what it reaches over chains of at most n references, added in the order of the search (R87, R762). -/
def visit (d : Dev) (v : View) : Nat → List Ref → Ref → List Ref
  | 0, seen, o => addOnce seen o
  | n + 1, seen, o =>
    if seen.contains o then seen
    else (refTargets d v o).foldl (fun s t => visit d v n s t) (seen ++ [o])

/-- An object and what any chain of references from it reaches (R87): no chain meets more objects than are allocated. -/
def reach (d : Dev) (v : View) (seen : List Ref) (o : Ref) : List Ref := visit d v (d.scene.alloc.length + 1) seen o

/-- The bands of a head in a view, rising (R87). -/
def bandsOf (d : Dev) (v : View) (h : Nat) : List Ref :=
  (allocated d 0x11).filter (fun b => decide (v.nat (band_HEAD (refInst b)) = headRef h))

/-- The layers of a band in a view, rising (R87). -/
def layersOf (d : Dev) (v : View) (b : Ref) : List Ref :=
  (allocated d 0x12).filter (fun l => decide (v.nat (layer_BAND (refInst l)) = b))

/-- The beam programs bound to a head in a view, rising (R87). -/
def programsOf (d : Dev) (v : View) (h : Nat) : List Ref :=
  (allocated d 0x17).filter (fun p => decide (v.nat (prog_HEAD (refInst p)) = headRef h))

/-- The objects of a head's scene in a view, without some layers, in the order of the search of R762. -/
def sceneObjs (d : Dev) (v : View) (h : Nat) (skip : Ref → Bool) : List Ref :=
  let s := (bandsOf d v h).foldl (fun s b =>
    ((layersOf d v b).filter (fun l => !skip l)).foldl (reach d v) (addOnce s b)) []
  (programsOf d v h).foldl addOnce s

/-- Whether a layer is withdrawn on a head (R136). -/
def withdrawnOn (d : Dev) (h : Nat) (l : Ref) : Bool := d.scene.withdrawn.contains (16 * l + h)

/-- The objects of a head's live scene (R87, R88). -/
def liveScene (d : Dev) (h : Nat) : List Ref := sceneObjs d (liveView d h) h (fun _ => false)

/-- The objects that a withdrawn layer with DEGRADE 3 still shows (R136). -/
def withdrawnFallbacks (d : Dev) (h : Nat) : List Ref :=
  let v := liveView d h
  ((allocated d 0x12).filter (fun l => withdrawnOn d h l && decide (v.nat (layer_DEGRADE (refInst l)) = 3))).map
    (fun l => v.nat (layer_FALLBACK (refInst l))) |>.filter (namesObject d)

/-- The surface that a video input binds: SURFACE as its last frame start applied it (R427). -/
def inputSurface (d : Dev) (i : Nat) : Ref := (mapGet d.lanes.input i VideoIn.reset).surface

/-- The video input that a surface is bound to, if any (R131, R427). -/
def boundInput (d : Dev) (o : Ref) : Option Nat :=
  (List.range 16).find? (fun i => decide (inputSurface d i = o) && decide (o ≠ 0))

/-- The buffer of a surface that a head's live scene includes (R128): 0 for a surface that is not streaming, else its live FRONT, or the
one a video slot selected (R227). -/
def shownBuffer (d : Dev) (h : Nat) (o : Ref) : Nat :=
  if nGet d (surf_STREAMING (refInst o)) = 0 then 0
  else match (boundInput d o), mapFind d.scene.selected (65536 * h + refInst o) with
  | some _, some k => k
  | _, _ => (liveView d h).nat (surf_FRONT (refInst o))

/-- The lease key of an object with the buffer a head shows (R128). -/
def leaseKey (o buf : Nat) : Nat := 16 * o + (if refClass o = 0x13 then buf % 16 else 0)

/-- The lease keys that a running head's live scene includes (R126, R136). -/
def liveKeys (d : Dev) (h : Nat) : List Nat :=
  if headRuns d h then
    ((sceneObjs d (liveView d h) h (withdrawnOn d h) ++ withdrawnFallbacks d h).map
      (fun o => leaseKey o (shownBuffer d h o)))
  else []

/-- Every lease: the head and the key it leases (R126). -/
def allLeases (d : Dev) : List (Nat × Nat) :=
  ((List.range 16).map (fun h =>
    (liveKeys d h ++ mapGet d.scene.reading h [] ++ mapGet d.scene.ended h [] ++
      ((pendingOn d h).map (fun c => mapGet c.holds h [])).flatten).map (fun k => (h, k)))).flatten

/-- The heads on account of which a key is leased, as a mask (R126). -/
def leaseHeads (ls : List (Nat × Nat)) (key : Nat) : Nat :=
  (List.range 16).foldl (fun a h => if ls.contains (h, key) then a + 2 ^ h else a) 0

/-- The heads on account of which an object is leased, as a mask (R126, R128). -/
def objectHeads (ls : List (Nat × Nat)) (o : Ref) : Nat :=
  (List.range 16).foldl (fun a h => if ls.any (fun e => decide (e.1 = h) && decide (e.2 / 16 = o)) then a + 2 ^ h else a) 0

/-- Whether any head leases an object (R126). -/
def objectLeased (d : Dev) (o : Ref) : Bool := (allLeases d).any (fun e => decide (e.2 / 16 = o))

/-- Whether any head leases a buffer of a surface (R128). -/
def bufferLeased (d : Dev) (o buf : Nat) : Bool := (allLeases d).any (fun e => decide (e.2 = 16 * o + buf))

/-- The buffers that commits under way include in a scene. -/
def pendingKeys (d : Dev) : List Nat :=
  (d.scene.commits.map (fun c => (c.holds.map (·.2)).flatten)).flatten

/-- BUFFER_STATE of one buffer (R134). -/
def bufferState (live pend : List Nat) (ls : List (Nat × Nat)) (o k : Nat) : Nat :=
  let key := 16 * o + k
  if live.contains key then 2
  else if pend.contains key then 1
  else if ls.any (fun e => decide (e.2 = key)) then 3
  else 0

/-- The number whose field of 4 bits at 4 i is f i, for i below n. -/
def gatherNibbles (n : Nat) (f : Nat → Nat) : Nat := (List.range n).foldl (fun a i => a + (f i % 16) * 16 ^ i) 0

/-- HEAD_FRONT of a surface (R104, R128). -/
def headFront (d : Dev) (scenes : List (List Ref)) (o : Ref) : Nat :=
  gatherNibbles 16 (fun h => if (scenes.getD h []).contains o then shownBuffer d h o else 15)

/-- IN_USE and PENDING_FREE of a class follow the allocation (R89). -/
def countClass (d : Dev) (c : Nat) : Dev :=
  let l := d.scene.alloc.filter (fun e => decide (refClass e.1 = c))
  nSets d [(ctl_IN_USE c, l.length), (ctl_PENDING_FREE c, (l.filter (fun e => decide (e.2 = 2))).length)]

/-- The notification of an object released after a deferred FREE (R92). -/
def releaseNotif (d : Dev) (o : Ref) : Notif :=
  { kind := 0, flags := 0, ref := ctl_FREE (refClass o), time := tbNs d, typ := Ty.ref.code, val := beBytes 4 o, source := none }

/-- A video input beside its members. -/
def vinOf (d : Dev) (i : Nat) : VideoIn := mapGet d.lanes.input i VideoIn.reset

/-- A video input changed. -/
def updVin (d : Dev) (i : Nat) (f : VideoIn → VideoIn) : Dev :=
  { d with lanes.input := mapSet d.lanes.input i (f (vinOf d i)) VideoIn.reset }

/-- What the surface of an input makes of a stream (R419): RECEIVING or MISMATCH. -/
def streamFits (d : Dev) (i : Nat) : Bool :=
  let o := (vinOf d i).surface
  let s := refInst o
  decide (o ≠ 0) && decide (nGet d (surf_LOCATION s) ≠ 0) && decide (nGet d (vin_FORMAT i) = nGet d (surf_FORMAT s)) &&
  decide (nGet d (vin_WIDTH i) ≤ nGet d (surf_WIDTH s)) && decide (nGet d (vin_HEIGHT i) ≤ nGet d (surf_HEIGHT s))

/-- STREAM_STATE of an input with a stream (R419, R427). -/
def lookStream (d : Dev) (i : Nat) : Dev := nSet d (vin_STREAM_STATE i) (if streamFits d i then 3 else 4)

/-- The inputs that receive look whether their surfaces still fit (R419). -/
def lookStreams (d : Dev) : Dev :=
  (List.range 16).foldl (fun d i => if nGet d (vin_STREAM_STATE i) = 3 then lookStream d i else d) d

/-- An object released (R91, R94): its members and its memory go back, staged writes to it leave the staging set, and a
program's event routes end (R615); an input whose surface it was no longer fits (R419). -/
def releaseObject (d : Dev) (o : Ref) : Dev :=
  let d := if refClass o = 0x17 then unrouteProgram d o else d
  let d := { d with scene.alloc := mapErase d.scene.alloc o,
                    scene.staging := d.scene.staging.filter (fun s => decide (refObj s.ref ≠ o)),
                    scene.pool := d.scene.pool.filter (fun p => decide (p.owner ≠ o)),
                    scene.withdrawn := d.scene.withdrawn.filter (fun k => decide (k / 16 ≠ o)),
                    scene.selected := d.scene.selected.filter (fun e => decide (e.1 % 65536 ≠ refInst o) || decide (refClass o ≠ 0x13)) }
  lookStreams (countStaged (countClass (dropObject d o) (refClass o)))

/-- STATE, LEASE_HEADS, BUFFER_STATE and HEAD_FRONT of an object follow the leases (R95, R104, R128, R134). A surface that is not
realised reads EMPTY even where a lease is held on it: it has no buffer yet that R128 could lease (assumption log 107). -/
def refreshObject (live pend : List Nat) (ls : List (Nat × Nat)) (scenes : List (List Ref)) (d : Dev) (o : Ref) : Dev :=
  let mask := objectHeads ls o
  let isSurf := refClass o == 0x13
  let empty := isSurf && nGet d (surf_LOCATION (refInst o)) == 0
  let st := if allocOf d o = 2 then 3 else if empty then 0 else if mask ≠ 0 then 2 else 1
  let d := nSets d [(obj_STATE o, st), (obj_LEASE_HEADS o, mask)]
  if isSurf then
    nSets d [(surf_BUFFER_STATE (refInst o),
        gatherNibbles 8 (fun k => if k < nGet d (surf_BUFFERS (refInst o)) then bufferState live pend ls o k else 0)),
      (surf_HEAD_FRONT (refInst o), headFront d scenes o)]
  else d

/-- Leases worked out anew (R126, R127): members follow them, and a FREEING object whose lease has ended is released with
its notification (R92). -/
def refreshLeases (d : Dev) : Dev :=
  let ls := allLeases d
  let live := ((List.range 16).map (liveKeys d)).flatten
  let pend := pendingKeys d
  let scenes := (List.range 16).map (liveScene d)
  let gone := (d.scene.alloc.filter (fun e => decide (e.2 = 2) && decide (objectHeads ls e.1 = 0))).map (·.1)
  let d := (d.scene.alloc.map (·.1)).foldl (refreshObject live pend ls scenes) d
  gone.foldl (fun d o => notifyController (releaseObject d o) (releaseNotif d o)) d

/-- ALLOC (R89, R90). -/
def allocOp (d : Dev) (c arg : Nat) : Dev × Status × List Byte :=
  let free := fun i => decide (allocOf d (mref c i 0) = 0)
  if isSceneClass c = false then (d, .access, [])
  else if arg ≠ 0xFFFF ∧ classLimit c ≤ arg then (d, .range, [])
  else match (if arg = 0xFFFF then (List.range (classLimit c)).find? free else if free arg then some arg else none) with
    | none => (d, .busy, [])
    | some i =>
      let o := mref c i 0
      let d := dropObject { d with scene.staging := d.scene.staging.filter (fun s => decide (refObj s.ref ≠ o)) } o
      let d := countClass { d with scene.alloc := mapPut d.scene.alloc o 1 } c
      (countStaged d, .ok, beBytes 4 o)

/-- Whether a DMA list or a blitter command under way reads or writes a buffer of a surface (R498). -/
def jobTouches (d : Dev) (o : Ref) : Bool :=
  (d.scene.pool.filter (fun p => decide (p.owner = o))).any (fun p =>
    (d.scene.writing ++ d.movers.reads).any (fun q => decide (q.lo < p.hi) && decide (p.lo < q.hi)))

/-- FREE (R91, R92, R94): FREE of the control object itself is outside the argument's range (assumption log 21). A FREE that is
DEFERRED leaves the object's staged writes until the release (assumption log 110). -/
def freeOp (d : Dev) (c : Nat) (o : Ref) : Dev × Status × List Byte :=
  if isSceneClass c = false then (d, .access, [])
  else if refClass o ≠ c ∨ refMember o ≠ 0 ∨ allocOf d o = 0 ∨ o ≥ 2 ^ 32 then (d, .range, [])
  else if jobTouches d o then (d, .busy, [])
  else if allocOf d o = 2 ∨ objectLeased d o then
    (nSet (countClass { d with scene.alloc := mapPut d.scene.alloc o 2 } c) (obj_STATE o) 3, .deferred, beBytes 4 o)
  else (releaseObject d o, .ok, beBytes 4 o)

/-- Half-bytes of one element of a surface format (R176, R218); 0 for an undefined code. -/
def formatHalf (f : Nat) : Nat :=
  match f with
  | 0x01 => 8 | 0x02 => 8 | 0x03 => 6 | 0x04 => 4 | 0x05 => 4 | 0x06 => 4 | 0x07 => 2 | 0x08 => 1
  | 0x10 => 64 | 0x11 => 128 | 0x12 => 256 | 0x13 => 512 | 0x18 => 8 | 0x19 => 32 | 0x1A => 2 | 0x1B => 8
  | _ => if 0x20 ≤ f ∧ f ≤ 0x3F ∧ (f - 0x20) % 8 ≤ 4 then
      (match (f - 0x20) / 8 with | 0 => 4 | 1 => 4 | 2 => 6 | _ => 8)
    else 0

/-- The line length in bytes of w elements of a format (R106, R178). -/
def lineBytes (f w : Nat) : Nat := ceilDiv (w * formatHalf f) 2

/-- Whether a format is a 4:2:2 layout (R218, R219). -/
def format422 (f : Nat) : Bool := decide (0x20 ≤ f) && decide (f ≤ 0x3F) && decide ((f - 0x20) / 8 ≠ 2)

/-- The shape rules of a format (R177, R219). -/
def shapeOk (f w h : Nat) : Bool :=
  (!([0x10, 0x11, 0x12, 0x13, 0x19, 0x1B].contains f) || decide (h = 1)) &&
  (decide (f ≠ 0x19) || decide (w ≤ 1024)) && (!format422 f || decide (w % 2 = 0))

/-- The minimum pitch (R106). -/
def minPitch (f w : Nat) : Nat := roundUp (lineBytes f w) 64

/-- The pitch a surface is realised with (R106). -/
def surfPitch (d : Dev) (i : Nat) : Nat :=
  if nGet d (surf_PITCH i) = 0 then minPitch (nGet d (surf_FORMAT i)) (nGet d (surf_WIDTH i)) else nGet d (surf_PITCH i)

/-- SIZE of one buffer (R107). -/
def surfSize (d : Dev) (i : Nat) : Nat := roundUp (surfPitch d i * nGet d (surf_HEIGHT i)) 256

/-- The first check of R764 that fails, but for the pool's room. -/
def realizeCheck (d : Dev) (i : Nat) : Option Status :=
  let f := nGet d (surf_FORMAT i)
  let w := nGet d (surf_WIDTH i)
  let h := nGet d (surf_HEIGHT i)
  let p := nGet d (surf_PITCH i)
  if nGet d (surf_LOCATION i) ≠ 0 ∨ allocOf d (mref 0x13 i 0) = 2 then some .state
  else if formatHalf f = 0 then some .range
  else if w = 0 ∨ h = 0 ∨ shapeOk f w h = false then some .range
  else if nGet d (surf_STREAMING i) = 1 ∧ nGet d (surf_BUFFERS i) < 2 then some .range
  else if p % 64 ≠ 0 then some .misaligned
  else if p ≠ 0 ∧ p < minPitch f w then some .range
  else if 2 ^ 30 < surfSize d i * nGet d (surf_BUFFERS i) then some .range
  else none

/-- A FRONT that an admitted commit set while the surface was EMPTY is discarded (R104, R133): in the live values, and in the commits
that still wait, whose leases then name buffer 0. -/
def discardFront (d : Dev) (i : Nat) : Dev :=
  let f := surf_FRONT i
  let o := mref 0x13 i 0
  { d with scene.live := d.scene.live.filter (fun e => decide (e.1 / 16 ≠ f)),
           scene.liveAt := d.scene.liveAt.filter (fun e => decide (e.1 / 16 ≠ f)),
           scene.liveNum := mapErase d.scene.liveNum f,
           scene.commits := d.scene.commits.map (fun c => { c with
             writes := c.writes.filter (fun w => decide (w.ref ≠ f)), fronts := mapErase c.fronts i,
             holds := c.holds.map (fun e => (e.1, e.2.map (fun k => if k / 16 = o then 16 * o else k))) }) }

/-- REALIZE (R104, R108, R764): the memory is reserved, FRONT becomes 0 everywhere, STATE READY. -/
def realizeOp (d : Dev) (i arg : Nat) : Dev × Status × List Byte :=
  if arg ≠ 0 then (d, .range, [])
  else match realizeCheck d i with
    | some st => (d, st, [])
    | none =>
      let sz := surfSize d i
      let n := sz * nGet d (surf_BUFFERS i)
      match findPlace d n with
      | none => (d, .busy, [])
      | some (d, a) =>
        let o := mref 0x13 i 0
        let d := discardFront { d with scene.pool := d.scene.pool ++ [{ owner := o, lo := a, hi := a + n }] } i
        let d := nSets d [(surf_SIZE i, sz), (surf_LOCATION i, 1), (surf_ADDRESS i, a), (surf_FRONT i, 0)]
        (refreshLeases d, .ok, beBytes 4 sz)

/-- DISCARD (R125): the staging set is emptied. -/
def discardOp (d : Dev) (arg : Nat) : Dev × Status × List Byte :=
  if arg ≠ 0 then (d, .range, []) else (countStaged { d with scene.staging := [] }, .ok, [])

/-- A write to an RWF member staged (R112, R93): STATE on a FREEING object, BUSY when the set of 8,192 is full. -/
def stageWrite (d : Dev) (r : Ref) (v : Val) : Dev × Status × List Byte :=
  let late := d.scene.evaluating.isSome
  if isSceneClass (refClass r) ∧ allocOf d (refObj r) = 2 then (d, .state, [])
  else if (stagedVal d r).isNone ∧ 8192 ≤ (stagedNow d).length then (d, .busy, [])
  else if d.scene.staging.any (fun s => s.ref == r && s.late == late) then
    ({ d with scene.staging := d.scene.staging.map (fun s => if s.ref == r && s.late == late then { s with val := v } else s) },
      .ok, [])
  else (countStaged { d with scene.staging := d.scene.staging ++ [{ ref := r, val := v, late := late }] }, .ok, [])

/-- The surface and the buffer that an address of the pool lies in (R104). -/
def surfaceAt (d : Dev) (a : Nat) : Option (Ref × Nat) :=
  match d.scene.pool.find? (fun p => decide (p.lo ≤ a) && decide (a < p.hi)) with
  | some p => some (p.owner, (a - p.lo) / (if nGet d (surf_SIZE (refInst p.owner)) = 0 then 1 else nGet d (surf_SIZE (refInst p.owner))))
  | none => none

/-- The surface buffers that a range of n octets touches (R128, R130). -/
def buffersTouched (d : Dev) (a n : Nat) : List (Ref × Nat) :=
  if n = 0 then []
  else (d.scene.pool.filter (fun p => decide (p.lo < a + n) && decide (a < p.hi))).map (fun p =>
    let sz := nGet d (surf_SIZE (refInst p.owner))
    if sz = 0 then [] else
    (List.range ((p.hi - p.lo) / sz)).filter (fun k => decide (p.lo + k * sz < a + n) && decide (a < p.lo + (k + 1) * sz)) |>.map
      (fun k => (p.owner, k))) |>.flatten

/-- Whether a write of a range by the host, DMA, the blitter or an engine is refused for a lease or a video input
(R129 to R131). -/
def writeLeased (d : Dev) (a n : Nat) : Bool :=
  let ls := allLeases d
  (buffersTouched d a n).any (fun x => (boundInput d x.1).isSome || ls.any (fun e => decide (e.2 = 16 * x.1 + x.2)))

/-- Whether a transfer under way writes a buffer of a surface (R117 reason 0x09). -/
def bufferBeingWritten (d : Dev) (o buf : Nat) : Bool :=
  let i := refInst o
  let a := nGet d (surf_ADDRESS i) + buf * nGet d (surf_SIZE i)
  d.scene.writing.any (fun p => decide (p.lo < a + nGet d (surf_SIZE i)) && decide (a < p.hi))

/-- SCENE_LEASE_EXPIRY (R136): SCENE_LEASE_EXPIRED is set; every head withdraws at its boundaries. -/
def doSceneLeaseExpiry (d : Dev) : Dev :=
  match mapFind d.timers (timerKey tkSceneLease 0) with
  | some start =>
    let n := nGet d commitCtl_SCENE_LEASE
    if n ≠ 0 ∧ start + ms n ≤ d.now then nSet (disarm d tkSceneLease 0) commitCtl_SCENE_LEASE_EXPIRED 1 else d
  | none => d

/-- ALLOC (R89, R90). -/
def doAlloc (sess cls arg : Nat) (d : Dev) : Dev := withGate d sess (ctl_ALLOC cls) (fun d => allocOp d cls arg)
/-- FREE (R91). -/
def doFree (sess cls : Nat) (arg : Ref) (d : Dev) : Dev := withGate d sess (ctl_FREE cls) (fun d => freeOp d cls arg)
/-- REALIZE (R108, R764). -/
def doRealize (sess surf arg : Nat) (d : Dev) : Dev := withGate d sess (surf_REALIZE surf) (fun d => realizeOp d surf arg)
/-- DISCARD (R125). -/
def doDiscard (sess arg : Nat) (d : Dev) : Dev := withGate d sess commitCtl_DISCARD (fun d => discardOp d arg)

/-- ALLOC (R89, R90). -/
def execAlloc (sess cls arg : Nat) (s : State) : Res := .next (withDev s (doAlloc sess cls arg s.dev))
/-- REALIZE (R108, R764). -/
def execRealize (sess surf arg : Nat) (s : State) : Res := .next (withDev s (doRealize sess surf arg s.dev))
/-- DISCARD (R125). -/
def execDiscard (sess arg : Nat) (s : State) : Res := .next (withDev s (doDiscard sess arg s.dev))
/-- SCENE_LEASE_EXPIRY (R136). -/
def execSceneLeaseExpiry (s : State) : Res := .next (withDev s (doSceneLeaseExpiry s.dev))

end Sys2Proof.Machine
end

