-- ==== Sys2Proof/Machine/Checks.lean ====
section
/-!
DEFINITION. The rules that a commit is checked against before the Stoker sees it (R113 to R119, R761, R762): attribution of
staged writes, and for each reason the members of a head's staged scene that break it, in the order of the search of R762.
-/
namespace Sys2Proof.Machine

/-- For each head, the objects of its live and of its staged scene (R113). -/
def attributionScenes (d : Dev) : List (List Ref) :=
  (List.range 16).map (fun h => liveScene d h ++ sceneObjs d (attributionView d h) h (fun _ => false))

/-- The heads that a staged write is attributed to (R113). -/
def attributedHeads (scenes : List (List Ref)) (r : Ref) : Nat :=
  if refClass r = 0x10 then 2 ^ refInst r
  else (List.range 16).foldl (fun a h => if (scenes.getD h []).contains (refObj r) then a + 2 ^ h else a) 0

/-- The staged writes that a commit of a mask takes, with their heads (R114). -/
def takenWrites (d : Dev) (mask : Nat) : List Taken :=
  let sc := attributionScenes d
  ((d.scene.staging.filter (fun s => !s.late)).map
    (fun s => ({ ref := s.ref, val := s.val, heads := attributedHeads sc s.ref } : Taken))).filter
    (fun t => decide (t.heads = 0) || decide (t.heads &&& mask ≠ 0))

/-- The staged values of a head for a commit (R88). -/
def stagedView (d : Dev) (mask : Nat) (taken : List Taken) (h : Nat) : View :=
  if bitOf mask h then overWrites (pendingView d h) (taken.map (fun t => (t.ref, t.val))) else pendingView d h

/-- Whether a band is enabled in a view. -/
def bandOn (v : View) (b : Ref) : Bool := v.nat (band_ENABLE (refInst b)) == 1
/-- Whether a layer is enabled in a view. -/
def layerOn (v : View) (l : Ref) : Bool := v.nat (layer_ENABLE (refInst l)) == 1

/-- The enabled bands of a head in a view. -/
def liveBands (d : Dev) (v : View) (h : Nat) : List Ref := (bandsOf d v h).filter (bandOn v)
/-- The enabled layers of a band in a view. -/
def onLayers (d : Dev) (v : View) (b : Ref) : List Ref := (layersOf d v b).filter (layerOn v)

/-- The enabled layers of the enabled bands of a head, in search order (R761). -/
def checkedLayers (d : Dev) (v : View) (h : Nat) : List Ref := ((liveBands d v h).map (onLayers d v)).flatten

/-- The REF members of an object that must name a living object (R117 reason 0x02), in rising member order. -/
def livingRefs (o : Ref) : List Ref :=
  let i := refInst o
  match refClass o with
  | 0x12 => [layer_BAND i, layer_SOURCE i, layer_PALETTE i, layer_FALLBACK i]
  | 0x14 => [tmap_MAP i, tmap_TILES_0 i, tmap_TILES_1 i, tmap_SCROLL_TABLE i] ++ (List.range 16).map (fun b => tmap_PALETTE i b)
  | 0x15 => [sset_DESCRIPTORS i, sset_DATA i] ++ (List.range 16).map (fun b => sset_PALETTE i b)
  | 0x17 => (List.range 8).map (fun k => prog_TARGET i k)
  | _ => []

/-- Whether a REF value is 0 or names a living object. -/
def refLives (d : Dev) (x : Ref) : Bool :=
  decide (x = 0) || (decide (refMember x = 0) && (if isSceneClass (refClass x) then decide (allocOf d x = 1) else instanceInTables x))

/-- FREED_REF of an object and of what it reaches through the members of R762, in search order. -/
def freedRefs (d : Dev) (v : View) : Nat → List Ref → Ref → List Ref × List Ref
  | 0, seen, o => (seen, (livingRefs o).filter (fun m => !refLives d (v.nat m)))
  | n + 1, seen, o =>
    if seen.contains o then (seen, [])
    else (livingRefs o).foldl (fun (a : List Ref × List Ref) m =>
      let x := v.nat m
      if refLives d x = false then (a.1, a.2 ++ [m])
      else if namesObject d x ∧ (refMembers v o).contains m then
        let y := freedRefs d v n a.1 x
        (y.1, a.2 ++ y.2)
      else a) (seen ++ [o], [])

/-- FREED_REF in a head's staged scene (R117). -/
def breaksFreed (d : Dev) (v : View) (h : Nat) : List Ref :=
  let ls := ((bandsOf d v h).map (fun b => layersOf d v b)).flatten
  (ls.foldl (fun (a : List Ref × List Ref) o =>
    let y := freedRefs d v (d.scene.alloc.length + 1) a.1 o
    (y.1, a.2 ++ y.2)) ([], [])).2 ++
  ((programsOf d v h).map (fun p => (livingRefs p).filter (fun m => !refLives d (v.nat m)))).flatten

/-- Whether a reference names a surface that is EMPTY (R117 reason 0x03). -/
def namesEmpty (d : Dev) (x : Ref) : Bool :=
  decide (refClass x = 0x13) && decide (refMember x = 0) && decide (nGet d (surf_LOCATION (refInst x)) = 0)

/-- The REF members through which an object and what it reaches names an EMPTY surface, in search order, with the objects visited. -/
def emptyRefs (d : Dev) (v : View) : Nat → List Ref → Ref → List Ref × List Ref
  | 0, seen, _ => (seen, [])
  | n + 1, seen, o =>
    if seen.contains o then (seen, [])
    else (refMembers v o).foldl (fun (a : List Ref × List Ref) m =>
      let x := v.nat m
      if namesEmpty d x then (a.1, a.2 ++ [m])
      else if namesObject d x then
        let y := emptyRefs d v n a.1 x
        (y.1, a.2 ++ y.2)
      else a) (seen ++ [o], [])

/-- NOT_REALIZED of one layer (R762): the REF members through which a chain of references reaches an EMPTY surface. -/
def layerEmpty (d : Dev) (v : View) (l : Ref) : List Ref := (emptyRefs d v (d.scene.alloc.length + 1) [] l).2

/-- NOT_REALIZED in a head's staged scene (R117, R761). -/
def breaksRealized (d : Dev) (v : View) (h : Nat) : List Ref := ((checkedLayers d v h).map (layerEmpty d v)).flatten

/-- The class a layer's SOURCE must have (R99). -/
def sourceClass (kind : Nat) : Nat := match kind with | 1 => 0x14 | 2 => 0x15 | _ => 0x13

/-- SOURCE_KIND in a head's staged scene (R117, R761). -/
def breaksSource (d : Dev) (v : View) (h : Nat) : List Ref :=
  ((checkedLayers d v h).filter (fun l =>
    decide (refClass (v.nat (layer_SOURCE (refInst l))) ≠ sourceClass (v.nat (layer_KIND (refInst l)))))).map
    (fun l => layer_SOURCE (refInst l))

/-- The members that a sub-check relates, kept if it is broken (R762). -/
def broken (b : Bool) (ms : List Ref) : List (List Ref) := if b then [ms] else []

/-- The REF members of an object that the search of R762 follows. -/
def searchRefs (v : View) (o : Ref) : List Ref :=
  let i := refInst o
  if refClass o = 0x12 then [layer_BAND i, layer_SOURCE i, layer_PALETTE i, layer_FALLBACK i] else refMembers v o

/-- The members that the search of R762 meets in an object, each REF followed at once: the objects visited and the members met. -/
def searchObject (d : Dev) (v : View) : Nat → List Ref × List Ref → Ref → List Ref × List Ref
  | 0, a, _ => a
  | n + 1, a, o =>
    if a.1.contains o then a
    else ((List.range (highestMember o)).map (fun k => o + k + 1)).foldl (fun (a : List Ref × List Ref) m =>
      let a := (a.1, a.2 ++ [m])
      if (searchRefs v o).contains m && namesObject d (v.nat m) then searchObject d v n a (v.nat m) else a) (a.1 ++ [o], a.2)

/-- The members of a head's staged scene in the order of the search of R762: the head with some members that its own rules name,
its bands each with its layers, the programs bound to it. -/
def searchOrder (d : Dev) (v : View) (h : Nat) (named : List Ref) : List Ref :=
  let look := searchObject d v (d.scene.alloc.length + 2)
  let a := look ([], []) (headRef h)
  let a := (bandsOf d v h).foldl (fun a b => (layersOf d v b).foldl look (look a b)) (a.1, a.2 ++ named)
  ((programsOf d v h).foldl look a).2

/-- The place of a member in a search. -/
def placeIn (order : List Ref) (m : Ref) : Nat := order.findIdx (fun x => decide (x = m))

/-- The member that a broken sub-check names: the one among those it relates that the search meets last (R762). -/
def lastMet (order : List Ref) (related : List Ref) : Ref :=
  let ms := related.filter order.contains
  ms.foldl (fun a m => if placeIn order a < placeIn order m then m else a) (ms.head?.getD 0)

/-- STATE_REF of some broken sub-checks (R762): the object of the named member that the search meets first, and in it the sub-check
listed first. -/
def stateRef (order : List Ref) (bs : List (List Ref)) : Ref :=
  let named := bs.map (lastMet order)
  let first := named.foldl (fun a m => if placeIn order m < placeIn order a then m else a) (named.head?.getD 0)
  (named.find? (fun m => decide (refObj m = refObj first))).getD 0

/-- The raster totals in a view (R243, R244). -/
def hTotal (v : View) (h : Nat) : Nat :=
  v.nat (head_H_ACTIVE h) + v.nat (head_H_FRONT h) + v.nat (head_H_SYNC h) + v.nat (head_H_BACK h)
/-- Lines of a frame in a view (R243). -/
def vTotal (v : View) (h : Nat) : Nat :=
  v.nat (head_V_ACTIVE h) + v.nat (head_V_FRONT h) + v.nat (head_V_SYNC h) + v.nat (head_V_BACK h)

/-- The lanes a head uses in a view (R246). -/
def lanesOf (v : View) (h : Nat) : List Nat :=
  let l := v.nat (head_LANE h)
  if 32 ≤ l then [] else if v.nat (head_LANES h) = 2 then [l, l + 1] else [l]

/-- The members of two heads that a shared lane relates (R247). -/
def laneMembers (h g : Nat) : List Ref := [head_LANE h, head_LANES h, head_LANE g, head_LANES g]

/-- GEOMETRY of the head object (R247). -/
def headGeometry (views : Nat → View) (h : Nat) : List (List Ref) :=
  let v := views h
  if v.nat (head_ENABLE h) ≠ 1 then []
  else
    let ht := hTotal v h
    let vt := vTotal v h
    let f := v.nat (head_PIXEL_CLOCK h)
    broken (decide (ht - v.nat (head_H_ACTIVE h) < 40)) [head_H_BACK h] ++
    broken (decide (vt - v.nat (head_V_ACTIVE h) < 4)) [head_V_BACK h] ++
    broken (decide (16384 < ht)) [head_H_BACK h] ++ broken (decide (16384 < vt)) [head_V_BACK h] ++
    broken (decide (f < 20 * ht * vt) || decide (240 * ht * vt < f)) [head_V_BACK h] ++
    broken (decide (v.nat (head_LANES h) = 2) && (decide (v.nat (head_LANE h) % 2 = 1) || decide (30 < v.nat (head_LANE h)))) [head_LANE h, head_LANES h] ++
    ((List.range 16).map (fun g => broken (decide (g ≠ h) && decide ((views g).nat (head_ENABLE g) = 1) &&
      (lanesOf v h).any (fun l => (lanesOf (views g) g).contains l)) (laneMembers h g))).flatten

/-- The enabled slots and the plates that an active area of a view would leave out: X of a slot, or PLATES (R276, R451). -/
def areaGeometry (d : Dev) (m : List Host.Cell) (v : View) (h : Nat) : List Ref :=
  let changed := v.nat (head_H_ACTIVE h) ≠ liveNat d h (head_H_ACTIVE h) ∨ v.nat (head_V_ACTIVE h) ≠ liveNat d h (head_V_ACTIVE h)
  if changed then
    let inside := fun k x y w ht => decide (k ≤ x) && decide (k ≤ y) && decide (x + w + k ≤ v.nat (head_H_ACTIVE h)) &&
      decide (y + ht + k ≤ v.nat (head_V_ACTIVE h))
    let k := orbitMargin d h true
    ((List.range 64).filter (fun s =>
      let i := 64 * h + s
      let sy := nGet d (slot_SYMBOL i)
      decide (nGet d (slot_ENABLE i) = 1) &&
        !inside k (nGet d (slot_X i)) (nGet d (slot_Y i)) (symWidth m sy) (symHeight m sy))).map (fun s => slot_X (64 * h + s)) ++
    (if (List.range 8).any (fun p =>
      let sy := plateSymbol d h p
      let b := bGet d (hhead_PLATES h)
      decide (sy ≠ 0xFFFF) && !inside k (ofLe (sliceOf b (8 * p + 2) 2)) (ofLe (sliceOf b (8 * p + 4) 2)) (symWidth m sy)
        (symHeight m sy)) then [hhead_PLATES h] else [])
  else []

/-- The integer part of a signed Q16.16 value. -/
def q16Int (n : Nat) : Int := sintOf 32 n / 65536

/-- The columns and the rows that the source window of a layer of kind 0, 1 or 2 must lie in, from and to (R100, R192, R194): none
for a video layer. -/
def sourceBounds (d : Dev) (v : View) (l : Ref) : Option ((Int × Int) × (Int × Int)) :=
  let i := refInst l
  let x := v.nat (layer_SOURCE i)
  match v.nat (layer_KIND i) with
  | 0 => some ((0, nGet d (surf_WIDTH (refInst x))), (0, nGet d (surf_HEIGHT (refInst x))))
  | 1 =>
    let m := v.nat (tmap_MAP (refInst x))
    let t := if v.nat (tmap_TILE_SIZE (refInst x)) = 0 then 8 else 16
    if refClass m = 0x13 then some ((0, (nGet d (surf_WIDTH (refInst m)) * t : Nat)), (0, (nGet d (surf_HEIGHT (refInst m)) * t : Nat))) else none
  | 2 => some ((-32768, 32768), (-32768, 32768))
  | _ => none

/-- The source window of a layer of kind 0, 1 or 2 outside its source, one sub-check for each axis (R100). -/
def windowBreaks (d : Dev) (v : View) (l : Ref) : List (List Ref) :=
  let i := refInst l
  let x := q16Int (v.nat (layer_SRC_X i))
  let y := q16Int (v.nat (layer_SRC_Y i))
  match sourceBounds d v l with
  | none => []
  | some b =>
    broken (decide (x < b.1.1) || decide (b.1.2 < x + v.nat (layer_WIDTH i))) [layer_WIDTH i, layer_SRC_X i] ++
    broken (decide (y < b.2.1) || decide (b.2.2 < y + v.nat (layer_HEIGHT i))) [layer_HEIGHT i, layer_SRC_Y i]

/-- The limits of a video layer that are broken, in the order of R222. -/
def scalerBreaks (d : Dev) (v : View) (l : Ref) : List (List Ref) :=
  let i := refInst l
  let w := v.nat (layer_WIDTH i)
  let ht := v.nat (layer_HEIGHT i)
  let sw := v.nat (layer_SRC_W i)
  let sh := v.nat (layer_SRC_H i)
  let x := sintOf 32 (v.nat (layer_SRC_X i))
  let y := sintOf 32 (v.nat (layer_SRC_Y i))
  let s := refInst (v.nat (layer_SOURCE i))
  broken (decide (sw < 2) || decide (4096 < sw)) [layer_SRC_W i] ++ broken (decide (sh < 2) || decide (4096 < sh)) [layer_SRC_H i] ++
  broken (decide (16 * sw < w) || decide (4 * w < sw)) [layer_WIDTH i, layer_SRC_W i] ++
  broken (decide (16 * sh < ht) || decide (4 * ht < sh)) [layer_HEIGHT i, layer_SRC_H i] ++
  broken (decide (x < 0)) [layer_SRC_X i] ++ broken (decide (y < 0)) [layer_SRC_Y i] ++
  broken (decide ((nGet d (surf_WIDTH s) * 65536 : Nat) < x + sw * 65536)) [layer_SRC_X i, layer_SRC_W i] ++
  broken (decide ((nGet d (surf_HEIGHT s) * 65536 : Nat) < y + sh * 65536)) [layer_SRC_Y i, layer_SRC_H i]

/-- Whether a layer of kind 0 or 3 may read a format (R217). -/
def layerFormatOk (kind f : Nat) : Bool :=
  if kind = 3 then (decide (1 ≤ f) && decide (f ≤ 6)) || decide (0x20 ≤ f) else decide (1 ≤ f) && decide (f ≤ 8)

/-- The format of the surface that a member of a view names. -/
def formatOf (d : Dev) (v : View) (m : Ref) : Nat :=
  let x := v.nat m
  if refClass x = 0x13 then nGet d (surf_FORMAT (refInst x)) else 0

/-- A REF member of a view with FORMAT of the surface that it names: what a rule on that surface's format relates. -/
def withFormat (v : View) (m : Ref) : List Ref :=
  if refClass (v.nat m) = 0x13 then [m, surf_FORMAT (refInst (v.nat m))] else [m]

/-- The size in pixels and the depth in bits of a tile format (R176); 0 for another format. -/
def tileShape (f : Nat) : Nat × Nat :=
  match f with | 0x10 => (8, 4) | 0x11 => (8, 8) | 0x12 => (16, 4) | 0x13 => (16, 8) | _ => (0, 0)

/-- PALETTE_b members whose palette's BANK is not b (R190, R199). -/
def bankBreaks (v : View) (ms : List Ref) : List (List Ref) :=
  ((List.range 16).map (fun b =>
    let m := ms.getD b 0
    let x := v.nat m
    broken (decide (x ≠ 0) && decide (v.nat (pal_BANK (refInst x)) ≠ b)) [m, pal_BANK (refInst x)])).flatten

/-- GEOMETRY of a tile map used by a layer (R190). -/
def tmapGeometry (d : Dev) (v : View) (l t : Ref) : List (List Ref) :=
  let i := refInst t
  let size := if v.nat (tmap_TILE_SIZE i) = 0 then 8 else 16
  let a := tileShape (formatOf d v (tmap_TILES_0 i))
  let b := tileShape (formatOf d v (tmap_TILES_1 i))
  let two := v.nat (tmap_TILES_1 i) ≠ 0
  let sc := v.nat (tmap_SCROLL_TABLE i)
  broken (decide (formatOf d v (tmap_MAP i) ≠ 0x18)) (withFormat v (tmap_MAP i)) ++
  broken (decide (v.nat (tmap_TILES_0 i) = 0)) [tmap_TILES_0 i] ++
  broken (decide (v.nat (tmap_TILES_0 i) ≠ 0) && decide (a.1 ≠ size)) (tmap_TILE_SIZE i :: withFormat v (tmap_TILES_0 i)) ++
  broken (decide two && decide (b.1 ≠ size)) (tmap_TILE_SIZE i :: withFormat v (tmap_TILES_1 i)) ++
  broken (decide two && decide (a.2 ≠ b.2)) (withFormat v (tmap_TILES_0 i) ++ withFormat v (tmap_TILES_1 i)) ++
  bankBreaks v ((List.range 16).map (tmap_PALETTE i)) ++
  broken (decide (sc ≠ 0) && decide (nGet d (surf_WIDTH (refInst sc)) < v.nat (layer_HEIGHT (refInst l))))
    [tmap_SCROLL_TABLE i, surf_WIDTH (refInst sc), layer_HEIGHT (refInst l)]

/-- GEOMETRY of a sprite set (R199). -/
def ssetGeometry (d : Dev) (v : View) (t : Ref) : List (List Ref) :=
  let i := refInst t
  broken (decide (formatOf d v (sset_DESCRIPTORS i) ≠ 0x19)) (withFormat v (sset_DESCRIPTORS i)) ++
  broken (decide (formatOf d v (sset_DATA i) ≠ 0x1A)) (withFormat v (sset_DATA i)) ++
  bankBreaks v ((List.range 16).map (sset_PALETTE i))

/-- GEOMETRY of a layer and of what it reaches (R99, R100, R190, R199, R217, R219, R222, R228). A PALETTE on a layer that is no
palette-index bitmap is not looked at (R99; assumption log 113). -/
def layerGeometry (d : Dev) (v : View) (l : Ref) : List (List Ref) :=
  let i := refInst l
  let k := v.nat (layer_KIND i)
  let src := v.nat (layer_SOURCE i)
  let f := formatOf d v (layer_SOURCE i)
  windowBreaks d v l ++
  broken (decide (v.nat (layer_WIDTH i) = 0)) [layer_WIDTH i] ++ broken (decide (v.nat (layer_HEIGHT i) = 0)) [layer_HEIGHT i] ++
  broken (decide (k ≠ 3) && decide (v.nat (layer_SRC_X i) % 65536 ≠ 0)) [layer_KIND i, layer_SRC_X i] ++
  broken (decide (k ≠ 3) && decide (v.nat (layer_SRC_Y i) % 65536 ≠ 0)) [layer_KIND i, layer_SRC_Y i] ++
  broken ((decide (k = 0) || decide (k = 3)) && !layerFormatOk k f) (layer_KIND i :: withFormat v (layer_SOURCE i)) ++
  broken (decide (k = 3) && format422 f && decide (q16Int (v.nat (layer_SRC_X i)) % 2 ≠ 0)) (layer_SRC_X i :: withFormat v (layer_SOURCE i)) ++
  (if k = 3 then scalerBreaks d v l else []) ++
  broken (match (if refClass src = 0x13 then boundInput d src else none) with
    | some n => decide (nGet d (vin_BUFFER_MODE n) = 1) && decide (nGet d (surf_BUFFERS (refInst src)) < 3)
    | none => false) [layer_SOURCE i, surf_BUFFERS (refInst src)] ++
  (if k = 1 then tmapGeometry d v l src else if k = 2 then ssetGeometry d v src else [])

/-- GEOMETRY of a band (R96, R97, R199): its height, its place and the sprite sets on it. What the least HEIGHT relates is HEIGHT and
ENABLE (assumption log 109). -/
def bandGeometry (d : Dev) (v : View) (h : Nat) (b : Ref) : List (List Ref) :=
  let i := refInst b
  let top := v.nat (band_TOP i)
  let ht := v.nat (band_HEIGHT i)
  let on := liveBands d v h
  broken (decide (16 < (on.filter (fun c => decide (c ≤ b))).length)) [band_ENABLE i] ++
  broken (on.any (fun c => decide (c < b) && decide (v.nat (band_TOP (refInst c)) < top + ht) &&
    decide (top < v.nat (band_TOP (refInst c)) + v.nat (band_HEIGHT (refInst c))))) [band_TOP i, band_HEIGHT i] ++
  broken (decide (v.nat (head_V_ACTIVE h) < top + ht)) [band_TOP i, band_HEIGHT i] ++
  broken (decide (ht < 8)) [band_HEIGHT i, band_ENABLE i] ++
  ((onLayers d v b).filter (fun l => decide (v.nat (layer_KIND (refInst l)) = 2)) |>.drop 1).map
    (fun l => [layer_KIND (refInst l)])

/-- The palettes that the enabled layers of a head reach, in search order. -/
def scenePalettes (d : Dev) (v : View) (h : Nat) : List Ref :=
  ((checkedLayers d v h).foldl (reach d v) []).filter (fun o => decide (refClass o = 0x16))

/-- BANK members of palettes whose bank an earlier palette has (R182). -/
def duplicateBanks (v : View) : List Ref → List Nat → List (List Ref)
  | [], _ => []
  | p :: ps, seen =>
    let b := v.nat (pal_BANK (refInst p))
    if seen.contains b then [pal_BANK (refInst p)] :: duplicateBanks v ps seen else duplicateBanks v ps (seen ++ [b])

/-- TARGET members of a program that name something other than its head, a band of it or a layer of such a band (R334). -/
def targetBreaks (d : Dev) (v : View) (h : Nat) (p : Ref) : List (List Ref) :=
  (((List.range 8).map (fun k => prog_TARGET (refInst p) k)).filter (fun m =>
    let x := v.nat m
    !(decide (x = 0) || decide (x = headRef h) || (bandsOf d v h).contains x ||
      (decide (refClass x = 0x12) && (bandsOf d v h).contains (v.nat (layer_BAND (refInst x))))))).map (fun m => [m])

/-- The broken sub-checks of GEOMETRY in a head's staged scene, each as the members that it relates (R117, R761). -/
def geometryBreaks (d : Dev) (m : List Host.Cell) (views : Nat → View) (h : Nat) : List (List Ref) :=
  let v := views h
  headGeometry views h ++ (areaGeometry d m v h).map (fun r => [r]) ++
  ((liveBands d v h).map (fun b => bandGeometry d v h b ++ ((onLayers d v b).map (layerGeometry d v)).flatten)).flatten ++
  duplicateBanks v (scenePalettes d v h) [] ++
  ((programsOf d v h).map (targetBreaks d v h)).flatten

/-- GEOMETRY in the staged scenes of the named heads: the member that R762 names over the search of all of them, for a head that breaks a
sub-check (R117). -/
def breaksGeometry (d : Dev) (m : List Host.Cell) (views : Nat → View) (named : List Nat) (h : Nat) : List Ref :=
  if (geometryBreaks d m views h).isEmpty then []
  else
    let order := (named.map (fun g => searchOrder d (views g) g (areaGeometry d m (views g) g))).flatten
    [stateRef order ((named.map (geometryBreaks d m views)).flatten)]

/-- Z_DUPLICATE in a band: the Z member of each enabled layer whose Z an earlier one has, and of each layer past the 32nd (R101), in
search order. -/
def bandZ (d : Dev) (v : View) (b : Ref) : List Ref :=
  let on := onLayers d v b
  let many := (layersOf d v b).drop 32
  ((layersOf d v b).filter (fun l => many.contains l || (on.contains l &&
    on.any (fun k => decide (k < l) && decide (v.nat (layer_Z (refInst k)) = v.nat (layer_Z (refInst l))))))).map
    (fun l => layer_Z (refInst l))

/-- Z_DUPLICATE in the enabled bands of a head's staged scene (R117, R761; assumption log 108). -/
def breaksZ (d : Dev) (v : View) (h : Nat) : List Ref := ((liveBands d v h).map (bandZ d v)).flatten

/-- The surfaces that the enabled layers of the enabled bands of a head reach in a view, in search order (R761: what is reached only
through disabled ones is checked for FREED_REF alone). -/
def checkedSurfaces (d : Dev) (v : View) (h : Nat) : List Ref :=
  let on := (checkedLayers d v h).foldl (reach d v) []
  (sceneObjs d v h (fun _ => false)).filter (fun o => decide (refClass o = 0x13) && on.contains o)

/-- FRONT_RANGE in a head's staged scene (R117). -/
def breaksFront (d : Dev) (v : View) (h : Nat) : List Ref :=
  ((checkedSurfaces d v h).filter (fun o =>
    let i := refInst o
    let f := v.nat (surf_FRONT i)
    if nGet d (surf_STREAMING i) = 1 then decide (nGet d (surf_BUFFERS i) ≤ f) && decide (f ≠ 0xFF) else decide (f ≠ 0))).map
    (fun o => surf_FRONT (refInst o))

/-- FALLBACK_INVALID in a head's staged scene (R103, R117, R761): looked at only where DEGRADE is 3 (assumption log 113). -/
def breaksFallback (d : Dev) (v : View) (h : Nat) : List Ref :=
  ((checkedLayers d v h).filter (fun l =>
    let i := refInst l
    let x := v.nat (layer_FALLBACK i)
    let s := refInst x
    decide (v.nat (layer_DEGRADE i) = 3) &&
    !(decide (refClass x = 0x13) && decide (nGet d (surf_LOCATION s) ≠ 0) && decide (nGet d (surf_STREAMING s) = 0) &&
      layerFormatOk 0 (nGet d (surf_FORMAT s)) && decide (nGet d (surf_WIDTH s) = v.nat (layer_WIDTH i)) &&
      decide (nGet d (surf_HEIGHT s) = v.nat (layer_HEIGHT i))))).map (fun l => layer_FALLBACK (refInst l))

/-- What FRONT reads without STAGED (R104). -/
def frontRead (d : Dev) (i : Nat) : Nat := nGet d (surf_FRONT i)

/-- FRONT as a commit would resolve it (R133). -/
def resolveFront (d : Dev) (i f : Nat) : Nat :=
  if f = 0xFF then (frontRead d i + 1) % (if nGet d (surf_BUFFERS i) = 0 then 1 else nGet d (surf_BUFFERS i)) else f

/-- The buffer of a surface that a commit with some writes includes on a head (R128): 0 for one that is not streaming; the FRONT that the
commit or an earlier one pending on the head sets, resolved (R133); else the head's live FRONT, or what FRONT reads for a surface that the
commit brings into the scene. -/
def includedBuffer (d : Dev) (ws : List Taken) (h : Nat) (v : View) (o : Ref) : Nat :=
  let i := refInst o
  let sets := fun (w : Taken) => decide (w.ref = surf_FRONT i) && bitOf w.heads h
  if nGet d (surf_STREAMING i) = 0 then 0
  else if ws.any sets || (pendingOn d h).any (fun c => c.writes.any sets) then resolveFront d i (v.nat (surf_FRONT i))
  else if (liveScene d h).contains o then shownBuffer d h o
  else frontRead d i

/-- WRITE_IN_PROGRESS in a head's staged scene: surfaces with a buffer that would be newly leased while a transfer writes it
(R117, R497). -/
def breaksWriting (d : Dev) (ws : List Taken) (v : View) (h : Nat) : List Ref :=
  (checkedSurfaces d v h).filter (fun o =>
    let k := includedBuffer d ws h v o
    bufferBeingWritten d o k && !bufferLeased d o k)

/-- Whether a tell-tale of a head is in a state other than off (R261). -/
def tellTaleOn (d : Dev) (h : Nat) : Bool := (List.range 64).any (fun s => decide (nGet d (slot_SHOWN (64 * h + s)) ≠ 0))

/-- The members whose change needs a re-lock, rising (R261). -/
def relockMembers (h : Nat) : List Ref :=
  [head_LANE h, head_LANES h, head_LINK_BPP h, head_PIXEL_CLOCK h, head_H_ACTIVE h, head_V_ACTIVE h]

/-- RELOCK_TELLTALE of a head (R117, R261): it scans frames, stays enabled, and its staged timing would need a re-lock from the live
one. -/
def breaksRelock (d : Dev) (v : View) (h : Nat) : List Ref :=
  if 2 ≤ nGet d (head_STATE h) ∧ v.nat (head_ENABLE h) = 1 ∧ tellTaleOn d h then
    (relockMembers h).filter (fun m => decide (v.nat m ≠ (liveView d h).nat m))
  else []

/-- The members of a head's staged scene that break a reason of R117, in search order. -/
def breaks (d : Dev) (m : List Host.Cell) (taken : List Taken) (views : Nat → View) (named : List Nat) (reason h : Nat) : List Ref :=
  match reason with
  | 2 => breaksFreed d (views h) h
  | 3 => breaksRealized d (views h) h
  | 4 => breaksSource d (views h) h
  | 5 => breaksGeometry d m views named h
  | 6 => breaksZ d (views h) h
  | 7 => breaksFront d (views h) h
  | 8 => breaksFallback d (views h) h
  | 9 => breaksWriting d taken (views h) h
  | 10 => breaksRelock d (views h) h
  | _ => []

/-- A refusal with STATE: the reason, STATE_HEADS and STATE_REF (R117, R762). -/
structure Refused where
  reason : Nat
  heads : Nat
  ref : Ref
  deriving DecidableEq, Repr

/-- A mask of heads that meet a test. -/
def headMask (p : Nat → Bool) : Nat := (List.range 16).foldl (fun a h => if p h then a + 2 ^ h else a) 0

/-- The smallest element of a list, 0 for none. -/
def minOf : List Nat → Nat
  | [] => 0
  | x :: l => l.foldl min x

/-- UNNAMED_HEAD (R115, R762). -/
def unnamedHead (mask : Nat) (taken : List Taken) : Option Refused :=
  let bad := taken.filter (fun t => decide (t.heads &&& mask ≠ t.heads))
  if bad.isEmpty then none
  else some { reason := 1, heads := headMask (fun h => !bitOf mask h && bad.any (fun t => bitOf t.heads h)),
              ref := minOf (bad.map (·.ref)) }

/-- The first rule of R117 that a commit breaks, if any. -/
def commitBroken (d : Dev) (m : List Host.Cell) (mask : Nat) (taken : List Taken) : Option Refused :=
  match unnamedHead mask taken with
  | some r => some r
  | none =>
    let views := stagedView d mask taken
    let named := bitsOf mask 16
    ([2, 3, 4, 5, 6, 7, 8, 9, 10].filterMap (fun reason =>
      let bad := breaks d m taken views named reason
      match named.find? (fun h => !(bad h).isEmpty) with
      | some h => some { reason := reason, ref := (bad h).head?.getD 0, heads := headMask (fun g => bitOf mask g && !(bad g).isEmpty) }
      | none => none)).head?

end Sys2Proof.Machine
end

