-- ==== Sys2Proof/Machine/Demand.lean ====
section
/-!
DEFINITION. What a scene demands (R142, R143, R147 to R153, R207 to R209, R226): periods, stages, fetch runs, scaler
coefficients, band buffers.
-/
namespace Sys2Proof.Machine

/-- The pixel clock of a head in a view, never 0. -/
def pixelClock (v : View) (h : Nat) : Nat := max 1 (v.nat (head_PIXEL_CLOCK h))

/-- The line time in ns (R151). -/
def lineNs (v : View) (h : Nat) : Rat := (hTotal v h * 10 ^ 9 : Nat) / (pixelClock v h : Nat)

/-- The frame period T_h in ns (R142). -/
def frameNs (v : View) (h : Nat) : Rat := (hTotal v h * vTotal v h * 10 ^ 9 : Nat) / (pixelClock v h : Nat)

/-- Lines of vertical blanking in a view (R243). -/
def vBlank (v : View) (h : Nat) : Nat := vTotal v h - v.nat (head_V_ACTIVE h)

/-- How an action of R166, if there is one, degrades a layer (R167): its DEGRADE, else 0. -/
def degradeOf (acts : List Action) (l : Ref) : Nat :=
  match acts.find? (fun a => decide (a.ref = l)) with
  | some a => a.degrade
  | none => 0

/-- A list in rising order of a rational key. -/
def sortUp {α : Type} (key : α → Rat) (l : List α) : List α := sortWith (fun x y => decide (key x < key y)) l

/-- A list in falling order of a rational key. -/
def sortDown {α : Type} (key : α → Rat) (l : List α) : List α := sortWith (fun x y => decide (key y < key x)) l

/-- The composed layers of a band in rising Z order, dropped ones left out (R150, R167). -/
def stackOf (d : Dev) (v : View) (acts : List Action) (b : Ref) : List Ref :=
  sortBy (fun l => v.nat (layer_Z (refInst l))) ((onLayers d v b).filter (fun l => decide (degradeOf acts l ≠ 2)))

/-- The kind a layer is composed as: FALLBACK makes it a bitmap (R167). -/
def kindOf (v : View) (acts : List Action) (l : Ref) : Nat :=
  if degradeOf acts l = 3 then 0 else v.nat (layer_KIND (refInst l))

/-- The surface, tile map or sprite set a layer is composed from (R167). -/
def sourceOf (v : View) (acts : List Action) (l : Ref) : Ref :=
  if degradeOf acts l = 3 then v.nat (layer_FALLBACK (refInst l)) else v.nat (layer_SOURCE (refInst l))

/-- Layers packed into stages, at most 2 video and 6 graphic layers each (R150). -/
def packStages (isVideo : Ref → Bool) : List Ref → List (List Ref)
  | [] => []
  | ls => ls.foldl (fun (acc : List (List Ref)) l =>
      match acc.getLast? with
      | none => [[l]]
      | some st =>
        let vids := (st.filter isVideo).length
        if (isVideo l && decide (2 ≤ vids)) || (!isVideo l && decide (6 ≤ st.length - vids)) then acc ++ [[l]]
        else acc.dropLast ++ [st ++ [l]]) []

/-- The stages of a band (R150). -/
def stagesOf (d : Dev) (v : View) (acts : List Action) (b : Ref) : List (List Ref) :=
  packStages (fun l => decide (kindOf v acts l = 3)) (stackOf d v acts b)

/-- Whether split n meets the pipe time (R151). -/
def splitMeets (v : View) (h n : Nat) : Bool :=
  decide ((v.nat (head_H_ACTIVE h) + 32) * pixelClock v h ≤ n * hTotal v h * 600000000)

/-- The split of the bands of a head (R151): the smallest of 1, 2 and 4; 8 stands for none. -/
def splitOf (v : View) (h : Nat) : Nat :=
  if splitMeets v h 1 then 1 else if splitMeets v h 2 then 2 else if splitMeets v h 4 then 4 else 8

/-- The first line and the line after the last of a layer, clipped to its band and the active area (R102). -/
def rowSpan (v : View) (h : Nat) (b l : Ref) : Nat × Nat :=
  let y := sintOf 16 (v.nat (layer_DEST_Y (refInst l)))
  let top := v.nat (band_TOP (refInst b))
  let lo := max (y.toNat) top
  let hi := min (y + v.nat (layer_HEIGHT (refInst l))).toNat (min (top + v.nat (band_HEIGHT (refInst b))) (v.nat (head_V_ACTIVE h)))
  (lo, max lo hi)

/-- The first column and the column after the last of a layer, clipped to the active width (R102). -/
def colSpan (v : View) (h : Nat) (l : Ref) : Nat × Nat :=
  let x := sintOf 16 (v.nat (layer_DEST_X (refInst l)))
  let hi := min (x + v.nat (layer_WIDTH (refInst l))).toNat (v.nat (head_H_ACTIVE h))
  (x.toNat, max x.toNat hi)

/-- Where a head finds a surface (R104, R163): at ADDRESS, or once the head has switched in a migration at the new copy. -/
def surfaceBase (d : Dev) (h i : Nat) : Nat :=
  match d.stoker.migration with
  | some m => if m.surf = mref 0x13 i 0 ∧ m.copied ∧ bitOf m.switched h then m.dest else nGet d (surf_ADDRESS i)
  | none => nGet d (surf_ADDRESS i)

/-- The address of a buffer of a surface for a head (R104, R163). -/
def bufferBase (d : Dev) (h i buf : Nat) : Nat := surfaceBase d h i + buf * nGet d (surf_SIZE i)

/-- Channel bytes of a run of octets (R147): 272 for each block touched. -/
def runBytes (a n : Nat) : Nat := 272 * (blocksOf a n).length

/-- The interleave group a surface lies in (R147, R148); empty in a hot bank. -/
def surfGroup (d : Dev) (i : Nat) : List Nat :=
  if nGet d (surf_LOCATION i) = 1 then addrGroup d (nGet d (surf_ADDRESS i)) else []

/-- The source columns that a bitmap layer fetches: the first and how many (R180). -/
def bitmapCols (v : View) (h : Nat) (acts : List Action) (l : Ref) : Nat × Nat :=
  let c := colSpan v h l
  let off := (c.1 : Int) - sintOf 16 (v.nat (layer_DEST_X (refInst l)))
  let x := if degradeOf acts l = 3 then 0 else q16Int (v.nat (layer_SRC_X (refInst l)))
  ((x + off).toNat, c.2 - c.1)

/-- The layer line whose content a composed line shows: under HALF_RATE the first of its pair (R167). -/
def shownLine (acts : List Action) (l : Ref) (y : Nat) : Nat := if degradeOf acts l = 1 then y / 2 * 2 else y

/-- Whether a layer fetches on its clipped line y: under HALF_RATE only on the first composed line of each pair (R167). -/
def fetchesOn (acts : List Action) (l : Ref) (first y : Nat) : Bool :=
  decide (degradeOf acts l ≠ 1) || decide (y % 2 = 0) || decide (y = first)

/-- The run of a bitmap layer on layer line y: the first octet and how many (R180), none outside the active width (R102). -/
def bitmapRun (d : Dev) (v : View) (h : Nat) (acts : List Action) (l : Ref) (y buf : Nat) : Nat × Nat :=
  let i := refInst (sourceOf v acts l)
  let e := formatHalf (nGet d (surf_FORMAT i))
  let c := bitmapCols v h acts l
  let row := (if degradeOf acts l = 3 then 0 else (q16Int (v.nat (layer_SRC_Y (refInst l)))).toNat) + shownLine acts l y
  let base := bufferBase d h i buf + row * surfPitch d i
  (base + c.1 * e / 2, if c.2 = 0 then 0 else ceilDiv ((c.1 + c.2) * e) 2 - c.1 * e / 2)

/-- A built-in coefficient set as one number (R225). -/
def builtinSet (horizontal : Bool) (s : Nat) : Nat :=
  match horizontal, s with
  | true, 0 => hcoefSet0 | true, 1 => hcoefSet1 | true, 2 => hcoefSet2 | true, 3 => hcoefSet3 | true, 4 => hcoefSet4
  | true, 5 => hcoefSet5 | true, _ => hcoefSet6
  | false, 0 => vcoefSet0 | false, 1 => vcoefSet1 | false, 2 => vcoefSet2 | false, 3 => vcoefSet3 | false, 4 => vcoefSet4
  | false, 5 => vcoefSet5 | false, _ => vcoefSet6

/-- The set of R225 for a source size and an output size. -/
def setFor (src out : Nat) : Nat := if src ≤ out ∨ out = 0 then 0 else min 6 (ceilDiv (2 * src - 2 * out) out)

/-- The coefficients of an axis as one number: the head's own when SCALER_CUSTOM is 1 (R225, R240). -/
def axisSet (v : View) (h : Nat) (horizontal : Bool) (src out : Nat) : Nat :=
  if v.nat (head_SCALER_CUSTOM h) = 1 then
    (match v (if horizontal then head_HCOEF h else head_VCOEF h) with | .bytes b => ofLe b | .num _ => 0)
  else builtinSet horizontal (setFor src out)

/-- Coefficient k of phase p in a set of T taps (R225). -/
def coefOf (set taps p k : Nat) : Int := sintOf 16 (set >>> (16 * (taps * p + k)))

/-- The source position of an output column or line (R223): the index and the phase. -/
def scalePos (src16 : Nat) (srcLen out x : Nat) : Int × Nat :=
  let hs := roundDiv (srcLen * 65536 : Nat) (max out 1)
  let p2 := (2 * src16 : Nat) + ((2 * x + 1 : Nat) : Int) * hs - 65536
  let q := (p2 + 1024) / 2048
  (q / 64, (q % 64).toNat)

/-- The source window of an axis: the first index and the last (R224). -/
def sourceWindow (src16 len : Nat) : Nat × Nat := (src16 / 65536, (src16 + 65535) / 65536 + len - 1)

/-- The source indices with a coefficient other than 0 for one output index, each limited to the window (R224, R226). -/
def tapsUsed (set taps src16 len out x : Nat) : List Nat :=
  let pos := scalePos src16 len out x
  let w := sourceWindow src16 len
  ((List.range taps).filter (fun k => decide (coefOf set taps pos.2 k ≠ 0))).map
    (fun (k : Nat) => (clampInt w.1 w.2 (pos.1 - (taps / 2 - 1 : Nat) + k)).toNat)

/-- The height a video layer is scaled as (R167). -/
def videoHeight (v : View) (acts : List Action) (l : Ref) : Nat :=
  let ht := v.nat (layer_HEIGHT (refInst l))
  if degradeOf acts l = 1 then ceilDiv ht 2 else ht

/-- The scaled line of layer line y (R167). -/
def videoLine (acts : List Action) (l : Ref) (y : Nat) : Nat := if degradeOf acts l = 1 then y / 2 else y

/-- The source lines that layer line y of a video layer uses (R226). -/
def videoLines (v : View) (h : Nat) (acts : List Action) (l : Ref) (y : Nat) : List Nat :=
  let i := refInst l
  let len := v.nat (layer_SRC_H i)
  let out := videoHeight v acts l
  tapsUsed (axisSet v h false len out) 6 (v.nat (layer_SRC_Y i)) len out (videoLine acts l y)

/-- The horizontal run of a video layer: the lowest source column that is used and how many up to the highest; none where no coefficient
of the clipped span is other than 0 (R226). -/
def videoCols (v : View) (h : Nat) (l : Ref) : Nat × Nat :=
  let i := refInst l
  let c := colSpan v h l
  let off := ((c.1 : Int) - sintOf 16 (v.nat (layer_DEST_X i))).toNat
  let len := v.nat (layer_SRC_W i)
  let out := v.nat (layer_WIDTH i)
  let set := axisSet v h true len out
  let used := ((List.range (c.2 - c.1)).map (fun x => tapsUsed set 8 (v.nat (layer_SRC_X i)) len out (off + x))).flatten
  (minOf used, if used.isEmpty then 0 else used.foldl max 0 + 1 - minOf used)

/-- The run of one source line of a video layer: the first octet and how many (R226). -/
def videoRun (d : Dev) (v : View) (h : Nat) (l : Ref) (row buf : Nat) : Nat × Nat :=
  let i := refInst (v.nat (layer_SOURCE (refInst l)))
  let e := formatHalf (nGet d (surf_FORMAT i))
  let c := videoCols v h l
  (bufferBase d h i buf + row * surfPitch d i + c.1 * e / 2, if c.2 = 0 then 0 else ceilDiv ((c.1 + c.2) * e) 2 - c.1 * e / 2)

/-- A tile map's size of tile in pixels (R192). -/
def tileSize (v : View) (t : Ref) : Nat := if v.nat (tmap_TILE_SIZE (refInst t)) = 0 then 8 else 16

/-- M of R208: the map entries one line of a tile-map layer can touch. -/
def mapEntries (d : Dev) (v : View) (l : Ref) : Nat :=
  let t := v.nat (layer_SOURCE (refInst l))
  min (ceilDiv (v.nat (layer_WIDTH (refInst l))) (tileSize v t) + 1) (nGet d (surf_WIDTH (refInst (v.nat (tmap_MAP (refInst t))))))

/-- The surfaces that a pipe holds resident for a layer (R206). -/
def residentRefs (v : View) (acts : List Action) (l : Ref) : List Ref :=
  let t := sourceOf v acts l
  let i := refInst t
  ((match kindOf v acts l with
    | 1 => [v.nat (tmap_TILES_0 i), v.nat (tmap_TILES_1 i), v.nat (tmap_SCROLL_TABLE i)]
    | 2 => [v.nat (sset_DESCRIPTORS i), v.nat (sset_DATA i)]
    | _ => [])).filter (fun r => decide (r ≠ 0))

/-- The buffer of a surface that a view shows (R128). -/
def viewBuffer (d : Dev) (v : View) (r : Ref) : Nat := resolveFront d (refInst r) (v.nat (surf_FRONT (refInst r)))

/-- A fetch counted by R147: the layer, the surface, the frame line, the group and the channel bytes. -/
structure Fetch where
  layer : Ref
  surf : Ref
  line : Nat
  group : List Nat
  bytes : Nat
  deriving DecidableEq, Repr

/-- The fetches of a video layer over its clipped lines, with the source lines used so far (R226). -/
def videoFetches (d : Dev) (v : View) (h : Nat) (acts : List Action) (b l : Ref) : List Fetch :=
  let i := refInst (v.nat (layer_SOURCE (refInst l)))
  let rows := rowSpan v h b l
  let y0 := sintOf 16 (v.nat (layer_DEST_Y (refInst l)))
  let buf := viewBuffer d v (mref 0x13 i 0)
  ((List.range (rows.2 - rows.1)).foldl (fun (acc : List Nat × List Fetch) k =>
    let a := rows.1 + k
    let y := ((a : Int) - y0).toNat
    let new := (videoLines v h acts l y).foldl addOnce [] |>.filter (fun r => !acc.1.contains r)
    (acc.1 ++ new, acc.2 ++ new.map (fun r =>
      let run := videoRun d v h l r buf
      { layer := l, surf := mref 0x13 i 0, line := vBlank v h + a, group := surfGroup d i, bytes := runBytes run.1 run.2 })))
    ([], [])).2

/-- The fetches of a layer of a band over one frame (R147, R207, R208), with surfaces where they lie at admission (R165). -/
def layerFetches (d : Dev) (v : View) (h : Nat) (acts : List Action) (b l : Ref) : List Fetch :=
  let d := { d with stoker.migration := none }
  let rows := rowSpan v h b l
  let y0 := sintOf 16 (v.nat (layer_DEST_Y (refInst l)))
  let lines := (List.range (rows.2 - rows.1)).map (fun k => rows.1 + k)
  let first := ((rows.1 : Int) - y0).toNat
  let src := sourceOf v acts l
  let own := match kindOf v acts l with
    | 0 => (lines.filter (fun (a : Nat) => fetchesOn acts l first ((a : Int) - y0).toNat)).map (fun (a : Nat) =>
        let run := bitmapRun d v h acts l ((a : Int) - y0).toNat (viewBuffer d v src)
        { layer := l, surf := src, line := vBlank v h + a, group := surfGroup d (refInst src), bytes := runBytes run.1 run.2 })
    | 1 =>
      let m := v.nat (tmap_MAP (refInst src))
      (lines.filter (fun (a : Nat) => fetchesOn acts l first ((a : Int) - y0).toNat)).map (fun (a : Nat) =>
        { layer := l, surf := m, line := vBlank v h + a, group := surfGroup d (refInst m),
          bytes := 272 * (ceilDiv (4 * mapEntries d v l) 256 + 3) })
    | 2 => []
    | _ => videoFetches d v h acts b l
  own ++ (residentRefs v acts l).map (fun r =>
    { layer := l, surf := r, line := 0, group := surfGroup d (refInst r), bytes := splitOf v h * (272 * nGet d (surf_SIZE (refInst r)) / 256) })

/-- Every fetch of a head over one frame (R148). -/
def headFetches (d : Dev) (v : View) (h : Nat) (acts : List Action) : List Fetch :=
  ((liveBands d v h).map (fun b => ((stackOf d v acts b).map (layerFetches d v h acts b)).flatten)).flatten

/-- The window a frame line is counted in (R142, R143). -/
def windowOf (v : View) (h line : Nat) : Nat := 16 * line / max 1 (vTotal v h)

/-- r of R148 in byte/s: the rate of some fetches of a head in a window on a channel. -/
def windowRate (v : View) (h : Nat) (fs : List Fetch) (w ch : Nat) : Rat :=
  let bytes : Rat := fs.foldl (fun (a : Rat) f =>
    if windowOf v h f.line = w ∧ f.group.contains ch then a + (f.bytes : Nat) / (f.group.length : Nat) else a) 0
  bytes * 16 * 1000000000 / (if frameNs v h = 0 then 1 else frameNs v h)

/-- The line bytes of a bitmap layer for the band buffer, in whole units of 64 (R153). -/
def bitmapBuffer (d : Dev) (v : View) (h : Nat) (acts : List Action) (l : Ref) : Nat :=
  let e := formatHalf (nGet d (surf_FORMAT (refInst (sourceOf v acts l))))
  let c := bitmapCols v h acts l
  if c.2 = 0 then 0 else roundUp (ceilDiv ((c.1 + c.2) * e) 2) 64 - c.1 * e / 2 / 64 * 64

/-- What a layer adds to the band buffer (R153, R209). -/
def layerBuffer (d : Dev) (v : View) (h : Nat) (acts : List Action) (l : Ref) : Nat :=
  let i := refInst l
  let res := (residentRefs v acts l).foldl (fun a r => a + roundUp (nGet d (surf_SIZE (refInst r))) 64) 0
  match kindOf v acts l with
  | 0 => 2 * bitmapBuffer d v h acts l
  | 1 => res + roundUp (2 * 4 * mapEntries d v l) 64
  | 2 => res + roundUp (2 * 4 * v.nat (layer_WIDTH i)) 64
  | _ =>
    let w := sourceWindow (v.nat (layer_SRC_X i)) (v.nat (layer_SRC_W i))
    let e := formatHalf (nGet d (surf_FORMAT (refInst (v.nat (layer_SOURCE i)))))
    6 * roundUp (ceilDiv ((w.2 + 1 - w.1) * e) 2) 64

/-- The band buffer of a band (R153). -/
def bandBuffer (d : Dev) (v : View) (h : Nat) (acts : List Action) (b : Ref) : Nat :=
  2 * v.nat (head_H_ACTIVE h) * 4 + (stackOf d v acts b).foldl (fun a l => a + layerBuffer d v h acts l) 0

end Sys2Proof.Machine
end

