-- ==== Sys2Proof/Machine/Model.lean ====
section
/-!
DEFINITION. The Stoker's model (R138 to R160, R763, R766): the states a head is counted in, pipes and threads, coupling
classes and stagger, and the first admission term that fails.
-/
namespace Sys2Proof.Machine

/-- A failed term, as a commit report gives it (R157, R173, R766). -/
structure Fail where
  reason : Nat
  heads : Nat
  resource : Nat
  slot : Nat
  demand : Nat
  capacity : Nat
  obj : Ref
  deriving DecidableEq, Repr

/-- What the model is run on: the heads a commit names and the writes it takes (none for a re-run of R166), the
actions in force, and whether it is a re-run, in which no scene is a staged one. -/
structure Scope where
  mask : Nat
  taken : List Taken
  acts : List Action
  rerun : Bool := false
  deriving DecidableEq, Repr

/-- The views of a head's live scene and of the scene that each commit pending on it gives it, oldest first (R763). -/
def heldViews (d : Dev) (h : Nat) : List View :=
  ((pendingOn d h).foldl (fun (a : List View × View) c =>
    let v := overWrites a.2 (takenBy d c h)
    (a.1 ++ [v], v)) ([liveView d h], liveView d h)).1

/-- The views of a head's states, oldest first, the newest last (R763). -/
def stateViews (d : Dev) (sc : Scope) (h : Nat) : List View :=
  heldViews d h ++ (if bitOf sc.mask h then [stagedView d sc.mask sc.taken h] else [])

/-- The newest state of a head. -/
def lastView (d : Dev) (sc : Scope) (h : Nat) : View := (stateViews d sc h).getLast?.getD (liveView d h)

/-- The states of a head in which it runs. -/
def runViews (d : Dev) (sc : Scope) (h : Nat) : List View :=
  (stateViews d sc h).filter (fun v => decide (v.nat (head_ENABLE h) = 1))

/-- Whether the actions put a head into hearth-only mode (R166, R763). -/
def hearthOnly (acts : List Action) (h : Nat) : Bool := acts.any (fun a => decide (a.ref = headRef h) && decide (a.degrade = 0xFF))

/-- The heads counted: those with a state in which they run. -/
def countedHeads (d : Dev) (sc : Scope) : List Nat := (List.range 16).filter (fun h => !(runViews d sc h).isEmpty)

/-- The largest of some naturals. -/
def maxOf (l : List Nat) : Nat := l.foldl max 0

/-- The largest of some rates. -/
def maxRat (l : List Rat) : Rat := l.foldl (fun a x => if a < x then x else a) 0

/-- The whole part of a rate that is not negative. -/
def wholeOf (x : Rat) : Nat := x.floor.toNat

/-- PIXEL_TOTAL and PIXEL_HEAD (R146, R157). -/
def pixelFail (d : Dev) (sc : Scope) : Option Fail :=
  let hs := countedHeads d sc
  let f := fun h => maxOf ((runViews d sc h).map (fun v => pixelClock v h))
  let total := hs.foldl (fun a h => a + f h) 0
  if 8000000000 < total then
    some { reason := 1, heads := headMask hs.contains, resource := 0xFFFF, slot := 0xFFFF, demand := total,
           capacity := 8000000000, obj := 0 }
  else (hs.find? (fun h => decide (740000000 < f h))).map (fun h =>
    { reason := 2, heads := 2 ^ h, resource := h, slot := 0xFFFF, demand := f h, capacity := 740000000, obj := 0 })

/-- A check of every state of every counted head, the lowest head first. -/
def firstFail (d : Dev) (sc : Scope) (f : Nat → View → Option Fail) : Option Fail :=
  ((countedHeads d sc).filterMap (fun h => ((runViews d sc h).filterMap (f h)).head?)).head?

/-- LANE_MISSING (R157, R766). -/
def laneMissing (d : Dev) (h : Nat) (v : View) : Option Fail :=
  let l := v.nat (head_LANE h)
  let n := v.nat (head_LANES h)
  let ok := fun x => decide (x < 32) && decide (nGet d (lane_DIRECTION x) = 1)
  let ls := (List.range n).map (fun i => l + i)
  if l = 0xFF ∨ !ls.all ok then
    some { reason := 3, heads := 2 ^ h, resource := if l = 0xFF then 0xFFFF else (ls.find? (fun x => !ok x)).getD 0xFFFF,
           slot := 0xFFFF, demand := n, capacity := if l = 0xFF then 0 else (ls.filter ok).length, obj := 0 }
  else none

/-- 8 × B_lane of R156, in bits. -/
def laneBits (v : View) (h : Nat) : Rat :=
  let b := ceilDiv (v.nat (head_H_ACTIVE h) * v.nat (head_LINK_BPP h)) 8
  8 * (((b * 65 : Nat) : Rat) / 64 + 32)

/-- The bits per line that a head's lanes carry (R156). -/
def laneCapacity (v : View) (h : Nat) : Rat := ((v.nat (head_LANES h) : Nat) : Rat) * 9406 / 1000 * lineNs v h

/-- LANE_PAYLOAD (R156, R157). -/
def lanePayload (h : Nat) (v : View) : Option Fail :=
  if laneCapacity v h < laneBits v h then
    some { reason := 4, heads := 2 ^ h, resource := v.nat (head_LANE h), slot := 0xFFFF, demand := wholeOf (laneBits v h),
           capacity := wholeOf (laneCapacity v h), obj := 0 }
  else none

/-- The bands of a head that take pipes, with their split and stages (R150, R151). -/
def pipeBands (d : Dev) (v : View) (acts : List Action) (h : Nat) : List (Ref × Nat × Nat) :=
  if hearthOnly acts h then []
  else ((liveBands d v h).map (fun b => (b, splitOf v h, (stagesOf d v acts b).length))).filter (fun x => decide (x.2.2 ≠ 0))

/-- CASCADE_DEPTH (R150, R157). -/
def cascadeFail (d : Dev) (acts : List Action) (h : Nat) (v : View) : Option Fail :=
  ((pipeBands d v acts h).find? (fun x => decide (4 < min x.2.1 4 * x.2.2))).map (fun x =>
    { reason := 5, heads := 2 ^ h, resource := h, slot := 0xFFFF, demand := min x.2.1 4 * x.2.2, capacity := 4, obj := x.1 })

/-- PIPE_TIME (R151, R157). -/
def pipeTimeFail (d : Dev) (acts : List Action) (h : Nat) (v : View) : Option Fail :=
  ((pipeBands d v acts h).find? (fun x => decide (4 < x.2.1))).map (fun x =>
    { reason := 6, heads := 2 ^ h, resource := h, slot := 0xFFFF,
      demand := wholeOf (((v.nat (head_H_ACTIVE h) + 32) * 10 : Nat) / 6), capacity := wholeOf (4 * lineNs v h), obj := x.1 })

/-- The pipes of a placed band (R150 to R152). -/
def placePipes (p : BandPlace) : List Nat := (List.range (p.split * p.stages)).map (fun i => p.first + i)

/-- The capacity that capacity steps have left (R166). -/
def presentCapacity (d : Dev) : Capacity :=
  { thermal := d.stoker.thermal, pipes := d.stoker.faulted, clusters := d.stoker.clusters, chans := (List.range 8).filter (chanRetired d) }

/-- The capacity that the model counts: while a commit is under evaluation, that before a step which came since (R171). -/
def capacity (d : Dev) : Capacity := d.stoker.counted.getD (presentCapacity d)

/-- A capacity step comes: an evaluation under way goes on with the capacity before it (R171). -/
def holdCapacity (d : Dev) : Dev :=
  if d.scene.evaluating.isSome && d.stoker.counted.isNone then { d with stoker.counted := some (presentCapacity d) } else d

/-- Whether the model counts a pipe as removed from use. -/
def pipeFaulted (d : Dev) (p : Nat) : Bool := (capacity d).pipes.contains p

/-- Whether the model counts the cluster of an engine as removed from use (R155). -/
def engineFaulted (d : Dev) (e : Nat) : Bool := (capacity d).clusters.contains (e / 8)

/-- Whether the model counts a channel as retired. -/
def channelLost (d : Dev) (ch : Nat) : Bool := (capacity d).chans.contains ch

/-- The placements that a head holds, one for each of its states (R763): its live one, or the one that an action has it take at its
next boundary (R168), then those of its pending commits. -/
def heldPlaces (d : Dev) (h : Nat) : List NextPlace :=
  let w := d.stoker.next.filter (fun n => decide (n.head = h))
  let live : NextPlace := { number := 0, head := h, bands := d.stoker.bands.filter (fun p => decide (p.head = h)),
                            progs := d.stoker.progs.filter (fun p => decide (p.head = h)) }
  ((w.filter (fun n => decide (n.number = 0))).getLast?.getD live) :: w.filter (fun n => decide (n.number ≠ 0))

/-- The states that a head holds, oldest first, each with its placement (R763). -/
def heldStates (d : Dev) (h : Nat) : List (View × NextPlace) :=
  ((heldViews d h).zip (heldPlaces d h)).filter (fun x => decide (x.1.nat (head_ENABLE h) = 1))

/-- The pipes that a head holds in any state under some actions (R763): of each band's group the part that its stages still take, since
an action counts from the moment it is taken (R168). -/
def pipesHeld (d : Dev) (acts : List Action) (h : Nat) : List Nat :=
  if hearthOnly acts h then []
  else
    let vs := heldViews d h
    ((heldPlaces d h).map (fun n => (n.bands.map (fun p =>
      (placePipes p).take (maxOf (vs.map (fun v => p.split * (stagesOf d v acts p.band).length))))).flatten)).flatten

/-- The pipes that heads other than h hold in any state (R763). -/
def heldByOthers (d : Dev) (acts : List Action) (h : Nat) : List Nat :=
  (((List.range 16).filter (fun g => decide (g ≠ h))).map (pipesHeld d acts)).flatten

/-- The lowest free group of n pipes, aligned to 2 for 2 and to 4 for 3 and 4 (R152). -/
def freeGroup (free : Nat → Bool) (n : Nat) : Option Nat :=
  let al := if n = 1 then 1 else if n = 2 then 2 else 4
  ((List.range (32 / al)).map (· * al)).find? (fun p => (List.range n).all (fun i => free (p + i)))

/-- The SRAM that some placed bands of a head take on a pipe (R152, R153). -/
def pipeSram (d : Dev) (v : View) (acts : List Action) (h : Nat) (ps : List BandPlace) (p : Nat) : Nat :=
  (ps.filter (fun x => (placePipes x).contains p)).foldl (fun a x => a + bandBuffer d v h acts x.band) 0

/-- The newest placement of a head: of its last pending commit, else the live one. -/
def lastPlaced (d : Dev) (h : Nat) : List BandPlace :=
  match (d.stoker.next.filter (fun n => decide (n.head = h))).getLast? with
  | some n => n.bands
  | none => d.stoker.bands.filter (fun p => decide (p.head = h))

/-- The newest placement of a head's programs. -/
def lastPrograms (d : Dev) (h : Nat) : List ProgPlace :=
  match (d.stoker.next.filter (fun n => decide (n.head = h))).getLast? with
  | some n => n.progs
  | none => d.stoker.progs.filter (fun p => decide (p.head = h))

/-- The raster programs that a view of a head runs (R154). -/
def rasterOf (d : Dev) (v : View) (h : Nat) : List Ref :=
  (programsOf d v h).filter (fun p => decide (v.nat (prog_ENABLE (refInst p)) = 1) && decide (nGet d (prog_KIND (refInst p)) = 0))

/-- Whether a band or raster program of a head is without a place among some placements. -/
def lacksPlace (d : Dev) (v : View) (acts : List Action) (h : Nat) (bs : List BandPlace) (ps : List ProgPlace) : Bool :=
  (pipeBands d v acts h).any (fun x => !bs.any (fun b => decide (b.band = x.1))) ||
  (rasterOf d v h).any (fun p => !ps.any (fun q => decide (q.prog = p)))

/-- Whether an action that is not yet in force degrades a layer of a head (R170). -/
def newlyDegraded (d : Dev) (sc : Scope) (h : Nat) : Bool :=
  sc.acts.any (fun a => !d.stoker.actions.contains a && (stateViews d sc h).any (fun v => (checkedLayers d v h).contains a.ref))

/-- The heads that the model places: those that a commit names, the running ones with a band or raster program that an earlier
re-run left without a place, since the terms hold for every head (R146, R166), and those that a new action degrades (R170). -/
def plannedHeads (d : Dev) (sc : Scope) : List Nat :=
  (List.range 16).filter (fun h => bitOf sc.mask h ||
    (headRuns d h && !hearthOnly sc.acts h &&
      (lacksPlace d (lastView d sc h) sc.acts h (lastPlaced d h) (lastPrograms d h) ||
        (heldStates d h).any (fun x => lacksPlace d x.1 sc.acts h x.2.bands x.2.progs) || newlyDegraded d sc h)))

/-- Whether a band keeps its pipes (R140): layers, width, stages and split as in the placement that it has, no pipe of it
faulted. -/
def keepsPipes (d : Dev) (old v : View) (h : Nat) (x : Ref × Nat × Nat) (p : BandPlace) : Bool :=
  decide (p.band = x.1) && decide (p.split = x.2.1) && decide (p.stages = x.2.2) &&
  decide (onLayers d old x.1 = onLayers d v x.1) && decide (old.nat (head_H_ACTIVE h) = v.nat (head_H_ACTIVE h)) &&
  (placePipes p).all (fun q => !pipeFaulted d q)

/-- A placed band with the stages that it still takes, on its first pipes. -/
def shrinkBand (d : Dev) (v : View) (acts : List Action) (p : BandPlace) : BandPlace :=
  { p with stages := min p.stages (stagesOf d v acts p.band).length }

/-- One band of a head placed: on the pipes of an earlier band where they suffice, else on the lowest free group (R152). -/
def placeBand (d : Dev) (v : View) (acts : List Action) (h : Nat) (taken : List Nat) (ps : List BandPlace) (x : Ref × Nat × Nat) :
    Option BandPlace :=
  let n := x.2.1 * x.2.2
  let buf := bandBuffer d v h acts x.1
  match (sortBy (·.band) (ps.filter (fun p => decide (p.band < x.1)))).find? (fun p => decide (n ≤ p.split * p.stages) &&
      (List.range n).all (fun i => decide (pipeSram d v acts h ps (p.first + i) + buf ≤ 262144))) with
  | some p => some { band := x.1, head := h, first := p.first, split := x.2.1, stages := x.2.2 }
  | none =>
    (freeGroup (fun p => !pipeFaulted d p && !taken.contains p && !(ps.any (fun q => (placePipes q).contains p))) n).map
      (fun f => { band := x.1, head := h, first := f, split := x.2.1, stages := x.2.2 })

/-- The pipes that are free for a head beside some that are taken. -/
def freePipes (d : Dev) (held : List Nat) : Nat :=
  ((List.range 32).filter (fun p => !pipeFaulted d p && !held.contains p)).length

/-- The bands of a head placed in rising order after those that keep their pipes (R140, R152); a band that finds none is
returned with the number of pipes then free. -/
def placeBands (d : Dev) (old v : View) (acts : List Action) (h : Nat) (held : List Nat) (prev : List BandPlace) :
    List BandPlace × List ((Ref × Nat × Nat) × Nat) :=
  let bs := pipeBands d v acts h
  let kept := bs.filterMap (fun x => prev.find? (keepsPipes d old v h x))
  (bs.filter (fun x => !kept.any (fun p => decide (p.band = x.1)))).foldl
    (fun (a : List BandPlace × List ((Ref × Nat × Nat) × Nat)) x =>
      match placeBand d v acts h held a.1 x with
      | some p => (a.1 ++ [p], a.2)
      | none => (a.1, a.2 ++ [(x, freePipes d (held ++ (a.1.map placePipes).flatten))])) (kept, [])

/-- A placement under way: the bands and programs placed so far and the first failure of each kind. -/
structure Plan where
  bands : List BandPlace
  progs : List ProgPlace
  fails : List Fail
  deriving DecidableEq, Repr

/-- PIPE_COUNT and PIPE_SRAM of one state of a head, from its bands as `placeBands` answers them (R157, R766). -/
def pipeFails (d : Dev) (v : View) (acts : List Action) (h : Nat) (r : List BandPlace × List ((Ref × Nat × Nat) × Nat)) : List Fail :=
  (r.2.head?.map (fun x =>
    ({ reason := 7, heads := 2 ^ h, resource := 0xFFFF, slot := 0xFFFF, demand := x.1.2.1 * x.1.2.2, capacity := x.2,
       obj := x.1.1 } : Fail))).toList ++
  (((List.range 32).find? (fun q => decide (262144 < pipeSram d v acts h r.1 q))).map (fun q =>
    ({ reason := 8, heads := 2 ^ h, resource := q, slot := 0xFFFF, demand := pipeSram d v acts h r.1 q, capacity := 262144,
       obj := ((r.1.filter (fun x => (placePipes x).contains q)).getLast?.map (·.band)).getD 0 } : Fail))).toList

/-- The pipe terms of the states that a head holds already (R763): on the pipes that they have, or on free ones where those are out of
use. -/
def heldPipeFails (d : Dev) (acts : List Action) (h : Nat) (held : List Nat) : List Fail :=
  ((heldStates d h).map (fun x =>
    pipeFails d x.1 acts h (placeBands d x.1 x.1 acts h held (x.2.bands.map (shrinkBand d x.1 acts))))).flatten

/-- Pipes for the newest state of one head, after those of other heads (R152, R157), and the terms of its older states (R763). A band of a
head that the commit does not name is not moved (R140). -/
def planPipes (d : Dev) (sc : Scope) (p : Plan) (h : Nat) : Plan :=
  let v := lastView d sc h
  let held := heldByOthers d sc.acts h ++ ((p.bands.filter (fun x => decide (x.head ≠ h))).map placePipes).flatten
  let p := { p with fails := p.fails ++ heldPipeFails d sc.acts h held }
  if v.nat (head_ENABLE h) ≠ 1 then p
  else
    let prev := if bitOf sc.mask h then lastPlaced d h else (lastPlaced d h).map (shrinkBand d v sc.acts)
    let r := placeBands d (pendingView d h) v sc.acts h held prev
    { p with bands := p.bands ++ r.1, fails := p.fails ++ pipeFails d v sc.acts h r }

/-- What a program declares (R331). -/
def declared (d : Dev) (p : Ref) : ProgLoad :=
  let i := refInst p
  { kind := nGet d (prog_KIND i), sLine := nGet d (prog_S_LINE i), sFrame := nGet d (prog_S_FRAME i), rate := nGet d (prog_RATE i),
    footprint := nGet d (prog_FOOTPRINT i) }

/-- Whether a placed program keeps its engine and thread (R140, R155): what it declares is unchanged, and its cluster is in use. -/
def keepsThread (d : Dev) (q : ProgPlace) : Bool := decide (q.load = declared d q.prog) && !engineFaulted d q.engine

/-- The programs on an engine, each once. -/
def onEngine (ps : List ProgPlace) (e : Nat) : List ProgPlace :=
  (ps.filter (fun p => decide (p.engine = e))).foldl (fun a p => if a.contains p then a else a ++ [p]) []

/-- The programs that each head holds in each of its states (R763); head 16 stands for those whose HEAD is 0. -/
def heldProgs (d : Dev) (acts : List Action) : List (Nat × List (List ProgPlace)) :=
  (List.range 17).map (fun h => (h, if hearthOnly acts h then [] else (heldPlaces d h).map (·.progs)))

/-- Every program held in some state, the newest state of a head first. -/
def allHeld (st : List (Nat × List (List ProgPlace))) : List ProgPlace := (st.map (fun e => e.2.reverse.flatten)).flatten

/-- A figure of the programs of one state on an engine, summed. -/
def engineSum (f : ProgLoad → Nat) (e : Nat) (ps : List ProgPlace) : Nat := (onEngine ps e).foldl (fun a q => a + f q.load) 0

/-- A figure of an engine with one more program in the newest state of head h: each head counts the largest sum over its states (R763). -/
def engineLoad (f : ProgLoad → Nat) (st : List (Nat × List (List ProgPlace))) (own : List ProgPlace) (h e : Nat) (p : ProgLoad) : Nat :=
  st.foldl (fun a x =>
    let held := maxOf (x.2.map (engineSum f e))
    a + (if x.1 = h then max held (engineSum f e own + f p) else held)) 0

/-- The programs that an engine holds beside a new one of head h: the other heads' in any state, and those of its own newest state. -/
def besideOn (st : List (Nat × List (List ProgPlace))) (own : List ProgPlace) (h e : Nat) : List ProgPlace :=
  onEngine (allHeld (st.filter (fun x => decide (x.1 ≠ h))) ++ own) e

/-- Whether an engine takes a program beside some others (R146, R154, R763): the mode, a free thread, scratchpad and rate. -/
def enginePasses (d : Dev) (st : List (Nat × List (List ProgPlace))) (own : List ProgPlace) (h : Nat) (p : Ref) (e : Nat) : Bool :=
  let on := besideOn st own h e
  let x := declared d p
  !engineFaulted d e && !on.isEmpty && on.all (fun q => decide (q.load.kind = x.kind)) &&
  (List.range 4).any (fun t => !on.any (fun q => decide (q.thread = t))) &&
  decide (engineLoad (·.footprint) st own h e x ≤ 65536) &&
  (decide (x.kind = 0) || decide (engineLoad (·.rate) st own h e x ≤ 900000000))

/-- Whether an engine is idle and usable (R155). -/
def engineIdle (d : Dev) (st : List (Nat × List (List ProgPlace))) (own : List ProgPlace) (h : Nat) (p : Ref) (e : Nat) : Bool :=
  let x := declared d p
  !engineFaulted d e && (besideOn st own h e).isEmpty && decide (x.footprint ≤ 65536) && (decide (x.kind = 0) || decide (x.rate ≤ 900000000))

/-- The lowest free thread of an engine. -/
def freeThread (on : List ProgPlace) : Nat := ((List.range 4).find? (fun t => !on.any (fun q => decide (q.thread = t)))).getD 0

/-- The threads that are free for a program of head h, engines in use alone. -/
def freeThreads (d : Dev) (st : List (Nat × List (List ProgPlace))) (own : List ProgPlace) (h : Nat) : Nat :=
  ((List.range 96).filter (fun e => !engineFaulted d e)).foldl (fun a e =>
    a + ((List.range 4).filter (fun t => !(besideOn st own h e).any (fun q => decide (q.thread = t)))).length) 0

/-- A program of head h given an engine and a thread (R155): raster programs from E0 upward, housekeeping programs from E95
downward. -/
def placeProg (d : Dev) (st : List (Nat × List (List ProgPlace))) (own : List ProgPlace) (h : Nat) (p : Ref) : Option ProgPlace :=
  let x := declared d p
  let es := if x.kind = 0 then List.range 96 else (List.range 96).reverse
  match es.find? (enginePasses d st own h p) with
  | some e => some { prog := p, head := h, engine := e, thread := freeThread (besideOn st own h e), load := x }
  | none => (es.find? (engineIdle d st own h p)).map (fun e => { prog := p, head := h, engine := e, thread := 0, load := x })

/-- The view that holds the staged values of programs whose HEAD is 0: every commit takes their writes (R155, R335). -/
def freeProgView (d : Dev) (sc : Scope) : View :=
  overWrites (fun r => mGet d r) ((sc.taken.filter (fun t => decide (t.heads = 0))).map (fun t => (t.ref, t.val)))

/-- The enabled programs to place, with their head and view, in the order of R155. -/
def progsWanted (d : Dev) (sc : Scope) : List (Nat × Ref) :=
  let named := (plannedHeads d sc).filter (fun h => decide ((lastView d sc h).nat (head_ENABLE h) = 1) && !hearthOnly sc.acts h)
  let of := fun kind h => ((programsOf d (lastView d sc h) h).filter (fun p =>
    decide ((lastView d sc h).nat (prog_ENABLE (refInst p)) = 1) && decide ((declared d p).kind = kind))).map (fun p => (h, p))
  let safe := named.filter (fun h => decide ((lastView d sc h).nat (head_SAFETY h) = 1))
  let rest := named.filter (fun h => decide ((lastView d sc h).nat (head_SAFETY h) ≠ 1))
  let v := freeProgView d sc
  let house := (named.map (of 1)).flatten ++ ((allocated d 0x17).filter (fun p => decide (v.nat (prog_HEAD (refInst p)) = 0) &&
    decide (v.nat (prog_ENABLE (refInst p)) = 1) && decide ((declared d p).kind = 1))).map (fun p => (16, p))
  ((safe ++ rest).map (of 0)).flatten ++ sortBy (fun x => x.2) house

/-- A thread or scratchpad failure of a program of head h (R157, R766). -/
def progFail (h : Nat) (p : Ref) (reason demand capacity : Nat) : Fail :=
  { reason := reason, heads := if h < 16 then 2 ^ h else 0, resource := if h < 16 ∧ reason < 11 then h else 0xFFFF, slot := 0xFFFF,
    demand := demand, capacity := capacity, obj := p }

/-- THREAD_LINE, THREAD_FRAME and SCRATCHPAD of one program in a state of its head (R146, R157). -/
def progFails (d : Dev) (v : View) (h : Nat) (p : Ref) : List Fail :=
  let x := declared d p
  let sf := x.sLine * v.nat (head_V_ACTIVE h) + x.sFrame
  (if x.kind = 0 ∧ lineNs v h * 3 / 10 < (x.sLine : Nat) then [progFail h p 9 x.sLine (wholeOf (lineNs v h * 3 / 10))] else []) ++
  (if x.kind = 0 ∧ frameNs v h * 3 / 10 < (sf : Nat) then [progFail h p 10 sf (wholeOf (frameNs v h * 3 / 10))] else []) ++
  (if 65536 < x.footprint then [progFail h p 12 x.footprint 65536] else [])

/-- The programs held when some of the heads have a newest state under way. -/
def withNewest (st : List (Nat × List (List ProgPlace))) (ps : List ProgPlace) : List (Nat × List (List ProgPlace)) :=
  st.map (fun x => (x.1, x.2 ++ [ps.filter (fun q => decide (q.head = x.1))]))

/-- Programs of head h given threads one after another beside those of its own that stand (R155), with THREAD_COUNT for each that finds
none (R157, R766). -/
def placeProgs (d : Dev) (st : List (Nat × List (List ProgPlace))) (h : Nat) (stand : List ProgPlace) (ps : List Ref) :
    List ProgPlace × List Fail :=
  ps.foldl (fun (a : List ProgPlace × List Fail) p =>
    match placeProg d st (stand ++ a.1) h p with
    | some q => (a.1 ++ [q], a.2)
    | none => if 65536 < (declared d p).footprint then a else (a.1, a.2 ++ [progFail h p 11 1 (freeThreads d st (stand ++ a.1) h)])) ([], [])

/-- The thread terms of the states that a head holds already (R763). -/
def heldThreadFails (d : Dev) (acts : List Action) (h : Nat) : List Fail :=
  if hearthOnly acts h then []
  else ((heldStates d h).map (fun x =>
    let want := (programsOf d x.1 h).filter (fun p => decide (x.1.nat (prog_ENABLE (refInst p)) = 1))
    let stand := x.2.progs.filter (keepsThread d)
    (want.map (progFails d x.1 h)).flatten ++
      (placeProgs d (heldProgs d acts) h stand (want.filter (fun p => !stand.any (fun q => decide (q.prog = p))))).2)).flatten

/-- Threads for the programs of a scope: those that R140 keeps, then the others in order (R155), and the terms of older states (R763). A
head in hearth-only mode by the Stoker holds none (R763). -/
def planProgs (d : Dev) (sc : Scope) (p : Plan) : Plan :=
  let want := progsWanted d sc
  let st := heldProgs d sc.acts
  let cur := (allHeld st).filter (keepsThread d)
  let kept := want.filterMap (fun x => cur.find? (fun q => decide (q.prog = x.2) && decide (q.head = x.1)))
  let others := want.filter (fun x => !kept.any (fun q => decide (q.prog = x.2)))
  let r := others.foldl (fun (a : List ProgPlace × List Fail) x =>
    let own := (kept ++ a.1).filter (fun q => decide (q.head = x.1))
    let others := withNewest st ((kept ++ a.1).filter (fun q => decide (q.head ≠ x.1)))
    let q := placeProgs d others x.1 own [x.2]
    (a.1 ++ q.1, a.2 ++ q.2))
    ([], [])
  { p with progs := p.progs ++ kept ++ r.1,
           fails := p.fails ++ ((plannedHeads d sc).map (heldThreadFails d sc.acts)).flatten ++
             (want.map (fun x => progFails d (lastView d sc x.1) x.1 x.2)).flatten ++ r.2 }

/-- The class that a period joins (R144): the first whose base fits with a multiple from 1 to 4, within 1 ppm. -/
def joinClass (classes : SMap Rat) (t : Rat) : Option (Nat × Nat) :=
  classes.findSome? (fun c => ((List.range 4).map (· + 1)).find? (fun k =>
    let kt := ((k : Nat) : Rat) * c.2
    decide ((if kt < t then t - kt else kt - t) * 1000000 ≤ kt)) |>.map (fun k => (c.1, k)))

/-- A head put into a class, or founding the lowest free one (R144). -/
def coupleHead (a : SMap HeadPlace × SMap Rat) (h : Nat) (t : Rat) : SMap HeadPlace × SMap Rat :=
  match joinClass a.2 t with
  | some (c, k) => (mapPut a.1 h { cls := c, k := k, j := 0, phi := 0 }, a.2)
  | none =>
    let c := ((List.range 17).find? (fun c => (mapFind a.2 c).isNone)).getD 16
    (mapPut a.1 h { cls := c, k := 1, j := 0, phi := 0 }, mapPut a.2 c t)

/-- The coupling of heads whose change waits for a boundary over that of the others (R144). -/
def couplingNow (d : Dev) : SMap HeadPlace := d.stoker.headsNext.foldl (fun m e => mapPut m e.1 e.2) d.stoker.heads

/-- The heads that a commit starts (R144, R158): enabled, and not yet running or on their way. -/
def startingHeads (d : Dev) (sc : Scope) : List Nat :=
  (bitsOf sc.mask 16).filter (fun h => decide ((lastView d sc h).nat (head_ENABLE h) = 1) && (mapFind (couplingNow d) h).isNone)

/-- The running heads whose period a commit changes (R144). -/
def retimedHeads (d : Dev) (sc : Scope) : List Nat :=
  (bitsOf sc.mask 16).filter (fun h => decide ((lastView d sc h).nat (head_ENABLE h) = 1) && (mapFind (couplingNow d) h).isSome &&
    decide (frameNs (lastView d sc h) h ≠ frameNs (pendingView d h) h))

/-- Where the boundaries of a head of a class stand when one of them falls at b (R159, R259): its offset after the anchor, and
the slot that holds it. A class without an anchor has it at b. -/
def offsetAt (d : Dev) (classes : SMap Rat) (p : HeadPlace) (b : Rat) : HeadPlace :=
  let a := (mapFind d.heads.anchors p.cls).getD b
  let period := ((max p.k 1 : Nat) : Rat) * mapGet classes p.cls 16
  let phi := (b - a) - period * ((b - a) / period).floor
  { p with loose := false, phi := phi, j := wholeOf (phi / (mapGet classes p.cls 16 / 16)) % (16 * max p.k 1) }

/-- The classes and multiples of every head for a scope (R144). The offset of a head whose period changes follows from the boundary at
which the commit will apply (R259); the placement does not depend on the time of day (R138), so until then the head is counted at its
worst window in every slot (assumption log 24). -/
def coupling (d : Dev) (sc : Scope) : SMap HeadPlace × SMap Rat :=
  let re := retimedHeads d sc
  let hs := startingHeads d sc ++ re
  let base := (couplingNow d).filter (fun e => !hs.contains e.1)
  let r := (sortUp (fun h => frameNs (lastView d sc h) h) (sortBy id hs)).foldl
    (fun a h => coupleHead a h (frameNs (lastView d sc h) h)) (base, d.stoker.classes)
  (r.1.map (fun e => if re.contains e.1 then (e.1, { e.2 with loose := true }) else e), r.2)

/-- r of R148 for each window and channel of a head: the largest over its states (R763). -/
def rateTable (d : Dev) (sc : Scope) (h : Nat) : List (List Rat) :=
  let vs := if hearthOnly sc.acts h then [] else (runViews d sc h).map (fun v => (v, headFetches d v h sc.acts))
  (List.range 16).map (fun w => (List.range 8).map (fun ch =>
    maxRat (vs.map (fun x => windowRate x.1 h x.2 w ch))))

/-- An entry of a rate table. -/
def rateAt (t : List (List Rat)) (w ch : Nat) : Rat := (t.getD w []).getD ch 0

/-- A head's slot length in ns. -/
def slotNs (classes : SMap Rat) (c : Nat) : Rat := mapGet classes c 16 / 16

/-- The window of a head in slot s (R145). -/
def windowAt (k j s : Nat) : Nat := (s + 16 * k * (j + 1) - j) % (16 * k) / k

/-- The rate of a head in slot s (R149, R159): for an offset that is not a whole number of slots, the larger of its rates at
j and j + 1, and for one that is still to follow the largest of all. -/
def slotRate (classes : SMap Rat) (p : HeadPlace) (t : List (List Rat)) (s ch : Nat) : Rat :=
  let k := max p.k 1
  let whole := decide (((p.j : Nat) : Rat) * slotNs classes p.cls = p.phi) || decide (p.phi = 0)
  if p.loose then maxRat (t.map (fun r => r.getD ch 0))
  else if whole then rateAt t (windowAt k p.j s) ch
  else maxRat [rateAt t (windowAt k p.j s) ch, rateAt t (windowAt k ((p.j + 1) % (16 * k)) s) ch]

/-- The members of a class. -/
def classHeads (hp : SMap HeadPlace) (c : Nat) : SMap HeadPlace := hp.filter (fun e => decide (e.2.cls = c))

/-- The slots of a class' hyperperiod (R145). -/
def classSlots (hp : SMap HeadPlace) (c : Nat) : Nat := 16 * (classHeads hp c).foldl (fun a e => Nat.lcm a (max e.2.k 1)) 1

/-- L of R149. -/
def classLoad (classes : SMap Rat) (tabs : SMap (List (List Rat))) (hp : SMap HeadPlace) (c s ch : Nat) : Rat :=
  (classHeads hp c).foldl (fun a e => a + slotRate classes e.2 (mapGet tabs e.1 []) s ch) 0

/-- P of R149. -/
def classPeak (classes : SMap Rat) (tabs : SMap (List (List Rat))) (hp : SMap HeadPlace) (c ch : Nat) : Rat :=
  maxRat ((List.range (classSlots hp c)).map (fun s => classLoad classes tabs hp c s ch))

/-- The worst channel peak of a class. -/
def worstPeak (classes : SMap Rat) (tabs : SMap (List (List Rat))) (hp : SMap HeadPlace) (c : Nat) : Rat :=
  maxRat ((List.range 8).map (classPeak classes tabs hp c))

/-- The offset with the smallest worst peak, the smallest on a tie (R158). -/
def bestOffset (f : Nat → Rat) (n : Nat) : Nat :=
  ((List.range n).foldl (fun (a : Nat × Rat) j => if f j < a.2 then (j, f j) else a) (0, f 0)).1

/-- An offset given to a starting head (R158, R159). -/
def giveOffset (classes : SMap Rat) (tabs : SMap (List (List Rat))) (placed : List Nat) (hp : SMap HeadPlace) (h : Nat) : SMap HeadPlace :=
  match mapFind hp h with
  | none => hp
  | some p =>
    let given := hp.filter (fun e => placed.contains e.1)
    let at' := fun j : Nat => ({ p with j := j, phi := ((j : Nat) : Rat) * slotNs classes p.cls } : HeadPlace)
    if (classHeads given p.cls).isEmpty then mapPut hp h (at' 0)
    else mapPut hp h (at' (bestOffset (fun j => worstPeak classes tabs (mapPut given h (at' j)) p.cls) (16 * max p.k 1)))

/-- The busiest window of a head over all channels, for the order of R158. -/
def busiest (t : List (List Rat)) : Rat := maxRat (t.map (fun r => r.foldl (· + ·) 0))

/-- The offsets of the starting heads (R158): in falling order of their busiest window, ties in rising head number. -/
def stagger (d : Dev) (sc : Scope) (tabs : SMap (List (List Rat))) (hp : SMap HeadPlace) (classes : SMap Rat) : SMap HeadPlace :=
  let start := startingHeads d sc
  let order := sortDown (fun h => busiest (mapGet tabs h [])) (sortBy id start)
  let old := (hp.map (·.1)).filter (fun h => !start.contains h)
  (order.foldl (fun (a : SMap HeadPlace × List Nat) h => (giveOffset classes tabs a.2 a.1 h, a.2 ++ [h])) (hp, old)).1

/-- ρ in permille (R146, R166). -/
def rhoPermille (d : Dev) : Nat := if (capacity d).thermal then 500 else 700

/-- S_d of a channel in byte/s (R458, R459). -/
def sustained (d : Dev) (ch : Nat) : Nat := if channelLost d ch then 0 else 13125000000

/-- V of a channel in byte/s (R149): the streams received into bound surfaces. -/
def videoIn (d : Dev) (ch : Nat) : Rat :=
  (List.range 16).foldl (fun (a : Rat) i =>
    let s := inputSurface d i
    let g := surfGroup d (refInst s)
    if nGet d (vin_STREAM_STATE i) = 3 ∧ s ≠ 0 ∧ g.contains ch then
      a + ((nGet d (vin_RATE i) * 17 : Nat) : Rat) / 16 / (g.length : Nat)
    else a) 0

/-- Σ_c P of a channel (R149). -/
def scanPeak (classes : SMap Rat) (tabs : SMap (List (List Rat))) (hp : SMap HeadPlace) (ch : Nat) : Rat :=
  classes.foldl (fun a c => a + classPeak classes tabs hp c.1 ch) 0

/-- The first slot of a class' peak on a channel. -/
def peakSlot (classes : SMap Rat) (tabs : SMap (List (List Rat))) (hp : SMap HeadPlace) (c ch : Nat) : Nat :=
  ((List.range (classSlots hp c)).find? (fun s => decide (classLoad classes tabs hp c s ch = classPeak classes tabs hp c ch))).getD 0

/-- The failing class on a channel and the first slot of its peak (R766): where several classes add up to the demand that fails, the one
with the largest peak (assumption log 151). -/
def worstClass (classes : SMap Rat) (tabs : SMap (List (List Rat))) (hp : SMap HeadPlace) (ch : Nat) : Nat × Nat :=
  let c := (classes.foldl (fun (a : Nat × Rat) c => if a.2 < classPeak classes tabs hp c.1 ch then (c.1, classPeak classes tabs hp c.1 ch) else a)
    ((classes.head?.map (·.1)).getD 0, 0)).1
  (c, peakSlot classes tabs hp c ch)

/-- The rate of one layer of a head in a slot on a channel, the largest over the head's states (R763, R766). -/
def layerRate (d : Dev) (sc : Scope) (classes : SMap Rat) (hp : SMap HeadPlace) (h : Nat) (b l : Ref) (s ch : Nat) : Rat :=
  match mapFind hp h with
  | none => 0
  | some p =>
    maxRat ((runViews d sc h).map (fun v =>
      let fs := if (liveBands d v h).contains b && (stackOf d v sc.acts b).contains l then layerFetches d v h sc.acts b l else []
      slotRate classes p ((List.range 16).map (fun w => (List.range 8).map (fun c => windowRate v h fs w c))) s ch))

/-- Every enabled layer of the counted heads in any of their states, with its head and band (R166, R763). -/
def everyLayer (d : Dev) (sc : Scope) : List (Nat × Ref × Ref) :=
  ((countedHeads d sc).map (fun h => ((runViews d sc h).map (fun v => ((liveBands d v h).map (fun b =>
    (onLayers d v b).map (fun l => (h, b, l)))).flatten)).flatten)).flatten.foldl (fun a x => if a.contains x then a else a ++ [x]) []

/-- The element with the largest key; a later one wins a tie. -/
def largestBy {α : Type} (key : α → Rat) : List α → Option α
  | [] => none
  | x :: l => some (l.foldl (fun a y => if key a ≤ key y then y else a) x)

/-- A DRAM failure on a channel (R157, R766). -/
def dramFail (d : Dev) (sc : Scope) (classes : SMap Rat) (tabs : SMap (List (List Rat))) (hp : SMap HeadPlace) (reason ch : Nat)
    (demand capacity : Rat) : Fail :=
  let w := worstClass classes tabs hp ch
  let hs := (classHeads hp w.1).filter (fun e => decide (slotRate classes e.2 (mapGet tabs e.1 []) w.2 ch ≠ 0))
  let ls := (everyLayer d sc).filter (fun x => hs.any (fun e => decide (e.1 = x.1)))
  { reason := reason, heads := headMask (fun h => hs.any (fun e => decide (e.1 = h))), resource := ch, slot := w.2,
    demand := wholeOf demand, capacity := wholeOf capacity,
    obj := ((largestBy (fun x => layerRate d sc classes hp x.1 x.2.1 x.2.2 w.2 ch) ls).map (·.2.2)).getD 0 }

/-- Whether the staged scene of a head that a commit names fetches from a channel. -/
def stagedFetches (d : Dev) (sc : Scope) (ch : Nat) : Bool :=
  !sc.rerun && (bitsOf sc.mask 16).any (fun h =>
    let v := lastView d sc h
    decide (v.nat (head_ENABLE h) = 1) && !hearthOnly sc.acts h &&
      (List.range 16).any (fun w => decide (windowRate v h (headFetches d v h sc.acts) w ch ≠ 0)))

/-- Whether a DRAM term is compared on a channel: on every one in use, and on a retired one where a commit would bring a scene that
fetches from it. What a scene in force loses there is what cause DRAM answers (R303, R489; assumption log 111). -/
def channelCounted (d : Dev) (sc : Scope) (ch : Nat) : Bool := !channelLost d ch || stagedFetches d sc ch

/-- The DRAM terms (R146, R157). -/
def dramFails (d : Dev) (sc : Scope) (classes : SMap Rat) (tabs : SMap (List (List Rat))) (hp : SMap HeadPlace) : Option Fail :=
  let peak := fun ch => scanPeak classes tabs hp ch
  let cap := fun ch : Nat => ((sustained d ch * rhoPermille d : Nat) : Rat) / 1000
  let cap2 := fun ch : Nat => ((sustained d ch * 9 : Nat) : Rat) / 10
  let chans := (List.range 8).filter (channelCounted d sc)
  match chans.find? (fun ch => decide (cap ch < peak ch)) with
  | some ch => some (dramFail d sc classes tabs hp 13 ch (peak ch) (cap ch))
  | none => match chans.find? (fun ch => decide (cap2 ch < peak ch + videoIn d ch)) with
    | some ch => some (dramFail d sc classes tabs hp 14 ch (peak ch + videoIn d ch) (cap2 ch))
    | none => none

/-- What a run of the model gives: the first failure, if any, the placement, the coupling, the channel peaks and the rate of each head in
each window. -/
structure Verdict where
  fail : Option Fail
  plan : Plan
  heads : SMap HeadPlace
  classes : SMap Rat
  peaks : List Rat
  tabs : SMap (List (List Rat))

/-- The first failure of a reason: the lowest head first, programs without a head last (R157). -/
def failOf (fs : List Fail) (reason : Nat) : Option Fail :=
  (sortBy (fun f => if f.heads = 0 then 65536 else f.heads) (fs.filter (fun f => decide (f.reason = reason)))).head?

/-- A run of the model on a scope (R146, R157). -/
def runModel (d : Dev) (sc : Scope) : Verdict :=
  let plan := planProgs d sc ((plannedHeads d sc).foldl (planPipes d sc) { bands := [], progs := [], fails := [] })
  let cp := coupling d sc
  let tabs : SMap (List (List Rat)) := (countedHeads d sc).map (fun h => (h, rateTable d sc h))
  let hp := (stagger d sc tabs cp.1 cp.2).filter (fun e => (countedHeads d sc).contains e.1)
  let fail := [pixelFail d sc, firstFail d sc (laneMissing d), firstFail d sc lanePayload,
    firstFail d sc (cascadeFail d sc.acts), firstFail d sc (pipeTimeFail d sc.acts),
    failOf plan.fails 7, failOf plan.fails 8, failOf plan.fails 9, failOf plan.fails 10, failOf plan.fails 11,
    failOf plan.fails 12, dramFails d sc cp.2 tabs hp].findSome? id
  { fail := fail, plan := plan, heads := hp, classes := cp.2, peaks := (List.range 8).map (scanPeak cp.2 tabs hp), tabs := tabs }

/-- How far a layer's DEGRADE would lower the demand of a failed term (R166): for a DRAM term the head's rate, the largest over its
states, at the slot of its class' peak (assumption log 114); for the pipes those of the states that the term counts. -/
def degradeGain (d : Dev) (sc : Scope) (vd : Verdict) (f : Fail) (x : Nat × Ref × Ref) : Rat :=
  let v := lastView d sc x.1
  let pol := v.nat (layer_DEGRADE (refInst x.2.2))
  let sc' := { sc with acts := sc.acts ++ [{ ref := x.2.2, degrade := pol }] }
  let stages := fun acts => maxOf ((if f.reason = 5 then runViews d sc x.1 else [v]).map (fun v =>
    (stagesOf d v acts x.2.1).length * splitOf v x.1))
  if f.reason = 13 ∨ f.reason = 14 then
    (match mapFind vd.heads x.1 with
     | none => 0
     | some p =>
       let s := peakSlot vd.classes vd.tabs vd.heads p.cls f.resource
       slotRate vd.classes p (mapGet vd.tabs x.1 []) s f.resource - slotRate vd.classes p (rateTable d sc' x.1) s f.resource)
  else if f.reason = 8 then
    (if vd.plan.bands.any (fun p => decide (p.band = x.2.1) && (placePipes p).contains f.resource) then
      ((bandBuffer d v x.1 sc.acts x.2.1 : Nat) : Rat) - (bandBuffer d v x.1 sc'.acts x.2.1 : Nat) else 0)
  else if f.reason = 5 ∨ f.reason = 7 then
    (if f.reason = 5 ∧ f.obj ≠ x.2.1 then 0 else ((stages sc.acts : Nat) : Rat) - (stages sc'.acts : Nat))
  else 0

/-- The layer that R166 degrades next among the heads with a SAFETY value: the largest demand, ties to the higher head and
then the higher layer. -/
def nextDegrade (d : Dev) (sc : Scope) (vd : Verdict) (f : Fail) (safety : Nat) : Option Action :=
  let ls := (everyLayer d sc).filter (fun x =>
    let v := lastView d sc x.1
    decide (v.nat (head_SAFETY x.1) = safety) && decide (v.nat (layer_DEGRADE (refInst x.2.2)) ≠ 0) &&
    decide (degradeOf sc.acts x.2.2 = 0) && !hearthOnly sc.acts x.1 && decide (0 < degradeGain d sc vd f x))
  (largestBy (degradeGain d sc vd f) (sortBy (fun x => x.1 * 65536 + refInst x.2.2) ls)).map (fun x =>
    { ref := x.2.2, degrade := (lastView d sc x.1).nat (layer_DEGRADE (refInst x.2.2)) })

/-- The next action of R166, if any is left. -/
def nextAction (d : Dev) (sc : Scope) (vd : Verdict) (f : Fail) : Option Action :=
  match nextDegrade d sc vd f 0 with
  | some a => some a
  | none =>
    match ((countedHeads d sc).reverse).find? (fun h => decide ((lastView d sc h).nat (head_SAFETY h) = 0) && !hearthOnly sc.acts h) with
    | some h => some { ref := headRef h, degrade := 0xFF }
    | none => nextDegrade d sc vd f 1

/-- The model run with the actions of R166 taken until every term holds or none is left. -/
def freeCapacity (d : Dev) : Nat → Scope → Scope × Verdict
  | 0, sc => (sc, runModel d sc)
  | n + 1, sc =>
    let vd := runModel d sc
    match vd.fail with
    | none => (sc, vd)
    | some f =>
      match nextAction d sc vd f with
      | some a => freeCapacity d n { sc with acts := sc.acts ++ [a] }
      | none => (sc, vd)

/-- The most actions that R166 can take: every layer and every head. -/
def maxActions : Nat := 1040

/-- The conditions of capacity steps in force, as STEPS gives them (R174). -/
def stepBits (d : Dev) : Nat :=
  let c := capacity d
  (if c.thermal then 1 else 0) + (if c.pipes.isEmpty then 0 else 2) + (if c.clusters.isEmpty then 0 else 4) + (if c.chans.isEmpty then 0 else 8)

end Sys2Proof.Machine
end

