-- ==== Sys2Proof/Machine/PipeRegs.lean ====
section
/-!
DEFINITION. The beam's position, the windows of heads and pipes, and what a write to a register of them does (R184 to R186,
R195, R196, R204, R231, R232, R235, R236, R243, R248 to R251, R349).
-/
namespace Sys2Proof.Machine

/-- A pipe. -/
def pipeOf (d : Dev) (p : Nat) : Pipe := mapGet d.pipes.pipe p Pipe.reset

/-- A pipe changed. -/
def updPipe (d : Dev) (p : Nat) (f : Pipe → Pipe) : Dev :=
  { d with pipes.pipe := mapSet d.pipes.pipe p (f (pipeOf d p)) Pipe.reset }

/-- Whether a pipe is faulted. -/
def pipeDown (d : Dev) (p : Nat) : Bool := d.stoker.faulted.contains p

/-- The bands that a pipe serves in the live placement (R152). -/
def bandsOn (d : Dev) (p : Nat) : List BandPlace := d.stoker.bands.filter (fun b => (placePipes b).contains p)

/-- The head that a pipe serves, if any. -/
def headOfPipe (d : Dev) (p : Nat) : Option Nat := (bandsOn d p).head?.map (·.head)

/-- The pipes that serve a head, rising. -/
def pipesOf (d : Dev) (h : Nat) : List Nat :=
  (List.range 32).filter (fun p => (bandsOn d p).any (fun b => decide (b.head = h)))

/-- The degrades in effect on a head since a boundary (R168), with HALF_RATE for every layer while an Autumn head has it
(R668). -/
def effectiveActs (d : Dev) (h : Nat) : List Action :=
  let acts := mapGet d.stoker.effective h []
  if 2 ≤ (headOf d h).autumn then
    acts.filter (fun a => decide (a.degrade ≠ 1)) ++
    ((allocated d 0x12).filter (fun l => !acts.any (fun a => decide (a.ref = l) && decide (a.degrade ≠ 1)))).map
      (fun l => { ref := l, degrade := 1 })
  else acts

/-- The stages of a band as composed (R150, R167): packed with the degrades of R166 in effect. -/
def liveStages (d : Dev) (b : BandPlace) : List (List Ref) :=
  stagesOf d (liveView d b.head) (mapGet d.stoker.effective b.head []) b.band

/-- The slots of one stage: slot number and layer (R213, R214). -/
def stageSlots (v : View) (acts : List Action) (st : List Ref) : List (Nat × Ref) :=
  let vids := st.filter (fun l => decide (kindOf v acts l = 3))
  let gfx := st.filter (fun l => decide (kindOf v acts l ≠ 3))
  (List.range vids.length).zip vids ++ ((List.range gfx.length).map (· + 2)).zip gfx

/-- The slots of a pipe for a band: those of its stage (R214, R215). -/
def pipeSlots (d : Dev) (b : BandPlace) (p : Nat) : List (Nat × Ref) :=
  stageSlots (liveView d b.head) (mapGet d.stoker.effective b.head []) ((liveStages d b).getD ((p - b.first) / max 1 b.split) [])

/-- Signed matrix presets of R233 by colorimetry. -/
def presetMatrix (d : Dev) (h f : Nat) : List Int :=
  if f < 0x20 then [4096, 0, 0, 0, 0, 4096, 0, 0, 0, 0, 4096, 0]
  else match (f - 0x20) % 8 with
    | 0 => [4769, 0, 6537, -3567, 4769, -1605, -3330, 2169, 4769, 8262, 0, -4429]
    | 1 => [4769, 0, 7343, -3970, 4769, -873, -2183, 1230, 4769, 8652, 0, -4624]
    | 2 => [4096, 0, 6450, -3225, 4096, -767, -1917, 1342, 4096, 7601, 0, -3800]
    | 3 => [4769, 0, 6876, -3736, 4769, -767, -2664, 1417, 4769, 8773, 0, -4685]
    | _ =>
      let b := match mapFind (headOf d h).loaded 48 with | some (.bytes b) => b | _ => inputMatrixDefault
      (List.range 12).map (fun i => sintOf 16 (ofLe (sliceOf b (2 * i) 2)))

/-- The format that a slot's layer reads, for the presets (R232): 0 for tile maps and sprite sets. -/
def slotFormat (d : Dev) (v : View) (acts : List Action) (l : Ref) : Nat :=
  match kindOf v acts l with
  | 0 => nGet d (surf_FORMAT (refInst (sourceOf v acts l)))
  | 3 => nGet d (surf_FORMAT (refInst (sourceOf v acts l)))
  | _ => 0

/-- The matrix of slot s on a pipe for a layer of a band: the preset, with the registers written since the boundary over it
(R231, R232; assumption log 22). -/
def slotMatrix (d : Dev) (p h s f : Nat) : List Int :=
  let w := (pipeOf d p).matrix
  (List.range 12).map (fun i =>
    match mapFind w (12 * s + i) with
    | some n => sintOf 16 n
    | none => (presetMatrix d h f).getD i 0)

/-- ORDER as a boundary loads it for the slots of a band (R236): empty slots lowest, then slots in rising Z. -/
def loadedOrder (v : View) (slots : List (Nat × Ref)) : Nat :=
  let empty := (List.range 8).filter (fun s => !slots.any (fun x => decide (x.1 = s)))
  let full := (sortBy (fun x => v.nat (layer_Z (refInst x.2))) slots).map (·.1)
  ((List.range 8).zip (empty ++ full)).foldl (fun a x => a + x.2 * 8 ^ x.1) 0

/-- The value of a line register in force on a frame line: the last write that governs it, else what the boundary loaded
(R196). -/
def lineReg (d : Dev) (p off line : Nat) (band : Ref) (dflt : Nat) : Nat :=
  match ((pipeOf d p).writes.filter (fun w => decide (w.off = off) && decide (w.line ≤ line) && (decide (w.band = 0) || decide (w.band = band)))).getLast? with
  | some w => w.val
  | none => dflt

/-- The first frame line that a write of a line register at a position governs (R196). -/
def governedLine (line : Nat) : Nat := line + 3

/-- A write that a program's counters see dropped (R340, R349): counted in DROPPED_WRITES of the program that made it, if it still
exists. -/
def countDropped (d : Dev) (prog : Ref) : Dev :=
  if prog = 0 ∨ allocOf d prog = 0 then d else nInc d (prog_DROPPED_WRITES (refInst prog))

/-- The band that a descriptor write governing from frame line v addresses, with the line it governs from (R204). -/
def descriptorBand (d : Dev) (h v : Nat) : Option (Ref × Nat) :=
  let vb := (headOf d h).timing.vBlank
  let lv := liveView d h
  let bs := sortBy (fun b => lv.nat (band_TOP (refInst b))) (liveBands d lv h)
  (bs.find? (fun b => decide (v < vb + lv.nat (band_TOP (refInst b)) + lv.nat (band_HEIGHT (refInst b))))).map
    (fun b => (b, max v (vb + lv.nat (band_TOP (refInst b)))))

/-- The sprite set of a band's enabled layers, if there is one (R199). -/
def bandSprites (d : Dev) (h : Nat) (b : Ref) : Option Ref :=
  let v := liveView d h
  ((stackOf d v (effectiveActs d h) b).find? (fun l => decide (kindOf v (effectiveActs d h) l = 2))).map
    (fun l => v.nat (layer_SOURCE (refInst l)))

/-- A write to a register of pipe p at a beam position (R184, R195, R204, R231, R235): `prog` is the program that counts it, else 0. A register that is not RWT, or none, takes nothing; a program's timed write is then counted (R349). -/
def pipeWrite (d : Dev) (p off val line : Nat) (prog : Ref) (timed : Bool) : Dev :=
  let gov := governedLine line
  let addLine := fun (d : Dev) (w : LineWrite) => updPipe d p (fun x => { x with writes := x.writes ++ [w] })
  let noReg := if timed then countDropped d prog else d
  if off % 4 ≠ 0 then noReg
  else if 0x0100 ≤ off ∧ off < 0x0300 then
    let s := (off - 0x100) / 0x40
    let o := (off - 0x100) % 0x40
    if o = 0 then addLine d { off := off, line := gov, val := val, band := 0 }
    else if o < 0x34 then updPipe d p (fun x => { x with matrix := mapPut x.matrix (12 * s + (o - 4) / 4) (val % 65536) })
    else noReg
  else if off = 0x0300 then addLine d { off := off, line := gov, val := val % 2 ^ 24, band := 0 }
  else if 0x4000 ≤ off ∧ off < 0x8000 then
    updPipe d p (fun x => { x with palette := mapSet x.palette ((off - 0x4000) / 4) (val % 2 ^ 32) 0 })
  else if 0x8000 ≤ off ∧ off < 0xC000 then
    match headOfPipe d p with
    | none => countDropped d prog
    | some h =>
      match descriptorBand d h gov with
      | none => countDropped d prog
      | some (b, v) =>
        match bandSprites d h b with
        | none => countDropped d prog
        | some s =>
          if nGet d (surf_WIDTH (refInst ((liveView d h).nat (sset_DESCRIPTORS (refInst s))))) ≤ (off - 0x8000) / 16 then countDropped d prog
          else addLine d { off := off, line := v, val := val % 2 ^ ([32, 24, 30, 8].getD (off % 16 / 4) 0), band := b }
  else noReg

/-- The timing registers written through the window while the head is stopped (R248, R251). -/
def setTimingReg (t : Timing) (off val : Nat) : Timing :=
  let lo := val % 2 ^ 14
  let hi := fieldOf val 16 14
  match off with
  | 0x10 => { t with hActive := lo, hFront := hi }
  | 0x14 => { t with hSync := lo, hBack := hi }
  | 0x18 => { t with vActive := lo, vFront := hi }
  | 0x1C => { t with vSync := lo, vBack := hi }
  | 0x20 => { t with pixelClock := val % 2 ^ 32 }
  | _ => t

/-- Whether an offset of the head window holds an RWL register (R248). -/
def headRwl (off : Nat) : Bool := [0x10, 0x14, 0x18, 0x1C, 0x20, 0x44].contains off

/-- A write to a register of head h at a position (R248, R251, R349): RWL only while the head is stopped, else counted; a timed write to
another register than an RWT one is counted against its program. A comparator set to the present line after its column 0
matches in the next frame only (R253). -/
def headWrite (d : Dev) (h off val : Nat) (prog : Ref) (timed : Bool) (pos : Nat × Nat) : Dev :=
  if headRwl off then
    if headRuns d h ∨ timed then nInc d (head_LOCKED_WRITES h)
    else if off = 0x44 then updHead d h (fun x => { x with upol := val % 2 })
    else updHead d h (fun x => { x with timing := setTimingReg x.timing off val })
  else if 0x30 ≤ off ∧ off < 0x40 ∧ off % 4 = 0 then
    let m := (off - 0x30) / 4
    let past := decide (pos.1 = val % 2 ^ 14) && decide (0 < pos.2)
    updHead d h (fun x => { x with cmpLine := x.cmpLine.set m (val % 2 ^ 14), cmpOn := x.cmpOn.set m (bitOf val 31),
                                   matched := if past then addOnce x.matched (4 * pos.1 + m) else x.matched })
  else if off = 0x40 then updHead d h (fun x =>
    { x with ucol := val % 2 ^ 24, ucolWas := x.ucolWas ++ [(pos.1 * x.timing.hTotal + pos.2, x.ucol)] })
  else if timed then countDropped d prog
  else d

/-- A register of head h as a read returns it (R248, R249). -/
def headRead (d : Dev) (h off : Nat) : Nat :=
  let x := headOf d h
  let t := x.timing
  match off with
  | 0x00 =>
    nGet d (head_STATE h) + (if x.locked then 8 else 0)
  | 0x04 => nGet d (head_FRAME_COUNT h)
  | 0x08 => (beamPos d h).2 + (beamPos d h).1 * 65536
  | 0x10 => t.hActive + t.hFront * 65536
  | 0x14 => t.hSync + t.hBack * 65536
  | 0x18 => t.vActive + t.vFront * 65536
  | 0x1C => t.vSync + t.vBack * 65536
  | 0x20 => t.pixelClock
  | 0x40 => x.ucol
  | 0x44 => x.upol
  | 0x48 => nGet d (head_UNDERRUN_LINES h)
  | 0x4C => nGet d (head_LAST_UNDERRUN_LINE h)
  | 0x50 => nGet d (head_LOCKED_WRITES h)
  | 0x54 => nGet d (head_PHASE_ERROR h)
  | _ =>
    if 0x30 ≤ off ∧ off < 0x40 ∧ off % 4 = 0 then
      let m := (off - 0x30) / 4
      x.cmpLine.getD m 0 + (if x.cmpOn.getD m false then 2 ^ 31 else 0)
    else 0

/-- The palettes of a head's live scene, by bank (R182). -/
def bankPalette (d : Dev) (h b : Nat) : Option Ref :=
  ((liveScene d h).filter (fun o => decide (refClass o = 0x16))).find? (fun o => decide ((liveView d h).nat (pal_BANK (refInst o)) = b))

/-- A palette's ENTRIES loaded into its bank of a pipe (R181, R185). -/
def loadPalette (d : Dev) (h : Nat) (pal : Ref) (p : Nat) : Dev :=
  let b := (liveView d h).nat (pal_BANK (refInst pal))
  let e := match liveView d h (pal_ENTRIES (refInst pal)) with | .bytes l => l | .num _ => []
  updPipe d p (fun x => { x with palette := (List.range 256).foldl (fun m i =>
    mapSet m (256 * b + i) (ofBe (sliceOf e (4 * i) 4)) 0) x.palette })

/-- Some palettes loaded into every pipe that serves a head (R185, R351). -/
def loadPalettes (d : Dev) (h : Nat) (pals : List Ref) : Dev :=
  pals.foldl (fun d o => (pipesOf d h).foldl (fun d p => loadPalette d h o p) d) d

/-- The live palettes of a head loaded into pipes that come to serve it (assumption log 30). -/
def loadNewPipes (d : Dev) (h : Nat) (old : List Nat) : Dev :=
  ((pipesOf d h).filter (fun p => !old.contains p)).foldl (fun d p =>
    ((liveScene d h).filter (fun o => decide (refClass o = 0x16))).foldl (fun d o => loadPalette d h o p) d) d

/-- Every live palette of a head loaded (R351). -/
def loadAllPalettes (d : Dev) (h : Nat) : Dev :=
  loadPalettes d h ((liveScene d h).filter (fun o => decide (refClass o = 0x16)))

/-- The timed writes that wait at an island. -/
def timedOf (d : Dev) (isl : Nat) : List TimedWrite := mapGet d.pipes.timed isl []

/-- The timed writes that wait at an island changed. -/
def setTimed (d : Dev) (isl : Nat) (l : List TimedWrite) : Dev := { d with pipes.timed := mapSet d.pipes.timed isl l [] }

/-- The pending timed writes of a head and of its pipes are discarded (R348). -/
def discardTimed (d : Dev) (h : Nat) : Dev :=
  (pipesOf d h).foldl (fun d p => setTimed d (12 + p) []) (setTimed d (44 + h) [])

/-- A timed write for a position late at issue or at its destination (R344, R347): counted, traced (R726), and the cluster's TIMED_LATE raised. -/
def countLate (d : Dev) (t pos : Nat) : Dev :=
  let p := (mapGet d.beam.threads t Thread.reset).prog
  let d := trace (if p = 0 then d else nInc d (prog_LATE_WRITES (refInst p))) 8 t pos
  raise d (704 + 4 * (t / 32) + 2)

end Sys2Proof.Machine
end

