-- ==== Sys2Proof/Machine/Threads.lean ====
section
/-!
DEFINITION. Engine threads as the other blocks see them (beam chapter): loading a program at placement, starting, restarting,
stopping and faulting a thread, and the members that follow (R311, R312, R325, R331, R335 to R337, R350 to R352, R356, R709).
-/
namespace Sys2Proof.Machine

/-- A thread. -/
def threadOf (d : Dev) (t : Nat) : Thread := mapGet d.beam.threads t Thread.reset

/-- A thread changed. -/
def updThread (d : Dev) (t : Nat) (f : Thread → Thread) : Dev :=
  { d with beam.threads := mapSet d.beam.threads t (f (threadOf d t)) Thread.reset }

/-- RUN_STATE that a thread's state gives (R331): WAITING in WAITPOS and WAITEV. -/
def TState.code : TState → Nat
  | .empty => 0
  | .running => 2
  | .stalled _ _ _ _ => 2
  | .waitPos _ _ _ => 3
  | .waitEv => 3
  | .faulted => 4

/-- A thread's state set, with RUN_STATE of its program (R331). -/
def setRun (d : Dev) (t : Nat) (st : TState) : Dev :=
  let d := updThread d t (fun x => { x with state := st })
  let p := (threadOf d t).prog
  if p = 0 then d else nSet d (prog_RUN_STATE (refInst p)) st.code

/-- Whether a thread holds a raster program. -/
def threadRaster (d : Dev) (t : Nat) : Bool := !(threadOf d t).house

/-- Whether a thread runs in performance mode (R154, R312): the program placed on it is a housekeeping program. -/
def perfMode (d : Dev) (t : Nat) : Bool := (threadOf d t).house

/-- Whether a thread's cluster has faulted and stays out of use (R353). -/
def clusterOut (d : Dev) (t : Nat) : Bool := d.stoker.clusters.contains (t / 32)

/-- Key of the octet of an engine's scratchpad that an address of a thread's view maps onto (R324). -/
def scratchKey (d : Dev) (t a : Nat) : Nat := 65536 * (t / 4) + 256 * (threadOf d t).view.getD (a / 256) 0 + a % 256

/-- The granules of an engine's scratchpad that no other thread's view holds, rising. -/
def freeGranules (d : Dev) (t : Nat) : List Nat :=
  let held := ((List.range 4).filter (fun k => decide (k ≠ t % 4))).foldl (fun l k => l ++ (threadOf d (t / 4 * 4 + k)).view) []
  (List.range 256).filter (fun g => !held.contains g)

/-- The region of the scratchpad that a view of n octets gets (R324): the lowest free run of granules that holds it, else the lowest free
granules (assumption log 19). -/
def viewRegion (d : Dev) (t n : Nat) : List Nat :=
  let free := freeGranules d t
  let k := ceilDiv n 256
  match free.find? (fun g => (List.range k).all (fun i => free.contains (g + i))) with
  | some g => (List.range k).map (g + ·)
  | none => free.take k

/-- An image put into a thread's scratchpad view by the loader (R335): the words that it writes are good again (R483). -/
def fillView (d : Dev) (t : Nat) (img : List Byte) : Dev :=
  let n := ceilDiv img.length 256
  let hit := fun (w : Nat) => decide (w * 8 / 65536 = t / 4) && ((threadOf d t).view.take n).contains (w * 8 % 65536 / 256)
  { d with
    dram.badWords := d.dram.badWords.filter (fun w => !hit w), dram.softWords := d.dram.softWords.filter (fun w => !hit w), beam.scratch := ((List.range (ceilDiv img.length 256)).zip (threadOf d t).view).foldl (fun m e =>
      mapFill m (65536 * (t / 4) + 256 * e.2) ((sliceOf img (256 * e.1) 256).map (·.toNat)) 0) d.beam.scratch }

/-- The scratchpads, caches and scratchpad words in error of some engines lose their content, and read 0 once they are on again (R486). -/
def loseScratch (d : Dev) (engine : Nat → Bool) : Dev :=
  let kept := fun (w : Nat) => decide (bankWord0 ≤ w) || !engine (w * 8 / 65536)
  { d with
    beam.scratch := d.beam.scratch.filter (fun e => !engine (e.1 / 65536))
    beam.dcache := d.beam.dcache.filter (fun e => !engine (e.1 / 2 ^ 34))
    beam.icache := d.beam.icache.filter (fun k => !engine (k / 2 ^ 16))
    dram.badWords := d.dram.badWords.filter kept, dram.softWords := d.dram.softWords.filter kept }

/-- Every engine cluster that holds no program is power-gated (R668): its engines' scratchpads and caches lose their content. -/
def gateIdle (d : Dev) : Dev :=
  loseScratch d (fun e => (List.range 32).all (fun k => decide ((threadOf d (e / 8 * 32 + k)).state = .empty)))

/-- The threads that hold a program of a head, rising. -/
def threadsOfHead (d : Dev) (h : Nat) : List Nat :=
  (d.beam.threads.filter (fun e => decide (e.2.head = h) && decide (e.2.state ≠ .empty))).map (·.1)

/-- First address of a cluster bank (R311). -/
def bankBase (c : Nat) : Nat := 0x1000000000 + c * 0x100000

/-- The ranges of a cluster bank that programs hold. -/
def bankRegions (d : Dev) (c : Nat) : List Span :=
  (d.beam.threads.filter (fun e => decide (e.1 / 32 = c) && decide (e.2.state ≠ .empty))).map (fun e =>
    { owner := e.1, lo := e.2.code, hi := e.2.code + e.2.bank })

/-- Free space of a cluster bank (R162): 1 MiB less programs, surfaces and the target of a migration. -/
def bankGaps (d : Dev) (c : Nat) : List (Nat × Nat) :=
  gapsIn [(bankBase c, bankBase c + 0x100000)] (bankRegions d c ++ heldSpans d ++
    (d.stoker.migration.map (fun m => ({ owner := m.surf, lo := m.dest, hi := m.dest + m.size } : Span))).toList)

/-- Where a program's region of n octets goes in its cluster bank: the lowest gap that holds it (assumption log 19). -/
def bankRegion (d : Dev) (c n : Nat) : Nat :=
  let gaps := bankGaps d c
  ((gaps.filter (fun g => decide (n ≤ g.2 - g.1))).foldl (fun (a : Option Nat) g =>
    match a with | some x => some (min x g.1) | none => some g.1) none).getD (bankBase c)

/-- The payload of a program's image (R697, R709). -/
def progPayload (d : Dev) (p : Ref) : List Byte := (bGet d (prog_IMAGE (refInst p))).drop 512

/-- The view image of a payload, with each relocated word's [18:0] replaced by the bank's base (R335, R709). -/
def viewImage (b : List Byte) (c : Nat) : List Byte :=
  let n := ofLe (sliceOf b 28 4)
  let k := ofLe (sliceOf b 32 4)
  (List.range k).foldl (fun img i =>
    let o := ofLe (sliceOf b (36 + n + 4 * i) 4)
    if o + 4 ≤ n then
      patchBytes img o (leBytes 4 (setField (ofLe (sliceOf img o 4)) 0 19 (bankBase c / 0x80000)))
    else img) (sliceOf b 36 n)

/-- MODE, PROGRAM_T and SCRATCH_USED of an engine follow its threads (R174, R312). -/
def reportEngine (d : Dev) (e : Nat) : Dev :=
  let ts := (List.range 4).map (fun k => threadOf d (4 * e + k))
  let on := ts.filter (fun x => decide (x.state ≠ .empty))
  let mode := match on with
    | [] => 0
    | x :: _ => if x.house then 2 else 1
  let d := nSets d [(engRep_MODE e, mode), (engRep_SCRATCH_USED e, on.foldl (fun a x => a + x.footprint) 0)]
  (List.range 4).foldl (fun d k =>
    let x := threadOf d (4 * e + k)
    nSet d (engRep_PROGRAM_T e k) (if x.state = .empty then 0 else x.prog)) d

/-- The registers as a placement and a restart of R336 leave them: PC at ENTRY, A, X, Y, L and F clear, the return stack
empty, long operations discarded; bits [1:0] of PC are always 0 (R356). A load that was still delayed is discarded with them
(assumption log 23). -/
def clearThread (x : Thread) : Thread :=
  { x with a := 0, x := 0, y := 0, l := 0, n := false, z := false, c := false, v := false,
           pc := BitVec.ofNat 32 (x.entry / 4 * 4), rstack := [], delayed := none, longs := [],
           arrived := none, timedAt := none }

/-- A program put on its thread with its region of the cluster bank at `code` and its view on some granules of the scratchpad, and
started (R335): the image copied to both with its relocations, the thread's state as R356 gives. On a faulted cluster it does not run
(R353). -/
def startThreadAt (s : State) (p : ProgPlace) (code : Nat) (view : List Nat) : State :=
  let d := s.dev
  let t := 4 * p.engine + p.thread
  let i := refInst p.prog
  let img := viewImage (progPayload d p.prog) (p.engine / 8)
  let house := nGet d (prog_KIND i) == 1
  let d := updThread d t (fun x => clearThread { Thread.reset with
    prog := p.prog, head := p.head, house := house, footprint := nGet d (prog_FOOTPRINT i), bank := nGet d (prog_BANK_BYTES i),
    entry := nGet d (prog_ENTRY i), view := view, code := code, farStores := x.farStores })
  let d := fillView d t img
  let d := nSets (setRun d t (if clusterOut d t then .faulted else .running)) [(prog_ENGINE i, p.engine), (prog_THREAD i, p.thread)]
  let s := withDev s (reportEngine d p.engine)
  let n := nGet s.dev (prog_BANK_BYTES i)
  if house then fabricPuts (withDev s (cleanWords s.dev code n)) code (img.take n) else s

/-- Whether the clock of a thread's cluster runs (R658). -/
def clusterRuns (d : Dev) (t : Nat) : Bool := !d.islands.gated.contains (t / 32)

/-- A thread's program removed (R337): the thread stops; far-window stores already issued still complete. -/
def stopThread (d : Dev) (t : Nat) : Dev :=
  let x := threadOf d t
  if x.state = .empty then d
  else
    let d := if allocOf d x.prog = 0 then d else
      nSets d [(prog_RUN_STATE (refInst x.prog), 0), (prog_ENGINE (refInst x.prog), 255), (prog_THREAD (refInst x.prog), 255)]
    let d := updThread d t (fun x => { Thread.reset with farStores := x.farStores })
    implicitEoi (reportEngine d (t / 4)) (t + 1)

/-- RUN_STATE of the programs that no thread holds (R331, R335): LOADING while a placement that is still to be taken has one, else
UNPLACED. -/
def showLoading (d : Dev) : Dev :=
  (allocated d 0x17).foldl (fun d p =>
    if 2 ≤ nGet d (prog_RUN_STATE (refInst p)) then d
    else nSet d (prog_RUN_STATE (refInst p)) (if d.stoker.next.any (fun n => n.progs.any (fun q => decide (q.prog = p))) then 1 else 0)) d

/-- A program that a placement takes from its thread (R337), unless another program has the thread by now (R763). -/
def leaveThread (d : Dev) (p : ProgPlace) : Dev :=
  if (threadOf d (4 * p.engine + p.thread)).prog = p.prog then stopThread d (4 * p.engine + p.thread) else d

/-- A program put on its thread and started (R335), in a free region of the cluster bank; a program that still held the thread
leaves it (R763). -/
def startThread (s : State) (p : ProgPlace) : State :=
  let t := 4 * p.engine + p.thread
  let s := if (threadOf s.dev t).prog = p.prog then s else withDev s (stopThread s.dev t)
  let n := nGet s.dev (prog_BANK_BYTES (refInst p.prog))
  startThreadAt s p (if n = 0 then 0 else bankRegion s.dev (p.engine / 8) n) (viewRegion s.dev t (nGet s.dev (prog_FOOTPRINT (refInst p.prog))))

/-- A thread fault (R350): the thread stops before the instruction, FAULT_CODE, FAULT_PC, FAULTS, THREAD_FAULT of the
cluster; sources that it claimed end (R622). -/
def faultThread (d : Dev) (t code : Nat) : Dev :=
  let x := threadOf d t
  let i := refInst x.prog
  let d := nInc (nSets d [(prog_FAULT_CODE i, code), (prog_FAULT_PC i, x.pc.toNat)]) (prog_FAULTS i)
  let d := setRun (updThread d t (fun x => { x with faultRun := x.faultRun + 1 })) t .faulted
  let d := serviceLog (trace d 7 t (code * 2 ^ 24 + x.pc.toNat % 2 ^ 16)) 2 t code
  raise (implicitEoi d (t + 1)) (704 + 4 * (t / 32))

/-- Whether a thread counts as executing for FRAME_OVERRUNS (R336): it runs, or its instruction waits; not in WAITPOS. -/
def executing (x : Thread) : Bool :=
  match x.state with
  | .running => true
  | .stalled _ _ _ _ => true
  | _ => false

/-- Whether a faulted raster thread stays stopped at a boundary (R351, R353): after faults in 3 frames in a row, and with its cluster. -/
def staysStopped (d : Dev) (t : Nat) : Bool :=
  (threadOf d t).state == .faulted && (decide (3 ≤ (threadOf d t).faultRun) || clusterOut d t)

/-- A raster thread at a frame boundary of its head (R336, R351): restarted, unless it stays stopped; a frame without a fault ends the
count of frames in a row. The restart that follows CRANK counts no overrun (R659). -/
def restartThread (d : Dev) (t : Nat) : Dev :=
  let x := threadOf d t
  if staysStopped d t then d
  else
    let d := updThread d t (fun x => { x with faultRun := if x.state = .faulted then x.faultRun else 0 })
    let d := if executing x && !bitOf d.power.crankHeads x.head then raise (nInc d (prog_FRAME_OVERRUNS (refInst x.prog))) (704 + 4 * (t / 32) + 1) else d
    setRun (updThread d t clearThread) t .running

/-- Whether some of a head's threads restarts after a fault (R351). -/
def anyRestarts (d : Dev) (ts : List Nat) : Bool := ts.any (fun t => (threadOf d t).state == .faulted && !staysStopped d t)

/-- Every raster thread of a head restarted (R336); after a fault the palettes of the head are loaded too (R351). -/
def restartRaster (d : Dev) (h : Nat) : Dev :=
  let ts := (threadsOfHead d h).filter (threadRaster d)
  let bad := anyRestarts d ts
  let d := ts.foldl restartThread d
  if bad then loadAllPalettes d h else d

/-- A commit that names a head is admitted: its raster threads that stay stopped after three faults may restart (R351). -/
def liftRasterFaults (d : Dev) (h : Nat) : Dev :=
  ((threadsOfHead d h).filter (fun t => threadRaster d t && decide (3 ≤ (threadOf d t).faultRun))).foldl (fun d t => updThread d t (fun x => { x with faultRun := 0 })) d

/-- A commit that takes a write to a faulted housekeeping program is admitted: it starts again at ENTRY (R352). -/
def liftHouseFault (d : Dev) (prog : Ref) : Dev :=
  ((d.beam.threads.filter (fun e => decide (e.2.prog = prog) && decide (e.2.state = .faulted) && perfMode d e.1 && !clusterOut d e.1)).map (·.1)).foldl
    (fun d t => setRun (updThread d t clearThread) t .running) d

/-- TID of a thread (R358). -/
def tidOf (d : Dev) (t : Nat) : Word :=
  let h := (threadOf d t).head
  BitVec.ofNat 32 (t % 4 + 4 * (t / 4) + (if h < 16 then h * 2 ^ 16 else 2 ^ 20))

end Sys2Proof.Machine
end

