-- ==== Sys2Proof/Machine/Wear.lean ====
section
/-!
DEFINITION. Panels and their wear as the heads and the memories see them (panel chapter): wear records, the cell grid, dose,
gains, interpolation and reduction (R429 to R431, R437, R442 to R449).
-/
namespace Sys2Proof.Machine

/-- A head's panel. -/
def panelOf (d : Dev) (h : Nat) : PanelSt := mapGet d.wear.panel h PanelSt.reset

/-- A head's panel changed. -/
def updPanel (d : Dev) (h : Nat) (f : PanelSt → PanelSt) : Dev :=
  { d with wear.panel := mapSet d.wear.panel h (f (panelOf d h)) PanelSt.reset }

/-- A wear record: its header of 16 octets and its body (R429). -/
def wearRecord (typ gen : Nat) (body : List Byte) : List Byte :=
  octets [typ, 1, 0, 0] ++ leBytes 4 gen ++ leBytes 4 body.length ++ leBytes 4 (crc32 body) ++ body

/-- GEN of a record. -/
def recordGen (b : List Byte) : Nat := ofLe (sliceOf b 4 4)
/-- LENGTH of a record. -/
def recordLength (b : List Byte) : Nat := ofLe (sliceOf b 8 4)
/-- The body of a record. -/
def recordBody (b : List Byte) : List Byte := b.drop 16
/-- Whether a record's body has its length and its CRC (R429). -/
def recordGood (b : List Byte) : Bool :=
  decide ((recordBody b).length = recordLength b) && decide (crc32 (recordBody b) = ofLe (sliceOf b 12 4))

/-- PANEL_W of an AGEING body (R429). -/
def panelW (a : List Byte) : Nat := ofLe (sliceOf a 0 2)
/-- PANEL_H of an AGEING body (R429). -/
def panelH (a : List Byte) : Nat := ofLe (sliceOf a 2 2)
/-- STRESS[i] of a colour (R429). -/
def stressAt (a : List Byte) (c i : Nat) : Nat := ofLe (sliceOf a (4 + 104 * c + 2 * i) 2)
/-- DOSE_STEP of a colour (R429). -/
def doseStep (a : List Byte) (c : Nat) : Nat := ofLe (sliceOf a (4 + 104 * c + 34) 4)
/-- DECAY[j] of a colour (R429). -/
def decayAt (a : List Byte) (c j : Nat) : Nat := ofLe (sliceOf a (4 + 104 * c + 38 + 2 * j) 2)

/-- Columns of cells on a panel of a width (R430). -/
def gridCols (w : Nat) : Nat := ceilDiv w 16
/-- Rows of cells on a panel of a height (R430). -/
def gridRows (h : Nat) : Nat := ceilDiv h 16
/-- n_c of a cell (R430). -/
def cellPixels (w h c r : Nat) : Nat := min 16 (w - 16 * c) * min 16 (h - 16 * r)

/-- Whether an AGEING body is valid for a head (R431): for its timing in force, and for that of its members while it is stopped. -/
def ageingFits (d : Dev) (h : Nat) (a : List Byte) : Bool :=
  let t := (headOf d h).timing
  if headRuns d h then decide (panelW a = t.hActive) && decide (panelH a = t.vActive)
  else decide (panelW a = liveNat d h (head_H_ACTIVE h)) && decide (panelH a = liveNat d h (head_V_ACTIVE h))
/-- Whether an AGEING body's tables are valid (R431). -/
def ageingGood (a : List Byte) : Bool :=
  decide (a.length = 316) && (List.range 3).all (fun c => decide (decayAt a c 0 = 32768) && decide (0 < doseStep a c))

/-- The stress of a component value (R442). -/
def stressOf (a : List Byte) (c v : Nat) : Int :=
  let i := v / 256
  let lo : Int := stressAt a c i
  let hi : Int := stressAt a c (i + 1)
  lo + ((hi - lo) * (v % 256 : Nat) + 128) / 256

/-- The dose that a sum adds to a cell, in units of 2^-32 (R443): the frame period is in ns. -/
def doseDelta (t : Rat) (pixels sum : Nat) : Nat :=
  ((sum : Rat) * t * (2 ^ 32 : Nat) / ((256 * pixels * 10 ^ 9 : Nat) : Rat)).floor.toNat

/-- The integer part of a cell's running dose (R443). -/
def doseUnits (x : PanelSt) (cell c : Nat) : Nat := mapGet x.dose (3 * cell + c) 0 / 2 ^ 32

/-- Cells of a panel's grid. -/
def cellCount (a : List Byte) : Nat := gridCols (panelW a) * gridRows (panelH a)

/-- A DOSE body of the running doses (R429, R443). -/
def doseBody (x : PanelSt) : List Byte :=
  leBytes 2 (gridCols (panelW x.ageing)) ++ leBytes 2 (gridRows (panelH x.ageing)) ++
  ((List.range (cellCount x.ageing)).map (fun k => leBytes 4 (doseUnits x k 0) ++ leBytes 4 (doseUnits x k 1) ++ leBytes 4 (doseUnits x k 2))).flatten

/-- The running doses that a DOSE body gives (R443, R444). -/
def doseFrom (body : List Byte) (cells : Nat) : SMap Nat :=
  mapOfList 0 0 ((List.range (3 * cells)).map (fun k => ofLe (sliceOf body (4 + 4 * k) 4) * 2 ^ 32))

/-- A DOSE body is usable when its grid is that of the panel (R453). -/
def doseBodyFits (a body : List Byte) : Bool :=
  decide (ofLe (sliceOf body 0 2) = gridCols (panelW a)) && decide (ofLe (sliceOf body 2 2) = gridRows (panelH a)) &&
  decide (body.length = 4 + 12 * cellCount a)

/-- Whether dose is counted into the running doses of a head's panel (R444). -/
def doseCounted (d : Dev) (h : Nat) : Bool :=
  decide (nGet d (panel_IDENTITY_STATE h) = 2) && (decide (nGet d (panel_WEAR_STATE h) = 1) || decide (nGet d (panel_WEAR_STATE h) = 4))

/-- Whether dose is counted (R444): into the running doses, or kept apart from lane READY to the result of the check. -/
def doseWanted (d : Dev) (h : Nat) : Bool := doseCounted d h || decide (nGet d (panel_IDENTITY_STATE h) = 1)

/-- Whether the Firekeeper can add dose now (R444): it runs, and a group without a retired channel holds the doses. -/
def doseHeld (d : Dev) : Bool := decide (nGet d dev_FK_STATE = 1) && !d.wear.doseLost && decide (realizeGroup d ≠ 0)

/-- DOSE_GAP_MS counts the time during which dose is lost (R444). -/
def countGap (d : Dev) (h : Nat) : Dev :=
  let x := panelOf d h
  let d := match x.gapFrom with
    | some t =>
      let k := (d.now - t) / ms 1
      updPanel (nAdd d (panel_DOSE_GAP_MS h) k) h (fun x => { x with gapFrom := some (t + k * ms 1) })
    | none => d
  if doseWanted d h && !doseHeld d then
    (if (panelOf d h).gapFrom.isSome then d else updPanel d h (fun x => { x with gapFrom := some d.now }))
  else updPanel d h (fun x => { x with gapFrom := none })

/-- A READ of a wear record (R437). -/
def readRecord (d : Dev) (h typ off len : Nat) : Dev :=
  sendCtrl d h 2 (octets [2, typ] ++ leBytes 4 off ++ leBytes 2 len)

/-- The next READ of a record that has been read so far (R437): the header, then the body in pieces of at most 1,000 octets. -/
def readNext (d : Dev) (h typ : Nat) (b : List Byte) : Dev :=
  if b.length < 16 then readRecord d h typ b.length (16 - b.length)
  else readRecord d h typ b.length (min 1000 (16 + recordLength b - b.length))

/-- Whether a record has been read whole. -/
def recordWhole (b : List Byte) : Bool := decide (16 ≤ b.length) && decide (16 + recordLength b ≤ b.length)

/-- A record as read so far. -/
def recordOf (d : Dev) (h typ : Nat) : List Byte := mapGet (panelOf d h).records typ []

/-- Reading of a record begins anew. -/
def startRead (d : Dev) (h typ : Nat) : Dev :=
  readNext (updPanel d h (fun x => { x with records := mapErase x.records typ })) h typ []

/-- The running doses have lost their memory (R444): each accepted panel's last committed DOSE record is read again, and the gap of each panel
begins where no group can hold them. -/
def reloadDoses (d : Dev) : Dev :=
  let d := { d with wear.doseLost := decide (realizeGroup d = 0) }
  (List.range 16).foldl (fun d h =>
    let d := updPanel d h (fun x => { x with dose := [], early := [] })
    countGap (if doseCounted d h && !d.wear.doseLost then startRead d h 2 else d) h) d

/-- Whether a panel's cell grid is known (R430): that of its AGEING record. -/
def hasGrid (x : PanelSt) : Bool := decide (x.ageing.length = 316)

/-- Whether an accepted panel's running doses are in memory (R444): no group lacks for them, and the DOSE record that they come from has been
read whole. -/
def dosesIn (d : Dev) (h : Nat) : Bool := hasGrid (panelOf d h) && !d.wear.doseLost && recordWhole (recordOf d h 2)

/-- GRID of a panel (R430, R457): 0 while no grid is known. -/
def gridOf (x : PanelSt) : Nat := if hasGrid x then gridRows (panelH x.ageing) * 65536 + gridCols (panelW x.ageing) else 0

/-- Lrel of a dose, in 1/32,768 (R445). -/
def lrelOf (a : List Byte) (c dose : Nat) : Rat :=
  let D : Rat := (dose : Nat) / (2 ^ 32 : Nat)
  let s := doseStep a c
  let j := dose / 2 ^ 32 / max 1 s
  if 32 ≤ j then (decayAt a c 32 : Nat)
  else (decayAt a c j : Nat) + ((decayAt a c (j + 1) : Int) - decayAt a c j : Int) * (D - (j * s : Nat)) / (max 1 s : Nat)

/-- Lrel of every cell and colour, by 3 x cell + colour. -/
def lrels (x : PanelSt) : List Rat :=
  (List.range (3 * cellCount x.ageing)).map (fun k => lrelOf x.ageing (k % 3) (mapGet x.dose k 0))

/-- e of a gain (R445). -/
def gainCode (lref lrel : Rat) : Nat :=
  let g : Rat := if lrel ≤ lref then 1 else lref / lrel
  min 255 (roundRat (512 * (1 - g))).toNat

/-- The gains that the running doses give (R445). -/
def newGains (d : Dev) (h : Nat) : List Nat :=
  let ls := lrels (panelOf d h)
  let low := ls.foldl (fun (a : Rat) x => if x < a then x else a) (ls.headD 0)
  let lref : Rat := if low < (nGet d (panel_COMP_FLOOR h) : Nat) then (nGet d (panel_COMP_FLOOR h) : Nat) else low
  ls.map (fun l => gainCode lref l)

/-- Whether a head's gains are those of a compensated panel (R446, R447). -/
def compensated (d : Dev) (h : Nat) : Bool :=
  decide (nGet d (panel_WEAR_STATE h) = 1) && decide (nGet d (panel_COMP_ENABLE h) = 1)

/-- e moved at most 1 toward its new value (R446). -/
def stepToward (old new : Nat) : Nat := if old < new then old + 1 else if new < old then old - 1 else old

/-- The gains of a recomputation (R446): set at once, or each moved by at most 1. -/
def setGains (d : Dev) (h : Nat) (atOnce : Bool) : Dev :=
  if compensated d h then
    let x := panelOf d h
    let l := newGains d h
    let l := if atOnce then l else ((List.range l.length).zip l).map (fun e => stepToward (mapGet x.gains e.1 0) e.2)
    updPanel d h (fun x => { x with gains := mapOfList 0 0 l, gainBad := [] })
  else updPanel d h (fun x => { x with gains := [], gainBad := [] })

/-- The largest loss and its cell (R454): the first cell in row order that has it, rounded down (assumption log 25). -/
def worstLoss (x : PanelSt) : Rat × Nat :=
  let ls := lrels x
  ((List.range ls.length).zip ls).foldl (fun (a : Rat × Nat) e => if a.1 < 32768 - e.2 then (32768 - e.2, e.1 / 3) else a) (0, 0)

/-- The losses found by a recomputation (R454): PANEL_WEAR when the threshold is first reached. -/
def checkWear (d : Dev) (h : Nat) : Dev :=
  let x := panelOf d h
  let w := worstLoss x
  let cols := max 1 (gridCols (panelW x.ageing))
  let d := nSets d [(panel_WORST_LOSS h, w.1.floor.toNat), (panel_WORST_CELL h, w.2 / cols * 65536 + w.2 % cols)]
  let high := decide (((nGet d (panel_WEAR_THRESHOLD h) : Nat) : Rat) ≤ w.1)
  let d := if high && !x.high then raise d (576 + 4 * h + 2) else d
  updPanel d h (fun x => { x with high := high })

/-- g of a cell that an index names, as 512 - e; an index outside the grid takes the nearest cell (R448). -/
def gainAt (x : PanelSt) (col : Nat) (cx cy : Int) : Nat :=
  let cols := gridCols (panelW x.ageing)
  let rows := gridRows (panelH x.ageing)
  let c := (clampInt 0 ((cols : Int) - 1) cx).toNat
  let r := (clampInt 0 ((rows : Int) - 1) cy).toNat
  if x.gainBad.contains (r * cols + c) then 512 else 512 - mapGet x.gains (3 * (r * cols + c) + col) 0

/-- A component after compensation at a panel position (R448). -/
def compensate (x : PanelSt) (col px py v : Nat) : Nat :=
  if x.gains.isEmpty then v
  else
    let ax : Int := 2 * (px : Int) - 15
    let ay : Int := 2 * (py : Int) - 15
    let cx := ax / 32
    let cy := ay / 32
    let fx := (ax % 32).toNat
    let fy := (ay % 32).toNat
    let G := (32 - fx) * (32 - fy) * gainAt x col cx cy + fx * (32 - fy) * gainAt x col (cx + 1) cy +
      (32 - fx) * fy * gainAt x col cx (cy + 1) + fx * fy * gainAt x col (cx + 1) (cy + 1)
    (roundDiv (v * G : Nat) 524288).toNat

/-- The ordered-dither matrix of R449, by column then row. -/
def ditherAt (x y : Nat) : Nat :=
  ([0, 8, 2, 10, 12, 4, 14, 6, 3, 11, 1, 9, 15, 7, 13, 5] : List Nat).getD (4 * (y % 4) + x % 4) 0

/-- A component reduced to n bits (R449). -/
def reduceTo (dither : Bool) (n px py v : Nat) : Nat :=
  let t := if dither then (2 * ditherAt px py + 1) * 4095 / 32 else 2047
  (v * (2 ^ n - 1) + t) / 4095

/-- The lowest cell row of a head with sums, once all its lines are sent (R443). -/
def readyRow (d : Dev) (h : Nat) : Option Nat :=
  let q := headOf d h
  let cols := max 1 (gridCols q.timing.hActive)
  match (panelOf d h).sums with
  | [] => none
  | (k, _) :: _ =>
    let r := k / 3 / cols
    if 16 * (r + 1) ≤ q.panelLine ∨ q.timing.vActive ≤ q.panelLine then some r else none

/-- The sums of one cell row go into the running doses, or are kept apart during a check, where the Firekeeper can add them (R443, R444). -/
def passRow (d : Dev) (h r : Nat) : Dev :=
  let q := headOf d h
  let x := panelOf d h
  let cols := max 1 (gridCols q.timing.hActive)
  let mine := x.sums.filter (fun e => decide (e.1 / 3 / cols = r))
  let delta := fun (e : Nat × Nat) =>
    doseDelta q.timing.frameNs (max 1 (cellPixels q.timing.hActive q.timing.vActive (e.1 / 3 % cols) r)) e.2
  let add := fun (m : SMap Nat) => mine.foldl (fun m e => mapSet m e.1 (mapGet m e.1 0 + delta e) 0) m
  let rest := x.sums.filter (fun e => decide (e.1 / 3 / cols ≠ r))
  let d := updPanel d h (fun x => { x with sums := rest })
  let d := if doseHeld d = false then d
    else if doseCounted d h then updPanel d h (fun x => { x with dose := add x.dose })
    else if nGet d (panel_IDENTITY_STATE h) = 1 then
      (if hasGrid x then updPanel d h (fun x => { x with early := add x.early })
       else updPanel d h (fun x => { x with earlyOpen := true }))
    else d
  countGap d h

/-- Every row of sums whose lines are sent is passed on before the timing of the head changes (R443). -/
def flushDose (d : Dev) (h : Nat) : Dev :=
  (panelOf d h).sums.foldl (fun d _ => match readyRow d h with
    | none => d
    | some r => passRow d h r) d

/-- Cells that the gain stores of other heads take (R447). -/
def storeUsed (d : Dev) (h : Nat) : Nat :=
  (List.range 16).foldl (fun a k => if k ≠ h ∧ nGet d (panel_WEAR_STATE k) = 1 then a + cellCount (panelOf d k).ageing else a) 0

/-- The wear state that an accepted panel's AGEING record gives (R431, R447). -/
def wearStateFor (d : Dev) (h : Nat) (rec : List Byte) : Nat :=
  let a := recordBody rec
  if recordGood rec = false ∨ ageingGood a = false then 2
  else if ageingFits d h a = false then 3
  else if 131072 < storeUsed d h + cellCount a then 4
  else 1

/-- The state of an accepted panel's record looked at again for a new timing of its head (R431): the sums under way
end, and the gains where the state changes. -/
def wearAgain (d : Dev) (h : Nat) : Dev :=
  if nGet d (panel_IDENTITY_STATE h) ≠ 2 then d
  else
    let st := wearStateFor d h (recordOf d h 1)
    let d := if (panelOf d h).sums.isEmpty then d else updPanel d h (fun x => { x with sums := [] })
    if st = nGet d (panel_WEAR_STATE h) then d
    else arm (updPanel (nSet d (panel_WEAR_STATE h) st) h (fun x => { x with first := true, gains := [] })) tkGain h 0

/-- n octets that the spec calls random (R432), from the free values (assumption log 4). -/
def randomOctets (d : Dev) (n : Nat) : List Byte := freeBytes d.free n

/-- An ID_REQUEST with a fresh NONCE (R432, R435). -/
def sendIdRequest (d : Dev) (h : Nat) : Dev :=
  let n := randomOctets d 32
  let d := updPanel (freeUsedN d 32) h (fun x => { x with nonce := n, attempts := x.attempts + 1 })
  arm (sendCtrl d h 1 (octets [1] ++ n ++ sliceOf (bGet d dev_SERIAL) 0 16)) tkId h (ms 60)

/-- The check of a head's panel begins (R432): at start-up and after every retrain. A record written back meanwhile stays so, and its 150 ms
run on (R439). -/
def startIdentity (d : Dev) (h : Nat) : Dev :=
  let d := nSets d [(panel_IDENTITY_STATE h, 1), (panel_FAIL_REASON h, 0)]
  let d := updPanel d h (fun x =>
    { x with lane := ctrlLane d h, attempts := 0, digest := [], records := [], newId := [], early := [], earlyOpen := false })
  sendIdRequest d h

/-- The panel of a head whose lane is READY and has not been checked there begins its check (R432). -/
def panelCheck (d : Dev) (h : Nat) : Dev :=
  let l := ctrlLane d h
  if l < 32 ∧ nGet d (lane_STATE l) = 6 ∧ nGet d (lane_DIRECTION l) = 1 ∧ (panelOf d h).lane ≠ l then startIdentity d h else d

end Sys2Proof.Machine
end

