-- ==== Sys2Proof/Machine/Apply.lean ====
section
/-!
DEFINITION. A commit that applies to a head, and a head that starts or stops (R88, R120 to R123, R128, R137, R168, R174, R175,
R185, R255, R258 to R261, R335, R337, R348).
-/
namespace Sys2Proof.Machine

/-- The reference of FRONT of the surface of a member reference. -/
def isFront (r : Ref) : Bool := refClass r == 0x13 && refMember r == 15

/-- A write that takes effect on a head (R88): the head's live value, unless a newer commit has given it one, and for every member but
FRONT what a read returns, which is the write of the newest commit that has taken effect anywhere. -/
def setLive (d : Dev) (h num : Nat) (r : Ref) (v : Val) : Dev :=
  let d := if mapGet d.scene.liveAt (16 * r + h) 0 ≤ num then
      { d with scene.live := mapPut d.scene.live (16 * r + h) v, scene.liveAt := mapPut d.scene.liveAt (16 * r + h) num }
    else d
  if isFront r then d
  else if mapGet d.scene.liveNum r 0 ≤ num then
    mSet { d with scene.liveNum := mapPut d.scene.liveNum r num } r v
  else d

/-- The writes of a commit that take effect on a head, in order. -/
def setLives (d : Dev) (h num : Nat) (ws : List (Ref × Val)) : Dev := ws.foldl (fun d w => setLive d h num w.1 w.2) d

/-- The surfaces of a head's live scene. -/
def liveSurfaces (d : Dev) (h : Nat) : List Ref := (liveScene d h).filter (fun o => decide (refClass o = 0x13))

/-- One commit's writes on a head (R120): surfaces that it brings into the live scene without a FRONT of its own take the
FRONT recorded at admission (R128). -/
def applyWrites (d : Dev) (h : Nat) (c : PendingCommit) : Dev :=
  let before := liveSurfaces d h
  let ws := takenFor c.writes h
  let d := setLives d h c.number ws
  ((liveSurfaces d h).filter (fun o => !before.contains o && !ws.any (fun w => decide (w.1 = surf_FRONT (refInst o))))).foldl
    (fun d o => { d with scene.live := mapPut d.scene.live (16 * surf_FRONT (refInst o) + h) (.num (mapGet c.fronts (refInst o) 0)) }) d

/-- Whether later commits applied at the same boundary overwrite every write that a commit took for a head (R122). -/
def superseded (h : Nat) (c : PendingCommit) (later : List PendingCommit) : Bool :=
  let ws := takenFor c.writes h
  !ws.isEmpty && ws.all (fun w => later.any (fun e => (takenFor e.writes h).any (fun x => decide (x.1 = w.1))))

/-- The record of a commit that has applied on a head, and the notification of R123. -/
def recordApplied (d : Dev) (h : Nat) (c : PendingCommit) (sup : Bool) : Dev :=
  let i := c.number % 16
  let d := nSets d [(commit_APPLIED_MASK i, setBit (nGet d (commit_APPLIED_MASK i)) h true),
    (commit_SUPERSEDED_MASK i, setBit (nGet d (commit_SUPERSEDED_MASK i)) h sup), (commit_APPLY_TIME_H i h, tbNs d)]
  let d := { d with scene.commits := (d.scene.commits.map (fun x => if x.number = c.number then
      { x with waiting := setBit x.waiting h false, holds := mapErase x.holds h } else x)).filter (fun x => decide (x.waiting ≠ 0)) }
  let d := trace d 2 h c.number
  notifyController d { kind := 2, flags := 0, ref := commit_APPLIED_MASK i, time := tbNs d, typ := Ty.u16.code,
                       val := beBytes 2 (nGet d (commit_APPLIED_MASK i)), source := none }

/-- Palettes that a commit adds to a head's live scene or changes are loaded (R185). -/
def loadChanged (d : Dev) (h : Nat) (before : List Ref) (cs : List PendingCommit) : Dev :=
  loadPalettes d h ((liveScene d h).filter (fun o => decide (refClass o = 0x16) &&
    (!before.contains o || cs.any (fun c => (takenFor c.writes h).any (fun w => decide (refObj w.1 = o))))))

/-- PIPES of every band (R96): the pipes that the live placement gives it. -/
def reportBands (d : Dev) : Dev :=
  (allocated d 0x11).foldl (fun d b =>
    nSet d (band_PIPES (refInst b)) ((((d.stoker.bands.filter (fun p => decide (p.band = b))).map placePipes).flatten).foldl
      (fun a p => setBit a p true) 0)) d

/-- TIME_PERMILLE of a pipe (R174): the pipe time of R151 over the time the split gives. -/
def pipePermille (d : Dev) (b : BandPlace) : Nat :=
  let t := (headOf d b.head).timing
  (roundRat (((t.hActive + 32) * 10 : Nat) / 6 * 1000 / ((max 1 b.split : Nat) * t.lineNs))).toNat

/-- The report of a pipe (R174). -/
def reportPipe (d : Dev) (p : Nat) : Dev :=
  let bs := bandsOn d p
  let d := nSet d (pipeRep_FAULTED p) (pipeDown d p).toNat
  match bs with
  | [] => nSets d [(pipeRep_HEAD p, 255), (pipeRep_TIME_PERMILLE p, 0), (pipeRep_SRAM_BYTES p, 0), (pipeRep_SLOTS p, 0)]
  | b :: _ =>
    let h := b.head
    let n := fun (f : Nat → Bool) => maxOf (bs.map (fun x => ((pipeSlots d x p).filter (fun s => f s.1)).length))
    nSets d [(pipeRep_HEAD p, h), (pipeRep_TIME_PERMILLE p, maxOf (bs.map (pipePermille d))),
      (pipeRep_SRAM_BYTES p, pipeSram d (liveView d h) (effectiveActs d h) h bs p),
      (pipeRep_SLOTS p, 16 * n (fun s => decide (s < 2)) + n (fun s => decide (2 ≤ s)))]

/-- The reports of the pipes that a head has or had (R175). -/
def reportPipes (d : Dev) (h : Nat) : Dev :=
  ((List.range 32).filter (fun p => (pipesOf d h).contains p || decide (nGet d (pipeRep_HEAD p) = h))).foldl reportPipe d

/-- Every pipe's report. -/
def reportEveryPipe (d : Dev) : Dev := (List.range 32).foldl reportPipe d

/-- MODE of a head's report (R174). -/
def headMode (d : Dev) (h : Nat) : Nat :=
  let acts := mapGet d.stoker.effective h []
  if !headRuns d h then 0
  else if hearthOnly acts h then 3
  else if (checkedLayers d (liveView d h) h).any (fun l => decide (degradeOf acts l ≠ 0)) then 2
  else 1

/-- The report of a head (R174). -/
def reportHead (d : Dev) (h : Nat) : Dev :=
  let v := liveView d h
  let d := updHead (nAdd d (headRep_UNDERRUNS h) (headOf d h).underruns) h (fun q => { q with underruns := 0 })
  match mapFind d.stoker.heads h with
  | some p =>
    nSets d [(headRep_CLASS h, p.cls), (headRep_MULTIPLE h, p.k), (headRep_OFFSET_SLOTS h, p.j), (headRep_OFFSET_NS h, wholeOf p.phi),
      (headRep_PIPES h, (pipesOf d h).foldl (fun a p => setBit a p true) 0),
      (headRep_LANE_PERMILLE h, (roundRat (laneBits v h * 1000 / laneCapacity v h)).toNat), (headRep_MODE h, headMode d h)]
  | none =>
    nSets d [(headRep_CLASS h, 255), (headRep_MULTIPLE h, 0), (headRep_OFFSET_SLOTS h, 0), (headRep_OFFSET_NS h, 0),
      (headRep_PIPES h, 0), (headRep_LANE_PERMILLE h, 0), (headRep_MODE h, 0)]

/-- What a head is placed on after some commits apply, or after a re-run of R166 (R168): the last waiting placement that they
bring, if any. -/
def nextFor (d : Dev) (h : Nat) (nums : List Nat) : Option NextPlace :=
  (d.stoker.next.filter (fun n => decide (n.head = h) && (decide (n.number = 0) || nums.contains n.number))).getLast?

/-- A head's bands and programs take their next placement (R168, R335, R337): threads of programs that leave stop, those of
programs that come start. -/
def takePlacement (s : State) (h : Nat) (nums : List Nat) : State :=
  let d := s.dev
  match nextFor d h nums with
  | none => s
  | some n =>
    let pipes := pipesOf d h
    let old := d.stoker.progs.filter (fun p => decide (p.head = h))
    let gone := old.filter (fun p => !n.progs.contains p)
    let come := n.progs.filter (fun p => !old.contains p)
    let d := { d with stoker.bands := d.stoker.bands.filter (fun b => decide (b.head ≠ h)) ++ n.bands,
                      stoker.progs := d.stoker.progs.filter (fun p => decide (p.head ≠ h)) ++ n.progs,
                      stoker.next := d.stoker.next.filter (fun x => !(decide (x.head = h) && (decide (x.number = 0) || nums.contains x.number))) }
    let d := loadNewPipes (gone.foldl leaveThread d) h pipes
    let s := come.foldl startThread (withDev s d)
    withDev s (showLoading s.dev)

/-- The actions of R166 in effect on a head from this boundary on (R168). -/
def takeActions (d : Dev) (h : Nat) : Dev := { d with stoker.effective := mapSet d.stoker.effective h d.stoker.actions [] }

/-- The timing that a view gives a head (R248, R261). -/
def timingOf (v : View) (h : Nat) : Timing :=
  { pixelClock := v.nat (head_PIXEL_CLOCK h), hActive := v.nat (head_H_ACTIVE h), hFront := v.nat (head_H_FRONT h),
    hSync := v.nat (head_H_SYNC h), hBack := v.nat (head_H_BACK h), vActive := v.nat (head_V_ACTIVE h),
    vFront := v.nat (head_V_FRONT h), vSync := v.nat (head_V_SYNC h), vBack := v.nat (head_V_BACK h),
    linkBpp := v.nat (head_LINK_BPP h), lane := v.nat (head_LANE h), lanes := v.nat (head_LANES h) }

/-- Whether a change between two timings needs a re-lock (R261). -/
def needsRelock (a b : Timing) : Bool :=
  !(decide (a.pixelClock = b.pixelClock) && decide (a.hActive = b.hActive) && decide (a.vActive = b.vActive) &&
    decide (a.linkBpp = b.linkBpp) && decide (a.lane = b.lane) && decide (a.lanes = b.lanes))

/-- A coupling class without a running head is given up, and its anchor with it (R144, R258). -/
def dropClasses (d : Dev) : Dev :=
  let used := (d.stoker.heads ++ d.stoker.headsNext).map (fun e => e.2.cls)
  { d with stoker.classes := d.stoker.classes.filter (fun e => used.contains e.1),
           heads.anchors := d.heads.anchors.filter (fun e => used.contains e.1) }

/-- Whether every lane of a head in force is READY. -/
def lanesReady (d : Dev) (h : Nat) : Bool :=
  let ls := headLanes d h
  !ls.isEmpty && ls.all (fun l => decide (nGet d (lane_STATE l) = 6))

/-- A starting head whose lanes report ready (R258): the anchor of its class is fixed if there is none, and its first target
boundary is the first at least 250 µs later. -/
def anchorHead (d : Dev) (h : Nat) : Dev :=
  match mapFind d.stoker.heads h with
  | none => d
  | some p =>
    let t : Rat := (tbNs d : Nat)
    let a : Rat := match mapFind d.heads.anchors p.cls with
      | some a => a
      | none => t + 250000 - p.phi
    let o := a + p.phi
    let T := (headOf d h).timing.frameNs
    let n := ((t + 250000 - o) / T).ceil.toNat
    updHead { d with heads.anchors := mapPut d.heads.anchors p.cls a } h (fun x => { x with origin := o, frame := n, lanesReady := true })

/-- A starting head's lanes looked at: once each is READY its first boundary is set (R258, R260). -/
def lookLanes (d : Dev) (h : Nat) : Dev :=
  if nGet d (head_STATE h) = 1 ∧ (headOf d h).lanesReady = false ∧ lanesReady d h then anchorHead d h else d

/-- The coupling that the Stoker gave a head takes effect (R144). -/
def takeCoupling (d : Dev) (h : Nat) : Dev :=
  match mapFind d.stoker.headsNext h with
  | some p => { d with stoker.heads := mapPut d.stoker.heads h p, stoker.headsNext := mapErase d.stoker.headsNext h }
  | none => d

/-- ENABLE 1 applies to a stopped head (R260): STARTING, the RWL registers loaded (R251); the others keep what they hold. -/
def startHead (d : Dev) (h : Nat) : Dev :=
  let d := dropClasses (takeCoupling (nSets (flushDose d h) [(head_STATE h, 1), (head_FRAME_COUNT h, 0)]) h)
  let d := updHead d h (fun x => { x with
    timing := timingOf (liveView d h) h, upol := liveNat d h (head_UNDERRUN_POLICY h), origin := 0, frame := 0, dark := 0, relock := [],
    lanesReady := false, frameDone := true, lines := [], prev := [], cursor := 0, mixed := [], panelLine := 0, underLine := none,
    stepped := 0 })
  updPins (panelCheck (lookLanes (wearAgain d h) h) h)

/-- A head stops (R255, R260): its last FRAME_DONE comes one line time later, its timed writes are discarded (R348), its
coupling ends. -/
def stopHeadNow (d : Dev) (h : Nat) : Dev :=
  let st := nGet d (head_STATE h)
  let d := if 2 ≤ st then arm d tkHeadStop h (wholeOf (headOf d h).timing.lineNs) else d
  let d := discardTimed d h
  let d := nSet d (head_STATE h) 0
  let d := updHead d h (fun x => { x with dark := 0, relock := [], lanesReady := false, heldRestart := false, lines := [] })
  let d := { d with stoker.heads := mapErase d.stoker.heads h, stoker.effective := mapErase d.stoker.effective h,
                    scene.ended := mapSet d.scene.ended h (mapGet d.scene.ended h [] ++ mapGet d.scene.reading h []) [],
                    scene.reading := mapErase d.scene.reading h }
  updPins (dropClasses d)

/-- Commits applied to a head at once, in order (R120 to R123): writes, records, palettes, placement, and the layers that were withdrawn
when they were admitted (R137). -/
def applyCommits (s : State) (h : Nat) (cs : List PendingCommit) : State :=
  match cs with
  | [] => s
  | _ =>
    let d := s.dev
    let before := liveScene d h
    let d := cs.foldl (fun d c => applyWrites d h c) d
    let d := ((List.range cs.length).zip cs).foldl (fun d x => recordApplied d h x.2 (superseded h x.2 (cs.drop (x.1 + 1)))) d
    let d := { d with scene.withdrawn := d.scene.withdrawn.filter (fun k => !(decide (k % 16 = h) && cs.any (fun c => c.lifts.contains k))) }
    let s := takePlacement (withDev s d) h (cs.map (·.number))
    withDev s (loadChanged s.dev h before cs)

/-- Every commit still pending on a head applies to it (R121). -/
def applyRest (s : State) (h : Nat) : State := applyCommits s h (pendingOn s.dev h)

/-- The coupling of a head that runs the start sequence anew with a new timing (R258, R768): its class gives it an offset of 0, and a class
that it left ends. -/
def recouple (d : Dev) (h : Nat) : Dev :=
  let d := takeCoupling d h
  dropClasses (match mapFind d.stoker.heads h with
    | some p => { d with stoker.heads := mapPut d.stoker.heads h (if p.loose then { p with loose := false } else p) }
    | none => d)

/-- The reports that follow what a head has taken (R96, R174, R175). -/
def reportAll (d : Dev) (h : Nat) : Dev := reportPipes (reportBands (reportHead d h)) h

/-- The timing that some commits together give a head (R261). -/
def resultTiming (d : Dev) (h : Nat) (cs : List PendingCommit) : Timing :=
  timingOf (overWrites (liveView d h) ((cs.map (fun c => takenBy d c h)).flatten)) h

/-- What follows when commits have applied to a head without frames (R121, R246): it starts, or takes its new timing, which is that of the
commits of its re-lock if it starts again for one (R768). -/
def settleIdle (d : Dev) (h : Nat) : Dev :=
  let st := nGet d (head_STATE h)
  let on := liveNat d h (head_ENABLE h) == 1
  let new := resultTiming d h ((pendingOn d h).filter (fun c => (headOf d h).relock.contains c.number))
  let d :=
    if on && st == 0 then startHead d h
    else if on && st == 1 && (headOf d h).timing != new then
      lookLanes (wearAgain (updHead (recouple (flushDose d h) h) h (fun x => { x with timing := new, lanesReady := false })) h) h
    else if st == 0 then wearAgain d h
    else d
  reportAll (takeActions (panelCheck (updPins d) h) h) h

/-- ENABLE that results from some commits together. -/
def resultEnable (d : Dev) (h : Nat) (cs : List PendingCommit) : Bool :=
  (overWrites (liveView d h) ((cs.map (fun c => takenBy d c h)).flatten)).nat (head_ENABLE h) == 1

/-- Commits of a head without frames applied at once (R121, R767): one that stops a STARTING head discards the timed writes of the head and
of the pipes that it leaves (R348), and every commit still pending on it applies too. -/
def applyIdle (s : State) (h : Nat) (cs : List PendingCommit) : State :=
  let s := if resultEnable s.dev h cs then s else withDev s (discardTimed s.dev h)
  let s := applyCommits s h cs
  let s := if nGet s.dev (head_STATE h) = 1 ∧ liveNat s.dev h (head_ENABLE h) ≠ 1 then
      applyRest (withDev s (stopHeadNow s.dev h)) h
    else s
  withDev s (settleIdle s.dev h)

end Sys2Proof.Machine
end

