-- ==== Sys2Proof/Machine/Uplinks.lean ====
section
/-!
DEFINITION. What an uplink sends (network chapter, R558, R561 to R566, R571, R572): addresses, frames, the transmit queues and the fall
of a link.
-/
namespace Sys2Proof.Machine

/-- Whether the network island works: on, and its clock not gated (R558, R16). -/
def networkRuns (d : Dev) : Bool := !d.islands.off.contains 101 && !d.islands.gated.contains 101

/-- Whether uplink u sends IP frames and talker PDUs (R571). -/
def sendsIp (d : Dev) (u : Nat) : Bool := nGet d addr_REDUNDANCY == 0 || nGet d addr_ACTIVE == u

/-- The MAC address of an uplink (R571). -/
def macOf (d : Dev) (u : Nat) : List Byte :=
  sliceOf (if u = 0 ∨ nGet d addr_REDUNDANCY = 1 then bGet d addr_MAC_0 else bGet d addr_MAC_1) 0 6

/-- A transmit queue of an uplink (R564): 0 gPTP, 1 class A, 2 class B, 3 best effort. -/
def queueOf (d : Dev) (u q : Nat) : List TxFrame := mapGet d.net.queues (4 * u + q) []

/-- The depth of a transmit queue (R564). -/
def queueDepth (q : Nat) : Nat := [8, 16, 16, 64].getD q 0

/-- A frame put into a transmit queue (R564), padded to the 60 octets of IEEE 802.3 before its FCS: discarded and counted where LINK is 0
or the queue is full. -/
def sendFrame (d : Dev) (u q : Nat) (mark : TxMark) (f : List Byte) : Dev :=
  if nGet d (upl_LINK u) ≠ 1 ∨ queueDepth q ≤ (queueOf d u q).length then nInc d (upl_TX_DISCARDS u)
  else { d with net.queues := mapPut d.net.queues (4 * u + q) (queueOf d u q ++ [{ octets := f ++ zeros (60 - f.length), mark := mark }]) }

/-- A frame of the best-effort queue (R564). -/
def sendEth (d : Dev) (u : Nat) (f : List Byte) : Dev := sendFrame d u 3 .plain f

/-- The header of a frame from an uplink, with an IEEE 802.1Q tag where a VLAN is given. -/
def ethHead (d : Dev) (u : Nat) (dst : List Byte) (vlan pcp : Nat) (typ : Nat) : List Byte :=
  dst ++ macOf d u ++ (if vlan = 0 then [] else beBytes 2 0x8100 ++ beBytes 2 (pcp * 2 ^ 13 + vlan)) ++ beBytes 2 typ

/-- An IP or ARP frame from an uplink on its VLAN (R561, R571). -/
def sendIp (d : Dev) (u : Nat) (dst : List Byte) (typ : Nat) (body : List Byte) : Dev :=
  if sendsIp d u then sendEth d u (ethHead d u dst (nGet d (upl_VLAN_ID u)) (nGet d (upl_PCP u)) typ ++ body) else d

/-- The ones' complement sum of 16-bit words. -/
def inetSum (b : List Byte) : Nat :=
  let s := (List.range (ceilDiv b.length 2)).foldl (fun a i => a + ofBe (sliceOf b (2 * i) 2)) 0
  let s := s % 65536 + s / 65536
  s % 65536 + s / 65536

/-- The Internet checksum of octets that hold 0 in its place. -/
def inetCheck (b : List Byte) : List Byte := beBytes 2 (65535 - inetSum b)

/-- The link-local address of an uplink, from its MAC address (R562). -/
def linkLocal (d : Dev) (u : Nat) : List Byte :=
  let m := macOf d u
  octets [0xFE, 0x80, 0, 0, 0, 0, 0, 0, ofBe (sliceOf m 0 1) ^^^ 2] ++ sliceOf m 1 2 ++ octets [0xFF, 0xFE] ++ sliceOf m 3 3

/-- The IPv6 addresses of an uplink: 0 link-local, 1 IPV6_ADDR (R562). -/
def ip6Of (d : Dev) (u k : Nat) : List Byte := if k = 0 then linkLocal d u else sliceOf (bGet d addr_IPV6_ADDR) 0 16

/-- Whether an uplink has IPv6 address k at all. -/
def hasIp6 (d : Dev) (u k : Nat) : Bool := k == 0 || ip6Of d u k != zeros 16

/-- The solicited-node multicast address of an IPv6 address. -/
def solicited (a : List Byte) : List Byte := octets [0xFF, 2, 0, 0, 0, 0, 0, 0, 0, 0, 0, 1, 0xFF] ++ sliceOf a 13 3

/-- The Ethernet multicast address of an IPv6 multicast address. -/
def mcast6 (a : List Byte) : List Byte := octets [0x33, 0x33] ++ sliceOf a 12 4

/-- ff02::1. -/
def allNodes : List Byte := octets [0xFF, 2, 0, 0, 0, 0, 0, 0, 0, 0, 0, 0, 0, 0, 0, 1]

/-- An ICMPv6 message in an IPv6 packet with hop limit 255, its checksum worked out. -/
def icmp6 (src dst body : List Byte) : List Byte :=
  let pseudo := src ++ dst ++ beBytes 4 body.length ++ octets [0, 0, 0, 58]
  let b := body.take 2 ++ zeros 2 ++ body.drop 4
  octets [0x60, 0, 0, 0] ++ beBytes 2 b.length ++ octets [58, 255] ++ src ++ dst ++
    (b.take 2 ++ inetCheck (pseudo ++ b) ++ b.drop 4)

/-- An IPv4 packet of a protocol. -/
def ip4 (src dst : Nat) (proto : Nat) (body : List Byte) : List Byte :=
  let h := octets [0x45, 0] ++ beBytes 2 (20 + body.length) ++ octets [0, 0, 0, 0, 64, proto]
  let t := beBytes 4 src ++ beBytes 4 dst
  h ++ inetCheck (h ++ zeros 2 ++ t) ++ t ++ body

/-- A UDP datagram from NOAP's port with its checksum under a pseudo header (R42); a checksum of 0 goes as 0xFFFF. -/
def udp (src dst : List Byte) (port : Nat) (b : List Byte) : List Byte :=
  let h := beBytes 2 49702 ++ beBytes 2 port ++ beBytes 2 (8 + b.length)
  let pseudo := src ++ dst ++ beBytes 4 (8 + b.length) ++ octets [0, 0, 0, 17]
  let c := inetCheck (pseudo ++ h ++ zeros 2 ++ b)
  h ++ (if c = zeros 2 then ffs 2 else c) ++ b

/-- The IP packet of a NOAP datagram to where a request came from (R42, R563), from the address that the request named. -/
def noapPacket (p : Peer) (dgram : List Byte) : List Byte :=
  if p.ip.length = 4 then ip4 (ofBe p.own) (ofBe p.ip) 17 (udp p.own p.ip p.port dgram)
  else
    let s := udp p.own p.ip p.port dgram
    octets [0x60, 0, 0, 0] ++ beBytes 2 s.length ++ octets [17, 64] ++ p.own ++ p.ip ++ s

/-- The uplink on which a NOAP message for a peer leaves (R563, R571): the one that its request arrived on, and under FAILOVER the
active one (assumption log 83). -/
def noapUplink (d : Dev) (p : Peer) : Nat :=
  if nGet d addr_REDUNDANCY = 1 ∧ nGet d addr_ACTIVE < 2 then nGet d addr_ACTIVE else p.upl

/-- The frame of a NOAP datagram to a peer, on the uplink's VLAN (R561, R563). -/
def noapFrame (d : Dev) (u : Nat) (p : Peer) (dgram : List Byte) : List Byte :=
  ethHead d u p.mac (nGet d (upl_VLAN_ID u)) (nGet d (upl_PCP u)) (if p.ip.length = 4 then 0x0800 else 0x86DD) ++ noapPacket p dgram

/-- A NOAP datagram sent to a peer (R42, R563, R564). -/
def sendNoap (d : Dev) (p : Peer) (dgram : List Byte) : Dev :=
  let u := noapUplink d p
  if 2 ≤ u then d else sendEth d u (noapFrame d u p dgram)

/-- A neighbour advertisement of an address, solicited or not (R562, R572). -/
def advert (d : Dev) (u : Nat) (a : List Byte) (flags : Nat) (dstMac dst : List Byte) : Dev :=
  sendIp d u dstMac 0x86DD (icmp6 a dst (octets [136, 0, 0, 0, flags, 0, 0, 0] ++ a ++ octets [2, 1] ++ macOf d u))

/-- An ARP packet (operation, target hardware and protocol address). -/
def arpBody (d : Dev) (u op : Nat) (tha : List Byte) (tpa : Nat) : List Byte :=
  octets [0, 1, 8, 0, 6, 4] ++ beBytes 2 op ++ macOf d u ++ beBytes 4 (nGet d addr_IPV4_ADDR) ++ tha ++ beBytes 4 tpa

/-- ADDR_STATE (R585): an address is valid once some uplink may use it. -/
def addrState (d : Dev) : Dev :=
  let v := fun k => (List.range 2).any (fun u => d.net.usable.contains (4 * u + k))
  let v4 := decide (nGet d addr_IPV4_ADDR ≠ 0) && (List.range 2).any (fun u => decide (nGet d (upl_LINK u) = 1))
  nSet d addr_ADDR_STATE ((v 0).toNat + 2 * (v 1).toNat + 4 * v4.toNat + 8 * (!d.net.conflict.isEmpty).toNat)

/-- The uplink that a talker or listener names (R567, R571). -/
def streamUplink (d : Dev) (n : Nat) : Nat :=
  if nGet d addr_REDUNDANCY = 1 then nGet d addr_ACTIVE else nGet d (strm_UPLINK n)

/-- Octets of a sample in a talker's PCM format (R551). -/
def talkerOctets (t : Nat) : Nat := 4 - (Config.talkerFormat t).val

/-- Sample frames in a talker's PDU (R566). -/
def talkerFrames (d : Dev) (t : Nat) : Nat :=
  (if nGet d (strm_CLASS (16 + t)) = 0 then 6 else 12) * (if nGet d (avtp_RATE (16 + t)) = 0 then 1 else 2)

/-- Wire bits per second of a talker (R565). -/
def talkerBits (d : Dev) (t : Nat) : Nat :=
  (24 + talkerFrames d t * nGet d (avtp_CHANNELS (16 + t)) * talkerOctets t + 42) * 8 *
    (if nGet d (strm_CLASS (16 + t)) = 0 then 8000 else 4000)

/-- idleSlope of a class on an uplink (R565). -/
def idleSlope (d : Dev) (u cls : Nat) : Nat :=
  (List.range 16).foldl (fun a t =>
    if nGet d (avtp_ENABLE (16 + t)) = 1 ∧ nGet d (strm_CLASS (16 + t)) = cls ∧ streamUplink d (16 + t) = u then a + talkerBits d t else a) 0

/-- IDLE_SLOPE_A and IDLE_SLOPE_B of both uplinks (R565). -/
def updSlopes (d : Dev) : Dev :=
  nSets d [(upl_IDLE_SLOPE_A 0, idleSlope d 0 0), (upl_IDLE_SLOPE_B 0, idleSlope d 0 1), (upl_IDLE_SLOPE_A 1, idleSlope d 1 0),
    (upl_IDLE_SLOPE_B 1, idleSlope d 1 1)]

/-- The rate of an uplink in bit/s from SPEED (R584); 0 while it has none. -/
def uplinkRate (d : Dev) (u : Nat) : Nat := [0, 1000000000, 2500000000, 5000000000, 10000000000].getD (nGet d (upl_SPEED u)) 0

/-- ACTIVE moves to an uplink on a failover (R572): addresses announced, talkers moved, counted, FAILOVER raised. -/
def failover (d : Dev) (u : Nat) : Dev :=
  let d := updSlopes (nInc (nSet d addr_ACTIVE u) addr_FAILOVERS)
  let d := if nGet d addr_IPV4_ADDR = 0 then d
    else sendIp d u (ffs 6) 0x0806 (arpBody d u 1 (zeros 6) (nGet d addr_IPV4_ADDR))
  let d := (List.range 2).foldl (fun d k =>
    if hasIp6 d u k && !d.net.conflict.contains (4 * u + k) then advert d u (ip6Of d u k) 0x20 (mcast6 allNodes) allNodes else d) d
  raise d 848

/-- The frames that wait in an uplink's queues are discarded, each counted (R564). -/
def dropQueues (d : Dev) (u : Nat) : Dev :=
  let n := ((List.range 4).map (fun q => (queueOf d u q).length)).foldl (· + ·) 0
  nAdd { d with net.queues := (List.range 4).foldl (fun m q => mapErase m (4 * u + q)) d.net.queues,
                net.sending := mapErase d.net.sending u } (upl_TX_DISCARDS u) n

/-- The PCS of an uplink starts anew: LINK cannot rise for 10 ms (R559). -/
def pcsRestart (d : Dev) (u : Nat) : Dev := arm d tkUplink u (ms 10)

/-- LINK of an uplink falls (R559, R564, R572). -/
def linkDown (d : Dev) (u : Nat) : Dev :=
  if nGet d (upl_LINK u) = 0 then d
  else
    let d := pcsRestart (dropQueues (nInc (nSets d [(upl_LINK u, 0), (upl_SPEED u, 0)]) (upl_LINK_DOWNS u)) u) u
    let own := fun (k : Nat) => decide (k / 4 = u)
    let d := disarm { d with net.usable := d.net.usable.filter (fun k => !own k), net.conflict := d.net.conflict.filter (fun k => !own k),
                             net.checking := d.net.checking.filter (· ≠ u), net.gptp := mapErase d.net.gptp u } tkSyncSend u
    let d := addrState d
    if nGet d addr_REDUNDANCY = 1 ∧ nGet d addr_ACTIVE = u then
      if nGet d (upl_LINK (1 - u)) = 1 then failover d (1 - u) else updSlopes (nSet d addr_ACTIVE 0xFF)
    else d

/-- Both uplinks restart (R574): no uplink is active until a link comes up. -/
def restartUplinks (d : Dev) : Dev :=
  updSlopes (linkDown (linkDown (nSet (pcsRestart (pcsRestart { d with net.heldDown := [], net.restart := false } 0) 1) addr_ACTIVE 0xFF) 0) 1)

/-- The header of a gPTP message (IEEE 802.1AS). -/
def ptpHead (d : Dev) (u typ len flags seq control : Nat) : List Byte :=
  let m := macOf d u
  octets [0x10 + typ, 2] ++ beBytes 2 len ++ zeros 2 ++ beBytes 2 flags ++ zeros 12 ++
    (sliceOf m 0 3 ++ octets [0xFF, 0xFE] ++ sliceOf m 3 3) ++ beBytes 2 (u + 1) ++ beBytes 2 seq ++ octets [control, 0xFD]

end Sys2Proof.Machine
end

