-- ==== Sys2Proof/Machine/Requests.lean ====
section
/-!
DEFINITION. NOAP datagrams and the answers to requests of a NOAP session (R42 to R48, R55 to R57, R59).
-/
namespace Sys2Proof.Machine

/-- HMAC-SHA-384 as octets (R48). -/
def hmac (key msg : List Byte) : List Byte := (Config.hmacSha384 key msg).toList

/-- HKDF-SHA-384 to 96 octets (R47): extract with a salt, then two blocks of the expansion under an info. -/
def hkdf96 (salt z info : List Byte) : List Byte :=
  let prk := hmac salt z
  let t := hmac prk (info ++ octets [1])
  t ++ hmac prk (t ++ info ++ octets [2])

/-- The 96 octets of session keys (R47): from the host nonce, the device nonce, the shared secret and the SESSION value, under the
ASCII string NOAP v1. -/
def sessionKeys (hostNonce deviceNonce z : List Byte) (sess : Nat) : List Byte :=
  hkdf96 (hostNonce ++ deviceNonce) z (octets [0x4E, 0x4F, 0x41, 0x50, 0x20, 0x76, 0x31] ++ beBytes 4 sess)

/-- The header of a NOAP datagram (R44). -/
def noapHeader (typ flags len sess seq : Nat) : List Byte :=
  octets [0x4E, 0x4F, 1, typ] ++ beBytes 2 flags ++ beBytes 2 len ++ beBytes 4 sess ++ beBytes 4 seq

/-- The TAG of a message under the key of its direction (R48). -/
def noapTag (key msg : List Byte) : List Byte := (hmac key msg).take 16

/-- A datagram from the device with its header, body and TAG (R44, R47, R48); with no keys (the HELLO response) the TAG is zero. -/
def noapMessage (keys : Option (List Byte)) (typ flags sess seq : Nat) (body : List Byte) : List Byte :=
  let m := noapHeader typ flags body.length sess seq ++ body
  m ++ (match keys with
    | some k => noapTag (sliceOf k 48 48) m
    | none => zeros 16)

/-- A session by its number. -/
def sessionOf (d : Dev) (sess : Nat) : Option Session := d.noap.sessions.find? (fun x => x.id = sess)

/-- Whether a session is open. -/
def sessionOpen (d : Dev) (sess : Nat) : Bool := d.noap.sessions.any (fun x => decide (x.id = sess) && x.isOpen)

/-- The keys of a session (R47). -/
def sessionKey (d : Dev) (sess : Nat) : Option (List Byte) := (sessionOf d sess).map (·.keys)

/-- Where a session's latest valid request came from (R563); nowhere without such a session. -/
def sessionPeer (d : Dev) (sess : Nat) : Peer :=
  ((sessionOf d sess).map (·.peer)).getD { upl := 2, mac := [], ip := [], port := 0, own := [] }

/-- Where a request came from (R42, R563), as it was received. -/
def requestPeer (d : Dev) (sess seq : Nat) : Peer :=
  match (sessionOf d sess).bind (fun x => x.waiting.find? (fun r => r.seq = seq)) with
  | some r => r.peer
  | none => sessionPeer d sess

/-- A tagged message of a session leaves for a peer. -/
def sendMessage (d : Dev) (sess : Nat) (peer : Peer) (typ flags seq : Nat) (body : List Byte) : Dev :=
  sendNoap d peer (noapMessage (sessionKey d sess) typ flags sess seq body)

/-- A request answered (R42, R45, R55, R56): the response goes to where the request came from, with its type and SEQ, and is kept with
the last 64. The device's own requests (session 0) and those of a closed session have no answer. -/
def answer (d : Dev) (sess seq typ : Nat) (body : List Byte) : Dev :=
  if d.noap.sessions.any (fun x => decide (x.id = sess)) = false then d
  else
    let peer := requestPeer d sess seq
    let d := updSession d sess (fun x =>
      { x with waiting := x.waiting.filter (fun r => r.seq ≠ seq), msgsOut := x.msgsOut + 1,
               kept := (x.kept ++ [({ seq := seq, typ := typ, body := body } : Kept)]).drop (x.kept.length - 63) })
    sendMessage d sess peer typ 1 seq body

/-- The body of a COMMIT response (R67). -/
def commitBody (st : Status) (number : Nat) (report : Ref) : List Byte :=
  octets [st.code, 0, 0, 0] ++ beBytes 4 number ++ beBytes 4 report

/-- The answer BUSY to a request beyond the 64 (R59): one status per item of a READ, WRITE or SUBSCRIBE, else the status of the
response (assumption log 47). -/
def busyBody (typ n : Nat) : List Byte :=
  if typ = 1 ∨ typ = 2 then octets [n] ++ ((List.range n).map (fun _ => octets [Status.busy.code, 0, 0, 0])).flatten
  else if typ = 4 then (List.range n).map (fun _ => BitVec.ofNat 8 Status.busy.code)
  else if typ = 3 then commitBody .busy 0 0
  else octets [Status.busy.code]

/-- A message of the host with a valid TAG heard in a session (R53). -/
def hearHost (d : Dev) (sess : Nat) : Dev := updSession d sess (fun x => { x with lastMsg := d.now, msgsIn := x.msgsIn + 1 })

/-- A request with a valid TAG (R55, R56, R59): a kept response is sent again, also to a SEQ 64 or more below the highest (assumption log
56), one that waits is left alone, an old one is counted, one beyond 64 is BUSY, and any other waits for its execution. n is its count of
items. -/
def requestIn (x : Session) (r : Req) (n : Nat) (d : Dev) : Dev :=
  match x.kept.find? (fun k => k.seq = r.seq) with
  | some k => sendMessage (updSession d x.id (fun y => { y with msgsOut := y.msgsOut + 1 })) x.id r.peer k.typ 1 r.seq k.body
  | none =>
    if x.waiting.any (fun w => w.seq = r.seq) then d
    else if r.seq + 64 ≤ x.seqIn then nInc d noap_DUP_COUNT
    else
      let d := updSession d x.id (fun y => { y with seqIn := max y.seqIn r.seq, waiting := y.waiting ++ [r] })
      if 64 ≤ x.waiting.length then answer d x.id r.seq r.typ (busyBody r.typ n) else d

/-- The oldest request of a session that has not begun (R57). -/
def nextRequest (d : Dev) (sess : Nat) : Option Req :=
  ((sessionOf d sess).map (·.waiting)).bind (fun l => l.find? (fun w => !w.started))

/-- Whether a request of a session with a lower number that arrived in the same cycle is still to be executed (R60). -/
def earlierSession (d : Dev) (sess : Nat) (r : Req) : Bool :=
  d.noap.sessions.any (fun x => decide (x.id < sess) && x.waiting.any (fun w => !w.started && decide (w.arrived = r.arrived)))

/-- The request of a session's command taken up (R56, R57, R59, R60; assumption log 56): a request that no datagram has brought is
received now; what comes back is whether it is the oldest of its session that has not begun and no lower session's request of its cycle
goes before it, with the FLAGS that it carried. -/
def takeTurn (d : Dev) (sess seq typ flags n : Nat) : Dev × Option Nat :=
  match sessionOf d sess with
  | none => (d, none)
  | some x =>
    let d := if x.waiting.any (fun w => w.seq = seq) then d
      else requestIn x { seq := seq, typ := typ, flags := flags, peer := x.peer, arrived := d.now, started := false } n (hearHost d sess)
    (d, ((nextRequest d sess).filter (fun r => r.seq = seq && !earlierSession d sess r)).map (·.flags))

/-- Whether the Firekeeper serves a session's request: it runs, and the session is open. -/
def serves (d : Dev) (sess : Nat) : Bool := nGet d dev_FK_STATE == 1 && sessionOpen d sess

/-- A request begins (R57, R69): later requests of its session are executed while it goes on. -/
def beginRequest (d : Dev) (sess seq : Nat) : Dev :=
  updSession d sess (fun x => { x with waiting := x.waiting.map (fun r => if r.seq = seq then { r with started := true } else r) })

end Sys2Proof.Machine
end

