-- ==== Sys2Proof/Machine/Commit.lean ====
section
/-!
DEFINITION. Commits, capacity steps and migrations (R66 to R70, R91, R109, R114 to R125, R133, R138 to R141, R155, R158 to R175).
-/
namespace Sys2Proof.Machine

/-- Why a COMMIT is not evaluated (R52, R66, R69, R118, R675). Of a mask of 0 and another commit under evaluation the spec names no
first one: RANGE comes before BUSY (assumption log 62). -/
def commitGate (d : Dev) (sess mask : Nat) : Option Status :=
  if sess ≠ 0 ∧ isController d sess = false then some .access
  else if sess ≠ 0 ∧ sleepBusy d then some .busy
  else if mask = 0 then some .range
  else if d.scene.evaluating.isSome then some .busy
  else if d.scene.commits.any (fun c => decide (c.number % 16 = wrapAdd 32 (nGet d commitCtl_LAST_NUMBER) 1 % 16)) then some .busy
  else none

/-- The record and the report of a commit at its decision (R124, R173). -/
def writeRecord (d : Dev) (e : Evaluation) (st : Status) (taken : Nat) : Dev :=
  let i := e.number % 16
  let rep := mref 0x1A i 0
  let d := nSets d [(commit_NUMBER i, e.number), (commit_MASK i, e.mask), (commit_FLAGS i, e.dryRun.toNat), (commit_RESULT i, st.code),
    (commit_STATE_REASON i, 0), (commit_STATE_HEADS i, 0), (commit_STATE_REF i, 0), (commit_REPORT i, rep), (commit_ADMIT_TIME i, tbNs d),
    (commit_APPLIED_MASK i, 0), (commit_SUPERSEDED_MASK i, 0), (commit_TAKEN i, taken),
    (report_NUMBER i, e.number), (report_RESULT i, if st = .ok then 0 else if st = .rejected then 1 else 2), (report_REASON i, 0),
    (report_HEADS i, 0), (report_RESOURCE i, 0xFFFF), (report_SLOT i, 0xFFFF), (report_DEMAND i, 0), (report_CAPACITY i, 0),
    (report_OBJECT i, 0), (report_EVAL_US i, (d.now - e.received) / 1000), (report_MIGRATIONS i, 0)]
  let d := bSet d (report_DEGRADES i) []
  (List.range 16).foldl (fun d h => nSet d (commit_APPLY_TIME_H i h) 0) d

/-- The octets of a list of actions: 5 each (R173, R174). -/
def actionOctets (l : List Action) : List Byte := (l.map (fun a => leBytes 4 a.ref ++ octets [a.degrade])).flatten

/-- The evaluation ends with an answer; staged writes that came meanwhile form the staging set's next part (R70). -/
def endEvaluation (d : Dev) (e : Evaluation) (st : Status) : Dev :=
  let late := d.scene.staging.filter (·.late)
  let d := { d with scene.evaluating := none,
                    scene.staging := (d.scene.staging.filter (fun s => !s.late && !late.any (fun t => t.ref == s.ref))) ++
                      late.map (fun s => { s with late := false }) }
  let d := trace (countStaged d) 11 0xFFFF e.number
  answer d e.sess e.seq 3 (commitBody st e.number (mref 0x1A (e.number % 16) 0))

/-- A commit refused with STATE (R117, R119, R762). -/
def refuseState (d : Dev) (e : Evaluation) (r : Refused) : Dev :=
  let i := e.number % 16
  let d := nSets (writeRecord d e .state 0) [(commit_STATE_REASON i, r.reason), (commit_STATE_HEADS i, r.heads), (commit_STATE_REF i, r.ref)]
  endEvaluation d e .state

/-- A commit refused by the Stoker (R157, R173, R766). -/
def refusePlacement (d : Dev) (e : Evaluation) (f : Fail) : Dev :=
  let i := e.number % 16
  let d := nSets (writeRecord d e .rejected 0) [(report_REASON i, f.reason), (report_HEADS i, f.heads), (report_RESOURCE i, f.resource),
    (report_SLOT i, f.slot), (report_DEMAND i, f.demand), (report_CAPACITY i, f.capacity), (report_OBJECT i, f.obj)]
  endEvaluation d e .rejected

/-- A COMMIT received (R66 to R69, R117, R118): refused at once where a rule of R117 is broken, else under evaluation. -/
def commitReceived (d : Dev) (m : List Host.Cell) (sess seq mask : Nat) (dry : Bool) : Dev :=
  match commitGate d sess mask with
  | some st => answer d sess seq 3 (commitBody st 0 0)
  | none =>
    let n := wrapAdd 32 (nGet d commitCtl_LAST_NUMBER) 1
    let d := nSet d commitCtl_LAST_NUMBER n
    let taken := takenWrites d mask
    let e : Evaluation := { sess := sess, seq := seq, number := n, mask := mask, dryRun := dry, received := d.now, taken := taken }
    match commitBroken d m mask taken with
    | some r => refuseState d e r
    | none => { d with scene.evaluating := some e }

/-- The writes of a commit with each FRONT of 0xFF resolved (R133). -/
def resolveTaken (d : Dev) (ws : List Taken) : List Taken :=
  ws.map (fun w => if isFront w.ref then
    match w.val with
    | .num f => { w with val := .num (resolveFront d (refInst w.ref) f) }
    | .bytes _ => w
    else w)

/-- The lease keys and the FRONT of each surface that a commit's scene gives a head (R126, R128). -/
def holdKeys (d : Dev) (ws : List Taken) (h : Nat) : List Nat :=
  let v := overWrites (pendingView d h) (takenFor ws h)
  (sceneObjs d v h (fun _ => false)).map (fun o => leaseKey o (includedBuffer d ws h v o))

/-- SCAN_PEAK, VIDEO_IN, SCAN_CAPACITY, RETIRED, STEPS, RHO_PERMILLE and ACTIONS (R174, R175). -/
def reportModel (d : Dev) (peaks : List Rat) : Dev :=
  let d := (List.range 8).foldl (fun d c =>
    nSets d [(chanRep_SCAN_PEAK c, wholeOf (peaks.getD c 0)), (chanRep_VIDEO_IN c, wholeOf (videoIn d c)),
      (chanRep_SCAN_CAPACITY c, sustained d c * rhoPermille d / 1000), (chanRep_RETIRED c, (chanRetired d c).toNat)]) d
  let d := nSets d [(stepRep_STEPS, stepBits d), (stepRep_RHO_PERMILLE, rhoPermille d), (mem_RESERVE_PERMILLE, rhoPermille d)]
  bSet d stepRep_ACTIONS (actionOctets d.stoker.actions)

/-- Each new action of R166 raises STOKER_ACTION (R609), and selects its head where it is hearth-only mode (R303). -/
def announceActions (d : Dev) (old new : List Action) : Dev :=
  let d := ((List.range new.length).zip new).foldl (fun d x =>
    if old.contains x.2 then d
    else
      let d := if x.2.degrade = 0xFF then hoCauseSet d (refInst x.2.ref) 2 else d
      raise (trace d 11 (if x.2.degrade = 0xFF then refInst x.2.ref else 0xFFFF) x.1) 885) d
  old.foldl (fun d a =>
    if new.contains a then d
    else
      let d := if a.degrade = 0xFF then hoCauseClear d (refInst a.ref) 2 else d
      raise d 885) d

/-- Where a surface of n octets goes: the first bank from C11 downward with room (R162), in the lowest gap that holds it
(assumption log 19). -/
def bankPlace (d : Dev) (n : Nat) : Option Nat :=
  ((List.range 12).reverse.filterMap (fun c => ((bankGaps d c).find? (fun g => decide (n ≤ g.2 - g.1))).map (·.1))).head?

/-- Octets of a surface's buffers. -/
def wholeSize (d : Dev) (o : Ref) : Nat := nGet d (surf_SIZE (refInst o)) * nGet d (surf_BUFFERS (refInst o))

/-- Whether PINNED of a surface is 1 on some head (R109). -/
def livePinned (d : Dev) (o : Ref) : Bool := (List.range 16).any (fun h => decide (liveNat d h (surf_PINNED (refInst o)) = 1))

/-- Whether a surface may be migrated (R109, R161). -/
def mayMigrate (d : Dev) (o : Ref) : Bool :=
  let i := refInst o
  decide (allocOf d o = 1) && decide (nGet d (surf_LOCATION i) = 1) && decide (nGet d (surf_STREAMING i) = 0) && (boundInput d o).isNone &&
  !livePinned d o

/-- Whether a surface waits for its migration or is being migrated. -/
def inMigration (d : Dev) (o : Ref) : Bool := d.stoker.queue.contains o || decide ((d.stoker.migration.map (·.surf)) = some o)

/-- Octets that the heads fetch per second from a surface (R161), channel octets over a frame (assumption log 115). -/
def surfaceRate (d : Dev) (acts : List Action) (o : Ref) : Rat :=
  ((List.range 16).filter (headRuns d)).foldl (fun (a : Rat) h =>
    let v := pendingView d h
    let n := ((headFetches d v h acts).filter (fun f => decide (f.surf = o))).foldl (fun n f => n + f.bytes) 0
    a + ((n * 10 ^ 9 : Nat) : Rat) / (if frameNs v h = 0 then 1 else frameNs v h)) 0

/-- The surfaces that an admitted commit queues for migration (R161): those of hint 2, then those of hint 0 of at most 256 KiB
in falling order of their rate per octet, while hot-bank space remains. Those of hint 2, for which the spec gives no order, stand as the
scene search meets them (assumption log 150). -/
def newMigrations (d : Dev) (mask : Nat) (acts : List Action) : List Ref :=
  let objs := (bitsOf mask 16).foldl (fun a h => ((sceneObjs d (pendingView d h) h (fun _ => false)).filter
    (fun o => decide (refClass o = 0x13))).foldl addOnce a) []
  let can := objs.filter (fun o => mayMigrate d o && !inMigration d o)
  let two := can.filter (fun o => decide (nGet d (surf_PLACEMENT_HINT (refInst o)) = 2))
  let space := ((List.range 12).map (fun c => (bankGaps d c).foldl (fun a g => a + (g.2 - g.1)) 0)).foldl (· + ·) 0
  let used := (d.stoker.queue ++ two).foldl (fun a o => a + wholeSize d o) 0
  let zero := can.filter (fun o => decide (nGet d (surf_PLACEMENT_HINT (refInst o)) = 0) && decide (wholeSize d o ≤ 262144))
  let order := sortDown (fun o => surfaceRate d acts o / (max 1 (wholeSize d o) : Nat)) zero
  two ++ (order.foldl (fun (a : List Ref × Nat) o =>
    if a.2 + wholeSize d o ≤ space then (a.1 ++ [o], a.2 + wholeSize d o) else a) ([], used)).1

/-- The members of 1A:0500 (R174). -/
def reportMigration (d : Dev) : Dev :=
  nSets d [(migRep_MIG_SURFACE, (d.stoker.migration.map (·.surf)).getD 0), (migRep_MIG_DEST, (d.stoker.migration.map (·.dest)).getD 0),
    (migRep_MIG_COPIED, (d.stoker.migration.map (fun m => if m.copied then m.size else 0)).getD 0), (migRep_MIG_QUEUED, d.stoker.queue.length)]

/-- The first surface of a queue that may still be migrated and that a bank has room for (R109, R162) begins its copy, which takes the time
of 1.0 GB/s (R163) and asks for its blocks in class FK (R478); those before it leave the queue. -/
def nextMigration (d : Dev) : List Ref → Dev
  | [] => { d with stoker.queue := [] }
  | o :: q =>
    match (if mayMigrate d o then bankPlace d (wholeSize d o) else none) with
    | some a =>
      let n := wholeSize d o
      let d := { d with stoker.queue := q,
                        stoker.migration := some { surf := o, dest := a, size := n, copied := false, toSwitch := 0, switched := 0, got := [] } }
      arm (askRange d 2 0 (nGet d (surf_ADDRESS (refInst o))) n) tkMigration 0 n
    | none => nextMigration d q

/-- The next migration of the queue begins when none is under way (R163). -/
def startMigration (d : Dev) : Dev :=
  reportMigration (match d.stoker.migration with
    | some _ => d
    | none => nextMigration d d.stoker.queue)

/-- A migration aborted (R164): the surface keeps its location, and the next one begins. -/
def abortMigration (d : Dev) : Dev :=
  match d.stoker.migration with
  | none => d
  | some _ => startMigration (disarm (nInc (cancelReads { d with stoker.migration := none } 2 0) migRep_MIGRATIONS_ABORTED) tkMigration 0)

/-- A surface whose live PINNED becomes 1 is not migrated (R109): its migration is aborted (assumption log 116). -/
def pinMigration (d : Dev) : Dev :=
  match d.stoker.migration with
  | some m => if livePinned d m.surf then abortMigration d else d
  | none => d

/-- A write accepted to a range of memory aborts the migration of a surface that it touches while it is being copied
(R164). -/
def touchMigration (d : Dev) (a n : Nat) : Dev :=
  match d.stoker.migration with
  | some m => if !m.copied && (buffersTouched d a n).any (fun x => decide (x.1 = m.surf)) then abortMigration d else d
  | none => d

/-- The waiting placements that an admitted commit or a re-run brings a head. -/
def nextOf (number : Nat) (vd : Verdict) (h : Nat) : NextPlace :=
  { number := number, head := h, bands := vd.plan.bands.filter (fun b => decide (b.head = h)),
    progs := vd.plan.progs.filter (fun p => decide (p.head = h)) }

/-- The programs whose HEAD is 0 take their placement at admission (R335): those that are gone stop, those that came
start. -/
def placeFree (s : State) (vd : Verdict) : State :=
  let d := s.dev
  let old := d.stoker.progs.filter (fun p => decide (p.head = 16))
  let new := vd.plan.progs.filter (fun p => decide (p.head = 16))
  let gone := old.filter (fun p => !new.contains p)
  let d := { d with stoker.progs := d.stoker.progs.filter (fun p => decide (p.head ≠ 16)) ++ new }
  let d := gone.foldl leaveThread d
  (new.filter (fun p => !old.contains p)).foldl startThread (withDev s d)

/-- The coupling that a verdict gives (R144): heads that start or change their period take it when their change applies. -/
def takeVerdict (d : Dev) (vd : Verdict) (acts : List Action) : Dev :=
  let changed := vd.heads.filter (fun e => decide (mapFind (couplingNow d) e.1 ≠ some e.2))
  let old := d.stoker.actions
  let d := { d with stoker.headsNext := changed.foldl (fun m e => mapPut m e.1 e.2) d.stoker.headsNext,
                    stoker.classes := vd.classes, stoker.actions := acts, stoker.skipped := d.stoker.skipped.filter acts.contains }
  reportModel (announceActions d old acts) vd.peaks

/-- A degrade of R166 for an undo check: the actions without one of them. -/
def without (l : List Action) (a : Action) : List Action := l.filter (fun x => decide (x ≠ a))

/-- The heads that run. -/
def runningMask (d : Dev) : Nat := headMask (headRuns d)

/-- Some actions undone in order, each checked against the model (R169): those left, and those that were skipped since a term would fail. -/
def undoActions (d : Dev) : List Action → List Action → List Action × List Action
  | acts, [] => (acts, [])
  | acts, a :: rest =>
    let acts' := without acts a
    match (runModel d { mask := runningMask d, taken := [], acts := acts', rerun := true }).fail with
    | none => undoActions d acts' rest
    | some _ => let r := undoActions d acts rest; (r.1, a :: r.2)

/-- A head's live values with the commits pending on it up to a number. -/
def viewAt (d : Dev) (h n : Nat) : View :=
  ((pendingOn d h).filter (fun c => decide (c.number ≤ n))).foldl (fun v c => overWrites v (takenBy d c h)) (liveView d h)

/-- The programs of one state of a head placed anew: where the plan of its newest state has them, else where they run on a cluster in
use, else as R155 places them. -/
def statePrograms (d : Dev) (acts : List Action) (v : View) (h : Nat) (plan : List ProgPlace) : List ProgPlace :=
  let cur := (((heldPlaces d h).map (·.progs)).flatten).filter (keepsThread d)
  ((programsOf d v h).filter (fun p => decide (v.nat (prog_ENABLE (refInst p)) = 1))).foldl (fun ps p =>
    let q := ((plan ++ cur).find? (fun q => decide (q.prog = p))).orElse
      (fun _ => placeProg d (heldProgs d acts) ps h p)
    ps ++ q.toList) []

/-- One state of a head placed anew (R140, R150 to R155, R763). -/
def placeState (d : Dev) (acts : List Action) (h : Nat) (v : View) (prev : List BandPlace) (n : NextPlace) : NextPlace :=
  if hearthOnly acts h then { n with bands := [], progs := [] }
  else { n with bands := (placeBands d v v acts h (heldByOthers d acts h) prev).1, progs := statePrograms d acts v h n.progs }

/-- A placement of some running heads for a scope (R166, R168): each head's newest state takes the plan, its live scene and the
commits between are placed anew. The live scene's placement waits for the head's next boundary, the others for their commits.
Programs and bands that find no place are left out. -/
def replaceHeads (d : Dev) (vd : Verdict) (acts : List Action) (hs : List Nat) : Dev :=
  showLoading (hs.foldl (fun d h =>
    let n := nextOf 0 vd h
    let mine := d.stoker.next.filter (fun x => decide (x.head = h) && decide (x.number ≠ 0))
    let others := d.stoker.next.filter (fun x => decide (x.head ≠ h))
    match mine.getLast? with
    | none => { d with stoker.next := n :: others }
    | some last =>
      let live := placeState d acts h (liveView d h) (d.stoker.bands.filter (fun b => decide (b.head = h))) n
      let mine := mine.map (fun x => if x = last then { x with bands := n.bands, progs := n.progs }
        else { placeState d acts h (viewAt d h x.number) x.bands n with number := x.number })
      { d with stoker.next := live :: mine ++ others }) d)

/-- A placement of every running head, and of the programs whose HEAD is 0 where it moves them (R353). -/
def replaceAll (d : Dev) (vd : Verdict) (acts : List Action) : Dev :=
  let d := replaceHeads d vd acts (bitsOf (runningMask d) 16)
  let free := nextOf 0 vd 16
  let others := d.stoker.next.filter (fun x => decide (x.head ≠ 16))
  showLoading { d with stoker.next := if free.progs = d.stoker.progs.filter (fun p => decide (p.head = 16)) then others else free :: others }

/-- The programs whose HEAD is 0 take the placement that a re-run gave them: they have no boundary to wait for (R335, R353). -/
def takeFree (s : State) : State := takePlacement s 16 []

/-- Whether a band or raster program of a head's live scene has no place (R303 bit 0). -/
def leftWithout (d : Dev) (acts : List Action) (h : Nat) : Bool :=
  let n := (nextFor d h []).getD { number := 0, head := h, bands := d.stoker.bands.filter (fun b => decide (b.head = h)),
                                   progs := d.stoker.progs.filter (fun p => decide (p.head = h)) }
  lacksPlace d (liveView d h) acts h n.bands n.progs

/-- Whether a surface of a head's live scene lies in a group with a retired channel (R489). -/
def onRetired (d : Dev) (h : Nat) : Bool := (liveSurfaces d h).any (fun o => (surfGroup d (refInst o)).any (chanRetired d))

/-- Causes PIPE and DRAM after a re-run (R303): PIPE while a band or raster program of the live scene is without a place, DRAM
until the live scene is placed and lies on no retired channel, which takes at least a frame. -/
def settleCauses (d : Dev) (acts : List Action) (h : Nat) : Dev :=
  let left := leftWithout d acts h
  let d := if left then hoCauseSet d h 0 else hoCauseClear d h 0
  if !left && !onRetired d h && decide (nGet d (head_STATE h) = 4) then hoCauseClear d h 1 else d

/-- The re-run of R166 on every running head: the actions it takes, the new placement, and causes PIPE and DRAM (R303). -/
def rerunModel (d : Dev) : Dev :=
  let sc : Scope := { mask := runningMask d, taken := [], acts := d.stoker.actions, rerun := true }
  let r := freeCapacity d maxActions sc
  let d := takeVerdict d r.2 r.1.acts
  let d := replaceAll d r.2 r.1.acts
  (bitsOf (runningMask d) 16).foldl (fun d h => settleCauses d r.1.acts h) d

/-- The re-run that follows when a commit applies while a cause PIPE or DRAM holds some head, and when a head held by DRAM no longer
shows a surface on a retired channel (R303; assumption log 112). -/
def rerunIfHeld (d : Dev) (h : Nat) (applied : Bool) : Dev :=
  if (applied && (List.range 16).any (fun g => decide (nGet d (hhead_HO_CAUSE g) % 4 ≠ 0))) ||
      (bitOf (nGet d (hhead_HO_CAUSE h)) 1 && !onRetired d h) then rerunModel d
  else d

/-- An underrun (R172): the placement changes where a re-run of the model fails; during an evaluation that waits for its decision. -/
def modelUnderrun (d : Dev) : Dev :=
  let sc : Scope := { mask := runningMask d, taken := [], acts := d.stoker.actions, rerun := true }
  if (runModel d sc).fail.isNone then d
  else if d.scene.evaluating.isSome then holdCapacity d
  else rerunModel d

/-- A capacity step (R166, R171): applied at once, or after the decision of the commit under evaluation, which goes on with the capacity
that `holdCapacity` kept. -/
def capacityChanged (d : Dev) : Dev := if d.scene.evaluating.isSome then d else rerunModel d

/-- SCAN_PEAK and the other members of 1A:030d and 1A:0600 as the model has them now (R175). -/
def refreshModel (d : Dev) : Dev :=
  reportModel d (runModel d { mask := 0, taken := [], acts := d.stoker.actions, rerun := true }).peaks

/-- The condition of thermal step 3 is lifted (R169, R175): the members of 1A:0600 and 1A:030d follow at once, and its actions are
undone once it has stayed clear for 2 s. -/
def liftStep (d : Dev) : Dev :=
  arm (refreshModel { d with stoker.thermal := false }) tkCapacity 0 (ms 2000)

/-- Some of the actions in force undone in the reverse of their order: all of them after a step is lifted, those skipped before after an
admitted commit (R169). -/
def tryUndo (d : Dev) (which : List Action) : Dev :=
  let r := undoActions d d.stoker.actions (d.stoker.actions.filter which.contains).reverse
  let d := { d with stoker.skipped := d.stoker.actions.filter (fun a => r.2.contains a || (d.stoker.skipped.contains a && !which.contains a)) }
  if r.1 = d.stoker.actions then d
  else
    let vd := runModel d { mask := runningMask d, taken := [], acts := r.1, rerun := true }
    replaceAll (takeVerdict d vd r.1) vd r.1

/-- A commit admitted (R114, R116, R120, R126, R128, R133, R136, R141, R155, R161, R170). -/
def admitCommit (s : State) (e : Evaluation) (vd : Verdict) (acts : List Action) : State :=
  let d := s.dev
  let ws := resolveTaken d e.taken
  let named := bitsOf e.mask 16
  let sc : Scope := { mask := e.mask, taken := ws, acts := acts }
  let fresh := fun h => acts.any (fun a => decide (a.ref = headRef h) && !d.stoker.actions.contains a)
  let moved := (List.range 16).filter (fun h => !bitOf e.mask h && headRuns d h && ((plannedHeads d sc).contains h || fresh h))
  let newActs := acts.filter (fun a => decide (a.degrade ≠ 0xFF))
  let i := e.number % 16
  let d := bSet (writeRecord d e .ok e.taken.length) (report_DEGRADES i) (actionOctets newActs)
  let holds := named.map (fun h => (h, holdKeys d ws h))
  -- FRONT as read without STAGED becomes the resolved value
  let d := ws.foldl (fun d w => if isFront w.ref then mSet d w.ref w.val else d) d
  let surfs := named.foldl (fun a h => ((sceneObjs d (stagedView d e.mask ws h) h (fun _ => false)).filter
    (fun o => decide (refClass o = 0x13))).foldl addOnce a) []
  let fronts : SMap Nat := (sortBy id surfs).foldl (fun m o => mapPut m (refInst o) (frontRead d (refInst o))) []
  -- writes attributed to no head
  let free := (ws.filter (fun w => decide (w.heads = 0))).map (fun w => (w.ref, w.val))
  let d := (List.range 16).foldl (fun d h => setLives d h e.number free) d
  let c : PendingCommit := { number := e.number, named := e.mask, waiting := e.mask, admitted := tbNs d,
                             writes := ws.filter (fun w => decide (w.heads ≠ 0)), holds := holds, fronts := fronts,
                             lifts := d.scene.withdrawn.filter (fun k => bitOf e.mask (k % 16)) }
  let d := { d with scene.staging := d.scene.staging.filter (fun s => s.late || !e.taken.any (fun w => decide (w.ref = s.ref))),
                    scene.commits := d.scene.commits ++ [c],
                    stoker.next := d.stoker.next ++ named.map (nextOf e.number vd) }
  let d := nSet d commitCtl_SCENE_LEASE_EXPIRED 0
  let d := replaceHeads (takeVerdict d vd acts) vd acts moved
  let d := named.foldl liftRasterFaults d
  let d := (ws.filter (fun w => decide (refClass w.ref = 0x17))).foldl (fun d w => liftHouseFault d (refObj w.ref)) d
  let s := placeFree (withDev s d) vd
  -- heads without frames apply the commit at once (R121, R767); what a re-lock under way holds back stays pending (R768)
  let s := (named.filter (fun h => decide (nGet s.dev (head_STATE h) < 2))).foldl (fun s h =>
    applyIdle s h ((pendingOn s.dev h).filter (fun c => decide (c.number = e.number)))) s
  let migs := newMigrations s.dev e.mask acts
  let d := nSet s.dev (report_MIGRATIONS i) migs.length
  withDev s (startMigration (pinMigration { d with stoker.queue := d.stoker.queue ++ migs }))

/-- WRITE_IN_PROGRESS as the decision finds it (R497): a buffer that the commit would newly lease and that a job which has started since
the COMMIT came writes. -/
def writtenSince (d : Dev) (e : Evaluation) : Option Refused :=
  let bad := fun h => breaksWriting d e.taken (stagedView d e.mask e.taken h) h
  ((bitsOf e.mask 16).find? (fun h => !(bad h).isEmpty)).map (fun h =>
    { reason := 9, ref := (bad h).head?.getD 0, heads := headMask (fun g => bitOf e.mask g && !(bad g).isEmpty) })

/-- COMMIT_DECISION (R139, R157, R170, R497): the Stoker admits or refuses the commit under evaluation. -/
def decide' (s : State) (e : Evaluation) : State :=
  match writtenSince s.dev e with
  | some r => withDev s (refuseState s.dev e r)
  | none =>
  let d := s.dev
  let sc : Scope := { mask := e.mask, taken := resolveTaken d e.taken, acts := d.stoker.actions }
  let vd := runModel d sc
  let r : Scope × Verdict := match vd.fail with
    | none => (sc, vd)
    | some _ => if stepBits d = 0 then (sc, vd) else freeCapacity d maxActions sc
  match r.2.fail with
  | some f => withDev s (refusePlacement d e f)
  | none =>
    if e.dryRun then
      withDev s (endEvaluation (bSet (writeRecord d e .ok 0) (report_DEGRADES (e.number % 16))
        (actionOctets (r.1.acts.filter (fun a => decide (a.degrade ≠ 0xFF))))) e .ok)
    else
      let s := admitCommit s e r.2 r.1.acts
      withDev s (tryUndo (endEvaluation s.dev e .ok) s.dev.stoker.skipped)

/-- After a decision, a capacity step that came meanwhile is applied (R171). -/
def afterDecision (d : Dev) : Dev :=
  if d.stoker.counted.isSome then rerunModel { d with stoker.counted := none } else d

/-- The condition of a capacity step (R166): 0 thermal step 3, 1 a pipe faulted, 2 a cluster faulted, 3 a channel retired. The
condition of 3 is set by the command that brings it about. Thermal step 3 has then not stayed clear for 2 s (R169). A faulted pipe that serves
no head reads FAULTED at once, another from its head's boundary on (R175). -/
def doCapacityStep (kind unit : Nat) (d : Dev) : Dev :=
  let held := holdCapacity d
  if kind = 0 then capacityChanged (disarm { held with stoker.thermal := true } tkCapacity 0)
  else if kind = 1 ∧ unit < 32 then
    let d := { held with stoker.faulted := addOnce d.stoker.faulted unit }
    capacityChanged (if (headOfPipe d unit).isNone && decide (nGet d (pipeRep_HEAD unit) = 255) then nSet d (pipeRep_FAULTED unit) 1 else d)
  else if kind = 2 ∧ unit < 12 then
    capacityChanged { held with stoker.clusters := addOnce d.stoker.clusters unit }
  else if kind = 3 then capacityChanged held
  else d

/-- CAPACITY_STEP_UNDO (R169): thermal step 3 has been clear for 2 s; the actions are undone in reverse order. -/
def doCapacityStepUndo (d : Dev) : Dev :=
  if due d tkCapacity 0 then
    let d := disarm d tkCapacity 0
    refreshLeases (tryUndo d d.stoker.actions)
  else d

/-- Whether a head's live scene reads a surface. -/
def readsSurface (d : Dev) (h : Nat) (o : Ref) : Bool := headRuns d h && (liveScene d h).contains o

/-- The heads with a frame that read the old place of a migrated surface and is not done (R163): the frame before the present one, or the
present one of a head that has not switched. -/
def oldReaders (d : Dev) (m : Migration) : Nat :=
  let has := fun (ks : List Nat) => ks.any (fun k => decide (k / 16 = m.surf))
  headMask (fun h => has (mapGet d.scene.ended h []) || (has (mapGet d.scene.reading h []) && !bitOf m.switched h))

/-- A migrated surface lies in its bank for every head (R163): ADDRESS and LOCATION change, and the old memory goes back after
the frame-done of the last frame that read it. -/
def finishMigration (d : Dev) (m : Migration) : Dev :=
  let i := refInst m.surf
  let old := nGet d (surf_ADDRESS i)
  let readers := oldReaders d m
  let d := { d with scene.pool := (d.scene.pool.filter (fun p => decide (p.owner ≠ m.surf))) ++ [{ owner := m.surf, lo := m.dest, hi := m.dest + m.size }],
                    stoker.migration := none,
                    stoker.leaving := if readers = 0 then d.stoker.leaving else
                      d.stoker.leaving ++ [({ owner := 0, lo := old, hi := old + m.size }, readers)] }
  let d := nSets d [(surf_ADDRESS i, m.dest), (surf_LOCATION i, 2), (migRep_MIGRATIONS_DONE, satAdd 32 (nGet d migRep_MIGRATIONS_DONE) 1)]
  startMigration (refreshModel d)

/-- A migration whose heads have all switched, or stopped before they could, ends (R163). -/
def settleMigration (d : Dev) : Dev :=
  match d.stoker.migration with
  | some m => if m.copied && (bitsOf m.toSwitch 16).all (fun h => !headRuns d h) then finishMigration d m else d
  | none => d

/-- A head switches to the new copy at its boundary (R163). -/
def switchMigration (d : Dev) (h : Nat) : Dev :=
  match d.stoker.migration with
  | some m =>
    if m.copied && bitOf m.toSwitch h then
      settleMigration { d with stoker.migration := some { m with toSwitch := setBit m.toSwitch h false, switched := setBit m.switched h true } }
    else settleMigration d
  | none => d

/-- FREE (R91, R164): freeing a surface under migration aborts the migration. -/
def doFreeMigrating (sess cls : Nat) (arg : Ref) (d : Dev) : Dev :=
  let d' := doFree sess cls arg d
  match d'.stoker.migration with
  | some m => if allocOf d' m.surf ≠ 1 then abortMigration { d' with stoker.queue := d'.stoker.queue.filter (fun o => decide (allocOf d' o = 1)) } else d'
  | none => d'

/-- CAPACITY_STEP (R166). -/
def execCapacityStep (kind unit : Nat) (s : State) : Res := .next (takeFree (withDev s (doCapacityStep kind unit s.dev)))
/-- CAPACITY_STEP_UNDO (R169). -/
def execCapacityStepUndo (s : State) : Res := .next (takeFree (withDev s (doCapacityStepUndo s.dev)))
/-- FREE (R91, R164). -/
def execFree (sess cls : Nat) (arg : Ref) (s : State) : Res := .next (withDev s (doFreeMigrating sess cls arg s.dev))

end Sys2Proof.Machine
end

