-- ==== Sys2Proof/Machine/Memory.lean ====
section
/-!
DEFINITION. DRAM protection (memory chapter): uncorrectable blocks, channel retirement, scrubbing, training, initialisation and
the completion of block reads (R470 to R477, R481, R488 to R490, R760).
-/
namespace Sys2Proof.Machine

/-- The channels that take part in a scrub pass (R474). -/
def activeChannels (d : Dev) : List Nat := (List.range 8).filter (fun c => !chanRetired d c)

/-- The end of a scrub pass (R474, R488): every slot of every channel that is not retired has been read. -/
def endPass (d : Dev) : Dev :=
  let l := activeChannels d
  if !l.isEmpty && l.all (fun c => (scrubNext d c).isNone) then
    let d := nSets { d with dram.scrubAt := [] } [(mem_SCRUB_PASSES, satAdd 32 (nGet d mem_SCRUB_PASSES) 1),
      (mem_LAST_PASS_TIME, tbNs d), (mem_SCRUB_BLOCKS, 0)]
    (List.range 8).foldl (fun d c => nSet d (chan_UE_PASS c) 0) d
  else d

/-- A channel retires (R488, R489): recorded, reported, its heads get cause DRAM (R303), the reserved segment moves (R466), the
doses that it held are read again (R444), what the scrubber had to write back to it is dropped, a pass that waited for it alone ends
(R474), and the Stoker takes a capacity step. -/
def retireChannel (d : Dev) (c cause : Nat) : Dev :=
  if chanRetired d c then d
  else
    let held := (groupChannels (segCode d (nGet d mem_RESERVED_SEGMENT))).contains c
    let heads := (List.range 16).filter (fun h => headRuns d h && (liveSurfaces d h).any (fun o => (surfGroup d (refInst o)).contains c))
    let d := nSets { holdCapacity d with dram.retired := mapPut d.dram.retired c cause, dram.writeBack := mapErase d.dram.writeBack c }
      [(chan_STATE c, 1), (chan_RETIRE_CAUSE c, cause)]
    let d := raise (serviceLog d 4 c cause) 841
    let d := moveReserved d
    let d := heads.foldl (fun d h => hoCauseSet d h 1) d
    let d := if held then reloadDoses d else d
    endPass (refreshLeases (capacityChanged d))

/-- An uncorrectable block found by a master or the scrubber, with the MASTER of the error log, which is the class of the request (R473,
R478, R493): counted, logged and reported; at RETIRE_LIMIT its channel retires. -/
def reportBad (d : Dev) (b c master kind : Nat) : Dev :=
  let d := nInc d (chan_UNCORRECTABLE c)
  let d := serviceLog (trace (errorLog d (b * 256) c master kind) 9 c b) 5 c b
  let d := raise d 840
  let n := satAdd 16 (nGet d (chan_UE_PASS c)) 1
  let d := nSet d (chan_UE_PASS c) n
  if nGet d mem_RETIRE_LIMIT ≤ n then retireChannel d c 3 else d

/-- A block that is read passes the decoder (R470, R473): a poisoned one is reported, one with errors counts as corrected. -/
def decodeBlock (d : Dev) (b c master kind : Nat) : Dev :=
  if blockPoisoned d b then reportBad d b c master kind
  else if (errorsOf d b).isEmpty then d
  else blockCorrected d c

/-- A range that a master of a class reads at once (R470, R473, R478, R483): its blocks get slots of their channels and pass the decoder,
and its uncorrectable bank words are reported. -/
def readRange (d : Dev) (a n cls : Nat) : Dev :=
  let d := (bankWordsBad d a n).foldl (fun d w => sramBad d (8 * w) 9 0) d
  (blocksOf a n).foldl (fun d b =>
    match channelOfAddr d (b * 256) with
    | some c => decodeBlock (countRead d { cls := cls, unit := 0, block := b, chan := c, cancelled := false }) b c cls 0
    | none => d) d

/-- The failed read-modify-writes of a write of a range (R472, R473): counted, logged and reported for their master. -/
def failRmw (d : Dev) (a n master : Nat) : Dev :=
  (rmwFailures d a n).foldl (fun d b =>
    match channelOfAddr d (b * 256) with
    | some c => reportBad d b c master 1
    | none => d) (countRmwFails d (rmwFailures d a n))

/-- A write of a range by a class that has passed its writer's checks: it aborts a migration that is copying what it touches (R164). -/
def putRange (s : State) (cls a : Nat) (bs : List Byte) : State :=
  fabricWrite (withDev s (countWrite (touchMigration s.dev a bs.length) a bs.length cls)) a bs

/-- Whether DRAM serves a request (R477, R658, R676): every one once initialisation is over, but none in CRANK or after its STOP, when
it is in self-refresh. -/
def dramServes (d : Dev) : Bool := d.dram.ready && nGet d supply_SUPPLY_STATE == 0 && !blockStopped d 8

/-- A block delivered to the master that asked for it (R473, R481): into a pipe's line buffer, or to the job whose read it is; without
octets where it is poisoned. -/
def deliver (d : Dev) (m : List Host.Cell) (r : DramRead) : Dev :=
  let bs := if blockPoisoned d r.block then [] else fabricBytes d m (r.block * 256) 256
  if r.cls = 0 ∧ r.unit < 64 then
    updPipe d (r.unit % 32) (fun x => { x with buffer := mapPut x.buffer r.block bs
                                               bufferBad := x.bufferBad.filter (fun w => decide (w / 32 ≠ r.block)) })
  else if r.cls = 2 then { d with stoker.migration := d.stoker.migration.map (fun g => { g with got := mapPut g.got r.block bs }) }
  else if r.cls = 3 then
    let c := mapGet d.movers.chans r.unit DmaChan.reset
    { d with movers.chans := mapSet d.movers.chans r.unit { c with job := c.job.map (fun j => { j with got := mapPut j.got r.block bs }) } DmaChan.reset }
  else if r.cls = 6 then
    let c := mapGet d.movers.rings r.unit Ring.reset
    { d with movers.rings := mapSet d.movers.rings r.unit { c with job := c.job.map (fun j => { j with got := mapPut j.got r.block bs }) } Ring.reset }
  else d

/-- DRAM_READ_COMPLETE (R470, R473, R480, R481): the block, in which some errors have come about, passes the decoder and goes to its
master; the tag is free, and a waiting request takes it. A poisoned fill of an engine's cache is a thread fault; what a pipe has is looked
at when it composes. -/
def doDramReadComplete (tag : Fin 512) (found : List ByteError) (s : State) : State :=
  let d := s.dev
  match mapFind d.dram.reads tag.val with
  | none => s
  | some r =>
    if dramServes d = false then s
    else
      let d := upset { d with dram.reads := mapErase d.dram.reads tag.val } r.block found
      let poisoned := blockPoisoned d r.block
      let d := if r.cancelled then d else deliver d s.mem r
      let d := decodeBlock d r.block r.chan r.cls 0
      let d := if r.cls = 4 ∧ !r.cancelled ∧ poisoned then faultThread d r.unit 5 else d
      withDev s (grantWaiting d)

/-- The scrubber writes the corrected block of a channel back (R475), unless a write to the block has dropped that. -/
def finishWriteBack (d : Dev) (c : Nat) : Dev :=
  match mapFind d.dram.writeBack c with
  | none => d
  | some b =>
    countSlot { d with dram.errors := mapErase d.dram.errors b, dram.writeBack := mapErase d.dram.writeBack c } c 2

/-- SCRUB_READ (R474 to R476, R478, R480) of channel c's next block slot, in which some errors have come about: a corrected block is to be
written back before the channel's next scrub read. -/
def doScrubRead (c : Fin 8) (found : List ByteError) (d : Dev) : Dev :=
  if chanRetired d c.val ∨ dramServes d = false ∨ d.power.phase ≠ .running ∨ 384 ≤ d.dram.reads.length then d
  else match scrubNext d c.val with
  | none => d
  | some (s, n) =>
    let b := slotBlock d c.val s n
    let d := upset (finishWriteBack d c.val) b found
    let d := { d with dram.scrubAt := mapPut d.dram.scrubAt (scrubKey s c.val) (n + 1) }
    let d := countRead (nSet d mem_SCRUB_BLOCKS (satAdd 32 (nGet d mem_SCRUB_BLOCKS) 1))
      { cls := 2, unit := 1, block := b, chan := c.val, cancelled := false }
    let fixed := !blockPoisoned d b && !(errorsOf d b).isEmpty
    let d := decodeBlock d b c.val 7 2
    endPass (if fixed then { d with dram.writeBack := mapPut d.dram.writeBack c.val b } else d)

/-- MIGRATION_COPY_COMPLETE (R163, R164, R473): a poisoned block aborts the migration; else the copy is in the bank and the
running heads that read the surface switch at their next boundaries. -/
def doMigrationCopyComplete (s : State) : State :=
  let d := s.dev
  match d.stoker.migration with
  | none => s
  | some g =>
    let from' := nGet d (surf_ADDRESS (refInst g.surf))
    if g.copied || !due d tkMigration 0 || decide (readsOf d 2 0 ≠ 0) then s
    else
      let late := (blocksOf from' g.size).filter (fun b => (mapFind g.got b).isNone)
      let d := late.foldl (fun d b => readRange d (b * 256) 256 2) d
      if (blocksOf from' g.size).any (fun b => gotBad s.dev g.got (b * 256)) || !(bankWordsBad s.dev from' g.size).isEmpty then
        withDev s (abortMigration d)
      else
        let data := (List.range g.size).map (fun i => gotByte d s.mem g.got (from' + i))
        let s := fabricPuts (withDev s (disarm d tkMigration 0)) g.dest data
        let readers := headMask (fun h => readsSurface s.dev h g.surf)
        let g := { g with copied := true, toSwitch := readers, got := [] }
        let d := reportMigration { cleanWords s.dev g.dest g.size with stoker.migration := some g }
        withDev s (if readers = 0 then finishMigration d g else d)

/-- CHANNEL_RETIRE (R488): the channel's clock or power monitor reports a failure. -/
def doChannelRetire (c : Fin 8) (cause : Nat) (d : Dev) : Dev :=
  if 1 ≤ cause ∧ cause ≤ 4 then retireChannel d c.val cause else d

/-- The RETIRE action (R492). -/
def retireOp (d : Dev) (c arg : Nat) : Dev × Status × List Byte :=
  if arg ≠ 0 then (d, .range, [])
  else if chanRetired d c then (d, .state, [])
  else (retireChannel d c 4, .ok, [])

/-- The UNRETIRE action (R490, R492): it takes effect at the next reset. -/
def unretireOp (d : Dev) (c arg : Nat) : Dev × Status × List Byte :=
  if arg ≠ 0 then (d, .range, [])
  else if chanRetired d c = false then (d, .state, [])
  else ({ d with dram.unretire := addOnce d.dram.unretire c, dram.retired := mapErase d.dram.retired c }, .ok, [])

/-- RETIRE (R492). -/
def doRetire (sess : Nat) (c : Fin 8) (arg : Nat) (d : Dev) : Dev :=
  withGate d sess (chan_RETIRE c.val) (fun d => retireOp d c.val arg)
/-- UNRETIRE (R490). -/
def doUnretire (sess : Nat) (c : Fin 8) (arg : Nat) (d : Dev) : Dev :=
  withGate d sess (chan_UNRETIRE c.val) (fun d => unretireOp d c.val arg)

/-- Training of every channel begins (R466, R490, R760): channels that the record holds retired stay so, UNRETIRE takes
effect, and the reserved segment is moved off a retired channel. -/
def startTraining (d : Dev) : Dev :=
  let d := (List.range 8).foldl (fun d c =>
    match mapFind d.dram.retired c with
    | some k => nSets d [(chan_STATE c, 1), (chan_RETIRE_CAUSE c, k)]
    | none => nSets d [(chan_STATE c, 0), (chan_RETIRE_CAUSE c, 0)]) d
  let d := { d with dram.fullNext := d.dram.unretire ++ (activeChannels d).filter (fun c => !d.dram.stored.contains c),
                    dram.unretire := [], dram.trained := [], dram.ready := false }
  moveReserved d

/-- Initialisation begins once every channel that is not retired has trained (R477). -/
def beginInit (d : Dev) : Dev :=
  if (activeChannels d).all (fun c => d.dram.trained.contains c) then { d with dram.initStart := d.now } else d

/-- DRAM_TRAINING_COMPLETE (R488, R760): fast training that fails is followed by full training; full training that fails
retires the channel, and one that succeeds stores its values. -/
def doDramTrainingComplete (c : Fin 8) (good : Bool) (d : Dev) : Dev :=
  if chanRetired d c.val ∨ d.dram.trained.contains c.val ∨ d.dram.ready then d
  else
    let full := d.dram.fullNext.contains c.val
    let d := nSet d (chan_TRAINING c.val) (if full then 2 else 1)
    if good then
      beginInit { d with dram.trained := addOnce d.dram.trained c.val,
                         dram.stored := if full then addOnce d.dram.stored c.val else d.dram.stored,
                         dram.fullNext := d.dram.fullNext.filter (· ≠ c.val) }
    else if full then beginInit (retireChannel d c.val 1)
    else { d with dram.fullNext := addOnce d.dram.fullNext c.val }

/-- Whether initialisation clears an address (R477): it lies in DRAM on a channel that is not retired. -/
def initClears (d : Dev) (a : Nat) : Bool :=
  match channelOfAddr d a with
  | some c => !chanRetired d c
  | none => false

/-- Memory with some addresses cleared. -/
def memClear (p : Nat → Bool) (m : List Host.Cell) : List Host.Cell := m.filter (fun e => !p e.1)

/-- MIGRATION_COPY_COMPLETE (R163). -/
def execMigrationCopyComplete (s : State) : Res := .next (doMigrationCopyComplete s)
/-- DRAM_READ_COMPLETE (R481). -/
def execDramReadComplete (tag : Fin 512) (found : List ByteError) (s : State) : Res := .next (doDramReadComplete tag found s)
/-- SCRUB_READ (R475). -/
def execScrubRead (c : Fin 8) (found : List ByteError) (s : State) : Res := .next (withDev s (doScrubRead c found s.dev))
/-- CHANNEL_RETIRE (R489). -/
def execChannelRetire (c : Fin 8) (cause : Nat) (s : State) : Res := .next (withDev s (doChannelRetire c cause s.dev))
/-- RETIRE (R492). -/
def execRetire (sess : Nat) (c : Fin 8) (arg : Nat) (s : State) : Res := .next (withDev s (doRetire sess c arg s.dev))
/-- UNRETIRE (R490). -/
def execUnretire (sess : Nat) (c : Fin 8) (arg : Nat) (s : State) : Res := .next (withDev s (doUnretire sess c arg s.dev))
/-- DRAM_TRAINING_COMPLETE (R760). -/
def execDramTrainingComplete (c : Fin 8) (good : Bool) (s : State) : Res :=
  .next (withDev s (doDramTrainingComplete c good s.dev))

end Sys2Proof.Machine
end

