-- ==== Sys2Proof/Machine/Pixel.lean ====
section
/-!
DEFINITION. Pixels: formats and widening, chroma, the scaler, matrices and the blend (R176 to R179, R216 to R225, R230, R234,
R242).
-/
namespace Sys2Proof.Machine

/-- A pixel inside a slot: alpha of 8 bits and three components of 12 bits (R216). -/
structure SPix where
  a : Nat
  c0 : Nat
  c1 : Nat
  c2 : Nat
  deriving DecidableEq, Repr

/-- A component value clamped to 12 bits. -/
def clamp12 (x : Int) : Nat := (clampInt 0 4095 x).toNat

/-- An 8-bit component widened to 12 bits (R216). -/
def widen12 (v : Nat) : Nat := v % 256 * 16 + v % 256 / 16

/-- A field of fewer than 8 bits widened (R179). -/
def widen8 (bits v : Nat) : Nat :=
  match bits with
  | 5 => v * 8 + v / 4
  | 6 => v * 4 + v / 16
  | 4 => v * 17
  | 1 => v * 255
  | _ => v

/-- A slot pixel of 8-bit components. -/
def pix8 (a r g b : Nat) : SPix := { a := a, c0 := widen12 r, c1 := widen12 g, c2 := widen12 b }

/-- An ARGB8888 word as a slot pixel (R184). -/
def pixArgb (w : Nat) : SPix := pix8 (fieldOf w 24 8) (fieldOf w 16 8) (fieldOf w 8 8) (fieldOf w 0 8)

/-- An RGB888 word as a pixel (R216). -/
def pixRgb (w : Nat) : Pix := { r := widen12 (fieldOf w 16 8), g := widen12 (fieldOf w 8 8), b := widen12 (fieldOf w 0 8) }

/-- n octets of a line as a little-endian number. -/
def lineLe (g : Nat → Byte) (o n : Nat) : Nat := ofLe ((List.range n).map (fun i => g (o + i)))

/-- Pixel c of a line of an RGB format (R176). -/
def rgbPixel (f : Nat) (g : Nat → Byte) (c : Nat) : SPix :=
  match f with
  | 0x01 => pixArgb (lineLe g (4 * c) 4)
  | 0x02 => { pixArgb (lineLe g (4 * c) 4) with a := 255 }
  | 0x03 => { pixArgb (lineLe g (3 * c) 3) with a := 255 }
  | 0x04 =>
    let w := lineLe g (2 * c) 2
    pix8 255 (widen8 5 (fieldOf w 11 5)) (widen8 6 (fieldOf w 5 6)) (widen8 5 (fieldOf w 0 5))
  | 0x05 =>
    let w := lineLe g (2 * c) 2
    pix8 (widen8 1 (fieldOf w 15 1)) (widen8 5 (fieldOf w 10 5)) (widen8 5 (fieldOf w 5 5)) (widen8 5 (fieldOf w 0 5))
  | _ =>
    let w := lineLe g (2 * c) 2
    pix8 (widen8 4 (fieldOf w 12 4)) (widen8 4 (fieldOf w 8 4)) (widen8 4 (fieldOf w 4 4)) (widen8 4 (fieldOf w 0 4))

/-- Element c of a line of 4-bit elements (R178). -/
def nibbleAt (g : Nat → Byte) (c : Nat) : Nat := fieldOf (g (c / 2)).toNat (4 * (c % 2)) 4

/-- The index of pixel c of an I8 or I4 line (R183). -/
def indexPixel (f : Nat) (g : Nat → Byte) (c : Nat) : Nat := if f = 0x07 then (g c).toNat else nibbleAt g c

/-- The layout of a video format code (R218). -/
def videoLayout (f : Nat) : Nat := (f - 0x20) / 8

/-- A 16-bit word of YUYV10 as a 12-bit component (R218, R220). -/
def yuv10 (w : Nat) : Nat := w / 64 * 4

/-- Y of pixel c of a 4:2:2 line (R218, R220). -/
def lumaAt (layout : Nat) (g : Nat → Byte) (c : Nat) : Nat :=
  match layout with
  | 0 => (g (2 * c)).toNat * 16
  | 1 => (g (2 * c + 1)).toNat * 16
  | _ => yuv10 (lineLe g (4 * c) 2)

/-- Chroma sample m of a 4:2:2 line; cr selects Cr (R218, R220). -/
def chromaAt (layout : Nat) (g : Nat → Byte) (m : Nat) (cr : Bool) : Nat :=
  match layout with
  | 0 => (g (4 * m + 1 + 2 * cr.toNat)).toNat * 16
  | 1 => (g (4 * m + 2 * cr.toNat)).toNat * 16
  | _ => yuv10 (lineLe g (8 * m + 2 + 4 * cr.toNat) 2)

/-- A chroma component of pixel c, upsampled inside the columns lo to hi of the source window (R221). -/
def chromaPixel (layout : Nat) (g : Nat → Byte) (lo hi c : Nat) (cr : Bool) : Nat :=
  let m := c / 2
  let C := fun (k : Int) => (chromaAt layout g (clampInt ((lo + 1) / 2 : Nat) (hi / 2 : Nat) k).toNat cr : Int)
  if c % 2 = 0 then (C m).toNat
  else clamp12 (roundDiv (-(C ((m : Int) - 1)) + 9 * C m + 9 * C ((m : Int) + 1) - C ((m : Int) + 2)) 16)

/-- Pixel c of a source line of a video slot, before the scaler (R217 to R221). -/
def videoPixel (f : Nat) (g : Nat → Byte) (lo hi c : Nat) : SPix :=
  if f < 0x20 then rgbPixel f g c
  else match videoLayout f with
    | 2 => { a := 255, c0 := (g (3 * c)).toNat * 16, c1 := (g (3 * c + 1)).toNat * 16, c2 := (g (3 * c + 2)).toNat * 16 }
    | k => { a := 255, c0 := lumaAt k g c, c1 := chromaPixel k g lo hi c false, c2 := chromaPixel k g lo hi c true }

/-- One stage of the filter over some taps (R224): coefficients with 10 fraction bits. A pixel of a video format carries no alpha, and its
alpha is 255 whatever the coefficients are (R220). -/
def filterTaps (hasAlpha : Bool) (taps : List (Int × SPix)) : SPix :=
  let sum := fun (f : SPix → Nat) => roundDiv (taps.foldl (fun (a : Int) t => a + t.1 * (f t.2 : Nat)) 0) 1024
  { a := if hasAlpha then (clampInt 0 255 (sum (·.a))).toNat else 255, c0 := clamp12 (sum (·.c0)), c1 := clamp12 (sum (·.c1)), c2 := clamp12 (sum (·.c2)) }

/-- The taps of one output index on an axis: each coefficient with its source index inside the window (R223, R224). -/
def axisTaps (set taps src16 len out x : Nat) : List (Int × Nat) :=
  let pos := scalePos src16 len out x
  let w := sourceWindow src16 len
  (List.range taps).map (fun k => (coefOf set taps pos.2 k, (clampInt w.1 w.2 (pos.1 - (taps / 2 - 1 : Nat) + (k : Nat))).toNat))

/-- A 3 x 4 matrix applied to a slot pixel (R230). -/
def applyMatrix (m : List Int) (p : SPix) : Pix :=
  let row := fun (i : Nat) => clamp12 (roundDiv (m.getD (4 * i) 0 * p.c0 + m.getD (4 * i + 1) 0 * p.c1 + m.getD (4 * i + 2) 0 * p.c2) 4096 +
    m.getD (4 * i + 3) 0)
  { r := row 0, g := row 1, b := row 2 }

/-- One component blended (R234): C_s over C_d with the effective alpha a and the layer's ALPHA. -/
def blendComp (mode a alpha cs cd : Nat) : Nat :=
  let rd := fun (n k : Nat) => (roundDiv (n : Nat) k).toNat
  match mode with
  | 0 => rd (cs * a + cd * (255 - a)) 255
  | 1 => min 4095 (rd (cs * alpha) 255 + rd (cd * (255 - a)) 255)
  | 2 => min 4095 (cd + rd (cs * a) 255)
  | 3 => rd (cd * (cs * a + 4095 * (255 - a))) (4095 * 255)
  | 4 => cs
  | _ => (cd : Int) + rd (cs * a) 255 - rd (cd * cs * a) (4095 * 255) |>.toNat

/-- A slot's pixel blended over the result so far (R234). -/
def blendPix (mode as alpha : Nat) (s d : Pix) : Pix :=
  let a := (roundDiv (as * alpha : Nat) 255).toNat
  { r := blendComp mode a alpha s.r d.r, g := blendComp mode a alpha s.g d.g, b := blendComp mode a alpha s.b d.b }

/-- One sprite pixel composed over the sprites below it (R203): with source-over of R234. -/
def spriteOver (p : SPix) : Option SPix → SPix
  | none => p
  | some q =>
    let c := fun (s x : Nat) => blendComp 0 p.a 255 s x
    { a := if p.a = 255 ∨ q.a = 255 then 255 else (Config.spriteAlpha p.a q.a).toNat, c0 := c p.c0 q.c0, c1 := c p.c1 q.c1, c2 := c p.c2 q.c2 }

/-- Component x through a gamma table (R242). -/
def gammaComp (tab : List Byte) (x : Nat) : Nat :=
  let e := fun (k : Nat) => ((ofLe (sliceOf tab (2 * k) 2) : Nat) : Int)
  (e (x / 16) + roundDiv ((e (x / 16 + 1) - e (x / 16)) * (x % 16 : Nat)) 16).toNat

/-- A matrix member of 24 octets as 12 signed numbers (R240). -/
def matrixOf (b : List Byte) : List Int := (List.range 12).map (fun i => sintOf 16 (ofLe (sliceOf b (2 * i) 2)))

end Sys2Proof.Machine
end

