-- ==== Sys2Proof/Machine/Compose.lean ====
section
/-!
DEFINITION. The pipes (tile, sprite and video chapters): the pixels of a layer, the lines of a stage and a band, what a line
fetches, race-mode lines, and the commands PIPE_LINE_COMPOSE, RACE_LINE_READ and RESIDENT_LOAD_COMPLETE (R98, R136, R180 to R215,
R221 to R239, R254, R263).
-/
namespace Sys2Proof.Machine

/-- The degrades a frame of a head shows: withdrawn layers as R136 says, then those in effect (R167, R668). -/
def shownActs (d : Dev) (h : Nat) : List Action :=
  let v := liveView d h
  ((allocated d 0x12).filter (fun l => withdrawnOn d h l)).map (fun l =>
    ({ ref := l, degrade := if v.nat (layer_DEGRADE (refInst l)) = 3 then 3 else 2 } : Action)) ++ effectiveActs d h

/-- What the composition of one band of a head on a line looks at. Octets come from the line buffer of `pipe` where it holds them; number
32 is no pipe. -/
structure Frame where
  pipe : Nat
  d : Dev
  m : List Host.Cell
  h : Nat
  v : View
  acts : List Action
  band : Ref

/-- The frame in which a band of a head is composed. -/
def frameOf (d : Dev) (m : List Host.Cell) (h : Nat) (band : Ref) : Frame :=
  { pipe := 32, d := d, m := m, h := h, v := liveView d h, acts := shownActs d h, band := band }

/-- The frame as a pipe sees it. -/
def Frame.on (x : Frame) (p : Nat) : Frame := { x with pipe := p }

/-- A member of an object in a frame. -/
def Frame.nat (x : Frame) (r : Ref) : Nat := x.v.nat r

/-- The frame line of an active line (R243). -/
def Frame.line (x : Frame) (y : Nat) : Nat := (headOf x.d x.h).timing.vBlank + y

/-- The buffer of a surface that the frame reads (R128, R227). -/
def Frame.buffer (x : Frame) (o : Ref) : Nat := shownBuffer x.d x.h o

/-- An octet of the buffer that the frame reads of a surface: of the block that the pipe has fetched, else as memory holds it (R481). -/
def Frame.octet (x : Frame) (o : Ref) (k : Nat) : Byte :=
  gotByte x.d x.m (pipeOf x.d x.pipe).buffer (bufferBase x.d x.h (refInst o) (x.buffer o) + k)

/-- The words of the pipe's line buffer in a range that are uncorrectable (R483). -/
def Frame.pipeWordsBad (x : Frame) (a n : Nat) : List Nat :=
  (pipeOf x.d x.pipe).bufferBad.filter (fun w => decide (a / 8 ≤ w) && decide (w * 8 < a + n))

/-- Whether a range of octets is poisoned for the pipe (R473, R483): a block as it was read, a bank word, or a word of its buffer. -/
def Frame.bad (x : Frame) (a n : Nat) : Bool :=
  (blocksOf a n).any (fun b => gotBad { x.d with dram.badWords := [] } (pipeOf x.d x.pipe).buffer (b * 256)) ||
  !(bankWordsBad x.d a n).isEmpty || !(x.pipeWordsBad a n).isEmpty

/-- A little-endian word of a resident surface. -/
def Frame.word (x : Frame) (o : Ref) (k : Nat) : Nat := ofLe ((List.range 4).map (fun i => x.octet o (k + i)))

/-- The octets of a source line of a surface. -/
def Frame.row (x : Frame) (o : Ref) (r : Nat) : Nat → Byte := fun k => x.octet o (r * surfPitch x.d (refInst o) + k)

/-- The address of an octet of a source line. -/
def Frame.rowAddr (x : Frame) (o : Ref) (r k : Nat) : Nat :=
  bufferBase x.d x.h (refInst o) (x.buffer o) + r * surfPitch x.d (refInst o) + k

/-- The number of a source line of a race-mode slot of a band in a pipe's record of the lines read (R229). -/
def raceKey (band : Ref) (s r : Nat) : Nat := 65536 * (8 * refInst band + s) + r

/-- The source line that a race-mode slot reads: as it stood when it was read (R229); else the buffer. -/
def Frame.raceRow (x : Frame) (p s : Nat) (o : Ref) (r : Nat) : Nat → Byte :=
  match mapFind (pipeOf x.d p).raceData (raceKey x.band s r) with
  | some b => fun k => b.getD k 0
  | none => x.row o r

/-- An entry of a palette bank in a pipe's store (R184, R187): transparent without a palette of that bank in the scene. -/
def Frame.entry (x : Frame) (p bank i : Nat) : Option SPix :=
  match bankPalette x.d x.h bank with
  | some _ => some (pixArgb (mapGet (pipeOf x.d p).palette (256 * bank + i) 0))
  | none => none

/-- The layer line that an active line shows (R167). -/
def Frame.layerLine (x : Frame) (l : Ref) (y : Nat) : Nat :=
  shownLine x.acts l ((y : Int) - sintOf 16 (x.nat (layer_DEST_Y (refInst l)))).toNat

/-- The layer column of an active column. -/
def Frame.layerCol (x : Frame) (l : Ref) (col : Nat) : Nat := ((col : Int) - sintOf 16 (x.nat (layer_DEST_X (refInst l)))).toNat

/-- Whether a layer's clipped span holds a line (R102). -/
def Frame.onRow (x : Frame) (l : Ref) (y : Nat) : Bool :=
  let r := rowSpan x.v x.h x.band l
  decide (r.1 ≤ y) && decide (y < r.2)

/-- Whether a layer's clipped span holds a column (R102). -/
def Frame.onCol (x : Frame) (l : Ref) (c : Nat) : Bool :=
  let r := colSpan x.v x.h l
  decide (r.1 ≤ c) && decide (c < r.2)

/-- Whether a bitmap layer's pixels are forced opaque (R210). -/
def Frame.forced (x : Frame) (l : Ref) : Bool := x.nat (surf_OPAQUE (refInst (sourceOf x.v x.acts l))) == 1

/-- A pixel of a bitmap layer (R176, R180, R183, R210). -/
def bitmapPixel (x : Frame) (p : Nat) (l : Ref) (y c : Nat) : Option SPix :=
  let o := sourceOf x.v x.acts l
  let f := nGet x.d (surf_FORMAT (refInst o))
  let fb := degradeOf x.acts l == 3
  let sx := (if fb then 0 else (q16Int (x.nat (layer_SRC_X (refInst l)))).toNat) + x.layerCol l c
  let sy := (if fb then 0 else (q16Int (x.nat (layer_SRC_Y (refInst l)))).toNat) + x.layerLine l y
  let g := x.row o sy
  let raw :=
    if f = 0x07 ∨ f = 0x08 then
      (if x.nat (layer_PALETTE (refInst l)) = 0 then none
       else x.entry p (x.nat (pal_BANK (refInst (x.nat (layer_PALETTE (refInst l)))))) (indexPixel f g sx))
    else some (rgbPixel f g sx)
  raw.map (fun q => if x.forced l then { q with a := 255 } else q)

/-- Bits per pixel of a tile-data format (R176). -/
def tileDepth (f : Nat) : Nat := if f % 2 = 0 then 4 else 8

/-- The value at a column and a row of a tile (R178, R188). -/
def tileValue (x : Frame) (o : Ref) (t tile c r : Nat) : Nat :=
  let f := nGet x.d (surf_FORMAT (refInst o))
  let base := tile * (formatHalf f / 2) + r * t * tileDepth f / 8
  if tileDepth f = 8 then (x.octet o (base + c)).toNat else nibbleAt (fun k => x.octet o (base + k)) c

/-- The octet of the map at which the entry of a pixel of a tile-map layer stands, with the pixel's column and row in the tile (R192,
R194). -/
def tileAt (x : Frame) (p s : Nat) (l : Ref) (y c : Nat) : Nat × Nat × Nat :=
  let i := refInst (sourceOf x.v x.acts l)
  let t := tileSize x.v (sourceOf x.v x.acts l)
  let mapo := x.nat (tmap_MAP i)
  let mw := nGet x.d (surf_WIDTH (refInst mapo))
  let mh := nGet x.d (surf_HEIGHT (refInst mapo))
  let yl := x.layerLine l y
  let tab := x.nat (tmap_SCROLL_TABLE i)
  let e := if tab = 0 then 0 else x.word tab (4 * yl)
  let reg := lineReg x.d p (0x100 + 0x40 * s) (x.line y) x.band 0
  let sx := (q16Int (x.nat (layer_SRC_X (refInst l))) + sintOf 16 reg + sintOf 16 e + (x.layerCol l c : Nat)) % ((max 1 mw * t : Nat) : Int)
  let sy := (q16Int (x.nat (layer_SRC_Y (refInst l))) + sintOf 16 (reg / 65536) + sintOf 16 (e / 65536) + (yl : Nat)) % ((max 1 mh * t : Nat) : Int)
  (sy.toNat / t * surfPitch x.d (refInst mapo) + 4 * (sx.toNat / t), sx.toNat % t, sy.toNat % t)

/-- The map of a tile-map layer. -/
def Frame.mapOf (x : Frame) (l : Ref) : Ref := x.nat (tmap_MAP (refInst (sourceOf x.v x.acts l)))

/-- The map entry that a pixel of a tile-map layer falls in, with its column and row in the tile (R192, R194). -/
def tileEntry (x : Frame) (p s : Nat) (l : Ref) (y c : Nat) : Nat × Nat × Nat :=
  let e := tileAt x p s l y c
  (x.word (x.mapOf l) e.1, e.2)

/-- A pixel of a tile-map layer (R187, R191 to R193). -/
def tilePixel (x : Frame) (p s : Nat) (l : Ref) (y c : Nat) : Option SPix :=
  let i := refInst (sourceOf x.v x.acts l)
  let t := tileSize x.v (sourceOf x.v x.acts l)
  let (e, c0, r0) := tileEntry x p s l y c
  let o := if bitOf e 13 then x.nat (tmap_TILES_1 i) else x.nat (tmap_TILES_0 i)
  let bank := fieldOf e 14 4
  if bitOf e 25 then none
  else if o = 0 ∨ nGet x.d (surf_WIDTH (refInst o)) ≤ fieldOf e 0 13 ∨ x.nat (tmap_PALETTE i bank) = 0 then none
  else
    let c1 := if bitOf e 22 then t - 1 - c0 else c0
    let r1 := if bitOf e 23 then t - 1 - r0 else r0
    let val := tileValue x o t (fieldOf e 0 13) c1 r1
    let idx := if tileDepth (nGet x.d (surf_FORMAT (refInst o))) = 8 then val else fieldOf e 18 4 * 16 + val
    if val = 0 ∧ x.nat (tmap_ZERO_TRANSPARENT i) = 1 ∧ bitOf e 24 = false then none
    else (x.entry p bank idx).map (fun q => if bitOf e 24 then { q with a := 255 } else q)

/-- Word w of descriptor i as it governs an active line (R196, R204, R205). -/
def descWord (x : Frame) (p : Nat) (desc : Ref) (y i w : Nat) : Nat :=
  lineReg x.d p (0x8000 + 16 * i + 4 * w) (x.line y) x.band (x.word desc (16 * i + 4 * w))

/-- A sprite descriptor as the sprite unit reads it (R200). -/
structure Sprite where
  index : Nat
  x : Int
  y : Int
  w : Nat
  ht : Nat
  off : Nat
  word2 : Nat
  alpha : Nat
  deriving DecidableEq, Repr

/-- The depth of a sprite in bits (R200). -/
def Sprite.depth (q : Sprite) : Nat := if bitOf q.word2 28 then 8 else 4
/-- Octets of one row of a sprite (R200). -/
def Sprite.pitch (q : Sprite) : Nat := ceilDiv (q.w * q.depth) 32 * 4

/-- Descriptor i of a sprite set on a line. -/
def spriteAt (x : Frame) (p : Nat) (desc : Ref) (y i : Nat) : Sprite :=
  let w0 := descWord x p desc y i 0
  let w2 := descWord x p desc y i 2
  { index := i, x := sintOf 16 w0, y := sintOf 16 (w0 / 65536), w := fieldOf w2 0 8 + 1, ht := fieldOf w2 8 8 + 1,
    off := fieldOf (descWord x p desc y i 1) 0 24, word2 := w2, alpha := fieldOf (descWord x p desc y i 3) 0 8 }

/-- Columns of a sprite inside the layer's window and the active width (R201). -/
def clippedWidth (x : Frame) (l : Ref) (q : Sprite) : Nat :=
  let sp := colSpan x.v x.h l
  let x0 := q16Int (x.nat (layer_SRC_X (refInst l))) + (x.layerCol l sp.1 : Nat)
  let x1 := x0 + ((sp.2 - sp.1 : Nat) : Int)
  (min (q.x + q.w) x1 - max q.x x0).toNat

/-- Whether a sprite's columns overlap the layer's window (R201). -/
def overlapsWindow (x : Frame) (l : Ref) (q : Sprite) : Bool :=
  let x0 := q16Int (x.nat (layer_SRC_X (refInst l)))
  decide (q.x < x0 + x.nat (layer_WIDTH (refInst l))) && decide (x0 < q.x + q.w)

/-- The plane row that an active line shows. -/
def planeRow (x : Frame) (l : Ref) (y : Nat) : Int := q16Int (x.nat (layer_SRC_Y (refInst l))) + (x.layerLine l y : Nat)

/-- The enabled descriptors that count for a line, in rising index order (R201). -/
def lineSprites (x : Frame) (p : Nat) (l : Ref) (y : Nat) : List Sprite :=
  let desc := x.nat (sset_DESCRIPTORS (refInst (sourceOf x.v x.acts l)))
  let row := planeRow x l y
  ((List.range (nGet x.d (surf_WIDTH (refInst desc)))).map (spriteAt x p desc y)).filter (fun q =>
    bitOf q.word2 29 && decide (q.y ≤ row) && decide (row < q.y + q.ht) && overlapsWindow x l q)

/-- The descriptors of a line before the first that breaks a limit of R201, and whether there is one. -/
def spriteLimit (x : Frame) (l : Ref) (n w : Nat) : List Sprite → List Sprite × Bool
  | [] => ([], false)
  | q :: qs =>
    let w' := w + clippedWidth x l q
    if 97 ≤ n + 1 ∨ 2048 < w' then ([], true)
    else let r := spriteLimit x l (n + 1) w' qs; (q :: r.1, r.2)

/-- Whether a descriptor is bad (R202). -/
def badSprite (x : Frame) (data : Ref) (q : Sprite) : Bool :=
  decide (q.off % 4 ≠ 0) || decide (nGet x.d (surf_SIZE (refInst data)) < q.off + q.ht * q.pitch)

/-- Sprites in the order they are composed (R203): rising PRIORITY, then falling index. -/
def spriteOrder (l : List Sprite) : List Sprite := sortBy (fun q => fieldOf q.word2 26 2 * 1024 + (1023 - q.index)) l

/-- The pixel of one sprite at a plane position, if it covers it and is not transparent (R200). -/
def spritePixel (x : Frame) (p : Nat) (t : Ref) (q : Sprite) (px py : Int) : Option SPix :=
  let data := x.nat (sset_DATA (refInst t))
  let bank := fieldOf q.word2 16 4
  if px < q.x ∨ q.x + q.w ≤ px ∨ x.nat (sset_PALETTE (refInst t) bank) = 0 then none
  else
    let c := (px - q.x).toNat
    let r := (py - q.y).toNat
    let c := if bitOf q.word2 24 then q.w - 1 - c else c
    let r := if bitOf q.word2 25 then q.ht - 1 - r else r
    let g := fun k => x.octet data (q.off + r * q.pitch + k)
    let val := if q.depth = 8 then (g c).toNat else nibbleAt g c
    if val = 0 then none
    else (x.entry p bank (if q.depth = 8 then val else fieldOf q.word2 20 4 * 16 + val)).map (fun e =>
      { e with a := (roundDiv (e.a * q.alpha : Nat) 255).toNat })

/-- A pixel of a sprite-set layer (R201 to R203). -/
def spriteSetPixel (x : Frame) (p : Nat) (l : Ref) (drawn : List Sprite) (y c : Nat) : Option SPix :=
  let t := sourceOf x.v x.acts l
  let px := q16Int (x.nat (layer_SRC_X (refInst l))) + (x.layerCol l c : Nat)
  drawn.foldl (fun acc q =>
    match spritePixel x p t q px (planeRow x l y) with
    | some e => some (spriteOver e acc)
    | none => acc) none

/-- The sprites drawn on a line (R201, R202), in composition order. -/
def drawnSprites (x : Frame) (p : Nat) (l : Ref) (y : Nat) : List Sprite :=
  let data := x.nat (sset_DATA (refInst (sourceOf x.v x.acts l)))
  spriteOrder ((spriteLimit x l 0 0 (lineSprites x p l y)).1.filter (fun q => !badSprite x data q))

/-- Whether a video layer has a buffer to show in this frame (R227). -/
def videoShown (x : Frame) (l : Ref) : Bool :=
  let o := sourceOf x.v x.acts l
  match boundInput x.d o with
  | some _ => (mapFind x.d.scene.selected (65536 * x.h + refInst o)).isSome
  | none => true

/-- A pixel of a video layer: the horizontal stage on each source line, then the vertical stage (R221 to R225; assumption
log 27). -/
def videoLayerPixel (x : Frame) (p s : Nat) (l : Ref) (y c : Nat) : Option SPix :=
  let i := refInst l
  let o := sourceOf x.v x.acts l
  let f := nGet x.d (surf_FORMAT (refInst o))
  let sw := x.nat (layer_SRC_W i)
  let sh := x.nat (layer_SRC_H i)
  let ow := x.nat (layer_WIDTH i)
  let oh := videoHeight x.v x.acts l
  let w := sourceWindow (x.nat (layer_SRC_X i)) sw
  let yl := ((y : Int) - sintOf 16 (x.nat (layer_DEST_Y i))).toNat
  let hor := axisTaps (axisSet x.v x.h true sw ow) 8 (x.nat (layer_SRC_X i)) sw ow (x.layerCol l c)
  let ver := axisTaps (axisSet x.v x.h false sh oh) 6 (x.nat (layer_SRC_Y i)) sh oh (videoLine x.acts l yl)
  if videoShown x l then
    let filter := filterTaps (decide (f < 0x20))
    some (filter (ver.map (fun t => (t.1, filter (hor.map (fun u => (u.1, videoPixel f (x.raceRow p s o t.2) w.1 w.2 u.2)))))))
  else none

/-- A pixel of the layer in a slot, before the slot's matrix; none is transparent. -/
def slotPixel (x : Frame) (p s : Nat) (l : Ref) (drawn : List Sprite) (y c : Nat) : Option SPix :=
  if !(x.onRow l y && x.onCol l c) || decide (degradeOf x.acts l = 2) then none
  else match kindOf x.v x.acts l with
    | 0 => bitmapPixel x p l y c
    | 1 => tilePixel x p s l y c
    | 2 => spriteSetPixel x p l drawn y c
    | _ => videoLayerPixel x p s l y c

/-- ORDER as a list of slots from the bottom, each once at its highest position (R235, R237). -/
def orderSlots (order : Nat) : List Nat :=
  let l := (List.range 8).map (fun i => fieldOf order (3 * i) 3)
  ((List.range 8).filter (fun i => !(l.drop (i + 1)).contains (l.getD i 0))).map (fun i => l.getD i 0)

/-- The slots of a stage on a line in blend order: slot and layer (R235 to R237). -/
def blendOrder (x : Frame) (p : Nat) (slots : List (Nat × Ref)) (y : Nat) : List (Nat × Ref) :=
  let order := lineReg x.d p 0x300 (x.line y) x.band (loadedOrder x.v slots)
  (orderSlots order).filterMap (fun s => slots.find? (fun e => decide (e.1 = s)))

/-- Whether a higher slot's layer offers coverage of a column of a line (R210, R211). -/
def covers (x : Frame) (p : Nat) (e : Nat × Ref) (y c : Nat) : Bool :=
  let l := e.2
  x.onRow l y && x.onCol l c && decide (degradeOf x.acts l ≠ 2) &&
  (match kindOf x.v x.acts l with
   | 0 => x.forced l && (bitmapPixel x p l y c).isSome
   | 1 => let w := (tileEntry x p e.1 l y c).1; bitOf w 24 && !bitOf w 25
   | _ => false)

/-- Whether the fetch of a lower slot is skipped on a line (R238, R239). -/
def skipped (x : Frame) (p : Nat) (above : List (Nat × Ref)) (l : Ref) (y : Nat) : Bool :=
  let sp := colSpan x.v x.h l
  decide (kindOf x.v x.acts l < 2) &&
  above.any (fun e => decide (x.nat (layer_ALPHA (refInst e.2)) = 255) &&
    [0, 1, 4].contains (x.nat (layer_BLEND (refInst e.2))) &&
    (List.range (sp.2 - sp.1)).all (fun k => covers x p e y (sp.1 + k)))

/-- One stage of a line (R214, R215, R234): its slots blended over what the stage below gives. -/
def stageLine (x : Frame) (p : Nat) (slots : List (Nat × Ref)) (y : Nat) (below : List Pix) : List Pix :=
  let es := blendOrder x p slots y
  let drawn := es.map (fun e => (e, if kindOf x.v x.acts e.2 = 2 then drawnSprites x p e.2 y else []))
  ((List.range below.length).zip below).map (fun q =>
    drawn.foldl (fun (acc : Pix) (e : (Nat × Ref) × List Sprite) =>
      let s := e.1.1
      let l := e.1.2
      match slotPixel x p s l e.2 y q.1 with
      | some sp => blendPix (x.nat (layer_BLEND (refInst l))) sp.a (x.nat (layer_ALPHA (refInst l)))
          (applyMatrix (slotMatrix x.d p x.h s (slotFormat x.d x.v x.acts l)) sp) acc
      | none => acc) q.2)

/-- The pipe of stage s for an active line of a placed band (R215). -/
def stagePipe (b : BandPlace) (s y : Nat) : Nat := b.first + s * b.split + y % max 1 b.split

/-- A line of a band through all its stages (R98, R215). -/
def bandLine (d : Dev) (m : List Host.Cell) (b : BandPlace) (y : Nat) : List Pix :=
  let x := frameOf d m b.head b.band
  let w := (headOf d b.head).timing.hActive
  (List.range b.stages).foldl (fun acc s =>
    let p := stagePipe b s y
    stageLine (x.on p) p (pipeSlots d b p) y acc)
    (List.replicate w (pixRgb (x.nat (band_BACKGROUND (refInst b.band)))))

/-- Whether a video layer reads a surface that its input writes in race mode (R229). -/
def Frame.races (x : Frame) (l : Ref) : Bool :=
  match boundInput x.d (sourceOf x.v x.acts l) with
  | some i => decide (nGet x.d (vin_BUFFER_MODE i) = 1)
  | none => false

/-- The runs that a layer fetches on a line: first octet and how many (R180, R208, R226); a race-mode slot reads its lines on its own
(R229). -/
def layerRuns (x : Frame) (p s : Nat) (l : Ref) (y : Nat) : List (Nat × Nat) :=
  let first := ((rowSpan x.v x.h x.band l).1 : Int) - sintOf 16 (x.nat (layer_DEST_Y (refInst l)))
  let yl := ((y : Int) - sintOf 16 (x.nat (layer_DEST_Y (refInst l)))).toNat
  let src := sourceOf x.v x.acts l
  match kindOf x.v x.acts l with
  | 0 => if fetchesOn x.acts l first.toNat yl then [bitmapRun x.d x.v x.h x.acts l yl (x.buffer src)] else []
  | 1 =>
    if fetchesOn x.acts l first.toNat yl then
      let sp := colSpan x.v x.h l
      let t := tileSize x.v src
      if sp.2 ≤ sp.1 then [] else
      (List.range (ceilDiv (sp.2 - sp.1) t + 1)).map (fun k =>
        (x.rowAddr (x.mapOf l) 0 (tileAt x p s l y (min (sp.1 + k * t) (sp.2 - 1))).1, 4))
    else []
  | 2 => []
  | _ =>
    let rows := rowSpan x.v x.h x.band l
    let y0 := sintOf 16 (x.nat (layer_DEST_Y (refInst l)))
    let used := fun (a : Nat) => videoLines x.v x.h x.acts l ((a : Int) - y0).toNat
    let before := ((List.range (y - rows.1)).map (fun k => used (rows.1 + k))).flatten
    if x.races l then []
    else ((used y).foldl addOnce [] |>.filter (fun r => !before.contains r)).map (fun r => videoRun x.d x.v x.h l r (x.buffer src))

/-- The runs that a stage fetches for a line in the order in which it asks for them (R180, R208, R226, R238, R239): the map entries
of its tile maps from the top slot down, since one that covers is fetched before the slots under it, then the other runs from the
bottom. -/
def stageRuns (x : Frame) (p : Nat) (slots : List (Nat × Ref)) (y : Nat) : List (Nat × Nat) :=
  let es := blendOrder x p slots y
  let runs := ((List.range es.length).zip es).map (fun (e : Nat × Nat × Ref) =>
    (kindOf x.v x.acts e.2.2 == 1,
     if x.onRow e.2.2 y && decide (degradeOf x.acts e.2.2 ≠ 2) && !skipped x p (es.drop (e.1 + 1)) e.2.2 y then layerRuns x p e.2.1 e.2.2 y
     else []))
  (((runs.filter (·.1)).reverse ++ runs.filter (fun e => !e.1)).map (·.2)).flatten

/-- Whether a layer is composed from resident surfaces (R206): a tile map or a sprite set. -/
def Frame.resident (x : Frame) (l : Ref) : Bool :=
  (kindOf x.v x.acts l == 1 || kindOf x.v x.acts l == 2) && decide (degradeOf x.acts l ≠ 2)

/-- The octets of a resident surface: first and how many (R206). -/
def Frame.span (x : Frame) (o : Ref) : Nat × Nat := (bufferBase x.d x.h (refInst o) (x.buffer o), nGet x.d (surf_SIZE (refInst o)))

/-- The DRAM blocks of some runs, each once. -/
def dramBlocks (d : Dev) (runs : List (Nat × Nat)) : List (Nat × Nat) :=
  (((runs.map (fun r => blocksOf r.1 r.2)).flatten).foldl addOnce []).filterMap (fun b =>
    (channelOfAddr d (b * 256)).map (fun c => (b, c)))

/-- Block reads asked for by a pipe (R478, R480). -/
def askBlocks (d : Dev) (unit : Nat) (l : List (Nat × Nat)) : Dev :=
  l.foldl (fun d e => askRead d { cls := 0, unit := unit, block := e.1, chan := e.2, cancelled := false }) d

/-- The lines that a pipe composes for one band (R215). -/
def pipeTakes (b : BandPlace) (p y : Nat) : Bool := decide ((p - b.first) % max 1 b.split = y % max 1 b.split)

/-- The next active line that a pipe composes, with its band (R197, R215). -/
def nextLine (d : Dev) (p : Nat) : Option (Nat × BandPlace) :=
  let from' := (pipeOf d p).next
  (bandsOn d p).foldl (fun (acc : Option (Nat × BandPlace)) b =>
    let v := liveView d b.head
    let top := v.nat (band_TOP (refInst b.band))
    let ht := v.nat (band_HEIGHT (refInst b.band))
    match ((List.range (top + ht - max top from')).map (fun k => max top from' + k)).find? (pipeTakes b p) with
    | none => acc
    | some y => match acc with
      | some a => if y < a.1 then some (y, b) else some a
      | none => some (y, b)) none

/-- The reads of a pipe's next line asked for. -/
def askLine (d : Dev) (m : List Host.Cell) (p : Nat) : Dev :=
  match nextLine d p with
  | some (y, b) => askBlocks d p (dramBlocks d (stageRuns (frameOf d m b.head b.band) p (pipeSlots d b p) y))
  | none => d

/-- The resident loads of a band on a pipe in rising slot order, with the octets of each: slot and runs (R206). -/
def bandLoads (x : Frame) (slots : List (Nat × Ref)) : List (Nat × List (Nat × Nat)) :=
  (sortBy (fun e => e.1) (slots.filter (fun e => x.resident e.2))).map (fun e => (e.1, (residentRefs x.v x.acts e.2).map x.span))

/-- A pipe's resident loads asked for (R206): those of each layer that it composes, in rising slot order. -/
def askResident (d : Dev) (m : List Host.Cell) (p : Nat) : Dev :=
  let loads := ((bandsOn d p).map (fun b => (bandLoads (frameOf d m b.head b.band) (pipeSlots d b p)).map (fun e => (b.band, e)))).flatten
  let load := fun (e : Ref × Nat × List (Nat × Nat)) =>
    let bs := (dramBlocks d e.2.2).map (·.1)
    ({ band := e.1, slot := e.2.1, blocks := bs, done := if bs.isEmpty then some 0 else none } : ResidentLoad)
  updPipe (askBlocks d (32 + p) (dramBlocks d ((loads.map (fun e => e.2.2)).flatten))) p (fun x => { x with loads := loads.map load })

/-- Whether a column of a line uses poisoned octets (R473); `p` and `s` are the layer's pipe and slot. -/
def pixelPoisoned (x : Frame) (p s : Nat) (l : Ref) (y c : Nat) : Bool :=
  let src := sourceOf x.v x.acts l
  let half := formatHalf (nGet x.d (surf_FORMAT (refInst src)))
  let i := refInst l
  x.onRow l y && x.onCol l c && decide (degradeOf x.acts l ≠ 2) &&
  (match kindOf x.v x.acts l with
   | 0 =>
     let fb := degradeOf x.acts l == 3
     let sx := (if fb then 0 else (q16Int (x.nat (layer_SRC_X i))).toNat) + x.layerCol l c
     let sy := (if fb then 0 else (q16Int (x.nat (layer_SRC_Y i))).toNat) + x.layerLine l y
     x.bad (x.rowAddr src sy (sx * half / 2)) (ceilDiv half 2)
   | 1 => x.bad (x.rowAddr (x.mapOf l) 0 (tileAt x p s l y c).1) 4
   | 2 => false
   | _ =>
     let hor := tapsUsed (axisSet x.v x.h true (x.nat (layer_SRC_W i)) (x.nat (layer_WIDTH i))) 8 (x.nat (layer_SRC_X i)) (x.nat (layer_SRC_W i))
       (x.nat (layer_WIDTH i)) (x.layerCol l c)
     let yl := ((y : Int) - sintOf 16 (x.nat (layer_DEST_Y i))).toNat
     (videoLines x.v x.h x.acts l yl).any (fun r =>
       hor.any (fun k => x.bad (x.rowAddr src r (k * half / 2)) (ceilDiv half 2))))

/-- The segments of a line of a band that use poisoned octets (R473): a poisoned resident surface takes every line of its layer. -/
def poisonedSegments (x : Frame) (b : BandPlace) (y : Nat) : List Nat :=
  let w := (headOf x.d x.h).timing.hActive
  let segs := List.range (ceilDiv w 128)
  let stages := (List.range b.stages).map (fun s => (stagePipe b s y, pipeSlots x.d b (stagePipe b s y)))
  let bad := stages.any (fun e =>
    e.2.any (fun q => x.onRow q.2 y && x.resident q.2 && (residentRefs x.v x.acts q.2).any (fun o =>
      (x.on e.1).bad (x.span o).1 (x.span o).2)))
  if bad then segs
  else segs.filter (fun g => stages.any (fun e =>
    let x := x.on e.1
    let es := blendOrder x e.1 e.2 y
    ((List.range es.length).zip es).any (fun q => !skipped x e.1 (es.drop (q.1 + 1)) q.2.2 y &&
      (List.range 128).any (fun k => decide (128 * g + k < w) && pixelPoisoned x e.1 q.2.1 q.2.2 y (128 * g + k)))))

/-- The uncorrectable SRAM words that a stage reads for a line, each as its address and the place of the error log: of the cluster banks,
then of the pipe (R483, R493). -/
def lineWords (x : Frame) (p : Nat) (slots : List (Nat × Ref)) (y : Nat) : List (Nat × Nat) :=
  let res := ((slots.filter (fun e => x.onRow e.2 y && x.resident e.2)).map (fun e => (residentRefs x.v x.acts e.2).map x.span)).flatten
  let spans := stageRuns x p slots y ++ res
  let words := fun (f : Nat → Nat → List Nat) => ((spans.map (fun r => f r.1 r.2)).flatten).foldl addOnce []
  (words (bankWordsBad x.d)).map (fun w => (8 * w, 9)) ++ (words (x.on p).pipeWordsBad).map (fun w => (8 * w, 10))

/-- The counts of R201 and R202 for a sprite-set layer that a pipe composes on a line: a bad descriptor counts once per frame,
whichever pipes meet it. -/
def countSprites (d : Dev) (x : Frame) (p : Nat) (l : Ref) (y : Nat) : Dev :=
  let t := refInst (sourceOf x.v x.acts l)
  let lim := spriteLimit x l 0 0 (lineSprites x p l y)
  let data := x.nat (sset_DATA t)
  let bad := ((lim.1.filter (badSprite x data)).map (fun q => 1024 * t + q.index)).filter (fun i => !(headOf d x.h).badDesc.contains i)
  let d := updHead (nAdd d (sset_BAD_DESCRIPTORS t) bad.length) x.h (fun q => { q with badDesc := q.badDesc ++ bad })
  if lim.2 then raise (nSet (nInc d (sset_OVERFLOW_LINES t)) (sset_LAST_OVERFLOW_LINE t) y) (512 + 2 * p) else d

/-- The source lines that a race-mode slot of a pipe needs for a line of its band: slot and line (R229). -/
def raceLines (x : Frame) (slots : List (Nat × Ref)) (y : Nat) : List (Nat × Nat) :=
  ((slots.filter (fun e =>
    decide (kindOf x.v x.acts e.2 = 3) && decide (degradeOf x.acts e.2 ≠ 2) && x.onRow e.2 y && videoShown x e.2 && x.races e.2)).map (fun e =>
      let yl := ((y : Int) - sintOf 16 (x.nat (layer_DEST_Y (refInst e.2)))).toNat
      ((videoLines x.v x.h x.acts e.2 yl).foldl addOnce []).map (fun r => (e.1, r)))).flatten

/-- Whether the input has written a source line of the selected buffer completely (R421): in the frame that it last started, or in
the last frame that this buffer took before. -/
def lineWritten (d : Dev) (i buf r : Nat) : Bool :=
  let x := mapGet d.lanes.input i VideoIn.reset
  if x.started && !x.dropping && x.lastStart == buf then x.done.contains r || decide (r < x.line)
  else match mapGet x.earlier buf [] with
    | [] => false
    | line :: done => done.contains r || decide (r < line)

/-- When the resident loads that a stage needs for an active line were complete, with the beam at these pixels (R206): of each tile-map or
sprite-set layer that covers it; none for one that is not complete. -/
def neededLoads (x : Frame) (p : Nat) (slots : List (Nat × Ref)) (y : Nat) : List (Option Nat) :=
  (slots.filter (fun e => x.onRow e.2 y && x.resident e.2)).map (fun e =>
    ((pipeOf x.d p).loads.find? (fun l => decide (l.band = x.band) && decide (l.slot = e.1))).bind (·.done))

/-- Whether the resident loads that a stage needs for an active line are complete (R206). -/
def loadsReady (x : Frame) (p : Nat) (slots : List (Nat × Ref)) (y : Nat) : Bool := (neededLoads x p slots y).all (·.isSome)

/-- Whether a pipe has all but the resident loads that it needs to compose a line now: its reads are done, its race-mode lines are read,
and the stage below has composed it (R215, R229). -/
def lineReady (d : Dev) (m : List Host.Cell) (p y : Nat) (b : BandPlace) : Bool :=
  let x := frameOf d m b.head b.band
  let s := (p - b.first) / max 1 b.split
  decide (readsOf d 0 p = 0) &&
  (raceLines x (pipeSlots d b p) y).all (fun r => (pipeOf d p).raceRead.contains (raceKey b.band r.1 r.2)) &&
  (decide (s = 0) || (pipeOf d (stagePipe b (s - 1) y)).out.contains y)

/-- The segments of a line that the beam has reached (R263). -/
def lateSegments (d : Dev) (h y : Nat) : List Nat :=
  let t := (headOf d h).timing
  let pos := beamPos d h
  let f := t.vBlank + y
  (List.range (ceilDiv t.hActive 128)).filter (fun g => decide (f < pos.1) || (decide (f = pos.1) && decide (128 * g ≤ pos.2)))

/-- Whether a resident load that a line needs came after the line began to enter the mixer, on any of its stages, or has not come: every
segment of the line is then an underrun (R206, R263). -/
def residentLate (x : Frame) (b : BandPlace) (y : Nat) : Bool :=
  (List.range b.stages).any (fun s =>
    let p := stagePipe b s y
    (neededLoads x p (pipeSlots x.d b p) y).any (fun t =>
      match t with
      | some t => decide (x.line y * (headOf x.d x.h).timing.hTotal < t)
      | none => true))

/-- A line that the last stage hands to the head (R215, R263): one that the beam has passed is discarded (R265). -/
def handOver (d : Dev) (m : List Host.Cell) (b : BandPlace) (y : Nat) : Dev :=
  let x := frameOf d m b.head b.band
  if y < (headOf d b.head).cursor then d
  else
    let late :=
      if residentLate x b y then List.range (ceilDiv (headOf d b.head).timing.hActive 128)
      else (lateSegments d b.head y ++ poisonedSegments x b y).foldl addOnce []
    let l : DoneLine := { line := y, pixels := bandLine d m b y, late := late }
    updHead d b.head (fun q => { q with lines := q.lines.filter (fun e => decide (e.line ≠ y)) ++ [l] })

/-- Lines composed before a palette or matrix write takes effect are made anew from its position on (R186, R196, R232). -/
def recompose (d : Dev) (m : List Host.Cell) (h line col : Nat) : Dev :=
  let vb := (headOf d h).timing.vBlank
  updHead d h (fun q => { q with lines := q.lines.map (fun e =>
    match d.stoker.bands.find? (fun b => decide (b.head = h) &&
        decide ((liveView d h).nat (band_TOP (refInst b.band)) ≤ e.line) &&
        decide (e.line < (liveView d h).nat (band_TOP (refInst b.band)) + (liveView d h).nat (band_HEIGHT (refInst b.band)))) with
    | none => e
    | some b =>
      if vb + e.line < line then e
      else
        let k := if vb + e.line = line then col else 0
        { e with pixels := e.pixels.take k ++ (bandLine d m b e.line).drop k }) })

/-- The lease keys of what a pipe composes an active line from (R126): the band, and each layer on the line with the objects that
its source and palette reach, or its FALLBACK. -/
def composedKeys (x : Frame) (slots : List (Nat × Ref)) (y : Nat) : List Nat :=
  let on := slots.filter (fun e => x.onRow e.2 y && decide (degradeOf x.acts e.2 ≠ 2))
  let from' := fun (l : Ref) =>
    (if degradeOf x.acts l = 3 then [x.nat (layer_FALLBACK (refInst l))]
     else [x.nat (layer_SOURCE (refInst l)), x.nat (layer_PALETTE (refInst l))]).filter (namesObject x.d)
  (on.foldl (fun s e => (from' e.2).foldl (reach x.d x.v) (addOnce s e.2)) [x.band]).map (fun o => leaseKey o (x.buffer o))

/-- The frame of a head has read some lease keys (R126). -/
def noteRead (d : Dev) (h : Nat) (ks : List Nat) : Dev :=
  { d with scene.reading := mapSet d.scene.reading h (ks.foldl addOnce (mapGet d.scene.reading h [])) [] }

/-- PIPE_LINE_COMPOSE (R126, R196, R201, R206, R215): a pipe composes its next line, at most two lines ahead of the beam, once all that it
needs is there; a line that the beam has passed while a resident load is not complete is given up, an underrun. -/
def doPipeLineCompose (p : Fin 32) (m : List Host.Cell) (d : Dev) : Dev :=
  match nextLine d p.val with
  | none => d
  | some (y, b) =>
    let h := b.head
    let x := (frameOf d m h b.band).on p.val
    let s := (p.val - b.first) / max 1 b.split
    let beam := (beamPos d h).1
    let loads := loadsReady x p.val (pipeSlots d b p.val) y
    let passOn := fun (d : Dev) => updPipe d p.val (fun q => { q with next := y + 1, out := q.out ++ [y] })
    if nGet d (head_STATE h) ≠ 3 ∨ pipeDown d p.val ∨ beam + 2 < x.line y ∨ lineReady d m p.val y b = false then d
    else if loads = false ∧ beam ≤ x.line y then d
    else if loads = false then askLine (passOn d) m p.val
    else
      let sprites := (pipeSlots d b p.val).filter (fun e => decide (kindOf x.v x.acts e.2 = 2) && x.onRow e.2 y && decide (degradeOf x.acts e.2 ≠ 2))
      let d := sprites.foldl (fun d e => countSprites d x p.val e.2 y) d
      let d := noteRead d h (composedKeys x (pipeSlots d b p.val) y)
      let d := (lineWords x p.val (pipeSlots d b p.val) y).foldl (fun d w => sramBad d w.1 w.2 0) d
      let d := passOn d
      let d := if s + 1 = b.stages then handOver d m b y else d
      askLine d m p.val

/-- A pipe reads a run at once (R229, R473, R478): its DRAM blocks pass the decoder and go into its line buffer. -/
def pipeReads (d : Dev) (m : List Host.Cell) (p : Nat) (run : Nat × Nat) : Dev :=
  (dramBlocks d [run]).foldl (fun d e =>
    let r : DramRead := { cls := 0, unit := p, block := e.1, chan := e.2, cancelled := false }
    decodeBlock (countRead (deliver d m r) r) e.1 e.2 0 0) d

/-- RACE_LINE_READ (R229): a source line that a race-mode slot waits for is read when it has been written, or as it stands at
its deadline, which counts. -/
def doRaceLineRead (p : Fin 32) (slot : Fin 2) (r : Nat) (m : List Host.Cell) (d : Dev) : Dev :=
  match nextLine d p.val with
  | none => d
  | some (y, b) =>
    let x := frameOf d m b.head b.band
    let slots := pipeSlots d b p.val
    let key := raceKey b.band slot.val r
    if !(raceLines x slots y).contains (slot.val, r) || (pipeOf d p.val).raceRead.contains key || !dramServes d then d
    else
      let l := ((slots.find? (fun e => decide (e.1 = slot.val))).map (·.2)).getD 0
      let o := sourceOf x.v x.acts l
      let i := (boundInput d o).getD 0
      let row := (List.range (lineBytes (nGet d (surf_FORMAT (refInst o))) (nGet d (surf_WIDTH (refInst o))))).map (x.row o r)
      let read := updPipe (pipeReads d m p.val (videoRun d x.v x.h l r (x.buffer o))) p.val (fun q =>
        { q with raceRead := q.raceRead ++ [key], raceData := mapPut q.raceData key row })
      if lineWritten d i (x.buffer o) r then read
      else if (beamPos d b.head).1 + 1 < x.line y then d
      else
        let first := !(pipeOf d p.val).raced
        let d := updPipe read p.val (fun q => { q with race := satAdd 16 q.race 1, raced := true })
        if first then raise d (512 + 2 * p.val + 1) else d

/-- RESIDENT_LOAD_COMPLETE (R206): the resident loads whose blocks have all arrived are complete, with the beam at the pixel that the pipe
keeps. -/
def doResidentLoadComplete (p : Fin 32) (d : Dev) : Dev :=
  let at' := ((headOfPipe d p.val).map (beamPixels d)).getD 0
  updPipe d p.val (fun x => { x with loads := x.loads.map (fun l =>
    if l.done.isNone && l.blocks.all (fun b => (mapFind x.buffer b).isSome) then { l with done := some at' } else l) })

/-- The bits of word w of a descriptor that are not reserved (R4, R200). -/
def descBits (w : Nat) : Nat := [32, 24, 30, 8].getD w 0

/-- A word of a pipe's descriptor copy as a read returns it (R204, R205): that of the sprite set which a write governing from the
present line would address, or the last that was there. -/
def descRead (d : Dev) (m : List Host.Cell) (p off : Nat) : Nat :=
  let i := (off - 0x8000) / 16
  let w := (off - 0x8000) % 16 / 4
  match headOfPipe d p with
  | none => 0
  | some h =>
    let line := (beamPos d h).1
    let mine := (bandsOn d p).filter (fun b => (bandSprites d h b.band).isSome)
    let at' := ((descriptorBand d h line).bind (fun (e : Ref × Nat) => mine.find? (fun (b : BandPlace) => decide (b.band = e.1))))
    match at'.orElse (fun _ => mine.getLast?) with
    | none => 0
    | some b =>
      let x := (frameOf d m h b.band).on p
      let desc := x.nat (sset_DESCRIPTORS (refInst ((bandSprites d h b.band).getD 0)))
      if nGet d (surf_WIDTH (refInst desc)) ≤ i then 0
      else lineReg d p off line b.band (x.word desc (16 * i + 4 * w)) % 2 ^ descBits w

/-- A register of pipe p as a read returns it (R4, R5). A line register reads as the value in force on the present frame line, so a write
that governs only a later line is not read before that line (R6 and R196 leave this open; assumption log 139). -/
def pipeRead (d : Dev) (m : List Host.Cell) (p off : Nat) : Nat :=
  let b := (bandsOn d p).head?
  let h := (b.map (·.head)).getD 0
  let line := (beamPos d h).1
  let slots := (b.map (fun b => pipeSlots d b p)).getD []
  if off % 4 ≠ 0 then 0
  else if 0x0100 ≤ off ∧ off < 0x0300 then
    let s := (off - 0x100) / 0x40
    let o := (off - 0x100) % 0x40
    let l := ((slots.find? (fun x => decide (x.1 = s))).map (·.2)).getD 0
    if o = 0 then lineReg d p off line 0 0
    else if o < 0x34 then twosOf 16 ((slotMatrix d p h s (slotFormat d (liveView d h) (shownActs d h) l)).getD ((o - 4) / 4) 0)
    else 0
  else if off = 0x0300 then
    lineReg d p off line 0 (if b.isSome then loadedOrder (liveView d h) slots else 0xFAC688)
  else if off = 0x0304 then (pipeOf d p).race
  else if 0x4000 ≤ off ∧ off < 0x8000 then mapGet (pipeOf d p).palette ((off - 0x4000) / 4) 0
  else if 0x8000 ≤ off ∧ off < 0xC000 then descRead d m p off
  else 0

/-- PIPE_LINE_COMPOSE (R215). -/
def execPipeLineCompose (p : Fin 32) (s : State) : Res := .next (withDev s (doPipeLineCompose p s.mem s.dev))
/-- RACE_LINE_READ (R229). -/
def execRaceLineRead (p : Fin 32) (slot : Fin 2) (m : Nat) (s : State) : Res :=
  .next (withDev s (doRaceLineRead p slot m s.mem s.dev))
/-- RESIDENT_LOAD_COMPLETE (R206). -/
def execResidentLoadComplete (p : Fin 32) (s : State) : Res := .next (withDev s (doResidentLoadComplete p s.dev))

end Sys2Proof.Machine
end

