-- ==== Sys2Proof/Machine/Send.lean ====
section
/-!
DEFINITION. A head's lines on their way to the lane: underrun replacement, the Hearth mixer, orbit, colour, compensation, dose,
signatures and LINE packets (R242, R260, R263 to R265, R272, R278, R288 to R290, R302, R396, R442, R448 to R450, R668).
-/
namespace Sys2Proof.Machine

/-- Whether a store word is in error (R270). -/
def storeBad (d : Dev) (o : Nat) : Bool := d.hearth.badWords.contains (o / 8)

/-- Pixel (c, r) of a symbol drawn with a colour, if it draws anything there (R268, R270, R278). -/
def symbolPixel (d : Dev) (m : List Host.Cell) (i colour c r : Nat) : Option SPix :=
  let o := symData m i + r * symPitch m i + c / 2
  if storeBad d o ∨ storeBad d (0x100 + 16 * i) ∨ (symFormat m i = 1 ∧ storeBad d (0x108 + 16 * i)) then none
  else
    let val := nibbleAt (fun k => memRead m (storeBase + symData m i + r * symPitch m i + k)) c
    if symFormat m i = 0 then some { pixArgb colour with a := val * 17 }
    else if storeBad d (symPalette m i + 4 * val) then none
    else some (pixArgb (storeWord m (symPalette m i + 4 * val)))

/-- A symbol drawn at a place over a pixel with BLEND 0 (R234, R278). -/
def drawSymbol (d : Dev) (m : List Host.Cell) (i x y colour col row : Nat) (p : Pix) : Pix :=
  if x ≤ col ∧ col < x + symWidth m i ∧ y ≤ row ∧ row < y + symHeight m i then
    match symbolPixel d m i colour (col - x) (row - y) with
    | some q => if q.a = 0 then p else blendPix 0 q.a 255 { r := q.c0, g := q.c1, b := q.c2 } p
    | none => p
  else p

/-- The state of a slot that pixel k of the frame shows (R23). -/
def shownAt (d : Dev) (h k slot : Nat) : Nat :=
  (((hheadOf d h).cuts.find? (fun c => decide (c.slot = slot) && decide (k < c.pixel))).map (·.was)).getD (nGet d (slot_SHOWN (64 * h + slot)))

/-- Whether a latched slot is drawn at pixel k of the frame (R278, R279). -/
def slotDrawn (d : Dev) (h k : Nat) (s : Slot) : Bool :=
  let shown := shownAt d h k s.slot
  let x := hheadOf d h
  decide (shown = 1) || (decide (shown = 2) && (if s.blinkGen = 0 then x.blink0 else x.blink1))

/-- The tell-tales of a head drawn over one pixel, in rising slot number (R269, R278). -/
def drawSlots (d : Dev) (m : List Host.Cell) (h col row : Nat) (p : Pix) : Pix :=
  if nGet d hearth_PACKAGE_STATE ≠ 2 then p
  else ((hheadOf d h).slots.filter (slotDrawn d h (((headOf d h).timing.vBlank + row) * (headOf d h).timing.hTotal + col))).foldl (fun p s => drawSymbol d m s.symbol s.x s.y s.colour col row p) p

/-- The plates of a head drawn over one pixel, in plate order (R302). An A4 plate has no colour of its own (assumption
log 28). -/
def drawPlates (d : Dev) (m : List Host.Cell) (h col row : Nat) (p : Pix) : Pix :=
  if nGet d hearth_PACKAGE_STATE ≠ 2 then p
  else (List.range 8).foldl (fun p k =>
    let b := bGet d (hhead_PLATES h)
    let sy := plateSymbol d h k
    if sy = 0xFFFF then p
    else drawSymbol d m sy (ofLe (sliceOf b (8 * k + 2) 2)) (ofLe (sliceOf b (8 * k + 4) 2)) Config.plateColour.toNat col row p) p

/-- Whether the mixer reads a store word in error on an active line: for a slot drawn there, or in hearth-only mode for a plate
(R270). -/
def mixerReadsBad (d : Dev) (m : List Host.Cell) (h y : Nat) (plates : Bool) : Bool :=
  let t := (headOf d h).timing
  let k := (t.vBlank + y) * t.hTotal
  let on := fun (i y0 : Nat) => decide (y0 ≤ y) && decide (y < y0 + symHeight m i) && rowReadsBad d m i (y - y0)
  decide (nGet d hearth_PACKAGE_STATE = 2) && !d.hearth.badWords.isEmpty &&
  ((hheadOf d h).slots.any (fun s => (slotDrawn d h (k + s.x) s || slotDrawn d h (k + s.x + symWidth m s.symbol - 1) s) && on s.symbol s.y) ||
   (plates && (List.range 8).any (fun j => decide (plateSymbol d h j ≠ 0xFFFF) &&
      on (plateSymbol d h j) (ofLe (sliceOf (bGet d (hhead_PLATES h)) (8 * j + 4) 2)))))

/-- A component under an Autumn DIM (R668). -/
def dimComp (dim v : Nat) : Nat := (roundDiv (v * dim : Nat) 255).toNat

/-- A composed pixel under the Autumn of its head (R668): DIM in the modes that hold it. -/
def dimPix (q : HeadSt) (p : Pix) : Pix :=
  if q.autumn % 2 = 1 then { r := dimComp q.dim p.r, g := dimComp q.dim p.g, b := dimComp q.dim p.b } else p

/-- The colour that replaces an underrun segment (R250, R264). -/
def underColour (q : HeadSt) (y col : Nat) : Pix :=
  let k := (q.timing.vBlank + y) * q.timing.hTotal + col
  pixRgb (((q.ucolWas.find? (fun e => decide (k < e.1))).map (·.2)).getD q.ucol)

/-- A line with its underrun segments replaced (R264). -/
def replaceLate (q : HeadSt) (y : Nat) (late : List Nat) (l : List Pix) : List Pix :=
  ((List.range l.length).zip l).map (fun e =>
    if late.contains (e.1 / 128) then
      (if q.upol = 1 ∨ y = 0 then underColour q y e.1 else q.prev.getD e.1 (underColour q y e.1))
    else e.2)

/-- An underrun line counted once (R172, R265). -/
def countUnderrun (d : Dev) (h y : Nat) : Dev :=
  if (headOf d h).underLine = some y then d
  else
    let d := updHead d h (fun q => { q with underLine := some y })
    let d := nSet (nInc d (head_UNDERRUN_LINES h)) (head_LAST_UNDERRUN_LINE h) y
    let d := updHead (trace d 4 h y) h (fun q => { q with underruns := q.underruns + 1 })
    modelUnderrun (raise d (384 + 8 * h + 6))

/-- The enabled band of a head's live scene that holds an active line (R98). -/
def bandAt (d : Dev) (h y : Nat) : Option Ref :=
  let v := liveView d h
  (liveBands d v h).find? (fun b => decide (v.nat (band_TOP (refInst b)) ≤ y) &&
    decide (y < v.nat (band_TOP (refInst b)) + v.nat (band_HEIGHT (refInst b))))

/-- The composed pixels of an active line and its underrun segments (R98, R263): a band with no stage shows its BACKGROUND and is
never an underrun (R150). -/
def composedLine (d : Dev) (h y : Nat) : List Pix × List Nat :=
  let q := headOf d h
  let w := q.timing.hActive
  let black := List.replicate w ({ r := 0, g := 0, b := 0 } : Pix)
  match bandAt d h y with
  | none => (black, [])
  | some b =>
    if (stagesOf d (liveView d h) (mapGet d.stoker.effective h []) b).isEmpty then
      (List.replicate w (pixRgb ((liveView d h).nat (band_BACKGROUND (refInst b)))), [])
    else match q.lines.find? (fun l => decide (l.line = y)) with
    | some l => (l.pixels, l.late)
    | none => (black, List.range (ceilDiv w 128))

/-- A member of R240 as the head loaded it at a boundary. -/
def loadedVal (d : Dev) (h k : Nat) : Val := (mapFind (headOf d h).loaded k).getD (memberDefault (mref 0x10 h k))

/-- Octets of a loaded member. -/
def loadedBytes (d : Dev) (h k : Nat) : List Byte :=
  match loadedVal d h k with
  | .bytes b => b
  | .num _ => []

/-- The output matrix and gamma of a head (R242). -/
def colourPix (d : Dev) (h : Nat) (p : Pix) : Pix :=
  let q := applyMatrix (matrixOf (loadedBytes d h 49)) { a := 255, c0 := p.r, c1 := p.g, c2 := p.b }
  if loadedVal d h 50 = .num 1 then
    { r := gammaComp (loadedBytes d h 51) q.r, g := gammaComp (loadedBytes d h 52) q.g, b := gammaComp (loadedBytes d h 53) q.b }
  else q

/-- Bits of one component on the link. -/
def linkBits (t : Timing) : Nat := t.linkBpp / 3

/-- Whether a head's compensation is at work: not for a panel that FAILED or whose gains are 0 (R436, R446). -/
def compensatedPix (d : Dev) (h x y : Nat) (p : Pix) : Pix :=
  if nGet d (panel_IDENTITY_STATE h) = 3 then p
  else
    let q := panelOf d h
    { r := compensate q 0 x y p.r, g := compensate q 1 x y p.g, b := compensate q 2 x y p.b }

/-- A pixel reduced to its sent link values (R449). -/
def reducePix (d : Dev) (h x y : Nat) (p : Pix) : Pix :=
  let n := linkBits (headOf d h).timing
  let di := nGet d (panel_DITHER h) == 1
  { r := reduceTo di n x y p.r, g := reduceTo di n x y p.g, b := reduceTo di n x y p.b }

/-- The bits of a pixel in the line stream (R396). -/
def streamBits (n : Nat) (p : Pix) : Nat := p.b + p.g * 2 ^ n + p.r * 2 ^ (2 * n)

/-- The word of a pixel that a signature covers (R289). -/
def crcWord (p : Pix) : Nat := p.b + p.g * 2 ^ 10 + p.r * 2 ^ 20

/-- The dose sums of a panel line (R442, R444): counted for an accepted panel, and kept for one under check. -/
def addDose (d : Dev) (h y : Nat) (l : List Pix) : Dev :=
  if doseWanted d h then
    let x := panelOf d h
    let cols := gridCols l.length
    let cell := fun (c : Nat) (k : Nat) (f : Pix → Nat) =>
      if x.ageing.length = 316 then
        (((l.drop (16 * c)).take 16).foldl (fun (a : Int) p => a + stressOf x.ageing k (f p)) 0).toNat
      else 0
    let sums := (List.range cols).foldl (fun (m : SMap Nat) c =>
      let key := 3 * (y / 16 * cols + c)
      let put := fun (m : SMap Nat) k f => mapPut m (key + k) (mapGet m (key + k) 0 + cell c k f)
      put (put (put m 0 (·.r)) 1 (·.g)) 2 (·.b)) x.sums
    updPanel d h (fun x => { x with sums := sums })
  else d

/-- The signatures of a frame's regions run over a panel line (R288, R289). -/
def signLine (d : Dev) (h y : Nat) (l : List Pix) : Dev :=
  updHHead d h (fun x => { x with regions := x.regions.map (fun r =>
    if r.y ≤ y ∧ y < r.y + r.h then
      { r with crc := ((l.drop r.x).take r.w).foldl (fun c p => crc32Run c (leBytes 4 (crcWord p))) r.crc }
    else r) })

/-- A panel line sent (R242, R396, R442, R448, R449): LINE packets go to the head's lane while its lanes are READY. -/
def sendPanelLine (d : Dev) (h y : Nat) (composed : List Pix) : Dev :=
  let q := headOf d h
  let full := ((List.range composed.length).zip composed).map (fun e => compensatedPix d h e.1 y (colourPix d h e.2))
  let link := ((List.range full.length).zip full).map (fun e => reducePix d h e.1 y e.2)
  let d := signLine (addDose d h y full) h y link
  if lanesReady d h then
    pushLine d q.timing.lane (linePackets y (nGet d (head_FRAME_COUNT h) % 256) (packBits q.timing.linkBpp (link.map (streamBits (linkBits q.timing)))))
  else d

/-- The composed pixels that panel line y shows under the orbit of the frame, with ORBIT_FILL where there is none (R450). -/
def orbitLine (q : HeadSt) (orbitFill y : Nat) : List Pix :=
  let fill := pixRgb orbitFill
  let src := (q.mixed.find? (fun e => decide ((e.1 : Int) = (y : Int) - q.orbitY))).map (·.2)
  (List.range q.timing.hActive).map (fun (x : Nat) =>
    match src with
    | none => fill
    | some l => if (x : Int) < q.orbitX then fill else l.getD ((x : Int) - q.orbitX).toNat fill)

/-- The panel lines that can be sent once active line y has passed the mixer, at most n of them (R450). -/
def sendReady (h y : Nat) : Nat → Dev → Dev
  | 0, d => d
  | n + 1, d =>
    let q := headOf d h
    let k := q.panelLine
    let v := q.timing.vActive
    if v ≤ k then d
    else if y + 1 = v ∨ (k ≤ y ∧ (k : Int) - q.orbitY ≤ y) then
      let l := orbitLine q (nGet d (panel_ORBIT_FILL h)) k
      sendReady h y n (updHead (sendPanelLine d h k l) h (fun q => { q with panelLine := k + 1 }))
    else d

/-- Active line y of a head passes the mixer (R260, R264, R278, R302): replaced where late, dimmed, the Hearth plane over it. -/
def mixLine (d : Dev) (m : List Host.Cell) (h y : Nat) : Dev :=
  let st := nGet d (head_STATE h)
  let w := (headOf d h).timing.hActive
  if st = 2 then
    let zero := List.replicate w ({ r := 0, g := 0, b := 0 } : Pix)
    let d := updHead d h (fun q => { q with mixed := [], cursor := y + 1, panelLine := y + 1, prev := [] })
    sendDark d h y zero
  else
    let c := if st = 4 then (List.replicate w (pixRgb (nGet d (hhead_HO_BACKGROUND h))), []) else composedLine d h y
    let d := if c.2.isEmpty then d else countUnderrun d h y
    let d := if mixerReadsBad d m h y (st == 4) then latchStoreEcc d h else d
    let q := headOf d h
    let pre := replaceLate q y c.2 c.1
    let mixed := ((List.range w).zip pre).map (fun e =>
      let p := if st = 4 then drawPlates d m h e.1 y e.2 else dimPix q e.2
      drawSlots d m h e.1 y p)
    let d := updHead d h (fun q => { q with prev := pre, cursor := y + 1, lines := q.lines.filter (fun l => decide (y < l.line)),
                                            mixed := (q.mixed ++ [(y, mixed)]).drop (q.mixed.length - 7) })
    sendReady h y 8200 d
where
  /-- A line of a dark frame: every component is sent as 0 (R260). -/
  sendDark (d : Dev) (h y : Nat) (zero : List Pix) : Dev :=
    let q := headOf d h
    let d := addDose d h y zero
    if lanesReady d h then
      pushLine d q.timing.lane (linePackets y (nGet d (head_FRAME_COUNT h) % 256) (packBits q.timing.linkBpp (zero.map (fun _ => 0))))
    else d

/-- Active lines of a head below a bound that have not passed yet, in order. -/
def mixUntil (m : List Host.Cell) (h bound : Nat) (d : Dev) : Dev :=
  let from' := (headOf d h).cursor
  ((List.range (bound - from')).map (fun k => from' + k)).foldl (fun d y => mixLine d m h y) d

/-- The active lines that a head's beam has passed are sent (R245, R263). -/
def scanHead (d : Dev) (m : List Host.Cell) (h : Nat) : Dev :=
  if nGet d (head_STATE h) < 2 then d
  else
    let t := (headOf d h).timing
    let pos := beamPos d h
    let bound := if pos.1 < t.vBlank then 0 else pos.1 - t.vBlank + (if t.hActive ≤ pos.2 then 1 else 0)
    mixUntil m h (min bound t.vActive) d

/-- The rest of a head's frame is sent before its boundary. -/
def scanRest (d : Dev) (m : List Host.Cell) (h : Nat) : Dev :=
  if nGet d (head_STATE h) < 2 then d else mixUntil m h (headOf d h).timing.vActive d

/-- Every head's lines up to its beam. -/
def scanHeads (d : Dev) (m : List Host.Cell) : Dev := (List.range 16).foldl (fun d h => scanHead d m h) d

end Sys2Proof.Machine
end

