-- ==== Sys2Proof/Machine/Heads.lean ====
section
/-!
DEFINITION. The heads' events (head and Hearth chapters): frame boundaries, the start sequence, re-locks and holds, signatures,
and the commands HEAD_FRAME_BOUNDARY, HEAD_FIRST_BOUNDARY, LINE_MATCH, FRAME_DONE, SEGMENT_UNDERRUN, ORBIT_STEP and SIGRET's
comparison (R120, R136, R195, R204 to R206, R232, R236, R240, R250 to R262, R275 to R279, R288 to R293, R303, R304, R336, R450,
R668, R768).
-/
namespace Sys2Proof.Machine

/-- The time of a head's next target boundary, in ns (R256). -/
def nextTarget (d : Dev) (h : Nat) : Rat :=
  let q := headOf d h
  q.origin + (q.frame : Nat) * q.timing.frameNs

/-- Two pixel-clock periods, in ns (R256). -/
def twoPixels (t : Timing) : Rat := (2 * 10 ^ 9 : Nat) / (max 1 t.pixelClock : Nat)

/-- Whether a head's next boundary has come: within 2 pixel-clock periods of its target (R256). -/
def boundaryDue (d : Dev) (h : Nat) : Bool := decide (nextTarget d h - twoPixels (headOf d h).timing ≤ ((tbNs d : Nat) : Rat))

/-- The commits pending on a head that are due at a boundary: admitted at least 250 µs before (R120), both as the timebase reads them
(assumption log 90). -/
def dueCommits (d : Dev) (h : Nat) : List PendingCommit := (pendingOn d h).filter (fun c => decide (c.admitted + 250000 ≤ tbNs d))

/-- A head's new timing (R248, R259, R348): the boundary at which it applies becomes the origin, the coupling follows from it,
and timed writes are discarded. -/
def takeTiming (d : Dev) (h : Nat) (t : Timing) (b : Rat) : Dev :=
  let d := takeCoupling (discardTimed (flushDose d h) h) h
  let d := wearAgain (updHead d h (fun q => { q with timing := t, origin := b, frame := 0 })) h
  match mapFind d.stoker.heads h with
  | none => d
  | some p =>
    let d := if (mapFind d.heads.anchors p.cls).isNone then { d with heads.anchors := mapPut d.heads.anchors p.cls b } else d
    dropClasses { d with stoker.heads := mapPut d.stoker.heads h (offsetAt d d.stoker.classes p b) }

/-- What a boundary does with the commits that are due (R261, R768). -/
inductive Plan261 where
  | keep
  | apply
  | stop
  | seamless
  | hold
  | relock
  | retrain
  deriving DecidableEq, Repr

/-- Whether the lanes of a timing are all READY (R768). -/
def timingLanesReady (d : Dev) (t : Timing) : Bool :=
  decide (t.lane < 32) && (List.range (max 1 t.lanes)).all (fun k => decide (nGet d (lane_STATE (t.lane + k)) = 6))

/-- The row of R261 for the commits due at a boundary. -/
def planOf (d : Dev) (h : Nat) (cs : List PendingCommit) : Plan261 :=
  let cur := (headOf d h).timing
  let new := resultTiming d h cs
  if cs.isEmpty then .keep
  else if resultEnable d h cs = false then .stop
  else if new = cur then .apply
  else if needsRelock cur new = false then .seamless
  else if tellTaleOn d h then .hold
  else if (decide (new.lane ≠ cur.lane) || decide (new.lanes ≠ cur.lanes)) && !timingLanesReady d new then .retrain
  else .relock

/-- The members of R240 loaded at a boundary (R240, R304): 48 to 53 keep their values in hearth-only mode. -/
def loadColour (d : Dev) (h : Nat) (hold : Bool) : Dev :=
  let ks := if hold then [54, 55, 56] else [48, 49, 50, 51, 52, 53, 54, 55, 56]
  updHead d h (fun q => { q with loaded := ks.foldl (fun m k => mapPut m k (liveVal d h (mref 0x10 h k))) q.loaded })

/-- The registers that a boundary loads from the live members 17 to 22 (R250). -/
def loadRegs (d : Dev) (h : Nat) : Dev :=
  let ls := (List.range 4).map (fun m => liveNat d h (mref 0x10 h (19 + m)))
  updHead d h (fun q => { q with upol := liveNat d h (head_UNDERRUN_POLICY h), ucol := liveNat d h (head_UNDERRUN_COLOUR h) % 2 ^ 24,
                                 cmpLine := ls.map (fun l => if l = 0xFFFF then 0 else l % 2 ^ 14),
                                 cmpOn := ls.map (fun l => l != 0xFFFF), matched := [] })

/-- P of R450. -/
def orbitPath (i : Nat) : Int := ([0, 1, 2, 3, 3, 3, 2, 1, 0, -1, -2, -3, -3, -3, -2, -1] : List Int).getD (i % 16) 0

/-- The orbit step of the present minute (R450). -/
def orbitStepNow (d : Dev) : Nat := tbNs d / (60 * 10 ^ 9) % 64

/-- The orbit of a frame (R450, R304): of the step that the timebase shows, held in hearth-only mode. -/
def loadOrbit (d : Dev) (h : Nat) (hold : Bool) : Dev :=
  if hold then d
  else
    let d := updHead d h (fun q => { q with orbitStep := orbitStepNow d })
    let on := nGet d (panel_ORBIT_ENABLE h) == 1
    let k := (headOf d h).orbitStep
    let x : Int := if on then orbitPath k else 0
    let y : Int := if on then orbitPath (k / 4) else 0
    let d := updHead d h (fun q => { q with orbitX := x, orbitY := y })
    nSets d [(panel_ORBIT_X h, twosOf 8 x), (panel_ORBIT_Y h, twosOf 8 y)]

/-- The Autumn settings of a frame (R668). -/
def loadAutumn (d : Dev) (h : Nat) : Dev :=
  updHead d h (fun q => { q with autumn := if nGet d (autumn_CAUSE h) = 0 then 0 else nGet d (autumn_MODE h) + 1,
                                 dim := nGet d (autumn_DIM h) })

/-- The tell-tale slots and blink generators that a head latches for a frame (R275, R279). -/
def latchSlots (d : Dev) (h : Nat) : Dev :=
  let on := (List.range 64).filter (fun s => decide (nGet d (slot_ENABLE (64 * h + s)) = 1))
  updHHead d h (fun x => { x with blink0 := blinkOn d 0, blink1 := blinkOn d 1, cuts := [], slots := on.map (fun s =>
    let i := 64 * h + s
    ({ slot := s, symbol := nGet d (slot_SYMBOL i), x := nGet d (slot_X i), y := nGet d (slot_Y i), blinkGen := nGet d (slot_BLINK_GEN i),
       colour := nGet d (slot_COLOUR i), signed := nGet d (slot_SIGNED i) == 1 } : Slot)) })

/-- The signed regions of a frame (R288): at their sent positions, with the orbit in force. -/
def signedRegions (d : Dev) (m : List Host.Cell) (h : Nat) : List Region :=
  let q := headOf d h
  (((hheadOf d h).slots.filter (fun s => s.signed && decide (nGet d (slot_SHOWN (64 * h + s.slot)) ≠ 0))).map (fun s =>
    ({ x := ((s.x : Int) + q.orbitX).toNat, y := ((s.y : Int) + q.orbitY).toNat, w := symWidth m s.symbol, h := symHeight m s.symbol,
       crc := 0xFFFFFFFF } : Region))).take 64

/-- The signatures of the frame that ends (R289, R290): kept for the comparison three boundaries after it began. -/
def closeSignatures (d : Dev) (h frame : Nat) (shown : Bool) : Dev :=
  let rs := (hheadOf d h).regions
  if shown then
    updHHead (nSet d (hhead_SIGNED_REGIONS h) rs.length) h (fun x =>
      { x with own := (x.own ++ [({ frame := frame, crcs := rs.map (fun r => r.crc ^^^ 0xFFFFFFFF) } : SigSet)]).drop (x.own.length - 3) })
  else updHHead (nSet d (hhead_SIGNED_REGIONS h) 0) h (fun x => { x with own := [], returned := [], regions := [] })

/-- The SIG packet of a frame (R290, R400). -/
def sendSig (d : Dev) (h : Nat) : Dev :=
  let x := hheadOf d h
  let n := nGet d (head_FRAME_COUNT h)
  let prev := (x.own.getLast?.map (·.crcs)).getD []
  pushProtected d (headLane d h) 0x55 0
    (sigPayload (n % 256) (x.regions.map (fun r => (r.x, r.y, r.w, r.h))) ((n + 255) % 256) prev)

/-- The comparison of R291 for frame n, made at the boundary three frames later (R291 to R293). -/
def compareSig (d : Dev) (h n : Nat) : Dev :=
  let x := hheadOf d h
  match x.own.find? (fun s => decide (s.frame = n)) with
  | none => d
  | some own =>
    let ret := x.returned.find? (fun s => decide (s.frame = n % 256))
    let d := updHHead d h (fun x => { x with returned := x.returned.filter (fun s => decide (s.frame ≠ n % 256)) })
    match ret with
    | none =>
      let k := satAdd 8 (nGet d (hhead_MISSING_RUN h)) 1
      let d := updHHead (nSet d (hhead_MISSING_RUN h) k) h (fun x => { x with matchRun := 0 })
      if k = 3 then latchFault d h 1 n else d
    | some r =>
      if r.crcs = own.crcs then
        updHHead (nSet d (hhead_MISSING_RUN h) 0) h (fun x => { x with matchRun := x.matchRun + 1 })
      else
        let d := updHHead (nSet (nInc d (hhead_MISMATCHES h)) (hhead_MISSING_RUN h) 0) h (fun x => { x with matchRun := 0 })
        latchFault d h 0 n

/-- Block reads of a pipe become those of the frame that ended on a head (R254). -/
def ageReads (d : Dev) (p h : Nat) : Dev :=
  let f := fun (r : DramRead) => if r.cls = 0 ∧ r.unit < 64 ∧ r.unit % 32 = p then { r with unit := p + 64 + 32 * h } else r
  { d with dram.reads := d.dram.reads.map (fun e => (e.1, f e.2)), dram.waiting := d.dram.waiting.map f }

/-- The reads still outstanding for the ended frame of a head are cancelled (R254, R481). -/
def cancelOld (d : Dev) (h : Nat) : Dev :=
  let old := fun (r : DramRead) => decide (r.cls = 0) && decide (r.unit / 32 = h + 2)
  { d with dram.reads := d.dram.reads.map (fun e => if old e.2 then (e.1, { e.2 with cancelled := true }) else e),
           dram.waiting := d.dram.waiting.filter (fun r => !old r) }

/-- A pipe at a boundary of its head (R195, R204, R205, R232, R235, R236): line registers, matrices and flags of the frame go. -/
def resetPipe (d : Dev) (p : Nat) : Dev :=
  updPipe d p (fun x => { x with matrix := [], writes := [], raced := false, next := 0, out := [], raceRead := [], raceData := [],
                                 loads := [], buffer := [], bufferBad := [] })

/-- The buffer that a video slot selects for a bound surface (R227). -/
def selectBuffer (d : Dev) (o : Ref) : Option Nat :=
  match boundInput d o with
  | none => none
  | some i =>
    let k := if nGet d (vin_BUFFER_MODE i) = 1 then
        (if (mapGet d.lanes.input i VideoIn.reset).started then some (mapGet d.lanes.input i VideoIn.reset).lastStart else none)
      else (if (mapGet d.lanes.input i VideoIn.reset).complete then some (nGet d (vin_LAST_COMPLETE i)) else none)
    k

/-- Every bound surface of a head's live scene selects its buffer for the frame (R227). -/
def selectBuffers (d : Dev) (h : Nat) : Dev :=
  let keep := d.scene.selected.filter (fun e => decide (e.1 / 65536 ≠ h))
  { d with scene.selected := (liveSurfaces d h).foldl (fun m o =>
      match selectBuffer d o with
      | some k => mapPut m (65536 * h + refInst o) k
      | none => m) keep }

/-- HOST_BOUND layers withdrawn while the scene lease has expired (R136). -/
def withdrawLayers (d : Dev) (h : Nat) : Dev :=
  if nGet d commitCtl_SCENE_LEASE_EXPIRED = 0 then d
  else
    let v := liveView d h
    let ls := (liveScene d h).filter (fun o => decide (refClass o = 0x12) && decide (v.nat (layer_HOST_BOUND (refInst o)) = 1))
    { d with scene.withdrawn := ls.foldl (fun w l => addOnce w (16 * l + h)) d.scene.withdrawn }

/-- Raster threads that a head keeps over a boundary restart (R336, R351): the ones whose program was there before. Their clock is
gated in CRANK (R658). -/
def restartKept (d : Dev) (before : List (Nat × Ref)) (h : Nat) : Dev :=
  if nGet d supply_SUPPLY_STATE = 1 then d else
  let ts := (threadsOfHead d h).filter (fun t => threadRaster d t && before.contains (t, (threadOf d t).prog))
  let bad := anyRestarts d ts
  let d := ts.foldl restartThread d
  let d := { d with power.crankHeads := setBit d.power.crankHeads h false }
  if bad then loadAllPalettes d h else d

/-- The raster threads of a head with their programs. -/
def rasterThreads (d : Dev) (h : Nat) : List (Nat × Ref) :=
  ((threadsOfHead d h).filter (threadRaster d)).map (fun t => (t, (threadOf d t).prog))

/-- The frame that begins at a boundary (R195 to R206, R227, R232 to R240, R250, R275 to R290, R303, R450, R668): what the head
and its pipes load, and the packets of frame line 0. -/
def beginFrame (d : Dev) (m : List Host.Cell) (h : Nat) : Dev :=
  let d := withdrawLayers d h
  let dark := (headOf d h).dark
  let st := if 0 < dark then 2 else if nGet d (hhead_HO_CAUSE h) ≠ 0 ∨ nGet d supply_SUPPLY_STATE = 1 then 4 else 3
  let d := nSet d (head_STATE h) st
  let hold := st == 4
  let d := loadAutumn (loadOrbit (loadRegs (loadColour d h hold) h) h hold) h
  let d := selectBuffers d h
  let d := updHead d h (fun q => { q with lines := [], prev := [], cursor := 0, mixed := [], panelLine := 0, underLine := none,
                                          frameDone := false, ucolWas := [], badDesc := [] })
  let d := latchSlots d h
  let d := if st = 2 then updHHead d h (fun x => { x with regions := [] })
    else sendSig (updHHead d h (fun x => { x with regions := signedRegions d m h })) h
  let d := { d with scene.reading := mapErase d.scene.reading h }
  let d := (pipesOf d h).foldl resetPipe d
  let d := if st = 3 then (pipesOf d h).foldl (fun d p => askLine (askResident d m p) m p) d else d
  updPins d

/-- What every boundary counts and reports (R246, R252, R256, R726). -/
def countBoundary (d : Dev) (h : Nat) (target : Rat) : Dev :=
  let d := nWrap d (head_FRAME_COUNT h)
  let err : Int := roundRat (((tbNs d : Nat) : Rat) - target)
  let d := updHead d h (fun q => { q with stepped := 0, locked := decide (err.natAbs * q.timing.pixelClock ≤ 2 * 10 ^ 9) })
  nSets d [(head_LAST_BOUNDARY h, tbNs d), (head_PHASE_ERROR h, twosOf 32 err)]

/-- The trace record of a boundary (R726). -/
def traceBoundary (d : Dev) (h : Nat) : Dev := trace d 3 h (nGet d (head_FRAME_COUNT h))

/-- START_OF_BLANKING of the frame that a boundary begins (R252, R255). -/
def announceBoundary (d : Dev) (h : Nat) : Dev := raise d (384 + 8 * h)

/-- The reports that follow a boundary (R175). -/
def reportBoundary (d : Dev) (h : Nat) : Dev := reportAll d h

/-- The lanes of a head owe no MODE packet any more. -/
def modeSent (d : Dev) (h : Nat) : Dev := (headLanes d h).foldl (fun d l => updLane d l (fun x => { x with modeOwed := false })) d

/-- A MODE packet that a head's lanes owe at this boundary, once they are READY (R417). -/
def oweMode (d : Dev) (h : Nat) : Dev :=
  if (headLanes d h).any (fun l => (laneOf d l).modeOwed) && pairReady d (headLane d h) then sendMode (modeSent d h) h false else d

/-- The commits that apply at the boundary that ends a re-lock's dark frames (R262): the re-lock's own, with the waiting ones
where the timing of all of them fits. -/
def relockCommits (d : Dev) (h : Nat) : List PendingCommit :=
  let q := headOf d h
  let all := dueCommits d h
  let both := (pendingOn d h).filter (fun c => q.relock.contains c.number || all.any (fun x => decide (x.number = c.number)))
  let t := resultTiming d h both
  if decide (t = q.timing) || !needsRelock q.timing t then both
  else (pendingOn d h).filter (fun c => q.relock.contains c.number)

/-- A re-lock's commits applied at the boundary that ends its dark frames (R262), with a seamless change that came with them. -/
def endRelock (s : State) (h : Nat) : State :=
  let q := headOf s.dev h
  let cs := relockCommits s.dev h
  let t := resultTiming s.dev h cs
  let s := if t = q.timing then s else withDev s (discardTimed s.dev h)
  let s := applyCommits s h cs
  let d := updHead s.dev h (fun q => { q with relock := [] })
  if t = q.timing then withDev s d else withDev s (sendMode (takeTiming d h t (nextTarget d h)) h false)

/-- A re-lock begins at a boundary (R261, R262): its commits wait for the end of two dark frames of the new timing. -/
def beginRelock (d : Dev) (h : Nat) (cs : List PendingCommit) (b : Rat) : Dev :=
  let t := resultTiming d h cs
  let d := takeTiming d h t b
  let d := updHead d h (fun q => { q with dark := 2, relock := cs.map (·.number) })
  panelCheck (sendMode d h true) h

/-- A re-lock to lanes that are not READY (R768): the head ends its frame as a stop does and runs the start sequence. -/
def beginRetrain (d : Dev) (h : Nat) (cs : List PendingCommit) : Dev :=
  let t := resultTiming d h cs
  let d := arm (discardTimed (flushDose d h) h) tkHeadStop h (wholeOf (headOf d h).timing.lineNs)
  let d := recouple (nSet d (head_STATE h) 1) h
  let d := wearAgain (updHead d h (fun q => { q with timing := t, dark := 0, relock := cs.map (·.number), lanesReady := false, lines := [] })) h
  updPins (lookLanes { d with scene.reading := mapErase d.scene.reading h } h)

/-- A head stops at a boundary (R121, R255, R260): its timed writes are discarded (R348), the commits that stop it apply, then every one
still pending on it, as a group of its own for R122 (assumption log 133). -/
def stopAtBoundary (s : State) (h : Nat) (cs : List PendingCommit) : State :=
  let s := applyCommits (withDev s (discardTimed s.dev h)) h cs
  let s := applyRest (withDev s (stopHeadNow s.dev h)) h
  withDev s (settleIdle s.dev h)

/-- The commits of a boundary and what they make of the head (R120, R261, R262, R768): the state, and whether a frame
begins. -/
def boundaryCommits (s : State) (h : Nat) (b : Rat) : State × Bool :=
  let d := s.dev
  let q := headOf d h
  let cs := dueCommits d h
  let next := fun (s : State) => withDev s (updHead s.dev h (fun q => { q with frame := q.frame + 1 }))
  let same := fun (s : State) => next (takePlacement s h [])
  if q.dark = 2 ∧ ¬ q.relock.isEmpty then (same (withDev s (updHead d h (fun q => { q with dark := 1 }))), true)
  else if q.dark = 1 ∧ ¬ q.relock.isEmpty then
    let s := withDev s (updHead d h (fun q => { q with dark := 0 }))
    if resultEnable d h (relockCommits d h) then (next (endRelock s h), true)
    else (stopAtBoundary s h (relockCommits d h), false)
  else
    let s := withDev s (updHead d h (fun q => { q with dark := q.dark - 1 }))
    match planOf d h cs with
    | .keep => (same s, true)
    | .apply => (next (applyCommits s h cs), true)
    | .seamless =>
      let t := resultTiming d h cs
      let s := applyCommits (withDev s (discardTimed s.dev h)) h cs
      (next (withDev s (sendMode (takeTiming s.dev h t b) h false)), true)
    | .hold => (same (withDev s (nInc s.dev (head_RELOCK_HELD h))), true)
    | .relock => (same (withDev s (beginRelock s.dev h cs b)), true)
    | .retrain => (takePlacement (withDev s (beginRetrain s.dev h cs)) h [], false)
    | .stop => (stopAtBoundary s h cs, false)

/-- Whether a commit of the boot scene has applied to a head (R713). -/
def bootCommitOn (d : Dev) (h : Nat) : Bool :=
  bitOf d.trust.sceneHeads h || d.trust.sceneCommits.any (fun n =>
    nGet d (commit_NUMBER (n % 16)) == n && bitOf (nGet d (commit_APPLIED_MASK (n % 16))) h)

/-- The request of start-up ends at the first boundary at which a commit of the boot scene has applied to the head and its panel
allows the scene (R713); R436 governs a FAILED panel, whose head shows its scene under ALLOW. -/
def releaseHeld (d : Dev) (h : Nat) : Dev :=
  if bitOf d.trust.held h = false ∨ bootCommitOn d h = false then d
  else
    let d := { d with trust.sceneHeads := setBit d.trust.sceneHeads h true }
    let st := nGet d (panel_IDENTITY_STATE h)
    if st = 2 ∨ (nGet d (panel_AUTH_POLICY h) = 0 ∧ (st = 1 ∨ st = 3)) then
      hoCauseClear (nSet { d with trust.held := setBit d.trust.held h false } (hhead_HO_REQUEST h) 0) h 4
    else d

/-- HEAD_FRAME_BOUNDARY (R250). -/
def doHeadFrameBoundary (h : Fin 16) (s : State) : State :=
  let h := h.val
  if nGet s.dev (head_STATE h) < 2 ∨ boundaryDue s.dev h = false then s
  else
    let b := nextTarget s.dev h
    let d := scanRest s.dev s.mem h
    let shown := decide (3 ≤ nGet d (head_STATE h))
    let n0 := nGet d (head_FRAME_COUNT h)
    let before := rasterThreads d h
    let d := (pipesOf d h).foldl (fun d p => ageReads d p h) d
    let d := { d with scene.ended := mapSet d.scene.ended h (mapGet d.scene.reading h []) [] }
    let d := closeSignatures d h n0 shown
    let d := countBoundary d h b
    let d := traceBoundary d h
    let waiting := pendingOn d h
    let x := boundaryCommits (withDev s d) h b
    let applied := decide (pendingOn x.1.dev h ≠ waiting)
    let s := x.1
    let s := if applied then withDev s (pinMigration s.dev) else s
    if x.2 = false then
      takeFree (withDev s (refreshLeases (reportBoundary (rerunIfHeld (settleMigration (takeActions s.dev h)) h applied) h)))
    else
      let d := takeActions (announceBoundary s.dev h) h
      let d := releaseHeld d h
      let d := restartKept d before h
      let d := switchMigration d h
      let d := beginFrame d s.mem h
      let d := if decide (nGet d (head_STATE h) < 3) then d
        else if shown then compareSig d h (wrapAdd 32 n0 (2 ^ 32 - 2))
        else nSet d (hhead_MISSING_RUN h) 0
      let d := updHHead d h (fun x => { x with mixClean := !x.mixDiff, mixDiff := false })
      let d := rerunIfHeld (countGap (oweMode d h) h) h applied
      takeFree (withDev s (refreshLeases (reportBoundary d h)))

/-- HEAD_FIRST_BOUNDARY (R258, R260): a starting head takes its first target boundary. -/
def doHeadFirstBoundary (h : Fin 16) (s : State) : State :=
  let h := h.val
  let d := s.dev
  if nGet d (head_STATE h) ≠ 1 ∨ (headOf d h).lanesReady = false ∨ boundaryDue d h = false then s
  else
    let b := nextTarget d h
    let before := rasterThreads d h
    let d := countBoundary (nSet d (head_FRAME_COUNT h) 0) h b
    let d := updHead d h (fun q => { q with dark := 2, frame := q.frame + 1, heldRestart := false })
    let d := announceBoundary (traceBoundary d h) h
    let s := takePlacement (withDev s d) h []
    let d := restartKept (takeActions s.dev h) before h
    let d := beginFrame d s.mem h
    let d := updHHead d h (fun x => { x with own := [], returned := [] })
    let d := sendMode (modeSent d h) h true
    withDev s (refreshLeases (reportBoundary d h))

/-- LINE_MATCH (R253): the beam is at a line that an active comparator holds. -/
def doLineMatch (h : Fin 16) (k : Fin 4) (d : Dev) : Dev :=
  let q := headOf d h.val
  let line := (beamPos d h.val).1
  if 2 ≤ nGet d (head_STATE h.val) ∧ q.cmpOn.getD k.val false ∧ q.cmpLine.getD k.val 0 = line ∧ ¬ q.matched.contains (4 * line + k.val) then
    raise (updHead d h.val (fun q => { q with matched := q.matched ++ [4 * line + k.val] })) (384 + 8 * h.val + 1 + k.val)
  else d

/-- Memory that migrated surfaces left goes back once the last frame that read it is done (R163). -/
def freeLeaving (d : Dev) (h : Nat) : Dev :=
  { d with stoker.leaving := (d.stoker.leaving.map (fun e => (e.1, setBit e.2 h false))).filter (fun e => decide (e.2 ≠ 0)) }

/-- FRAME_DONE (R126, R254, R255): for the frame that ended at the last boundary, or the last frame of a head that stopped. -/
def doFrameDone (h : Fin 16) (d : Dev) : Dev :=
  let h := h.val
  let run := decide (2 ≤ nGet d (head_STATE h)) && !(headOf d h).frameDone && decide (1 ≤ (beamPos d h).1)
  let stopped := due d tkHeadStop h
  if !(run || stopped) then d
  else
    let d := if stopped then disarm d tkHeadStop h else d
    let d := updHead (cancelOld d h) h (fun q => { q with frameDone := true })
    let d := freeLeaving { d with scene.ended := mapErase d.scene.ended h } h
    refreshLeases (raise d (384 + 8 * h + 5))

/-- SEGMENT_UNDERRUN (R263 to R265): a segment of the present line that its pipe has not completed has reached the mixer. -/
def doSegmentUnderrun (h : Fin 16) (p : Fin 32) (d : Dev) : Dev :=
  let h := h.val
  let q := headOf d h
  let pos := beamPos d h
  let y := pos.1 - q.timing.vBlank
  let late := (composedLine d h y).2.filter (fun g => decide (128 * g ≤ pos.2))
  let serves := (pipesOf d h).contains p.val
  if nGet d (head_STATE h) = 3 ∧ q.timing.vBlank ≤ pos.1 ∧ q.cursor ≤ y ∧ serves ∧ ¬ late.isEmpty then countUnderrun d h y else d

/-- ORBIT_STEP (R450): the step of the present minute is the one that the head's next boundary takes. -/
def doOrbitStep (h : Fin 16) (d : Dev) : Dev :=
  updHead d h.val (fun q => { q with orbitStep := orbitStepNow d })

/-- HEAD_FRAME_BOUNDARY (R250). -/
def execHeadFrameBoundary (h : Fin 16) (s : State) : Res := .next (doHeadFrameBoundary h s)
/-- HEAD_FIRST_BOUNDARY (R258). -/
def execHeadFirstBoundary (h : Fin 16) (s : State) : Res := .next (doHeadFirstBoundary h s)
/-- LINE_MATCH (R253). -/
def execLineMatch (h : Fin 16) (m : Fin 4) (s : State) : Res := .next (withDev s (doLineMatch h m s.dev))
/-- FRAME_DONE (R254). -/
def execFrameDone (h : Fin 16) (s : State) : Res := .next (withDev s (doFrameDone h s.dev))
/-- SEGMENT_UNDERRUN (R264). -/
def execSegmentUnderrun (h : Fin 16) (p : Fin 32) (s : State) : Res := .next (withDev s (doSegmentUnderrun h p s.dev))
/-- ORBIT_STEP (R450). -/
def execOrbitStep (h : Fin 16) (s : State) : Res := .next (withDev s (doOrbitStep h s.dev))

end Sys2Proof.Machine
end

