-- ==== Sys2Proof/Machine/LineCode.lean ====
section
/-!
DEFINITION. The 8b/10b coding of the back channel (R408). The spec names the code and its K characters; the code's table is that of IEEE
802.3 Clause 36 (assumption log 142). A symbol has its first bit on the wire, a, as its most significant bit.
-/
namespace Sys2Proof.Machine

/-- How many bits of a number below 64 are set. -/
def onesOf (n : Nat) : Nat := (List.range 6).foldl (fun a i => a + n / 2 ^ i % 2) 0

/-- The six bits abcdei of D.x at negative running disparity; entry 32 is K.28. -/
def code6 : List Nat :=
  [0b100111, 0b011101, 0b101101, 0b110001, 0b110101, 0b101001, 0b011001, 0b111000, 0b111001, 0b100101, 0b010101, 0b110100, 0b001101,
   0b101100, 0b011100, 0b010111, 0b011011] ++
  [0b100011, 0b010011, 0b110010, 0b001011, 0b101010, 0b011010, 0b111010, 0b110011, 0b100110, 0b010110, 0b110110, 0b001110, 0b101110,
   0b011110, 0b101011, 0b001111]

/-- The four bits fghj of .y at negative running disparity; entry 8 is the alternate .7. -/
def code4 : List Nat := [0b1011, 0b1001, 0b0101, 0b1100, 0b1101, 0b1010, 0b0110, 0b1110, 0b0111]

/-- abcdei at a running disparity, positive when `rd`. -/
def sixOf (x : Nat) (rd : Bool) : Nat :=
  let v := code6.getD x 0
  if rd ∧ (onesOf v ≠ 3 ∨ x = 7) then 63 - v else v

/-- The running disparity after abcdei of x. -/
def rdAfterSix (x : Nat) (rd : Bool) : Bool := rd != decide (onesOf (code6.getD x 0) ≠ 3)

/-- Whether .7 takes its alternate form after x at the running disparity before fghj; K characters always do. -/
def usesAlt (x : Nat) (k rd : Bool) : Bool := k || (if rd then [11, 13, 14].contains x else [17, 18, 20].contains x)

/-- fghj at the running disparity before it; for K.28 the balanced ones are complemented at negative disparity. -/
def fourOf (x y : Nat) (k rd : Bool) : Nat :=
  let v := code4.getD (if y = 7 ∧ usesAlt x k rd then 8 else y) 0
  if onesOf v ≠ 2 ∨ y = 3 then (if rd then 15 - v else v)
  else if k ∧ x = 32 ∧ rd = false then 15 - v
  else v

/-- The running disparity after fghj of y. -/
def rdAfterFour (y : Nat) (rd : Bool) : Bool := rd != decide (onesOf (code4.getD y 0) ≠ 2)

/-- One character as its symbol, with the running disparity after it: D.x.y, or K.x.y when `k`. -/
def symbolOf (k : Bool) (x y : Nat) (rd : Bool) : Symbol × Bool :=
  let r := rdAfterSix x rd
  (BitVec.ofNat 10 (16 * sixOf x rd + fourOf x y k r), rdAfterFour y r)

/-- Data octets as symbols (R408). -/
def codeData (rd : Bool) : List Byte → List Symbol × Bool
  | [] => ([], rd)
  | b :: bs =>
    let s := symbolOf false (b.toNat % 32) (b.toNat / 32) rd
    let r := codeData s.2 bs
    (s.1 :: r.1, r.2)

/-- A message on the wire (R408): K27.7, its octets, K29.7, then the ordered set K28.5 D16.2 with which the fill goes on. -/
def wireMessage (rd : Bool) (b : List Byte) : List Symbol × Bool :=
  let s := symbolOf true 27 7 rd
  let body := codeData s.2 b
  let e := symbolOf true 29 7 body.2
  let k := symbolOf true 32 5 e.2
  let f := symbolOf false 16 2 k.2
  (s.1 :: body.1 ++ [e.1, k.1, f.1], f.2)

/-- The octet of a data symbol at a running disparity, with the disparity after it; none for a code or disparity error. -/
def octetOf (s : Symbol) (rd : Bool) : Option (Byte × Bool) :=
  match (List.range 32).find? (fun x => decide (sixOf x rd = s.toNat / 16)) with
  | none => none
  | some x =>
    let r := rdAfterSix x rd
    match (List.range 8).find? (fun y => decide (fourOf x y false r = s.toNat % 16)) with
    | none => none
    | some y => some (BitVec.ofNat 8 (x + 32 * y), rdAfterFour y r)

/-- Data symbols as octets, up to K29.7 (R408); none for a code or disparity error or a missing end. -/
def decodeData (rd : Bool) : List Symbol → Option (List Byte)
  | [] => none
  | s :: ss =>
    if s = (symbolOf true 29 7 rd).1 then some []
    else
      match octetOf s rd with
      | none => none
      | some (b, r) => (decodeData r ss).map (b :: ·)

/-- The octets of a received message (R408): its K27.7 shows the running disparity. -/
def decodeMessage (msg : List Symbol) : Option (List Byte) :=
  match msg with
  | [] => none
  | s :: ss =>
    match [false, true].find? (fun rd => decide (s = (symbolOf true 27 7 rd).1)) with
    | none => none
    | some rd => decodeData (symbolOf true 27 7 rd).2 ss

end Sys2Proof.Machine
end

