-- ==== Sys2Proof/Machine/Panels.lean ====
section
/-!
DEFINITION. Panels (panel chapter): identity, records on the wire, write-back, dose, gains, summaries, and the commands and
members of panel and dose-map objects (R428 to R457).
-/
namespace Sys2Proof.Machine

/-- A head with a FAILED panel withholds its scene (R436); a request that stands already stays the host's or start-up's own. -/
def withhold (d : Dev) (h : Nat) : Dev :=
  if nGet d (hhead_HO_REQUEST h) = 1 then d
  else hoCauseSet (updPanel (nSet d (hhead_HO_REQUEST h) 1) h (fun x => { x with withheld := true })) h 4

/-- The HO_REQUEST that a failed check set is cleared (R436), but for a head that start-up still holds (R713). -/
def clearWithheld (d : Dev) (h : Nat) : Dev :=
  if (panelOf d h).withheld then
    let d := updPanel d h (fun x => { x with withheld := false })
    if bitOf d.trust.held h then d else hoCauseClear (nSet d (hhead_HO_REQUEST h) 0) h 4
  else d

/-- AUTH_POLICY of a head whose panel is FAILED takes effect (R436; assumption log 120). -/
def policyLook (d : Dev) (h : Nat) : Dev :=
  if nGet d (panel_IDENTITY_STATE h) ≠ 3 then d
  else if nGet d (panel_AUTH_POLICY h) = 1 then withhold d h
  else clearWithheld d h

/-- A panel fails its check (R435, R436). -/
def failPanel (d : Dev) (h reason : Nat) : Dev :=
  let d := nSets (disarm d tkId h) [(panel_IDENTITY_STATE h, 3), (panel_FAIL_REASON h, reason), (panel_WEAR_STATE h, 0)]
  let d := updPanel d h (fun x => { x with early := [], earlyOpen := false, gains := [], sums := [] })
  policyLook (raise (serviceLog d 8 h reason) (576 + 4 * h)) h

/-- Whether a certificate verifies under a panel CA key that is held and not revoked (R434, R700). -/
def caAccepts (d : Dev) (cert : List Byte) : Bool :=
  (List.range 4).any (fun n => decide ((bGet d (panelCa_PANEL_CA_KEY n)).length = 97) && decide (nGet d (panelCa_REVOKED n) = 0) &&
    Config.certVerifies (bGet d (panelCa_PANEL_CA_KEY n)) cert)

/-- The upper-case hex digit of a number below 16. -/
def hexDigit (n : Nat) : Byte := BitVec.ofNat 8 (if n < 10 then 48 + n else 55 + n)

/-- Octets written as upper-case hex digits (R434). -/
def hexOf (b : List Byte) : List Byte := (b.map (fun x => [hexDigit (x.toNat / 16), hexDigit (x.toNat % 16)])).flatten

/-- The ASCII string that the signature of a panel covers first (R433): "APXEL ID v1". -/
def idPrefix : List Byte := octets [0x41, 0x50, 0x58, 0x45, 0x4C, 0x20, 0x49, 0x44, 0x20, 0x76, 0x31]

/-- SHA-384 as octets. -/
def sha384 (b : List Byte) : List Byte := (Config.sha384 b).toList

/-- The checks of R434 on an ID_RESPONSE up to the records, in its order; the reason of the first that fails. -/
def checkResponse (d : Dev) (h : Nat) (msg : List Byte) : Option Nat :=
  let id := sliceOf msg 1 16
  let n := ofLe (sliceOf msg 161 2)
  let cert := (msg.drop 163).take n
  if msg.length < 163 ∨ 760 < n ∨ cert.length < n then some 2
  else if caAccepts d cert = false then some 2
  else if Config.certSerial cert ≠ hexOf id then some 3
  else if Config.ecdsaVerifies (Config.certKey cert)
      (sha384 (idPrefix ++ (panelOf d h).nonce ++ sliceOf (bGet d dev_SERIAL) 0 16 ++ id ++ sliceOf msg 17 48)) (sliceOf msg 65 96) = false then
    some 4
  else none

/-- An ID_RESPONSE (R434, R435): its checks, then the records are read in type order. -/
def idResponse (d : Dev) (h : Nat) (msg : List Byte) : Dev :=
  if nGet d (panel_IDENTITY_STATE h) ≠ 1 ∨ armed d tkId h = false ∨ (sliceOf msg 0 1).head? ≠ some 0x81 then d
  else
    let d := disarm d tkId h
    match checkResponse d h msg with
    | some r => failPanel d h r
    | none => startRead (updPanel d h (fun x => { x with newId := sliceOf msg 1 16, digest := sliceOf msg 17 48, records := [] })) h 1

/-- The newest valid summary sector of a head (R452, R693). -/
def newestSummary (d : Dev) (h : Nat) : Option (List Byte) :=
  let x := panelOf d h
  mapFind x.summaries (1 - x.nextSector)

/-- PANEL_ID of a summary. -/
def summaryId (b : List Byte) : List Byte := sliceOf b 4 16

/-- The coarse cell of a cell of the grid (R452). -/
def coarseOf (cols rows k : Nat) : Nat := (k / max 1 cols) * 16 / max 1 rows * 16 + (k % max 1 cols) * 16 / max 1 cols

/-- Offset of the coarse map in a summary: its fields packed in the order of R452 after the sector's GEN (assumption
log 36). -/
def summaryMapAt : Nat := 46

/-- The largest loss of one colour (R452). -/
def worstOf (x : PanelSt) (c : Nat) : Nat :=
  let ls := lrels x
  ((List.range ls.length).zip ls).foldl (fun a e => if e.1 % 3 = c then max a (32768 - e.2).floor.toNat else a) 0

/-- The coarse map of R452: the largest dose of the cells that each coarse cell covers, by colour. -/
def coarseMap (x : PanelSt) : List Nat :=
  let cols := gridCols (panelW x.ageing)
  let rows := gridRows (panelH x.ageing)
  let cells := List.range (cellCount x.ageing)
  let m : SMap Nat := cells.foldl (fun m k => [0, 1, 2].foldl (fun m c =>
    let i := 3 * coarseOf cols rows k + c
    mapPut m i (max (mapGet m i 0) (doseUnits x k c))) m) []
  (List.range 768).map (fun i => mapGet m i 0)

/-- A summary sector (R452, R693). -/
def summarySector (d : Dev) (h gen : Nat) : List Byte :=
  let x := panelOf d h
  let b := leBytes 4 0x50575353 ++ sliceOf (bGet d (panel_PANEL_ID h)) 0 16 ++ leBytes 4 gen ++ leBytes 4 x.genDose ++ leBytes 4 x.seconds ++
    leBytes 8 (tbNs d) ++ leBytes 2 (worstOf x 0) ++ leBytes 2 (worstOf x 1) ++ leBytes 2 (worstOf x 2) ++
    ((coarseMap x).map (leBytes 4)).flatten
  let b := b ++ zeros (4092 - b.length)
  b ++ leBytes 4 (crc32 b)

/-- A summary written into the older sector (R452). -/
def writeSummary (d : Dev) (h : Nat) : Dev :=
  let gen := ((newestSummary d h).map (fun b => ofLe (sliceOf b 20 4))).getD 0 + 1
  let b := summarySector d h gen
  let d := updPanel d h (fun x => { x with summaries := mapPut x.summaries x.nextSector b, nextSector := 1 - x.nextSector })
  arm (nSet d (panel_LAST_SUMMARY_WRITE h) (tbNs d)) tkSummary h (ms 1795000)

/-- A WRITE or COMMIT message of a record, in pieces of at most 1,000 octets (R437). -/
def sendRecord (d : Dev) (h typ gen : Nat) (body : List Byte) : Dev :=
  let r := wearRecord typ gen body
  let d := (List.range (ceilDiv r.length 1000)).foldl (fun d k =>
    sendCtrl d h 2 (octets [3, typ] ++ leBytes 4 gen ++ leBytes 4 (1000 * k) ++ (r.drop (1000 * k)).take 1000)) d
  let d := sendCtrl d h 2 (octets [4, typ] ++ leBytes 4 gen ++ leBytes 4 r.length)
  arm (updPanel d h (fun x => { x with writing := typ })) tkCommitted h (ms 150)

/-- The HOURS record of a snapshot (R429, R439): the seconds of the snapshot, and the DOSE commits up to now. -/
def sendHours (d : Dev) (h : Nat) : Dev :=
  let x := panelOf d h
  sendRecord d h 3 (x.genHours + 1) (x.hoursImage ++ leBytes 4 x.commits)

/-- The write-back of a snapshot begins (R439): DOSE first, or HOURS where the snapshot had no doses. -/
def startWrite (d : Dev) (h : Nat) : Dev :=
  let x := panelOf d h
  let d := disarm d tkWriteRetry h
  if x.doseImage.isEmpty then sendHours d h else sendRecord d h 2 (x.genDose + 1) x.doseImage

/-- The Firekeeper reads or writes running doses (R444, R473): an uncorrectable block of the reserved segment loses them; its blocks are then
written anew (assumption log 146). -/
def readDoses (d : Dev) : Dev :=
  let r := nGet d mem_RESERVED_SEGMENT
  let bad := ((d.dram.errors.map (·.1)).filter (fun b => decide (b * 256 / segBytes = r) && blockBad d b))
  if bad.isEmpty then d
  else
    let d := bad.foldl (fun d b => match channelOfAddr d (b * 256) with
      | some c => reportBad d b c 2 0
      | none => d) d
    reloadDoses { d with dram.errors := d.dram.errors.filter (fun e => !bad.contains e.1) }

/-- A snapshot of dose and hours, written back at once (R440); the next comes 595 s later. Doses that are not in memory are not in it
(R444). -/
def takeSnapshot (d : Dev) (h : Nat) : Dev :=
  let ins := dosesIn d h
  let d := updPanel d h (fun x => { x with doseImage := if ins then doseBody x else [], hoursImage := leBytes 4 x.seconds })
  startWrite (arm d tkDose h (ms 595000)) h

/-- The doses that an accepted panel starts with (R444, R453): its DOSE record, or the summary's coarse map, or 0; whether they
were rebuilt. -/
def firstDoses (d : Dev) (h : Nat) (a rec id : List Byte) : SMap Nat × Bool :=
  if recordGood rec && doseBodyFits a (recordBody rec) then (doseFrom (recordBody rec) (cellCount a), false)
  else
    match newestSummary d h with
    | some b =>
      if summaryId b = id then
        let cols := gridCols (panelW a)
        let rows := gridRows (panelH a)
        (mapOfList 0 0 ((List.range (3 * cellCount a)).map (fun k =>
          ofLe (sliceOf b (summaryMapAt + 4 * (3 * coarseOf cols rows (k / 3) + k % 3)) 4) * 2 ^ 32)), true)
      else ([], true)
    | none => ([], true)

/-- Dose kept apart during the check, added to the panel accepted (R444); dose that had no STRESS table is a free value
(assumption log 37). -/
def addEarly (d : Dev) (h : Nat) : Dev :=
  let x := panelOf d h
  let n := 3 * cellCount x.ageing
  let free := fun k => if x.earlyOpen then (Config.freeValue (d.free + k)).toNat else 0
  let d := if x.earlyOpen then freeUsedN d n else d
  updPanel d h (fun y => { y with dose := mapOfList 0 0 ((List.range n).map (fun k => mapGet x.dose k 0 + mapGet x.early k 0 + free k)),
                                  early := [], earlyOpen := false })

/-- An accepted panel that the head's summary does not know (R455). -/
def newPanel (d : Dev) (h : Nat) : Dev :=
  match newestSummary d h with
  | none => d
  | some b =>
    if summaryId b = bGet d (panel_PANEL_ID h) then d
    else
      let d := updPanel d h (fun x => { x with summaries := mapPut x.summaries 2 b })
      raise (nSet (writeSummary d h) (panel_NEW_PANEL h) 1) (576 + 4 * h + 3)

/-- The panel is accepted (R434, R436, R444, R446, R453, R455): its records become the head's. A panel that was accepted before
and comes back with the same PANEL_ID keeps its running doses, its write-back and its snapshot interval (R439, R440; assumption log 35),
but where its DOSE record is no longer good (R453). -/
def acceptPanel (d : Dev) (h : Nat) : Dev :=
  let x := panelOf d h
  let ageRec := recordOf d h 1
  let doseRec := recordOf d h 2
  let hours := recordOf d h 3
  let st := wearStateFor d h ageRec
  let a := recordBody ageRec
  let counted := decide (st = 1) || decide (st = 4)
  let same := decide (bGet d (panel_PANEL_ID h) = x.newId) && decide (x.ageing = a) && !x.dose.isEmpty
  let f := firstDoses d h a doseRec x.newId
  let rebuilt := decide (st ≠ 2) && f.2
  let dose := if st = 2 then [] else if same && !rebuilt then x.dose else f.1
  let secs := if recordGood hours then ofLe (sliceOf (recordBody hours) 0 4) else 0
  let sent := if recordGood hours then ofLe (sliceOf (recordBody hours) 4 4) else 0
  let d := updPanel d h (fun x => { x with
    ageing := if st = 2 then [] else a, dose := dose, first := true, high := same && x.high
    early := if same then x.early else [], earlyOpen := x.earlyOpen || (!same && !x.early.isEmpty)
    genDose := recordGen doseRec, genHours := recordGen hours, seconds := if same then max x.seconds secs else secs
    commits := if same then max x.commits sent else sent, fails := if same then x.fails else 0, writing := if same then x.writing else 0
    attempts := 0 })
  let d := if same then d else disarm (disarm (disarm d tkCommitted h) tkWriteRetry h) tkDose h
  let d := bSet (nSets d [(panel_IDENTITY_STATE h, 2), (panel_FAIL_REASON h, 0), (panel_WEAR_STATE h, st), (dose_GEN h, recordGen doseRec),
    (panel_OPERATING_S h, (panelOf d h).seconds),
    (dose_GRID h, gridOf (panelOf d h))]) (panel_PANEL_ID h) x.newId
  let d := if counted then addEarly d h else d
  let d := newPanel (clearWithheld d h) h
  let d := arm (if armed d tkSummary h then d else arm d tkSummary h (ms 1795000)) tkGain h 0
  if rebuilt then takeSnapshot (nSet d (panel_DOSE_REBUILT h) 1) h
  else if armed d tkDose h then d
  else arm d tkDose h (ms 595000)

/-- The record type that is being read: during a check the first that is not whole, later DOSE while it is read again. -/
def readingType (d : Dev) (h : Nat) : Option Nat :=
  let st := nGet d (panel_IDENTITY_STATE h)
  if st = 1 ∧ ¬ (panelOf d h).digest.isEmpty then [1, 2, 3].find? (fun t => !recordWhole (recordOf d h t))
  else if st = 2 ∧ ¬ recordWhole (recordOf d h 2) then some 2
  else none

/-- The doses of a DOSE record read again (R444, R453), and with them what the Firekeeper has added since the reading began. -/
def doseReloaded (d : Dev) (h : Nat) : Dev :=
  let x := panelOf d h
  let f := firstDoses d h x.ageing (recordOf d h 2) (bGet d (panel_PANEL_ID h))
  let d := updPanel d h (fun x => { x with dose := mapOfList 0 0 ((List.range (3 * cellCount x.ageing)).map (fun k =>
    mapGet f.1 k 0 + mapGet x.dose k 0)) })
  if f.2 then takeSnapshot (nSet d (panel_DOSE_REBUILT h) 1) h else d

/-- What follows a record read whole (R434, R444). -/
def readDone (d : Dev) (h typ : Nat) : Dev :=
  if nGet d (panel_IDENTITY_STATE h) = 2 then doseReloaded d h
  else if typ < 3 then startRead d h (typ + 1)
  else if sha384 (recordOf d h 1 ++ recordOf d h 2 ++ recordOf d h 3) = (panelOf d h).digest then acceptPanel d h
  else failPanel d h 5

/-- A READ reply (R437): the octets that follow those read so far. -/
def readReply (d : Dev) (h : Nat) (msg : List Byte) : Dev :=
  match readingType d h with
  | none => d
  | some t =>
    let b := recordOf d h t
    let data := msg.drop 6
    if (sliceOf msg 0 1).head? = some 0x82 ∧ ofLe (sliceOf msg 1 1) = t ∧ ofLe (sliceOf msg 2 4) = b.length ∧ ¬ data.isEmpty then
      let b := b ++ data
      let d := updPanel d h (fun x => { x with records := mapPut x.records t b })
      if recordWhole b then readDone d h t else readNext d h t b
    else d

/-- A write that has failed (R439): again after 10 s, or from the third failure in a row at the next snapshot. -/
def writeFailed (d : Dev) (h : Nat) : Dev :=
  let n := (panelOf d h).fails + 1
  let d := nInc (disarm d tkCommitted h) (panel_WRITE_FAILS h)
  let d := updPanel d h (fun x => { x with writing := 0, fails := n })
  if n < 3 then arm d tkWriteRetry h (ms 10000)
  else if n = 3 then raise d (576 + 4 * h + 1)
  else d

/-- A panel has taken its last record of the write-back (R439, R440). -/
def writeDone (d : Dev) (h : Nat) : Dev :=
  let d := updPanel d h (fun x => { x with writing := 0, fails := 0 })
  { d with wear.flushing := d.wear.flushing.filter (· ≠ h) }

/-- A COMMITTED (R439). -/
def committed (d : Dev) (h : Nat) (msg : List Byte) : Dev :=
  let x := panelOf d h
  let typ := ofLe (sliceOf msg 1 1)
  let gen := ofLe (sliceOf msg 2 4)
  let want := if x.writing = 2 then x.genDose + 1 else x.genHours + 1
  if x.writing = 0 ∨ nGet d (panel_IDENTITY_STATE h) = 3 ∨ (sliceOf msg 0 1).head? ≠ some 0x84 ∨ typ ≠ x.writing ∨ gen ≠ want then d
  else if ofLe (sliceOf msg 6 1) ≠ 0 then writeFailed d h
  else
    let d := nSet (disarm d tkCommitted h) (panel_LAST_PANEL_WRITE h) (tbNs d)
    if typ = 2 then
      sendHours (nSet (updPanel d h (fun x => { x with genDose := gen, commits := x.commits + 1 })) (dose_GEN h) gen) h
    else writeDone (updPanel d h (fun x => { x with genHours := gen })) h

/-- A DATA message's content (R437): channel SUB in octet 0. -/
def panelData (d : Dev) (h : Nat) (b : List Byte) : Dev :=
  let msg := b.drop 1
  let code := (sliceOf msg 0 1).head?
  if (sliceOf b 0 1).head? = some 1 then idResponse d h msg
  else if (sliceOf b 0 1).head? = some 2 then
    (if code = some 0x82 then readReply d h msg else if code = some 0x84 then committed d h msg else d)
  else d

/-- ID_RESPONSE (R434). -/
def doIdResponse (h : Fin 16) (msg : List Byte) (d : Dev) : Dev := idResponse d h.val msg
/-- READ_REPLY (R437). -/
def doReadReply (h : Fin 16) (msg : List Byte) (d : Dev) : Dev := readReply d h.val msg
/-- COMMITTED (R439). -/
def doCommitted (h : Fin 16) (msg : List Byte) (d : Dev) : Dev := committed d h.val msg

/-- ID_RESPONSE_TIMEOUT (R435): the first request and up to 3 more. -/
def doIdResponseTimeout (h : Fin 16) (d : Dev) : Dev :=
  if nGet d (panel_IDENTITY_STATE h.val) = 1 ∧ due d tkId h.val then
    (if (panelOf d h.val).attempts < 4 then sendIdRequest d h.val else failPanel d h.val 1)
  else d

/-- COMMITTED_TIMEOUT (R439). -/
def doCommittedTimeout (h : Fin 16) (d : Dev) : Dev :=
  if (panelOf d h.val).writing ≠ 0 ∧ due d tkCommitted h.val then writeFailed d h.val else d

/-- WRITE_RETRY_EXPIRY (R439). -/
def doWriteRetryExpiry (h : Fin 16) (d : Dev) : Dev :=
  if due d tkWriteRetry h.val ∧ nGet d (panel_IDENTITY_STATE h.val) = 2 then startWrite d h.val else d

/-- DOSE_SNAPSHOT (R440). -/
def doDoseSnapshot (h : Fin 16) (d : Dev) : Dev :=
  if due d tkDose h.val ∧ nGet d (panel_IDENTITY_STATE h.val) = 2 ∧ nGet d dev_FK_STATE = 1 then takeSnapshot (readDoses d) h.val else d

/-- CELL_ROW_DOSE (R443, R444): the sums of one cell row go into the running doses, or are kept apart during a check. -/
def doCellRowDose (h : Fin 16) (d : Dev) : Dev :=
  match readyRow d h.val with
  | none => d
  | some r => passRow (readDoses d) h.val r

/-- Whether new gains can be written now (R446): between FRAME_DONE and the end of vertical blanking of a running head, not in
hearth-only mode, whose gains are held (R304). -/
def gainWindow (d : Dev) (h : Nat) : Bool :=
  let st := nGet d (head_STATE h)
  decide (st < 2) || (decide (st ≠ 4) && (headOf d h).frameDone && decide ((beamPos d h).1 < (headOf d h).timing.vBlank))

/-- GAIN_RECOMPUTE (R446, R454): the gains stay while the doses that they come from are not in memory (assumption log 134). -/
def doGainRecompute (h : Fin 16) (d : Dev) : Dev :=
  let h := h.val
  if due d tkGain h ∧ nGet d dev_FK_STATE = 1 ∧ gainWindow d h then
    let d := readDoses d
    if compensated d h && !dosesIn d h then arm d tkGain h (ms 60000) else
    let d := arm (setGains d h (panelOf d h).first) tkGain h (ms 60000)
    let d := updPanel d h (fun x => { x with first := false })
    if nGet d (panel_WEAR_STATE h) = 1 then checkWear d h else d
  else d

/-- SUMMARY_WRITE (R452): of every head whose interval has passed. -/
def doSummaryWrite (d : Dev) : Dev :=
  (List.range 16).foldl (fun d h => if due d tkSummary h ∧ nGet d (panel_IDENTITY_STATE h) = 2 then writeSummary d h else d) d

/-- OPERATING_SECOND (R444): once a second, counted while the head is not STOPPED and its lane is READY. -/
def doOperatingSecond (h : Fin 16) (d : Dev) : Dev :=
  let h := h.val
  if armed d tkOperating h ∧ ¬ due d tkOperating h then d
  else
    let d := arm d tkOperating h (ms 1000)
    if headRuns d h && decide (headLane d h < 32) && decide (nGet d (lane_STATE (headLane d h)) = 6) then
      let n := satAdd 32 (panelOf d h).seconds 1
      nSet (updPanel d h (fun x => { x with seconds := n })) (panel_OPERATING_S h) n
    else d

/-- The ACK_NEW action (R456). -/
def ackNewOp (d : Dev) (h arg : Nat) : Dev × Status × List Byte :=
  if arg ≠ 0 then (d, .range, []) else (nSet d (panel_NEW_PANEL h) 0, .ok, [])

/-- The cells of a row that a ROW_READ or GAIN_READ argument names, at most n of them; none outside the grid (R457). -/
def rowCells (x : PanelSt) (arg n : Nat) : Option (List Nat) :=
  let cols := gridCols (panelW x.ageing)
  let r := arg / 65536
  let c := arg % 65536
  if arg < 2 ^ 32 ∧ hasGrid x ∧ r < gridRows (panelH x.ageing) ∧ c < cols then
    some ((List.range (min n (cols - c))).map (fun k => r * cols + c + k))
  else none

/-- The ROW_READ action (R457). -/
def rowReadOp (d : Dev) (h arg : Nat) : Dev × Status × List Byte :=
  let x := panelOf d h
  match rowCells x arg 85 with
  | none => (d, .range, [])
  | some l => (d, .ok, (l.map (fun k => leBytes 4 (doseUnits x k 0) ++ leBytes 4 (doseUnits x k 1) ++ leBytes 4 (doseUnits x k 2))).flatten)

/-- The GAIN_READ action (R457). -/
def gainReadOp (d : Dev) (h arg : Nat) : Dev × Status × List Byte :=
  let x := panelOf d h
  match rowCells x arg 341 with
  | none => (d, .range, [])
  | some l => ((l.filter x.gainBad.contains).foldl (fun d k => sramBad d (3 * k) 12 0) d, .ok, (l.map (fun k => octets [mapGet x.gains (3 * k) 0, mapGet x.gains (3 * k + 1) 0, mapGet x.gains (3 * k + 2) 0])).flatten)

/-- Whether every enabled slot and every plate of a head lies at least 3 pixels inside its active area (R451). -/
def orbitOk (d : Dev) (m : List Host.Cell) (h : Nat) : Bool :=
  (List.range 64).all (fun s =>
    let i := 64 * h + s
    decide (nGet d (slot_ENABLE i) = 0) ||
    regionInside d h 3 (nGet d (slot_X i)) (nGet d (slot_Y i)) (symWidth m (nGet d (slot_SYMBOL i))) (symHeight m (nGet d (slot_SYMBOL i)))) &&
  (List.range 8).all (fun k =>
    let b := bGet d (hhead_PLATES h)
    let sy := plateSymbol d h k
    decide (sy = 0xFFFF) ||
    regionInside d h 3 (ofLe (sliceOf b (8 * k + 2) 2)) (ofLe (sliceOf b (8 * k + 4) 2)) (symWidth m sy) (symHeight m sy))

/-- A write of ORBIT_ENABLE (R451). -/
def orbitEnable (m : List Host.Cell) (d : Dev) (h v : Nat) : Dev × Status × List Byte :=
  if 1 < v then (d, .range, [])
  else if v = 1 ∧ orbitOk d m h = false then (d, .state, [])
  else (nSet d (panel_ORBIT_ENABLE h) v, .ok, [])

/-- A write of a panel member (R436, R446, R451, R456): a change of COMP_ENABLE or COMP_FLOOR sets new gains at once. -/
def panelWrite (m : List Host.Cell) (d : Dev) (h mem : Nat) (v : Val) : Dev × Status × List Byte :=
  match mem, v with
  | 12, .num n => orbitEnable m d h n
  | _, _ =>
    let r := mref 0x28 h mem
    let x := plainWrite d r v
    if x.2.1 = .ok ∧ (mem = 9 ∨ mem = 10) ∧ mGet d r ≠ v then
      (arm (updPanel x.1 h (fun y => { y with first := true })) tkGain h 0, x.2)
    else if x.2.1 = .ok ∧ mem = 6 then (policyLook x.1 h, x.2)
    else x

/-- ORBIT_ENABLE_WRITE (R451). -/
def doOrbitEnableWrite (sess : Nat) (h : Fin 16) (v : Nat) (m : List Host.Cell) (d : Dev) : Dev :=
  withGate d sess (panel_ORBIT_ENABLE h.val) (fun d => orbitEnable m d h.val v)
/-- ACK_NEW (R456). -/
def doAckNew (sess : Nat) (h : Fin 16) (arg : Nat) (d : Dev) : Dev :=
  withGate d sess (panel_ACK_NEW h.val) (fun d => ackNewOp d h.val arg)
/-- ROW_READ (R457). -/
def doRowRead (sess : Nat) (h : Fin 16) (arg : Nat) (d : Dev) : Dev :=
  withGate d sess (dose_ROW_READ h.val) (fun d => rowReadOp d h.val arg)
/-- GAIN_READ (R457). -/
def doGainRead (sess : Nat) (h : Fin 16) (arg : Nat) (d : Dev) : Dev :=
  withGate d sess (dose_GAIN_READ h.val) (fun d => gainReadOp d h.val arg)

/-- ID_RESPONSE (R434). -/
def execIdResponse (h : Fin 16) (msg : List Byte) (s : State) : Res := .next (withDev s (doIdResponse h msg s.dev))
/-- ID_RESPONSE_TIMEOUT (R435). -/
def execIdResponseTimeout (h : Fin 16) (s : State) : Res := .next (withDev s (doIdResponseTimeout h s.dev))
/-- READ_REPLY (R437). -/
def execReadReply (h : Fin 16) (msg : List Byte) (s : State) : Res := .next (withDev s (doReadReply h msg s.dev))
/-- COMMITTED (R439). -/
def execCommitted (h : Fin 16) (msg : List Byte) (s : State) : Res := .next (withDev s (doCommitted h msg s.dev))
/-- COMMITTED_TIMEOUT (R439). -/
def execCommittedTimeout (h : Fin 16) (s : State) : Res := .next (withDev s (doCommittedTimeout h s.dev))
/-- WRITE_RETRY_EXPIRY (R439). -/
def execWriteRetryExpiry (h : Fin 16) (s : State) : Res := .next (withDev s (doWriteRetryExpiry h s.dev))
/-- DOSE_SNAPSHOT (R440). -/
def execDoseSnapshot (h : Fin 16) (s : State) : Res := .next (withDev s (doDoseSnapshot h s.dev))
/-- CELL_ROW_DOSE (R443). -/
def execCellRowDose (h : Fin 16) (s : State) : Res := .next (withDev s (doCellRowDose h s.dev))
/-- GAIN_RECOMPUTE (R446). -/
def execGainRecompute (h : Fin 16) (s : State) : Res := .next (withDev s (doGainRecompute h s.dev))
/-- SUMMARY_WRITE (R452). -/
def execSummaryWrite (s : State) : Res := .next (withDev s (doSummaryWrite s.dev))
/-- OPERATING_SECOND (R444). -/
def execOperatingSecond (h : Fin 16) (s : State) : Res := .next (withDev s (doOperatingSecond h s.dev))
/-- ACK_NEW (R456). -/
def execAckNew (sess : Nat) (h : Fin 16) (arg : Nat) (s : State) : Res := .next (withDev s (doAckNew sess h arg s.dev))
/-- ROW_READ (R457). -/
def execRowRead (sess : Nat) (h : Fin 16) (arg : Nat) (s : State) : Res := .next (withDev s (doRowRead sess h arg s.dev))
/-- GAIN_READ (R457). -/
def execGainRead (sess : Nat) (h : Fin 16) (arg : Nat) (s : State) : Res := .next (withDev s (doGainRead sess h arg s.dev))
/-- ORBIT_ENABLE_WRITE (R451). -/
def execOrbitEnableWrite (sess : Nat) (h : Fin 16) (v : Nat) (s : State) : Res :=
  .next (withDev s (doOrbitEnableWrite sess h v s.mem s.dev))

end Sys2Proof.Machine
end

