-- ==== Sys2Proof/Machine/Lanes.lean ====
section
/-!
DEFINITION. Lanes (link chapter): direction, training, the transmit queue, the back channel, retransmission, power over coax, and the
device's side of a receive lane (R385 to R392, R402 to R417, R423 to R426).
-/
namespace Sys2Proof.Machine

/-- Whether the live scene of a head, or its timing in force, names a lane. -/
def headNames (d : Dev) (h l : Nat) : Bool :=
  let a := nGet d (head_LANE h)
  decide (a = l) || (decide (nGet d (head_LANES h) = 2) && decide (a + 1 = l) && decide (a < 32)) || (headRuns d h && (headLanes d h).contains l)

/-- Whether a lane is one of a bonded pair (R405). -/
def laneBonded (d : Dev) (l : Nat) : Bool :=
  (List.range 16).any (fun h => headNames d h l && (decide (nGet d (head_LANES h) = 2) || (headRuns d h && decide ((headOf d h).timing.lanes = 2))))

/-- The video inputs that take a lane (R427). -/
def inputsOf (d : Dev) (l : Nat) : List Nat := (List.range 16).filter (fun i => decide (nGet d (vin_LANE i) = l))

/-- Whether a head with ENABLE 1 or a video input uses a lane (R426). -/
def laneUsed (d : Dev) (l : Nat) : Bool :=
  (List.range 16).any (fun h => headNames d h l && (headRuns d h || decide (liveNat d h (head_ENABLE h) = 1))) || !(inputsOf d l).isEmpty

/-- A lane's STATE with its trace record (R426, R726). -/
def setLaneState (d : Dev) (l st : Nat) : Dev :=
  if nGet d (lane_STATE l) = st then d
  else
    let d := nSet d (lane_STATE l) st
    trace d 6 l (st + nGet d (lane_TRAIN_RESULT l) * 256)

/-- STREAM_STATE of the inputs of a lane that is not READY, or has no stream yet (R427). -/
def streamStates (d : Dev) (l : Nat) : Dev :=
  (inputsOf d l).foldl (fun d i => nSet d (vin_STREAM_STATE i) (if nGet d (lane_STATE l) = 6 then 2 else 1)) d

/-- Whether a lane may feed power (R423). -/
def pocAllowed (d : Dev) (l : Nat) : Bool :=
  decide (l < 8) && decide (nGet d (lane_MEDIA l) = 0) && decide (nGet d (lane_POC_ENABLE l) = 1)

/-- An output begins its ramp of 4 ms (R423). -/
def pocRamp (d : Dev) (l : Nat) : Dev := arm (nSet d (lane_POC_STATE l) 1) tkPocRamp l (ms 4)

/-- The output of a lane falls if it is up; after a cut-off it stays off as R424 says. -/
def pocOff (d : Dev) (l : Nat) : Dev :=
  if nGet d (lane_POC_STATE l) = 1 ∨ nGet d (lane_POC_STATE l) = 2 then
    nSets (disarm d tkPocRamp l) [(lane_POC_STATE l, 0), (lane_POC_MA l, 0)]
  else d

/-- An output starts or falls as its settings ask (R423); in COOLDOWN and LATCHED it stays off (R424). -/
def pocLook (d : Dev) (l : Nat) : Dev :=
  if pocAllowed d l = false then pocOff d l
  else if nGet d (lane_POC_STATE l) = 0 then pocRamp d l
  else d

/-- POC_ENABLE takes a value (R423, R424): the latch ends when it is written 0 and then 1. -/
def pocEnable (d : Dev) (l v : Nat) : Dev :=
  let d := nSet d (lane_POC_ENABLE l) v
  if nGet d (lane_POC_STATE l) ≠ 4 then pocLook d l
  else if v = 0 then updLane d l (fun x => { x with latchOff := true })
  else if (laneOf d l).latchOff then pocLook (nSet (updLane d l (fun x => { x with latchOff := false })) (lane_POC_STATE l) 0) l
  else d

/-- The output current of a feed that is up, as it reads now: a free value of at most 450 mA (R423, R426; assumption log 4). -/
def pocSample (d : Dev) (l : Nat) : Dev :=
  if nGet d (lane_POC_STATE l) = 1 ∨ nGet d (lane_POC_STATE l) = 2 then nSet (freeUsed d) (lane_POC_MA l) (freeNat d 16 % 451) else d

/-- The deadlines of training dropped. -/
def laneQuiet (d : Dev) (l : Nat) : Dev :=
  disarm (disarm (disarm (disarm (disarm (disarm d tkTrain l) tkTrainEnd l) tkRetry l) tkStatus l) tkAck l) tkStatusSend l

/-- The lane whose queues carry a lane's packets: LANE of a bonded pair, else itself (R405). -/
def queueLane (d : Dev) (l : Nat) : Nat := if laneBonded d l then l / 2 * 2 else l

/-- A lane trains (R415, R417): the LINE, SIG and AUDIO packets that it or its pair carries are discarded; protected packets without an acknowledgement wait to be
sent again (assumption log 38). A receive lane waits for the source's signal. -/
def startTrain (d : Dev) (l : Nat) : Dev :=
  let d := pocLook (laneQuiet d l) l
  let d := updLane d (queueLane d l) (fun x => { x with lineQ := [], sigQ := [], audioQ := [] })
  let d := updLane d l (fun x => { x with
    again := x.unacked, timeouts := 0, step := 0, entries := 0
    presetErrors := List.replicate 8 0, trainStart := d.now, locked := false, blockLock := false })
  let d := setLaneState (nSet d (lane_PRESET l) 4) l (if nGet d (lane_POC_STATE l) = 1 then 1 else 2)
  if nGet d (lane_DIRECTION l) = 1 then arm d tkTrainEnd l (ms 10)
  else streamStates (arm d tkStatusSend l (ms 1)) l

/-- A lane goes off. -/
def laneOff (d : Dev) (l : Nat) : Dev :=
  let d := updLane (laneQuiet d l) l (fun x => { LaneSt.reset with nextSeq := x.nextSeq, bcSeq := x.bcSeq, cutoffs := x.cutoffs, latchOff := x.latchOff,
                                                                         scrambler := x.scrambler, bcDisp := x.bcDisp, cutLines := x.cutLines })
  setLaneState d l 0

/-- Training fails (R416). -/
def failTrain (d : Dev) (l reason : Nat) : Dev :=
  let down := (laneOf d l).downRaised
  let d := nInc (nSet (laneQuiet d l) (lane_TRAIN_RESULT l) reason) (lane_TRAIN_FAILS l)
  let d := arm (setLaneState (updLane d l (fun x => { x with downRaised := true, locked := false })) l 7) tkRetry l (ms 100)
  if down then d else raise d (640 + 2 * l)

/-- The heads whose panel a lane reaches. -/
def panelsOn (d : Dev) (l : Nat) : List Nat := (List.range 16).filter (fun h => decide (ctrlLane d h = l))

/-- A READY lane retrains (R417, R441). -/
def retrain (d : Dev) (l : Nat) : Dev :=
  let d := serviceLog (nInc d (lane_RETRAINS l)) 3 l (nGet d (lane_TRAIN_RESULT l))
  let d := (panelsOn d l).foldl (fun d h => panelLog d h 2 (nGet d (lane_TRAIN_RESULT l))) d
  startTrain d l

/-- DIRECTION takes a value (R385, R415). -/
def setDirection (d : Dev) (l v : Nat) : Dev :=
  let d := laneOff (nSet d (lane_DIRECTION l) v) l
  if v = 0 then d else startTrain d l

/-- A write of a lane member (R385, R423, R424, R426). -/
def laneWrite (d : Dev) (l mem v : Nat) : Dev × Status × List Byte :=
  if mem = 1 then
    if 2 < v then (d, .range, [])
    else if laneUsed d l then (d, .state, [])
    else if v = 2 ∧ 16 ≤ ((List.range 32).filter (fun k => decide (k ≠ l) && decide (nGet d (lane_DIRECTION k) = 2))).length then (d, .state, [])
    else (setDirection d l v, .ok, [])
  else if mem = 2 then
    if 1 < v then (d, .range, [])
    else if laneUsed d l then (d, .state, [])
    else (pocLook (nSet d (lane_MEDIA l) v) l, .ok, [])
  else if mem = 7 then
    if 8 ≤ l ∨ 1 < v then (d, .range, [])
    else (pocEnable d l v, .ok, [])
  else plainWrite d (mref 0x30 l mem) (.num v)

/-- LANE_DIRECTION_WRITE (R385). -/
def doLaneDirectionWrite (sess : Nat) (l : Fin 32) (v : Nat) (d : Dev) : Dev :=
  withGate d sess (lane_DIRECTION l.val) (fun d => laneWrite d l.val 1 v)
/-- POC_ENABLE_WRITE (R424). -/
def doPocEnableWrite (sess : Nat) (l : Fin 32) (v : Nat) (d : Dev) : Dev :=
  withGate d sess (lane_POC_ENABLE l.val) (fun d => laneWrite d l.val 7 v)

/-- LANE_TRAINING_START (R415): a lane whose DIRECTION is set and that is OFF. -/
def doLaneTrainingStart (l : Fin 32) (d : Dev) : Dev :=
  if nGet d (lane_DIRECTION l.val) ≠ 0 ∧ nGet d (lane_STATE l.val) = 0 then startTrain d l.val else d

/-- BACK_CHANNEL_LOCK (R415). -/
def doBackChannelLock (l : Fin 32) (d : Dev) : Dev :=
  let l := l.val
  let st := nGet d (lane_STATE l)
  if nGet d (lane_DIRECTION l) = 1 ∧ (st = 1 ∨ st = 2) then
    let left := (laneOf d l).trainStart + ms 19 - d.now
    let d := setLaneState (nSet d (lane_PRESET l) 0) l 3
    arm (arm (updLane d l (fun x => { x with step := 0 })) tkTrain l (ms 1)) tkTrainEnd l left
  else d

/-- The preset with the fewest errors among those of which the bridge has reported with lock, the lowest on a tie (R415). -/
def bestPreset (errs : List Nat) : Option Nat :=
  (((List.range 8).zip errs).filter (fun e => decide (e.2 ≠ 0))).foldl (fun a e =>
    match a with
    | none => some e.1
    | some k => if e.2 < errs.getD k 0 then some e.1 else a) none

/-- PRESET_STEP_EXPIRY (R415): the next preset, or after the last one the choice. -/
def doPresetStepExpiry (l : Fin 32) (d : Dev) : Dev :=
  let l := l.val
  if nGet d (lane_STATE l) ≠ 3 ∨ nGet d (lane_DIRECTION l) ≠ 1 ∨ due d tkTrain l = false then d
  else
    let k := (laneOf d l).step + 1
    let d := updLane d l (fun x => { x with step := k })
    if k < 8 then arm (nSet d (lane_PRESET l) k) tkTrain l (ms 1)
    else
      match bestPreset (laneOf d l).presetErrors with
      | none => disarm d tkTrain l
      | some p =>
        let left := (laneOf d l).trainStart + ms 22 - d.now
        arm (disarm (setLaneState (nSet d (lane_PRESET l) p) l 4) tkTrain l) tkTrainEnd l left

/-- TRAINING_DEADLINE_MISSED (R415, R416): the Ready phase has no reason of its own, and TRAIN_RESULT reads 0 (assumption log 144). -/
def doTrainingDeadlineMissed (l : Fin 32) (d : Dev) : Dev :=
  let l := l.val
  let st := nGet d (lane_STATE l)
  if nGet d (lane_DIRECTION l) ≠ 1 ∨ due d tkTrainEnd l = false then d
  else if st = 1 ∨ st = 2 then failTrain d l 2
  else if st = 3 then failTrain d l 3
  else if (st = 4 ∨ st = 5) ∧ (laneOf d l).locked then failTrain d l 0
  else if st = 4 then failTrain d l 4
  else if st = 5 then failTrain d l 5
  else d

/-- TRAINING_RETRY_EXPIRY (R416). -/
def doTrainingRetryExpiry (l : Fin 32) (d : Dev) : Dev :=
  if nGet d (lane_STATE l.val) = 7 ∧ nGet d (lane_DIRECTION l.val) = 1 ∧ due d tkRetry l.val then startTrain d l.val else d

/-- LANE_READY (R258, R415, R417, R432): the lane becomes READY; starting heads look at their lanes, a running head owes a MODE
packet, the panel check begins. A receive lane is READY once it has block lock. -/
def doLaneReady (l : Fin 32) (d : Dev) : Dev :=
  let l := l.val
  let st := nGet d (lane_STATE l)
  let x := laneOf d l
  if nGet d (lane_DIRECTION l) = 1 ∧ (st = 4 ∨ st = 5) ∧ x.locked then
    let d := updLane (laneQuiet d l) l (fun x => { x with downRaised := false, modeOwed := true, timeouts := 0, entries := 3 })
    let d := arm (setLaneState d l 6) tkStatus l (ms 20)
    let d := if (laneOf d l).unacked.isEmpty then d else arm d tkAck l (us 200)
    let d := (List.range 16).foldl lookLanes d
    (panelsOn d l).foldl startIdentity d
  else if nGet d (lane_DIRECTION l) = 2 ∧ (st = 2 ∨ st = 3) ∧ x.blockLock then
    streamStates (arm (setLaneState (updLane (laneQuiet d l) l (fun x => { x with downRaised := false })) l 6) tkStatusSend l (ms 10)) l
  else d

/-- COMMA_LOCK_LOSS (R417). -/
def doCommaLockLoss (l : Fin 32) (d : Dev) : Dev :=
  if nGet d (lane_STATE l.val) = 6 ∧ nGet d (lane_DIRECTION l.val) = 1 then retrain d l.val else d

/-- STATUS_TIMEOUT (R417). -/
def doStatusTimeout (l : Fin 32) (d : Dev) : Dev :=
  if nGet d (lane_STATE l.val) = 6 ∧ nGet d (lane_DIRECTION l.val) = 1 ∧ due d tkStatus l.val then retrain d l.val else d

/-- A back-channel message between its K characters (R408): TYPE, SEQ, LEN, payload, CRC-32. -/
def bcMessage (typ seq : Nat) (payload : List Byte) : List Byte :=
  let b := octets [typ, seq] ++ leBytes 2 payload.length ++ payload
  b ++ leBytes 4 (crc32 b)

/-- SEQ and payload of a good message (R408). -/
def bcParse (msg : List Byte) : Option (Nat × Nat × List Byte) :=
  let n := ofLe (sliceOf msg 2 2)
  if n ≤ 1024 ∧ msg.length = n + 8 ∧ crc32 (msg.take (n + 4)) = ofLe (sliceOf msg (n + 4) 4) then
    some (ofLe (sliceOf msg 0 1), ofLe (sliceOf msg 1 1), sliceOf msg 4 n)
  else none

/-- SEQ, type and payload of a message as its symbols come in (R408): without a code error, a disparity error or a failed CRC. -/
def bcDecode (msg : List Symbol) : Option (Nat × Nat × List Byte) := (decodeMessage msg).bind bcParse

/-- A message sent on the back channel of a receive lane (R408, R409). -/
def bcSend (d : Dev) (l typ seq : Nat) (p : List Byte) : Dev :=
  let w := wireMessage (laneOf d l).bcDisp (bcMessage typ seq p)
  emit (updLane d l (fun x => { x with bcDisp := w.2 })) (.backChannel l w.1)

/-- A message received on the back channel of a transmit lane: a bad one is counted, one of another type is not this command's
(R408, R411). -/
def bcReceive (d : Dev) (l typ : Nat) (msg : List Symbol) (op : Dev → Nat → List Byte → Dev) : Dev :=
  if nGet d (lane_DIRECTION l) ≠ 1 ∨ nGet d (lane_STATE l) < 2 ∨ nGet d (lane_STATE l) = 7 then d
  else
    match bcDecode msg with
    | none => nInc d (lane_BC_ERRORS l)
    | some (t, seq, p) => if t = typ then op d seq p else d

/-- Whether a lane carries back-channel messages other than STATUS (R407): not the second of a pair. -/
def bcFull (d : Dev) (l : Nat) : Bool := !(laneBonded d l && decide (l % 2 = 1))

/-- Protected packets up to a SEQ are acknowledged (R409, R413). -/
def ackUpTo (d : Dev) (l seq : Nat) : Dev :=
  let x := laneOf d l
  if x.unacked.any (fun p => decide (p.seq = seq)) then
    let rest := (x.unacked.dropWhile (fun p => decide (p.seq ≠ seq))).drop 1
    let d := updLane d l (fun x => { x with unacked := rest, again := x.again.filter (fun p => rest.contains p), timeouts := 0 })
    if rest.isEmpty then disarm d tkAck l else arm d tkAck l (us 200)
  else d

/-- ACK (R413). -/
def doAck (l : Fin 32) (msg : List Symbol) (d : Dev) : Dev :=
  bcReceive d l.val 1 msg (fun d _ p => if bcFull d l.val then ackUpTo d l.val (ofLe (sliceOf p 0 1)) else d)

/-- NAK (R413): the unacknowledged packets from the SEQ named are sent again. -/
def doNak (l : Fin 32) (msg : List Symbol) (d : Dev) : Dev :=
  bcReceive d l.val 2 msg (fun d _ p =>
    if bcFull d l.val then
      updLane d l.val (fun x => { x with again := x.unacked.dropWhile (fun q => decide (q.seq ≠ ofLe (sliceOf p 0 1))) })
    else d)

/-- RETRANSMIT_TIMEOUT (R413). -/
def doRetransmitTimeout (l : Fin 32) (d : Dev) : Dev :=
  let l := l.val
  if nGet d (lane_STATE l) ≠ 6 ∨ nGet d (lane_DIRECTION l) ≠ 1 ∨ due d tkAck l = false ∨ (laneOf d l).unacked.isEmpty then d
  else if 7 ≤ (laneOf d l).timeouts then retrain d l
  else arm (updLane d l (fun x => { x with timeouts := x.timeouts + 1, again := x.unacked })) tkAck l (us 200)

/-- The highest LINK_BPP that CAPS states (R410). -/
def capsBpp (caps : Nat) : Nat := if caps % 4 = 0 then 18 else if caps % 4 = 1 then 24 else 30

/-- Whether CAPS serve every head that names the lane (R416). -/
def capsServe (d : Dev) (l caps : Nat) : Bool :=
  (List.range 16).all (fun h => !headNames d h l ||
    (decide (max (nGet d (head_LINK_BPP h)) (if headRuns d h then (headOf d h).timing.linkBpp else 0) ≤ capsBpp caps) &&
     (bitOf caps 2 || !laneBonded d l)))

/-- A STATUS while a lane trains (R415). -/
def statusTraining (d : Dev) (l : Nat) (p : List Byte) : Dev :=
  let lock := bitOf (ofLe (sliceOf p 0 1)) 0
  let errs := ofLe (sliceOf p 1 2)
  let preset := ofLe (sliceOf p 3 1)
  let caps := ofLe (sliceOf p 4 1)
  let skew := ofLe (sliceOf p 5 1)
  let st := nGet d (lane_STATE l)
  let fill := fun (d : Dev) => arm (updLane d l (fun x => { x with locked := true })) tkTrainEnd l ((laneOf d l).trainStart + ms 25 - d.now)
  if lock = false then d
  else if st = 3 then
    if preset < 8 then updLane d l (fun x => { x with presetErrors := x.presetErrors.set preset (errs + 1) }) else d
  else if st = 4 then
    if capsServe d l caps = false then failTrain d l 4
    else if laneBonded d l then arm (setLaneState d l 5) tkTrainEnd l ((laneOf d l).trainStart + ms 24 - d.now)
    else fill d
  else if st = 5 then
    if 32 < skew then failTrain d l 5
    else fill d
  else d

/-- A STATUS (R410, R411, R417). -/
def statusOp (d : Dev) (l : Nat) (p : List Byte) : Dev :=
  let d := nSet (nAdd d (lane_BLOCK_ERRORS l) (ofLe (sliceOf p 1 2))) (lane_PEER_CAPS l) (ofLe (sliceOf p 4 1))
  let d := if laneBonded d l then nSet d (lane_SKEW_BLOCKS (l / 2 * 2)) (ofLe (sliceOf p 5 1)) else d
  if nGet d (lane_STATE l) = 6 then
    (if bitOf (ofLe (sliceOf p 0 1)) 0 then arm d tkStatus l (ms 20) else retrain d l)
  else statusTraining d l p

/-- STATUS (R410): one whose payload is not 8 octets is discarded. -/
def doStatus (l : Fin 32) (msg : List Symbol) (d : Dev) : Dev :=
  bcReceive d l.val 3 msg (fun d _ p => if p.length = 8 then statusOp d l.val p else d)

/-- The heads whose pictures a lane carries. -/
def headsOn (d : Dev) (l : Nat) : List Nat := (List.range 16).filter (fun h => headRuns d h && decide (headLane d h = l))

/-- The bridge's signatures of a frame kept for the comparison at a boundary (R291). -/
def sigReturn (d : Dev) (h : Nat) (p : List Byte) : Dev :=
  let f := ofLe (sliceOf p 0 1)
  let n := ofLe (sliceOf p 1 1)
  let set : SigSet := { frame := f, crcs := (List.range n).map (fun k => ofLe (sliceOf p (4 + 4 * k) 4)) }
  updHHead d h (fun x => { x with returned := (x.returned.filter (fun s => decide (s.frame ≠ f))) ++ [set] })

/-- SIGRET (R291, R409): a payload of another length than its NREG gives is discarded. -/
def doSigret (l : Fin 32) (msg : List Symbol) (d : Dev) : Dev :=
  bcReceive d l.val 4 msg (fun d _ p =>
    if bcFull d l.val ∧ p.length = 4 + 4 * ofLe (sliceOf p 1 1) then (headsOn d l.val).foldl (fun d h => sigReturn d h p) d else d)

/-- LINESTAT (R411). -/
def doLinestat (l : Fin 32) (msg : List Symbol) (d : Dev) : Dev :=
  bcReceive d l.val 5 msg (fun d _ p =>
    if bcFull d l.val ∧ p.length = 8 then nAdd d (lane_LINE_ERROR_LINES l.val) (ofLe (sliceOf p 2 2)) else d)

/-- DATA (R414): accepted in order, then handled by the head's panel. -/
def doData (l : Fin 32) (msg : List Symbol) (d : Dev) : Dev :=
  bcReceive d l.val 6 msg (fun d seq p =>
    if bcFull d l.val ∧ seq = (laneOf d l.val).bcSeq then
      let d := updLane d l.val (fun x => { x with bcSeq := (seq + 1) % 256 })
      (panelsOn d l.val).foldl (fun d h => panelData d h p) d
    else d)

/-- An IDLE block (R402, R414). -/
def idleBlock (d : Dev) (l : Nat) (mark train : Bool) : List Byte :=
  withHcrc (octets [0x1E, mark.toNat + 2 * train.toNat, if train then nGet d (lane_PRESET l) else 0, (laneOf d l).bcSeq + 255, 0, 0, 0])

/-- The blocks of a packet (R389, R390): whether each is a control block, as the header alone is, and its payload octets. -/
def blocksOfPacket (b : List Byte) : List (Bool × List Byte) :=
  (List.range (b.length / 8)).map (fun k => (k == 0, sliceOf b (8 * k) 8))

/-- Blocks that leave one lane, striped over a pair (R405): stripe block j goes on lane LANE for even j; a pair of MARK blocks goes
ahead of every 4,096th pair. `j` is the number of the first stripe block. -/
def stripe (d : Dev) (l : Nat) : List (Bool × List Byte) → Nat → List (Bool × List Byte) × List (Bool × List Byte)
  | [], _ => ([], [])
  | b :: bs, j =>
    let m := if j % 8192 = 0 then [(true, idleBlock d l true false)] else []
    let r := stripe d l bs (j + 1)
    if j % 2 = 0 then (m ++ b :: r.1, m ++ r.2) else (r.1, b :: r.2)

/-- Blocks as they go on the wire (R389, R391), with what the scrambler then holds: the sync header is 1 then 0 for a control block
and is not scrambled. -/
def wireBlocks : Nat → List (Bool × List Byte) → Nat × List WireBlock
  | past, [] => (past, [])
  | past, b :: bs =>
    let x := scrambleBlock past b.2
    let r := wireBlocks x.1 bs
    (r.1, { sync := (b.1, !b.1), payload := x.2 } :: r.2)

/-- Blocks leave a lane; counters take them, IDLE blocks twice over (R728). -/
def laneOut (d : Dev) (l : Nat) (bs : List (Bool × List Byte)) (idles : Nat) : Dev :=
  let w := wireBlocks (laneOf d l).scrambler bs
  let d := countSignal (countSignal d (5 * 4096 + l) bs.length) (6 * 4096 + l) idles
  emit (updLane d l (fun x => { x with scrambler := w.1 })) (.lane l w.2)

/-- An IDLE block leaves a lane (R403). -/
def idleOut (d : Dev) (l : Nat) (mark train : Bool) : Dev :=
  laneOut (updLane d l (fun x => { x with sinceIdle := 0 })) l [(true, idleBlock d l mark train)] 1

/-- A packet leaves the lane: its blocks go out and are counted (R403, R405). -/
def sendBlocks (d : Dev) (l : Nat) (b : List Byte) (idle : Bool) : Dev :=
  let n := b.length / 8
  let x := laneOf d l
  let gain := (x.sent + n) / 32 - x.sent / 32
  let e := updLane d l (fun x => { x with
    sent := x.sent + n, reserve := min 256 (x.reserve + gain), sinceIdle := if idle then 0 else x.sinceIdle + n })
  let own := if idle then 1 else 0
  if laneBonded d l then
    let r := stripe d l (blocksOfPacket b) x.sent
    let marks := (r.1.length + r.2.length - n) / 2
    laneOut (laneOut e l r.1 (marks + if x.sent % 2 = 0 then own else 0)) (l + 1) r.2 (marks + if x.sent % 2 = 1 then own else 0)
  else laneOut e l (blocksOfPacket b) own

/-- A packet of rank 1, 2, 3, 5 or 6 may start (R403). -/
def mayStart (x : LaneSt) (blocks : Nat) : Bool := x.lineQ.isEmpty || decide (blocks ≤ x.reserve)

/-- The reserve counter drops by the packet's length while LINE blocks wait (R403). -/
def takeReserve (d : Dev) (l blocks : Nat) : Dev :=
  updLane d l (fun x => if x.lineQ.isEmpty then x else { x with reserve := x.reserve - blocks })

/-- The first packet of some type in a list. -/
def firstOf (typ : Nat) (l : List Packet) : Option Packet := l.find? (fun p => decide (p.typ = typ))

/-- A protected packet as it goes on the wire with a SEQ (R399). -/
def sealed (p : Packet) (seq : Nat) : Packet := { typ := p.typ, seq := seq, bytes := protectedBytes p.typ seq p.seq p.bytes }

/-- The protected packet of a type that would start next, with whether it is sent again: retransmissions first, new ones while fewer
than 16 are unacknowledged (R403, R413). -/
def nextProtected (x : LaneSt) (typ : Nat) (q : List Packet) : Option (Packet × Bool) :=
  match firstOf typ x.again with
  | some p => some (p, true)
  | none =>
    match q with
    | [] => none
    | p :: _ => if x.unacked.length < 16 then some (sealed p x.nextSeq, false) else none

/-- A protected packet sent (R413). -/
def sendProtected (d : Dev) (l typ : Nat) (p : Packet) (again : Bool) : Dev :=
  let d := takeReserve d l (p.bytes.length / 8)
  let d := if again then nInc (updLane d l (fun x => { x with again := x.again.erase p })) (lane_CTRL_RETRANSMITS l)
    else updLane d l (fun x => { x with
      modeQ := if typ = 0x66 then x.modeQ.drop 1 else x.modeQ
      sigQ := if typ = 0x55 then x.sigQ.drop 1 else x.sigQ
      ctrlQ := if typ = 0x33 then x.ctrlQ.drop 1 else x.ctrlQ
      unacked := x.unacked ++ [p], nextSeq := (x.nextSeq + 1) % 256 })
  let d := if armed d tkAck l then d else arm d tkAck l (us 200)
  sendBlocks d l p.bytes false

/-- Blocks of a packet. -/
def Packet.blocks (p : Packet) : Nat := p.bytes.length / 8

/-- A protected packet of a type that may start now. -/
def ready (x : LaneSt) (typ : Nat) (q : List Packet) : Option (Packet × Bool) :=
  match nextProtected x typ q with
  | some e => if mayStart x e.1.blocks then some e else none
  | none => none

/-- What a READY lane sends when a packet ends, by the ranks of R403. -/
def chooseNext (d : Dev) (l : Nat) : Dev :=
  let x := laneOf d l
  if 2048 ≤ x.sinceIdle ∧ mayStart x 1 then sendBlocks (takeReserve d l 1) l (idleBlock d l false false) true
  else
    match ready x 0x66 x.modeQ with
    | some e => sendProtected d l 0x66 e.1 e.2
    | none =>
    match ready x 0x55 x.sigQ with
    | some e => sendProtected d l 0x55 e.1 e.2
    | none =>
    match x.lineQ with
    | p :: ps => sendBlocks (updLane d l (fun x => { x with lineQ := ps })) l p.bytes false
    | [] =>
    match x.audioQ with
    | p :: ps => sendBlocks (updLane d l (fun x => { x with audioQ := ps })) l p.bytes false
    | [] =>
    match ready x 0x33 x.ctrlQ with
    | some e => sendProtected d l 0x33 e.1 e.2
    | none => sendBlocks d l (idleBlock d l false false) true

/-- PACKET_END (R403, R405, R415): a training lane sends IDLE blocks; the second lane of a pair sends with the first. -/
def doPacketEnd (l : Fin 32) (d : Dev) : Dev :=
  let l := l.val
  let st := nGet d (lane_STATE l)
  if nGet d (lane_DIRECTION l) ≠ 1 ∨ st = 0 ∨ st = 7 then d
  else if st ≤ 3 then idleOut d l false true
  else if st = 4 then idleOut d l false false
  else if st = 5 then idleOut d l true false
  else if bcFull d l = false then d
  else if laneBonded d l ∧ nGet d (lane_STATE (l + 1)) ≠ 6 then idleOut d l false false
  else chooseNext d l

/-- QUEUE_OVERFLOW (R404): every line that has been cut counts. -/
def doQueueOverflow (l : Fin 32) (d : Dev) : Dev :=
  nAdd (updLane d l.val (fun x => { x with cutLines := [] })) (lane_QUEUE_OVERFLOWS l.val) (laneOf d l.val).cutLines.length

/-- POC_RAMP_COMPLETE (R423, R424): a lane that failed meanwhile trains again. -/
def doPocRampComplete (l : Fin 32) (d : Dev) : Dev :=
  let l := l.val
  if nGet d (lane_POC_STATE l) ≠ 1 ∨ due d tkPocRamp l = false then d
  else
    let d := pocSample (nSet (disarm d tkPocRamp l) (lane_POC_STATE l) 2) l
    if nGet d (lane_STATE l) = 1 then setLaneState d l 2
    else if nGet d (lane_STATE l) = 7 ∧ nGet d (lane_DIRECTION l) = 1 then startTrain d l
    else d

/-- POC_CUTOFF (R423, R424): the third within 60 s latches; a lane in training fails with reason POC (R415). -/
def doPocCutoff (l : Fin 32) (_cause : Nat) (d : Dev) : Dev :=
  let l := l.val
  let st := nGet d (lane_POC_STATE l)
  if st ≠ 1 ∧ st ≠ 2 then d
  else
    let past := ((laneOf d l).cutoffs.filter (fun t => decide (d.now < t + ms 60000))) ++ [d.now]
    let latch := decide (3 ≤ past.length)
    let d := updLane (disarm d tkPocRamp l) l (fun x => { x with cutoffs := past, latchOff := false })
    let d := nInc (nSets d [(lane_POC_STATE l, if latch then 4 else 3), (lane_POC_MA l, 0)]) (lane_POC_FAULTS l)
    let d := raise (if latch then d else arm d tkPocCool l (ms 1000)) (641 + 2 * l)
    let ls := nGet d (lane_STATE l)
    if nGet d (lane_DIRECTION l) = 1 ∧ 1 ≤ ls ∧ ls ≤ 5 then failTrain d l 1 else d

/-- POC_COOLDOWN_EXPIRY (R424). -/
def doPocCooldownExpiry (l : Fin 32) (d : Dev) : Dev :=
  if nGet d (lane_POC_STATE l.val) = 3 ∧ due d tkPocCool l.val then pocLook (nSet (disarm d tkPocCool l.val) (lane_POC_STATE l.val) 0) l.val else d

/-- Block errors of a receive lane (R392, R393). -/
def rxErrors (d : Dev) (l n : Nat) : Dev :=
  updLane (nAdd d (lane_BLOCK_ERRORS l) n) l (fun x => { x with rxErrors := satAdd 16 x.rxErrors n })

/-- BLOCK_LOCK (R392). -/
def doBlockLock (l : Fin 32) (d : Dev) : Dev :=
  let l := l.val
  let st := nGet d (lane_STATE l)
  if nGet d (lane_DIRECTION l) = 2 ∧ st ≠ 0 then
    let d := updLane d l (fun x => { x with blockLock := true, rxSync := [] })
    if st = 1 ∨ st = 2 then setLaneState d l 3 else d
  else d

/-- How many of the last 64 sync headers were invalid (R392). -/
def badSyncs (x : LaneSt) : Nat := x.rxSync.countP (fun b => b)

/-- A receive lane loses block lock (R392, R417): a READY one waits for its source to train again. -/
def lockLost (d : Dev) (l : Nat) : Dev :=
  let d := updLane d l (fun x => { x with blockLock := false, rxSync := [] })
  let d := if nGet d (lane_STATE l) = 6 then serviceLog (nInc d (lane_RETRAINS l)) 3 l 0 else d
  streamStates (arm (setLaneState d l 2) tkStatusSend l (ms 1)) l

/-- BLOCK_LOCK_LOSS (R392): 16 invalid sync headers have come within 64 blocks; those of them that came with no packet count now. -/
def doBlockLockLoss (l : Fin 32) (d : Dev) : Dev :=
  let l := l.val
  if nGet d (lane_DIRECTION l) ≠ 2 ∨ (laneOf d l).blockLock = false then d
  else lockLost (rxErrors d l (16 - badSyncs (laneOf d l))) l

/-- Blocks received with a valid sync header, or one with an invalid one (R392, R728). -/
def rxBlocks (d : Dev) (l n : Nat) (bad : Bool) : Dev :=
  updLane (countSignal d (5 * 4096 + l) n) l (fun x => { x with rxSync := (List.replicate n bad ++ x.rxSync).take 64 })

/-- What comes in on a lane by a receive command. -/
inductive Received where
  /-- Nothing that a packet's own rules look at: no block lock, a block error, or an IDLE block. -/
  | nothing
  /-- A packet that is discarded, since its HCRC fails. -/
  | discarded
  /-- A packet with a good header. -/
  | packet
  deriving DecidableEq, Repr

/-- The packet types of R390. -/
def packetTypes : List Nat := [0x1E, 0x2D, 0x33, 0x4B, 0x55, 0x66]

/-- Whether a packet's header has its HCRC (R393). -/
def headerGood (p : List Byte) : Bool := decide (8 ≤ p.length) && decide ((p.getD 7 0).toNat = crc8 (p.take 7))

/-- Blocks at a receive lane in block lock (R390, R392, R393, R410): an invalid sync header, an unknown control code and a failed HCRC are a
block error each. A block with an invalid sync header comes as no octets (assumption log 145). -/
def rxTake (d : Dev) (l : Nat) (p : List Byte) : Dev × Received :=
  if nGet d (lane_DIRECTION l) ≠ 2 ∨ (laneOf d l).blockLock = false then (d, .nothing)
  else if p.isEmpty then
    let d := rxErrors (rxBlocks d l 1 true) l 1
    (if 16 ≤ badSyncs (laneOf d l) then lockLost d l else d, .nothing)
  else
    let d := rxBlocks d l (p.length / 8) false
    if !packetTypes.contains (p.getD 0 0).toNat then (rxErrors d l 1, .nothing)
    else if headerGood p = false then (rxErrors d l 1, .discarded)
    else if (p.getD 0 0).toNat = 0x1E then
      (if bitOf (p.getD 1 0).toNat 1 then updLane d l (fun x => { x with rxPreset := some ((p.getD 2 0).toNat % 8) }) else d, .nothing)
    else (d, .packet)

/-- Whether packets of a lane are taken: a READY receive lane in block lock. -/
def rxOpen (d : Dev) (l : Nat) : Bool :=
  decide (nGet d (lane_DIRECTION l) = 2) && decide (nGet d (lane_STATE l) = 6) && (laneOf d l).blockLock

/-- The STATUS of a receive lane (R410). PRESET before an IDLE block with TRAIN has come, and the LINK_BPP of CAPS, are free values: a source
has no LINK_BPP (assumption log 4). -/
def rxStatus (d : Dev) (l : Nat) : List Byte :=
  let x := laneOf d l
  octets [x.blockLock.toNat + 2 * (if nGet d (lane_STATE l) = 6 then 1 else 0), x.rxErrors, x.rxErrors / 256, x.rxPreset.getD (freeNat d 3),
    (Config.freeValue (d.free + 1)).toNat % 4 + 16, 0, 0, 0]

/-- STATUS_SEND (R409): every 1 ms in training, every 10 ms while READY. -/
def doStatusSend (l : Fin 32) (d : Dev) : Dev :=
  let l := l.val
  if nGet d (lane_DIRECTION l) ≠ 2 ∨ nGet d (lane_STATE l) = 0 ∨ due d tkStatusSend l = false then d
  else
    let d' := bcSend (freeUsedN d 2) l 3 0 (rxStatus d l)
    arm (updLane d' l (fun x => { x with rxErrors := 0 })) tkStatusSend l (if nGet d (lane_STATE l) = 6 then ms 10 else ms 1)

/-- LANE_DIRECTION_WRITE (R385). -/
def execLaneDirectionWrite (sess : Nat) (l : Fin 32) (v : Nat) (s : State) : Res := .next (withDev s (doLaneDirectionWrite sess l v s.dev))
/-- POC_ENABLE_WRITE (R424). -/
def execPocEnableWrite (sess : Nat) (l : Fin 32) (v : Nat) (s : State) : Res := .next (withDev s (doPocEnableWrite sess l v s.dev))
/-- LANE_TRAINING_START (R415). -/
def execLaneTrainingStart (l : Fin 32) (s : State) : Res := .next (withDev s (doLaneTrainingStart l s.dev))
/-- BACK_CHANNEL_LOCK (R415). -/
def execBackChannelLock (l : Fin 32) (s : State) : Res := .next (withDev s (doBackChannelLock l s.dev))
/-- PRESET_STEP_EXPIRY (R415). -/
def execPresetStepExpiry (l : Fin 32) (s : State) : Res := .next (withDev s (doPresetStepExpiry l s.dev))
/-- TRAINING_DEADLINE_MISSED (R416). -/
def execTrainingDeadlineMissed (l : Fin 32) (s : State) : Res := .next (withDev s (doTrainingDeadlineMissed l s.dev))
/-- TRAINING_RETRY_EXPIRY (R416). -/
def execTrainingRetryExpiry (l : Fin 32) (s : State) : Res := .next (withDev s (doTrainingRetryExpiry l s.dev))
/-- LANE_READY (R415). -/
def execLaneReady (l : Fin 32) (s : State) : Res := .next (withDev s (doLaneReady l s.dev))
/-- COMMA_LOCK_LOSS (R417). -/
def execCommaLockLoss (l : Fin 32) (s : State) : Res := .next (withDev s (doCommaLockLoss l s.dev))
/-- STATUS_TIMEOUT (R417). -/
def execStatusTimeout (l : Fin 32) (s : State) : Res := .next (withDev s (doStatusTimeout l s.dev))
/-- PACKET_END (R403). -/
def execPacketEnd (l : Fin 32) (s : State) : Res := .next (withDev s (doPacketEnd l s.dev))
/-- QUEUE_OVERFLOW (R404). -/
def execQueueOverflow (l : Fin 32) (s : State) : Res := .next (withDev s (doQueueOverflow l s.dev))
/-- ACK (R413). -/
def execAck (l : Fin 32) (msg : List Symbol) (s : State) : Res := .next (withDev s (doAck l msg s.dev))
/-- NAK (R413). -/
def execNak (l : Fin 32) (msg : List Symbol) (s : State) : Res := .next (withDev s (doNak l msg s.dev))
/-- RETRANSMIT_TIMEOUT (R413). -/
def execRetransmitTimeout (l : Fin 32) (s : State) : Res := .next (withDev s (doRetransmitTimeout l s.dev))
/-- STATUS (R410). -/
def execStatus (l : Fin 32) (msg : List Symbol) (s : State) : Res := .next (withDev s (doStatus l msg s.dev))
/-- SIGRET (R291). -/
def execSigret (l : Fin 32) (msg : List Symbol) (s : State) : Res := .next (withDev s (doSigret l msg s.dev))
/-- LINESTAT (R411). -/
def execLinestat (l : Fin 32) (msg : List Symbol) (s : State) : Res := .next (withDev s (doLinestat l msg s.dev))
/-- DATA (R414). -/
def execData (l : Fin 32) (msg : List Symbol) (s : State) : Res := .next (withDev s (doData l msg s.dev))
/-- POC_RAMP_COMPLETE (R423). -/
def execPocRampComplete (l : Fin 32) (s : State) : Res := .next (withDev s (doPocRampComplete l s.dev))
/-- POC_CUTOFF (R424). -/
def execPocCutoff (l : Fin 32) (cause : Nat) (s : State) : Res := .next (withDev s (doPocCutoff l cause s.dev))
/-- POC_COOLDOWN_EXPIRY (R424). -/
def execPocCooldownExpiry (l : Fin 32) (s : State) : Res := .next (withDev s (doPocCooldownExpiry l s.dev))
/-- BLOCK_LOCK (R392). -/
def execBlockLock (l : Fin 32) (s : State) : Res := .next (withDev s (doBlockLock l s.dev))
/-- BLOCK_LOCK_LOSS (R392). -/
def execBlockLockLoss (l : Fin 32) (s : State) : Res := .next (withDev s (doBlockLockLoss l s.dev))
/-- STATUS_SEND (R409). -/
def execStatusSend (l : Fin 32) (s : State) : Res := .next (withDev s (doStatusSend l s.dev))

end Sys2Proof.Machine
end

