-- ==== Sys2Proof/Machine/VideoIn.lean ====
section
/-!
DEFINITION. Packets on receive lanes and the video inputs (R393 to R401, R412, R418 to R422, R427).
-/
namespace Sys2Proof.Machine

/-- The protected packet in some octets, if its length, header and trailer CRC are good (R394, R399): TYPE, SEQ, SUB, payload. -/
def parseProtected (p : List Byte) : Option (Nat × Nat × Nat × List Byte) :=
  let n := ofLe (sliceOf p 2 2)
  let typ := ofLe (sliceOf p 0 1)
  let h := p.take 7
  let body := sliceOf p 8 n
  if headerGood p ∧ (typ = 0x33 ∨ typ = 0x55 ∨ typ = 0x66) ∧ 1 ≤ n ∧ n ≤ 1024 ∧ p.length = 8 + roundUp n 8 + 8 ∧
      crc32 (h ++ body) = ofLe (sliceOf p (8 + roundUp n 8) 4) then
    some (typ, ofLe (sliceOf p 1 1), ofLe (sliceOf p 4 1), body)
  else none

/-- A SURFACE that waits applies at a frame start (R427): no frame has started or completed in it since this binding (R227). -/
def takeSurface (d : Dev) (i : Nat) : Dev :=
  let o := nGet d (vin_SURFACE i)
  if (vinOf d i).surface = o then d
  else updVin d i (fun x => { x with surface := o, started := false, complete := false, earlier := [] })

/-- The stream rate of R422 in octets per second, rounded down. -/
def streamRate (p : List Byte) : Nat :=
  let f := fun (k : Nat) => ofLe (sliceOf p (4 + 2 * k) 2)
  lineBytes (ofLe (sliceOf p 21 1)) (f 0) * f 4 * ofLe (sliceOf p 0 4) / max 1 ((f 0 + f 1 + f 2 + f 3) * (f 4 + f 5 + f 6 + f 7))

/-- A MODE packet's payload sets an input's stream (R401, R418, R422). -/
def modeOp (d : Dev) (p : List Byte) (i : Nat) : Dev :=
  let d := nSets d [(vin_FORMAT i, ofLe (sliceOf p 21 1)), (vin_WIDTH i, ofLe (sliceOf p 4 2)), (vin_HEIGHT i, ofLe (sliceOf p 12 2)),
    (vin_RATE i, streamRate p)]
  let d := updVin d i (fun x => { x with timing := p.map (·.toNat) })
  lookStream d i

/-- A protected packet on a receive lane (R390, R393, R401, R412): a discarded one or one out of order is answered with NAK, an accepted
one with ACK; a MODE packet sets the stream, the others are not interpreted. -/
def rxProtected (d : Dev) (l : Nat) (p : List Byte) : Dev :=
  let r := rxTake d l p
  let d := r.1
  if rxOpen d l = false ∨ r.2 = .nothing ∨ (r.2 = .packet ∧ !([0x33, 0x55, 0x66].contains (p.getD 0 0).toNat)) then d
  else
    let want := (laneOf d l).rxSeq
    match parseProtected p with
    | none => bcSend d l 2 0 (octets [want])
    | some (typ, seq, _, body) =>
      if seq ≠ want then bcSend d l 2 0 (octets [want])
      else
        let d := bcSend (updLane d l (fun x => { x with rxSeq := (seq + 1) % 256 })) l 1 0 (octets [seq])
        if typ = 0x66 ∧ body.length = 32 then
          (inputsOf d l).foldl (fun d i => modeOp d body i) (updLane d l (fun x => { x with rxLines := ofLe (sliceOf body 12 2) }))
        else d

/-- RX_MODE_PACKET (R418): a MODE packet; another type is not this command's. -/
def doRxModePacket (l : Fin 32) (p : List Byte) (d : Dev) : Dev :=
  if (sliceOf p 0 1).head? = some 0x66 then rxProtected d l.val p else d
/-- RX_PROTECTED_PACKET (R412). -/
def doRxProtectedPacket (l : Fin 32) (p : List Byte) (d : Dev) : Dev := rxProtected d l.val p

/-- The first buffer after the one last started, in cyclic order, that is FREE (R420). -/
def freeBuffer (d : Dev) (i : Nat) : Option Nat :=
  let x := vinOf d i
  let s := refInst x.surface
  let n := nGet d (surf_BUFFERS s)
  let from' := if x.started then x.lastStart + 1 else 0
  ((List.range n).map (fun k => (from' + k) % n)).find? (fun k => decide (fieldOf (nGet d (surf_BUFFER_STATE s)) (4 * k) 4 = 0))

/-- A frame starts on an input (R420). -/
def startFrame (d : Dev) (i : Nat) : Dev :=
  let d := lookStream (takeSurface d i) i
  let d := updVin (nSet d (vin_WRITING i) 0xFF) i (fun x =>
    { x with earlier := if x.started && !x.dropping then mapSet x.earlier x.lastStart (x.line :: x.done) [] else x.earlier,
             line := 0, done := [], damaged := [], dropping := false })
  let d := nSet d (vin_LAST_START_TIME i) (tbNs d)
  if nGet d (vin_STREAM_STATE i) ≠ 3 then updVin d i (fun x => { x with dropping := true })
  else
    match freeBuffer d i with
    | none => nInc (updVin d i (fun x => { x with dropping := true })) (vin_FRAMES_DROPPED i)
    | some k =>
      nSet (updVin d i (fun x => { x with started := true, lastStart := k })) (vin_WRITING i) k

/-- A line counted once in LINES_DAMAGED (R421). -/
def damageLine (d : Dev) (i line : Nat) : Dev :=
  if (vinOf d i).damaged.contains line then d
  else nInc (updVin d i (fun x => { x with damaged := x.damaged ++ [line] })) (vin_LINES_DAMAGED i)

/-- A packet's octets put after those of the packets before it; one that goes on where the last ended makes one range with it. -/
def addPart (ps : List (Nat × List Byte)) (off : Nat) (bs : List Byte) : List (Nat × List Byte) :=
  match ps.getLast? with
  | some q => if q.1 + q.2.length = off then ps.dropLast ++ [(q.1, q.2 ++ bs)] else ps ++ [(off, bs)]
  | none => [(off, bs)]

/-- A LINE packet's octets kept for the write of its line into the selected buffer (R418, R420, R421): payload octets past the line's end
are padding. -/
def keepPiece (d : Dev) (i line off : Nat) (payload : List Byte) : Dev :=
  let su := refInst (vinOf d i).surface
  let n := lineBytes (nGet d (vin_FORMAT i)) (nGet d (vin_WIDTH i))
  let base := bufferBase d 16 su (nGet d (vin_WRITING i)) + line * surfPitch d su
  updVin d i (fun x =>
    let q : LinePart := x.part.getD { line := line, base := base, parts := [] }
    { x with part := some { q with parts := addPart q.parts off (payload.take (n - off)) } })

/-- A line's packets written (R418, R472): where a read-modify-write fails, nothing of the line is, and it counts as damaged. -/
def writeLine (i : Nat) (s : State) (q : LinePart) : State :=
  let bad := q.parts.any (fun p => !(rmwFailures s.dev (q.base + p.1) p.2.length).isEmpty)
  let s := withDev s (q.parts.foldl (fun d p => failRmw d (q.base + p.1) p.2.length 1) s.dev)
  if bad then withDev s (damageLine s.dev i q.line) else q.parts.foldl (fun s p => putRange s 1 (q.base + p.1) p.2) s

/-- The lines of an input that wait are written once DRAM serves (R477). -/
def flushLines (s : State) (i : Nat) : State :=
  if dramServes s.dev then
    (vinOf s.dev i).held.foldl (writeLine i) (withDev s (updVin s.dev i (fun x => { x with held := [] })))
  else s

/-- The line whose packets came last is complete, and is written or waits (R421, R472, R477; assumption log 141); an input whose surface no
longer fits writes nothing (R419). -/
def endLine (s : State) (i : Nat) : State :=
  match (vinOf s.dev i).part with
  | none => s
  | some q =>
    let keep := decide (nGet s.dev (vin_STREAM_STATE i) = 3)
    flushLines (withDev s (updVin s.dev i (fun x => { x with part := none, held := if keep then x.held ++ [q] else x.held }))) i

/-- A line of an input has been processed as far as a packet shows (R420, R421). -/
def linePassed (d : Dev) (i line : Nat) (last : Bool) : Dev :=
  let d := updVin d i (fun x => { x with line := max x.line line, done := if last then addOnce x.done line else x.done })
  if last ∧ line + 1 = nGet d (vin_HEIGHT i) then
    let k := nGet d (vin_WRITING i)
    let d := updVin d i (fun x => { x with complete := true })
    refreshLeases (nSets (nInc d (vin_FRAMES_COMPLETED i)) [(vin_LAST_COMPLETE i, k), (vin_WRITING i, 0xFF)])
  else d

/-- A LINE packet taken by an input (R418 to R421, R472): a packet of another line, or a frame start, ends the line before it. -/
def inputLine (s : State) (p : List Byte) (i : Nat) : State :=
  let flags := ofLe (sliceOf p 1 1)
  let line := ofLe (sliceOf p 2 2) % 2 ^ 14
  let off := ofLe (sliceOf p 4 2) % 2 ^ 12 * 8
  let n := (ofLe (sliceOf p 6 1) % 128 + 1) * 8
  let payload := sliceOf p 8 n
  let crcOk := decide (crc32 payload = ofLe (sliceOf p (8 + n) 4))
  let start := decide (bitOf flags 0 ∧ line = 0)
  let s := withDev s (lookStreams s.dev)
  let s := if start || (vinOf s.dev i).part.any (fun q => decide (q.line ≠ line)) then endLine s i else s
  let s := if start then withDev s (refreshLeases (startFrame s.dev i)) else s
  let d := s.dev
  if nGet d (vin_WRITING i) = 0xFF ∨ (vinOf d i).dropping ∨ nGet d (vin_STREAM_STATE i) ≠ 3 ∨ nGet d (vin_HEIGHT i) ≤ line then s
  else
    let d := keepPiece (if crcOk then d else damageLine d i line) i line off payload
    let s := if bitOf flags 1 then endLine (withDev s d) i else withDev s d
    withDev s (linePassed s.dev i line (bitOf flags 1))

/-- LINESTAT of the frame that a receive lane has taken (R398, R409): the bad lines, the first of them, and the bad packets. Without a
bad line FIRST_BAD is a free value (assumption log 119). -/
def sendLinestat (d : Dev) (l : Nat) : Dev :=
  let x := laneOf d l
  let first := match (sortBy id x.rxBad).head? with
    | some y => y
    | none => freeNat d 16
  let d' := bcSend (if x.rxBad.isEmpty then freeUsed d else d) l 5 0
    (octets [x.rxFrame, 0] ++ leBytes 2 x.rxBad.length ++ leBytes 2 first ++ leBytes 2 (min 65535 x.rxBadPackets))
  updLane d' l (fun x => { x with rxOwes := false, rxBad := [], rxBadPackets := 0 })

/-- A LINE packet that was discarded or failed its CRC, for the report of R398: one that comes after the report of a frame counts in the next
frame. -/
def noteLine (d : Dev) (l line : Nat) (bad : Bool) : Dev :=
  if bad then updLane d l (fun x => { x with rxBad := addOnce x.rxBad line, rxBadPackets := x.rxBadPackets + 1 }) else d

/-- A LINE packet with a good header at a receive lane (R398, R409): the report of the frame before goes out if its last packet was
lost, and that of this frame after its last active line, once. -/
def lineReport (d : Dev) (l line frame : Nat) (good last : Bool) : Dev :=
  let d := if (laneOf d l).rxOwes && (laneOf d l).rxFrame != frame then sendLinestat d l else d
  let d := noteLine (updLane d l (fun x => { x with rxFrame := frame, rxOwes := x.rxOwes || x.rxFrame != frame })) l line (!good)
  if last && line + 1 == (laneOf d l).rxLines && (laneOf d l).rxOwes then sendLinestat d l else d

/-- RX_LINE_PACKET (R390, R393, R398, R420, R421): of a discarded packet the line that its header names counts as bad. -/
def doRxLinePacket (l : Fin 32) (p : List Byte) (s : State) : State :=
  let l := l.val
  let r := rxTake s.dev l p
  let s := withDev s r.1
  if rxOpen s.dev l = false ∨ r.2 = .nothing ∨ (r.2 = .packet ∧ (p.getD 0 0).toNat ≠ 0x2D) then s
  else
    let n := (ofLe (sliceOf p 6 1) % 128 + 1) * 8
    let line := ofLe (sliceOf p 2 2) % 2 ^ 14
    if r.2 = .discarded ∨ p.length ≠ 16 + n then withDev s (noteLine s.dev l line true)
    else
      let s := (inputsOf s.dev l).foldl (fun s i => inputLine s p i) s
      withDev s (lineReport s.dev l line (p.getD (12 + n) 0).toNat (decide (crc32 (sliceOf p 8 n) = ofLe (sliceOf p (8 + n) 4)))
        (bitOf (ofLe (sliceOf p 1 1)) 1))

/-- Whether a value of SURFACE can be bound (R427): a realised surface with at least two buffers. -/
def bindable (d : Dev) (o : Nat) : Bool :=
  decide (refClass o = 0x13) && decide (refMember o = 0) && decide (o < 2 ^ 32) && decide (allocOf d o = 1) &&
  decide (nGet d (surf_LOCATION (refInst o)) ≠ 0) && decide (2 ≤ nGet d (surf_BUFFERS (refInst o)))

/-- An input takes a lane (R427). -/
def setInputLane (d : Dev) (i v : Nat) : Dev :=
  let d := nSets d [(vin_LANE i, v), (vin_WRITING i, 0xFF)]
  nSet d (vin_STREAM_STATE i) (if v = 0xFF then 0 else if nGet d (lane_STATE v) = 6 ∧ nGet d (lane_DIRECTION v) = 2 then 2 else 1)

/-- A write of a video-input member (R427). -/
def vinWrite (d : Dev) (i mem v : Nat) : Dev × Status × List Byte :=
  let other := fun (r : Nat → Ref) => (List.range 16).any (fun k => decide (k ≠ i) && decide (nGet d (r k) = v))
  let inForce := (List.range 16).any (fun k => decide (k ≠ i) && decide ((vinOf d k).surface = v))
  if mem = 1 then
    if 32 ≤ v ∧ v ≠ 0xFF then (d, .range, [])
    else if v ≠ 0xFF ∧ other vin_LANE then (d, .state, [])
    else (setInputLane d i v, .ok, [])
  else if mem = 2 then
    if v = 0 then (nSet d (vin_SURFACE i) 0, .ok, [])
    else if bindable d v = false then (d, .range, [])
    else if other vin_SURFACE || inForce then (d, .state, [])
    else (nSet d (vin_SURFACE i) v, .ok, [])
  else plainWrite d (mref 0x38 i mem) (.num v)

/-- RX_MODE_PACKET (R418). -/
def execRxModePacket (l : Fin 32) (pkt : List Byte) (s : State) : Res := .next (withDev s (doRxModePacket l pkt s.dev))
/-- RX_LINE_PACKET (R420). -/
def execRxLinePacket (l : Fin 32) (pkt : List Byte) (s : State) : Res := .next (doRxLinePacket l pkt s)
/-- RX_PROTECTED_PACKET (R412). -/
def execRxProtectedPacket (l : Fin 32) (pkt : List Byte) (s : State) : Res := .next (withDev s (doRxProtectedPacket l pkt s.dev))

end Sys2Proof.Machine
end

