-- ==== Sys2Proof/Machine/Audio.lean ====
section
/-!
DEFINITION. The audio block (audio chapter): voices, triggers, sequencers, the crosspoint, filters and limiters, TDM ports, lane
streams and the vehicle alert (R529 to R550, R552 to R556).
-/
namespace Sys2Proof.Machine

/-- A voice beside its members. -/
def voiceOf (d : Dev) (v : Nat) : Voice := mapGet d.audio.voices v Voice.reset

/-- A voice changed. -/
def updVoice (d : Dev) (v : Nat) (f : Voice → Voice) : Dev :=
  { d with audio.voices := mapSet d.audio.voices v (f (voiceOf d v)) Voice.reset }

/-- Saturation to signed 24 bits. -/
def sat24 (x : Int) : Int := clampInt (-8388608) 8388607 x

/-- Saturation to signed 32 bits. -/
def sat32 (x : Int) : Int := clampInt (-2147483648) 2147483647 x

/-- The number of the latest sample instant (R529): instants are n x 31,250 / 3 ns. -/
def sampleIndex (d : Dev) : Nat := d.tb * 3 / (31250 * 2 ^ 32)

/-- The instant of a sample in ns, rounded down. -/
def sampleTime (n : Nat) : Nat := n * 31250 / 3

/-- A key event for the next engine sample (R535). -/
def keyVoice (d : Dev) (v : Nat) (on : Bool) : Dev :=
  if 128 ≤ v then d
  else updVoice d v (fun x => if on then { x with keyOn := true } else { x with keyOff := true })

/-- The KEY action (R531, R535): the event acts at the next engine sample; the result is STATE. -/
def keyOp (d : Dev) (v arg : Nat) : Dev × Status × List Byte :=
  if 1 < arg then (d, .range, []) else (keyVoice d v (arg == 1), .ok, beBytes 1 (nGet d (voice_STATE v)))

/-- A write of a voice member (R532): FREQ ends a sweep. -/
def voiceWrite (d : Dev) (v mem : Nat) (x : Val) : Dev × Status × List Byte :=
  let r := plainWrite d (mref 0x40 v mem) x
  if r.2.1 = .ok ∧ mem = 4 then (updVoice r.1 v (fun y => { y with sweep := none }), r.2) else r

/-- KEY_ON (R534). -/
def doKeyOn (sess : Nat) (v : Fin 128) (d : Dev) : Dev := withGate d sess (voice_KEY v.val) (fun d => keyOp d v.val 1)
/-- KEY_OFF (R534). -/
def doKeyOff (sess : Nat) (v : Fin 128) (d : Dev) : Dev := withGate d sess (voice_KEY v.val) (fun d => keyOp d v.val 0)
/-- VOICE_DURATION_EXPIRY (R531, R532): DURATION_MS, as the last engine sample took it, has passed since the key-on. -/
def doVoiceDurationExpiry (v : Fin 128) (d : Dev) : Dev :=
  let x := voiceOf d v.val
  match x.onAt with
  | some t => if x.duration ≠ 0 ∧ t + ms x.duration ≤ d.now then keyVoice (updVoice d v.val (fun x => { x with onAt := none })) v.val false else d
  | none => d

/-- A wave-table write (R537). -/
def waveOp (d : Dev) (t : Nat) (b : List Byte) : Dev × Status × List Byte := plainWrite d (wtab_SAMPLES t) (.bytes b)
/-- WAVE_TABLE_WRITE (R537). -/
def doWaveTableWrite (sess : Nat) (t : Fin 32) (b : List Byte) (d : Dev) : Dev :=
  withGate d sess (wtab_SAMPLES t.val) (fun d => waveOp d t.val b)

/-- A crosspoint node (R544), by 64 x output + input. -/
def nodeOf (d : Dev) (k : Nat) : Node := mapGet d.audio.nodes k Node.reset

/-- A GAINS write (R544): nodes whose value differs from their target start from their present gain and wait. -/
def gainsOp (d : Dev) (o : Nat) (b : List Byte) : Dev × Status × List Byte :=
  let r := plainWrite d (xout_GAINS o) (.bytes b)
  if r.2.1 ≠ .ok then r
  else
    let nodes := (List.range 64).foldl (fun (m : SMap Node) i =>
      let k := 64 * o + i
      let n := mapGet m k Node.reset
      let g := ofLe (sliceOf b (2 * i) 2)
      if n.target = g then m
      else mapSet m k { n with target := g, wait := some 0, ramp := 0, step := 0 } Node.reset) r.1.audio.nodes
    ({ r.1 with audio.nodes := nodes }, r.2)

/-- GAINS_WRITE (R544). -/
def doGainsWrite (sess : Nat) (o : Fin 48) (b : List Byte) (d : Dev) : Dev :=
  withGate d sess (xout_GAINS o.val) (fun d => gainsOp d o.val b)

/-- A crosspoint output. -/
def outOf (d : Dev) (o : Nat) : OutCh := mapGet d.audio.outs o OutCh.reset

/-- A crosspoint output changed. -/
def updOut (d : Dev) (o : Nat) (f : OutCh → OutCh) : Dev :=
  { d with audio.outs := mapSet d.audio.outs o (f (outOf d o)) OutCh.reset }

/-- A FILTER write clears the filter's history (R545). -/
def filterOp (d : Dev) (o : Nat) (b : List Byte) : Dev × Status × List Byte :=
  let r := plainWrite d (xout_FILTER o) (.bytes b)
  if r.2.1 = .ok then (updOut r.1 o (fun x => { x with hist := List.replicate 24 0 }), r.2) else r

/-- FILTER_WRITE (R545). -/
def doFilterWrite (sess : Nat) (o : Fin 48) (b : List Byte) (d : Dev) : Dev :=
  withGate d sess (xout_FILTER o.val) (fun d => filterOp d o.val b)

/-- A sequencer under way. -/
def seqOf (d : Dev) (q : Nat) : Seq := mapGet d.audio.seqs q { step := 0, wait := 0, last := 0 }

/-- The tick count of a sequencer's clock (R539): milliseconds of the timebase, or frames of a head. -/
def tickOf (d : Dev) (q : Nat) : Nat :=
  let c := nGet d (seqr_CLOCK q)
  if c < 16 then nGet d (head_LAST_BOUNDARY c) else tbNs d / ms 1

/-- The START action (R539, R540). -/
def startSeq (d : Dev) (q arg : Nat) : Dev × Status × List Byte :=
  if 255 < arg then (d, .range, [])
  else if nGet d (seqr_RUNNING q) = 1 then (d, .state, [])
  else ({ nSet d (seqr_RUNNING q) 1 with audio.seqs := mapPut d.audio.seqs q { step := arg, wait := 1, last := tickOf d q } }, .ok, [])

/-- The sequencer stops. -/
def endSeq (d : Dev) (q : Nat) : Dev := { nSet d (seqr_RUNNING q) 0 with audio.seqs := mapErase d.audio.seqs q }

/-- The STOP action (R539). -/
def stopSeq (d : Dev) (q arg : Nat) : Dev × Status × List Byte :=
  if arg ≠ 0 then (d, .range, []) else (endSeq d q, .ok, [])

/-- A write of a sequencer member (R540). -/
def seqWrite (d : Dev) (q mem : Nat) (v : Val) : Dev × Status × List Byte :=
  if mem = 2 ∧ nGet d (seqr_RUNNING q) = 1 then (d, .state, []) else plainWrite d (mref 0x40 (0x110 + q) mem) v

/-- At most n steps of one tick (R540): an end step, or one past the last, stops the sequencer; a WAIT of 0 means the same tick. -/
def runSteps (q : Nat) : Nat → Nat → Dev → Dev
  | 0, k, d => { d with audio.seqs := mapPut d.audio.seqs q { seqOf d q with step := k, wait := 1 } }
  | n + 1, k, d =>
    let b := bGet d (seqr_STEPS q)
    if b.length ≤ 4 * k then endSeq d q
    else
      let v := ofLe (sliceOf b (4 * k) 1)
      let act := ofLe (sliceOf b (4 * k + 1) 1)
      if act = 2 then endSeq d q
      else
        let d := if act = 0 then keyVoice d v true else if act = 1 then keyVoice d v false else d
        let k' := if act = 3 then v else k + 1
        let w := ofLe (sliceOf b (4 * k' + 2) 2)
        if b.length ≤ 4 * k' then endSeq d q
        else if w = 0 then runSteps q n k' d
        else { d with audio.seqs := mapPut d.audio.seqs q { seqOf d q with step := k', wait := w } }

/-- SEQUENCER_TICK (R540): a new tick of the clock of a running sequencer; a STOPPED head has none. -/
def doSequencerTick (q : Fin 4) (d : Dev) : Dev :=
  let q := q.val
  let c := nGet d (seqr_CLOCK q)
  let x := seqOf d q
  if nGet d (seqr_RUNNING q) = 0 ∨ (c < 16 ∧ nGet d (head_STATE c) < 2) ∨ tickOf d q = x.last then d
  else
    let d := { d with audio.seqs := mapPut d.audio.seqs q { x with wait := x.wait - 1, last := tickOf d q } }
    if x.wait ≤ 1 then runSteps q 16 x.step d else d

/-- START (R540). -/
def doStart (sess : Nat) (q : Fin 4) (arg : Nat) (d : Dev) : Dev := withGate d sess (seqr_START q.val) (fun d => startSeq d q.val arg)
/-- STOP (R539). -/
def doStop (sess : Nat) (q : Fin 4) (arg : Nat) (d : Dev) : Dev := withGate d sess (seqr_STOP q.val) (fun d => stopSeq d q.val arg)

/-- A Q16.16 number. -/
def q16 (n : Nat) : Rat := (sintOf 32 n : Rat) / 65536

/-- SPEED_KMH: the speed in use (R554, R555). -/
def takeSpeed (d : Dev) : Dev :=
  if entryInLoss d (nGet d avas_SPEED_ENTRY) then nSet d avas_SPEED_KMH (nGet d avas_LOSS_KMH) else d

/-- Whether the alert uses a voice. -/
def avasVoice (d : Dev) (v : Nat) : Bool := bitOf (ofLe (sliceOf (bGet d avas_VOICES) (v / 8) 1)) (v % 8)

/-- SOUNDING changes: the alert's voices are keyed (R555). -/
def setSounding (d : Dev) (on : Bool) : Dev :=
  let d := (List.range 128).foldl (fun d v => if avasVoice d v then keyVoice d v on else d) d
  raise (nSet d avas_SOUNDING on.toNat) 871

/-- The alert at an engine sample (R555); not while the sleep protocol has stopped the block (R676). -/
def avasLook (d : Dev) : Dev :=
  let d := takeSpeed d
  let s := q16 (nGet d avas_SPEED_KMH)
  let cut := q16 (nGet d avas_CUTOFF_KMH)
  let on := nGet d avas_SOUNDING == 1
  if blockStopped d 2 then d
  else if nGet d avas_ENABLE = 0 then (if on then setSounding d false else d)
  else if !on && decide (s ≤ cut) then setSounding d true
  else if on && decide (cut + q16 (nGet d avas_HYSTERESIS_KMH) < s) then setSounding d false
  else d

/-- The latest time up to t at which a blink generator turns on, or off (R279, R538); none where it never turns. -/
def lastEdge (d : Dev) (g t : Nat) (on : Bool) : Option Nat :=
  let p := blinkPeriod d g
  let w := blinkOnTime d g
  if p ≤ w ∨ w = 0 then none
  else if on then some (t / p * p)
  else if w ≤ t then some ((t - w) / p * p + w)
  else none

/-- Key events of a voice's trigger at an engine sample (R538): `last` and `now` are the times of the last and this sample.
`edges` holds bit 0 for an entry that left the off state since the last sample and bit 1 for one that entered it; a voice whose
entry did both is keyed off and on (R535). A click follows an edge of the generator since the last sample at which the entry blinked
already. -/
def triggerVoice (last now : Nat) (edges : SMap Nat) (d : Dev) (v : Nat) : Dev :=
  let n := nGet d (voice_TRIGGER v)
  let st := if n < 256 then nGet d (sig_STATE n) else 0
  let mode := nGet d (voice_TRIGGER_MODE v)
  if 256 ≤ n then d
  else if mode = 0 then
    let d := if bitOf (mapGet edges n 0) 0 then keyVoice d v true else d
    if bitOf (mapGet edges n 0) 1 then keyVoice d v false else d
  else
    match lastEdge d (nGet d (voice_BLINK_GEN v)) now (mode == 1), mapFind d.audio.blinking n with
    | some t, some since => if st = 2 ∧ last < t ∧ since < t then keyVoice d v true else d
    | _, _ => d

/-- Key events of a voice applied, key-offs first (R534, R535). -/
def applyKeys (d : Dev) (v : Nat) : Dev :=
  let x := voiceOf d v
  let d := if x.keyOff ∧ nGet d (voice_STATE v) ≠ 0 then
      updVoice (nSet d (voice_STATE v) 4) v (fun x => { x with held := x.env })
    else d
  let d := if x.keyOn then
      let d := nInc (nSet d (voice_STATE v) 1) (voice_KEY_ONS v)
      let sweeps := nGet d (voice_SWEEP_END v) ≠ 0 ∧ nGet d (voice_SWEEP_MS v) ≠ 0
      let d := updVoice d v (fun x => { x with gen := nGet d (voice_GEN v), table := nGet d (voice_TABLE v),
                                               sweep := if sweeps then some 0 else none, onAt := some d.now })
      d
    else d
  if x.keyOff || x.keyOn then updVoice d v (fun x => { x with keyOff := false, keyOn := false }) else d

/-- One engine sample of an envelope (R532, R534), by the members as they now are: STATE and env. -/
def stepEnv (d : Dev) (v st : Nat) (x : Voice) : Nat × Rat :=
  let per := fun (t : Nat) => ((96 * t : Nat) : Rat)
  let a := nGet d (voice_ATTACK_MS v)
  let dc := nGet d (voice_DECAY_MS v)
  let su : Rat := (nGet d (voice_SUSTAIN v) : Nat)
  if st = 1 then
    let e := if a = 0 then 32768 else x.env + 32768 / per a
    if 32768 ≤ e then (2, 32768) else (1, e)
  else if st = 2 then
    let e := if dc = 0 then su else x.env - (32768 - su) / per dc
    if e ≤ su then (3, su) else (2, e)
  else if st = 4 then
    let r := nGet d (voice_RELEASE_MS v)
    let e := if r = 0 then 0 else x.env - x.held / per r
    if e ≤ 0 then (0, 0) else (4, e)
  else if st = 3 then (3, su)
  else (st, x.env)

/-- The greatest number below 2^bits, on top of a number found so far, that meets a test which holds downward. -/
def searchBits (p : Nat → Bool) : Nat → Nat → Nat
  | 0, acc => acc
  | b + 1, acc => searchBits p b (if p (acc + 2 ^ b) then acc + 2 ^ b else acc)

/-- inc of R533 in step k of N of a sweep from f to e (R534): f (e / f)^(k / N) 2^32 / 96,000, rounded; found by comparing N-th
powers. -/
def sweepInc (f e : Rat) (k n : Nat) : Nat :=
  let x := (f * 4294967296 / 96000) ^ n * (e / f) ^ k
  searchBits (fun m => decide (((2 * m - 1 : Nat) : Rat) ^ n ≤ (2 : Rat) ^ n * x)) 33 0

/-- inc of a frequency (R533). -/
def incOf (f : Rat) : Nat := (roundRat (f * 4294967296 / 96000)).toNat

/-- The phase step of a voice at this sample (R533, R534, R555). -/
def voiceInc (d : Dev) (v : Nat) (x : Voice) : Nat :=
  let f0 := q16 (nGet d (voice_FREQ v))
  let f := if nGet d avas_SOUNDING = 1 ∧ avasVoice d v then f0 * (1 + q16 (nGet d avas_PITCH_PER_KMH) * q16 (nGet d avas_SPEED_KMH)) else f0
  match x.sweep with
  | none => incOf f
  | some k =>
    let n := 96 * nGet d (voice_SWEEP_MS v)
    let e := q16 (nGet d (voice_SWEEP_END v))
    if e = 0 then incOf f else if n ≤ k then incOf e else if f ≤ 0 then 0 else sweepInc f e k n

/-- The LFSR of a noise voice shifted once (R533; assumption log 39). -/
def lfsrStep (l : Nat) : Nat := (l * 2 + (bitOf l 22 != bitOf l 17).toNat) % 2 ^ 23

/-- An entry of a wave table. -/
def waveAt (d : Dev) (t i : Nat) : Int := sintOf 16 (ofLe (sliceOf (bGet d (wtab_SAMPLES t)) (2 * (i % 256)) 2))

/-- One engine sample of a voice (R533, R534). -/
def sampleVoice (d : Dev) (v : Nat) : Dev :=
  let x := voiceOf d v
  let st := nGet d (voice_STATE v)
  let e := stepEnv d v st x
  let inc := voiceInc d v x
  let ph := (x.ph + inc) % 2 ^ 32
  let lfsr := if x.gen = 3 ∧ 2 ^ 32 ≤ x.ph + inc then lfsrStep x.lfsr else x.lfsr
  let s : Int :=
    if x.gen = 1 then
      let i := ph / 2 ^ 24
      let fr : Int := (ph / 2 ^ 8 % 2 ^ 16 : Nat)
      waveAt d x.table i + (waveAt d x.table (i + 1) - waveAt d x.table i) * fr / 65536
    else if x.gen = 2 then (if ph < nGet d (voice_DUTY v) * 65536 then 32767 else -32768)
    else (if lfsr % 2 = 1 then 32767 else -32768)
  let out := sat24 ((s : Rat) * e.2 * (nGet d (voice_LEVEL v) : Nat) / 4194304).floor
  let d := if e.1 = st then d else nSet d (voice_STATE v) e.1
  let d := updVoice d v (fun x => { x with duration := nGet d (voice_DURATION_MS v) })
  if x.gen = 0 then updVoice d v (fun x => { x with env := e.2, out := 0 })
  else updVoice d v (fun x => { x with ph := ph, lfsr := lfsr, env := e.2, out := out, sweep := x.sweep.map (· + 1) })

/-- The sample of a voice bus (R536). -/
def busSample (d : Dev) (b : Nat) : Int :=
  sat24 ((List.range 128).foldl (fun a v => if nGet d (voice_BUS v) = b then a + (voiceOf d v).out else a) 0)

/-- A sample joins the 23 latest of a source. -/
def pushPast (d : Dev) (k : Nat) (x : Int) : Dev :=
  { d with audio.past := mapPut d.audio.past k ((x :: mapGet d.audio.past k []).take 23) }

/-- What a TDM port's input slots give at engine sample n (R530, R541, R550): a frame that waits; for a slave that falls behind by a frame
the last one again, once; else the port is not receiving and gives 0. -/
def tdmSample (n : Nat) (d : Dev) (p : Nat) : Dev :=
  let slow := nGet d (tdm_RATE p) == 0
  let slots := List.range (nGet d (tdm_SLOTS p))
  if nGet d (tdm_ENABLE p) = 0 then d
  else if slow && n % 2 == 1 then slots.foldl (fun d s => pushPast d (16 * p + s) 0) d
  else
    let waits := (mapFind d.audio.tdmIn (16 * p)).isSome
    let repeats := !waits && nGet d (tdm_ROLE p) == 1 && (mapFind d.audio.tdmLast (16 * p)).isSome
    let d := if repeats then raise (nInc d (tdm_SLIPS p)) (866 + p) else d
    let d := slots.foldl (fun d s =>
      let k := 16 * p + s
      let x := match mapGet d.audio.tdmIn k [] with
        | y :: _ => y
        | [] => if repeats then mapGet d.audio.tdmLast k 0 else 0
      pushPast d k x) d
    { d with audio.tdmIn := d.audio.tdmIn.filter (fun e => decide (e.1 / 16 ≠ p)),
             audio.tdmLast := if waits then d.audio.tdmLast else d.audio.tdmLast.filter (fun e => decide (e.1 / 16 ≠ p)) }

/-- The stream samples of a source at an instant, in thirds of a nanosecond (R552): those whose presentation time has come; the last of them plays. -/
def streamSample (t : Nat) (d : Dev) (k : Nat) : Dev :=
  let q := mapGet d.audio.heard k []
  let now := q.filter (fun e => decide (e.1 ≤ t))
  let d := { d with audio.heard := mapSet d.audio.heard k (q.filter (fun e => decide (t < e.1))) [] }
  pushPast d (64 + k) ((now.getLast?.map (·.2)).getD 0)

/-- The 23-tap half-band filter of R530 on the latest samples, newest first: its middle tap, which makes the delay 11 samples, is one half,
and the taps an even distance from it are 0 (assumption log 147). -/
def halfBand (gain : Rat) (l : List Int) : Int :=
  let x := fun (k : Nat) => ((l.getD k 0 : Int) : Rat)
  let y := gain * ((List.finRange 6).foldl (fun (a : Rat) j => a + Config.halfBandTap j * (x (10 - 2 * j.val) + x (12 + 2 * j.val))) (x 11 / 2))
  sat24 (y.floor + (if y.den ≠ 1 ∧ Config.halfBandUp y = true then 1 else 0))

/-- A source's sample at 96 kHz, interpolated where it came at 48 kHz (R530). -/
def interpolated (d : Dev) (k : Nat) (slow : Bool) : Int :=
  let l := mapGet d.audio.past k []
  if slow then halfBand 2 l else l.headD 0

/-- The sample of a crosspoint input (R541). -/
def inputSample (d : Dev) (i : Nat) : Int :=
  let s := nGet d (xin_SOURCE i)
  let k := s / 4096
  if k = 1 then busSample d (s % 16)
  else if k = 2 then
    let p := s / 256 % 4
    if nGet d (tdm_ENABLE p) = 1 ∧ s % 16 < nGet d (tdm_SLOTS p) then interpolated d (16 * p + s % 16) (nGet d (tdm_RATE p) == 0) else 0
  else if k = 3 then
    let n := s / 16 % 16
    if nGet d (avtp_ENABLE n) = 1 then interpolated d (64 + 8 * n + s % 8) (nGet d (avtp_RATE n) == 0) else 0
  else if k = 4 then
    let c := 1024 + 32 * (s / 128 % 32) + 8 * (s / 32 % 4) + s % 8
    match mapFind d.audio.rates c with
    | some r => interpolated d (64 + c) (r == 0)
    | none => 0
  else 0

/-- A node at an engine sample, given its input now and before and its output's times in engine samples (R544). -/
def stepNode (x px : Int) (zc rampN : Nat) (n : Node) : Node :=
  match n.wait with
  | some w =>
    if x = 0 ∨ (x < 0 ∧ 0 < px) ∨ (0 < x ∧ px < 0) then { n with gain := (n.target : Nat), wait := none, ramp := 0, step := 0 }
    else if zc ≤ w then
      let st : Rat := (((n.target : Nat) : Rat) - n.gain) / (max 1 rampN : Nat)
      { n with wait := none, gain := n.gain + st, ramp := rampN - 1, step := st }
    else { n with wait := some (w + 1) }
  | none =>
    if n.ramp = 0 then n
    else if n.ramp = 1 then { n with gain := (n.target : Nat), ramp := 0, step := 0 }
    else { n with gain := n.gain + n.step, ramp := n.ramp - 1 }

/-- Every node at an engine sample. -/
def stepNodes (d : Dev) : Dev :=
  { d with audio.nodes := d.audio.nodes.filterMap (fun e =>
      let o := e.1 / 64
      let i := e.1 % 64
      let n := stepNode (mapGet d.audio.inputs i 0) (mapGet d.audio.prev i 0) (96 * nGet d (xout_ZC_TIMEOUT_MS o))
        (96 * nGet d (xout_RAMP_MS o)) e.2
      if n = Node.reset then none else some (e.1, n)) }

/-- The sum of an output before saturation (R542), rounded down. -/
def outputSum (d : Dev) (o : Nat) : Int :=
  ((d.audio.nodes.filter (fun e => decide (e.1 / 64 = o))).foldl (fun (a : Rat) e =>
    a + ((mapGet d.audio.inputs (e.1 % 64) 0 : Int) : Rat) * e.2.gain / 16384) 0).floor

/-- One filter stage (R545): the result and the stage's new history. -/
def filterStage (c : List Int) (h : List Int) (x : Int) : Int × List Int :=
  let g := fun (l : List Int) (k : Nat) => l.getD k 0
  let y := sat32 (roundDiv (g c 0 * x + g c 1 * g h 0 + g c 2 * g h 1 - g c 3 * g h 2 - g c 4 * g h 3) 1073741824)
  (y, [x, g h 0, y, g h 2])

/-- The six stages of an output's filter (R545). -/
def runFilter (coefs : List Byte) (hist : List Int) (x : Int) : Int × List Int :=
  (List.range 6).foldl (fun (a : Int × List Int) k =>
    let c := (List.range 5).map (fun j => sintOf 32 (ofLe (sliceOf coefs (20 * k + 4 * j) 4)))
    let r := filterStage c ((hist.drop (4 * k)).take 4) a.1
    (r.1, a.2 ++ r.2)) (x, [])

/-- The gain that a sample needs (R546). -/
def needGain (thr : Nat) (x : Int) : Rat := if x.natAbs ≤ thr then 1 else (thr : Rat) / (x.natAbs : Nat)

/-- The limiter's gain at an engine sample (R546): from `low` it recovers linearly to 1 over RELEASE_MS; it falls linearly toward what each sample ahead needs when it
leaves, and never exceeds what the sample that leaves now needs. `ahead` holds the samples from the one that leaves on. -/
def limiterGain (thr release : Nat) (g low : Rat) (ahead : List Int) : Rat :=
  let up := let u := g + (1 - low) / (96 * max 1 release : Nat); if 1 < u then 1 else u
  ((List.range ahead.length).zip ahead).foldl (fun (a : Rat) e =>
    let n := needGain thr e.2
    let c := if n < g then g - (g - n) / ((e.1 + 1 : Nat) : Rat) else if e.1 = 0 then n else 1
    if c < a then c else a) up

/-- An output's sample while the sleep protocol has stopped the block (R676): ramped to 0 during the delay, by a free value since the
spec gives no shape (assumption log 4), then 0. -/
def muted (d : Dev) (y : Int) : Int :=
  if blockStopped d 2 = false then y
  else if d.power.sleep = .delay 2 then y * (freeNat d 16 : Int) / 65536
  else 0

/-- One engine sample of an output (R542, R545, R546, R547): the filtered path takes 1 sample for the filter and 48 for the
limiter. -/
def sampleOutput (d : Dev) (o : Nat) : Dev :=
  let raw := outputSum d o
  let s := sat24 raw
  let d := if raw = s then d else raise (nInc d (xout_CLIPS o)) 865
  let x := outOf d o
  if nGet d (xout_LOW_LATENCY o) = 1 then updOut d o (fun x => { x with outs := (muted d s :: x.outs).take 64 })
  else
    let f := runFilter (bGet d (xout_FILTER o)) x.hist s
    let ahead := (f.1 :: x.ahead).take 50
    let line := (ahead.drop 1).reverse
    let line := List.replicate (49 - line.length) 0 ++ line
    let g := limiterGain (nGet d (xout_THRESHOLD o)) (nGet d (xout_RELEASE_MS o)) x.gain x.low line
    let low := if g ≤ x.gain then g else x.low
    let y := sat24 (let v := ((line.headD 0 : Int) : Rat) * g; if 0 ≤ v then v.floor else -((-v).floor))
    let was := d.audio.limiting.contains o
    let d := if g < 1 then nInc d (xout_LIMITING o) else d
    let d := if decide (g < 1) && !was then raise d 864 else d
    let d := { d with audio.limiting := if g < 1 then addOnce d.audio.limiting o else d.audio.limiting.filter (· ≠ o) }
    updOut d o (fun x => { x with hist := f.2, ahead := ahead, gain := g, low := low, outs := (muted d y :: x.outs).take 64 })

/-- An output's sample for a stream or port of a rate: decimated for 48 kHz (R530), `late` engine samples old. -/
def outputAt (d : Dev) (o : Nat) (slow : Bool) (late : Nat) : Int :=
  let l := (outOf d o).outs.drop late
  if slow then halfBand 1 l else l.headD 0

/-- A sample frame gathered by talker t (0 to 15) or lane stream t - 16 (R552, R566): the sample's number, then the channels. -/
def gather (d : Dev) (n t channels first rate : Nat) : Dev :=
  if rate = 0 ∧ n % 2 = 1 then d
  else
    let fr : List Int := (n : Int) :: (List.range channels).map (fun c => outputAt d (first + c) (rate == 0) 0)
    let q := mapGet d.audio.gathered t [] ++ [fr]
    { d with audio.gathered := mapPut d.audio.gathered t (q.drop (q.length - 48)) }

/-- A 24-bit sample as a word with the sample in [31:8] (R402). -/
def sampleWord (x : Int) : List Byte := leBytes 4 (twosOf 24 x * 256)

/-- An AUDIO packet (R402). -/
def audioPacket (stream channels rate : Nat) (time : Nat) (frames : List (List Int)) : Packet :=
  let p := leBytes 8 time ++ ((frames.map (fun f => ((f.drop 1).map sampleWord).flatten)).flatten)
  let h := octets [0x4B, stream, channels - 1 + 8 * rate, frames.length, 0, 0, 0]
  { typ := 0x4B, seq := stream, bytes := withHcrc h ++ padBlocks p ++ trailer (crc32 (h ++ p)) 0 }

/-- A lane stream at an engine sample (R553): once its frames are gathered an AUDIO packet goes to its lane, if that is READY
(R417). -/
def laneStream (n : Nat) (d : Dev) (k : Nat) : Dev :=
  let l := nGet d (laneAud_LANE k)
  let ch := nGet d (laneAud_CHANNELS k)
  let rate := nGet d (laneAud_RATE k)
  if 32 ≤ l then d
  else
    let d := gather d n (16 + k) ch (nGet d (laneAud_FIRST_OUTPUT k)) rate
    let q := mapGet d.audio.gathered (16 + k) []
    if q.length < nGet d (laneAud_FRAMES k) then d
    else
      let d := { d with audio.gathered := mapErase d.audio.gathered (16 + k) }
      let t := sampleTime ((q.headD []).headD 0).toNat + nGet d (laneAud_PRESENT_OFFSET_NS k)
      if nGet d (lane_DIRECTION l) = 1 ∧ nGet d (lane_STATE l) = 6 then
        updLane d l (fun x => { x with audioQ := x.audioQ ++ [audioPacket (nGet d (laneAud_STREAM k)) ch rate t q] })
      else d

/-- The keys of the stream sources that hold samples or history. -/
def streamKeys (d : Dev) : List Nat :=
  let a := d.audio.heard.map (·.1)
  a ++ ((d.audio.past.filter (fun e => decide (64 ≤ e.1))).map (fun e => e.1 - 64)).filter (fun k => !a.contains k)

/-- ENGINE_SAMPLE (R529, R533 to R546): one sample at the latest instant, unless it has been computed. -/
def doEngineSample (d : Dev) : Dev :=
  let n := sampleIndex d
  if d.audio.samples = n + 1 then d
  else
    let last := if d.audio.samples = 0 then sampleTime (n - 1) else sampleTime (d.audio.samples - 1)
    let edges := d.audio.edges
    let d := avasLook { d with audio.edges := [], audio.samples := n + 1 }
    let d := (List.range 128).foldl (triggerVoice last (sampleTime n) edges) d
    let d := (List.range 128).foldl (fun d v => sampleVoice (applyKeys d v) v) d
    let d := (List.range 4).foldl (tdmSample n) d
    let d := (streamKeys d).foldl (streamSample (n * 31250)) d
    let ins := mapOfList 0 0 ((List.range 64).map (inputSample d))
    let d := stepNodes { d with audio.prev := d.audio.inputs, audio.inputs := ins }
    let d := (List.range 48).foldl sampleOutput d
    let d := if d.power.sleep = .delay 2 then freeUsed d else d
    let d := (List.range 16).foldl (fun d t =>
      if nGet d (avtp_ENABLE (16 + t)) = 1 then
        gather d n t (nGet d (avtp_CHANNELS (16 + t))) (nGet d (avtp_FIRST_OUTPUT (16 + t))) (nGet d (avtp_RATE (16 + t)))
      else d) d
    (List.range 16).foldl (laneStream n) d

/-- A slot's word with only its own bits (R549). -/
def slotWord (width : Nat) (w : Nat) : Nat := w / 2 ^ (32 - width) * 2 ^ (32 - width)

/-- The samples of an input frame wait for the engine (R549, R550): a slave's frame that comes while one waits is dropped. -/
def tdmInput (d : Dev) (p : Nat) (slots : List Word) : Dev :=
  if (mapFind d.audio.tdmIn (16 * p)).isSome then
    (if nGet d (tdm_ROLE p) = 1 then raise (nInc d (tdm_SLIPS p)) (866 + p) else d)
  else
    (List.range (nGet d (tdm_SLOTS p))).foldl (fun d s =>
      let x := sintOf 24 (slotWord (nGet d (tdm_WIDTH p)) ((slots.getD s 0).toNat) / 256)
      { d with audio.tdmIn := mapPut d.audio.tdmIn (16 * p + s) [x], audio.tdmLast := mapPut d.audio.tdmLast (16 * p + s) x }) d

/-- One frame of output slots (R547 to R549): a sample is 2 engine samples old on its way out. -/
def tdmOutput (d : Dev) (p : Nat) : List (Option Word) :=
  (List.range (nGet d (tdm_SLOTS p))).map (fun s =>
    let o := ((bGet d (tdm_OUT_SLOTS p)).getD s 0xFF).toNat
    if 48 ≤ o then none
    else some (BitVec.ofNat 32 (slotWord (nGet d (tdm_WIDTH p)) (twosOf 24 (outputAt d o (nGet d (tdm_RATE p) == 0) 2) * 256))))

/-- The sample instant of R529 on which a master port's present frame falls (R549): every one at 96 kHz, every second one at 48 kHz. -/
def tdmInstant (d : Dev) (p : Nat) : Nat :=
  if nGet d (tdm_RATE p) = 0 then sampleIndex d / 2 * 2 else sampleIndex d

/-- TDM_FRAME (R548 to R550): a master port has one frame at each of its sample instants; a slave's come as the outside sends them. -/
def doTdmFrame (p : Fin 4) (slots : List Word) (d : Dev) : Dev :=
  if nGet d (tdm_ENABLE p.val) = 0 ∨ (nGet d (tdm_ROLE p.val) = 0 ∧ mapGet d.audio.tdmAt p.val 0 = tdmInstant d p.val + 1) then d
  else
    let d := if nGet d (tdm_ROLE p.val) = 0 then { d with audio.tdmAt := mapPut d.audio.tdmAt p.val (tdmInstant d p.val + 1) } else d
    emit (tdmInput d p.val slots) (.tdm p.val (tdmOutput d p.val))

/-- The bits per second of a TDM port's settings. -/
def tdmBits (d : Dev) (p : Nat) : Nat :=
  (if nGet d (tdm_RATE p) = 0 then 48000 else 96000) * nGet d (tdm_SLOTS p) * nGet d (tdm_WIDTH p)

/-- A write of a TDM member (R548, R549): stopping the port drops its frames. -/
def tdmWrite (d : Dev) (p mem : Nat) (v : Val) : Dev × Status × List Byte :=
  if mem ≠ 1 ∧ mem ≠ 8 ∧ nGet d (tdm_ENABLE p) = 1 then
    (match rowOf (mref 0x42 p mem) with
     | some m => if m.acc = .rw then (d, .state, []) else (d, .access, [])
     | none => (d, .noMember, []))
  else if mem = 1 ∧ v = .num 1 ∧ 24576000 < tdmBits d p then (d, .range, [])
  else
    let r := plainWrite d (mref 0x42 p mem) v
    if r.2.1 = .ok ∧ mem = 1 then
      let own := fun (k : Nat) => decide (k / 16 = p)
      ({ r.1 with audio.tdmIn := r.1.audio.tdmIn.filter (fun e => !own e.1),
                  audio.tdmLast := r.1.audio.tdmLast.filter (fun e => !own e.1),
                  audio.past := r.1.audio.past.filter (fun e => !own e.1) }, r.2)
    else r

/-- A write of a lane-stream member (R553): no two objects name the same lane and stream; FIRST_OUTPUT + c is at most 47. -/
def laneAudWrite (d : Dev) (k mem : Nat) (v : Val) : Dev × Status × List Byte :=
  let r := plainWrite d (mref 0x42 (0x30 + k) mem) v
  let e := r.1
  let clash := (List.range 16).any (fun j => decide (j ≠ k) && decide (nGet e (laneAud_LANE k) ≠ 255) &&
    decide (nGet e (laneAud_LANE j) = nGet e (laneAud_LANE k)) && decide (nGet e (laneAud_STREAM j) = nGet e (laneAud_STREAM k)))
  if r.2.1 ≠ .ok then r
  else if 48 < nGet e (laneAud_FIRST_OUTPUT k) + nGet e (laneAud_CHANNELS k) then (d, .range, [])
  else if clash then (d, .state, [])
  else ({ e with audio.gathered := mapErase e.audio.gathered (16 + k) }, r.2)

/-- Samples of a stream frame put into the queues of its channels (R552): one whose time has passed is discarded and reported, none
past 50 ms of samples is held. -/
def hear (d : Dev) (base channels rate t : Nat) (lateMember : Option Ref) (samples : Nat → Nat → Int) (frames : Nat) : Dev :=
  (List.range frames).foldl (fun d k =>
    let pt := 3 * t + k * (if rate = 0 then 62500 else 31250)
    if pt * 2 ^ 32 < 3 * d.tb then
      raise (match lateMember with
        | some r => nAdd d r channels
        | none => d) 870
    else
      (List.range channels).foldl (fun d c =>
        let q := mapGet d.audio.heard (base + c) []
        if (if rate = 0 then 2400 else 4800) ≤ q.length then d
        else { d with audio.heard := mapPut d.audio.heard (base + c) (q ++ [(pt, samples k c)]) }) d) d

/-- The AUDIO packet in some octets, if it is good (R402): STREAM, channels, RATE, FRAMES, payload. -/
def parseAudio (p : List Byte) : Option (Nat × Nat × Nat × Nat × List Byte) :=
  let f := ofLe (sliceOf p 2 1)
  let ch := f % 8 + 1
  let n := ofLe (sliceOf p 3 1)
  let len := 8 + 4 * n * ch
  let body := sliceOf p 8 len
  if headerGood p ∧ (sliceOf p 0 1).head? = some 0x4B ∧ 1 ≤ n ∧ n ≤ 24 ∧ p.length = 16 + roundUp len 8 ∧
      crc32 (p.take 7 ++ body) = ofLe (sliceOf p (8 + roundUp len 8) 4) then
    some (ofLe (sliceOf p 1 1) % 4, ch, f / 8 % 2, n, body)
  else none

/-- RX_AUDIO_PACKET (R402, R552, R553). -/
def doRxAudioPacket (l : Fin 32) (p : List Byte) (d : Dev) : Dev :=
  let l := l.val
  let r := rxTake d l p
  let d := r.1
  if rxOpen d l = false ∨ r.2 ≠ .packet then d
  else
    match parseAudio p with
    | none => d
    | some (st, ch, rate, n, body) =>
      let base := 1024 + 32 * l + 8 * st
      let d := { d with audio.rates := (List.range ch).foldl (fun m c => mapPut m (base + c) rate) d.audio.rates }
      hear d base ch rate (ofLe (sliceOf body 0 8)) none (fun k c => sintOf 24 (ofLe (sliceOf body (8 + 4 * (k * ch + c)) 4) / 256)) n

/-- KEY_ON (R534). -/
def execKeyOn (sess : Nat) (v : Fin 128) (s : State) : Res := .next (withDev s (doKeyOn sess v s.dev))
/-- KEY_OFF (R534). -/
def execKeyOff (sess : Nat) (v : Fin 128) (s : State) : Res := .next (withDev s (doKeyOff sess v s.dev))
/-- VOICE_DURATION_EXPIRY (R534). -/
def execVoiceDurationExpiry (v : Fin 128) (s : State) : Res := .next (withDev s (doVoiceDurationExpiry v s.dev))
/-- WAVE_TABLE_WRITE (R537). -/
def execWaveTableWrite (sess : Nat) (t : Fin 32) (samples : List Byte) (s : State) : Res :=
  .next (withDev s (doWaveTableWrite sess t samples s.dev))
/-- GAINS_WRITE (R544). -/
def execGainsWrite (sess : Nat) (o : Fin 48) (gains : List Byte) (s : State) : Res := .next (withDev s (doGainsWrite sess o gains s.dev))
/-- FILTER_WRITE (R545). -/
def execFilterWrite (sess : Nat) (o : Fin 48) (coefs : List Byte) (s : State) : Res := .next (withDev s (doFilterWrite sess o coefs s.dev))
/-- START (R540). -/
def execStart (sess : Nat) (q : Fin 4) (arg : Nat) (s : State) : Res := .next (withDev s (doStart sess q arg s.dev))
/-- STOP (R539). -/
def execStop (sess : Nat) (q : Fin 4) (arg : Nat) (s : State) : Res := .next (withDev s (doStop sess q arg s.dev))
/-- SEQUENCER_TICK (R540). -/
def execSequencerTick (q : Fin 4) (s : State) : Res := .next (withDev s (doSequencerTick q s.dev))
/-- ENGINE_SAMPLE (R533). -/
def execEngineSample (s : State) : Res := .next (withDev s (doEngineSample s.dev))
/-- TDM_FRAME (R550). -/
def execTdmFrame (p : Fin 4) (slots : List Word) (s : State) : Res := .next (withDev s (doTdmFrame p slots s.dev))
/-- RX_AUDIO_PACKET (R553). -/
def execRxAudioPacket (l : Fin 32) (pkt : List Byte) (s : State) : Res := .next (withDev s (doRxAudioPacket l pkt s.dev))

end Sys2Proof.Machine
end

