-- ==== Sys2Proof/Machine/Flags.lean ====
section
/-!
DEFINITION. Results and flags of BE32 operations (BE32 chapter, R357, R361, R370, R372).
-/
namespace Sys2Proof.Machine

/-- N and Z from a result (R370). -/
def flagsNZ (x : Thread) (r : Word) : Thread := { x with n := r.getLsbD 31, z := decide (r = 0) }

/-- Whether a value has a signed reading in 32 bits. -/
def fits32 (i : Int) : Bool := decide (-2147483648 ≤ i) && decide (i ≤ 2147483647)

/-- A sum with a carry in. -/
def addWord (a b : Word) (cin : Bool) : Word := BitVec.ofNat 32 (a.toNat + b.toNat + cin.toNat)

/-- The flags of a sum (R370): C is the carry out of bit 31, V the signed overflow. -/
def flagsAdd (x : Thread) (a b : Word) (cin : Bool) : Thread :=
  { flagsNZ x (addWord a b cin) with
    c := decide (2 ^ 32 ≤ a.toNat + b.toNat + cin.toNat), v := !fits32 (a.toInt + b.toInt + (cin.toNat : Int)) }

/-- A difference with a borrow in. -/
def subWord (a b : Word) (bin : Bool) : Word := BitVec.ofInt 32 ((a.toNat : Int) - b.toNat - (bin.toNat : Int))

/-- The flags of a difference (R370): C is 1 when no borrow is needed, V the signed overflow. -/
def flagsSub (x : Thread) (a b : Word) (bin : Bool) : Thread :=
  { flagsNZ x (subWord a b bin) with
    c := decide (b.toNat + bin.toNat ≤ a.toNat), v := !fits32 (a.toInt - b.toInt - (bin.toNat : Int)) }

/-- The flags of a shift by n with the last bit shifted out (R370): a count of 0 leaves C. -/
def flagsShift (x : Thread) (r : Word) (n : Nat) (last : Bool) : Thread :=
  { flagsNZ x r with c := if n = 0 then x.c else last }

/-- The last bit that a left shift by n shifts out. -/
def lastLeft (a : Word) (n : Nat) : Bool := a.getLsbD (32 - n)

/-- The last bit that a right shift by n shifts out. -/
def lastRight (a : Word) (n : Nat) : Bool := a.getLsbD (n - 1)

/-- F as MV.AF copies it (R357). -/
def flagsWord (x : Thread) : Word := BitVec.ofNat 32 (8 * x.n.toNat + 4 * x.z.toNat + 2 * x.c.toNat + x.v.toNat)

/-- F as MV.FA takes it from A (R357). -/
def flagsFrom (x : Thread) (a : Word) : Thread :=
  { x with n := a.getLsbD 3, z := a.getLsbD 2, c := a.getLsbD 1, v := a.getLsbD 0 }

/-- Whether a condition holds (R361); BK is looked up in the beam mirror, and its answer is `bk`. -/
def condHolds (x : Thread) (bk : Bool) (c : Nat) : Bool :=
  match c with
  | 0 => true
  | 1 => x.z
  | 2 => !x.z
  | 3 => x.c
  | 4 => !x.c
  | 5 => x.n
  | 6 => !x.n
  | 7 => x.v
  | 8 => !x.v
  | 9 => x.c && !x.z
  | 10 => !x.c || x.z
  | 11 => x.n == x.v
  | 12 => x.n != x.v
  | 13 => !x.z && x.n == x.v
  | 14 => x.z || x.n != x.v
  | _ => bk

/-- A value narrowed to 32 signed bits, saturating (R372). -/
def satWord (i : Int) : Word := BitVec.ofInt 32 (clampInt (-2147483648) 2147483647 i)

/-- MULQ (R372): floor(A × op / 65,536), in 32 bits. -/
def mulqWord (a b : Word) : Word := BitVec.ofInt 32 (a.toInt * b.toInt / 65536)

/-- DIV (R372): rounded toward zero, with the corners of the table. -/
def divWord (a b : Word) : Word :=
  if b = 0 then (if 0 ≤ a.toInt then 0x7FFFFFFF else 0x80000000)
  else satWord (a.toInt.tdiv b.toInt)

/-- RECIP (R372): 2^32 / op to nearest, ties away from zero, saturating; 0 gives the largest value. -/
def recipWord (b : Word) : Word :=
  if b = 0 then 0x7FFFFFFF
  else satWord (if 0 ≤ b.toInt then roundDiv 4294967296 b.toInt.toNat else -roundDiv 4294967296 (-b.toInt).toNat)

/-- The integer square root, found bit by bit from bit k - 1 down: r is the root so far. -/
def rootFrom (n : Nat) : Nat → Nat → Nat
  | 0, r => r
  | k + 1, r => rootFrom n k (if (r + 2 ^ k) * (r + 2 ^ k) ≤ n then r + 2 ^ k else r)

/-- SQRT (R372): the root of op × 65,536, to nearest. -/
def sqrtWord (b : Word) : Word :=
  let n := b.toNat * 65536
  let r := rootFrom n 25 0
  BitVec.ofNat 32 (if r < n - r * r then r + 1 else r)

/-- The sum of the sine series from a term of 2^-96 units: k terms left, the next factor n (R372). -/
def sinSeries (x2 : Int) : Nat → Nat → Int → Int
  | 0, _, _ => 0
  | k + 1, n, t => t + sinSeries x2 k (n + 1) (-(t * x2 / 2 ^ 96 / ((2 * n) * (2 * n + 1) : Nat)))

/-- 16,384 × sin of r of 16,384 parts of a quarter turn, to nearest (R372); the first factor is pi × 2^96. -/
def sinQuarter (r : Nat) : Int :=
  let x : Int := 248902613312231085230521944622 * (r : Int) / 32768
  (sinSeries (x * x / 2 ^ 96) 15 1 x * 16384 + 2 ^ 95) / 2 ^ 96

/-- 16,384 × sin of an angle in 1/65,536 turn (R372). -/
def sinAngle (k : Nat) : Int :=
  let r := k % 16384
  match k / 16384 % 4 with
  | 0 => sinQuarter r
  | 1 => sinQuarter (16384 - r)
  | 2 => -sinQuarter r
  | _ => -sinQuarter (16384 - r)

/-- SINCOS (R372): sine in [31:16], cosine in [15:0]. -/
def sincosWord (b : Word) : Word :=
  let k := b.toNat % 65536
  BitVec.ofNat 32 (twosOf 16 (sinAngle k) * 65536 + twosOf 16 (sinAngle (k + 16384)))

/-- The signed minimum. -/
def minWord (a b : Word) : Word := if a.toInt ≤ b.toInt then a else b
/-- The signed maximum. -/
def maxWord (a b : Word) : Word := if a.toInt ≤ b.toInt then b else a

end Sys2Proof.Machine
end

