-- ==== Sys2Proof/Machine/Movers.lean ====
section
/-!
DEFINITION. The DMA engines and the blitter (DMA chapter, R495 to R526). A job's source blocks arrive one by one, and its bytes move when
it completes (assumption log 31).
-/
namespace Sys2Proof.Machine

/-- A DMA channel. -/
def chanOf (d : Dev) (n : Nat) : DmaChan := mapGet d.movers.chans n DmaChan.reset

/-- A DMA channel changed; STATE and QUEUED follow (R513). -/
def updChan (d : Dev) (n : Nat) (f : DmaChan → DmaChan) : Dev :=
  let x := f (chanOf d n)
  nSets { d with movers.chans := mapSet d.movers.chans n x DmaChan.reset }
    [(dma_STATE n, if x.job.isSome then 1 else 0), (dma_QUEUED n, x.queue.length)]

/-- A blitter ring. -/
def ringOf (d : Dev) (r : Nat) : Ring := mapGet d.movers.rings r Ring.reset

/-- Whether a ring has a command running or waiting (R526). -/
def ringActive (d : Dev) (r : Nat) : Bool :=
  decide (nGet d (ring_ENABLE r) = 1) && ((ringOf d r).job.isSome || decide ((ringOf d r).produce ≠ nGet d (ring_CONSUME r)))

/-- RINGS_ACTIVE follows the rings (R526). -/
def reportRings (d : Dev) : Dev := nSet d blit_RINGS_ACTIVE (maskOf 4 (ringActive d))

/-- A blitter ring changed. -/
def updRing (d : Dev) (r : Nat) (f : Ring → Ring) : Dev :=
  reportRings { d with movers.rings := mapSet d.movers.rings r (f (ringOf d r)) Ring.reset }

/-- Whether a job may read a range (R495): mapped DRAM segments other than the reserved one, or cluster banks. -/
def jobReads (d : Dev) (a n : Nat) : Bool :=
  (decide (a + n ≤ 120 * segBytes) && !touchesReserved d a n &&
    (List.range ((a + n - 1) / segBytes - a / segBytes + 1)).all (fun i => decide (segCode d (a / segBytes + i) ≠ 0))) ||
  (decide (0x1000000000 ≤ a) && decide (a + n ≤ 0x1000C00000))

/-- Whether a job may write a range (R496): within one buffer of a realised pinned surface, or within a cluster bank outside
code regions and surfaces. -/
def jobWrites (d : Dev) (a n : Nat) : Bool :=
  (allocated d 0x13).any (fun o =>
    let i := refInst o
    let sz := nGet d (surf_SIZE i)
    let base := nGet d (surf_ADDRESS i)
    decide (nGet d (surf_LOCATION i) ≠ 0) && decide (nGet d (surf_PINNED i) = 1) &&
      (List.range (nGet d (surf_BUFFERS i))).any (fun k => decide (base + k * sz ≤ a) && decide (a + n ≤ base + (k + 1) * sz))) ||
  (match placeOf d a with
   | .bank c => decide (a + n ≤ bankBase c + 0x100000) &&
      (bankRegions d c ++ heldSpans d).all (fun p => decide (p.hi ≤ a) || decide (a + n ≤ p.lo))
   | _ => false)

/-- One byte that a job writes: where it goes, where it comes from, and what it is. -/
structure Move where
  dst : Nat
  src : Option Nat
  val : Byte
  deriving DecidableEq, Repr

/-- A job's writes as runs of consecutive addresses. -/
def runsOf : List Move → List (Nat × List Byte)
  | [] => []
  | m :: ms =>
    match runsOf ms with
    | (a, bs) :: rs => if a = m.dst + 1 then (m.dst, m.val :: bs) :: rs else (m.dst, [m.val]) :: (a, bs) :: rs
    | [] => [(m.dst, [m.val])]

/-- The blocks whose read-modify-write fails under a job's writes (R472). -/
def badTargets (d : Dev) (ms : List Move) : List Nat := ((runsOf ms).map (fun r => rmwFailures d r.1 r.2.length)).flatten

/-- The DETAIL with which a byte of a job fails, if it does (R500): 6 for a source that came poisoned, 7 for a failed
read-modify-write. -/
def moveFails (d : Dev) (got : SMap (List Byte)) (bad : List Nat) (m : Move) : Nat :=
  if (match m.src with | some a => gotBad d got a | none => false) then 6
  else if bad.contains (m.dst / 256) then 7 else 0

/-- Whether a byte's source has arrived (R481): it is in no DRAM block, or in one that the job has. -/
def arrived (d : Dev) (got : SMap (List Byte)) (m : Move) : Bool :=
  match m.src with
  | some a => (channelOfAddr d a).isNone || (mapFind got (a / 256)).isSome
  | none => true

/-- A job's writes of a class put into memory. -/
def putMoves (s : State) (cls : Nat) (ms : List Move) : State := (runsOf ms).foldl (fun s r => putRange s cls r.1 r.2) s

/-- Those of a stopped job's remaining writes that have still landed (R500): the spec leaves each byte open, and each is a free
bit (assumption log 4). -/
def openMoves (d : Dev) (ms : List Move) : List Move :=
  ((List.range ms.length).zip ms).filterMap (fun e =>
    if bitOf (Config.freeValue (d.free + e.1 / 64)).toNat (e.1 % 64) then some e.2 else none)

/-- A job of a class that has written its first k bytes, in its own order, stops there (R500): of the others, those that could be written
may have landed. An order that takes the columns of a line from right to left is `back`. -/
def stopMoves (s : State) (cls : Nat) (ms : List Move) (fit : Move → Bool) (back : Bool) (k : Nat) : State :=
  let s := putMoves s cls (if back then (ms.take k).reverse else ms.take k)
  let rest := ms.drop k
  let s' := putMoves s cls ((openMoves s.dev rest).filter fit)
  withDev s' (freeUsedN s'.dev (rest.length / 64 + 1))

/-- A job's bytes move (R499, R500), `own` in the job's own order: how many are written before the first one that is not, and
the DETAIL. A poisoned source that the job has not fetched is reported here. -/
def runMoves (s : State) (got : SMap (List Byte)) (ms own : List Move) (back : Bool) (cls : Nat) : State × Nat × Nat :=
  let bad := badTargets s.dev ms
  let fit := fun (m : Move) => decide (moveFails s.dev got bad m = 0) && arrived s.dev got m
  match findIdxFrom (fun m => decide (moveFails s.dev got bad m ≠ 0)) 0 own with
  | none => (putMoves s cls ms, ms.length, 0)
  | some (k, m) =>
    let det := moveFails s.dev got bad m
    let d := match m.src with
      | some a => if det = 6 ∧ (mapFind got (a / 256)).isNone then readRange s.dev a 1 cls else s.dev
      | none => s.dev
    let d := if det = 7 then failRmw d m.dst 1 cls else d
    (stopMoves (withDev s d) cls own fit back k, k, det)

/-- A small record that a job of a class writes on completion (R499): dropped where its read-modify-write fails. -/
def jobPut (s : State) (a : Nat) (bs : List Byte) (cls : Nat) : State :=
  if (rmwFailures s.dev a bs.length).isEmpty then putRange s cls a bs else withDev s (failRmw s.dev a bs.length cls)

/-- Whether two ranges meet. -/
def rangesMeet (x y : Nat × Nat) : Bool := decide (x.1 < y.1 + y.2) && decide (y.1 < x.1 + x.2)

/-- Whether any two ranges of a list meet. -/
def anyMeet : List (Nat × Nat) → Bool
  | [] => false
  | x :: l => l.any (rangesMeet x) || anyMeet l

/-- The ranges that a job writes and reads are marked while it runs (R497, R498). -/
def markJob (d : Dev) (owner : Nat) (ws rs : List (Nat × Nat)) : Dev :=
  let sp := fun (l : List (Nat × Nat)) => l.map (fun r => ({ owner := owner, lo := r.1, hi := r.1 + r.2 } : Span))
  { d with scene.writing := d.scene.writing ++ sp ws, movers.reads := d.movers.reads ++ sp rs }

/-- The marks of a job end. -/
def unmarkJob (d : Dev) (owner : Nat) : Dev :=
  { d with scene.writing := d.scene.writing.filter (fun p => decide (p.owner ≠ owner))
           movers.reads := d.movers.reads.filter (fun p => decide (p.owner ≠ owner)) }

/-- The entries of a list (R505), as (address field, length, last word). -/
def listEntries (d : Dev) (m : List Host.Cell) (a n : Nat) : List (Nat × Nat × Nat) :=
  (List.range n).map (fun i => (fabricLe d m (a + 16 * i) 8, fabricLe d m (a + 16 * i + 8) 4, fabricLe d m (a + 16 * i + 12) 4))

/-- Whether an entry keeps R505. -/
def entryOk (e : Nat × Nat × Nat) : Bool :=
  decide (e.1 < 2 ^ 40) && decide (1 ≤ e.2.1) && decide (e.2.1 ≤ 16777216) && decide (e.2.2 = 0)

/-- Octets that the ranges of a list hold together (R506). -/
def totalOf (l : List (Nat × Nat)) : Nat := (l.map (·.2)).foldl (· + ·) 0

/-- A list as the channel reads it (R504). -/
def readList (d : Dev) (m : List Host.Cell) (a : Nat) : DmaJob :=
  let ns := fabricLe d m a 1
  { seq := fabricLe d m (a + 4) 4, flags := fabricLe d m (a + 2) 2, next := fabricLe d m (a + 8) 8,
    record := fabricLe d m (a + 16) 8, src := (listEntries d m (a + 64) ns).map (fun e => (e.1, e.2.1)),
    dst := (listEntries d m (a + 64 + 16 * ns) (fabricLe d m (a + 1) 1)).map (fun e => (e.1, e.2.1)), aborted := none, got := [] }

/-- Whether a list keeps the rules of the second check (R504 to R506). -/
def listOk (d : Dev) (m : List Host.Cell) (a : Nat) (j : DmaJob) : Bool :=
  let ns := fabricLe d m a 1
  let nd := fabricLe d m (a + 1) 1
  decide (1 ≤ ns) && decide (1 ≤ nd) && decide (j.flags < 4) && decide (j.next % 64 = 0) &&
  (decide (j.flags / 2 % 2 = 0) || decide (j.record % 16 = 0)) && decide (fabricLe d m (a + 24) 40 = 0) &&
  (listEntries d m (a + 64) (ns + nd)).all entryOk && decide (totalOf j.src = totalOf j.dst) && decide (totalOf j.src ≤ 2 ^ 30)

/-- Whether a list has a completion record (R504). -/
def DmaJob.hasRecord (j : DmaJob) : Bool := decide (j.flags / 2 % 2 = 1)

/-- Octets of a list's header and entries. -/
def listBytes (d : Dev) (m : List Host.Cell) (a : Nat) : Nat := 64 + 16 * (fabricLe d m a 1 + fabricLe d m (a + 1) 1)

/-- What a list writes: its destinations, and its record if it has one. -/
def DmaJob.writes (j : DmaJob) : List (Nat × Nat) := j.dst ++ (if j.hasRecord then [(j.record, 16)] else [])

/-- The checks of R508 from the second on: STATUS and DETAIL of the first that fails. -/
def checkList (d : Dev) (n : Nat) (ok : Bool) (j : DmaJob) : Option (Status × Nat) :=
  if ok = false then some (.range, 1)
  else if nGet d (dma_ALIGN n) = 0 ∧ (j.src ++ j.dst).any (fun e => decide (e.1 % 64 ≠ 0) || decide (e.2 % 64 ≠ 0)) then
    some (.misaligned, 2)
  else if (j.src.all (fun e => jobReads d e.1 e.2) && j.writes.all (fun e => jobWrites d e.1 e.2)) = false then some (.access, 3)
  else if anyMeet j.dst || j.dst.any (fun x => j.src.any (rangesMeet x)) then some (.overlapReject, 4)
  else if j.writes.any (fun e => writeLeased d e.1 e.2) then some (.leaseViolation, 5)
  else none

/-- The members that report a list, and its events (R513, R514). -/
def reportList (d : Dev) (n seq flags : Nat) (st : Status) (detail bytes : Nat) : Dev :=
  let d := nSets d [(dma_LAST_SEQ n, seq), (dma_LAST_STATUS n, st.code), (dma_LAST_DETAIL n, detail), (dma_LAST_BYTES n, bytes)]
  if st = .ok then
    let d := nInc d (dma_LISTS_DONE n)
    if flags % 2 = 1 then raise d (752 + 2 * n) else d
  else raise (nInc d (dma_LISTS_FAILED n)) (752 + 2 * n + 1)

/-- A list that cannot be read at all (R508): the spec gives no LAST_SEQ for it, and it is a free value (assumption log 4). -/
def refuseUnread (d : Dev) (n : Nat) (st : Status) (detail : Nat) : Dev :=
  reportList (freeUsed d) n (freeNat d 32) 0 st detail 0

/-- The next list of a channel taken off its queue (R503, R509). -/
def takeList (d : Dev) (n : Nat) : Option (Dev × Nat) :=
  let x := chanOf d n
  match x.chain with
  | some a => some (updChan d n (fun x => { x with chain := none }), a)
  | none =>
    match x.queue with
    | a :: q => some (updChan d n (fun x => { x with queue := q }), a)
    | [] => none

/-- The DRAM blocks of a job's sources asked for (R478, R480, R527). -/
def askSources (d : Dev) (cls unit : Nat) (rs : List (Nat × Nat)) : Dev := rs.foldl (fun d r => askRange d cls unit r.1 r.2) d

/-- DMA_LIST_START (R508): the channel reads and checks its next list, and asks for its sources. -/
def doDmaListStart (n : Fin 32) (s : State) : State :=
  if (chanOf s.dev n.val).job.isSome ∨ dramServes s.dev = false ∨ blockStopped s.dev 5 then s
  else match takeList s.dev n.val with
  | none => s
  | some (d, a) =>
    let m := s.mem
    withDev s (
      if a % 64 ≠ 0 then refuseUnread d n.val .misaligned 1
      else if jobReads d a 64 = false then refuseUnread d n.val .access 1
      else
        let j := readList d m a
        let len := listBytes d m a
        if jobReads d a len = false then reportList (readRange d a 64 3) n.val j.seq j.flags .access 1 0
        else if rangePoisoned d a len then reportList (readRange d a len 3) n.val j.seq j.flags .state 6 0
        else
          let d := readRange d a len 3
          match checkList d n.val (listOk d m a j) j with
          | some (st, det) => reportList d n.val j.seq j.flags st det 0
          | none => askSources (updChan (markJob d n.val j.writes j.src) n.val (fun c => { c with job := some j })) 3 n.val j.src)

/-- The addresses of a list of ranges, in order. -/
def addrsOf (l : List (Nat × Nat)) : List Nat := (l.map (fun r => (List.range r.2).map (· + r.1))).flatten

/-- A list's moves (R506). -/
def listMoves (d : Dev) (m : List Host.Cell) (j : DmaJob) : List Move :=
  ((addrsOf j.src).zip (addrsOf j.dst)).map (fun e => { dst := e.2, src := some e.1, val := gotByte d m j.got e.1 })

/-- Whether ABORT has stopped a list (R511): one whose last write response comes in the cycle of the ABORT completes. -/
def DmaJob.stopped (j : DmaJob) (now : Nat) : Bool :=
  match j.aborted with
  | some t => decide (t < now)
  | none => false

/-- A list's bytes move, or stop where ABORT stopped them: how many of those that could had landed then is open and is a free value
(R511; assumption log 4). -/
def moveList (s : State) (j : DmaJob) : State × Nat × Nat :=
  let ms := listMoves s.dev s.mem j
  if j.stopped s.dev.now then
    let bad := badTargets s.dev ms
    let fit := fun (m : Move) => decide (moveFails s.dev j.got bad m = 0) && arrived s.dev j.got m
    let most := match findIdxFrom (fun m => !fit m) 0 ms with
      | some (k, _) => k
      | none => ms.length
    let k := freeNat s.dev 64 % (most + 1)
    (stopMoves (withDev s (freeUsed s.dev)) 3 ms fit false k, k, 8)
  else runMoves s j.got ms ms false 3

/-- Whether a job has all that it waits for (R499, R500): every read has arrived, or one came poisoned, which stops it. -/
def jobReady (d : Dev) (cls unit : Nat) (got : SMap (List Byte)) : Bool :=
  decide (readsOf d cls unit = 0) || got.any (fun e => e.2.isEmpty)

/-- DMA_LIST_COMPLETE (R499, R500, R509 to R511): the data, the record, the members, the event; then NEXT after OK, unless an ABORT
came in the same cycle. A record whose read-modify-write fails makes the list fail. -/
def doDmaListComplete (n : Fin 32) (s : State) : State :=
  match (chanOf s.dev n.val).job with
  | none => s
  | some j =>
    if dramServes s.dev = false ∨ (jobReady s.dev 3 n.val j.got = false ∧ j.stopped s.dev.now = false) then s
    else
      let x := moveList (withDev s (cancelReads s.dev 3 n.val)) j
      let lost := j.hasRecord && !(rmwFailures x.1.dev j.record 16).isEmpty
      let x := (x.1, x.2.1, if x.2.2 = 0 ∧ lost then 7 else x.2.2)
      let st : Status := if x.2.2 = 0 then .ok else .state
      let s := if j.hasRecord then
          jobPut x.1 j.record (leBytes 4 j.seq ++ octets [st.code, x.2.2] ++ leBytes 2 0 ++ leBytes 8 x.2.1) 3
        else x.1
      let d := updChan (unmarkJob s.dev n.val) n.val (fun c =>
        { c with job := none, chain := if st = .ok ∧ j.next ≠ 0 ∧ j.aborted = none then some j.next else none })
      withDev s (reportList d n.val j.seq j.flags st x.2.2 x.2.1)

/-- A list put on a channel's queue of 8 (R503); none when it is full or STOP has closed it (R676). -/
def enqueueList (d : Dev) (n a : Nat) : Option Dev :=
  if 8 ≤ (chanOf d n).queue.length ∨ blockStopped d 5 then none else some (updChan d n (fun x => { x with queue := x.queue ++ [a] }))

/-- POST (R502, R503, R513). -/
def postOp (d : Dev) (n a : Nat) : Dev × Status × List Byte :=
  if nGet d (dma_OWNER n) ≠ 0 then (d, .access, [])
  else if a ≥ 2 ^ 64 then (d, .range, [])
  else match enqueueList d n a with
  | none => (d, .busy, [])
  | some d => (d, .ok, beBytes 8 (chanOf d n).queue.length)

/-- ABORT (R511): the queue empties, and the running list stops. -/
def abortOp (d : Dev) (n arg : Nat) : Dev × Status × List Byte :=
  if arg ≠ 0 then (d, .range, [])
  else (updChan d n (fun x => { x with queue := [], chain := none, job := x.job.map (fun j => { j with aborted := some d.now }) }), .ok, [])

/-- Whether a value is one that OWNER takes (R513, R525): 0 for the host, or member 0 of a beam program object. -/
def ownerOk (v : Val) : Bool :=
  match v with
  | .num r => decide (r = 0) || (decide (refClass r = 0x17) && decide (refMember r = 0))
  | .bytes _ => true

/-- A write of OWNER or ALIGN (R513). -/
def chanWrite (d : Dev) (n mem : Nat) (v : Val) : Dev × Status × List Byte :=
  let x := chanOf d n
  if (mem = 1 ∨ mem = 2) ∧ (x.job.isSome ∨ x.queue ≠ [] ∨ x.chain.isSome) then (d, .state, [])
  else if mem = 1 ∧ ownerOk v = false then (d, .range, [])
  else plainWrite d (mref 0x60 n mem) v

/-- A field of a blitter command (R517). -/
def cmdField (c : List Byte) (o n : Nat) : Nat := ofLe (sliceOf c o n)

/-- The image side of a command: base, pitch, x, y (R517); `src` selects the source. -/
structure Img where
  base : Nat
  pitch : Nat
  x : Nat
  y : Nat
  deriving DecidableEq, Repr

/-- The destination image. -/
def cmdDst (c : List Byte) : Img := { base := cmdField c 8 8, pitch := cmdField c 24 4, x := cmdField c 32 2, y := cmdField c 34 2 }
/-- The source image. -/
def cmdSrc (c : List Byte) : Img := { base := cmdField c 16 8, pitch := cmdField c 28 4, x := cmdField c 36 2, y := cmdField c 38 2 }
/-- W of a command. -/
def cmdW (c : List Byte) : Nat := cmdField c 40 2
/-- H of a command. -/
def cmdH (c : List Byte) : Nat := cmdField c 42 2
/-- FORMAT of a command. -/
def cmdFormat (c : List Byte) : Nat := cmdField c 44 1
/-- TRANSFORM of a command. -/
def cmdTransform (c : List Byte) : Nat := cmdField c 3 1
/-- Width of the source rectangle (R519). -/
def cmdSrcW (c : List Byte) : Nat := if cmdTransform c % 2 = 1 then cmdH c else cmdW c
/-- Height of the source rectangle (R519). -/
def cmdSrcH (c : List Byte) : Nat := if cmdTransform c % 2 = 1 then cmdW c else cmdH c

/-- Octet of line y at which element x of a format begins (R517). -/
def Img.at (g : Img) (f x y : Nat) : Nat := g.base + y * g.pitch + x * formatHalf f / 2

/-- The octets of a line of a rectangle of w pixels: address and length. -/
def Img.row (g : Img) (f w v : Nat) : Nat × Nat :=
  let a := g.at f g.x (g.y + v)
  (a, g.base + (g.y + v) * g.pitch + ceilDiv ((g.x + w) * formatHalf f) 2 - a)

/-- The source pixel of a destination pixel (R519), inside their rectangles. -/
def sourcePixel (c : List Byte) (u v : Nat) : Nat × Nat :=
  let w := cmdW c
  let h := cmdH c
  let u := if bitOf (cmdTransform c) 2 then w - 1 - u else u
  match cmdTransform c % 4 with
  | 0 => (u, v)
  | 1 => (v, w - 1 - u)
  | 2 => (w - 1 - u, h - 1 - v)
  | _ => (h - 1 - v, u)

/-- Whether the clip rectangles let a destination pixel be written (R521). -/
def clipLets (clip : List (Nat × Nat × Nat × Nat)) (x y : Nat) : Bool :=
  clip.isEmpty || clip.any (fun r => decide (r.1 ≤ x) && decide (x < r.2.2.1) && decide (r.2.1 ≤ y) && decide (y < r.2.2.2))

/-- The lines of the destination rectangle that a clip rectangle reaches (R522). -/
def reachedLines (c : List Byte) (clip : List (Nat × Nat × Nat × Nat)) : List Nat :=
  (List.range (cmdH c)).filter (fun v => clip.isEmpty || clip.any (fun r =>
    decide (r.2.1 ≤ (cmdDst c).y + v) && decide ((cmdDst c).y + v < r.2.2.2) && decide (r.1 < (cmdDst c).x + cmdW c) &&
    decide ((cmdDst c).x < r.2.2.1) && decide (r.1 < r.2.2.1)))

/-- Whether an operation accepts a format (R518). -/
def blitFormat (c : List Byte) : Bool :=
  let f := cmdFormat c
  let op := cmdField c 0 1
  let even := decide (cmdField c 32 2 % 2 = 0) && decide (cmdW c % 2 = 0)
  let evenSrc := decide (cmdField c 36 2 % 2 = 0)
  if op = 1 then decide (1 ≤ f) && decide (f ≤ 8) && (decide (f ≠ 8) || even)
  else if cmdTransform c = 0 then
    decide (formatHalf f ≠ 0) && ((decide (1 ≤ f) && decide (f ≤ 8)) || decide (0x20 ≤ f)) &&
      (!(decide (f = 8) || format422 f) || (even && evenSrc))
  else decide (1 ≤ f) && decide (f ≤ 7)

/-- The range check of a FILL or COPY (R508, R517, R520): fields, then format, then the right edges. -/
def blitRange (c : List Byte) : Option (Status × Nat) :=
  let f := cmdFormat c
  let copy := cmdField c 0 1 = 2
  if decide (2 ≤ cmdField c 1 1) || (copy && decide (8 ≤ cmdTransform c)) || decide (cmdW c = 0) || decide (8192 < cmdW c) ||
     decide (cmdH c = 0) || decide (8192 < cmdH c) || decide (cmdField c 46 2 ≠ 0) || decide (cmdField c 52 12 ≠ 0) then
    some (.range, 1)
  else if blitFormat c = false then some (.range, 9)
  else if (cmdDst c).pitch < ceilDiv (((cmdDst c).x + cmdW c) * formatHalf f) 2 then some (.range, 1)
  else if copy ∧ (cmdSrc c).pitch < ceilDiv (((cmdSrc c).x + cmdSrcW c) * formatHalf f) 2 then some (.range, 1)
  else none

/-- The byte hull of a rectangle (R523): first octet and length. -/
def Img.hull (g : Img) (f w h : Nat) : Nat × Nat :=
  let a := g.at f g.x g.y
  (a, g.base + (g.y + h - 1) * g.pitch + ceilDiv ((g.x + w) * formatHalf f) 2 - a)

/-- Whether a COPY takes its source from the surface of its destination, rectangles that meet (R523). -/
def copyWithin (c : List Byte) : Bool :=
  let s := cmdSrc c
  let t := cmdDst c
  decide (cmdField c 0 1 = 2) && decide (s.base = t.base) && decide (s.pitch = t.pitch) &&
  decide (s.x < t.x + cmdW c) && decide (t.x < s.x + cmdSrcW c) && decide (s.y < t.y + cmdH c) && decide (t.y < s.y + cmdSrcH c)

/-- Whether a COPY's overlap is refused (R523). -/
def copyOverlaps (c : List Byte) : Bool :=
  let s := cmdSrc c
  let t := cmdDst c
  let f := cmdFormat c
  if s.base = t.base ∧ s.pitch = t.pitch then decide (cmdTransform c ≠ 0) && copyWithin c
  else rangesMeet (s.hull f (cmdSrcW c) (cmdSrcH c)) (t.hull f (cmdW c) (cmdH c))

/-- Address of a ring's slot (R515). -/
def slotAddr (d : Dev) (r i : Nat) : Nat := nGet d (ring_RING_ADDRESS r) + 64 + 64 * (i % max 1 (nGet d (ring_RING_SIZE r)))

/-- The octets that a command in slot i writes on completion: its slot and the ring's header (R524). -/
def ringWrites (d : Dev) (r i : Nat) : List (Nat × Nat) := [(slotAddr d r i, 64), (nGet d (ring_RING_ADDRESS r), 64)]

/-- The checks of a FILL or COPY (R508, R520, R522, R523). -/
def checkBlit (d : Dev) (r i : Nat) (c : List Byte) (clip : List (Nat × Nat × Nat × Nat)) : Option (Status × Nat) :=
  let f := cmdFormat c
  let copy := decide (cmdField c 0 1 = 2)
  let rows := (reachedLines c clip).map ((cmdDst c).row f (cmdW c))
  let srcRows := if copy then (List.range (cmdSrcH c)).map ((cmdSrc c).row f (cmdSrcW c)) else []
  match blitRange c with
  | some x => some x
  | none =>
    if (cmdDst c).base % 64 ≠ 0 ∨ (cmdDst c).pitch % 64 ≠ 0 ∨ (copy ∧ ((cmdSrc c).base % 64 ≠ 0 ∨ (cmdSrc c).pitch % 64 ≠ 0)) then
      some (.misaligned, 2)
    else if (srcRows.all (fun e => jobReads d e.1 e.2) && (rows ++ ringWrites d r i).all (fun e => jobWrites d e.1 e.2)) = false then
      some (.access, 3)
    else if copy && copyOverlaps c then some (.overlapReject, 4)
    else if (rows ++ ringWrites d r i).any (fun e => writeLeased d e.1 e.2) then some (.leaseViolation, 5)
    else none

/-- The rectangles of a CLIP (R521). -/
def clipRects (c : List Byte) : List (Nat × Nat × Nat × Nat) :=
  (List.range (cmdTransform c)).map (fun k =>
    (cmdField c (8 + 8 * k) 2, cmdField c (10 + 8 * k) 2, cmdField c (12 + 8 * k) 2, cmdField c (14 + 8 * k) 2))

/-- Whether it is a ring's turn (R514, the blitter's rotation): no command runs, and no ring that comes sooner after the one
served last has work. -/
def blitTurn (d : Dev) (r : Nat) : Bool :=
  (List.range 4).all (fun q => (ringOf d q).job.isNone) &&
  (((List.range 4).map (fun k => (d.movers.lastRing + 1 + k) % 4)).find? (fun q => ringActive d q) == some r)

/-- The ring's next command starts (R522), if it is of this kind: checks, marks, and for a CLIP its effect. A command of no
known OP starts with FILL and is refused. -/
def startBlit (s : State) (r kind : Nat) : State :=
  let d := s.dev
  let i := nGet d (ring_CONSUME r)
  if blitTurn d r = false ∨ dramServes d = false ∨ blockStopped d 5 then s
  else
    let a := slotAddr d r i
    let c := fabricBytes d s.mem a 64
    let op := cmdField c 0 1
    let known := op = 1 ∨ op = 2 ∨ op = 3
    let readable := jobReads d a 64
    if (readable ∧ known ∧ op ≠ kind) ∨ ((readable = false ∨ ¬ known) ∧ kind ≠ 1) then s
    else
      let x := ringOf d r
      let hd := nGet d (ring_RING_ADDRESS r)
      let job := fun (st : Status) (det : Nat) => some ({ cmd := c, status := st.code, detail := det, clip := x.clip, index := i,
                                                           slot := a, header := hd, again := false, got := [] } : BlitJob)
      let poisoned := rangePoisoned d a 64
      let d := { (if readable then readRange d a 64 6 else d) with movers.lastRing := r }
      withDev s (
        if readable = false then updRing d r (fun x => { x with job := job .access 1 })
        else if poisoned then updRing d r (fun x => { x with job := job .state 6 })
        else if op = 3 then
          if 4 < cmdTransform c then updRing d r (fun x => { x with job := job .range 1 })
          else updRing d r (fun x => { x with job := job .ok 0, clip := clipRects c })
        else if ¬ known then updRing d r (fun x => { x with job := job .range 1 })
        else match checkBlit d r i c x.clip with
        | some (st, det) => updRing d r (fun x => { x with job := job st det })
        | none =>
          let f := cmdFormat c
          let rows := (reachedLines c x.clip).map ((cmdDst c).row f (cmdW c))
          let src := if op = 2 then (List.range (cmdSrcH c)).map ((cmdSrc c).row f (cmdSrcW c)) else []
          askSources (updRing (markJob d (32 + r) (rows ++ ringWrites d r i) src) r (fun x => { x with job := job .ok 0 })) 6 r src)

/-- One octet of a destination line: what the pixels of the command that lie in it write (R519, R521), if any does. -/
def blitByte (d : Dev) (m : List Host.Cell) (j : BlitJob) (v a : Nat) : Option Move :=
  let c := j.cmd
  let f := cmdFormat c
  let e := formatHalf f
  let t := cmdDst c
  let off := a - (t.base + (t.y + v) * t.pitch)
  let from' := fun (u k : Nat) =>
    let q := sourcePixel c u v
    (cmdSrc c).at f ((cmdSrc c).x + q.1) ((cmdSrc c).y + q.2) + k
  let lets := fun (u : Nat) => clipLets j.clip (t.x + u) (t.y + v)
  if e = 1 then
    let u := 2 * off - t.x
    let old := fabricByte d m a
    let new : Byte := if cmdField c 0 1 = 1 then BitVec.ofNat 8 (cmdField c 48 1 % 16 * 17) else gotByte d m j.got (from' u 0)
    if lets u || lets (u + 1) then
      some { dst := a, src := if cmdField c 0 1 = 1 then none else some (from' u 0),
             val := BitVec.ofNat 8 ((if lets u then new.toNat % 16 else old.toNat % 16) +
               16 * (if lets (u + 1) then new.toNat / 16 else old.toNat / 16)) }
    else none
  else
    let b := max 1 (e / 2)
    let u := off / b - t.x
    let k := off % b
    if lets u then
      if cmdField c 0 1 = 1 then some { dst := a, src := none, val := BitVec.ofNat 8 (cmdField c 48 4 / 256 ^ k) }
      else some { dst := a, src := some (from' u k), val := gotByte d m j.got (from' u k) }
    else none

/-- A command's moves, one list for each line (R519). -/
def blitLines (d : Dev) (m : List Host.Cell) (j : BlitJob) : List (List Move) :=
  (List.range (cmdH j.cmd)).map (fun v =>
    let r := (cmdDst j.cmd).row (cmdFormat j.cmd) (cmdW j.cmd) v
    (List.range r.2).filterMap (fun k => blitByte d m j v (r.1 + k)))

/-- A command's moves (R519, R523): the result of a copy through a temporary image. -/
def blitMoves (d : Dev) (m : List Host.Cell) (j : BlitJob) : List Move := (blitLines d m j).flatten

/-- Whether a command takes its columns from right to left (R523). -/
def blitBack (c : List Byte) : Bool := copyWithin c && decide ((cmdSrc c).x < (cmdDst c).x)

/-- A command's moves in its own order (R523): rows from bottom to top, columns from right to left, where the copy must; from
top to bottom and left to right elsewhere (assumption log 87). -/
def blitOwn (d : Dev) (m : List Host.Cell) (j : BlitJob) : List Move :=
  let ls := blitLines d m j
  let ls := if copyWithin j.cmd && decide ((cmdSrc j.cmd).y < (cmdDst j.cmd).y) then ls.reverse else ls
  (if blitBack j.cmd then ls.map List.reverse else ls).flatten

/-- PRODUCE of a ring as the blitter reads it (R515, R516). A poisoned one is no value that the spec states: it is a free value
(assumption log 4). -/
def readProduce (d : Dev) (m : List Host.Cell) (r : Nat) : Dev × Nat :=
  let hd := nGet d (ring_RING_ADDRESS r)
  let d' := readRange d hd 4 6
  if rangePoisoned d hd 4 then (freeUsed d', freeNat d' 32) else (d', fabricLe d m hd 4)

/-- A kick (R516): PRODUCE is read now, or after the command that runs. -/
def kickRing (d : Dev) (m : List Host.Cell) (r : Nat) : Dev :=
  if nGet d (ring_ENABLE r) = 0 then d
  else if (ringOf d r).job.isSome then updRing d r (fun x => { x with rekick := true })
  else
    let p := readProduce d m r
    updRing p.1 r (fun x => { x with produce := p.2 })

/-- BLIT_COMMAND_COMPLETE (R499, R500, R524, R525): where the read-modify-write of the slot or of the header fails, the command fails, and
that write alone is dropped (assumption log 140). After an ENABLE of the ring while it ran, CONSUME stays as ENABLE set it (assumption log
135). -/
def doBlitCommandComplete (r : Fin 4) (s : State) : State :=
  match (ringOf s.dev r.val).job with
  | none => s
  | some j =>
    if dramServes s.dev = false ∨ jobReady s.dev 6 r.val j.got = false then s
    else
      let op := cmdField j.cmd 0 1
      let s := withDev s (cancelReads s.dev 6 r.val)
      let x := if j.status = 0 ∧ op ≠ 3 then runMoves s j.got (blitMoves s.dev s.mem j) (blitOwn s.dev s.mem j) (blitBack j.cmd) 6 else (s, 0, 0)
      let s := x.1
      let may := fun (d : Dev) (p n : Nat) => jobWrites d p n && !writeLeased d p n
      let lost := fun (p n : Nat) => may s.dev p n && !(rmwFailures s.dev p n).isEmpty
      let fails := decide (j.status = 0) && decide (x.2.2 = 0) && (lost (j.slot + 2) 1 || lost (j.slot + 45) 1 || lost (j.header + 8) 8)
      let det := if fails then 7 else if x.2.2 = 0 then j.detail else x.2.2
      let st := if fails ∨ x.2.2 ≠ 0 then Status.state.code else j.status
      let next := if j.again then nGet s.dev (ring_CONSUME r.val) else (j.index + 1) % 2 ^ 32
      let put := fun (s : State) (p : Nat) (b : List Byte) => if may s.dev p b.length then jobPut s p b 6 else s
      let s := put (put s (j.slot + 2) (octets [st])) (j.slot + 45) (octets [det])
      let s := put (put s (j.header + 8) (sliceOf j.cmd 4 4)) (j.header + 12) (leBytes 4 next)
      let d := updRing (unmarkJob s.dev (32 + r.val)) r.val (fun x => { x with job := none, rekick := false })
      let d := nSet d (ring_CONSUME r.val) next
      let d := if st = 0 then nInc d (ring_COMMANDS_DONE r.val) else nInc d (ring_COMMANDS_FAILED r.val)
      let d := if (ringOf s.dev r.val).rekick then kickRing d s.mem r.val else d
      let d := reportRings d
      let d := if st = 0 then (if cmdField j.cmd 1 1 % 2 = 1 then raise d (816 + 4 * r.val) else d)
        else raise d (816 + 4 * r.val + 1)
      withDev s d

/-- KICK (R516, R525). -/
def kickOp (m : List Host.Cell) (d : Dev) (r arg : Nat) : Dev × Status × List Byte :=
  if arg ≠ 0 then (d, .range, [])
  else if nGet d (ring_OWNER r) ≠ 0 then (d, .access, [])
  else if nGet d (ring_ENABLE r) = 0 then (d, .state, [])
  else (kickRing d m r, .ok, [])

/-- A write of ENABLE (R525): on 1 the blitter reads PRODUCE, sets CONSUME to it and clears the clip state. -/
def ringEnable (s : State) (r v : Nat) : State × Status × List Byte :=
  if v > 1 then (s, .range, [])
  else if v = 0 then (withDev s (reportRings (nSet s.dev (ring_ENABLE r) 0)), .ok, [])
  else
    let d := s.dev
    let hd := nGet d (ring_RING_ADDRESS r)
    let (d, p) := readProduce d s.mem r
    let d := nSets d [(ring_ENABLE r, 1), (ring_CONSUME r, p)]
    let d := updRing d r (fun x => { x with produce := p, clip := [], job := x.job.map (fun j => { j with again := true }) })
    let s := withDev s d
    (if jobWrites s.dev (hd + 12) 4 then jobPut s (hd + 12) (leBytes 4 p) 6 else s, .ok, [])

/-- Whether RING_ADDRESS meets R495 and R496 with a size (R525). -/
def ringAddressOk (d : Dev) (a n : Nat) : Bool :=
  decide (a % 64 = 0) && decide (a < 2 ^ 40) && jobReads d a (64 + 64 * n) && jobWrites d a 64

/-- Whether a new RING_SIZE makes the commands of a ring's address break R495 where the old one did not (R525). -/
def sizeBreaks (d : Dev) (r n : Nat) : Bool :=
  let a := nGet d (ring_RING_ADDRESS r)
  jobReads d a (64 + 64 * nGet d (ring_RING_SIZE r)) && !jobReads d a (64 + 64 * n)

/-- A write of a ring's members but ENABLE and KICK (R525). -/
def ringWrite (d : Dev) (r mem : Nat) (v : Val) : Dev × Status × List Byte :=
  if (mem = 1 ∨ mem = 2 ∨ mem = 3) ∧ nGet d (ring_ENABLE r) = 1 then (d, .state, [])
  else if mem = 1 ∧ ownerOk v = false then (d, .range, [])
  else match mem, v with
  | 3, .num n => if sizeBreaks d r n then (d, .range, []) else plainWrite d (mref 0x61 r 3) v
  | 2, .num a => if ringAddressOk d a (nGet d (ring_RING_SIZE r)) then (nSet d (ring_RING_ADDRESS r) a, .ok, []) else (d, .range, [])
  | _, _ => plainWrite d (mref 0x61 r mem) v

/-- A DOORBELL write by a program, or by 0 for none (R612, R613, R516). -/
def doorbell (d : Dev) (m : List Host.Cell) (prog : Ref) (v : Nat) : Dev :=
  let n := fieldOf v 0 10
  let amt := if fieldOf v 16 8 = 0 then 1 else fieldOf v 16 8
  if 960 ≤ n then raiseBy d n amt
  else if 816 ≤ n ∧ n < 832 ∧ n % 4 = 2 then
    let r := (n - 816) / 4
    if nGet d (ring_OWNER r) = prog ∧ prog ≠ 0 then kickRing (raiseBy d n amt) m r
    else nInc d (ring_FOREIGN_KICKS r)
  else nInc d evCtl_DOORBELL_REJECTS

/-- POST (R503). -/
def doPost (sess : Nat) (n : Fin 32) (addr : Nat) (d : Dev) : Dev := withGate d sess (dma_POST n.val) (fun d => postOp d n.val addr)
/-- ABORT (R511). -/
def doAbort (sess : Nat) (n : Fin 32) (arg : Nat) (d : Dev) : Dev := withGate d sess (dma_ABORT n.val) (fun d => abortOp d n.val arg)
/-- KICK (R516). -/
def doKick (sess : Nat) (r : Fin 4) (arg : Nat) (m : List Host.Cell) (d : Dev) : Dev :=
  withGate d sess (ring_KICK r.val) (fun d => kickOp m d r.val arg)
/-- RING_ENABLE_WRITE (R525). -/
def doRingEnableWrite (sess : Nat) (r : Fin 4) (v : Nat) (s : State) : State :=
  withGateMem s sess (ring_ENABLE r.val) (fun s => ringEnable s r.val v)
/-- DOORBELL (R613): a write of the register by a beam program, or by no program. -/
def doDoorbell (writer : Ref) (v : Word) (m : List Host.Cell) (d : Dev) : Dev := doorbell d m writer v.toNat

/-- POST (R503). -/
def execPost (sess : Nat) (n : Fin 32) (addr : Nat) (s : State) : Res := .next (withDev s (doPost sess n addr s.dev))
/-- ABORT (R511). -/
def execAbort (sess : Nat) (n : Fin 32) (arg : Nat) (s : State) : Res := .next (withDev s (doAbort sess n arg s.dev))
/-- DMA_LIST_START (R508). -/
def execDmaListStart (n : Fin 32) (s : State) : Res := .next (doDmaListStart n s)
/-- DMA_LIST_COMPLETE (R499). -/
def execDmaListComplete (n : Fin 32) (s : State) : Res := .next (doDmaListComplete n s)
/-- KICK (R516). -/
def execKick (sess : Nat) (r : Fin 4) (arg : Nat) (s : State) : Res := .next (withDev s (doKick sess r arg s.mem s.dev))
/-- RING_ENABLE_WRITE (R525). -/
def execRingEnableWrite (sess : Nat) (r : Fin 4) (v : Nat) (s : State) : Res := .next (doRingEnableWrite sess r v s)
/-- FILL (R519). -/
def execFill (r : Fin 4) (s : State) : Res := .next (startBlit s r.val 1)
/-- COPY (R523). -/
def execCopy (r : Fin 4) (s : State) : Res := .next (startBlit s r.val 2)
/-- CLIP (R521). -/
def execClip (r : Fin 4) (s : State) : Res := .next (startBlit s r.val 3)
/-- BLIT_COMMAND_COMPLETE (R524). -/
def execBlitCommandComplete (r : Fin 4) (s : State) : Res := .next (doBlitCommandComplete r s)
/-- DOORBELL (R613). -/
def execDoorbell (writer : Ref) (v : Word) (s : State) : Res := .next (withDev s (doDoorbell writer v s.mem s.dev))

end Sys2Proof.Machine
end

