-- ==== Sys2Proof/Machine/Registers.lean ====
section
/-!
DEFINITION. Peripheral registers by address, and the crossings between clock islands (R4 to R6, R10 to R16, R460, R461, R590, R601).
-/
namespace Sys2Proof.Machine

/-- The clock island of a peripheral block instance (R11, R461). -/
def islandOf (i : Nat) : Nat :=
  if 0x0003 ≤ i ∧ i ≤ 0x000A then 92 + (i - 3)
  else if 0x0010 ≤ i ∧ i ≤ 0x001F then 44 + (i - 0x10)
  else if 0x0020 ≤ i ∧ i ≤ 0x003F then 12 + (i - 0x20)
  else if 0x0040 ≤ i ∧ i ≤ 0x005F then 60 + (i - 0x40)
  else if 0x0060 ≤ i ∧ i ≤ 0x006B then i - 0x60
  else if i = 0x0078 then 102
  else if 0x0080 ≤ i ∧ i ≤ 0x0085 then 101
  else if i = 0x0088 ∨ i = 0x0089 ∨ i = 0x008C ∨ i = 0x0090 then 104
  else if i = 0x008A ∨ i = 0x008B then 103
  else 100

/-- What a timer's counter has reached takes effect before a register of it changes (R602, R603). -/
def timerSettle (d : Dev) (n : Nat) : Dev := timerFire (timerFire (timerReload d n) n 0) n 1

/-- A write of a channel's register at an offset of its 64 octets (R601, R603, R604). -/
def timerWrite (d : Dev) (n off v : Nat) : Dev :=
  let d := timerSettle d n
  let c := timerCount d (timerOf d n)
  match off with
  | 0x00 => timerControl d n v
  | 0x04 => updTimer d n (fun t => { t with count := v, since := d.time.adv - (d.time.adv - t.since) % countStep t, next0 := v + 1, next1 := v + 1 })
  | 0x08 => periodWrite d n v
  | 0x0C => updTimer d n (fun t => { t with phase := v })
  | 0x10 => updTimer d n (fun t => { t with compare0 := v, next0 := c })
  | 0x14 => updTimer d n (fun t => { t with compare1 := v, next1 := c })
  | 0x18 => updTimer d n (fun t => { t with add0 := v })
  | 0x1C => updTimer d n (fun t => { t with add1 := v })
  | 0x20 => updTimer d n (fun t => { t with capSrc := fieldOf v 0 10, capEdge := fieldOf v 10 2, capFilter := fieldOf v 12 8, capDiv := fieldOf v 20 8 })
  | 0x28 => updTimer d n (fun t => { t with winOpen := v })
  | 0x2C => updTimer d n (fun t => { t with winClose := v })
  | 0x30 =>
    let stays := fun (t : Timer) (k : Nat) => !bitOf v k || justSet d.now t k
    updTimer d n (fun t => { t with periodShort := t.periodShort && stays t 0, capOvr := t.capOvr && stays t 2,
                                    capOutside := t.capOutside && stays t 3 })
  | _ => d

/-- A write of a cluster timer block's register (R601, R605). -/
def clusterWrite (d : Dev) (c off v : Nat) : Dev :=
  if off < 0x200 then timerWrite d (8 * c + off / 0x40) (off % 0x40) v
  else if off = 0x210 then updStart d c (fun g => { g with time := g.time / 2 ^ 32 * 2 ^ 32 + v })
  else if off = 0x214 then updStart d c (fun g => { g with time := v * 2 ^ 32 + g.time % 2 ^ 32 })
  else if off = 0x218 then startMaskWrite d c v
  else d

/-- A channel's register as a read returns it (R601). -/
def timerRead (d : Dev) (n off : Nat) : Nat :=
  let t := timerOf d n
  match off with
  | 0x00 => t.enable.toNat + 2 * t.wake.toNat + 4 * t.windowEn.toNat + t.prescale * 2 ^ 16
  | 0x04 => timerCount d t
  | 0x08 => t.period
  | 0x0C => t.phase
  | 0x10 => t.compare0
  | 0x14 => t.compare1
  | 0x18 => t.add0
  | 0x1C => t.add1
  | 0x20 => t.capSrc + t.capEdge * 2 ^ 10 + t.capFilter * 2 ^ 12 + t.capDiv * 2 ^ 20
  | 0x24 => t.capture
  | 0x28 => t.winOpen
  | 0x2C => t.winClose
  | 0x30 => t.periodShort.toNat + 2 * t.capNew.toNat + 4 * t.capOvr.toNat + 8 * t.capOutside.toNat
  | _ => 0

/-- TB_LO at 0 and TB_HI at 4 of a block that shows the timebase t (R590, R591): neither latches the other. -/
def tbWord (t off : Nat) : Nat :=
  if off = 0 then t % 2 ^ 32 / 4 * 4 else if off = 4 then t / 2 ^ 32 % 2 ^ 32 else 0

/-- The timebase block read by the Firekeeper (R588, R590). -/
def timebaseRead (d : Dev) (off : Nat) : Nat := tbWord (tbNs d) off

/-- A cluster timer block's register read, with what the read does (R590, R601, R607). The copy of the timebase lags by a free
value of at most 15 ns (assumption log 4). -/
def clusterRead (d : Dev) (c off : Nat) : Dev × Nat :=
  let tb := tbNs d - freeNat d 4
  let g := startOf d c
  if off < 0x200 then
    let n := 8 * c + off / 0x40
    if off % 0x40 = 0x24 then captureRead d n else (d, timerRead d n (off % 0x40))
  else match off with
  | 0x200 => (freeUsed d, tbWord tb 0)
  | 0x204 => (freeUsed d, tbWord tb 4)
  | 0x210 => (d, g.time % 2 ^ 32)
  | 0x214 => (d, g.time / 2 ^ 32)
  | 0x218 => (d, g.mask + 256 * g.late.toNat)
  | _ => (d, 0)

/-- A write takes effect on a pipe at a position, an untimed one at the beam's (R14, R196): palette and matrix registers change
from there on. -/
def pipeLand (d : Dev) (m : List Host.Cell) (p off val : Nat) (prog : Ref) (line col : Nat) (timed : Bool) : Dev :=
  let d := pipeWrite d p off val line prog timed
  match headOfPipe d p with
  | some h => if (0x0104 ≤ off ∧ off < 0x0300) ∨ (0x4000 ≤ off ∧ off < 0x8000) then recompose d m h line col else d
  | none => d

/-- A register access takes effect at its destination island (R14). -/
def applyReg (d : Dev) (m : List Host.Cell) (w : RegWrite) : Dev :=
  let v := w.val.toNat
  if w.isRead then (if w.dst < 12 then (clusterRead d w.dst (w.addr % 0x10000)).1 else d)
  else if 12 ≤ w.dst ∧ w.dst < 44 then
    let pos := beamPos d ((headOfPipe d (w.dst - 12)).getD 0)
    pipeLand d m (w.dst - 12) w.addr v w.prog pos.1 pos.2 false
  else if 44 ≤ w.dst ∧ w.dst < 60 then headWrite d (w.dst - 44) w.addr v w.prog false (beamPos d (w.dst - 44))
  else if w.dst < 12 then clusterWrite d w.dst (w.addr % 0x10000) v
  else if w.addr = 0x2000010000 then
    doorbell d m w.prog v
  else d

/-- An access to an island without power (R16, R730). -/
def countOff (d : Dev) (isl : Nat) : Dev :=
  if d.islands.off.contains isl then nSet (nInc d ctrCtl_ISLAND_OFF_ACCESSES) ctrCtl_LAST_OFF_ISLAND isl else d

/-- A register access reaches its island (R16): a gated island holds it, one without power drops it and counts it. -/
def arriveReg (d : Dev) (m : List Host.Cell) (w : RegWrite) : Dev :=
  if d.islands.off.contains w.dst then countOff d w.dst
  else if d.islands.gated.contains w.dst then { d with islands.waiting := d.islands.waiting ++ [w] }
  else applyReg d m w

/-- A register write leaves its source island (R13, R14): within one island it takes effect at once. -/
def sendReg (d : Dev) (m : List Host.Cell) (w : RegWrite) : Dev :=
  if w.src = w.dst then arriveReg d m w else { d with islands.crossing := d.islands.crossing ++ [w] }

/-- Whether an island reaches a peripheral register (R327, R460): the Firekeeper all of them, a cluster DOORBELL and its own
timer channels. -/
def reaches (src i off : Nat) : Bool :=
  decide (src = 103) || (decide (src < 12) && (decide (i = 0x0060 + src) || (decide (i = 0x0001) && decide (off = 0))))

/-- REGISTER_WRITE (R6, R13): a write to a peripheral register from an island. -/
def doRegisterWrite (src : Fin 105) (addr : Nat) (v : Word) (m : List Host.Cell) (d : Dev) : Dev :=
  match placeOf d addr with
  | .periph i off =>
    if reaches src.val i off then
      let dst := islandOf i
      let a := if 12 ≤ dst ∧ dst < 60 then off else addr
      sendReg d m { src := src.val, dst := dst, addr := a, val := v, thread := 0, prog := 0, isRead := false }
    else nInc d mem_UNMAPPED_ACCESSES
  | _ => nInc d mem_UNMAPPED_ACCESSES

/-- The oldest write from a source to a destination taken out of the crossings (R13). -/
def takeCrossing (dst src : Nat) : List RegWrite → Option (RegWrite × List RegWrite)
  | [] => none
  | w :: l =>
    if w.dst = dst ∧ w.src = src then some (w, l)
    else (takeCrossing dst src l).map (fun x => (x.1, w :: x.2))

/-- Writes from some islands arrive in one destination cycle, applied in rising source order (R15). -/
def arriveFrom (m : List Host.Cell) (dst : Nat) (d : Dev) (src : Nat) : Dev :=
  match takeCrossing dst src d.islands.crossing with
  | none => d
  | some (w, l) => arriveReg { d with islands.crossing := l } m w

/-- UNTIMED_WRITE_ARRIVAL (R14, R15). -/
def doUntimedWriteArrival (dst : Fin 105) (srcs : List (Fin 105)) (m : List Host.Cell) (d : Dev) : Dev :=
  ((List.range 105).filter (fun i => srcs.any (fun x => decide (x.val = i)))).foldl (arriveFrom m dst.val) d

/-- GATED_ISLAND_ACCESS_RESUME (R16): the island's clock is restored and the accesses that waited complete in order. -/
def doGatedIslandAccessResume (isl : Fin 105) (m : List Host.Cell) (d : Dev) : Dev :=
  let ws := d.islands.waiting.filter (fun w => decide (w.dst = isl.val))
  let d := { d with islands.gated := d.islands.gated.filter (fun i => decide (i ≠ isl.val)),
                    islands.waiting := d.islands.waiting.filter (fun w => decide (w.dst ≠ isl.val)) }
  ws.foldl (fun d w => applyReg d m w) d

/-- An access of a cluster's timer block at an offset, from its own island (R11, R16, R327). -/
def timerAccess (d : Dev) (m : List Host.Cell) (c off : Nat) (v : Word) (isRead : Bool) : Dev :=
  arriveReg d m { src := c, dst := c, addr := off, val := v, thread := 0, prog := 0, isRead := isRead }

/-- CAPTURE_READ (R607): the read clears CAP_NEW. -/
def doCaptureRead (n : Fin 96) (m : List Host.Cell) (d : Dev) : Dev := timerAccess d m (n.val / 8) (0x40 * (n.val % 8) + 0x24) 0 true
/-- TIMER_ENABLE_WRITE (R601). -/
def doTimerEnableWrite (n : Fin 96) (v : Word) (m : List Host.Cell) (d : Dev) : Dev :=
  timerAccess d m (n.val / 8) (0x40 * (n.val % 8)) v false
/-- PERIOD_WRITE (R604). -/
def doPeriodWrite (n : Fin 96) (v : Word) (m : List Host.Cell) (d : Dev) : Dev :=
  timerAccess d m (n.val / 8) (0x40 * (n.val % 8) + 8) v false
/-- START_MASK_WRITE (R605). -/
def doStartMaskWrite (c : Fin 12) (v : Word) (m : List Host.Cell) (d : Dev) : Dev := timerAccess d m c.val 0x218 v false

/-- CAPTURE_READ (R607). -/
def execCaptureRead (n : Fin 96) (s : State) : Res := .next (withDev s (doCaptureRead n s.mem s.dev))
/-- TIMER_ENABLE_WRITE (R601). -/
def execTimerEnableWrite (n : Fin 96) (v : Word) (s : State) : Res := .next (withDev s (doTimerEnableWrite n v s.mem s.dev))
/-- PERIOD_WRITE (R604). -/
def execPeriodWrite (n : Fin 96) (v : Word) (s : State) : Res := .next (withDev s (doPeriodWrite n v s.mem s.dev))
/-- START_MASK_WRITE (R605). -/
def execStartMaskWrite (c : Fin 12) (v : Word) (s : State) : Res := .next (withDev s (doStartMaskWrite c v s.mem s.dev))

/-- REGISTER_WRITE (R6). -/
def execRegisterWrite (src : Fin 105) (addr : Nat) (v : Word) (s : State) : Res :=
  .next (withDev s (doRegisterWrite src addr v s.mem s.dev))
/-- UNTIMED_WRITE_ARRIVAL (R14). -/
def execUntimedWriteArrival (dst : Fin 105) (srcs : List (Fin 105)) (s : State) : Res :=
  .next (withDev s (doUntimedWriteArrival dst srcs s.mem s.dev))
/-- GATED_ISLAND_ACCESS_RESUME (R16). -/
def execGatedIslandAccessResume (isl : Fin 105) (s : State) : Res :=
  .next (withDev s (doGatedIslandAccessResume isl s.mem s.dev))

end Sys2Proof.Machine
end

