-- ==== Sys2Proof/Machine/Operands.lean ====
section
/-!
DEFINITION. BE32 operands (beam and BE32 chapters): addressing modes, the scratchpad view and the store buffer, the far window and
the data cache, the beam port and its mirror (R321 to R330, R338 to R344, R347, R363 to R366).
-/
namespace Sys2Proof.Machine

/-- What an operand access gives: a value, a wait, or a thread fault with its code (R350). -/
inductive Got where
  | val (v : Word)
  | wait (d : Dev)
  | fault (code : Nat)
  deriving DecidableEq, Repr

/-- FOOTPRINT of a thread's program as it was placed (R324). -/
def footprint (d : Dev) (t : Nat) : Nat := (threadOf d t).footprint

/-- The present time in picoseconds. -/
def nowPs (d : Dev) : Nat := d.now * 1000

/-- n engine cycles in picoseconds, rounded up: 1.2 GHz, or 1.5 GHz in boost (R11, R318). -/
def cyclesPs (d : Dev) (n : Nat) : Nat := ceilDiv (n * (if nGet d boost_STATE = 1 then 2000 else 2500)) 3

/-- Operand bits sign-extended (R363). -/
def immSigned (w : Be32Op) : Word := w.operand.signExtend 32

/-- Operand bits extended with zeros (R363). -/
def immUnsigned (w : Be32Op) : Word := w.operand.zeroExtend 32

/-- An address with the low bits of its width cleared (R364). -/
def alignTo (a n : Nat) : Nat := a / n * n

/-- An octet of a thread's scratchpad view. -/
def scratchByte (d : Dev) (t a : Nat) : Byte := BitVec.ofNat 8 (mapGet d.beam.scratch (scratchKey d t a) 0)

/-- Octets drained into a thread's scratchpad view (R321). An uncorrectable word stays so (R483). -/
def scratchPut (d : Dev) (t a : Nat) (bs : List Byte) : Dev :=
  let m := ((List.range bs.length).zip bs).foldl (fun m e => mapSet m (scratchKey d t (a + e.1)) e.2.toNat 0) d.beam.scratch
  { d with beam.scratch := m }

/-- The SRAM word of 64 bits that an address of a thread's view lies in (R483). -/
def scratchWord (d : Dev) (t a : Nat) : Nat := scratchKey d t (alignTo a 8) / 8

/-- Whether a word of a thread's view holds an uncorrectable error (R350, R483). -/
def scratchBad (d : Dev) (t a : Nat) : Bool := d.dram.badWords.contains (scratchWord d t a)

/-- Whether a store-buffer entry overlaps n octets at a. -/
def entryMeets (a n : Nat) (e : StoreEntry) : Bool := decide (e.addr < a + n) && decide (a < e.addr + e.bytes.length)

/-- Whether a store-buffer entry covers n octets at a. -/
def entryCovers (a n : Nat) (e : StoreEntry) : Bool := decide (e.addr ≤ a) && decide (a + n ≤ e.addr + e.bytes.length)

/-- A load of n octets from the thread's view (R322, R324): the newest overlapping store-buffer entry serves it if it covers
it, else the load waits. -/
def scratchLoad (d : Dev) (t a n : Nat) : Got :=
  let a := alignTo a n
  if footprint d t ≤ a then .fault 2
  else match (threadOf d t).stores.reverse.find? (entryMeets a n) with
  | some e =>
    if entryCovers a n e then .val (BitVec.ofNat 32 (ofLe (sliceOf e.bytes (a - e.addr) n)))
    else .wait d
  | none =>
    if scratchBad d t a then .fault 5
    else .val (BitVec.ofNat 32 (ofLe ((List.range n).map (fun i => scratchByte d t (a + i)))))

/-- What SECDED makes of the read of a word of a thread's view (R483): an uncorrectable one is reported, and a single-bit error is corrected,
written back and counted. -/
def readWord (d : Dev) (t a : Nat) : Dev :=
  let w := scratchWord d t a
  if d.dram.badWords.contains w then sramBad d (8 * w) 8 0
  else if d.dram.softWords.contains w then sramCorrected { d with dram.softWords := d.dram.softWords.filter (· ≠ w) }
  else d

/-- Two words added modulo 2^32 (R363). -/
def addrSum (a b : Word) : Nat := (a + b).toNat

/-- The effective address of modes 1 to 5 (R363): a value, or what the pointer of mode 5 met. -/
def viewAddr (d : Dev) (t : Nat) (w : Be32Op) : Got :=
  let x := threadOf d t
  match w.mode.val with
  | 1 => .val (BitVec.ofNat 32 (w.operand.toNat % 1024))
  | 2 => .val (immUnsigned w)
  | 3 => .val (immUnsigned w + x.x)
  | 4 => .val (immUnsigned w + x.y)
  | _ =>
    match scratchLoad d t (w.operand.toNat % 1024) 4 with
    | .val p => .val (p + x.y)
    | g => g

/-- The far-window address of an operand (R326). -/
def farAddr (d : Dev) (t : Nat) (w : Be32Op) (n : Nat) : Nat :=
  alignTo (((threadOf d t).farBase + w.operand.toNat) % 2 ^ 40) n

/-- What a far-window address reaches (R327): 0 DRAM, 1 a cluster bank, 2 the Hearth store, 3 DOORBELL, 4 the timer block of the
thread's cluster, 5 nothing. The reserved segment counts as unassigned (R465). -/
def farKind (d : Dev) (t a : Nat) : Nat :=
  match placeOf d a with
  | .dram s => if s = nGet d mem_RESERVED_SEGMENT then 5 else 0
  | .bank _ => 1
  | .store => 2
  | .periph i off =>
    if i = 1 ∧ off < 4 then 3
    else if i = 0x60 + t / 32 then 4 else 5
  | .none => 5

/-- Key of an address' line in an engine's data cache (R328). -/
def cacheKey (t a : Nat) : Nat := t / 4 * 2 ^ 34 + a / 64

/-- A line of the data cache, if it is held. -/
def cacheLine (d : Dev) (t a : Nat) : Option (List Byte) := mapFind d.beam.dcache (cacheKey t a)

/-- The lines of an engine's set that an address falls into: 32 sets of 4 ways (R328). -/
def cacheSet (d : Dev) (t a : Nat) : List Nat :=
  (d.beam.dcache.filter (fun e => decide (e.1 / 2 ^ 34 = t / 4) && decide (e.1 % 32 = a / 64 % 32))).map (·.1)

/-- A line filled from memory; in a full set a free value names the way that goes (R328; assumption log 4). -/
def fillLine (d : Dev) (m : List Host.Cell) (t a : Nat) : Dev :=
  let ways := cacheSet d t a
  let victim := ways.getD (freeNat d 2) 0
  let kept := if 4 ≤ ways.length then mapErase d.beam.dcache victim else d.beam.dcache
  let d := if 4 ≤ ways.length then freeUsed d else d
  { d with beam.dcache := mapPut kept (cacheKey t a) (fabricBytes d m (a / 64 * 64) 64) }

/-- The lines of an engine's data cache that a store hits take its octets (R327). -/
def cacheStore (d : Dev) (t a : Nat) (bs : List Byte) : Dev :=
  match cacheLine d t a with
  | none => d
  | some l => { d with beam.dcache := mapPut d.beam.dcache (cacheKey t a) (patchBytes l (a % 64) bs) }

/-- A data-cache line invalidated (R383). -/
def dropLine (d : Dev) (t a : Nat) : Dev := { d with beam.dcache := mapErase d.beam.dcache (cacheKey t a) }

/-- An engine's whole data cache invalidated (R383). -/
def dropLines (d : Dev) (t : Nat) : Dev :=
  { d with beam.dcache := d.beam.dcache.filter (fun e => decide (e.1 / 2 ^ 34 ≠ t / 4)) }

/-- The part of a register's word that a narrower access takes (R364). -/
def wordPart (v a n : Nat) : Word := BitVec.ofNat 32 (v >>> (8 * (a % 4)) % 256 ^ n)

/-- A load of n octets through the far window (R327, R369): nothing reads 0, a cached line answers, all else waits for its data. -/
def farLoad (d : Dev) (t : Nat) (w : Be32Op) (n : Nat) : Got :=
  let a := farAddr d t w n
  match (threadOf d t).arrived with
  | some v => .val v
  | none =>
    match farKind d t a with
    | 5 => .val 0
    | 0 =>
      match cacheLine d t a with
      | some l => .val (BitVec.ofNat 32 (ofLe (sliceOf l (a % 64) n)))
      | none =>
        match channelOfAddr d a with
        | none => .val 0
        | some c =>
          .wait (if readsOf d 4 t = 0 then askRead d { cls := 4, unit := t, block := a / 256, chan := c, cancelled := false } else d)
    | _ => .wait d

/-- The head of a thread's program, if it has one. -/
def threadHead (d : Dev) (t : Nat) : Option Nat := if (threadOf d t).head < 16 then some (threadOf d t).head else none

/-- The live TARGET that a beam-port operand names (R338, R339). -/
def portTarget (d : Dev) (t : Nat) (w : Be32Op) : Ref :=
  liveNat d ((threadOf d t).head % 16) (prog_TARGET (refInst (threadOf d t).prog) (w.operand.toNat / 65536))

/-- The pipes of a band (R339). -/
def bandPipes (d : Dev) (b : Ref) : List Nat :=
  match d.stoker.bands.find? (fun p => decide (p.band = b)) with
  | some p => placePipes p
  | none => []

/-- The receivers of a layer and its slot (R339, R340): none unless it is composed. -/
def layerPipes (d : Dev) (h : Nat) (l : Ref) : List Nat × Nat :=
  let v := liveView d h
  match d.stoker.bands.find? (fun p => decide (p.band = v.nat (layer_BAND (refInst l)))) with
  | none => ([], 0)
  | some p =>
    if v.nat (layer_ENABLE (refInst l)) ≠ 1 ∨ withdrawnOn d h l then ([], 0)
    else
      let acts := mapGet d.stoker.effective p.head []
      match findIdxFrom (fun st => st.contains l) 0 (liveStages d p) with
      | none => ([], 0)
      | some (s, st) =>
        ((List.range p.split).map (fun i => p.first + s * p.split + i),
         (((stageSlots (liveView d p.head) acts st).find? (fun e => decide (e.2 = l))).map (·.1)).getD 0)

/-- The islands that a beam-port access reaches and the offset in their windows (R339); none when it is dropped (R340). -/
def portReach (d : Dev) (t : Nat) (w : Be32Op) : List Nat × Nat :=
  let h := (threadOf d t).head % 16
  let off := w.operand.toNat % 65536
  let r := portTarget d t w
  if r = 0 ∨ off % 4 ≠ 0 then ([], 0)
  else match refClass r with
  | 0x10 => if off < 0x100 then ([44 + refInst r], off) else ([], 0)
  | 0x11 => ((bandPipes d r).map (· + 12), off)
  | 0x12 =>
    let x := layerPipes d h r
    if 0x0140 ≤ off ∧ off < 0x0300 then ([], 0)
    else (x.1.map (· + 12), if 0x0100 ≤ off ∧ off < 0x0140 then off + 0x40 * x.2 else off)
  | _ => ([], 0)

/-- A register of a head or pipe island as a read returns it; one without power reads 0 (R16). -/
def islandRead (d : Dev) (m : List Host.Cell) (isl off : Nat) : Nat :=
  if d.islands.off.contains isl then 0
  else if isl < 44 then pipeRead d m (isl - 12) off else headRead d (isl - 44) off

/-- A beam-port load (R339, R340): it waits for its data, and one that would be dropped reads 0. -/
def portLoad (d : Dev) (t : Nat) (w : Be32Op) : Got :=
  match threadHead d t with
  | none => .fault 6
  | some _ =>
    match (threadOf d t).arrived with
    | some v => .val v
    | none => if (portReach d t w).1.isEmpty then .val 0 else .wait d

/-- The words of its view that an operand of n octets reads, up to the first uncorrectable one (R363, R483): the pointer of mode 5, and of a
load the word at the effective address unless the store buffer gives it. -/
def operandReads (d : Dev) (t : Nat) (w : Be32Op) (n : Nat) (load : Bool) : List Nat :=
  let p := w.operand.toNat % 1024
  let ptr := if w.mode = 5 ∧ ((threadOf d t).stores.reverse.find? (entryMeets (alignTo p 4) 4)).isNone then [alignTo p 4] else []
  match viewAddr d t w with
  | .val a =>
    let a := alignTo a.toNat n
    if load && decide (1 ≤ w.mode.val) && decide (w.mode.val ≤ 5) && decide (a < footprint d t) &&
      ((threadOf d t).stores.reverse.find? (entryMeets a n)).isNone then ptr ++ [a] else ptr
  | _ => if 1 ≤ w.mode.val ∧ w.mode.val ≤ 5 then ptr else []

/-- A load of n octets in any mode but 0 (R363, R364). -/
def loadOperand (d : Dev) (t : Nat) (w : Be32Op) (n : Nat) : Got :=
  match w.mode.val with
  | 6 => portLoad d t w
  | 7 => farLoad d t w n
  | _ =>
    match viewAddr d t w with
    | .val a => scratchLoad d t a.toNat n
    | g => g

/-- The operand value of an arithmetic or long operation, or of a word load (R363). -/
def operand (d : Dev) (t : Nat) (w : Be32Op) : Got := if w.mode = 0 then .val (immSigned w) else loadOperand d t w 4

/-- The beam mirror of a head lags its beam by k pixel clocks (R342): the frame by FRAME_COUNT, and the pixel in it. -/
def mirrorLag (d : Dev) (h k : Nat) : Nat × Nat :=
  let p := beamPixels d h
  let fc := nGet d (head_FRAME_COUNT h)
  let total := (headOf d h).timing.hTotal * (headOf d h).timing.vTotal
  if nGet d (head_STATE h) < 2 then (fc, 0)
  else if k ≤ p then (fc, p - k)
  else ((fc + 2 ^ 32 - 1) % 2 ^ 32, total + p - k)

/-- The mirror as an engine reads it now: 2 to 3 pixel clocks behind, which of the two is a free value (R342; assumption
log 4). -/
def mirror (d : Dev) (h : Nat) : Nat × Nat := mirrorLag d h (2 + freeNat d 1)

/-- Whether BK holds (R361, R362). -/
def bkHolds (d : Dev) (t : Nat) : Bool :=
  match threadHead d t with
  | none => false
  | some h =>
    let tm := (headOf d h).timing
    let c := (mirror d h).2 % max 1 tm.hTotal
    decide (tm.hActive ≤ c) && decide (c < tm.hTotal)

/-- Whether a pixel of a frame has been reached by one that a mirror or a beam shows, both counted by FRAME_COUNT. -/
def reached (f p : Nat) (at' : Nat × Nat) : Bool :=
  (decide (at'.1 = f) && decide (p ≤ at'.2)) || (decide (at'.1 ≠ f) && decide ((at'.1 + 1) % 2 ^ 32 ≠ f))

end Sys2Proof.Machine
end

