-- ==== Sys2Proof/Machine/Issue.lean ====
section
/-!
DEFINITION. The issue of a BE32 instruction (beam and BE32 chapters): fetch checks, conditions, the load delay, stores, timed
writes, waits and faults, shared by every instruction (R313 to R330, R338 to R350, R359 to R367, R375 to R384). A command is the
thread's issue of that instruction (assumption log 32).
-/
namespace Sys2Proof.Machine

/-- What an instruction whose condition holds does: it completes (with a load that is delayed, R366), transfers control, waits
to issue, enters a wait of its own, or faults. -/
inductive Ran where
  | done (s : State) (load : Option (Nat × Word))
  | jump (s : State) (pc : Word)
  | wait (s : State)
  | hold (s : State) (st : TState)
  | fault (code : Nat)

/-- An instruction's own effect. -/
abbrev Effect := State → Nat → Be32Op → Ran

/-- A thread of a state changed. -/
def withThread (s : State) (t : Nat) (f : Thread → Thread) : State := withDev s (updThread s.dev t f)

/-- A register written by number: 0 A, 1 X, 2 Y. -/
def setReg (x : Thread) (r : Nat) (v : Word) : Thread :=
  match r with
  | 0 => { x with a := v }
  | 1 => { x with x := v }
  | _ => { x with y := v }

/-- A load that was delayed lands, unless the instruction after it wrote its register (R366, R367). -/
def landLoad (x : Thread) (pend : Option (Nat × Word)) (wrote : Option Nat) : Thread :=
  match pend with
  | none => x
  | some (r, v) => if wrote = some r then x else setReg x r v

/-- The register that an opcode writes (R368). -/
def opWrites (op : Nat) : Option Nat :=
  if op = 0x01 ∨ op = 0x04 ∨ op = 0x05 then some 0
  else if op = 0x02 ∨ op = 0x0C then some 1
  else if op = 0x03 ∨ op = 0x0D then some 2
  else if 0x0E ≤ op ∧ op ≤ 0x12 then some 0
  else if 0x14 ≤ op ∧ op ≤ 0x1B then some 0
  else if 0x20 ≤ op ∧ op ≤ 0x24 then some 0
  else if op = 0x25 then some 1
  else if op = 0x26 then some 2
  else if op = 0x34 then some 0
  else none

/-- The modes that an opcode accepts; none for an undefined opcode (R360, R368). -/
def opModes (op : Nat) : List Nat :=
  if op = 0x01 ∨ op = 0x02 ∨ op = 0x03 then [0, 1, 2, 3, 4, 5, 6, 7]
  else if op = 0x04 ∨ op = 0x05 ∨ op = 0x09 ∨ op = 0x0A then [1, 2, 3, 4, 5, 7]
  else if op = 0x06 ∨ op = 0x07 ∨ op = 0x08 then [1, 2, 3, 4, 5, 6, 7]
  else if op = 0x0B then [6]
  else if 0x14 ≤ op ∧ op ≤ 0x2D ∧ op ≠ 0x27 then [0, 1, 2, 3, 4, 5, 6, 7]
  else if op = 0x30 ∨ op = 0x31 then [0, 2, 3]
  else if op = 0x38 then [0, 1, 2]
  else if op = 0x39 ∨ op = 0x3C then [0]
  else if op ≤ 0x13 ∨ (0x32 ≤ op ∧ op ≤ 0x37) ∨ op = 0x3A ∨ op = 0x3B then [0]
  else []

/-- Whether an opcode is legal only in performance mode (R382). -/
def opPerfOnly (op : Nat) : Bool := decide (op = 0x34) || decide (op = 0x35)

/-- Store-buffer entries that are due drain in order; in deterministic mode every one has drained before the thread's next
instruction (R321, R323). -/
def drainDue (d : Dev) (t : Nat) (all : Bool) : List StoreEntry → Dev
  | [] => updThread d t (fun x => { x with stores := [] })
  | e :: l =>
    if all ∨ e.due ≤ nowPs d then drainDue (scratchPut d t e.addr e.bytes) t all l
    else updThread d t (fun x => { x with stores := e :: l })

/-- A store to the thread's view enters its pair (R321). -/
def pushStore (d : Dev) (t a : Nat) (bs : List Byte) : Dev :=
  let x := threadOf d t
  let base := match x.stores.getLast? with | some e => max (nowPs d) e.due | none => nowPs d
  updThread d t (fun x => { x with stores := x.stores ++ [{ addr := a, bytes := bs, due := base + cyclesPs d 3 }] })

/-- A long operation that ends replaces what every earlier one would leave in L (R320). -/
def endLongs (d : Dev) (t : Nat) : List (Nat × Word) → List (Nat × Word) → Word → Dev
  | [], left, l => updThread d t (fun x => { x with longs := left, l := l })
  | (e, r) :: rest, left, l =>
    if e ≤ nowPs d then endLongs d t rest (left.map (fun p => (p.1, r))) r
    else endLongs d t rest (left ++ [(e, r)]) l

/-- What time has completed for a thread before it issues: long operations and store-buffer entries (R319 to R323). -/
def settleThread (d : Dev) (t : Nat) : Dev :=
  let x := threadOf d t
  let d := endLongs d t x.longs [] x.l
  drainDue d t (!perfMode d t) (threadOf d t).stores

/-- Line of the engine's instruction cache that holds a thread's next instruction; lines are 64 octets (R325; assumption
log 33). -/
def fetchLine (d : Dev) (t : Nat) : Nat :=
  let x := threadOf d t
  t / 4 * 2 ^ 16 + (x.code - bankBase (t / 32) + x.pc.toNat) / 64

/-- The fault of a thread's fetch, if any (R324, R325, R384): VIEW or an uncorrectable word for a raster program, CODE for a
housekeeping program. -/
def fetchFault (d : Dev) (t : Nat) : Option Nat :=
  let x := threadOf d t
  if perfMode d t then (if x.bank < x.pc.toNat + 4 then some 7 else none)
  else if footprint d t < x.pc.toNat + 4 then some 2
  else if scratchBad d t x.pc.toNat then some 5
  else none

/-- An instruction waits to issue or to get its operand. -/
def stall (s : State) (t op : Nat) (w : Be32Op) : State :=
  withThread s t (fun x => { x with state := .stalled op w.cond.val w.mode.val w.operand.toNat })

/-- Whether an opcode's access is a store (R368). -/
def opStores (op : Nat) : Bool := decide (6 ≤ op) && decide (op ≤ 0x0B)

/-- Whether an opcode has an operand of its mode (R368). -/
def opHasOperand (op : Nat) : Bool := (opModes op).contains 1 && (opModes op).contains 5

/-- Octets that an access of an opcode takes (R364). -/
def accessWidth (op : Nat) : Nat :=
  if op = 0x04 ∨ op = 0x09 then 1 else if op = 0x05 ∨ op = 0x0A then 2 else 4

/-- What SECDED makes of the words that an instruction's operand reads (R483). -/
def readOperand (d : Dev) (t op : Nat) (w : Be32Op) : Dev :=
  if opHasOperand op then (operandReads d t w (accessWidth op) (!opStores op)).foldl (fun d a => readWord d t a) d else d

/-- An instruction has issued and the thread goes on at a PC (R360, R366). -/
def retireOp32 (s : State) (t : Nat) (pc : Word) (pend load : Option (Nat × Word)) (wrote : Option Nat) : State :=
  withThread s t (fun x => landLoad { x with state := .running, pc := pc, delayed := load, arrived := none, timedAt := none } pend wrote)

/-- Issue slots used by a thread are counted (R728, group 3; R315): the slots that a wait adds are those of group 4, which are
timing. -/
def useSlots (s : State) (t n : Nat) : State := withDev s (countSignal s.dev (3 * 4096 + t) n)

/-- An instruction whose condition has held in stage D: while it waits it is not evaluated again (R313, R361, R362). -/
def decided (w : Be32Op) : Be32Op := { w with cond := 0 }

/-- An instruction whose condition holds takes its effect. A taken branch, jump, call or return takes two slots in
deterministic mode (R315). -/
def runEffect (eff : Effect) (op t : Nat) (w : Be32Op) (s : State) : State :=
  let s := withDev s (readOperand s.dev t op w)
  let x := threadOf s.dev t
  match eff s t w with
  | .done s' load => useSlots (retireOp32 s' t (x.pc + 4) x.delayed load (opWrites op)) t 1
  | .jump s' pc => useSlots (retireOp32 s' t pc x.delayed none none) t (if perfMode s.dev t then 1 else 2)
  | .wait s' => stall s' t op (decided w)
  | .hold s' st =>
    let s' := withThread (useSlots s' t 1) t (fun y => landLoad { y with delayed := none } x.delayed (opWrites op))
    withDev s' (setRun s'.dev t st)
  | .fault c => withDev s (faultThread s.dev t c)

/-- Whether an instruction does not issue yet: it reads L while a long operation of its thread is pending (R319, R320). Its condition is
decided once it has issued (R313, R361). -/
def awaitsL (d : Dev) (t op : Nat) : Bool := decide (op = 0x10) && !(threadOf d t).longs.isEmpty

/-- What SECDED makes of the word that a thread fetches from its view (R483). -/
def readFetch (d : Dev) (t : Nat) : Dev :=
  let pc := (threadOf d t).pc.toNat
  if perfMode d t ∨ footprint d t < pc + 4 then d else readWord d t pc

/-- The word that a thread fetches (R324, R325, R359): from its view, or in performance mode from its program's region in the cluster
bank. -/
def fetchedWord (m : List Host.Cell) (d : Dev) (t : Nat) : Nat :=
  let x := threadOf d t
  if perfMode d t then memReadLe m (x.code + x.pc.toNat) 4
  else ofLe ((List.range 4).map (fun i => scratchByte d t (x.pc.toNat + i)))

/-- Whether an instruction is illegal (R360, R368, R382): the opcode of the word in memory is undefined, whatever instruction the command
names (assumption log 32), or the opcode does not allow the mode of the instruction or of the program. -/
def illegal (m : List Host.Cell) (d : Dev) (t op : Nat) (w : Be32Op) : Bool :=
  (opModes (fieldOf (fetchedWord m d t) 22 6)).isEmpty || !(opModes op).contains w.mode.val || (opPerfOnly op && !perfMode d t)

/-- A thread issues an instruction (R359 to R367, R384): nothing happens unless the thread runs and has its clock (R658). -/
def issue (eff : Effect) (op t : Nat) (w : Be32Op) (s : State) : State :=
  if (threadOf s.dev t).state ≠ .running ∨ clusterRuns s.dev t = false then s
  else
    let s := withDev s (settleThread s.dev t)
    let d := s.dev
    let x := threadOf d t
    let s := withDev s (readFetch d t)
    match fetchFault d t with
    | some c => withDev s (faultThread s.dev t c)
    | none =>
      if perfMode d t ∧ d.beam.icache.contains (fetchLine d t) = false then stall s t op w
      else if illegal s.mem d t op w then withDev s (faultThread s.dev t 1)
      else if w.mode = 7 ∧ perfMode d t = false then withDev s (faultThread s.dev t 3)
      else if awaitsL d t op then stall s t op w
      else
        let bk := bkHolds d t
        let s := if w.cond = 15 ∧ (threadHead d t).isSome then withDev s (freeUsed s.dev) else s
        if condHolds x bk w.cond.val then runEffect eff op t w s
        else useSlots (retireOp32 s t (x.pc + 4) x.delayed none none) t 1

/-- An operation on the operand value: waits and faults of the operand first (R384). -/
def withOperand (s : State) (t : Nat) (w : Be32Op) (k : Word → Ran) : Ran :=
  match operand s.dev t w with
  | .val v => k v
  | .wait d => .wait (withDev s d)
  | .fault c => .fault c

/-- An operation that changes registers and flags of its thread only. -/
def regEffect (f : Thread → Thread) : Effect := fun s t _ => .done (withThread s t f) none

/-- An operation on registers and the operand value. -/
def opEffect (f : Thread → Word → Thread) : Effect :=
  fun s t w => withOperand s t w (fun v => .done (withThread s t (fun x => f x v)) none)

/-- A load of n octets into a register (R366): immediate at once, else after the next instruction. -/
def loadEffect (r n : Nat) : Effect := fun s t w =>
  if w.mode = 0 then .done (withThread s t (fun x => setReg x r (immSigned w))) none
  else match loadOperand s.dev t w n with
  | .val v => .done s (some (r, v))
  | .wait d => .wait (withDev s d)
  | .fault c => .fault c

/-- A long operation (R319, R320, R371): it writes L after its latency in engine cycles. -/
def longEffect (cycles : Nat) (f : Word → Word → Word) : Effect := fun s t w =>
  withOperand s t w (fun v => .done (withThread s t (fun x =>
    { x with longs := x.longs ++ [(nowPs s.dev + cyclesPs s.dev cycles, f x.a v)] })) none)

/-- A write counted in DROPPED_WRITES of a thread's program (R327, R340). -/
def dropWrite (d : Dev) (t : Nat) : Dev := countDropped d (threadOf d t).prog

/-- A write counted in REJECTED_STORES of a thread's program (R330). -/
def rejectStore (d : Dev) (t : Nat) : Dev := nInc d (prog_REJECTED_STORES (refInst (threadOf d t).prog))

/-- A far-window store that has issued and awaits its write response (R329). -/
def farIssued (d : Dev) (t : Nat) : Dev := updThread d t (fun x => { x with farStores := x.farStores + 1 })

/-- The word that a store of some octets leaves in a register (R364). -/
def mergeWord (old a : Nat) (bs : List Byte) : Word := BitVec.ofNat 32 (ofLe (patchBytes (leBytes 4 old) (a % 4) bs))

/-- A store to DOORBELL leaves its engine for the event controller's island (R11, R329). -/
def sendBell (d : Dev) (m : List Host.Cell) (b : Bell) : Dev :=
  sendReg d m { src := b.thread / 32, dst := islandOf 1, addr := b.addr, val := b.value, thread := b.thread + 1, prog := b.prog, isRead := false }

/-- A store to DOORBELL issued (R329): it leaves at once, or waits in the engine for the responses of the thread's earlier far-window
stores. -/
def issueBell (d : Dev) (m : List Host.Cell) (t a : Nat) (v : Word) : Dev :=
  let x := threadOf d t
  let b : Bell := { thread := t, prog := x.prog, need := x.farStores, addr := a, value := v }
  let d := farIssued d t
  if x.farStores = 0 then sendBell d m b else { d with beam.bells := d.beam.bells ++ [b] }

/-- A timer register as a store of some of its octets finds it: the bits that a written 1 clears read 0 (R6, R364). -/
def mergeBase (d : Dev) (c off : Nat) : Nat :=
  if off < 0x200 ∧ off % 0x40 = 0x30 then 0
  else if off = 0x218 then (startOf d c).mask
  else (clusterRead d c off).2

/-- A store through the far window (R327, R329, R330, R465, R472). Memory takes it at issue (assumption log 34); while DRAM serves no
request, it waits (R477). -/
def farStore (s : State) (t a : Nat) (bs : List Byte) : Ran :=
  let d := s.dev
  let n := bs.length
  match farKind d t a with
  | 2 => .done (withDev s (rejectStore d t)) none
  | 3 => .done (withDev s (issueBell d s.mem t (alignTo a 4) (mergeWord 0 a bs))) none
  | 4 =>
    let off := alignTo a 4 % 0x10000
    .done (withDev s (timerAccess (farIssued d t) s.mem (t / 32) off (mergeWord (mergeBase d (t / 32) off) a bs) false)) none
  | 5 => .done (withDev s (dropWrite d t)) none
  | k =>
    if k = 0 ∧ dramServes d = false then .wait s
    else if writeLeased d a n then .done (withDev s (rejectStore d t)) none
    else if (rmwFailures d a n).isEmpty = false then .done (withDev s (dropWrite (failRmw d a n 4) t)) none
    else
      let s := putRange s 4 a bs
      .done (withDev s (farIssued (cacheStore s.dev t a bs) t)) none

/-- A write sent to every receiver of a beam-port operand (R339); its first receiver counts it. -/
def sendPort (d : Dev) (m : List Host.Cell) (t off : Nat) (v : Word) : List Nat → Dev
  | [] => d
  | i :: l =>
    let put := fun (d : Dev) (prog i : Nat) =>
      sendReg d m { src := t / 32, dst := i, addr := off, val := v, thread := t + 1, prog := prog, isRead := false }
    l.foldl (fun d i => put d 0 i) (put d (threadOf d t).prog i)

/-- An untimed store through the beam port (R14, R339, R340). -/
def portStore (s : State) (t : Nat) (w : Be32Op) (v : Word) : Ran :=
  match threadHead s.dev t with
  | none => .fault 6
  | some _ =>
    let r := portReach s.dev t w
    if r.1.isEmpty then .done (withDev s (dropWrite s.dev t)) none
    else .done (withDev s (sendPort s.dev s.mem t r.2 v r.1)) none

/-- A store of n octets of a value in any mode (R321, R363, R364). -/
def storeEffect (n : Nat) (f : Thread → Word) : Effect := fun s t w =>
  let v := f (threadOf s.dev t)
  match w.mode.val with
  | 6 => portStore s t w v
  | 7 => farStore s t (farAddr s.dev t w n) (leBytes n v.toNat)
  | _ =>
    match viewAddr s.dev t w with
    | .fault c => .fault c
    | .wait d => .wait (withDev s d)
    | .val a =>
      let a := alignTo a.toNat n
      if footprint s.dev t ≤ a then .fault 2
      else if 2 ≤ (threadOf s.dev t).stores.length then .wait s
      else .done (withDev s (pushStore s.dev t a (leBytes n v.toNat))) none

/-- The pixel of a frame at a position in X (R341, R375). -/
def posPixel (tm : Timing) (x : Word) : Nat := fieldOf x.toNat 16 14 * tm.hTotal + fieldOf x.toNat 0 14

/-- A timed write put at every receiver (R346, R347). -/
def holdTimed (d : Dev) (t off val frame line col : Nat) : List Nat → Dev
  | [] => d
  | i :: l =>
    let put := fun (d : Dev) (prog i : Nat) => setTimed d i (timedOf d i ++
      [{ frame := frame, line := line, col := col, off := off, val := val, thread := t, prog := prog }])
    l.foldl (fun d i => put d 0 i) (put d (threadOf d t).prog i)

/-- ST.T (R344, R345, R347, R375): the lead is measured against the mirror at issue; under 34 pixel clocks the write is late.
A full destination queue keeps the thread, and a write whose position passes meanwhile is late too. -/
def timedEffect : Effect := fun s t w =>
  let d := s.dev
  let x := threadOf d t
  match threadHead d t with
  | none => .fault 6
  | some h =>
    let r := portReach d t w
    let tm := (headOf d h).timing
    let total := max 1 (tm.hTotal * tm.vTotal)
    let late := fun (d : Dev) => Ran.done (withDev s (sendPort (countLate d t x.x.toNat) s.mem t r.2 x.a r.1)) none
    let full := r.1.any (fun i => decide (64 ≤ (timedOf d i).length))
    if r.1.isEmpty then .done (withDev s (dropWrite d t)) none
    else match x.timedAt with
    | some (f, l, c) =>
      if reached f (l * tm.hTotal + c) (mirrorLag d h 0) then late d
      else if full then .wait s
      else .done (withDev s (holdTimed d t r.2 x.a.toNat f l c r.1)) none
    | none =>
      let m := mirror d h
      let d := freeUsed d
      let lead := (posPixel tm x.x + total - m.2 % total) % total
      let p := (m.2 + lead) % total
      let f := (m.1 + (m.2 + lead) / total) % 2 ^ 32
      if lead < 34 then late d
      else if full then
        .wait (withDev s (updThread d t (fun x => { x with timedAt := some (f, p / max 1 tm.hTotal, p % max 1 tm.hTotal) })))
      else .done (withDev s (holdTimed d t r.2 x.a.toNat f (p / max 1 tm.hTotal) (p % max 1 tm.hTotal) r.1)) none

/-- WAITPOS (R343, R376): it ends at once if the mirror shows the position, except at the frame boundary in a raster thread. -/
def waitPosEffect : Effect := fun s t _ =>
  let d := s.dev
  let x := threadOf d t
  let line := fieldOf x.x.toNat 16 14
  let col := fieldOf x.x.toNat 0 14
  match threadHead d t with
  | none => .fault 6
  | some h =>
    let tm := (headOf d h).timing
    if tm.vTotal ≤ line ∨ tm.hTotal ≤ col then .fault 8
    else
      let m := mirror d h
      let s := withDev s (freeUsed d)
      let p := line * tm.hTotal + col
      if m.2 = p ∧ ¬ (threadRaster d t ∧ p = 0) then .done s none
      else .hold s (.waitPos (if m.2 < p then m.1 else (m.1 + 1) % 2 ^ 32) line col)

/-- The lowest-numbered source that a thread can claim (R616, R619). -/
def claimable (d : Dev) (t : Nat) : Option Nat :=
  let p := (threadOf d t).prog
  (List.range 1024).find? (fun n => decide (nGet d (ev_PROGRAM n) = p) && decide (nGet d (ev_TARGET n) = 1) &&
    decide (nGet d (ev_STATE n) = 1) && decide (nGet d (damper_HOLDING (groupOf n)) = 0))

/-- A source claimed by a thread, with the claim word in A (R382, R618, R619). -/
def claimFor (d : Dev) (t n : Nat) : Dev :=
  let v := BitVec.ofNat 32 (claimWord d n false)
  updThread (claimSource d n (t + 1)) t (fun x => { x with a := v })

/-- WAITEV (R382). -/
def waitEvEffect : Effect := fun s t _ =>
  match claimable s.dev t with
  | some n => .done (withDev s (claimFor s.dev t n)) none
  | none => .hold s .waitEv

/-- Whether every store of a thread has drained and been answered (R377). -/
def fenced (d : Dev) (t : Nat) : Bool := (threadOf d t).stores.isEmpty && decide ((threadOf d t).farStores = 0)

/-- FENCE (R377): in deterministic mode it has no effect. -/
def fenceEffect : Effect := fun s t _ => if perfMode s.dev t = false ∨ fenced s.dev t then .done s none else .wait s

/-- SYNCF (R379). -/
def syncfEffect : Effect := fun s t w =>
  match fenceEffect s t w with
  | .done s l =>
    if perfMode s.dev t then
      .done (withDev s { s.dev with beam.icache := s.dev.beam.icache.filter (fun k => decide (k / 2 ^ 16 ≠ t / 4)) }) l
    else .done s l
  | r => r

/-- The target of JMP and CALL (R373). -/
def target (x : Thread) (w : Be32Op) : Word :=
  let a : Word := match w.mode.val with
    | 0 => x.pc + 4 * immSigned w
    | 2 => immUnsigned w
    | _ => immUnsigned w + x.x
  BitVec.ofNat 32 (alignTo a.toNat 4)

/-- JMP (R373). -/
def jmpEffect : Effect := fun s t w => .jump s (target (threadOf s.dev t) w)

/-- CALL (R373, R374). -/
def callEffect : Effect := fun s t w =>
  let x := threadOf s.dev t
  if 8 ≤ x.rstack.length then .fault 4
  else .jump (withThread s t (fun x => { x with rstack := (x.pc + 4) :: x.rstack })) (target x w)

/-- RET (R374). -/
def retEffect : Effect := fun s t _ =>
  match (threadOf s.dev t).rstack with
  | [] => .fault 4
  | a :: l => .jump (withThread s t (fun x => { x with rstack := l })) a

/-- FARB (R363, R368): FAR_BASE takes op[20:0] × 0x80000. -/
def farbEffect : Effect := fun s t w =>
  let set := fun (v : Word) => Ran.done (withThread s t (fun x => { x with farBase := v.toNat % 2 ^ 21 * 0x80000 })) none
  if w.mode = 0 then set (immUnsigned w) else withOperand s t w set

/-- CINV (R383): one line; no effect in deterministic mode. -/
def cinvEffect : Effect := fun s t w =>
  if perfMode s.dev t then
    .done (withDev s (dropLine s.dev t (((threadOf s.dev t).farBase + w.operand.toNat) % 2 ^ 40))) none
  else .done s none

/-- CINVA (R383). -/
def cinvaEffect : Effect := fun s t _ => if perfMode s.dev t then .done (withDev s (dropLines s.dev t)) none else .done s none

/-- The post queue of an engine (R380). -/
def postsOf (d : Dev) (e : Nat) : List Post := mapGet d.beam.posts e []

/-- RING and DMAQ (R380, R381): one entry into the engine's queue of 4 if it fits; C says whether it did. -/
def postEffect (entry : Thread → Be32Op → Option Nat × Nat) : Effect := fun s t w =>
  let d := s.dev
  let x := threadOf d t
  let q := postsOf d (t / 4)
  let fits := decide (q.length < 4)
  let e := entry x w
  let p : Post := { thread := t, prog := x.prog, need := x.farStores, channel := e.1, value := e.2 }
  let d := if fits then { d with beam.posts := mapPut d.beam.posts (t / 4) (q ++ [p]) } else d
  .done (withDev s (updThread d t (fun x => { x with c := fits }))) none

end Sys2Proof.Machine
end

