-- ==== Sys2Proof/Machine/Be32.lean ====
section
/-!
DEFINITION. The BE32 instructions (BE32 chapter, R368), each an effect and its issue by a thread; the commands by which what a
thread waits for comes about; cluster faults.
-/
namespace Sys2Proof.Machine

/-- NOP (R368). -/
def effNop : Effect := fun s _ _ => .done s none

/-- LD.A (R366, R368). -/
def effLdA : Effect := loadEffect 0 4

/-- LD.X (R366, R368). -/
def effLdX : Effect := loadEffect 1 4

/-- LD.Y (R366, R368). -/
def effLdY : Effect := loadEffect 2 4

/-- LD.B (R366, R368). -/
def effLdB : Effect := loadEffect 0 1

/-- LD.H (R366, R368). -/
def effLdH : Effect := loadEffect 0 2

/-- ST.A (R364, R368). -/
def effStA : Effect := storeEffect 4 (·.a)

/-- ST.X (R364, R368). -/
def effStX : Effect := storeEffect 4 (·.x)

/-- ST.Y (R364, R368). -/
def effStY : Effect := storeEffect 4 (·.y)

/-- ST.B (R364, R368). -/
def effStB : Effect := storeEffect 1 (·.a)

/-- ST.H (R364, R368). -/
def effStH : Effect := storeEffect 2 (·.a)

/-- ST.T (R375). -/
def effStT : Effect := timedEffect

/-- MV.XA (R368). -/
def effMvXa : Effect := regEffect (fun x => { x with x := x.a })

/-- MV.YA (R368). -/
def effMvYa : Effect := regEffect (fun x => { x with y := x.a })

/-- MV.AX (R368). -/
def effMvAx : Effect := regEffect (fun x => { x with a := x.x })

/-- MV.AY (R368). -/
def effMvAy : Effect := regEffect (fun x => { x with a := x.y })

/-- MV.AL (R319, R320): it issues once L is ready. -/
def effMvAl : Effect := regEffect (fun x => { x with a := x.l })

/-- MV.AT (R358). -/
def effMvAt : Effect := fun s t _ => .done (withThread s t (fun x => { x with a := tidOf s.dev t })) none

/-- MV.AF (R357). -/
def effMvAf : Effect := regEffect (fun x => { x with a := flagsWord x })

/-- MV.FA (R357). -/
def effMvFa : Effect := regEffect (fun x => flagsFrom x x.a)

/-- ADD (R370). -/
def effAdd : Effect := opEffect (fun x v => { flagsAdd x x.a v false with a := addWord x.a v false })

/-- ADD.C (R370). -/
def effAddC : Effect := opEffect (fun x v => { flagsAdd x x.a v x.c with a := addWord x.a v x.c })

/-- SUB (R370). -/
def effSub : Effect := opEffect (fun x v => { flagsSub x x.a v false with a := subWord x.a v false })

/-- SUB.C (R370). -/
def effSubC : Effect := opEffect (fun x v => { flagsSub x x.a v (!x.c) with a := subWord x.a v (!x.c) })

/-- RSB (R370). -/
def effRsb : Effect := opEffect (fun x v => { flagsSub x v x.a false with a := subWord v x.a false })

/-- AND (R370). -/
def effAnd : Effect := opEffect (fun x v => { flagsNZ x (x.a &&& v) with a := x.a &&& v })

/-- OR (R370). -/
def effOr : Effect := opEffect (fun x v => { flagsNZ x (x.a ||| v) with a := x.a ||| v })

/-- XOR (R370). -/
def effXor : Effect := opEffect (fun x v => { flagsNZ x (x.a ^^^ v) with a := x.a ^^^ v })

/-- CMP (R370). -/
def effCmp : Effect := opEffect (fun x v => flagsSub x x.a v false)

/-- CMP.X (R370). -/
def effCmpX : Effect := opEffect (fun x v => flagsSub x x.x v false)

/-- CMP.Y (R370). -/
def effCmpY : Effect := opEffect (fun x v => flagsSub x x.y v false)

/-- TST (R370). -/
def effTst : Effect := opEffect (fun x v => flagsNZ x (x.a &&& v))

/-- SHL (R370). -/
def effShl : Effect := opEffect (fun x v =>
  let n := v.toNat % 32
  { flagsShift x (x.a <<< n) n (lastLeft x.a n) with a := x.a <<< n })

/-- SHR (R370). -/
def effShr : Effect := opEffect (fun x v =>
  let n := v.toNat % 32
  { flagsShift x (x.a >>> n) n (lastRight x.a n) with a := x.a >>> n })

/-- SAR (R370). -/
def effSar : Effect := opEffect (fun x v =>
  let n := v.toNat % 32
  { flagsShift x (x.a.sshiftRight n) n (lastRight x.a n) with a := x.a.sshiftRight n })

/-- MIN (R368, R370). -/
def effMin : Effect := opEffect (fun x v => { flagsNZ x (minWord x.a v) with a := minWord x.a v })

/-- MAX (R368, R370). -/
def effMax : Effect := opEffect (fun x v => { flagsNZ x (maxWord x.a v) with a := maxWord x.a v })

/-- ADD.X (R368). -/
def effAddX : Effect := opEffect (fun x v => { x with x := x.x + v })

/-- ADD.Y (R368). -/
def effAddY : Effect := opEffect (fun x v => { x with y := x.y + v })

/-- MUL (R372). -/
def effMul : Effect := longEffect 3 (fun a v => a * v)

/-- MULQ (R372). -/
def effMulq : Effect := longEffect 3 mulqWord

/-- DIV (R372). -/
def effDiv : Effect := longEffect 20 divWord

/-- RECIP (R372). -/
def effRecip : Effect := longEffect 10 (fun _ v => recipWord v)

/-- SQRT (R372). -/
def effSqrt : Effect := longEffect 16 (fun _ v => sqrtWord v)

/-- SINCOS (R372). -/
def effSincos : Effect := longEffect 14 (fun _ v => sincosWord v)

/-- JMP (R373). -/
def effJmp : Effect := jmpEffect

/-- CALL (R373, R374). -/
def effCall : Effect := callEffect

/-- RET (R374). -/
def effRet : Effect := retEffect

/-- WAITPOS (R343, R376). -/
def effWaitpos : Effect := waitPosEffect

/-- WAITEV (R382). -/
def effWaitev : Effect := waitEvEffect

/-- EOI (R382, R620). -/
def effEoi : Effect := fun s t _ => .done (withDev s (eoi s.dev ((threadOf s.dev t).a.toNat % 1024) (t + 1))) none

/-- SYNCF (R379). -/
def effSyncf : Effect := syncfEffect

/-- FENCE (R377). -/
def effFence : Effect := fenceEffect

/-- FARB (R368, R383). -/
def effFarb : Effect := farbEffect

/-- CINV (R383). -/
def effCinv : Effect := cinvEffect

/-- CINVA (R383). -/
def effCinva : Effect := cinvaEffect

/-- RING (R380). -/
def effRing : Effect := postEffect (fun x _ => (none, x.a.toNat))

/-- DMAQ (R381). -/
def effDmaq : Effect := postEffect (fun x w => (some (w.operand.toNat % 32), (x.farBase + x.a.toNat) % 2 ^ 40))

/-- The effect of an opcode (R368); an undefined opcode never issues. -/
def effectOf (op : Nat) : Effect :=
  match op with
  | 0x00 => effNop
  | 0x01 => effLdA
  | 0x02 => effLdX
  | 0x03 => effLdY
  | 0x04 => effLdB
  | 0x05 => effLdH
  | 0x06 => effStA
  | 0x07 => effStX
  | 0x08 => effStY
  | 0x09 => effStB
  | 0x0A => effStH
  | 0x0B => effStT
  | 0x0C => effMvXa
  | 0x0D => effMvYa
  | 0x0E => effMvAx
  | 0x0F => effMvAy
  | 0x10 => effMvAl
  | 0x11 => effMvAt
  | 0x12 => effMvAf
  | 0x13 => effMvFa
  | 0x14 => effAdd
  | 0x15 => effAddC
  | 0x16 => effSub
  | 0x17 => effSubC
  | 0x18 => effRsb
  | 0x19 => effAnd
  | 0x1A => effOr
  | 0x1B => effXor
  | 0x1C => effCmp
  | 0x1D => effCmpX
  | 0x1E => effCmpY
  | 0x1F => effTst
  | 0x20 => effShl
  | 0x21 => effShr
  | 0x22 => effSar
  | 0x23 => effMin
  | 0x24 => effMax
  | 0x25 => effAddX
  | 0x26 => effAddY
  | 0x28 => effMul
  | 0x29 => effMulq
  | 0x2A => effDiv
  | 0x2B => effRecip
  | 0x2C => effSqrt
  | 0x2D => effSincos
  | 0x30 => effJmp
  | 0x31 => effCall
  | 0x32 => effRet
  | 0x33 => effWaitpos
  | 0x34 => effWaitev
  | 0x35 => effEoi
  | 0x36 => effSyncf
  | 0x37 => effFence
  | 0x38 => effFarb
  | 0x39 => effCinv
  | 0x3A => effCinva
  | 0x3B => effRing
  | 0x3C => effDmaq
  | _ => effNop

/-- A thread issues NOP (R368). -/
def execNop (t : Fin 384) (w : Be32Op) (s : State) : Res := .next (issue effNop 0x00 t.val w s)
/-- A thread issues LD.A (R366, R368). -/
def execLdA (t : Fin 384) (w : Be32Op) (s : State) : Res := .next (issue effLdA 0x01 t.val w s)
/-- A thread issues LD.X (R366, R368). -/
def execLdX (t : Fin 384) (w : Be32Op) (s : State) : Res := .next (issue effLdX 0x02 t.val w s)
/-- A thread issues LD.Y (R366, R368). -/
def execLdY (t : Fin 384) (w : Be32Op) (s : State) : Res := .next (issue effLdY 0x03 t.val w s)
/-- A thread issues LD.B (R366, R368). -/
def execLdB (t : Fin 384) (w : Be32Op) (s : State) : Res := .next (issue effLdB 0x04 t.val w s)
/-- A thread issues LD.H (R366, R368). -/
def execLdH (t : Fin 384) (w : Be32Op) (s : State) : Res := .next (issue effLdH 0x05 t.val w s)
/-- A thread issues ST.A (R364, R368). -/
def execStA (t : Fin 384) (w : Be32Op) (s : State) : Res := .next (issue effStA 0x06 t.val w s)
/-- A thread issues ST.X (R364, R368). -/
def execStX (t : Fin 384) (w : Be32Op) (s : State) : Res := .next (issue effStX 0x07 t.val w s)
/-- A thread issues ST.Y (R364, R368). -/
def execStY (t : Fin 384) (w : Be32Op) (s : State) : Res := .next (issue effStY 0x08 t.val w s)
/-- A thread issues ST.B (R364, R368). -/
def execStB (t : Fin 384) (w : Be32Op) (s : State) : Res := .next (issue effStB 0x09 t.val w s)
/-- A thread issues ST.H (R364, R368). -/
def execStH (t : Fin 384) (w : Be32Op) (s : State) : Res := .next (issue effStH 0x0A t.val w s)
/-- A thread issues ST.T (R375). -/
def execStT (t : Fin 384) (w : Be32Op) (s : State) : Res := .next (issue effStT 0x0B t.val w s)
/-- A thread issues MV.XA (R368). -/
def execMvXa (t : Fin 384) (w : Be32Op) (s : State) : Res := .next (issue effMvXa 0x0C t.val w s)
/-- A thread issues MV.YA (R368). -/
def execMvYa (t : Fin 384) (w : Be32Op) (s : State) : Res := .next (issue effMvYa 0x0D t.val w s)
/-- A thread issues MV.AX (R368). -/
def execMvAx (t : Fin 384) (w : Be32Op) (s : State) : Res := .next (issue effMvAx 0x0E t.val w s)
/-- A thread issues MV.AY (R368). -/
def execMvAy (t : Fin 384) (w : Be32Op) (s : State) : Res := .next (issue effMvAy 0x0F t.val w s)
/-- A thread issues MV.AL (R319, R320). -/
def execMvAl (t : Fin 384) (w : Be32Op) (s : State) : Res := .next (issue effMvAl 0x10 t.val w s)
/-- A thread issues MV.AT (R358). -/
def execMvAt (t : Fin 384) (w : Be32Op) (s : State) : Res := .next (issue effMvAt 0x11 t.val w s)
/-- A thread issues MV.AF (R357). -/
def execMvAf (t : Fin 384) (w : Be32Op) (s : State) : Res := .next (issue effMvAf 0x12 t.val w s)
/-- A thread issues MV.FA (R357). -/
def execMvFa (t : Fin 384) (w : Be32Op) (s : State) : Res := .next (issue effMvFa 0x13 t.val w s)
/-- A thread issues ADD (R370). -/
def execAdd (t : Fin 384) (w : Be32Op) (s : State) : Res := .next (issue effAdd 0x14 t.val w s)
/-- A thread issues ADD.C (R370). -/
def execAddC (t : Fin 384) (w : Be32Op) (s : State) : Res := .next (issue effAddC 0x15 t.val w s)
/-- A thread issues SUB (R370). -/
def execSub (t : Fin 384) (w : Be32Op) (s : State) : Res := .next (issue effSub 0x16 t.val w s)
/-- A thread issues SUB.C (R370). -/
def execSubC (t : Fin 384) (w : Be32Op) (s : State) : Res := .next (issue effSubC 0x17 t.val w s)
/-- A thread issues RSB (R370). -/
def execRsb (t : Fin 384) (w : Be32Op) (s : State) : Res := .next (issue effRsb 0x18 t.val w s)
/-- A thread issues AND (R370). -/
def execAnd (t : Fin 384) (w : Be32Op) (s : State) : Res := .next (issue effAnd 0x19 t.val w s)
/-- A thread issues OR (R370). -/
def execOr (t : Fin 384) (w : Be32Op) (s : State) : Res := .next (issue effOr 0x1A t.val w s)
/-- A thread issues XOR (R370). -/
def execXor (t : Fin 384) (w : Be32Op) (s : State) : Res := .next (issue effXor 0x1B t.val w s)
/-- A thread issues CMP (R370). -/
def execCmp (t : Fin 384) (w : Be32Op) (s : State) : Res := .next (issue effCmp 0x1C t.val w s)
/-- A thread issues CMP.X (R370). -/
def execCmpX (t : Fin 384) (w : Be32Op) (s : State) : Res := .next (issue effCmpX 0x1D t.val w s)
/-- A thread issues CMP.Y (R370). -/
def execCmpY (t : Fin 384) (w : Be32Op) (s : State) : Res := .next (issue effCmpY 0x1E t.val w s)
/-- A thread issues TST (R370). -/
def execTst (t : Fin 384) (w : Be32Op) (s : State) : Res := .next (issue effTst 0x1F t.val w s)
/-- A thread issues SHL (R370). -/
def execShl (t : Fin 384) (w : Be32Op) (s : State) : Res := .next (issue effShl 0x20 t.val w s)
/-- A thread issues SHR (R370). -/
def execShr (t : Fin 384) (w : Be32Op) (s : State) : Res := .next (issue effShr 0x21 t.val w s)
/-- A thread issues SAR (R370). -/
def execSar (t : Fin 384) (w : Be32Op) (s : State) : Res := .next (issue effSar 0x22 t.val w s)
/-- A thread issues MIN (R368, R370). -/
def execMin (t : Fin 384) (w : Be32Op) (s : State) : Res := .next (issue effMin 0x23 t.val w s)
/-- A thread issues MAX (R368, R370). -/
def execMax (t : Fin 384) (w : Be32Op) (s : State) : Res := .next (issue effMax 0x24 t.val w s)
/-- A thread issues ADD.X (R368). -/
def execAddX (t : Fin 384) (w : Be32Op) (s : State) : Res := .next (issue effAddX 0x25 t.val w s)
/-- A thread issues ADD.Y (R368). -/
def execAddY (t : Fin 384) (w : Be32Op) (s : State) : Res := .next (issue effAddY 0x26 t.val w s)
/-- A thread issues MUL (R372). -/
def execMul (t : Fin 384) (w : Be32Op) (s : State) : Res := .next (issue effMul 0x28 t.val w s)
/-- A thread issues MULQ (R372). -/
def execMulq (t : Fin 384) (w : Be32Op) (s : State) : Res := .next (issue effMulq 0x29 t.val w s)
/-- A thread issues DIV (R372). -/
def execDiv (t : Fin 384) (w : Be32Op) (s : State) : Res := .next (issue effDiv 0x2A t.val w s)
/-- A thread issues RECIP (R372). -/
def execRecip (t : Fin 384) (w : Be32Op) (s : State) : Res := .next (issue effRecip 0x2B t.val w s)
/-- A thread issues SQRT (R372). -/
def execSqrt (t : Fin 384) (w : Be32Op) (s : State) : Res := .next (issue effSqrt 0x2C t.val w s)
/-- A thread issues SINCOS (R372). -/
def execSincos (t : Fin 384) (w : Be32Op) (s : State) : Res := .next (issue effSincos 0x2D t.val w s)
/-- A thread issues JMP (R373). -/
def execJmp (t : Fin 384) (w : Be32Op) (s : State) : Res := .next (issue effJmp 0x30 t.val w s)
/-- A thread issues CALL (R373, R374). -/
def execCall (t : Fin 384) (w : Be32Op) (s : State) : Res := .next (issue effCall 0x31 t.val w s)
/-- A thread issues RET (R374). -/
def execRet (t : Fin 384) (w : Be32Op) (s : State) : Res := .next (issue effRet 0x32 t.val w s)
/-- A thread issues WAITPOS (R343, R376). -/
def execWaitpos (t : Fin 384) (w : Be32Op) (s : State) : Res := .next (issue effWaitpos 0x33 t.val w s)
/-- A thread issues WAITEV (R382). -/
def execWaitev (t : Fin 384) (w : Be32Op) (s : State) : Res := .next (issue effWaitev 0x34 t.val w s)
/-- A thread issues EOI (R382, R620). -/
def execEoi (t : Fin 384) (w : Be32Op) (s : State) : Res := .next (issue effEoi 0x35 t.val w s)
/-- A thread issues SYNCF (R379). -/
def execSyncf (t : Fin 384) (w : Be32Op) (s : State) : Res := .next (issue effSyncf 0x36 t.val w s)
/-- A thread issues FENCE (R377). -/
def execFence (t : Fin 384) (w : Be32Op) (s : State) : Res := .next (issue effFence 0x37 t.val w s)
/-- A thread issues FARB (R368, R383). -/
def execFarb (t : Fin 384) (w : Be32Op) (s : State) : Res := .next (issue effFarb 0x38 t.val w s)
/-- A thread issues CINV (R383). -/
def execCinv (t : Fin 384) (w : Be32Op) (s : State) : Res := .next (issue effCinv 0x39 t.val w s)
/-- A thread issues CINVA (R383). -/
def execCinva (t : Fin 384) (w : Be32Op) (s : State) : Res := .next (issue effCinva 0x3A t.val w s)
/-- A thread issues RING (R380). -/
def execRing (t : Fin 384) (w : Be32Op) (s : State) : Res := .next (issue effRing 0x3B t.val w s)
/-- A thread issues DMAQ (R381). -/
def execDmaq (t : Fin 384) (w : Be32Op) (s : State) : Res := .next (issue effDmaq 0x3C t.val w s)

end Sys2Proof.Machine
end

