-- ==== Sys2Proof/Machine/Signals.lean ====
section
/-!
DEFINITION. Frames that feed the signal map (Hearth chapter, R281 to R286), the CAN FD controllers and the 10BASE-T1S ports
(network chapter, R575 to R587).
-/
namespace Sys2Proof.Machine

/-- A field of w bits at bit position p of a data field (R281). -/
def dataField (b : List Byte) (p w : Nat) : Nat := fieldOf (ofLe (sliceOf b (p / 8) (w / 8 + 2))) (p % 8) w

/-- Whether a data field contains every position that an entry uses (R281). -/
def dataHolds (d : Dev) (n : Nat) (b : List Byte) : Bool :=
  let cw := nGet d (sig_COUNTER_WIDTH n)
  let rw := nGet d (sig_CRC_WIDTH n)
  decide (nGet d (sig_VALUE_POS n) + nGet d (sig_VALUE_WIDTH n) ≤ 8 * b.length) &&
  (decide (cw = 0) || decide (nGet d (sig_COUNTER_POS n) + cw ≤ 8 * b.length)) &&
  (decide (rw = 0) || (decide (nGet d (sig_CRC_POS n) + rw / 8 ≤ b.length) && decide (nGet d (sig_CRC_LEN n) ≤ b.length)))

/-- The CRC of an entry over a data field (R282). -/
def entryCrc (d : Dev) (n : Nat) (b : List Byte) : Nat :=
  let w := nGet d (sig_CRC_WIDTH n)
  let p := nGet d (sig_CRC_POS n)
  let cov := (List.range (nGet d (sig_CRC_LEN n))).filter (fun i => decide (i < p) || decide (p + w / 8 ≤ i))
  let bytes := beBytes 2 (nGet d (sig_DATA_ID n)) ++ cov.map (fun i => b.getD i 0)
  crcMsb w (nGet d (sig_CRC_POLY n) % 2 ^ w) (nGet d (sig_CRC_INIT n) % 2 ^ w) bytes ^^^ (nGet d (sig_CRC_XOROUT n) % 2 ^ w)

/-- Whether a frame passes the CRC check of an entry (R282); a 16-bit CRC stands big-endian. -/
def crcPasses (d : Dev) (n : Nat) (b : List Byte) : Bool :=
  let w := nGet d (sig_CRC_WIDTH n)
  w == 0 || entryCrc d n b == ofBe (sliceOf b (nGet d (sig_CRC_POS n)) (w / 8))

/-- The alert's speed from an applied frame of its entry (R555). A field that the data does not contain leaves it; a product
outside Q16.16 is a free value (assumption log 4). -/
def speedFrame (d : Dev) (n : Nat) (b : List Byte) : Dev :=
  let w := nGet d avas_SPEED_WIDTH
  if nGet d avas_SPEED_ENTRY ≠ n ∨ 8 * b.length < nGet d avas_SPEED_POS + w then d
  else
    let x : Int := (dataField b (nGet d avas_SPEED_POS) w : Int) * sintOf 32 (nGet d avas_SPEED_SCALE)
    if -(2 ^ 31) ≤ x ∧ x < 2 ^ 31 then nSet d avas_SPEED_KMH (twosOf 32 x)
    else nSet (freeUsed d) avas_SPEED_KMH (freeNat d 32)

/-- A frame applied to an entry (R283, R284, R286). -/
def applyFrame (lag : Nat) (d : Dev) (n : Nat) (b : List Byte) : Dev :=
  let d := applyValue lag (rearmEntry d n) n (dataField b (nGet d (sig_VALUE_POS n)) (nGet d (sig_VALUE_WIDTH n)))
  speedFrame d n b

/-- A rejected frame (R284). -/
def rejectFrame (d : Dev) (n : Nat) : Dev := nInc d (sig_E2E_FAILS n)

/-- The counter of a frame becomes the reference of an entry (R283). -/
def setRef (d : Dev) (n c : Nat) : Dev := { d with hearth.refs := mapPut d.hearth.refs n c }

/-- A matching frame at an entry: the end-to-end check of R281 to R283, then the state of R284. -/
def entryFrame (lag : Nat) (d : Dev) (n : Nat) (b : List Byte) : Dev :=
  let w := nGet d (sig_COUNTER_WIDTH n)
  if dataHolds d n b = false ∨ crcPasses d n b = false then rejectFrame d n
  else if w = 0 then applyFrame lag d n b
  else
    let c := dataField b (nGet d (sig_COUNTER_POS n)) w
    match mapFind d.hearth.refs n with
    | none => setRef d n c
    | some r =>
      let delta := (c + 2 ^ w - r % 2 ^ w) % 2 ^ w
      if delta = 0 then rejectFrame d n
      else if delta ≤ nGet d (sig_MAX_DELTA n) then applyFrame lag (setRef d n c) n b
      else rejectFrame (setRef d n c) n

/-- A frame at the entries that it selects, in rising order (R21, R281, R285): their states change `lag` ns after the frame, from the
seventeenth entry on 10 ns later each. -/
def entriesFrame (lag : Nat) (d : Dev) (es : List Nat) (b : List Byte) : Dev :=
  ((List.range es.length).zip es).foldl (fun d e => entryFrame (lag + 10 * (e.1 - 15)) d e.2 b) d

/-- SIGNAL_TIMEOUT (R286). -/
def doSignalTimeout (n : Fin 256) (d : Dev) : Dev :=
  if due d tkSignal n.val then enterLoss (nInc d (sig_TIMEOUTS n.val)) n.val else d

/-- Every CAN FD and 10BASE-T1S entry enters loss: the network island has stopped (R286). -/
def networkLoss (d : Dev) : Dev :=
  (List.range 256).foldl (fun d n =>
    if (nGet d (sig_SOURCE n) = 1 ∨ nGet d (sig_SOURCE n) = 3) ∧ nGet d (sig_IN_LOSS n) = 0 then enterLoss d n else d) d

/-- The entries that a CAN FD frame selects, rising (R280). -/
def canEntries (d : Dev) (port : Nat) (ext : Bool) (id : Nat) : List Nat :=
  (entriesOf d 1 port).filter (fun n =>
    let x := nGet d (sig_IDENT n)
    decide (fieldOf x 0 29 = id) && (bitOf x 31 == ext))

/-- The RX ball of a controller on its route (R636). -/
def canRxBall (d : Dev) (c : Nat) : Nat :=
  match fieldOf (nGet d route_CAN_ROUTE) (2 * c) 2 with
  | 0 => 2 * c + 1
  | 1 => 41 + 2 * c
  | _ => 49 + 2 * c

/-- Whether a controller takes part in bus traffic: ERROR_ACTIVE or ERROR_PASSIVE (R587), and not cut off from the bus by a function of
higher rank on its balls (R638, R639). -/
def canOn (d : Dev) (c : Nat) : Bool :=
  networkRuns d && ownerOf d (canRxBall d c) == 1 && decide (nGet d (can_MODE c) ≠ 0) && (nGet d (can_STATE c) == 2 || nGet d (can_STATE c) == 3)

/-- STATE between ERROR_ACTIVE and ERROR_PASSIVE from the error counters, as ISO 11898-1 has it (R579, R587). -/
def canGrade (d : Dev) (c : Nat) : Dev :=
  if nGet d (can_STATE c) = 2 ∨ nGet d (can_STATE c) = 3 then
    nSet d (can_STATE c) (if 128 ≤ nGet d (can_TEC c) ∨ d.net.canOver.contains c then 3 else 2)
  else d

/-- Whether the error counters of a controller move: in normal operation only; listen-only and restricted operation leave them, and with
them the error state (ISO 11898-1, R579; assumption log 46). -/
def canCounts (d : Dev) (c : Nat) : Bool := nGet d (can_MODE c) == 1

/-- A frame received without error lowers REC (ISO 11898-1, R579): by one, or from above 127 to a value from 119 to 127, a free
value. -/
def canHeard (d : Dev) (c : Nat) : Dev :=
  if canCounts d c = false then d
  else if d.net.canOver.contains c then
    let r := 119 + freeNat d 4 % 9
    canGrade (nSet { freeUsed d with net.canOver := d.net.canOver.filter (· ≠ c) } (can_REC c) r) c
  else canGrade (nSet d (can_REC c) (nGet d (can_REC c) - 1)) c

/-- A data frame received without error (R587). -/
def canReceived (d : Dev) (c : Nat) : Dev := canHeard (nInc d (can_RX_FRAMES c)) c

/-- A frame sent without error lowers TEC by one (ISO 11898-1, R579). -/
def canSent (d : Dev) (c : Nat) : Dev := canGrade (nSet (nInc d (can_TX_FRAMES c)) (can_TEC c) (nGet d (can_TEC c) - 1)) c

/-- The signal-map part of a received CAN FD frame (R21, R281). -/
def canSignals (port : Nat) (ext : Bool) (id : Nat) (data : List Byte) (d : Dev) : Dev :=
  entriesFrame 200 d (canEntries d port ext id) data

/-- A controller leaves the bus: it has reached bus-off (R583), which only one that may send does. -/
def canBusOff (d : Dev) (c : Nat) : Dev :=
  if canOn d c && canCounts d c then raise (nInc (nSet d (can_STATE c) 4) (can_BUS_OFFS c)) (851 + c) else d

/-- The error counters of a controller at 0, in a state. -/
def canFresh (d : Dev) (c st : Nat) : Dev :=
  nSets { d with net.canOver := d.net.canOver.filter (· ≠ c) } [(can_TEC c, 0), (can_REC c, 0), (can_STATE c, st)]

/-- CAN_BUS_OFF (R583). -/
def doCanBusOff (port : Fin 4) (d : Dev) : Dev := canBusOff d port.val

/-- CAN_BUS_OFF_RECOVERY (R583): after 128 occurrences of 11 recessive bits, with AUTO_RECOVER 1. -/
def doCanBusOffRecovery (port : Fin 4) (d : Dev) : Dev :=
  if nGet d (can_STATE port.val) = 4 ∧ nGet d (can_AUTO_RECOVER port.val) = 1 then canFresh d port.val 2 else d

/-- The RESTART action (R583, R587): the controller leaves bus-off and integrates anew. -/
def canRestart (d : Dev) (c arg : Nat) : Dev × Status × List Byte :=
  if arg ≠ 0 then (d, .range, [])
  else if nGet d (can_STATE c) ≠ 4 then (d, .state, [])
  else (canFresh d c 1, .ok, [])

/-- CAN_INTEGRATED (R587): 11 recessive bits. -/
def doCanIntegrated (port : Fin 4) (d : Dev) : Dev :=
  if nGet d (can_STATE port.val) = 1 ∧ networkRuns d then nSet d (can_STATE port.val) 2 else d

/-- CAN_PROTOCOL_ERROR (R579, R583, R587): the error counters rise as ISO 11898-1 has it; TEC past 255 is bus-off. -/
def doCanProtocolError (port : Fin 4) (transmitter : Bool) (tecAdd recAdd : Nat) (d : Dev) : Dev :=
  let c := port.val
  if canOn d c = false then d
  else
    let d := nInc d (can_PROTOCOL_ERRORS c)
    if canCounts d c = false then d
    else
    let t := nGet d (can_TEC c) + (if transmitter then tecAdd else 0)
    let r := nGet d (can_REC c) + (if transmitter then 0 else recAdd)
    let off := if 127 < r ∧ d.net.canOver.contains c = false then d.net.canOver ++ [c] else d.net.canOver
    let d := nSets { d with net.canOver := off } [(can_TEC c, min 255 t), (can_REC c, min 127 r)]
    if 255 < t then canBusOff d c else canGrade d c

/-- Time quanta of the nominal bit times BRP: 200 MHz over the nominal rate (R582). -/
def nominalDiv (v : Nat) : Nat := (fieldOf v 0 9 + 1) * (1 + (fieldOf v 9 8 + 1) + (fieldOf v 17 7 + 1))
/-- 200 MHz over the data rate (R582). -/
def dataDiv (v : Nat) : Nat := (fieldOf v 0 5 + 1) * (1 + (fieldOf v 5 5 + 1) + (fieldOf v 10 4 + 1))

/-- The limits of NOMINAL (R582). -/
def nominalOk (v : Nat) : Bool :=
  decide (2 ≤ fieldOf v 9 8 + 1) && decide (2 ≤ fieldOf v 17 7 + 1) && decide (fieldOf v 24 7 ≤ fieldOf v 17 7) &&
  decide (200 ≤ nominalDiv v) && decide (nominalDiv v ≤ 1600)
/-- The limits of DATA by itself (R582). -/
def dataOk (v : Nat) : Bool := decide (fieldOf v 14 4 ≤ fieldOf v 10 4) && decide (25 ≤ dataDiv v)

/-- A write of NOMINAL (member 2) or DATA (member 3) (R582): reserved bits read 0. The data rate is held against the nominal
rate where both members keep their own limits (assumption log 46). -/
def canTimingWrite (d : Dev) (c mem v : Nat) : Dev × Status × List Byte :=
  let v := if mem = 2 then v % 2 ^ 31 else v % 2 ^ 26
  let n := if mem = 2 then v else nGet d (can_NOMINAL c)
  let x := if mem = 2 then nGet d (can_DATA c) else v
  if nGet d (can_MODE c) ≠ 0 then (d, .state, [])
  else if (if mem = 2 then nominalOk v else dataOk v) = false then (d, .range, [])
  else if nominalOk n && dataOk x && decide (nominalDiv n < dataDiv x) then (d, .range, [])
  else (nSet d (mref 0x48 (4 + c) mem) v, .ok, [])

/-- A write of MODE (R581, R587): a change re-integrates. -/
def canModeWrite (d : Dev) (c v : Nat) : Dev × Status × List Byte :=
  if 3 < v then (d, .range, [])
  else if v ≠ 1 ∧ nGet d lite_LITE_CONTROLLER = c then (d, .state, [])
  else if v = nGet d (can_MODE c) then (d, .ok, [])
  else (drivePads (canFresh (nSet d (can_MODE c) v) c (if v = 0 then 0 else 1)), .ok, [])

/-- A write of a member of a CAN FD controller (R587). -/
def canWrite (d : Dev) (c mem : Nat) (x : Val) : Dev × Status × List Byte :=
  match x, mem with
  | .num v, 1 => canModeWrite d c v
  | .num v, 2 => canTimingWrite d c 2 v
  | .num v, 3 => canTimingWrite d c 3 v
  | .num v, 5 => canRestart d c v
  | x, _ => plainWrite d (mref 0x48 (4 + c) mem) x

/-- Whether a 10BASE-T1S port works. -/
def t1sOn (d : Dev) (p : Nat) : Bool := networkRuns d && nGet d (t1s_ENABLE p) == 1

/-- PLCA_STATUS falls to 0 (R577): counted, with the port's event. -/
def plcaLost (d : Dev) (p : Nat) : Dev :=
  let d := disarm d tkBeacon p
  if nGet d (t1s_PLCA_STATUS p) = 1 then raise (nInc (nSet d (t1s_PLCA_STATUS p) 0) (t1s_BEACON_LOSSES p)) (849 + p) else d

/-- PLCA_BEACON_SEND (R577): only a coordinator sends. -/
def doPlcaBeaconSend (port : Fin 2) (d : Dev) : Dev :=
  let p := port.val
  if t1sOn d p ∧ nGet d (t1s_PLCA_ENABLE p) = 1 ∧ nGet d (t1s_NODE_ID p) = 0 then
    emit (nSet d (t1s_PLCA_STATUS p) 1) (.beacon p (nGet d (t1s_TO_TIMER p)) (nGet d (t1s_NODE_COUNT p)))
  else d

/-- PLCA_BEACON_RECEIVED (R577): the node's status holds for 4,000 bit times, 400 µs. -/
def doPlcaBeaconReceived (port : Fin 2) (d : Dev) : Dev :=
  let p := port.val
  if t1sOn d p ∧ nGet d (t1s_PLCA_ENABLE p) = 1 ∧ nGet d (t1s_NODE_ID p) ≠ 0 then
    arm (nSet d (t1s_PLCA_STATUS p) 1) tkBeacon p (us 400)
  else d

/-- PLCA_BEACON_LOSS (R577). -/
def doPlcaBeaconLoss (port : Fin 2) (d : Dev) : Dev := if due d tkBeacon port.val then plcaLost d port.val else d

/-- A write of a member of a 10BASE-T1S port (R586). -/
def t1sWrite (d : Dev) (p mem : Nat) (x : Val) : Dev × Status × List Byte :=
  let r := mref 0x48 (2 + p) mem
  if 2 ≤ mem ∧ mem ≤ 6 ∧ nGet d (t1s_ENABLE p) = 1 then
    (match rowOf r with
     | some row => if inRange row x then (d, .state, []) else (d, .range, [])
     | none => (d, .noMember, []))
  else
    let y := plainWrite d r x
    if mem = 1 ∧ y.2.1 = .ok ∧ nGet y.1 (t1s_ENABLE p) = 0 then (plcaLost y.1 p, y.2) else y

/-- Whether a port takes a frame's destination (R576). -/
def t1sTakes (d : Dev) (p : Nat) (dst : List Byte) : Bool :=
  dst == ffs 6 || dst == bGet d (t1s_MAC p) ||
  (List.range 8).any (fun k =>
    let a := sliceOf (bGet d (t1s_MCAST_FILTER p)) (6 * k) 6
    a == dst && a != zeros 6)

/-- The EtherType and the payload of a frame without its FCS, after an IEEE 802.1Q tag (R576). -/
def etherBody (f : List Byte) : Nat × List Byte :=
  if ofBe (sliceOf f 12 2) = 0x8100 then (ofBe (sliceOf f 16 2), f.drop 18) else (ofBe (sliceOf f 12 2), f.drop 14)

/-- The entries that a 10BASE-T1S frame selects, rising (R281). -/
def t1sEntries (d : Dev) (port : Nat) (f : List Byte) : List Nat :=
  let b := etherBody f
  (entriesOf d 3 port).filter (fun n => decide (nGet d (sig_IDENT n) = b.1 * 65536 + ofBe (sliceOf b.2 0 2)) && decide (2 ≤ b.2.length))

/-- Whether the last four octets of a frame are its FCS (IEEE 802.3, R576). -/
def fcsGood (f : List Byte) : Bool :=
  decide (18 ≤ f.length) && ofLe (f.drop (f.length - 4)) == crc32 (f.take (f.length - 4))

/-- T1S_FRAME_RECEIVED (R576, R281, R285): the frame with its FCS. -/
def doT1sFrameReceived (port : Fin 2) (frame : List Byte) (d : Dev) : Dev :=
  let p := port.val
  if t1sOn d p = false then d
  else if fcsGood frame = false then nInc d (t1s_RX_ERRORS p)
  else
    let f := frame.take (frame.length - 4)
    if t1sTakes d p (sliceOf f 0 6) = false then d
    else
      let d := nInc d (t1s_RX_FRAMES p)
      let es := t1sEntries d p f
      if es = [] then nInc d (t1s_RX_UNMATCHED p)
      else entriesFrame 240 d es ((etherBody f).2.drop 2)

/-- RESTART (R583). -/
def doRestart (sess : Nat) (c : Fin 4) (arg : Nat) (d : Dev) : Dev := withGate d sess (can_RESTART c.val) (fun d => canRestart d c.val arg)

/-- SIGNAL_TIMEOUT (R286). -/
def execSignalTimeout (n : Fin 256) (s : State) : Res := .next (withDev s (doSignalTimeout n s.dev))
/-- T1S_FRAME_RECEIVED (R285). -/
def execT1sFrameReceived (port : Fin 2) (frame : List Byte) (s : State) : Res := .next (withDev s (doT1sFrameReceived port frame s.dev))
/-- CAN_BUS_OFF (R583). -/
def execCanBusOff (port : Fin 4) (s : State) : Res := .next (withDev s (doCanBusOff port s.dev))
/-- CAN_BUS_OFF_RECOVERY (R583). -/
def execCanBusOffRecovery (port : Fin 4) (s : State) : Res := .next (withDev s (doCanBusOffRecovery port s.dev))
/-- RESTART (R583). -/
def execRestart (sess : Nat) (c : Fin 4) (arg : Nat) (s : State) : Res := .next (withDev s (doRestart sess c arg s.dev))
/-- CAN_INTEGRATED (R587). -/
def execCanIntegrated (port : Fin 4) (s : State) : Res := .next (withDev s (doCanIntegrated port s.dev))
/-- CAN_PROTOCOL_ERROR (R579). -/
def execCanProtocolError (port : Fin 4) (transmitter : Bool) (tecAdd recAdd : Nat) (s : State) : Res :=
  .next (withDev s (doCanProtocolError port transmitter tecAdd recAdd s.dev))
/-- PLCA_BEACON_SEND (R577). -/
def execPlcaBeaconSend (port : Fin 2) (s : State) : Res := .next (withDev s (doPlcaBeaconSend port s.dev))
/-- PLCA_BEACON_LOSS (R577). -/
def execPlcaBeaconLoss (port : Fin 2) (s : State) : Res := .next (withDev s (doPlcaBeaconLoss port s.dev))
/-- PLCA_BEACON_RECEIVED (R577). -/
def execPlcaBeaconReceived (port : Fin 2) (s : State) : Res := .next (withDev s (doPlcaBeaconReceived port s.dev))

end Sys2Proof.Machine
end

