-- ==== Sys2Proof/Machine/Sessions.lean ====
section
/-!
DEFINITION. NOAP sessions, datagrams, READ, SUBSCRIBE and EVENT (object dictionary chapter, R42 to R59, R62, R63, R71 to R76, R81).
-/
namespace Sys2Proof.Machine

/-- Boost time in the last 120 s in ms (R683, R689), rounded down. -/
def boostWindow (d : Dev) : Nat :=
  let from0 := d.now - ms 120000
  let on := if nGet d boost_STATE = 1 then [(d.power.boostStart, d.now)] else []
  ((d.power.boostSpans ++ on).foldl (fun a s => a + (s.2 - max from0 s.1)) 0) / 1000000

/-- Boost seconds of the device's life with their part of a second, in ns (R684). -/
def boostLife (d : Dev) : Nat :=
  nGet d boost_LIFETIME_S * 10 ^ 9 + d.power.boostFrac + (if nGet d boost_STATE = 1 then d.now - d.power.boostStart else 0)

/-- The items of START_MISSING that have not concluded (R714, R718). -/
def startMissing (d : Dev) : Nat :=
  let lanes := fun (k : Nat) => (List.range 32).any (fun l => decide (nGet d (lane_DIRECTION l) = k) && decide (nGet d (lane_STATE l) ≠ 6))
  let panels := (List.range 16).any (fun h => headRuns d h && decide (liveNat d h (head_LANE h) < 32) &&
    decide (nGet d (panel_IDENTITY_STATE h) < 2))
  let can := (List.range 4).any (fun c => decide (nGet d (can_MODE c) ≠ 0) && decide (nGet d (can_STATE c) ≠ 2))
  let t1s := (List.range 2).any (fun p => decide (nGet d (t1s_ENABLE p) = 1) && decide (nGet d (t1s_PLCA_STATUS p) ≠ 1))
  let items := [lanes 1, panels, lanes 2, !d.dram.ready, decide (nGet d hearth_PACKAGE_STATE < 2), decide (d.trust.scene = 0), can, t1s]
  ((List.range 8).zip items).foldl (fun a x => a + x.2.toNat * 2 ^ x.1) 0

/-- What a read of a member without STAGED returns (R37, R88). The time, the boost times, the capped time and the open
items of a start are worked out at the read. -/
def readVal (d : Dev) (r : Ref) : Val :=
  if r = time_TIME then .num (tbRead d)
  else if r = dev_START_MISSING ∧ d.trust.released then .num (startMissing d)
  else if r = boost_WINDOW_MS then .num (boostWindow d)
  else if r = boost_LIFETIME_S then .num (boostLife d / 10 ^ 9)
  else if r = blit_CAPPED_MS then
    .num (satAdd 32 (nGet d blit_CAPPED_MS) (match d.power.cappedSince with
      | some t => (d.power.cappedFrac + (d.now - t)) / 1000000
      | none => 0))
  else mGet d r

/-- The octets of a value of a type on the wire (R33, R34). -/
def encodeVal (t : Ty) (v : Val) : List Byte :=
  match v with
  | .num n => beBytes t.len n
  | .bytes b => b

/-- OBJ_INFO of an object (R30). -/
def objInfo (r : Ref) : Nat := refClass r * 2 ^ 24 + 2 ^ 16 + highestMember r

/-- A read of a member (R30, R31, R37, R38, R702): status, type code and octets. A BLOB beyond the 1,024 bytes of R33 has no form in a
message: its READ completes with RANGE (assumption log 47). -/
def readMember (d : Dev) (sess : Nat) (staged : Bool) (r : Ref) : Status × Nat × List Byte :=
  if objExists d r = false then (.noObject, 0, [])
  else if memberDefined r = false then (.noMember, 0, [])
  else if lifecycleForbids d sess r then (.state, 0, [])
  else if refMember r = 0 then (.ok, 4, beBytes 4 (objInfo r))
  else match rowOf r with
    | none => (.noMember, 0, [])
    | some m =>
      if m.acc = .w ∨ m.acc = .x then (.access, 0, [])
      else
        let v := if staged && m.acc == .rwf then (stagedVal d r).getD (readVal d r) else readVal d r
        let b := encodeVal m.typ v
        if m.typ = .blob ∧ 1024 < b.length then (.range, 0, []) else (.ok, m.typ.code, b)

/-- The items of a READ response in request order (R62, R63): once an item would carry the body past 1,400 bytes, it and all later
ones are BUSY; the 4 octets of each later item are held free for it (R43, assumption log 47). The type code of an item that fails or
is BUSY is open in the spec: it is 0 with length 0 (assumption log 100). -/
def readItems (d : Dev) (sess : Nat) (staged : Bool) : Nat → Bool → List Ref → List Byte
  | _, _, [] => []
  | size, full, r :: l =>
    let x := readMember d sess staged r
    let full := full || decide (1400 < size + 4 + x.2.2.length + 4 * l.length)
    if full then octets [Status.busy.code, 0, 0, 0] ++ readItems d sess staged size true l
    else octets [x.1.code, x.2.1] ++ beBytes 2 x.2.2.length ++ x.2.2 ++ readItems d sess staged (size + 4 + x.2.2.length) false l

/-- A request whose count is not from 1 to 32 (R62, R64, R71) is answered with one octet, RANGE (assumption log 47). -/
def badCount (d : Dev) (sess seq typ : Nat) : Dev := answer d sess seq typ (octets [Status.range.code])

/-- Whether a count is from 1 to 32. -/
def countOk (n : Nat) : Bool := decide (1 ≤ n) && decide (n ≤ 32)

/-- SESSIONS and CONTROLLER from the open sessions (R81). -/
def countSessions (d : Dev) : Dev :=
  nSets d [(noap_SESSIONS, (d.noap.sessions.filter (·.isOpen)).length), (noap_CONTROLLER, (controllerOf d).getD 0)]

/-- A session closes (R53, R54, R626): its HOST claims end; with the controlling one the staging set goes and the scene lease timer
starts (R135). -/
def closeSession (d : Dev) (sess : Nat) : Dev :=
  match d.noap.sessions.find? (fun x => x.id = sess) with
  | none => d
  | some x =>
    let d := countSessions { d with noap.sessions := d.noap.sessions.filter (fun y => y.id ≠ sess) }
    let d := endNotified d ((x.unacked.map (·.notifs)).flatten ++ x.queue)
    if x.controller && x.isOpen then arm (discardOp d 0).1 tkSceneLease 0 0 else d

/-- Every session closes (R53, R81). -/
def closeAll (d : Dev) : Dev := (d.noap.sessions.map (·.id)).foldl closeSession d

/-- A session closes after 2^31 messages in either direction (R53). -/
def limitCheck (d : Dev) (sess : Nat) : Dev :=
  match d.noap.sessions.find? (fun x => x.id = sess) with
  | some x => if 2 ^ 31 ≤ x.msgsIn ∨ 2 ^ 31 ≤ x.msgsOut then closeSession d sess else d
  | none => d

/-- The body of a HELLO response without its signature. -/
def helloHead (st : Status) (sess : Nat) (key nonce : List Byte) : List Byte := octets [st.code] ++ beBytes 4 sess ++ key ++ nonce

/-- HELLO (R47, R50 to R52) from a peer: a session in set-up, with the keys of R47 and the transcript digest that KEY
signs. The device's ephemeral key and its nonce are free values, and so is what a BUSY response holds after its SESSION of 0
(assumption log 4). SESSION and SEQ of the header of the untagged response are 0 (assumption log 101). A role octet other than 0x00 and 0x01, of which the
spec says nothing, asks for an observer (assumption log 132). -/
def doHello (peer : Peer) (role slot : Nat) (hostKey nonce : List Byte) (d : Dev) : Dev :=
  if nGet d noap_ENABLE = 0 ∨ nGet d dev_FK_STATE ≠ 1 ∨ networkRuns d = false then d
  else
    let opened := (d.noap.sessions.filter (·.isOpen)).length
    let setup := d.noap.sessions.length - opened
    if 4 ≤ opened ∨ 2 ≤ setup then
      sendNoap (freeUsedN d 225) peer (noapMessage none 0x10 1 0 0 (octets [Status.busy.code] ++ beBytes 4 0 ++ freeBytes d.free 225))
    else
      let held := d.noap.sessions.any (·.controller)
      let id := d.noap.nextId
      let st : Status := if role = 1 ∧ held then .state else .ok
      let key := freeBytes d.free 97
      let dn := freeBytes (d.free + 97) 32
      let resp := helloHead st id key dn
      let digest := (Config.sha384 (octets [role, slot] ++ hostKey ++ nonce ++ resp)).toList
      let x : Session :=
        { id := id, controller := role == 1 && !held, isOpen := false, slot := slot, digest := digest,
          keys := sessionKeys nonce dn (Config.ecdhShared hostKey d.free).toList id, seqIn := 0, seqOut := 0, msgsIn := 0, msgsOut := 0,
          kept := [], waiting := [], peer := peer, openedAt := d.now, lastMsg := d.now, subs := [], queue := [], unacked := [] }
      let d := { freeUsedN d 129 with noap.sessions := d.noap.sessions ++ [x], noap.nextId := id + 1 }
      sendNoap d peer (noapMessage none 0x10 1 0 0 (resp ++ (Config.ecdsaSign digest).toList))

/-- Whether the signature of KEY verifies (R49, R702): the host key slot holds a key that is not revoked. -/
def keyVerifies (d : Dev) (x : Session) (sig : List Byte) : Bool :=
  nGet d dev_LIFECYCLE == 0 ||
  (decide (x.slot < 8) && decide (bGet d (hostKey_HOST_KEY x.slot) ≠ []) && nGet d (hostKey_REVOKED x.slot) == 0 &&
    Config.ecdsaVerifies (bGet d (hostKey_HOST_KEY x.slot)) x.digest sig)

/-- KEY (R49, R51, R52, R135, R628). On an open session it is STATE, and one that would open a fifth session is BUSY and closes it
(assumption log 48). -/
def doKey (sess seq : Nat) (sig : List Byte) (d : Dev) : Dev :=
  match d.noap.sessions.find? (fun x => x.id = sess) with
  | none => d
  | some x =>
    if nGet d dev_FK_STATE ≠ 1 then d
    else
    let t := takeTurn d sess seq 0x11 0 0
    let d := t.1
    limitCheck (if t.2.isNone then d
    else if x.isOpen then answer d sess seq 0x11 (octets [Status.state.code])
    else if keyVerifies d x sig = false then closeSession (answer d sess seq 0x11 (octets [Status.auth.code])) sess
    else if 4 ≤ (d.noap.sessions.filter (·.isOpen)).length then
      closeSession (answer d sess seq 0x11 (octets [Status.busy.code])) sess
    else
      let d := countSessions (updSession d sess (fun y => { y with isOpen := true, openedAt := d.now }))
      let d := answer d sess seq 0x11 (octets [0])
      if x.controller then wakeHost (disarm d tkSceneLease 0) else d) sess

/-- CLOSE (R45, R53): from the host, or by the device, which then sends it. -/
def doClose (sess : Nat) (byDevice : Bool) (d : Dev) : Dev :=
  match d.noap.sessions.find? (fun x => x.id = sess) with
  | none => d
  | some x =>
    let d := if byDevice then sendMessage d sess x.peer 0x12 0 (x.seqOut + 1) [] else d
    closeSession d sess

/-- A request executed by its session's command (R56, R57, R59): in its turn, with its FLAGS; and the session's limit of messages. -/
def atTurn (d : Dev) (sess seq typ flags n : Nat) (run : Dev → Nat → Dev) : Dev :=
  if serves d sess = false then d
  else
    let t := takeTurn d sess seq typ flags n
    limitCheck (match t.2 with
      | some f => run t.1 f
      | none => t.1) sess

/-- A COMMIT of a session in its turn (R57, R69), with DRY_RUN in bit 2 of its FLAGS (R44, R68); later requests are executed while it is
evaluated. The device's own (session 0) has no turn. -/
def commitTurn (sess seq mask : Nat) (dry : Bool) (m : List Host.Cell) (d : Dev) : Dev :=
  if sess = 0 then commitReceived d m 0 seq mask dry
  else atTurn d sess seq 3 (4 * dry.toNat) 0 (fun d f => commitReceived (beginRequest d sess seq) m sess seq mask (bitOf f 2))

/-- COMMIT (R66 to R69, R117, R118). -/
def doCommit (sess seq mask : Nat) (s : State) : State := withDev s (commitTurn sess seq (mask % 65536) false s.mem s.dev)

/-- COMMIT_DRY_RUN (R68). -/
def doCommitDryRun (sess seq mask : Nat) (s : State) : State := withDev s (commitTurn sess seq (mask % 65536) true s.mem s.dev)

/-- COMMIT_DECISION (R139). -/
def doCommitDecision (s : State) : State :=
  match s.dev.scene.evaluating with
  | none => s
  | some e =>
    let s := decide' s e
    takeFree (withDev s (limitCheck (refreshLeases (afterDecision s.dev)) e.sess))

/-- READ (R62, R63), with STAGED in bit 1 of its FLAGS (R38, R44). -/
def doRead (sess seq : Nat) (staged : Bool) (refs : List Ref) (d : Dev) : Dev :=
  atTurn d sess seq 1 (2 * staged.toNat) refs.length (fun d f =>
    if countOk refs.length = false then badCount d sess seq 1
    else answer d sess seq 1 (octets [refs.length] ++ readItems d sess (bitOf f 1) 1 false refs))

/-- Every subscription of the device (R72). -/
def subCount (d : Dev) : Nat := d.noap.sessions.foldl (fun a x => a + x.subs.length) 0

/-- A subscription taken away. -/
def dropSub (d : Dev) (sess : Nat) (r : Ref) : Dev := updSession d sess (fun x => { x with subs := x.subs.filter (fun s => s.ref ≠ r) })

/-- One item of a SUBSCRIBE (R71, R72): cancelling a member without a subscription is OK. A change made before the first on-change
subscription of a member is not notified. Of a second SUBSCRIBE of a member by the same session the spec says nothing: it replaces the
first (assumption log 102). -/
def subscribeItem (sess : Nat) (i : SubItem) (d : Dev) : Dev × Status :=
  if i.mode = 2 then (dropSub d sess i.ref, .ok)
  else if 1 < i.mode ∨ (i.mode = 1 ∧ (i.period < 10 ∨ 65535 < i.period)) then (d, .range)
  else
    let x0 := readMember d sess false i.ref
    if x0.1 ≠ .ok then (d, x0.1)
    else
      let e := dropSub d sess i.ref
      let mine : Nat := ((e.noap.sessions.find? (fun x => x.id = sess)).map (fun x => x.subs.length)).getD 0
      if 256 ≤ mine ∨ 512 ≤ subCount e then (d, .busy)
      else
        let heard := e.noap.sessions.any (fun x => x.subs.any (fun s => decide (s.ref = i.ref) && !s.periodic))
        let e := if i.mode = 0 ∧ heard = false then { e with dirty := mapErase e.dirty i.ref } else e
        (updSession e sess (fun x =>
          { x with subs := x.subs ++ [{ ref := i.ref, periodic := i.mode == 1, period := i.period, deadline := d.now + ms i.period,
                                        seen := x0.2.2 }] }), .ok)

/-- The items of a SUBSCRIBE in order, with their statuses. -/
def subscribeItems (sess : Nat) : List SubItem → Dev → Dev × List Nat
  | [], d => (d, [])
  | i :: l, d =>
    let x := subscribeItem sess i d
    let y := subscribeItems sess l x.1
    (y.1, x.2.code :: y.2)

/-- SUBSCRIBE (R71, R72). -/
def doSubscribe (sess seq : Nat) (items : List SubItem) (d : Dev) : Dev :=
  atTurn d sess seq 4 0 items.length (fun d _ =>
    if countOk items.length = false then badCount d sess seq 4
    else
      let x := subscribeItems sess items d
      answer x.1 sess seq 4 (octets x.2))

/-- One notification on the wire (R74). -/
def notifBytes (n : Notif) : List Byte :=
  octets [n.kind, n.flags] ++ beBytes 4 n.ref ++ beBytes 8 n.time ++ octets [n.typ, 0] ++ beBytes 2 n.val.length ++ n.val

/-- How many of a queue's notifications one EVENT body of 1,400 bytes and a count of one octet holds (R44, R74). -/
def eventFit : Nat → List Notif → Nat
  | _, [] => 0
  | size, n :: l => if 1400 < size + 18 + n.val.length then 0 else 1 + eventFit (size + 18 + n.val.length) l

/-- EVENT_SEND (R61, R74 to R76): one EVENT of queued notifications, while no request awaits its response and fewer than 16 EVENTs
are unacknowledged. -/
def doEventSend (sess : Nat) (d : Dev) : Dev :=
  match d.noap.sessions.find? (fun x => x.id = sess) with
  | none => d
  | some x =>
    let k := min 255 (eventFit 1 x.queue)
    if serves d sess = false ∨ 16 ≤ x.unacked.length ∨ k = 0 ∨ x.waiting ≠ [] then d
    else
      let ns := x.queue.take k
      let q := x.seqOut + 1
      let d := updSession d sess (fun y =>
        { y with queue := y.queue.drop k, seqOut := q, msgsOut := y.msgsOut + 1,
                 unacked := y.unacked ++ [{ seq := q, heard := false, repeats := 0, deadline := d.now + ms 20, notifs := ns }] })
      limitCheck (sendMessage d sess x.peer 5 0 q (octets [ns.length] ++ (ns.map notifBytes).flatten)) sess

/-- EVENT_REPEAT_EXPIRY (R75, R76, R626). -/
def doEventRepeatExpiry (sess seq : Nat) (d : Dev) : Dev :=
  match d.noap.sessions.find? (fun x => x.id = sess) with
  | none => d
  | some x => match x.unacked.find? (fun u => u.seq = seq) with
    | none => d
    | some u =>
      if serves d sess = false ∨ u.heard ∨ d.now < u.deadline then d
      else if 5 ≤ u.repeats then
        let d := updSession d sess (fun y => { y with unacked := y.unacked.filter (fun v => v.seq ≠ seq) })
        endNotified (nAdd d noap_EVENTS_LOST u.notifs.length) u.notifs
      else
        let d := updSession d sess (fun y =>
          { y with msgsOut := y.msgsOut + 1,
                   unacked := y.unacked.map (fun v => if v.seq = seq then { v with repeats := v.repeats + 1, deadline := d.now + ms 20 } else v) })
        limitCheck (sendMessage d sess x.peer 5 0 seq (octets [u.notifs.length] ++ (u.notifs.map notifBytes).flatten)) sess

/-- EVENT_ACK (R53, R75, R626): a response that no datagram has brought is a message heard now. -/
def doEventAck (sess seq : Nat) (d : Dev) : Dev :=
  match d.noap.sessions.find? (fun x => x.id = sess) with
  | none => d
  | some x => match x.unacked.find? (fun u => u.seq = seq) with
    | none => d
    | some u =>
      if serves d sess = false then d
      else
        let d := if u.heard then d else hearHost d sess
        limitCheck (endNotified (updSession d sess (fun y => { y with unacked := y.unacked.filter (fun v => v.seq ≠ seq) })) u.notifs) sess

/-- A member-value notification (R74). -/
def memberNotif (d : Dev) (r : Ref) (time : Nat) (onChange : Bool) : Option Notif :=
  let x := readMember d 0 false r
  if x.1 = .ok then some { kind := 0, flags := 0, ref := r, time := time, typ := x.2.1, val := x.2.2, source := none, onChange := onChange }
  else none

/-- PERIODIC_SUBSCRIPTION_EXPIRY (R71, R74). -/
def doPeriodicSubscriptionExpiry (sess : Nat) (r : Ref) (d : Dev) : Dev :=
  match d.noap.sessions.find? (fun x => x.id = sess) with
  | none => d
  | some x => match x.subs.find? (fun s => decide (s.ref = r) && s.periodic) with
    | none => d
    | some s =>
      if serves d sess = false ∨ d.now < s.deadline then d
      else
        let e := updSession d sess (fun y =>
          { y with subs := y.subs.map (fun t => if t.ref = r then { t with deadline := t.deadline + ms t.period } else t) })
        match memberNotif d r (tbNs d) false with
        | some n => queueNotif e sess n
        | none => e

/-- The members that are worked out at a read (R37). -/
def workedOut (r : Ref) : Bool := [time_TIME, dev_START_MISSING, boost_WINDOW_MS, boost_LIFETIME_S, blit_CAPPED_MS].contains r

/-- The on-change subscriptions of all sessions whose member has changed, each with the time of its latest change (R73). -/
def changedSubs (d : Dev) : List (Nat × Ref × Nat) :=
  (d.noap.sessions.map (fun x => (x.subs.filter (fun s => !s.periodic)).filterMap (fun s =>
    (mapFind d.dirty s.ref).map (fun t => (x.id, s.ref, t))))).flatten

/-- The on-change subscriptions of members that are worked out at a read (R37, R73). -/
def workedOutSubs (d : Dev) : List Sub :=
  ((d.noap.sessions.map (·.subs)).flatten).filter (fun s => !s.periodic && workedOut s.ref)

/-- A change of a member that is worked out at a read is marked with the time at which it came about (R73, R74): it reads differently
than it last did. -/
def noteSeen (d : Dev) : Dev :=
  let now := fun (s : Sub) => (readMember d 0 false s.ref).2.2
  let ss := workedOutSubs d
  if ss.isEmpty then d
  else
    { d with dirty := (ss.filter (fun s => decide (now s ≠ s.seen))).foldl (fun m s => mapPut m s.ref (tbNs d)) d.dirty,
             noap.sessions := d.noap.sessions.map (fun x => { x with subs := x.subs.map (fun s =>
               if !s.periodic && workedOut s.ref then { s with seen := now s } else s) }) }

/-- ON_CHANGE_WINDOW_EXPIRY (R73): at the end of a millisecond each changed member gives one notification with its latest value. -/
def doOnChangeWindowExpiry (d : Dev) : Dev :=
  if d.now < d.noap.window + ms 1 ∨ nGet d dev_FK_STATE ≠ 1 then d
  else
    let d := noteSeen d
    let l := changedSubs d
    let d := { d with noap.window := d.now, dirty := [] }
    l.foldl (fun d c => match memberNotif d c.2.1 c.2.2 true with
      | some n => queueNotif d c.1 n
      | none => d) d

/-- SESSION_IDLE_TIMEOUT (R53). -/
def doSessionIdleTimeout (sess : Nat) (d : Dev) : Dev :=
  match d.noap.sessions.find? (fun x => x.id = sess) with
  | some x => if x.lastMsg + ms (nGet d noap_IDLE_TIMEOUT) ≤ d.now then closeSession d sess else d
  | none => d

/-- SESSION_LIFETIME_EXPIRY (R53): 24 hours after it opened. -/
def doSessionLifetimeExpiry (sess : Nat) (d : Dev) : Dev :=
  match d.noap.sessions.find? (fun x => x.id = sess) with
  | some x => if x.isOpen ∧ x.openedAt + ms 86400000 ≤ d.now then closeSession d sess else d
  | none => d

/-- A write of ENABLE (R81): 0 closes every session, after the response to the write. -/
def noapEnable (d : Dev) (v : Val) : Dev × Status × List Byte :=
  let x := plainWrite d noap_ENABLE v
  ({ x.1 with noap.closing := d.noap.closing || (x.2.1 == .ok && v == .num 0) }, x.2)

/-- Every session closes after the response to a write that closes them (R81, R574). -/
def closeIfAsked (d : Dev) : Dev := if d.noap.closing then closeAll { d with noap.closing := false } else d

/-- NOAP_ENABLE_WRITE (R81). -/
def doNoapEnableWrite (sess v : Nat) (d : Dev) : Dev :=
  closeIfAsked (withGate d sess noap_ENABLE (fun d => noapEnable d (.num v)))

/-- Whether a message type is known (R45). -/
def knownType (t : Nat) : Bool := [1, 2, 3, 4, 5, 6, 0x10, 0x11, 0x12].contains t

/-- The response to an EVENT has come (R75): it is not repeated any more. -/
def hearAck (d : Dev) (sess seq : Nat) : Dev :=
  updSession d sess (fun x => { x with unacked := x.unacked.map (fun u => if u.seq = seq then { u with heard := true } else u) })

/-- A datagram for port 49702 from a peer (R42 to R46, R55, R56, R59, R60, R563): what it asks for comes as a command of its own. RESPONSE
in a request and the reserved FLAGS are not looked at (assumption log 56). -/
def noapReceive (d : Dev) (fragment : Bool) (peer : Peer) (b : List Byte) : Dev :=
  if nGet d noap_ENABLE = 0 ∨ nGet d dev_FK_STATE ≠ 1 ∨ networkRuns d = false then d
  else if fragment ∨ 1432 < b.length then nInc d noap_FRAG_DROPPED
  else
    let typ := ofBe (sliceOf b 3 1)
    let sess := ofBe (sliceOf b 8 4)
    let seq := ofBe (sliceOf b 12 4)
    let n := ofBe (sliceOf b 6 2)
    if b.length ≠ n + 32 ∨ ofBe (sliceOf b 0 2) ≠ 0x4E4F ∨ ofBe (sliceOf b 2 1) ≠ 1 ∨ knownType typ = false ∨ typ = 0x10 then d
    else match d.noap.sessions.find? (fun x => x.id = sess) with
      | none => d
      | some x =>
        if sliceOf b (16 + n) 16 ≠ noapTag (sliceOf x.keys 0 48) (b.take (16 + n)) then nInc d noap_TAG_FAIL
        else if x.isOpen = false ∧ typ ≠ 0x11 ∧ typ ≠ 0x12 then d
        else
          let d := hearHost d sess
          if typ = 5 then limitCheck (hearAck d sess seq) sess
          else
            let d := updSession d sess (fun y => { y with peer := peer })
            let r : Req := { seq := seq, typ := typ, flags := ofBe (sliceOf b 4 2), peer := peer, arrived := d.now, started := false }
            limitCheck (if typ = 0x12 then d else requestIn x r (ofBe (sliceOf b 16 (min n 1))) d) sess

/-- The peer that a command's source names. -/
def peerOf (src : UdpSource) : Peer := { upl := src.uplink.val, mac := src.mac, ip := src.ip, port := src.port, own := src.own }

/-- NOAP_DATAGRAM_RECEIVED (R46). -/
def doNoapDatagramReceived (peer : Peer) (fragment : Bool) (b : List Byte) (d : Dev) : Dev := noapReceive d fragment peer b

/-- NOAP_DATAGRAM_RECEIVED (R46). -/
def execNoapDatagramReceived (src : UdpSource) (fragment : Bool) (b : List Byte) (s : State) : Res :=
  .next (withDev s (doNoapDatagramReceived (peerOf src) fragment b s.dev))
/-- HELLO (R50). -/
def execHello (src : UdpSource) (role slot : Nat) (hostKey nonce : List Byte) (s : State) : Res :=
  .next (withDev s (doHello (peerOf src) role slot hostKey nonce s.dev))
/-- KEY (R49). -/
def execKey (sess seq : Nat) (sig : List Byte) (s : State) : Res := .next (withDev s (doKey sess seq sig s.dev))
/-- CLOSE (R53). -/
def execClose (sess : Nat) (byDevice : Bool) (s : State) : Res := .next (withDev s (doClose sess byDevice s.dev))
/-- COMMIT (R66). -/
def execCommit (sess seq mask : Nat) (s : State) : Res := .next (doCommit sess seq mask s)
/-- COMMIT_DRY_RUN (R68). -/
def execCommitDryRun (sess seq mask : Nat) (s : State) : Res := .next (doCommitDryRun sess seq mask s)
/-- COMMIT_DECISION (R139). -/
def execCommitDecision (s : State) : Res := .next (doCommitDecision s)
/-- READ (R62). -/
def execRead (sess seq : Nat) (staged : Bool) (refs : List Ref) (s : State) : Res := .next (withDev s (doRead sess seq staged refs s.dev))
/-- SUBSCRIBE (R71). -/
def execSubscribe (sess seq : Nat) (items : List SubItem) (s : State) : Res := .next (withDev s (doSubscribe sess seq items s.dev))
/-- EVENT_ACK (R75). -/
def execEventAck (sess seq : Nat) (s : State) : Res := .next (withDev s (doEventAck sess seq s.dev))
/-- EVENT_SEND (R76). -/
def execEventSend (sess : Nat) (s : State) : Res := .next (withDev s (doEventSend sess s.dev))
/-- EVENT_REPEAT_EXPIRY (R75). -/
def execEventRepeatExpiry (sess seq : Nat) (s : State) : Res := .next (withDev s (doEventRepeatExpiry sess seq s.dev))
/-- PERIODIC_SUBSCRIPTION_EXPIRY (R71). -/
def execPeriodicSubscriptionExpiry (sess : Nat) (ref : Ref) (s : State) : Res :=
  .next (withDev s (doPeriodicSubscriptionExpiry sess ref s.dev))
/-- ON_CHANGE_WINDOW_EXPIRY (R73). -/
def execOnChangeWindowExpiry (s : State) : Res := .next (withDev s (doOnChangeWindowExpiry s.dev))
/-- SESSION_IDLE_TIMEOUT (R53). -/
def execSessionIdleTimeout (sess : Nat) (s : State) : Res := .next (withDev s (doSessionIdleTimeout sess s.dev))
/-- SESSION_LIFETIME_EXPIRY (R53). -/
def execSessionLifetimeExpiry (sess : Nat) (s : State) : Res := .next (withDev s (doSessionLifetimeExpiry sess s.dev))
/-- NOAP_ENABLE_WRITE (R81). -/
def execNoapEnableWrite (sess v : Nat) (s : State) : Res := .next (withDev s (doNoapEnableWrite sess v s.dev))

end Sys2Proof.Machine
end

