-- ==== Sys2Proof/Machine/Network.lean ====
section
/-!
DEFINITION. The uplinks (network chapter, R558 to R574, R584, R585): frames, IP functions, IEEE 1722 streams, gPTP, redundancy.
-/
namespace Sys2Proof.Machine

/-- A neighbour solicitation of duplicate address detection (R562). -/
def probe (d : Dev) (u k : Nat) : Dev :=
  let a := ip6Of d u k
  sendIp d u (mcast6 (solicited a)) 0x86DD (icmp6 (zeros 16) (solicited a) (octets [135, 0, 0, 0, 0, 0, 0, 0] ++ a))

/-- A USXGMII link held down for its rate (R558): LINK_DOWNS counts it once. -/
def holdDown (d : Dev) (u : Nat) : Dev :=
  if d.net.heldDown.contains u then d else nInc { d with net.heldDown := d.net.heldDown ++ [u] } (upl_LINK_DOWNS u)

/-- ACTIVE as a link comes up under FAILOVER with no uplink active (R572): the first uplink takes it, uplink 0 where both come up
in one cycle. -/
def firstActive (d : Dev) (u : Nat) : Dev :=
  if nGet d addr_REDUNDANCY ≠ 1 then d
  else if nGet d addr_ACTIVE = 0xFF then nSet { d with net.firstUp := if u = 1 then some d.now else none } addr_ACTIVE u
  else if u = 0 ∧ nGet d addr_ACTIVE = 1 ∧ d.net.firstUp = some d.now then nSet { d with net.firstUp := none } addr_ACTIVE 0
  else d

/-- UPLINK_LINK_UP (R558, R559, R562, R572). The rate of a USXGMII link comes with the PHY's word: 0 to 3 for 1, 2.5, 5 and
10 Gbit/s, 4 and 5 for 100 and 10 Mbit/s, at which the link is held down. -/
def doUplinkLinkUp (u : Fin 2) (rate : Fin 6) (d : Dev) : Dev :=
  let u := u.val
  let m := nGet d (upl_MODE u)
  if (m ≠ 1 ∧ m ≠ 2) ∨ networkRuns d = false ∨ nGet d (upl_LINK u) = 1 ∨ (armed d tkUplink u ∧ due d tkUplink u = false) then d
  else if m = 2 ∧ 4 ≤ rate.val then holdDown d u
  else
    let d := nSet d (upl_SPEED u) (if m = 1 then 4 else 1 + rate.val)
    let d := arm d tkUplink u (ms 1)
    let d := nSet { d with net.checking := d.net.checking ++ [u], net.heldDown := d.net.heldDown.filter (· ≠ u) } (upl_LINK u) 1
    let d := firstActive d u
    let d := updSlopes (addrState d)
    (List.range 2).foldl (fun d k => if hasIp6 d u k then probe d u k else d) d

/-- UPLINK_LINK_DOWN (R559, R572): a condition that LINK needs has been lost for 1 ms. -/
def doUplinkLinkDown (u : Fin 2) (d : Dev) : Dev := if due d tkUplink u.val then linkDown d u.val else d

/-- DUPLICATE_ADDRESS_DETECTION_DONE (R562): bit k of `conflict` says that address k is in use elsewhere. -/
def doDuplicateAddressDetectionDone (u : Fin 2) (conflict : Fin 4) (d : Dev) : Dev :=
  let u := u.val
  if d.net.checking.contains u = false then d
  else
    let ks := (List.range 2).filter (hasIp6 d u)
    let bad := ks.filter (fun k => bitOf conflict.val k)
    let good := ks.filter (fun k => !bitOf conflict.val k)
    addrState { d with net.checking := d.net.checking.filter (· ≠ u),
                       net.usable := d.net.usable ++ good.map (4 * u + ·), net.conflict := d.net.conflict ++ bad.map (4 * u + ·) }

/-- A write of REDUNDANCY (R574): the sessions close after the response, and both uplinks restart once it has left. -/
def redundancyWrite (d : Dev) (v : Val) : Dev × Status × List Byte :=
  let x := plainWrite d addr_REDUNDANCY v
  if x.2.1 = .ok then (nSet { x.1 with noap.closing := true, net.restart := true } addr_ACTIVE 0xFF, x.2) else x

/-- A write of an uplink member (R584): MODE restarts the PCS, CLASS_B_PCP differs from CLASS_A_PCP. -/
def uplinkWrite (d : Dev) (u mem : Nat) (v : Val) : Dev × Status × List Byte :=
  if mem = 12 ∧ v = .num (nGet d (upl_CLASS_A_PCP u)) then (d, .range, [])
  else
    let x := plainWrite d (mref 0x48 u mem) v
    if mem = 1 ∧ x.2.1 = .ok then
      (linkDown (pcsRestart { x.1 with net.heldDown := x.1.net.heldDown.filter (· ≠ u) } u) u, x.2)
    else x

/-- A write of an addressing member (R585). -/
def addrWrite (d : Dev) (mem : Nat) (v : Val) : Dev × Status × List Byte :=
  if mem = 1 then redundancyWrite d v
  else
    let x := plainWrite d (mref 0x48 8 mem) v
    let keep := fun (l : List Nat) => if mem = 6 ∧ hasIp6 x.1 0 1 = false then l.filter (fun k => decide (k % 4 ≠ 1)) else l
    if x.2.1 = .ok then (addrState { x.1 with net.usable := keep x.1.net.usable, net.conflict := keep x.1.net.conflict }, x.2) else x

/-- A write of a stream member (R567): n counts listeners 0 to 15 and talkers 16 to 31. -/
def streamWrite (d : Dev) (n mem : Nat) (v : Val) : Dev × Status × List Byte :=
  let x := plainWrite d (mref 0x48 (0x100 + n) mem) v
  if x.2.1 = .ok ∧ nGet d (avtp_ENABLE n) = 1 then (d, .state, []) else x

/-- A write of an audio member of a listener or talker (R551, R566): channels end at output 47, and a talker is enabled only within
75 % of its uplink's rate, where it has one (assumption log 45). -/
def avtpWrite (d : Dev) (n mem : Nat) (v : Val) : Dev × Status × List Byte :=
  let x := plainWrite d (mref 0x42 (0x10 + n) mem) v
  let e := x.1
  let u := streamUplink e n
  if x.2.1 ≠ .ok then x
  else if 16 ≤ n ∧ 48 < nGet e (avtp_FIRST_OUTPUT n) + nGet e (avtp_CHANNELS n) then (d, .range, [])
  else if 16 ≤ n ∧ mem = 1 ∧ v = .num 1 ∧ u < 2 ∧ nGet e (upl_SPEED u) ≠ 0 ∧
      uplinkRate e u * 3 < (idleSlope e u 0 + idleSlope e u 1) * 4 then (d, .range, [])
  else
    let e := if mem = 1 then
      { e with audio.gathered := if 16 ≤ n then mapErase e.audio.gathered (n - 16) else e.audio.gathered,
               audio.pduSeq := if n < 16 then mapErase e.audio.pduSeq (16 + n) else e.audio.pduSeq }
      else e
    (updSlopes e, x.2)

/-- Whether an uplink's MAC takes a destination address (R560). -/
def macTakes (d : Dev) (u : Nat) (dst : List Byte) : Bool :=
  dst == ffs 6 || dst == macOf d u ||
  (decide (nGet d (upl_GPTP_ROLE u) ≠ 0) && dst == octets [0x01, 0x80, 0xC2, 0, 0, 0x0E]) ||
  dst == mcast6 allNodes || (List.range 2).any (fun k => hasIp6 d u k && dst == mcast6 (solicited (ip6Of d u k))) ||
  (List.range 16).any (fun n => decide (nGet d (avtp_ENABLE n) = 1) && (nGet d addr_REDUNDANCY == 1 || nGet d (strm_UPLINK n) == u) &&
    bitOf (ofBe (sliceOf dst 0 1)) 0 && sliceOf (bGet d (strm_DEST_MAC n)) 0 6 == dst)

/-- The VLAN of a frame, 0 untagged (R561). -/
def frameVlan (f : List Byte) : Nat := if ofBe (sliceOf f 12 2) = 0x8100 then ofBe (sliceOf f 14 2) % 4096 else 0

/-- Whether an IPv4 packet is a fragment (R562). -/
def fragment4 (p : List Byte) : Bool := decide (ofBe (sliceOf p 6 2) % 0x4000 ≠ 0)

/-- Whether an IP payload of a type is a fragment (R562). -/
def isFragment (typ : Nat) (p : List Byte) : Bool :=
  (typ == 0x0800 && fragment4 p) || (typ == 0x86DD && ofBe (sliceOf p 6 1) == 44)

/-- Whether a fragment names NOAP's port (R43): only a first fragment holds it. -/
def fragmentOfNoap (typ : Nat) (p : List Byte) : Bool :=
  if typ = 0x0800 then
    let ihl := 4 * (ofBe (sliceOf p 0 1) % 16)
    ofBe (sliceOf p 9 1) == 17 && ofBe (sliceOf p 6 2) % 0x2000 == 0 && ofBe (sliceOf p (ihl + 2) 2) == 49702
  else ofBe (sliceOf p 40 1) == 17 && ofBe (sliceOf p 42 2) / 8 == 0 && ofBe (sliceOf p 50 2) == 49702

/-- Whether IPv4 is in use (R562, R585). -/
def ip4Up (d : Dev) : Bool := decide (nGet d addr_IPV4_ADDR ≠ 0)

/-- An ARP packet received (R562): a request for IPV4_ADDR is answered. -/
def arpIn (d : Dev) (u : Nat) (p : List Byte) : Dev :=
  if ip4Up d ∧ ofBe (sliceOf p 6 2) = 1 ∧ ofBe (sliceOf p 24 4) = nGet d addr_IPV4_ADDR then
    sendIp d u (sliceOf p 8 6) 0x0806 (arpBody d u 2 (sliceOf p 8 6) (ofBe (sliceOf p 14 4)))
  else d

/-- An IPv4 packet received (R562): ICMP echo and NOAP. -/
def ip4In (d : Dev) (u : Nat) (src p : List Byte) : Dev :=
  let ihl := 4 * (ofBe (sliceOf p 0 1) % 16)
  let body := sliceOf p ihl (ofBe (sliceOf p 2 2) - ihl)
  let proto := ofBe (sliceOf p 9 1)
  if ip4Up d = false ∨ ofBe (sliceOf p 16 4) ≠ nGet d addr_IPV4_ADDR then d
  else if proto = 1 ∧ ofBe (sliceOf body 0 1) = 8 then
    let b := octets [0, 0, 0, 0] ++ body.drop 4
    sendIp d u src 0x0800 (ip4 (nGet d addr_IPV4_ADDR) (ofBe (sliceOf p 12 4)) 1 (b.take 2 ++ inetCheck b ++ b.drop 4))
  else if proto = 17 ∧ ofBe (sliceOf body 2 2) = 49702 then
    noapReceive d false { upl := u, mac := src, ip := sliceOf p 12 4, port := ofBe (sliceOf body 0 2), own := sliceOf p 16 4 }
      (sliceOf body 8 (ofBe (sliceOf body 4 2) - 8))
  else d

/-- An IPv6 packet received (R562): neighbour solicitation, ICMPv6 echo and NOAP. -/
def ip6In (d : Dev) (u : Nat) (src p : List Byte) : Dev :=
  let from6 := sliceOf p 8 16
  let dst := sliceOf p 24 16
  let body := sliceOf p 40 (ofBe (sliceOf p 4 2))
  let next := ofBe (sliceOf p 6 1)
  let mine := (List.range 2).filter (fun k => d.net.usable.contains (4 * u + k))
  if next = 58 ∧ ofBe (sliceOf body 0 1) = 135 then
    let t := sliceOf body 8 16
    if mine.any (fun k => ip6Of d u k == t) then
      if from6 = zeros 16 then advert d u t 0x20 (mcast6 allNodes) allNodes else advert d u t 0x60 src from6
    else d
  else if mine.any (fun k => ip6Of d u k == dst) = false then d
  else if next = 58 ∧ ofBe (sliceOf body 0 1) = 128 then
    sendIp d u src 0x86DD (icmp6 dst from6 (octets [129, 0, 0, 0] ++ body.drop 4))
  else if next = 17 ∧ ofBe (sliceOf body 2 2) = 49702 then
    noapReceive d false { upl := u, mac := src, ip := from6, port := ofBe (sliceOf body 0 2), own := dst }
      (sliceOf body 8 (ofBe (sliceOf body 4 2) - 8))
  else d

/-- Octets of a sample of an AAF format that a listener takes (R551), else 0. -/
def aafOctets (fmt : Nat) : Nat := if fmt = 2 then 4 else if fmt = 3 then 3 else if fmt = 4 then 2 else 0

/-- A sample of a PDU as 24 bits (R551). -/
def aafSample (w : Nat) (b : List Byte) : Int := sintOf 24 (if w = 4 then ofBe b / 256 else if w = 3 then ofBe b else ofBe b * 256)

/-- An AAF PDU at listener n (R551, R552, R568). -/
def aafAt (d : Dev) (p : List Byte) (n : Nat) : Dev :=
  let ch := ofBe (sliceOf p 17 2) % 1024
  let nsr := ofBe (sliceOf p 17 1) / 16
  let w := aafOctets (ofBe (sliceOf p 16 1))
  let rate := if nsr = 7 then 1 else 0
  if bitOf (ofBe (sliceOf p 1 1)) 0 = false ∨ w = 0 then d
  else if ch ≠ nGet d (avtp_CHANNELS n) ∨ (nsr ≠ 5 ∧ nsr ≠ 7) ∨ rate ≠ nGet d (avtp_RATE n) then nInc d (avtp_MISMATCHES n)
  else
    let seq := ofBe (sliceOf p 2 1)
    let d := match mapFind d.audio.pduSeq (16 + n) with
      | some l => if seq = (l + 1) % 256 then d else nInc d (strm_SEQ_GAPS n)
      | none => d
    let d := nInc { d with audio.pduSeq := mapPut d.audio.pduSeq (16 + n) seq
                           audio.rates := (List.range ch).foldl (fun m c => mapPut m (8 * n + c) rate) d.audio.rates } (strm_PDUS n)
    let t := ((tbNs d : Int) + sintOf 32 (ofBe (sliceOf p 12 4) + 2 ^ 32 - tbNs d % 2 ^ 32)).toNat
    hear d (8 * n) ch rate t (some (avtp_LATE_SAMPLES n)) (fun k c => aafSample w (sliceOf p (24 + (k * ch + c) * w) w))
      (ofBe (sliceOf p 20 2) / (ch * w))

/-- Whether listener n takes a PDU from an uplink (R567, R568). -/
def aafTakes (d : Dev) (u : Nat) (f p : List Byte) (n : Nat) : Bool :=
  let dm := sliceOf (bGet d (strm_DEST_MAC n)) 0 6
  decide (nGet d (avtp_ENABLE n) = 1) && (nGet d addr_REDUNDANCY == 1 || nGet d (strm_UPLINK n) == u) &&
  decide (ofBe (sliceOf p 0 1) = 2) && decide (ofBe (sliceOf p 4 8) = nGet d (strm_STREAM_ID n)) &&
  decide (frameVlan f = nGet d (strm_VLAN_ID n)) && sliceOf f 0 6 == (if dm = zeros 6 then macOf d u else dm)

/-- A PDU of IEEE 1722 received. -/
def aafIn (d : Dev) (u : Nat) (f p : List Byte) : Dev := ((List.range 16).filter (aafTakes d u f p)).foldl (fun d n => aafAt d p n) d

/-- The EtherTypes that an uplink takes (R560). -/
def etherTypeTaken (t : Nat) : Bool := [0x0800, 0x0806, 0x86DD, 0x22F0, 0x88F7].contains t

/-- gPTP of an uplink. -/
def gptpOf (d : Dev) (u : Nat) : Gptp := mapGet d.net.gptp u Gptp.reset

/-- gPTP of an uplink changed. -/
def updGptp (d : Dev) (u : Nat) (f : Gptp → Gptp) : Dev := { d with net.gptp := mapSet d.net.gptp u (f (gptpOf d u)) Gptp.reset }

/-- The time at which a frame crosses an uplink's balls (R569): the timebase, and the position within the pin-clock cycle, a free value
(assumption log 4). -/
def crossing (d : Dev) : Nat := tbNs d + freeNat d 8 % 5

/-- The stamp of a received gPTP event message or 1722 PDU (R569). -/
def stampIn (d : Dev) (u : Nat) : Int := (crossing d : Int) - nGet d (upl_INGRESS_LATENCY_NS u)

/-- A received message stamped (R569). -/
def noteIn (d : Dev) (u : Nat) : Dev := updGptp (freeUsed d) u (fun g => { g with stampRx := stampIn d u })

/-- The port identity of an uplink (IEEE 802.1AS). -/
def portIdentity (d : Dev) (u : Nat) : List Byte :=
  let m := macOf d u
  sliceOf m 0 3 ++ octets [0xFF, 0xFE] ++ sliceOf m 3 3 ++ beBytes 2 (u + 1)

/-- A time as IEEE 802.1AS writes it: seconds and nanoseconds. -/
def ptpTime (t : Int) : List Byte := beBytes 6 (t.toNat / 10 ^ 9) ++ beBytes 4 (t.toNat % 10 ^ 9)

/-- A time that a gPTP message gives, with its correction field in whole ns. -/
def ptpTimeOf (p : List Byte) : Int :=
  ((ofBe (sliceOf p 34 6) * 10 ^ 9 + ofBe (sliceOf p 40 4) : Nat) : Int) + sintOf 64 (ofBe (sliceOf p 8 8)) / 65536

/-- A gPTP message leaves by its queue (R564), to the address of IEEE 802.1AS. -/
def sendGptp (d : Dev) (u : Nat) (mark : TxMark) (b : List Byte) : Dev :=
  sendFrame d u 0 mark (ethHead d u (octets [0x01, 0x80, 0xC2, 0, 0, 0x0E]) 0 0 0x88F7 ++ b)

/-- LINK_DELAY_NS from the four stamps of a peer-delay exchange (R570): asked here, heard there, answered there, heard here. -/
def linkDelay (d : Dev) (u : Nat) (t1 t2 t3 t4 : Int) : Dev :=
  nSet d (upl_LINK_DELAY_NS u) (min (2 ^ 32 - 1) (((t4 - t1) - (t3 - t2)) / 2).toNat)

/-- A gPTP message received by an uplink with a role (R569, R570, R592, IEEE 802.1AS): a Sync waits for its Follow_Up, which gives the
servo's sample; a peer-delay request is answered; a response and its follow-up end an exchange. -/
def gptpIn (d : Dev) (u : Nat) (p : List Byte) : Dev :=
  let typ := ofBe (sliceOf p 0 1) % 16
  let seq := ofBe (sliceOf p 30 2)
  let mine := sliceOf p 44 10 == portIdentity d u
  let t := stampIn d u
  if nGet d (upl_GPTP_ROLE u) = 0 then d
  else match typ, (gptpOf d u).sync, (gptpOf d u).asked, (gptpOf d u).reply with
    | 0, _, _, _ => updGptp (noteIn d u) u (fun g => { g with sync := some (seq, t, sintOf 64 (ofBe (sliceOf p 8 8)) / 65536) })
    | 8, some (k, r, c), _, _ =>
      if k = seq then gptpSample (updGptp d u (fun g => { g with sync := none })) u (r - (ptpTimeOf p + c + (nGet d (upl_LINK_DELAY_NS u) : Nat))) else d
    | 2, _, _, _ =>
      sendGptp (noteIn d u) u (.pdelayResp seq (sliceOf p 20 10)) (ptpHead d u 3 54 0x0200 seq 5 ++ ptpTime t ++ sliceOf p 20 10)
    | 3, _, some (k, _), _ =>
      if k = seq ∧ mine then updGptp (noteIn d u) u (fun g => { g with reply := some (seq, ptpTimeOf p, t) }) else d
    | 10, _, some (k, t1), some (j, t2, t4) =>
      if k = seq ∧ j = seq ∧ mine then linkDelay (updGptp d u (fun g => { g with asked := none, reply := none })) u t1 t2 (ptpTimeOf p) t4 else d
    | _, _, _, _ => d

/-- An accepted frame goes to its function by EtherType. -/
def frameIn (d : Dev) (u : Nat) (f : List Byte) : Dev :=
  let b := etherBody f
  let src := sliceOf f 6 6
  if b.1 = 0x0806 then arpIn d u b.2
  else if b.1 = 0x0800 then ip4In d u src b.2
  else if b.1 = 0x86DD then ip6In d u src b.2
  else if b.1 = 0x22F0 then aafIn (noteIn d u) u f b.2
  else gptpIn d u b.2

/-- A frame without its FCS at an uplink (R560 to R562). -/
def ethReceive (d : Dev) (u : Nat) (fcsOk : Bool) (f : List Byte) : Dev :=
  let n := f.length + 4
  let b := etherBody f
  let ip := b.1 == 0x0800 || b.1 == 0x0806 || b.1 == 0x86DD
  if networkRuns d = false ∨ nGet d (upl_LINK u) ≠ 1 then d
  else if fcsOk = false ∨ n < 64 then nInc d (upl_RX_ERRORS u)
  else if nGet d (upl_MTU u) + 22 < n then nInc d (upl_RX_OVERSIZE u)
  else if macTakes d u (sliceOf f 0 6) = false ∨ etherTypeTaken b.1 = false ∨ (ip ∧ frameVlan f ≠ nGet d (upl_VLAN_ID u)) then
    nInc d (upl_RX_DROPPED u)
  else if isFragment b.1 b.2 then
    let d := nInc d (upl_RX_DROPPED u)
    if fragmentOfNoap b.1 b.2 then noapReceive d true { upl := u, mac := [], ip := [], port := 0, own := [] } [] else d
  else frameIn (nSet d (upl_RX_FRAMES u) (satAdd 64 (nGet d (upl_RX_FRAMES u)) 1)) u f

/-- UPLINK_FRAME_RECEIVED (R560). -/
def doUplinkFrameReceived (u : Fin 2) (fcsOk : Bool) (f : List Byte) (d : Dev) : Dev := ethReceive d u.val fcsOk f

/-- ARP_REQUEST (R562): a frame that holds one. -/
def doArpRequest (u : Fin 2) (f : List Byte) (d : Dev) : Dev := if (etherBody f).1 = 0x0806 then ethReceive d u.val true f else d

/-- ICMP_ECHO (R562): a frame that holds an ICMP or ICMPv6 echo request. -/
def doIcmpEcho (u : Fin 2) (f : List Byte) (d : Dev) : Dev :=
  let b := etherBody f
  if (b.1 = 0x0800 ∧ ofBe (sliceOf b.2 9 1) = 1) ∨ (b.1 = 0x86DD ∧ ofBe (sliceOf b.2 6 1) = 58 ∧ ofBe (sliceOf b.2 40 1) = 128) then
    ethReceive d u.val true f
  else d

/-- NEIGHBOUR_SOLICITATION (R562): a frame that holds one. -/
def doNeighbourSolicitation (u : Fin 2) (f : List Byte) (d : Dev) : Dev :=
  let b := etherBody f
  if b.1 = 0x86DD ∧ ofBe (sliceOf b.2 6 1) = 58 ∧ ofBe (sliceOf b.2 40 1) = 135 then ethReceive d u.val true f else d

/-- AAF_PDU_RECEIVED (R568): a frame that holds an AVTPDU. -/
def doAafPduReceived (u : Fin 2) (f : List Byte) (d : Dev) : Dev := if (etherBody f).1 = 0x22F0 then ethReceive d u.val true f else d

/-- The AVTPDU of a talker (R551, R552, R566, R568). -/
def talkerPdu (d : Dev) (t seq : Nat) (q : List (List Int)) : List Byte :=
  let ch := nGet d (avtp_CHANNELS (16 + t))
  let w := talkerOctets t
  let nsr := if nGet d (avtp_RATE (16 + t)) = 0 then 5 else 7
  let time := sampleTime ((q.headD []).headD 0).toNat + nGet d (avtp_PRESENT_OFFSET_NS (16 + t))
  let data := (q.map (fun f => ((f.drop 1).map (fun x => beBytes w (twosOf (8 * w) (if w = 4 then x * 256 else if w = 3 then x else x / 256)))).flatten)).flatten
  octets [2, 0x81, seq, 0] ++ beBytes 8 (nGet d (strm_STREAM_ID (16 + t))) ++ beBytes 4 (time % 2 ^ 32) ++
    octets [2 + (Config.talkerFormat t).val, nsr * 16 + ch / 256, ch, 8 * w] ++ beBytes 2 data.length ++ octets [0, 0] ++ data

/-- TALKER_PDU_SEND (R566): once the period's sample frames are gathered. -/
def doTalkerPduSend (t : Fin 16) (d : Dev) : Dev :=
  let t := t.val
  let n := 16 + t
  let u := streamUplink d n
  let q := mapGet d.audio.gathered t []
  let k := talkerFrames d t
  if nGet d (avtp_ENABLE n) = 0 ∨ networkRuns d = false ∨ q.length < k then d
  else
    let seq := mapGet d.audio.pduSeq t 0
    let pdu := talkerPdu d t seq (q.take k)
    let d := { d with audio.gathered := mapPut d.audio.gathered t (q.drop k), audio.pduSeq := mapPut d.audio.pduSeq t ((seq + 1) % 256) }
    if 2 ≤ u then d
    else
      let pcp := if nGet d (strm_CLASS n) = 0 then nGet d (upl_CLASS_A_PCP u) else nGet d (upl_CLASS_B_PCP u)
      sendFrame d u (1 + nGet d (strm_CLASS n)) (.pdu t) (ethHead d u (sliceOf (bGet d (strm_DEST_MAC n)) 0 6) (nGet d (strm_VLAN_ID n)) pcp 0x22F0 ++ pdu)

/-- PDELAY_EXCHANGE (R569, R570): the mean link delay from the four stamps, those of this port taken at its balls. -/
def doPdelayExchange (u : Fin 2) (t1 t2 t3 t4 : Nat) (d : Dev) : Dev :=
  let u := u.val
  if nGet d (upl_GPTP_ROLE u) = 0 ∨ nGet d (upl_LINK u) ≠ 1 then d
  else
    linkDelay d u ((t1 : Int) + nGet d (upl_EGRESS_LATENCY_NS u)) t2 t3 ((t4 : Int) - nGet d (upl_INGRESS_LATENCY_NS u))

/-- GPTP_SYNC_SEND (R570): a master port sends Sync every 125 ms; its Follow_Up is made as the Sync leaves. -/
def doGptpSyncSend (u : Fin 2) (d : Dev) : Dev :=
  let u := u.val
  if nGet d (upl_GPTP_ROLE u) ≠ 2 ∨ nGet d (upl_LINK u) ≠ 1 ∨ networkRuns d = false ∨ (armed d tkSyncSend u ∧ due d tkSyncSend u = false) then d
  else
    let seq := (gptpOf d u).syncSeq
    let d := arm (updGptp d u (fun g => { g with syncSeq := (seq + 1) % 65536 })) tkSyncSend u (ms 125)
    sendGptp d u (.sync seq) (ptpHead d u 0 44 0x0200 seq 0 ++ zeros 10)

/-- What the leaving of a frame brings about (R569, R570): its stamp, and the follow-up of a gPTP event message, or the count of a talker's
PDU. -/
def frameLeft (d : Dev) (u : Nat) (mark : TxMark) : Dev :=
  let t : Int := crossing d + nGet d (upl_EGRESS_LATENCY_NS u)
  let noted := updGptp (freeUsed d) u (fun g => { g with stampTx := t })
  match mark with
  | .plain => d
  | .pdu n => nInc noted (strm_PDUS (16 + n))
  | .sync seq =>
    sendGptp noted u .plain (ptpHead d u 8 76 0 seq 2 ++ ptpTime t ++ octets [0, 3, 0, 28, 0, 0x80, 0xC2, 0, 0, 1] ++ zeros 22)
  | .pdelayReq seq => updGptp noted u (fun g => { g with asked := some (seq, t), reply := none })
  | .pdelayResp seq asker => sendGptp noted u .plain (ptpHead d u 10 54 0 seq 5 ++ ptpTime t ++ asker)

/-- The credit of a class after 5 ns (R565, IEEE 802.1Q 8.6.8.2): it falls while the class sends, rises with the idleSlope while a frame
waits or while it lies below 0, and is not above 0 with no frame waiting. -/
def nextCredit (d : Dev) (u cls : Nat) : Int :=
  let c := mapGet d.net.credit (2 * u + cls) 0
  let slope : Int := nGet d (if cls = 0 then upl_IDLE_SLOPE_A u else upl_IDLE_SLOPE_B u)
  if (mapFind d.net.sending u).map (·.2) = some (1 + cls) then c + 5 * (slope - uplinkRate d u)
  else if queueOf d u (1 + cls) ≠ [] then c + 5 * slope
  else if 0 < c then 0 else min 0 (c + 5 * slope)

/-- The queue that sends next (R564, R565): in strict priority, a class only with a credit of 0 or more. -/
def nextQueue (d : Dev) (u : Nat) : Option Nat :=
  (List.range 4).find? (fun q => decide (queueOf d u q ≠ []) &&
    (q == 0 || q == 3 || decide (0 ≤ mapGet d.net.credit (2 * u + (q - 1)) 0)))

/-- The time that a frame takes on an uplink, with its FCS, preamble and gap. -/
def wireTime (d : Dev) (u : Nat) (f : TxFrame) : Nat := ceilDiv ((f.octets.length + 24) * 8 * 10 ^ 9) (max 1 (uplinkRate d u))

/-- A frame begins to leave an uplink that sends none. -/
def beginFrameOut (d : Dev) (u : Nat) : Dev :=
  match nextQueue d u with
  | none => d
  | some q => match queueOf d u q with
    | [] => d
    | f :: l =>
      let d := { d with net.queues := mapSet d.net.queues (4 * u + q) l [], net.sending := mapPut d.net.sending u (d.now + wireTime d u f, q) }
      frameLeft (emit (nSet d (upl_TX_FRAMES u) (satAdd 64 (nGet d (upl_TX_FRAMES u)) 1)) (.eth u f.octets)) u f.mark

/-- The peer-delay mechanism of an uplink with a gPTP role asks every second (R570; assumption log 44). -/
def askDelay (d : Dev) (u : Nat) : Dev :=
  if nGet d (upl_GPTP_ROLE u) = 0 ∨ (armed d tkPdelay u ∧ due d tkPdelay u = false) then d
  else
    let seq := (gptpOf d u).reqSeq
    sendGptp (arm (updGptp d u (fun g => { g with reqSeq := (seq + 1) % 65536 })) tkPdelay u (ms 1000)) u (.pdelayReq seq)
      (ptpHead d u 2 54 0 seq 5 ++ zeros 20)

/-- What an uplink does in a tick of 5 ns (R564, R565, R570): nothing without a link. -/
def uplinkTick (d : Dev) (u : Nat) : Dev :=
  if nGet d (upl_LINK u) ≠ 1 ∨ networkRuns d = false then d
  else
    let d := askDelay d u
    let c0 := nextCredit d u 0
    let c1 := nextCredit d u 1
    let d := { d with net.credit := mapSet (mapSet d.net.credit (2 * u) c0 0) (2 * u + 1) c1 0 }
    match mapFind d.net.sending u with
    | some (t, _) => if d.now < t then d else beginFrameOut { d with net.sending := mapErase d.net.sending u } u
    | none => beginFrameOut d u

/-- Both uplinks in a tick; they restart once the response to a write of REDUNDANCY has left (R574). -/
def uplinksTick (d : Dev) : Dev :=
  let d := uplinkTick (uplinkTick d 0) 1
  if d.net.restart && (List.range 2).all (fun u => (queueOf d u 3).isEmpty && (mapFind d.net.sending u).isNone) then restartUplinks d else d

/-- REDUNDANCY_WRITE (R574). -/
def doRedundancyWrite (sess v : Nat) (d : Dev) : Dev :=
  closeIfAsked (withGate d sess addr_REDUNDANCY (fun d => redundancyWrite d (.num v)))

/-- AAF_PDU_RECEIVED (R568). -/
def execAafPduReceived (u : Fin 2) (frame : List Byte) (s : State) : Res := .next (withDev s (doAafPduReceived u frame s.dev))
/-- TALKER_PDU_SEND (R566). -/
def execTalkerPduSend (n : Fin 16) (s : State) : Res := .next (withDev s (doTalkerPduSend n s.dev))
/-- UPLINK_LINK_UP (R559). -/
def execUplinkLinkUp (link : UplinkRate) (s : State) : Res := .next (withDev s (doUplinkLinkUp link.uplink link.rate s.dev))
/-- UPLINK_LINK_DOWN (R559). -/
def execUplinkLinkDown (u : Fin 2) (s : State) : Res := .next (withDev s (doUplinkLinkDown u s.dev))
/-- UPLINK_FRAME_RECEIVED (R560). -/
def execUplinkFrameReceived (u : Fin 2) (fcsOk : Bool) (frame : List Byte) (s : State) : Res :=
  .next (withDev s (doUplinkFrameReceived u fcsOk frame s.dev))
/-- ARP_REQUEST (R562). -/
def execArpRequest (u : Fin 2) (frame : List Byte) (s : State) : Res := .next (withDev s (doArpRequest u frame s.dev))
/-- ICMP_ECHO (R562). -/
def execIcmpEcho (u : Fin 2) (frame : List Byte) (s : State) : Res := .next (withDev s (doIcmpEcho u frame s.dev))
/-- NEIGHBOUR_SOLICITATION (R562). -/
def execNeighbourSolicitation (u : Fin 2) (frame : List Byte) (s : State) : Res :=
  .next (withDev s (doNeighbourSolicitation u frame s.dev))
/-- REDUNDANCY_WRITE (R574). -/
def execRedundancyWrite (sess v : Nat) (s : State) : Res := .next (withDev s (doRedundancyWrite sess v s.dev))
/-- PDELAY_EXCHANGE (R570). -/
def execPdelayExchange (u : Fin 2) (t1 t2 t3 t4 : Nat) (s : State) : Res := .next (withDev s (doPdelayExchange u t1 t2 t3 t4 s.dev))
/-- GPTP_SYNC_SEND (R570). -/
def execGptpSyncSend (u : Fin 2) (s : State) : Res := .next (withDev s (doGptpSyncSend u s.dev))
/-- DUPLICATE_ADDRESS_DETECTION_DONE (R562). -/
def execDuplicateAddressDetectionDone (u : Fin 2) (conflict : Fin 4) (s : State) : Res :=
  .next (withDev s (doDuplicateAddressDetectionDone u conflict s.dev))

end Sys2Proof.Machine
end

