-- ==== Sys2Proof/Machine/Trust.lean ====
section
/-!
DEFINITION. Images, keys, fuses and attestation (start-up chapter, R691 to R705, R709, R717 to R720), and LOAD of a beam program
(R332, R333).
-/
namespace Sys2Proof.Machine

/-- Octets of an image slot of a type (R692). -/
def slotLength (typ : Nat) : Nat := if typ = 1 then 0x800000 else if typ = 2 then 0x400000 else if typ = 3 then 0x100000 else 0x1800000

/-- The first byte offset of an image slot in its NOR device, slot 0 for A and 1 for B (R692). -/
def slotFirst (typ slot : Nat) : Nat :=
  (if typ = 3 then 0x800000 else if typ = 4 then 0x1000000 else 0) + slot * slotLength typ

/-- The regions of R692 as (xSPI port, first byte offset, octets): the image slots of types 1 to 4, the two sectors of the device
record, and the three summary sectors of each head. -/
def norRegions : List (Nat × Nat × Nat) :=
  ([1, 2, 3, 4].map (fun t => [0, 1].map (fun s => (if t = 1 ∨ t = 4 then 0 else 1, slotFirst t s, slotLength t)))).flatten ++
  [(1, 0xA00000, 0x1000), (1, 0xA01000, 0x1000)] ++
  ((List.range 16).map (fun h => [0, 1, 2].map (fun k => (1, 0xB00000 + h * 0x3000 + k * 0x1000, 0x1000)))).flatten

/-- Whether two regions of a table of R692 share no octet. -/
def norApart (a b : Nat × Nat × Nat) : Bool := a.1 != b.1 || decide (a.2.1 + a.2.2 ≤ b.2.1) || decide (b.2.1 + b.2.2 ≤ a.2.1)

/-- The most payload octets of an image of a type (R697, R698, R707, R331). -/
def payloadLimit (typ : Nat) : Nat :=
  if typ = 3 then 262144 else if typ = 4 then 25165312 else if typ = 5 then 69632 - 512 else slotLength typ - 512

/-- The octets of an image slot. -/
def slotBytes (d : Dev) (i : Nat) : List Byte := mapGet d.trust.slots i []

/-- The payload of an image. -/
def imagePayload (b : List Byte) : List Byte := sliceOf b 512 (ofLe (sliceOf b 16 4))

/-- Whether the fixed part of an image header is right (R697): KEY_ID to 31 and SECURITY_VERSION to 64 too (assumption log 149). -/
def headerForm (b : List Byte) (typ : Nat) : Bool :=
  ofLe (sliceOf b 0 4) == 0x474D4956 && ofLe (sliceOf b 4 2) == 1 && sliceOf b 11 1 == zeros 1 && sliceOf b 20 12 == zeros 12 &&
  sliceOf b 177 15 == zeros 15 && sliceOf b 384 128 == zeros 128 && ofLe (sliceOf b 6 1) == typ &&
  decide (ofLe (sliceOf b 8 2) < 32) && decide (ofLe (sliceOf b 10 1) ≤ 64) &&
  decide (ofLe (sliceOf b 16 4) ≤ payloadLimit typ) && decide (512 + ofLe (sliceOf b 16 4) ≤ b.length)

/-- A root key: 0 Voxmor, 1 the car-maker's (R700). -/
def rootKey (d : Dev) (root : Nat) : List Byte := if root = 0 then Config.voxmorRoot.toList else bGet d sec_MAKER_ROOT_KEY

/-- Whether a root is enrolled (R701, R702); the Voxmor root stands in ROM. -/
def rootEnrolled (d : Dev) (root : Nat) : Bool := root == 0 || (root == 1 && d.trust.enrolled)

/-- Whether a signing key of a root is revoked (R703). -/
def keyRevoked (d : Dev) (root keyId : Nat) : Bool := bitOf (nGet d sec_REVOKED_KEYS) (32 * root + keyId % 32)

/-- SHA-384 as octets. -/
def sha (b : List Byte) : List Byte := (Config.sha384 b).toList

/-- The ASCII string of R697. -/
def endorseTag : List Byte := octets [0x4E, 0x45, 0x4C, 0x4E, 0x4F, 0x53, 0x20, 0x4B, 0x45, 0x59, 0x20, 0x76, 0x31]

/-- Whether an endorsement of a signing key verifies under its root (R697). -/
def endorsed (d : Dev) (root : Nat) (keyId signer sig : List Byte) : Bool :=
  Config.ecdsaVerifies (rootKey d root) (sha (endorseTag ++ octets [root] ++ keyId ++ signer)) sig

/-- The rollback fuse count of a type (R704). -/
def fuseCount (d : Dev) (typ : Nat) : Nat := ofLe (sliceOf (bGet d sec_ROLLBACK_FUSES) (typ - 1) 1)

/-- The failure reason of an image of a type, 0 where every check of R698 passes. -/
def imageReason (d : Dev) (typ : Nat) (b : List Byte) : Nat :=
  let root := ofLe (sliceOf b 7 1)
  if headerForm b typ = false then 1
  else if root ≠ (if typ = 1 then 0 else 1) ∨ rootEnrolled d root = false then 2
  else if keyRevoked d root (ofLe (sliceOf b 8 2)) then 3
  else if endorsed d root (sliceOf b 8 2) (sliceOf b 80 97) (sliceOf b 192 96) = false then 4
  else if Config.ecdsaVerifies (sliceOf b 80 97) (sha (sliceOf b 0 288)) (sliceOf b 288 96) = false then 5
  else if ofLe (sliceOf b 10 1) < fuseCount d typ then 6
  else if sha (imagePayload b) ≠ sliceOf b 32 48 then 7
  else 0

/-- The type of an image slot. -/
def slotType (i : Nat) : Nat := i / 2 + 1

/-- A slot verified (R698, R719): STATE, FAIL_REASON, VERSION, SECURITY_VERSION. -/
def verifySlot (d : Dev) (i : Nat) : Dev :=
  let b := slotBytes d i
  let r := imageReason d (slotType i) b
  nSets d [(slotImg_STATE i, if r = 0 then 2 else 3), (slotImg_FAIL_REASON i, r), (slotImg_VERSION i, ofLe (sliceOf b 12 4)),
    (slotImg_SECURITY_VERSION i, ofLe (sliceOf b 10 1))]

/-- The ERASE action (R705, R719). -/
def eraseOp (d : Dev) (i arg : Nat) : Dev × Status × List Byte :=
  if arg ≠ 0 then (d, .range, [])
  else if nGet d (slotImg_ACTIVE i) = 1 then (d, .state, [])
  else
    (nSets { d with trust.slots := mapErase d.trust.slots i }
      [(slotImg_STATE i, 0), (slotImg_FAIL_REASON i, 0), (slotImg_VERSION i, 0), (slotImg_SECURITY_VERSION i, 0)], .ok, [])

/-- BULK into IMAGE of a slot (R705, R719). -/
def slotBulk (d : Dev) (i off : Nat) (b : List Byte) : Dev × Status :=
  if nGet d (slotImg_ACTIVE i) = 1 then (d, .state)
  else (nSet { d with trust.slots := mapPut d.trust.slots i (patchBytes (slotBytes d i) off b) } (slotImg_STATE i) 1, .ok)

/-- The VERIFY action (R698, R719): the result is FAIL_REASON. -/
def verifyOp (d : Dev) (i arg : Nat) : Dev × Status × List Byte :=
  if arg ≠ 0 then (d, .range, [])
  else
    let d := verifySlot d i
    (d, .ok, beBytes 1 (nGet d (slotImg_FAIL_REASON i)))

/-- The ACTIVATE action (R705): the slot becomes the preferred one of its type. -/
def activateOp (d : Dev) (i arg : Nat) : Dev × Status × List Byte :=
  if arg ≠ 0 then (d, .range, [])
  else if nGet d (slotImg_ACTIVE i) = 1 ∨ nGet d (slotImg_STATE i) ≠ 2 then (d, .state, [])
  else (nSets d [(slotImg_PREFERRED i, 1), (slotImg_PREFERRED (if i % 2 = 0 then i + 1 else i - 1), 0)], .ok, [])

/-- The ENROL action (R702). -/
def enrolOp (d : Dev) (b : List Byte) : Dev × Status × List Byte :=
  if nGet d dev_LIFECYCLE ≠ 0 then (d, .access, [])
  else if b.length ≠ 97 then (d, .range, [])
  else
    let d := bSet { d with trust.digest := sha b, trust.enrolled := true } sec_MAKER_ROOT_KEY b
    (nSet d dev_LIFECYCLE 1, .ok, [])

/-- The REVOKE action (R703): ROOT in [7], KEY_ID in [4:0]. -/
def revokeOp (d : Dev) (arg : Nat) : Dev × Status × List Byte :=
  if arg ≥ 256 ∨ fieldOf arg 5 2 ≠ 0 then (d, .range, [])
  else (nSet d sec_REVOKED_KEYS (setBit (nGet d sec_REVOKED_KEYS) (32 * fieldOf arg 7 1 + fieldOf arg 0 5) true), .ok, [])

/-- The REVOKE_SLOT action of a key object (R703). -/
def revokeSlotOp (d : Dev) (r : Ref) (arg : Nat) : Dev × Status × List Byte :=
  if arg ≠ 0 then (d, .range, []) else (nSet d (refObj r + 2) 1, .ok, [])

/-- The slot of a type that is ACTIVE, if one is (R699). -/
def activeSlot (d : Dev) (typ : Nat) : Option Nat :=
  ([2 * (typ - 1), 2 * (typ - 1) + 1]).find? (fun i => decide (nGet d (slotImg_ACTIVE i) = 1))

/-- The ADVANCE action (R704): TYPE in [15:8], version in [7:0]. -/
def advanceOp (d : Dev) (arg : Nat) : Dev × Status × List Byte :=
  let typ := fieldOf arg 8 8
  let v := fieldOf arg 0 8
  let top := if typ = 5 then 64 else match activeSlot d typ with
    | some i => nGet d (slotImg_SECURITY_VERSION i)
    | none => fuseCount d typ
  if arg ≥ 65536 ∨ typ = 0 ∨ 5 < typ ∨ 64 < v ∨ v < fuseCount d typ ∨ top < v then (d, .range, [])
  else (bSet d sec_ROLLBACK_FUSES (patchBytes (bGet d sec_ROLLBACK_FUSES) (typ - 1) (octets [v])), .ok, [])

/-- The attestation report without its signature (R717). -/
def attestBody (d : Dev) (nonce : List Byte) : List Byte :=
  let head := fun typ => match activeSlot d typ with
    | some i => slotBytes d i
    | none => []
  octets [1, 0, nGet d dev_LIFECYCLE, 0] ++ sliceOf (bGet d dev_SERIAL) 0 16 ++ nonce ++ leBytes 8 (tbRead d) ++
    (([1, 2, 3, 4].map (fun t => sliceOf (head t) 32 48)).flatten) ++ (([1, 2, 3, 4].map (fun t => sliceOf (head t) 10 1)).flatten) ++ octets [0] ++
    sliceOf (bGet d sec_ROLLBACK_FUSES) 0 5 ++ zeros 2 ++ sliceOf d.trust.digest 0 48

/-- The ATTEST action (R717). -/
def attestOp (d : Dev) (nonce : List Byte) : Dev × Status × List Byte :=
  if nonce.length ≠ 32 then (d, .range, [])
  else
    let b := attestBody d nonce
    (d, .ok, b ++ (Config.ecdsaSign (sha b)).toList)

/-- A write of LITE_KEY (R720). -/
def liteKeyWrite (d : Dev) (b : List Byte) : Dev × Status × List Byte :=
  if b.length ≠ 32 then (d, .range, []) else ({ d with trust.liteKey := b }, .ok, [])

/-- Whether the payload of a program's image breaks a limit (R331, R709). -/
def loadRange (b : List Byte) : Bool :=
  let kind := ofLe (sliceOf b 0 1)
  let fp := ofLe (sliceOf b 8 4)
  let limit := if kind = 0 then fp else ofLe (sliceOf b 12 4)
  decide (1 < kind) || decide (fp % 256 ≠ 0) || decide (fp < 1024) || decide (65536 < fp) || decide (limit < ofLe (sliceOf b 28 4))

/-- The LOAD action of program i (R93, R332, R333, R709); the boot scene's own signature covers a LOAD record (R707). -/
def loadOp (d : Dev) (i arg : Nat) (signed : Bool) : Dev × Status × List Byte :=
  let o := mref 0x17 i 0
  let img := bGet d (prog_IMAGE i)
  let b := imagePayload img
  if arg ≠ 0 then (d, .range, [])
  else if allocOf d o = 2 then (d, .state, [])
  else if objectLeased d o then (d, .leased, [])
  else if signed && imageReason d 5 img != 0 then (nSet d (prog_LOADED i) 0, .auth, [])
  else if loadRange b then (d, .range, [])
  else
    let kind := ofLe (sliceOf b 0 1)
    (nSets d [(prog_KIND i, kind), (prog_ENTRY i, ofLe (sliceOf b 4 4)), (prog_FOOTPRINT i, ofLe (sliceOf b 8 4)),
      (prog_BANK_BYTES i, if kind = 0 then 0 else ofLe (sliceOf b 12 4)), (prog_S_LINE i, ofLe (sliceOf b 16 4)),
      (prog_S_FRAME i, ofLe (sliceOf b 20 4)), (prog_RATE i, ofLe (sliceOf b 24 4)), (prog_LOADED i, 1)], .ok, beBytes 1 kind)

/-- Octets written into IMAGE of a program (R331, R333): LOADED is cleared. -/
def progImageWrite (d : Dev) (i : Nat) (b : List Byte) : Dev × Status :=
  let o := mref 0x17 i 0
  if allocOf d o = 2 then (d, .state)
  else if objectLeased d o then (d, .leased)
  else (nSet (bSet d (prog_IMAGE i) b) (prog_LOADED i) 0, .ok)

/-- LOAD (R332). -/
def doLoad (sess prog arg : Nat) (d : Dev) : Dev := withGate d sess (prog_LOAD prog) (fun d => loadOp d prog arg true)
/-- ERASE (R705). -/
def doErase (sess : Nat) (slot : Fin 8) (arg : Nat) (d : Dev) : Dev := withGate d sess (slotImg_ERASE slot.val) (fun d => eraseOp d slot.val arg)
/-- VERIFY (R698). -/
def doVerify (sess : Nat) (slot : Fin 8) (arg : Nat) (d : Dev) : Dev := withGate d sess (slotImg_VERIFY slot.val) (fun d => verifyOp d slot.val arg)
/-- ACTIVATE (R705). -/
def doActivate (sess : Nat) (slot : Fin 8) (arg : Nat) (d : Dev) : Dev := withGate d sess (slotImg_ACTIVATE slot.val) (fun d => activateOp d slot.val arg)
/-- ENROL (R702). -/
def doEnrol (sess : Nat) (b : List Byte) (d : Dev) : Dev := withGate d sess sec_ENROL (fun d => enrolOp d b)
/-- REVOKE (R703). -/
def doRevoke (sess keyId : Nat) (d : Dev) : Dev := withGate d sess sec_REVOKE (fun d => revokeOp d keyId)
/-- REVOKE_SLOT (R703) of a host key slot or a panel CA key. -/
def doRevokeSlot (sess : Nat) (r : Ref) (arg : Nat) (d : Dev) : Dev :=
  let o := mref 8 (refInst r) 3
  withGate d sess o (fun d => revokeSlotOp d o arg)
/-- ADVANCE (R704). -/
def doAdvance (sess arg : Nat) (d : Dev) : Dev := withGate d sess sec_ADVANCE (fun d => advanceOp d arg)
/-- ATTEST (R717). -/
def doAttest (sess : Nat) (nonce : List Byte) (d : Dev) : Dev := withGate d sess sec_ATTEST (fun d => attestOp d nonce)

/-- LOAD (R332). -/
def execLoad (sess prog arg : Nat) (s : State) : Res := .next (withDev s (doLoad sess prog arg s.dev))
/-- ERASE (R705). -/
def execErase (sess : Nat) (slot : Fin 8) (arg : Nat) (s : State) : Res := .next (withDev s (doErase sess slot arg s.dev))
/-- VERIFY (R698). -/
def execVerify (sess : Nat) (slot : Fin 8) (arg : Nat) (s : State) : Res := .next (withDev s (doVerify sess slot arg s.dev))
/-- ACTIVATE (R705). -/
def execActivate (sess : Nat) (slot : Fin 8) (arg : Nat) (s : State) : Res := .next (withDev s (doActivate sess slot arg s.dev))
/-- ENROL (R702). -/
def execEnrol (sess : Nat) (b : List Byte) (s : State) : Res := .next (withDev s (doEnrol sess b s.dev))
/-- REVOKE (R703). -/
def execRevoke (sess keyId : Nat) (s : State) : Res := .next (withDev s (doRevoke sess keyId s.dev))
/-- REVOKE_SLOT (R703). -/
def execRevokeSlot (sess : Nat) (ref : Ref) (arg : Nat) (s : State) : Res := .next (withDev s (doRevokeSlot sess ref arg s.dev))
/-- ADVANCE (R704). -/
def execAdvance (sess arg : Nat) (s : State) : Res := .next (withDev s (doAdvance sess arg s.dev))
/-- ATTEST (R717). -/
def execAttest (sess : Nat) (nonce : List Byte) (s : State) : Res := .next (withDev s (doAttest sess nonce s.dev))

end Sys2Proof.Machine
end

