-- ==== Sys2Proof/Machine/Observation.lean ====
section
/-!
DEFINITION. The commands of the observation block: token, Chimney port, counters, snapshots (observation chapter, R721 to R738).
-/
namespace Sys2Proof.Machine

/-- Whether the fixed part of a token is right (R722). -/
def tokenForm (b : List Byte) : Bool :=
  decide (b.length = 352) && ofLe (sliceOf b 0 4) == 0x4F425356 && ofLe (sliceOf b 4 2) == 1 && sliceOf b 10 6 == zeros 6 &&
  sliceOf b 145 15 == zeros 15 && decide (ofLe (sliceOf b 9 1) < 32)

/-- A write of TOKEN (R723, R724). -/
def tokenWrite (d : Dev) (b : List Byte) : Dev × Status × List Byte :=
  let root := ofLe (sliceOf b 8 1)
  let from0 := ofLe (sliceOf b 32 8)
  let until0 := ofLe (sliceOf b 40 8)
  if tokenForm b = false then (d, .range, [])
  else if nGet d time_TIME_VALID ≠ 1 then (d, .state, [])
  else if rootEnrolled d root = false ∨ keyRevoked d root (ofLe (sliceOf b 6 2)) then (d, .auth, [])
  else if endorsed d root (sliceOf b 6 2) (sliceOf b 48 97) (sliceOf b 160 96) = false ∨
      Config.ecdsaVerifies (sliceOf b 48 97) (sha (sliceOf b 0 256)) (sliceOf b 256 96) = false then (d, .auth, [])
  else if sliceOf b 16 16 ≠ sliceOf (bGet d dev_SERIAL) 0 16 ∨ tbNs d < from0 ∨ until0 ≤ tbNs d then (d, .auth, [])
  else
    let d := nSets { d with obs.notBefore := from0 } [(obs_SCOPE, ofLe (sliceOf b 9 1)), (obs_NOT_AFTER, until0), (obs_TOKEN_STATE, 1)]
    (trace d 14 0 1, .ok, [])

/-- The END action (R724). -/
def endTokenOp (d : Dev) (arg : Nat) : Dev × Status × List Byte := if arg ≠ 0 then (d, .range, []) else (tokenEnd d, .ok, [])

/-- A trace record on the wire (R726). -/
def recordBytes (seq : Nat) (r : TraceRecord) : List Byte := octets [r.kind, seq] ++ leBytes 2 r.unit ++ leBytes 8 r.time ++ leBytes 4 r.data

/-- A record sent: SEQ and RECORDS_SENT count it, and record k goes on lane k mod 2 (R725, R726, R737). -/
def sendTrace (d : Dev) (r : TraceRecord) : Dev :=
  let e := nSet { d with obs.seq := (d.obs.seq + 1) % 256 } obs_RECORDS_SENT (satAdd 64 (nGet d obs_RECORDS_SENT) 1)
  emit e (.chimney (d.obs.seq % 2) (recordBytes d.obs.seq r))

/-- CHIMNEY_RECORD_SEND (R725 to R727): the oldest record, after a LOST record where records have been dropped and the FIFO has space
again (assumption log 128). Once no token is ACTIVE the transmitters are off. -/
def doChimneyRecordSend (d : Dev) : Dev :=
  if chimneyOn d = false then d
  else match d.obs.fifo with
    | [] => d
    | r :: l =>
      if d.obs.dropped ≠ 0 ∧ d.obs.fifo.length < 1024 ∧ traceOn d 15 0 then sendTrace { d with obs.dropped := 0 } { kind := 15, unit := 0, time := tbNs d, data := d.obs.dropped }
      else sendTrace { d with obs.fifo := l } r

/-- TOKEN_EXPIRY (R724): the timebase has reached NOT_AFTER. -/
def doTokenExpiry (d : Dev) : Dev := if nGet d obs_TOKEN_STATE = 1 ∧ nGet d obs_NOT_AFTER ≤ tbNs d then tokenEnd d else d

/-- The RUN action (R729). -/
def runOp (d : Dev) (arg : Nat) : Dev × Status × List Byte :=
  if 1 < arg then (d, .range, []) else ({ d with obs.running := arg == 1 }, .ok, [])

/-- The CLEAR action (R729): a counter that has counted in this cycle reads 1. -/
def clearOp (d : Dev) (arg : Nat) : Dev × Status × List Byte :=
  if arg ≠ 0 then (d, .range, []) else ((List.range 512).foldl (fun e k => nSet e (ctr_VALUE k) ((countedNow d).contains k).toNat) d, .ok, [])

/-- A write of a counter member (R729): SELECT keeps its value while counting runs. -/
def counterWrite (d : Dev) (k mem : Nat) (v : Val) : Dev × Status × List Byte :=
  let x := plainWrite d (mref 0x70 (0x1000 + k) mem) v
  if mem = 1 ∧ x.2.1 = .ok ∧ d.obs.running then (d, .state, []) else x

/-- The ARM action (R731). -/
def armOp (d : Dev) (arg : Nat) : Dev × Status × List Byte := if arg ≠ 0 then (d, .range, []) else (nSet d snap_ARMED 1, .ok, [])

/-- The TRIGGER action (R731). -/
def triggerOp (d : Dev) (arg : Nat) : Dev × Status × List Byte := if arg ≠ 0 then (d, .range, []) else (snapTrigger d 2, .ok, [])

/-- TOKEN (R723). -/
def doToken (sess : Nat) (b : List Byte) (d : Dev) : Dev := withGate d sess obs_TOKEN (fun d => tokenWrite d b)
/-- END (R724). -/
def doEndToken (sess arg : Nat) (d : Dev) : Dev := withGate d sess obs_END (fun d => endTokenOp d arg)
/-- COUNTERS_RUN (R729): RUN with argument 1. -/
def doCountersRun (sess : Nat) (d : Dev) : Dev := withGate d sess ctrCtl_RUN (fun d => runOp d 1)
/-- COUNTERS_STOP (R729): RUN with argument 0. -/
def doCountersStop (sess : Nat) (d : Dev) : Dev := withGate d sess ctrCtl_RUN (fun d => runOp d 0)
/-- CLEAR of the counters (R729). -/
def doClear (sess arg : Nat) (d : Dev) : Dev := withGate d sess ctrCtl_CLEAR (fun d => clearOp d arg)
/-- ARM (R731). -/
def doArm (sess arg : Nat) (d : Dev) : Dev := withGate d sess snap_ARM (fun d => armOp d arg)
/-- TRIGGER (R731). -/
def doTrigger (sess arg : Nat) (d : Dev) : Dev := withGate d sess snap_TRIGGER (fun d => triggerOp d arg)
/-- SNAP_IN (R731): an edge that has passed the synchroniser and the filter. -/
def doSnapIn (d : Dev) : Dev := snapTrigger d 1
/-- SNAP_OUT_END (R733). -/
def doSnapOutEnd (d : Dev) : Dev := if due d tkSnapOut 0 then { disarm d tkSnapOut 0 with obs.snapOut := false } else d

/-- TOKEN (R723). -/
def execToken (sess : Nat) (b : List Byte) (s : State) : Res := .next (withDev s (doToken sess b s.dev))
/-- END (R724). -/
def execEndToken (sess arg : Nat) (s : State) : Res := .next (withDev s (doEndToken sess arg s.dev))
/-- TOKEN_EXPIRY (R724). -/
def execTokenExpiry (s : State) : Res := .next (withDev s (doTokenExpiry s.dev))
/-- CHIMNEY_RECORD_SEND (R726). -/
def execChimneyRecordSend (s : State) : Res := .next (withDev s (doChimneyRecordSend s.dev))
/-- COUNTERS_RUN (R729). -/
def execCountersRun (sess : Nat) (s : State) : Res := .next (withDev s (doCountersRun sess s.dev))
/-- COUNTERS_STOP (R729). -/
def execCountersStop (sess : Nat) (s : State) : Res := .next (withDev s (doCountersStop sess s.dev))
/-- CLEAR (R729). -/
def execClear (sess arg : Nat) (s : State) : Res := .next (withDev s (doClear sess arg s.dev))
/-- ARM (R731). -/
def execArm (sess arg : Nat) (s : State) : Res := .next (withDev s (doArm sess arg s.dev))
/-- TRIGGER (R731). -/
def execTrigger (sess arg : Nat) (s : State) : Res := .next (withDev s (doTrigger sess arg s.dev))
/-- SNAP_IN (R731). -/
def execSnapIn (s : State) : Res := .next (withDev s (doSnapIn s.dev))
/-- SNAP_OUT_END (R733). -/
def execSnapOutEnd (s : State) : Res := .next (withDev s (doSnapOutEnd s.dev))

end Sys2Proof.Machine
end

