-- ==== Sys2Proof/Machine/ThreadEvents.lean ====
section
/-!
DEFINITION. What comes about for threads beside their issue (beam and BE32 chapters): data, drains, responses and fills that a
waiting instruction needs, the end of waits, posts that leave, timed writes that land, cluster faults.
-/
namespace Sys2Proof.Machine

/-- A waiting instruction of a thread tries to issue again; not while its cluster's clock is gated (R658). -/
def retry (s : State) (t : Nat) : State :=
  match (threadOf s.dev t).state, clusterRuns s.dev t with
  | .stalled op c m o, true =>
    issue (effectOf op) op t { cond := Fin.ofNat 16 c, mode := Fin.ofNat 8 m, operand := BitVec.ofNat 19 o }
      (withThread s t (fun x => { x with state := .running }))
  | _, _ => s

/-- LONG_OP_COMPLETE (R319, R320): what is due of a thread's long operations writes L, and an instruction that waits for it
issues. -/
def doLongOpComplete (t : Fin 384) (s : State) : State :=
  let x := threadOf s.dev t.val
  if clusterRuns s.dev t.val then retry (withDev s (endLongs s.dev t.val x.longs [] x.l)) t.val else s

/-- STORE_DRAIN (R321): the entries of a thread's pair that are due drain. -/
def doStoreDrain (t : Fin 384) (s : State) : State :=
  if clusterRuns s.dev t.val then retry (withDev s (drainDue s.dev t.val false (threadOf s.dev t.val).stores)) t.val else s

/-- Whether a store to DOORBELL of a thread has left its engine and not yet arrived (R13, R16). -/
def bellUnderWay (d : Dev) (t : Nat) : Bool :=
  (d.islands.crossing ++ d.islands.waiting).any (fun w => decide (w.thread = t + 1) && decide (w.dst = islandOf 1))

/-- The stores to DOORBELL of a thread that wait for no response any more leave in order (R329). -/
def leaveBells (d : Dev) (m : List Host.Cell) (t : Nat) : Dev :=
  let go := fun (b : Bell) => decide (b.thread = t) && decide (b.need = 0)
  (d.beam.bells.filter go).foldl (fun d b => sendBell d m b) { d with beam.bells := d.beam.bells.filter (fun b => !go b) }

/-- FAR_WRITE_RESPONSE (R329): the oldest far-window store of a thread without a response receives it. A store to DOORBELL, which
leaves as the oldest, has its response once it has arrived. -/
def doFarWriteResponse (t : Fin 384) (s : State) : State :=
  if (threadOf s.dev t.val).farStores = 0 ∨ bellUnderWay s.dev t.val then s
  else
    let d := updThread s.dev t.val (fun x => { x with farStores := x.farStores - 1 })
    let d := { d with beam.bells := d.beam.bells.map (fun b => if b.thread = t.val then { b with need := b.need - 1 } else b) }
    let d := leaveBells d s.mem t.val
    let d := { d with beam.posts := mapSet d.beam.posts (t.val / 4) ((postsOf d (t.val / 4)).map (fun p =>
      if p.thread = t.val then { p with need := p.need - 1 } else p)) [] }
    retry (withDev s d) t.val

/-- The data of a waiting load arrive with a value (R369). -/
def arrive (s : State) (t : Nat) (v : Word) : State := retry (withThread s t (fun x => { x with arrived := some v })) t

/-- The data of a far-window load arrive (R327, R328, R369): a cached line is filled, and a poisoned one, or a poisoned word of a cluster
bank (R483), faults its thread. -/
def arriveFar (s : State) (t a n : Nat) : State :=
  let d := s.dev
  match farKind d t a with
  | 0 =>
    if readsOf d 4 t ≠ 0 ∨ dramServes d = false then s
    else if blockPoisoned d (a / 256) then withDev s (faultThread d t 5)
    else
      let d := fillLine d s.mem t a
      arrive (withDev s d) t (BitVec.ofNat 32 (fabricLe d s.mem a n))
  | 4 =>
    let r := clusterRead d (t / 32) (alignTo a 4 % 0x10000)
    if d.islands.gated.contains (t / 32) then s else arrive (withDev s r.1) t (wordPart r.2 a n)
  | 3 => arrive s t 0
  | 5 => arrive s t 0
  | _ =>
    if (bankWordsBad d a n).isEmpty then arrive s t (BitVec.ofNat 32 (fabricLe d s.mem a n))
    else withDev s (faultThread (readRange d a n 4) t 5)

/-- The data of a beam-port load arrive (R339): the register of the lowest-numbered receiver. A gated island answers once its
clock is restored (R16). -/
def arrivePort (s : State) (t : Nat) (w : Be32Op) : State :=
  let r := portReach s.dev t w
  match r.1 with
  | [] => arrive s t 0
  | i :: _ => if s.dev.islands.gated.contains i then s else arrive (withDev s (countOff s.dev i)) t (BitVec.ofNat 32 (islandRead s.dev s.mem i r.2))

/-- LOAD_DATA_ARRIVAL (R369). -/
def doLoadDataArrival (t : Fin 384) (s : State) : State :=
  match (threadOf s.dev t.val).state with
  | .stalled op c m o =>
    let w : Be32Op := { cond := Fin.ofNat 16 c, mode := Fin.ofNat 8 m, operand := BitVec.ofNat 19 o }
    let fetched := !perfMode s.dev t.val || s.dev.beam.icache.contains (fetchLine s.dev t.val)
    if opStores op ∨ fetched = false ∨ clusterRuns s.dev t.val = false then s
    else if m = 6 then arrivePort s t.val w
    else if m = 7 then arriveFar s t.val (farAddr s.dev t.val w (accessWidth op)) (accessWidth op)
    else s
  | _ => s

/-- A thread of a faulted cluster stops (R353, R622). -/
def clusterStop (d : Dev) (t : Nat) : Dev :=
  if (threadOf d t).state = .empty then d else implicitEoi (setRun d t .faulted) (t + 1)

/-- A cluster fault (R353): all 32 threads stop, and the Stoker takes the loss as a capacity step. -/
def loseCluster (c : Fin 12) (d : Dev) : Dev :=
  doCapacityStep 2 c.val ((List.range 32).foldl (fun d k => clusterStop d (32 * c.val + k)) d)

/-- The line of a thread's program in its cluster's bank that holds its next instruction (R325; assumption log 33). -/
def codeLine (d : Dev) (t : Nat) : Nat := ((threadOf d t).code + (threadOf d t).pc.toNat) / 64 * 64

/-- INSTRUCTION_CACHE_FILL (R325): the line of a waiting thread's instruction is filled; the cache holds 256 lines, and a free
value names the one that goes (assumption logs 4 and 33). An uncorrectable word of program code is a cluster fault (R483). -/
def doInstructionCacheFill (t : Fin 384) (s : State) : State :=
  match (threadOf s.dev t.val).state with
  | .stalled _ _ _ _ =>
    let d := s.dev
    let k := fetchLine d t.val
    if perfMode d t.val = false ∨ d.beam.icache.contains k then s
    else if !(bankWordsBad d (codeLine d t.val) 64).isEmpty then
      takeFree (withDev s (loseCluster (Fin.ofNat 12 (t.val / 32)) (readRange d (codeLine d t.val) 64 4)))
    else
      let held := d.beam.icache.filter (fun i => decide (i / 2 ^ 16 = t.val / 4))
      let full := decide (256 ≤ held.length)
      let gone := held.getD (freeNat d 8) 0
      let d := if full then freeUsed d else d
      retry (withDev s { d with beam.icache := d.beam.icache.filter (fun i => !full || decide (i ≠ gone)) ++ [k] }) t.val
  | _ => s

/-- WAITPOS_END (R343, R376): the mirror has reached the position. -/
def doWaitposEnd (t : Fin 384) (d : Dev) : Dev :=
  match (threadOf d t.val).state, threadHead d t.val with
  | .waitPos f l c, some h =>
    let p := l * (headOf d h).timing.hTotal + c
    if (threadRaster d t.val ∧ p = 0) ∨ clusterRuns d t.val = false then d
    else if 2 ≤ nGet d (head_STATE h) ∧ reached f p (mirrorLag d h 2) then
      setRun (updThread d t.val (fun x => { x with pc := x.pc + 4 })) t.val .running
    else d
  | _, _ => d

/-- WAITEV_CLAIM (R382, R619): a pending source of a waiting thread is claimed. -/
def doWaitevClaim (t : Fin 384) (d : Dev) : Dev :=
  match (threadOf d t.val).state, claimable d t.val, clusterRuns d t.val with
  | .waitEv, some n, true => setRun (updThread (claimFor d t.val n) t.val (fun x => { x with pc := x.pc + 4 })) t.val .running
  | _, _, _ => d

/-- An engine's oldest post taken off its queue (R380). -/
def popPost (d : Dev) (e : Nat) : Dev := { d with beam.posts := mapSet d.beam.posts e ((postsOf d e).drop 1) [] }

/-- POST_QUEUE_DEPART (R13, R329, R380, R381, R502, R503): the oldest entry leaves once its thread's earlier far-window stores have
been answered; a word goes to DOORBELL behind the cluster's earlier writes; a list for a full channel stays. -/
def doPostQueueDepart (e : Fin 96) (m : List Host.Cell) (d : Dev) : Dev :=
  match postsOf d e.val with
  | [] => d
  | p :: _ =>
    if p.need ≠ 0 ∨ clusterRuns d (4 * e.val) = false then d
    else match p.channel with
    | none => sendReg (popPost d e.val) m
        { src := e.val / 8, dst := islandOf 1, addr := 0x2000010000, val := BitVec.ofNat 32 p.value, thread := 0, prog := p.prog, isRead := false }
    | some n =>
      if nGet d (dma_OWNER n) ≠ p.prog then nInc (popPost d e.val) (dma_FOREIGN_POSTS n)
      else match enqueueList d n p.value with
      | none => d
      | some d => popPost d e.val

/-- Position order of two timed writes of one island: by frame and pixel as they come, then by thread (R346). -/
def timedBefore (fc : Nat) (x y : TimedWrite) : Bool :=
  let k := fun (w : TimedWrite) => ((w.frame + 2 ^ 32 - fc) % 2 ^ 32, w.line, w.col, w.thread)
  decide ((k x).1 < (k y).1) || (decide ((k x).1 = (k y).1) && (decide ((k x).2.1 < (k y).2.1) ||
    (decide ((k x).2.1 = (k y).2.1) && (decide ((k x).2.2.1 < (k y).2.2.1) ||
      (decide ((k x).2.2.1 = (k y).2.2.1) && decide ((k x).2.2.2 < (k y).2.2.2))))))

/-- The timed write that lands first at an island, with its place in the queue: among equals, the one issued first. -/
def firstTimed (fc : Nat) : Nat → List TimedWrite → Option (Nat × TimedWrite)
  | _, [] => none
  | i, w :: l =>
    match firstTimed fc (i + 1) l with
    | some (j, v) => if timedBefore fc v w then some (j, v) else some (i, w)
    | none => some (i, w)

/-- The head whose beam an island follows. -/
def headOfIsland (d : Dev) (i : Nat) : Option Nat :=
  if 44 ≤ i ∧ i < 60 then some (i - 44) else if 12 ≤ i ∧ i < 44 then headOfPipe d (i - 12) else none

/-- TIMED_WRITE_LANDING (R344 to R346, R349): the first timed write whose position the beam has reached takes effect there. -/
def doTimedWriteLanding (isl : Fin 105) (m : List Host.Cell) (d : Dev) : Dev :=
  match headOfIsland d isl.val with
  | none => d
  | some h =>
    -- the count of a frame that has just ended still orders before the present one
    let fc := (nGet d (head_FRAME_COUNT h) + 2 ^ 32 - 1) % 2 ^ 32
    match firstTimed fc 0 (timedOf d isl.val) with
    | none => d
    | some (i, w) =>
      if d.islands.gated.contains isl.val = false ∧ 2 ≤ nGet d (head_STATE h) ∧ reached w.frame (w.line * (headOf d h).timing.hTotal + w.col) (mirrorLag d h 0) then
        let d := setTimed d isl.val ((timedOf d isl.val).eraseIdx i)
        if isl.val < 44 then pipeLand d m (isl.val - 12) w.off w.val w.prog w.line w.col true
        else headWrite d h w.off w.val w.prog true (w.line, w.col)
      else d

/-- The threads that wait at an island's full queue of timed writes (R347), rising. -/
def portWaiters (d : Dev) : List Nat :=
  (d.beam.threads.filter (fun e => match e.2.state with | .stalled op _ _ _ => decide (op = 0x0B) | _ => false)).map (·.1)

/-- BEAM_PORT_QUEUE_FREE (R347): the island's queue has room, and the threads that wait for it try again. -/
def doBeamPortQueueFree (isl : Fin 105) (s : State) : State :=
  if (timedOf s.dev isl.val).length < 64 then (portWaiters s.dev).foldl retry s else s

/-- CLUSTER_FAULT (R353): a check of the cluster fails, or a word of program code in its bank is uncorrectable, which is reported and stays
so until it is written (R483). -/
def doClusterFault (c : ClusterLoss) (d : Dev) : Dev :=
  match c.word with
  | none => loseCluster c.cluster d
  | some w =>
    let k := bankWord0 + 131072 * c.cluster.val + w.val
    loseCluster c.cluster (sramBad { d with dram.badWords := addOnce d.dram.badWords k } (8 * k) 9 0)

/-- LONG_OP_COMPLETE (R319). -/
def execLongOpComplete (t : Fin 384) (s : State) : Res := .next (doLongOpComplete t s)
/-- WAITPOS_END (R343). -/
def execWaitposEnd (t : Fin 384) (s : State) : Res := .next (withDev s (doWaitposEnd t s.dev))
/-- WAITEV_CLAIM (R619). -/
def execWaitevClaim (t : Fin 384) (s : State) : Res := .next (withDev s (doWaitevClaim t s.dev))
/-- POST_QUEUE_DEPART (R380). -/
def execPostQueueDepart (e : Fin 96) (s : State) : Res := .next (withDev s (doPostQueueDepart e s.mem s.dev))
/-- STORE_DRAIN (R321). -/
def execStoreDrain (t : Fin 384) (s : State) : Res := .next (doStoreDrain t s)
/-- LOAD_DATA_ARRIVAL (R369). -/
def execLoadDataArrival (t : Fin 384) (s : State) : Res := .next (doLoadDataArrival t s)
/-- FAR_WRITE_RESPONSE (R329). -/
def execFarWriteResponse (t : Fin 384) (s : State) : Res := .next (doFarWriteResponse t s)
/-- TIMED_WRITE_LANDING (R344). -/
def execTimedWriteLanding (isl : Fin 105) (s : State) : Res := .next (withDev s (doTimedWriteLanding isl s.mem s.dev))
/-- BEAM_PORT_QUEUE_FREE (R347). -/
def execBeamPortQueueFree (isl : Fin 105) (s : State) : Res := .next (doBeamPortQueueFree isl s)
/-- CLUSTER_FAULT (R353). -/
def execClusterFault (c : ClusterLoss) (s : State) : Res := .next (takeFree (withDev s (doClusterFault c s.dev)))
/-- INSTRUCTION_CACHE_FILL (R325). -/
def execInstructionCacheFill (t : Fin 384) (s : State) : Res := .next (doInstructionCacheFill t s)

end Sys2Proof.Machine
end

