-- ==== Sys2Proof/Machine/Power.lean ====
section
/-!
DEFINITION. Supply, heat and power states (power chapter, R657 to R690), with what the pins, the events, the timers and the timebase
do in Winter and Frost (R596 to R598, R608, R629, R653 to R656).
-/
namespace Sys2Proof.Machine

/-- The device state of R686. -/
def updState (d : Dev) : Dev :=
  nSet d power_STATE (if d.power.sleep ≠ .idle then 2 else if (List.range 16).any (fun h => decide (nGet d (autumn_CAUSE h) ≠ 0)) then 1 else 0)

/-- The POWER trace record of a change (R726). -/
def tracePower (d : Dev) : Dev :=
  trace d 10 0 (nGet d power_STATE + nGet d therm_STEP * 256 + nGet d supply_SUPPLY_STATE * 65536)

/-- RATE_STATE of the blitter (R528): capped from thermal step 2 or under the power limit, else boosted while boost is on; CAPPED_MS
takes the whole milliseconds of a cap that ends, and what is left over waits for the next (R526). -/
def updRate (d : Dev) : Dev :=
  let capped := decide (2 ≤ nGet d therm_STEP) || decide (2 ≤ d.power.powerLevel)
  let d := nSet d blit_RATE_STATE (if capped then 2 else if nGet d boost_STATE = 1 then 1 else 0)
  match d.power.cappedSince, capped with
  | none, true => { d with power.cappedSince := some d.now }
  | some t, false =>
    let n := d.power.cappedFrac + (d.now - t)
    nAdd { d with power.cappedSince := none, power.cappedFrac := n % 1000000 } blit_CAPPED_MS (n / 1000000)
  | _, _ => d

/-- The boost fuses that a number of boost seconds has burnt (R684). -/
def fusesFor (s : Nat) : Nat := min 300 (s / 36000)

/-- The fuses due are burnt, and the last one ends boost for good (R684). -/
def burnFuses (d : Dev) : Dev :=
  let n := max d.power.boostFuses (fusesFor (boostLife d / 10 ^ 9))
  let d := { d with power.boostFuses := n }
  if n = 300 ∧ nGet d boost_STATE = 0 then raise (nSet d boost_STATE 2) 882 else d

/-- A boost episode ends (R682 to R684). -/
def boostEnd (d : Dev) : Dev :=
  if nGet d boost_STATE ≠ 1 then d
  else
    let life := boostLife d
    let spans := (d.power.boostSpans.filter (fun s => decide (d.now < s.2 + ms 120000))) ++ [(d.power.boostStart, d.now)]
    let d := { disarm d tkBoost 0 with power.boostSpans := spans, power.boostFrac := life % 10 ^ 9 }
    burnFuses (raise (updRate (nSets d [(boost_LIFETIME_S, min (2 ^ 32 - 1) (life / 10 ^ 9)), (boost_STATE, 0)])) 881)

/-- Why a REQUEST is refused (R683, R689), in the order of R683. -/
def boostRefusal (d : Dev) : Nat :=
  if nGet d therm_STEP ≠ 0 then 1
  else if nGet d supply_SUPPLY_STATE ≠ 0 ∨ nGet d supply_VIN_MV < 10000 then 3
  else if 29000 ≤ boostWindow d then 2
  else if nGet d boost_STATE = 2 then 4
  else 0

/-- A boost episode of n seconds starts (R682, R683). -/
def boostStart (d : Dev) (n : Nat) : Dev :=
  let d := arm (boostEnd d) tkBoost 0 (ms (1000 * n))
  raise (updRate (nInc (nSet { d with power.boostStart := d.now } boost_STATE 1) boost_EPISODES)) 881

/-- The REQUEST action (R683, R689): 0 ends the episode; the result is STATE. -/
def boostOp (d : Dev) (arg : Nat) : Dev × Status × List Byte :=
  if 20 < arg then (d, .range, [])
  else if arg = 0 then (let d := boostEnd d; (d, .ok, beBytes 2 (nGet d boost_STATE)))
  else if boostRefusal d ≠ 0 then (nSet d boost_REFUSAL (boostRefusal d), .state, [])
  else (let d := boostStart d arg; (d, .ok, beBytes 2 (nGet d boost_STATE)))

/-- BOOST_REQUEST (R683). -/
def doBoostRequest (sess arg : Nat) (d : Dev) : Dev := withGate d sess boost_REQUEST (fun d => boostOp d arg)
/-- BOOST_END_REQUEST (R683). -/
def doBoostEndRequest (sess : Nat) (d : Dev) : Dev := withGate d sess boost_REQUEST (fun d => boostOp d 0)
/-- BOOST_EPISODE_END (R683): the requested length, at most 20 s, or 30 s of boost in the last 120 s. -/
def doBoostEpisodeEnd (d : Dev) : Dev := if due d tkBoost 0 ∨ 30000 ≤ boostWindow d then boostEnd d else d
/-- BOOST_LIFETIME_FUSE (R684): at 3,000 h the episode ends and boost is exhausted. -/
def doBoostLifetimeFuse (d : Dev) : Dev := burnFuses (if fusesFor (boostLife d / 10 ^ 9) = 300 then boostEnd d else d)
/-- BOOST_VIN_LOW (R683). -/
def doBoostVinLow (d : Dev) : Dev := boostEnd (nSet d supply_VIN_MV (min 9999 (nGet d supply_VIN_MV)))

/-- The Autumn causes of every head (R668, R669): REQUEST, and THERMAL and POWER on running heads with SAFETY 0. -/
def updAutumn (d : Dev) : Dev :=
  let d := (List.range 16).foldl (fun d h =>
    let open0 := headRuns d h && liveNat d h (head_SAFETY h) == 0
    let hot := open0 && decide (3 ≤ nGet d therm_STEP)
    let power := open0 && decide (3 ≤ d.power.powerLevel)
    nSet d (autumn_CAUSE h) (nGet d (autumn_REQUEST h) % 2 + 2 * hot.toNat + 4 * power.toNat)) d
  updState d

/-- A write of an Autumn object (R690). -/
def autumnWrite (d : Dev) (h mem : Nat) (v : Val) : Dev × Status × List Byte :=
  let x := plainWrite d (mref 2 (0x100 + h) mem) v
  if x.2.1 = .ok ∧ mem = 1 then (updAutumn x.1, x.2) else x

/-- Whether the action of thermal step 3 is in force (R679, R681). -/
def stepThree (d : Dev) : Bool := decide (3 ≤ nGet d therm_STEP) || decide (3 ≤ d.power.powerLevel)

/-- What follows a change of the thermal step or of the power limit (R166, R169, R669, R679, R681, R689): CAUSE, the blitter, Autumn,
the capacity step, or 2 s until its undo. -/
def governed (d : Dev) (was : Bool) : Dev :=
  let d := nSet d therm_CAUSE ((decide (2 ≤ nGet d therm_STEP)).toNat + 2 * (decide (2 ≤ d.power.powerLevel)).toNat)
  let d := tracePower (updAutumn (updRate d))
  if stepThree d && !was then
    let d := disarm d tkCapacity 0
    if d.stoker.thermal then d else doCapacityStep 0 0 d
  else if was && !stepThree d then liftStep d
  else d

/-! ### The sleep protocol -/

/-- Delays of the STOP table in units of 0.1 ms (R676). -/
def stopDelay (b : Nat) : Nat := us (100 * ([0, 1, 100, 10, 1, 1, 50, 5, 10, 2, 1, 0, 0] : List Nat).getD b 0)

/-- The record of an abort and SLEEP_ABORT, once every block runs again (R677, R687). -/
def finishAbort (d : Dev) : Dev :=
  let p := d.power
  let d := updState { d with power.sleep := .idle, power.sceneStopped := false }
  let d := nSets d [(abort_TIME, p.abortAt), (abort_REQUESTED, p.sleepFor), (abort_STEP, p.abortStep), (abort_BLOCK, p.abortBlock),
    (abort_REASON, p.abortReason), (abort_DETAIL, p.abortDetail)]
  raise (tracePower (serviceLog (nInc d power_SLEEP_ABORTS) 9 p.abortBlock p.abortReason)) 883

/-- The step of the STOP table that the protocol has reached (R687). -/
def stepReached (d : Dev) : Nat :=
  match d.power.sleep with
  | .idle => 0
  | .flush => 0
  | .stop b => b
  | .delay b => b
  | .rollback b => b

/-- The protocol turns back (R677, R678): block 0 is the power manager. -/
def sleepAbort (d : Dev) (block reason detail : Nat) : Dev :=
  let rolling : Bool := match d.power.sleep with | .rollback _ => true | _ => false
  if decide (d.power.sleep = .idle) || rolling then d
  else
    let k := stoppedBlocks d
    let d := disarm (disarm (disarm d tkFlush 0) tkStop 0) tkStopDelay 0
    let d := { d with power.abortAt := tbNs d, power.abortStep := stepReached d, power.abortBlock := block, power.abortReason := reason,
                      power.abortDetail := detail, power.sleep := .rollback k, wear.flushing := [] }
    if k = 0 then finishAbort d else arm d tkRollback 0 (stopDelay k)

/-- The SLEEP action (R675): DEFERRED, BUSY while the protocol runs, STATE while the device is not in normal operation (assumption
log 49). -/
def sleepOp (d : Dev) (arg : Nat) : Dev × Status × List Byte :=
  if arg ≠ 1 ∧ arg ≠ 2 then (d, .range, [])
  else if d.power.sleep ≠ .idle then (d, .busy, [])
  else if d.power.phase ≠ .running ∨ nGet d supply_SUPPLY_STATE ≠ 0 then (d, .state, [])
  else
    let hs := (List.range 16).filter (fun h => decide (nGet d (panel_IDENTITY_STATE h) = 2))
    let d := { boostEnd d with power.sleep := .flush, power.sleepFor := arg, wear.flushing := hs }
    let d := arm (hs.foldl takeSnapshot d) tkFlush 0 (ms 250)
    (tracePower (updState d), .deferred, [])

/-- SLEEP_WINTER (R675). -/
def doSleepWinter (sess : Nat) (d : Dev) : Dev := withGate d sess power_SLEEP (fun d => sleepOp d 1)
/-- SLEEP_FROST (R675). -/
def doSleepFrost (sess : Nat) (d : Dev) : Dev := withGate d sess power_SLEEP (fun d => sleepOp d 2)

/-- STOP goes to a block (R676). -/
def sendStop (d : Dev) (b : Nat) : Dev := arm { d with power.sleep := .stop b } tkStop 0 (ms 2)

/-- WEAR_FLUSH_END (R440, R452, R676): the summary of every accepted panel is written before the first STOP. -/
def doWearFlushEnd (d : Dev) : Dev :=
  if d.power.sleep = .flush ∧ (d.wear.flushing = [] ∨ due d tkFlush 0) then
    let hs := (List.range 16).filter (fun h => decide (nGet d (panel_IDENTITY_STATE h) = 2))
    sendStop (disarm { hs.foldl writeSummary d with wear.flushing := [] } tkFlush 0) 1
  else d

/-- The threads that execute, of raster or of housekeeping programs. -/
def busyThreads (d : Dev) (house : Bool) : List Nat :=
  (d.beam.threads.filter (fun e => executing e.2 && (perfMode d e.1 == house))).map (·.1)

/-- The head of R676 that TELLTALE_POLICY 1 protects, if there is one. -/
def shownHead (d : Dev) : Option Nat :=
  (List.range 16).find? (fun h => liveNat d h (head_SAFETY h) == 1 &&
    (List.range 64).any (fun s => decide (nGet d (slot_SHOWN (64 * h + s)) ≠ 0)))

/-- A list or command that runs (R676): the channel or ring. -/
def runningJob (d : Dev) : Option Nat :=
  match (List.range 32).find? (fun n => (chanOf d n).job.isSome) with
  | some n => some n
  | none => (List.range 4).find? (fun r => (ringOf d r).job.isSome)

/-- Why a block refuses STOP by its own state (R556, R676): reason and detail. -/
def blockRefuses (d : Dev) (b : Nat) : Option (Nat × Nat) :=
  if b = 1 then (if d.scene.evaluating.isSome then some (1, 0xFFFF) else none)
  else if b = 2 then
    (if nGet d avas_SOUNDING = 1 ∧ entryInLoss d (nGet d avas_SPEED_ENTRY) = false then some (2, 0xFFFF) else none)
  else if b = 3 then
    (if nGet d power_TELLTALE_POLICY = 1 then (shownHead d).map (fun h => (3, h)) else none)
  else if b = 4 then
    (if due d tkStop 0 then
      (match busyThreads d true with
       | t :: _ => some (4, refInst (threadOf d t).prog)
       | [] => none)
     else none)
  else if b = 5 then (runningJob d).map (fun n => (5, n))
  else none

/-- The coupling of every head that stops for sleep, kept for its restart (R258). -/
def holdCoupling (d : Dev) (h : Nat) : Dev :=
  match mapFind d.stoker.heads h, mapFind d.stoker.headsNext h with
  | some p, none => { d with stoker.headsNext := mapPut d.stoker.headsNext h p }
  | _, _ => d

/-- Every head stops (R676): every commit pending on it applies (R121), its coupling is held, the anchors fall with the last head
(R258). -/
def stopHeads (s : State) : State :=
  let s := (List.range 16).foldl (fun s h =>
    if headRuns s.dev h then applyRest (withDev s (stopHeadNow (holdCoupling s.dev h) h)) h else s) s
  withDev s (refreshLeases (settleMigration { s.dev with heads.anchors := [] }))

/-- Every head whose live ENABLE is 1 starts again (R260, R671, R677), with the commits that are still pending on it (R121). -/
def resumeHeads (s : State) : State :=
  let s := (List.range 16).foldl (fun s h =>
    let s := applyRest s h
    let d := settleIdle s.dev h
    withDev s (updHead d h (fun q => { q with heldRestart := headRuns d h }))) s
  withDev s (refreshLeases s.dev)

/-- Every lane goes off, and its feed with it (R676). -/
def stopLanes (d : Dev) : Dev :=
  (List.range 32).foldl (fun d l => pocOff (laneOff d l) l) d

/-- Every lane with a DIRECTION trains (R677). -/
def resumeLanes (d : Dev) : Dev :=
  (List.range 32).foldl (fun d l => if nGet d (lane_DIRECTION l) = 0 then d else startTrain d l) d

/-- The network island stops (R286, R676): no failover follows. -/
def stopNetwork (d : Dev) : Dev :=
  let d := { d with islands.off := addOnce d.islands.off 101 }
  let a := nGet d addr_ACTIVE
  let d := if a = 0 then linkDown (linkDown d 1) 0 else linkDown (linkDown d 0) 1
  let d := plcaLost (plcaLost d 0) 1
  let d := (List.range 4).foldl (fun d c => canFresh d c 0) d
  networkLoss d

/-- The network island runs again: every enabled controller integrates (R587). -/
def resumeNetwork (d : Dev) : Dev :=
  let d := { d with islands.off := d.islands.off.filter (· ≠ 101) }
  (List.range 4).foldl (fun d c => if nGet d (can_MODE c) = 0 then d else canFresh d c 1) d

/-- Whether a cluster bank holds a hot surface or a housekeeping program's region (R670). -/
def bankHeld (d : Dev) (c : Nat) : Bool :=
  (heldSpans d).any (fun p => decide (p.lo < bankBase (c + 1)) && decide (bankBase c < p.hi)) ||
  (bankRegions d c).any (fun r => decide (r.lo < r.hi))

/-- The clusters and the engines whose banks Winter keeps (R670). -/
def emberBank (d : Dev) (c : Nat) : Bool :=
  nGet d power_RETAIN_DRAM == 1 && d.power.sleepFor == 1 && (bitOf (nGet d power_EMBER_CLUSTER) c || bankHeld d c)

/-- Whether an engine's scratchpad is an ember bank (R670). -/
def emberScratch (d : Dev) (e : Nat) : Bool :=
  nGet d power_RETAIN_DRAM == 1 && d.power.sleepFor == 1 && bitOf (ofLe (sliceOf (bGet d power_EMBER_SCRATCH) (e / 8) 1)) (e % 8)

/-- The settings of the banks in Winter or Frost (R486, R670): 1 retention, 2 off; clusters by number, engines from 16, pipes from 112,
which are never kept, and the Firekeeper's bank, 144. -/
def winterBanks (d : Dev) : SMap Nat :=
  (List.range 12).map (fun c => (c, if emberBank d c then 1 else 2)) ++ (List.range 96).map (fun e => (16 + e, if emberScratch d e then 1 else 2)) ++
  (List.range 32).map (fun p => (112 + p, 2)) ++ [(144, if nGet d power_RETAIN_DRAM = 1 ∧ d.power.sleepFor = 1 then 1 else 2)]

/-- The banks that are off lose their content (R486): cluster banks, scratchpads, and the buffers of pipes. -/
def loseBanks (s : State) : State :=
  let off := fun (k : Nat) => decide (mapGet s.dev.dram.banks k 0 = 2)
  let lost := fun (a : Nat) => match placeOf s.dev a with
    | .bank c => off c
    | _ => false
  let d := loseScratch s.dev (fun e => off (16 + e))
  let pipes := d.pipes.pipe.map (fun e => if off (112 + e.1) then (e.1, { e.2 with buffer := [], bufferBad := [] }) else e)
  { s with mem := memClear lost s.mem,
           dev := { d with
             pipes.pipe := pipes
             dram.badWords := d.dram.badWords.filter (fun w => !lost (8 * w))
             dram.softWords := d.dram.softWords.filter (fun w => !lost (8 * w)) } }

/-- Every ACTIVE source gets an implicit EOI and every hold ends (R629). -/
def stopEvents (d : Dev) : Dev :=
  let d := (d.events.claimant.map (·.1)).foldl endSource { d with events.claimant := [] }
  (List.range 64).foldl (fun d g => disarm (nSet d (damper_HOLDING g) 0) tkDamper g) d

/-- A migration ends with STOP and keeps its place in the queue (R676, R677). -/
def holdMigration (d : Dev) : Dev :=
  match d.stoker.migration with
  | none => d
  | some m => reportMigration (disarm { cancelReads d 2 0 with stoker.migration := none, stoker.queue := m.surf :: d.stoker.queue } tkMigration 0)

/-- What STOP does in a block (R676). -/
def stopBlock (s : State) (b : Nat) : State :=
  let d := s.dev
  if b = 1 then withDev s { holdMigration d with power.sceneStopped := true }
  else if b = 2 then
    let d := if nGet d avas_SOUNDING = 1 then setSounding d false else d
    withDev s ((List.range 128).foldl (fun d v => keyVoice d v false) d)
  else if b = 3 then stopHeads s
  else if b = 6 then withDev s (stopLanes d)
  else if b = 7 then withDev s (stopNetwork d)
  else if b = 9 then loseBanks (withDev s { d with dram.banks := winterBanks d })
  else if b = 11 then withDev s (stopEvents d)
  else s

/-- DRAM serves requests again (R477, R659): the lines of the video inputs that wait are written, and the stores of threads that wait issue. -/
def dramAgain (s : State) : State :=
  let s := (List.range 16).foldl flushLines s
  (List.range 384).foldl (fun s t =>
    match (threadOf s.dev t).state with
    | .stalled op _ 7 _ => if opStores op then retry s t else s
    | _ => s) s

/-- DRAM_INIT_COMPLETE (R477): every block of every channel that is not retired is zero and clean, and DRAM serves requests. -/
def doDramInitComplete (s : State) : State :=
  let d := s.dev
  if d.dram.ready ∨ ¬ (activeChannels d).all (fun c => d.dram.trained.contains c) then s
  else
    let left := d.dram.errors.filter (fun e => !initClears d (e.1 * 256))
    let d' := nSet { d with dram.ready := true, dram.errors := left } mem_INIT_TIME ((d.now - d.dram.initStart) / 1000)
    dramAgain { s with dev := d', mem := memClear (initClears d) s.mem }

/-- A block restarts (R677). -/
def resumeBlock (s : State) (b : Nat) : State :=
  if b = 1 then withDev s (startMigration { s.dev with power.sceneStopped := false })
  else if b = 3 then resumeHeads s
  else if b = 6 then withDev s (resumeLanes s.dev)
  else if b = 7 then withDev s (resumeNetwork s.dev)
  else if b = 8 then dramAgain s
  else if b = 9 then withDev s { s.dev with dram.banks := [] }
  else s

/-- BLOCK_STOP_ANSWER (R676): a block refuses for its own state, block 10 for xSPI as the answer says; an answer of STOPPED that a
thread still keeps from coming is none, and none in 2 ms is TIMEOUT. -/
def doBlockStopAnswer (a : StopAnswer) (s : State) : State :=
  let d := s.dev
  match d.power.sleep with
  | .stop b =>
    match blockRefuses d b with
    | some r => withDev s (sleepAbort d b r.1 r.2)
    | none =>
      match a with
      | .stopped =>
        if b = 4 ∧ (busyThreads d true ≠ [] ∨ busyThreads d false ≠ []) then s
        else
          let s := stopBlock s b
          withDev s (arm (disarm { s.dev with power.sleep := .delay b } tkStop 0) tkStopDelay 0 (stopDelay b))
      | .refuse r x => if b = 10 ∧ r = 6 then withDev s (sleepAbort d b 6 (x % 65536)) else s
      | .timeout => if due d tkStop 0 then withDev s (sleepAbort d b 7 0xFFFF) else s
  | _ => s

/-- SLEEP_ROLLBACK_STEP (R677): the block restarts; after the last one the abort is recorded. -/
def doSleepRollbackStep (s : State) : State :=
  match s.dev.power.sleep with
  | .rollback b =>
    if due s.dev tkRollback 0 = false then s
    else
      let s := resumeBlock (withDev s (disarm { s.dev with power.sleep := .rollback (b - 1) } tkRollback 0)) b
      withDev s (if b ≤ 1 then finishAbort s.dev else arm s.dev tkRollback 0 (stopDelay (b - 1)))
  | _ => s

/-! ### Winter, Frost, the ends of operation -/

/-- Every ball takes its SLEEP_STATE (R653): the pads are no longer read, and the copies of R655 start from the present outputs. -/
def sleepPads (d : Dev) : Dev :=
  let st := fun p => fieldOf (nGet d (bank_SLEEP_STATE (p / 32))) (2 * (p % 32)) 2
  let d := (List.range 160).foldl (fun (d : Dev) p =>
    if st p = 0 then d
    else { d with pins.latchEnable := mapSet d.pins.latchEnable p (if st p = 1 then 0 else 1) 0,
                  pins.latchLevel := mapSet d.pins.latchLevel p (if st p = 3 then 1 else 0) 0 }) d
  let outs := (List.range 32).map (fun k => nGet d (matcher_OUTPUT k))
  let lvls := (List.range 8).map (fun k => nGet d (hvs_LEVEL k))
  { d with pins.asleep := true, pins.wakeRun := mapOfList 0 64 outs ++ mapOfList 0 128 lvls }

/-- Whether a member outlasts every reset (R692, R694, R700, R703): the fuses and the device record. -/
def durable (r : Ref) : Bool :=
  [dev_SERIAL, dev_SILICON_REVISION, dev_LIFECYCLE, sec_MAKER_ROOT_KEY, sec_REVOKED_KEYS, sec_ROLLBACK_FUSES, sec_ATTEST_CERT,
    power_OPERATING_HOURS, power_SLEEP_CYCLES, supply_LAST_POWER_LOSS, therm_TRIPS, boost_LIFETIME_S].contains r ||
  (refClass r == 1 && decide (0x100 ≤ refInst r) && refMember r == 6) || (refClass r == 8 && decide (0x10 ≤ refInst r) && refMember r == 2)

/-- Whether a member lies in the RTC and wake domain (R589, R600): TIME_VALID and the sleep-epoch records. -/
def wakeDomain (r : Ref) : Bool :=
  r == time_TIME_VALID || (refClass r == 3 && decide (0x20 ≤ refInst r) && decide (refInst r ≤ 0x23))

/-- Whether a member outlasts Winter without DRAM (R476, R629, R654, R672): event routing and counts, pin settings, the pass of the scrubber. -/
def winterKeeps (r : Ref) : Bool :=
  (refClass r == 0x50 && ((decide (refInst r < 0x400) && [1, 2, 3, 4, 5].contains (refMember r)) ||
    (decide (0x400 ≤ refInst r) && refMember r == 1))) ||
  r == mem_SCRUB_BLOCKS || (List.range 8).any (fun c => r == chan_UE_PASS c) ||
  (refClass r == 0x58 && ((decide (refInst r < 5) && [2, 3, 7, 8].contains (refMember r)) || refInst r == 0x100))

/-- A panel after a reset: its summaries stay in xSPI (R452). -/
def panelAfterReset (x : PanelSt) : PanelSt := { PanelSt.reset with summaries := x.summaries, nextSector := x.nextSector }

/-- The block as a reset leaves it (R32, R672, R692): the NOR devices and fuses, the clock of the model, and the members that a test
names are kept; with VIN present also the timebase and the sleep-epoch records (R589). -/
def coldReset (d : Dev) (vin : Bool) (keep : Ref → Bool) : Dev :=
  let m := fun r => durable r || (vin && wakeDomain r) || keep r
  let life := max (nGet d boost_LIFETIME_S) (36000 * d.power.boostFuses)
  let d' : Dev := { Dev.reset with
    now := d.now, free := d.free, out := d.out, hearth := Hearth.reset
    objs := d.objs.filter (fun e => m e.1)
    tb := if vin then d.tb else 0
    time := { TimeSt.reset with adv := if vin then d.time.adv else 0, epochNext := if vin then d.time.epochNext else 0 }
    pins := { Pins.reset with outside := d.pins.outside, hvsCompare := d.pins.hvsCompare, resetLow := d.pins.resetLow }
    dram := { Dram.reset with retired := d.dram.retired, stored := d.dram.stored, unretire := d.dram.unretire }
    wear := { Wear.reset with panel := d.wear.panel.map (fun e => (e.1, panelAfterReset e.2)) }
    noap := { Noap.reset with liteStored := d.noap.liteStored, liteLast := d.noap.liteStored + 1024 }
    trust := { Trust.reset with slots := d.trust.slots, digest := d.trust.digest, liteKey := d.trust.liteKey }
    power := { Power.reset with
      boostFuses := d.power.boostFuses, overvolt := d.power.overvolt, restartAfterLoss := d.power.restartAfterLoss
      hourNs := d.power.hourNs, sleepEntry := d.power.sleepEntry, ticksSlept := d.power.ticksSlept, slept := d.power.slept } }
  let d' := nSet d' boost_LIFETIME_S life
  { (if d.power.boostFuses = 300 then nSet d' boost_STATE 2 else d') with dirty := [] }

/-- Operation ends with no orderly steps (R660): the cause is kept, the fault pins are safe, everything else restarts cold. -/
def endAbruptly (s : State) (cause : Nat) : State :=
  let d := coldReset { s.dev with power.slept := none } true (fun _ => false)
  { s with mem := [], dev := nSet { d with power.phase := .lost, power.restartAfterLoss := true } supply_LAST_POWER_LOSS cause }

/-- Whether the device operates or restores its rails. -/
def operating (d : Dev) : Bool :=
  match d.power.phase with
  | .running => true
  | .restoring _ _ => true
  | .held => true
  | _ => false

/-- Whether the device is in Winter or Frost. -/
def sleeping (d : Dev) : Bool := asleep d

/-- The rails of R665. -/
inductive Rail where
  | vrtc | v5 | vaon | vio33 | vio18 | vser | vdd1 | vdd2h | vdd2l | vddq | vsram | vcore
  deriving DecidableEq, Repr

/-- A rail's nominal voltage in millivolts and the step of the restore table that makes it (R665, R666). -/
def railRow : Rail → Nat × Nat
  | .vrtc => (1800, 1)
  | .v5 => (5000, 2)
  | .vaon => (750, 3)
  | .vio33 => (3300, 4)
  | .vio18 => (1800, 4)
  | .vser => (900, 4)
  | .vdd1 => (1800, 5)
  | .vdd2h => (1050, 6)
  | .vdd2l => (900, 6)
  | .vddq => (500, 7)
  | .vsram => (800, 8)
  | .vcore => (750, 8)

/-- The voltage of a rail in millivolts, 0 while it is off (R660, R665, R666, R682): a rail is on once its step of the restore table
has run; Winter keeps VSRAM at its retention voltage, and the DRAM rails with RETAIN_DRAM 1. -/
def railMv (d : Dev) (r : Rail) : Nat :=
  let dram := decide (5 ≤ (railRow r).2) && decide ((railRow r).2 ≤ 7)
  match d.power.phase with
  | .absent => 0
  | .lost => if r = .vrtc then 1800 else 0
  | .frost => if r = .vrtc then 1800 else 0
  | .held => if (railRow r).2 ≤ 2 then (railRow r).1 else 0
  | .winter warm => if (railRow r).2 ≤ 2 ∨ dram && warm then (railRow r).1 else if r = .vsram then 550 else 0
  | .restoring step start =>
    if (railRow r).2 < step ∨ dram && start == 3 then (railRow r).1 else if r = .vsram ∧ 2 ≤ start then 550 else 0
  | .running => if r = .vcore ∧ nGet d boost_STATE = 1 then 850 else (railRow r).1

/-- Durations of the restore table in units of 0.1 ms (R666). -/
def restoreTime (n : Nat) : Nat := us (100 * ([0, 5, 25, 10, 5, 5, 5, 5, 15, 10, 15] : List Nat).getD n 0)

/-- A step of the restore table begins (R666). -/
def beginRestore (d : Dev) (step start : Nat) : Dev :=
  let d := match d.power.phase with
    | .restoring _ _ => d
    | _ => { d with trust.startAt := d.now }
  arm { d with power.phase := .restoring step start } tkRestore 0 (restoreTime step)

/-- VIN_VALID (R657, R660, R686): a cold start, or from step 2 a restart after an abrupt end, unless over-voltage holds it. -/
def doVinValid (s : State) : State :=
  let d := s.dev
  match d.power.phase with
  | .absent =>
    let d := coldReset d false (fun _ => false)
    { s with mem := [], dev := beginRestore (nSets d [(power_LAST_WAKE_SOURCE, 1), (supply_VIN_MV, 8500)]) 1 0 }
  | .lost => if d.power.overvolt then s else withDev s (beginRestore (nSet d supply_VIN_MV 8500) 2 0)
  | _ => s

/-- VIN_LOSS (R657, R660): VIN falls below 6.0 V. Frost needs only the RTC and wake domain, and goes on (assumption log 50). -/
def doVinLoss (s : State) : State :=
  match s.dev.power.phase with
  | .winter _ => endAbruptly s 1
  | _ => if operating s.dev then endAbruptly s 1 else s

/-- VIN_ABSENT (R298, R589, R657): VIN falls below 4.5 V; the RTC and wake domain falls too, and the fault pins are released. -/
def doVinAbsent (s : State) : State :=
  let s := doVinLoss s
  let d := coldReset { s.dev with power.slept := none, power.overvolt := false } false (fun _ => false)
  { s with mem := [], dev := nSet { d with power.phase := .absent, power.restartAfterLoss := false, hearth.released := true } hearth_FAULT_PINS 1 }

/-- CRANK_TIMEOUT (R660). -/
def doCrankTimeout (s : State) : State :=
  if nGet s.dev supply_SUPPLY_STATE = 1 ∧ due s.dev tkCrank 0 then endAbruptly s 2 else s

/-- OVERVOLTAGE (R657, R660): VIN exceeds 63 V. -/
def doOvervoltage (s : State) : State :=
  if s.dev.power.phase = .absent then s
  else if s.dev.power.phase = .lost then withDev s { s.dev with power.overvolt := true }
  else endAbruptly (withDev s { s.dev with power.overvolt := true }) 3

/-- OVERVOLTAGE_CLEAR (R660). -/
def doOvervoltageClear (d : Dev) : Dev :=
  if d.power.overvolt ∧ d.power.phase = .lost then beginRestore { d with power.overvolt := false } 2 0 else d

/-- CRANK_ENTRY (R658, R678, R688). -/
def doCrankEntry (d : Dev) : Dev :=
  if d.power.phase ≠ .running ∨ nGet d supply_SUPPLY_STATE = 1 then d
  else
    let d := nInc (nSet (boostEnd d) supply_SUPPLY_STATE 1) supply_CRANKS
    let d := { d with islands.gated := (List.range 44) ++ d.islands.gated.filter (fun i => decide (44 ≤ i)) }
    let d := (List.range 16).foldl (fun d h => if nGet d (head_STATE h) = 3 then nSet d (head_STATE h) 4 else d) d
    let d := arm (raise (tracePower d) 884) tkCrank 0 (ms 500)
    sleepAbort d 0 9 0xFFFF

/-- CRANK_EXIT (R659): VIN has stayed at or above 8.5 V for 1 ms. -/
def doCrankExit (s : State) : State :=
  if nGet s.dev supply_SUPPLY_STATE ≠ 1 then s
  else
    let d := nSet (disarm s.dev tkCrank 0) supply_SUPPLY_STATE 0
    let d := (List.range 44).foldl (fun d i => doGatedIslandAccessResume (Fin.ofNat 105 i) s.mem d) d
    let d := { d with power.crankHeads := maskOf 16 (headRuns d) }
    dramAgain (withDev s (raise (tracePower d) 884))

/-- Whether Winter without DRAM, or Frost, loses what lies at an address; Winter with DRAM loses the banks that are off and the
Hearth store (R267, R486, R670). -/
def sleepLoses (d : Dev) (warm : Bool) (a : Nat) : Bool :=
  if warm then
    match placeOf d a with
    | .bank c => !emberBank d c
    | .store => true
    | _ => false
  else true

/-- Power is removed (R53, R596, R629, R653, R676, R724): `kind` 1 Winter, 2 Frost. -/
def removePower (s : State) (kind : Nat) : State :=
  let warm := decide (kind = 1) && nGet s.dev power_RETAIN_DRAM == 1
  let d := if nGet s.dev obs_TOKEN_STATE = 1 then tokenEnd s.dev else s.dev
  let mem := memClear (sleepLoses d warm) s.mem
  let d := closeAll { d with power.sleepFor := kind }
  let d := { d with
    beam.dcache := [], beam.icache := [], beam.posts := [], beam.bells := []
    dram.ready := d.dram.ready && warm, dram.reads := [], dram.waiting := []
    time.timers := if kind = 1 then d.time.timers else [], time.starts := if kind = 1 then d.time.starts else []
    islands.off := List.range 105, islands.gated := [], islands.crossing := [], islands.waiting := []
    power.phase := if kind = 1 then .winter warm else .frost
    power.sleep := .idle, power.sceneStopped := false, power.sleepEntry := tbNs d, power.ticksSlept := 0
    power.slept := some (kind - 1)
    hearth.released := !d.power.tripped }
  let d := nSets (sleepPads d) [(hearth_FAULT_PINS, 1), (dev_FK_STATE, 0)]
  loseBanks { s with mem := mem, dev := updState { d with dram.banks := winterBanks d } }

/-- STOP_DELAY_EXPIRY (R676): STOP goes to the next block; after the last one power is removed. -/
def doStopDelayExpiry (s : State) : State :=
  match s.dev.power.sleep with
  | .delay b =>
    if due s.dev tkStopDelay 0 = false then s
    else
      let d := disarm s.dev tkStopDelay 0
      if b < 12 then withDev s (sendStop d (b + 1))
      else removePower (withDev s (nSet d supply_LAST_POWER_LOSS 0)) d.power.sleepFor
  | _ => s

/-- Whether the device runs or restores its rails. -/
def powered (d : Dev) : Bool :=
  match d.power.phase with
  | .running => true
  | .restoring _ _ => true
  | _ => false

/-- THERMAL_TRIP (R678 to R680): Frost, with the fault pins held safe, over a protocol that runs. -/
def doThermalTrip (s : State) : State :=
  if powered s.dev = false then s
  else
    let d := boostEnd s.dev
    let d := nSet (nInc d therm_TRIPS) supply_LAST_POWER_LOSS 4
    let s := stopHeads (withDev s { d with power.sleep := .idle, power.tripped := true, hearth.tripped := true })
    let d := stopNetwork (stopLanes s.dev)
    removePower (withDev s (nSet (stopEvents d) supply_SUPPLY_STATE 0)) 2

/-! ### Wake -/

/-- The wake that a request starts (R672, R674): members go back to their defaults unless DRAM was retained. -/
def wakeUp (s : State) (source detail : Nat) : State :=
  let d := s.dev
  let d := { d with power.slept := some (if d.power.phase = Phase.frost then 1 else 0) }
  let go := fun (d : Dev) (step start : Nat) =>
    let d := { d with hearth.released := false }
    let d := nSets d [(power_LAST_WAKE_SOURCE, source), (power_LAST_WAKE_DETAIL, detail), (power_LAST_WAKE_TIME, tbNs d),
      (power_SLEEP_CYCLES, satAdd 32 (nGet d power_SLEEP_CYCLES) 1), (hearth_FAULT_PINS, 1)]
    beginRestore d step start
  match d.power.phase with
  | .winter true => withDev s (go d 3 3)
  | .winter false =>
    let e := coldReset d true winterKeeps
    let same := fun (n : Nat) => decide (segCode d n = segCode e n)
    let e := { e with dram.scrubAt := d.dram.scrubAt.filter (fun x => same (x.1 / 8)), noap.nextId := d.noap.nextId, events := d.events, time.timers := d.time.timers, time.starts := d.time.starts,
                      pins := { d.pins with matchResult := [], wakeRun := [], held := false } }
    { s with mem := [], dev := go e 3 2 }
  | .frost =>
    let e := coldReset d true (fun _ => false)
    { s with mem := [], dev := go { e with noap.nextId := d.noap.nextId, pins := { d.pins with matchResult := [], wakeRun := [], held := false } } 2 1 }
  | _ => s

/-- A wake request (R674, R678, R680): in Winter or Frost it wakes the device, after a trip only once that sensor is cool; before
power is removed it turns the sleep protocol back. -/
def wakeRequest (s : State) (source detail : Nat) : State :=
  if sleeping s.dev then (if s.dev.power.tripped then s else wakeUp s source detail)
  else withDev s (sleepAbort s.dev 0 8 0xFFFF)

/-- WAKE_N (R674), held low for 2 RTC ticks. -/
def doWakeN (s : State) : State := if nGet s.dev power_WAKE_N_ENABLE = 1 then wakeRequest s 3 0 else s

/-- The reset that a low RESET_N brings (R32, R53, R656). -/
def resetHeld (s : State) : State :=
  match s.dev.power.phase with
  | .absent => s
  | .lost => s
  | .frost => if s.dev.power.tripped then withDev s { s.dev with pins.held := true }
      else { s with mem := [], dev := { coldReset { s.dev with power.slept := some 1 } true (fun _ => false) with power.phase := .held } }
  | .winter _ => { s with mem := [], dev := { coldReset { s.dev with power.slept := some 0 } true (fun _ => false) with power.phase := .held } }
  | _ =>
    let d := coldReset { s.dev with power.slept := none } true (fun _ => false)
    { s with mem := [], dev := nSet { d with power.phase := .held } supply_LAST_POWER_LOSS 0 }

/-- RESET_N asserted (R656, R696): the ball is low, and the device is held in reset. -/
def doResetN (s : State) : State := resetHeld (withDev s { s.dev with pins.resetLow := true })

/-- Whether an xSPI port holds its balls at high impedance (R696): both do while RESET_N is low. -/
def xspiHighZ (d : Dev) (_port : Fin 2) : Bool := d.pins.resetLow

/-- RESET_N_RELEASE (R674, R696): a cold start from step 3; out of Winter or Frost it is a wake as well. -/
def doResetNRelease (d : Dev) : Dev :=
  let d := { d with pins.resetLow := false }
  if d.power.phase ≠ .held then d
  else
    let d := nSets d [(power_LAST_WAKE_SOURCE, 2), (power_LAST_WAKE_TIME, tbNs d)]
    let d := if d.power.slept.isSome then nInc d power_SLEEP_CYCLES else d
    beginRestore d 3 0

/-- The timebase resumes when the pin clock is valid (R597, R598): the sleep-epoch record is written, the servo samples again. -/
def resumeTime (d : Dev) : Dev :=
  let d := servoState (awaitSource d) (if nGet d time_SOURCE = 0 then 0 else 1)
  match d.power.slept with
  | none => d
  | some k =>
    let i := d.time.epochNext
    let d := nSets d [(epoch_ENTRY i, d.power.sleepEntry), (epoch_EXIT i, tbNs d), (epoch_RTC_TICKS i, d.power.ticksSlept),
      (epoch_WAKE_STEP i, 0), (epoch_STATE_SLEPT i, k)]
    { d with time.epochNext := (i + 1) % 4, time.wakeAt := some (tbNs d), power.slept := none }

/-- The pin block takes ownership (R654, R656): after a cold start and after Frost the balls wait for the boot configuration. -/
def resumePins (d : Dev) (start : Nat) : Dev :=
  if 2 ≤ start then startPins d else d

/-- A placed program starts again on its thread (R671): its scratchpad view stays where its scratchpad was an ember bank. -/
def resumeProgram (s : State) (p : ProgPlace) : State :=
  let x := threadOf s.dev (4 * p.engine + p.thread)
  let u := startThreadAt s p x.code x.view
  if mapGet s.dev.dram.banks (16 + p.engine) 0 = 1 then withDev u { u.dev with beam.scratch := s.dev.beam.scratch } else u

/-- The Hearth plane as its island finds it when power returns (R671, R695): the package is to be loaded again, and causes of
hearth-only mode that lie outside the plane stay, as does a request that start-up still holds (R713) or a failed panel made (R436). -/
def hearthAgain (d : Dev) : Dev :=
  let causes := (List.range 16).map (fun h => nGet d (hhead_HO_CAUSE h) % 16)
  let d := { d with objs := d.objs.filter (fun e => decide (refClass e.1 ≠ 0x20) && decide (refClass e.1 ≠ 0x21)), hearth := Hearth.reset }
  let d := ((List.range 16).zip causes).foldl (fun d x => nSet d (hhead_HO_CAUSE x.1) x.2) d
  let stays := (List.range 16).filter (fun h => bitOf d.trust.held h || (panelOf d h).withheld)
  let d := stays.foldl (fun d h => hoCauseSet (nSet d (hhead_HO_REQUEST h) 1) h 4) d
  match activeSlot d 2 with
  | some _ => nSet d hearth_PACKAGE_STATE 1
  | none => packageInvalid d

/-- The observation members that every wake returns to their defaults (R738); the service log stays (R736). -/
def obsWakes (r : Ref) : Bool :=
  refClass r == 0x70 && (decide (refInst r ≤ 0x200) || decide (0x1000 ≤ refInst r))

/-- Observation as every wake leaves it (R738). -/
def obsAgain (d : Dev) : Dev := { d with objs := d.objs.filter (fun e => !obsWakes e.1), obs := Obs.reset }

/-- The audio block as its island finds it when power returns (R542, R671): nothing sounds, and each node has the gain of its member. -/
def audioAgain (d : Dev) : Audio :=
  let gain := fun (k : Nat) => ofLe (sliceOf (bGet d (xout_GAINS (k / 64))) (2 * (k % 64)) 2)
  { Audio.reset with nodes := ((List.range 3072).filter (fun k => decide (gain k ≠ 0))).map (fun k =>
      (k, { Node.reset with gain := (gain k : Nat), target := gain k })) }

/-- A wake from Winter with DRAM retained ends (R671, R677): scene and placement are unchanged, programs start as at placement,
lanes train and heads start. The retained Firekeeper bank's digest matches, since no command changes that bank (assumption
log 51). -/
def warmResume (s : State) : State :=
  let d := obsAgain (hearthAgain s.dev)
  let d := (List.range 128).foldl (fun d v => nSet d (voice_STATE v) 0) d
  let d := { d with islands.off := [101], audio := audioAgain d, pipes := Pipes.reset }
  let d := reportEveryPipe (startFirekeeper d)
  let s := withDev s { d with stoker.leaving := [], scene.reading := [], scene.ended := [] }
  let s := s.dev.stoker.progs.foldl resumeProgram s
  let d := { s.dev with dram.banks := [] }
  let d := resumeLanes (resumeNetwork d)
  let s := resumeHeads (withDev s (nSet d avas_SOUNDING 0))
  let d := (List.range 16).foldl (fun d h => loadAllPalettes d h) s.dev
  withDev s (refreshLeases (startMigration d))

/-- The step after a step of the restore table (R666). -/
def nextRestore (step start : Nat) : Nat := if start = 3 ∧ step = 4 then 8 else step + 1

/-- The end of the restore table (R657, R666, R688, R735): the device runs; Kindling starts, or a warm wake resumes. -/
def endRestore (s : State) (start : Nat) : State :=
  let d := { disarm s.dev tkRestore 0 with power.phase := .running, islands.off := [] }
  if start = 3 then warmResume (withDev s d)
  else
    let d := nSet { d with dram.banks := [], trust.kindling := true } dev_FK_STATE 0
    let k := nGet d supply_LAST_POWER_LOSS
    let d := if k = 0 then d else serviceLog d 10 0 k
    withDev s (if d.power.restartAfterLoss then raise { d with power.restartAfterLoss := false } 884 else d)

/-- RESTORE_STEP_COMPLETE (R597, R654, R666). -/
def doRestoreStepComplete (s : State) : State :=
  match s.dev.power.phase with
  | .restoring step start =>
    if due s.dev tkRestore 0 = false then s
    else
      let d := s.dev
      let d := if step = 3 then resumeTime d else d
      let d := if step = 9 then resumePins d start else d
      if step = 10 then endRestore (withDev s d) start
      else withDev s (beginRestore d (nextRestore step start) start)
  | _ => s

/-! ### The RTC and wake domain -/

/-- Whether the RTC, not the pin clock, advances the timebase (R596, R597). -/
def rtcCounts (d : Dev) : Bool :=
  match d.power.phase with
  | .winter _ => true
  | .frost => true
  | .lost => true
  | .held => true
  | .restoring n _ => decide (n ≤ 3)
  | _ => false

/-- One RTC tick in units of 2^-32 ns: 30,517 + 37/64 ns (R596). -/
def rtcStep : Nat := 30517 * 2 ^ 32 + 37 * 2 ^ 26

/-- Whether an enabled channel has a reload or a match to come (R602, R603). -/
def timerActs (d : Dev) (n : Nat) : Bool :=
  let t := timerOf d n
  t.enable && (decide (periodOf t ≤ rawCount d t) || compareDue d t 0 || compareDue d t 1)

/-- A channel's reloads and matches of one RTC tick, in order (R608); a tick holds at most 7,630 counts. -/
def drainTimer (n : Nat) : Nat → Dev → Dev
  | 0, d => d
  | k + 1, d =>
    if timerActs d n then
      drainTimer n k (if periodOf (timerOf d n) ≤ rawCount d (timerOf d n) then timerReload d n else timerFire (timerFire d n 0) n 1)
    else d

/-- The level that a copy of a matcher sees at an input (R655). -/
def copyInput (d : Dev) (code : Nat) : Nat :=
  if code < 160 then padLevel d code else if code < 168 then mapGet d.pins.wakeRun (128 + (code - 160)) 0 else 0

/-- A copy evaluated at an RTC tick (R655): its output takes a value that has held for n ticks; whether it asserted. In Winter its
level source follows (R629). -/
def copyLook (d : Dev) (key n source now : Nat) : Dev × Bool :=
  let out := mapGet d.pins.wakeRun (64 + key) 0
  let run := if now = out then 0 else mapGet d.pins.wakeRun key 0 + 1
  let take := decide (now ≠ out) && decide (n ≤ run)
  let d := { d with pins.wakeRun := mapSet (mapSet d.pins.wakeRun key (if take then 0 else run) 0) (64 + key) (if take then now else out) 0 }
  let winter := match d.power.phase with | .winter _ => true | _ => false
  (if take && winter then setLevel d source (now == 1) else d, take && now == 1)

/-- RTC ticks of a filter time (R655). -/
def filterTicks (us0 : Nat) : Nat := ceilDiv (us0 * 1000 * 2 ^ 32) rtcStep

/-- The copies of the HVS inputs and the matchers with WAKE 1 (R655), with the first wake request: source and detail. -/
def wakeCopies (d : Dev) : Dev × Option (Nat × Nat) :=
  let h := (List.range 8).foldl (fun (a : Dev × Option (Nat × Nat)) k =>
    if nGet a.1 (hvs_WAKE k) = 1 then
      let x := copyLook a.1 (64 + k) (filterTicks (nGet a.1 (hvs_FILTER_US k))) (928 + k) (hvsAsserted a.1 k)
      (x.1, if x.2 && a.2.isNone then some (5, k) else a.2)
    else a) (d, none)
  let m := (List.range 32).foldl (fun (a : Dev × Option (Nat × Nat)) k =>
    if nGet a.1 (matcher_WAKE k) = 1 then
      let x := copyLook a.1 k (nGet a.1 (matcher_WAKE_DEBOUNCE k)) (896 + k) (matcherHit a.1 (copyInput a.1) k)
      (x.1, if x.2 && a.2.isNone then some (4, k) else a.2)
    else a) (h.1, none)
  (m.1, if m.2.isSome then m.2 else h.2)

/-- The timer channels at an RTC tick in Winter (R608), with the first whose event wakes. -/
def wakeTimers (d : Dev) : Dev × Option (Nat × Nat) :=
  (List.range 96).foldl (fun (a : Dev × Option (Nat × Nat)) n =>
    if timerActs a.1 n then (drainTimer n 8000 a.1, if (timerOf a.1 n).wake && a.2.isNone then some (6, n) else a.2) else a) (d, none)

/-- RTC_TICK (R596, R608, R655): the accumulator advances; in Winter and Frost the copies are evaluated, in Winter the timer channels
too. Of several wake requests in one tick the first in R674's order counts. -/
def doRtcTick (s : State) : State :=
  let d := s.dev
  if rtcCounts d = false then s
  else
    let d := { d with tb := d.tb + rtcStep, time.adv := d.time.adv + rtcStep, power.ticksSlept := d.power.ticksSlept + 1 }
    match d.power.phase with
    | .winter _ =>
      let c := wakeCopies d
      let t := wakeTimers c.1
      let s := withDev s t.1
      match c.2, t.2 with
      | some w, _ => wakeRequest s w.1 w.2
      | none, some w => wakeRequest s w.1 w.2
      | none, none => s
    | .frost =>
      let c := wakeCopies d
      let s := withDev s c.1
      match c.2 with
      | some w => wakeRequest s w.1 w.2
      | none => s
    | _ => withDev s d

/-! ### Heat and input power -/

/-- The conditions by which each thermal step is entered (R679), for TJ and TJ_PREDICTED in 0.1 °C. -/
def stepEnters (k : Nat) (tj pred : Int) : Bool :=
  if k = 1 then decide (1180 ≤ pred) else if k = 2 then decide (1200 ≤ tj) else if k = 3 then decide (1220 ≤ tj)
  else if k = 4 then decide (1250 ≤ tj) else false

/-- Whether a step's leaving condition holds now (R679). -/
def stepCool (k : Nat) (tj pred : Int) : Bool :=
  if k = 1 then decide (pred < 1130) else if k = 2 then decide (tj < 1150) else if k = 3 then decide (tj < 1170) else decide (tj < 1200)

/-- The times since when each step's leaving condition has held. -/
def coolTimes (d : Dev) (tj pred : Int) : SMap Nat :=
  ([1, 2, 3, 4].filter (fun k => stepCool k tj pred)).map (fun k => (k, mapGet d.power.thermLow k d.now))

/-- The thermal step changes by one (R679, R680). -/
def setStep (d : Dev) (new : Nat) : Dev :=
  let old := nGet d therm_STEP
  let was := stepThree d
  let d := nSet { d with power.stepAt := some d.now } therm_STEP new
  let d := if 1 ≤ new then boostEnd d else d
  let d := governed d was
  let d := if new = 4 then (List.range 16).foldl (fun d h => hoCauseSet d h 3) d
    else if old = 4 then (List.range 16).foldl (fun d h => hoCauseClear d h 3) d
    else d
  let d := if 3 ≤ new ∧ old < new then serviceLog d 6 0 new else d
  let d := raise d 880
  if 3 ≤ max old new then sleepAbort d 0 10 0xFFFF else d

/-- TJ_PREDICTED (R679): TJ plus 100 ms times its rate of change over the last 10 ms. While no sample of 10 ms ago is held, the rate is not
known, and the value that comes with the sample is taken (assumption log 148). -/
def predictedTj (d : Dev) (tj pred : Int) : Int :=
  match d.power.temps.find? (fun e => decide (e.1 + ms 10 ≤ d.now)) with
  | some e => tj + (tj - e.2) * (ms 100 : Nat) / ((d.now - e.1 : Nat) : Int)
  | none => pred

/-- The samples of TJ that the rate of change needs (R679), newest first: those of the last 10 ms, and the one before them. -/
def keepTemps (d : Dev) (tj : Int) : List (Nat × Int) :=
  let young := d.power.temps.filter (fun e => decide (d.now < e.1 + ms 10))
  (d.now, tj) :: young ++ (d.power.temps.drop young.length).take 1

/-- THERMAL_SAMPLE (R679, R680), in 0.1 °C: at most one step in 1 ms, up toward the highest whose condition holds, or down when the present
step's has held for 5 s. In Frost after a trip the sample shows whether its sensor is below 105 °C. -/
def doThermalSample (tj pred : Int) (d : Dev) : Dev :=
  if sleeping d then (if tj < 1050 then { d with power.tripped := false } else d)
  else if d.power.phase ≠ .running then d
  else
    let pred := predictedTj d tj pred
    let d := nSets { d with power.temps := keepTemps d tj }
      [(therm_TJ, twosOf 16 (clampInt (-32768) 32767 tj)), (therm_TJ_PREDICTED, twosOf 16 (clampInt (-32768) 32767 pred))]
    let d := { d with power.thermLow := coolTimes d tj pred }
    let s := nGet d therm_STEP
    let up := ([4, 3, 2, 1].find? (fun k => stepEnters k tj pred)).getD 0
    let moved := match d.power.stepAt with
      | some t => decide (d.now < t + ms 1)
      | none => false
    if moved then updAutumn d
    else if s < up then setStep d (s + 1)
    else match mapFind d.power.thermLow s with
      | some t => if 1 ≤ s ∧ t + ms 5000 ≤ d.now then setStep d (s - 1) else updAutumn d
      | none => updAutumn d

/-- POWER_AVERAGE (R681, R688): the supply's measurements; outside boost the power limit acts on the average over 1 s, in boost an
average above 74 W ends the episode, and so does VIN below 10.0 V (R683). -/
def doPowerAverage (mw vinMv vpocMv : Nat) (d : Dev) : Dev :=
  let d := nSets d [(supply_INPUT_MW, min mw (2 ^ 32 - 1)), (supply_VIN_MV, min vinMv 65535), (supply_VPOC_MV, min vpocMv 65535)]
  let was := stepThree d
  let low := if mw < 54000 then some (d.power.powerLow.getD d.now) else none
  let d := { d with power.powerLow := low }
  let boosted := decide (nGet d boost_STATE = 1)
  let d := if boosted && (decide (74000 < mw) || decide (vinMv < 10000)) then boostEnd d else d
  if d.power.powerLevel = 0 then
    if boosted = false ∧ 58000 < mw then governed { d with power.powerLevel := 2, power.powerOver := d.now } was else updAutumn d
  else match low with
    | some t => if t + ms 5000 ≤ d.now then governed { d with power.powerLevel := 0 } was else updAutumn d
    | none =>
      if boosted = false ∧ d.power.powerLevel = 2 ∧ 58000 < mw ∧ d.power.powerOver + ms 1000 ≤ d.now then governed { d with power.powerLevel := 3 } was
      else updAutumn d

/-- DRAM_INIT_COMPLETE (R477). -/
def execDramInitComplete (s : State) : Res := .next (doDramInitComplete s)
/-- RTC_TICK (R596). -/
def execRtcTick (s : State) : Res := .next (doRtcTick s)
/-- VIN_VALID (R657). -/
def execVinValid (s : State) : Res := .next (doVinValid s)
/-- VIN_ABSENT (R657). -/
def execVinAbsent (s : State) : Res := .next (doVinAbsent s)
/-- CRANK_ENTRY (R658). -/
def execCrankEntry (s : State) : Res := .next (withDev s (doCrankEntry s.dev))
/-- CRANK_EXIT (R659). -/
def execCrankExit (s : State) : Res := .next (doCrankExit s)
/-- CRANK_TIMEOUT (R660). -/
def execCrankTimeout (s : State) : Res := .next (doCrankTimeout s)
/-- VIN_LOSS (R660). -/
def execVinLoss (s : State) : Res := .next (doVinLoss s)
/-- OVERVOLTAGE (R660). -/
def execOvervoltage (s : State) : Res := .next (doOvervoltage s)
/-- OVERVOLTAGE_CLEAR (R660). -/
def execOvervoltageClear (s : State) : Res := .next (withDev s (doOvervoltageClear s.dev))
/-- RESTORE_STEP_COMPLETE (R666). -/
def execRestoreStepComplete (s : State) : Res := .next (doRestoreStepComplete s)
/-- SLEEP_WINTER (R675). -/
def execSleepWinter (sess : Nat) (s : State) : Res := .next (withDev s (doSleepWinter sess s.dev))
/-- SLEEP_FROST (R675). -/
def execSleepFrost (sess : Nat) (s : State) : Res := .next (withDev s (doSleepFrost sess s.dev))
/-- WEAR_FLUSH_END (R440). -/
def execWearFlushEnd (s : State) : Res := .next (withDev s (doWearFlushEnd s.dev))
/-- BLOCK_STOP_ANSWER (R676). -/
def execBlockStopAnswer (answer : StopAnswer) (s : State) : Res := .next (doBlockStopAnswer answer s)
/-- STOP_DELAY_EXPIRY (R676). -/
def execStopDelayExpiry (s : State) : Res := .next (doStopDelayExpiry s)
/-- SLEEP_ROLLBACK_STEP (R677). -/
def execSleepRollbackStep (s : State) : Res := .next (doSleepRollbackStep s)
/-- WAKE_N (R674). -/
def execWakeN (s : State) : Res := .next (doWakeN s)
/-- RESET_N (R656). -/
def execResetN (s : State) : Res := .next (doResetN s)
/-- RESET_N_RELEASE (R674). -/
def execResetNRelease (s : State) : Res := .next (withDev s (doResetNRelease s.dev))
/-- THERMAL_SAMPLE (R679). -/
def execThermalSample (tj predicted : Int) (s : State) : Res := .next (withDev s (doThermalSample tj predicted s.dev))
/-- THERMAL_TRIP (R679). -/
def execThermalTrip (s : State) : Res := .next (doThermalTrip s)
/-- POWER_AVERAGE (R681). -/
def execPowerAverage (mw vinMv vpocMv : Nat) (s : State) : Res := .next (withDev s (doPowerAverage mw vinMv vpocMv s.dev))
/-- BOOST_REQUEST (R683). -/
def execBoostRequest (sess arg : Nat) (s : State) : Res := .next (withDev s (doBoostRequest sess arg s.dev))
/-- BOOST_END_REQUEST (R683). -/
def execBoostEndRequest (sess : Nat) (s : State) : Res := .next (withDev s (doBoostEndRequest sess s.dev))
/-- BOOST_EPISODE_END (R683). -/
def execBoostEpisodeEnd (s : State) : Res := .next (withDev s (doBoostEpisodeEnd s.dev))
/-- BOOST_LIFETIME_FUSE (R684). -/
def execBoostLifetimeFuse (s : State) : Res := .next (withDev s (doBoostLifetimeFuse s.dev))
/-- BOOST_VIN_LOW (R683). -/
def execBoostVinLow (s : State) : Res := .next (withDev s (doBoostVinLow s.dev))

end Sys2Proof.Machine
end

