-- ==== Sys2Proof/Machine/Write.lean ====
section
/-!
DEFINITION. WRITE and BULK (object dictionary chapter, R33 to R37, R64, R65, R77 to R79, R765): a written member is dispatched by its
class to the operation that a command of its own uses.
-/
namespace Sys2Proof.Machine

/-- An operation on the block alone, for a state. -/
def onDev (s : State) (x : Dev × Status × List Byte) : State × Status × List Byte := (withDev s x.1, x.2)

/-- The number of a value. -/
def numOf (v : Val) : Nat := match v with
  | .num n => n
  | .bytes _ => 0
/-- The octets of a value. -/
def octOf (v : Val) : List Byte := match v with
  | .num _ => []
  | .bytes b => b

/-- The value that octets of a type spell (R33, R34); none of another length. A record may carry a longer BLOB than a message. -/
def decodeVal (t : Ty) (limit : Nat) (b : List Byte) : Option Val :=
  match t with
  | .blob => if b.length ≤ limit then some (.bytes b) else none
  | .str => if b.length ≤ 255 then some (.bytes b) else none
  | _ => if b.length = t.len then some (.num (ofBe b)) else none

/-- The type that a write of a member carries (R35). -/
def writtenType (m : MemberRow) : Ty := if m.acc = .x then m.arg else m.typ

/-- A write of LITE_CONTROLLER (R581) names a controller whose MODE is 1, or none. -/
def liteWrite (d : Dev) (mem : Nat) (v : Val) : Dev × Status × List Byte :=
  if mem = 1 ∧ (numOf v) < 4 ∧ nGet d (can_MODE (numOf v)) ≠ 1 then (d, .state, []) else plainWrite d (mref 0x48 0x11 mem) v

/-- Classes 01, 02, 03 and 08 (R599, R670, R683, R702 to R705, R717 to R720). -/
def writeSystem (d : Dev) (r : Ref) (v : Val) : Dev × Status × List Byte :=
  let i := refInst r
  match refClass r, refMember r with
  | 0x01, 8 => eraseOp d (i - 0x100) (numOf v)
  | 0x01, 9 => verifyOp d (i - 0x100) (numOf v)
  | 0x01, 10 => activateOp d (i - 0x100) (numOf v)
  | 0x01, _ => (d, .access, [])
  | 0x02, m =>
    if i = 0 ∧ m = 2 then sleepOp d (numOf v)
    else if i = 4 then boostOp d (numOf v)
    else if 0x100 ≤ i then autumnWrite d (i - 0x100) m v
    else plainWrite d r v
  | 0x03, 3 => sourceWrite d (numOf v)
  | 0x03, 14 => setTime d (numOf v)
  | 0x03, 9 => ppsWrite d 9 v
  | 0x03, 10 => ppsWrite d 10 v
  | 0x03, _ => plainWrite d r v
  | _, 3 => revokeSlotOp d r (numOf v)
  | _, 2 => enrolOp d (octOf v)
  | _, 4 => revokeOp d (numOf v)
  | _, 6 => advanceOp d (numOf v)
  | _, 7 => attestOp d (octOf v)
  | _, 9 => liteKeyWrite d (octOf v)
  | _, _ => (d, .access, [])

/-- FREE as an item of a WRITE (R91, R164). -/
def freeMember (d : Dev) (c : Nat) (v : Val) : Dev × Status × List Byte :=
  let x := freeOp d c (numOf v)
  match x.1.stoker.migration with
  | some m =>
    if allocOf x.1 m.surf ≠ 1 then
      (abortMigration { x.1 with stoker.queue := x.1.stoker.queue.filter (fun o => decide (allocOf x.1 o = 1)) }, x.2)
    else x
  | none => x

/-- The RW and X members of the scene classes, and class 18 (R89 to R93, R105, R108, R125, R331 to R333). -/
def writeScene (d : Dev) (r : Ref) (v : Val) : Dev × Status × List Byte :=
  let i := refInst r
  let c := refClass r
  if c = 0x18 then (if refMember r = 4 then discardOp d (numOf v) else plainWrite d r v)
  else if i = 0xFFFF then (if refMember r = 1 then allocOp d c (numOf v) else freeMember d c v)
  else if c = 0x13 ∧ refMember r = 11 then realizeOp d i (numOf v)
  else if c = 0x17 ∧ refMember r = 6 then loadOp d i (numOf v) true
  else if allocOf d (refObj r) = 2 then (d, .state, [])
  else if c = 0x17 then
    let x := progImageWrite d i (octOf v)
    (x.1, x.2, [])
  else if nGet d (surf_LOCATION i) ≠ 0 then (d, .state, [])
  else plainWrite d r v

/-- The status of a write to class 20 or 21 whatever its value (R271, R274, R287): LOCK for all but FAULT_CLEAR, then the SHOWN of a
slot, or of one that names the entry. -/
def hearthGate (d : Dev) (r : Ref) : Option Status :=
  let i := refInst r
  if refClass r ≠ 0x20 ∧ refClass r ≠ 0x21 then none
  else if refClass r = 0x20 ∧ i = 0x100 ∧ refMember r = 10 then none
  else if nGet d hearth_LOCK = 1 then some .access
  else if (refClass r = 0x21 ∧ entryShown d i) ∨ (refClass r = 0x20 ∧ 0x1000 ≤ i ∧ nGet d (slot_SHOWN (i - 0x1000)) ≠ 0) then some .state
  else none

/-- Classes 20 and 21 (R271, R272, R287, R300, R303). -/
def writeHearth (m : List Host.Cell) (d : Dev) (r : Ref) (v : Val) : Dev × Status × List Byte :=
  let i := refInst r
  if refClass r = 0x21 then signalMapWrite d i (refMember r) (numOf v)
  else if 0x1000 ≤ i then slotWrite m d (i - 0x1000) (refMember r) (numOf v)
  else if i < 16 then hheadWrite m d i (refMember r) v
  else if refMember r = 10 then faultClear d (numOf v)
  else if nGet d hearth_LOCK = 1 then (d, .access, [])
  else if refMember r = 4 then plainWrite d r v
  else blinkWrite d (refMember r) (numOf v)

/-- Classes 28 to 42 (panels, lanes, video inputs, audio). -/
def writeMedia (m : List Host.Cell) (d : Dev) (r : Ref) (v : Val) : Dev × Status × List Byte :=
  let i := refInst r
  let k := refMember r
  match refClass r with
  | 0x28 => if k = 5 then ackNewOp d i (numOf v) else panelWrite m d i k v
  | 0x29 => if k = 3 then rowReadOp d i (numOf v) else gainReadOp d i (numOf v)
  | 0x30 => laneWrite d i k (numOf v)
  | 0x38 => vinWrite d i k (numOf v)
  | 0x40 =>
    if i < 0x80 then (if k = 18 then keyOp d i (numOf v) else voiceWrite d i k v)
    else if 0x200 ≤ i then waveOp d (i - 0x200) (octOf v)
    else if 0x110 ≤ i then
      (if k = 3 then startSeq d (i - 0x110) (numOf v) else if k = 4 then stopSeq d (i - 0x110) (numOf v) else seqWrite d (i - 0x110) k v)
    else plainWrite d r v
  | 0x41 =>
    if i < 48 ∧ k = 1 then gainsOp d i (octOf v) else if i < 48 ∧ k = 5 then filterOp d i (octOf v) else plainWrite d r v
  | _ => if i < 4 then tdmWrite d i k v else if i < 0x30 then avtpWrite d (i - 0x10) k v else laneAudWrite d (i - 0x30) k v

/-- Classes 48 to 58 (network, events, pins). -/
def writePorts (d : Dev) (sess : Nat) (r : Ref) (v : Val) : Dev × Status × List Byte :=
  let i := refInst r
  let k := refMember r
  match refClass r with
  | 0x48 =>
    if i < 2 then uplinkWrite d i k v
    else if i < 4 then t1sWrite d (i - 2) k v
    else if i < 8 then canWrite d (i - 4) k v
    else if i = 8 then addrWrite d k v
    else if i = 0x10 then (if k = 1 then noapEnable d v else plainWrite d r v)
    else if i = 0x11 then liteWrite d k v
    else streamWrite d (i - 0x100) k v
  | 0x50 =>
    if i < 0x400 then routingWrite d i k (numOf v)
    else if i < 0x800 then holdoffWrite d (i - 0x400) (numOf v)
    else if k = 1 then hostStateWrite d sess (numOf v)
    else ringAction d (numOf v)
  | _ =>
    if i < 5 then
      (if k = 4 then bankSet d i (numOf v) else if k = 5 then bankClear d i (numOf v) else if k = 6 then bankToggle d i (numOf v)
       else bankWrite d r v)
    else if i = 0x100 then routeWrite d k (numOf v)
    else if i < 0x300 then matcherWrite d (i - 0x200) k (numOf v)
    else hvsWrite d (i - 0x300) k v

/-- Classes 60 to 70 (movers, memory, observation). -/
def writeMovers (s : State) (r : Ref) (v : Val) : State × Status × List Byte :=
  let i := refInst r
  let k := refMember r
  let d := s.dev
  match refClass r with
  | 0x60 => onDev s (if k = 3 then postOp d i (numOf v) else if k = 4 then abortOp d i (numOf v) else chanWrite d i k v)
  | 0x61 =>
    if k = 4 then ringEnable s i (numOf v)
    else onDev s (if k = 5 then kickOp s.mem d i (numOf v) else ringWrite d i k v)
  | 0x68 => onDev s (if i < 8 then (if k = 8 then retireOp d i (numOf v) else unretireOp d i (numOf v)) else plainWrite d r v)
  | _ =>
    onDev s (if 0x1000 ≤ i then counterWrite d (i - 0x1000) k v
      else if i = 0 ∧ k = 1 then tokenWrite d (octOf v)
      else if i = 0 ∧ k = 7 then endTokenOp d (numOf v)
      else if i = 0x100 ∧ k = 1 then runOp d (numOf v)
      else if i = 0x100 ∧ k = 2 then clearOp d (numOf v)
      else if i = 0x200 ∧ k = 1 then armOp d (numOf v)
      else if i = 0x200 ∧ k = 6 then triggerOp d (numOf v)
      else plainWrite d r v)

/-- A write of an RWF member (R37, R112, R333). -/
def writeStaged (d : Dev) (r : Ref) (v : Val) : Dev × Status × List Byte :=
  if refClass r = 0x17 ∧ refMember r < 5 ∧ nGet d (prog_LOADED (refInst r)) = 0 then (d, .state, []) else stageWrite d r v

/-- A RW, W or X member written with a value in its range, by its class. -/
def writeLive (s : State) (sess : Nat) (r : Ref) (v : Val) : State × Status × List Byte :=
  let d := s.dev
  let c := refClass r
  if c ≤ 0x08 then onDev s (writeSystem d r v)
  else if c ≤ 0x18 then onDev s (writeScene d r v)
  else if c ≤ 0x21 then onDev s (writeHearth s.mem d r v)
  else if c ≤ 0x42 then onDev s (writeMedia s.mem d r v)
  else if c ≤ 0x58 then onDev s (writePorts d sess r v)
  else writeMovers s r v

/-- The members of access R that a boot configuration loads (R694): keys and MAC addresses. -/
def bootLoads (r : Ref) : Bool :=
  let i := refInst r
  let k := refMember r
  (refClass r == 8 && k == 1 && ((decide (0x10 ≤ i) && decide (i ≤ 0x17)) || (decide (0x20 ≤ i) && decide (i ≤ 0x23)))) ||
  (refClass r == 0x48 && ((i == 8 && (k == 4 || k == 5)) || ((i == 2 || i == 3) && k == 7)))

/-- A member of access R loaded from the boot configuration (R694). -/
def bootLoad (d : Dev) (r : Ref) (b : List Byte) : Dev × Status × List Byte :=
  let n := if refClass r = 8 then 97 else 6
  if b.length = n ∨ (refClass r = 8 ∧ b = []) then (addrState (bSet d r b), .ok, []) else (d, .range, [])

/-- Who writes a member: a message (or NOAP-lite), or a record of the boot configuration, the boot scene or the Hearth package. -/
inductive Writer where
  | message
  | config
  | scene
  | package
  deriving DecidableEq, Repr

/-- A member written (R31, R35 to R37, R52, R702): gate, access class, type, value, then the member's own operation. Of a WRITE of the
IMAGE of an image slot (a member for BULK) the spec gives no status: it is ACCESS (assumption log 103). -/
def memberWrite (s : State) (sess : Nat) (by' : Writer) (it : WriteItem) : State × Status × List Byte :=
  match writeGate s.dev sess it.ref with
  | some st => (s, st, [])
  | none => match rowOf it.ref with
    | none => (s, .access, [])
    | some m =>
      if m.acc = .r ∧ (by' == .config && bootLoads it.ref) = false then (s, .access, [])
      else if m.name = "IMAGE" ∧ refClass it.ref = 1 then (s, .access, [])
      else match hearthGate s.dev it.ref with
      | some st => (s, st, [])
      | none =>
      if it.typ ≠ (writtenType m).code then (s, .type, [])
      else match decodeVal (writtenType m) (if by' = .message then 1024 else 65535) it.val with
        | none => (s, .range, [])
        | some v =>
          if m.acc = .r then onDev s (bootLoad s.dev it.ref it.val)
          else if inRange { m with typ := writtenType m } v = false then (s, .range, [])
          else if m.acc = .rwf then onDev s (writeStaged s.dev it.ref v)
          else
            let x := writeLive s sess it.ref v
            onDev x.1 (actionResult it.ref (x.1.dev, x.2))

/-- The items of a WRITE in order (R65) with their part of the response (R64). An item whose result would carry the body past 1,400
octets is not executed and answers BUSY; the 4 octets of each later item are held free for it (R41, R43; assumption log 47). -/
def writeItems (sess : Nat) : Nat → List WriteItem → State → State × List Byte
  | _, [], s => (s, [])
  | size, i :: l, s =>
    let x := memberWrite s sess .message i
    let x := if 1400 < size + 4 + x.2.2.length + 4 * l.length then (s, .busy, []) else x
    let y := writeItems sess (size + 4 + x.2.2.length) l x.1
    (y.1, octets [x.2.1.code, 0] ++ beBytes 2 x.2.2.length ++ x.2.2 ++ y.2)

/-- As atTurn, for a request that also changes memory. -/
def atTurnMem (s : State) (sess seq typ n : Nat) (run : State → State) : State :=
  if serves s.dev sess = false then s
  else
    let t := takeTurn s.dev sess seq typ 0 n
    let s := if t.2.isSome then run (withDev s t.1) else withDev s t.1
    withDev s (limitCheck s.dev sess)

/-- WRITE (R52, R64, R65): what closes the sessions does so after the response (R81, R574). -/
def doWrite (sess seq : Nat) (items : List WriteItem) (s : State) : State :=
  atTurnMem s sess seq 2 items.length (fun s =>
    if countOk items.length = false then withDev s (badCount s.dev sess seq 2)
    else
      let x := writeItems sess 1 items s
      withDev x.1 (closeIfAsked (answer x.1.dev sess seq 2 (octets [items.length] ++ x.2))))

/-- The largest length of a BLOB member (R33, R34, R77). -/
def blobLimit (m : MemberRow) (r : Ref) : Nat :=
  if refClass r = 1 then slotLength ((refInst r - 0x100) / 2 + 1)
  else match m.rng with
    | .len n => n
    | .lenMax n => n
    | _ => 1024

/-- The octets that BULK changes in part: the member's, or what a member that cannot be read holds. -/
def blobHeld (d : Dev) (r : Ref) : List Byte := if r = sec_LITE_KEY then d.trust.liteKey else bGet d r

/-- The check of a BULK datagram that fails first (R765), for checks 1 to 10. R765's table has no check for a surface that is FREEING
(R93): an unleased buffer of one is written (assumption log 104). -/
def bulkCheck (d : Dev) (sess : Nat) (r : Ref) (off n : Nat) : Option Status :=
  let surf := decide (refClass r = 0x13) && decide (refMember r = 0) && decide (refInst r ≠ 0xFFFF)
  let row := rowOf r
  match writeGate d sess r with
  | some st => some st
  | none =>
    if surf then
      let i := refInst r
      let sz := nGet d (surf_SIZE i)
      if nGet d (surf_LOCATION i) = 0 then some .state
      else if n = 0 ∨ 1384 < n ∨ sz * nGet d (surf_BUFFERS i) < off + n then some .range
      else if off % 8 ≠ 0 ∨ n % 8 ≠ 0 then some .misaligned
      else if writeLeased d (nGet d (surf_ADDRESS i) + off) n then some .leased
      else none
    else match row with
      | none => some .type
      | some m =>
        if m.typ ≠ .blob then some .type
        else if m.acc ≠ .rw ∧ m.acc ≠ .w then some .access
        else if n = 0 ∨ 1384 < n ∨ blobLimit m r < off + n then some .range
        else none

/-- A BULK datagram that has passed checks 1 to 10, written to a BLOB under its member's own rules (R765). -/
def bulkBlob (s : State) (sess : Nat) (r : Ref) (off : Nat) (b : List Byte) : State × Status :=
  if refClass r = 1 then
    let x := slotBulk s.dev (refInst r - 0x100) off b
    (withDev s x.1, x.2)
  else
    let x := writeLive s sess r (.bytes (patchBytes (blobHeld s.dev r) off b))
    (x.1, x.2.1)

/-- A BULK datagram that has passed checks 1 to 10, written to a surface (R111, R472): nothing changes where a read-modify-write
fails. -/
def bulkSurface (s : State) (r : Ref) (off : Nat) (b : List Byte) : State × Status :=
  let a := nGet s.dev (surf_ADDRESS (refInst r)) + off
  if rmwFailures s.dev a b.length ≠ [] then (withDev s (failRmw s.dev a b.length 5), .state)
  else (putRange s 5 a b, .ok)

/-- BULK (R77 to R79, R765). While DRAM takes no access the datagram waits (R477), and with it the later requests of its session
(R57). -/
def doBulk (sess seq : Nat) (target : Ref) (off : Nat) (b : List Byte) (s : State) : State :=
  atTurnMem s sess seq 6 1 (fun s => match bulkCheck s.dev sess target off b.length with
    | some st => withDev s (answer s.dev sess seq 6 (octets [st.code]))
    | none =>
      let surf := refClass target = 0x13 ∧ refMember target = 0
      if surf ∧ dramServes s.dev = false then s
      else
        let x := if surf then bulkSurface s target off b else bulkBlob s sess target off b
        withDev x.1 (answer x.1.dev sess seq 6 (octets [x.2.code])))

/-- WRITE (R65). -/
def execWrite (sess seq : Nat) (items : List WriteItem) (s : State) : Res := .next (doWrite sess seq items s)
/-- BULK (R765). -/
def execBulk (sess seq : Nat) (target : Ref) (offset : Nat) (data : List Byte) (s : State) : Res :=
  .next (doBulk sess seq target offset data s)

end Sys2Proof.Machine
end

