-- ==== Sys2Proof/Machine/Lite.lean ====
section
/-!
DEFINITION. Received CAN FD frames (R21, R281) and NOAP-lite over CAN FD (object dictionary chapter, R82 to R86).
-/
namespace Sys2Proof.Machine

/-- Whether NOAP-lite reaches a member (R83, R718): the thermal status members are those of 02:0003 (assumption log 52). -/
def liteReaches (r : Ref) : Bool :=
  let k := refMember r
  refClass r == 0x20 || refClass r == 0x21 || (decide (refObj r = mref 1 0 0) && decide (k ≤ 8)) ||
  (decide (refObj r = mref 2 3 0) && decide (1 ≤ k) && decide (k ≤ 5)) || (refClass r == 0x28 && k == 1)

/-- The octets of a frame identifier that the TAG covers: U32, big-endian (assumption log 53). -/
def liteIdBytes (id : Nat) : List Byte := beBytes 4 id

/-- The TAG of the first 56 octets of a frame (R82). -/
def liteTag (d : Dev) (id : Nat) (b : List Byte) : List Byte :=
  (Config.hmacSha384 d.trust.liteKey (b ++ liteIdBytes id)).toList.take 8

/-- The first 56 octets of a response (R82, R84). -/
def liteBody (typ status counter : Nat) (r : Ref) (vtype : Nat) (val : List Byte) : List Byte :=
  let v := val.take 44
  octets [typ, status] ++ beBytes 4 counter ++ beBytes 4 r ++ octets [vtype, v.length] ++ v ++ zeros (44 - v.length)

/-- A response leaves with the device's counter (R84, R86) and the BRS of its request (R580), under the value of LITE_RSP_ID as it stands
(R81; assumption log 55). -/
def liteRespond (d : Dev) (brs : Bool) (typ : Nat) (st : Status) (r : Ref) (vtype : Nat) (val : List Byte) : Dev :=
  let n := wrapAdd 32 d.noap.liteCounter 1
  let id := nGet d lite_LITE_RSP_ID
  let b := liteBody (0x80 + typ) st.code n r vtype val
  emit { d with noap.liteCounter := n, noap.litePending := d.noap.litePending + 1 }
    (.can (nGet d lite_LITE_CONTROLLER) (nGet d lite_LITE_EXT_ID == 1) brs id (b ++ liteTag d id b))

/-- Whether a frame is addressed to NOAP-lite: it carries the request identifier (R81, R82) at a controller that can answer it (R581). -/
def liteAddressed (d : Dev) (port : Nat) (ext : Bool) (id : Nat) : Bool :=
  decide (nGet d lite_LITE_CONTROLLER = port) && nGet d (can_MODE port) == 1 && decide (nGet d lite_LITE_REQ_ID = id) && (nGet d lite_LITE_EXT_ID == 1) == ext

/-- Whether the TAG and the FRESHNESS of a request hold (R82, R84); with no key held no TAG does. -/
def liteGenuine (d : Dev) (id : Nat) (b : List Byte) : Bool :=
  d.trust.liteKey != [] && sliceOf b 56 8 == liteTag d id (b.take 56) && decide (d.noap.liteLast < ofBe (sliceOf b 2 4))

/-- A request accepted: its FRESHNESS is the last, stored after every 1,024 (R84). -/
def liteAccept (d : Dev) (fresh : Nat) : Dev :=
  let d := { d with noap.liteLast := fresh, noap.liteAccepted := d.noap.liteAccepted + 1 }
  if 1024 ≤ d.noap.liteAccepted then { d with noap.liteStored := fresh, noap.liteAccepted := 0 } else d

/-- Whether LIFECYCLE forbids an access of NOAP-lite (R702). -/
def liteForbidden (d : Dev) (r : Ref) : Bool := lifecycleForbids d 1 r

/-- A READ of NOAP-lite (R82, R83): the reach is tested before the REF is looked up (assumption log 55), and a value of type STRING or BLOB
has no form in a frame. -/
def liteRead (d : Dev) (r : Ref) : Status × Nat × List Byte :=
  if liteReaches r = false then (.access, 0, [])
  else if objExists d r && memberDefined r && liteForbidden d r then (.state, 0, [])
  else
    let x := readMember d 0 false r
    if x.2.1 = 13 ∨ x.2.1 = 14 then (.type, 0, []) else x

/-- A WRITE of NOAP-lite (R82, R83, R85): the reach, LITE_WRITE_ENABLE and LIFECYCLE are tested first, then the order of the other accesses
holds (assumption logs 55, 59). A VTYPE of STRING or BLOB is no type of a member here. -/
def liteWriteMember (s : State) (r : Ref) (vtype : Nat) (val : List Byte) : State × Status × List Byte :=
  if liteReaches r = false then (s, .access, [])
  else if nGet s.dev lite_LITE_WRITE_ENABLE = 0 then (s, .access, [])
  else if objExists s.dev r && memberDefined r && liteForbidden s.dev r then (s, .state, [])
  else memberWrite s 0 .message { ref := r, typ := if vtype = 13 ∨ vtype = 14 then 0 else vtype, val := val }

/-- The type code of a member's value, and of an action's result (R35). -/
def resultType (r : Ref) : Nat := ((rowOf r).map (fun m => m.typ.code)).getD 0

/-- A NOAP-lite frame of 64 octets executed (R82 to R86). Of a genuine frame whose TYPE is neither READ nor WRITE the spec says nothing:
it has no effect (assumption log 55). -/
def runLite (s : State) (f : LiteFrame) : State :=
  let brs := f.brs
  let id := f.id
  let b := f.octets
  let d := s.dev
  let typ := ofBe (b.take 1)
  let r := ofBe (sliceOf b 6 4)
  let vtype := ofBe (sliceOf b 10 1)
  let vlen := ofBe (sliceOf b 11 1)
  if liteGenuine d id b = false then withDev s (nInc d lite_LITE_TAG_FAIL)
  else if typ ≠ 1 ∧ typ ≠ 2 then s
  else
    let e := liteAccept d (ofBe (sliceOf b 2 4))
    if d.noap.litePending ≠ 0 then withDev s (liteRespond e brs typ .busy r 0 [])
    else if typ = 1 then
      let x := liteRead e r
      withDev s (liteRespond e brs 1 x.1 r x.2.1 x.2.2)
    else
      let x := liteWriteMember (withDev s e) r vtype (sliceOf (b.take 56) 12 vlen)
      withDev x.1 (liteRespond x.1.dev brs 2 x.2.1 r (if x.2.2 = [] then 0 else resultType r) x.2.2)

/-- Whether a NOAP request that arrived in the present cycle has still to be executed (R60). -/
def noapFirst (d : Dev) : Bool := d.noap.sessions.any (fun x => x.waiting.any (fun w => !w.started && decide (w.arrived = d.now)))

/-- A frame with the request identifier of NOAP-lite (R60, R86, R580): one that is no CAN FD frame of 64 octets is dropped and counted;
after the NOAP requests of its cycle any other is executed. A Firekeeper that does not run takes none and counts none (assumption log
55). -/
def liteFrame (s : State) (fd : Bool) (f : LiteFrame) : State :=
  if nGet s.dev dev_FK_STATE ≠ 1 then s
  else if fd = false ∨ f.octets.length ≠ 64 then withDev s (nInc s.dev lite_LITE_TAG_FAIL)
  else if noapFirst s.dev then withDev s { s.dev with noap.liteWaiting := s.dev.noap.liteWaiting ++ [f] }
  else runLite s f

/-- The NOAP-lite frames that waited for the NOAP requests of their cycle, at its end (R60). -/
def liteTurn (s : State) : State :=
  s.dev.noap.liteWaiting.foldl runLite (withDev s { s.dev with noap.liteWaiting := [] })

/-- A frame received without error by a controller on the bus (R21, R281, R579, R580, R587): it is acknowledged in normal and restricted
operation, a remote frame does nothing else, and any other feeds the signal map, and NOAP-lite where it carries its identifier. -/
def canFrame (port : Nat) (fmt : CanFormat) (id : Nat) (data : List Byte) (s : State) : State :=
  if canOn s.dev port = false then s
  else
    let d := if nGet s.dev (can_MODE port) = 2 then s.dev else emit s.dev (.canAck port)
    if fmt.remote then withDev s (canHeard d port)
    else
      let d := canSignals port fmt.ext id data (canReceived d port)
      if liteAddressed d port fmt.ext id then liteFrame (withDev s d) fmt.fd { brs := fmt.brs, id := id, octets := data } else withDev s d

/-- NOAP_LITE_RESPONSE_SENT (R86, R587): a response frame has left on the bus, which only a controller that takes part in it does. With
transmitter delay compensation the delay is measured anew: a free value (assumption log 4). -/
def doNoapLiteResponseSent (d : Dev) : Dev :=
  let c := nGet d lite_LITE_CONTROLLER
  if d.noap.litePending = 0 ∨ (c < 4 ∧ canOn d c = false) then d
  else
    let d := { d with noap.litePending := d.noap.litePending - 1 }
    if 4 ≤ c then d
    else
      let d := canSent d c
      if bitOf (nGet d (can_DATA c)) 25 then nSet (freeUsed d) (can_TDC_MEASURED c) (freeNat d 8) else d

/-- CAN_FD_FRAME_RECEIVED (R21). -/
def execCanFdFrameReceived (port : Fin 4) (fmt : CanFormat) (id : Nat) (data : List Byte) (s : State) : Res :=
  .next (canFrame port.val fmt id data s)
/-- NOAP_LITE_READ (R84): the frame of a READ request. -/
def execNoapLiteRead (port : Fin 4) (fmt : CanFormat) (id : Nat) (frame : List Byte) (s : State) : Res :=
  .next (canFrame port.val fmt id frame s)
/-- NOAP_LITE_WRITE (R85): the frame of a WRITE request. -/
def execNoapLiteWrite (port : Fin 4) (fmt : CanFormat) (id : Nat) (frame : List Byte) (s : State) : Res :=
  .next (canFrame port.val fmt id frame s)
/-- NOAP_LITE_RESPONSE_SENT (R86). -/
def execNoapLiteResponseSent (s : State) : Res := .next (withDev s (doNoapLiteResponseSent s.dev))

end Sys2Proof.Machine
end

