-- ==== Sys2Proof/Machine/Boot.lean ====
section
/-!
DEFINITION. Start-up from Kindling to START_DONE, and Firekeeper restarts (start-up chapter, R267 to R269, R699, R701, R706 to R716).
-/
namespace Sys2Proof.Machine

/-! ### Records (R706, R707) -/

/-- A record that failed, at an offset of its payload (R707). -/
def recordFailed (d : Dev) (off : Nat) : Dev :=
  let d := if nGet d dev_BOOT_RECORD_FAILS = 0 then nSet d dev_BOOT_FAIL_OFFSET off else d
  nInc d dev_BOOT_RECORD_FAILS

/-- A commit of a record list (R707): received, decided, and OK if admitted. -/
def recordCommit (s : State) (mask : Nat) : State × Status :=
  let before := nGet s.dev commitCtl_LAST_NUMBER
  let s := withDev s (commitReceived s.dev s.mem 0 0 mask false)
  let n := nGet s.dev commitCtl_LAST_NUMBER
  if n = before then (s, .busy)
  else
    let s := doCommitDecision s
    if nGet s.dev (commit_RESULT (n % 16)) = 0 then
      (withDev s { s.dev with trust.sceneCommits := if s.dev.trust.released then s.dev.trust.sceneCommits ++ [n] else s.dev.trust.sceneCommits }, .ok)
    else (s, .rejected)

/-- Data of a record written to a surface (R111, R706): the checks of BULK but its length. -/
def recordData (s : State) (r : Ref) (off : Nat) (b : List Byte) : State × Status :=
  let i := refInst r
  let sz := nGet s.dev (surf_SIZE i)
  if refClass r ≠ 0x13 ∨ refMember r ≠ 0 ∨ objExists s.dev r = false then (s, .noObject)
  else if nGet s.dev (surf_LOCATION i) = 0 then (s, .state)
  else if sz * nGet s.dev (surf_BUFFERS i) < off + b.length then (s, .range)
  else if off % 8 ≠ 0 ∨ b.length % 8 ≠ 0 then (s, .misaligned)
  else if writeLeased s.dev (nGet s.dev (surf_ADDRESS i) + off) b.length then (s, .leased)
  else bulkSurface s r off b

/-- One record of a list (R706): numbers little-endian (R697), a WRITE item as on the wire (assumption log 54). -/
def applyRecord (s : State) (w : Writer) (kind : Nat) (b : List Byte) : State × Status :=
  let r := ofLe (sliceOf b 0 4)
  match w, kind with
  | .package, 1 =>
    let t := ofBe (sliceOf b 0 4)
    if refClass t ≠ 0x20 ∧ refClass t ≠ 0x21 then (s, .access)
    else
      let x := memberWrite s 0 w { ref := t, typ := ofBe (sliceOf b 4 1), val := sliceOf b 8 (ofBe (sliceOf b 6 2)) }
      (x.1, x.2.1)
  | _, 1 =>
    let x := memberWrite s 0 w { ref := ofBe (sliceOf b 0 4), typ := ofBe (sliceOf b 4 1), val := sliceOf b 8 (ofBe (sliceOf b 6 2)) }
    (x.1, x.2.1)
  | .config, 5 => recordCommit s (ofLe (sliceOf b 0 2))
  | .scene, 5 => recordCommit s (ofLe (sliceOf b 0 2))
  | .scene, 2 =>
    if refMember r ≠ 0 then (s, .range)
    else
      let x := allocOp s.dev (refClass r) (refInst r)
      (withDev s x.1, x.2.1)
  | .scene, 3 =>
    if refClass r ≠ 0x13 ∨ objExists s.dev r = false then (s, .noObject)
    else
      let x := realizeOp s.dev (refInst r) 0
      (withDev s x.1, x.2.1)
  | .scene, 4 => recordData s r (ofLe (sliceOf b 4 8)) (b.drop 12)
  | .scene, 6 =>
    if refClass r ≠ 0x17 ∨ objExists s.dev r = false then (s, .noObject)
    else
      let x := loadOp s.dev (refInst r) 0 false
      (withDev s x.1, x.2.1)
  | _, _ => (s, .access)

/-- The records of a payload from an offset on, at most n of them (R706, R707); one that asks for every session to close has no response to
wait for (R81, R574). -/
def applyRecords (w : Writer) (p : List Byte) : Nat → Nat → State → State
  | 0, _, s => s
  | n + 1, off, s =>
    if p.length < off + 4 then s
    else
      let len := ofLe (sliceOf p (off + 2) 2)
      let x := applyRecord s w (ofLe (sliceOf p off 1)) (sliceOf p (off + 4) len)
      let e := closeIfAsked x.1.dev
      let s := withDev x.1 (if x.2 = .ok ∨ x.2 = .deferred then e else recordFailed e off)
      applyRecords w p n (off + 4 + roundUp len 4) s

/-- A record list from an offset of a payload. -/
def applyList (w : Writer) (p : List Byte) (off : Nat) (s : State) : State := applyRecords w p (p.length / 4) off s

/-- The payload of the ACTIVE image of a type, empty for none. -/
def activePayload (d : Dev) (typ : Nat) : List Byte :=
  match activeSlot d typ with
  | some i => imagePayload (slotBytes d i)
  | none => []

/-! ### Kindling (R699, R701, R710) -/

/-- The preferred slot of a type (R695, R705). -/
def preferredSlot (d : Dev) (typ : Nat) : Nat :=
  let b := 2 * (typ - 1) + 1
  if nGet d (slotImg_PREFERRED b) = 1 ∧ nGet d (slotImg_PREFERRED (b - 1)) = 0 then b else b - 1

/-- A type's images are tried, the preferred slot first (R699). -/
def tryType (d : Dev) (typ : Nat) : Dev := { d with trust.trying := mapPut d.trust.trying typ (preferredSlot d typ) }

/-- What Kindling reads of a slot's header (R719). -/
def readHeader (d : Dev) (i : Nat) : Dev :=
  let b := slotBytes d i
  if b = [] then d
  else nSets d [(slotImg_STATE i, 1), (slotImg_VERSION i, ofLe (sliceOf b 12 4)), (slotImg_SECURITY_VERSION i, ofLe (sliceOf b 10 1))]

/-- KINDLING_START (R699, R701, R710): the car-maker root key is compared with the fused digest, and the images of types 1 and 3 are
tried. -/
def doKindlingStart (d : Dev) : Dev :=
  if d.trust.kindling = false then d
  else
    let d := (List.range 8).foldl readHeader d
    let ok := d.trust.digest != [] && sha (bGet d sec_MAKER_ROOT_KEY) == d.trust.digest
    tryType (tryType { d with trust.kindling := false, trust.enrolled := ok } 1) 3

/-- The boot configuration is applied and the Firekeeper released (R656, R710, R713): lane training follows from DIRECTION, the
heads that the configuration starts hold HO_REQUEST, DRAM trains, and the images of types 2 and 4 are tried. -/
def release (s : State) : State :=
  let s := withDev s (startFirekeeper s.dev)
  let s := applyList .config (activePayload s.dev 3) 0 s
  let d := startPins s.dev
  let on := (List.range 16).filter (headRuns d)
  let d := on.foldl (fun d h => hoCauseSet (nSet d (hhead_HO_REQUEST h) 1) h 4) d
  let d := startTraining { d with trust.released := true, trust.held := headMask (fun h => on.contains h) }
  let d := nSet (tryType (tryType d 2) 4) hearth_PACKAGE_STATE 1
  withDev s (arm d tkStartDone 0 (d.trust.startAt + ms 900 - d.now))

/-- What follows once an image of a type has been chosen or none passes (R699, R714). -/
def typeDone (s : State) (typ : Nat) (found : Bool) : State :=
  let d := { s.dev with trust.trying := mapErase s.dev.trust.trying typ }
  if typ = 1 ∧ found = false then withDev s (arm d tkFkRetry 0 (ms 1000))
  else
    let d := { d with trust.concluded := addOnce d.trust.concluded typ }
    let d := if typ = 2 ∧ found = false then packageInvalid d else d
    let d := if typ = 4 ∧ found = false then { d with trust.scene := 2 } else d
    if typ = 1 ∧ d.trust.released then withDev s (startFirekeeper { d with trust.reload := none })
    else if d.trust.released = false ∧ d.trust.concluded.contains 1 ∧ d.trust.concluded.contains 3 then release (withDev s d)
    else withDev s d

/-- IMAGE_VERIFY_COMPLETE (R698, R699, R716): the slot that is being tried becomes ACTIVE, or the other one is tried. -/
def doImageVerifyComplete (slot : Fin 8) (s : State) : State :=
  let i := slot.val
  let typ := slotType i
  let d := s.dev
  if mapFind d.trust.trying typ ≠ some i then s
  else
    let d := verifySlot d i
    let other := if i % 2 = 0 then i + 1 else i - 1
    if nGet d (slotImg_STATE i) = 2 then
      let d := nSets d [(slotImg_ACTIVE i, 1), (slotImg_ACTIVE other, 0)]
      let s := typeDone (withDev s d) typ true
      if d.trust.reload.isSome ∧ typ = 1 then withDev s ((List.range 16).foldl countGap s.dev) else s
    else if i = preferredSlot d typ then withDev s { d with trust.trying := mapPut d.trust.trying typ other }
    else typeDone (withDev s d) typ false

/-- FIREKEEPER_IMAGE_RETRY (R699). -/
def doFirekeeperImageRetry (d : Dev) : Dev := if due d tkFkRetry 0 then tryType (disarm d tkFkRetry 0) 1 else d

/-! ### The Hearth package (R267 to R269, R708) -/

/-- Octets of the Hearth store (R267). -/
def storeSize : Nat := 2097152

/-- An octet of a store image as the loader writes it: the reserved bits of a descriptor are 0 (R268). -/
def storeOctet (o : Nat) (b : Byte) : Byte :=
  if o < 0x100 ∨ 0x4100 ≤ o then b
  else match o % 16 with
    | 2 => b &&& 0x3F
    | 3 => 0
    | 6 => b &&& 0x1F
    | 7 => 0
    | 10 => b &&& 0x1F
    | 11 => 0
    | _ => b

/-- Whether a symbol's descriptor passes (R269): its rows and its palette lie within the store, and DATA_CRC holds. -/
def symbolGood (m : List Host.Cell) (i : Nat) : Bool :=
  let n := symPitch m i * symHeight m i
  decide (symData m i + n ≤ storeSize) && (decide (symFormat m i ≠ 1) || decide (symPalette m i + 64 ≤ storeSize)) &&
  decide (crc32 (memReadBytes m (storeBase + symData m i) n) = storeWord m (0x10C + 16 * i))

/-- Whether the store's descriptors all pass (R269). -/
def storeGood (m : List Host.Cell) (symbols : Nat) : Bool := (List.range (min symbols 1024)).all (symbolGood m)

/-- Members whose default is loaded from the package (R271 to R273, R280, R695). -/
def packageLoads (r : Ref) : Bool :=
  let i := refInst r
  let k := refMember r
  (refClass r == 0x20 && ((i == 0x100 && k == 4) || (decide (i < 16) && (k == 9 || k == 10)) ||
    (decide (0x1000 ≤ i) && decide (k ≤ 9)))) ||
  (refClass r == 0x21 && [1, 2, 3, 4, 5, 7, 8, 10, 11, 16].contains k)

/-- The store is filled (R708). -/
def fillStore (s : State) (b : List Byte) : State :=
  let img := ((List.range b.length).zip b).map (fun x => storeOctet x.1 x.2)
  let d := nSets s.dev [(hearth_PACKAGE_VERSION, ofLe (sliceOf img 4 4)), (hearth_SYMBOLS, ofLe (sliceOf img 8 2))]
  let d := (List.range 16).foldl (fun d h => updHHead d h (fun x => { x with eccCause := false })) { d with hearth.badWords := [] }
  { s with mem := memWriteBytes s.mem storeBase img, dev := d }

/-- The package is INVALID: the members that it loads hold their fallbacks (R269, R695). -/
def dropPackage (d : Dev) : Dev :=
  let d := { d with objs := d.objs.filter (fun e => !packageLoads e.1) }
  packageInvalid ((List.range 1024).foldl (fun d i => if nGet d (slot_SHOWN i) = 0 then d else recombine d i) d)

/-- HEARTH_PACKAGE_LOADED (R269, R708). -/
def doHearthPackageLoaded (s : State) : State :=
  if nGet s.dev hearth_PACKAGE_STATE ≠ 1 ∨ (activeSlot s.dev 2).isNone then s
  else
    let p := activePayload s.dev 2
    let n := ofLe (sliceOf p 0 4)
    if storeSize < n ∨ p.length < 4 + n then withDev s (dropPackage s.dev)
    else
      let s := applyList .package p (4 + roundUp n 4) (fillStore s (sliceOf p 4 n))
      if storeGood s.mem (nGet s.dev hearth_SYMBOLS) then withDev s (updPins (nSet s.dev hearth_PACKAGE_STATE 2))
      else withDev s (dropPackage s.dev)

/-! ### Boot scene, START_DONE, restarts (R707, R714, R716) -/

/-- BOOT_SCENE_APPLY (R707, R710): once DRAM is initialised. -/
def doBootSceneApply (s : State) : State :=
  if s.dev.trust.scene ≠ 0 ∨ s.dev.trust.released = false ∨ (activeSlot s.dev 4).isNone ∨ dramServes s.dev = false ∨ nGet s.dev dev_FK_STATE ≠ 1 then s
  else
    let s := applyList .scene (activePayload s.dev 4) 0 s
    withDev s { s.dev with trust.scene := 1 }

/-- START_DONE_DEADLINE (R714): every item has concluded, or 900 ms have passed. -/
def doStartDoneDeadline (d : Dev) : Dev :=
  if d.trust.released = false ∨ nGet d dev_START_DONE = 1 then d
  else if startMissing d = 0 ∨ due d tkStartDone 0 then
    nSets (disarm d tkStartDone 0) [(dev_START_DONE, 1), (dev_START_TIME_MS, (d.now - d.trust.startAt) / 1000000), (dev_START_MISSING, startMissing d)]
  else d

/-- FIREKEEPER_RESTART (R483, R444, R716): sessions close, the staging set and a commit under evaluation go; Kindling reloads the
ACTIVE image, but not after the third restart within 10 minutes. -/
def doFirekeeperRestart (cause : Nat) (d : Dev) : Dev :=
  if nGet d dev_FK_STATE ≠ 1 then d
  else
    let d := (discardOp (closeAll (afterDecision { d with scene.evaluating := none, noap.liteWaiting := [] })) 0).1
    let d := serviceLog (nInc d dev_FK_RESTARTS) 7 0 cause
    let d := (List.range 16).foldl countGap (nSet d dev_FK_STATE 0)
    let times := d.trust.restarts.filter (fun t => decide (d.now ≤ t + ms 600000)) ++ [d.now]
    let d := { d with trust.restarts := times }
    if 3 ≤ times.length then d
    else match activeSlot d 1 with
      | some i => { d with trust.reload := some d.now, trust.trying := mapPut d.trust.trying 1 i }
      | none => arm { d with trust.reload := some d.now } tkFkRetry 0 (ms 1000)

/-- KINDLING_START (R710). -/
def execKindlingStart (s : State) : Res := .next (withDev s (doKindlingStart s.dev))
/-- IMAGE_VERIFY_COMPLETE (R699). -/
def execImageVerifyComplete (slot : Fin 8) (s : State) : Res := .next (doImageVerifyComplete slot s)
/-- FIREKEEPER_IMAGE_RETRY (R699). -/
def execFirekeeperImageRetry (s : State) : Res := .next (withDev s (doFirekeeperImageRetry s.dev))
/-- HEARTH_PACKAGE_LOADED (R269). -/
def execHearthPackageLoaded (s : State) : Res := .next (doHearthPackageLoaded s)
/-- BOOT_SCENE_APPLY (R707). -/
def execBootSceneApply (s : State) : Res := .next (doBootSceneApply s)
/-- START_DONE_DEADLINE (R714). -/
def execStartDoneDeadline (s : State) : Res := .next (withDev s (doStartDoneDeadline s.dev))
/-- FIREKEEPER_RESTART (R716). -/
def execFirekeeperRestart (cause : Nat) (s : State) : Res := .next (withDev s (doFirekeeperRestart cause s.dev))

end Sys2Proof.Machine
end

