-- ==== Sys2Proof/Machine/Dispatch.lean ====
section
/-!
DEFINITION. The dispatch: one arm for each command, each one direct call of its meaning.
-/
namespace Sys2Proof.Machine

/-- The effect of a command on everything but the queue. -/
def exec (i : Instr) (s : State) : Host.Outcome State Fault Refusal :=
  match i with
  | .registerWrite src addr v => Sys2Proof.Machine.execRegisterWrite src addr v s
  | .untimedWriteArrival dst srcs => Sys2Proof.Machine.execUntimedWriteArrival dst srcs s
  | .gatedIslandAccessResume isl => Sys2Proof.Machine.execGatedIslandAccessResume isl s
  | .gpioEdge pin level => Sys2Proof.Machine.execGpioEdge pin level s
  | .matcherDebounceExpiry m => Sys2Proof.Machine.execMatcherDebounceExpiry m s
  | .canFdFrameReceived port fmt id data => Sys2Proof.Machine.execCanFdFrameReceived port fmt id data s
  | .t1sFrameReceived port frame => Sys2Proof.Machine.execT1sFrameReceived port frame s
  | .signalTimeout n => Sys2Proof.Machine.execSignalTimeout n s
  | .noapDatagramReceived src fragment b => Sys2Proof.Machine.execNoapDatagramReceived src fragment b s
  | .hello src role slot hostKey nonce => Sys2Proof.Machine.execHello src role slot hostKey nonce s
  | .key sess seq sig => Sys2Proof.Machine.execKey sess seq sig s
  | .close sess byDevice => Sys2Proof.Machine.execClose sess byDevice s
  | .read sess seq staged refs => Sys2Proof.Machine.execRead sess seq staged refs s
  | .write sess seq items => Sys2Proof.Machine.execWrite sess seq items s
  | .commit sess seq mask => Sys2Proof.Machine.execCommit sess seq mask s
  | .commitDryRun sess seq mask => Sys2Proof.Machine.execCommitDryRun sess seq mask s
  | .subscribe sess seq items => Sys2Proof.Machine.execSubscribe sess seq items s
  | .bulk sess seq target offset data => Sys2Proof.Machine.execBulk sess seq target offset data s
  | .eventAck sess seq => Sys2Proof.Machine.execEventAck sess seq s
  | .eventSend sess => Sys2Proof.Machine.execEventSend sess s
  | .eventRepeatExpiry sess seq => Sys2Proof.Machine.execEventRepeatExpiry sess seq s
  | .periodicSubscriptionExpiry sess ref => Sys2Proof.Machine.execPeriodicSubscriptionExpiry sess ref s
  | .sessionIdleTimeout sess => Sys2Proof.Machine.execSessionIdleTimeout sess s
  | .sessionLifetimeExpiry sess => Sys2Proof.Machine.execSessionLifetimeExpiry sess s
  | .noapEnableWrite sess v => Sys2Proof.Machine.execNoapEnableWrite sess v s
  | .noapLiteRead port fmt id frame => Sys2Proof.Machine.execNoapLiteRead port fmt id frame s
  | .noapLiteWrite port fmt id frame => Sys2Proof.Machine.execNoapLiteWrite port fmt id frame s
  | .alloc sess cls arg => Sys2Proof.Machine.execAlloc sess cls arg s
  | .free sess cls arg => Sys2Proof.Machine.execFree sess cls arg s
  | .realize sess surf arg => Sys2Proof.Machine.execRealize sess surf arg s
  | .discard sess arg => Sys2Proof.Machine.execDiscard sess arg s
  | .headFrameBoundary h => Sys2Proof.Machine.execHeadFrameBoundary h s
  | .headFirstBoundary h => Sys2Proof.Machine.execHeadFirstBoundary h s
  | .lineMatch h m => Sys2Proof.Machine.execLineMatch h m s
  | .frameDone h => Sys2Proof.Machine.execFrameDone h s
  | .segmentUnderrun h p => Sys2Proof.Machine.execSegmentUnderrun h p s
  | .pipeLineCompose p => Sys2Proof.Machine.execPipeLineCompose p s
  | .raceLineRead p slot m => Sys2Proof.Machine.execRaceLineRead p slot m s
  | .residentLoadComplete p => Sys2Proof.Machine.execResidentLoadComplete p s
  | .dramReadComplete tag found => Sys2Proof.Machine.execDramReadComplete tag found s
  | .capacityStep kind unit => Sys2Proof.Machine.execCapacityStep kind unit s
  | .hearthScrub word flips => Sys2Proof.Machine.execHearthScrub word flips s
  | .hearthSlotWrite sess h slot m v => Sys2Proof.Machine.execHearthSlotWrite sess h slot m v s
  | .signalMapWrite sess n m v => Sys2Proof.Machine.execSignalMapWrite sess n m v s
  | .hoRequestWrite sess h v => Sys2Proof.Machine.execHoRequestWrite sess h v s
  | .orbitEnableWrite sess h v => Sys2Proof.Machine.execOrbitEnableWrite sess h v s
  | .faultClear sess mask => Sys2Proof.Machine.execFaultClear sess mask s
  | .mixerMismatch h => Sys2Proof.Machine.execMixerMismatch h s
  | .blinkGeneratorEdge g => Sys2Proof.Machine.execBlinkGeneratorEdge g s
  | .nop t w => Sys2Proof.Machine.execNop t w s
  | .ldA t w => Sys2Proof.Machine.execLdA t w s
  | .ldX t w => Sys2Proof.Machine.execLdX t w s
  | .ldY t w => Sys2Proof.Machine.execLdY t w s
  | .ldB t w => Sys2Proof.Machine.execLdB t w s
  | .ldH t w => Sys2Proof.Machine.execLdH t w s
  | .stA t w => Sys2Proof.Machine.execStA t w s
  | .stX t w => Sys2Proof.Machine.execStX t w s
  | .stY t w => Sys2Proof.Machine.execStY t w s
  | .stB t w => Sys2Proof.Machine.execStB t w s
  | .stH t w => Sys2Proof.Machine.execStH t w s
  | .stT t w => Sys2Proof.Machine.execStT t w s
  | .mvXa t w => Sys2Proof.Machine.execMvXa t w s
  | .mvYa t w => Sys2Proof.Machine.execMvYa t w s
  | .mvAx t w => Sys2Proof.Machine.execMvAx t w s
  | .mvAy t w => Sys2Proof.Machine.execMvAy t w s
  | .mvAl t w => Sys2Proof.Machine.execMvAl t w s
  | .mvAt t w => Sys2Proof.Machine.execMvAt t w s
  | .mvAf t w => Sys2Proof.Machine.execMvAf t w s
  | .mvFa t w => Sys2Proof.Machine.execMvFa t w s
  | .add t w => Sys2Proof.Machine.execAdd t w s
  | .addC t w => Sys2Proof.Machine.execAddC t w s
  | .sub t w => Sys2Proof.Machine.execSub t w s
  | .subC t w => Sys2Proof.Machine.execSubC t w s
  | .rsb t w => Sys2Proof.Machine.execRsb t w s
  | .and t w => Sys2Proof.Machine.execAnd t w s
  | .or t w => Sys2Proof.Machine.execOr t w s
  | .xor t w => Sys2Proof.Machine.execXor t w s
  | .cmp t w => Sys2Proof.Machine.execCmp t w s
  | .cmpX t w => Sys2Proof.Machine.execCmpX t w s
  | .cmpY t w => Sys2Proof.Machine.execCmpY t w s
  | .tst t w => Sys2Proof.Machine.execTst t w s
  | .shl t w => Sys2Proof.Machine.execShl t w s
  | .shr t w => Sys2Proof.Machine.execShr t w s
  | .sar t w => Sys2Proof.Machine.execSar t w s
  | .min t w => Sys2Proof.Machine.execMin t w s
  | .max t w => Sys2Proof.Machine.execMax t w s
  | .addX t w => Sys2Proof.Machine.execAddX t w s
  | .addY t w => Sys2Proof.Machine.execAddY t w s
  | .mul t w => Sys2Proof.Machine.execMul t w s
  | .mulq t w => Sys2Proof.Machine.execMulq t w s
  | .div t w => Sys2Proof.Machine.execDiv t w s
  | .recip t w => Sys2Proof.Machine.execRecip t w s
  | .sqrt t w => Sys2Proof.Machine.execSqrt t w s
  | .sincos t w => Sys2Proof.Machine.execSincos t w s
  | .longOpComplete t => Sys2Proof.Machine.execLongOpComplete t s
  | .jmp t w => Sys2Proof.Machine.execJmp t w s
  | .call t w => Sys2Proof.Machine.execCall t w s
  | .ret t w => Sys2Proof.Machine.execRet t w s
  | .waitpos t w => Sys2Proof.Machine.execWaitpos t w s
  | .waitposEnd t => Sys2Proof.Machine.execWaitposEnd t s
  | .waitev t w => Sys2Proof.Machine.execWaitev t w s
  | .waitevClaim t => Sys2Proof.Machine.execWaitevClaim t s
  | .eoi t w => Sys2Proof.Machine.execEoi t w s
  | .syncf t w => Sys2Proof.Machine.execSyncf t w s
  | .fence t w => Sys2Proof.Machine.execFence t w s
  | .farb t w => Sys2Proof.Machine.execFarb t w s
  | .cinv t w => Sys2Proof.Machine.execCinv t w s
  | .cinva t w => Sys2Proof.Machine.execCinva t w s
  | .ring t w => Sys2Proof.Machine.execRing t w s
  | .dmaq t w => Sys2Proof.Machine.execDmaq t w s
  | .postQueueDepart e => Sys2Proof.Machine.execPostQueueDepart e s
  | .storeDrain t => Sys2Proof.Machine.execStoreDrain t s
  | .loadDataArrival t => Sys2Proof.Machine.execLoadDataArrival t s
  | .farWriteResponse t => Sys2Proof.Machine.execFarWriteResponse t s
  | .timedWriteLanding isl => Sys2Proof.Machine.execTimedWriteLanding isl s
  | .beamPortQueueFree isl => Sys2Proof.Machine.execBeamPortQueueFree isl s
  | .clusterFault c => Sys2Proof.Machine.execClusterFault c s
  | .load sess prog arg => Sys2Proof.Machine.execLoad sess prog arg s
  | .laneDirectionWrite sess l v => Sys2Proof.Machine.execLaneDirectionWrite sess l v s
  | .laneTrainingStart l => Sys2Proof.Machine.execLaneTrainingStart l s
  | .backChannelLock l => Sys2Proof.Machine.execBackChannelLock l s
  | .presetStepExpiry l => Sys2Proof.Machine.execPresetStepExpiry l s
  | .trainingDeadlineMissed l => Sys2Proof.Machine.execTrainingDeadlineMissed l s
  | .trainingRetryExpiry l => Sys2Proof.Machine.execTrainingRetryExpiry l s
  | .laneReady l => Sys2Proof.Machine.execLaneReady l s
  | .commaLockLoss l => Sys2Proof.Machine.execCommaLockLoss l s
  | .statusTimeout l => Sys2Proof.Machine.execStatusTimeout l s
  | .packetEnd l => Sys2Proof.Machine.execPacketEnd l s
  | .queueOverflow l => Sys2Proof.Machine.execQueueOverflow l s
  | .ack l msg => Sys2Proof.Machine.execAck l msg s
  | .nak l msg => Sys2Proof.Machine.execNak l msg s
  | .retransmitTimeout l => Sys2Proof.Machine.execRetransmitTimeout l s
  | .status l msg => Sys2Proof.Machine.execStatus l msg s
  | .sigret l msg => Sys2Proof.Machine.execSigret l msg s
  | .linestat l msg => Sys2Proof.Machine.execLinestat l msg s
  | .data l msg => Sys2Proof.Machine.execData l msg s
  | .rxModePacket l pkt => Sys2Proof.Machine.execRxModePacket l pkt s
  | .rxLinePacket l pkt => Sys2Proof.Machine.execRxLinePacket l pkt s
  | .rxProtectedPacket l pkt => Sys2Proof.Machine.execRxProtectedPacket l pkt s
  | .rxAudioPacket l pkt => Sys2Proof.Machine.execRxAudioPacket l pkt s
  | .pocRampComplete l => Sys2Proof.Machine.execPocRampComplete l s
  | .pocCutoff l cause => Sys2Proof.Machine.execPocCutoff l cause s
  | .pocEnableWrite sess l v => Sys2Proof.Machine.execPocEnableWrite sess l v s
  | .idResponse h msg => Sys2Proof.Machine.execIdResponse h msg s
  | .idResponseTimeout h => Sys2Proof.Machine.execIdResponseTimeout h s
  | .readReply h msg => Sys2Proof.Machine.execReadReply h msg s
  | .committed h msg => Sys2Proof.Machine.execCommitted h msg s
  | .committedTimeout h => Sys2Proof.Machine.execCommittedTimeout h s
  | .writeRetryExpiry h => Sys2Proof.Machine.execWriteRetryExpiry h s
  | .doseSnapshot h => Sys2Proof.Machine.execDoseSnapshot h s
  | .cellRowDose h => Sys2Proof.Machine.execCellRowDose h s
  | .gainRecompute h => Sys2Proof.Machine.execGainRecompute h s
  | .orbitStep h => Sys2Proof.Machine.execOrbitStep h s
  | .operatingSecond h => Sys2Proof.Machine.execOperatingSecond h s
  | .ackNew sess h arg => Sys2Proof.Machine.execAckNew sess h arg s
  | .rowRead sess h arg => Sys2Proof.Machine.execRowRead sess h arg s
  | .gainRead sess h arg => Sys2Proof.Machine.execGainRead sess h arg s
  | .scrubRead d found => Sys2Proof.Machine.execScrubRead d found s
  | .channelRetire d cause => Sys2Proof.Machine.execChannelRetire d cause s
  | .retire sess d arg => Sys2Proof.Machine.execRetire sess d arg s
  | .unretire sess d arg => Sys2Proof.Machine.execUnretire sess d arg s
  | .dramTrainingComplete d good => Sys2Proof.Machine.execDramTrainingComplete d good s
  | .post sess n addr => Sys2Proof.Machine.execPost sess n addr s
  | .abort sess n arg => Sys2Proof.Machine.execAbort sess n arg s
  | .dmaListStart n => Sys2Proof.Machine.execDmaListStart n s
  | .dmaListComplete n => Sys2Proof.Machine.execDmaListComplete n s
  | .kick sess r arg => Sys2Proof.Machine.execKick sess r arg s
  | .ringEnableWrite sess r v => Sys2Proof.Machine.execRingEnableWrite sess r v s
  | .fill r => Sys2Proof.Machine.execFill r s
  | .copy r => Sys2Proof.Machine.execCopy r s
  | .clip r => Sys2Proof.Machine.execClip r s
  | .blitCommandComplete r => Sys2Proof.Machine.execBlitCommandComplete r s
  | .keyOn sess v => Sys2Proof.Machine.execKeyOn sess v s
  | .keyOff sess v => Sys2Proof.Machine.execKeyOff sess v s
  | .voiceDurationExpiry v => Sys2Proof.Machine.execVoiceDurationExpiry v s
  | .waveTableWrite sess t samples => Sys2Proof.Machine.execWaveTableWrite sess t samples s
  | .gainsWrite sess o gains => Sys2Proof.Machine.execGainsWrite sess o gains s
  | .filterWrite sess o coefs => Sys2Proof.Machine.execFilterWrite sess o coefs s
  | .start sess q arg => Sys2Proof.Machine.execStart sess q arg s
  | .stop sess q arg => Sys2Proof.Machine.execStop sess q arg s
  | .sequencerTick q => Sys2Proof.Machine.execSequencerTick q s
  | .tdmFrame p slots => Sys2Proof.Machine.execTdmFrame p slots s
  | .aafPduReceived u frame => Sys2Proof.Machine.execAafPduReceived u frame s
  | .talkerPduSend n => Sys2Proof.Machine.execTalkerPduSend n s
  | .uplinkLinkUp link => Sys2Proof.Machine.execUplinkLinkUp link s
  | .uplinkLinkDown u => Sys2Proof.Machine.execUplinkLinkDown u s
  | .uplinkFrameReceived u fcsOk frame => Sys2Proof.Machine.execUplinkFrameReceived u fcsOk frame s
  | .arpRequest u frame => Sys2Proof.Machine.execArpRequest u frame s
  | .icmpEcho u frame => Sys2Proof.Machine.execIcmpEcho u frame s
  | .neighbourSolicitation u frame => Sys2Proof.Machine.execNeighbourSolicitation u frame s
  | .redundancyWrite sess v => Sys2Proof.Machine.execRedundancyWrite sess v s
  | .pdelayExchange u t1 t2 t3 t4 => Sys2Proof.Machine.execPdelayExchange u t1 t2 t3 t4 s
  | .gptpSync u origin correction rx => Sys2Proof.Machine.execGptpSync u origin correction rx s
  | .gptpSyncSend u => Sys2Proof.Machine.execGptpSyncSend u s
  | .setTime sess t => Sys2Proof.Machine.execSetTime sess t s
  | .canBusOff port => Sys2Proof.Machine.execCanBusOff port s
  | .canBusOffRecovery port => Sys2Proof.Machine.execCanBusOffRecovery port s
  | .restart sess port arg => Sys2Proof.Machine.execRestart sess port arg s
  | .timerPeriod n => Sys2Proof.Machine.execTimerPeriod n s
  | .timerCompare n k => Sys2Proof.Machine.execTimerCompare n k s
  | .timerCapture n rising => Sys2Proof.Machine.execTimerCapture n rising s
  | .captureRead n => Sys2Proof.Machine.execCaptureRead n s
  | .timerEnableWrite n v => Sys2Proof.Machine.execTimerEnableWrite n v s
  | .periodWrite n v => Sys2Proof.Machine.execPeriodWrite n v s
  | .startMaskWrite c v => Sys2Proof.Machine.execStartMaskWrite c v s
  | .groupStart c => Sys2Proof.Machine.execGroupStart c s
  | .doorbell writer v => Sys2Proof.Machine.execDoorbell writer v s
  | .ringAction sess source => Sys2Proof.Machine.execRingAction sess source s
  | .hostClaim source => Sys2Proof.Machine.execHostClaim source s
  | .damperHoldExpiry g => Sys2Proof.Machine.execDamperHoldExpiry g s
  | .eventRoutingWrite sess source m v => Sys2Proof.Machine.execEventRoutingWrite sess source m v s
  | .holdoffWrite sess g v => Sys2Proof.Machine.execHoldoffWrite sess g v s
  | .hostStateWrite sess v => Sys2Proof.Machine.execHostStateWrite sess v s
  | .set sess b mask => Sys2Proof.Machine.execSet sess b mask s
  | .gpioClear sess b mask => Sys2Proof.Machine.execGpioClear sess b mask s
  | .toggle sess b mask => Sys2Proof.Machine.execToggle sess b mask s
  | .routeWrite sess m v => Sys2Proof.Machine.execRouteWrite sess m v s
  | .matcherWrite sess k m v => Sys2Proof.Machine.execMatcherWrite sess k m v s
  | .hvsThresholdCrossing k above => Sys2Proof.Machine.execHvsThresholdCrossing k above s
  | .hvsFilterExpiry k => Sys2Proof.Machine.execHvsFilterExpiry k s
  | .sleepWinter sess => Sys2Proof.Machine.execSleepWinter sess s
  | .sleepFrost sess => Sys2Proof.Machine.execSleepFrost sess s
  | .blockStopAnswer answer => Sys2Proof.Machine.execBlockStopAnswer answer s
  | .thermalSample tj predicted => Sys2Proof.Machine.execThermalSample tj predicted s
  | .powerAverage mw vinMv vpocMv => Sys2Proof.Machine.execPowerAverage mw vinMv vpocMv s
  | .boostRequest sess arg => Sys2Proof.Machine.execBoostRequest sess arg s
  | .boostEndRequest sess => Sys2Proof.Machine.execBoostEndRequest sess s
  | .imageVerifyComplete slot => Sys2Proof.Machine.execImageVerifyComplete slot s
  | .firekeeperRestart cause => Sys2Proof.Machine.execFirekeeperRestart cause s
  | .erase sess slot arg => Sys2Proof.Machine.execErase sess slot arg s
  | .verify sess slot arg => Sys2Proof.Machine.execVerify sess slot arg s
  | .activate sess slot arg => Sys2Proof.Machine.execActivate sess slot arg s
  | .enrol sess b => Sys2Proof.Machine.execEnrol sess b s
  | .revoke sess keyId => Sys2Proof.Machine.execRevoke sess keyId s
  | .revokeSlot sess ref arg => Sys2Proof.Machine.execRevokeSlot sess ref arg s
  | .advance sess arg => Sys2Proof.Machine.execAdvance sess arg s
  | .attest sess nonce => Sys2Proof.Machine.execAttest sess nonce s
  | .token sess b => Sys2Proof.Machine.execToken sess b s
  | .endToken sess arg => Sys2Proof.Machine.execEndToken sess arg s
  | .countersRun sess => Sys2Proof.Machine.execCountersRun sess s
  | .countersStop sess => Sys2Proof.Machine.execCountersStop sess s
  | .clear sess arg => Sys2Proof.Machine.execClear sess arg s
  | .arm sess arg => Sys2Proof.Machine.execArm sess arg s
  | .trigger sess arg => Sys2Proof.Machine.execTrigger sess arg s
  | .canIntegrated port => Sys2Proof.Machine.execCanIntegrated port s
  | .canProtocolError port transmitter tecAdd recAdd => Sys2Proof.Machine.execCanProtocolError port transmitter tecAdd recAdd s
  | .plcaBeaconReceived port => Sys2Proof.Machine.execPlcaBeaconReceived port s
  | .duplicateAddressDetectionDone u conflict => Sys2Proof.Machine.execDuplicateAddressDetectionDone u conflict s
  | .blockLock l => Sys2Proof.Machine.execBlockLock l s
  | .blockLockLoss l => Sys2Proof.Machine.execBlockLockLoss l s
  | .statusSend l => Sys2Proof.Machine.execStatusSend l s
  | .instructionCacheFill t => Sys2Proof.Machine.execInstructionCacheFill t s
  | .pocCooldownExpiry l => Sys2Proof.Machine.execPocCooldownExpiry l s
  | .plcaBeaconSend port => Sys2Proof.Machine.execPlcaBeaconSend port s
  | .plcaBeaconLoss port => Sys2Proof.Machine.execPlcaBeaconLoss port s
  | .onChangeWindowExpiry => Sys2Proof.Machine.execOnChangeWindowExpiry s
  | .sceneLeaseExpiry => Sys2Proof.Machine.execSceneLeaseExpiry s
  | .capacityStepUndo => Sys2Proof.Machine.execCapacityStepUndo s
  | .migrationCopyComplete => Sys2Proof.Machine.execMigrationCopyComplete s
  | .hearthPackageLoaded => Sys2Proof.Machine.execHearthPackageLoaded s
  | .keepaliveLoss => Sys2Proof.Machine.execKeepaliveLoss s
  | .summaryWrite => Sys2Proof.Machine.execSummaryWrite s
  | .dramInitComplete => Sys2Proof.Machine.execDramInitComplete s
  | .engineSample => Sys2Proof.Machine.execEngineSample s
  | .ppsEdge => Sys2Proof.Machine.execPpsEdge s
  | .syncTimeout => Sys2Proof.Machine.execSyncTimeout s
  | .ppsOutRise => Sys2Proof.Machine.execPpsOutRise s
  | .ppsOutFall => Sys2Proof.Machine.execPpsOutFall s
  | .rtcTick => Sys2Proof.Machine.execRtcTick s
  | .vinValid => Sys2Proof.Machine.execVinValid s
  | .crankEntry => Sys2Proof.Machine.execCrankEntry s
  | .crankExit => Sys2Proof.Machine.execCrankExit s
  | .crankTimeout => Sys2Proof.Machine.execCrankTimeout s
  | .vinLoss => Sys2Proof.Machine.execVinLoss s
  | .overvoltage => Sys2Proof.Machine.execOvervoltage s
  | .overvoltageClear => Sys2Proof.Machine.execOvervoltageClear s
  | .restoreStepComplete => Sys2Proof.Machine.execRestoreStepComplete s
  | .wearFlushEnd => Sys2Proof.Machine.execWearFlushEnd s
  | .stopDelayExpiry => Sys2Proof.Machine.execStopDelayExpiry s
  | .sleepRollbackStep => Sys2Proof.Machine.execSleepRollbackStep s
  | .wakeN => Sys2Proof.Machine.execWakeN s
  | .resetN => Sys2Proof.Machine.execResetN s
  | .resetNRelease => Sys2Proof.Machine.execResetNRelease s
  | .thermalTrip => Sys2Proof.Machine.execThermalTrip s
  | .boostEpisodeEnd => Sys2Proof.Machine.execBoostEpisodeEnd s
  | .boostLifetimeFuse => Sys2Proof.Machine.execBoostLifetimeFuse s
  | .kindlingStart => Sys2Proof.Machine.execKindlingStart s
  | .firekeeperImageRetry => Sys2Proof.Machine.execFirekeeperImageRetry s
  | .bootSceneApply => Sys2Proof.Machine.execBootSceneApply s
  | .startDoneDeadline => Sys2Proof.Machine.execStartDoneDeadline s
  | .tokenExpiry => Sys2Proof.Machine.execTokenExpiry s
  | .chimneyRecordSend => Sys2Proof.Machine.execChimneyRecordSend s
  | .snapIn => Sys2Proof.Machine.execSnapIn s
  | .snapOutEnd => Sys2Proof.Machine.execSnapOutEnd s
  | .vinAbsent => Sys2Proof.Machine.execVinAbsent s
  | .boostVinLow => Sys2Proof.Machine.execBoostVinLow s
  | .commitDecision => Sys2Proof.Machine.execCommitDecision s
  | .noapLiteResponseSent => Sys2Proof.Machine.execNoapLiteResponseSent s

end Sys2Proof.Machine
end

