-- ==== Sys2Proof/Machine/Tick.lean ====
section
/-!
DEFINITION. What the passing of time does of itself: one clock of 200 MHz, taken when no command waits (assumption log 3).
-/
namespace Sys2Proof.Machine

/-- The timebase advances by its increment (R589, R592); while the RTC counts it, or without supply, it does not (R596). -/
def advanceTimebase (d : Dev) : Dev :=
  if d.power.phase = .absent ∨ rtcCounts d then d
  else
    let d' := { d with tb := d.tb + d.tbInc, time.adv := d.time.adv + d.tbInc }
    if tbNs d' / 1000 = tbNs d / 1000 then d' else countSignal d' (9 * 4096) (tbNs d' / 1000 - tbNs d / 1000)

/-- One hour in nanoseconds. -/
def hourInNs : Nat := 3600 * 1000000000

/-- Operating hours (R685): each whole hour of operation counts. -/
def countHours (d : Dev) : Dev :=
  if d.power.phase ≠ .running then d
  else if d.power.hourNs + 5 < hourInNs then { d with power.hourNs := d.power.hourNs + 5 }
  else nInc { d with power.hourNs := d.power.hourNs + 5 - hourInNs } power_OPERATING_HOURS

/-- The counters of time go on by a tick of 5 ns, and members that time changes are stamped (R73). -/
def advance (d : Dev) : Dev := noteSeen (countHours (advanceTimebase { noteSeen d with now := d.now + 5 }))

/-- What goes on of itself: the current of every feed reads as it now is (R426), a cluster without a program is power-gated (R668), and a
block that the scrubber corrected is written back (R475). -/
def refreshTick (d : Dev) : Dev :=
  let d := gateIdle ((List.range 32).foldl pocSample d)
  if d.power.phase = .running ∧ dramServes d then (List.range 8).foldl finishWriteBack d else d

/-- One tick of 5 ns: what left the block has gone, the NOAP-lite frames that waited for their cycle's NOAP requests are executed (R60), time goes on, the heads send the
lines that their beams have passed, and the uplinks send. -/
def tick (s : State) : State :=
  let s := liteTurn (withDev s { s.dev with out := [] })
  withDev s (uplinksTick (scanHeads (refreshTick (followWake (advance s.dev))) s.mem))

end Sys2Proof.Machine
end

