-- ==== Sys2Proof/Safety.lean ====
section
/-!
DEFINITION. What claims are stated in terms of: a safe step, a completed command, memory in order, and a BE32 instruction that issues.
-/
namespace Sys2Proof.Machine

/-- A state whose step answers a next state. -/
def Safe (s : State) : Prop := ∃ t, step s = .next t

/-- A command that answers a next state of which P holds. -/
def Completes (c : Instr) (s : State) (P : State → Prop) : Prop := ∃ t, exec c s = .next t ∧ P t

/-- A state whose latest output is the answer to a session's action or member write: its status code and its value (R37, R41). -/
abbrev Answers (s : State) (sess status : Nat) (val : List Byte) : Prop := s.dev.out.getLast? = some (.result sess status val)

/-- A peer for which a datagram can be queued (R563, R564): its uplink has a link, and its best-effort queue has room. -/
abbrev CanSend (d : Dev) (p : Peer) : Prop :=
  noapUplink d p < 2 ∧ nGet d (upl_LINK (noapUplink d p)) = 1 ∧ (queueOf d (noapUplink d p) 3).length < 64

/-- A session whose messages are served and leave for a peer: the Firekeeper runs, the session is open, the peer's uplink takes the frame,
and no session is at its limit of messages (R53, R61, R563, R564). -/
abbrev Reachable (d : Dev) (sess : Nat) (p : Peer) : Prop :=
  serves d sess = true ∧ CanSend d p ∧
  d.noap.sessions.all (fun x => decide (x.msgsIn < 2 ^ 31) && decide (x.msgsOut + 1 < 2 ^ 31)) = true

/-- A state s followed by one in which a NOAP datagram for a peer waits last in the best-effort queue of its uplink, in an Ethernet frame of
60 octets at least (R42, R561, R563, R564). -/
abbrev SendsTo (s u : State) (p : Peer) (dgram : List Byte) : Prop :=
  let f := noapFrame s.dev (noapUplink s.dev p) p dgram
  queueOf u.dev (noapUplink s.dev p) 3 = queueOf s.dev (noapUplink s.dev p) 3 ++ [{ octets := f ++ zeros (60 - f.length), mark := .plain }]

/-- A state s followed by one in which the response to a session's request is sent to where the request came from: header, body and TAG,
of a type and SEQ (R42, R44, R48, R55). -/
abbrev Responds (s u : State) (sess typ seq : Nat) (body : List Byte) : Prop :=
  SendsTo s u (requestPeer s.dev sess seq) (noapMessage (sessionKey s.dev sess) typ 1 sess seq body)

/-- A request with a SEQ is the one that its session executes next (R57, R60): it waits, no earlier one that has not begun does, and no
lower session's request of its cycle goes before it. -/
abbrev IsNext (d : Dev) (sess seq : Nat) : Prop :=
  (nextRequest d sess).map (fun r => (r.seq, earlierSession d sess r)) = some (seq, false)

/-- The FLAGS of the request that a session executes next (R44). -/
abbrev nextFlags (d : Dev) (sess : Nat) : Nat := ((nextRequest d sess).map (·.flags)).getD 0

/-- A COMMIT that is executed, with the device as its evaluation begins (R44, R57, R68, R69): the device's own, or the session's next
request with the DRY_RUN that it carries, which then has begun. -/
abbrev CommitTurn (d e : Dev) (sess seq : Nat) (dry : Bool) : Prop :=
  (sess = 0 ∧ e = d) ∨
  (sess ≠ 0 ∧ serves d sess = true ∧ IsNext d sess seq ∧ bitOf (nextFlags d sess) 2 = dry ∧ e = beginRequest d sess seq ∧
    d.noap.sessions.all (fun x => decide (x.msgsIn < 2 ^ 31) && decide (x.msgsOut + 1 < 2 ^ 31)) = true)

/-- A state whose latest output is the answer to a session's action: its status code, and octets of the length of the action's type whose
values the spec leaves open (R37, R41; assumption log 4). -/
abbrev AnswersOpen (s : State) (sess status len : Nat) : Prop :=
  ∃ val : List Byte, val.length = len ∧ s.dev.out.getLast? = some (.result sess status val)

/-- Every allocated object is of a scene class: what an allocation can name (R87, R89). -/
abbrev SceneAlloc (d : Dev) : Prop := d.scene.alloc.all (fun e => isSceneClass (refClass e.1) && refMember e.1 == 0 && decide (e.1 < 2 ^ 32)) = true

/-- Memory in its canonical form. -/
def MemInOrder (s : State) : Prop := memWf s.mem = true

/-- The device when a thread's instruction takes its effect: what time has completed for the thread is done, and the condition
BK has used a free value, and the fetch has been corrected (R319 to R323, R342, R361, R483). -/
def atIssue (s : State) (t : Nat) (w : Be32Op) : Dev :=
  let d := readFetch (settleThread s.dev t) t
  if w.cond = 15 ∧ (threadHead d t).isSome then freeUsed d else d

/-- The thread then. -/
def threadAt (s : State) (t : Nat) (w : Be32Op) : Thread := threadOf (atIssue s t w) t

/-- An instruction that a thread is free to issue: the thread runs and has its clock, its fetch meets no fault, a housekeeping
thread's line is cached, the word in memory has an opcode, opcode and mode are legal in the thread's mode (R325, R350, R360, R368, R382, R384). -/
abbrev MayIssue (op : Nat) (s : State) (t : Nat) (w : Be32Op) : Prop :=
  let d := settleThread s.dev t
  (threadOf s.dev t).state = .running ∧ clusterRuns s.dev t = true ∧ fetchFault d t = none ∧
  (perfMode d t = true → d.beam.icache.contains (fetchLine d t) = true) ∧
  illegal s.mem d t op w = false ∧ (w.mode = 7 → perfMode d t = true)

/-- An instruction that a thread is free to issue and whose condition holds (R361). -/
abbrev Issues (op : Nat) (s : State) (t : Nat) (w : Be32Op) : Prop :=
  MayIssue op s t w ∧
  condHolds (threadOf (settleThread s.dev t) t) (bkHolds (settleThread s.dev t) t) w.cond.val = true

/-- A thread x whose instruction has left it as y: it goes on at the next word; the load it delays, and the earlier delayed load
landing unless the instruction wrote its register r (R360, R366). -/
def retired (x y : Thread) (r : Option Nat) (load : Option (Nat × Word)) : Thread :=
  landLoad { y with state := .running, pc := x.pc + 4, delayed := load, arrived := none, timedAt := none } x.delayed r

/-- A thread x that has jumped (R366, R373, R374). -/
def jumped (x y : Thread) (pc : Word) : Thread :=
  landLoad { y with state := .running, pc := pc, delayed := none, arrived := none, timedAt := none } x.delayed none

/-- Whether memory takes a write of an address: a segment on a channel that is not retired, or a cluster bank that is on (R460, R486,
R489). -/
def takesWrite (d : Dev) (a : Nat) : Bool :=
  match placeOf d a with
  | .dram _ => (match channelOfAddr d a with | some c => !chanRetired d c | none => false)
  | .bank c => bankOn d c
  | _ => false

/-- The parts of a state beside its queue and its members: memory, and every field of the device, the BE32 engines by theirs. -/
inductive Part where
  | mem
  | now
  | tb
  | tbInc
  | timers
  | dirty
  | regs
  | noap
  | islands
  | scene
  | events
  | obs
  | power
  | hearth
  | pins
  | time
  | heads
  | dram
  | stoker
  | pipes
  | threads
  | bells
  | scratch
  | dcache
  | icache
  | posts
  | lanes
  | wear
  | audio
  | movers
  | net
  | trust
  | free
  | out
  deriving DecidableEq, Repr

/-- Two states that agree on a part. -/
def samePart (s u : State) : Part → Prop
  | .mem => u.mem = s.mem
  | .now => u.dev.now = s.dev.now
  | .tb => u.dev.tb = s.dev.tb
  | .tbInc => u.dev.tbInc = s.dev.tbInc
  | .timers => u.dev.timers = s.dev.timers
  | .dirty => u.dev.dirty = s.dev.dirty
  | .regs => u.dev.regs = s.dev.regs
  | .noap => u.dev.noap = s.dev.noap
  | .islands => u.dev.islands = s.dev.islands
  | .scene => u.dev.scene = s.dev.scene
  | .events => u.dev.events = s.dev.events
  | .obs => u.dev.obs = s.dev.obs
  | .power => u.dev.power = s.dev.power
  | .hearth => u.dev.hearth = s.dev.hearth
  | .pins => u.dev.pins = s.dev.pins
  | .time => u.dev.time = s.dev.time
  | .heads => u.dev.heads = s.dev.heads
  | .dram => u.dev.dram = s.dev.dram
  | .stoker => u.dev.stoker = s.dev.stoker
  | .pipes => u.dev.pipes = s.dev.pipes
  | .threads => u.dev.beam.threads = s.dev.beam.threads
  | .bells => u.dev.beam.bells = s.dev.beam.bells
  | .scratch => u.dev.beam.scratch = s.dev.beam.scratch
  | .dcache => u.dev.beam.dcache = s.dev.beam.dcache
  | .icache => u.dev.beam.icache = s.dev.beam.icache
  | .posts => u.dev.beam.posts = s.dev.beam.posts
  | .lanes => u.dev.lanes = s.dev.lanes
  | .wear => u.dev.wear = s.dev.wear
  | .audio => u.dev.audio = s.dev.audio
  | .movers => u.dev.movers = s.dev.movers
  | .net => u.dev.net = s.dev.net
  | .trust => u.dev.trust = s.dev.trust
  | .free => u.dev.free = s.dev.free
  | .out => u.dev.out = s.dev.out

/-- Two states that differ at most in the parts ps and in the members of the classes cs or of the class and number of a member in ks. -/
def DifferOnly (ps : List Part) (cs : List Nat) (ks : List Ref) (s u : State) : Prop :=
  (∀ p, ps.contains p = false → samePart s u p) ∧
  ∀ r, cs.contains (r / 16777216) = false →
    ks.all (fun k => decide (refClass k ≠ r / 16777216) || decide (refMember k ≠ refMember r)) = true → mGet u.dev r = mGet s.dev r

/-- A command's frame: what it may change when it answers a next state. -/
def OnlyChanges (c : Instr) (ps : List Part) (cs : List Nat) (ks : List Ref) : Prop :=
  ∀ s u, exec c s = .next u → DifferOnly ps cs ks s u

/-- A command's frame over the states in which every allocated object is of a scene class. -/
def OnlyChangesScene (c : Instr) (ps : List Part) (cs : List Nat) (ks : List Ref) : Prop :=
  ∀ s u, SceneAlloc s.dev → exec c s = .next u → DifferOnly ps cs ks s u

/-- What raising an event may change (R610 to R614, R618, R626, R724 to R730): event state, Damper timers, trace, snapshot. -/
def raiseParts : List Part := [.dirty, .events, .free, .obs, .timers]

/-- The members that raising an event may change, but for those of class 70. -/
def raiseMembers : List Ref := [ev_STATE 0, ev_COUNT 0, ev_RAISED 0, ev_CLAIMS 0, damper_HOLDING 0, damper_HELD_CLAIMS 0]

/-- Every class: no claim about members. -/
def allClasses : List Nat := List.range 256

end Sys2Proof.Machine
end

