-- ==== Sys2Proof/Certificates/Slice0/Obligations.lean ====
section
/-!
DEFINITION. The statements for the provers. A name WhenX holds the condition on state and operands under which a statement says that command x completes with its own effect.
-/
namespace Sys2Proof.Machine

/-- The stores by opcode, octets and the register stored (R368). -/
def storeForms : List ((Fin 384 → Be32Op → Instr) × Nat × Nat × (Thread → Word)) :=
  [(.stA, 0x06, 4, (·.a)), (.stX, 0x07, 4, (·.x)), (.stY, 0x08, 4, (·.y)), (.stB, 0x09, 1, (·.a)), (.stH, 0x0A, 2, (·.a))]

/-- When ldA does what BeamLoadsStores says of it. -/
abbrev WhenLdA (s : State) (t : Fin 384) (w : Be32Op) (v : Word) : Prop :=
  Issues 0x01 s t.val w ∧
  (w.mode ≠ 0 → loadOperand (atIssue s t.val w) t.val w 4 = .val v)

/-- When ldX does what BeamLoadsStores says of it. -/
abbrev WhenLdX (s : State) (t : Fin 384) (w : Be32Op) (v : Word) : Prop :=
  Issues 0x02 s t.val w ∧
  (w.mode ≠ 0 → loadOperand (atIssue s t.val w) t.val w 4 = .val v)

/-- When ldY does what BeamLoadsStores says of it. -/
abbrev WhenLdY (s : State) (t : Fin 384) (w : Be32Op) (v : Word) : Prop :=
  Issues 0x03 s t.val w ∧
  (w.mode ≠ 0 → loadOperand (atIssue s t.val w) t.val w 4 = .val v)

/-- When ldB does what BeamLoadsStores says of it. -/
abbrev WhenLdB (s : State) (t : Fin 384) (w : Be32Op) (v : Word) : Prop :=
  Issues 0x04 s t.val w ∧
  loadOperand (atIssue s t.val w) t.val w 1 = .val v

/-- When ldH does what BeamLoadsStores says of it. -/
abbrev WhenLdH (s : State) (t : Fin 384) (w : Be32Op) (v : Word) : Prop :=
  Issues 0x05 s t.val w ∧
  loadOperand (atIssue s t.val w) t.val w 2 = .val v

/-- When stA does what BeamLoadsStores says of it. -/
abbrev WhenStA (s : State) (t : Fin 384) (w : Be32Op) (a : Word) : Prop :=
  Issues 0x06 s t.val w ∧
  w.mode.val ∈ [1, 2, 3, 4, 5] ∧
  viewAddr (atIssue s t.val w) t.val w = .val a ∧
  alignTo a.toNat 4 < footprint (atIssue s t.val w) t.val ∧
  (threadAt s t.val w).stores.length < 2

/-- When stX does what BeamLoadsStores says of it. -/
abbrev WhenStX (s : State) (t : Fin 384) (w : Be32Op) (a : Word) : Prop :=
  Issues 0x07 s t.val w ∧
  w.mode.val ∈ [1, 2, 3, 4, 5] ∧
  viewAddr (atIssue s t.val w) t.val w = .val a ∧
  alignTo a.toNat 4 < footprint (atIssue s t.val w) t.val ∧
  (threadAt s t.val w).stores.length < 2

/-- When stY does what BeamLoadsStores says of it. -/
abbrev WhenStY (s : State) (t : Fin 384) (w : Be32Op) (a : Word) : Prop :=
  Issues 0x08 s t.val w ∧
  w.mode.val ∈ [1, 2, 3, 4, 5] ∧
  viewAddr (atIssue s t.val w) t.val w = .val a ∧
  alignTo a.toNat 4 < footprint (atIssue s t.val w) t.val ∧
  (threadAt s t.val w).stores.length < 2

/-- When stB does what BeamLoadsStores says of it. -/
abbrev WhenStB (s : State) (t : Fin 384) (w : Be32Op) (a : Word) : Prop :=
  Issues 0x09 s t.val w ∧
  w.mode.val ∈ [1, 2, 3, 4, 5] ∧
  viewAddr (atIssue s t.val w) t.val w = .val a ∧
  alignTo a.toNat 1 < footprint (atIssue s t.val w) t.val ∧
  (threadAt s t.val w).stores.length < 2

/-- When stH does what BeamLoadsStores says of it. -/
abbrev WhenStH (s : State) (t : Fin 384) (w : Be32Op) (a : Word) : Prop :=
  Issues 0x0A s t.val w ∧
  w.mode.val ∈ [1, 2, 3, 4, 5] ∧
  viewAddr (atIssue s t.val w) t.val w = .val a ∧
  alignTo a.toNat 2 < footprint (atIssue s t.val w) t.val ∧
  (threadAt s t.val w).stores.length < 2

/-- When nop does what BeamMoves says of it. -/
abbrev WhenNop (s : State) (t : Fin 384) (w : Be32Op) : Prop :=
  Issues 0x00 s t.val w

/-- When nop does what BeamMoves says of it (Illegal). -/
abbrev WhenNopIllegal (s : State) (t : Fin 384) (w : Be32Op) (d : Dev) : Prop :=
  (threadOf s.dev t.val).state = .running ∧
  clusterRuns s.dev t.val = true ∧
  d = settleThread s.dev t.val ∧
  fetchFault d t.val = none ∧
  (perfMode d t.val = true → d.beam.icache.contains (fetchLine d t.val) = true) ∧
  illegal s.mem d t.val 0 w = true

/-- When mvXa does what BeamMoves says of it. -/
abbrev WhenMvXa (s : State) (t : Fin 384) (w : Be32Op) : Prop :=
  Issues 0x0C s t.val w

/-- When mvYa does what BeamMoves says of it. -/
abbrev WhenMvYa (s : State) (t : Fin 384) (w : Be32Op) : Prop :=
  Issues 0x0D s t.val w

/-- When mvAx does what BeamMoves says of it. -/
abbrev WhenMvAx (s : State) (t : Fin 384) (w : Be32Op) : Prop :=
  Issues 0x0E s t.val w

/-- When mvAy does what BeamMoves says of it. -/
abbrev WhenMvAy (s : State) (t : Fin 384) (w : Be32Op) : Prop :=
  Issues 0x0F s t.val w

/-- When mvAl does what BeamMoves says of it. -/
abbrev WhenMvAl (s : State) (t : Fin 384) (w : Be32Op) : Prop :=
  Issues 0x10 s t.val w ∧
  (threadAt s t.val w).longs = []

/-- When mvAt does what BeamMoves says of it. -/
abbrev WhenMvAt (s : State) (t : Fin 384) (w : Be32Op) : Prop :=
  Issues 0x11 s t.val w

/-- When mvAf does what BeamMoves says of it. -/
abbrev WhenMvAf (s : State) (t : Fin 384) (w : Be32Op) : Prop :=
  Issues 0x12 s t.val w

/-- When mvFa does what BeamMoves says of it. -/
abbrev WhenMvFa (s : State) (t : Fin 384) (w : Be32Op) : Prop :=
  Issues 0x13 s t.val w

/-- When add does what BeamArithmetic says of it. -/
abbrev WhenAdd (s : State) (t : Fin 384) (w : Be32Op) (v : Word) : Prop :=
  Issues 0x14 s t.val w ∧
  operand (atIssue s t.val w) t.val w = .val v

/-- When addC does what BeamArithmetic says of it. -/
abbrev WhenAddC (s : State) (t : Fin 384) (w : Be32Op) (v : Word) : Prop :=
  Issues 0x15 s t.val w ∧
  operand (atIssue s t.val w) t.val w = .val v

/-- When sub does what BeamArithmetic says of it. -/
abbrev WhenSub (s : State) (t : Fin 384) (w : Be32Op) (v : Word) : Prop :=
  Issues 0x16 s t.val w ∧
  operand (atIssue s t.val w) t.val w = .val v

/-- When subC does what BeamArithmetic says of it. -/
abbrev WhenSubC (s : State) (t : Fin 384) (w : Be32Op) (v : Word) : Prop :=
  Issues 0x17 s t.val w ∧
  operand (atIssue s t.val w) t.val w = .val v

/-- When rsb does what BeamArithmetic says of it. -/
abbrev WhenRsb (s : State) (t : Fin 384) (w : Be32Op) (v : Word) : Prop :=
  Issues 0x18 s t.val w ∧
  operand (atIssue s t.val w) t.val w = .val v

/-- When and does what BeamArithmetic says of it. -/
abbrev WhenAnd (s : State) (t : Fin 384) (w : Be32Op) (v : Word) : Prop :=
  Issues 0x19 s t.val w ∧
  operand (atIssue s t.val w) t.val w = .val v

/-- When or does what BeamArithmetic says of it. -/
abbrev WhenOr (s : State) (t : Fin 384) (w : Be32Op) (v : Word) : Prop :=
  Issues 0x1A s t.val w ∧
  operand (atIssue s t.val w) t.val w = .val v

/-- When xor does what BeamArithmetic says of it. -/
abbrev WhenXor (s : State) (t : Fin 384) (w : Be32Op) (v : Word) : Prop :=
  Issues 0x1B s t.val w ∧
  operand (atIssue s t.val w) t.val w = .val v

/-- When cmp does what BeamArithmetic says of it. -/
abbrev WhenCmp (s : State) (t : Fin 384) (w : Be32Op) (v : Word) : Prop :=
  Issues 0x1C s t.val w ∧
  operand (atIssue s t.val w) t.val w = .val v

/-- When cmpX does what BeamArithmetic says of it. -/
abbrev WhenCmpX (s : State) (t : Fin 384) (w : Be32Op) (v : Word) : Prop :=
  Issues 0x1D s t.val w ∧
  operand (atIssue s t.val w) t.val w = .val v

/-- When cmpY does what BeamArithmetic says of it. -/
abbrev WhenCmpY (s : State) (t : Fin 384) (w : Be32Op) (v : Word) : Prop :=
  Issues 0x1E s t.val w ∧
  operand (atIssue s t.val w) t.val w = .val v

/-- When tst does what BeamArithmetic says of it. -/
abbrev WhenTst (s : State) (t : Fin 384) (w : Be32Op) (v : Word) : Prop :=
  Issues 0x1F s t.val w ∧
  operand (atIssue s t.val w) t.val w = .val v

/-- When shl does what BeamArithmetic says of it. -/
abbrev WhenShl (s : State) (t : Fin 384) (w : Be32Op) (v : Word) : Prop :=
  Issues 0x20 s t.val w ∧
  operand (atIssue s t.val w) t.val w = .val v

/-- When shr does what BeamArithmetic says of it. -/
abbrev WhenShr (s : State) (t : Fin 384) (w : Be32Op) (v : Word) : Prop :=
  Issues 0x21 s t.val w ∧
  operand (atIssue s t.val w) t.val w = .val v

/-- When sar does what BeamArithmetic says of it. -/
abbrev WhenSar (s : State) (t : Fin 384) (w : Be32Op) (v : Word) : Prop :=
  Issues 0x22 s t.val w ∧
  operand (atIssue s t.val w) t.val w = .val v

/-- When min does what BeamArithmetic says of it. -/
abbrev WhenMin (s : State) (t : Fin 384) (w : Be32Op) (v : Word) : Prop :=
  Issues 0x23 s t.val w ∧
  operand (atIssue s t.val w) t.val w = .val v

/-- When max does what BeamArithmetic says of it. -/
abbrev WhenMax (s : State) (t : Fin 384) (w : Be32Op) (v : Word) : Prop :=
  Issues 0x24 s t.val w ∧
  operand (atIssue s t.val w) t.val w = .val v

/-- When addX does what BeamArithmetic says of it. -/
abbrev WhenAddX (s : State) (t : Fin 384) (w : Be32Op) (v : Word) : Prop :=
  Issues 0x25 s t.val w ∧
  operand (atIssue s t.val w) t.val w = .val v

/-- When addY does what BeamArithmetic says of it. -/
abbrev WhenAddY (s : State) (t : Fin 384) (w : Be32Op) (v : Word) : Prop :=
  Issues 0x26 s t.val w ∧
  operand (atIssue s t.val w) t.val w = .val v

/-- When mul does what BeamLongOperations says of it. -/
abbrev WhenMul (s : State) (t : Fin 384) (w : Be32Op) (v : Word) : Prop :=
  Issues 0x28 s t.val w ∧
  operand (atIssue s t.val w) t.val w = .val v

/-- When mulq does what BeamLongOperations says of it. -/
abbrev WhenMulq (s : State) (t : Fin 384) (w : Be32Op) (v : Word) : Prop :=
  Issues 0x29 s t.val w ∧
  operand (atIssue s t.val w) t.val w = .val v

/-- When div does what BeamLongOperations says of it. -/
abbrev WhenDiv (s : State) (t : Fin 384) (w : Be32Op) (v : Word) : Prop :=
  Issues 0x2A s t.val w ∧
  operand (atIssue s t.val w) t.val w = .val v

/-- When recip does what BeamLongOperations says of it. -/
abbrev WhenRecip (s : State) (t : Fin 384) (w : Be32Op) (v : Word) : Prop :=
  Issues 0x2B s t.val w ∧
  operand (atIssue s t.val w) t.val w = .val v

/-- When sqrt does what BeamLongOperations says of it. -/
abbrev WhenSqrt (s : State) (t : Fin 384) (w : Be32Op) (v : Word) : Prop :=
  Issues 0x2C s t.val w ∧
  operand (atIssue s t.val w) t.val w = .val v

/-- When sincos does what BeamLongOperations says of it. -/
abbrev WhenSincos (s : State) (t : Fin 384) (w : Be32Op) (v : Word) : Prop :=
  Issues 0x2D s t.val w ∧
  operand (atIssue s t.val w) t.val w = .val v

/-- When longOpComplete does what BeamLongOperations says of it. -/
abbrev WhenLongOpComplete (s : State) (t : Fin 384) (e : Nat) (r : Word) : Prop :=
  (threadOf s.dev t.val).state = .running ∧
  clusterRuns s.dev t.val = true ∧
  (threadOf s.dev t.val).longs = [(e, r)] ∧
  e ≤ nowPs s.dev

/-- The target of JMP and CALL (R373): PC-relative in words, absolute, or absolute plus X, with the low two bits cleared. -/
def jumpTarget (x : Thread) (w : Be32Op) : Word :=
  let a : Word := if w.mode = 0 then x.pc + 4 * w.operand.signExtend 32
    else if w.mode = 2 then w.operand.zeroExtend 32 else w.operand.zeroExtend 32 + x.x
  BitVec.ofNat 32 (a.toNat / 4 * 4)

/-- When jmp does what BeamControlFlow says of it. -/
abbrev WhenJmp (s : State) (t : Fin 384) (w : Be32Op) : Prop :=
  Issues 0x30 s t.val w

/-- When call does what BeamControlFlow says of it. -/
abbrev WhenCall (s : State) (t : Fin 384) (w : Be32Op) : Prop :=
  Issues 0x31 s t.val w ∧
  (threadAt s t.val w).rstack.length < 8

/-- When ret does what BeamControlFlow says of it. -/
abbrev WhenRet (s : State) (t : Fin 384) (w : Be32Op) (a : Word) (l : List Word) : Prop :=
  Issues 0x32 s t.val w ∧
  (threadAt s t.val w).rstack = a :: l

/-- The five stores: the command, its opcode, its octets and the register stored (R368). -/
def storeForm (k : Fin 5) : (Fin 384 → Be32Op → Instr) × Nat × Nat × (Thread → Word) :=
  match k with
  | 0 => (.stA, 0x06, 4, (·.a))
  | 1 => (.stX, 0x07, 4, (·.x))
  | 2 => (.stY, 0x08, 4, (·.y))
  | 3 => (.stB, 0x09, 1, (·.a))
  | 4 => (.stH, 0x0A, 2, (·.a))

/-- The address of a far-window store (R326, R364). -/
def storeAddr (k : Fin 5) (s : State) (t : Nat) (w : Be32Op) : Nat :=
  ((threadAt s t w).farBase + w.operand.toNat) % 2 ^ 40 / (storeForm k).2.2.1 * (storeForm k).2.2.1

/-- The octets that a store takes to memory. -/
def storeBytes (k : Fin 5) (s : State) (t : Nat) (w : Be32Op) : List Byte :=
  leBytes (storeForm k).2.2.1 ((storeForm k).2.2.2 (threadAt s t w)).toNat

/-- The lead of a timed write over the mirror at its issue, in pixel clocks (R344, R375). -/
def timedLead (s : State) (t : Nat) (w : Be32Op) (h : Nat) : Nat :=
  let d := atIssue s t w
  let tm := (headOf d h).timing
  let total := max 1 (tm.hTotal * tm.vTotal)
  (posPixel tm (threadAt s t w).x + total - (mirror d h).2 % total) % total

/-- When stA does what BeamFarAndPort says of it (Far). -/
abbrev WhenStAFar (s : State) (k : Fin 5) (t : Fin 384) (w : Be32Op) : Prop :=
  Issues (storeForm k).2.1 s t.val w ∧
  w.mode = 7 ∧
  farKind (atIssue s t.val w) t.val (storeAddr k s t.val w) < 2 ∧
  writeLeased (atIssue s t.val w) (storeAddr k s t.val w) (storeForm k).2.2.1 = false ∧
  rmwFailures (atIssue s t.val w) (storeAddr k s t.val w) (storeForm k).2.2.1 = [] ∧
  (atIssue s t.val w).stoker.migration = none ∧
  (List.range (storeForm k).2.2.1).all (fun i => takesWrite (atIssue s t.val w) (storeAddr k s t.val w + i)) = true

/-- When stA does what BeamFarAndPort says of it (Rejected). -/
abbrev WhenStARejected (s : State) (k : Fin 5) (t : Fin 384) (w : Be32Op) : Prop :=
  Issues (storeForm k).2.1 s t.val w ∧
  w.mode = 7 ∧
  (let d := atIssue s t.val w
   let n := (storeForm k).2.2.1
   farKind d t.val (storeAddr k s t.val w) = 2 ∨ (farKind d t.val (storeAddr k s t.val w) < 2 ∧ writeLeased d (storeAddr k s t.val w) n = true))

/-- When stA does what BeamFarAndPort says of it (Dropped). -/
abbrev WhenStADropped (s : State) (k : Fin 5) (t : Fin 384) (w : Be32Op) : Prop :=
  Issues (storeForm k).2.1 s t.val w ∧
  w.mode = 7 ∧
  farKind (atIssue s t.val w) t.val (storeAddr k s t.val w) = 5 ∧
  (threadAt s t.val w).prog ≠ 0 ∧
  allocOf (atIssue s t.val w) (threadAt s t.val w).prog ≠ 0

/-- When stA does what BeamFarAndPort says of it (Port). -/
abbrev WhenStAPort (s : State) (k : Fin 5) (t : Fin 384) (w : Be32Op) (h i off : Nat) (l : List Nat) : Prop :=
  Issues (storeForm k).2.1 s t.val w ∧
  w.mode = 6 ∧
  threadHead (atIssue s t.val w) t.val = some h ∧
  portReach (atIssue s t.val w) t.val w = (i :: l, off) ∧
  (i :: l).all (fun j => decide (12 ≤ j)) = true

/-- When stA does what BeamFarAndPort says of it (PortDropped). -/
abbrev WhenStAPortDropped (s : State) (k : Fin 5) (t : Fin 384) (w : Be32Op) (h : Nat) : Prop :=
  Issues (storeForm k).2.1 s t.val w ∧
  w.mode = 6 ∧
  threadHead (atIssue s t.val w) t.val = some h ∧
  (portReach (atIssue s t.val w) t.val w).1 = [] ∧
  (threadAt s t.val w).prog ≠ 0 ∧
  allocOf (atIssue s t.val w) (threadAt s t.val w).prog ≠ 0

/-- When stT does what BeamFarAndPort says of it. -/
abbrev WhenStT (s : State) (t : Fin 384) (w : Be32Op) (h : Nat) : Prop :=
  Issues 0x0B s t.val w ∧
  threadHead (atIssue s t.val w) t.val = some h ∧
  (portReach (atIssue s t.val w) t.val w).1 ≠ [] ∧
  (portReach (atIssue s t.val w) t.val w).1.Nodup ∧
  (threadAt s t.val w).timedAt = none ∧
  34 ≤ timedLead s t.val w h ∧
  (portReach (atIssue s t.val w) t.val w).1.all (fun i => decide ((timedOf (atIssue s t.val w) i).length < 64)) = true

/-- When stT does what BeamFarAndPort says of it (Late). -/
abbrev WhenStTLate (s : State) (t : Fin 384) (w : Be32Op) (h i off : Nat) (l : List Nat) : Prop :=
  Issues 0x0B s t.val w ∧
  threadHead (atIssue s t.val w) t.val = some h ∧
  portReach (atIssue s t.val w) t.val w = (i :: l, off) ∧
  (i :: l).all (fun j => decide (12 ≤ j)) = true ∧
  (threadAt s t.val w).timedAt = none ∧
  timedLead s t.val w h < 34

/-- When waitpos does what BeamWaitsAndCaches says of it. -/
abbrev WhenWaitpos (s : State) (t : Fin 384) (w : Be32Op) (h line col : Nat) : Prop :=
  Issues 0x33 s t.val w ∧
  threadHead (atIssue s t.val w) t.val = some h ∧
  (threadAt s t.val w).x.toNat / 2 ^ 16 % 2 ^ 14 = line ∧
  (threadAt s t.val w).x.toNat % 2 ^ 14 = col ∧
  line < (headOf (atIssue s t.val w) h).timing.vTotal ∧
  col < (headOf (atIssue s t.val w) h).timing.hTotal

/-- When waitev does what BeamWaitsAndCaches says of it. -/
abbrev WhenWaitev (s : State) (t : Fin 384) (w : Be32Op) (n : Nat) : Prop :=
  Issues 0x34 s t.val w ∧
  claimable (atIssue s t.val w) t.val = some n

/-- When waitev does what BeamWaitsAndCaches says of it (Waits). -/
abbrev WhenWaitevWaits (s : State) (t : Fin 384) (w : Be32Op) : Prop :=
  Issues 0x34 s t.val w ∧
  claimable (atIssue s t.val w) t.val = none

/-- When eoi does what BeamWaitsAndCaches says of it. -/
abbrev WhenEoi (s : State) (t : Fin 384) (w : Be32Op) (n : Nat) : Prop :=
  Issues 0x35 s t.val w ∧
  (threadAt s t.val w).a.toNat % 1024 = n ∧
  nGet (atIssue s t.val w) (ev_STATE n) = 2 ∧
  mapFind (atIssue s t.val w).events.claimant n = some (t.val + 1)

/-- When fence does what BeamWaitsAndCaches says of it. -/
abbrev WhenFence (s : State) (t : Fin 384) (w : Be32Op) : Prop :=
  Issues 0x37 s t.val w ∧
  (perfMode (atIssue s t.val w) t.val = true → (threadAt s t.val w).stores = [] ∧ (threadAt s t.val w).farStores = 0)

/-- When syncf does what BeamWaitsAndCaches says of it. -/
abbrev WhenSyncf (s : State) (t : Fin 384) (w : Be32Op) : Prop :=
  Issues 0x36 s t.val w ∧
  (perfMode (atIssue s t.val w) t.val = true → (threadAt s t.val w).stores = [] ∧ (threadAt s t.val w).farStores = 0)

/-- When farb does what BeamWaitsAndCaches says of it. -/
abbrev WhenFarb (s : State) (t : Fin 384) (w : Be32Op) (v : Word) : Prop :=
  Issues 0x38 s t.val w ∧
  (if w.mode = 0 then v = w.operand.zeroExtend 32 else operand (atIssue s t.val w) t.val w = .val v)

/-- When cinv does what BeamWaitsAndCaches says of it. -/
abbrev WhenCinv (s : State) (t : Fin 384) (w : Be32Op) : Prop :=
  Issues 0x39 s t.val w

/-- When cinva does what BeamWaitsAndCaches says of it. -/
abbrev WhenCinva (s : State) (t : Fin 384) (w : Be32Op) : Prop :=
  Issues 0x3A s t.val w

/-- When ring does what BeamWaitsAndCaches says of it. -/
abbrev WhenRing (s : State) (t : Fin 384) (w : Be32Op) : Prop :=
  Issues 0x3B s t.val w

/-- When dmaq does what BeamWaitsAndCaches says of it. -/
abbrev WhenDmaq (s : State) (t : Fin 384) (w : Be32Op) : Prop :=
  Issues 0x3C s t.val w

/-- A device in which the word that a cluster fault names is uncorrectable (R483). -/
def bankUpset (d : Dev) (c : ClusterLoss) : Dev :=
  match c.word with
  | none => d
  | some w => sramBad { d with dram.badWords := addOnce d.dram.badWords (bankWord0 + 131072 * c.cluster.val + w.val) } (8 * (bankWord0 + 131072 * c.cluster.val + w.val)) 9 0

/-- A housekeeping thread whose word load of register k through the far window waits for its data: nothing else of it is under way (R326,
R364, R369). -/
abbrev AwaitsFar (s : State) (t k o a : Nat) : Prop :=
  (threadOf s.dev t).state = .stalled (1 + k) 0 7 o ∧ clusterRuns s.dev t = true ∧ perfMode s.dev t = true ∧
  a = ((threadOf s.dev t).farBase + o % 2 ^ 19) % 2 ^ 40 / 4 * 4 ∧
  (threadOf s.dev t).longs = [] ∧ (threadOf s.dev t).stores = [] ∧ fetchFault s.dev t = none ∧
  s.dev.beam.icache.contains (fetchLine s.dev t) = true

/-- The thread after a load that has its data: it goes on, and the load lands after the next instruction (R360, R366). -/
abbrev hasLoaded (s u : State) (t k : Nat) (v : Word) : Prop :=
  (threadOf u.dev t).state = .running ∧ (threadOf u.dev t).pc = (threadOf s.dev t).pc + 4 ∧ (threadOf u.dev t).delayed = some (k, v)

/-- When storeDrain does what BeamWaitsEnd says of it. -/
abbrev WhenStoreDrain (s : State) (t : Fin 384) (e : StoreEntry) : Prop :=
  clusterRuns s.dev t.val = true ∧
  (threadOf s.dev t.val).state = .running ∧
  (threadOf s.dev t.val).stores = [e] ∧
  e.addr % 256 + e.bytes.length ≤ 256 ∧
  e.due ≤ nowPs s.dev

/-- When storeDrain does what BeamWaitsEnd says of it (Two). -/
abbrev WhenStoreDrainTwo (s : State) (t : Fin 384) (e f : StoreEntry) : Prop :=
  clusterRuns s.dev t.val = true ∧
  (threadOf s.dev t.val).state = .running ∧
  (threadOf s.dev t.val).stores = [e, f] ∧
  e.addr % 256 + e.bytes.length ≤ 256 ∧
  e.due ≤ nowPs s.dev ∧
  nowPs s.dev < f.due

/-- When loadDataArrival does what BeamWaitsEnd says of it. -/
abbrev WhenLoadDataArrival (s : State) (t : Fin 384) (k : Fin 3) (o a : Nat) : Prop :=
  AwaitsFar s t.val k.val o a ∧
  (farKind s.dev t.val a = 1 ∨ farKind s.dev t.val a = 2)

/-- When loadDataArrival does what BeamWaitsEnd says of it (Dram). -/
abbrev WhenLoadDataArrivalDram (s : State) (t : Fin 384) (k : Fin 3) (o a : Nat) : Prop :=
  AwaitsFar s t.val k.val o a ∧
  farKind s.dev t.val a = 0 ∧
  readsOf s.dev 4 t.val = 0 ∧
  dramServes s.dev = true ∧
  blockPoisoned s.dev (a / 256) = false

/-- When loadDataArrival does what BeamWaitsEnd says of it (Port). -/
abbrev WhenLoadDataArrivalPort (s : State) (t : Fin 384) (k : Fin 3) (o i off : Nat) (l : List Nat) : Prop :=
  (threadOf s.dev t.val).state = .stalled (1 + k.val) 0 6 o ∧
  clusterRuns s.dev t.val = true ∧
  perfMode s.dev t.val = false ∧
  threadHead s.dev t.val ≠ none ∧
  portReach s.dev t.val { cond := 0, mode := 6, operand := BitVec.ofNat 19 o } = (i :: l, off) ∧
  s.dev.islands.gated.contains i = false ∧
  (threadOf s.dev t.val).longs = [] ∧
  (threadOf s.dev t.val).stores = [] ∧
  fetchFault s.dev t.val = none

/-- When instructionCacheFill does what BeamWaitsEnd says of it. -/
abbrev WhenInstructionCacheFill (s : State) (t : Fin 384) : Prop :=
  (threadOf s.dev t.val).state = .stalled 0x00 0 0 0 ∧
  perfMode s.dev t.val = true ∧
  clusterRuns s.dev t.val = true ∧
  (s.dev.beam.icache.filter (fun i => decide (i / 2 ^ 16 = t.val / 4))).length < 256 ∧
  s.dev.beam.icache.contains (fetchLine s.dev t.val) = false ∧
  (threadOf s.dev t.val).longs = [] ∧
  (threadOf s.dev t.val).stores = [] ∧
  fetchFault s.dev t.val = none

/-- When instructionCacheFill does what BeamWaitsEnd says of it (Full). -/
abbrev WhenInstructionCacheFillFull (s : State) (t : Fin 384) (a b m o : Nat) : Prop :=
  (threadOf s.dev t.val).state = .stalled a b m o ∧
  perfMode s.dev t.val = true ∧
  clusterRuns s.dev t.val = false ∧
  256 ≤ (s.dev.beam.icache.filter (fun i => decide (i / 2 ^ 16 = t.val / 4))).length ∧
  s.dev.beam.icache.contains (fetchLine s.dev t.val) = false

/-- When waitposEnd does what BeamWaitsEnd says of it. -/
abbrev WhenWaitposEnd (s : State) (t : Fin 384) (f l c h : Nat) : Prop :=
  (threadOf s.dev t.val).state = .waitPos f l c ∧
  threadHead s.dev t.val = some h ∧
  ¬ (threadRaster s.dev t.val = true ∧ l * (headOf s.dev h).timing.hTotal + c = 0) ∧
  clusterRuns s.dev t.val = true ∧
  2 ≤ nGet s.dev (head_STATE h) ∧
  reached f (l * (headOf s.dev h).timing.hTotal + c) (mirrorLag s.dev h 2) = true

/-- When clusterFault does what BeamWaitsEnd says of it. -/
abbrev WhenClusterFault (s : State) : Prop :=
  s.dev.scene.evaluating.isSome = true ∧
  s.dev.stoker.next = []

/-- When clusterFault does what BeamWaitsEnd says of it (Step). -/
abbrev WhenClusterFaultStep (s : State) : Prop :=
  s.dev.scene.evaluating = none

/-- When clusterFault does what BeamWaitsEnd says of it (Code). -/
abbrev WhenClusterFaultCode (s : State) : Prop :=
  s.dev.scene.evaluating.isSome = true

/-- A raster thread whose ST.T through the beam port waits: nothing else of it is under way (R347). -/
abbrev AwaitsQueue (s : State) (t o : Nat) : Prop :=
  portWaiters s.dev = [t] ∧ (threadOf s.dev t).state = .stalled 0x0B 0 6 o ∧ clusterRuns s.dev t = true ∧
  (threadOf s.dev t).longs = [] ∧ (threadOf s.dev t).stores = [] ∧ fetchFault s.dev t = none ∧ perfMode s.dev t = false

/-- When farWriteResponse does what BeamQueuesAndClaims says of it. -/
abbrev WhenFarWriteResponse (s : State) (t : Fin 384) : Prop :=
  0 < (threadOf s.dev t.val).farStores ∧
  bellUnderWay s.dev t.val = false ∧
  s.dev.beam.bells = [] ∧
  (threadOf s.dev t.val).state = .running

/-- When farWriteResponse does what BeamQueuesAndClaims says of it (Bell). -/
abbrev WhenFarWriteResponseBell (s : State) (t : Fin 384) (b : Bell) : Prop :=
  0 < (threadOf s.dev t.val).farStores ∧
  bellUnderWay s.dev t.val = false ∧
  s.dev.beam.bells = [b] ∧
  b.thread = t.val ∧
  b.need = 1 ∧
  (threadOf s.dev t.val).state = .running

/-- When waitevClaim does what BeamQueuesAndClaims says of it. -/
abbrev WhenWaitevClaim (s : State) (t : Fin 384) (n : Nat) : Prop :=
  (threadOf s.dev t.val).state = .waitEv ∧
  claimable s.dev t.val = some n ∧
  clusterRuns s.dev t.val = true

/-- When postQueueDepart does what BeamQueuesAndClaims says of it. -/
abbrev WhenPostQueueDepart (s : State) (e : Fin 96) (p : Post) (l : List Post) (n : Fin 32) : Prop :=
  mapGet s.dev.beam.posts e.val [] = p :: l ∧
  p.need = 0 ∧
  clusterRuns s.dev (4 * e.val) = true ∧
  p.channel = some n.val ∧
  nGet s.dev (dma_OWNER n.val) = p.prog ∧
  (chanOf s.dev n.val).queue.length < 8 ∧
  blockStopped s.dev 5 = false

/-- When postQueueDepart does what BeamQueuesAndClaims says of it (Foreign). -/
abbrev WhenPostQueueDepartForeign (s : State) (e : Fin 96) (p : Post) (l : List Post) (n : Fin 32) : Prop :=
  mapGet s.dev.beam.posts e.val [] = p :: l ∧
  p.need = 0 ∧
  clusterRuns s.dev (4 * e.val) = true ∧
  p.channel = some n.val ∧
  nGet s.dev (dma_OWNER n.val) ≠ p.prog

/-- When postQueueDepart does what BeamQueuesAndClaims says of it (Rings). -/
abbrev WhenPostQueueDepartRings (s : State) (e : Fin 96) (p : Post) (l : List Post) : Prop :=
  mapGet s.dev.beam.posts e.val [] = p :: l ∧
  p.need = 0 ∧
  clusterRuns s.dev (4 * e.val) = true ∧
  p.channel = none

/-- When timedWriteLanding does what BeamQueuesAndClaims says of it. -/
abbrev WhenTimedWriteLanding (s : State) (isl : Fin 105) (h : Fin 16) (w : TimedWrite) : Prop :=
  isl.val = 44 + h.val ∧
  timedOf s.dev isl.val = [w] ∧
  s.dev.islands.gated.contains isl.val = false ∧
  2 ≤ nGet s.dev (head_STATE h.val) ∧
  reached w.frame (w.line * (headOf s.dev h.val).timing.hTotal + w.col) (mirrorLag s.dev h.val 0) = true ∧
  w.off = 0x40

/-- When timedWriteLanding does what BeamQueuesAndClaims says of it (Pipe). -/
abbrev WhenTimedWriteLandingPipe (s : State) (isl : Fin 105) (p : Fin 32) (h : Nat) (w : TimedWrite) : Prop :=
  isl.val = 12 + p.val ∧
  headOfPipe s.dev p.val = some h ∧
  timedOf s.dev isl.val = [w] ∧
  s.dev.islands.gated.contains isl.val = false ∧
  2 ≤ nGet s.dev (head_STATE h) ∧
  reached w.frame (w.line * (headOf s.dev h).timing.hTotal + w.col) (mirrorLag s.dev h 0) = true

/-- When beamPortQueueFree does what BeamQueuesAndClaims says of it. -/
abbrev WhenBeamPortQueueFree (s : State) (isl : Fin 105) (t : Fin 384) (o f l c h i off : Nat) : Prop :=
  (timedOf s.dev isl.val).length < 64 ∧
  AwaitsQueue s t.val o ∧
  threadHead s.dev t.val = some h ∧
  portReach s.dev t.val { cond := 0, mode := 6, operand := BitVec.ofNat 19 o } = ([i], off) ∧
  (timedOf s.dev i).length < 64 ∧
  (threadOf s.dev t.val).timedAt = some (f, l, c) ∧
  reached f (l * (headOf s.dev h).timing.hTotal + c) (mirrorLag s.dev h 0) = false

/-- When beamPortQueueFree does what BeamQueuesAndClaims says of it (Dropped). -/
abbrev WhenBeamPortQueueFreeDropped (s : State) (isl : Fin 105) (t : Fin 384) (o : Nat) : Prop :=
  (timedOf s.dev isl.val).length < 64 ∧
  AwaitsQueue s t.val o ∧
  threadHead s.dev t.val ≠ none ∧
  (portReach s.dev t.val { cond := 0, mode := 6, operand := BitVec.ofNat 19 o }).1 = []

/-- When registerWrite does what RegisterCrossings says of it. -/
abbrev WhenRegisterWrite (s : State) (src : Fin 105) (addr i off : Nat) : Prop :=
  placeOf s.dev addr = .periph i off ∧
  reaches src.val i off = true ∧
  src.val ≠ islandOf i

/-- When registerWrite does what RegisterCrossings says of it (Unmapped). -/
abbrev WhenRegisterWriteUnmapped (s : State) (addr : Nat) : Prop :=
  placeOf s.dev addr = .none

/-- When untimedWriteArrival does what RegisterCrossings says of it. -/
abbrev WhenUntimedWriteArrival (s : State) (h : Fin 16) (src : Fin 105) (dst : Fin 105) (w : RegWrite) (l : List RegWrite) : Prop :=
  dst.val = 44 + h.val ∧
  takeCrossing dst.val src.val s.dev.islands.crossing = some (w, l) ∧
  w.dst = dst.val ∧
  w.addr = 0x40 ∧
  s.dev.islands.off.contains dst.val = false ∧
  s.dev.islands.gated.contains dst.val = false

/-- When untimedWriteArrival does what RegisterCrossings says of it (Off). -/
abbrev WhenUntimedWriteArrivalOff (s : State) (src : Fin 105) (dst : Fin 105) (w : RegWrite) (l : List RegWrite) : Prop :=
  takeCrossing dst.val src.val s.dev.islands.crossing = some (w, l) ∧
  w.dst = dst.val ∧
  s.dev.islands.off.contains dst.val = true

/-- When gatedIslandAccessResume does what RegisterCrossings says of it. -/
abbrev WhenGatedIslandAccessResume (s : State) (isl : Fin 105) : Prop :=
  s.dev.islands.gated.contains isl.val = true ∧
  (s.dev.islands.waiting.all (fun w => decide (w.dst ≠ isl.val ∨ (12 ≤ w.dst ∧ w.dst < 60))) = true)

/-- When doorbell does what EventsAndDoorbells says of it. -/
abbrev WhenDoorbell (s : State) (v : Word) (n a : Nat) : Prop :=
  n = v.toNat % 1024 ∧
  960 ≤ n ∧
  (a = if v.toNat / 2 ^ 16 % 256 = 0 then 1 else v.toNat / 2 ^ 16 % 256) ∧
  nGet s.dev (ev_STATE n) ≠ 2 ∧
  nGet s.dev (ev_TARGET n) ≠ 2

/-- When doorbell does what EventsAndDoorbells says of it (Rejected). -/
abbrev WhenDoorbellRejected (v : Word) : Prop :=
  v.toNat % 1024 < 816 ∨ (832 ≤ v.toNat % 1024 ∧ v.toNat % 1024 < 960)

/-- When ringAction does what EventsAndDoorbells says of it. -/
abbrev WhenRingAction (s : State) (sess n : Nat) : Prop :=
  writeGate s.dev sess evCtl_RING = none ∧
  960 ≤ n ∧
  n ≤ 1023 ∧
  nGet s.dev (ev_STATE n) ≠ 2 ∧
  nGet s.dev (ev_TARGET n) ≠ 2

/-- When ringAction does what EventsAndDoorbells says of it (Taken). -/
abbrev WhenRingActionTaken (s : State) (sess n : Nat) : Prop :=
  writeGate s.dev sess evCtl_RING = none ∧
  960 ≤ n ∧
  n ≤ 1023 ∧
  nGet s.dev (ev_STATE n) ≠ 2 ∧
  nGet s.dev (ev_TARGET n) = 2 ∧
  nGet s.dev (damper_HOLDING (n / 16)) = 0 ∧
  nGet s.dev dev_FK_STATE = 1

/-- When hostClaim does what EventsAndDoorbells says of it. -/
abbrev WhenHostClaim (s : State) (source : Fin 1024) (c : Nat) : Prop :=
  hostClaimable s.dev source.val = true ∧
  controllerOf s.dev = some c ∧
  controllerFull s.dev = false

/-- When damperHoldExpiry does what EventsAndDoorbells says of it. -/
abbrev WhenDamperHoldExpiry (s : State) (g : Fin 64) : Prop :=
  due s.dev tkDamper g.val = true ∧
  (List.range 16).all (fun k => decide (nGet s.dev (ev_TARGET (16 * g.val + k)) ≠ 2)) = true

/-- When eventRoutingWrite does what EventsAndDoorbells says of it. -/
abbrev WhenEventRoutingWrite (s : State) (sess : Nat) (source : Fin 1024) (m v : Nat) : Prop :=
  writeGate s.dev sess (mref 0x50 source.val m) = none ∧
  nGet s.dev (ev_STATE source.val) ≠ 2 ∧
  ((m = 1 ∧ v ≤ 3) ∨ (m = 3 ∧ v ≤ 1) ∨ (m = 2 ∧ v = 0) ∨
   (m = 2 ∧ refClass v = 0x17 ∧ refMember v = 0 ∧ v < 2 ^ 32 ∧ refInst v < 1024 ∧ allocOf s.dev v ≠ 0 ∧ nGet s.dev (prog_LOADED (refInst v)) ≠ 0 ∧ nGet s.dev (prog_KIND (refInst v)) ≠ 0))

/-- When holdoffWrite does what EventsAndDoorbells says of it. -/
abbrev WhenHoldoffWrite (s : State) (sess : Nat) (g : Fin 64) (v : Nat) : Prop :=
  writeGate s.dev sess (damper_HOLDOFF_US g.val) = none ∧
  v < 65536

/-- When hostStateWrite does what EventsAndDoorbells says of it. -/
abbrev WhenHostStateWrite (s : State) (sess v : Nat) : Prop :=
  writeGate s.dev sess evCtl_HOST_STATE = none ∧
  isController s.dev sess = true ∧
  v ≤ 1

/-- When gpioEdge does what PinsAndMatchers says of it. -/
abbrev WhenGpioEdge (s : State) (pin : Fin 160) : Prop :=
  s.dev.pins.asleep = false ∧
  mapGet s.dev.pins.latchEnable pin.val 0 = 0

/-- When matcherDebounceExpiry does what PinsAndMatchers says of it. -/
abbrev WhenMatcherDebounceExpiry (s : State) (m : Fin 32) : Prop :=
  due s.dev tkMatcher m.val = true ∧
  mapGet s.dev.pins.matchResult m.val 0 ≠ nGet s.dev (matcher_OUTPUT m.val)

/-- When set does what PinsAndMatchers says of it. -/
abbrev WhenSet (s : State) (sess : Nat) (b : Fin 5) (mask : Nat) : Prop :=
  writeGate s.dev sess (bank_SET b.val) = none ∧
  mask < 2 ^ 32

/-- When gpioClear does what PinsAndMatchers says of it. -/
abbrev WhenGpioClear (s : State) (sess : Nat) (b : Fin 5) (mask : Nat) : Prop :=
  writeGate s.dev sess (bank_CLEAR b.val) = none ∧
  mask < 2 ^ 32

/-- When toggle does what PinsAndMatchers says of it. -/
abbrev WhenToggle (s : State) (sess : Nat) (b : Fin 5) (mask : Nat) : Prop :=
  writeGate s.dev sess (bank_TOGGLE b.val) = none ∧
  mask < 2 ^ 32

/-- When routeWrite does what PinsAndMatchers says of it. -/
abbrev WhenRouteWrite (s : State) (sess m v : Nat) : Prop :=
  writeGate s.dev sess (mref 0x58 0x100 m) = none ∧
  1 ≤ m ∧
  m < 256 ∧
  (rowOf (mref 0x58 0x100 m)).any (fun row => inRange row (.num v)) = true ∧
  (m = 1 → (List.range 4).all (fun c => decide (nGet s.dev (can_MODE c) = 0)) = true) ∧
  (m = 2 → (List.range 4).all (fun p => decide (nGet s.dev (tdm_ENABLE p) ≠ 1)) = true)

/-- When matcherWrite does what PinsAndMatchers says of it. -/
abbrev WhenMatcherWrite (s : State) (sess : Nat) (k : Fin 32) (m v : Nat) : Prop :=
  writeGate s.dev sess (mref 0x58 (0x200 + k.val) m) = none ∧
  m < 256 ∧
  (rowOf (mref 0x58 (0x200 + k.val) m)).any (fun row => decide (row.acc = .rw) && inRange row (.num v)) = true ∧
  nGet s.dev hearth_LOCK ≠ 1 ∧
  (entriesOf s.dev 2 k.val).any (entryShown s.dev) = false ∧
  (m = 2 → patternUnused s.dev k.val v = false) ∧
  m ≠ refMember (matcher_OUTPUT 0) ∧
  m ≠ refMember (matcher_CHANGES 0)

/-- When hvsThresholdCrossing does what PinsAndMatchers says of it. -/
abbrev WhenHvsThresholdCrossing (s : State) (k : Fin 8) (above : Bool) (v : Nat) : Prop :=
  mapGet s.dev.pins.hvsCompare k.val 0 ≠ above.toNat ∧
  s.dev.pins.asleep = false ∧
  nGet s.dev (hvs_FILTER_US k.val) = 0 ∧
  (v = if nGet s.dev (hvs_POLARITY k.val) = 0 then above.toNat else 1 - above.toNat)

/-- When hvsThresholdCrossing does what PinsAndMatchers says of it (Filtered). -/
abbrev WhenHvsThresholdCrossingFiltered (s : State) (k : Fin 8) (above : Bool) (v : Nat) : Prop :=
  mapGet s.dev.pins.hvsCompare k.val 0 ≠ above.toNat ∧
  s.dev.pins.asleep = false ∧
  nGet s.dev (hvs_FILTER_US k.val) ≠ 0 ∧
  (v = if nGet s.dev (hvs_POLARITY k.val) = 0 then above.toNat else 1 - above.toNat) ∧
  v ≠ nGet s.dev (hvs_LEVEL k.val)

/-- When hvsThresholdCrossing does what PinsAndMatchers says of it (Same). -/
abbrev WhenHvsThresholdCrossingSame (s : State) (k : Fin 8) (above : Bool) : Prop :=
  mapGet s.dev.pins.hvsCompare k.val 0 = above.toNat

/-- When hvsFilterExpiry does what PinsAndMatchers says of it. -/
abbrev WhenHvsFilterExpiry (s : State) (k : Fin 8) : Prop :=
  due s.dev tkHvs k.val = true

/-- When signalTimeout does what SignalsAndFieldbuses says of it. -/
abbrev WhenSignalTimeout (s : State) (n : Fin 256) : Prop :=
  due s.dev tkSignal n.val = true

/-- When t1sFrameReceived does what SignalsAndFieldbuses says of it. -/
abbrev WhenT1sFrameReceived (s : State) (port : Fin 2) (frame : List Byte) : Prop :=
  t1sOn s.dev port.val = true ∧
  fcsGood frame = true ∧
  t1sTakes s.dev port.val (sliceOf frame 0 6) = true ∧
  22 ≤ frame.length

/-- When t1sFrameReceived does what SignalsAndFieldbuses says of it (Error). -/
abbrev WhenT1sFrameReceivedError (s : State) (port : Fin 2) (frame : List Byte) : Prop :=
  t1sOn s.dev port.val = true ∧
  fcsGood frame = false

/-- When canBusOff does what SignalsAndFieldbuses says of it. -/
abbrev WhenCanBusOff (s : State) (port : Fin 4) : Prop :=
  canOn s.dev port.val = true ∧
  canCounts s.dev port.val = true

/-- When canBusOffRecovery does what SignalsAndFieldbuses says of it. -/
abbrev WhenCanBusOffRecovery (s : State) (port : Fin 4) : Prop :=
  nGet s.dev (can_STATE port.val) = 4 ∧
  nGet s.dev (can_AUTO_RECOVER port.val) = 1

/-- When restart does what SignalsAndFieldbuses says of it. -/
abbrev WhenRestart (s : State) (sess : Nat) (port : Fin 4) : Prop :=
  writeGate s.dev sess (can_RESTART port.val) = none ∧
  nGet s.dev (can_STATE port.val) = 4

/-- When canIntegrated does what SignalsAndFieldbuses says of it. -/
abbrev WhenCanIntegrated (s : State) (port : Fin 4) : Prop :=
  nGet s.dev (can_STATE port.val) = 1 ∧
  networkRuns s.dev = true

/-- When canProtocolError does what SignalsAndFieldbuses says of it. -/
abbrev WhenCanProtocolError (s : State) (port : Fin 4) (transmitter : Bool) (tecAdd recAdd t r : Nat) : Prop :=
  canOn s.dev port.val = true ∧
  canCounts s.dev port.val = true ∧
  (t = nGet s.dev (can_TEC port.val) + if transmitter then tecAdd else 0) ∧
  (r = nGet s.dev (can_REC port.val) + if transmitter then 0 else recAdd)

/-- When canProtocolError does what SignalsAndFieldbuses says of it (Listening). -/
abbrev WhenCanProtocolErrorListening (s : State) (port : Fin 4) : Prop :=
  canOn s.dev port.val = true ∧
  canCounts s.dev port.val = false

/-- When plcaBeaconSend does what SignalsAndFieldbuses says of it. -/
abbrev WhenPlcaBeaconSend (s : State) (port : Fin 2) : Prop :=
  t1sOn s.dev port.val = true ∧
  nGet s.dev (t1s_PLCA_ENABLE port.val) = 1 ∧
  nGet s.dev (t1s_NODE_ID port.val) = 0

/-- When plcaBeaconReceived does what SignalsAndFieldbuses says of it. -/
abbrev WhenPlcaBeaconReceived (s : State) (port : Fin 2) : Prop :=
  t1sOn s.dev port.val = true ∧
  nGet s.dev (t1s_PLCA_ENABLE port.val) = 1 ∧
  nGet s.dev (t1s_NODE_ID port.val) ≠ 0

/-- When plcaBeaconLoss does what SignalsAndFieldbuses says of it. -/
abbrev WhenPlcaBeaconLoss (s : State) (port : Fin 2) : Prop :=
  due s.dev tkBeacon port.val = true ∧
  nGet s.dev (t1s_PLCA_STATUS port.val) = 1

/-- When canFdFrameReceived does what SignalsAndFieldbuses says of it. -/
abbrev WhenCanFdFrameReceived (s : State) (port : Fin 4) : Prop :=
  canOn s.dev port.val = true ∧
  nGet s.dev lite_LITE_CONTROLLER ≠ port.val

/-- When canFdFrameReceived does what SignalsAndFieldbuses says of it (Remote). -/
abbrev WhenCanFdFrameReceivedRemote (s : State) (port : Fin 4) : Prop :=
  canOn s.dev port.val = true

/-- An island has its clock and its power (R16). -/
abbrev islandRuns (d : Dev) (i : Nat) : Bool := !d.islands.off.contains i && !d.islands.gated.contains i

/-- When setTime does what TimebaseAndTimers says of it. -/
abbrev WhenSetTime (s : State) (sess t : Nat) : Prop :=
  writeGate s.dev sess time_SET_TIME = none ∧
  (nGet s.dev time_SOURCE = 0 ∨ nGet s.dev time_SOURCE = 2) ∧
  t < 2 ^ 64

/-- When gptpSync does what TimebaseAndTimers says of it. -/
abbrev WhenGptpSync (s : State) (up : Fin 2) (origin correction rx : Nat) (e : Int) : Prop :=
  takesGptp s.dev = true ∧
  gptpUplink s.dev up.val = true ∧
  nGet s.dev (upl_GPTP_ROLE up.val) = 1 ∧
  e = (rx : Int) - nGet s.dev (upl_INGRESS_LATENCY_NS up.val) - (origin + correction + nGet s.dev (upl_LINK_DELAY_NS up.val) : Nat)

/-- When ppsEdge does what TimebaseAndTimers says of it. -/
abbrev WhenPpsEdge (s : State) (l : Nat) (x : Int) : Prop :=
  nGet s.dev time_SOURCE = 2 ∧
  s.dev.time.ppsLast = some l ∧
  l + 999000000 ≤ tbNs s.dev ∧
  tbNs s.dev ≤ l + 1001000000 ∧
  x = (tbNs s.dev : Int) - sintOf 32 (nGet s.dev time_PPS_IN_OFFSET_NS)

/-- When ppsEdge does what TimebaseAndTimers says of it (Rejected). -/
abbrev WhenPpsEdgeRejected (s : State) (l : Nat) : Prop :=
  nGet s.dev time_SOURCE = 2 ∧
  s.dev.time.ppsLast = some l ∧
  (tbNs s.dev < l + 999000000 ∨ l + 1001000000 < tbNs s.dev)

/-- When syncTimeout does what TimebaseAndTimers says of it. -/
abbrev WhenSyncTimeout (s : State) : Prop :=
  (takesGptp s.dev = true ∧ due s.dev tkSync 0 = true) ∨ (nGet s.dev time_SOURCE = 2 ∧ due s.dev tkSync 1 = true)

/-- When ppsOutRise does what TimebaseAndTimers says of it. -/
abbrev WhenPpsOutRise (s : State) (k : Nat) : Prop :=
  nGet s.dev time_PPS_OUT_ENABLE = 1 ∧
  nGet s.dev time_TIME_VALID = 1 ∧
  nGet s.dev time_PPS_OUT_OFFSET_NS ≤ tbNs s.dev ∧
  k = (tbNs s.dev - nGet s.dev time_PPS_OUT_OFFSET_NS) / 10 ^ 9 ∧
  s.dev.time.ppsDone < k + 1

/-- When ppsOutFall does what TimebaseAndTimers says of it. -/
abbrev WhenPpsOutFall (s : State) : Prop :=
  due s.dev tkPps 0 = true

/-- When timerPeriod does what TimebaseAndTimers says of it. -/
abbrev WhenTimerPeriod (s : State) (n : Fin 96) : Prop :=
  (timerOf s.dev n.val).enable = true ∧
  periodOf (timerOf s.dev n.val) ≤ rawCount s.dev (timerOf s.dev n.val)

/-- When timerCompare does what TimebaseAndTimers says of it. -/
abbrev WhenTimerCompare (s : State) (n : Fin 96) (k : Fin 2) : Prop :=
  compareDue s.dev (timerOf s.dev n.val) k.val = true

/-- When timerCapture does what TimebaseAndTimers says of it. -/
abbrev WhenTimerCapture (s : State) (n : Fin 96) (rising : Bool) : Prop :=
  asleep s.dev = false ∧
  filterPasses s.dev (timerOf s.dev n.val) rising = true ∧
  (timerOf s.dev n.val).capSrc ≠ 0x3FF ∧
  ((timerOf s.dev n.val).capEdge = 2 ∨ ((timerOf s.dev n.val).capEdge = 0 ∧ rising = true) ∨ ((timerOf s.dev n.val).capEdge = 1 ∧ rising = false)) ∧
  (timerOf s.dev n.val).windowEn = false ∧
  (timerOf s.dev n.val).capDiv ≤ (timerOf s.dev n.val).divCount

/-- When captureRead does what TimebaseAndTimers says of it. -/
abbrev WhenCaptureRead (s : State) (n : Fin 96) : Prop :=
  islandRuns s.dev (n.val / 8) = true ∧
  justSet s.dev.now (timerOf s.dev n.val) 1 = false

/-- When timerEnableWrite does what TimebaseAndTimers says of it. -/
abbrev WhenTimerEnableWrite (s : State) (n : Fin 96) : Prop :=
  islandRuns s.dev (n.val / 8) = true

/-- When timerEnableWrite does what TimebaseAndTimers says of it (Off). -/
abbrev WhenTimerEnableWriteOff (s : State) (n : Fin 96) : Prop :=
  s.dev.islands.off.contains (n.val / 8) = true

/-- When timerEnableWrite does what TimebaseAndTimers says of it (Waits). -/
abbrev WhenTimerEnableWriteWaits (s : State) (n : Fin 96) : Prop :=
  s.dev.islands.off.contains (n.val / 8) = false ∧
  s.dev.islands.gated.contains (n.val / 8) = true

/-- When periodWrite does what TimebaseAndTimers says of it. -/
abbrev WhenPeriodWrite (s : State) (n : Fin 96) : Prop :=
  islandRuns s.dev (n.val / 8) = true

/-- When startMaskWrite does what TimebaseAndTimers says of it. -/
abbrev WhenStartMaskWrite (s : State) (c : Fin 12) (v : Word) : Prop :=
  islandRuns s.dev c.val = true ∧
  (startOf s.dev c.val).lateAt ≠ some s.dev.now ∧
  (v.toNat % 256 = 0 ∨ tbNs s.dev ≤ (startOf s.dev c.val).time)

/-- When startMaskWrite does what TimebaseAndTimers says of it (Late). -/
abbrev WhenStartMaskWriteLate (s : State) (c : Fin 12) (v : Word) : Prop :=
  islandRuns s.dev c.val = true ∧
  v.toNat % 256 ≠ 0 ∧
  (startOf s.dev c.val).time < tbNs s.dev

/-- When groupStart does what TimebaseAndTimers says of it. -/
abbrev WhenGroupStart (s : State) (c : Fin 12) : Prop :=
  (startOf s.dev c.val).mask ≠ 0 ∧
  (startOf s.dev c.val).mask < 256 ∧
  (startOf s.dev c.val).time ≤ tbNs s.dev

/-- When token does what ObservationBlock says of it. -/
abbrev WhenToken (s : State) (sess : Nat) (b : List Byte) (root from0 until0 : Nat) : Prop :=
  writeGate s.dev sess obs_TOKEN = none ∧
  tokenForm b = true ∧
  nGet s.dev time_TIME_VALID = 1 ∧
  root = ofLe (sliceOf b 8 1) ∧
  from0 = ofLe (sliceOf b 32 8) ∧
  until0 = ofLe (sliceOf b 40 8)

/-- When endToken does what ObservationBlock says of it. -/
abbrev WhenEndToken (s : State) (sess : Nat) : Prop :=
  writeGate s.dev sess obs_END = none ∧
  nGet s.dev obs_TOKEN_STATE = 1

/-- When tokenExpiry does what ObservationBlock says of it. -/
abbrev WhenTokenExpiry (s : State) : Prop :=
  nGet s.dev obs_TOKEN_STATE = 1 ∧
  nGet s.dev obs_NOT_AFTER ≤ tbNs s.dev

/-- When chimneyRecordSend does what ObservationBlock says of it. -/
abbrev WhenChimneyRecordSend (s : State) (r : TraceRecord) (l : List TraceRecord) : Prop :=
  nGet s.dev obs_TOKEN_STATE = 1 ∧
  s.dev.obs.fifo = r :: l ∧
  s.dev.obs.dropped = 0

/-- When chimneyRecordSend does what ObservationBlock says of it (Lost). -/
abbrev WhenChimneyRecordSendLost (s : State) (r : TraceRecord) (l : List TraceRecord) : Prop :=
  nGet s.dev obs_TOKEN_STATE = 1 ∧
  s.dev.obs.fifo = r :: l ∧
  s.dev.obs.dropped ≠ 0 ∧
  s.dev.obs.fifo.length < 1024 ∧
  bitOf (nGet s.dev obs_TRACE_KINDS) 15 = true

/-- When countersRun does what ObservationBlock says of it. -/
abbrev WhenCountersRun (s : State) (sess : Nat) : Prop :=
  writeGate s.dev sess ctrCtl_RUN = none

/-- When countersStop does what ObservationBlock says of it. -/
abbrev WhenCountersStop (s : State) (sess : Nat) : Prop :=
  writeGate s.dev sess ctrCtl_RUN = none

/-- When clear does what ObservationBlock says of it. -/
abbrev WhenClear (s : State) (sess : Nat) : Prop :=
  writeGate s.dev sess ctrCtl_CLEAR = none

/-- When arm does what ObservationBlock says of it. -/
abbrev WhenArm (s : State) (sess : Nat) : Prop :=
  writeGate s.dev sess snap_ARM = none

/-- When trigger does what ObservationBlock says of it. -/
abbrev WhenTrigger (s : State) (sess : Nat) : Prop :=
  writeGate s.dev sess snap_TRIGGER = none ∧
  asleep s.dev = false ∧
  bitOf (nGet s.dev snap_SOURCES) 1 = true ∧
  nGet s.dev snap_ARMED = 1

/-- When trigger does what ObservationBlock says of it (Missed). -/
abbrev WhenTriggerMissed (s : State) (sess : Nat) : Prop :=
  writeGate s.dev sess snap_TRIGGER = none ∧
  asleep s.dev = false ∧
  bitOf (nGet s.dev snap_SOURCES) 1 = true ∧
  nGet s.dev snap_ARMED = 0 ∧
  s.dev.obs.snapAt ≠ some s.dev.now

/-- When snapIn does what ObservationBlock says of it. -/
abbrev WhenSnapIn (s : State) : Prop :=
  asleep s.dev = false ∧
  bitOf (nGet s.dev snap_SOURCES) 0 = true ∧
  nGet s.dev snap_ARMED = 1

/-- When snapOutEnd does what ObservationBlock says of it. -/
abbrev WhenSnapOutEnd (s : State) : Prop :=
  due s.dev tkSnapOut 0 = true

/-- When hearthSlotWrite does what HearthCommands says of it. -/
abbrev WhenHearthSlotWrite (s : State) (sess : Nat) (h : Fin 16) (slot : Fin 64) (m v i : Nat) : Prop :=
  i = 64 * h.val + slot.val ∧
  writeGate s.dev sess (mref 0x20 (0x1000 + i) m) = none ∧
  m < 256 ∧
  (rowOf (mref 0x20 (0x1000 + i) m)).any (fun row => decide (row.acc = .rw) && inRange row (.num v)) = true ∧
  m ≠ refMember (slot_SHOWN 0) ∧
  nGet s.dev hearth_LOCK ≠ 1 ∧
  nGet s.dev (slot_SHOWN i) = 0 ∧
  (m = 2 ∨ m = 3 ∨ m = 4 ∨ (m = 1 ∧ v = 1) → slotRegionOk (nSet s.dev (mref 0x20 (0x1000 + i) m) v) s.mem i = true) ∧
  slotLinesOk (nSet s.dev (mref 0x20 (0x1000 + i) m) v) s.mem h.val = true

/-- When signalMapWrite does what HearthCommands says of it. -/
abbrev WhenSignalMapWrite (s : State) (sess : Nat) (n : Fin 256) (m v : Nat) : Prop :=
  writeGate s.dev sess (mref 0x21 n.val m) = none ∧
  1 ≤ m ∧
  m ≤ 18 ∧
  (rowOf (mref 0x21 n.val m)).any (fun row => decide (row.acc = .rw) && inRange row (.num v)) = true ∧
  nGet s.dev hearth_LOCK ≠ 1 ∧
  entryShown s.dev n.val = false

/-- When hoRequestWrite does what HearthCommands says of it. -/
abbrev WhenHoRequestWrite (s : State) (sess : Nat) (h : Fin 16) (v : Nat) : Prop :=
  writeGate s.dev sess (hhead_HO_REQUEST h.val) = none ∧
  nGet s.dev hearth_LOCK ≠ 1 ∧
  (v = 1 ∨ (v = 0 ∧ nGet s.dev (panel_IDENTITY_STATE h.val) ≠ 3))

/-- When orbitEnableWrite does what HearthCommands says of it. -/
abbrev WhenOrbitEnableWrite (s : State) (sess : Nat) (h : Fin 16) (v : Nat) : Prop :=
  writeGate s.dev sess (panel_ORBIT_ENABLE h.val) = none ∧
  v ≤ 1 ∧
  (v = 1 → orbitOk s.dev s.mem h.val = true)

/-- When faultClear does what HearthCommands says of it. -/
abbrev WhenFaultClear (s : State) (sess mask : Nat) (k : Fin 16) : Prop :=
  writeGate s.dev sess hearth_FAULT_CLEAR = none ∧
  mask < 65536 ∧
  bitOf mask k.val = true ∧
  nGet s.dev (hhead_FAULTS k.val) ≠ 0 ∧
  clearableFaults s.dev k.val = nGet s.dev (hhead_FAULTS k.val)

/-- When mixerMismatch does what HearthCommands says of it. -/
abbrev WhenMixerMismatch (s : State) (h : Fin 16) : Prop :=
  bitOf (nGet s.dev (hhead_FAULTS h.val)) 2 = false

/-- When keepaliveLoss does what HearthCommands says of it. -/
abbrev WhenKeepaliveLoss (s : State) : Prop :=
  s.dev.hearth.released = false

/-- When hearthScrub does what HearthCommands says of it. -/
abbrev WhenHearthScrub (w : Nat) : Prop :=
  w < 262144

/-- When hearthScrub does what HearthCommands says of it (Bad). -/
abbrev WhenHearthScrubBad (w flips : Nat) : Prop :=
  w < 262144 ∧
  2 ≤ flips

/-- When noapDatagramReceived does what NoapSessions says of it. -/
abbrev WhenNoapDatagramReceived (s : State) (b : List Byte) (x : Session) (n seq : Nat) : Prop :=
  nGet s.dev noap_ENABLE ≠ 0 ∧
  nGet s.dev dev_FK_STATE = 1 ∧
  networkRuns s.dev = true ∧
  n = ofBe (sliceOf b 6 2) ∧
  b.length = n + 32 ∧
  b.length ≤ 1432 ∧
  ofBe (sliceOf b 0 2) = 0x4E4F ∧
  ofBe (sliceOf b 2 1) = 1 ∧
  ofBe (sliceOf b 3 1) ∈ [1, 2, 3, 4, 6] ∧
  s.dev.noap.sessions = [x] ∧
  ofBe (sliceOf b 8 4) = x.id ∧
  seq = ofBe (sliceOf b 12 4) ∧
  x.isOpen = true ∧
  x.kept.all (fun k => decide (k.seq ≠ seq)) = true ∧
  x.waiting.all (fun w => decide (w.seq ≠ seq)) = true ∧
  x.seqIn < seq + 64 ∧
  x.waiting.length < 64 ∧
  x.msgsIn + 1 < 2 ^ 31 ∧
  x.msgsOut < 2 ^ 31

/-- When noapDatagramReceived does what NoapSessions says of it (Response). -/
abbrev WhenNoapDatagramReceivedResponse (s : State) (b : List Byte) (x : Session) (q : Unacked) (n : Nat) : Prop :=
  nGet s.dev noap_ENABLE ≠ 0 ∧
  nGet s.dev dev_FK_STATE = 1 ∧
  networkRuns s.dev = true ∧
  n = ofBe (sliceOf b 6 2) ∧
  b.length = n + 32 ∧
  b.length ≤ 1432 ∧
  ofBe (sliceOf b 0 2) = 0x4E4F ∧
  ofBe (sliceOf b 2 1) = 1 ∧
  ofBe (sliceOf b 3 1) = 5 ∧
  s.dev.noap.sessions = [x] ∧
  ofBe (sliceOf b 8 4) = x.id ∧
  x.isOpen = true ∧
  x.unacked = [q] ∧
  q.seq = ofBe (sliceOf b 12 4) ∧
  x.msgsIn + 1 < 2 ^ 31 ∧
  x.msgsOut < 2 ^ 31

/-- When noapDatagramReceived does what NoapSessions says of it (Fragment). -/
abbrev WhenNoapDatagramReceivedFragment (s : State) : Prop :=
  nGet s.dev noap_ENABLE ≠ 0 ∧
  nGet s.dev dev_FK_STATE = 1 ∧
  networkRuns s.dev = true

/-- When hello does what NoapSessions says of it. -/
abbrev WhenHello (s : State) : Prop :=
  nGet s.dev noap_ENABLE ≠ 0 ∧
  nGet s.dev dev_FK_STATE = 1 ∧
  networkRuns s.dev = true ∧
  (s.dev.noap.sessions.filter (·.isOpen)).length < 4 ∧
  s.dev.noap.sessions.length < (s.dev.noap.sessions.filter (·.isOpen)).length + 2

/-- When key does what NoapSessions says of it. -/
abbrev WhenKey (s : State) (sess seq : Nat) (x : Session) : Prop :=
  s.dev.noap.sessions.find? (fun x => decide (x.id = sess)) = some x ∧
  nGet s.dev dev_FK_STATE = 1 ∧
  x.isOpen = false ∧
  x.msgsIn < 2 ^ 31 ∧
  x.msgsOut + 1 < 2 ^ 31 ∧
  IsNext s.dev sess seq ∧
  (s.dev.noap.sessions.filter (·.isOpen)).length < 4

/-- When close does what NoapSessions says of it. -/
abbrev WhenClose (s : State) (sess : Nat) (x : Session) : Prop :=
  s.dev.noap.sessions.find? (fun x => decide (x.id = sess)) = some x

/-- When sessionIdleTimeout does what NoapSessions says of it. -/
abbrev WhenSessionIdleTimeout (s : State) (sess : Nat) (x : Session) : Prop :=
  s.dev.noap.sessions.find? (fun x => decide (x.id = sess)) = some x ∧
  x.lastMsg + 1000000 * nGet s.dev noap_IDLE_TIMEOUT ≤ s.dev.now

/-- When sessionLifetimeExpiry does what NoapSessions says of it. -/
abbrev WhenSessionLifetimeExpiry (s : State) (sess : Nat) (x : Session) : Prop :=
  s.dev.noap.sessions.find? (fun x => decide (x.id = sess)) = some x ∧
  x.isOpen = true ∧
  x.openedAt + 86400000000000 ≤ s.dev.now

/-- When noapEnableWrite does what NoapSessions says of it. -/
abbrev WhenNoapEnableWrite (s : State) (sess v : Nat) : Prop :=
  writeGate s.dev sess noap_ENABLE = none ∧
  v ≤ 1

/-- When subscribe does what NoapSessions says of it. -/
abbrev WhenSubscribe (s : State) (sess seq : Nat) (r : Ref) (mode period : Nat) : Prop :=
  Reachable s.dev sess (requestPeer s.dev sess seq) ∧
  IsNext s.dev sess seq ∧
  ((mode = 0) ∨ (mode = 1 ∧ 10 ≤ period ∧ period ≤ 65535)) ∧
  (readMember s.dev sess false r).1 = .ok ∧
  subCount s.dev < 512 ∧
  s.dev.noap.sessions.all (fun x => decide (x.subs.length < 256)) = true

/-- When eventSend does what NoapSessions says of it. -/
abbrev WhenEventSend (s : State) (sess : Nat) (x : Session) (n : Notif) : Prop :=
  s.dev.noap.sessions = [x] ∧
  x.id = sess ∧
  Reachable s.dev sess x.peer ∧
  x.unacked.length < 16 ∧
  x.queue = [n] ∧
  x.waiting = [] ∧
  n.val.length ≤ 1381

/-- When eventRepeatExpiry does what NoapSessions says of it. -/
abbrev WhenEventRepeatExpiry (s : State) (sess seq : Nat) (x : Session) (q : Unacked) : Prop :=
  s.dev.noap.sessions = [x] ∧
  x.id = sess ∧
  Reachable s.dev sess x.peer ∧
  x.unacked = [q] ∧
  q.seq = seq ∧
  q.heard = false ∧
  q.deadline ≤ s.dev.now ∧
  q.repeats < 5

/-- When eventRepeatExpiry does what NoapSessions says of it (Lost). -/
abbrev WhenEventRepeatExpiryLost (s : State) (sess seq : Nat) (x : Session) (q : Unacked) : Prop :=
  s.dev.noap.sessions = [x] ∧
  x.id = sess ∧
  serves s.dev sess = true ∧
  x.unacked = [q] ∧
  q.seq = seq ∧
  q.heard = false ∧
  q.deadline ≤ s.dev.now ∧
  5 ≤ q.repeats

/-- When eventAck does what NoapSessions says of it. -/
abbrev WhenEventAck (s : State) (sess seq : Nat) (x : Session) (q : Unacked) : Prop :=
  s.dev.noap.sessions = [x] ∧
  x.id = sess ∧
  serves s.dev sess = true ∧
  x.unacked = [q] ∧
  q.seq = seq ∧
  x.msgsIn + 1 < 2 ^ 31 ∧
  x.msgsOut < 2 ^ 31

/-- When periodicSubscriptionExpiry does what NoapSessions says of it. -/
abbrev WhenPeriodicSubscriptionExpiry (s : State) (sess : Nat) (r : Ref) (x : Session) (q : Sub) (n : Notif) : Prop :=
  s.dev.noap.sessions = [x] ∧
  x.id = sess ∧
  serves s.dev sess = true ∧
  x.subs = [q] ∧
  q.ref = r ∧
  q.periodic = true ∧
  q.deadline ≤ s.dev.now ∧
  x.queue.length < 256 ∧
  (memberNotif s.dev r (tbNs s.dev) false = some n)

/-- When onChangeWindowExpiry does what NoapSessions says of it. -/
abbrev WhenOnChangeWindowExpiry (s : State) (x : Session) (r : Ref) (tm : Nat) (n : Notif) : Prop :=
  s.dev.noap.window + 1000000 ≤ s.dev.now ∧
  nGet s.dev dev_FK_STATE = 1 ∧
  s.dev.noap.sessions = [x] ∧
  changedSubs s.dev = [(x.id, r, tm)] ∧
  (memberNotif s.dev r tm true = some n) ∧
  x.queue = [] ∧
  x.subs.all (fun q => !workedOut q.ref) = true

/-- When onChangeWindowExpiry does what NoapSessions says of it (Read). -/
abbrev WhenOnChangeWindowExpiryRead (s : State) (x : Session) (q : Sub) (n : Notif) : Prop :=
  s.dev.noap.window + 1000000 ≤ s.dev.now ∧
  nGet s.dev dev_FK_STATE = 1 ∧
  s.dev.noap.sessions = [x] ∧
  x.subs = [q] ∧
  q.periodic = false ∧
  workedOut q.ref = true ∧
  (readMember s.dev 0 false q.ref).2.2 ≠ q.seen ∧
  (memberNotif s.dev q.ref (tbNs s.dev) true = some n) ∧
  x.queue = []

/-- When read does what NoapRequests says of it. -/
abbrev WhenRead (s : State) (sess seq : Nat) (staged : Bool) (refs : List Ref) : Prop :=
  Reachable s.dev sess (requestPeer s.dev sess seq) ∧
  IsNext s.dev sess seq ∧
  bitOf (nextFlags s.dev sess) 1 = staged ∧
  1 ≤ refs.length ∧
  refs.length ≤ 32

/-- When read does what NoapRequests says of it (One). -/
abbrev WhenReadOne (s : State) (sess seq : Nat) (staged : Bool) (r : Ref) (st : Status) (ty : Nat) (val : List Byte) : Prop :=
  Reachable s.dev sess (requestPeer s.dev sess seq) ∧
  IsNext s.dev sess seq ∧
  bitOf (nextFlags s.dev sess) 1 = staged ∧
  readMember s.dev sess staged r = (st, ty, val) ∧
  val.length ≤ 1395

/-- When write does what NoapRequests says of it. -/
abbrev WhenWrite (s : State) (sess seq : Nat) (items : List WriteItem) (x : State × List Byte) : Prop :=
  serves s.dev sess = true ∧
  IsNext s.dev sess seq ∧
  1 ≤ items.length ∧
  items.length ≤ 32 ∧
  writeItems sess 1 items s = x ∧
  Reachable x.1.dev sess (requestPeer x.1.dev sess seq) ∧
  x.1.dev.noap.closing = false

/-- When write does what NoapRequests says of it (Member). -/
abbrev WhenWriteMember (s : State) (sess seq v : Nat) : Prop :=
  Reachable s.dev sess (requestPeer s.dev sess seq) ∧
  IsNext s.dev sess seq ∧
  writeGate s.dev sess noap_IDLE_TIMEOUT = none ∧
  s.dev.noap.closing = false ∧
  1000 ≤ v ∧
  v ≤ 60000

/-- When bulk does what NoapRequests says of it. -/
abbrev WhenBulk (s : State) (sess seq i off a : Nat) (data : List Byte) : Prop :=
  Reachable s.dev sess (requestPeer s.dev sess seq) ∧
  IsNext s.dev sess seq ∧
  i < 4096 ∧
  a = nGet s.dev (surf_ADDRESS i) + off ∧
  bulkCheck s.dev sess (mref 0x13 i 0) off data.length = none ∧
  dramServes s.dev = true ∧
  s.dev.stoker.migration = none ∧
  rmwFailures s.dev a data.length = [] ∧
  (List.range data.length).all (fun k => takesWrite s.dev (a + k)) = true

/-- When noapLiteRead does what NoapRequests says of it. -/
abbrev WhenNoapLiteRead (s : State) (port : Fin 4) (ext : Bool) (id : Nat) (frame : List Byte) (d : Dev) : Prop :=
  canOn s.dev port.val = true ∧
  canEntries s.dev port.val ext id = [] ∧
  d = canReceived (emit s.dev (.canAck port.val)) port.val ∧
  liteAddressed s.dev port.val ext id = true ∧
  nGet s.dev dev_FK_STATE = 1 ∧
  frame.length = 64 ∧
  ofBe (frame.take 1) = 1 ∧
  s.dev.noap.litePending = 0 ∧
  noapFirst s.dev = false

/-- When noapLiteRead does what NoapRequests says of it (Waits). -/
abbrev WhenNoapLiteReadWaits (s : State) (port : Fin 4) (ext : Bool) (id : Nat) (frame : List Byte) : Prop :=
  canOn s.dev port.val = true ∧
  canEntries s.dev port.val ext id = [] ∧
  liteAddressed s.dev port.val ext id = true ∧
  nGet s.dev dev_FK_STATE = 1 ∧
  frame.length = 64 ∧
  noapFirst s.dev = true

/-- When noapLiteWrite does what NoapRequests says of it. -/
abbrev WhenNoapLiteWrite (s : State) (port : Fin 4) (ext : Bool) (id : Nat) (frame : List Byte) (e : State) (x : State × Status × List Byte) : Prop :=
  canOn s.dev port.val = true ∧
  canEntries s.dev port.val ext id = [] ∧
  liteAddressed s.dev port.val ext id = true ∧
  nGet s.dev dev_FK_STATE = 1 ∧
  frame.length = 64 ∧
  ofBe (frame.take 1) = 2 ∧
  s.dev.noap.litePending = 0 ∧
  noapFirst s.dev = false ∧
  e = withDev s (liteAccept (canReceived (emit s.dev (.canAck port.val)) port.val) (ofBe (sliceOf frame 2 4))) ∧
  liteWriteMember e (ofBe (sliceOf frame 6 4)) (ofBe (sliceOf frame 10 1)) (sliceOf (frame.take 56) 12 (ofBe (sliceOf frame 11 1))) = x

/-- When noapLiteResponseSent does what NoapRequests says of it. -/
abbrev WhenNoapLiteResponseSent (s : State) (c : Nat) : Prop :=
  0 < s.dev.noap.litePending ∧
  nGet s.dev lite_LITE_CONTROLLER = c ∧
  c < 4 ∧
  canOn s.dev c = true

/-- When alloc does what SceneCommands says of it. -/
abbrev WhenAlloc (s : State) (sess cls arg i : Nat) : Prop :=
  writeGate s.dev sess (ctl_ALLOC cls) = none ∧
  isSceneClass cls = true ∧
  i < classLimit cls ∧
  allocOf s.dev (mref cls i 0) = 0 ∧
  (arg = i ∨ (arg = 0xFFFF ∧ ∀ j < i, allocOf s.dev (mref cls j 0) ≠ 0))

/-- When free does what SceneCommands says of it. -/
abbrev WhenFree (s : State) (sess cls : Nat) (arg : Ref) : Prop :=
  writeGate s.dev sess (ctl_FREE cls) = none ∧
  isSceneClass cls = true ∧
  refClass arg = cls ∧
  refMember arg = 0 ∧
  arg < 2 ^ 32 ∧
  allocOf s.dev arg = 1 ∧
  jobTouches s.dev arg = false ∧
  objectLeased s.dev arg = false

/-- When free does what SceneCommands says of it (Deferred). -/
abbrev WhenFreeDeferred (s : State) (sess cls : Nat) (arg : Ref) : Prop :=
  writeGate s.dev sess (ctl_FREE cls) = none ∧
  isSceneClass cls = true ∧
  refClass arg = cls ∧
  refMember arg = 0 ∧
  arg < 2 ^ 32 ∧
  allocOf s.dev arg = 1 ∧
  jobTouches s.dev arg = false ∧
  objectLeased s.dev arg = true

/-- When realize does what SceneCommands says of it. -/
abbrev WhenRealize (s : State) (sess surf : Nat) : Prop :=
  writeGate s.dev sess (surf_REALIZE surf) = none ∧
  surf < 4096 ∧
  SceneAlloc s.dev ∧
  realizeCheck s.dev surf = none ∧
  (findPlace s.dev (surfSize s.dev surf * nGet s.dev (surf_BUFFERS surf))).isSome = true ∧
  s.dev.scene.alloc.all (fun e => decide (e.2 ≠ 2)) = true

/-- When discard does what SceneCommands says of it. -/
abbrev WhenDiscard (s : State) (sess : Nat) : Prop :=
  writeGate s.dev sess commitCtl_DISCARD = none

/-- When sceneLeaseExpiry does what SceneCommands says of it. -/
abbrev WhenSceneLeaseExpiry (s : State) (start n : Nat) : Prop :=
  mapFind s.dev.timers (timerKey tkSceneLease 0) = some start ∧
  nGet s.dev commitCtl_SCENE_LEASE = n ∧
  n ≠ 0 ∧
  start + 1000000 * n ≤ s.dev.now

/-- When commit does what SceneCommands says of it. -/
abbrev WhenCommit (s : State) (sess seq mask n : Nat) (d : Dev) : Prop :=
  mask < 65536 ∧
  CommitTurn s.dev d sess seq false ∧
  commitGate d sess mask = none ∧
  n = wrapAdd 32 (nGet d commitCtl_LAST_NUMBER) 1 ∧
  commitBroken (nSet d commitCtl_LAST_NUMBER n) s.mem mask (takenWrites (nSet d commitCtl_LAST_NUMBER n) mask) = none

/-- When commit does what SceneCommands says of it (Refused). -/
abbrev WhenCommitRefused (s : State) (sess seq mask n : Nat) (d : Dev) (r : Refused) : Prop :=
  mask < 65536 ∧
  CommitTurn s.dev d sess seq false ∧
  commitGate d sess mask = none ∧
  n = wrapAdd 32 (nGet d commitCtl_LAST_NUMBER) 1 ∧
  commitBroken (nSet d commitCtl_LAST_NUMBER n) s.mem mask (takenWrites (nSet d commitCtl_LAST_NUMBER n) mask) = some r

/-- When commitDryRun does what SceneCommands says of it. -/
abbrev WhenCommitDryRun (s : State) (sess seq mask n : Nat) (d : Dev) : Prop :=
  mask < 65536 ∧
  CommitTurn s.dev d sess seq true ∧
  commitGate d sess mask = none ∧
  n = wrapAdd 32 (nGet d commitCtl_LAST_NUMBER) 1 ∧
  commitBroken (nSet d commitCtl_LAST_NUMBER n) s.mem mask (takenWrites (nSet d commitCtl_LAST_NUMBER n) mask) = none

/-- When commitDecision does what SceneCommands says of it. -/
abbrev WhenCommitDecision (s : State) (e : Evaluation) (sc : Scope) : Prop :=
  s.dev.scene.evaluating = some e ∧
  e.dryRun = false ∧
  sc = { mask := e.mask, taken := resolveTaken s.dev e.taken, acts := s.dev.stoker.actions } ∧
  (runModel s.dev sc).fail = none ∧
  (bitsOf e.mask 16).all (fun h => decide (2 ≤ nGet s.dev (head_STATE h)) && !e.taken.any (fun w => w.heads == 0 && decide (w.ref = head_STATE h))) = true

/-- When commitDecision does what SceneCommands says of it (Dry). -/
abbrev WhenCommitDecisionDry (s : State) (e : Evaluation) (sc : Scope) : Prop :=
  s.dev.scene.evaluating = some e ∧
  e.dryRun = true ∧
  sc = { mask := e.mask, taken := resolveTaken s.dev e.taken, acts := s.dev.stoker.actions } ∧
  (runModel s.dev sc).fail = none ∧
  SceneAlloc s.dev

/-- When commitDecision does what SceneCommands says of it (Refused). -/
abbrev WhenCommitDecisionRefused (s : State) (e : Evaluation) (sc : Scope) (f : Fail) : Prop :=
  s.dev.scene.evaluating = some e ∧
  sc = { mask := e.mask, taken := resolveTaken s.dev e.taken, acts := s.dev.stoker.actions } ∧
  (runModel s.dev sc).fail = some f ∧
  stepBits s.dev = 0 ∧
  SceneAlloc s.dev

/-- When headFrameBoundary does what HeadsAndLines says of it. -/
abbrev WhenHeadFrameBoundary (s : State) (h : Fin 16) : Prop :=
  SceneAlloc s.dev ∧
  2 ≤ nGet s.dev (head_STATE h.val) ∧
  boundaryDue s.dev h.val = true ∧
  dueCommits s.dev h.val = [] ∧
  (headOf s.dev h.val).relock = []

/-- When headFrameBoundary does what HeadsAndLines says of it (Apply). -/
abbrev WhenHeadFrameBoundaryApply (s : State) (h : Fin 16) (c : PendingCommit) : Prop :=
  SceneAlloc s.dev ∧
  2 ≤ nGet s.dev (head_STATE h.val) ∧
  boundaryDue s.dev h.val = true ∧
  dueCommits s.dev h.val = [c] ∧
  planOf (scanRest s.dev s.mem h.val) h.val [c] = .apply ∧
  (headOf s.dev h.val).relock = []

/-- When headFirstBoundary does what HeadsAndLines says of it. -/
abbrev WhenHeadFirstBoundary (s : State) (h : Fin 16) : Prop :=
  SceneAlloc s.dev ∧
  nGet s.dev (head_STATE h.val) = 1 ∧
  (headOf s.dev h.val).lanesReady = true ∧
  boundaryDue s.dev h.val = true

/-- When lineMatch does what HeadsAndLines says of it. -/
abbrev WhenLineMatch (s : State) (h : Fin 16) (m : Fin 4) : Prop :=
  2 ≤ nGet s.dev (head_STATE h.val) ∧
  (headOf s.dev h.val).cmpOn.getD m.val false = true ∧
  (headOf s.dev h.val).cmpLine.getD m.val 0 = (beamPos s.dev h.val).1 ∧
  (headOf s.dev h.val).matched.contains (4 * (beamPos s.dev h.val).1 + m.val) = false

/-- When frameDone does what HeadsAndLines says of it. -/
abbrev WhenFrameDone (s : State) (h : Fin 16) : Prop :=
  SceneAlloc s.dev ∧
  2 ≤ nGet s.dev (head_STATE h.val) ∧
  (headOf s.dev h.val).frameDone = false ∧
  1 ≤ (beamPos s.dev h.val).1

/-- When frameDone does what HeadsAndLines says of it (Stopped). -/
abbrev WhenFrameDoneStopped (s : State) (h : Fin 16) : Prop :=
  SceneAlloc s.dev ∧
  due s.dev tkHeadStop h.val = true

/-- When segmentUnderrun does what HeadsAndLines says of it. -/
abbrev WhenSegmentUnderrun (s : State) (h : Fin 16) (p : Fin 32) (y : Nat) : Prop :=
  nGet s.dev (head_STATE h.val) = 3 ∧
  (beamPos s.dev h.val).1 = (headOf s.dev h.val).timing.vBlank + y ∧
  (headOf s.dev h.val).cursor ≤ y ∧
  (pipesOf s.dev h.val).contains p.val = true ∧
  (composedLine s.dev h.val y).2.any (fun g => decide (128 * g ≤ (beamPos s.dev h.val).2)) = true ∧
  (headOf s.dev h.val).underLine ≠ some y

/-- When pipeLineCompose does what HeadsAndLines says of it. -/
abbrev WhenPipeLineCompose (s : State) (p : Fin 32) (y : Nat) (b : BandPlace) : Prop :=
  nextLine s.dev p.val = some (y, b) ∧
  nGet s.dev (head_STATE b.head) = 3 ∧
  pipeFaulted s.dev p.val = false ∧
  (headOf s.dev b.head).timing.vBlank + y ≤ (beamPos s.dev b.head).1 + 2 ∧
  lineReady s.dev s.mem p.val y b = true ∧
  (p.val - b.first) / max 1 b.split + 1 = b.stages ∧
  (headOf s.dev b.head).cursor ≤ y

/-- When raceLineRead does what HeadsAndLines says of it. -/
abbrev WhenRaceLineRead (s : State) (p : Fin 32) (slot : Fin 2) (m y : Nat) (b : BandPlace) (l : Nat × Ref) : Prop :=
  nextLine s.dev p.val = some (y, b) ∧
  (raceLines (frameOf s.dev s.mem b.head b.band) (pipeSlots s.dev b p.val) y).contains (slot.val, m) = true ∧
  (pipeOf s.dev p.val).raceRead.contains (raceKey b.band slot.val m) = false ∧
  (pipeSlots s.dev b p.val).find? (fun e => decide (e.1 = slot.val)) = some l ∧
  lineWritten s.dev ((boundInput s.dev (sourceOf (frameOf s.dev s.mem b.head b.band).v (frameOf s.dev s.mem b.head b.band).acts l.2)).getD 0) ((frameOf s.dev s.mem b.head b.band).buffer (sourceOf (frameOf s.dev s.mem b.head b.band).v (frameOf s.dev s.mem b.head b.band).acts l.2)) m = true ∧
  dramServes s.dev = true

/-- When raceLineRead does what HeadsAndLines says of it (Late). -/
abbrev WhenRaceLineReadLate (s : State) (p : Fin 32) (slot : Fin 2) (m y : Nat) (b : BandPlace) (l : Nat × Ref) : Prop :=
  nextLine s.dev p.val = some (y, b) ∧
  (raceLines (frameOf s.dev s.mem b.head b.band) (pipeSlots s.dev b p.val) y).contains (slot.val, m) = true ∧
  (pipeOf s.dev p.val).raceRead.contains (raceKey b.band slot.val m) = false ∧
  (pipeSlots s.dev b p.val).find? (fun e => decide (e.1 = slot.val)) = some l ∧
  lineWritten s.dev ((boundInput s.dev (sourceOf (frameOf s.dev s.mem b.head b.band).v (frameOf s.dev s.mem b.head b.band).acts l.2)).getD 0) ((frameOf s.dev s.mem b.head b.band).buffer (sourceOf (frameOf s.dev s.mem b.head b.band).v (frameOf s.dev s.mem b.head b.band).acts l.2)) m = false ∧
  (frameOf s.dev s.mem b.head b.band).line y ≤ (beamPos s.dev b.head).1 + 1 ∧
  (pipeOf s.dev p.val).raced = false ∧
  dramServes s.dev = true

/-- When residentLoadComplete does what HeadsAndLines says of it. -/
abbrev WhenResidentLoadComplete (s : State) (p : Fin 32) (at0 : Nat) : Prop :=
  at0 = ((headOfPipe s.dev p.val).map (beamPixels s.dev)).getD 0

/-- When capacityStep does what DramAndPlacement says of it. -/
abbrev WhenCapacityStep (kind unit : Nat) : Prop :=
  kind = 0 ∨ (kind = 1 ∧ unit < 32) ∨ (kind = 2 ∧ unit < 12) ∨ kind = 3

/-- When capacityStepUndo does what DramAndPlacement says of it. -/
abbrev WhenCapacityStepUndo (s : State) : Prop :=
  due s.dev tkCapacity 0 = true

/-- When migrationCopyComplete does what DramAndPlacement says of it. -/
abbrev WhenMigrationCopyComplete (s : State) (m : Migration) : Prop :=
  s.dev.stoker.migration = some m ∧
  m.copied = false ∧
  due s.dev tkMigration 0 = true ∧
  readsOf s.dev 2 0 = 0 ∧
  (blocksOf (nGet s.dev (surf_ADDRESS (refInst m.surf))) m.size).all (fun b => !gotBad s.dev m.got (b * 256)) = true ∧
  bankWordsBad s.dev (nGet s.dev (surf_ADDRESS (refInst m.surf))) m.size = [] ∧
  (∀ i < m.size, takesWrite s.dev (m.dest + i) = true)

/-- When migrationCopyComplete does what DramAndPlacement says of it (Poisoned). -/
abbrev WhenMigrationCopyCompletePoisoned (s : State) (m : Migration) : Prop :=
  s.dev.stoker.migration = some m ∧
  m.copied = false ∧
  due s.dev tkMigration 0 = true ∧
  readsOf s.dev 2 0 = 0 ∧
  (blocksOf (nGet s.dev (surf_ADDRESS (refInst m.surf))) m.size).any (fun b => gotBad s.dev m.got (b * 256)) = true ∧
  (blocksOf (nGet s.dev (surf_ADDRESS (refInst m.surf))) m.size).all (fun b => (mapFind m.got b).isSome || !blockPoisoned s.dev b) = true

/-- When dramReadComplete does what DramAndPlacement says of it. -/
abbrev WhenDramReadComplete (s : State) (tag : Fin 512) (found : List ByteError) (r : DramRead) : Prop :=
  mapFind s.dev.dram.reads tag.val = some r ∧
  dramServes s.dev = true ∧
  blockPoisoned (upset s.dev r.block found) r.block = false

/-- When dramReadComplete does what DramAndPlacement says of it (Bad). -/
abbrev WhenDramReadCompleteBad (s : State) (tag : Fin 512) (found : List ByteError) (r : DramRead) : Prop :=
  mapFind s.dev.dram.reads tag.val = some r ∧
  dramServes s.dev = true ∧
  channelOfAddr s.dev (r.block * 256) = some r.chan ∧
  chanRetired s.dev r.chan = false ∧
  blockBad (upset s.dev r.block found) r.block = true ∧
  satAdd 16 (nGet s.dev (chan_UE_PASS r.chan)) 1 < nGet s.dev mem_RETIRE_LIMIT

/-- When scrubRead does what DramAndPlacement says of it. -/
abbrev WhenScrubRead (s : State) (c : Fin 8) (found : List ByteError) (sg n : Nat) (last : Bool) : Prop :=
  chanRetired s.dev c.val = false ∧
  dramServes s.dev = true ∧
  s.dev.power.phase = .running ∧
  s.dev.dram.reads.length < 384 ∧
  scrubNext s.dev c.val = some (sg, n) ∧
  blockPoisoned (upset (finishWriteBack s.dev c.val) (slotBlock s.dev c.val sg n) found) (slotBlock s.dev c.val sg n) = false ∧
  last = (activeChannels s.dev).all (fun k => (scrubNext { s.dev with dram.scrubAt := mapPut s.dev.dram.scrubAt (scrubKey sg c.val) (n + 1) } k).isNone)

/-- When scrubRead does what DramAndPlacement says of it (WritesBack). -/
abbrev WhenScrubReadWritesBack (s : State) (c : Fin 8) (sg n b : Nat) : Prop :=
  chanRetired s.dev c.val = false ∧
  dramServes s.dev = true ∧
  s.dev.power.phase = .running ∧
  s.dev.dram.reads.length < 384 ∧
  scrubNext s.dev c.val = some (sg, n) ∧
  mapFind s.dev.dram.writeBack c.val = some b ∧
  b ≠ slotBlock s.dev c.val sg n

/-- When channelRetire does what DramAndPlacement says of it. -/
abbrev WhenChannelRetire (s : State) (c : Fin 8) (cause : Nat) : Prop :=
  1 ≤ cause ∧
  cause ≤ 4 ∧
  chanRetired s.dev c.val = false ∧
  SceneAlloc s.dev

/-- When retire does what DramAndPlacement says of it. -/
abbrev WhenRetire (s : State) (sess : Nat) (c : Fin 8) : Prop :=
  writeGate s.dev sess (chan_RETIRE c.val) = none ∧
  chanRetired s.dev c.val = false ∧
  SceneAlloc s.dev

/-- When unretire does what DramAndPlacement says of it. -/
abbrev WhenUnretire (s : State) (sess : Nat) (c : Fin 8) : Prop :=
  writeGate s.dev sess (chan_UNRETIRE c.val) = none ∧
  chanRetired s.dev c.val = true

/-- When dramTrainingComplete does what DramAndPlacement says of it. -/
abbrev WhenDramTrainingComplete (s : State) (c : Fin 8) : Prop :=
  chanRetired s.dev c.val = false ∧
  s.dev.dram.trained.contains c.val = false ∧
  s.dev.dram.ready = false

/-- When dramTrainingComplete does what DramAndPlacement says of it (Failed). -/
abbrev WhenDramTrainingCompleteFailed (s : State) (c : Fin 8) : Prop :=
  chanRetired s.dev c.val = false ∧
  s.dev.dram.trained.contains c.val = false ∧
  s.dev.dram.ready = false ∧
  SceneAlloc s.dev

/-- When dramInitComplete does what DramAndPlacement says of it. -/
abbrev WhenDramInitComplete (s : State) : Prop :=
  s.dev.dram.ready = false ∧
  (activeChannels s.dev).all (fun c => s.dev.dram.trained.contains c) = true

/-- The octets of a packet as they go on the wire of a lane (R389, R391). -/
abbrev onWire (d : Dev) (l : Nat) (b : List Byte) : List WireBlock := (wireBlocks (laneOf d l).scrambler (blocksOfPacket b)).2

/-- When laneDirectionWrite does what TransmitLanes says of it. -/
abbrev WhenLaneDirectionWrite (s : State) (sess : Nat) (l : Fin 32) (v : Nat) : Prop :=
  writeGate s.dev sess (lane_DIRECTION l.val) = none ∧
  v ≤ 2 ∧
  laneUsed s.dev l.val = false ∧
  (v = 2 → ((List.range 32).filter (fun k => decide (k ≠ l.val) && decide (nGet s.dev (lane_DIRECTION k) = 2))).length < 16)

/-- When laneTrainingStart does what TransmitLanes says of it. -/
abbrev WhenLaneTrainingStart (s : State) (l : Fin 32) : Prop :=
  nGet s.dev (lane_DIRECTION l.val) ≠ 0 ∧
  nGet s.dev (lane_STATE l.val) = 0

/-- When backChannelLock does what TransmitLanes says of it. -/
abbrev WhenBackChannelLock (s : State) (l : Fin 32) : Prop :=
  nGet s.dev (lane_DIRECTION l.val) = 1 ∧
  (nGet s.dev (lane_STATE l.val) = 1 ∨ nGet s.dev (lane_STATE l.val) = 2)

/-- When presetStepExpiry does what TransmitLanes says of it. -/
abbrev WhenPresetStepExpiry (s : State) (l : Fin 32) : Prop :=
  nGet s.dev (lane_STATE l.val) = 3 ∧
  nGet s.dev (lane_DIRECTION l.val) = 1 ∧
  due s.dev tkTrain l.val = true ∧
  (laneOf s.dev l.val).step + 1 < 8

/-- When presetStepExpiry does what TransmitLanes says of it (Chosen). -/
abbrev WhenPresetStepExpiryChosen (s : State) (l : Fin 32) (p : Nat) : Prop :=
  nGet s.dev (lane_STATE l.val) = 3 ∧
  nGet s.dev (lane_DIRECTION l.val) = 1 ∧
  due s.dev tkTrain l.val = true ∧
  8 ≤ (laneOf s.dev l.val).step + 1 ∧
  bestPreset (laneOf s.dev l.val).presetErrors = some p

/-- When trainingDeadlineMissed does what TransmitLanes says of it. -/
abbrev WhenTrainingDeadlineMissed (s : State) (l : Fin 32) : Prop :=
  nGet s.dev (lane_DIRECTION l.val) = 1 ∧
  due s.dev tkTrainEnd l.val = true ∧
  1 ≤ nGet s.dev (lane_STATE l.val) ∧
  nGet s.dev (lane_STATE l.val) ≤ 5

/-- When trainingRetryExpiry does what TransmitLanes says of it. -/
abbrev WhenTrainingRetryExpiry (s : State) (l : Fin 32) : Prop :=
  nGet s.dev (lane_STATE l.val) = 7 ∧
  nGet s.dev (lane_DIRECTION l.val) = 1 ∧
  due s.dev tkRetry l.val = true

/-- When laneReady does what TransmitLanes says of it. -/
abbrev WhenLaneReady (s : State) (l : Fin 32) : Prop :=
  nGet s.dev (lane_DIRECTION l.val) = 1 ∧
  (nGet s.dev (lane_STATE l.val) = 4 ∨ nGet s.dev (lane_STATE l.val) = 5) ∧
  (laneOf s.dev l.val).locked = true

/-- When laneReady does what TransmitLanes says of it (Receive). -/
abbrev WhenLaneReadyReceive (s : State) (l : Fin 32) (i : Fin 16) : Prop :=
  nGet s.dev (lane_DIRECTION l.val) = 2 ∧
  (nGet s.dev (lane_STATE l.val) = 2 ∨ nGet s.dev (lane_STATE l.val) = 3) ∧
  (laneOf s.dev l.val).blockLock = true ∧
  nGet s.dev (vin_LANE i.val) = l.val

/-- When commaLockLoss does what TransmitLanes says of it. -/
abbrev WhenCommaLockLoss (s : State) (l : Fin 32) : Prop :=
  nGet s.dev (lane_STATE l.val) = 6 ∧
  nGet s.dev (lane_DIRECTION l.val) = 1

/-- When statusTimeout does what TransmitLanes says of it. -/
abbrev WhenStatusTimeout (s : State) (l : Fin 32) : Prop :=
  nGet s.dev (lane_STATE l.val) = 6 ∧
  nGet s.dev (lane_DIRECTION l.val) = 1 ∧
  due s.dev tkStatus l.val = true

/-- When packetEnd does what TransmitLanes says of it (Training). -/
abbrev WhenPacketEndTraining (s : State) (l : Fin 32) : Prop :=
  nGet s.dev (lane_DIRECTION l.val) = 1 ∧
  1 ≤ nGet s.dev (lane_STATE l.val) ∧
  nGet s.dev (lane_STATE l.val) ≤ 5

/-- When packetEnd does what TransmitLanes says of it (Line). -/
abbrev WhenPacketEndLine (s : State) (l : Fin 32) (p : Packet) (ps : List Packet) : Prop :=
  nGet s.dev (lane_DIRECTION l.val) = 1 ∧
  nGet s.dev (lane_STATE l.val) = 6 ∧
  laneBonded s.dev l.val = false ∧
  (laneOf s.dev l.val).sinceIdle < 2048 ∧
  ready (laneOf s.dev l.val) 0x66 (laneOf s.dev l.val).modeQ = none ∧
  ready (laneOf s.dev l.val) 0x55 (laneOf s.dev l.val).sigQ = none ∧
  (laneOf s.dev l.val).lineQ = p :: ps

/-- When packetEnd does what TransmitLanes says of it (Idle). -/
abbrev WhenPacketEndIdle (s : State) (l : Fin 32) : Prop :=
  nGet s.dev (lane_DIRECTION l.val) = 1 ∧
  nGet s.dev (lane_STATE l.val) = 6 ∧
  laneBonded s.dev l.val = false ∧
  (laneOf s.dev l.val).lineQ = [] ∧
  (2048 ≤ (laneOf s.dev l.val).sinceIdle ∨ ((laneOf s.dev l.val).again = [] ∧ (laneOf s.dev l.val).modeQ = [] ∧ (laneOf s.dev l.val).sigQ = [] ∧ (laneOf s.dev l.val).audioQ = [] ∧ (laneOf s.dev l.val).ctrlQ = []))

/-- When ack does what TransmitLanes says of it. -/
abbrev WhenAck (s : State) (l : Fin 32) (msg : List Symbol) (p : List Byte) (seq : Nat) : Prop :=
  nGet s.dev (lane_DIRECTION l.val) = 1 ∧
  2 ≤ nGet s.dev (lane_STATE l.val) ∧ nGet s.dev (lane_STATE l.val) ≠ 7 ∧
  bcDecode msg = some (1, seq, p) ∧
  bcFull s.dev l.val = true ∧
  (laneOf s.dev l.val).unacked.any (fun q => decide (q.seq = ofLe (sliceOf p 0 1))) = true

/-- When nak does what TransmitLanes says of it. -/
abbrev WhenNak (s : State) (l : Fin 32) (msg : List Symbol) (p : List Byte) (seq : Nat) : Prop :=
  nGet s.dev (lane_DIRECTION l.val) = 1 ∧
  2 ≤ nGet s.dev (lane_STATE l.val) ∧ nGet s.dev (lane_STATE l.val) ≠ 7 ∧
  bcDecode msg = some (2, seq, p) ∧
  bcFull s.dev l.val = true

/-- When retransmitTimeout does what TransmitLanes says of it. -/
abbrev WhenRetransmitTimeout (s : State) (l : Fin 32) : Prop :=
  nGet s.dev (lane_STATE l.val) = 6 ∧
  nGet s.dev (lane_DIRECTION l.val) = 1 ∧
  due s.dev tkAck l.val = true ∧
  (laneOf s.dev l.val).unacked ≠ []

/-- When status does what TransmitLanes says of it. -/
abbrev WhenStatus (s : State) (l : Fin 32) (msg : List Symbol) (p : List Byte) (seq : Nat) : Prop :=
  nGet s.dev (lane_DIRECTION l.val) = 1 ∧
  nGet s.dev (lane_STATE l.val) = 6 ∧
  bcDecode msg = some (3, seq, p) ∧
  p.length = 8

/-- When sigret does what TransmitLanes says of it. -/
abbrev WhenSigret (s : State) (l : Fin 32) (msg : List Symbol) (p : List Byte) (seq : Nat) (h : Fin 16) : Prop :=
  nGet s.dev (lane_DIRECTION l.val) = 1 ∧
  2 ≤ nGet s.dev (lane_STATE l.val) ∧ nGet s.dev (lane_STATE l.val) ≠ 7 ∧
  bcDecode msg = some (4, seq, p) ∧
  bcFull s.dev l.val = true ∧
  p.length = 4 + 4 * ofLe (sliceOf p 1 1) ∧
  nGet s.dev (head_STATE h.val) ≠ 0 ∧
  headLane s.dev h.val = l.val

/-- When linestat does what TransmitLanes says of it. -/
abbrev WhenLinestat (s : State) (l : Fin 32) (msg : List Symbol) (p : List Byte) (seq : Nat) : Prop :=
  nGet s.dev (lane_DIRECTION l.val) = 1 ∧
  2 ≤ nGet s.dev (lane_STATE l.val) ∧ nGet s.dev (lane_STATE l.val) ≠ 7 ∧
  bcDecode msg = some (5, seq, p) ∧
  bcFull s.dev l.val = true ∧
  p.length = 8

/-- When data does what TransmitLanes says of it. -/
abbrev WhenData (s : State) (l : Fin 32) (msg : List Symbol) (p : List Byte) : Prop :=
  nGet s.dev (lane_DIRECTION l.val) = 1 ∧
  2 ≤ nGet s.dev (lane_STATE l.val) ∧ nGet s.dev (lane_STATE l.val) ≠ 7 ∧
  bcDecode msg = some (6, (laneOf s.dev l.val).bcSeq, p) ∧
  bcFull s.dev l.val = true

/-- When blockLock does what ReceiveLanesAndPower says of it. -/
abbrev WhenBlockLock (s : State) (l : Fin 32) : Prop :=
  nGet s.dev (lane_DIRECTION l.val) = 2 ∧
  nGet s.dev (lane_STATE l.val) ≠ 0

/-- When blockLockLoss does what ReceiveLanesAndPower says of it. -/
abbrev WhenBlockLockLoss (s : State) (l : Fin 32) : Prop :=
  nGet s.dev (lane_DIRECTION l.val) = 2 ∧
  (laneOf s.dev l.val).blockLock = true

/-- When statusSend does what ReceiveLanesAndPower says of it. -/
abbrev WhenStatusSend (s : State) (l : Fin 32) : Prop :=
  nGet s.dev (lane_DIRECTION l.val) = 2 ∧
  nGet s.dev (lane_STATE l.val) ≠ 0 ∧
  due s.dev tkStatusSend l.val = true

/-- When rxModePacket does what ReceiveLanesAndPower says of it. -/
abbrev WhenRxModePacket (s : State) (l : Fin 32) (pkt body : List Byte) (seq sub : Nat) (i : Fin 16) : Prop :=
  rxOpen s.dev l.val = true ∧
  parseProtected pkt = some (0x66, seq, sub, body) ∧
  seq = (laneOf s.dev l.val).rxSeq ∧
  body.length = 32 ∧
  nGet s.dev (vin_LANE i.val) = l.val

/-- When rxProtectedPacket does what ReceiveLanesAndPower says of it. -/
abbrev WhenRxProtectedPacket (s : State) (l : Fin 32) (pkt body : List Byte) (typ seq sub : Nat) : Prop :=
  rxOpen s.dev l.val = true ∧
  parseProtected pkt = some (typ, seq, sub, body) ∧
  typ ≠ 0x66

/-- When rxProtectedPacket does what ReceiveLanesAndPower says of it (Bad). -/
abbrev WhenRxProtectedPacketBad (s : State) (l : Fin 32) (pkt : List Byte) : Prop :=
  rxOpen s.dev l.val = true ∧
  [0x33, 0x55, 0x66].contains (pkt.getD 0 0).toNat = true ∧
  parseProtected pkt = none

/-- When rxProtectedPacket does what ReceiveLanesAndPower says of it (Unknown). -/
abbrev WhenRxProtectedPacketUnknown (s : State) (l : Fin 32) (pkt : List Byte) : Prop :=
  nGet s.dev (lane_DIRECTION l.val) = 2 ∧
  (laneOf s.dev l.val).blockLock = true ∧
  pkt ≠ [] ∧
  packetTypes.contains (pkt.getD 0 0).toNat = false

/-- When rxLinePacket does what ReceiveLanesAndPower says of it. -/
abbrev WhenRxLinePacket (s : State) (l : Fin 32) (pkt : List Byte) (i : Fin 16) (n line off base : Nat) : Prop :=
  rxOpen s.dev l.val = true ∧
  dramServes s.dev = true ∧
  headerGood pkt = true ∧
  (sliceOf pkt 0 1).head? = some 0x2D ∧
  n = (ofLe (sliceOf pkt 6 1) % 128 + 1) * 8 ∧
  pkt.length = 16 + n ∧
  line = ofLe (sliceOf pkt 2 2) % 2 ^ 14 ∧
  off = ofLe (sliceOf pkt 4 2) % 2 ^ 12 * 8 ∧
  bitOf (ofLe (sliceOf pkt 1 1)) 0 = false ∧
  bitOf (ofLe (sliceOf pkt 1 1)) 1 = true ∧
  crc32 (sliceOf pkt 8 n) = ofLe (sliceOf pkt (8 + n) 4) ∧
  inputsOf s.dev l.val = [i.val] ∧
  nGet s.dev (vin_WRITING i.val) ≠ 0xFF ∧
  (vinOf s.dev i.val).dropping = false ∧
  (vinOf s.dev i.val).part = none ∧
  (vinOf s.dev i.val).held = [] ∧
  nGet s.dev (vin_STREAM_STATE i.val) = 3 ∧
  streamFits s.dev i.val = true ∧
  line < nGet s.dev (vin_HEIGHT i.val) ∧
  off + n ≤ lineBytes (nGet s.dev (vin_FORMAT i.val)) (nGet s.dev (vin_WIDTH i.val)) ∧
  base = bufferBase s.dev 16 (refInst (vinOf s.dev i.val).surface) (nGet s.dev (vin_WRITING i.val)) + line * surfPitch s.dev (refInst (vinOf s.dev i.val).surface) ∧
  rmwFailures s.dev (base + off) n = [] ∧
  (∀ k < n, takesWrite s.dev (base + off + k) = true)

/-- When rxLinePacket does what ReceiveLanesAndPower says of it (Kept). -/
abbrev WhenRxLinePacketKept (s : State) (l : Fin 32) (pkt : List Byte) (i : Fin 16) (n line off base : Nat) : Prop :=
  rxOpen s.dev l.val = true ∧
  dramServes s.dev = true ∧
  headerGood pkt = true ∧
  (sliceOf pkt 0 1).head? = some 0x2D ∧
  n = (ofLe (sliceOf pkt 6 1) % 128 + 1) * 8 ∧
  pkt.length = 16 + n ∧
  line = ofLe (sliceOf pkt 2 2) % 2 ^ 14 ∧
  off = ofLe (sliceOf pkt 4 2) % 2 ^ 12 * 8 ∧
  bitOf (ofLe (sliceOf pkt 1 1)) 0 = false ∧
  bitOf (ofLe (sliceOf pkt 1 1)) 1 = false ∧
  crc32 (sliceOf pkt 8 n) = ofLe (sliceOf pkt (8 + n) 4) ∧
  inputsOf s.dev l.val = [i.val] ∧
  nGet s.dev (vin_WRITING i.val) ≠ 0xFF ∧
  (vinOf s.dev i.val).dropping = false ∧
  (vinOf s.dev i.val).part = none ∧
  (vinOf s.dev i.val).held = [] ∧
  nGet s.dev (vin_STREAM_STATE i.val) = 3 ∧
  streamFits s.dev i.val = true ∧
  line < nGet s.dev (vin_HEIGHT i.val) ∧
  off + n ≤ lineBytes (nGet s.dev (vin_FORMAT i.val)) (nGet s.dev (vin_WIDTH i.val)) ∧
  base = bufferBase s.dev 16 (refInst (vinOf s.dev i.val).surface) (nGet s.dev (vin_WRITING i.val)) + line * surfPitch s.dev (refInst (vinOf s.dev i.val).surface)

/-- When pocRampComplete does what ReceiveLanesAndPower says of it. -/
abbrev WhenPocRampComplete (s : State) (l : Fin 32) : Prop :=
  nGet s.dev (lane_POC_STATE l.val) = 1 ∧
  due s.dev tkPocRamp l.val = true ∧
  (nGet s.dev (lane_STATE l.val) ≠ 7 ∨ nGet s.dev (lane_DIRECTION l.val) ≠ 1 ∨ pocAllowed s.dev l.val = true)

/-- When pocCutoff does what ReceiveLanesAndPower says of it. -/
abbrev WhenPocCutoff (s : State) (l : Fin 32) : Prop :=
  nGet s.dev (lane_POC_STATE l.val) = 1 ∨ nGet s.dev (lane_POC_STATE l.val) = 2

/-- When pocCooldownExpiry does what ReceiveLanesAndPower says of it. -/
abbrev WhenPocCooldownExpiry (s : State) (l : Fin 32) : Prop :=
  nGet s.dev (lane_POC_STATE l.val) = 3 ∧
  due s.dev tkPocCool l.val = true

/-- When pocEnableWrite does what ReceiveLanesAndPower says of it. -/
abbrev WhenPocEnableWrite (s : State) (sess : Nat) (l : Fin 32) (v st : Nat) : Prop :=
  writeGate s.dev sess (lane_POC_ENABLE l.val) = none ∧
  l.val < 8 ∧
  v ≤ 1 ∧
  st = nGet s.dev (lane_POC_STATE l.val)

/-- When idResponse does what PanelsAndWear says of it. -/
abbrev WhenIdResponse (s : State) (h : Fin 16) (msg : List Byte) : Prop :=
  nGet s.dev (panel_IDENTITY_STATE h.val) = 1 ∧
  armed s.dev tkId h.val = true ∧
  (sliceOf msg 0 1).head? = some 0x81

/-- When idResponseTimeout does what PanelsAndWear says of it. -/
abbrev WhenIdResponseTimeout (s : State) (h : Fin 16) : Prop :=
  nGet s.dev (panel_IDENTITY_STATE h.val) = 1 ∧
  due s.dev tkId h.val = true

/-- When readReply does what PanelsAndWear says of it. -/
abbrev WhenReadReply (s : State) (h : Fin 16) (msg : List Byte) (t : Nat) : Prop :=
  readingType s.dev h.val = some t ∧
  (sliceOf msg 0 1).head? = some 0x82 ∧
  ofLe (sliceOf msg 1 1) = t ∧
  ofLe (sliceOf msg 2 4) = (recordOf s.dev h.val t).length ∧
  msg.drop 6 ≠ [] ∧
  (recordWhole (recordOf s.dev h.val t ++ msg.drop 6) = false ∨ (nGet s.dev (panel_IDENTITY_STATE h.val) = 1 ∧ t < 3))

/-- When readReply does what PanelsAndWear says of it (Last). -/
abbrev WhenReadReplyLast (s : State) (h : Fin 16) (msg : List Byte) : Prop :=
  readingType s.dev h.val = some 3 ∧
  (sliceOf msg 0 1).head? = some 0x82 ∧
  ofLe (sliceOf msg 1 1) = 3 ∧
  ofLe (sliceOf msg 2 4) = (recordOf s.dev h.val 3).length ∧
  msg.drop 6 ≠ [] ∧
  recordWhole (recordOf s.dev h.val 3 ++ msg.drop 6) = true ∧
  nGet s.dev (panel_IDENTITY_STATE h.val) = 1

/-- When readReply does what PanelsAndWear says of it (Again). -/
abbrev WhenReadReplyAgain (s : State) (h : Fin 16) (msg r : List Byte) : Prop :=
  readingType s.dev h.val = some 2 ∧
  (sliceOf msg 0 1).head? = some 0x82 ∧
  ofLe (sliceOf msg 1 1) = 2 ∧
  ofLe (sliceOf msg 2 4) = (recordOf s.dev h.val 2).length ∧
  msg.drop 6 ≠ [] ∧
  r = recordOf s.dev h.val 2 ++ msg.drop 6 ∧
  recordWhole r = true ∧
  nGet s.dev (panel_IDENTITY_STATE h.val) = 2

/-- When committed does what PanelsAndWear says of it. -/
abbrev WhenCommitted (s : State) (h : Fin 16) (msg : List Byte) (typ gen : Nat) : Prop :=
  typ = ofLe (sliceOf msg 1 1) ∧
  gen = ofLe (sliceOf msg 2 4) ∧
  (sliceOf msg 0 1).head? = some 0x84 ∧
  (panelOf s.dev h.val).writing ≠ 0 ∧
  typ = (panelOf s.dev h.val).writing ∧
  (gen = (if typ = 2 then (panelOf s.dev h.val).genDose + 1 else (panelOf s.dev h.val).genHours + 1))

/-- When committedTimeout does what PanelsAndWear says of it. -/
abbrev WhenCommittedTimeout (s : State) (h : Fin 16) : Prop :=
  (panelOf s.dev h.val).writing ≠ 0 ∧
  due s.dev tkCommitted h.val = true

/-- When writeRetryExpiry does what PanelsAndWear says of it. -/
abbrev WhenWriteRetryExpiry (s : State) (h : Fin 16) : Prop :=
  due s.dev tkWriteRetry h.val = true ∧
  nGet s.dev (panel_IDENTITY_STATE h.val) = 2

/-- When doseSnapshot does what PanelsAndWear says of it. -/
abbrev WhenDoseSnapshot (s : State) (h : Fin 16) : Prop :=
  due s.dev tkDose h.val = true ∧
  nGet s.dev (panel_IDENTITY_STATE h.val) = 2 ∧
  nGet s.dev dev_FK_STATE = 1 ∧
  s.dev.dram.errors = []

/-- When cellRowDose does what PanelsAndWear says of it. -/
abbrev WhenCellRowDose (s : State) (h : Fin 16) (r cols : Nat) : Prop :=
  readyRow s.dev h.val = some r ∧
  cols = max 1 (gridCols (headOf s.dev h.val).timing.hActive) ∧
  mapRisingFrom 0 (panelOf s.dev h.val).sums = true ∧
  doseCounted s.dev h.val = true ∧
  doseHeld s.dev = true

/-- When gainRecompute does what PanelsAndWear says of it. -/
abbrev WhenGainRecompute (s : State) (h : Fin 16) : Prop :=
  due s.dev tkGain h.val = true ∧
  nGet s.dev dev_FK_STATE = 1 ∧
  gainWindow s.dev h.val = true ∧
  s.dev.dram.errors = [] ∧
  (compensated s.dev h.val = true → dosesIn s.dev h.val = true)

/-- When summaryWrite does what PanelsAndWear says of it. -/
abbrev WhenSummaryWrite (s : State) (h : Fin 16) : Prop :=
  due s.dev tkSummary h.val = true ∧
  nGet s.dev (panel_IDENTITY_STATE h.val) = 2

/-- When operatingSecond does what PanelsAndWear says of it. -/
abbrev WhenOperatingSecond (s : State) (h : Fin 16) : Prop :=
  armed s.dev tkOperating h.val = false ∨ due s.dev tkOperating h.val = true

/-- When ackNew does what PanelsAndWear says of it. -/
abbrev WhenAckNew (s : State) (sess : Nat) (h : Fin 16) : Prop :=
  writeGate s.dev sess (panel_ACK_NEW h.val) = none

/-- When rowRead does what PanelsAndWear says of it. -/
abbrev WhenRowRead (s : State) (sess : Nat) (h : Fin 16) (arg : Nat) (l : List Nat) : Prop :=
  writeGate s.dev sess (dose_ROW_READ h.val) = none ∧
  rowCells (panelOf s.dev h.val) arg 85 = some l

/-- When gainRead does what PanelsAndWear says of it. -/
abbrev WhenGainRead (s : State) (sess : Nat) (h : Fin 16) (arg : Nat) (l : List Nat) : Prop :=
  writeGate s.dev sess (dose_GAIN_READ h.val) = none ∧
  rowCells (panelOf s.dev h.val) arg 341 = some l

/-- PRODUCE as the blitter reads it from a ring header (R515): a poisoned one is a free value. -/
def producedAt (s : State) (hd : Nat) : Nat := if rangePoisoned s.dev hd 4 then freeNat s.dev 32 else fabricLe s.dev s.mem hd 4

/-- When post does what MoversAndBlitter says of it. -/
abbrev WhenPost (s : State) (sess : Nat) (n : Fin 32) (addr : Nat) : Prop :=
  writeGate s.dev sess (dma_POST n.val) = none ∧
  nGet s.dev (dma_OWNER n.val) = 0 ∧
  addr < 2 ^ 64 ∧
  (chanOf s.dev n.val).queue.length < 8 ∧
  blockStopped s.dev 5 = false

/-- When abort does what MoversAndBlitter says of it. -/
abbrev WhenAbort (s : State) (sess : Nat) (n : Fin 32) : Prop :=
  writeGate s.dev sess (dma_ABORT n.val) = none

/-- When dmaListStart does what MoversAndBlitter says of it. -/
abbrev WhenDmaListStart (s : State) (n : Fin 32) (a : Nat) : Prop :=
  (chanOf s.dev n.val).job = none ∧
  dramServes s.dev = true ∧
  blockStopped s.dev 5 = false ∧
  ((chanOf s.dev n.val).chain = some a ∨ ((chanOf s.dev n.val).chain = none ∧ (chanOf s.dev n.val).queue.head? = some a)) ∧
  a % 64 = 0 ∧
  jobReads s.dev a 64 = true ∧
  jobReads s.dev a (listBytes s.dev s.mem a) = true ∧
  rangePoisoned s.dev a (listBytes s.dev s.mem a) = false ∧
  checkList s.dev n.val (listOk s.dev s.mem a (readList s.dev s.mem a)) (readList s.dev s.mem a) = none

/-- When dmaListStart does what MoversAndBlitter says of it (Refused). -/
abbrev WhenDmaListStartRefused (s : State) (n : Fin 32) (a : Nat) (st : Status) (det : Nat) : Prop :=
  (chanOf s.dev n.val).job = none ∧
  dramServes s.dev = true ∧
  blockStopped s.dev 5 = false ∧
  ((chanOf s.dev n.val).chain = some a ∨ ((chanOf s.dev n.val).chain = none ∧ (chanOf s.dev n.val).queue.head? = some a)) ∧
  a % 64 = 0 ∧
  jobReads s.dev a 64 = true ∧
  jobReads s.dev a (listBytes s.dev s.mem a) = true ∧
  rangePoisoned s.dev a (listBytes s.dev s.mem a) = false ∧
  checkList s.dev n.val (listOk s.dev s.mem a (readList s.dev s.mem a)) (readList s.dev s.mem a) = some (st, det)

/-- When dmaListComplete does what MoversAndBlitter says of it. -/
abbrev WhenDmaListComplete (s : State) (n : Fin 32) (j : DmaJob) : Prop :=
  (chanOf s.dev n.val).job = some j ∧
  dramServes s.dev = true ∧
  j.aborted = none ∧
  jobReady s.dev 3 n.val j.got = true ∧
  (j.hasRecord = false ∨ rmwFailures s.dev j.record 16 = []) ∧
  (listMoves s.dev s.mem j).all (fun m => decide (moveFails s.dev j.got (badTargets s.dev (listMoves s.dev s.mem j)) m = 0)) = true ∧
  SceneAlloc s.dev

/-- When dmaListComplete does what MoversAndBlitter says of it (Data). -/
abbrev WhenDmaListCompleteData (s : State) (n : Fin 32) (j : DmaJob) : Prop :=
  (chanOf s.dev n.val).job = some j ∧
  dramServes s.dev = true ∧
  j.aborted = none ∧
  j.hasRecord = false ∧
  jobReady s.dev 3 n.val j.got = true ∧
  (listMoves s.dev s.mem j).all (fun m => decide (moveFails s.dev j.got (badTargets s.dev (listMoves s.dev s.mem j)) m = 0)) = true ∧
  (addrsOf j.dst).Nodup ∧
  (addrsOf j.dst).all (fun a => takesWrite s.dev a) = true

/-- When kick does what MoversAndBlitter says of it. -/
abbrev WhenKick (s : State) (sess : Nat) (r : Fin 4) : Prop :=
  writeGate s.dev sess (ring_KICK r.val) = none ∧
  nGet s.dev (ring_OWNER r.val) = 0 ∧
  nGet s.dev (ring_ENABLE r.val) = 1

/-- When ringEnableWrite does what MoversAndBlitter says of it. -/
abbrev WhenRingEnableWrite (s : State) (sess : Nat) (r : Fin 4) (v : Nat) : Prop :=
  writeGate s.dev sess (ring_ENABLE r.val) = none ∧
  v ≤ 1 ∧
  SceneAlloc s.dev

/-- When fill does what MoversAndBlitter says of it. -/
abbrev WhenFill (s : State) (r : Fin 4) (i : Nat) (cmd : List Byte) : Prop :=
  blitTurn s.dev r.val = true ∧
  dramServes s.dev = true ∧
  blockStopped s.dev 5 = false ∧
  i = nGet s.dev (ring_CONSUME r.val) ∧
  jobReads s.dev (slotAddr s.dev r.val i) 64 = true ∧
  cmd = fabricBytes s.dev s.mem (slotAddr s.dev r.val i) 64 ∧
  cmdField cmd 0 1 = 1 ∧
  rangePoisoned s.dev (slotAddr s.dev r.val i) 64 = false ∧
  checkBlit s.dev r.val i cmd (ringOf s.dev r.val).clip = none

/-- When fill does what MoversAndBlitter says of it (Refused). -/
abbrev WhenFillRefused (s : State) (r : Fin 4) (i : Nat) (cmd : List Byte) (st : Status) (det : Nat) : Prop :=
  blitTurn s.dev r.val = true ∧
  dramServes s.dev = true ∧
  blockStopped s.dev 5 = false ∧
  i = nGet s.dev (ring_CONSUME r.val) ∧
  jobReads s.dev (slotAddr s.dev r.val i) 64 = true ∧
  cmd = fabricBytes s.dev s.mem (slotAddr s.dev r.val i) 64 ∧
  cmdField cmd 0 1 = 1 ∧
  rangePoisoned s.dev (slotAddr s.dev r.val i) 64 = false ∧
  checkBlit s.dev r.val i cmd (ringOf s.dev r.val).clip = some (st, det)

/-- When copy does what MoversAndBlitter says of it. -/
abbrev WhenCopy (s : State) (r : Fin 4) (i : Nat) (cmd : List Byte) : Prop :=
  blitTurn s.dev r.val = true ∧
  dramServes s.dev = true ∧
  blockStopped s.dev 5 = false ∧
  i = nGet s.dev (ring_CONSUME r.val) ∧
  jobReads s.dev (slotAddr s.dev r.val i) 64 = true ∧
  cmd = fabricBytes s.dev s.mem (slotAddr s.dev r.val i) 64 ∧
  cmdField cmd 0 1 = 2 ∧
  rangePoisoned s.dev (slotAddr s.dev r.val i) 64 = false ∧
  checkBlit s.dev r.val i cmd (ringOf s.dev r.val).clip = none

/-- When copy does what MoversAndBlitter says of it (Refused). -/
abbrev WhenCopyRefused (s : State) (r : Fin 4) (i : Nat) (cmd : List Byte) (st : Status) (det : Nat) : Prop :=
  blitTurn s.dev r.val = true ∧
  dramServes s.dev = true ∧
  blockStopped s.dev 5 = false ∧
  i = nGet s.dev (ring_CONSUME r.val) ∧
  jobReads s.dev (slotAddr s.dev r.val i) 64 = true ∧
  cmd = fabricBytes s.dev s.mem (slotAddr s.dev r.val i) 64 ∧
  cmdField cmd 0 1 = 2 ∧
  rangePoisoned s.dev (slotAddr s.dev r.val i) 64 = false ∧
  checkBlit s.dev r.val i cmd (ringOf s.dev r.val).clip = some (st, det)

/-- When clip does what MoversAndBlitter says of it. -/
abbrev WhenClip (s : State) (r : Fin 4) (i : Nat) (cmd : List Byte) : Prop :=
  blitTurn s.dev r.val = true ∧
  dramServes s.dev = true ∧
  blockStopped s.dev 5 = false ∧
  i = nGet s.dev (ring_CONSUME r.val) ∧
  jobReads s.dev (slotAddr s.dev r.val i) 64 = true ∧
  cmd = fabricBytes s.dev s.mem (slotAddr s.dev r.val i) 64 ∧
  cmdField cmd 0 1 = 3 ∧
  rangePoisoned s.dev (slotAddr s.dev r.val i) 64 = false ∧
  cmdTransform cmd ≤ 4

/-- When blitCommandComplete does what MoversAndBlitter says of it. -/
abbrev WhenBlitCommandComplete (s : State) (r : Fin 4) (j : BlitJob) : Prop :=
  (ringOf s.dev r.val).job = some j ∧
  dramServes s.dev = true ∧
  jobReady s.dev 6 r.val j.got = true ∧
  (j.status ≠ 0 ∨ cmdField j.cmd 0 1 = 3 ∨ (blitMoves s.dev s.mem j).all (fun m => decide (moveFails s.dev j.got (badTargets s.dev (blitMoves s.dev s.mem j)) m = 0)) = true) ∧
  (j.status ≠ 0 ∨ (rmwFailures s.dev (j.slot + 2) 1 = [] ∧ rmwFailures s.dev (j.slot + 45) 1 = [] ∧ rmwFailures s.dev (j.header + 8) 8 = [])) ∧
  SceneAlloc s.dev

/-- When blitCommandComplete does what MoversAndBlitter says of it (Data). -/
abbrev WhenBlitCommandCompleteData (s : State) (r : Fin 4) (j : BlitJob) : Prop :=
  (ringOf s.dev r.val).job = some j ∧
  dramServes s.dev = true ∧
  jobReady s.dev 6 r.val j.got = true ∧
  j.status = 0 ∧
  cmdField j.cmd 0 1 ≠ 3 ∧
  (blitMoves s.dev s.mem j).all (fun m => decide (moveFails s.dev j.got (badTargets s.dev (blitMoves s.dev s.mem j)) m = 0)) = true ∧
  ((blitMoves s.dev s.mem j).map (·.dst)).Nodup ∧
  (blitMoves s.dev s.mem j).all (fun m => takesWrite s.dev m.dst && (decide (m.dst < j.slot) || decide (j.slot + 64 ≤ m.dst)) && (decide (m.dst < j.header) || decide (j.header + 64 ≤ m.dst))) = true

/-- When engineSample does what AudioBlock says of it. -/
abbrev WhenEngineSample (s : State) : Prop :=
  s.dev.audio.samples ≠ sampleIndex s.dev + 1

/-- When keyOn does what AudioBlock says of it. -/
abbrev WhenKeyOn (s : State) (sess : Nat) (v : Fin 128) : Prop :=
  writeGate s.dev sess (voice_KEY v.val) = none

/-- When keyOff does what AudioBlock says of it. -/
abbrev WhenKeyOff (s : State) (sess : Nat) (v : Fin 128) : Prop :=
  writeGate s.dev sess (voice_KEY v.val) = none

/-- When voiceDurationExpiry does what AudioBlock says of it. -/
abbrev WhenVoiceDurationExpiry (s : State) (v : Fin 128) (t : Nat) : Prop :=
  (voiceOf s.dev v.val).onAt = some t ∧
  (voiceOf s.dev v.val).duration ≠ 0 ∧
  t + ms (voiceOf s.dev v.val).duration ≤ s.dev.now

/-- When waveTableWrite does what AudioBlock says of it. -/
abbrev WhenWaveTableWrite (s : State) (sess : Nat) (t : Fin 32) (samples : List Byte) : Prop :=
  writeGate s.dev sess (wtab_SAMPLES t.val) = none ∧
  samples.length = 512

/-- When gainsWrite does what AudioBlock says of it. -/
abbrev WhenGainsWrite (s : State) (sess : Nat) (o : Fin 48) (gains : List Byte) : Prop :=
  writeGate s.dev sess (xout_GAINS o.val) = none ∧
  gains.length = 128

/-- When filterWrite does what AudioBlock says of it. -/
abbrev WhenFilterWrite (s : State) (sess : Nat) (o : Fin 48) (coefs : List Byte) : Prop :=
  writeGate s.dev sess (xout_FILTER o.val) = none ∧
  coefs.length = 120

/-- When start does what AudioBlock says of it. -/
abbrev WhenStart (s : State) (sess : Nat) (q : Fin 4) (arg : Nat) : Prop :=
  writeGate s.dev sess (seqr_START q.val) = none ∧
  nGet s.dev (seqr_RUNNING q.val) = 0 ∧
  arg ≤ 255

/-- When stop does what AudioBlock says of it. -/
abbrev WhenStop (s : State) (sess : Nat) (q : Fin 4) : Prop :=
  writeGate s.dev sess (seqr_STOP q.val) = none

/-- When sequencerTick does what AudioBlock says of it. -/
abbrev WhenSequencerTick (s : State) (q : Fin 4) : Prop :=
  nGet s.dev (seqr_RUNNING q.val) = 1 ∧
  (16 ≤ nGet s.dev (seqr_CLOCK q.val) ∨ 2 ≤ nGet s.dev (head_STATE (nGet s.dev (seqr_CLOCK q.val)))) ∧
  tickOf s.dev q.val ≠ (seqOf s.dev q.val).last ∧
  (1 < (seqOf s.dev q.val).wait ∨ (bGet s.dev (seqr_STEPS q.val)).length ≤ 4 * (seqOf s.dev q.val).step)

/-- When sequencerTick does what AudioBlock says of it (Key). -/
abbrev WhenSequencerTickKey (s : State) (q : Fin 4) (v w k : Nat) (b : List Byte) : Prop :=
  nGet s.dev (seqr_RUNNING q.val) = 1 ∧
  (16 ≤ nGet s.dev (seqr_CLOCK q.val) ∨ 2 ≤ nGet s.dev (head_STATE (nGet s.dev (seqr_CLOCK q.val)))) ∧
  tickOf s.dev q.val ≠ (seqOf s.dev q.val).last ∧
  (seqOf s.dev q.val).wait ≤ 1 ∧
  b = bGet s.dev (seqr_STEPS q.val) ∧
  k = (seqOf s.dev q.val).step ∧
  4 * (k + 1) < b.length ∧
  v = ofLe (sliceOf b (4 * k) 1) ∧
  v < 128 ∧
  ofLe (sliceOf b (4 * k + 1) 1) = 0 ∧
  w = ofLe (sliceOf b (4 * (k + 1) + 2) 2) ∧
  w ≠ 0

/-- When tdmFrame does what AudioBlock says of it. -/
abbrev WhenTdmFrame (s : State) (p : Fin 4) : Prop :=
  nGet s.dev (tdm_ENABLE p.val) = 1 ∧
  (nGet s.dev (tdm_ROLE p.val) = 0 → mapGet s.dev.audio.tdmAt p.val 0 ≠ tdmInstant s.dev p.val + 1)

/-- When rxAudioPacket does what AudioBlock says of it. -/
abbrev WhenRxAudioPacket (s : State) (l : Fin 32) (pkt body : List Byte) (st ch rate n t : Nat) : Prop :=
  rxOpen s.dev l.val = true ∧
  parseAudio pkt = some (st, ch, rate, n, body) ∧
  t = ofLe (sliceOf body 0 8) ∧
  tbNs s.dev ≤ t

/-- When rxAudioPacket does what AudioBlock says of it (Late). -/
abbrev WhenRxAudioPacketLate (s : State) (l : Fin 32) (pkt body : List Byte) (st ch rate n : Nat) : Prop :=
  rxOpen s.dev l.val = true ∧
  parseAudio pkt = some (st, ch, rate, n, body) ∧
  (ofLe (sliceOf body 0 8) + (n - 1) * (if rate = 0 then 62500 else 31250) / 3 < tbNs s.dev)

/-- A frame that an uplink accepts for its function (R560 to R562). -/
abbrev FrameTaken (d : Dev) (u : Nat) (f : List Byte) : Prop :=
  networkRuns d = true ∧ nGet d (upl_LINK u) = 1 ∧ 60 ≤ f.length ∧ f.length + 4 ≤ nGet d (upl_MTU u) + 22 ∧
  macTakes d u (sliceOf f 0 6) = true ∧ etherTypeTaken (etherBody f).1 = true ∧
  ((etherBody f).1 = 0x22F0 ∨ (etherBody f).1 = 0x88F7 ∨ frameVlan f = nGet d (upl_VLAN_ID u)) ∧
  isFragment (etherBody f).1 (etherBody f).2 = false

/-- A state s followed by one in which one frame, padded to 60 octets, waits last in the best-effort queue of an uplink, and one was received. -/
abbrev RepliesEth (s u : State) (up : Nat) (f : List Byte) : Prop :=
  queueOf u.dev up 3 = queueOf s.dev up 3 ++ [{ octets := f ++ zeros (60 - f.length), mark := .plain }] ∧
  nGet u.dev (upl_RX_FRAMES up) = satAdd 64 (nGet s.dev (upl_RX_FRAMES up)) 1

/-- When uplinkLinkUp does what NetworkPorts says of it. -/
abbrev WhenUplinkLinkUp (s : State) (n : Fin 2) (r : Fin 6) : Prop :=
  (nGet s.dev (upl_MODE n.val) = 1 ∨ nGet s.dev (upl_MODE n.val) = 2) ∧
  networkRuns s.dev = true ∧
  nGet s.dev (upl_LINK n.val) ≠ 1 ∧
  (nGet s.dev (upl_MODE n.val) = 2 → r.val < 4) ∧
  (armed s.dev tkUplink n.val = true → due s.dev tkUplink n.val = true)

/-- When uplinkLinkDown does what NetworkPorts says of it. -/
abbrev WhenUplinkLinkDown (s : State) (n : Fin 2) : Prop :=
  due s.dev tkUplink n.val = true ∧
  nGet s.dev (upl_LINK n.val) ≠ 0

/-- When duplicateAddressDetectionDone does what NetworkPorts says of it. -/
abbrev WhenDuplicateAddressDetectionDone (s : State) (n : Fin 2) : Prop :=
  s.dev.net.checking.contains n.val = true

/-- When uplinkFrameReceived does what NetworkPorts says of it. -/
abbrev WhenUplinkFrameReceived (s : State) (n : Fin 2) (fcsOk : Bool) (f : List Byte) : Prop :=
  networkRuns s.dev = true ∧
  nGet s.dev (upl_LINK n.val) = 1 ∧
  (fcsOk = false ∨ f.length < 60)

/-- When uplinkFrameReceived does what NetworkPorts says of it (Oversize). -/
abbrev WhenUplinkFrameReceivedOversize (s : State) (n : Fin 2) (f : List Byte) : Prop :=
  networkRuns s.dev = true ∧
  nGet s.dev (upl_LINK n.val) = 1 ∧
  60 ≤ f.length ∧
  nGet s.dev (upl_MTU n.val) + 22 < f.length + 4

/-- When uplinkFrameReceived does what NetworkPorts says of it (Dropped). -/
abbrev WhenUplinkFrameReceivedDropped (s : State) (n : Fin 2) (f : List Byte) : Prop :=
  networkRuns s.dev = true ∧
  nGet s.dev (upl_LINK n.val) = 1 ∧
  60 ≤ f.length ∧
  f.length + 4 ≤ nGet s.dev (upl_MTU n.val) + 22 ∧
  (macTakes s.dev n.val (sliceOf f 0 6) = false ∨ etherTypeTaken (etherBody f).1 = false)

/-- When uplinkFrameReceived does what NetworkPorts says of it (Other). -/
abbrev WhenUplinkFrameReceivedOther (s : State) (n : Fin 2) (f : List Byte) : Prop :=
  FrameTaken s.dev n.val f ∧
  (etherBody f).1 = 0x88F7

/-- When arpRequest does what NetworkPorts says of it. -/
abbrev WhenArpRequest (s : State) (n : Fin 2) (f p : List Byte) : Prop :=
  FrameTaken s.dev n.val f ∧
  etherBody f = (0x0806, p) ∧
  nGet s.dev addr_IPV4_ADDR ≠ 0 ∧
  ofBe (sliceOf p 6 2) = 1 ∧
  ofBe (sliceOf p 24 4) = nGet s.dev addr_IPV4_ADDR ∧
  sendsIp s.dev n.val = true ∧
  (queueOf s.dev n.val 3).length < 64

/-- When icmpEcho does what NetworkPorts says of it. -/
abbrev WhenIcmpEcho (s : State) (n : Fin 2) (f p body : List Byte) : Prop :=
  FrameTaken s.dev n.val f ∧
  etherBody f = (0x0800, p) ∧
  nGet s.dev addr_IPV4_ADDR ≠ 0 ∧
  ofBe (sliceOf p 16 4) = nGet s.dev addr_IPV4_ADDR ∧
  ofBe (sliceOf p 9 1) = 1 ∧
  body = sliceOf p (4 * (ofBe (sliceOf p 0 1) % 16)) (ofBe (sliceOf p 2 2) - 4 * (ofBe (sliceOf p 0 1) % 16)) ∧
  ofBe (sliceOf body 0 1) = 8 ∧
  sendsIp s.dev n.val = true ∧
  (queueOf s.dev n.val 3).length < 64

/-- When icmpEcho does what NetworkPorts says of it (Six). -/
abbrev WhenIcmpEchoSix (s : State) (n : Fin 2) (f p a : List Byte) : Prop :=
  FrameTaken s.dev n.val f ∧
  etherBody f = (0x86DD, p) ∧
  (List.range 2).any (fun k => s.dev.net.usable.contains (4 * n.val + k) && ip6Of s.dev n.val k == a) = true ∧
  a = sliceOf p 24 16 ∧
  ofBe (sliceOf p 6 1) = 58 ∧
  1 ≤ ofBe (sliceOf p 4 2) ∧
  ofBe (sliceOf p 40 1) = 128 ∧
  sendsIp s.dev n.val = true ∧
  (queueOf s.dev n.val 3).length < 64

/-- When neighbourSolicitation does what NetworkPorts says of it. -/
abbrev WhenNeighbourSolicitation (s : State) (n : Fin 2) (f p t : List Byte) : Prop :=
  FrameTaken s.dev n.val f ∧
  etherBody f = (0x86DD, p) ∧
  ofBe (sliceOf p 6 1) = 58 ∧
  24 ≤ ofBe (sliceOf p 4 2) ∧
  ofBe (sliceOf p 40 1) = 135 ∧
  t = sliceOf p 48 16 ∧
  (List.range 2).any (fun k => s.dev.net.usable.contains (4 * n.val + k) && ip6Of s.dev n.val k == t) = true ∧
  sliceOf p 8 16 ≠ zeros 16 ∧
  sendsIp s.dev n.val = true ∧
  (queueOf s.dev n.val 3).length < 64

/-- When aafPduReceived does what NetworkPorts says of it. -/
abbrev WhenAafPduReceived (s : State) (n : Fin 2) (l : Fin 16) (f p : List Byte) : Prop :=
  FrameTaken s.dev n.val f ∧
  etherBody f = (0x22F0, p) ∧
  aafTakes s.dev n.val f p l.val = true ∧
  bitOf (ofBe (sliceOf p 1 1)) 0 = true ∧
  aafOctets (ofBe (sliceOf p 16 1)) ≠ 0 ∧
  ofBe (sliceOf p 17 2) % 1024 = nGet s.dev (avtp_CHANNELS l.val) ∧
  (ofBe (sliceOf p 17 1) / 16 = (if nGet s.dev (avtp_RATE l.val) = 1 then 7 else 5)) ∧
  nGet s.dev (avtp_RATE l.val) ≤ 1

/-- When aafPduReceived does what NetworkPorts says of it (Mismatch). -/
abbrev WhenAafPduReceivedMismatch (s : State) (n : Fin 2) (l : Fin 16) (f p : List Byte) : Prop :=
  FrameTaken s.dev n.val f ∧
  etherBody f = (0x22F0, p) ∧
  aafTakes s.dev n.val f p l.val = true ∧
  bitOf (ofBe (sliceOf p 1 1)) 0 = true ∧
  aafOctets (ofBe (sliceOf p 16 1)) ≠ 0 ∧
  ofBe (sliceOf p 17 2) % 1024 ≠ nGet s.dev (avtp_CHANNELS l.val)

/-- When talkerPduSend does what NetworkPorts says of it. -/
abbrev WhenTalkerPduSend (s : State) (t : Fin 16) (q : List (List Int)) (up c : Nat) : Prop :=
  nGet s.dev (avtp_ENABLE (16 + t.val)) = 1 ∧
  networkRuns s.dev = true ∧
  q = mapGet s.dev.audio.gathered t.val [] ∧
  talkerFrames s.dev t.val ≤ q.length ∧
  up = streamUplink s.dev (16 + t.val) ∧
  up < 2 ∧
  nGet s.dev (upl_LINK up) = 1 ∧
  c = nGet s.dev (strm_CLASS (16 + t.val)) ∧
  (queueOf s.dev up (1 + c)).length < queueDepth (1 + c)

/-- When redundancyWrite does what NetworkPorts says of it. -/
abbrev WhenRedundancyWrite (s : State) (sess v : Nat) : Prop :=
  writeGate s.dev sess addr_REDUNDANCY = none ∧
  v ≤ 1

/-- When pdelayExchange does what NetworkPorts says of it. -/
abbrev WhenPdelayExchange (s : State) (n : Fin 2) : Prop :=
  nGet s.dev (upl_GPTP_ROLE n.val) ≠ 0 ∧
  nGet s.dev (upl_LINK n.val) = 1

/-- When gptpSyncSend does what NetworkPorts says of it. -/
abbrev WhenGptpSyncSend (s : State) (n : Fin 2) (k : Nat) : Prop :=
  nGet s.dev (upl_GPTP_ROLE n.val) = 2 ∧
  nGet s.dev (upl_LINK n.val) = 1 ∧
  networkRuns s.dev = true ∧
  (armed s.dev tkSyncSend n.val = true → due s.dev tkSyncSend n.val = true) ∧
  k = (gptpOf s.dev n.val).syncSeq ∧
  (queueOf s.dev n.val 0).length < 8

/-- The device after an RTC tick has advanced its timebase. -/
abbrev afterRtc (d : Dev) : Dev := { d with tb := d.tb + rtcStep, time.adv := d.time.adv + rtcStep, power.ticksSlept := d.power.ticksSlept + 1 }

/-- When rtcTick does what SupplyAndSleep says of it. -/
abbrev WhenRtcTick (s : State) : Prop :=
  rtcCounts s.dev = true ∧
  sleeping s.dev = false

/-- When rtcTick does what SupplyAndSleep says of it (Frost). -/
abbrev WhenRtcTickFrost (s : State) : Prop :=
  s.dev.power.phase = .frost ∧
  (wakeCopies (afterRtc s.dev)).2 = none

/-- When rtcTick does what SupplyAndSleep says of it (Wakes). -/
abbrev WhenRtcTickWakes (s : State) (src det : Nat) : Prop :=
  s.dev.power.phase = .frost ∧
  (wakeCopies (afterRtc s.dev)).2 = some (src, det) ∧
  s.dev.power.tripped = false

/-- When vinValid does what SupplyAndSleep says of it. -/
abbrev WhenVinValid (s : State) : Prop :=
  s.dev.power.phase = .absent

/-- When vinValid does what SupplyAndSleep says of it (Lost). -/
abbrev WhenVinValidLost (s : State) : Prop :=
  s.dev.power.phase = .lost ∧
  s.dev.power.overvolt = false

/-- When vinLoss does what SupplyAndSleep says of it. -/
abbrev WhenVinLoss (s : State) : Prop :=
  operating s.dev = true ∨ s.dev.power.phase = .winter true ∨ s.dev.power.phase = .winter false

/-- When overvoltage does what SupplyAndSleep says of it. -/
abbrev WhenOvervoltage (s : State) : Prop :=
  s.dev.power.phase ≠ .absent ∧
  s.dev.power.phase ≠ .lost

/-- When overvoltageClear does what SupplyAndSleep says of it. -/
abbrev WhenOvervoltageClear (s : State) : Prop :=
  s.dev.power.phase = .lost ∧
  s.dev.power.overvolt = true

/-- When crankEntry does what SupplyAndSleep says of it. -/
abbrev WhenCrankEntry (s : State) : Prop :=
  s.dev.power.phase = .running ∧
  nGet s.dev supply_SUPPLY_STATE ≠ 1

/-- When crankExit does what SupplyAndSleep says of it. -/
abbrev WhenCrankExit (s : State) : Prop :=
  nGet s.dev supply_SUPPLY_STATE = 1

/-- When crankTimeout does what SupplyAndSleep says of it. -/
abbrev WhenCrankTimeout (s : State) : Prop :=
  nGet s.dev supply_SUPPLY_STATE = 1 ∧
  due s.dev tkCrank 0 = true

/-- When restoreStepComplete does what SupplyAndSleep says of it. -/
abbrev WhenRestoreStepComplete (s : State) (step start : Nat) : Prop :=
  s.dev.power.phase = .restoring step start ∧
  due s.dev tkRestore 0 = true ∧
  step ≠ 10

/-- When restoreStepComplete does what SupplyAndSleep says of it (Runs). -/
abbrev WhenRestoreStepCompleteRuns (s : State) (start : Nat) : Prop :=
  s.dev.power.phase = .restoring 10 start ∧
  due s.dev tkRestore 0 = true ∧
  start ≠ 3

/-- When restoreStepComplete does what SupplyAndSleep says of it (Warm). -/
abbrev WhenRestoreStepCompleteWarm (s : State) : Prop :=
  s.dev.power.phase = .restoring 10 3 ∧
  due s.dev tkRestore 0 = true ∧
  s.dev.scene.commits = [] ∧
  SceneAlloc s.dev

/-- When sleepWinter does what SupplyAndSleep says of it. -/
abbrev WhenSleepWinter (s : State) (sess : Nat) : Prop :=
  writeGate s.dev sess power_SLEEP = none ∧
  s.dev.power.sleep = .idle ∧
  s.dev.power.phase = .running ∧
  nGet s.dev supply_SUPPLY_STATE = 0

/-- When sleepFrost does what SupplyAndSleep says of it. -/
abbrev WhenSleepFrost (s : State) (sess : Nat) : Prop :=
  writeGate s.dev sess power_SLEEP = none ∧
  s.dev.power.sleep = .idle ∧
  s.dev.power.phase = .running ∧
  nGet s.dev supply_SUPPLY_STATE = 0

/-- When wearFlushEnd does what SupplyAndSleep says of it. -/
abbrev WhenWearFlushEnd (s : State) : Prop :=
  s.dev.power.sleep = .flush ∧
  (s.dev.wear.flushing = [] ∨ due s.dev tkFlush 0 = true)

/-- When blockStopAnswer does what SupplyAndSleep says of it. -/
abbrev WhenBlockStopAnswer (s : State) (k : Nat) : Prop :=
  s.dev.power.sleep = .stop k ∧
  blockRefuses s.dev k = none ∧
  (k = 4 → busyThreads s.dev true = [] ∧ busyThreads s.dev false = [])

/-- When blockStopAnswer does what SupplyAndSleep says of it (Refuses). -/
abbrev WhenBlockStopAnswerRefuses (s : State) (k r x : Nat) : Prop :=
  s.dev.power.sleep = .stop k ∧
  blockRefuses s.dev k = some (r, x)

/-- When blockStopAnswer does what SupplyAndSleep says of it (Timeout). -/
abbrev WhenBlockStopAnswerTimeout (s : State) (k : Nat) : Prop :=
  s.dev.power.sleep = .stop k ∧
  blockRefuses s.dev k = none ∧
  due s.dev tkStop 0 = true

/-- When stopDelayExpiry does what SupplyAndSleep says of it. -/
abbrev WhenStopDelayExpiry (s : State) (k : Nat) : Prop :=
  s.dev.power.sleep = .delay k ∧
  due s.dev tkStopDelay 0 = true ∧
  k < 12

/-- When stopDelayExpiry does what SupplyAndSleep says of it (Last). -/
abbrev WhenStopDelayExpiryLast (s : State) : Prop :=
  s.dev.power.sleep = .delay 12 ∧
  due s.dev tkStopDelay 0 = true

/-- When sleepRollbackStep does what SupplyAndSleep says of it. -/
abbrev WhenSleepRollbackStep (s : State) (k : Nat) : Prop :=
  s.dev.power.sleep = .rollback k ∧
  due s.dev tkRollback 0 = true ∧
  2 ≤ k

/-- When sleepRollbackStep does what SupplyAndSleep says of it (Last). -/
abbrev WhenSleepRollbackStepLast (s : State) (k : Nat) : Prop :=
  s.dev.power.sleep = .rollback k ∧
  due s.dev tkRollback 0 = true ∧
  k ≤ 1

/-- When wakeN does what SupplyAndSleep says of it. -/
abbrev WhenWakeN (s : State) : Prop :=
  nGet s.dev power_WAKE_N_ENABLE = 1 ∧
  sleeping s.dev = true ∧
  s.dev.power.tripped = false

/-- When wakeN does what SupplyAndSleep says of it (Back). -/
abbrev WhenWakeNBack (s : State) (k : Nat) : Prop :=
  nGet s.dev power_WAKE_N_ENABLE = 1 ∧
  sleeping s.dev = false ∧
  s.dev.power.sleep = .delay k ∧
  1 ≤ k

/-- When resetN does what SupplyAndSleep says of it. -/
abbrev WhenResetN (s : State) : Prop :=
  s.dev.power.phase ≠ .absent ∧
  s.dev.power.phase ≠ .lost ∧
  (s.dev.power.phase ≠ .frost ∨ s.dev.power.tripped = false)

/-- When resetNRelease does what SupplyAndSleep says of it. -/
abbrev WhenResetNRelease (s : State) : Prop :=
  s.dev.power.phase = .held

/-- When thermalSample does what HeatPowerAndBoost says of it. -/
abbrev WhenThermalSample (s : State) (tj pred : Int) (up : Nat) : Prop :=
  s.dev.power.phase = .running ∧
  up = (([4, 3, 2, 1] : List Nat).find? (fun k => stepEnters k tj pred)).getD 0 ∧
  nGet s.dev therm_STEP < up ∧
  SceneAlloc s.dev

/-- When thermalSample does what HeatPowerAndBoost says of it (Down). -/
abbrev WhenThermalSampleDown (s : State) (tj pred : Int) (t : Nat) : Prop :=
  s.dev.power.phase = .running ∧
  (([4, 3, 2, 1] : List Nat).find? (fun k => stepEnters k tj pred)).getD 0 ≤ nGet s.dev therm_STEP ∧
  1 ≤ nGet s.dev therm_STEP ∧
  mapFind (coolTimes s.dev tj pred) (nGet s.dev therm_STEP) = some t ∧
  t + 5000000000 ≤ s.dev.now ∧
  SceneAlloc s.dev

/-- When thermalSample does what HeatPowerAndBoost says of it (Holds). -/
abbrev WhenThermalSampleHolds (s : State) (tj pred : Int) : Prop :=
  s.dev.power.phase = .running ∧
  (([4, 3, 2, 1] : List Nat).find? (fun k => stepEnters k tj pred)).getD 0 ≤ nGet s.dev therm_STEP ∧
  (nGet s.dev therm_STEP = 0 ∨ (mapFind (coolTimes s.dev tj pred) (nGet s.dev therm_STEP)).all (fun t => decide (s.dev.now < t + 5000000000)) = true)

/-- When thermalTrip does what HeatPowerAndBoost says of it. -/
abbrev WhenThermalTrip (s : State) : Prop :=
  powered s.dev = true

/-- When powerAverage does what HeatPowerAndBoost says of it. -/
abbrev WhenPowerAverage (s : State) : Prop :=
  SceneAlloc s.dev

/-- When boostRequest does what HeatPowerAndBoost says of it. -/
abbrev WhenBoostRequest (s : State) (sess n : Nat) : Prop :=
  writeGate s.dev sess boost_REQUEST = none ∧
  1 ≤ n ∧
  n ≤ 20 ∧
  boostRefusal s.dev = 0

/-- When boostRequest does what HeatPowerAndBoost says of it (Refused). -/
abbrev WhenBoostRequestRefused (s : State) (sess n : Nat) : Prop :=
  writeGate s.dev sess boost_REQUEST = none ∧
  1 ≤ n ∧
  n ≤ 20 ∧
  boostRefusal s.dev ≠ 0

/-- When boostEndRequest does what HeatPowerAndBoost says of it. -/
abbrev WhenBoostEndRequest (s : State) (sess : Nat) : Prop :=
  writeGate s.dev sess boost_REQUEST = none

/-- When boostEpisodeEnd does what HeatPowerAndBoost says of it. -/
abbrev WhenBoostEpisodeEnd (s : State) : Prop :=
  (due s.dev tkBoost 0 = true ∨ 30000 ≤ boostWindow s.dev) ∧
  nGet s.dev boost_STATE = 1

/-- When boostLifetimeFuse does what HeatPowerAndBoost says of it. -/
abbrev WhenBoostLifetimeFuse (s : State) : Prop :=
  fusesFor (boostLife s.dev / 10 ^ 9) = 300 ∧
  s.dev.power.boostFuses ≤ 300 ∧
  nGet s.dev boost_STATE ≤ 2

/-- When boostLifetimeFuse does what HeatPowerAndBoost says of it (Burns). -/
abbrev WhenBoostLifetimeFuseBurns (s : State) : Prop :=
  fusesFor (boostLife s.dev / 10 ^ 9) < 300 ∧
  s.dev.power.boostFuses < 300

/-- When kindlingStart does what StartupAndTrust says of it. -/
abbrev WhenKindlingStart (s : State) : Prop :=
  s.dev.trust.kindling = true

/-- When imageVerifyComplete does what StartupAndTrust says of it. -/
abbrev WhenImageVerifyComplete (s : State) (i other : Fin 8) : Prop :=
  mapFind s.dev.trust.trying (slotType i.val) = some i.val ∧
  i.val = preferredSlot s.dev (slotType i.val) ∧
  (other.val = (if i.val % 2 = 0 then i.val + 1 else i.val - 1)) ∧
  (slotType i.val = 2 ∨ slotType i.val = 4) ∧
  s.dev.trust.released = true

/-- When imageVerifyComplete does what StartupAndTrust says of it (Last). -/
abbrev WhenImageVerifyCompleteLast (s : State) (i : Fin 8) : Prop :=
  mapFind s.dev.trust.trying (slotType i.val) = some i.val ∧
  i.val ≠ preferredSlot s.dev (slotType i.val) ∧
  s.dev.trust.released = true

/-- When imageVerifyComplete does what StartupAndTrust says of it (Releases). -/
abbrev WhenImageVerifyCompleteReleases (s : State) (i : Fin 8) : Prop :=
  mapFind s.dev.trust.trying (slotType i.val) = some i.val ∧
  s.dev.trust.released = false ∧
  ((slotType i.val = 1 ∧ s.dev.trust.concluded.contains 3 = true) ∨ (slotType i.val = 3 ∧ s.dev.trust.concluded.contains 1 = true))

/-- When firekeeperImageRetry does what StartupAndTrust says of it. -/
abbrev WhenFirekeeperImageRetry (s : State) : Prop :=
  due s.dev tkFkRetry 0 = true

/-- When hearthPackageLoaded does what StartupAndTrust says of it. -/
abbrev WhenHearthPackageLoaded (s : State) (i n : Nat) (p img : List Byte) : Prop :=
  nGet s.dev hearth_PACKAGE_STATE = 1 ∧
  activeSlot s.dev 2 = some i ∧
  p = imagePayload (slotBytes s.dev i) ∧
  n = ofLe (sliceOf p 0 4) ∧
  n ≤ storeSize ∧
  4 + n ≤ p.length ∧
  p.length < 8 + roundUp n 4 ∧
  img = ((List.range n).zip (sliceOf p 4 n)).map (fun x => storeOctet x.1 x.2)

/-- When bootSceneApply does what StartupAndTrust says of it. -/
abbrev WhenBootSceneApply (s : State) : Prop :=
  s.dev.trust.scene = 0 ∧
  s.dev.trust.released = true ∧
  (activeSlot s.dev 4).isSome = true ∧
  dramServes s.dev = true ∧
  nGet s.dev dev_FK_STATE = 1

/-- When startDoneDeadline does what StartupAndTrust says of it. -/
abbrev WhenStartDoneDeadline (s : State) : Prop :=
  s.dev.trust.released = true ∧
  nGet s.dev dev_START_DONE ≠ 1 ∧
  (startMissing s.dev = 0 ∨ due s.dev tkStartDone 0 = true)

/-- When firekeeperRestart does what StartupAndTrust says of it. -/
abbrev WhenFirekeeperRestart (s : State) : Prop :=
  nGet s.dev dev_FK_STATE = 1

/-- When load does what StartupAndTrust says of it. -/
abbrev WhenLoad (s : State) (sess i : Nat) (p : List Byte) : Prop :=
  writeGate s.dev sess (prog_LOAD i) = none ∧
  allocOf s.dev (mref 0x17 i 0) ≠ 2 ∧
  objectLeased s.dev (mref 0x17 i 0) = false ∧
  p = imagePayload (bGet s.dev (prog_IMAGE i)) ∧
  loadRange p = false

/-- When erase does what StartupAndTrust says of it. -/
abbrev WhenErase (s : State) (sess : Nat) (i : Fin 8) : Prop :=
  writeGate s.dev sess (slotImg_ERASE i.val) = none ∧
  nGet s.dev (slotImg_ACTIVE i.val) ≠ 1

/-- When verify does what StartupAndTrust says of it. -/
abbrev WhenVerify (s : State) (sess : Nat) (i : Fin 8) : Prop :=
  writeGate s.dev sess (slotImg_VERIFY i.val) = none

/-- When activate does what StartupAndTrust says of it. -/
abbrev WhenActivate (s : State) (sess : Nat) (i other : Fin 8) : Prop :=
  writeGate s.dev sess (slotImg_ACTIVATE i.val) = none ∧
  nGet s.dev (slotImg_ACTIVE i.val) ≠ 1 ∧
  nGet s.dev (slotImg_STATE i.val) = 2 ∧
  (other.val = (if i.val % 2 = 0 then i.val + 1 else i.val - 1))

/-- When enrol does what StartupAndTrust says of it. -/
abbrev WhenEnrol (s : State) (sess : Nat) (k : List Byte) : Prop :=
  writeGate s.dev sess sec_ENROL = none ∧
  nGet s.dev dev_LIFECYCLE = 0 ∧
  k.length = 97

/-- When revoke does what StartupAndTrust says of it. -/
abbrev WhenRevoke (s : State) (sess n : Nat) : Prop :=
  writeGate s.dev sess sec_REVOKE = none ∧
  n < 256 ∧
  fieldOf n 5 2 = 0

/-- When revokeSlot does what StartupAndTrust says of it. -/
abbrev WhenRevokeSlot (s : State) (sess : Nat) (r : Ref) : Prop :=
  writeGate s.dev sess (mref 8 (refInst r) 3) = none

/-- When advance does what StartupAndTrust says of it. -/
abbrev WhenAdvance (s : State) (sess typ v : Nat) : Prop :=
  writeGate s.dev sess sec_ADVANCE = none ∧
  1 ≤ typ ∧
  typ ≤ 5 ∧
  fuseCount s.dev typ ≤ v ∧
  v ≤ 64 ∧
  (typ = 5 ∨ (activeSlot s.dev typ).any (fun i => decide (v ≤ nGet s.dev (slotImg_SECURITY_VERSION i))) = true)

/-- When attest does what StartupAndTrust says of it. -/
abbrev WhenAttest (s : State) (sess : Nat) (nonce : List Byte) : Prop :=
  writeGate s.dev sess sec_ATTEST = none ∧
  nonce.length = 32

/-- What nop, ldA, ldX and 39 more leave: one clause of FrameBeamArithmetic. -/
def FrameNop : Prop :=
  ∀ (t : Fin 384) (w : Be32Op), ∀ c ∈ ([.nop t w, .ldA t w, .ldX t w, .ldY t w, .ldB t w, .ldH t w, .mvXa t w, .mvYa t w, .mvAx t w, .mvAy t w, .mvAl t w, .mvAt t w, .mvAf t w, .mvFa t w, .add t w, .addC t w, .sub t w, .subC t w, .rsb t w, .and t w, .or t w, .xor t w, .cmp t w, .cmpX t w, .cmpY t w, .tst t w, .shl t w, .shr t w, .sar t w, .min t w, .max t w, .addX t w, .addY t w, .mul t w, .mulq t w, .div t w, .recip t w, .sqrt t w, .sincos t w, .jmp t w, .call t w, .ret t w] : List Instr), OnlyChanges c (raiseParts ++ [.dram, .threads, .bells, .scratch, .dcache, .icache, .posts]) [0x70] (raiseMembers ++ [prog_RUN_STATE 0, prog_FAULT_CODE 0, prog_FAULT_PC 0, prog_FAULTS 0, errLog_TIME 0, errLog_ADDRESS 0, errLog_WHERE 0, errLog_MASTER 0, errLog_KIND 0, mem_SRAM_CORRECTED, mem_SRAM_UNCORRECTABLE, mem_LOG_NEXT])

/-- What stA, stX, stY and 2 more leave: one clause of FrameBeamArithmetic. -/
def FrameStA : Prop :=
  ∀ (t : Fin 384) (w : Be32Op), ∀ c ∈ ([.stA t w, .stX t w, .stY t w, .stB t w, .stH t w] : List Instr), OnlyChangesScene c (raiseParts ++ [.mem, .noap, .islands, .scene, .time, .heads, .dram, .stoker, .pipes, .threads, .bells, .scratch, .dcache, .icache, .posts, .lanes, .wear, .movers]) [0x11, 0x12, 0x13, 0x14, 0x15, 0x16, 0x17, 0x70] (raiseMembers ++ [head_LOCKED_WRITES 0, commitCtl_STAGED_COUNT, chanRep_SCAN_PEAK 0, migRep_MIG_SURFACE, stepRep_STEPS, chanRep_VIDEO_IN 0, migRep_MIG_DEST, stepRep_RHO_PERMILLE, chanRep_SCAN_CAPACITY 0, migRep_MIG_COPIED, stepRep_ACTIONS, chanRep_RETIRED 0, migRep_MIG_QUEUED, migRep_MIGRATIONS_ABORTED, hhead_HO_CAUSE 0, panel_DOSE_GAP_MS 0, vin_STREAM_STATE 0, noap_EVENTS_LOST, ev_TARGET 0, evCtl_DOORBELL_REJECTS, blit_RINGS_ACTIVE, ring_FOREIGN_KICKS 0, chan_STATE 0, errLog_TIME 0, mem_SCRUB_BLOCKS, chan_RETIRE_CAUSE 0, errLog_ADDRESS 0, mem_SCRUB_PASSES, errLog_WHERE 0, mem_LAST_PASS_TIME, chan_CORRECTED 0, errLog_MASTER 0, mem_RESERVE_PERMILLE, chan_UNCORRECTABLE 0, errLog_KIND 0, mem_SEGMENT_MAP, chan_UE_PASS 0, mem_RESERVED_SEGMENT, chan_RMW_FAILS 0, mem_SRAM_CORRECTED, mem_SRAM_UNCORRECTABLE, mem_UNMAPPED_ACCESSES, mem_LOG_NEXT])

/-- What longOpComplete leave: one clause of FrameBeamArithmetic. -/
def FrameLongOpComplete : Prop :=
  ∀ (t : Fin 384), OnlyChangesScene (.longOpComplete t) (raiseParts ++ [.mem, .noap, .islands, .scene, .time, .heads, .dram, .stoker, .pipes, .threads, .bells, .scratch, .dcache, .icache, .posts, .lanes, .wear, .movers]) [0x11, 0x12, 0x13, 0x14, 0x15, 0x16, 0x17, 0x70] (raiseMembers ++ [head_LOCKED_WRITES 0, commitCtl_STAGED_COUNT, chanRep_SCAN_PEAK 0, migRep_MIG_SURFACE, stepRep_STEPS, chanRep_VIDEO_IN 0, migRep_MIG_DEST, stepRep_RHO_PERMILLE, chanRep_SCAN_CAPACITY 0, migRep_MIG_COPIED, stepRep_ACTIONS, chanRep_RETIRED 0, migRep_MIG_QUEUED, migRep_MIGRATIONS_ABORTED, hhead_HO_CAUSE 0, panel_DOSE_GAP_MS 0, vin_STREAM_STATE 0, noap_EVENTS_LOST, ev_TARGET 0, evCtl_DOORBELL_REJECTS, evCtl_EOI_ERRORS, blit_RINGS_ACTIVE, ring_FOREIGN_KICKS 0, chan_STATE 0, errLog_TIME 0, mem_SCRUB_BLOCKS, chan_RETIRE_CAUSE 0, errLog_ADDRESS 0, mem_SCRUB_PASSES, errLog_WHERE 0, mem_LAST_PASS_TIME, chan_CORRECTED 0, errLog_MASTER 0, mem_RESERVE_PERMILLE, chan_UNCORRECTABLE 0, errLog_KIND 0, mem_SEGMENT_MAP, chan_UE_PASS 0, mem_RESERVED_SEGMENT, chan_RMW_FAILS 0, mem_SRAM_CORRECTED, mem_SRAM_UNCORRECTABLE, mem_UNMAPPED_ACCESSES, mem_LOG_NEXT])

/-- What stT leave: one clause of FrameBeamMemory. -/
def FrameStT : Prop :=
  ∀ (t : Fin 384) (w : Be32Op), OnlyChangesScene (.stT t w) (raiseParts ++ [.noap, .islands, .scene, .time, .heads, .dram, .stoker, .pipes, .threads, .bells, .scratch, .dcache, .icache, .posts, .lanes, .wear, .movers]) [0x11, 0x12, 0x13, 0x14, 0x15, 0x16, 0x17, 0x70] (raiseMembers ++ [head_LOCKED_WRITES 0, commitCtl_STAGED_COUNT, chanRep_SCAN_PEAK 0, stepRep_STEPS, chanRep_VIDEO_IN 0, stepRep_RHO_PERMILLE, chanRep_SCAN_CAPACITY 0, stepRep_ACTIONS, chanRep_RETIRED 0, hhead_HO_CAUSE 0, panel_DOSE_GAP_MS 0, vin_STREAM_STATE 0, noap_EVENTS_LOST, ev_TARGET 0, evCtl_DOORBELL_REJECTS, blit_RINGS_ACTIVE, ring_FOREIGN_KICKS 0, chan_STATE 0, errLog_TIME 0, mem_SCRUB_BLOCKS, chan_RETIRE_CAUSE 0, errLog_ADDRESS 0, mem_SCRUB_PASSES, errLog_WHERE 0, mem_LAST_PASS_TIME, chan_CORRECTED 0, errLog_MASTER 0, mem_RESERVE_PERMILLE, chan_UNCORRECTABLE 0, errLog_KIND 0, mem_SEGMENT_MAP, chan_UE_PASS 0, mem_RESERVED_SEGMENT, mem_SRAM_CORRECTED, mem_SRAM_UNCORRECTABLE, mem_LOG_NEXT])

/-- What waitpos, waitev, syncf and 6 more leave: one clause of FrameBeamMemory. -/
def FrameWaitpos : Prop :=
  ∀ (t : Fin 384) (w : Be32Op), ∀ c ∈ ([.waitpos t w, .waitev t w, .syncf t w, .fence t w, .farb t w, .cinv t w, .cinva t w, .ring t w, .dmaq t w] : List Instr), OnlyChanges c (raiseParts ++ [.dram, .threads, .bells, .scratch, .dcache, .icache, .posts]) [0x70] (raiseMembers ++ [prog_RUN_STATE 0, prog_FAULT_CODE 0, prog_FAULT_PC 0, prog_FAULTS 0, errLog_TIME 0, errLog_ADDRESS 0, errLog_WHERE 0, errLog_MASTER 0, errLog_KIND 0, mem_SRAM_CORRECTED, mem_SRAM_UNCORRECTABLE, mem_LOG_NEXT])

/-- What waitposEnd leave: one clause of FrameBeamMemory. -/
def FrameWaitposEnd : Prop :=
  ∀ (t : Fin 384), OnlyChanges (.waitposEnd t) ([.dirty, .threads, .bells, .scratch, .dcache, .icache, .posts]) [] ([prog_RUN_STATE 0])

/-- What waitevClaim leave: one clause of FrameBeamMemory. -/
def FrameWaitevClaim : Prop :=
  ∀ (t : Fin 384), OnlyChanges (.waitevClaim t) ([.timers, .dirty, .events, .threads, .bells, .scratch, .dcache, .icache, .posts]) [] ([prog_RUN_STATE 0, damper_HOLDING 0, damper_HELD_CLAIMS 0, ev_STATE 0, ev_COUNT 0, ev_CLAIMS 0])

/-- What eoi leave: one clause of FrameBeamMemory. -/
def FrameEoi : Prop :=
  ∀ (t : Fin 384) (w : Be32Op), OnlyChanges (.eoi t w) (raiseParts ++ [.dram, .threads, .bells, .scratch, .dcache, .icache, .posts]) [0x70] (raiseMembers ++ [prog_RUN_STATE 0, prog_FAULT_CODE 0, prog_FAULT_PC 0, prog_FAULTS 0, evCtl_EOI_ERRORS, errLog_TIME 0, errLog_ADDRESS 0, errLog_WHERE 0, errLog_MASTER 0, errLog_KIND 0, mem_SRAM_CORRECTED, mem_SRAM_UNCORRECTABLE, mem_LOG_NEXT])

/-- What postQueueDepart leave: one clause of FrameBeamMemory. -/
def FramePostQueueDepart : Prop :=
  ∀ (e : Fin 96), OnlyChangesScene (.postQueueDepart e) (raiseParts ++ [.noap, .islands, .scene, .time, .heads, .dram, .stoker, .pipes, .threads, .bells, .scratch, .dcache, .icache, .posts, .lanes, .wear, .movers]) [0x11, 0x12, 0x13, 0x14, 0x15, 0x16, 0x17, 0x70] (raiseMembers ++ [head_LOCKED_WRITES 0, commitCtl_STAGED_COUNT, chanRep_SCAN_PEAK 0, stepRep_STEPS, chanRep_VIDEO_IN 0, stepRep_RHO_PERMILLE, chanRep_SCAN_CAPACITY 0, stepRep_ACTIONS, chanRep_RETIRED 0, hhead_HO_CAUSE 0, panel_DOSE_GAP_MS 0, vin_STREAM_STATE 0, noap_EVENTS_LOST, ev_TARGET 0, evCtl_DOORBELL_REJECTS, dma_STATE 0, dma_QUEUED 0, dma_FOREIGN_POSTS 0, blit_RINGS_ACTIVE, ring_FOREIGN_KICKS 0, chan_STATE 0, errLog_TIME 0, mem_SCRUB_BLOCKS, chan_RETIRE_CAUSE 0, errLog_ADDRESS 0, mem_SCRUB_PASSES, errLog_WHERE 0, mem_LAST_PASS_TIME, chan_CORRECTED 0, errLog_MASTER 0, mem_RESERVE_PERMILLE, chan_UNCORRECTABLE 0, errLog_KIND 0, mem_SEGMENT_MAP, chan_UE_PASS 0, mem_RESERVED_SEGMENT, mem_SRAM_UNCORRECTABLE, mem_LOG_NEXT])

/-- What storeDrain, loadDataArrival, farWriteResponse leave: one clause of FrameBeamMemory. -/
def FrameStoreDrain : Prop :=
  ∀ (t : Fin 384), ∀ c ∈ ([.storeDrain t, .loadDataArrival t, .farWriteResponse t] : List Instr), OnlyChangesScene c (raiseParts ++ [.mem, .noap, .islands, .scene, .time, .heads, .dram, .stoker, .pipes, .threads, .bells, .scratch, .dcache, .icache, .posts, .lanes, .wear, .movers]) [0x11, 0x12, 0x13, 0x14, 0x15, 0x16, 0x17, 0x70] (raiseMembers ++ [head_LOCKED_WRITES 0, commitCtl_STAGED_COUNT, chanRep_SCAN_PEAK 0, migRep_MIG_SURFACE, stepRep_STEPS, chanRep_VIDEO_IN 0, migRep_MIG_DEST, stepRep_RHO_PERMILLE, chanRep_SCAN_CAPACITY 0, migRep_MIG_COPIED, stepRep_ACTIONS, chanRep_RETIRED 0, migRep_MIG_QUEUED, migRep_MIGRATIONS_ABORTED, hhead_HO_CAUSE 0, panel_DOSE_GAP_MS 0, vin_STREAM_STATE 0, noap_EVENTS_LOST, ev_TARGET 0, evCtl_DOORBELL_REJECTS, evCtl_EOI_ERRORS, blit_RINGS_ACTIVE, ring_FOREIGN_KICKS 0, chan_STATE 0, errLog_TIME 0, mem_SCRUB_BLOCKS, chan_RETIRE_CAUSE 0, errLog_ADDRESS 0, mem_SCRUB_PASSES, errLog_WHERE 0, mem_LAST_PASS_TIME, chan_CORRECTED 0, errLog_MASTER 0, mem_RESERVE_PERMILLE, chan_UNCORRECTABLE 0, errLog_KIND 0, mem_SEGMENT_MAP, chan_UE_PASS 0, mem_RESERVED_SEGMENT, chan_RMW_FAILS 0, mem_SRAM_CORRECTED, mem_SRAM_UNCORRECTABLE, mem_UNMAPPED_ACCESSES, mem_LOG_NEXT])

/-- What timedWriteLanding leave: one clause of FrameBeamMemory. -/
def FrameTimedWriteLanding : Prop :=
  ∀ (isl : Fin 105), OnlyChanges (.timedWriteLanding isl) ([.dirty, .heads, .pipes]) [] ([head_LOCKED_WRITES 0, prog_DROPPED_WRITES 0])

/-- What beamPortQueueFree leave: one clause of FrameBeamMemory. -/
def FrameBeamPortQueueFree : Prop :=
  ∀ (isl : Fin 105), OnlyChangesScene (.beamPortQueueFree isl) (raiseParts ++ [.mem, .noap, .islands, .scene, .time, .heads, .dram, .stoker, .pipes, .threads, .bells, .scratch, .dcache, .icache, .posts, .lanes, .wear, .movers]) [0x11, 0x12, 0x13, 0x14, 0x15, 0x16, 0x17, 0x70] (raiseMembers ++ [head_LOCKED_WRITES 0, commitCtl_STAGED_COUNT, chanRep_SCAN_PEAK 0, migRep_MIG_SURFACE, stepRep_STEPS, chanRep_VIDEO_IN 0, migRep_MIG_DEST, stepRep_RHO_PERMILLE, chanRep_SCAN_CAPACITY 0, migRep_MIG_COPIED, stepRep_ACTIONS, chanRep_RETIRED 0, migRep_MIG_QUEUED, migRep_MIGRATIONS_ABORTED, hhead_HO_CAUSE 0, panel_DOSE_GAP_MS 0, vin_STREAM_STATE 0, noap_EVENTS_LOST, ev_TARGET 0, evCtl_DOORBELL_REJECTS, evCtl_EOI_ERRORS, blit_RINGS_ACTIVE, ring_FOREIGN_KICKS 0, chan_STATE 0, errLog_TIME 0, mem_SCRUB_BLOCKS, chan_RETIRE_CAUSE 0, errLog_ADDRESS 0, mem_SCRUB_PASSES, errLog_WHERE 0, mem_LAST_PASS_TIME, chan_CORRECTED 0, errLog_MASTER 0, mem_RESERVE_PERMILLE, chan_UNCORRECTABLE 0, errLog_KIND 0, mem_SEGMENT_MAP, chan_UE_PASS 0, mem_RESERVED_SEGMENT, chan_RMW_FAILS 0, mem_SRAM_CORRECTED, mem_SRAM_UNCORRECTABLE, mem_UNMAPPED_ACCESSES, mem_LOG_NEXT])

/-- What clusterFault leave: one clause of FrameBeamMemory. -/
def FrameClusterFault : Prop :=
  ∀ (c : ClusterLoss), OnlyChanges (.clusterFault c) (raiseParts ++ [.mem, .dram, .stoker, .pipes, .threads, .bells, .scratch, .dcache, .icache, .posts]) [0x1a, 0x70] (raiseMembers ++ [prog_ENGINE 0, prog_THREAD 0, prog_RUN_STATE 0, hhead_HO_CAUSE 0, errLog_TIME 0, errLog_ADDRESS 0, errLog_WHERE 0, errLog_MASTER 0, mem_RESERVE_PERMILLE, errLog_KIND 0, mem_SRAM_UNCORRECTABLE, mem_LOG_NEXT])

/-- What instructionCacheFill leave: one clause of FrameBeamMemory. -/
def FrameInstructionCacheFill : Prop :=
  ∀ (t : Fin 384), OnlyChangesScene (.instructionCacheFill t) (raiseParts ++ [.mem, .noap, .islands, .scene, .time, .heads, .dram, .stoker, .pipes, .threads, .bells, .scratch, .dcache, .icache, .posts, .lanes, .wear, .movers]) [0x11, 0x12, 0x13, 0x14, 0x15, 0x16, 0x17, 0x1a, 0x70] (raiseMembers ++ [head_LOCKED_WRITES 0, commitCtl_STAGED_COUNT, hhead_HO_CAUSE 0, panel_DOSE_GAP_MS 0, vin_STREAM_STATE 0, noap_EVENTS_LOST, ev_TARGET 0, evCtl_DOORBELL_REJECTS, evCtl_EOI_ERRORS, blit_RINGS_ACTIVE, ring_FOREIGN_KICKS 0, chan_STATE 0, errLog_TIME 0, mem_SCRUB_BLOCKS, chan_RETIRE_CAUSE 0, errLog_ADDRESS 0, mem_SCRUB_PASSES, errLog_WHERE 0, mem_LAST_PASS_TIME, chan_CORRECTED 0, errLog_MASTER 0, mem_RESERVE_PERMILLE, chan_UNCORRECTABLE 0, errLog_KIND 0, mem_SEGMENT_MAP, chan_UE_PASS 0, mem_RESERVED_SEGMENT, chan_RMW_FAILS 0, mem_SRAM_CORRECTED, mem_SRAM_UNCORRECTABLE, mem_UNMAPPED_ACCESSES, mem_LOG_NEXT])

/-- What registerWrite leave: one clause of FrameFabricEventsPins. -/
def FrameRegisterWrite : Prop :=
  ∀ (src : Fin 105) (addr : Nat) (v : Word), OnlyChangesScene (.registerWrite src addr v) (raiseParts ++ [.noap, .islands, .scene, .time, .heads, .dram, .stoker, .pipes, .lanes, .wear, .movers]) [0x11, 0x12, 0x13, 0x14, 0x15, 0x16, 0x17, 0x70] (raiseMembers ++ [head_LOCKED_WRITES 0, commitCtl_STAGED_COUNT, chanRep_SCAN_PEAK 0, stepRep_STEPS, chanRep_VIDEO_IN 0, stepRep_RHO_PERMILLE, chanRep_SCAN_CAPACITY 0, stepRep_ACTIONS, chanRep_RETIRED 0, hhead_HO_CAUSE 0, panel_DOSE_GAP_MS 0, vin_STREAM_STATE 0, noap_EVENTS_LOST, ev_TARGET 0, evCtl_DOORBELL_REJECTS, blit_RINGS_ACTIVE, ring_FOREIGN_KICKS 0, chan_STATE 0, errLog_TIME 0, mem_SCRUB_BLOCKS, chan_RETIRE_CAUSE 0, errLog_ADDRESS 0, mem_SCRUB_PASSES, errLog_WHERE 0, mem_LAST_PASS_TIME, chan_CORRECTED 0, errLog_MASTER 0, mem_RESERVE_PERMILLE, chan_UNCORRECTABLE 0, errLog_KIND 0, mem_SEGMENT_MAP, chan_UE_PASS 0, mem_RESERVED_SEGMENT, mem_SRAM_UNCORRECTABLE, mem_UNMAPPED_ACCESSES, mem_LOG_NEXT])

/-- What untimedWriteArrival leave: one clause of FrameFabricEventsPins. -/
def FrameUntimedWriteArrival : Prop :=
  ∀ (dst : Fin 105) (srcs : List (Fin 105)), OnlyChangesScene (.untimedWriteArrival dst srcs) (raiseParts ++ [.noap, .islands, .scene, .time, .heads, .dram, .stoker, .pipes, .lanes, .wear, .movers]) [0x11, 0x12, 0x13, 0x14, 0x15, 0x16, 0x17, 0x70] (raiseMembers ++ [head_LOCKED_WRITES 0, commitCtl_STAGED_COUNT, chanRep_SCAN_PEAK 0, stepRep_STEPS, chanRep_VIDEO_IN 0, stepRep_RHO_PERMILLE, chanRep_SCAN_CAPACITY 0, stepRep_ACTIONS, chanRep_RETIRED 0, hhead_HO_CAUSE 0, panel_DOSE_GAP_MS 0, vin_STREAM_STATE 0, noap_EVENTS_LOST, ev_TARGET 0, evCtl_DOORBELL_REJECTS, blit_RINGS_ACTIVE, ring_FOREIGN_KICKS 0, chan_STATE 0, errLog_TIME 0, mem_SCRUB_BLOCKS, chan_RETIRE_CAUSE 0, errLog_ADDRESS 0, mem_SCRUB_PASSES, errLog_WHERE 0, mem_LAST_PASS_TIME, chan_CORRECTED 0, errLog_MASTER 0, mem_RESERVE_PERMILLE, chan_UNCORRECTABLE 0, errLog_KIND 0, mem_SEGMENT_MAP, chan_UE_PASS 0, mem_RESERVED_SEGMENT, mem_SRAM_UNCORRECTABLE, mem_LOG_NEXT])

/-- What gatedIslandAccessResume leave: one clause of FrameFabricEventsPins. -/
def FrameGatedIslandAccessResume : Prop :=
  ∀ (isl : Fin 105), OnlyChangesScene (.gatedIslandAccessResume isl) (raiseParts ++ [.noap, .islands, .scene, .time, .heads, .dram, .stoker, .pipes, .lanes, .wear, .movers]) [0x11, 0x12, 0x13, 0x14, 0x15, 0x16, 0x17, 0x70] (raiseMembers ++ [head_LOCKED_WRITES 0, commitCtl_STAGED_COUNT, chanRep_SCAN_PEAK 0, stepRep_STEPS, chanRep_VIDEO_IN 0, stepRep_RHO_PERMILLE, chanRep_SCAN_CAPACITY 0, stepRep_ACTIONS, chanRep_RETIRED 0, hhead_HO_CAUSE 0, panel_DOSE_GAP_MS 0, vin_STREAM_STATE 0, noap_EVENTS_LOST, ev_TARGET 0, evCtl_DOORBELL_REJECTS, blit_RINGS_ACTIVE, ring_FOREIGN_KICKS 0, chan_STATE 0, errLog_TIME 0, mem_SCRUB_BLOCKS, chan_RETIRE_CAUSE 0, errLog_ADDRESS 0, mem_SCRUB_PASSES, errLog_WHERE 0, mem_LAST_PASS_TIME, chan_CORRECTED 0, errLog_MASTER 0, mem_RESERVE_PERMILLE, chan_UNCORRECTABLE 0, errLog_KIND 0, mem_SEGMENT_MAP, chan_UE_PASS 0, mem_RESERVED_SEGMENT, mem_SRAM_UNCORRECTABLE, mem_LOG_NEXT])

/-- What gpioEdge leave: one clause of FrameFabricEventsPins. -/
def FrameGpioEdge : Prop :=
  ∀ (pin : Fin 160) (level : Bool), OnlyChanges (.gpioEdge pin level) (raiseParts ++ [.hearth, .pins, .audio]) [0x70] (raiseMembers ++ [slot_SHOWN 0, sig_STATE 0, sig_IN_LOSS 0, ev_LEVEL 0, bank_DATA_IN 0, matcher_OUTPUT 0, matcher_CHANGES 0])

/-- What matcherDebounceExpiry leave: one clause of FrameFabricEventsPins. -/
def FrameMatcherDebounceExpiry : Prop :=
  ∀ (m : Fin 32), OnlyChanges (.matcherDebounceExpiry m) (raiseParts ++ [.hearth, .audio]) [0x70] (raiseMembers ++ [slot_SHOWN 0, sig_STATE 0, sig_IN_LOSS 0, ev_LEVEL 0, matcher_OUTPUT 0, matcher_CHANGES 0])

/-- What doorbell leave: one clause of FrameFabricEventsPins. -/
def FrameDoorbell : Prop :=
  ∀ (writer : Ref) (v : Word), OnlyChangesScene (.doorbell writer v) (raiseParts ++ [.noap, .scene, .dram, .stoker, .lanes, .wear, .movers]) [0x11, 0x12, 0x13, 0x14, 0x15, 0x16, 0x17, 0x70] (raiseMembers ++ [commitCtl_STAGED_COUNT, chanRep_SCAN_PEAK 0, stepRep_STEPS, chanRep_VIDEO_IN 0, stepRep_RHO_PERMILLE, chanRep_SCAN_CAPACITY 0, stepRep_ACTIONS, chanRep_RETIRED 0, hhead_HO_CAUSE 0, panel_DOSE_GAP_MS 0, vin_STREAM_STATE 0, noap_EVENTS_LOST, ev_TARGET 0, evCtl_DOORBELL_REJECTS, blit_RINGS_ACTIVE, ring_FOREIGN_KICKS 0, chan_STATE 0, errLog_TIME 0, mem_SCRUB_BLOCKS, chan_RETIRE_CAUSE 0, errLog_ADDRESS 0, mem_SCRUB_PASSES, errLog_WHERE 0, mem_LAST_PASS_TIME, chan_CORRECTED 0, errLog_MASTER 0, mem_RESERVE_PERMILLE, chan_UNCORRECTABLE 0, errLog_KIND 0, mem_SEGMENT_MAP, chan_UE_PASS 0, mem_RESERVED_SEGMENT, mem_SRAM_UNCORRECTABLE, mem_LOG_NEXT])

/-- What ringAction leave: one clause of FrameFabricEventsPins. -/
def FrameRingAction : Prop :=
  ∀ (sess source : Nat), OnlyChanges (.ringAction sess source) (raiseParts ++ [.out]) [0x70] (raiseMembers)

/-- What hostClaim leave: one clause of FrameFabricEventsPins. -/
def FrameHostClaim : Prop :=
  ∀ (source : Fin 1024), OnlyChanges (.hostClaim source) ([.timers, .dirty, .noap, .events]) [] ([noap_EVENTS_LOST, damper_HOLDING 0, damper_HELD_CLAIMS 0, ev_STATE 0, ev_COUNT 0, ev_CLAIMS 0])

/-- What damperHoldExpiry leave: one clause of FrameFabricEventsPins. -/
def FrameDamperHoldExpiry : Prop :=
  ∀ (g : Fin 64), OnlyChanges (.damperHoldExpiry g) ([.timers, .dirty, .events]) [] ([damper_HOLDING 0, damper_HELD_CLAIMS 0, ev_STATE 0, ev_COUNT 0, ev_CLAIMS 0])

/-- What eventRoutingWrite leave: one clause of FrameFabricEventsPins. -/
def FrameEventRoutingWrite : Prop :=
  ∀ (sess : Nat) (source : Fin 1024) (m v : Nat), OnlyChanges (.eventRoutingWrite sess source m v) ([.timers, .dirty, .events, .free, .out]) [] ([ev_TARGET 0, damper_HOLDING 0, ev_PROGRAM 0, damper_HELD_CLAIMS 0, ev_WAKE_HOST 0, ev_STATE 0, ev_COUNT 0, ev_CLAIMS 0])

/-- What holdoffWrite leave: one clause of FrameFabricEventsPins. -/
def FrameHoldoffWrite : Prop :=
  ∀ (sess : Nat) (g : Fin 64) (v : Nat), OnlyChanges (.holdoffWrite sess g v) ([.timers, .dirty, .events, .free, .out]) [] ([damper_HOLDOFF_US 0, damper_HOLDING 0, damper_HELD_CLAIMS 0, ev_STATE 0, ev_COUNT 0, ev_CLAIMS 0])

/-- What hostStateWrite leave: one clause of FrameFabricEventsPins. -/
def FrameHostStateWrite : Prop :=
  ∀ (sess v : Nat), OnlyChanges (.hostStateWrite sess v) ([.timers, .dirty, .noap, .events, .free, .out]) [] ([noap_EVENTS_LOST, evCtl_HOST_STATE, damper_HOLDING 0, damper_HELD_CLAIMS 0, ev_STATE 0, ev_COUNT 0, ev_CLAIMS 0])

/-- What set, gpioClear, toggle leave: one clause of FrameFabricEventsPins. -/
def FrameSet : Prop :=
  ∀ (sess : Nat) (b : Fin 5) (mask : Nat), ∀ c ∈ ([.set sess b mask, .gpioClear sess b mask, .toggle sess b mask] : List Instr), OnlyChanges c (raiseParts ++ [.hearth, .pins, .audio, .out]) [0x70] (raiseMembers ++ [slot_SHOWN 0, sig_STATE 0, sig_IN_LOSS 0, ev_LEVEL 0, bank_DATA_IN 0, bank_DATA_OUT 0, matcher_OUTPUT 0, matcher_CHANGES 0, bank_OWNER 0])

/-- What routeWrite leave: one clause of FrameFabricEventsPins. -/
def FrameRouteWrite : Prop :=
  ∀ (sess m v : Nat), OnlyChanges (.routeWrite sess m v) (raiseParts ++ [.hearth, .pins, .audio, .out]) [0x58, 0x70] (raiseMembers ++ [slot_SHOWN 0, sig_STATE 0, sig_IN_LOSS 0, ev_LEVEL 0])

/-- What matcherWrite leave: one clause of FrameFabricEventsPins. -/
def FrameMatcherWrite : Prop :=
  ∀ (sess : Nat) (k : Fin 32) (m v : Nat), OnlyChanges (.matcherWrite sess k m v) (raiseParts ++ [.hearth, .pins, .audio, .out]) [0x58, 0x70] (raiseMembers ++ [slot_SHOWN 0, sig_STATE 0, sig_IN_LOSS 0, ev_LEVEL 0])

/-- What hvsThresholdCrossing leave: one clause of FrameFabricEventsPins. -/
def FrameHvsThresholdCrossing : Prop :=
  ∀ (k : Fin 8) (above : Bool), OnlyChanges (.hvsThresholdCrossing k above) (raiseParts ++ [.hearth, .pins, .audio]) [0x70] (raiseMembers ++ [slot_SHOWN 0, sig_STATE 0, sig_IN_LOSS 0, ev_LEVEL 0, bank_DATA_IN 0, hvs_LEVEL 0, matcher_OUTPUT 0, matcher_CHANGES 0])

/-- What hvsFilterExpiry leave: one clause of FrameFabricEventsPins. -/
def FrameHvsFilterExpiry : Prop :=
  ∀ (k : Fin 8), OnlyChanges (.hvsFilterExpiry k) (raiseParts ++ [.hearth, .pins, .audio]) [0x70] (raiseMembers ++ [slot_SHOWN 0, sig_STATE 0, sig_IN_LOSS 0, ev_LEVEL 0, bank_DATA_IN 0, hvs_LEVEL 0, matcher_OUTPUT 0, matcher_CHANGES 0])

/-- What canFdFrameReceived leave: one clause of FrameSignalsTimeObservation. -/
def FrameCanFdFrameReceived : Prop :=
  ∀ (port : Fin 4) (fmt : CanFormat) (id : Nat) (data : List Byte), OnlyChanges (.canFdFrameReceived port fmt id data) (raiseParts ++ [.mem, .tb, .tbInc, .noap, .scene, .power, .hearth, .pins, .time, .heads, .dram, .stoker, .lanes, .wear, .audio, .movers, .net, .trust, .out]) allClasses ([])

/-- What t1sFrameReceived leave: one clause of FrameSignalsTimeObservation. -/
def FrameT1sFrameReceived : Prop :=
  ∀ (port : Fin 2) (frame : List Byte), OnlyChanges (.t1sFrameReceived port frame) ([.timers, .dirty, .hearth, .audio, .free]) [] ([slot_SHOWN 0, sig_STATE 0, sig_IN_LOSS 0, sig_E2E_FAILS 0, avas_SPEED_KMH, t1s_RX_FRAMES 0, t1s_RX_UNMATCHED 0, t1s_RX_ERRORS 0])

/-- What signalTimeout leave: one clause of FrameSignalsTimeObservation. -/
def FrameSignalTimeout : Prop :=
  ∀ (n : Fin 256), OnlyChanges (.signalTimeout n) ([.timers, .dirty, .hearth, .audio]) [] ([slot_SHOWN 0, sig_STATE 0, sig_IN_LOSS 0, sig_TIMEOUTS 0])

/-- What gptpSync leave: one clause of FrameSignalsTimeObservation. -/
def FrameGptpSync : Prop :=
  ∀ (u : Fin 2) (origin correction rx : Nat), OnlyChanges (.gptpSync u origin correction rx) (raiseParts ++ [.tb, .tbInc, .time, .heads]) [0x70] (raiseMembers ++ [stepLog_TIME 0, stepLog_STEP 0, time_TIME_VALID, stepLog_CAUSE 0, epoch_WAKE_STEP 0, time_STATE, time_OFFSET_NS, time_RATE_PPB, time_STEPS, time_LOG_NEXT])

/-- What setTime leave: one clause of FrameSignalsTimeObservation. -/
def FrameSetTime : Prop :=
  ∀ (sess t : Nat), OnlyChanges (.setTime sess t) (raiseParts ++ [.tb, .time, .heads, .out]) [0x70] (raiseMembers ++ [stepLog_TIME 0, stepLog_STEP 0, time_TIME_VALID, stepLog_CAUSE 0, epoch_WAKE_STEP 0, time_STEPS, time_LOG_NEXT])

/-- What canBusOff leave: one clause of FrameSignalsTimeObservation. -/
def FrameCanBusOff : Prop :=
  ∀ (port : Fin 4), OnlyChanges (.canBusOff port) (raiseParts) [0x70] (raiseMembers ++ [can_STATE 0, can_BUS_OFFS 0])

/-- What canBusOffRecovery leave: one clause of FrameSignalsTimeObservation. -/
def FrameCanBusOffRecovery : Prop :=
  ∀ (port : Fin 4), OnlyChanges (.canBusOffRecovery port) ([.dirty, .net]) [] ([can_STATE 0, can_TEC 0, can_REC 0])

/-- What restart leave: one clause of FrameSignalsTimeObservation. -/
def FrameRestart : Prop :=
  ∀ (sess : Nat) (port : Fin 4) (arg : Nat), OnlyChanges (.restart sess port arg) ([.dirty, .net, .free, .out]) [] ([can_STATE 0, can_TEC 0, can_REC 0])

/-- What timerPeriod leave: one clause of FrameSignalsTimeObservation. -/
def FrameTimerPeriod : Prop :=
  ∀ (n : Fin 96), OnlyChanges (.timerPeriod n) (raiseParts ++ [.time]) [0x70] (raiseMembers)

/-- What timerCompare leave: one clause of FrameSignalsTimeObservation. -/
def FrameTimerCompare : Prop :=
  ∀ (n : Fin 96) (k : Fin 2), OnlyChanges (.timerCompare n k) (raiseParts ++ [.time]) [0x70] (raiseMembers)

/-- What timerCapture leave: one clause of FrameSignalsTimeObservation. -/
def FrameTimerCapture : Prop :=
  ∀ (n : Fin 96) (rising : Bool), OnlyChanges (.timerCapture n rising) (raiseParts ++ [.time]) [0x70] (raiseMembers)

/-- What captureRead leave: one clause of FrameSignalsTimeObservation. -/
def FrameCaptureRead : Prop :=
  ∀ (n : Fin 96), OnlyChangesScene (.captureRead n) (raiseParts ++ [.noap, .islands, .scene, .time, .heads, .dram, .stoker, .pipes, .lanes, .wear, .movers]) [0x11, 0x12, 0x13, 0x14, 0x15, 0x16, 0x17, 0x70] (raiseMembers ++ [head_LOCKED_WRITES 0, commitCtl_STAGED_COUNT, chanRep_SCAN_PEAK 0, stepRep_STEPS, chanRep_VIDEO_IN 0, stepRep_RHO_PERMILLE, chanRep_SCAN_CAPACITY 0, stepRep_ACTIONS, chanRep_RETIRED 0, hhead_HO_CAUSE 0, panel_DOSE_GAP_MS 0, vin_STREAM_STATE 0, noap_EVENTS_LOST, ev_TARGET 0, evCtl_DOORBELL_REJECTS, blit_RINGS_ACTIVE, ring_FOREIGN_KICKS 0, chan_STATE 0, errLog_TIME 0, mem_SCRUB_BLOCKS, chan_RETIRE_CAUSE 0, errLog_ADDRESS 0, mem_SCRUB_PASSES, errLog_WHERE 0, mem_LAST_PASS_TIME, chan_CORRECTED 0, errLog_MASTER 0, mem_RESERVE_PERMILLE, chan_UNCORRECTABLE 0, errLog_KIND 0, mem_SEGMENT_MAP, chan_UE_PASS 0, mem_RESERVED_SEGMENT, mem_SRAM_UNCORRECTABLE, mem_LOG_NEXT])

/-- What timerEnableWrite, periodWrite leave: one clause of FrameSignalsTimeObservation. -/
def FrameTimerEnableWrite : Prop :=
  ∀ (n : Fin 96) (v : Word), ∀ c ∈ ([.timerEnableWrite n v, .periodWrite n v] : List Instr), OnlyChangesScene c (raiseParts ++ [.noap, .islands, .scene, .time, .heads, .dram, .stoker, .pipes, .lanes, .wear, .movers]) [0x11, 0x12, 0x13, 0x14, 0x15, 0x16, 0x17, 0x70] (raiseMembers ++ [head_LOCKED_WRITES 0, commitCtl_STAGED_COUNT, chanRep_SCAN_PEAK 0, stepRep_STEPS, chanRep_VIDEO_IN 0, stepRep_RHO_PERMILLE, chanRep_SCAN_CAPACITY 0, stepRep_ACTIONS, chanRep_RETIRED 0, hhead_HO_CAUSE 0, panel_DOSE_GAP_MS 0, vin_STREAM_STATE 0, noap_EVENTS_LOST, ev_TARGET 0, evCtl_DOORBELL_REJECTS, blit_RINGS_ACTIVE, ring_FOREIGN_KICKS 0, chan_STATE 0, errLog_TIME 0, mem_SCRUB_BLOCKS, chan_RETIRE_CAUSE 0, errLog_ADDRESS 0, mem_SCRUB_PASSES, errLog_WHERE 0, mem_LAST_PASS_TIME, chan_CORRECTED 0, errLog_MASTER 0, mem_RESERVE_PERMILLE, chan_UNCORRECTABLE 0, errLog_KIND 0, mem_SEGMENT_MAP, chan_UE_PASS 0, mem_RESERVED_SEGMENT, mem_SRAM_UNCORRECTABLE, mem_LOG_NEXT])

/-- What startMaskWrite leave: one clause of FrameSignalsTimeObservation. -/
def FrameStartMaskWrite : Prop :=
  ∀ (c : Fin 12) (v : Word), OnlyChangesScene (.startMaskWrite c v) (raiseParts ++ [.noap, .islands, .scene, .time, .heads, .dram, .stoker, .pipes, .lanes, .wear, .movers]) [0x11, 0x12, 0x13, 0x14, 0x15, 0x16, 0x17, 0x70] (raiseMembers ++ [head_LOCKED_WRITES 0, commitCtl_STAGED_COUNT, chanRep_SCAN_PEAK 0, stepRep_STEPS, chanRep_VIDEO_IN 0, stepRep_RHO_PERMILLE, chanRep_SCAN_CAPACITY 0, stepRep_ACTIONS, chanRep_RETIRED 0, hhead_HO_CAUSE 0, panel_DOSE_GAP_MS 0, vin_STREAM_STATE 0, noap_EVENTS_LOST, ev_TARGET 0, evCtl_DOORBELL_REJECTS, blit_RINGS_ACTIVE, ring_FOREIGN_KICKS 0, chan_STATE 0, errLog_TIME 0, mem_SCRUB_BLOCKS, chan_RETIRE_CAUSE 0, errLog_ADDRESS 0, mem_SCRUB_PASSES, errLog_WHERE 0, mem_LAST_PASS_TIME, chan_CORRECTED 0, errLog_MASTER 0, mem_RESERVE_PERMILLE, chan_UNCORRECTABLE 0, errLog_KIND 0, mem_SEGMENT_MAP, chan_UE_PASS 0, mem_RESERVED_SEGMENT, mem_SRAM_UNCORRECTABLE, mem_LOG_NEXT])

/-- What groupStart leave: one clause of FrameSignalsTimeObservation. -/
def FrameGroupStart : Prop :=
  ∀ (c : Fin 12), OnlyChanges (.groupStart c) ([.time]) [] ([])

/-- What token leave: one clause of FrameSignalsTimeObservation. -/
def FrameToken : Prop :=
  ∀ (sess : Nat) (b : List Byte), OnlyChanges (.token sess b) ([.dirty, .obs, .free, .out]) [] ([obs_TOKEN_STATE, obs_SCOPE, obs_NOT_AFTER, obs_RECORDS_LOST])

/-- What endToken leave: one clause of FrameSignalsTimeObservation. -/
def FrameEndToken : Prop :=
  ∀ (sess arg : Nat), OnlyChanges (.endToken sess arg) ([.dirty, .obs, .free, .out]) [] ([obs_TOKEN_STATE, obs_RECORDS_LOST])

/-- What countersRun, countersStop leave: one clause of FrameSignalsTimeObservation. -/
def FrameCountersRun : Prop :=
  ∀ (sess : Nat), ∀ c ∈ ([.countersRun sess, .countersStop sess] : List Instr), OnlyChanges c ([.obs, .free, .out]) [] ([])

/-- What clear leave: one clause of FrameSignalsTimeObservation. -/
def FrameClear : Prop :=
  ∀ (sess arg : Nat), OnlyChanges (.clear sess arg) ([.dirty, .free, .out]) [] ([ctr_VALUE 0])

/-- What arm leave: one clause of FrameSignalsTimeObservation. -/
def FrameArm : Prop :=
  ∀ (sess arg : Nat), OnlyChanges (.arm sess arg) ([.dirty, .free, .out]) [] ([snap_ARMED])

/-- What trigger leave: one clause of FrameSignalsTimeObservation. -/
def FrameTrigger : Prop :=
  ∀ (sess arg : Nat), OnlyChanges (.trigger sess arg) ([.timers, .dirty, .obs, .free, .out]) [0x70] ([])

/-- What canIntegrated leave: one clause of FrameSignalsTimeObservation. -/
def FrameCanIntegrated : Prop :=
  ∀ (port : Fin 4), OnlyChanges (.canIntegrated port) ([.dirty]) [] ([can_STATE 0])

/-- What canProtocolError leave: one clause of FrameSignalsTimeObservation. -/
def FrameCanProtocolError : Prop :=
  ∀ (port : Fin 4) (transmitter : Bool) (tecAdd recAdd : Nat), OnlyChanges (.canProtocolError port transmitter tecAdd recAdd) (raiseParts ++ [.net]) [0x70] (raiseMembers ++ [can_STATE 0, can_TEC 0, can_REC 0, can_PROTOCOL_ERRORS 0, can_BUS_OFFS 0])

/-- What plcaBeaconReceived leave: one clause of FrameSignalsTimeObservation. -/
def FramePlcaBeaconReceived : Prop :=
  ∀ (port : Fin 2), OnlyChanges (.plcaBeaconReceived port) ([.timers, .dirty]) [] ([t1s_PLCA_STATUS 0])

/-- What plcaBeaconSend leave: one clause of FrameSignalsTimeObservation. -/
def FramePlcaBeaconSend : Prop :=
  ∀ (port : Fin 2), OnlyChanges (.plcaBeaconSend port) ([.dirty, .out]) [] ([t1s_PLCA_STATUS 0])

/-- What plcaBeaconLoss leave: one clause of FrameSignalsTimeObservation. -/
def FramePlcaBeaconLoss : Prop :=
  ∀ (port : Fin 2), OnlyChanges (.plcaBeaconLoss port) (raiseParts) [0x70] (raiseMembers ++ [t1s_PLCA_STATUS 0, t1s_BEACON_LOSSES 0])

/-- What ppsEdge leave: one clause of FrameSignalsTimeObservation. -/
def FramePpsEdge : Prop :=
  OnlyChanges .ppsEdge (raiseParts ++ [.tb, .tbInc, .time, .heads]) [0x70] (raiseMembers ++ [stepLog_TIME 0, stepLog_STEP 0, time_TIME_VALID, stepLog_CAUSE 0, epoch_WAKE_STEP 0, time_STATE, time_OFFSET_NS, time_RATE_PPB, time_PPS_REJECTED, time_STEPS, time_LOG_NEXT])

/-- What syncTimeout leave: one clause of FrameSignalsTimeObservation. -/
def FrameSyncTimeout : Prop :=
  OnlyChanges .syncTimeout (raiseParts ++ [.time]) [0x70] (raiseMembers ++ [time_STATE])

/-- What ppsOutRise, ppsOutFall leave: one clause of FrameSignalsTimeObservation. -/
def FramePpsOutRise : Prop :=
  ∀ c ∈ ([.ppsOutRise, .ppsOutFall] : List Instr), OnlyChanges c ([.timers, .time]) [] ([])

/-- What tokenExpiry leave: one clause of FrameSignalsTimeObservation. -/
def FrameTokenExpiry : Prop :=
  OnlyChanges .tokenExpiry ([.dirty, .obs]) [] ([obs_TOKEN_STATE, obs_RECORDS_LOST])

/-- What chimneyRecordSend leave: one clause of FrameSignalsTimeObservation. -/
def FrameChimneyRecordSend : Prop :=
  OnlyChanges .chimneyRecordSend ([.dirty, .obs, .out]) [] ([obs_RECORDS_SENT])

/-- What snapIn leave: one clause of FrameSignalsTimeObservation. -/
def FrameSnapIn : Prop :=
  OnlyChanges .snapIn ([.timers, .dirty, .obs, .free]) [0x70] ([])

/-- What snapOutEnd leave: one clause of FrameSignalsTimeObservation. -/
def FrameSnapOutEnd : Prop :=
  OnlyChanges .snapOutEnd ([.timers, .obs]) [] ([])

/-- What noapDatagramReceived leave: one clause of FrameHearthSessions. -/
def FrameNoapDatagramReceived : Prop :=
  ∀ (src : UdpSource) (fragment : Bool) (b : List Byte), OnlyChanges (.noapDatagramReceived src fragment b) ([.timers, .dirty, .noap, .scene, .events, .net]) [] ([commitCtl_STAGED_COUNT, noap_SESSIONS, noap_CONTROLLER, noap_TAG_FAIL, noap_DUP_COUNT, noap_FRAG_DROPPED, upl_TX_DISCARDS 0, ev_STATE 0, ev_COUNT 0])

/-- What hello leave: one clause of FrameHearthSessions. -/
def FrameHello : Prop :=
  ∀ (src : UdpSource) (role slot : Nat) (hostKey nonce : List Byte), OnlyChanges (.hello src role slot hostKey nonce) ([.dirty, .noap, .net, .free]) [] ([upl_TX_DISCARDS 0])

/-- What key leave: one clause of FrameHearthSessions. -/
def FrameKey : Prop :=
  ∀ (sess seq : Nat) (sig : List Byte), OnlyChanges (.key sess seq sig) ([.timers, .dirty, .noap, .scene, .events, .net]) [] ([commitCtl_STAGED_COUNT, noap_SESSIONS, noap_CONTROLLER, noap_DUP_COUNT, noap_EVENTS_LOST, upl_TX_DISCARDS 0, evCtl_HOST_STATE, damper_HOLDING 0, damper_HELD_CLAIMS 0, ev_STATE 0, ev_COUNT 0, ev_CLAIMS 0])

/-- What close leave: one clause of FrameHearthSessions. -/
def FrameClose : Prop :=
  ∀ (sess : Nat) (byDevice : Bool), OnlyChanges (.close sess byDevice) ([.timers, .dirty, .noap, .scene, .events, .net]) [] ([commitCtl_STAGED_COUNT, noap_SESSIONS, noap_CONTROLLER, upl_TX_DISCARDS 0, ev_STATE 0, ev_COUNT 0])

/-- What read leave: one clause of FrameHearthSessions. -/
def FrameRead : Prop :=
  ∀ (sess seq : Nat) (staged : Bool) (refs : List Ref), OnlyChanges (.read sess seq staged refs) ([.timers, .dirty, .noap, .scene, .events, .net]) [] ([commitCtl_STAGED_COUNT, noap_SESSIONS, noap_CONTROLLER, noap_DUP_COUNT, upl_TX_DISCARDS 0, ev_STATE 0, ev_COUNT 0])

/-- What write leave: one clause of FrameHearthSessions. -/
def FrameWrite : Prop :=
  ∀ (sess seq : Nat) (items : List WriteItem), OnlyChanges (.write sess seq items) (raiseParts ++ [.mem, .tb, .tbInc, .noap, .scene, .power, .hearth, .pins, .time, .heads, .dram, .stoker, .lanes, .wear, .audio, .movers, .net, .trust]) allClasses ([])

/-- What commit, commitDryRun leave: one clause of FrameHearthSessions. -/
def FrameCommit : Prop :=
  ∀ (sess seq mask : Nat), ∀ c ∈ ([.commit sess seq mask, .commitDryRun sess seq mask] : List Instr), OnlyChanges c ([.timers, .dirty, .noap, .scene, .events, .obs, .net]) [0x18] ([report_NUMBER 0, report_RESULT 0, report_REASON 0, report_HEADS 0, report_RESOURCE 0, report_SLOT 0, report_DEMAND 0, report_CAPACITY 0, report_OBJECT 0, report_DEGRADES 0, report_EVAL_US 0, report_MIGRATIONS 0, noap_SESSIONS, noap_CONTROLLER, noap_DUP_COUNT, upl_TX_DISCARDS 0, ev_STATE 0, ev_COUNT 0, obs_RECORDS_LOST])

/-- What subscribe leave: one clause of FrameHearthSessions. -/
def FrameSubscribe : Prop :=
  ∀ (sess seq : Nat) (items : List SubItem), OnlyChanges (.subscribe sess seq items) ([.timers, .dirty, .noap, .scene, .events, .net]) [] ([commitCtl_STAGED_COUNT, noap_SESSIONS, noap_CONTROLLER, noap_DUP_COUNT, upl_TX_DISCARDS 0, ev_STATE 0, ev_COUNT 0])

/-- What bulk leave: one clause of FrameHearthSessions. -/
def FrameBulk : Prop :=
  ∀ (sess seq : Nat) (target : Ref) (offset : Nat) (data : List Byte), OnlyChanges (.bulk sess seq target offset data) (raiseParts ++ [.mem, .tb, .tbInc, .noap, .scene, .power, .hearth, .pins, .time, .heads, .dram, .stoker, .lanes, .wear, .audio, .movers, .net, .trust]) allClasses ([])

/-- What eventAck leave: one clause of FrameHearthSessions. -/
def FrameEventAck : Prop :=
  ∀ (sess seq : Nat), OnlyChanges (.eventAck sess seq) ([.timers, .dirty, .noap, .scene, .events]) [] ([commitCtl_STAGED_COUNT, noap_SESSIONS, noap_CONTROLLER, ev_STATE 0, ev_COUNT 0])

/-- What eventSend leave: one clause of FrameHearthSessions. -/
def FrameEventSend : Prop :=
  ∀ (sess : Nat), OnlyChanges (.eventSend sess) ([.timers, .dirty, .noap, .scene, .events, .net]) [] ([commitCtl_STAGED_COUNT, noap_SESSIONS, noap_CONTROLLER, upl_TX_DISCARDS 0, ev_STATE 0, ev_COUNT 0])

/-- What eventRepeatExpiry leave: one clause of FrameHearthSessions. -/
def FrameEventRepeatExpiry : Prop :=
  ∀ (sess seq : Nat), OnlyChanges (.eventRepeatExpiry sess seq) ([.timers, .dirty, .noap, .scene, .events, .net]) [] ([commitCtl_STAGED_COUNT, noap_SESSIONS, noap_CONTROLLER, noap_EVENTS_LOST, upl_TX_DISCARDS 0, ev_STATE 0, ev_COUNT 0])

/-- What periodicSubscriptionExpiry leave: one clause of FrameHearthSessions. -/
def FramePeriodicSubscriptionExpiry : Prop :=
  ∀ (sess : Nat) (ref : Ref), OnlyChanges (.periodicSubscriptionExpiry sess ref) ([.dirty, .noap]) [] ([noap_EVENTS_LOST])

/-- What sessionIdleTimeout, sessionLifetimeExpiry leave: one clause of FrameHearthSessions. -/
def FrameSessionIdleTimeout : Prop :=
  ∀ (sess : Nat), ∀ c ∈ ([.sessionIdleTimeout sess, .sessionLifetimeExpiry sess] : List Instr), OnlyChanges c ([.timers, .dirty, .noap, .scene, .events]) [] ([commitCtl_STAGED_COUNT, noap_SESSIONS, noap_CONTROLLER, ev_STATE 0, ev_COUNT 0])

/-- What noapEnableWrite leave: one clause of FrameHearthSessions. -/
def FrameNoapEnableWrite : Prop :=
  ∀ (sess v : Nat), OnlyChanges (.noapEnableWrite sess v) ([.timers, .dirty, .noap, .scene, .events, .free, .out]) [] ([commitCtl_STAGED_COUNT, noap_ENABLE, noap_SESSIONS, noap_CONTROLLER, ev_STATE 0, ev_COUNT 0])

/-- What noapLiteRead, noapLiteWrite leave: one clause of FrameHearthSessions. -/
def FrameNoapLiteRead : Prop :=
  ∀ (port : Fin 4) (fmt : CanFormat) (id : Nat) (frame : List Byte), ∀ c ∈ ([.noapLiteRead port fmt id frame, .noapLiteWrite port fmt id frame] : List Instr), OnlyChanges c (raiseParts ++ [.mem, .tb, .tbInc, .noap, .scene, .power, .hearth, .pins, .time, .heads, .dram, .stoker, .lanes, .wear, .audio, .movers, .net, .trust, .out]) allClasses ([])

/-- What alloc leave: one clause of FrameHearthSessions. -/
def FrameAlloc : Prop :=
  ∀ (sess cls arg : Nat), OnlyChangesScene (.alloc sess cls arg) ([.dirty, .scene, .free, .out]) [0x11, 0x12, 0x13, 0x14, 0x15, 0x16, 0x17] ([commitCtl_STAGED_COUNT])

/-- What free leave: one clause of FrameHearthSessions. -/
def FrameFree : Prop :=
  ∀ (sess cls : Nat) (arg : Ref), OnlyChangesScene (.free sess cls arg) ([.timers, .dirty, .scene, .obs, .dram, .stoker, .free, .out]) [0x11, 0x12, 0x13, 0x14, 0x15, 0x16, 0x17] ([commitCtl_STAGED_COUNT, migRep_MIG_SURFACE, migRep_MIG_DEST, migRep_MIG_COPIED, migRep_MIG_QUEUED, migRep_MIGRATIONS_ABORTED, vin_STREAM_STATE 0, ev_TARGET 0, ctr_VALUE 0])

/-- What realize leave: one clause of FrameHearthSessions. -/
def FrameRealize : Prop :=
  ∀ (sess surf arg : Nat), OnlyChangesScene (.realize sess surf arg) ([.dirty, .noap, .scene, .dram, .free, .out]) [0x11, 0x12, 0x13, 0x14, 0x15, 0x16, 0x17] ([commitCtl_STAGED_COUNT, vin_STREAM_STATE 0, noap_EVENTS_LOST, ev_TARGET 0, mem_SEGMENT_MAP])

/-- What discard leave: one clause of FrameHearthSessions. -/
def FrameDiscard : Prop :=
  ∀ (sess arg : Nat), OnlyChanges (.discard sess arg) ([.dirty, .scene, .free, .out]) [] ([commitCtl_STAGED_COUNT])

/-- What hearthScrub leave: one clause of FrameHearthSessions. -/
def FrameHearthScrub : Prop :=
  ∀ (word : Nat) (flips : Nat), OnlyChanges (.hearthScrub word flips) (raiseParts ++ [.noap, .hearth, .lanes]) [0x70] (raiseMembers ++ [hhead_FAULTS 0, hhead_LAST_FAULT_FRAME 0, hhead_HO_CAUSE 0, hearth_FAULT_PINS, hearth_STORE_CORRECTED, hearth_LAST_FAULT_TIME, noap_EVENTS_LOST, errLog_TIME 0, errLog_ADDRESS 0, errLog_WHERE 0, errLog_MASTER 0, errLog_KIND 0, mem_SRAM_CORRECTED, mem_SRAM_UNCORRECTABLE, mem_LOG_NEXT])

/-- What hearthSlotWrite leave: one clause of FrameHearthSessions. -/
def FrameHearthSlotWrite : Prop :=
  ∀ (sess : Nat) (h : Fin 16) (slot : Fin 64) (m v : Nat), OnlyChanges (.hearthSlotWrite sess h slot m v) ([.dirty, .hearth, .free, .out]) [0x20] ([])

/-- What signalMapWrite leave: one clause of FrameHearthSessions. -/
def FrameSignalMapWrite : Prop :=
  ∀ (sess : Nat) (n : Fin 256) (m v : Nat), OnlyChanges (.signalMapWrite sess n m v) ([.timers, .dirty, .hearth, .audio, .free, .out]) [0x21] ([slot_SHOWN 0])

/-- What hoRequestWrite leave: one clause of FrameHearthSessions. -/
def FrameHoRequestWrite : Prop :=
  ∀ (sess : Nat) (h : Fin 16) (v : Nat), OnlyChanges (.hoRequestWrite sess h v) ([.dirty, .wear, .trust, .free, .out]) [] ([hhead_HO_CAUSE 0, hhead_HO_REQUEST 0])

/-- What orbitEnableWrite leave: one clause of FrameHearthSessions. -/
def FrameOrbitEnableWrite : Prop :=
  ∀ (sess : Nat) (h : Fin 16) (v : Nat), OnlyChanges (.orbitEnableWrite sess h v) ([.dirty, .free, .out]) [] ([panel_ORBIT_ENABLE 0])

/-- What faultClear leave: one clause of FrameHearthSessions. -/
def FrameFaultClear : Prop :=
  ∀ (sess mask : Nat), OnlyChanges (.faultClear sess mask) ([.dirty, .free, .out]) [] ([hhead_FAULTS 0, hhead_HO_CAUSE 0, hearth_FAULT_PINS])

/-- What mixerMismatch leave: one clause of FrameHearthSessions. -/
def FrameMixerMismatch : Prop :=
  ∀ (h : Fin 16), OnlyChanges (.mixerMismatch h) (raiseParts ++ [.noap, .hearth, .lanes]) [0x70] (raiseMembers ++ [hhead_FAULTS 0, hhead_LAST_FAULT_FRAME 0, hhead_HO_CAUSE 0, hearth_FAULT_PINS, hearth_LAST_FAULT_TIME, noap_EVENTS_LOST])

/-- What blinkGeneratorEdge leave: one clause of FrameHearthSessions. -/
def FrameBlinkGeneratorEdge : Prop :=
  ∀ (g : Fin 2), OnlyChanges (.blinkGeneratorEdge g) ([.hearth]) [] ([])

/-- What onChangeWindowExpiry leave: one clause of FrameHearthSessions. -/
def FrameOnChangeWindowExpiry : Prop :=
  OnlyChanges .onChangeWindowExpiry ([.dirty, .noap]) [] ([noap_EVENTS_LOST])

/-- What sceneLeaseExpiry leave: one clause of FrameHearthSessions. -/
def FrameSceneLeaseExpiry : Prop :=
  OnlyChanges .sceneLeaseExpiry ([.timers, .dirty]) [] ([commitCtl_SCENE_LEASE_EXPIRED])

/-- What keepaliveLoss leave: one clause of FrameHearthSessions. -/
def FrameKeepaliveLoss : Prop :=
  OnlyChanges .keepaliveLoss ([.dirty, .hearth]) [] ([hearth_FAULT_PINS])

/-- What commitDecision leave: one clause of FrameHearthSessions. -/
def FrameCommitDecision : Prop :=
  OnlyChanges .commitDecision (raiseParts ++ [.mem, .noap, .scene, .heads, .dram, .stoker, .pipes, .threads, .bells, .scratch, .dcache, .icache, .posts, .lanes, .wear, .net]) allClasses ([])

/-- What noapLiteResponseSent leave: one clause of FrameHearthSessions. -/
def FrameNoapLiteResponseSent : Prop :=
  OnlyChanges .noapLiteResponseSent ([.dirty, .noap, .free]) [] ([can_STATE 0, can_TEC 0, can_TDC_MEASURED 0, can_TX_FRAMES 0])

/-- What headFrameBoundary leave: one clause of FrameHeadsDram. -/
def FrameHeadFrameBoundary : Prop :=
  ∀ (h : Fin 16), OnlyChanges (.headFrameBoundary h) (raiseParts ++ [.mem, .noap, .scene, .power, .hearth, .heads, .dram, .stoker, .pipes, .threads, .bells, .scratch, .dcache, .icache, .posts, .lanes, .wear, .trust]) allClasses ([])

/-- What headFirstBoundary leave: one clause of FrameHeadsDram. -/
def FrameHeadFirstBoundary : Prop :=
  ∀ (h : Fin 16), OnlyChangesScene (.headFirstBoundary h) (raiseParts ++ [.mem, .noap, .scene, .power, .hearth, .heads, .dram, .stoker, .pipes, .threads, .bells, .scratch, .dcache, .icache, .posts, .lanes]) [0x11, 0x12, 0x13, 0x14, 0x15, 0x16, 0x17, 0x1a, 0x70] (raiseMembers ++ [head_STATE 0, head_FRAME_COUNT 0, head_PHASE_ERROR 0, head_LAST_BOUNDARY 0, commitCtl_STAGED_COUNT, hearth_FAULT_PINS, panel_ORBIT_X 0, panel_ORBIT_Y 0, vin_STREAM_STATE 0, noap_EVENTS_LOST, ev_TARGET 0])

/-- What lineMatch leave: one clause of FrameHeadsDram. -/
def FrameLineMatch : Prop :=
  ∀ (h : Fin 16) (m : Fin 4), OnlyChanges (.lineMatch h m) (raiseParts ++ [.heads]) [0x70] (raiseMembers)

/-- What frameDone leave: one clause of FrameHeadsDram. -/
def FrameFrameDone : Prop :=
  ∀ (h : Fin 16), OnlyChangesScene (.frameDone h) (raiseParts ++ [.noap, .scene, .heads, .dram, .stoker]) [0x11, 0x12, 0x13, 0x14, 0x15, 0x16, 0x17, 0x70] (raiseMembers ++ [commitCtl_STAGED_COUNT, vin_STREAM_STATE 0, noap_EVENTS_LOST, ev_TARGET 0])

/-- What segmentUnderrun leave: one clause of FrameHeadsDram. -/
def FrameSegmentUnderrun : Prop :=
  ∀ (h : Fin 16) (p : Fin 32), OnlyChanges (.segmentUnderrun h p) (raiseParts ++ [.heads, .stoker]) [0x70] (raiseMembers ++ [head_UNDERRUN_LINES 0, head_LAST_UNDERRUN_LINE 0, prog_RUN_STATE 0, chanRep_SCAN_PEAK 0, stepRep_STEPS, chanRep_VIDEO_IN 0, stepRep_RHO_PERMILLE, chanRep_SCAN_CAPACITY 0, stepRep_ACTIONS, chanRep_RETIRED 0, hhead_HO_CAUSE 0, mem_RESERVE_PERMILLE])

/-- What pipeLineCompose leave: one clause of FrameHeadsDram. -/
def FramePipeLineCompose : Prop :=
  ∀ (p : Fin 32), OnlyChanges (.pipeLineCompose p) (raiseParts ++ [.scene, .heads, .dram, .pipes]) [0x70] (raiseMembers ++ [sset_OVERFLOW_LINES 0, sset_LAST_OVERFLOW_LINE 0, sset_BAD_DESCRIPTORS 0, errLog_TIME 0, errLog_ADDRESS 0, errLog_WHERE 0, errLog_MASTER 0, errLog_KIND 0, mem_SRAM_UNCORRECTABLE, mem_LOG_NEXT])

/-- What raceLineRead leave: one clause of FrameHeadsDram. -/
def FrameRaceLineRead : Prop :=
  ∀ (p : Fin 32) (slot : Fin 2) (m : Nat), OnlyChangesScene (.raceLineRead p slot m) (raiseParts ++ [.noap, .scene, .dram, .stoker, .pipes, .lanes, .wear, .movers]) [0x11, 0x12, 0x13, 0x14, 0x15, 0x16, 0x17, 0x70] (raiseMembers ++ [commitCtl_STAGED_COUNT, chanRep_SCAN_PEAK 0, stepRep_STEPS, chanRep_VIDEO_IN 0, stepRep_RHO_PERMILLE, chanRep_SCAN_CAPACITY 0, stepRep_ACTIONS, chanRep_RETIRED 0, hhead_HO_CAUSE 0, panel_DOSE_GAP_MS 0, vin_STREAM_STATE 0, noap_EVENTS_LOST, ev_TARGET 0, chan_STATE 0, errLog_TIME 0, mem_SCRUB_BLOCKS, chan_RETIRE_CAUSE 0, errLog_ADDRESS 0, mem_SCRUB_PASSES, errLog_WHERE 0, mem_LAST_PASS_TIME, chan_CORRECTED 0, errLog_MASTER 0, mem_RESERVE_PERMILLE, chan_UNCORRECTABLE 0, errLog_KIND 0, mem_SEGMENT_MAP, chan_UE_PASS 0, mem_RESERVED_SEGMENT, mem_LOG_NEXT])

/-- What residentLoadComplete leave: one clause of FrameHeadsDram. -/
def FrameResidentLoadComplete : Prop :=
  ∀ (p : Fin 32), OnlyChanges (.residentLoadComplete p) ([.pipes]) [] ([])

/-- What dramReadComplete leave: one clause of FrameHeadsDram. -/
def FrameDramReadComplete : Prop :=
  ∀ (tag : Fin 512) (found : List ByteError), OnlyChangesScene (.dramReadComplete tag found) (raiseParts ++ [.noap, .scene, .dram, .stoker, .pipes, .threads, .bells, .scratch, .dcache, .icache, .posts, .lanes, .wear, .movers]) [0x11, 0x12, 0x13, 0x14, 0x15, 0x16, 0x17, 0x70] (raiseMembers ++ [commitCtl_STAGED_COUNT, chanRep_SCAN_PEAK 0, stepRep_STEPS, chanRep_VIDEO_IN 0, stepRep_RHO_PERMILLE, chanRep_SCAN_CAPACITY 0, stepRep_ACTIONS, chanRep_RETIRED 0, hhead_HO_CAUSE 0, panel_DOSE_GAP_MS 0, vin_STREAM_STATE 0, noap_EVENTS_LOST, ev_TARGET 0, chan_STATE 0, errLog_TIME 0, mem_SCRUB_BLOCKS, chan_RETIRE_CAUSE 0, errLog_ADDRESS 0, mem_SCRUB_PASSES, errLog_WHERE 0, mem_LAST_PASS_TIME, chan_CORRECTED 0, errLog_MASTER 0, mem_RESERVE_PERMILLE, chan_UNCORRECTABLE 0, errLog_KIND 0, mem_SEGMENT_MAP, chan_UE_PASS 0, mem_RESERVED_SEGMENT, mem_LOG_NEXT])

/-- What capacityStep leave: one clause of FrameHeadsDram. -/
def FrameCapacityStep : Prop :=
  ∀ (kind unit : Nat), OnlyChanges (.capacityStep kind unit) (raiseParts ++ [.mem, .dram, .stoker, .pipes, .threads, .bells, .scratch, .dcache, .icache, .posts]) [0x1a, 0x70] (raiseMembers ++ [prog_ENGINE 0, prog_THREAD 0, prog_RUN_STATE 0, hhead_HO_CAUSE 0, mem_RESERVE_PERMILLE])

/-- What scrubRead leave: one clause of FrameHeadsDram. -/
def FrameScrubRead : Prop :=
  ∀ (d : Fin 8) (found : List ByteError), OnlyChangesScene (.scrubRead d found) (raiseParts ++ [.noap, .scene, .dram, .stoker, .lanes, .wear]) [0x11, 0x12, 0x13, 0x14, 0x15, 0x16, 0x17, 0x70] (raiseMembers ++ [commitCtl_STAGED_COUNT, chanRep_SCAN_PEAK 0, stepRep_STEPS, chanRep_VIDEO_IN 0, stepRep_RHO_PERMILLE, chanRep_SCAN_CAPACITY 0, stepRep_ACTIONS, chanRep_RETIRED 0, hhead_HO_CAUSE 0, panel_DOSE_GAP_MS 0, vin_STREAM_STATE 0, noap_EVENTS_LOST, ev_TARGET 0, chan_STATE 0, errLog_TIME 0, mem_SCRUB_BLOCKS, chan_RETIRE_CAUSE 0, errLog_ADDRESS 0, mem_SCRUB_PASSES, errLog_WHERE 0, mem_LAST_PASS_TIME, chan_CORRECTED 0, errLog_MASTER 0, mem_RESERVE_PERMILLE, chan_UNCORRECTABLE 0, errLog_KIND 0, mem_SEGMENT_MAP, chan_UE_PASS 0, mem_RESERVED_SEGMENT, mem_LOG_NEXT])

/-- What channelRetire leave: one clause of FrameHeadsDram. -/
def FrameChannelRetire : Prop :=
  ∀ (d : Fin 8) (cause : Nat), OnlyChangesScene (.channelRetire d cause) (raiseParts ++ [.noap, .scene, .dram, .stoker, .lanes, .wear]) [0x11, 0x12, 0x13, 0x14, 0x15, 0x16, 0x17, 0x70] (raiseMembers ++ [commitCtl_STAGED_COUNT, chanRep_SCAN_PEAK 0, stepRep_STEPS, chanRep_VIDEO_IN 0, stepRep_RHO_PERMILLE, chanRep_SCAN_CAPACITY 0, stepRep_ACTIONS, chanRep_RETIRED 0, hhead_HO_CAUSE 0, panel_DOSE_GAP_MS 0, vin_STREAM_STATE 0, noap_EVENTS_LOST, ev_TARGET 0, chan_STATE 0, mem_SCRUB_BLOCKS, chan_RETIRE_CAUSE 0, mem_SCRUB_PASSES, mem_LAST_PASS_TIME, mem_RESERVE_PERMILLE, mem_SEGMENT_MAP, chan_UE_PASS 0, mem_RESERVED_SEGMENT])

/-- What retire leave: one clause of FrameHeadsDram. -/
def FrameRetire : Prop :=
  ∀ (sess : Nat) (d : Fin 8) (arg : Nat), OnlyChangesScene (.retire sess d arg) (raiseParts ++ [.noap, .scene, .dram, .stoker, .lanes, .wear, .out]) [0x11, 0x12, 0x13, 0x14, 0x15, 0x16, 0x17, 0x70] (raiseMembers ++ [commitCtl_STAGED_COUNT, chanRep_SCAN_PEAK 0, stepRep_STEPS, chanRep_VIDEO_IN 0, stepRep_RHO_PERMILLE, chanRep_SCAN_CAPACITY 0, stepRep_ACTIONS, chanRep_RETIRED 0, hhead_HO_CAUSE 0, panel_DOSE_GAP_MS 0, vin_STREAM_STATE 0, noap_EVENTS_LOST, ev_TARGET 0, chan_STATE 0, mem_SCRUB_BLOCKS, chan_RETIRE_CAUSE 0, mem_SCRUB_PASSES, mem_LAST_PASS_TIME, mem_RESERVE_PERMILLE, mem_SEGMENT_MAP, chan_UE_PASS 0, mem_RESERVED_SEGMENT])

/-- What unretire leave: one clause of FrameHeadsDram. -/
def FrameUnretire : Prop :=
  ∀ (sess : Nat) (d : Fin 8) (arg : Nat), OnlyChanges (.unretire sess d arg) ([.dram, .free, .out]) [] ([])

/-- What dramTrainingComplete leave: one clause of FrameHeadsDram. -/
def FrameDramTrainingComplete : Prop :=
  ∀ (d : Fin 8) (good : Bool), OnlyChangesScene (.dramTrainingComplete d good) (raiseParts ++ [.noap, .scene, .dram, .stoker, .lanes, .wear]) [0x11, 0x12, 0x13, 0x14, 0x15, 0x16, 0x17, 0x70] (raiseMembers ++ [commitCtl_STAGED_COUNT, chanRep_SCAN_PEAK 0, stepRep_STEPS, chanRep_VIDEO_IN 0, stepRep_RHO_PERMILLE, chanRep_SCAN_CAPACITY 0, stepRep_ACTIONS, chanRep_RETIRED 0, hhead_HO_CAUSE 0, panel_DOSE_GAP_MS 0, vin_STREAM_STATE 0, noap_EVENTS_LOST, ev_TARGET 0, chan_STATE 0, mem_SCRUB_BLOCKS, chan_RETIRE_CAUSE 0, mem_SCRUB_PASSES, chan_TRAINING 0, mem_LAST_PASS_TIME, mem_RESERVE_PERMILLE, mem_SEGMENT_MAP, chan_UE_PASS 0, mem_RESERVED_SEGMENT])

/-- What capacityStepUndo leave: one clause of FrameHeadsDram. -/
def FrameCapacityStepUndo : Prop :=
  OnlyChangesScene .capacityStepUndo (raiseParts ++ [.mem, .noap, .scene, .dram, .stoker, .pipes, .threads, .bells, .scratch, .dcache, .icache, .posts]) [0x11, 0x12, 0x13, 0x14, 0x15, 0x16, 0x17, 0x1a, 0x70] (raiseMembers ++ [commitCtl_STAGED_COUNT, hhead_HO_CAUSE 0, vin_STREAM_STATE 0, noap_EVENTS_LOST, ev_TARGET 0, mem_RESERVE_PERMILLE])

/-- What migrationCopyComplete leave: one clause of FrameHeadsDram. -/
def FrameMigrationCopyComplete : Prop :=
  OnlyChangesScene .migrationCopyComplete (raiseParts ++ [.mem, .noap, .scene, .dram, .stoker, .lanes, .wear]) [0x11, 0x12, 0x13, 0x14, 0x15, 0x16, 0x17, 0x70] (raiseMembers ++ [commitCtl_STAGED_COUNT, chanRep_SCAN_PEAK 0, migRep_MIG_SURFACE, stepRep_STEPS, chanRep_VIDEO_IN 0, migRep_MIG_DEST, stepRep_RHO_PERMILLE, chanRep_SCAN_CAPACITY 0, migRep_MIG_COPIED, stepRep_ACTIONS, chanRep_RETIRED 0, migRep_MIG_QUEUED, migRep_MIGRATIONS_DONE, migRep_MIGRATIONS_ABORTED, hhead_HO_CAUSE 0, panel_DOSE_GAP_MS 0, vin_STREAM_STATE 0, noap_EVENTS_LOST, ev_TARGET 0, chan_STATE 0, errLog_TIME 0, mem_SCRUB_BLOCKS, chan_RETIRE_CAUSE 0, errLog_ADDRESS 0, mem_SCRUB_PASSES, errLog_WHERE 0, mem_LAST_PASS_TIME, chan_CORRECTED 0, errLog_MASTER 0, mem_RESERVE_PERMILLE, chan_UNCORRECTABLE 0, errLog_KIND 0, mem_SEGMENT_MAP, chan_UE_PASS 0, mem_RESERVED_SEGMENT, mem_SRAM_UNCORRECTABLE, mem_LOG_NEXT])

/-- What dramInitComplete leave: one clause of FrameHeadsDram. -/
def FrameDramInitComplete : Prop :=
  OnlyChangesScene .dramInitComplete (raiseParts ++ [.mem, .noap, .islands, .scene, .time, .heads, .dram, .stoker, .pipes, .threads, .bells, .scratch, .dcache, .icache, .posts, .lanes, .wear, .movers]) [0x11, 0x12, 0x13, 0x14, 0x15, 0x16, 0x17, 0x70] (raiseMembers ++ [head_LOCKED_WRITES 0, commitCtl_STAGED_COUNT, chanRep_SCAN_PEAK 0, migRep_MIG_SURFACE, stepRep_STEPS, chanRep_VIDEO_IN 0, migRep_MIG_DEST, stepRep_RHO_PERMILLE, chanRep_SCAN_CAPACITY 0, migRep_MIG_COPIED, stepRep_ACTIONS, chanRep_RETIRED 0, migRep_MIG_QUEUED, migRep_MIGRATIONS_ABORTED, hhead_HO_CAUSE 0, panel_DOSE_GAP_MS 0, vin_STREAM_STATE 0, vin_LINES_DAMAGED 0, noap_EVENTS_LOST, ev_TARGET 0, evCtl_DOORBELL_REJECTS, evCtl_EOI_ERRORS, blit_RINGS_ACTIVE, ring_FOREIGN_KICKS 0, chan_STATE 0, errLog_TIME 0, mem_SCRUB_BLOCKS, chan_RETIRE_CAUSE 0, errLog_ADDRESS 0, mem_SCRUB_PASSES, errLog_WHERE 0, mem_LAST_PASS_TIME, chan_CORRECTED 0, errLog_MASTER 0, mem_RESERVE_PERMILLE, chan_UNCORRECTABLE 0, errLog_KIND 0, mem_SEGMENT_MAP, chan_UE_PASS 0, mem_RESERVED_SEGMENT, chan_RMW_FAILS 0, mem_SRAM_CORRECTED, mem_SRAM_UNCORRECTABLE, mem_UNMAPPED_ACCESSES, mem_INIT_TIME, mem_LOG_NEXT])

/-- What laneDirectionWrite, pocEnableWrite leave: one clause of FrameLanes. -/
def FrameLaneDirectionWrite : Prop :=
  ∀ (sess : Nat) (l : Fin 32) (v : Nat), ∀ c ∈ ([.laneDirectionWrite sess l v, .pocEnableWrite sess l v] : List Instr), OnlyChanges c ([.timers, .dirty, .obs, .lanes, .free, .out]) [0x30] ([vin_STREAM_STATE 0, obs_RECORDS_LOST])

/-- What laneTrainingStart, trainingRetryExpiry leave: one clause of FrameLanes. -/
def FrameLaneTrainingStart : Prop :=
  ∀ (l : Fin 32), ∀ c ∈ ([.laneTrainingStart l, .trainingRetryExpiry l] : List Instr), OnlyChanges c ([.timers, .dirty, .obs, .lanes]) [] ([lane_STATE 0, lane_PRESET 0, lane_POC_STATE 0, lane_POC_MA 0, vin_STREAM_STATE 0, obs_RECORDS_LOST])

/-- What backChannelLock, presetStepExpiry leave: one clause of FrameLanes. -/
def FrameBackChannelLock : Prop :=
  ∀ (l : Fin 32), ∀ c ∈ ([.backChannelLock l, .presetStepExpiry l] : List Instr), OnlyChanges c ([.timers, .dirty, .obs, .lanes]) [] ([lane_STATE 0, lane_PRESET 0, obs_RECORDS_LOST])

/-- What trainingDeadlineMissed leave: one clause of FrameLanes. -/
def FrameTrainingDeadlineMissed : Prop :=
  ∀ (l : Fin 32), OnlyChanges (.trainingDeadlineMissed l) (raiseParts ++ [.lanes]) [0x70] (raiseMembers ++ [lane_STATE 0, lane_TRAIN_RESULT 0, lane_TRAIN_FAILS 0])

/-- What laneReady leave: one clause of FrameLanes. -/
def FrameLaneReady : Prop :=
  ∀ (l : Fin 32), OnlyChanges (.laneReady l) ([.timers, .dirty, .obs, .heads, .lanes, .wear, .free]) [] ([panel_IDENTITY_STATE 0, panel_FAIL_REASON 0, lane_STATE 0, vin_STREAM_STATE 0, obs_RECORDS_LOST])

/-- What commaLockLoss, statusTimeout, retransmitTimeout leave: one clause of FrameLanes. -/
def FrameCommaLockLoss : Prop :=
  ∀ (l : Fin 32), ∀ c ∈ ([.commaLockLoss l, .statusTimeout l, .retransmitTimeout l] : List Instr), OnlyChanges c ([.timers, .dirty, .obs, .lanes]) [] ([lane_STATE 0, lane_PRESET 0, lane_POC_STATE 0, lane_POC_MA 0, lane_RETRAINS 0, vin_STREAM_STATE 0, svcLog_TIME 0, svc_LOG_NEXT, svcLog_KIND 0, svc_LOG_ENTRIES, svcLog_UNIT 0, svcLog_DETAIL 0, obs_RECORDS_LOST])

/-- What packetEnd leave: one clause of FrameLanes. -/
def FramePacketEnd : Prop :=
  ∀ (l : Fin 32), OnlyChanges (.packetEnd l) ([.timers, .dirty, .obs, .lanes, .out]) [] ([lane_CTRL_RETRANSMITS 0, ctr_VALUE 0])

/-- What queueOverflow leave: one clause of FrameLanes. -/
def FrameQueueOverflow : Prop :=
  ∀ (l : Fin 32), OnlyChanges (.queueOverflow l) ([.dirty, .lanes]) [] ([lane_QUEUE_OVERFLOWS 0])

/-- What ack leave: one clause of FrameLanes. -/
def FrameAck : Prop :=
  ∀ (l : Fin 32) (msg : List Symbol), OnlyChanges (.ack l msg) ([.timers, .dirty, .lanes]) [] ([lane_BC_ERRORS 0])

/-- What nak leave: one clause of FrameLanes. -/
def FrameNak : Prop :=
  ∀ (l : Fin 32) (msg : List Symbol), OnlyChanges (.nak l msg) ([.dirty, .lanes]) [] ([lane_BC_ERRORS 0])

/-- What status leave: one clause of FrameLanes. -/
def FrameStatus : Prop :=
  ∀ (l : Fin 32) (msg : List Symbol), OnlyChanges (.status l msg) (raiseParts ++ [.lanes]) [0x70] (raiseMembers ++ [lane_STATE 0, lane_TRAIN_RESULT 0, lane_PRESET 0, lane_PEER_CAPS 0, lane_POC_STATE 0, lane_POC_MA 0, lane_BLOCK_ERRORS 0, lane_BC_ERRORS 0, lane_RETRAINS 0, lane_TRAIN_FAILS 0, lane_SKEW_BLOCKS 0, vin_STREAM_STATE 0])

/-- What sigret leave: one clause of FrameLanes. -/
def FrameSigret : Prop :=
  ∀ (l : Fin 32) (msg : List Symbol), OnlyChanges (.sigret l msg) ([.dirty, .hearth]) [] ([lane_BC_ERRORS 0])

/-- What linestat leave: one clause of FrameLanes. -/
def FrameLinestat : Prop :=
  ∀ (l : Fin 32) (msg : List Symbol), OnlyChanges (.linestat l msg) ([.dirty]) [] ([lane_LINE_ERROR_LINES 0, lane_BC_ERRORS 0])

/-- What data leave: one clause of FrameLanes. -/
def FrameData : Prop :=
  ∀ (l : Fin 32) (msg : List Symbol), OnlyChanges (.data l msg) (raiseParts ++ [.lanes, .wear]) [0x70] (raiseMembers ++ [hhead_HO_CAUSE 0, hhead_HO_REQUEST 0, panel_IDENTITY_STATE 0, panel_FAIL_REASON 0, panel_PANEL_ID 0, panel_NEW_PANEL 0, panel_WEAR_STATE 0, panel_DOSE_REBUILT 0, panel_OPERATING_S 0, panel_LAST_PANEL_WRITE 0, panel_LAST_SUMMARY_WRITE 0, panel_WRITE_FAILS 0, dose_GEN 0, dose_GRID 0, lane_BC_ERRORS 0])

/-- What rxModePacket, rxProtectedPacket leave: one clause of FrameLanes. -/
def FrameRxModePacket : Prop :=
  ∀ (l : Fin 32) (pkt : List Byte), ∀ c ∈ ([.rxModePacket l pkt, .rxProtectedPacket l pkt] : List Instr), OnlyChanges c ([.timers, .dirty, .obs, .lanes, .out]) [] ([lane_STATE 0, lane_BLOCK_ERRORS 0, lane_RETRAINS 0, vin_STREAM_STATE 0, vin_FORMAT 0, vin_WIDTH 0, vin_HEIGHT 0, vin_RATE 0, svcLog_TIME 0, svc_LOG_NEXT, svcLog_KIND 0, svc_LOG_ENTRIES, ctr_VALUE 0, svcLog_UNIT 0, svcLog_DETAIL 0, obs_RECORDS_LOST])

/-- What rxLinePacket leave: one clause of FrameLanes. -/
def FrameRxLinePacket : Prop :=
  ∀ (l : Fin 32) (pkt : List Byte), OnlyChangesScene (.rxLinePacket l pkt) (raiseParts ++ [.mem, .noap, .scene, .dram, .stoker, .lanes, .wear, .out]) [0x11, 0x12, 0x13, 0x14, 0x15, 0x16, 0x17, 0x70] (raiseMembers ++ [commitCtl_STAGED_COUNT, chanRep_SCAN_PEAK 0, migRep_MIG_SURFACE, stepRep_STEPS, chanRep_VIDEO_IN 0, migRep_MIG_DEST, stepRep_RHO_PERMILLE, chanRep_SCAN_CAPACITY 0, migRep_MIG_COPIED, stepRep_ACTIONS, chanRep_RETIRED 0, migRep_MIG_QUEUED, migRep_MIGRATIONS_ABORTED, hhead_HO_CAUSE 0, panel_DOSE_GAP_MS 0, lane_STATE 0, lane_BLOCK_ERRORS 0, lane_RETRAINS 0, vin_STREAM_STATE 0, vin_FRAMES_COMPLETED 0, vin_FRAMES_DROPPED 0, vin_LINES_DAMAGED 0, vin_WRITING 0, vin_LAST_COMPLETE 0, vin_LAST_START_TIME 0, noap_EVENTS_LOST, ev_TARGET 0, chan_STATE 0, errLog_TIME 0, mem_SCRUB_BLOCKS, chan_RETIRE_CAUSE 0, errLog_ADDRESS 0, mem_SCRUB_PASSES, errLog_WHERE 0, mem_LAST_PASS_TIME, chan_CORRECTED 0, errLog_MASTER 0, mem_RESERVE_PERMILLE, chan_UNCORRECTABLE 0, errLog_KIND 0, mem_SEGMENT_MAP, chan_UE_PASS 0, mem_RESERVED_SEGMENT, chan_RMW_FAILS 0, mem_UNMAPPED_ACCESSES, mem_LOG_NEXT])

/-- What pocRampComplete leave: one clause of FrameLanes. -/
def FramePocRampComplete : Prop :=
  ∀ (l : Fin 32), OnlyChanges (.pocRampComplete l) ([.timers, .dirty, .obs, .lanes, .free]) [] ([lane_STATE 0, lane_PRESET 0, lane_POC_STATE 0, lane_POC_MA 0, vin_STREAM_STATE 0, obs_RECORDS_LOST])

/-- What pocCutoff leave: one clause of FrameLanes. -/
def FramePocCutoff : Prop :=
  ∀ (l : Fin 32) (cause : Nat), OnlyChanges (.pocCutoff l cause) (raiseParts ++ [.lanes]) [0x70] (raiseMembers ++ [lane_STATE 0, lane_TRAIN_RESULT 0, lane_POC_STATE 0, lane_POC_MA 0, lane_TRAIN_FAILS 0, lane_POC_FAULTS 0])

/-- What blockLock leave: one clause of FrameLanes. -/
def FrameBlockLock : Prop :=
  ∀ (l : Fin 32), OnlyChanges (.blockLock l) ([.dirty, .obs, .lanes]) [] ([lane_STATE 0, obs_RECORDS_LOST])

/-- What blockLockLoss leave: one clause of FrameLanes. -/
def FrameBlockLockLoss : Prop :=
  ∀ (l : Fin 32), OnlyChanges (.blockLockLoss l) ([.timers, .dirty, .obs, .lanes]) [] ([lane_STATE 0, lane_BLOCK_ERRORS 0, lane_RETRAINS 0, vin_STREAM_STATE 0, svcLog_TIME 0, svc_LOG_NEXT, svcLog_KIND 0, svc_LOG_ENTRIES, svcLog_UNIT 0, svcLog_DETAIL 0, obs_RECORDS_LOST])

/-- What statusSend leave: one clause of FrameLanes. -/
def FrameStatusSend : Prop :=
  ∀ (l : Fin 32), OnlyChanges (.statusSend l) ([.timers, .lanes, .free, .out]) [] ([])

/-- What pocCooldownExpiry leave: one clause of FrameLanes. -/
def FramePocCooldownExpiry : Prop :=
  ∀ (l : Fin 32), OnlyChanges (.pocCooldownExpiry l) ([.timers, .dirty]) [] ([lane_POC_STATE 0, lane_POC_MA 0])

/-- What idResponse leave: one clause of FramePanelsMovers. -/
def FrameIdResponse : Prop :=
  ∀ (h : Fin 16) (msg : List Byte), OnlyChanges (.idResponse h msg) (raiseParts ++ [.lanes, .wear]) [0x70] (raiseMembers ++ [hhead_HO_CAUSE 0, hhead_HO_REQUEST 0, panel_IDENTITY_STATE 0, panel_FAIL_REASON 0, panel_WEAR_STATE 0])

/-- What idResponseTimeout leave: one clause of FramePanelsMovers. -/
def FrameIdResponseTimeout : Prop :=
  ∀ (h : Fin 16), OnlyChanges (.idResponseTimeout h) (raiseParts ++ [.lanes, .wear]) [0x70] (raiseMembers ++ [hhead_HO_CAUSE 0, hhead_HO_REQUEST 0, panel_IDENTITY_STATE 0, panel_FAIL_REASON 0, panel_WEAR_STATE 0])

/-- What readReply leave: one clause of FramePanelsMovers. -/
def FrameReadReply : Prop :=
  ∀ (h : Fin 16) (msg : List Byte), OnlyChanges (.readReply h msg) (raiseParts ++ [.lanes, .wear]) [0x70] (raiseMembers ++ [hhead_HO_CAUSE 0, hhead_HO_REQUEST 0, panel_IDENTITY_STATE 0, panel_FAIL_REASON 0, panel_PANEL_ID 0, panel_NEW_PANEL 0, panel_WEAR_STATE 0, panel_DOSE_REBUILT 0, panel_OPERATING_S 0, panel_LAST_SUMMARY_WRITE 0, dose_GEN 0, dose_GRID 0])

/-- What committed leave: one clause of FramePanelsMovers. -/
def FrameCommitted : Prop :=
  ∀ (h : Fin 16) (msg : List Byte), OnlyChanges (.committed h msg) (raiseParts ++ [.lanes, .wear]) [0x70] (raiseMembers ++ [panel_LAST_PANEL_WRITE 0, panel_WRITE_FAILS 0, dose_GEN 0])

/-- What committedTimeout leave: one clause of FramePanelsMovers. -/
def FrameCommittedTimeout : Prop :=
  ∀ (h : Fin 16), OnlyChanges (.committedTimeout h) (raiseParts ++ [.wear]) [0x70] (raiseMembers ++ [panel_WRITE_FAILS 0])

/-- What writeRetryExpiry leave: one clause of FramePanelsMovers. -/
def FrameWriteRetryExpiry : Prop :=
  ∀ (h : Fin 16), OnlyChanges (.writeRetryExpiry h) ([.timers, .lanes, .wear]) [] ([])

/-- What doseSnapshot, cellRowDose leave: one clause of FramePanelsMovers. -/
def FrameDoseSnapshot : Prop :=
  ∀ (h : Fin 16), ∀ c ∈ ([.doseSnapshot h, .cellRowDose h] : List Instr), OnlyChangesScene c (raiseParts ++ [.noap, .scene, .dram, .stoker, .lanes, .wear]) [0x11, 0x12, 0x13, 0x14, 0x15, 0x16, 0x17, 0x70] (raiseMembers ++ [commitCtl_STAGED_COUNT, chanRep_SCAN_PEAK 0, stepRep_STEPS, chanRep_VIDEO_IN 0, stepRep_RHO_PERMILLE, chanRep_SCAN_CAPACITY 0, stepRep_ACTIONS, chanRep_RETIRED 0, hhead_HO_CAUSE 0, panel_DOSE_GAP_MS 0, vin_STREAM_STATE 0, noap_EVENTS_LOST, ev_TARGET 0, chan_STATE 0, errLog_TIME 0, mem_SCRUB_BLOCKS, chan_RETIRE_CAUSE 0, errLog_ADDRESS 0, mem_SCRUB_PASSES, errLog_WHERE 0, mem_LAST_PASS_TIME, errLog_MASTER 0, mem_RESERVE_PERMILLE, chan_UNCORRECTABLE 0, errLog_KIND 0, mem_SEGMENT_MAP, chan_UE_PASS 0, mem_RESERVED_SEGMENT, mem_LOG_NEXT])

/-- What gainRecompute leave: one clause of FramePanelsMovers. -/
def FrameGainRecompute : Prop :=
  ∀ (h : Fin 16), OnlyChangesScene (.gainRecompute h) (raiseParts ++ [.noap, .scene, .dram, .stoker, .lanes, .wear]) [0x11, 0x12, 0x13, 0x14, 0x15, 0x16, 0x17, 0x70] (raiseMembers ++ [commitCtl_STAGED_COUNT, chanRep_SCAN_PEAK 0, stepRep_STEPS, chanRep_VIDEO_IN 0, stepRep_RHO_PERMILLE, chanRep_SCAN_CAPACITY 0, stepRep_ACTIONS, chanRep_RETIRED 0, hhead_HO_CAUSE 0, panel_WORST_LOSS 0, panel_WORST_CELL 0, panel_DOSE_GAP_MS 0, vin_STREAM_STATE 0, noap_EVENTS_LOST, ev_TARGET 0, chan_STATE 0, errLog_TIME 0, mem_SCRUB_BLOCKS, chan_RETIRE_CAUSE 0, errLog_ADDRESS 0, mem_SCRUB_PASSES, errLog_WHERE 0, mem_LAST_PASS_TIME, errLog_MASTER 0, mem_RESERVE_PERMILLE, chan_UNCORRECTABLE 0, errLog_KIND 0, mem_SEGMENT_MAP, chan_UE_PASS 0, mem_RESERVED_SEGMENT, mem_LOG_NEXT])

/-- What orbitStep leave: one clause of FramePanelsMovers. -/
def FrameOrbitStep : Prop :=
  ∀ (h : Fin 16), OnlyChanges (.orbitStep h) ([.heads]) [] ([])

/-- What operatingSecond leave: one clause of FramePanelsMovers. -/
def FrameOperatingSecond : Prop :=
  ∀ (h : Fin 16), OnlyChanges (.operatingSecond h) ([.timers, .dirty, .wear]) [] ([panel_OPERATING_S 0])

/-- What ackNew leave: one clause of FramePanelsMovers. -/
def FrameAckNew : Prop :=
  ∀ (sess : Nat) (h : Fin 16) (arg : Nat), OnlyChanges (.ackNew sess h arg) ([.dirty, .free, .out]) [] ([panel_NEW_PANEL 0])

/-- What rowRead leave: one clause of FramePanelsMovers. -/
def FrameRowRead : Prop :=
  ∀ (sess : Nat) (h : Fin 16) (arg : Nat), OnlyChanges (.rowRead sess h arg) ([.free, .out]) [] ([])

/-- What gainRead leave: one clause of FramePanelsMovers. -/
def FrameGainRead : Prop :=
  ∀ (sess : Nat) (h : Fin 16) (arg : Nat), OnlyChanges (.gainRead sess h arg) (raiseParts ++ [.out]) [0x70] (raiseMembers ++ [errLog_TIME 0, errLog_ADDRESS 0, errLog_WHERE 0, errLog_MASTER 0, errLog_KIND 0, mem_SRAM_UNCORRECTABLE, mem_LOG_NEXT])

/-- What post leave: one clause of FramePanelsMovers. -/
def FramePost : Prop :=
  ∀ (sess : Nat) (n : Fin 32) (addr : Nat), OnlyChanges (.post sess n addr) ([.dirty, .movers, .free, .out]) [] ([dma_STATE 0, dma_QUEUED 0])

/-- What abort leave: one clause of FramePanelsMovers. -/
def FrameAbort : Prop :=
  ∀ (sess : Nat) (n : Fin 32) (arg : Nat), OnlyChanges (.abort sess n arg) ([.dirty, .movers, .free, .out]) [] ([dma_STATE 0, dma_QUEUED 0])

/-- What dmaListStart leave: one clause of FramePanelsMovers. -/
def FrameDmaListStart : Prop :=
  ∀ (n : Fin 32), OnlyChangesScene (.dmaListStart n) (raiseParts ++ [.noap, .scene, .dram, .stoker, .lanes, .wear, .movers]) [0x11, 0x12, 0x13, 0x14, 0x15, 0x16, 0x17, 0x70] (raiseMembers ++ [commitCtl_STAGED_COUNT, chanRep_SCAN_PEAK 0, stepRep_STEPS, chanRep_VIDEO_IN 0, stepRep_RHO_PERMILLE, chanRep_SCAN_CAPACITY 0, stepRep_ACTIONS, chanRep_RETIRED 0, hhead_HO_CAUSE 0, panel_DOSE_GAP_MS 0, vin_STREAM_STATE 0, noap_EVENTS_LOST, ev_TARGET 0, dma_STATE 0, dma_QUEUED 0, dma_LAST_SEQ 0, dma_LAST_STATUS 0, dma_LAST_DETAIL 0, dma_LAST_BYTES 0, dma_LISTS_DONE 0, dma_LISTS_FAILED 0, chan_STATE 0, errLog_TIME 0, mem_SCRUB_BLOCKS, chan_RETIRE_CAUSE 0, errLog_ADDRESS 0, mem_SCRUB_PASSES, errLog_WHERE 0, mem_LAST_PASS_TIME, chan_CORRECTED 0, errLog_MASTER 0, mem_RESERVE_PERMILLE, chan_UNCORRECTABLE 0, errLog_KIND 0, mem_SEGMENT_MAP, chan_UE_PASS 0, mem_RESERVED_SEGMENT, mem_SRAM_UNCORRECTABLE, mem_LOG_NEXT])

/-- What dmaListComplete leave: one clause of FramePanelsMovers. -/
def FrameDmaListComplete : Prop :=
  ∀ (n : Fin 32), OnlyChangesScene (.dmaListComplete n) (raiseParts ++ [.mem, .noap, .scene, .dram, .stoker, .lanes, .wear, .movers]) [0x11, 0x12, 0x13, 0x14, 0x15, 0x16, 0x17, 0x70] (raiseMembers ++ [commitCtl_STAGED_COUNT, chanRep_SCAN_PEAK 0, migRep_MIG_SURFACE, stepRep_STEPS, chanRep_VIDEO_IN 0, migRep_MIG_DEST, stepRep_RHO_PERMILLE, chanRep_SCAN_CAPACITY 0, migRep_MIG_COPIED, stepRep_ACTIONS, chanRep_RETIRED 0, migRep_MIG_QUEUED, migRep_MIGRATIONS_ABORTED, hhead_HO_CAUSE 0, panel_DOSE_GAP_MS 0, vin_STREAM_STATE 0, noap_EVENTS_LOST, ev_TARGET 0, dma_STATE 0, dma_QUEUED 0, dma_LAST_SEQ 0, dma_LAST_STATUS 0, dma_LAST_DETAIL 0, dma_LAST_BYTES 0, dma_LISTS_DONE 0, dma_LISTS_FAILED 0, chan_STATE 0, errLog_TIME 0, mem_SCRUB_BLOCKS, chan_RETIRE_CAUSE 0, errLog_ADDRESS 0, mem_SCRUB_PASSES, errLog_WHERE 0, mem_LAST_PASS_TIME, chan_CORRECTED 0, errLog_MASTER 0, mem_RESERVE_PERMILLE, chan_UNCORRECTABLE 0, errLog_KIND 0, mem_SEGMENT_MAP, chan_UE_PASS 0, mem_RESERVED_SEGMENT, chan_RMW_FAILS 0, mem_SRAM_UNCORRECTABLE, mem_UNMAPPED_ACCESSES, mem_LOG_NEXT])

/-- What kick leave: one clause of FramePanelsMovers. -/
def FrameKick : Prop :=
  ∀ (sess : Nat) (r : Fin 4) (arg : Nat), OnlyChangesScene (.kick sess r arg) (raiseParts ++ [.noap, .scene, .dram, .stoker, .lanes, .wear, .movers, .out]) [0x11, 0x12, 0x13, 0x14, 0x15, 0x16, 0x17, 0x70] (raiseMembers ++ [commitCtl_STAGED_COUNT, chanRep_SCAN_PEAK 0, stepRep_STEPS, chanRep_VIDEO_IN 0, stepRep_RHO_PERMILLE, chanRep_SCAN_CAPACITY 0, stepRep_ACTIONS, chanRep_RETIRED 0, hhead_HO_CAUSE 0, panel_DOSE_GAP_MS 0, vin_STREAM_STATE 0, noap_EVENTS_LOST, ev_TARGET 0, blit_RINGS_ACTIVE, chan_STATE 0, errLog_TIME 0, mem_SCRUB_BLOCKS, chan_RETIRE_CAUSE 0, errLog_ADDRESS 0, mem_SCRUB_PASSES, errLog_WHERE 0, mem_LAST_PASS_TIME, chan_CORRECTED 0, errLog_MASTER 0, mem_RESERVE_PERMILLE, chan_UNCORRECTABLE 0, errLog_KIND 0, mem_SEGMENT_MAP, chan_UE_PASS 0, mem_RESERVED_SEGMENT, mem_SRAM_UNCORRECTABLE, mem_LOG_NEXT])

/-- What ringEnableWrite leave: one clause of FramePanelsMovers. -/
def FrameRingEnableWrite : Prop :=
  ∀ (sess : Nat) (r : Fin 4) (v : Nat), OnlyChangesScene (.ringEnableWrite sess r v) (raiseParts ++ [.mem, .noap, .scene, .dram, .stoker, .lanes, .wear, .movers, .out]) [0x11, 0x12, 0x13, 0x14, 0x15, 0x16, 0x17, 0x70] (raiseMembers ++ [commitCtl_STAGED_COUNT, chanRep_SCAN_PEAK 0, migRep_MIG_SURFACE, stepRep_STEPS, chanRep_VIDEO_IN 0, migRep_MIG_DEST, stepRep_RHO_PERMILLE, chanRep_SCAN_CAPACITY 0, migRep_MIG_COPIED, stepRep_ACTIONS, chanRep_RETIRED 0, migRep_MIG_QUEUED, migRep_MIGRATIONS_ABORTED, hhead_HO_CAUSE 0, panel_DOSE_GAP_MS 0, vin_STREAM_STATE 0, noap_EVENTS_LOST, ev_TARGET 0, blit_RINGS_ACTIVE, ring_ENABLE 0, ring_CONSUME 0, chan_STATE 0, errLog_TIME 0, mem_SCRUB_BLOCKS, chan_RETIRE_CAUSE 0, errLog_ADDRESS 0, mem_SCRUB_PASSES, errLog_WHERE 0, mem_LAST_PASS_TIME, chan_CORRECTED 0, errLog_MASTER 0, mem_RESERVE_PERMILLE, chan_UNCORRECTABLE 0, errLog_KIND 0, mem_SEGMENT_MAP, chan_UE_PASS 0, mem_RESERVED_SEGMENT, chan_RMW_FAILS 0, mem_SRAM_UNCORRECTABLE, mem_UNMAPPED_ACCESSES, mem_LOG_NEXT])

/-- What fill, copy, clip leave: one clause of FramePanelsMovers. -/
def FrameFill : Prop :=
  ∀ (r : Fin 4), ∀ c ∈ ([.fill r, .copy r, .clip r] : List Instr), OnlyChangesScene c (raiseParts ++ [.noap, .scene, .dram, .stoker, .lanes, .wear, .movers]) [0x11, 0x12, 0x13, 0x14, 0x15, 0x16, 0x17, 0x70] (raiseMembers ++ [commitCtl_STAGED_COUNT, chanRep_SCAN_PEAK 0, stepRep_STEPS, chanRep_VIDEO_IN 0, stepRep_RHO_PERMILLE, chanRep_SCAN_CAPACITY 0, stepRep_ACTIONS, chanRep_RETIRED 0, hhead_HO_CAUSE 0, panel_DOSE_GAP_MS 0, vin_STREAM_STATE 0, noap_EVENTS_LOST, ev_TARGET 0, blit_RINGS_ACTIVE, chan_STATE 0, errLog_TIME 0, mem_SCRUB_BLOCKS, chan_RETIRE_CAUSE 0, errLog_ADDRESS 0, mem_SCRUB_PASSES, errLog_WHERE 0, mem_LAST_PASS_TIME, chan_CORRECTED 0, errLog_MASTER 0, mem_RESERVE_PERMILLE, chan_UNCORRECTABLE 0, errLog_KIND 0, mem_SEGMENT_MAP, chan_UE_PASS 0, mem_RESERVED_SEGMENT, mem_SRAM_UNCORRECTABLE, mem_LOG_NEXT])

/-- What blitCommandComplete leave: one clause of FramePanelsMovers. -/
def FrameBlitCommandComplete : Prop :=
  ∀ (r : Fin 4), OnlyChangesScene (.blitCommandComplete r) (raiseParts ++ [.mem, .noap, .scene, .dram, .stoker, .lanes, .wear, .movers]) [0x11, 0x12, 0x13, 0x14, 0x15, 0x16, 0x17, 0x70] (raiseMembers ++ [commitCtl_STAGED_COUNT, chanRep_SCAN_PEAK 0, migRep_MIG_SURFACE, stepRep_STEPS, chanRep_VIDEO_IN 0, migRep_MIG_DEST, stepRep_RHO_PERMILLE, chanRep_SCAN_CAPACITY 0, migRep_MIG_COPIED, stepRep_ACTIONS, chanRep_RETIRED 0, migRep_MIG_QUEUED, migRep_MIGRATIONS_ABORTED, hhead_HO_CAUSE 0, panel_DOSE_GAP_MS 0, vin_STREAM_STATE 0, noap_EVENTS_LOST, ev_TARGET 0, blit_RINGS_ACTIVE, ring_CONSUME 0, ring_COMMANDS_DONE 0, ring_COMMANDS_FAILED 0, chan_STATE 0, errLog_TIME 0, mem_SCRUB_BLOCKS, chan_RETIRE_CAUSE 0, errLog_ADDRESS 0, mem_SCRUB_PASSES, errLog_WHERE 0, mem_LAST_PASS_TIME, chan_CORRECTED 0, errLog_MASTER 0, mem_RESERVE_PERMILLE, chan_UNCORRECTABLE 0, errLog_KIND 0, mem_SEGMENT_MAP, chan_UE_PASS 0, mem_RESERVED_SEGMENT, chan_RMW_FAILS 0, mem_SRAM_UNCORRECTABLE, mem_UNMAPPED_ACCESSES, mem_LOG_NEXT])

/-- What summaryWrite leave: one clause of FramePanelsMovers. -/
def FrameSummaryWrite : Prop :=
  OnlyChanges .summaryWrite ([.timers, .dirty, .wear]) [] ([panel_LAST_SUMMARY_WRITE 0])

/-- What rxAudioPacket leave: one clause of FrameAudioNetwork. -/
def FrameRxAudioPacket : Prop :=
  ∀ (l : Fin 32) (pkt : List Byte), OnlyChanges (.rxAudioPacket l pkt) (raiseParts ++ [.lanes, .audio]) [0x70] (raiseMembers ++ [lane_STATE 0, lane_BLOCK_ERRORS 0, lane_RETRAINS 0, vin_STREAM_STATE 0, avtp_LATE_SAMPLES 0])

/-- What keyOn, keyOff leave: one clause of FrameAudioNetwork. -/
def FrameKeyOn : Prop :=
  ∀ (sess : Nat) (v : Fin 128), ∀ c ∈ ([.keyOn sess v, .keyOff sess v] : List Instr), OnlyChanges c ([.audio, .free, .out]) [] ([])

/-- What voiceDurationExpiry leave: one clause of FrameAudioNetwork. -/
def FrameVoiceDurationExpiry : Prop :=
  ∀ (v : Fin 128), OnlyChanges (.voiceDurationExpiry v) ([.audio]) [] ([])

/-- What waveTableWrite leave: one clause of FrameAudioNetwork. -/
def FrameWaveTableWrite : Prop :=
  ∀ (sess : Nat) (t : Fin 32) (samples : List Byte), OnlyChanges (.waveTableWrite sess t samples) ([.dirty, .free, .out]) [] ([wtab_SAMPLES 0])

/-- What gainsWrite leave: one clause of FrameAudioNetwork. -/
def FrameGainsWrite : Prop :=
  ∀ (sess : Nat) (o : Fin 48) (gains : List Byte), OnlyChanges (.gainsWrite sess o gains) ([.dirty, .audio, .free, .out]) [] ([xout_GAINS 0])

/-- What filterWrite leave: one clause of FrameAudioNetwork. -/
def FrameFilterWrite : Prop :=
  ∀ (sess : Nat) (o : Fin 48) (coefs : List Byte), OnlyChanges (.filterWrite sess o coefs) ([.dirty, .audio, .free, .out]) [] ([xout_FILTER 0])

/-- What start, stop leave: one clause of FrameAudioNetwork. -/
def FrameStart : Prop :=
  ∀ (sess : Nat) (q : Fin 4) (arg : Nat), ∀ c ∈ ([.start sess q arg, .stop sess q arg] : List Instr), OnlyChanges c ([.dirty, .audio, .free, .out]) [] ([seqr_RUNNING 0])

/-- What sequencerTick leave: one clause of FrameAudioNetwork. -/
def FrameSequencerTick : Prop :=
  ∀ (q : Fin 4), OnlyChanges (.sequencerTick q) ([.dirty, .audio]) [] ([seqr_RUNNING 0])

/-- What tdmFrame leave: one clause of FrameAudioNetwork. -/
def FrameTdmFrame : Prop :=
  ∀ (p : Fin 4) (slots : List Word), OnlyChanges (.tdmFrame p slots) (raiseParts ++ [.audio, .out]) [0x70] (raiseMembers ++ [tdm_SLIPS 0])

/-- What aafPduReceived, arpRequest, icmpEcho and 1 more leave: one clause of FrameAudioNetwork. -/
def FrameAafPduReceived : Prop :=
  ∀ (u : Fin 2) (frame : List Byte), ∀ c ∈ ([.aafPduReceived u frame, .arpRequest u frame, .icmpEcho u frame, .neighbourSolicitation u frame] : List Instr), OnlyChanges c (raiseParts ++ [.tb, .tbInc, .noap, .scene, .time, .heads, .audio, .net]) [0x70] (raiseMembers ++ [stepLog_TIME 0, stepLog_STEP 0, time_TIME_VALID, stepLog_CAUSE 0, epoch_WAKE_STEP 0, time_STATE, time_OFFSET_NS, time_RATE_PPB, time_STEPS, time_LOG_NEXT, commitCtl_STAGED_COUNT, avtp_LATE_SAMPLES 0, avtp_MISMATCHES 0, noap_SESSIONS, noap_CONTROLLER, noap_TAG_FAIL, noap_DUP_COUNT, strm_PDUS 0, strm_SEQ_GAPS 0, noap_FRAG_DROPPED, upl_LINK_DELAY_NS 0, upl_RX_FRAMES 0, upl_RX_ERRORS 0, upl_RX_DROPPED 0, upl_RX_OVERSIZE 0, upl_TX_DISCARDS 0])

/-- What talkerPduSend leave: one clause of FrameAudioNetwork. -/
def FrameTalkerPduSend : Prop :=
  ∀ (n : Fin 16), OnlyChanges (.talkerPduSend n) ([.dirty, .audio, .net]) [] ([upl_TX_DISCARDS 0])

/-- What uplinkLinkUp leave: one clause of FrameAudioNetwork. -/
def FrameUplinkLinkUp : Prop :=
  ∀ (link : UplinkRate), OnlyChanges (.uplinkLinkUp link) ([.timers, .dirty, .net]) [] ([addr_ACTIVE, upl_LINK 0, upl_SPEED 0, addr_ADDR_STATE, upl_IDLE_SLOPE_A 0, upl_IDLE_SLOPE_B 0, upl_LINK_DOWNS 0, upl_TX_DISCARDS 0])

/-- What uplinkLinkDown leave: one clause of FrameAudioNetwork. -/
def FrameUplinkLinkDown : Prop :=
  ∀ (u : Fin 2), OnlyChanges (.uplinkLinkDown u) (raiseParts ++ [.net]) [0x70] (raiseMembers ++ [addr_ACTIVE, upl_LINK 0, addr_FAILOVERS, upl_SPEED 0, addr_ADDR_STATE, upl_IDLE_SLOPE_A 0, upl_IDLE_SLOPE_B 0, upl_LINK_DOWNS 0, upl_TX_DISCARDS 0])

/-- What uplinkFrameReceived leave: one clause of FrameAudioNetwork. -/
def FrameUplinkFrameReceived : Prop :=
  ∀ (u : Fin 2) (fcsOk : Bool) (frame : List Byte), OnlyChanges (.uplinkFrameReceived u fcsOk frame) (raiseParts ++ [.tb, .tbInc, .noap, .scene, .time, .heads, .audio, .net]) [0x70] (raiseMembers ++ [stepLog_TIME 0, stepLog_STEP 0, time_TIME_VALID, stepLog_CAUSE 0, epoch_WAKE_STEP 0, time_STATE, time_OFFSET_NS, time_RATE_PPB, time_STEPS, time_LOG_NEXT, commitCtl_STAGED_COUNT, avtp_LATE_SAMPLES 0, avtp_MISMATCHES 0, noap_SESSIONS, noap_CONTROLLER, noap_TAG_FAIL, noap_DUP_COUNT, strm_PDUS 0, strm_SEQ_GAPS 0, noap_FRAG_DROPPED, upl_LINK_DELAY_NS 0, upl_RX_FRAMES 0, upl_RX_ERRORS 0, upl_RX_DROPPED 0, upl_RX_OVERSIZE 0, upl_TX_DISCARDS 0])

/-- What redundancyWrite leave: one clause of FrameAudioNetwork. -/
def FrameRedundancyWrite : Prop :=
  ∀ (sess v : Nat), OnlyChanges (.redundancyWrite sess v) ([.timers, .dirty, .noap, .scene, .events, .net, .free, .out]) [] ([commitCtl_STAGED_COUNT, addr_REDUNDANCY, addr_ACTIVE, noap_SESSIONS, noap_CONTROLLER, ev_STATE 0, ev_COUNT 0])

/-- What pdelayExchange leave: one clause of FrameAudioNetwork. -/
def FramePdelayExchange : Prop :=
  ∀ (u : Fin 2) (t1 t2 t3 t4 : Nat), OnlyChanges (.pdelayExchange u t1 t2 t3 t4) ([.dirty]) [] ([upl_LINK_DELAY_NS 0])

/-- What gptpSyncSend leave: one clause of FrameAudioNetwork. -/
def FrameGptpSyncSend : Prop :=
  ∀ (u : Fin 2), OnlyChanges (.gptpSyncSend u) ([.timers, .dirty, .net]) [] ([upl_TX_DISCARDS 0])

/-- What duplicateAddressDetectionDone leave: one clause of FrameAudioNetwork. -/
def FrameDuplicateAddressDetectionDone : Prop :=
  ∀ (u : Fin 2) (conflict : Fin 4), OnlyChanges (.duplicateAddressDetectionDone u conflict) ([.dirty, .net]) [] ([addr_ADDR_STATE])

/-- What engineSample leave: one clause of FrameAudioNetwork. -/
def FrameEngineSample : Prop :=
  OnlyChanges .engineSample (raiseParts ++ [.lanes, .audio]) [0x70] (raiseMembers ++ [voice_STATE 0, avas_SPEED_KMH, avas_SOUNDING, voice_KEY_ONS 0, xout_LIMITING 0, xout_CLIPS 0, tdm_SLIPS 0])

/-- What sleepWinter, sleepFrost leave: one clause of FramePower. -/
def FrameSleepWinter : Prop :=
  ∀ (sess : Nat), ∀ c ∈ ([.sleepWinter sess, .sleepFrost sess] : List Instr), OnlyChanges c (raiseParts ++ [.power, .lanes, .wear, .out]) [0x70] (raiseMembers ++ [power_STATE, boost_STATE, boost_LIFETIME_S, blit_RATE_STATE, blit_CAPPED_MS])

/-- What blockStopAnswer leave: one clause of FramePower. -/
def FrameBlockStopAnswer : Prop :=
  ∀ (answer : StopAnswer), OnlyChanges (.blockStopAnswer answer) (raiseParts ++ [.mem, .noap, .islands, .scene, .power, .hearth, .heads, .dram, .stoker, .pipes, .threads, .bells, .scratch, .dcache, .icache, .posts, .lanes, .wear, .audio, .net]) allClasses ([])

/-- What thermalSample leave: one clause of FramePower. -/
def FrameThermalSample : Prop :=
  ∀ (tj predicted : Int), OnlyChanges (.thermalSample tj predicted) (raiseParts ++ [.power, .stoker, .wear]) [0x70] (raiseMembers ++ [abort_TIME, power_STATE, therm_TJ, abort_REQUESTED, boost_STATE, therm_TJ_PREDICTED, abort_STEP, therm_STEP, abort_BLOCK, autumn_CAUSE 0, therm_CAUSE, abort_REASON, boost_LIFETIME_S, abort_DETAIL, power_SLEEP_ABORTS, prog_RUN_STATE 0, chanRep_SCAN_PEAK 0, stepRep_STEPS, chanRep_VIDEO_IN 0, stepRep_RHO_PERMILLE, chanRep_SCAN_CAPACITY 0, stepRep_ACTIONS, chanRep_RETIRED 0, pipeRep_FAULTED 0, hhead_HO_CAUSE 0, blit_RATE_STATE, blit_CAPPED_MS, mem_RESERVE_PERMILLE])

/-- What powerAverage leave: one clause of FramePower. -/
def FramePowerAverage : Prop :=
  ∀ (mw vinMv vpocMv : Nat), OnlyChanges (.powerAverage mw vinMv vpocMv) (raiseParts ++ [.power, .stoker]) [0x70] (raiseMembers ++ [power_STATE, boost_STATE, supply_VIN_MV, supply_INPUT_MW, autumn_CAUSE 0, supply_VPOC_MV, therm_CAUSE, boost_LIFETIME_S, prog_RUN_STATE 0, chanRep_SCAN_PEAK 0, stepRep_STEPS, chanRep_VIDEO_IN 0, stepRep_RHO_PERMILLE, chanRep_SCAN_CAPACITY 0, stepRep_ACTIONS, chanRep_RETIRED 0, pipeRep_FAULTED 0, hhead_HO_CAUSE 0, blit_RATE_STATE, blit_CAPPED_MS, mem_RESERVE_PERMILLE])

/-- What boostRequest leave: one clause of FramePower. -/
def FrameBoostRequest : Prop :=
  ∀ (sess arg : Nat), OnlyChanges (.boostRequest sess arg) (raiseParts ++ [.power, .out]) [0x70] (raiseMembers ++ [boost_STATE, boost_REFUSAL, boost_LIFETIME_S, boost_EPISODES, blit_RATE_STATE, blit_CAPPED_MS])

/-- What boostEndRequest leave: one clause of FramePower. -/
def FrameBoostEndRequest : Prop :=
  ∀ (sess : Nat), OnlyChanges (.boostEndRequest sess) (raiseParts ++ [.power, .out]) [0x70] (raiseMembers ++ [boost_STATE, boost_REFUSAL, boost_LIFETIME_S, boost_EPISODES, blit_RATE_STATE, blit_CAPPED_MS])

/-- What crankEntry leave: one clause of FramePower. -/
def FrameCrankEntry : Prop :=
  OnlyChanges .crankEntry (raiseParts ++ [.islands, .power, .wear]) [0x70] (raiseMembers ++ [abort_TIME, power_STATE, supply_SUPPLY_STATE, abort_REQUESTED, boost_STATE, abort_STEP, abort_BLOCK, abort_REASON, boost_LIFETIME_S, supply_CRANKS, abort_DETAIL, power_SLEEP_ABORTS, head_STATE 0, blit_RATE_STATE, blit_CAPPED_MS])

/-- What crankExit leave: one clause of FramePower. -/
def FrameCrankExit : Prop :=
  OnlyChangesScene .crankExit (raiseParts ++ [.mem, .noap, .islands, .scene, .power, .time, .heads, .dram, .stoker, .pipes, .threads, .bells, .scratch, .dcache, .icache, .posts, .lanes, .wear, .movers]) [0x11, 0x12, 0x13, 0x14, 0x15, 0x16, 0x17, 0x70] (raiseMembers ++ [supply_SUPPLY_STATE, head_LOCKED_WRITES 0, commitCtl_STAGED_COUNT, chanRep_SCAN_PEAK 0, migRep_MIG_SURFACE, stepRep_STEPS, chanRep_VIDEO_IN 0, migRep_MIG_DEST, stepRep_RHO_PERMILLE, chanRep_SCAN_CAPACITY 0, migRep_MIG_COPIED, stepRep_ACTIONS, chanRep_RETIRED 0, migRep_MIG_QUEUED, migRep_MIGRATIONS_ABORTED, hhead_HO_CAUSE 0, panel_DOSE_GAP_MS 0, vin_STREAM_STATE 0, vin_LINES_DAMAGED 0, noap_EVENTS_LOST, ev_TARGET 0, evCtl_DOORBELL_REJECTS, evCtl_EOI_ERRORS, blit_RINGS_ACTIVE, ring_FOREIGN_KICKS 0, chan_STATE 0, errLog_TIME 0, mem_SCRUB_BLOCKS, chan_RETIRE_CAUSE 0, errLog_ADDRESS 0, mem_SCRUB_PASSES, errLog_WHERE 0, mem_LAST_PASS_TIME, chan_CORRECTED 0, errLog_MASTER 0, mem_RESERVE_PERMILLE, chan_UNCORRECTABLE 0, errLog_KIND 0, mem_SEGMENT_MAP, chan_UE_PASS 0, mem_RESERVED_SEGMENT, chan_RMW_FAILS 0, mem_SRAM_CORRECTED, mem_SRAM_UNCORRECTABLE, mem_UNMAPPED_ACCESSES, mem_LOG_NEXT])

/-- What overvoltageClear leave: one clause of FramePower. -/
def FrameOvervoltageClear : Prop :=
  OnlyChanges .overvoltageClear ([.timers, .power, .trust]) [] ([])

/-- What restoreStepComplete leave: one clause of FramePower. -/
def FrameRestoreStepComplete : Prop :=
  OnlyChanges .restoreStepComplete (raiseParts ++ [.mem, .noap, .islands, .scene, .power, .hearth, .pins, .time, .heads, .dram, .stoker, .pipes, .threads, .bells, .scratch, .dcache, .icache, .posts, .lanes, .wear, .audio, .net, .trust]) allClasses ([])

/-- What wearFlushEnd leave: one clause of FramePower. -/
def FrameWearFlushEnd : Prop :=
  OnlyChanges .wearFlushEnd ([.timers, .dirty, .power, .wear]) [] ([panel_LAST_SUMMARY_WRITE 0])

/-- What stopDelayExpiry leave: one clause of FramePower. -/
def FrameStopDelayExpiry : Prop :=
  OnlyChanges .stopDelayExpiry ([.mem, .timers, .dirty, .noap, .islands, .scene, .events, .obs, .power, .hearth, .pins, .time, .dram, .pipes, .threads, .bells, .scratch, .dcache, .icache, .posts]) [] ([dev_FK_STATE, power_STATE, supply_LAST_POWER_LOSS, commitCtl_STAGED_COUNT, hearth_FAULT_PINS, noap_SESSIONS, noap_CONTROLLER, ev_STATE 0, ev_COUNT 0, obs_TOKEN_STATE, obs_RECORDS_LOST])

/-- What sleepRollbackStep leave: one clause of FramePower. -/
def FrameSleepRollbackStep : Prop :=
  OnlyChanges .sleepRollbackStep (raiseParts ++ [.mem, .noap, .islands, .scene, .power, .time, .heads, .dram, .stoker, .pipes, .threads, .bells, .scratch, .dcache, .icache, .posts, .lanes, .wear, .movers, .net]) allClasses ([])

/-- What resetNRelease leave: one clause of FramePower. -/
def FrameResetNRelease : Prop :=
  OnlyChanges .resetNRelease ([.timers, .dirty, .power, .pins, .trust]) [] ([power_LAST_WAKE_SOURCE, power_LAST_WAKE_TIME, power_SLEEP_CYCLES])

/-- What thermalTrip leave: one clause of FramePower. -/
def FrameThermalTrip : Prop :=
  OnlyChanges .thermalTrip (raiseParts ++ [.mem, .noap, .islands, .scene, .power, .hearth, .pins, .time, .heads, .dram, .stoker, .pipes, .threads, .bells, .scratch, .dcache, .icache, .posts, .lanes, .audio, .net]) allClasses ([])

/-- What boostEpisodeEnd, boostLifetimeFuse leave: one clause of FramePower. -/
def FrameBoostEpisodeEnd : Prop :=
  ∀ c ∈ ([.boostEpisodeEnd, .boostLifetimeFuse] : List Instr), OnlyChanges c (raiseParts ++ [.power]) [0x70] (raiseMembers ++ [boost_STATE, boost_LIFETIME_S, blit_RATE_STATE, blit_CAPPED_MS])

/-- What boostVinLow leave: one clause of FramePower. -/
def FrameBoostVinLow : Prop :=
  OnlyChanges .boostVinLow (raiseParts ++ [.power]) [0x70] (raiseMembers ++ [boost_STATE, supply_VIN_MV, boost_LIFETIME_S, blit_RATE_STATE, blit_CAPPED_MS])

/-- What load leave: one clause of FrameTrust. -/
def FrameLoad : Prop :=
  ∀ (sess prog arg : Nat), OnlyChanges (.load sess prog arg) ([.dirty, .free, .out]) [] ([prog_LOADED 0, prog_KIND 0, prog_ENTRY 0, prog_FOOTPRINT 0, prog_BANK_BYTES 0, prog_S_LINE 0, prog_S_FRAME 0, prog_RATE 0])

/-- What imageVerifyComplete leave: one clause of FrameTrust. -/
def FrameImageVerifyComplete : Prop :=
  ∀ (slot : Fin 8), OnlyChanges (.imageVerifyComplete slot) (raiseParts ++ [.mem, .tb, .tbInc, .noap, .scene, .power, .hearth, .pins, .time, .heads, .dram, .stoker, .pipes, .threads, .bells, .scratch, .dcache, .icache, .posts, .lanes, .wear, .audio, .movers, .net, .trust]) allClasses ([])

/-- What firekeeperRestart leave: one clause of FrameTrust. -/
def FrameFirekeeperRestart : Prop :=
  ∀ (cause : Nat), OnlyChanges (.firekeeperRestart cause) (raiseParts ++ [.noap, .scene, .stoker, .wear, .trust]) [0x70] (raiseMembers ++ [dev_FK_STATE, dev_FK_RESTARTS, prog_RUN_STATE 0, commitCtl_STAGED_COUNT, chanRep_SCAN_PEAK 0, stepRep_STEPS, chanRep_VIDEO_IN 0, stepRep_RHO_PERMILLE, chanRep_SCAN_CAPACITY 0, stepRep_ACTIONS, chanRep_RETIRED 0, hhead_HO_CAUSE 0, panel_DOSE_GAP_MS 0, noap_SESSIONS, noap_CONTROLLER, mem_RESERVE_PERMILLE])

/-- What erase leave: one clause of FrameTrust. -/
def FrameErase : Prop :=
  ∀ (sess : Nat) (slot : Fin 8) (arg : Nat), OnlyChanges (.erase sess slot arg) ([.dirty, .trust, .free, .out]) [] ([slotImg_STATE 0, slotImg_FAIL_REASON 0, slotImg_VERSION 0, slotImg_SECURITY_VERSION 0])

/-- What verify leave: one clause of FrameTrust. -/
def FrameVerify : Prop :=
  ∀ (sess : Nat) (slot : Fin 8) (arg : Nat), OnlyChanges (.verify sess slot arg) ([.dirty, .free, .out]) [] ([slotImg_STATE 0, slotImg_FAIL_REASON 0, slotImg_VERSION 0, slotImg_SECURITY_VERSION 0])

/-- What activate leave: one clause of FrameTrust. -/
def FrameActivate : Prop :=
  ∀ (sess : Nat) (slot : Fin 8) (arg : Nat), OnlyChanges (.activate sess slot arg) ([.dirty, .free, .out]) [] ([slotImg_PREFERRED 0])

/-- What enrol leave: one clause of FrameTrust. -/
def FrameEnrol : Prop :=
  ∀ (sess : Nat) (b : List Byte), OnlyChanges (.enrol sess b) ([.dirty, .trust, .free, .out]) [] ([dev_LIFECYCLE, sec_MAKER_ROOT_KEY])

/-- What revoke leave: one clause of FrameTrust. -/
def FrameRevoke : Prop :=
  ∀ (sess keyId : Nat), OnlyChanges (.revoke sess keyId) ([.dirty, .free, .out]) [] ([sec_REVOKED_KEYS])

/-- What revokeSlot leave: one clause of FrameTrust. -/
def FrameRevokeSlot : Prop :=
  ∀ (sess : Nat) (ref : Ref) (arg : Nat), OnlyChanges (.revokeSlot sess ref arg) ([.dirty, .free, .out]) [] ([mref 0x8 0 2])

/-- What advance leave: one clause of FrameTrust. -/
def FrameAdvance : Prop :=
  ∀ (sess arg : Nat), OnlyChanges (.advance sess arg) ([.dirty, .free, .out]) [] ([sec_ROLLBACK_FUSES])

/-- What attest leave: one clause of FrameTrust. -/
def FrameAttest : Prop :=
  ∀ (sess : Nat) (nonce : List Byte), OnlyChanges (.attest sess nonce) ([.free, .out]) [] ([])

/-- What hearthPackageLoaded, bootSceneApply leave: one clause of FrameTrust. -/
def FrameHearthPackageLoaded : Prop :=
  ∀ c ∈ ([.hearthPackageLoaded, .bootSceneApply] : List Instr), OnlyChanges c (raiseParts ++ [.mem, .tb, .tbInc, .noap, .scene, .power, .hearth, .pins, .time, .heads, .dram, .stoker, .pipes, .threads, .bells, .scratch, .dcache, .icache, .posts, .lanes, .wear, .audio, .movers, .net, .trust]) allClasses ([])

/-- What kindlingStart leave: one clause of FrameTrust. -/
def FrameKindlingStart : Prop :=
  OnlyChanges .kindlingStart ([.dirty, .trust]) [] ([slotImg_STATE 0, slotImg_VERSION 0, slotImg_SECURITY_VERSION 0])

/-- What firekeeperImageRetry leave: one clause of FrameTrust. -/
def FrameFirekeeperImageRetry : Prop :=
  OnlyChanges .firekeeperImageRetry ([.timers, .trust]) [] ([])

/-- What startDoneDeadline leave: one clause of FrameTrust. -/
def FrameStartDoneDeadline : Prop :=
  OnlyChanges .startDoneDeadline ([.timers, .dirty]) [] ([dev_START_DONE, dev_START_TIME_MS, dev_START_MISSING])

/-- What ldA does: one clause of BeamLoadsStores. -/
def LdADoes : Prop :=
  ∀ (s : State) (t : Fin 384) (w : Be32Op) (v : Word), WhenLdA s t w v → Completes (.ldA t w) s fun u =>
    let x := threadAt s t.val w
    threadOf u.dev t.val = if w.mode = 0 then retired x { x with a := w.operand.signExtend 32 } (some 0) none else retired x x (some 0) (some (0, v))

/-- What ldX does: one clause of BeamLoadsStores. -/
def LdXDoes : Prop :=
  ∀ (s : State) (t : Fin 384) (w : Be32Op) (v : Word), WhenLdX s t w v → Completes (.ldX t w) s fun u =>
    let x := threadAt s t.val w
    threadOf u.dev t.val = if w.mode = 0 then retired x { x with x := w.operand.signExtend 32 } (some 1) none else retired x x (some 1) (some (1, v))

/-- What ldY does: one clause of BeamLoadsStores. -/
def LdYDoes : Prop :=
  ∀ (s : State) (t : Fin 384) (w : Be32Op) (v : Word), WhenLdY s t w v → Completes (.ldY t w) s fun u =>
    let x := threadAt s t.val w
    threadOf u.dev t.val = if w.mode = 0 then retired x { x with y := w.operand.signExtend 32 } (some 2) none else retired x x (some 2) (some (2, v))

/-- What ldB does: one clause of BeamLoadsStores. -/
def LdBDoes : Prop :=
  ∀ (s : State) (t : Fin 384) (w : Be32Op) (v : Word), WhenLdB s t w v → Completes (.ldB t w) s fun u =>
    let x := threadAt s t.val w
    threadOf u.dev t.val = retired x x (some 0) (some (0, v))

/-- What ldH does: one clause of BeamLoadsStores. -/
def LdHDoes : Prop :=
  ∀ (s : State) (t : Fin 384) (w : Be32Op) (v : Word), WhenLdH s t w v → Completes (.ldH t w) s fun u =>
    let x := threadAt s t.val w
    threadOf u.dev t.val = retired x x (some 0) (some (0, v))

/-- What stA does: one clause of BeamLoadsStores. -/
def StADoes : Prop :=
  ∀ (s : State) (t : Fin 384) (w : Be32Op) (a : Word), WhenStA s t w a → Completes (.stA t w) s fun u =>
    let x := threadAt s t.val w
    threadOf u.dev t.val = retired x { x with stores := x.stores ++ [{ addr := alignTo a.toNat 4, bytes := leBytes 4 x.a.toNat, due := (match x.stores.getLast? with | some e => max (nowPs s.dev) e.due | none => nowPs s.dev) + cyclesPs s.dev 3 }] } none none

/-- What stX does: one clause of BeamLoadsStores. -/
def StXDoes : Prop :=
  ∀ (s : State) (t : Fin 384) (w : Be32Op) (a : Word), WhenStX s t w a → Completes (.stX t w) s fun u =>
    let x := threadAt s t.val w
    threadOf u.dev t.val = retired x { x with stores := x.stores ++ [{ addr := alignTo a.toNat 4, bytes := leBytes 4 x.x.toNat, due := (match x.stores.getLast? with | some e => max (nowPs s.dev) e.due | none => nowPs s.dev) + cyclesPs s.dev 3 }] } none none

/-- What stY does: one clause of BeamLoadsStores. -/
def StYDoes : Prop :=
  ∀ (s : State) (t : Fin 384) (w : Be32Op) (a : Word), WhenStY s t w a → Completes (.stY t w) s fun u =>
    let x := threadAt s t.val w
    threadOf u.dev t.val = retired x { x with stores := x.stores ++ [{ addr := alignTo a.toNat 4, bytes := leBytes 4 x.y.toNat, due := (match x.stores.getLast? with | some e => max (nowPs s.dev) e.due | none => nowPs s.dev) + cyclesPs s.dev 3 }] } none none

/-- What stB does: one clause of BeamLoadsStores. -/
def StBDoes : Prop :=
  ∀ (s : State) (t : Fin 384) (w : Be32Op) (a : Word), WhenStB s t w a → Completes (.stB t w) s fun u =>
    let x := threadAt s t.val w
    threadOf u.dev t.val = retired x { x with stores := x.stores ++ [{ addr := alignTo a.toNat 1, bytes := leBytes 1 x.a.toNat, due := (match x.stores.getLast? with | some e => max (nowPs s.dev) e.due | none => nowPs s.dev) + cyclesPs s.dev 3 }] } none none

/-- What stH does: one clause of BeamLoadsStores. -/
def StHDoes : Prop :=
  ∀ (s : State) (t : Fin 384) (w : Be32Op) (a : Word), WhenStH s t w a → Completes (.stH t w) s fun u =>
    let x := threadAt s t.val w
    threadOf u.dev t.val = retired x { x with stores := x.stores ++ [{ addr := alignTo a.toNat 2, bytes := leBytes 2 x.a.toNat, due := (match x.stores.getLast? with | some e => max (nowPs s.dev) e.due | none => nowPs s.dev) + cyclesPs s.dev 3 }] } none none

/-- What nop does: one clause of BeamMoves. -/
def NopDoes : Prop :=
  ∀ (s : State) (t : Fin 384) (w : Be32Op), WhenNop s t w → Completes (.nop t w) s fun u =>
    let x := threadAt s t.val w
    threadOf u.dev t.val = retired x x none none

/-- What nop does: one clause of BeamMoves (Illegal). -/
def NopIllegalDoes : Prop :=
  ∀ (s : State) (t : Fin 384) (w : Be32Op) (d : Dev), WhenNopIllegal s t w d → Completes (.nop t w) s fun u =>
    (threadOf u.dev t.val).state = .faulted ∧ nGet u.dev (prog_FAULT_CODE (refInst (threadOf d t.val).prog)) = 1 ∧
    nGet u.dev (prog_FAULT_PC (refInst (threadOf d t.val).prog)) = (threadOf d t.val).pc.toNat

/-- What mvXa does: one clause of BeamMoves. -/
def MvXaDoes : Prop :=
  ∀ (s : State) (t : Fin 384) (w : Be32Op), WhenMvXa s t w → Completes (.mvXa t w) s fun u =>
    let x := threadAt s t.val w
    threadOf u.dev t.val = retired x { x with x := x.a } (some 1) none

/-- What mvYa does: one clause of BeamMoves. -/
def MvYaDoes : Prop :=
  ∀ (s : State) (t : Fin 384) (w : Be32Op), WhenMvYa s t w → Completes (.mvYa t w) s fun u =>
    let x := threadAt s t.val w
    threadOf u.dev t.val = retired x { x with y := x.a } (some 2) none

/-- What mvAx does: one clause of BeamMoves. -/
def MvAxDoes : Prop :=
  ∀ (s : State) (t : Fin 384) (w : Be32Op), WhenMvAx s t w → Completes (.mvAx t w) s fun u =>
    let x := threadAt s t.val w
    threadOf u.dev t.val = retired x { x with a := x.x } (some 0) none

/-- What mvAy does: one clause of BeamMoves. -/
def MvAyDoes : Prop :=
  ∀ (s : State) (t : Fin 384) (w : Be32Op), WhenMvAy s t w → Completes (.mvAy t w) s fun u =>
    let x := threadAt s t.val w
    threadOf u.dev t.val = retired x { x with a := x.y } (some 0) none

/-- What mvAl does: one clause of BeamMoves. -/
def MvAlDoes : Prop :=
  ∀ (s : State) (t : Fin 384) (w : Be32Op), WhenMvAl s t w → Completes (.mvAl t w) s fun u =>
    let x := threadAt s t.val w
    threadOf u.dev t.val = retired x { x with a := x.l } (some 0) none

/-- What mvAt does: one clause of BeamMoves. -/
def MvAtDoes : Prop :=
  ∀ (s : State) (t : Fin 384) (w : Be32Op), WhenMvAt s t w → Completes (.mvAt t w) s fun u =>
    let x := threadAt s t.val w
    threadOf u.dev t.val = retired x { x with a := BitVec.ofNat 32 (t.val + if x.head < 16 then x.head * 2 ^ 16 else 2 ^ 20) } (some 0) none

/-- What mvAf does: one clause of BeamMoves. -/
def MvAfDoes : Prop :=
  ∀ (s : State) (t : Fin 384) (w : Be32Op), WhenMvAf s t w → Completes (.mvAf t w) s fun u =>
    let x := threadAt s t.val w
    threadOf u.dev t.val = retired x { x with a := BitVec.ofNat 32 (8 * x.n.toNat + 4 * x.z.toNat + 2 * x.c.toNat + x.v.toNat) } (some 0) none

/-- What mvFa does: one clause of BeamMoves. -/
def MvFaDoes : Prop :=
  ∀ (s : State) (t : Fin 384) (w : Be32Op), WhenMvFa s t w → Completes (.mvFa t w) s fun u =>
    let x := threadAt s t.val w
    threadOf u.dev t.val = retired x { x with n := x.a.getLsbD 3, z := x.a.getLsbD 2, c := x.a.getLsbD 1, v := x.a.getLsbD 0 } none none

/-- What add does: one clause of BeamArithmetic. -/
def AddDoes : Prop :=
  ∀ (s : State) (t : Fin 384) (w : Be32Op) (v : Word), WhenAdd s t w v → Completes (.add t w) s fun u =>
    let x := threadAt s t.val w
    let r : Word := x.a + v
    threadOf u.dev t.val = retired x { x with a := r, n := r.getLsbD 31, z := decide (r = 0), c := decide (2 ^ 32 ≤ x.a.toNat + v.toNat), v := !fits32 (x.a.toInt + v.toInt) } (some 0) none

/-- What addC does: one clause of BeamArithmetic. -/
def AddCDoes : Prop :=
  ∀ (s : State) (t : Fin 384) (w : Be32Op) (v : Word), WhenAddC s t w v → Completes (.addC t w) s fun u =>
    let x := threadAt s t.val w
    let r : Word := x.a + v + (if x.c then 1 else 0)
    threadOf u.dev t.val = retired x { x with a := r, n := r.getLsbD 31, z := decide (r = 0), c := decide (2 ^ 32 ≤ x.a.toNat + v.toNat + x.c.toNat), v := !fits32 (x.a.toInt + v.toInt + (x.c.toNat : Nat)) } (some 0) none

/-- What sub does: one clause of BeamArithmetic. -/
def SubDoes : Prop :=
  ∀ (s : State) (t : Fin 384) (w : Be32Op) (v : Word), WhenSub s t w v → Completes (.sub t w) s fun u =>
    let x := threadAt s t.val w
    let r : Word := x.a - v
    threadOf u.dev t.val = retired x { x with a := r, n := r.getLsbD 31, z := decide (r = 0), c := decide (v.toNat ≤ x.a.toNat), v := !fits32 (x.a.toInt - v.toInt) } (some 0) none

/-- What subC does: one clause of BeamArithmetic. -/
def SubCDoes : Prop :=
  ∀ (s : State) (t : Fin 384) (w : Be32Op) (v : Word), WhenSubC s t w v → Completes (.subC t w) s fun u =>
    let x := threadAt s t.val w
    let r : Word := x.a - v - (if x.c then 0 else 1)
    threadOf u.dev t.val = retired x { x with a := r, n := r.getLsbD 31, z := decide (r = 0), c := decide (v.toNat + (!x.c).toNat ≤ x.a.toNat), v := !fits32 (x.a.toInt - v.toInt - ((!x.c).toNat : Nat)) } (some 0) none

/-- What rsb does: one clause of BeamArithmetic. -/
def RsbDoes : Prop :=
  ∀ (s : State) (t : Fin 384) (w : Be32Op) (v : Word), WhenRsb s t w v → Completes (.rsb t w) s fun u =>
    let x := threadAt s t.val w
    let r : Word := v - x.a
    threadOf u.dev t.val = retired x { x with a := r, n := r.getLsbD 31, z := decide (r = 0), c := decide (x.a.toNat ≤ v.toNat), v := !fits32 (v.toInt - x.a.toInt) } (some 0) none

/-- What and does: one clause of BeamArithmetic. -/
def AndDoes : Prop :=
  ∀ (s : State) (t : Fin 384) (w : Be32Op) (v : Word), WhenAnd s t w v → Completes (.and t w) s fun u =>
    let x := threadAt s t.val w
    let r : Word := x.a &&& v
    threadOf u.dev t.val = retired x { x with a := r, n := r.getLsbD 31, z := decide (r = 0) } (some 0) none

/-- What or does: one clause of BeamArithmetic. -/
def OrDoes : Prop :=
  ∀ (s : State) (t : Fin 384) (w : Be32Op) (v : Word), WhenOr s t w v → Completes (.or t w) s fun u =>
    let x := threadAt s t.val w
    let r : Word := x.a ||| v
    threadOf u.dev t.val = retired x { x with a := r, n := r.getLsbD 31, z := decide (r = 0) } (some 0) none

/-- What xor does: one clause of BeamArithmetic. -/
def XorDoes : Prop :=
  ∀ (s : State) (t : Fin 384) (w : Be32Op) (v : Word), WhenXor s t w v → Completes (.xor t w) s fun u =>
    let x := threadAt s t.val w
    let r : Word := x.a ^^^ v
    threadOf u.dev t.val = retired x { x with a := r, n := r.getLsbD 31, z := decide (r = 0) } (some 0) none

/-- What cmp does: one clause of BeamArithmetic. -/
def CmpDoes : Prop :=
  ∀ (s : State) (t : Fin 384) (w : Be32Op) (v : Word), WhenCmp s t w v → Completes (.cmp t w) s fun u =>
    let x := threadAt s t.val w
    let r : Word := x.a - v
    threadOf u.dev t.val = retired x { x with n := r.getLsbD 31, z := decide (r = 0), c := decide (v.toNat ≤ x.a.toNat), v := !fits32 (x.a.toInt - v.toInt) } none none

/-- What cmpX does: one clause of BeamArithmetic. -/
def CmpXDoes : Prop :=
  ∀ (s : State) (t : Fin 384) (w : Be32Op) (v : Word), WhenCmpX s t w v → Completes (.cmpX t w) s fun u =>
    let x := threadAt s t.val w
    let r : Word := x.x - v
    threadOf u.dev t.val = retired x { x with n := r.getLsbD 31, z := decide (r = 0), c := decide (v.toNat ≤ x.x.toNat), v := !fits32 (x.x.toInt - v.toInt) } none none

/-- What cmpY does: one clause of BeamArithmetic. -/
def CmpYDoes : Prop :=
  ∀ (s : State) (t : Fin 384) (w : Be32Op) (v : Word), WhenCmpY s t w v → Completes (.cmpY t w) s fun u =>
    let x := threadAt s t.val w
    let r : Word := x.y - v
    threadOf u.dev t.val = retired x { x with n := r.getLsbD 31, z := decide (r = 0), c := decide (v.toNat ≤ x.y.toNat), v := !fits32 (x.y.toInt - v.toInt) } none none

/-- What tst does: one clause of BeamArithmetic. -/
def TstDoes : Prop :=
  ∀ (s : State) (t : Fin 384) (w : Be32Op) (v : Word), WhenTst s t w v → Completes (.tst t w) s fun u =>
    let x := threadAt s t.val w
    let r : Word := x.a &&& v
    threadOf u.dev t.val = retired x { x with n := r.getLsbD 31, z := decide (r = 0) } none none

/-- What shl does: one clause of BeamArithmetic. -/
def ShlDoes : Prop :=
  ∀ (s : State) (t : Fin 384) (w : Be32Op) (v : Word), WhenShl s t w v → Completes (.shl t w) s fun u =>
    let x := threadAt s t.val w
    let r : Word := x.a <<< (v.toNat % 32)
    threadOf u.dev t.val = retired x { x with a := r, n := r.getLsbD 31, z := decide (r = 0), c := if v.toNat % 32 = 0 then x.c else x.a.getLsbD (32 - v.toNat % 32) } (some 0) none

/-- What shr does: one clause of BeamArithmetic. -/
def ShrDoes : Prop :=
  ∀ (s : State) (t : Fin 384) (w : Be32Op) (v : Word), WhenShr s t w v → Completes (.shr t w) s fun u =>
    let x := threadAt s t.val w
    let r : Word := x.a >>> (v.toNat % 32)
    threadOf u.dev t.val = retired x { x with a := r, n := r.getLsbD 31, z := decide (r = 0), c := if v.toNat % 32 = 0 then x.c else x.a.getLsbD (v.toNat % 32 - 1) } (some 0) none

/-- What sar does: one clause of BeamArithmetic. -/
def SarDoes : Prop :=
  ∀ (s : State) (t : Fin 384) (w : Be32Op) (v : Word), WhenSar s t w v → Completes (.sar t w) s fun u =>
    let x := threadAt s t.val w
    let r : Word := x.a.sshiftRight (v.toNat % 32)
    threadOf u.dev t.val = retired x { x with a := r, n := r.getLsbD 31, z := decide (r = 0), c := if v.toNat % 32 = 0 then x.c else x.a.getLsbD (v.toNat % 32 - 1) } (some 0) none

/-- What min does: one clause of BeamArithmetic. -/
def MinDoes : Prop :=
  ∀ (s : State) (t : Fin 384) (w : Be32Op) (v : Word), WhenMin s t w v → Completes (.min t w) s fun u =>
    let x := threadAt s t.val w
    let r : Word := if x.a.toInt ≤ v.toInt then x.a else v
    threadOf u.dev t.val = retired x { x with a := r, n := r.getLsbD 31, z := decide (r = 0) } (some 0) none

/-- What max does: one clause of BeamArithmetic. -/
def MaxDoes : Prop :=
  ∀ (s : State) (t : Fin 384) (w : Be32Op) (v : Word), WhenMax s t w v → Completes (.max t w) s fun u =>
    let x := threadAt s t.val w
    let r : Word := if x.a.toInt ≤ v.toInt then v else x.a
    threadOf u.dev t.val = retired x { x with a := r, n := r.getLsbD 31, z := decide (r = 0) } (some 0) none

/-- What addX does: one clause of BeamArithmetic. -/
def AddXDoes : Prop :=
  ∀ (s : State) (t : Fin 384) (w : Be32Op) (v : Word), WhenAddX s t w v → Completes (.addX t w) s fun u =>
    let x := threadAt s t.val w
    threadOf u.dev t.val = retired x { x with x := x.x + v } (some 1) none

/-- What addY does: one clause of BeamArithmetic. -/
def AddYDoes : Prop :=
  ∀ (s : State) (t : Fin 384) (w : Be32Op) (v : Word), WhenAddY s t w v → Completes (.addY t w) s fun u =>
    let x := threadAt s t.val w
    threadOf u.dev t.val = retired x { x with y := x.y + v } (some 2) none

/-- What mul does: one clause of BeamLongOperations. -/
def MulDoes : Prop :=
  ∀ (s : State) (t : Fin 384) (w : Be32Op) (v : Word), WhenMul s t w v → Completes (.mul t w) s fun u =>
    let x := threadAt s t.val w
    threadOf u.dev t.val = retired x { x with longs := x.longs ++ [(nowPs s.dev + cyclesPs s.dev 3, x.a * v)] } none none

/-- What mulq does: one clause of BeamLongOperations. -/
def MulqDoes : Prop :=
  ∀ (s : State) (t : Fin 384) (w : Be32Op) (v : Word), WhenMulq s t w v → Completes (.mulq t w) s fun u =>
    let x := threadAt s t.val w
    threadOf u.dev t.val = retired x { x with longs := x.longs ++ [(nowPs s.dev + cyclesPs s.dev 3, BitVec.ofInt 32 (x.a.toInt * v.toInt / 65536))] } none none

/-- What div does: one clause of BeamLongOperations. -/
def DivDoes : Prop :=
  ∀ (s : State) (t : Fin 384) (w : Be32Op) (v : Word), WhenDiv s t w v → Completes (.div t w) s fun u =>
    let x := threadAt s t.val w
    threadOf u.dev t.val = retired x { x with longs := x.longs ++ [(nowPs s.dev + cyclesPs s.dev 20, if v = 0 then (if 0 ≤ x.a.toInt then 0x7FFFFFFF#32 else 0x80000000#32)
      else BitVec.ofInt 32 (min 2147483647 (x.a.toInt.tdiv v.toInt)))] } none none

/-- What recip does: one clause of BeamLongOperations. -/
def RecipDoes : Prop :=
  ∀ (s : State) (t : Fin 384) (w : Be32Op) (v : Word), WhenRecip s t w v → Completes (.recip t w) s fun u =>
    let x := threadAt s t.val w
    threadOf u.dev t.val = retired x { x with longs := x.longs ++ [(nowPs s.dev + cyclesPs s.dev 10, if v = 0 then 0x7FFFFFFF#32
      else satWord (if 0 ≤ v.toInt then roundDiv 4294967296 v.toInt.toNat else -roundDiv 4294967296 (-v.toInt).toNat))] } none none

/-- What sqrt does: one clause of BeamLongOperations. -/
def SqrtDoes : Prop :=
  ∀ (s : State) (t : Fin 384) (w : Be32Op) (v : Word), WhenSqrt s t w v → Completes (.sqrt t w) s fun u =>
    let x := threadAt s t.val w
    threadOf u.dev t.val = retired x { x with longs := x.longs ++ [(nowPs s.dev + cyclesPs s.dev 16, sqrtWord v)] } none none

/-- What sincos does: one clause of BeamLongOperations. -/
def SincosDoes : Prop :=
  ∀ (s : State) (t : Fin 384) (w : Be32Op) (v : Word), WhenSincos s t w v → Completes (.sincos t w) s fun u =>
    let x := threadAt s t.val w
    threadOf u.dev t.val = retired x { x with longs := x.longs ++ [(nowPs s.dev + cyclesPs s.dev 14, BitVec.ofNat 32 (twosOf 16 (sinAngle (v.toNat % 65536)) * 65536 + twosOf 16 (sinAngle (v.toNat % 65536 + 16384))))] } none none

/-- What longOpComplete does: one clause of BeamLongOperations. -/
def LongOpCompleteDoes : Prop :=
  ∀ (s : State) (t : Fin 384) (e : Nat) (r : Word), WhenLongOpComplete s t e r → Completes (.longOpComplete t) s fun u =>
    threadOf u.dev t.val = { threadOf s.dev t.val with longs := [], l := r }

/-- What jmp does: one clause of BeamControlFlow. -/
def JmpDoes : Prop :=
  ∀ (s : State) (t : Fin 384) (w : Be32Op), WhenJmp s t w → Completes (.jmp t w) s fun u =>
    let x := threadAt s t.val w
    threadOf u.dev t.val = jumped x x (jumpTarget x w)

/-- What call does: one clause of BeamControlFlow. -/
def CallDoes : Prop :=
  ∀ (s : State) (t : Fin 384) (w : Be32Op), WhenCall s t w → Completes (.call t w) s fun u =>
    let x := threadAt s t.val w
    threadOf u.dev t.val = jumped x { x with rstack := (x.pc + 4) :: x.rstack } (jumpTarget x w)

/-- What ret does: one clause of BeamControlFlow. -/
def RetDoes : Prop :=
  ∀ (s : State) (t : Fin 384) (w : Be32Op) (a : Word) (l : List Word), WhenRet s t w a l → Completes (.ret t w) s fun u =>
    let x := threadAt s t.val w
    threadOf u.dev t.val = jumped x { x with rstack := l } a

/-- What stA does: one clause of BeamFarAndPort (Far). -/
def StAFarDoes : Prop :=
  ∀ (s : State) (k : Fin 5) (t : Fin 384) (w : Be32Op), WhenStAFar s k t w → Completes ((storeForm k).1 t w) s fun u =>
    (∀ i < (storeForm k).2.2.1, memRead u.mem (storeAddr k s t.val w + i) = (storeBytes k s t.val w).getD i 0) ∧
    threadOf u.dev t.val = retired (threadAt s t.val w) { threadAt s t.val w with farStores := (threadAt s t.val w).farStores + 1 } none none

/-- What stA does: one clause of BeamFarAndPort (Rejected). -/
def StARejectedDoes : Prop :=
  ∀ (s : State) (k : Fin 5) (t : Fin 384) (w : Be32Op), WhenStARejected s k t w → Completes ((storeForm k).1 t w) s fun u =>
    let x := threadAt s t.val w
    let r := prog_REJECTED_STORES (refInst x.prog)
    nGet u.dev r = satAdd 32 (nGet (atIssue s t.val w) r) 1 ∧ u.mem = s.mem ∧ threadOf u.dev t.val = retired x x none none

/-- What stA does: one clause of BeamFarAndPort (Dropped). -/
def StADroppedDoes : Prop :=
  ∀ (s : State) (k : Fin 5) (t : Fin 384) (w : Be32Op), WhenStADropped s k t w → Completes ((storeForm k).1 t w) s fun u =>
    let x := threadAt s t.val w
    let r := prog_DROPPED_WRITES (refInst x.prog)
    nGet u.dev r = satAdd 32 (nGet (atIssue s t.val w) r) 1 ∧ u.mem = s.mem ∧ threadOf u.dev t.val = retired x x none none

/-- What stA does: one clause of BeamFarAndPort (Port). -/
def StAPortDoes : Prop :=
  ∀ (s : State) (k : Fin 5) (t : Fin 384) (w : Be32Op) (h i off : Nat) (l : List Nat), WhenStAPort s k t w h i off l → Completes ((storeForm k).1 t w) s fun u =>
    let x := threadAt s t.val w
    let v := (storeForm k).2.2.2 x
    u.dev.islands.crossing = (atIssue s t.val w).islands.crossing ++ { src := t.val / 32, dst := i, addr := off, val := v, thread := t.val + 1, prog := x.prog, isRead := false } ::
      l.map (fun j => { src := t.val / 32, dst := j, addr := off, val := v, thread := t.val + 1, prog := 0, isRead := false }) ∧
    threadOf u.dev t.val = retired x x none none

/-- What stA does: one clause of BeamFarAndPort (PortDropped). -/
def StAPortDroppedDoes : Prop :=
  ∀ (s : State) (k : Fin 5) (t : Fin 384) (w : Be32Op) (h : Nat), WhenStAPortDropped s k t w h → Completes ((storeForm k).1 t w) s fun u =>
    let x := threadAt s t.val w
    let r := prog_DROPPED_WRITES (refInst x.prog)
    nGet u.dev r = satAdd 32 (nGet (atIssue s t.val w) r) 1 ∧ u.dev.islands.crossing = (atIssue s t.val w).islands.crossing

/-- What stT does: one clause of BeamFarAndPort. -/
def StTDoes : Prop :=
  ∀ (s : State) (t : Fin 384) (w : Be32Op) (h : Nat), WhenStT s t w h → Completes (.stT t w) s fun u =>
    let d := atIssue s t.val w
    let x := threadAt s t.val w
    let r := portReach d t.val w
    let tm := (headOf d h).timing
    let total := max 1 (tm.hTotal * tm.vTotal)
    let m := mirror d h
    let p := (m.2 + timedLead s t.val w h) % total
    (∀ i ∈ r.1, ∃ b, timedOf u.dev i = timedOf d i ++ [{ frame := (m.1 + (m.2 + timedLead s t.val w h) / total) % 2 ^ 32, line := p / max 1 tm.hTotal, col := p % max 1 tm.hTotal, off := r.2, val := x.a.toNat, thread := t.val, prog := b }]) ∧
    threadOf u.dev t.val = retired x x none none

/-- What stT does: one clause of BeamFarAndPort (Late). -/
def StTLateDoes : Prop :=
  ∀ (s : State) (t : Fin 384) (w : Be32Op) (h i off : Nat) (l : List Nat), WhenStTLate s t w h i off l → Completes (.stT t w) s fun u =>
    let x := threadAt s t.val w
    let d := atIssue s t.val w
    let p := refInst x.prog
    u.dev.islands.crossing = d.islands.crossing ++ { src := t.val / 32, dst := i, addr := off, val := x.a, thread := t.val + 1, prog := x.prog, isRead := false } ::
      l.map (fun j => { src := t.val / 32, dst := j, addr := off, val := x.a, thread := t.val + 1, prog := 0, isRead := false }) ∧
    nGet u.dev (prog_LATE_WRITES p) = satAdd 32 (nGet d (prog_LATE_WRITES p)) 1

/-- What waitpos does: one clause of BeamWaitsAndCaches. -/
def WaitposDoes : Prop :=
  ∀ (s : State) (t : Fin 384) (w : Be32Op) (h line col : Nat), WhenWaitpos s t w h line col → Completes (.waitpos t w) s fun u =>
    let d := atIssue s t.val w
    let x := threadAt s t.val w
    let p := line * (headOf d h).timing.hTotal + col
    if (mirror d h).2 = p ∧ ¬ (threadRaster d t.val ∧ p = 0) then threadOf u.dev t.val = retired x x none none
    else (threadOf u.dev t.val).pc = x.pc ∧
      (threadOf u.dev t.val).state = .waitPos (if (mirror d h).2 < p then (mirror d h).1 else ((mirror d h).1 + 1) % 2 ^ 32) line col

/-- What waitev does: one clause of BeamWaitsAndCaches. -/
def WaitevDoes : Prop :=
  ∀ (s : State) (t : Fin 384) (w : Be32Op) (n : Nat), WhenWaitev s t w n → Completes (.waitev t w) s fun u =>
    let d := atIssue s t.val w
    let x := threadAt s t.val w
    threadOf u.dev t.val = retired x { x with a := BitVec.ofNat 32 (claimWord d n false) } (some 0) none ∧
    nGet u.dev (ev_STATE n) = 2 ∧ nGet u.dev (ev_COUNT n) = 0 ∧ mapFind u.dev.events.claimant n = some (t.val + 1)

/-- What waitev does: one clause of BeamWaitsAndCaches (Waits). -/
def WaitevWaitsDoes : Prop :=
  ∀ (s : State) (t : Fin 384) (w : Be32Op), WhenWaitevWaits s t w → Completes (.waitev t w) s fun u =>
    (threadOf u.dev t.val).state = .waitEv ∧ (threadOf u.dev t.val).pc = (threadAt s t.val w).pc ∧ (threadOf u.dev t.val).delayed = none

/-- What eoi does: one clause of BeamWaitsAndCaches. -/
def EoiDoes : Prop :=
  ∀ (s : State) (t : Fin 384) (w : Be32Op) (n : Nat), WhenEoi s t w n → Completes (.eoi t w) s fun u =>
    let d := atIssue s t.val w
    let x := threadAt s t.val w
    mapFind u.dev.events.claimant n = none ∧
    nGet u.dev (ev_STATE n) = (if 0 < nGet d (ev_COUNT n) ∨ (eventSense n = 1 ∧ nGet d (ev_LEVEL n) = 1) then 1 else 0) ∧
    threadOf u.dev t.val = retired x x none none

/-- What fence does: one clause of BeamWaitsAndCaches. -/
def FenceDoes : Prop :=
  ∀ (s : State) (t : Fin 384) (w : Be32Op), WhenFence s t w → Completes (.fence t w) s fun u =>
    threadOf u.dev t.val = retired (threadAt s t.val w) (threadAt s t.val w) none none ∧ u.dev.beam.icache = s.dev.beam.icache

/-- What syncf does: one clause of BeamWaitsAndCaches. -/
def SyncfDoes : Prop :=
  ∀ (s : State) (t : Fin 384) (w : Be32Op), WhenSyncf s t w → Completes (.syncf t w) s fun u =>
    threadOf u.dev t.val = retired (threadAt s t.val w) (threadAt s t.val w) none none ∧
    u.dev.beam.icache = if perfMode (atIssue s t.val w) t.val then s.dev.beam.icache.filter (fun k => decide (k / 2 ^ 16 ≠ t.val / 4)) else s.dev.beam.icache

/-- What farb does: one clause of BeamWaitsAndCaches. -/
def FarbDoes : Prop :=
  ∀ (s : State) (t : Fin 384) (w : Be32Op) (v : Word), WhenFarb s t w v → Completes (.farb t w) s fun u =>
    threadOf u.dev t.val = retired (threadAt s t.val w) { threadAt s t.val w with farBase := v.toNat % 2 ^ 21 * 0x80000 } none none

/-- What cinv does: one clause of BeamWaitsAndCaches. -/
def CinvDoes : Prop :=
  ∀ (s : State) (t : Fin 384) (w : Be32Op), WhenCinv s t w → Completes (.cinv t w) s fun u =>
    let x := threadAt s t.val w
    threadOf u.dev t.val = retired x x none none ∧
    u.dev.beam.dcache = (if perfMode (atIssue s t.val w) t.val then
      mapErase s.dev.beam.dcache (t.val / 4 * 2 ^ 34 + (x.farBase + w.operand.toNat) % 2 ^ 40 / 64) else s.dev.beam.dcache)

/-- What cinva does: one clause of BeamWaitsAndCaches. -/
def CinvaDoes : Prop :=
  ∀ (s : State) (t : Fin 384) (w : Be32Op), WhenCinva s t w → Completes (.cinva t w) s fun u =>
    let x := threadAt s t.val w
    threadOf u.dev t.val = retired x x none none ∧
    u.dev.beam.dcache = (if perfMode (atIssue s t.val w) t.val then
      s.dev.beam.dcache.filter (fun e => decide (e.1 / 2 ^ 34 ≠ t.val / 4)) else s.dev.beam.dcache)

/-- What ring does: one clause of BeamWaitsAndCaches. -/
def RingDoes : Prop :=
  ∀ (s : State) (t : Fin 384) (w : Be32Op), WhenRing s t w → Completes (.ring t w) s fun u =>
    let d := atIssue s t.val w
    let x := threadAt s t.val w
    let q := mapGet d.beam.posts (t.val / 4) []
    threadOf u.dev t.val = retired x { x with c := decide (q.length < 4) } none none ∧
    mapGet u.dev.beam.posts (t.val / 4) [] = if q.length < 4 then q ++ [{ thread := t.val, prog := x.prog, need := x.farStores, channel := none, value := x.a.toNat }] else q

/-- What dmaq does: one clause of BeamWaitsAndCaches. -/
def DmaqDoes : Prop :=
  ∀ (s : State) (t : Fin 384) (w : Be32Op), WhenDmaq s t w → Completes (.dmaq t w) s fun u =>
    let d := atIssue s t.val w
    let x := threadAt s t.val w
    let q := mapGet d.beam.posts (t.val / 4) []
    threadOf u.dev t.val = retired x { x with c := decide (q.length < 4) } none none ∧
    mapGet u.dev.beam.posts (t.val / 4) [] = if q.length < 4 then
      q ++ [{ thread := t.val, prog := x.prog, need := x.farStores, channel := some (w.operand.toNat % 32), value := (x.farBase + x.a.toNat) % 2 ^ 40 }] else q

/-- What storeDrain does: one clause of BeamWaitsEnd. -/
def StoreDrainDoes : Prop :=
  ∀ (s : State) (t : Fin 384) (e : StoreEntry), WhenStoreDrain s t e → Completes (.storeDrain t) s fun u =>
    (threadOf u.dev t.val).stores = [] ∧ ∀ i < e.bytes.length, scratchByte u.dev t.val (e.addr + i) = e.bytes.getD i 0

/-- What storeDrain does: one clause of BeamWaitsEnd (Two). -/
def StoreDrainTwoDoes : Prop :=
  ∀ (s : State) (t : Fin 384) (e f : StoreEntry), WhenStoreDrainTwo s t e f → Completes (.storeDrain t) s fun u =>
    (threadOf u.dev t.val).stores = [f] ∧ ∀ i < e.bytes.length, scratchByte u.dev t.val (e.addr + i) = e.bytes.getD i 0

/-- What loadDataArrival does: one clause of BeamWaitsEnd. -/
def LoadDataArrivalDoes : Prop :=
  ∀ (s : State) (t : Fin 384) (k : Fin 3) (o a : Nat), WhenLoadDataArrival s t k o a → Completes (.loadDataArrival t) s fun u =>
    hasLoaded s u t.val k.val (BitVec.ofNat 32 (fabricLe s.dev s.mem a 4)) ∧ u.mem = s.mem

/-- What loadDataArrival does: one clause of BeamWaitsEnd (Dram). -/
def LoadDataArrivalDramDoes : Prop :=
  ∀ (s : State) (t : Fin 384) (k : Fin 3) (o a : Nat), WhenLoadDataArrivalDram s t k o a → Completes (.loadDataArrival t) s fun u =>
    hasLoaded s u t.val k.val (BitVec.ofNat 32 (fabricLe s.dev s.mem a 4)) ∧ u.mem = s.mem ∧
    cacheLine u.dev t.val a = some (fabricBytes s.dev s.mem (a / 64 * 64) 64)

/-- What loadDataArrival does: one clause of BeamWaitsEnd (Port). -/
def LoadDataArrivalPortDoes : Prop :=
  ∀ (s : State) (t : Fin 384) (k : Fin 3) (o i off : Nat) (l : List Nat), WhenLoadDataArrivalPort s t k o i off l → Completes (.loadDataArrival t) s fun u =>
    hasLoaded s u t.val k.val (BitVec.ofNat 32 (islandRead s.dev s.mem i off))

/-- What instructionCacheFill does: one clause of BeamWaitsEnd. -/
def InstructionCacheFillDoes : Prop :=
  ∀ (s : State) (t : Fin 384), WhenInstructionCacheFill s t → Completes (.instructionCacheFill t) s fun u =>
    u.dev.beam.icache = s.dev.beam.icache ++ [fetchLine s.dev t.val] ∧
    (threadOf u.dev t.val).state = .running ∧ (threadOf u.dev t.val).pc = (threadOf s.dev t.val).pc + 4

/-- What instructionCacheFill does: one clause of BeamWaitsEnd (Full). -/
def InstructionCacheFillFullDoes : Prop :=
  ∀ (s : State) (t : Fin 384) (a b m o : Nat), WhenInstructionCacheFillFull s t a b m o → Completes (.instructionCacheFill t) s fun u =>
    ∃ gone ∈ s.dev.beam.icache, gone / 2 ^ 16 = t.val / 4 ∧
    u.dev.beam.icache = s.dev.beam.icache.filter (fun i => decide (i ≠ gone)) ++ [fetchLine s.dev t.val]

/-- What waitposEnd does: one clause of BeamWaitsEnd. -/
def WaitposEndDoes : Prop :=
  ∀ (s : State) (t : Fin 384) (f l c h : Nat), WhenWaitposEnd s t f l c h → Completes (.waitposEnd t) s fun u =>
    (threadOf u.dev t.val).state = .running ∧ (threadOf u.dev t.val).pc = (threadOf s.dev t.val).pc + 4 ∧
    ((threadOf s.dev t.val).prog ≠ 0 → nGet u.dev (prog_RUN_STATE (refInst (threadOf s.dev t.val).prog)) = 2)

/-- What clusterFault does: one clause of BeamWaitsEnd. -/
def ClusterFaultDoes : Prop :=
  ∀ (s : State) (c : ClusterLoss), WhenClusterFault s → Completes (.clusterFault c) s fun u =>
    u.dev.stoker.clusters = addOnce s.dev.stoker.clusters c.cluster.val ∧ u.dev.stoker.counted.isSome = true ∧
    ∀ k < 32, (threadOf u.dev (32 * c.cluster.val + k)).state = .empty ∨ (threadOf u.dev (32 * c.cluster.val + k)).state = .faulted

/-- What clusterFault does: one clause of BeamWaitsEnd (Step). -/
def ClusterFaultStepDoes : Prop :=
  ∀ (s : State) (c : ClusterLoss), WhenClusterFaultStep s → Completes (.clusterFault c) s fun u =>
    let d := holdCapacity ((List.range 32).foldl (fun d k => clusterStop d (32 * c.cluster.val + k)) (bankUpset s.dev c))
    u = takeFree (withDev s (rerunModel { d with stoker.clusters := addOnce d.stoker.clusters c.cluster.val }))

/-- What clusterFault does: one clause of BeamWaitsEnd (Code). -/
def ClusterFaultCodeDoes : Prop :=
  ∀ (s : State) (c : Fin 12) (w : Fin 131072), WhenClusterFaultCode s → Completes (.clusterFault { cluster := c, word := some w }) s fun u =>
    nGet u.dev mem_SRAM_UNCORRECTABLE = satAdd 32 (nGet s.dev mem_SRAM_UNCORRECTABLE) 1 ∧
    u.dev.dram.badWords.contains (bankWord0 + 131072 * c.val + w.val) = true

/-- What farWriteResponse does: one clause of BeamQueuesAndClaims. -/
def FarWriteResponseDoes : Prop :=
  ∀ (s : State) (t : Fin 384), WhenFarWriteResponse s t → Completes (.farWriteResponse t) s fun u =>
    (threadOf u.dev t.val).farStores = (threadOf s.dev t.val).farStores - 1 ∧ u.dev.islands = s.dev.islands ∧
    postsOf u.dev (t.val / 4) = (postsOf s.dev (t.val / 4)).map (fun p => if p.thread = t.val then { p with need := p.need - 1 } else p)

/-- What farWriteResponse does: one clause of BeamQueuesAndClaims (Bell). -/
def FarWriteResponseBellDoes : Prop :=
  ∀ (s : State) (t : Fin 384) (b : Bell), WhenFarWriteResponseBell s t b → Completes (.farWriteResponse t) s fun u =>
    (threadOf u.dev t.val).farStores = (threadOf s.dev t.val).farStores - 1 ∧ u.dev.beam.bells = [] ∧
    u.dev.islands.crossing = s.dev.islands.crossing ++
      [{ src := t.val / 32, dst := 100, addr := b.addr, val := b.value, thread := t.val + 1, prog := b.prog, isRead := false }]

/-- What waitevClaim does: one clause of BeamQueuesAndClaims. -/
def WaitevClaimDoes : Prop :=
  ∀ (s : State) (t : Fin 384) (n : Nat), WhenWaitevClaim s t n → Completes (.waitevClaim t) s fun u =>
    (threadOf u.dev t.val).state = .running ∧ (threadOf u.dev t.val).pc = (threadOf s.dev t.val).pc + 4 ∧
    (threadOf u.dev t.val).a = BitVec.ofNat 32 (claimWord s.dev n false) ∧ nGet u.dev (ev_STATE n) = 2 ∧
    mapFind u.dev.events.claimant n = some (t.val + 1)

/-- What postQueueDepart does: one clause of BeamQueuesAndClaims. -/
def PostQueueDepartDoes : Prop :=
  ∀ (s : State) (e : Fin 96) (p : Post) (l : List Post) (n : Fin 32), WhenPostQueueDepart s e p l n → Completes (.postQueueDepart e) s fun u =>
    mapGet u.dev.beam.posts e.val [] = l ∧ (chanOf u.dev n.val).queue = (chanOf s.dev n.val).queue ++ [p.value] ∧ nGet u.dev (dma_QUEUED n.val) = (chanOf u.dev n.val).queue.length

/-- What postQueueDepart does: one clause of BeamQueuesAndClaims (Foreign). -/
def PostQueueDepartForeignDoes : Prop :=
  ∀ (s : State) (e : Fin 96) (p : Post) (l : List Post) (n : Fin 32), WhenPostQueueDepartForeign s e p l n → Completes (.postQueueDepart e) s fun u =>
    mapGet u.dev.beam.posts e.val [] = l ∧ nGet u.dev (dma_FOREIGN_POSTS n.val) = satAdd 32 (nGet s.dev (dma_FOREIGN_POSTS n.val)) 1

/-- What postQueueDepart does: one clause of BeamQueuesAndClaims (Rings). -/
def PostQueueDepartRingsDoes : Prop :=
  ∀ (s : State) (e : Fin 96) (p : Post) (l : List Post), WhenPostQueueDepartRings s e p l → Completes (.postQueueDepart e) s fun u =>
    mapGet u.dev.beam.posts e.val [] = l ∧
    u.dev.islands.crossing = s.dev.islands.crossing ++
      [{ src := e.val / 8, dst := 100, addr := 0x2000010000, val := BitVec.ofNat 32 p.value, thread := 0, prog := p.prog, isRead := false }]

/-- What timedWriteLanding does: one clause of BeamQueuesAndClaims. -/
def TimedWriteLandingDoes : Prop :=
  ∀ (s : State) (isl : Fin 105) (h : Fin 16) (w : TimedWrite), WhenTimedWriteLanding s isl h w → Completes (.timedWriteLanding isl) s fun u =>
    timedOf u.dev isl.val = [] ∧ (headOf u.dev h.val).ucol = w.val % 2 ^ 24

/-- What timedWriteLanding does: one clause of BeamQueuesAndClaims (Pipe). -/
def TimedWriteLandingPipeDoes : Prop :=
  ∀ (s : State) (isl : Fin 105) (p : Fin 32) (h : Nat) (w : TimedWrite), WhenTimedWriteLandingPipe s isl p h w → Completes (.timedWriteLanding isl) s fun u =>
    u.dev = pipeLand (setTimed s.dev isl.val []) s.mem p.val w.off w.val w.prog w.line w.col true

/-- What beamPortQueueFree does: one clause of BeamQueuesAndClaims. -/
def BeamPortQueueFreeDoes : Prop :=
  ∀ (s : State) (isl : Fin 105) (t : Fin 384) (o f l c h i off : Nat), WhenBeamPortQueueFree s isl t o f l c h i off → Completes (.beamPortQueueFree isl) s fun u =>
    let x := threadOf s.dev t.val
    timedOf u.dev i = timedOf s.dev i ++ [{ frame := f, line := l, col := c, off := off, val := x.a.toNat, thread := t.val, prog := x.prog }] ∧
    (threadOf u.dev t.val).state = .running ∧ (threadOf u.dev t.val).pc = x.pc + 4

/-- What beamPortQueueFree does: one clause of BeamQueuesAndClaims (Dropped). -/
def BeamPortQueueFreeDroppedDoes : Prop :=
  ∀ (s : State) (isl : Fin 105) (t : Fin 384) (o : Nat), WhenBeamPortQueueFreeDropped s isl t o → Completes (.beamPortQueueFree isl) s fun u =>
    (threadOf u.dev t.val).state = .running ∧ (threadOf u.dev t.val).pc = (threadOf s.dev t.val).pc + 4

/-- What registerWrite does: one clause of RegisterCrossings. -/
def RegisterWriteDoes : Prop :=
  ∀ (s : State) (src : Fin 105) (addr i off : Nat) (v : Word), WhenRegisterWrite s src addr i off → Completes (.registerWrite src addr v) s fun u =>
    u.dev.islands.crossing = s.dev.islands.crossing ++ [{ src := src.val, dst := islandOf i, addr := (if 12 ≤ islandOf i ∧ islandOf i < 60 then off else addr), val := v, thread := 0, prog := 0, isRead := false }]

/-- What registerWrite does: one clause of RegisterCrossings (Unmapped). -/
def RegisterWriteUnmappedDoes : Prop :=
  ∀ (s : State) (src : Fin 105) (addr : Nat) (v : Word), WhenRegisterWriteUnmapped s addr → Completes (.registerWrite src addr v) s fun u =>
    nGet u.dev mem_UNMAPPED_ACCESSES = satAdd 32 (nGet s.dev mem_UNMAPPED_ACCESSES) 1 ∧ u.dev.islands = s.dev.islands

/-- What untimedWriteArrival does: one clause of RegisterCrossings. -/
def UntimedWriteArrivalDoes : Prop :=
  ∀ (s : State) (h : Fin 16) (src : Fin 105) (dst : Fin 105) (w : RegWrite) (l : List RegWrite), WhenUntimedWriteArrival s h src dst w l → Completes (.untimedWriteArrival dst [src]) s fun u =>
    u.dev.islands.crossing = l ∧ (headOf u.dev h.val).ucol = w.val.toNat % 2 ^ 24

/-- What untimedWriteArrival does: one clause of RegisterCrossings (Off). -/
def UntimedWriteArrivalOffDoes : Prop :=
  ∀ (s : State) (src : Fin 105) (dst : Fin 105) (w : RegWrite) (l : List RegWrite), WhenUntimedWriteArrivalOff s src dst w l → Completes (.untimedWriteArrival dst [src]) s fun u =>
    u.dev.islands.crossing = l ∧ nGet u.dev ctrCtl_LAST_OFF_ISLAND = dst.val ∧
    nGet u.dev ctrCtl_ISLAND_OFF_ACCESSES = satAdd 32 (nGet s.dev ctrCtl_ISLAND_OFF_ACCESSES) 1

/-- What gatedIslandAccessResume does: one clause of RegisterCrossings. -/
def GatedIslandAccessResumeDoes : Prop :=
  ∀ (s : State) (isl : Fin 105), WhenGatedIslandAccessResume s isl → Completes (.gatedIslandAccessResume isl) s fun u =>
    u.dev.islands.gated = s.dev.islands.gated.filter (fun i => decide (i ≠ isl.val)) ∧
    u.dev.islands.waiting = s.dev.islands.waiting.filter (fun w => decide (w.dst ≠ isl.val))

/-- What doorbell does: one clause of EventsAndDoorbells. -/
def DoorbellDoes : Prop :=
  ∀ (s : State) (writer : Ref) (v : Word) (n a : Nat), WhenDoorbell s v n a → Completes (.doorbell writer v) s fun u =>
    nGet u.dev (ev_COUNT n) = min 255 (nGet s.dev (ev_COUNT n) + a) ∧ nGet u.dev (ev_STATE n) = 1 ∧
    nGet u.dev (ev_RAISED n) = satAdd 32 (nGet s.dev (ev_RAISED n)) 1

/-- What doorbell does: one clause of EventsAndDoorbells (Rejected). -/
def DoorbellRejectedDoes : Prop :=
  ∀ (s : State) (writer : Ref) (v : Word), WhenDoorbellRejected v → Completes (.doorbell writer v) s fun u =>
    nGet u.dev evCtl_DOORBELL_REJECTS = satAdd 32 (nGet s.dev evCtl_DOORBELL_REJECTS) 1

/-- What ringAction does: one clause of EventsAndDoorbells. -/
def RingActionDoes : Prop :=
  ∀ (s : State) (sess n : Nat), WhenRingAction s sess n → Completes (.ringAction sess n) s fun u =>
    nGet u.dev (ev_COUNT n) = min 255 (nGet s.dev (ev_COUNT n) + 1) ∧ nGet u.dev (ev_STATE n) = 1 ∧
    nGet u.dev (ev_RAISED n) = satAdd 32 (nGet s.dev (ev_RAISED n)) 1 ∧ Answers u sess 0 (beBytes 2 (min 255 (nGet s.dev (ev_COUNT n) + 1)))

/-- What ringAction does: one clause of EventsAndDoorbells (Taken). -/
def RingActionTakenDoes : Prop :=
  ∀ (s : State) (sess n : Nat), WhenRingActionTaken s sess n → Completes (.ringAction sess n) s fun u =>
    nGet u.dev (ev_COUNT n) = 0 ∧ nGet u.dev (ev_STATE n) = 0 ∧ nGet u.dev (ev_RAISED n) = satAdd 32 (nGet s.dev (ev_RAISED n)) 1 ∧
    nGet u.dev (ev_CLAIMS n) = satAdd 32 (nGet s.dev (ev_CLAIMS n)) 1

/-- What hostClaim does: one clause of EventsAndDoorbells. -/
def HostClaimDoes : Prop :=
  ∀ (s : State) (source : Fin 1024) (c : Nat), WhenHostClaim s source c → Completes (.hostClaim source) s fun u =>
    nGet u.dev (ev_STATE source.val) = 2 ∧ nGet u.dev (ev_COUNT source.val) = 0 ∧
    nGet u.dev (ev_CLAIMS source.val) = satAdd 32 (nGet s.dev (ev_CLAIMS source.val)) 1 ∧
    ∀ x ∈ u.dev.noap.sessions, x.id = c → claimNotif s.dev source.val false ∈ x.queue

/-- What damperHoldExpiry does: one clause of EventsAndDoorbells. -/
def DamperHoldExpiryDoes : Prop :=
  ∀ (s : State) (g : Fin 64), WhenDamperHoldExpiry s g → Completes (.damperHoldExpiry g) s fun u =>
    nGet u.dev (damper_HOLDING g.val) = 0 ∧ armed u.dev tkDamper g.val = false ∧
    ∀ k < 16, nGet s.dev (ev_STATE (16 * g.val + k)) = 1 → nGet s.dev (ev_TARGET (16 * g.val + k)) ≠ 0 → u.dev.events.waited.contains (16 * g.val + k) = true

/-- What eventRoutingWrite does: one clause of EventsAndDoorbells. -/
def EventRoutingWriteDoes : Prop :=
  ∀ (s : State) (sess : Nat) (source : Fin 1024) (m v : Nat), WhenEventRoutingWrite s sess source m v → Completes (.eventRoutingWrite sess source m v) s fun u =>
    nGet u.dev (mref 0x50 source.val m) = v ∧ Answers u sess 0 []

/-- What holdoffWrite does: one clause of EventsAndDoorbells. -/
def HoldoffWriteDoes : Prop :=
  ∀ (s : State) (sess : Nat) (g : Fin 64) (v : Nat), WhenHoldoffWrite s sess g v → Completes (.holdoffWrite sess g v) s fun u =>
    nGet u.dev (damper_HOLDOFF_US g.val) = v ∧ (v = 0 → nGet s.dev (damper_HOLDING g.val) = 1 → nGet u.dev (damper_HOLDING g.val) = 0) ∧ Answers u sess 0 []

/-- What hostStateWrite does: one clause of EventsAndDoorbells. -/
def HostStateWriteDoes : Prop :=
  ∀ (s : State) (sess v : Nat), WhenHostStateWrite s sess v → Completes (.hostStateWrite sess v) s fun u =>
    nGet u.dev evCtl_HOST_STATE = v ∧ Answers u sess 0 []

/-- What gpioEdge does: one clause of PinsAndMatchers. -/
def GpioEdgeDoes : Prop :=
  ∀ (s : State) (pin : Fin 160) (level : Bool), WhenGpioEdge s pin → Completes (.gpioEdge pin level) s fun u =>
    fieldOf (nGet u.dev (bank_DATA_IN (pin.val / 32))) (pin.val % 32) 1 = level.toNat

/-- What matcherDebounceExpiry does: one clause of PinsAndMatchers. -/
def MatcherDebounceExpiryDoes : Prop :=
  ∀ (s : State) (m : Fin 32), WhenMatcherDebounceExpiry s m → Completes (.matcherDebounceExpiry m) s fun u =>
    nGet u.dev (matcher_OUTPUT m.val) = mapGet s.dev.pins.matchResult m.val 0 ∧ armed u.dev tkMatcher m.val = false ∧
    nGet u.dev (matcher_CHANGES m.val) = satAdd 32 (nGet s.dev (matcher_CHANGES m.val)) 1

/-- What set does: one clause of PinsAndMatchers. -/
def SetDoes : Prop :=
  ∀ (s : State) (sess : Nat) (b : Fin 5) (mask : Nat), WhenSet s sess b mask → Completes (.set sess b mask) s fun u =>
    let v := nGet s.dev (bank_DATA_OUT b.val) ||| mask
    nGet u.dev (bank_DATA_OUT b.val) = v ∧ Answers u sess 0 (beBytes 4 v)

/-- What gpioClear does: one clause of PinsAndMatchers. -/
def GpioClearDoes : Prop :=
  ∀ (s : State) (sess : Nat) (b : Fin 5) (mask : Nat), WhenGpioClear s sess b mask → Completes (.gpioClear sess b mask) s fun u =>
    let v := nGet s.dev (bank_DATA_OUT b.val) &&& (mask ^^^ 0xFFFFFFFF)
    nGet u.dev (bank_DATA_OUT b.val) = v ∧ Answers u sess 0 (beBytes 4 v)

/-- What toggle does: one clause of PinsAndMatchers. -/
def ToggleDoes : Prop :=
  ∀ (s : State) (sess : Nat) (b : Fin 5) (mask : Nat), WhenToggle s sess b mask → Completes (.toggle sess b mask) s fun u =>
    let v := nGet s.dev (bank_DATA_OUT b.val) ^^^ mask
    nGet u.dev (bank_DATA_OUT b.val) = v ∧ Answers u sess 0 (beBytes 4 v)

/-- What routeWrite does: one clause of PinsAndMatchers. -/
def RouteWriteDoes : Prop :=
  ∀ (s : State) (sess m v : Nat), WhenRouteWrite s sess m v → Completes (.routeWrite sess m v) s fun u =>
    nGet u.dev (mref 0x58 0x100 m) = v ∧ Answers u sess 0 []

/-- What matcherWrite does: one clause of PinsAndMatchers. -/
def MatcherWriteDoes : Prop :=
  ∀ (s : State) (sess : Nat) (k : Fin 32) (m v : Nat), WhenMatcherWrite s sess k m v → Completes (.matcherWrite sess k m v) s fun u =>
    nGet u.dev (mref 0x58 (0x200 + k.val) m) = v ∧ Answers u sess 0 []

/-- What hvsThresholdCrossing does: one clause of PinsAndMatchers. -/
def HvsThresholdCrossingDoes : Prop :=
  ∀ (s : State) (k : Fin 8) (above : Bool) (v : Nat), WhenHvsThresholdCrossing s k above v → Completes (.hvsThresholdCrossing k above) s fun u =>
    nGet u.dev (hvs_LEVEL k.val) = v ∧ mapGet u.dev.pins.hvsCompare k.val 0 = above.toNat

/-- What hvsThresholdCrossing does: one clause of PinsAndMatchers (Filtered). -/
def HvsThresholdCrossingFilteredDoes : Prop :=
  ∀ (s : State) (k : Fin 8) (above : Bool) (v : Nat), WhenHvsThresholdCrossingFiltered s k above v → Completes (.hvsThresholdCrossing k above) s fun u =>
    nGet u.dev (hvs_LEVEL k.val) = nGet s.dev (hvs_LEVEL k.val) ∧
    mapFind u.dev.timers (timerKey tkHvs k.val) = some (s.dev.now + 1000 * nGet s.dev (hvs_FILTER_US k.val))

/-- What hvsThresholdCrossing does: one clause of PinsAndMatchers (Same). -/
def HvsThresholdCrossingSameDoes : Prop :=
  ∀ (s : State) (k : Fin 8) (above : Bool), WhenHvsThresholdCrossingSame s k above → Completes (.hvsThresholdCrossing k above) s fun u =>
    u = s

/-- What hvsFilterExpiry does: one clause of PinsAndMatchers. -/
def HvsFilterExpiryDoes : Prop :=
  ∀ (s : State) (k : Fin 8), WhenHvsFilterExpiry s k → Completes (.hvsFilterExpiry k) s fun u =>
    nGet u.dev (hvs_LEVEL k.val) = hvsAsserted s.dev k.val ∧ armed u.dev tkHvs k.val = false

/-- What signalTimeout does: one clause of SignalsAndFieldbuses. -/
def SignalTimeoutDoes : Prop :=
  ∀ (s : State) (n : Fin 256), WhenSignalTimeout s n → Completes (.signalTimeout n) s fun u =>
    nGet u.dev (sig_IN_LOSS n.val) = 1 ∧ nGet u.dev (sig_TIMEOUTS n.val) = satAdd 32 (nGet s.dev (sig_TIMEOUTS n.val)) 1 ∧
    nGet u.dev (sig_STATE n.val) = (if nGet s.dev (sig_LOSS_STATE n.val) = 3 then nGet s.dev (sig_STATE n.val) else nGet s.dev (sig_LOSS_STATE n.val)) ∧
    armed u.dev tkSignal n.val = false ∧ mapFind u.dev.hearth.refs n.val = none

/-- What t1sFrameReceived does: one clause of SignalsAndFieldbuses. -/
def T1sFrameReceivedDoes : Prop :=
  ∀ (s : State) (port : Fin 2) (frame : List Byte), WhenT1sFrameReceived s port frame → Completes (.t1sFrameReceived port frame) s fun u =>
    nGet u.dev (t1s_RX_FRAMES port.val) = satAdd 32 (nGet s.dev (t1s_RX_FRAMES port.val)) 1 ∧
    (t1sEntries s.dev port.val (frame.take (frame.length - 4)) = [] →
      nGet u.dev (t1s_RX_UNMATCHED port.val) = satAdd 32 (nGet s.dev (t1s_RX_UNMATCHED port.val)) 1)

/-- What t1sFrameReceived does: one clause of SignalsAndFieldbuses (Error). -/
def T1sFrameReceivedErrorDoes : Prop :=
  ∀ (s : State) (port : Fin 2) (frame : List Byte), WhenT1sFrameReceivedError s port frame → Completes (.t1sFrameReceived port frame) s fun u =>
    nGet u.dev (t1s_RX_ERRORS port.val) = satAdd 32 (nGet s.dev (t1s_RX_ERRORS port.val)) 1

/-- What canBusOff does: one clause of SignalsAndFieldbuses. -/
def CanBusOffDoes : Prop :=
  ∀ (s : State) (port : Fin 4), WhenCanBusOff s port → Completes (.canBusOff port) s fun u =>
    nGet u.dev (can_STATE port.val) = 4 ∧ nGet u.dev (can_BUS_OFFS port.val) = satAdd 32 (nGet s.dev (can_BUS_OFFS port.val)) 1

/-- What canBusOffRecovery does: one clause of SignalsAndFieldbuses. -/
def CanBusOffRecoveryDoes : Prop :=
  ∀ (s : State) (port : Fin 4), WhenCanBusOffRecovery s port → Completes (.canBusOffRecovery port) s fun u =>
    nGet u.dev (can_STATE port.val) = 2 ∧ nGet u.dev (can_TEC port.val) = 0 ∧ nGet u.dev (can_REC port.val) = 0

/-- What restart does: one clause of SignalsAndFieldbuses. -/
def RestartDoes : Prop :=
  ∀ (s : State) (sess : Nat) (port : Fin 4), WhenRestart s sess port → Completes (.restart sess port 0) s fun u =>
    nGet u.dev (can_STATE port.val) = 1 ∧ nGet u.dev (can_TEC port.val) = 0 ∧ nGet u.dev (can_REC port.val) = 0 ∧ AnswersOpen u sess 0 1

/-- What canIntegrated does: one clause of SignalsAndFieldbuses. -/
def CanIntegratedDoes : Prop :=
  ∀ (s : State) (port : Fin 4), WhenCanIntegrated s port → Completes (.canIntegrated port) s fun u =>
    nGet u.dev (can_STATE port.val) = 2

/-- What canProtocolError does: one clause of SignalsAndFieldbuses. -/
def CanProtocolErrorDoes : Prop :=
  ∀ (s : State) (port : Fin 4) (transmitter : Bool) (tecAdd recAdd t r : Nat), WhenCanProtocolError s port transmitter tecAdd recAdd t r → Completes (.canProtocolError port transmitter tecAdd recAdd) s fun u =>
    nGet u.dev (can_PROTOCOL_ERRORS port.val) = satAdd 32 (nGet s.dev (can_PROTOCOL_ERRORS port.val)) 1 ∧
    nGet u.dev (can_TEC port.val) = min 255 t ∧ nGet u.dev (can_REC port.val) = min 127 r ∧
    nGet u.dev (can_STATE port.val) = if 255 < t then 4 else if 128 ≤ t ∨ 127 < r ∨ s.dev.net.canOver.contains port.val then 3 else 2

/-- What canProtocolError does: one clause of SignalsAndFieldbuses (Listening). -/
def CanProtocolErrorListeningDoes : Prop :=
  ∀ (s : State) (port : Fin 4) (transmitter : Bool) (tecAdd recAdd : Nat), WhenCanProtocolErrorListening s port → Completes (.canProtocolError port transmitter tecAdd recAdd) s fun u =>
    nGet u.dev (can_PROTOCOL_ERRORS port.val) = satAdd 32 (nGet s.dev (can_PROTOCOL_ERRORS port.val)) 1 ∧
    nGet u.dev (can_TEC port.val) = nGet s.dev (can_TEC port.val) ∧ nGet u.dev (can_REC port.val) = nGet s.dev (can_REC port.val) ∧
    nGet u.dev (can_STATE port.val) = nGet s.dev (can_STATE port.val)

/-- What plcaBeaconSend does: one clause of SignalsAndFieldbuses. -/
def PlcaBeaconSendDoes : Prop :=
  ∀ (s : State) (port : Fin 2), WhenPlcaBeaconSend s port → Completes (.plcaBeaconSend port) s fun u =>
    nGet u.dev (t1s_PLCA_STATUS port.val) = 1 ∧
    u.dev.out = s.dev.out ++ [.beacon port.val (nGet s.dev (t1s_TO_TIMER port.val)) (nGet s.dev (t1s_NODE_COUNT port.val))]

/-- What plcaBeaconReceived does: one clause of SignalsAndFieldbuses. -/
def PlcaBeaconReceivedDoes : Prop :=
  ∀ (s : State) (port : Fin 2), WhenPlcaBeaconReceived s port → Completes (.plcaBeaconReceived port) s fun u =>
    nGet u.dev (t1s_PLCA_STATUS port.val) = 1 ∧ mapFind u.dev.timers (timerKey tkBeacon port.val) = some (s.dev.now + 400000)

/-- What plcaBeaconLoss does: one clause of SignalsAndFieldbuses. -/
def PlcaBeaconLossDoes : Prop :=
  ∀ (s : State) (port : Fin 2), WhenPlcaBeaconLoss s port → Completes (.plcaBeaconLoss port) s fun u =>
    nGet u.dev (t1s_PLCA_STATUS port.val) = 0 ∧ nGet u.dev (t1s_BEACON_LOSSES port.val) = satAdd 32 (nGet s.dev (t1s_BEACON_LOSSES port.val)) 1

/-- What canFdFrameReceived does: one clause of SignalsAndFieldbuses. -/
def CanFdFrameReceivedDoes : Prop :=
  ∀ (s : State) (port : Fin 4) (ext brs fd : Bool) (id : Nat) (data : List Byte), WhenCanFdFrameReceived s port → Completes (.canFdFrameReceived port ⟨ext, brs, fd, false⟩ id data) s fun u =>
    nGet u.dev (can_RX_FRAMES port.val) = satAdd 32 (nGet s.dev (can_RX_FRAMES port.val)) 1

/-- What canFdFrameReceived does: one clause of SignalsAndFieldbuses (Remote). -/
def CanFdFrameReceivedRemoteDoes : Prop :=
  ∀ (s : State) (port : Fin 4) (ext brs fd : Bool) (id : Nat) (data : List Byte), WhenCanFdFrameReceivedRemote s port → Completes (.canFdFrameReceived port ⟨ext, brs, fd, true⟩ id data) s fun u =>
    nGet u.dev (can_RX_FRAMES port.val) = nGet s.dev (can_RX_FRAMES port.val) ∧
    u.dev.out = s.dev.out ++ (if nGet s.dev (can_MODE port.val) = 2 then [] else [.canAck port.val])

/-- What setTime does: one clause of TimebaseAndTimers. -/
def SetTimeDoes : Prop :=
  ∀ (s : State) (sess t : Nat), WhenSetTime s sess t → Completes (.setTime sess t) s fun u =>
    tbNs u.dev = t ∧ nGet u.dev time_TIME_VALID = 1 ∧ nGet u.dev time_STEPS = satAdd 32 (nGet s.dev time_STEPS) 1 ∧ Answers u sess 0 (beBytes 8 (t / 4 * 4))

/-- What gptpSync does: one clause of TimebaseAndTimers. -/
def GptpSyncDoes : Prop :=
  ∀ (s : State) (up : Fin 2) (origin correction rx : Nat) (e : Int), WhenGptpSync s up origin correction rx e → Completes (.gptpSync up origin correction rx) s fun u =>
    nGet u.dev time_OFFSET_NS = twosOf 64 e ∧ mapFind u.dev.timers (timerKey tkSync 0) = some (s.dev.now + 1000000000) ∧
    (nGet s.dev time_STEP_THRESHOLD_NS < e.natAbs → nGet u.dev time_STEPS = satAdd 32 (nGet s.dev time_STEPS) 1)

/-- What ppsEdge does: one clause of TimebaseAndTimers. -/
def PpsEdgeDoes : Prop :=
  ∀ (s : State) (l : Nat) (x : Int), WhenPpsEdge s l x → Completes (.ppsEdge) s fun u =>
    nGet u.dev time_OFFSET_NS = twosOf 64 (x - roundDiv x 1000000000 * 1000000000) ∧ u.dev.time.ppsLast.isSome = true ∧
    mapFind u.dev.timers (timerKey tkSync 1) = some (s.dev.now + 2000000000)

/-- What ppsEdge does: one clause of TimebaseAndTimers (Rejected). -/
def PpsEdgeRejectedDoes : Prop :=
  ∀ (s : State) (l : Nat), WhenPpsEdgeRejected s l → Completes (.ppsEdge) s fun u =>
    nGet u.dev time_PPS_REJECTED = satAdd 32 (nGet s.dev time_PPS_REJECTED) 1 ∧ u.dev.time.ppsLast = some l

/-- What syncTimeout does: one clause of TimebaseAndTimers. -/
def SyncTimeoutDoes : Prop :=
  ∀ (s : State), WhenSyncTimeout s → Completes (.syncTimeout) s fun u =>
    nGet u.dev time_STATE = 3 ∧ u.dev.time.goodRun = 0 ∧ u.dev.tbInc = s.dev.tbInc

/-- What ppsOutRise does: one clause of TimebaseAndTimers. -/
def PpsOutRiseDoes : Prop :=
  ∀ (s : State) (k : Nat), WhenPpsOutRise s k → Completes (.ppsOutRise) s fun u =>
    u.dev.time.ppsOut = true ∧ u.dev.time.ppsDone = k + 1 ∧
    mapFind u.dev.timers (timerKey tkPps 0) = some (s.dev.now + 1000 * nGet s.dev time_PPS_OUT_WIDTH_US)

/-- What ppsOutFall does: one clause of TimebaseAndTimers. -/
def PpsOutFallDoes : Prop :=
  ∀ (s : State), WhenPpsOutFall s → Completes (.ppsOutFall) s fun u =>
    u.dev.time.ppsOut = false ∧ armed u.dev tkPps 0 = false

/-- What timerPeriod does: one clause of TimebaseAndTimers. -/
def TimerPeriodDoes : Prop :=
  ∀ (s : State) (n : Fin 96), WhenTimerPeriod s n → Completes (.timerPeriod n) s fun u =>
    let t := timerOf s.dev n.val
    (timerOf u.dev n.val).count = rawCount s.dev t - periodOf t ∧ (timerOf u.dev n.val).next0 = 0 ∧ (timerOf u.dev n.val).next1 = 0 ∧
    nGet u.dev (ev_RAISED (4 * n.val)) = satAdd 32 (nGet s.dev (ev_RAISED (4 * n.val))) 1

/-- What timerCompare does: one clause of TimebaseAndTimers. -/
def TimerCompareDoes : Prop :=
  ∀ (s : State) (n : Fin 96) (k : Fin 2), WhenTimerCompare s n k → Completes (.timerCompare n k) s fun u =>
    let t := timerOf s.dev n.val
    (if k = 0 then (timerOf u.dev n.val).next0 = t.compare0 + 1 ∧
       (timerOf u.dev n.val).compare0 = (if t.add0 = 0 then t.compare0 else (t.compare0 + t.add0) % periodOf t)
     else (timerOf u.dev n.val).next1 = t.compare1 + 1 ∧
       (timerOf u.dev n.val).compare1 = (if t.add1 = 0 then t.compare1 else (t.compare1 + t.add1) % periodOf t)) ∧
    nGet u.dev (ev_RAISED (4 * n.val + 1 + k.val)) = satAdd 32 (nGet s.dev (ev_RAISED (4 * n.val + 1 + k.val))) 1

/-- What timerCapture does: one clause of TimebaseAndTimers. -/
def TimerCaptureDoes : Prop :=
  ∀ (s : State) (n : Fin 96) (rising : Bool), WhenTimerCapture s n rising → Completes (.timerCapture n rising) s fun u =>
    (timerOf u.dev n.val).capture = timerCount s.dev (timerOf s.dev n.val) ∧ (timerOf u.dev n.val).divCount = 0 ∧ (timerOf u.dev n.val).capNew = true ∧
    (timerOf u.dev n.val).capOvr = ((timerOf s.dev n.val).capOvr || (timerOf s.dev n.val).capNew) ∧
    nGet u.dev (ev_RAISED (4 * n.val + 3)) = satAdd 32 (nGet s.dev (ev_RAISED (4 * n.val + 3))) 1

/-- What captureRead does: one clause of TimebaseAndTimers. -/
def CaptureReadDoes : Prop :=
  ∀ (s : State) (n : Fin 96), WhenCaptureRead s n → Completes (.captureRead n) s fun u =>
    timerOf u.dev n.val = { timerOf s.dev n.val with capNew := false }

/-- What timerEnableWrite does: one clause of TimebaseAndTimers. -/
def TimerEnableWriteDoes : Prop :=
  ∀ (s : State) (n : Fin 96) (v : Word), WhenTimerEnableWrite s n → Completes (.timerEnableWrite n v) s fun u =>
    let t := timerOf s.dev n.val
    let x := timerOf u.dev n.val
    x.enable = v.getLsbD 0 ∧ x.wake = v.getLsbD 1 ∧ x.windowEn = v.getLsbD 2 ∧
    x.prescale = (if t.enable then t.prescale else v.toNat / 2 ^ 16) ∧
    (t.enable = false → v.getLsbD 0 = true → x.count = t.phase ∧ x.since = s.dev.time.adv)

/-- What timerEnableWrite does: one clause of TimebaseAndTimers (Off). -/
def TimerEnableWriteOffDoes : Prop :=
  ∀ (s : State) (n : Fin 96) (v : Word), WhenTimerEnableWriteOff s n → Completes (.timerEnableWrite n v) s fun u =>
    nGet u.dev ctrCtl_ISLAND_OFF_ACCESSES = satAdd 32 (nGet s.dev ctrCtl_ISLAND_OFF_ACCESSES) 1 ∧ nGet u.dev ctrCtl_LAST_OFF_ISLAND = n.val / 8 ∧ u.dev.time = s.dev.time

/-- What timerEnableWrite does: one clause of TimebaseAndTimers (Waits). -/
def TimerEnableWriteWaitsDoes : Prop :=
  ∀ (s : State) (n : Fin 96) (v : Word), WhenTimerEnableWriteWaits s n → Completes (.timerEnableWrite n v) s fun u =>
    u.dev.islands.waiting = s.dev.islands.waiting ++
      [{ src := n.val / 8, dst := n.val / 8, addr := 0x40 * (n.val % 8), val := v, thread := 0, prog := 0, isRead := false }] ∧ u.dev.time = s.dev.time

/-- What periodWrite does: one clause of TimebaseAndTimers. -/
def PeriodWriteDoes : Prop :=
  ∀ (s : State) (n : Fin 96) (v : Word), WhenPeriodWrite s n → Completes (.periodWrite n v) s fun u =>
    let t := timerOf s.dev n.val
    (timerOf u.dev n.val).period = v.toNat ∧
    (timerOf u.dev n.val).periodShort = (t.periodShort || (t.enable && decide ((if v.toNat = 0 then 2 ^ 32 else v.toNat) ≤ timerCount s.dev t)))

/-- What startMaskWrite does: one clause of TimebaseAndTimers. -/
def StartMaskWriteDoes : Prop :=
  ∀ (s : State) (c : Fin 12) (v : Word), WhenStartMaskWrite s c v → Completes (.startMaskWrite c v) s fun u =>
    (startOf u.dev c.val).mask = v.toNat % 256 ∧ (startOf u.dev c.val).late = ((startOf s.dev c.val).late && !v.getLsbD 8)

/-- What startMaskWrite does: one clause of TimebaseAndTimers (Late). -/
def StartMaskWriteLateDoes : Prop :=
  ∀ (s : State) (c : Fin 12) (v : Word), WhenStartMaskWriteLate s c v → Completes (.startMaskWrite c v) s fun u =>
    (startOf u.dev c.val).mask = 0 ∧ (startOf u.dev c.val).late = true ∧
    ∀ k < 8, v.getLsbD k = true → (timerOf u.dev (8 * c.val + k)).enable = true ∧ (timerOf u.dev (8 * c.val + k)).count = (timerOf s.dev (8 * c.val + k)).phase

/-- What groupStart does: one clause of TimebaseAndTimers. -/
def GroupStartDoes : Prop :=
  ∀ (s : State) (c : Fin 12), WhenGroupStart s c → Completes (.groupStart c) s fun u =>
    (startOf u.dev c.val).mask = 0 ∧
    ∀ k < 8, bitOf (startOf s.dev c.val).mask k = true → (timerOf u.dev (8 * c.val + k)).enable = true ∧ (timerOf u.dev (8 * c.val + k)).count = (timerOf s.dev (8 * c.val + k)).phase

/-- What token does: one clause of ObservationBlock. -/
def TokenDoes : Prop :=
  ∀ (s : State) (sess : Nat) (b : List Byte) (root from0 until0 : Nat), WhenToken s sess b root from0 until0 → Completes (.token sess b) s fun u =>
    if rootEnrolled s.dev root = true ∧ keyRevoked s.dev root (ofLe (sliceOf b 6 2)) = false ∧
      endorsed s.dev root (sliceOf b 6 2) (sliceOf b 48 97) (sliceOf b 160 96) = true ∧
      Config.ecdsaVerifies (sliceOf b 48 97) (sha (sliceOf b 0 256)) (sliceOf b 256 96) = true ∧
      sliceOf b 16 16 = sliceOf (bGet s.dev dev_SERIAL) 0 16 ∧ from0 ≤ tbNs s.dev ∧ tbNs s.dev < until0
    then nGet u.dev obs_TOKEN_STATE = 1 ∧ nGet u.dev obs_SCOPE = ofLe (sliceOf b 9 1) ∧ nGet u.dev obs_NOT_AFTER = until0 ∧
      u.dev.obs.notBefore = from0 ∧ Answers u sess 0 []
    else Answers u sess 10 [] ∧ nGet u.dev obs_TOKEN_STATE = nGet s.dev obs_TOKEN_STATE

/-- What endToken does: one clause of ObservationBlock. -/
def EndTokenDoes : Prop :=
  ∀ (s : State) (sess : Nat), WhenEndToken s sess → Completes (.endToken sess 0) s fun u =>
    nGet u.dev obs_TOKEN_STATE = 2 ∧ AnswersOpen u sess 0 1

/-- What tokenExpiry does: one clause of ObservationBlock. -/
def TokenExpiryDoes : Prop :=
  ∀ (s : State), WhenTokenExpiry s → Completes (.tokenExpiry) s fun u =>
    nGet u.dev obs_TOKEN_STATE = 2

/-- What chimneyRecordSend does: one clause of ObservationBlock. -/
def ChimneyRecordSendDoes : Prop :=
  ∀ (s : State) (r : TraceRecord) (l : List TraceRecord), WhenChimneyRecordSend s r l → Completes (.chimneyRecordSend) s fun u =>
    u.dev.obs.fifo = l ∧ u.dev.obs.seq = (s.dev.obs.seq + 1) % 256 ∧ nGet u.dev obs_RECORDS_SENT = satAdd 64 (nGet s.dev obs_RECORDS_SENT) 1 ∧
    u.dev.out = s.dev.out ++ [.chimney (s.dev.obs.seq % 2) (octets [r.kind, s.dev.obs.seq] ++ leBytes 2 r.unit ++ leBytes 8 r.time ++ leBytes 4 r.data)]

/-- What chimneyRecordSend does: one clause of ObservationBlock (Lost). -/
def ChimneyRecordSendLostDoes : Prop :=
  ∀ (s : State) (r : TraceRecord) (l : List TraceRecord), WhenChimneyRecordSendLost s r l → Completes (.chimneyRecordSend) s fun u =>
    u.dev.obs.fifo = r :: l ∧ u.dev.obs.dropped = 0 ∧
    u.dev.out = s.dev.out ++ [.chimney (s.dev.obs.seq % 2) (octets [15, s.dev.obs.seq] ++ leBytes 2 0 ++ leBytes 8 (tbNs s.dev) ++ leBytes 4 s.dev.obs.dropped)]

/-- What countersRun does: one clause of ObservationBlock. -/
def CountersRunDoes : Prop :=
  ∀ (s : State) (sess : Nat), WhenCountersRun s sess → Completes (.countersRun sess) s fun u =>
    u.dev.obs.running = true ∧ AnswersOpen u sess 0 1

/-- What countersStop does: one clause of ObservationBlock. -/
def CountersStopDoes : Prop :=
  ∀ (s : State) (sess : Nat), WhenCountersStop s sess → Completes (.countersStop sess) s fun u =>
    u.dev.obs.running = false ∧ AnswersOpen u sess 0 1

/-- What clear does: one clause of ObservationBlock. -/
def ClearDoes : Prop :=
  ∀ (s : State) (sess : Nat), WhenClear s sess → Completes (.clear sess 0) s fun u =>
    (∀ k < 512, nGet u.dev (ctr_VALUE k) = if (countedNow s.dev).contains k then 1 else 0) ∧ AnswersOpen u sess 0 1

/-- What arm does: one clause of ObservationBlock. -/
def ArmDoes : Prop :=
  ∀ (s : State) (sess : Nat), WhenArm s sess → Completes (.arm sess 0) s fun u =>
    nGet u.dev snap_ARMED = 1 ∧ AnswersOpen u sess 0 1

/-- What trigger does: one clause of ObservationBlock. -/
def TriggerDoes : Prop :=
  ∀ (s : State) (sess : Nat), WhenTrigger s sess → Completes (.trigger sess 0) s fun u =>
    nGet u.dev snap_ARMED = 0 ∧ nGet u.dev snap_SEQ = satAdd 32 (nGet s.dev snap_SEQ) 1 ∧ nGet u.dev snap_CAUSE = 2 ∧
    nGet u.dev snap_TRIGGER_TIME = tbNs s.dev ∧ u.dev.obs.snapOut = true ∧ (∀ k < 512, nGet u.dev (ctr_SNAP_VALUE k) = nGet s.dev (ctr_VALUE k)) ∧
    AnswersOpen u sess 0 1

/-- What trigger does: one clause of ObservationBlock (Missed). -/
def TriggerMissedDoes : Prop :=
  ∀ (s : State) (sess : Nat), WhenTriggerMissed s sess → Completes (.trigger sess 0) s fun u =>
    nGet u.dev snap_MISSED = satAdd 32 (nGet s.dev snap_MISSED) 1 ∧ nGet u.dev snap_SEQ = nGet s.dev snap_SEQ

/-- What snapIn does: one clause of ObservationBlock. -/
def SnapInDoes : Prop :=
  ∀ (s : State), WhenSnapIn s → Completes (.snapIn) s fun u =>
    nGet u.dev snap_ARMED = 0 ∧ nGet u.dev snap_SEQ = satAdd 32 (nGet s.dev snap_SEQ) 1 ∧ nGet u.dev snap_CAUSE = 1 ∧
    nGet u.dev snap_TRIGGER_TIME = tbNs s.dev ∧ u.dev.obs.snapOut = true ∧ mapFind u.dev.timers (timerKey tkSnapOut 0) = some (s.dev.now + 1000)

/-- What snapOutEnd does: one clause of ObservationBlock. -/
def SnapOutEndDoes : Prop :=
  ∀ (s : State), WhenSnapOutEnd s → Completes (.snapOutEnd) s fun u =>
    u.dev.obs.snapOut = false ∧ armed u.dev tkSnapOut 0 = false

/-- What hearthSlotWrite does: one clause of HearthCommands. -/
def HearthSlotWriteDoes : Prop :=
  ∀ (s : State) (sess : Nat) (h : Fin 16) (slot : Fin 64) (m v i : Nat), WhenHearthSlotWrite s sess h slot m v i → Completes (.hearthSlotWrite sess h slot m v) s fun u =>
    nGet u.dev (mref 0x20 (0x1000 + i) m) = v ∧ Answers u sess 0 []

/-- What signalMapWrite does: one clause of HearthCommands. -/
def SignalMapWriteDoes : Prop :=
  ∀ (s : State) (sess : Nat) (n : Fin 256) (m v : Nat), WhenSignalMapWrite s sess n m v → Completes (.signalMapWrite sess n m v) s fun u =>
    nGet u.dev (mref 0x21 n.val m) = v ∧ nGet u.dev (sig_IN_LOSS n.val) = 1 ∧
    nGet u.dev (sig_TIMEOUTS n.val) = nGet s.dev (sig_TIMEOUTS n.val) ∧ Answers u sess 0 []

/-- What hoRequestWrite does: one clause of HearthCommands. -/
def HoRequestWriteDoes : Prop :=
  ∀ (s : State) (sess : Nat) (h : Fin 16) (v : Nat), WhenHoRequestWrite s sess h v → Completes (.hoRequestWrite sess h v) s fun u =>
    nGet u.dev (hhead_HO_REQUEST h.val) = v ∧ bitOf (nGet u.dev (hhead_HO_CAUSE h.val)) 4 = decide (v = 1) ∧ Answers u sess 0 []

/-- What orbitEnableWrite does: one clause of HearthCommands. -/
def OrbitEnableWriteDoes : Prop :=
  ∀ (s : State) (sess : Nat) (h : Fin 16) (v : Nat), WhenOrbitEnableWrite s sess h v → Completes (.orbitEnableWrite sess h v) s fun u =>
    nGet u.dev (panel_ORBIT_ENABLE h.val) = v ∧ Answers u sess 0 []

/-- What faultClear does: one clause of HearthCommands. -/
def FaultClearDoes : Prop :=
  ∀ (s : State) (sess mask : Nat) (k : Fin 16), WhenFaultClear s sess mask k → Completes (.faultClear sess mask) s fun u =>
    (∀ h < 16, nGet u.dev (hhead_FAULTS h) = (if bitOf mask h = true ∧ clearableFaults s.dev h = nGet s.dev (hhead_FAULTS h) then 0 else nGet s.dev (hhead_FAULTS h))) ∧
    bitOf (nGet u.dev (hhead_HO_CAUSE k.val)) 5 = false ∧ ∃ val, Answers u sess 0 val

/-- What mixerMismatch does: one clause of HearthCommands. -/
def MixerMismatchDoes : Prop :=
  ∀ (s : State) (h : Fin 16), WhenMixerMismatch s h → Completes (.mixerMismatch h) s fun u =>
    bitOf (nGet u.dev (hhead_FAULTS h.val)) 2 = true ∧ nGet u.dev (hhead_LAST_FAULT_FRAME h.val) = nGet s.dev (head_FRAME_COUNT h.val) ∧
    nGet u.dev hearth_LAST_FAULT_TIME = tbNs s.dev ∧ (hheadOf u.dev h.val).mixClean = false

/-- What keepaliveLoss does: one clause of HearthCommands. -/
def KeepaliveLossDoes : Prop :=
  ∀ (s : State), WhenKeepaliveLoss s → Completes (.keepaliveLoss) s fun u =>
    u.dev.hearth.keepalive = false ∧ nGet u.dev hearth_FAULT_PINS = 1

/-- What blinkGeneratorEdge does: one clause of HearthCommands. -/
def BlinkGeneratorEdgeDoes : Prop :=
  ∀ (s : State) (g : Fin 2), Completes (.blinkGeneratorEdge g) s fun u =>
    (if g = 0 then u.dev.hearth.blink0 else u.dev.hearth.blink1) =
      decide (tbNs s.dev % (1000 * nGet s.dev (if g = 0 then hearth_BLINK0_PERIOD else hearth_BLINK1_PERIOD)) <
        1000 * nGet s.dev (if g = 0 then hearth_BLINK0_ON else hearth_BLINK1_ON)) ∧
    (if g = 0 then u.dev.hearth.blink1 = s.dev.hearth.blink1 else u.dev.hearth.blink0 = s.dev.hearth.blink0)

/-- What hearthScrub does: one clause of HearthCommands. -/
def HearthScrubDoes : Prop :=
  ∀ (s : State) (w : Nat), WhenHearthScrub w → Completes (.hearthScrub w 1) s fun u =>
    nGet u.dev hearth_STORE_CORRECTED = satAdd 32 (nGet s.dev hearth_STORE_CORRECTED) 1 ∧ u.dev.hearth.badWords = s.dev.hearth.badWords

/-- What hearthScrub does: one clause of HearthCommands (Bad). -/
def HearthScrubBadDoes : Prop :=
  ∀ (s : State) (w flips : Nat), WhenHearthScrubBad w flips → Completes (.hearthScrub w flips) s fun u =>
    u.dev.hearth.badWords.contains w = true ∧ nGet u.dev hearth_STORE_CORRECTED = nGet s.dev hearth_STORE_CORRECTED ∧
    ∀ h < 16, headUsesWord s.dev s.mem h w = true → bitOf (nGet u.dev (hhead_FAULTS h)) 3 = true

/-- What noapDatagramReceived does: one clause of NoapSessions. -/
def NoapDatagramReceivedDoes : Prop :=
  ∀ (s : State) (src : UdpSource) (b : List Byte) (x : Session) (n seq : Nat), WhenNoapDatagramReceived s b x n seq → Completes (.noapDatagramReceived src false b) s fun u =>
    if sliceOf b (16 + n) 16 = ((Config.hmacSha384 (sliceOf x.keys 0 48) (b.take (16 + n))).toList).take 16 then
      u.dev.noap.sessions = [{ x with lastMsg := s.dev.now, msgsIn := x.msgsIn + 1, peer := peerOf src, seqIn := max x.seqIn seq, waiting := x.waiting ++ [{ seq := seq, typ := ofBe (sliceOf b 3 1), flags := ofBe (sliceOf b 4 2), peer := peerOf src, arrived := s.dev.now, started := false }] }]
    else nGet u.dev noap_TAG_FAIL = satAdd 32 (nGet s.dev noap_TAG_FAIL) 1 ∧ u.dev.noap = s.dev.noap

/-- What noapDatagramReceived does: one clause of NoapSessions (Response). -/
def NoapDatagramReceivedResponseDoes : Prop :=
  ∀ (s : State) (src : UdpSource) (b : List Byte) (x : Session) (q : Unacked) (n : Nat), WhenNoapDatagramReceivedResponse s b x q n → Completes (.noapDatagramReceived src false b) s fun u =>
    if sliceOf b (16 + n) 16 = ((Config.hmacSha384 (sliceOf x.keys 0 48) (b.take (16 + n))).toList).take 16 then
      u.dev.noap.sessions = [{ x with lastMsg := s.dev.now, msgsIn := x.msgsIn + 1, unacked := [{ q with heard := true }] }]
    else nGet u.dev noap_TAG_FAIL = satAdd 32 (nGet s.dev noap_TAG_FAIL) 1 ∧ u.dev.noap = s.dev.noap

/-- What noapDatagramReceived does: one clause of NoapSessions (Fragment). -/
def NoapDatagramReceivedFragmentDoes : Prop :=
  ∀ (s : State) (src : UdpSource) (b : List Byte), WhenNoapDatagramReceivedFragment s → Completes (.noapDatagramReceived src true b) s fun u =>
    nGet u.dev noap_FRAG_DROPPED = satAdd 32 (nGet s.dev noap_FRAG_DROPPED) 1 ∧ u.dev.noap = s.dev.noap

/-- What hello does: one clause of NoapSessions. -/
def HelloDoes : Prop :=
  ∀ (s : State) (src : UdpSource) (role slot : Nat) (hostKey nonce : List Byte), WhenHello s → Completes (.hello src role slot hostKey nonce) s fun u =>
    ∃ x, u.dev.noap.sessions = s.dev.noap.sessions ++ [x] ∧ x.id = s.dev.noap.nextId ∧ u.dev.noap.nextId = s.dev.noap.nextId + 1 ∧
      x.controller = (decide (role = 1) && !s.dev.noap.sessions.any (·.controller)) ∧ x.isOpen = false ∧ x.slot = slot ∧ x.peer = peerOf src ∧ x.openedAt = s.dev.now ∧
      ∃ z key deviceNonce, x.keys = hkdf96 (nonce ++ deviceNonce) z (octets [0x4E, 0x4F, 0x41, 0x50, 0x20, 0x76, 0x31] ++ beBytes 4 x.id) ∧
        x.digest = (Config.sha384 (octets [role, slot] ++ hostKey ++ nonce ++ octets [(if role = 1 ∧ s.dev.noap.sessions.any (·.controller) then Status.state else Status.ok).code] ++
          beBytes 4 x.id ++ key ++ deviceNonce)).toList

/-- What key does: one clause of NoapSessions. -/
def KeyDoes : Prop :=
  ∀ (s : State) (sess seq : Nat) (sig : List Byte) (x : Session), WhenKey s sess seq x → Completes (.key sess seq sig) s fun u =>
    if keyVerifies s.dev x sig then sessionOpen u.dev sess = true ∧ (x.controller = true → armed u.dev tkSceneLease 0 = false ∧ nGet u.dev evCtl_HOST_STATE = 0)
    else u.dev.noap.sessions = s.dev.noap.sessions.filter (fun y => decide (y.id ≠ sess))

/-- What close does: one clause of NoapSessions. -/
def CloseDoes : Prop :=
  ∀ (s : State) (sess : Nat) (byDevice : Bool) (x : Session), WhenClose s sess x → Completes (.close sess byDevice) s fun u =>
    u.dev.noap.sessions = s.dev.noap.sessions.filter (fun y => decide (y.id ≠ sess)) ∧
    (x.controller = true → x.isOpen = true → u.dev.scene.staging = [] ∧ mapFind u.dev.timers (timerKey tkSceneLease 0) = some s.dev.now)

/-- What sessionIdleTimeout does: one clause of NoapSessions. -/
def SessionIdleTimeoutDoes : Prop :=
  ∀ (s : State) (sess : Nat) (x : Session), WhenSessionIdleTimeout s sess x → Completes (.sessionIdleTimeout sess) s fun u =>
    u.dev.noap.sessions = s.dev.noap.sessions.filter (fun y => decide (y.id ≠ sess))

/-- What sessionLifetimeExpiry does: one clause of NoapSessions. -/
def SessionLifetimeExpiryDoes : Prop :=
  ∀ (s : State) (sess : Nat) (x : Session), WhenSessionLifetimeExpiry s sess x → Completes (.sessionLifetimeExpiry sess) s fun u =>
    u.dev.noap.sessions = s.dev.noap.sessions.filter (fun y => decide (y.id ≠ sess))

/-- What noapEnableWrite does: one clause of NoapSessions. -/
def NoapEnableWriteDoes : Prop :=
  ∀ (s : State) (sess v : Nat), WhenNoapEnableWrite s sess v → Completes (.noapEnableWrite sess v) s fun u =>
    nGet u.dev noap_ENABLE = v ∧ (v = 0 → u.dev.noap.sessions = [])

/-- What subscribe does: one clause of NoapSessions. -/
def SubscribeDoes : Prop :=
  ∀ (s : State) (sess seq : Nat) (r : Ref) (mode period : Nat), WhenSubscribe s sess seq r mode period → Completes (.subscribe sess seq [{ ref := r, mode := mode, period := period }]) s fun u =>
    Responds s u sess 4 seq [0] ∧ u.dev.noap.sessions.all (fun x => decide (x.id ≠ sess) || x.subs.contains
      { ref := r, periodic := mode == 1, period := period, deadline := s.dev.now + 1000000 * period, seen := (readMember s.dev sess false r).2.2 }) = true

/-- What eventSend does: one clause of NoapSessions. -/
def EventSendDoes : Prop :=
  ∀ (s : State) (sess : Nat) (x : Session) (n : Notif), WhenEventSend s sess x n → Completes (.eventSend sess) s fun u =>
    u.dev.noap.sessions = [{ x with queue := [], seqOut := x.seqOut + 1, msgsOut := x.msgsOut + 1, unacked := x.unacked ++ [{ seq := x.seqOut + 1, heard := false, repeats := 0, deadline := s.dev.now + 20000000, notifs := [n] }] }] ∧
    SendsTo s u x.peer (noapMessage (some x.keys) 5 0 sess (x.seqOut + 1)
      ([1] ++ (octets [n.kind, n.flags] ++ beBytes 4 n.ref ++ beBytes 8 n.time ++ octets [n.typ, 0] ++ beBytes 2 n.val.length ++ n.val)))

/-- What eventRepeatExpiry does: one clause of NoapSessions. -/
def EventRepeatExpiryDoes : Prop :=
  ∀ (s : State) (sess seq : Nat) (x : Session) (q : Unacked), WhenEventRepeatExpiry s sess seq x q → Completes (.eventRepeatExpiry sess seq) s fun u =>
    u.dev.noap.sessions = [{ x with msgsOut := x.msgsOut + 1, unacked := [{ q with repeats := q.repeats + 1, deadline := s.dev.now + 20000000 }] }] ∧
    SendsTo s u x.peer (noapMessage (some x.keys) 5 0 sess seq (octets [q.notifs.length] ++ (q.notifs.map notifBytes).flatten))

/-- What eventRepeatExpiry does: one clause of NoapSessions (Lost). -/
def EventRepeatExpiryLostDoes : Prop :=
  ∀ (s : State) (sess seq : Nat) (x : Session) (q : Unacked), WhenEventRepeatExpiryLost s sess seq x q → Completes (.eventRepeatExpiry sess seq) s fun u =>
    u.dev.noap.sessions = [{ x with unacked := [] }] ∧ (q.notifs.all (fun n => n.source.isNone) = true → nGet u.dev noap_EVENTS_LOST = satAdd 32 (nGet s.dev noap_EVENTS_LOST) q.notifs.length)

/-- What eventAck does: one clause of NoapSessions. -/
def EventAckDoes : Prop :=
  ∀ (s : State) (sess seq : Nat) (x : Session) (q : Unacked), WhenEventAck s sess seq x q → Completes (.eventAck sess seq) s fun u =>
    u.dev.noap.sessions = [if q.heard then { x with unacked := [] } else { x with lastMsg := s.dev.now, msgsIn := x.msgsIn + 1, unacked := [] }]

/-- What periodicSubscriptionExpiry does: one clause of NoapSessions. -/
def PeriodicSubscriptionExpiryDoes : Prop :=
  ∀ (s : State) (sess : Nat) (r : Ref) (x : Session) (q : Sub) (n : Notif), WhenPeriodicSubscriptionExpiry s sess r x q n → Completes (.periodicSubscriptionExpiry sess r) s fun u =>
    u.dev.noap.sessions = [{ x with subs := [{ q with deadline := q.deadline + 1000000 * q.period }], queue := x.queue ++ [n] }]

/-- What onChangeWindowExpiry does: one clause of NoapSessions. -/
def OnChangeWindowExpiryDoes : Prop :=
  ∀ (s : State) (x : Session) (r : Ref) (tm : Nat) (n : Notif), WhenOnChangeWindowExpiry s x r tm n → Completes (.onChangeWindowExpiry) s fun u =>
    u.dev.noap.window = s.dev.now ∧ u.dev.dirty = [] ∧ u.dev.noap.sessions = [{ x with queue := [n] }]

/-- What onChangeWindowExpiry does: one clause of NoapSessions (Read). -/
def OnChangeWindowExpiryReadDoes : Prop :=
  ∀ (s : State) (x : Session) (q : Sub) (n : Notif), WhenOnChangeWindowExpiryRead s x q n → Completes (.onChangeWindowExpiry) s fun u =>
    u.dev.noap.sessions = [{ x with subs := [{ q with seen := (readMember s.dev 0 false q.ref).2.2 }], queue := [n] }]

/-- What read does: one clause of NoapRequests. -/
def ReadDoes : Prop :=
  ∀ (s : State) (sess seq : Nat) (staged : Bool) (refs : List Ref), WhenRead s sess seq staged refs → Completes (.read sess seq staged refs) s fun u =>
    Responds s u sess 1 seq (octets [refs.length] ++ readItems s.dev sess staged 1 false refs) ∧ u.dev.objs = s.dev.objs

/-- What read does: one clause of NoapRequests (One). -/
def ReadOneDoes : Prop :=
  ∀ (s : State) (sess seq : Nat) (staged : Bool) (r : Ref) (st : Status) (ty : Nat) (val : List Byte), WhenReadOne s sess seq staged r st ty val → Completes (.read sess seq staged [r]) s fun u =>
    Responds s u sess 1 seq ([1] ++ (octets [st.code, ty] ++ beBytes 2 val.length ++ val))

/-- What write does: one clause of NoapRequests. -/
def WriteDoes : Prop :=
  ∀ (s : State) (sess seq : Nat) (items : List WriteItem) (x : State × List Byte), WhenWrite s sess seq items x → Completes (.write sess seq items) s fun u =>
    Responds x.1 u sess 2 seq (octets [items.length] ++ x.2) ∧ u.mem = x.1.mem ∧ u.dev.scene = x.1.dev.scene

/-- What write does: one clause of NoapRequests (Member). -/
def WriteMemberDoes : Prop :=
  ∀ (s : State) (sess seq v : Nat), WhenWriteMember s sess seq v → Completes (.write sess seq [{ ref := noap_IDLE_TIMEOUT, typ := 4, val := beBytes 4 v }]) s fun u =>
    nGet u.dev noap_IDLE_TIMEOUT = v ∧ Responds s u sess 2 seq [1, 0, 0, 0, 0]

/-- What bulk does: one clause of NoapRequests. -/
def BulkDoes : Prop :=
  ∀ (s : State) (sess seq i off a : Nat) (data : List Byte), WhenBulk s sess seq i off a data → Completes (.bulk sess seq (mref 0x13 i 0) off data) s fun u =>
    (∀ k < data.length, memRead u.mem (a + k) = data.getD k 0) ∧ Responds s u sess 6 seq [0]

/-- What noapLiteRead does: one clause of NoapRequests. -/
def NoapLiteReadDoes : Prop :=
  ∀ (s : State) (port : Fin 4) (ext brs : Bool) (id : Nat) (frame : List Byte) (d : Dev), WhenNoapLiteRead s port ext id frame d → Completes (.noapLiteRead port ⟨ext, brs, true, false⟩ id frame) s fun u =>
    if liteGenuine s.dev id frame then
      u.dev.noap.liteLast = ofBe (sliceOf frame 2 4) ∧ u.dev.noap.litePending = 1 ∧ u.dev.noap.liteCounter = wrapAdd 32 s.dev.noap.liteCounter 1 ∧
      ∃ b tag, u.dev.out = s.dev.out ++ [.canAck port.val, .can port.val ext brs (nGet s.dev lite_LITE_RSP_ID) (b ++ tag)] ∧ b.length = 56 ∧ tag.length = 8 ∧
        b.take 10 = octets [0x81, (liteRead (liteAccept d (ofBe (sliceOf frame 2 4))) (ofBe (sliceOf frame 6 4))).1.code] ++ beBytes 4 (wrapAdd 32 s.dev.noap.liteCounter 1) ++ beBytes 4 (ofBe (sliceOf frame 6 4)) ∧
        tag = ((Config.hmacSha384 s.dev.trust.liteKey (b ++ beBytes 4 (nGet s.dev lite_LITE_RSP_ID))).toList).take 8
    else nGet u.dev lite_LITE_TAG_FAIL = satAdd 32 (nGet s.dev lite_LITE_TAG_FAIL) 1 ∧ u.dev.out = s.dev.out ++ [.canAck port.val]

/-- What noapLiteRead does: one clause of NoapRequests (Waits). -/
def NoapLiteReadWaitsDoes : Prop :=
  ∀ (s : State) (port : Fin 4) (ext brs : Bool) (id : Nat) (frame : List Byte), WhenNoapLiteReadWaits s port ext id frame → Completes (.noapLiteRead port ⟨ext, brs, true, false⟩ id frame) s fun u =>
    u.dev.noap.liteWaiting = s.dev.noap.liteWaiting ++ [{ brs := brs, id := id, octets := frame }] ∧ u.dev.noap.sessions = s.dev.noap.sessions

/-- What noapLiteWrite does: one clause of NoapRequests. -/
def NoapLiteWriteDoes : Prop :=
  ∀ (s : State) (port : Fin 4) (ext brs : Bool) (id : Nat) (frame : List Byte) (e : State) (x : State × Status × List Byte), WhenNoapLiteWrite s port ext id frame e x → Completes (.noapLiteWrite port ⟨ext, brs, true, false⟩ id frame) s fun u =>
    if liteGenuine s.dev id frame then
      u.mem = x.1.mem ∧ u.dev.objs = x.1.dev.objs ∧ u.dev.noap.liteCounter = wrapAdd 32 x.1.dev.noap.liteCounter 1 ∧
      ∃ b tag, u.dev.out = x.1.dev.out ++ [.can (nGet x.1.dev lite_LITE_CONTROLLER) (nGet x.1.dev lite_LITE_EXT_ID == 1) brs (nGet x.1.dev lite_LITE_RSP_ID) (b ++ tag)] ∧
        b.take 2 = octets [0x82, x.2.1.code]
    else nGet u.dev lite_LITE_TAG_FAIL = satAdd 32 (nGet s.dev lite_LITE_TAG_FAIL) 1 ∧ u.dev.out = s.dev.out ++ [.canAck port.val]

/-- What noapLiteResponseSent does: one clause of NoapRequests. -/
def NoapLiteResponseSentDoes : Prop :=
  ∀ (s : State) (c : Nat), WhenNoapLiteResponseSent s c → Completes (.noapLiteResponseSent) s fun u =>
    u.dev.noap.litePending = s.dev.noap.litePending - 1 ∧ nGet u.dev (can_TX_FRAMES c) = satAdd 32 (nGet s.dev (can_TX_FRAMES c)) 1

/-- What alloc does: one clause of SceneCommands. -/
def AllocDoes : Prop :=
  ∀ (s : State) (sess cls arg i : Nat), WhenAlloc s sess cls arg i → Completes (.alloc sess cls arg) s fun u =>
    allocOf u.dev (mref cls i 0) = 1 ∧ (∀ m < 256, mGet u.dev (mref cls i m) = memberDefault (mref cls i m)) ∧ Answers u sess 0 (beBytes 4 (mref cls i 0))

/-- What free does: one clause of SceneCommands. -/
def FreeDoes : Prop :=
  ∀ (s : State) (sess cls : Nat) (arg : Ref), WhenFree s sess cls arg → Completes (.free sess cls arg) s fun u =>
    allocOf u.dev arg = 0 ∧ (u.dev.scene.staging.all (fun x => decide (refObj x.ref ≠ arg)) = true) ∧ (u.dev.scene.pool.all (fun p => decide (p.owner ≠ arg)) = true)

/-- What free does: one clause of SceneCommands (Deferred). -/
def FreeDeferredDoes : Prop :=
  ∀ (s : State) (sess cls : Nat) (arg : Ref), WhenFreeDeferred s sess cls arg → Completes (.free sess cls arg) s fun u =>
    allocOf u.dev arg = 2 ∧ nGet u.dev (obj_STATE arg) = 3

/-- What realize does: one clause of SceneCommands. -/
def RealizeDoes : Prop :=
  ∀ (s : State) (sess surf : Nat), WhenRealize s sess surf → Completes (.realize sess surf 0) s fun u =>
    let n := surfSize s.dev surf * nGet s.dev (surf_BUFFERS surf)
    ∃ d a, findPlace s.dev n = some (d, a) ∧ nGet u.dev (surf_ADDRESS surf) = a ∧ nGet u.dev (surf_LOCATION surf) = 1 ∧
      nGet u.dev (surf_SIZE surf) = surfSize s.dev surf ∧ nGet u.dev (surf_FRONT surf) = 0 ∧
      u.dev.scene.pool = s.dev.scene.pool ++ [{ owner := mref 0x13 surf 0, lo := a, hi := a + n }] ∧ Answers u sess 0 (beBytes 4 (surfSize s.dev surf))

/-- What discard does: one clause of SceneCommands. -/
def DiscardDoes : Prop :=
  ∀ (s : State) (sess : Nat), WhenDiscard s sess → Completes (.discard sess 0) s fun u =>
    u.dev.scene.staging = [] ∧ nGet u.dev commitCtl_STAGED_COUNT = 0 ∧ AnswersOpen u sess 0 1

/-- What sceneLeaseExpiry does: one clause of SceneCommands. -/
def SceneLeaseExpiryDoes : Prop :=
  ∀ (s : State) (start n : Nat), WhenSceneLeaseExpiry s start n → Completes (.sceneLeaseExpiry) s fun u =>
    nGet u.dev commitCtl_SCENE_LEASE_EXPIRED = 1 ∧ armed u.dev tkSceneLease 0 = false

/-- What commit does: one clause of SceneCommands. -/
def CommitDoes : Prop :=
  ∀ (s : State) (sess seq mask n : Nat) (d : Dev), WhenCommit s sess seq mask n d → Completes (.commit sess seq mask) s fun u =>
    nGet u.dev commitCtl_LAST_NUMBER = n ∧
    u.dev.scene.evaluating = some { sess := sess, seq := seq, number := n, mask := mask, dryRun := false, received := s.dev.now, taken := takenWrites (nSet d commitCtl_LAST_NUMBER n) mask }

/-- What commit does: one clause of SceneCommands (Refused). -/
def CommitRefusedDoes : Prop :=
  ∀ (s : State) (sess seq mask n : Nat) (d : Dev) (r : Refused), WhenCommitRefused s sess seq mask n d r → Completes (.commit sess seq mask) s fun u =>
    u.dev.scene.evaluating = none ∧ nGet u.dev (commit_RESULT (n % 16)) = 11 ∧ nGet u.dev (commit_STATE_REASON (n % 16)) = r.reason ∧
    nGet u.dev (commit_STATE_HEADS (n % 16)) = r.heads ∧ nGet u.dev (commit_STATE_REF (n % 16)) = r.ref

/-- What commitDryRun does: one clause of SceneCommands. -/
def CommitDryRunDoes : Prop :=
  ∀ (s : State) (sess seq mask n : Nat) (d : Dev), WhenCommitDryRun s sess seq mask n d → Completes (.commitDryRun sess seq mask) s fun u =>
    nGet u.dev commitCtl_LAST_NUMBER = n ∧
    u.dev.scene.evaluating = some { sess := sess, seq := seq, number := n, mask := mask, dryRun := true, received := s.dev.now, taken := takenWrites (nSet d commitCtl_LAST_NUMBER n) mask }

/-- What commitDecision does: one clause of SceneCommands. -/
def CommitDecisionDoes : Prop :=
  ∀ (s : State) (e : Evaluation) (sc : Scope), WhenCommitDecision s e sc → Completes (.commitDecision) s fun u =>
    u.dev.scene.evaluating = none ∧ ∃ c ∈ u.dev.scene.commits, c.number = e.number ∧ c.waiting = e.mask

/-- What commitDecision does: one clause of SceneCommands (Dry). -/
def CommitDecisionDryDoes : Prop :=
  ∀ (s : State) (e : Evaluation) (sc : Scope), WhenCommitDecisionDry s e sc → Completes (.commitDecision) s fun u =>
    u.dev.scene.evaluating = none ∧ u.dev.scene.commits = s.dev.scene.commits ∧ nGet u.dev (commit_RESULT (e.number % 16)) = 0 ∧ nGet u.dev (commit_FLAGS (e.number % 16)) = 1

/-- What commitDecision does: one clause of SceneCommands (Refused). -/
def CommitDecisionRefusedDoes : Prop :=
  ∀ (s : State) (e : Evaluation) (sc : Scope) (f : Fail), WhenCommitDecisionRefused s e sc f → Completes (.commitDecision) s fun u =>
    u.dev.scene.evaluating = none ∧ u.dev.scene.commits = s.dev.scene.commits ∧ nGet u.dev (commit_RESULT (e.number % 16)) = 9 ∧
    nGet u.dev (report_REASON (e.number % 16)) = f.reason ∧ nGet u.dev (report_HEADS (e.number % 16)) = f.heads

/-- What headFrameBoundary does: one clause of HeadsAndLines. -/
def HeadFrameBoundaryDoes : Prop :=
  ∀ (s : State) (h : Fin 16), WhenHeadFrameBoundary s h → Completes (.headFrameBoundary h) s fun u =>
    nGet u.dev (head_FRAME_COUNT h.val) = wrapAdd 32 (nGet s.dev (head_FRAME_COUNT h.val)) 1 ∧ nGet u.dev (head_LAST_BOUNDARY h.val) = tbNs s.dev ∧
    (headOf u.dev h.val).frame = (headOf s.dev h.val).frame + 1 ∧ (headOf u.dev h.val).frameDone = false ∧ (hheadOf u.dev h.val).mixDiff = false

/-- What headFrameBoundary does: one clause of HeadsAndLines (Apply). -/
def HeadFrameBoundaryApplyDoes : Prop :=
  ∀ (s : State) (h : Fin 16) (c : PendingCommit), WhenHeadFrameBoundaryApply s h c → Completes (.headFrameBoundary h) s fun u =>
    bitOf (nGet u.dev (commit_APPLIED_MASK (c.number % 16))) h.val = true ∧ nGet u.dev (commit_APPLY_TIME_H (c.number % 16) h.val) = tbNs s.dev ∧
    ∀ x ∈ u.dev.scene.commits, x.number = c.number → bitOf x.waiting h.val = false

/-- What headFirstBoundary does: one clause of HeadsAndLines. -/
def HeadFirstBoundaryDoes : Prop :=
  ∀ (s : State) (h : Fin 16), WhenHeadFirstBoundary s h → Completes (.headFirstBoundary h) s fun u =>
    nGet u.dev (head_STATE h.val) = 2 ∧ nGet u.dev (head_FRAME_COUNT h.val) = 1 ∧ nGet u.dev (head_LAST_BOUNDARY h.val) = tbNs s.dev ∧
    (headOf u.dev h.val).dark = 2 ∧ (headOf u.dev h.val).frame = (headOf s.dev h.val).frame + 1

/-- What lineMatch does: one clause of HeadsAndLines. -/
def LineMatchDoes : Prop :=
  ∀ (s : State) (h : Fin 16) (m : Fin 4), WhenLineMatch s h m → Completes (.lineMatch h m) s fun u =>
    nGet u.dev (ev_RAISED (384 + 8 * h.val + 1 + m.val)) = satAdd 32 (nGet s.dev (ev_RAISED (384 + 8 * h.val + 1 + m.val))) 1 ∧
    (headOf u.dev h.val).matched.contains (4 * (beamPos s.dev h.val).1 + m.val) = true

/-- What frameDone does: one clause of HeadsAndLines. -/
def FrameDoneDoes : Prop :=
  ∀ (s : State) (h : Fin 16), WhenFrameDone s h → Completes (.frameDone h) s fun u =>
    nGet u.dev (ev_RAISED (384 + 8 * h.val + 5)) = satAdd 32 (nGet s.dev (ev_RAISED (384 + 8 * h.val + 5))) 1 ∧ (headOf u.dev h.val).frameDone = true ∧
    mapFind u.dev.scene.ended h.val = none

/-- What frameDone does: one clause of HeadsAndLines (Stopped). -/
def FrameDoneStoppedDoes : Prop :=
  ∀ (s : State) (h : Fin 16), WhenFrameDoneStopped s h → Completes (.frameDone h) s fun u =>
    nGet u.dev (ev_RAISED (384 + 8 * h.val + 5)) = satAdd 32 (nGet s.dev (ev_RAISED (384 + 8 * h.val + 5))) 1 ∧
    mapFind u.dev.scene.ended h.val = none ∧ armed u.dev tkHeadStop h.val = false

/-- What segmentUnderrun does: one clause of HeadsAndLines. -/
def SegmentUnderrunDoes : Prop :=
  ∀ (s : State) (h : Fin 16) (p : Fin 32) (y : Nat), WhenSegmentUnderrun s h p y → Completes (.segmentUnderrun h p) s fun u =>
    nGet u.dev (head_UNDERRUN_LINES h.val) = satAdd 32 (nGet s.dev (head_UNDERRUN_LINES h.val)) 1 ∧ nGet u.dev (head_LAST_UNDERRUN_LINE h.val) = y ∧
    nGet u.dev (ev_RAISED (384 + 8 * h.val + 6)) = satAdd 32 (nGet s.dev (ev_RAISED (384 + 8 * h.val + 6))) 1 ∧ (headOf u.dev h.val).underLine = some y

/-- What pipeLineCompose does: one clause of HeadsAndLines. -/
def PipeLineComposeDoes : Prop :=
  ∀ (s : State) (p : Fin 32) (y : Nat) (b : BandPlace), WhenPipeLineCompose s p y b → Completes (.pipeLineCompose p) s fun u =>
    (pipeOf u.dev p.val).next = y + 1 ∧ (pipeOf u.dev p.val).out = (pipeOf s.dev p.val).out ++ [y] ∧
    (headOf u.dev b.head).lines.any (fun l => decide (l.line = y)) = true

/-- What raceLineRead does: one clause of HeadsAndLines. -/
def RaceLineReadDoes : Prop :=
  ∀ (s : State) (p : Fin 32) (slot : Fin 2) (m y : Nat) (b : BandPlace) (l : Nat × Ref), WhenRaceLineRead s p slot m y b l → Completes (.raceLineRead p slot m) s fun u =>
    (pipeOf u.dev p.val).raceRead = (pipeOf s.dev p.val).raceRead ++ [raceKey b.band slot.val m] ∧ (pipeOf u.dev p.val).race = (pipeOf s.dev p.val).race

/-- What raceLineRead does: one clause of HeadsAndLines (Late). -/
def RaceLineReadLateDoes : Prop :=
  ∀ (s : State) (p : Fin 32) (slot : Fin 2) (m y : Nat) (b : BandPlace) (l : Nat × Ref), WhenRaceLineReadLate s p slot m y b l → Completes (.raceLineRead p slot m) s fun u =>
    (pipeOf u.dev p.val).race = satAdd 16 (pipeOf s.dev p.val).race 1 ∧ (pipeOf u.dev p.val).raced = true ∧
    nGet u.dev (ev_RAISED (512 + 2 * p.val + 1)) = satAdd 32 (nGet s.dev (ev_RAISED (512 + 2 * p.val + 1))) 1

/-- What residentLoadComplete does: one clause of HeadsAndLines. -/
def ResidentLoadCompleteDoes : Prop :=
  ∀ (s : State) (p : Fin 32) (at0 : Nat), WhenResidentLoadComplete s p at0 → Completes (.residentLoadComplete p) s fun u =>
    (pipeOf u.dev p.val).loads = (pipeOf s.dev p.val).loads.map (fun l =>
      if l.done.isNone && l.blocks.all (fun b => (mapFind (pipeOf s.dev p.val).buffer b).isSome) then { l with done := some at0 } else l) ∧
    (pipeOf u.dev p.val).next = (pipeOf s.dev p.val).next

/-- What capacityStep does: one clause of DramAndPlacement. -/
def CapacityStepDoes : Prop :=
  ∀ (s : State) (kind unit : Nat), WhenCapacityStep kind unit → Completes (.capacityStep kind unit) s fun u =>
    (kind = 0 → u.dev.stoker.thermal = true) ∧ (kind = 1 → u.dev.stoker.faulted.contains unit = true ∧
      (headOfPipe s.dev unit = none → nGet s.dev (pipeRep_HEAD unit) = 255 → nGet u.dev (pipeRep_FAULTED unit) = 1)) ∧ (kind = 2 → u.dev.stoker.clusters.contains unit = true) ∧
    (if s.dev.scene.evaluating.isSome then u.dev.stoker.counted.isSome = true
     else (List.range 16).all (fun h => !headRuns s.dev h || u.dev.stoker.next.any (fun n => decide (n.head = h))) = true)

/-- What capacityStepUndo does: one clause of DramAndPlacement. -/
def CapacityStepUndoDoes : Prop :=
  ∀ (s : State), WhenCapacityStepUndo s → Completes (.capacityStepUndo) s fun u =>
    armed u.dev tkCapacity 0 = false ∧ u.dev.stoker.thermal = s.dev.stoker.thermal ∧
    u.dev.stoker.actions = (undoActions (disarm s.dev tkCapacity 0) s.dev.stoker.actions s.dev.stoker.actions.reverse).1

/-- What migrationCopyComplete does: one clause of DramAndPlacement. -/
def MigrationCopyCompleteDoes : Prop :=
  ∀ (s : State) (m : Migration), WhenMigrationCopyComplete s m → Completes (.migrationCopyComplete) s fun u =>
    (∀ i < m.size, memRead u.mem (m.dest + i) = gotByte s.dev s.mem m.got (nGet s.dev (surf_ADDRESS (refInst m.surf)) + i)) ∧
    (if headMask (fun h => readsSurface s.dev h m.surf) = 0 then
      nGet u.dev (surf_ADDRESS (refInst m.surf)) = m.dest ∧ nGet u.dev (surf_LOCATION (refInst m.surf)) = 2 ∧
      nGet u.dev migRep_MIGRATIONS_DONE = satAdd 32 (nGet s.dev migRep_MIGRATIONS_DONE) 1
     else u.dev.stoker.migration = some { m with copied := true, toSwitch := headMask (fun h => readsSurface s.dev h m.surf), got := [] })

/-- What migrationCopyComplete does: one clause of DramAndPlacement (Poisoned). -/
def MigrationCopyCompletePoisonedDoes : Prop :=
  ∀ (s : State) (m : Migration), WhenMigrationCopyCompletePoisoned s m → Completes (.migrationCopyComplete) s fun u =>
    nGet u.dev migRep_MIGRATIONS_ABORTED = satAdd 32 (nGet s.dev migRep_MIGRATIONS_ABORTED) 1 ∧ u.mem = s.mem ∧
    nGet u.dev (surf_ADDRESS (refInst m.surf)) = nGet s.dev (surf_ADDRESS (refInst m.surf))

/-- What dramReadComplete does: one clause of DramAndPlacement. -/
def DramReadCompleteDoes : Prop :=
  ∀ (s : State) (tag : Fin 512) (found : List ByteError) (r : DramRead), WhenDramReadComplete s tag found r → Completes (.dramReadComplete tag found) s fun u =>
    nGet u.dev (chan_CORRECTED r.chan) = (if (errorsOf (upset s.dev r.block found) r.block).isEmpty then nGet s.dev (chan_CORRECTED r.chan) else satAdd 32 (nGet s.dev (chan_CORRECTED r.chan)) 1) ∧
    (s.dev.dram.waiting = [] → mapFind u.dev.dram.reads tag.val = none) ∧
    (r.cls = 0 → r.unit < 64 → r.cancelled = false → mapFind (pipeOf u.dev (r.unit % 32)).buffer r.block = some (fabricBytes s.dev s.mem (r.block * 256) 256))

/-- What dramReadComplete does: one clause of DramAndPlacement (Bad). -/
def DramReadCompleteBadDoes : Prop :=
  ∀ (s : State) (tag : Fin 512) (found : List ByteError) (r : DramRead), WhenDramReadCompleteBad s tag found r → Completes (.dramReadComplete tag found) s fun u =>
    nGet u.dev (chan_UNCORRECTABLE r.chan) = satAdd 32 (nGet s.dev (chan_UNCORRECTABLE r.chan)) 1 ∧
    errorsOf u.dev r.block = errorsOf (upset s.dev r.block found) r.block ∧
    nGet u.dev (ev_RAISED 840) = satAdd 32 (nGet s.dev (ev_RAISED 840)) 1

/-- What scrubRead does: one clause of DramAndPlacement. -/
def ScrubReadDoes : Prop :=
  ∀ (s : State) (c : Fin 8) (found : List ByteError) (sg n : Nat) (last : Bool), WhenScrubRead s c found sg n last → Completes (.scrubRead c found) s fun u =>
    (if (errorsOf (upset (finishWriteBack s.dev c.val) (slotBlock s.dev c.val sg n) found) (slotBlock s.dev c.val sg n)).isEmpty
     then nGet u.dev (chan_CORRECTED c.val) = nGet s.dev (chan_CORRECTED c.val) ∧ mapFind u.dev.dram.writeBack c.val = none
     else nGet u.dev (chan_CORRECTED c.val) = satAdd 32 (nGet s.dev (chan_CORRECTED c.val)) 1 ∧
      mapFind u.dev.dram.writeBack c.val = some (slotBlock s.dev c.val sg n)) ∧
    (if last then nGet u.dev mem_SCRUB_PASSES = satAdd 32 (nGet s.dev mem_SCRUB_PASSES) 1 ∧ nGet u.dev mem_LAST_PASS_TIME = tbNs s.dev ∧ nGet u.dev mem_SCRUB_BLOCKS = 0
     else mapGet u.dev.dram.scrubAt (scrubKey sg c.val) 0 = n + 1 ∧ nGet u.dev mem_SCRUB_BLOCKS = satAdd 32 (nGet s.dev mem_SCRUB_BLOCKS) 1)

/-- What scrubRead does: one clause of DramAndPlacement (WritesBack). -/
def ScrubReadWritesBackDoes : Prop :=
  ∀ (s : State) (c : Fin 8) (found : List ByteError) (sg n b : Nat), WhenScrubReadWritesBack s c sg n b → Completes (.scrubRead c found) s fun u =>
    errorsOf u.dev b = []

/-- What channelRetire does: one clause of DramAndPlacement. -/
def ChannelRetireDoes : Prop :=
  ∀ (s : State) (c : Fin 8) (cause : Nat), WhenChannelRetire s c cause → Completes (.channelRetire c cause) s fun u =>
    nGet u.dev (chan_STATE c.val) = 1 ∧ nGet u.dev (chan_RETIRE_CAUSE c.val) = cause ∧ mapFind u.dev.dram.retired c.val = some cause ∧
    nGet u.dev (ev_RAISED 841) = satAdd 32 (nGet s.dev (ev_RAISED 841)) 1

/-- What retire does: one clause of DramAndPlacement. -/
def RetireDoes : Prop :=
  ∀ (s : State) (sess : Nat) (c : Fin 8), WhenRetire s sess c → Completes (.retire sess c 0) s fun u =>
    nGet u.dev (chan_STATE c.val) = 1 ∧ nGet u.dev (chan_RETIRE_CAUSE c.val) = 4 ∧ mapFind u.dev.dram.retired c.val = some 4 ∧ AnswersOpen u sess 0 1

/-- What unretire does: one clause of DramAndPlacement. -/
def UnretireDoes : Prop :=
  ∀ (s : State) (sess : Nat) (c : Fin 8), WhenUnretire s sess c → Completes (.unretire sess c 0) s fun u =>
    u.dev.dram.unretire.contains c.val = true ∧ mapFind u.dev.dram.retired c.val = none ∧ nGet u.dev (chan_STATE c.val) = 1 ∧ AnswersOpen u sess 0 1

/-- What dramTrainingComplete does: one clause of DramAndPlacement. -/
def DramTrainingCompleteDoes : Prop :=
  ∀ (s : State) (c : Fin 8), WhenDramTrainingComplete s c → Completes (.dramTrainingComplete c true) s fun u =>
    u.dev.dram.trained.contains c.val = true ∧ nGet u.dev (chan_TRAINING c.val) = (if s.dev.dram.fullNext.contains c.val then 2 else 1) ∧
    (s.dev.dram.fullNext.contains c.val = true → u.dev.dram.stored.contains c.val = true)

/-- What dramTrainingComplete does: one clause of DramAndPlacement (Failed). -/
def DramTrainingCompleteFailedDoes : Prop :=
  ∀ (s : State) (c : Fin 8), WhenDramTrainingCompleteFailed s c → Completes (.dramTrainingComplete c false) s fun u =>
    if s.dev.dram.fullNext.contains c.val then nGet u.dev (chan_STATE c.val) = 1 ∧ nGet u.dev (chan_RETIRE_CAUSE c.val) = 1
    else u.dev.dram.fullNext.contains c.val = true ∧ nGet u.dev (chan_TRAINING c.val) = 1

/-- What dramInitComplete does: one clause of DramAndPlacement. -/
def DramInitCompleteDoes : Prop :=
  ∀ (s : State), WhenDramInitComplete s → Completes (.dramInitComplete) s fun u =>
    u = dramAgain { s with dev := nSet { s.dev with dram.ready := true, dram.errors := s.dev.dram.errors.filter (fun e => !initClears s.dev (e.1 * 256)) } mem_INIT_TIME ((s.dev.now - s.dev.dram.initStart) / 1000), mem := memClear (initClears s.dev) s.mem } ∧
    (s.dev.lanes.input.all (fun e => e.2.held.isEmpty) = true → s.dev.beam.threads.all (fun e => !(e.2.state matches .stalled _ _ 7 _)) = true →
      u.dev.dram.ready = true ∧ (∀ a, memRead u.mem a = if initClears s.dev a then 0 else memRead s.mem a) ∧
      nGet u.dev mem_INIT_TIME = (s.dev.now - s.dev.dram.initStart) / 1000)

/-- What laneDirectionWrite does: one clause of TransmitLanes. -/
def LaneDirectionWriteDoes : Prop :=
  ∀ (s : State) (sess : Nat) (l : Fin 32) (v : Nat), WhenLaneDirectionWrite s sess l v → Completes (.laneDirectionWrite sess l v) s fun u =>
    nGet u.dev (lane_DIRECTION l.val) = v ∧ Answers u sess 0 [] ∧
    nGet u.dev (lane_STATE l.val) = (if v = 0 then 0 else if nGet u.dev (lane_POC_STATE l.val) = 1 then 1 else 2)

/-- What laneTrainingStart does: one clause of TransmitLanes. -/
def LaneTrainingStartDoes : Prop :=
  ∀ (s : State) (l : Fin 32), WhenLaneTrainingStart s l → Completes (.laneTrainingStart l) s fun u =>
    nGet u.dev (lane_STATE l.val) = (if nGet u.dev (lane_POC_STATE l.val) = 1 then 1 else 2) ∧ nGet u.dev (lane_PRESET l.val) = 4

/-- What backChannelLock does: one clause of TransmitLanes. -/
def BackChannelLockDoes : Prop :=
  ∀ (s : State) (l : Fin 32), WhenBackChannelLock s l → Completes (.backChannelLock l) s fun u =>
    nGet u.dev (lane_STATE l.val) = 3 ∧ nGet u.dev (lane_PRESET l.val) = 0 ∧ (laneOf u.dev l.val).step = 0

/-- What presetStepExpiry does: one clause of TransmitLanes. -/
def PresetStepExpiryDoes : Prop :=
  ∀ (s : State) (l : Fin 32), WhenPresetStepExpiry s l → Completes (.presetStepExpiry l) s fun u =>
    nGet u.dev (lane_PRESET l.val) = (laneOf s.dev l.val).step + 1 ∧ (laneOf u.dev l.val).step = (laneOf s.dev l.val).step + 1 ∧ nGet u.dev (lane_STATE l.val) = 3

/-- What presetStepExpiry does: one clause of TransmitLanes (Chosen). -/
def PresetStepExpiryChosenDoes : Prop :=
  ∀ (s : State) (l : Fin 32) (p : Nat), WhenPresetStepExpiryChosen s l p → Completes (.presetStepExpiry l) s fun u =>
    nGet u.dev (lane_PRESET l.val) = p ∧ nGet u.dev (lane_STATE l.val) = 4

/-- What trainingDeadlineMissed does: one clause of TransmitLanes. -/
def TrainingDeadlineMissedDoes : Prop :=
  ∀ (s : State) (l : Fin 32), WhenTrainingDeadlineMissed s l → Completes (.trainingDeadlineMissed l) s fun u =>
    nGet u.dev (lane_STATE l.val) = 7 ∧ nGet u.dev (lane_TRAIN_RESULT l.val) = (if 4 ≤ nGet s.dev (lane_STATE l.val) ∧ (laneOf s.dev l.val).locked = true then 0 else max 2 (nGet s.dev (lane_STATE l.val))) ∧
    nGet u.dev (lane_TRAIN_FAILS l.val) = satAdd 32 (nGet s.dev (lane_TRAIN_FAILS l.val)) 1 ∧ armed u.dev tkRetry l.val = true

/-- What trainingRetryExpiry does: one clause of TransmitLanes. -/
def TrainingRetryExpiryDoes : Prop :=
  ∀ (s : State) (l : Fin 32), WhenTrainingRetryExpiry s l → Completes (.trainingRetryExpiry l) s fun u =>
    nGet u.dev (lane_STATE l.val) = (if nGet u.dev (lane_POC_STATE l.val) = 1 then 1 else 2) ∧ nGet u.dev (lane_PRESET l.val) = 4

/-- What laneReady does: one clause of TransmitLanes. -/
def LaneReadyDoes : Prop :=
  ∀ (s : State) (l : Fin 32), WhenLaneReady s l → Completes (.laneReady l) s fun u =>
    nGet u.dev (lane_STATE l.val) = 6 ∧ (laneOf u.dev l.val).modeOwed = true ∧ (laneOf u.dev l.val).downRaised = false

/-- What laneReady does: one clause of TransmitLanes (Receive). -/
def LaneReadyReceiveDoes : Prop :=
  ∀ (s : State) (l : Fin 32) (i : Fin 16), WhenLaneReadyReceive s l i → Completes (.laneReady l) s fun u =>
    nGet u.dev (lane_STATE l.val) = 6 ∧ nGet u.dev (vin_STREAM_STATE i.val) = 2

/-- What commaLockLoss does: one clause of TransmitLanes. -/
def CommaLockLossDoes : Prop :=
  ∀ (s : State) (l : Fin 32), WhenCommaLockLoss s l → Completes (.commaLockLoss l) s fun u =>
    nGet u.dev (lane_RETRAINS l.val) = satAdd 32 (nGet s.dev (lane_RETRAINS l.val)) 1 ∧
    nGet u.dev (lane_STATE l.val) = (if nGet u.dev (lane_POC_STATE l.val) = 1 then 1 else 2)

/-- What statusTimeout does: one clause of TransmitLanes. -/
def StatusTimeoutDoes : Prop :=
  ∀ (s : State) (l : Fin 32), WhenStatusTimeout s l → Completes (.statusTimeout l) s fun u =>
    nGet u.dev (lane_RETRAINS l.val) = satAdd 32 (nGet s.dev (lane_RETRAINS l.val)) 1 ∧
    nGet u.dev (lane_STATE l.val) = (if nGet u.dev (lane_POC_STATE l.val) = 1 then 1 else 2)

/-- What packetEnd does: one clause of TransmitLanes (Training). -/
def PacketEndTrainingDoes : Prop :=
  ∀ (s : State) (l : Fin 32), WhenPacketEndTraining s l → Completes (.packetEnd l) s fun u =>
    u.dev.out = s.dev.out ++ [.lane l.val (onWire s.dev l.val (idleBlock s.dev l.val (decide (nGet s.dev (lane_STATE l.val) = 5)) (decide (nGet s.dev (lane_STATE l.val) ≤ 3))))]

/-- What packetEnd does: one clause of TransmitLanes (Line). -/
def PacketEndLineDoes : Prop :=
  ∀ (s : State) (l : Fin 32) (p : Packet) (ps : List Packet), WhenPacketEndLine s l p ps → Completes (.packetEnd l) s fun u =>
    u.dev.out = s.dev.out ++ [.lane l.val (onWire s.dev l.val p.bytes)] ∧ (laneOf u.dev l.val).lineQ = ps

/-- What packetEnd does: one clause of TransmitLanes (Idle). -/
def PacketEndIdleDoes : Prop :=
  ∀ (s : State) (l : Fin 32), WhenPacketEndIdle s l → Completes (.packetEnd l) s fun u =>
    u.dev.out = s.dev.out ++ [.lane l.val (onWire s.dev l.val (idleBlock s.dev l.val false false))] ∧ (laneOf u.dev l.val).sinceIdle = 0

/-- What queueOverflow does: one clause of TransmitLanes. -/
def QueueOverflowDoes : Prop :=
  ∀ (s : State) (l : Fin 32), Completes (.queueOverflow l) s fun u =>
    nGet u.dev (lane_QUEUE_OVERFLOWS l.val) = satAdd 32 (nGet s.dev (lane_QUEUE_OVERFLOWS l.val)) (laneOf s.dev l.val).cutLines.length ∧ (laneOf u.dev l.val).cutLines = []

/-- What ack does: one clause of TransmitLanes. -/
def AckDoes : Prop :=
  ∀ (s : State) (l : Fin 32) (msg : List Symbol) (p : List Byte) (seq : Nat), WhenAck s l msg p seq → Completes (.ack l msg) s fun u =>
    (laneOf u.dev l.val).unacked = ((laneOf s.dev l.val).unacked.dropWhile (fun q => decide (q.seq ≠ ofLe (sliceOf p 0 1)))).drop 1 ∧
    (laneOf u.dev l.val).timeouts = 0

/-- What nak does: one clause of TransmitLanes. -/
def NakDoes : Prop :=
  ∀ (s : State) (l : Fin 32) (msg : List Symbol) (p : List Byte) (seq : Nat), WhenNak s l msg p seq → Completes (.nak l msg) s fun u =>
    (laneOf u.dev l.val).again = (laneOf s.dev l.val).unacked.dropWhile (fun q => decide (q.seq ≠ ofLe (sliceOf p 0 1))) ∧
    (laneOf u.dev l.val).unacked = (laneOf s.dev l.val).unacked

/-- What retransmitTimeout does: one clause of TransmitLanes. -/
def RetransmitTimeoutDoes : Prop :=
  ∀ (s : State) (l : Fin 32), WhenRetransmitTimeout s l → Completes (.retransmitTimeout l) s fun u =>
    if (laneOf s.dev l.val).timeouts < 7 then (laneOf u.dev l.val).timeouts = (laneOf s.dev l.val).timeouts + 1 ∧ (laneOf u.dev l.val).again = (laneOf s.dev l.val).unacked
    else nGet u.dev (lane_RETRAINS l.val) = satAdd 32 (nGet s.dev (lane_RETRAINS l.val)) 1

/-- What status does: one clause of TransmitLanes. -/
def StatusDoes : Prop :=
  ∀ (s : State) (l : Fin 32) (msg : List Symbol) (p : List Byte) (seq : Nat), WhenStatus s l msg p seq → Completes (.status l msg) s fun u =>
    nGet u.dev (lane_BLOCK_ERRORS l.val) = satAdd 32 (nGet s.dev (lane_BLOCK_ERRORS l.val)) (ofLe (sliceOf p 1 2)) ∧
    nGet u.dev (lane_PEER_CAPS l.val) = ofLe (sliceOf p 4 1) ∧
    (if bitOf (ofLe (sliceOf p 0 1)) 0 then nGet u.dev (lane_STATE l.val) = 6
     else nGet u.dev (lane_RETRAINS l.val) = satAdd 32 (nGet s.dev (lane_RETRAINS l.val)) 1)

/-- What sigret does: one clause of TransmitLanes. -/
def SigretDoes : Prop :=
  ∀ (s : State) (l : Fin 32) (msg : List Symbol) (p : List Byte) (seq : Nat) (h : Fin 16), WhenSigret s l msg p seq h → Completes (.sigret l msg) s fun u =>
    (hheadOf u.dev h.val).returned.getLast? = some { frame := ofLe (sliceOf p 0 1), crcs := (List.range (ofLe (sliceOf p 1 1))).map (fun k => ofLe (sliceOf p (4 + 4 * k) 4)) }

/-- What linestat does: one clause of TransmitLanes. -/
def LinestatDoes : Prop :=
  ∀ (s : State) (l : Fin 32) (msg : List Symbol) (p : List Byte) (seq : Nat), WhenLinestat s l msg p seq → Completes (.linestat l msg) s fun u =>
    nGet u.dev (lane_LINE_ERROR_LINES l.val) = satAdd 32 (nGet s.dev (lane_LINE_ERROR_LINES l.val)) (ofLe (sliceOf p 2 2))

/-- What data does: one clause of TransmitLanes. -/
def DataDoes : Prop :=
  ∀ (s : State) (l : Fin 32) (msg : List Symbol) (p : List Byte), WhenData s l msg p → Completes (.data l msg) s fun u =>
    (laneOf u.dev l.val).bcSeq = ((laneOf s.dev l.val).bcSeq + 1) % 256

/-- What blockLock does: one clause of ReceiveLanesAndPower. -/
def BlockLockDoes : Prop :=
  ∀ (s : State) (l : Fin 32), WhenBlockLock s l → Completes (.blockLock l) s fun u =>
    (laneOf u.dev l.val).blockLock = true ∧
    nGet u.dev (lane_STATE l.val) = (if nGet s.dev (lane_STATE l.val) = 1 ∨ nGet s.dev (lane_STATE l.val) = 2 then 3 else nGet s.dev (lane_STATE l.val))

/-- What blockLockLoss does: one clause of ReceiveLanesAndPower. -/
def BlockLockLossDoes : Prop :=
  ∀ (s : State) (l : Fin 32), WhenBlockLockLoss s l → Completes (.blockLockLoss l) s fun u =>
    (laneOf u.dev l.val).blockLock = false ∧ nGet u.dev (lane_STATE l.val) = 2 ∧
    nGet u.dev (lane_BLOCK_ERRORS l.val) = satAdd 32 (nGet s.dev (lane_BLOCK_ERRORS l.val)) (16 - badSyncs (laneOf s.dev l.val))

/-- What statusSend does: one clause of ReceiveLanesAndPower. -/
def StatusSendDoes : Prop :=
  ∀ (s : State) (l : Fin 32), WhenStatusSend s l → Completes (.statusSend l) s fun u =>
    u.dev.out = s.dev.out ++ [.backChannel l.val (wireMessage (laneOf s.dev l.val).bcDisp (bcMessage 3 0 (rxStatus s.dev l.val))).1] ∧ (laneOf u.dev l.val).rxErrors = 0

/-- What rxModePacket does: one clause of ReceiveLanesAndPower. -/
def RxModePacketDoes : Prop :=
  ∀ (s : State) (l : Fin 32) (pkt body : List Byte) (seq sub : Nat) (i : Fin 16), WhenRxModePacket s l pkt body seq sub i → Completes (.rxModePacket l pkt) s fun u =>
    nGet u.dev (vin_FORMAT i.val) = ofLe (sliceOf body 21 1) ∧ nGet u.dev (vin_WIDTH i.val) = ofLe (sliceOf body 4 2) ∧
    nGet u.dev (vin_HEIGHT i.val) = ofLe (sliceOf body 12 2) ∧ nGet u.dev (vin_RATE i.val) = streamRate body ∧ (laneOf u.dev l.val).rxSeq = (seq + 1) % 256

/-- What rxProtectedPacket does: one clause of ReceiveLanesAndPower. -/
def RxProtectedPacketDoes : Prop :=
  ∀ (s : State) (l : Fin 32) (pkt body : List Byte) (typ seq sub : Nat), WhenRxProtectedPacket s l pkt body typ seq sub → Completes (.rxProtectedPacket l pkt) s fun u =>
    if seq = (laneOf s.dev l.val).rxSeq then
      (laneOf u.dev l.val).rxSeq = (seq + 1) % 256 ∧ u.dev.out = s.dev.out ++ [.backChannel l.val (wireMessage (laneOf s.dev l.val).bcDisp (bcMessage 1 0 (octets [seq]))).1]
    else (laneOf u.dev l.val).rxSeq = (laneOf s.dev l.val).rxSeq ∧ u.dev.out = s.dev.out ++ [.backChannel l.val (wireMessage (laneOf s.dev l.val).bcDisp (bcMessage 2 0 (octets [(laneOf s.dev l.val).rxSeq]))).1]

/-- What rxProtectedPacket does: one clause of ReceiveLanesAndPower (Bad). -/
def RxProtectedPacketBadDoes : Prop :=
  ∀ (s : State) (l : Fin 32) (pkt : List Byte), WhenRxProtectedPacketBad s l pkt → Completes (.rxProtectedPacket l pkt) s fun u =>
    (laneOf u.dev l.val).rxSeq = (laneOf s.dev l.val).rxSeq ∧ u.dev.out = s.dev.out ++ [.backChannel l.val (wireMessage (laneOf s.dev l.val).bcDisp (bcMessage 2 0 (octets [(laneOf s.dev l.val).rxSeq]))).1]

/-- What rxProtectedPacket does: one clause of ReceiveLanesAndPower (Unknown). -/
def RxProtectedPacketUnknownDoes : Prop :=
  ∀ (s : State) (l : Fin 32) (pkt : List Byte), WhenRxProtectedPacketUnknown s l pkt → Completes (.rxProtectedPacket l pkt) s fun u =>
    nGet u.dev (lane_BLOCK_ERRORS l.val) = satAdd 32 (nGet s.dev (lane_BLOCK_ERRORS l.val)) 1 ∧ u.dev.out = s.dev.out ∧ (laneOf u.dev l.val).rxSeq = (laneOf s.dev l.val).rxSeq

/-- What rxLinePacket does: one clause of ReceiveLanesAndPower. -/
def RxLinePacketDoes : Prop :=
  ∀ (s : State) (l : Fin 32) (pkt : List Byte) (i : Fin 16) (n line off base : Nat), WhenRxLinePacket s l pkt i n line off base → Completes (.rxLinePacket l pkt) s fun u =>
    (∀ k < n, memRead u.mem (base + off + k) = (sliceOf pkt (8 + k) 1).headD 0) ∧
    (∀ a, a < base + off ∨ base + off + n ≤ a → memRead u.mem a = memRead s.mem a) ∧
    nGet u.dev (vin_LINES_DAMAGED i.val) = nGet s.dev (vin_LINES_DAMAGED i.val)

/-- What rxLinePacket does: one clause of ReceiveLanesAndPower (Kept). -/
def RxLinePacketKeptDoes : Prop :=
  ∀ (s : State) (l : Fin 32) (pkt : List Byte) (i : Fin 16) (n line off base : Nat), WhenRxLinePacketKept s l pkt i n line off base → Completes (.rxLinePacket l pkt) s fun u =>
    u.mem = s.mem ∧ (vinOf u.dev i.val).part = some { line := line, base := base, parts := [(off, sliceOf pkt 8 n)] } ∧
    nGet u.dev (vin_LINES_DAMAGED i.val) = nGet s.dev (vin_LINES_DAMAGED i.val)

/-- What pocRampComplete does: one clause of ReceiveLanesAndPower. -/
def PocRampCompleteDoes : Prop :=
  ∀ (s : State) (l : Fin 32), WhenPocRampComplete s l → Completes (.pocRampComplete l) s fun u =>
    nGet u.dev (lane_POC_STATE l.val) = 2 ∧ nGet u.dev (lane_POC_MA l.val) ≤ 450 ∧
    (nGet s.dev (lane_STATE l.val) = 1 → nGet u.dev (lane_STATE l.val) = 2)

/-- What pocCutoff does: one clause of ReceiveLanesAndPower. -/
def PocCutoffDoes : Prop :=
  ∀ (s : State) (l : Fin 32) (cause : Nat), WhenPocCutoff s l → Completes (.pocCutoff l cause) s fun u =>
    nGet u.dev (lane_POC_FAULTS l.val) = satAdd 32 (nGet s.dev (lane_POC_FAULTS l.val)) 1 ∧
    nGet u.dev (ev_RAISED (641 + 2 * l.val)) = satAdd 32 (nGet s.dev (ev_RAISED (641 + 2 * l.val))) 1 ∧
    nGet u.dev (lane_POC_STATE l.val) = (if 2 ≤ ((laneOf s.dev l.val).cutoffs.filter (fun t => decide (s.dev.now < t + ms 60000))).length then 4 else 3)

/-- What pocCooldownExpiry does: one clause of ReceiveLanesAndPower. -/
def PocCooldownExpiryDoes : Prop :=
  ∀ (s : State) (l : Fin 32), WhenPocCooldownExpiry s l → Completes (.pocCooldownExpiry l) s fun u =>
    if pocAllowed s.dev l.val then nGet u.dev (lane_POC_STATE l.val) = 1 ∧ armed u.dev tkPocRamp l.val = true else nGet u.dev (lane_POC_STATE l.val) = 0

/-- What pocEnableWrite does: one clause of ReceiveLanesAndPower. -/
def PocEnableWriteDoes : Prop :=
  ∀ (s : State) (sess : Nat) (l : Fin 32) (v st : Nat), WhenPocEnableWrite s sess l v st → Completes (.pocEnableWrite sess l v) s fun u =>
    nGet u.dev (lane_POC_ENABLE l.val) = v ∧ Answers u sess 0 [] ∧
    nGet u.dev (lane_POC_STATE l.val) = (if v = 0 then (if st = 1 ∨ st = 2 then 0 else st)
      else if st = 4 ∧ (laneOf s.dev l.val).latchOff = false then 4
      else if nGet s.dev (lane_MEDIA l.val) = 0 then (if st = 0 ∨ st = 4 then 1 else st)
      else if st = 1 ∨ st = 2 ∨ st = 4 then 0 else st)

/-- What idResponse does: one clause of PanelsAndWear. -/
def IdResponseDoes : Prop :=
  ∀ (s : State) (h : Fin 16) (msg : List Byte), WhenIdResponse s h msg → Completes (.idResponse h msg) s fun u =>
    armed u.dev tkId h.val = false ∧
    (checkResponse s.dev h.val msg = none → (panelOf u.dev h.val).newId = sliceOf msg 1 16 ∧ (panelOf u.dev h.val).digest = sliceOf msg 17 48 ∧ (panelOf u.dev h.val).records = []) ∧
    (∀ r, checkResponse s.dev h.val msg = some r → nGet u.dev (panel_IDENTITY_STATE h.val) = 3 ∧ nGet u.dev (panel_FAIL_REASON h.val) = r ∧
      nGet u.dev (ev_RAISED (576 + 4 * h.val)) = satAdd 32 (nGet s.dev (ev_RAISED (576 + 4 * h.val))) 1)

/-- What idResponseTimeout does: one clause of PanelsAndWear. -/
def IdResponseTimeoutDoes : Prop :=
  ∀ (s : State) (h : Fin 16), WhenIdResponseTimeout s h → Completes (.idResponseTimeout h) s fun u =>
    if (panelOf s.dev h.val).attempts < 4 then (panelOf u.dev h.val).attempts = (panelOf s.dev h.val).attempts + 1 ∧ (panelOf u.dev h.val).nonce = randomOctets s.dev 32
    else nGet u.dev (panel_IDENTITY_STATE h.val) = 3 ∧ nGet u.dev (panel_FAIL_REASON h.val) = 1

/-- What readReply does: one clause of PanelsAndWear. -/
def ReadReplyDoes : Prop :=
  ∀ (s : State) (h : Fin 16) (msg : List Byte) (t : Nat), WhenReadReply s h msg t → Completes (.readReply h msg) s fun u =>
    recordOf u.dev h.val t = recordOf s.dev h.val t ++ msg.drop 6

/-- What readReply does: one clause of PanelsAndWear (Last). -/
def ReadReplyLastDoes : Prop :=
  ∀ (s : State) (h : Fin 16) (msg : List Byte), WhenReadReplyLast s h msg → Completes (.readReply h msg) s fun u =>
    if sha384 (recordOf s.dev h.val 1 ++ recordOf s.dev h.val 2 ++ (recordOf s.dev h.val 3 ++ msg.drop 6)) = (panelOf s.dev h.val).digest then
      nGet u.dev (panel_IDENTITY_STATE h.val) = 2 ∧ bGet u.dev (panel_PANEL_ID h.val) = (panelOf s.dev h.val).newId
    else nGet u.dev (panel_IDENTITY_STATE h.val) = 3 ∧ nGet u.dev (panel_FAIL_REASON h.val) = 5

/-- What readReply does: one clause of PanelsAndWear (Again). -/
def ReadReplyAgainDoes : Prop :=
  ∀ (s : State) (h : Fin 16) (msg r : List Byte), WhenReadReplyAgain s h msg r → Completes (.readReply h msg) s fun u =>
    (panelOf u.dev h.val).dose =
      (if recordGood r && doseBodyFits (panelOf s.dev h.val).ageing (recordBody r) then doseFrom (recordBody r) (cellCount (panelOf s.dev h.val).ageing) else [])

/-- What committed does: one clause of PanelsAndWear. -/
def CommittedDoes : Prop :=
  ∀ (s : State) (h : Fin 16) (msg : List Byte) (typ gen : Nat), WhenCommitted s h msg typ gen → Completes (.committed h msg) s fun u =>
    if ofLe (sliceOf msg 6 1) ≠ 0 then
      nGet u.dev (panel_WRITE_FAILS h.val) = satAdd 32 (nGet s.dev (panel_WRITE_FAILS h.val)) 1 ∧ (panelOf u.dev h.val).writing = 0
    else nGet u.dev (panel_LAST_PANEL_WRITE h.val) = tbNs s.dev ∧
      (if typ = 2 then (panelOf u.dev h.val).genDose = gen ∧ nGet u.dev (dose_GEN h.val) = gen ∧ (panelOf u.dev h.val).writing = 3
       else (panelOf u.dev h.val).genHours = gen ∧ (panelOf u.dev h.val).writing = 0)

/-- What committedTimeout does: one clause of PanelsAndWear. -/
def CommittedTimeoutDoes : Prop :=
  ∀ (s : State) (h : Fin 16), WhenCommittedTimeout s h → Completes (.committedTimeout h) s fun u =>
    nGet u.dev (panel_WRITE_FAILS h.val) = satAdd 32 (nGet s.dev (panel_WRITE_FAILS h.val)) 1 ∧ (panelOf u.dev h.val).writing = 0 ∧
    (panelOf u.dev h.val).fails = (panelOf s.dev h.val).fails + 1

/-- What writeRetryExpiry does: one clause of PanelsAndWear. -/
def WriteRetryExpiryDoes : Prop :=
  ∀ (s : State) (h : Fin 16), WhenWriteRetryExpiry s h → Completes (.writeRetryExpiry h) s fun u =>
    (panelOf u.dev h.val).writing = (if (panelOf s.dev h.val).doseImage = [] then 3 else 2) ∧ armed u.dev tkCommitted h.val = true ∧ armed u.dev tkWriteRetry h.val = false

/-- What doseSnapshot does: one clause of PanelsAndWear. -/
def DoseSnapshotDoes : Prop :=
  ∀ (s : State) (h : Fin 16), WhenDoseSnapshot s h → Completes (.doseSnapshot h) s fun u =>
    (panelOf u.dev h.val).doseImage = (if dosesIn s.dev h.val then doseBody (panelOf s.dev h.val) else []) ∧
    (panelOf u.dev h.val).writing = (if dosesIn s.dev h.val then 2 else 3) ∧
    due u.dev tkDose h.val = false

/-- What cellRowDose does: one clause of PanelsAndWear. -/
def CellRowDoseDoes : Prop :=
  ∀ (s : State) (h : Fin 16) (r cols : Nat), WhenCellRowDose s h r cols → Completes (.cellRowDose h) s fun u =>
    (panelOf u.dev h.val).sums = (panelOf s.dev h.val).sums.filter (fun e => decide (e.1 / 3 / cols ≠ r)) ∧
    ∀ e ∈ (panelOf s.dev h.val).sums, e.1 / 3 / cols = r → mapGet (panelOf u.dev h.val).dose e.1 0 = mapGet (panelOf s.dev h.val).dose e.1 0 +
      doseDelta (headOf s.dev h.val).timing.frameNs (max 1 (cellPixels (headOf s.dev h.val).timing.hActive (headOf s.dev h.val).timing.vActive (e.1 / 3 % cols) r)) e.2

/-- What gainRecompute does: one clause of PanelsAndWear. -/
def GainRecomputeDoes : Prop :=
  ∀ (s : State) (h : Fin 16), WhenGainRecompute s h → Completes (.gainRecompute h) s fun u =>
    (panelOf u.dev h.val).first = false ∧ due u.dev tkGain h.val = false ∧
    (compensated s.dev h.val = false → (panelOf u.dev h.val).gains = []) ∧
    (compensated s.dev h.val = true → (panelOf s.dev h.val).first = true → (panelOf u.dev h.val).gains = mapOfList 0 0 (newGains s.dev h.val))

/-- What orbitStep does: one clause of PanelsAndWear. -/
def OrbitStepDoes : Prop :=
  ∀ (s : State) (h : Fin 16), Completes (.orbitStep h) s fun u =>
    (headOf u.dev h.val).orbitStep = tbNs s.dev / (60 * 10 ^ 9) % 64

/-- What summaryWrite does: one clause of PanelsAndWear. -/
def SummaryWriteDoes : Prop :=
  ∀ (s : State) (h : Fin 16), WhenSummaryWrite s h → Completes (.summaryWrite) s fun u =>
    nGet u.dev (panel_LAST_SUMMARY_WRITE h.val) = tbNs s.dev ∧ (panelOf u.dev h.val).nextSector = 1 - (panelOf s.dev h.val).nextSector ∧ due u.dev tkSummary h.val = false

/-- What operatingSecond does: one clause of PanelsAndWear. -/
def OperatingSecondDoes : Prop :=
  ∀ (s : State) (h : Fin 16), WhenOperatingSecond s h → Completes (.operatingSecond h) s fun u =>
    due u.dev tkOperating h.val = false ∧ armed u.dev tkOperating h.val = true ∧
    (if headRuns s.dev h.val && (headLanes s.dev h.val).any (fun l => decide (nGet s.dev (lane_STATE l) = 6)) then
      nGet u.dev (panel_OPERATING_S h.val) = satAdd 32 (panelOf s.dev h.val).seconds 1
     else nGet u.dev (panel_OPERATING_S h.val) = nGet s.dev (panel_OPERATING_S h.val))

/-- What ackNew does: one clause of PanelsAndWear. -/
def AckNewDoes : Prop :=
  ∀ (s : State) (sess : Nat) (h : Fin 16), WhenAckNew s sess h → Completes (.ackNew sess h 0) s fun u =>
    nGet u.dev (panel_NEW_PANEL h.val) = 0 ∧ AnswersOpen u sess 0 1

/-- What rowRead does: one clause of PanelsAndWear. -/
def RowReadDoes : Prop :=
  ∀ (s : State) (sess : Nat) (h : Fin 16) (arg : Nat) (l : List Nat), WhenRowRead s sess h arg l → Completes (.rowRead sess h arg) s fun u =>
    Answers u sess 0 ((l.map (fun k => leBytes 4 (doseUnits (panelOf s.dev h.val) k 0) ++ leBytes 4 (doseUnits (panelOf s.dev h.val) k 1) ++ leBytes 4 (doseUnits (panelOf s.dev h.val) k 2))).flatten)

/-- What gainRead does: one clause of PanelsAndWear. -/
def GainReadDoes : Prop :=
  ∀ (s : State) (sess : Nat) (h : Fin 16) (arg : Nat) (l : List Nat), WhenGainRead s sess h arg l → Completes (.gainRead sess h arg) s fun u =>
    Answers u sess 0 ((l.map (fun k => octets [mapGet (panelOf s.dev h.val).gains (3 * k) 0, mapGet (panelOf s.dev h.val).gains (3 * k + 1) 0, mapGet (panelOf s.dev h.val).gains (3 * k + 2) 0])).flatten)

/-- What post does: one clause of MoversAndBlitter. -/
def PostDoes : Prop :=
  ∀ (s : State) (sess : Nat) (n : Fin 32) (addr : Nat), WhenPost s sess n addr → Completes (.post sess n addr) s fun u =>
    (chanOf u.dev n.val).queue = (chanOf s.dev n.val).queue ++ [addr] ∧ nGet u.dev (dma_QUEUED n.val) = (chanOf s.dev n.val).queue.length + 1 ∧
    Answers u sess 0 (beBytes 8 ((chanOf s.dev n.val).queue.length + 1))

/-- What abort does: one clause of MoversAndBlitter. -/
def AbortDoes : Prop :=
  ∀ (s : State) (sess : Nat) (n : Fin 32), WhenAbort s sess n → Completes (.abort sess n 0) s fun u =>
    (chanOf u.dev n.val).queue = [] ∧ (chanOf u.dev n.val).chain = none ∧
    (chanOf u.dev n.val).job = (chanOf s.dev n.val).job.map (fun j => { j with aborted := some s.dev.now }) ∧ AnswersOpen u sess 0 1

/-- What dmaListStart does: one clause of MoversAndBlitter. -/
def DmaListStartDoes : Prop :=
  ∀ (s : State) (n : Fin 32) (a : Nat), WhenDmaListStart s n a → Completes (.dmaListStart n) s fun u =>
    (chanOf u.dev n.val).job = some (readList s.dev s.mem a) ∧ nGet u.dev (dma_STATE n.val) = 1

/-- What dmaListStart does: one clause of MoversAndBlitter (Refused). -/
def DmaListStartRefusedDoes : Prop :=
  ∀ (s : State) (n : Fin 32) (a : Nat) (st : Status) (det : Nat), WhenDmaListStartRefused s n a st det → Completes (.dmaListStart n) s fun u =>
    nGet u.dev (dma_LAST_SEQ n.val) = (readList s.dev s.mem a).seq ∧ nGet u.dev (dma_LAST_STATUS n.val) = st.code ∧ nGet u.dev (dma_LAST_DETAIL n.val) = det ∧
    nGet u.dev (dma_LISTS_FAILED n.val) = satAdd 32 (nGet s.dev (dma_LISTS_FAILED n.val)) 1

/-- What dmaListComplete does: one clause of MoversAndBlitter. -/
def DmaListCompleteDoes : Prop :=
  ∀ (s : State) (n : Fin 32) (j : DmaJob), WhenDmaListComplete s n j → Completes (.dmaListComplete n) s fun u =>
    (chanOf u.dev n.val).job = none ∧ (chanOf u.dev n.val).chain = (if j.next ≠ 0 then some j.next else none) ∧ nGet u.dev (dma_STATE n.val) = 0 ∧
    nGet u.dev (dma_LAST_SEQ n.val) = j.seq ∧ nGet u.dev (dma_LAST_STATUS n.val) = 0 ∧ nGet u.dev (dma_LAST_BYTES n.val) = (listMoves s.dev s.mem j).length ∧
    nGet u.dev (dma_LISTS_DONE n.val) = satAdd 32 (nGet s.dev (dma_LISTS_DONE n.val)) 1

/-- What dmaListComplete does: one clause of MoversAndBlitter (Data). -/
def DmaListCompleteDataDoes : Prop :=
  ∀ (s : State) (n : Fin 32) (j : DmaJob), WhenDmaListCompleteData s n j → Completes (.dmaListComplete n) s fun u =>
    ∀ e ∈ (addrsOf j.src).zip (addrsOf j.dst), memRead u.mem e.2 = gotByte s.dev s.mem j.got e.1

/-- What kick does: one clause of MoversAndBlitter. -/
def KickDoes : Prop :=
  ∀ (s : State) (sess : Nat) (r : Fin 4), WhenKick s sess r → Completes (.kick sess r 0) s fun u =>
    AnswersOpen u sess 0 1 ∧ (if (ringOf s.dev r.val).job.isSome then (ringOf u.dev r.val).rekick = true
    else (ringOf u.dev r.val).produce = producedAt s (nGet s.dev (ring_RING_ADDRESS r.val)))

/-- What ringEnableWrite does: one clause of MoversAndBlitter. -/
def RingEnableWriteDoes : Prop :=
  ∀ (s : State) (sess : Nat) (r : Fin 4) (v : Nat), WhenRingEnableWrite s sess r v → Completes (.ringEnableWrite sess r v) s fun u =>
    nGet u.dev (ring_ENABLE r.val) = v ∧ Answers u sess 0 [] ∧
    (v = 1 → nGet u.dev (ring_CONSUME r.val) = producedAt s (nGet s.dev (ring_RING_ADDRESS r.val)) ∧
      (ringOf u.dev r.val).produce = producedAt s (nGet s.dev (ring_RING_ADDRESS r.val)) ∧ (ringOf u.dev r.val).clip = [])

/-- What fill does: one clause of MoversAndBlitter. -/
def FillDoes : Prop :=
  ∀ (s : State) (r : Fin 4) (i : Nat) (cmd : List Byte), WhenFill s r i cmd → Completes (.fill r) s fun u =>
    (ringOf u.dev r.val).job = some { cmd := cmd, status := 0, detail := 0, clip := (ringOf s.dev r.val).clip, index := i, slot := slotAddr s.dev r.val i, header := nGet s.dev (ring_RING_ADDRESS r.val), again := false, got := [] } ∧ u.dev.movers.lastRing = r.val ∧
    nGet u.dev (ring_CONSUME r.val) = i

/-- What fill does: one clause of MoversAndBlitter (Refused). -/
def FillRefusedDoes : Prop :=
  ∀ (s : State) (r : Fin 4) (i : Nat) (cmd : List Byte) (st : Status) (det : Nat), WhenFillRefused s r i cmd st det → Completes (.fill r) s fun u =>
    (ringOf u.dev r.val).job = some { cmd := cmd, status := st.code, detail := det, clip := (ringOf s.dev r.val).clip, index := i, slot := slotAddr s.dev r.val i, header := nGet s.dev (ring_RING_ADDRESS r.val), again := false, got := [] } ∧ u.dev.movers.lastRing = r.val

/-- What copy does: one clause of MoversAndBlitter. -/
def CopyDoes : Prop :=
  ∀ (s : State) (r : Fin 4) (i : Nat) (cmd : List Byte), WhenCopy s r i cmd → Completes (.copy r) s fun u =>
    (ringOf u.dev r.val).job = some { cmd := cmd, status := 0, detail := 0, clip := (ringOf s.dev r.val).clip, index := i, slot := slotAddr s.dev r.val i, header := nGet s.dev (ring_RING_ADDRESS r.val), again := false, got := [] } ∧ u.dev.movers.lastRing = r.val ∧
    nGet u.dev (ring_CONSUME r.val) = i

/-- What copy does: one clause of MoversAndBlitter (Refused). -/
def CopyRefusedDoes : Prop :=
  ∀ (s : State) (r : Fin 4) (i : Nat) (cmd : List Byte) (st : Status) (det : Nat), WhenCopyRefused s r i cmd st det → Completes (.copy r) s fun u =>
    (ringOf u.dev r.val).job = some { cmd := cmd, status := st.code, detail := det, clip := (ringOf s.dev r.val).clip, index := i, slot := slotAddr s.dev r.val i, header := nGet s.dev (ring_RING_ADDRESS r.val), again := false, got := [] } ∧ u.dev.movers.lastRing = r.val

/-- What clip does: one clause of MoversAndBlitter. -/
def ClipDoes : Prop :=
  ∀ (s : State) (r : Fin 4) (i : Nat) (cmd : List Byte), WhenClip s r i cmd → Completes (.clip r) s fun u =>
    (ringOf u.dev r.val).clip = clipRects cmd ∧ (ringOf u.dev r.val).job = some { cmd := cmd, status := 0, detail := 0, clip := (ringOf s.dev r.val).clip, index := i, slot := slotAddr s.dev r.val i, header := nGet s.dev (ring_RING_ADDRESS r.val), again := false, got := [] }

/-- What blitCommandComplete does: one clause of MoversAndBlitter. -/
def BlitCommandCompleteDoes : Prop :=
  ∀ (s : State) (r : Fin 4) (j : BlitJob), WhenBlitCommandComplete s r j → Completes (.blitCommandComplete r) s fun u =>
    (ringOf u.dev r.val).job = none ∧ nGet u.dev (ring_CONSUME r.val) = (if j.again then nGet s.dev (ring_CONSUME r.val) else (j.index + 1) % 2 ^ 32) ∧
    (if j.status = 0 then nGet u.dev (ring_COMMANDS_DONE r.val) = satAdd 32 (nGet s.dev (ring_COMMANDS_DONE r.val)) 1
     else nGet u.dev (ring_COMMANDS_FAILED r.val) = satAdd 32 (nGet s.dev (ring_COMMANDS_FAILED r.val)) 1)

/-- What blitCommandComplete does: one clause of MoversAndBlitter (Data). -/
def BlitCommandCompleteDataDoes : Prop :=
  ∀ (s : State) (r : Fin 4) (j : BlitJob), WhenBlitCommandCompleteData s r j → Completes (.blitCommandComplete r) s fun u =>
    ∀ m ∈ blitMoves s.dev s.mem j, memRead u.mem m.dst = m.val

/-- What engineSample does: one clause of AudioBlock. -/
def EngineSampleDoes : Prop :=
  ∀ (s : State) (v : Fin 128), WhenEngineSample s → Completes (.engineSample) s fun u =>
    u.dev.audio.samples = sampleIndex s.dev + 1 ∧ (voiceOf u.dev v.val).keyOn = false ∧ (voiceOf u.dev v.val).keyOff = false ∧
    ((voiceOf s.dev v.val).keyOn = true → nGet u.dev (voice_KEY_ONS v.val) = satAdd 32 (nGet s.dev (voice_KEY_ONS v.val)) 1)

/-- What keyOn does: one clause of AudioBlock. -/
def KeyOnDoes : Prop :=
  ∀ (s : State) (sess : Nat) (v : Fin 128), WhenKeyOn s sess v → Completes (.keyOn sess v) s fun u =>
    (voiceOf u.dev v.val).keyOn = true ∧ Answers u sess 0 (beBytes 1 (nGet s.dev (voice_STATE v.val)))

/-- What keyOff does: one clause of AudioBlock. -/
def KeyOffDoes : Prop :=
  ∀ (s : State) (sess : Nat) (v : Fin 128), WhenKeyOff s sess v → Completes (.keyOff sess v) s fun u =>
    (voiceOf u.dev v.val).keyOff = true ∧ Answers u sess 0 (beBytes 1 (nGet s.dev (voice_STATE v.val)))

/-- What voiceDurationExpiry does: one clause of AudioBlock. -/
def VoiceDurationExpiryDoes : Prop :=
  ∀ (s : State) (v : Fin 128) (t : Nat), WhenVoiceDurationExpiry s v t → Completes (.voiceDurationExpiry v) s fun u =>
    (voiceOf u.dev v.val).keyOff = true ∧ (voiceOf u.dev v.val).onAt = none

/-- What waveTableWrite does: one clause of AudioBlock. -/
def WaveTableWriteDoes : Prop :=
  ∀ (s : State) (sess : Nat) (t : Fin 32) (samples : List Byte), WhenWaveTableWrite s sess t samples → Completes (.waveTableWrite sess t samples) s fun u =>
    bGet u.dev (wtab_SAMPLES t.val) = samples ∧ Answers u sess 0 []

/-- What gainsWrite does: one clause of AudioBlock. -/
def GainsWriteDoes : Prop :=
  ∀ (s : State) (sess : Nat) (o : Fin 48) (gains : List Byte), WhenGainsWrite s sess o gains → Completes (.gainsWrite sess o gains) s fun u =>
    bGet u.dev (xout_GAINS o.val) = gains ∧ (∀ i < 64, (nodeOf u.dev (64 * o.val + i)).target = ofLe (sliceOf gains (2 * i) 2)) ∧ Answers u sess 0 []

/-- What filterWrite does: one clause of AudioBlock. -/
def FilterWriteDoes : Prop :=
  ∀ (s : State) (sess : Nat) (o : Fin 48) (coefs : List Byte), WhenFilterWrite s sess o coefs → Completes (.filterWrite sess o coefs) s fun u =>
    bGet u.dev (xout_FILTER o.val) = coefs ∧ (outOf u.dev o.val).hist = List.replicate 24 0 ∧ Answers u sess 0 []

/-- What start does: one clause of AudioBlock. -/
def StartDoes : Prop :=
  ∀ (s : State) (sess : Nat) (q : Fin 4) (arg : Nat), WhenStart s sess q arg → Completes (.start sess q arg) s fun u =>
    nGet u.dev (seqr_RUNNING q.val) = 1 ∧ seqOf u.dev q.val = { step := arg, wait := 1, last := tickOf s.dev q.val } ∧ AnswersOpen u sess 0 1

/-- What stop does: one clause of AudioBlock. -/
def StopDoes : Prop :=
  ∀ (s : State) (sess : Nat) (q : Fin 4), WhenStop s sess q → Completes (.stop sess q 0) s fun u =>
    nGet u.dev (seqr_RUNNING q.val) = 0 ∧ mapFind u.dev.audio.seqs q.val = none ∧ AnswersOpen u sess 0 1

/-- What sequencerTick does: one clause of AudioBlock. -/
def SequencerTickDoes : Prop :=
  ∀ (s : State) (q : Fin 4), WhenSequencerTick s q → Completes (.sequencerTick q) s fun u =>
    if 1 < (seqOf s.dev q.val).wait then seqOf u.dev q.val = { seqOf s.dev q.val with wait := (seqOf s.dev q.val).wait - 1, last := tickOf s.dev q.val }
    else nGet u.dev (seqr_RUNNING q.val) = 0

/-- What sequencerTick does: one clause of AudioBlock (Key). -/
def SequencerTickKeyDoes : Prop :=
  ∀ (s : State) (q : Fin 4) (v w k : Nat) (b : List Byte), WhenSequencerTickKey s q v w k b → Completes (.sequencerTick q) s fun u =>
    (voiceOf u.dev v).keyOn = true ∧ seqOf u.dev q.val = { step := k + 1, wait := w, last := tickOf s.dev q.val } ∧ nGet u.dev (seqr_RUNNING q.val) = 1

/-- What tdmFrame does: one clause of AudioBlock. -/
def TdmFrameDoes : Prop :=
  ∀ (s : State) (p : Fin 4) (slots : List Word), WhenTdmFrame s p → Completes (.tdmFrame p slots) s fun u =>
    u.dev.out = s.dev.out ++ [.tdm p.val (tdmOutput s.dev p.val)] ∧
    (mapFind s.dev.audio.tdmIn (16 * p.val) = none → ∀ k < nGet s.dev (tdm_SLOTS p.val),
      mapGet u.dev.audio.tdmIn (16 * p.val + k) [] = [sintOf 24 (slotWord (nGet s.dev (tdm_WIDTH p.val)) ((slots.getD k 0).toNat) / 256)])

/-- What rxAudioPacket does: one clause of AudioBlock. -/
def RxAudioPacketDoes : Prop :=
  ∀ (s : State) (l : Fin 32) (pkt body : List Byte) (st ch rate n t : Nat), WhenRxAudioPacket s l pkt body st ch rate n t → Completes (.rxAudioPacket l pkt) s fun u =>
    ∀ c < ch, mapGet u.dev.audio.rates (1024 + 32 * l.val + 8 * st + c) 0 = rate ∧
    (mapGet u.dev.audio.heard (1024 + 32 * l.val + 8 * st + c) []).length = max (mapGet s.dev.audio.heard (1024 + 32 * l.val + 8 * st + c) []).length
      (min (if rate = 0 then 2400 else 4800) ((mapGet s.dev.audio.heard (1024 + 32 * l.val + 8 * st + c) []).length + n))

/-- What rxAudioPacket does: one clause of AudioBlock (Late). -/
def RxAudioPacketLateDoes : Prop :=
  ∀ (s : State) (l : Fin 32) (pkt body : List Byte) (st ch rate n : Nat), WhenRxAudioPacketLate s l pkt body st ch rate n → Completes (.rxAudioPacket l pkt) s fun u =>
    nGet u.dev (ev_RAISED 870) = satAdd 32 (nGet s.dev (ev_RAISED 870)) n ∧ u.dev.audio.heard = s.dev.audio.heard

/-- What uplinkLinkUp does: one clause of NetworkPorts. -/
def UplinkLinkUpDoes : Prop :=
  ∀ (s : State) (n : Fin 2) (r : Fin 6), WhenUplinkLinkUp s n r → Completes (.uplinkLinkUp ⟨n, r⟩) s fun u =>
    nGet u.dev (upl_LINK n.val) = 1 ∧ u.dev.net.checking = s.dev.net.checking ++ [n.val] ∧
    nGet u.dev (upl_SPEED n.val) = (if nGet s.dev (upl_MODE n.val) = 1 then 4 else 1 + r.val)

/-- What uplinkLinkDown does: one clause of NetworkPorts. -/
def UplinkLinkDownDoes : Prop :=
  ∀ (s : State) (n : Fin 2), WhenUplinkLinkDown s n → Completes (.uplinkLinkDown n) s fun u =>
    nGet u.dev (upl_LINK n.val) = 0 ∧ nGet u.dev (upl_SPEED n.val) = 0 ∧
    nGet u.dev (upl_LINK_DOWNS n.val) = satAdd 32 (nGet s.dev (upl_LINK_DOWNS n.val)) 1 ∧
    (nGet s.dev addr_REDUNDANCY = 1 ∧ nGet s.dev addr_ACTIVE = n.val →
      if nGet s.dev (upl_LINK (1 - n.val)) = 1 then nGet u.dev addr_ACTIVE = 1 - n.val ∧
        nGet u.dev addr_FAILOVERS = satAdd 32 (nGet s.dev addr_FAILOVERS) 1 ∧ nGet u.dev (ev_RAISED 848) = satAdd 32 (nGet s.dev (ev_RAISED 848)) 1
      else nGet u.dev addr_ACTIVE = 0xFF)

/-- What duplicateAddressDetectionDone does: one clause of NetworkPorts. -/
def DuplicateAddressDetectionDoneDoes : Prop :=
  ∀ (s : State) (n : Fin 2) (k : Fin 4), WhenDuplicateAddressDetectionDone s n → Completes (.duplicateAddressDetectionDone n k) s fun u =>
    u.dev.net.checking.contains n.val = false ∧
    (List.range 2).all (fun i => !hasIp6 s.dev n.val i || (if bitOf k.val i then u.dev.net.conflict else u.dev.net.usable).contains (4 * n.val + i)) = true

/-- What uplinkFrameReceived does: one clause of NetworkPorts. -/
def UplinkFrameReceivedDoes : Prop :=
  ∀ (s : State) (n : Fin 2) (fcsOk : Bool) (f : List Byte), WhenUplinkFrameReceived s n fcsOk f → Completes (.uplinkFrameReceived n fcsOk f) s fun u =>
    nGet u.dev (upl_RX_ERRORS n.val) = satAdd 32 (nGet s.dev (upl_RX_ERRORS n.val)) 1

/-- What uplinkFrameReceived does: one clause of NetworkPorts (Oversize). -/
def UplinkFrameReceivedOversizeDoes : Prop :=
  ∀ (s : State) (n : Fin 2) (f : List Byte), WhenUplinkFrameReceivedOversize s n f → Completes (.uplinkFrameReceived n true f) s fun u =>
    nGet u.dev (upl_RX_OVERSIZE n.val) = satAdd 32 (nGet s.dev (upl_RX_OVERSIZE n.val)) 1

/-- What uplinkFrameReceived does: one clause of NetworkPorts (Dropped). -/
def UplinkFrameReceivedDroppedDoes : Prop :=
  ∀ (s : State) (n : Fin 2) (f : List Byte), WhenUplinkFrameReceivedDropped s n f → Completes (.uplinkFrameReceived n true f) s fun u =>
    nGet u.dev (upl_RX_DROPPED n.val) = satAdd 32 (nGet s.dev (upl_RX_DROPPED n.val)) 1

/-- What uplinkFrameReceived does: one clause of NetworkPorts (Other). -/
def UplinkFrameReceivedOtherDoes : Prop :=
  ∀ (s : State) (n : Fin 2) (f : List Byte), WhenUplinkFrameReceivedOther s n f → Completes (.uplinkFrameReceived n true f) s fun u =>
    nGet u.dev (upl_RX_FRAMES n.val) = satAdd 64 (nGet s.dev (upl_RX_FRAMES n.val)) 1

/-- What arpRequest does: one clause of NetworkPorts. -/
def ArpRequestDoes : Prop :=
  ∀ (s : State) (n : Fin 2) (f p : List Byte), WhenArpRequest s n f p → Completes (.arpRequest n f) s fun u =>
    RepliesEth s u n.val (ethHead s.dev n.val (sliceOf p 8 6) (nGet s.dev (upl_VLAN_ID n.val)) (nGet s.dev (upl_PCP n.val)) 0x0806 ++
      octets [0, 1, 8, 0, 6, 4, 0, 2] ++ macOf s.dev n.val ++ beBytes 4 (nGet s.dev addr_IPV4_ADDR) ++ sliceOf p 8 6 ++ beBytes 4 (ofBe (sliceOf p 14 4)))

/-- What icmpEcho does: one clause of NetworkPorts. -/
def IcmpEchoDoes : Prop :=
  ∀ (s : State) (n : Fin 2) (f p body : List Byte), WhenIcmpEcho s n f p body → Completes (.icmpEcho n f) s fun u =>
    RepliesEth s u n.val (ethHead s.dev n.val (sliceOf f 6 6) (nGet s.dev (upl_VLAN_ID n.val)) (nGet s.dev (upl_PCP n.val)) 0x0800 ++
      ip4 (nGet s.dev addr_IPV4_ADDR) (ofBe (sliceOf p 12 4)) 1 (octets [0, 0] ++ inetCheck (octets [0, 0, 0, 0] ++ body.drop 4) ++ body.drop 4))

/-- What icmpEcho does: one clause of NetworkPorts (Six). -/
def IcmpEchoSixDoes : Prop :=
  ∀ (s : State) (n : Fin 2) (f p a : List Byte), WhenIcmpEchoSix s n f p a → Completes (.icmpEcho n f) s fun u =>
    RepliesEth s u n.val (ethHead s.dev n.val (sliceOf f 6 6) (nGet s.dev (upl_VLAN_ID n.val)) (nGet s.dev (upl_PCP n.val)) 0x86DD ++
      icmp6 a (sliceOf p 8 16) (octets [129, 0, 0, 0] ++ (sliceOf p 40 (ofBe (sliceOf p 4 2))).drop 4))

/-- What neighbourSolicitation does: one clause of NetworkPorts. -/
def NeighbourSolicitationDoes : Prop :=
  ∀ (s : State) (n : Fin 2) (f p t : List Byte), WhenNeighbourSolicitation s n f p t → Completes (.neighbourSolicitation n f) s fun u =>
    RepliesEth s u n.val (ethHead s.dev n.val (sliceOf f 6 6) (nGet s.dev (upl_VLAN_ID n.val)) (nGet s.dev (upl_PCP n.val)) 0x86DD ++
      icmp6 t (sliceOf p 8 16) (octets [136, 0, 0, 0, 0x60, 0, 0, 0] ++ t ++ octets [2, 1] ++ macOf s.dev n.val))

/-- What aafPduReceived does: one clause of NetworkPorts. -/
def AafPduReceivedDoes : Prop :=
  ∀ (s : State) (n : Fin 2) (l : Fin 16) (f p : List Byte), WhenAafPduReceived s n l f p → Completes (.aafPduReceived n f) s fun u =>
    nGet u.dev (strm_PDUS l.val) = satAdd 32 (nGet s.dev (strm_PDUS l.val)) 1 ∧ mapFind u.dev.audio.pduSeq (16 + l.val) = some (ofBe (sliceOf p 2 1)) ∧
    nGet u.dev (strm_SEQ_GAPS l.val) = (if (mapFind s.dev.audio.pduSeq (16 + l.val)).all (fun o => decide (ofBe (sliceOf p 2 1) = (o + 1) % 256))
      then nGet s.dev (strm_SEQ_GAPS l.val) else satAdd 32 (nGet s.dev (strm_SEQ_GAPS l.val)) 1)

/-- What aafPduReceived does: one clause of NetworkPorts (Mismatch). -/
def AafPduReceivedMismatchDoes : Prop :=
  ∀ (s : State) (n : Fin 2) (l : Fin 16) (f p : List Byte), WhenAafPduReceivedMismatch s n l f p → Completes (.aafPduReceived n f) s fun u =>
    nGet u.dev (avtp_MISMATCHES l.val) = satAdd 32 (nGet s.dev (avtp_MISMATCHES l.val)) 1 ∧ nGet u.dev (strm_PDUS l.val) = nGet s.dev (strm_PDUS l.val)

/-- What talkerPduSend does: one clause of NetworkPorts. -/
def TalkerPduSendDoes : Prop :=
  ∀ (s : State) (t : Fin 16) (q : List (List Int)) (up c : Nat), WhenTalkerPduSend s t q up c → Completes (.talkerPduSend t) s fun u =>
    let f := ethHead s.dev up (sliceOf (bGet s.dev (strm_DEST_MAC (16 + t.val))) 0 6) (nGet s.dev (strm_VLAN_ID (16 + t.val))) (if c = 0 then nGet s.dev (upl_CLASS_A_PCP up) else nGet s.dev (upl_CLASS_B_PCP up)) 0x22F0 ++ talkerPdu s.dev t.val (mapGet s.dev.audio.pduSeq t.val 0) (q.take (talkerFrames s.dev t.val))
    mapGet u.dev.audio.gathered t.val [] = q.drop (talkerFrames s.dev t.val) ∧
    mapGet u.dev.audio.pduSeq t.val 0 = (mapGet s.dev.audio.pduSeq t.val 0 + 1) % 256 ∧
    queueOf u.dev up (1 + c) = queueOf s.dev up (1 + c) ++ [{ octets := f ++ zeros (60 - f.length), mark := .pdu t.val }]

/-- What redundancyWrite does: one clause of NetworkPorts. -/
def RedundancyWriteDoes : Prop :=
  ∀ (s : State) (sess v : Nat), WhenRedundancyWrite s sess v → Completes (.redundancyWrite sess v) s fun u =>
    nGet u.dev addr_REDUNDANCY = v ∧ nGet u.dev addr_ACTIVE = 0xFF ∧ u.dev.net.restart = true ∧
    Answers u sess 0 [] ∧ u.dev.noap.sessions = []

/-- What pdelayExchange does: one clause of NetworkPorts. -/
def PdelayExchangeDoes : Prop :=
  ∀ (s : State) (n : Fin 2) (t1 t2 t3 t4 : Nat), WhenPdelayExchange s n → Completes (.pdelayExchange n t1 t2 t3 t4) s fun u =>
    nGet u.dev (upl_LINK_DELAY_NS n.val) = min (2 ^ 32 - 1)
    (((t4 : Int) - nGet s.dev (upl_INGRESS_LATENCY_NS n.val) - (t1 + nGet s.dev (upl_EGRESS_LATENCY_NS n.val)) - (t3 - t2)) / 2).toNat

/-- What gptpSyncSend does: one clause of NetworkPorts. -/
def GptpSyncSendDoes : Prop :=
  ∀ (s : State) (n : Fin 2) (k : Nat), WhenGptpSyncSend s n k → Completes (.gptpSyncSend n) s fun u =>
    (gptpOf u.dev n.val).syncSeq = (k + 1) % 65536 ∧ mapFind u.dev.timers (timerKey tkSyncSend n.val) = some (s.dev.now + 125000000) ∧
    queueOf u.dev n.val 0 = queueOf s.dev n.val 0 ++ [{ octets := octets [0x01, 0x80, 0xC2, 0, 0, 0x0E] ++ macOf s.dev n.val ++ octets [0x88, 0xF7] ++ ptpHead s.dev n.val 0 44 0x0200 k 0 ++ zeros 10 ++ zeros 2, mark := .sync k }]

/-- What rtcTick does: one clause of SupplyAndSleep. -/
def RtcTickDoes : Prop :=
  ∀ (s : State), WhenRtcTick s → Completes (.rtcTick) s fun u =>
    u.dev.tb = s.dev.tb + (30517 * 64 + 37) * 2 ^ 26 ∧ u.dev.power.ticksSlept = s.dev.power.ticksSlept + 1 ∧ u.mem = s.mem

/-- What rtcTick does: one clause of SupplyAndSleep (Frost). -/
def RtcTickFrostDoes : Prop :=
  ∀ (s : State), WhenRtcTickFrost s → Completes (.rtcTick) s fun u =>
    u.dev.tb = s.dev.tb + (30517 * 64 + 37) * 2 ^ 26 ∧ u.dev.power.phase = .frost

/-- What rtcTick does: one clause of SupplyAndSleep (Wakes). -/
def RtcTickWakesDoes : Prop :=
  ∀ (s : State) (src det : Nat), WhenRtcTickWakes s src det → Completes (.rtcTick) s fun u =>
    nGet u.dev power_LAST_WAKE_SOURCE = src ∧ nGet u.dev power_LAST_WAKE_DETAIL = det ∧ u.dev.power.phase = .restoring 2 1 ∧ u.mem = []

/-- What vinValid does: one clause of SupplyAndSleep. -/
def VinValidDoes : Prop :=
  ∀ (s : State), WhenVinValid s → Completes (.vinValid) s fun u =>
    u.dev.power.phase = .restoring 1 0 ∧ u.mem = [] ∧ nGet u.dev power_LAST_WAKE_SOURCE = 1

/-- What vinValid does: one clause of SupplyAndSleep (Lost). -/
def VinValidLostDoes : Prop :=
  ∀ (s : State), WhenVinValidLost s → Completes (.vinValid) s fun u =>
    u.dev.power.phase = .restoring 2 0 ∧ u.mem = s.mem

/-- What vinAbsent does: one clause of SupplyAndSleep. -/
def VinAbsentDoes : Prop :=
  ∀ (s : State), Completes (.vinAbsent) s fun u =>
    u.dev.power.phase = .absent ∧ u.mem = [] ∧ nGet u.dev hearth_FAULT_PINS = 1 ∧ faultLevels u.dev = (none, none) ∧ u.dev.tb = 0

/-- What vinLoss does: one clause of SupplyAndSleep. -/
def VinLossDoes : Prop :=
  ∀ (s : State), WhenVinLoss s → Completes (.vinLoss) s fun u =>
    u.dev.power.phase = .lost ∧ u.mem = [] ∧ nGet u.dev supply_LAST_POWER_LOSS = 1

/-- What overvoltage does: one clause of SupplyAndSleep. -/
def OvervoltageDoes : Prop :=
  ∀ (s : State), WhenOvervoltage s → Completes (.overvoltage) s fun u =>
    u.dev.power.phase = .lost ∧ u.mem = [] ∧ nGet u.dev supply_LAST_POWER_LOSS = 3 ∧ u.dev.power.overvolt = true

/-- What overvoltageClear does: one clause of SupplyAndSleep. -/
def OvervoltageClearDoes : Prop :=
  ∀ (s : State), WhenOvervoltageClear s → Completes (.overvoltageClear) s fun u =>
    u.dev.power.phase = .restoring 2 0 ∧ u.dev.power.overvolt = false

/-- What crankEntry does: one clause of SupplyAndSleep. -/
def CrankEntryDoes : Prop :=
  ∀ (s : State), WhenCrankEntry s → Completes (.crankEntry) s fun u =>
    nGet u.dev supply_SUPPLY_STATE = 1 ∧ nGet u.dev supply_CRANKS = satAdd 32 (nGet s.dev supply_CRANKS) 1 ∧
    nGet u.dev (ev_RAISED 884) = satAdd 32 (nGet s.dev (ev_RAISED 884)) 1 ∧
    (List.range 16).all (fun h => decide (nGet u.dev (head_STATE h) = if nGet s.dev (head_STATE h) = 3 then 4 else nGet s.dev (head_STATE h))) = true ∧
    (List.range 44).all (fun i => u.dev.islands.gated.contains i) = true

/-- What crankExit does: one clause of SupplyAndSleep. -/
def CrankExitDoes : Prop :=
  ∀ (s : State), WhenCrankExit s → Completes (.crankExit) s fun u =>
    nGet u.dev supply_SUPPLY_STATE = 0 ∧ (List.range 44).all (fun i => !u.dev.islands.gated.contains i) = true

/-- What crankTimeout does: one clause of SupplyAndSleep. -/
def CrankTimeoutDoes : Prop :=
  ∀ (s : State), WhenCrankTimeout s → Completes (.crankTimeout) s fun u =>
    u.dev.power.phase = .lost ∧ u.mem = [] ∧ nGet u.dev supply_LAST_POWER_LOSS = 2

/-- What restoreStepComplete does: one clause of SupplyAndSleep. -/
def RestoreStepCompleteDoes : Prop :=
  ∀ (s : State) (step start : Nat), WhenRestoreStepComplete s step start → Completes (.restoreStepComplete) s fun u =>
    u.dev.power.phase = .restoring (if start = 3 ∧ step = 4 then 8 else step + 1) start ∧ u.mem = s.mem

/-- What restoreStepComplete does: one clause of SupplyAndSleep (Runs). -/
def RestoreStepCompleteRunsDoes : Prop :=
  ∀ (s : State) (start : Nat), WhenRestoreStepCompleteRuns s start → Completes (.restoreStepComplete) s fun u =>
    u.dev.power.phase = .running ∧ u.dev.trust.kindling = true ∧ nGet u.dev dev_FK_STATE = 0 ∧ u.dev.islands.off = []

/-- What restoreStepComplete does: one clause of SupplyAndSleep (Warm). -/
def RestoreStepCompleteWarmDoes : Prop :=
  ∀ (s : State), WhenRestoreStepCompleteWarm s → Completes (.restoreStepComplete) s fun u =>
    u.dev.power.phase = .running ∧ nGet u.dev dev_FK_STATE = 1

/-- What sleepWinter does: one clause of SupplyAndSleep. -/
def SleepWinterDoes : Prop :=
  ∀ (s : State) (sess : Nat), WhenSleepWinter s sess → Completes (.sleepWinter sess) s fun u =>
    u.dev.power.sleep = .flush ∧ u.dev.power.sleepFor = 1 ∧ nGet u.dev power_STATE = 2 ∧ AnswersOpen u sess 7 1

/-- What sleepFrost does: one clause of SupplyAndSleep. -/
def SleepFrostDoes : Prop :=
  ∀ (s : State) (sess : Nat), WhenSleepFrost s sess → Completes (.sleepFrost sess) s fun u =>
    u.dev.power.sleep = .flush ∧ u.dev.power.sleepFor = 2 ∧ nGet u.dev power_STATE = 2 ∧ AnswersOpen u sess 7 1

/-- What wearFlushEnd does: one clause of SupplyAndSleep. -/
def WearFlushEndDoes : Prop :=
  ∀ (s : State), WhenWearFlushEnd s → Completes (.wearFlushEnd) s fun u =>
    u.dev.power.sleep = .stop 1 ∧ u.dev.wear.flushing = [] ∧ mapFind u.dev.timers (timerKey tkStop 0) = some (s.dev.now + 2000000)

/-- What blockStopAnswer does: one clause of SupplyAndSleep. -/
def BlockStopAnswerDoes : Prop :=
  ∀ (s : State) (k : Nat), WhenBlockStopAnswer s k → Completes (.blockStopAnswer .stopped) s fun u =>
    u.dev.power.sleep = .delay k ∧ mapFind u.dev.timers (timerKey tkStopDelay 0) = some (s.dev.now + stopDelay k)

/-- What blockStopAnswer does: one clause of SupplyAndSleep (Refuses). -/
def BlockStopAnswerRefusesDoes : Prop :=
  ∀ (s : State) (a : StopAnswer) (k r x : Nat), WhenBlockStopAnswerRefuses s k r x → Completes (.blockStopAnswer a) s fun u =>
    u.dev.power.abortBlock = k ∧ u.dev.power.abortReason = r ∧ u.dev.power.abortDetail = x ∧ u.dev.power.abortStep = k ∧
    u.dev.power.sleep = (if k = 1 ∨ k = 0 then SleepStage.idle else SleepStage.rollback (k - 1))

/-- What blockStopAnswer does: one clause of SupplyAndSleep (Timeout). -/
def BlockStopAnswerTimeoutDoes : Prop :=
  ∀ (s : State) (k : Nat), WhenBlockStopAnswerTimeout s k → Completes (.blockStopAnswer .timeout) s fun u =>
    u.dev.power.abortBlock = k ∧ u.dev.power.abortReason = 7 ∧ u.dev.power.abortDetail = 0xFFFF

/-- What stopDelayExpiry does: one clause of SupplyAndSleep. -/
def StopDelayExpiryDoes : Prop :=
  ∀ (s : State) (k : Nat), WhenStopDelayExpiry s k → Completes (.stopDelayExpiry) s fun u =>
    u.dev.power.sleep = .stop (k + 1) ∧ mapFind u.dev.timers (timerKey tkStop 0) = some (s.dev.now + 2000000)

/-- What stopDelayExpiry does: one clause of SupplyAndSleep (Last). -/
def StopDelayExpiryLastDoes : Prop :=
  ∀ (s : State), WhenStopDelayExpiryLast s → Completes (.stopDelayExpiry) s fun u =>
    u.dev.power.phase = (if s.dev.power.sleepFor = 1 then Phase.winter (nGet s.dev power_RETAIN_DRAM == 1) else Phase.frost) ∧
    u.dev.power.sleep = .idle ∧ nGet u.dev supply_LAST_POWER_LOSS = 0 ∧ nGet u.dev dev_FK_STATE = 0 ∧ u.dev.noap.sessions = [] ∧
    ∀ a, memRead u.mem a = if sleepLoses s.dev (decide (s.dev.power.sleepFor = 1) && nGet s.dev power_RETAIN_DRAM == 1) a then 0 else memRead s.mem a

/-- What sleepRollbackStep does: one clause of SupplyAndSleep. -/
def SleepRollbackStepDoes : Prop :=
  ∀ (s : State) (k : Nat), WhenSleepRollbackStep s k → Completes (.sleepRollbackStep) s fun u =>
    u.dev.power.sleep = .rollback (k - 1)

/-- What sleepRollbackStep does: one clause of SupplyAndSleep (Last). -/
def SleepRollbackStepLastDoes : Prop :=
  ∀ (s : State) (k : Nat), WhenSleepRollbackStepLast s k → Completes (.sleepRollbackStep) s fun u =>
    u.dev.power.sleep = .idle ∧ nGet u.dev abort_REASON = s.dev.power.abortReason ∧ nGet u.dev abort_BLOCK = s.dev.power.abortBlock

/-- What wakeN does: one clause of SupplyAndSleep. -/
def WakeNDoes : Prop :=
  ∀ (s : State), WhenWakeN s → Completes (.wakeN) s fun u =>
    nGet u.dev power_LAST_WAKE_SOURCE = 3 ∧ nGet u.dev hearth_FAULT_PINS = 1 ∧
    nGet u.dev power_SLEEP_CYCLES = satAdd 32 (nGet s.dev power_SLEEP_CYCLES) 1 ∧
    u.dev.power.phase = (if s.dev.power.phase = .winter true then Phase.restoring 3 3 else if s.dev.power.phase = .winter false then Phase.restoring 3 2 else Phase.restoring 2 1)

/-- What wakeN does: one clause of SupplyAndSleep (Back). -/
def WakeNBackDoes : Prop :=
  ∀ (s : State) (k : Nat), WhenWakeNBack s k → Completes (.wakeN) s fun u =>
    u.dev.power.sleep = .rollback k ∧ u.dev.power.abortReason = 8 ∧ mapFind u.dev.timers (timerKey tkRollback 0) = some (s.dev.now + stopDelay k)

/-- What resetN does: one clause of SupplyAndSleep. -/
def ResetNDoes : Prop :=
  ∀ (s : State), WhenResetN s → Completes (.resetN) s fun u =>
    u.dev.power.phase = .held ∧ u.mem = [] ∧ u.dev.noap.sessions = []

/-- What resetNRelease does: one clause of SupplyAndSleep. -/
def ResetNReleaseDoes : Prop :=
  ∀ (s : State), WhenResetNRelease s → Completes (.resetNRelease) s fun u =>
    u.dev.power.phase = .restoring 3 0 ∧ nGet u.dev power_LAST_WAKE_SOURCE = 2

/-- What thermalSample does: one clause of HeatPowerAndBoost. -/
def ThermalSampleDoes : Prop :=
  ∀ (s : State) (tj pred : Int) (up : Nat), WhenThermalSample s tj pred up → Completes (.thermalSample tj pred) s fun u =>
    nGet u.dev therm_STEP = nGet s.dev therm_STEP + 1 ∧ nGet u.dev therm_TJ = twosOf 16 tj ∧ nGet u.dev therm_TJ_PREDICTED = twosOf 16 pred ∧
    nGet u.dev (ev_RAISED 880) = satAdd 32 (nGet s.dev (ev_RAISED 880)) 1

/-- What thermalSample does: one clause of HeatPowerAndBoost (Down). -/
def ThermalSampleDownDoes : Prop :=
  ∀ (s : State) (tj pred : Int) (t : Nat), WhenThermalSampleDown s tj pred t → Completes (.thermalSample tj pred) s fun u =>
    nGet u.dev therm_STEP = nGet s.dev therm_STEP - 1 ∧ nGet u.dev therm_TJ = twosOf 16 tj ∧
    nGet u.dev (ev_RAISED 880) = satAdd 32 (nGet s.dev (ev_RAISED 880)) 1

/-- What thermalSample does: one clause of HeatPowerAndBoost (Holds). -/
def ThermalSampleHoldsDoes : Prop :=
  ∀ (s : State) (tj pred : Int), WhenThermalSampleHolds s tj pred → Completes (.thermalSample tj pred) s fun u =>
    nGet u.dev therm_STEP = nGet s.dev therm_STEP ∧ nGet u.dev therm_TJ = twosOf 16 tj

/-- What thermalTrip does: one clause of HeatPowerAndBoost. -/
def ThermalTripDoes : Prop :=
  ∀ (s : State), WhenThermalTrip s → Completes (.thermalTrip) s fun u =>
    u.dev.power.phase = .frost ∧ u.dev.power.tripped = true ∧ nGet u.dev therm_TRIPS = satAdd 32 (nGet s.dev therm_TRIPS) 1 ∧
    nGet u.dev supply_LAST_POWER_LOSS = 4 ∧ nGet u.dev hearth_FAULT_PINS = 1 ∧ u.dev.noap.sessions = [] ∧ u.mem = []

/-- What powerAverage does: one clause of HeatPowerAndBoost. -/
def PowerAverageDoes : Prop :=
  ∀ (s : State) (mw vin poc : Nat), WhenPowerAverage s → Completes (.powerAverage mw vin poc) s fun u =>
    nGet u.dev supply_INPUT_MW = min mw (2 ^ 32 - 1) ∧ nGet u.dev supply_VIN_MV = min vin 65535 ∧ nGet u.dev supply_VPOC_MV = min poc 65535 ∧
    (nGet s.dev boost_STATE ≠ 1 → u.dev.power.powerLevel =
      if s.dev.power.powerLevel = 0 then (if 58000 < mw then 2 else 0)
      else if mw < 54000 then (if s.dev.power.powerLow.getD s.dev.now + 5000000000 ≤ s.dev.now then 0 else s.dev.power.powerLevel)
      else if s.dev.power.powerLevel = 2 ∧ 58000 < mw ∧ s.dev.power.powerOver + 1000000000 ≤ s.dev.now then 3 else s.dev.power.powerLevel) ∧
    (nGet s.dev boost_STATE = 1 ∧ 74000 < mw → nGet u.dev boost_STATE ≠ 1)

/-- What boostRequest does: one clause of HeatPowerAndBoost. -/
def BoostRequestDoes : Prop :=
  ∀ (s : State) (sess n : Nat), WhenBoostRequest s sess n → Completes (.boostRequest sess n) s fun u =>
    nGet u.dev boost_STATE = 1 ∧ nGet u.dev boost_EPISODES = satAdd 32 (nGet s.dev boost_EPISODES) 1 ∧ u.dev.power.boostStart = s.dev.now ∧
    mapFind u.dev.timers (timerKey tkBoost 0) = some (s.dev.now + n * 1000000000) ∧ Answers u sess 0 (beBytes 2 1)

/-- What boostRequest does: one clause of HeatPowerAndBoost (Refused). -/
def BoostRequestRefusedDoes : Prop :=
  ∀ (s : State) (sess n : Nat), WhenBoostRequestRefused s sess n → Completes (.boostRequest sess n) s fun u =>
    nGet u.dev boost_REFUSAL = boostRefusal s.dev ∧ nGet u.dev boost_STATE = nGet s.dev boost_STATE ∧ Answers u sess 11 []

/-- What boostEndRequest does: one clause of HeatPowerAndBoost. -/
def BoostEndRequestDoes : Prop :=
  ∀ (s : State) (sess : Nat), WhenBoostEndRequest s sess → Completes (.boostEndRequest sess) s fun u =>
    nGet u.dev boost_STATE ≠ 1 ∧ Answers u sess 0 (beBytes 2 (nGet u.dev boost_STATE))

/-- What boostEpisodeEnd does: one clause of HeatPowerAndBoost. -/
def BoostEpisodeEndDoes : Prop :=
  ∀ (s : State), WhenBoostEpisodeEnd s → Completes (.boostEpisodeEnd) s fun u =>
    nGet u.dev boost_STATE ≠ 1 ∧ nGet u.dev boost_LIFETIME_S = min (2 ^ 32 - 1) (boostLife s.dev / 10 ^ 9) ∧ armed u.dev tkBoost 0 = false ∧
    nGet u.dev (ev_RAISED 881) = satAdd 32 (nGet s.dev (ev_RAISED 881)) 1

/-- What boostLifetimeFuse does: one clause of HeatPowerAndBoost. -/
def BoostLifetimeFuseDoes : Prop :=
  ∀ (s : State), WhenBoostLifetimeFuse s → Completes (.boostLifetimeFuse) s fun u =>
    u.dev.power.boostFuses = 300 ∧ nGet u.dev boost_STATE = 2

/-- What boostLifetimeFuse does: one clause of HeatPowerAndBoost (Burns). -/
def BoostLifetimeFuseBurnsDoes : Prop :=
  ∀ (s : State), WhenBoostLifetimeFuseBurns s → Completes (.boostLifetimeFuse) s fun u =>
    u.dev.power.boostFuses = max s.dev.power.boostFuses (fusesFor (boostLife s.dev / 10 ^ 9)) ∧ nGet u.dev boost_STATE = nGet s.dev boost_STATE

/-- What boostVinLow does: one clause of HeatPowerAndBoost. -/
def BoostVinLowDoes : Prop :=
  ∀ (s : State), Completes (.boostVinLow) s fun u =>
    nGet u.dev supply_VIN_MV = min 9999 (nGet s.dev supply_VIN_MV) ∧ nGet u.dev boost_STATE ≠ 1

/-- What kindlingStart does: one clause of StartupAndTrust. -/
def KindlingStartDoes : Prop :=
  ∀ (s : State), WhenKindlingStart s → Completes (.kindlingStart) s fun u =>
    u.dev.trust.kindling = false ∧ mapFind u.dev.trust.trying 1 = some (preferredSlot s.dev 1) ∧ mapFind u.dev.trust.trying 3 = some (preferredSlot s.dev 3) ∧
    u.dev.trust.enrolled = (s.dev.trust.digest != [] && sha (bGet s.dev sec_MAKER_ROOT_KEY) == s.dev.trust.digest)

/-- What imageVerifyComplete does: one clause of StartupAndTrust. -/
def ImageVerifyCompleteDoes : Prop :=
  ∀ (s : State) (i other : Fin 8), WhenImageVerifyComplete s i other → Completes (.imageVerifyComplete i) s fun u =>
    let r := imageReason s.dev (slotType i.val) (slotBytes s.dev i.val)
    nGet u.dev (slotImg_FAIL_REASON i.val) = r ∧
    (if r = 0 then nGet u.dev (slotImg_STATE i.val) = 2 ∧ nGet u.dev (slotImg_ACTIVE i.val) = 1 ∧ nGet u.dev (slotImg_ACTIVE other.val) = 0
     else nGet u.dev (slotImg_STATE i.val) = 3 ∧ mapFind u.dev.trust.trying (slotType i.val) = some other.val)

/-- What imageVerifyComplete does: one clause of StartupAndTrust (Last). -/
def ImageVerifyCompleteLastDoes : Prop :=
  ∀ (s : State) (i : Fin 8), WhenImageVerifyCompleteLast s i → Completes (.imageVerifyComplete i) s fun u =>
    imageReason s.dev (slotType i.val) (slotBytes s.dev i.val) ≠ 0 →
    (if slotType i.val = 1 then mapFind u.dev.timers (timerKey tkFkRetry 0) = some (s.dev.now + 1000000000)
     else u.dev.trust.concluded.contains (slotType i.val) = true ∧ (slotType i.val = 4 → u.dev.trust.scene = 2) ∧
       (slotType i.val = 2 → nGet u.dev hearth_PACKAGE_STATE = 3))

/-- What imageVerifyComplete does: one clause of StartupAndTrust (Releases). -/
def ImageVerifyCompleteReleasesDoes : Prop :=
  ∀ (s : State) (i : Fin 8), WhenImageVerifyCompleteReleases s i → Completes (.imageVerifyComplete i) s fun u =>
    imageReason s.dev (slotType i.val) (slotBytes s.dev i.val) = 0 → u.dev.trust.released = true ∧ nGet u.dev hearth_PACKAGE_STATE = 1

/-- What firekeeperImageRetry does: one clause of StartupAndTrust. -/
def FirekeeperImageRetryDoes : Prop :=
  ∀ (s : State), WhenFirekeeperImageRetry s → Completes (.firekeeperImageRetry) s fun u =>
    mapFind u.dev.trust.trying 1 = some (preferredSlot s.dev 1) ∧ armed u.dev tkFkRetry 0 = false

/-- What hearthPackageLoaded does: one clause of StartupAndTrust. -/
def HearthPackageLoadedDoes : Prop :=
  ∀ (s : State) (i n : Nat) (p img : List Byte), WhenHearthPackageLoaded s i n p img → Completes (.hearthPackageLoaded) s fun u =>
    nGet u.dev hearth_PACKAGE_VERSION = ofLe (sliceOf img 4 4) ∧ u.mem = memWriteBytes s.mem storeBase img ∧
    nGet u.dev hearth_PACKAGE_STATE = (if storeGood (memWriteBytes s.mem storeBase img) (ofLe (sliceOf img 8 2)) then 2 else 3)

/-- What bootSceneApply does: one clause of StartupAndTrust. -/
def BootSceneApplyDoes : Prop :=
  ∀ (s : State), WhenBootSceneApply s → Completes (.bootSceneApply) s fun u =>
    u.dev.trust.scene = 1

/-- What startDoneDeadline does: one clause of StartupAndTrust. -/
def StartDoneDeadlineDoes : Prop :=
  ∀ (s : State), WhenStartDoneDeadline s → Completes (.startDoneDeadline) s fun u =>
    nGet u.dev dev_START_DONE = 1 ∧ nGet u.dev dev_START_MISSING = startMissing s.dev ∧ nGet u.dev dev_START_TIME_MS = (s.dev.now - s.dev.trust.startAt) / 1000000

/-- What firekeeperRestart does: one clause of StartupAndTrust. -/
def FirekeeperRestartDoes : Prop :=
  ∀ (s : State) (cause : Nat), WhenFirekeeperRestart s → Completes (.firekeeperRestart cause) s fun u =>
    nGet u.dev dev_FK_STATE = 0 ∧ nGet u.dev dev_FK_RESTARTS = satAdd 32 (nGet s.dev dev_FK_RESTARTS) 1 ∧ u.dev.scene.evaluating = none ∧
    u.dev.scene.staging = [] ∧ u.dev.noap.sessions = []

/-- What load does: one clause of StartupAndTrust. -/
def LoadDoes : Prop :=
  ∀ (s : State) (sess i : Nat) (p : List Byte), WhenLoad s sess i p → Completes (.load sess i 0) s fun u =>
    if imageReason s.dev 5 (bGet s.dev (prog_IMAGE i)) = 0 then
      nGet u.dev (prog_LOADED i) = 1 ∧ nGet u.dev (prog_KIND i) = ofLe (sliceOf p 0 1) ∧ nGet u.dev (prog_ENTRY i) = ofLe (sliceOf p 4 4) ∧
      nGet u.dev (prog_FOOTPRINT i) = ofLe (sliceOf p 8 4) ∧ Answers u sess 0 (beBytes 1 (ofLe (sliceOf p 0 1)))
    else nGet u.dev (prog_LOADED i) = 0 ∧ Answers u sess 10 []

/-- What erase does: one clause of StartupAndTrust. -/
def EraseDoes : Prop :=
  ∀ (s : State) (sess : Nat) (i : Fin 8), WhenErase s sess i → Completes (.erase sess i 0) s fun u =>
    mapFind u.dev.trust.slots i.val = none ∧ nGet u.dev (slotImg_STATE i.val) = 0 ∧ AnswersOpen u sess 0 1

/-- What verify does: one clause of StartupAndTrust. -/
def VerifyDoes : Prop :=
  ∀ (s : State) (sess : Nat) (i : Fin 8), WhenVerify s sess i → Completes (.verify sess i 0) s fun u =>
    let r := imageReason s.dev (slotType i.val) (slotBytes s.dev i.val)
    nGet u.dev (slotImg_STATE i.val) = (if r = 0 then 2 else 3) ∧ nGet u.dev (slotImg_FAIL_REASON i.val) = r ∧ Answers u sess 0 (beBytes 1 r)

/-- What activate does: one clause of StartupAndTrust. -/
def ActivateDoes : Prop :=
  ∀ (s : State) (sess : Nat) (i other : Fin 8), WhenActivate s sess i other → Completes (.activate sess i 0) s fun u =>
    nGet u.dev (slotImg_PREFERRED i.val) = 1 ∧ nGet u.dev (slotImg_PREFERRED other.val) = 0 ∧ AnswersOpen u sess 0 1

/-- What enrol does: one clause of StartupAndTrust. -/
def EnrolDoes : Prop :=
  ∀ (s : State) (sess : Nat) (k : List Byte), WhenEnrol s sess k → Completes (.enrol sess k) s fun u =>
    nGet u.dev dev_LIFECYCLE = 1 ∧ bGet u.dev sec_MAKER_ROOT_KEY = k ∧ u.dev.trust.digest = sha k ∧ u.dev.trust.enrolled = true ∧ Answers u sess 0 []

/-- What revoke does: one clause of StartupAndTrust. -/
def RevokeDoes : Prop :=
  ∀ (s : State) (sess n : Nat), WhenRevoke s sess n → Completes (.revoke sess n) s fun u =>
    nGet u.dev sec_REVOKED_KEYS = setBit (nGet s.dev sec_REVOKED_KEYS) (32 * (n / 128) + n % 32) true ∧ AnswersOpen u sess 0 1

/-- What revokeSlot does: one clause of StartupAndTrust. -/
def RevokeSlotDoes : Prop :=
  ∀ (s : State) (sess : Nat) (r : Ref), WhenRevokeSlot s sess r → Completes (.revokeSlot sess r 0) s fun u =>
    nGet u.dev (mref 8 (refInst r) 2) = 1 ∧ AnswersOpen u sess 0 1

/-- What advance does: one clause of StartupAndTrust. -/
def AdvanceDoes : Prop :=
  ∀ (s : State) (sess typ v : Nat), WhenAdvance s sess typ v → Completes (.advance sess (256 * typ + v)) s fun u =>
    fuseCount u.dev typ = v ∧ AnswersOpen u sess 0 2

/-- What attest does: one clause of StartupAndTrust. -/
def AttestDoes : Prop :=
  ∀ (s : State) (sess : Nat) (nonce : List Byte), WhenAttest s sess nonce → Completes (.attest sess nonce) s fun u =>
    Answers u sess 0 (attestBody s.dev nonce ++ (Config.ecdsaSign (sha (attestBody s.dev nonce))).toList)

end Sys2Proof.Machine

open Sys2Proof Sys2Proof.Machine

/-- With a command c at the front of the queue, step is exec of c on the state with the rest of the queue. -/
def Obligations.StepRunsTheFrontCommand : Prop :=
  ∀ (c : Instr) (rest : List Instr) (s : State), s.pending = c :: rest → step s = exec c { s with pending := rest }

/-- The model's choice (assumption log 3): with no command waiting, a step answers the state after one tick, whose queue is empty; unless NOAP-lite frames waited for it, the clock of the model goes on by 5 ns and memory stays. -/
def Obligations.IdleStepIsATick : Prop :=
  ∀ s : State, s.pending = [] → ∃ u, step s = .next u ∧ u.pending = [] ∧ (s.dev.noap.liteWaiting = [] → u.dev.now = s.dev.now + 5 ∧ u.mem = s.mem)

/-- No command of the table ends in a fault or a refusal. -/
def Obligations.EveryCommandAnswers : Prop :=
  ∀ (c : Instr) (s : State), ∃ u, exec c s = .next u

/-- The memory of State.reset has the canonical form, every allocated object of it is of a scene class, and its queue is empty. -/
def Obligations.InvariantsAtReset : Prop :=
  MemInOrder State.reset ∧ SceneAlloc State.reset.dev ∧ State.reset.pending = []

/-- From every state whose memory lists strictly rising addresses and no octet equal to what an unlisted address reads as, a step answers a state of the same kind. -/
def Obligations.MemoryStaysInOrder : Prop :=
  ∀ s u : State, MemInOrder s → step s = .next u → MemInOrder u

/-- From every state in which each allocated object is a whole object of a scene class, a step answers such a state. -/
def Obligations.AllocationsStayInScene : Prop :=
  ∀ s u : State, SceneAlloc s.dev → step s = .next u → SceneAlloc u.dev

/-- Whatever a command does, the queue of a next state is the queue before it. -/
def Obligations.CommandsLeaveTheQueue : Prop :=
  ∀ (c : Instr) (s u : State), exec c s = .next u → u.pending = s.pending

/-- VIN_VALID, VIN_LOSS, VIN_ABSENT, CRANK_TIMEOUT, OVERVOLTAGE and RESET_N keep the fuses and the device record but for LAST_POWER_LOSS, never lower LIFETIME_S, and keep the image slots, the fused key digest, the stored training values and the burnt boost fuses. -/
def Obligations.ResetsKeepTheDeviceRecord : Prop :=
  ∀ c ∈ ([.vinValid, .vinLoss, .vinAbsent, .crankTimeout, .overvoltage, .resetN] : List Instr), ∀ s u : State, exec c s = .next u →
    (∀ r, durable r = true → r ≠ supply_LAST_POWER_LOSS → r ≠ boost_LIFETIME_S → mGet u.dev r = mGet s.dev r) ∧
    nGet s.dev boost_LIFETIME_S ≤ nGet u.dev boost_LIFETIME_S ∧ u.dev.trust.slots = s.dev.trust.slots ∧ u.dev.trust.digest = s.dev.trust.digest ∧
    u.dev.dram.stored = s.dev.dram.stored ∧ u.dev.power.boostFuses = s.dev.power.boostFuses

/-- Every BE32 instruction but a store leaves the registers, the flags, the state and the buffered stores of every other thread as they are. -/
def Obligations.OtherThreadsStay : Prop :=
  ∀ e ∈ be32Table, e.1 < 0x06 ∨ 0x0A < e.1 → ∀ (t : Fin 384) (w : Be32Op) (s u : State), exec (e.2 t w) s = .next u →
    ∀ k, k ≠ t.val → threadOf u.dev k = threadOf s.dev k

/-- A reference is a 32-bit value with the class in its top octet, the instance in the next 16 bits and the member in the lowest octet; it comes apart into the same three, every 32-bit value is one, a whole object carries member 0, and 48:0010/9 packs to 0x48001009. -/
def Obligations.ReferencesArePacked : Prop :=
  (∀ c i m : Nat, c < 256 → i < 65536 → m < 256 → mref c i m < 2 ^ 32 ∧
      (BitVec.ofNat 32 (mref c i m)).extractLsb' 24 8 = BitVec.ofNat 8 c ∧ (BitVec.ofNat 32 (mref c i m)).extractLsb' 8 16 = BitVec.ofNat 16 i ∧
      (BitVec.ofNat 32 (mref c i m)).extractLsb' 0 8 = BitVec.ofNat 8 m ∧
      refClass (mref c i m) = c ∧ refInst (mref c i m) = i ∧ refMember (mref c i m) = m ∧ refObj (mref c i m) = mref c i 0) ∧
  (∀ r < 2 ^ 32, mref (refClass r) (refInst r) (refMember r) = r) ∧ mref 0x48 0x10 9 = 0x48001009

/-- roundRat gives the integer nearest to a value, a value half-way between two integers goes to the one farther from zero, for negative values too; roundDiv is the same of a quotient of integers; floor and ceil have their usual meanings. -/
def Obligations.RoundingIsToNearest : Prop :=
  (∀ x : Rat, -(1 / 2) ≤ x - (roundRat x : Rat) ∧ x - (roundRat x : Rat) ≤ 1 / 2 ∧
      (x - (roundRat x : Rat) = 1 / 2 → x < 0) ∧ (x - (roundRat x : Rat) = -(1 / 2) → 0 < x) ∧
      (x.floor : Rat) ≤ x ∧ x < (x.floor : Rat) + 1 ∧ x ≤ (x.ceil : Rat) ∧ (x.ceil : Rat) < x + 1) ∧
  (∀ (n : Int) (d : Nat), 0 < d → roundDiv n d = roundRat ((n : Rat) / (d : Rat))) ∧ roundRat (5 / 2) = 3 ∧ roundRat (-5 / 2) = -3

/-- The conditions hold as the table says, BK as the mirror shows a blanking column; a BE32 instruction that is free to issue and whose condition does not hold changes nothing but the PC, which goes on by 4, an earlier delayed load that lands, and the count of its issue slot. -/
def Obligations.FalseConditionsOnlyAdvance : Prop :=
  (∀ (x : Thread) (bk : Bool), (List.range 16).map (condHolds x bk) = [true, x.z, !x.z, x.c, !x.c, x.n, !x.n, x.v, !x.v, x.c && !x.z, !x.c || x.z,
      x.n == x.v, x.n != x.v, !x.z && x.n == x.v, x.z || x.n != x.v, bk]) ∧
  (∀ (d : Dev) (t h : Nat), threadHead d t = some h → bkHolds d t = true →
      (headOf d h).timing.hActive ≤ (mirror d h).2 % (headOf d h).timing.hTotal) ∧
  (∀ e ∈ be32Table, ∀ (t : Fin 384) (w : Be32Op) (s : State), MayIssue e.1 s t.val w →
      condHolds (threadOf (settleThread s.dev t.val) t.val) (bkHolds (settleThread s.dev t.val) t.val) w.cond.val = false →
      exec (e.2 t w) s = .next (withDev s (countSignal (updThread (atIssue s t.val w) t.val (fun x => retired x x none none)) (3 * 4096 + t.val) 1)))

/-- An EOI for an ACTIVE source by the target that claimed it makes it PENDING where COUNT is above 0, sets COUNT to 1 and makes it PENDING where it is a level source whose level is asserted, and else makes it IDLE; any other EOI is counted in EOI_ERRORS and changes nothing else. -/
def Obligations.EndOfInterrupt : Prop :=
  ∀ (d : Dev) (n who : Nat), n < 1024 →
    (nGet d (ev_STATE n) = 2 ∧ mapFind d.events.claimant n = some who →
      mapFind (eoi d n who).events.claimant n = none ∧
      (if 0 < nGet d (ev_COUNT n) then nGet (eoi d n who) (ev_STATE n) = 1 ∧ nGet (eoi d n who) (ev_COUNT n) = nGet d (ev_COUNT n)
       else if eventSense n = 1 ∧ nGet d (ev_LEVEL n) = 1 then nGet (eoi d n who) (ev_STATE n) = 1 ∧ nGet (eoi d n who) (ev_COUNT n) = 1
       else nGet (eoi d n who) (ev_STATE n) = 0 ∧ nGet (eoi d n who) (ev_COUNT n) = 0)) ∧
    (¬ (nGet d (ev_STATE n) = 2 ∧ mapFind d.events.claimant n = some who) →
      nGet (eoi d n who) evCtl_EOI_ERRORS = satAdd 32 (nGet d evCtl_EOI_ERRORS) 1 ∧ (eoi d n who).events = d.events ∧
      ∀ r, r ≠ evCtl_EOI_ERRORS → mGet (eoi d n who) r = mGet d r)

/-- Each is one command: the DATA_OUT that it leaves is the one it found with the named bits set, cleared or turned over, whatever other bits a state holds. -/
def Obligations.PinActionsAreIndivisible : Prop :=
  ∀ (sess : Nat) (b : Fin 5) (mask : Nat) (s : State), mask < 2 ^ 32 → nGet s.dev (bank_DATA_OUT b.val) < 2 ^ 32 → ∀ i < 32,
    (writeGate s.dev sess (bank_SET b.val) = none → Completes (.set sess b mask) s fun u =>
      bitOf (nGet u.dev (bank_DATA_OUT b.val)) i = (bitOf (nGet s.dev (bank_DATA_OUT b.val)) i || bitOf mask i)) ∧
    (writeGate s.dev sess (bank_CLEAR b.val) = none → Completes (.gpioClear sess b mask) s fun u =>
      bitOf (nGet u.dev (bank_DATA_OUT b.val)) i = (bitOf (nGet s.dev (bank_DATA_OUT b.val)) i && !bitOf mask i)) ∧
    (writeGate s.dev sess (bank_TOGGLE b.val) = none → Completes (.toggle sess b mask) s fun u =>
      bitOf (nGet u.dev (bank_DATA_OUT b.val)) i = (bitOf (nGet s.dev (bank_DATA_OUT b.val)) i != bitOf mask i))

/-- When the controlling session closes, the staging set is empty; the admitted commits that are pending, the live values, the allocations and the placement stay as they were. -/
def Obligations.ControllerCloseKeepsTheScene : Prop :=
  ∀ (sess : Nat) (byDevice : Bool) (x : Session) (s : State), s.dev.noap.sessions.find? (fun y => decide (y.id = sess)) = some x → x.controller = true →
    x.isOpen = true → Completes (.close sess byDevice) s fun u =>
      u.dev.scene.staging = [] ∧ u.dev.scene.commits = s.dev.scene.commits ∧ u.dev.scene.live = s.dev.scene.live ∧ u.dev.scene.alloc = s.dev.scene.alloc ∧
      u.dev.stoker = s.dev.stoker ∧ u.dev.heads = s.dev.heads ∧ u.dev.pipes = s.dev.pipes ∧ u.mem = s.mem

/-- What R372 says of MULQ, DIV, RECIP and SQRT (it says SINCOS too, which is not stated here). -/
def Obligations.LongOperationResults : Prop :=
  (∀ a b : Word, mulqWord a b = ((a.signExtend 64 * b.signExtend 64).extractLsb' 16 32)) ∧
  (∀ a b : Word, b ≠ 0 → ¬ (a = 0x80000000 ∧ b = 0xFFFFFFFF) → (divWord a b).toInt = a.toInt.tdiv b.toInt) ∧
  (∀ a : Word, divWord a 0 = if 0 ≤ a.toInt then 0x7FFFFFFF else 0x80000000) ∧ divWord 0x80000000 0xFFFFFFFF = 0x7FFFFFFF ∧
  (∀ b : Word, b ≠ 0 → (recipWord b).toInt = clampInt (-2147483648) 2147483647 (roundRat (4294967296 / (b.toInt : Rat)))) ∧ recipWord 0 = 0x7FFFFFFF ∧
  (∀ b : Word, 4 * (b.toNat * 65536) < (2 * (sqrtWord b).toNat + 1) ^ 2 ∧ (2 * (sqrtWord b).toNat - 1) ^ 2 ≤ 4 * (b.toNat * 65536))

/-- Every BE32 instruction with every value of its fields has a word, and the word decodes to it; a word that decodes to an instruction is that instruction's word; a word decodes exactly where its opcode is one that R368 defines. -/
def Obligations.Be32WordsComeBack : Prop :=
  (∀ (i : Instr) (t : Fin 384) (v : Word), encodeBe32 i = some (t, v) → decodeBe32 t v = some i) ∧
  (∀ (i : Instr) (t : Fin 384) (v : Word), decodeBe32 t v = some i → encodeBe32 i = some (t, v)) ∧
  (∀ e ∈ be32Table, ∀ (t : Fin 384) (w : Be32Op), encodeBe32 (e.2 t w) = some (t, be32Word (BitVec.ofNat 6 e.1) w)) ∧
  (∀ (t : Fin 384) (v : Word), decodeBe32 t v = none ↔ be32Opcode v ∈ [0x27, 0x2E, 0x2F, 0x3D, 0x3E, 0x3F])

/-- Words written out from R359, R361 and R368: a NOP, an ADD of immediate 1, a JMP/NE, an LD.A through the far window, and an undefined opcode. -/
def Obligations.Be32WordsDecode : Prop :=
  decodeBe32 0 0x00000000#32 = some (.nop 0 { cond := 0, mode := 0, operand := 0 }) ∧
  decodeBe32 5 0x05000001#32 = some (.add 5 { cond := 0, mode := 0, operand := 1 }) ∧
  decodeBe32 383 0x2C000012#32 = some (.jmp 383 { cond := 2, mode := 0, operand := 0x12 }) ∧
  decodeBe32 7 0x007FFFFF#32 = some (.ldA 7 { cond := 0, mode := 7, operand := 0x7FFFF }) ∧
  decodeBe32 0 0x09C00000#32 = none

/-- Where a thread is free to issue and the condition holds, LD.A, LD.X and LD.Y put an immediate into their register at once, every other load puts its value there after the next instruction, and ST.A, ST.X, ST.Y, ST.B and ST.H of the view put their octets last into the thread's store buffer; the PC advances by 4 and every other register stays. -/
def Obligations.BeamLoadsStores : Prop :=
  LdADoes ∧ LdXDoes ∧ LdYDoes ∧ LdBDoes ∧ LdHDoes ∧ StADoes ∧ StXDoes ∧ StYDoes ∧ StBDoes ∧ StHDoes

/-- Where a thread is free to issue and the condition holds, NOP changes nothing but the PC and each move writes its one destination (MV.FA the four flags) with what the spec names; MV.AL needs every long operation of the thread over, MV.AT gives the thread's own number and its head's; every other register stays; where the word in memory has an undefined opcode or the mode is not one of the opcode's, the thread faults with ILLEGAL at its PC. -/
def Obligations.BeamMoves : Prop :=
  NopDoes ∧ NopIllegalDoes ∧ MvXaDoes ∧ MvYaDoes ∧ MvAxDoes ∧ MvAyDoes ∧ MvAlDoes ∧ MvAtDoes ∧ MvAfDoes ∧ MvFaDoes

/-- Where a thread is free to issue, the condition holds and the operand has its value v, each arithmetic, comparison, logic, shift, minimum and maximum instruction leaves exactly the register and the flags N, Z, C and V that the tables give it, the PC advances by 4 and every other register stays. -/
def Obligations.BeamArithmetic : Prop :=
  AddDoes ∧ AddCDoes ∧ SubDoes ∧ SubCDoes ∧ RsbDoes ∧ AndDoes ∧ OrDoes ∧ XorDoes ∧ CmpDoes ∧ CmpXDoes ∧ CmpYDoes ∧
  TstDoes ∧ ShlDoes ∧ ShrDoes ∧ SarDoes ∧ MinDoes ∧ MaxDoes ∧ AddXDoes ∧ AddYDoes

/-- Where a thread is free to issue, the condition holds and the operand has its value v, each long operation adds its result to those under way, to be in L after the operation's latency of 3, 3, 20, 10, 16 or 14 engine cycles; A, X, Y and the flags stay; once it is due, LONG_OP_COMPLETE of a running thread has it in L. -/
def Obligations.BeamLongOperations : Prop :=
  MulDoes ∧ MulqDoes ∧ DivDoes ∧ RecipDoes ∧ SqrtDoes ∧ SincosDoes ∧ LongOpCompleteDoes

/-- Where a thread is free to issue and the condition holds, JMP goes to its target, CALL with fewer than 8 addresses on the return stack pushes PC + 4 and goes to its target, and RET with one on it pops the newest and goes there; A, X, Y, L and the flags stay but for a load that was delayed. -/
def Obligations.BeamControlFlow : Prop :=
  JmpDoes ∧ CallDoes ∧ RetDoes

/-- A store through the far window that meets no lease and no failed read-modify-write has its octets in memory when it has issued and waits for its write response, one to the Hearth store or to a leased buffer is rejected and counted, and one to nothing is dropped and counted; a store through the beam port sends its word to every receiver of its operand; ST.T that is early enough puts the write into the queue of every receiver at its position, and one that is late sends it at once and counts it. -/
def Obligations.BeamFarAndPort : Prop :=
  StAFarDoes ∧ StARejectedDoes ∧ StADroppedDoes ∧ StAPortDoes ∧ StAPortDroppedDoes ∧ StTDoes ∧ StTLateDoes

/-- Where a thread is free to issue and the condition holds: WAITPOS completes where the mirror shows its position and else enters the wait for it; WAITEV claims the lowest source it may or waits; EOI ends a source that the thread has claimed; FENCE of a thread whose stores are answered changes nothing, SYNCF also empties the engine's instruction cache of a housekeeping thread; FARB sets FAR_BASE; CINV and CINVA of a housekeeping thread invalidate one line or the data cache; RING and DMAQ put an entry into the engine's queue of four and say in C whether it fitted. -/
def Obligations.BeamWaitsAndCaches : Prop :=
  WaitposDoes ∧ WaitevDoes ∧ WaitevWaitsDoes ∧ EoiDoes ∧ FenceDoes ∧ SyncfDoes ∧ FarbDoes ∧ CinvDoes ∧ CinvaDoes ∧
  RingDoes ∧ DmaqDoes

/-- Under the conditions given: a due store drains into the thread's view; the data of a load through the far window or the beam port let the load complete, and DRAM data fill the cache line too; a cache fill puts the line into the engine's instruction cache and a waiting instruction issues; WAITPOS ends once the mirror has reached its position; a cluster's fault stops its threads. -/
def Obligations.BeamWaitsEnd : Prop :=
  StoreDrainDoes ∧ StoreDrainTwoDoes ∧ LoadDataArrivalDoes ∧ LoadDataArrivalDramDoes ∧ LoadDataArrivalPortDoes ∧
  InstructionCacheFillDoes ∧ InstructionCacheFillFullDoes ∧ WaitposEndDoes ∧ ClusterFaultDoes ∧ ClusterFaultStepDoes ∧
  ClusterFaultCodeDoes

/-- Under the conditions given: a write response is taken off the thread's stores that wait for one; WAITEV ends with the claim of a source; a posted word crosses to DOORBELL behind its cluster's earlier writes, and a posted list joins its channel or, of a channel that is not the program's, is counted; the timed write whose position the beam has reached takes effect at its island and leaves the queue; a thread that waited for a queue with room puts its ST.T into it. -/
def Obligations.BeamQueuesAndClaims : Prop :=
  FarWriteResponseDoes ∧ FarWriteResponseBellDoes ∧ WaitevClaimDoes ∧ PostQueueDepartDoes ∧ PostQueueDepartForeignDoes ∧
  PostQueueDepartRingsDoes ∧ TimedWriteLandingDoes ∧ TimedWriteLandingPipeDoes ∧ BeamPortQueueFreeDoes ∧
  BeamPortQueueFreeDroppedDoes

/-- Under the conditions given, REGISTER_WRITE puts the write last into the crossings to the island of its register, UNTIMED_WRITE_ARRIVAL takes the oldest write from its source out and, for the underrun colour of a head, the register holds the write's low 24 bits, and GATED_ISLAND_ACCESS_RESUME leaves no clock gate and no write waiting at the island. -/
def Obligations.RegisterCrossings : Prop :=
  RegisterWriteDoes ∧ RegisterWriteUnmappedDoes ∧ UntimedWriteArrivalDoes ∧ UntimedWriteArrivalOffDoes ∧
  GatedIslandAccessResumeDoes

/-- Under the conditions given, DOORBELL and RING raise a doorbell source with its count saturating at 255 and the source pending; HOST_CLAIM makes the source active with its count 0 and queues its claim for the controlling session; a damper hold ends; routing, HOLDOFF_US and HOST_STATE take the value written and the answer is OK. -/
def Obligations.EventsAndDoorbells : Prop :=
  DoorbellDoes ∧ DoorbellRejectedDoes ∧ RingActionDoes ∧ RingActionTakenDoes ∧ HostClaimDoes ∧ DamperHoldExpiryDoes ∧
  EventRoutingWriteDoes ∧ HoldoffWriteDoes ∧ HostStateWriteDoes

/-- Under the conditions given: an edge on a ball that nothing drives is read in DATA_IN; SET, CLEAR and TOGGLE leave DATA_OUT with their bits set, cleared or inverted and answer it; a route or matcher member takes the value written; a matcher's result reaches OUTPUT when its debounce ends; an HVS level follows its comparator at once without a filter and when the filter ends with one. -/
def Obligations.PinsAndMatchers : Prop :=
  GpioEdgeDoes ∧ MatcherDebounceExpiryDoes ∧ SetDoes ∧ GpioClearDoes ∧ ToggleDoes ∧ RouteWriteDoes ∧ MatcherWriteDoes ∧
  HvsThresholdCrossingDoes ∧ HvsThresholdCrossingFilteredDoes ∧ HvsThresholdCrossingSameDoes ∧ HvsFilterExpiryDoes

/-- Under the conditions given: a timeout puts a signal-map entry into loss; a frame on a 10BASE-T1S port or a CAN FD controller is counted; a CAN FD controller's error counters, bus-off, recovery, restart and integration move its STATE as the spec says; beacons set and lose PLCA_STATUS. -/
def Obligations.SignalsAndFieldbuses : Prop :=
  SignalTimeoutDoes ∧ T1sFrameReceivedDoes ∧ T1sFrameReceivedErrorDoes ∧ CanBusOffDoes ∧ CanBusOffRecoveryDoes ∧
  RestartDoes ∧ CanIntegratedDoes ∧ CanProtocolErrorDoes ∧ CanProtocolErrorListeningDoes ∧ PlcaBeaconSendDoes ∧
  PlcaBeaconReceivedDoes ∧ PlcaBeaconLossDoes ∧ CanFdFrameReceivedDoes ∧ CanFdFrameReceivedRemoteDoes

/-- Under the conditions given: SET_TIME leaves the timebase at the time written; a Sync and a PPS edge give OFFSET_NS their sample; a timeout leaves LOCKED for HOLDOVER; PPS_OUT rises and falls; a channel reloads at PERIOD, fires a comparator, takes a capture, and takes what is written to its control and PERIOD registers; START_MASK arms and GROUP_START starts every armed channel at its PHASE. -/
def Obligations.TimebaseAndTimers : Prop :=
  SetTimeDoes ∧ GptpSyncDoes ∧ PpsEdgeDoes ∧ PpsEdgeRejectedDoes ∧ SyncTimeoutDoes ∧ PpsOutRiseDoes ∧ PpsOutFallDoes ∧
  TimerPeriodDoes ∧ TimerCompareDoes ∧ TimerCaptureDoes ∧ CaptureReadDoes ∧ TimerEnableWriteDoes ∧
  TimerEnableWriteOffDoes ∧ TimerEnableWriteWaitsDoes ∧ PeriodWriteDoes ∧ StartMaskWriteDoes ∧ StartMaskWriteLateDoes ∧
  GroupStartDoes

/-- Under the conditions given: TOKEN of a well-formed token while TIME_VALID is 1 opens the port where root, revocation, signatures, serial number and window hold and else answers AUTH; END and the expiry of the window end it; a record leaves; RUN, CLEAR, ARM and TRIGGER take effect; SNAP_IN triggers an armed snapshot, and SNAP_OUT ends. -/
def Obligations.ObservationBlock : Prop :=
  TokenDoes ∧ EndTokenDoes ∧ TokenExpiryDoes ∧ ChimneyRecordSendDoes ∧ ChimneyRecordSendLostDoes ∧ CountersRunDoes ∧
  CountersStopDoes ∧ ClearDoes ∧ ArmDoes ∧ TriggerDoes ∧ TriggerMissedDoes ∧ SnapInDoes ∧ SnapOutEndDoes

/-- Under the conditions given: slot and signal-map members take the value written, the latter putting its entry into loss; HO_REQUEST sets and clears its cause; FAULT_CLEAR clears the faults of the heads whose causes are gone; a mixer difference latches MIXER; the loss of the keep-alive asserts the fault pins; a blink generator follows the timebase; a scrub counts a corrected word and notes an uncorrectable one. -/
def Obligations.HearthCommands : Prop :=
  HearthSlotWriteDoes ∧ SignalMapWriteDoes ∧ HoRequestWriteDoes ∧ OrbitEnableWriteDoes ∧ FaultClearDoes ∧
  MixerMismatchDoes ∧ KeepaliveLossDoes ∧ BlinkGeneratorEdgeDoes ∧ HearthScrubDoes ∧ HearthScrubBadDoes

/-- Under the conditions given: a datagram whose TAG holds makes its request wait and any other is counted; HELLO adds a session in set-up; KEY opens it where the signature verifies and else closes it; CLOSE, the idle time-out and the lifetime end it; SUBSCRIBE adds the subscription; periodic and on-change notifications reach the session's queue; EVENT carries the oldest notifications, is repeated until it is acknowledged or lost, and EVENT_ACK ends it; ENABLE 0 closes every session. -/
def Obligations.NoapSessions : Prop :=
  NoapDatagramReceivedDoes ∧ NoapDatagramReceivedResponseDoes ∧ NoapDatagramReceivedFragmentDoes ∧ HelloDoes ∧ KeyDoes ∧
  CloseDoes ∧ SessionIdleTimeoutDoes ∧ SessionLifetimeExpiryDoes ∧ NoapEnableWriteDoes ∧ SubscribeDoes ∧ EventSendDoes ∧
  EventRepeatExpiryDoes ∧ EventRepeatExpiryLostDoes ∧ EventAckDoes ∧ PeriodicSubscriptionExpiryDoes ∧
  OnChangeWindowExpiryDoes ∧ OnChangeWindowExpiryReadDoes

/-- Under the conditions given: READ answers each item's status, type and value; WRITE executes its items in order and answers each, and a written IDLE_TIMEOUT is in force; BULK to a surface puts its octets at the surface's address; a NOAP-lite request whose TAG and FRESHNESS hold is answered and any other is counted in TAG_FAIL; a response that has left is no longer pending. -/
def Obligations.NoapRequests : Prop :=
  ReadDoes ∧ ReadOneDoes ∧ WriteDoes ∧ WriteMemberDoes ∧ BulkDoes ∧ NoapLiteReadDoes ∧ NoapLiteReadWaitsDoes ∧
  NoapLiteWriteDoes ∧ NoapLiteResponseSentDoes

/-- Under the conditions given: ALLOC allocates an object with every member at its default; FREE releases it, or marks it FREEING while a head leases it; REALIZE gives the surface its size, place and location; COMMIT and COMMIT_DRY_RUN put the commit under evaluation or refuse it with STATE; COMMIT_DECISION ends the evaluation, a dry run leaving every pending commit as it was, an admitted commit being pending on its heads, and a refusal giving its reason; DISCARD empties the staging set; the scene lease expires. -/
def Obligations.SceneCommands : Prop :=
  AllocDoes ∧ FreeDoes ∧ FreeDeferredDoes ∧ RealizeDoes ∧ DiscardDoes ∧ SceneLeaseExpiryDoes ∧ CommitDoes ∧
  CommitRefusedDoes ∧ CommitDryRunDoes ∧ CommitDecisionDoes ∧ CommitDecisionDryDoes ∧ CommitDecisionRefusedDoes

/-- Under the conditions given: a frame boundary counts the frame and, with one admitted commit due, records it as applied on the head; a starting head's first boundary begins its dark frames; a line match and a frame-done raise their sources; a segment that has not been composed when the mixer reaches it counts an underrun line; a pipe composes its next line, reads its race-mode lines and ends its resident load. -/
def Obligations.HeadsAndLines : Prop :=
  HeadFrameBoundaryDoes ∧ HeadFrameBoundaryApplyDoes ∧ HeadFirstBoundaryDoes ∧ LineMatchDoes ∧ FrameDoneDoes ∧
  FrameDoneStoppedDoes ∧ SegmentUnderrunDoes ∧ PipeLineComposeDoes ∧ RaceLineReadDoes ∧ RaceLineReadLateDoes ∧
  ResidentLoadCompleteDoes

/-- Under the conditions given: a capacity step records its condition and places every running head anew, or waits for the decision under way; its undo takes back, last first, every action without which no term fails; a copied surface switches to its bank and holds the copied octets; a completed read frees its tag and its errors are counted; a scrub read advances the pass; a channel retires with its cause; UNRETIRE waits for the next reset; training records what it took; initialisation clears memory. -/
def Obligations.DramAndPlacement : Prop :=
  CapacityStepDoes ∧ CapacityStepUndoDoes ∧ MigrationCopyCompleteDoes ∧ MigrationCopyCompletePoisonedDoes ∧
  DramReadCompleteDoes ∧ DramReadCompleteBadDoes ∧ ScrubReadDoes ∧ ScrubReadWritesBackDoes ∧ ChannelRetireDoes ∧
  RetireDoes ∧ UnretireDoes ∧ DramTrainingCompleteDoes ∧ DramTrainingCompleteFailedDoes ∧ DramInitCompleteDoes

/-- Under the conditions given: a direction starts or ends a lane; training steps through its states to READY or FAILED with a result; a lost lane retrains; a packet end sends what the ranks choose; ACK, NAK and the time-out act on the packets not acknowledged; STATUS, SIGRET, LINESTAT and DATA are taken. -/
def Obligations.TransmitLanes : Prop :=
  LaneDirectionWriteDoes ∧ LaneTrainingStartDoes ∧ BackChannelLockDoes ∧ PresetStepExpiryDoes ∧
  PresetStepExpiryChosenDoes ∧ TrainingDeadlineMissedDoes ∧ TrainingRetryExpiryDoes ∧ LaneReadyDoes ∧
  LaneReadyReceiveDoes ∧ CommaLockLossDoes ∧ StatusTimeoutDoes ∧ PacketEndTrainingDoes ∧ PacketEndLineDoes ∧
  PacketEndIdleDoes ∧ QueueOverflowDoes ∧ AckDoes ∧ NakDoes ∧ RetransmitTimeoutDoes ∧ StatusDoes ∧ SigretDoes ∧
  LinestatDoes ∧ DataDoes

/-- Under the conditions given: block lock comes and goes with its errors counted and its STATUS sent; a MODE packet sets the stream of the lane's inputs; a protected packet is answered with ACK in order and with NAK out of order; a LINE packet's octets stand in the buffer being written; a power output ramps, cuts off, cools down and follows POC_ENABLE. -/
def Obligations.ReceiveLanesAndPower : Prop :=
  BlockLockDoes ∧ BlockLockLossDoes ∧ StatusSendDoes ∧ RxModePacketDoes ∧ RxProtectedPacketDoes ∧
  RxProtectedPacketBadDoes ∧ RxProtectedPacketUnknownDoes ∧ RxLinePacketDoes ∧ RxLinePacketKeptDoes ∧
  PocRampCompleteDoes ∧ PocCutoffDoes ∧ PocCooldownExpiryDoes ∧ PocEnableWriteDoes

/-- Under the conditions given: an ID_RESPONSE that passes its checks starts the reading of the records and one that does not fails the panel with the reason; a READ reply is kept and the next follows; a COMMITTED ends a record's write or counts a failure; a snapshot and a retry begin a write-back; a cell row's sums become dose; gains, orbit step, summaries and operating seconds are recomputed; ACK_NEW, ROW_READ and GAIN_READ answer. -/
def Obligations.PanelsAndWear : Prop :=
  IdResponseDoes ∧ IdResponseTimeoutDoes ∧ ReadReplyDoes ∧ ReadReplyLastDoes ∧ ReadReplyAgainDoes ∧ CommittedDoes ∧
  CommittedTimeoutDoes ∧ WriteRetryExpiryDoes ∧ DoseSnapshotDoes ∧ CellRowDoseDoes ∧ GainRecomputeDoes ∧ OrbitStepDoes ∧
  SummaryWriteDoes ∧ OperatingSecondDoes ∧ AckNewDoes ∧ RowReadDoes ∧ GainReadDoes

/-- Under the conditions given: POST queues a list and ABORT empties the queue; a list that passes its checks runs and one that does not is reported with its status; a completed list's octets stand at their destinations and its members say so; KICK and ENABLE read PRODUCE; FILL and COPY start with the result of their checks, CLIP replaces the clip rectangles; a completed command advances CONSUME and counts. -/
def Obligations.MoversAndBlitter : Prop :=
  PostDoes ∧ AbortDoes ∧ DmaListStartDoes ∧ DmaListStartRefusedDoes ∧ DmaListCompleteDoes ∧ DmaListCompleteDataDoes ∧
  KickDoes ∧ RingEnableWriteDoes ∧ FillDoes ∧ FillRefusedDoes ∧ CopyDoes ∧ CopyRefusedDoes ∧ ClipDoes ∧
  BlitCommandCompleteDoes ∧ BlitCommandCompleteDataDoes

/-- Under the conditions given: KEY records its event and the next engine sample takes it; a voice's duration ends in a key-off; wave tables, GAINS and FILTER take the octets written; a sequencer starts, stops and steps; a TDM frame sends the port's output slots and keeps its input; an AUDIO packet's samples are queued or, too late, reported. -/
def Obligations.AudioBlock : Prop :=
  EngineSampleDoes ∧ KeyOnDoes ∧ KeyOffDoes ∧ VoiceDurationExpiryDoes ∧ WaveTableWriteDoes ∧ GainsWriteDoes ∧
  FilterWriteDoes ∧ StartDoes ∧ StopDoes ∧ SequencerTickDoes ∧ SequencerTickKeyDoes ∧ TdmFrameDoes ∧ RxAudioPacketDoes ∧
  RxAudioPacketLateDoes

/-- Under the conditions given: a link that comes up takes its speed and starts duplicate address detection, one that falls clears its speed and is counted; a received frame is counted as the rule for it says; ARP, echo and neighbour solicitation are answered with one frame, which waits in the best-effort queue; a matching AAF PDU counts at its listener; a talker's PDU waits in the queue of its class with its sequence number; REDUNDANCY closes the sessions and leaves both uplinks to restart; a peer delay exchange gives LINK_DELAY_NS; a master port sends Sync. -/
def Obligations.NetworkPorts : Prop :=
  UplinkLinkUpDoes ∧ UplinkLinkDownDoes ∧ DuplicateAddressDetectionDoneDoes ∧ UplinkFrameReceivedDoes ∧
  UplinkFrameReceivedOversizeDoes ∧ UplinkFrameReceivedDroppedDoes ∧ UplinkFrameReceivedOtherDoes ∧ ArpRequestDoes ∧
  IcmpEchoDoes ∧ IcmpEchoSixDoes ∧ NeighbourSolicitationDoes ∧ AafPduReceivedDoes ∧ AafPduReceivedMismatchDoes ∧
  TalkerPduSendDoes ∧ RedundancyWriteDoes ∧ PdelayExchangeDoes ∧ GptpSyncSendDoes

/-- Under the conditions given: an RTC tick advances the timebase by 30,517 + 37/64 ns and wakes the device where a copy asserts; VIN that becomes valid starts the restore table, VIN that fails, an over-voltage and a long CRANK end operation and keep their cause; CRANK is entered and left; the restore table goes on step by step to operation; SLEEP starts the protocol, blocks stop in order or turn it back, and the last one's delay removes power; the rollback restarts block by block; WAKE_N and RESET_N wake and reset. -/
def Obligations.SupplyAndSleep : Prop :=
  RtcTickDoes ∧ RtcTickFrostDoes ∧ RtcTickWakesDoes ∧ VinValidDoes ∧ VinValidLostDoes ∧ VinAbsentDoes ∧ VinLossDoes ∧
  OvervoltageDoes ∧ OvervoltageClearDoes ∧ CrankEntryDoes ∧ CrankExitDoes ∧ CrankTimeoutDoes ∧ RestoreStepCompleteDoes ∧
  RestoreStepCompleteRunsDoes ∧ RestoreStepCompleteWarmDoes ∧ SleepWinterDoes ∧ SleepFrostDoes ∧ WearFlushEndDoes ∧
  BlockStopAnswerDoes ∧ BlockStopAnswerRefusesDoes ∧ BlockStopAnswerTimeoutDoes ∧ StopDelayExpiryDoes ∧
  StopDelayExpiryLastDoes ∧ SleepRollbackStepDoes ∧ SleepRollbackStepLastDoes ∧ WakeNDoes ∧ WakeNBackDoes ∧ ResetNDoes ∧
  ResetNReleaseDoes

/-- Under the conditions given: a sample that meets a higher step's condition goes up one step, one that has been cool for 5 s goes down one, another holds; a trip is Frost with the fault pins safe; the average input power moves the power limit; a boost request starts an episode or is refused with its reason; an episode ends on request, at its end, below 10 V, and for good at the last fuse. -/
def Obligations.HeatPowerAndBoost : Prop :=
  ThermalSampleDoes ∧ ThermalSampleDownDoes ∧ ThermalSampleHoldsDoes ∧ ThermalTripDoes ∧ PowerAverageDoes ∧
  BoostRequestDoes ∧ BoostRequestRefusedDoes ∧ BoostEndRequestDoes ∧ BoostEpisodeEndDoes ∧ BoostLifetimeFuseDoes ∧
  BoostLifetimeFuseBurnsDoes ∧ BoostVinLowDoes

/-- Under the conditions given: Kindling compares the enrolled key and tries the images of types 1 and 3; an image that passes its checks becomes ACTIVE and one that does not gives way to the other slot; the package, the boot scene and START_DONE follow; a Firekeeper restart closes the sessions; LOAD, ERASE, VERIFY, ACTIVATE, ENROL, REVOKE, REVOKE_SLOT, ADVANCE and ATTEST do what their rules say. -/
def Obligations.StartupAndTrust : Prop :=
  KindlingStartDoes ∧ ImageVerifyCompleteDoes ∧ ImageVerifyCompleteLastDoes ∧ ImageVerifyCompleteReleasesDoes ∧
  FirekeeperImageRetryDoes ∧ HearthPackageLoadedDoes ∧ BootSceneApplyDoes ∧ StartDoneDeadlineDoes ∧
  FirekeeperRestartDoes ∧ LoadDoes ∧ EraseDoes ∧ VerifyDoes ∧ ActivateDoes ∧ EnrolDoes ∧ RevokeDoes ∧ RevokeSlotDoes ∧
  AdvanceDoes ∧ AttestDoes

/-- For each command named: when it answers a next state, memory and every part of the device that is not listed are as before, and so is every member whose class is not listed and whose class and number are not those of a member listed; a command marked OnlyChangesScene says so of the states in which every allocated object is of a scene class. -/
def Obligations.FrameBeamArithmetic : Prop :=
  FrameNop ∧ FrameStA ∧ FrameLongOpComplete

/-- For each command named: when it answers a next state, memory and every part of the device that is not listed are as before, and so is every member whose class is not listed and whose class and number are not those of a member listed; a command marked OnlyChangesScene says so of the states in which every allocated object is of a scene class. -/
def Obligations.FrameBeamMemory : Prop :=
  FrameStT ∧ FrameWaitpos ∧ FrameWaitposEnd ∧ FrameWaitevClaim ∧ FrameEoi ∧ FramePostQueueDepart ∧ FrameStoreDrain ∧
  FrameTimedWriteLanding ∧ FrameBeamPortQueueFree ∧ FrameClusterFault ∧ FrameInstructionCacheFill

/-- For each command named: when it answers a next state, memory and every part of the device that is not listed are as before, and so is every member whose class is not listed and whose class and number are not those of a member listed; a command marked OnlyChangesScene says so of the states in which every allocated object is of a scene class. -/
def Obligations.FrameFabricEventsPins : Prop :=
  FrameRegisterWrite ∧ FrameUntimedWriteArrival ∧ FrameGatedIslandAccessResume ∧ FrameGpioEdge ∧
  FrameMatcherDebounceExpiry ∧ FrameDoorbell ∧ FrameRingAction ∧ FrameHostClaim ∧ FrameDamperHoldExpiry ∧
  FrameEventRoutingWrite ∧ FrameHoldoffWrite ∧ FrameHostStateWrite ∧ FrameSet ∧ FrameRouteWrite ∧ FrameMatcherWrite ∧
  FrameHvsThresholdCrossing ∧ FrameHvsFilterExpiry

/-- For each command named: when it answers a next state, memory and every part of the device that is not listed are as before, and so is every member whose class is not listed and whose class and number are not those of a member listed; a command marked OnlyChangesScene says so of the states in which every allocated object is of a scene class. -/
def Obligations.FrameSignalsTimeObservation : Prop :=
  FrameCanFdFrameReceived ∧ FrameT1sFrameReceived ∧ FrameSignalTimeout ∧ FrameGptpSync ∧ FrameSetTime ∧ FrameCanBusOff ∧
  FrameCanBusOffRecovery ∧ FrameRestart ∧ FrameTimerPeriod ∧ FrameTimerCompare ∧ FrameTimerCapture ∧ FrameCaptureRead ∧
  FrameTimerEnableWrite ∧ FrameStartMaskWrite ∧ FrameGroupStart ∧ FrameToken ∧ FrameEndToken ∧ FrameCountersRun ∧
  FrameClear ∧ FrameArm ∧ FrameTrigger ∧ FrameCanIntegrated ∧ FrameCanProtocolError ∧ FramePlcaBeaconReceived ∧
  FramePlcaBeaconSend ∧ FramePlcaBeaconLoss ∧ FramePpsEdge ∧ FrameSyncTimeout ∧ FramePpsOutRise ∧ FrameTokenExpiry ∧
  FrameChimneyRecordSend ∧ FrameSnapIn ∧ FrameSnapOutEnd

/-- For each command named: when it answers a next state, memory and every part of the device that is not listed are as before, and so is every member whose class is not listed and whose class and number are not those of a member listed; a command marked OnlyChangesScene says so of the states in which every allocated object is of a scene class. -/
def Obligations.FrameHearthSessions : Prop :=
  FrameNoapDatagramReceived ∧ FrameHello ∧ FrameKey ∧ FrameClose ∧ FrameRead ∧ FrameWrite ∧ FrameCommit ∧ FrameSubscribe ∧
  FrameBulk ∧ FrameEventAck ∧ FrameEventSend ∧ FrameEventRepeatExpiry ∧ FramePeriodicSubscriptionExpiry ∧
  FrameSessionIdleTimeout ∧ FrameNoapEnableWrite ∧ FrameNoapLiteRead ∧ FrameAlloc ∧ FrameFree ∧ FrameRealize ∧
  FrameDiscard ∧ FrameHearthScrub ∧ FrameHearthSlotWrite ∧ FrameSignalMapWrite ∧ FrameHoRequestWrite ∧
  FrameOrbitEnableWrite ∧ FrameFaultClear ∧ FrameMixerMismatch ∧ FrameBlinkGeneratorEdge ∧ FrameOnChangeWindowExpiry ∧
  FrameSceneLeaseExpiry ∧ FrameKeepaliveLoss ∧ FrameCommitDecision ∧ FrameNoapLiteResponseSent

/-- For each command named: when it answers a next state, memory and every part of the device that is not listed are as before, and so is every member whose class is not listed and whose class and number are not those of a member listed; a command marked OnlyChangesScene says so of the states in which every allocated object is of a scene class. -/
def Obligations.FrameHeadsDram : Prop :=
  FrameHeadFrameBoundary ∧ FrameHeadFirstBoundary ∧ FrameLineMatch ∧ FrameFrameDone ∧ FrameSegmentUnderrun ∧
  FramePipeLineCompose ∧ FrameRaceLineRead ∧ FrameResidentLoadComplete ∧ FrameDramReadComplete ∧ FrameCapacityStep ∧
  FrameScrubRead ∧ FrameChannelRetire ∧ FrameRetire ∧ FrameUnretire ∧ FrameDramTrainingComplete ∧ FrameCapacityStepUndo ∧
  FrameMigrationCopyComplete ∧ FrameDramInitComplete

/-- For each command named: when it answers a next state, memory and every part of the device that is not listed are as before, and so is every member whose class is not listed and whose class and number are not those of a member listed; a command marked OnlyChangesScene says so of the states in which every allocated object is of a scene class. -/
def Obligations.FrameLanes : Prop :=
  FrameLaneDirectionWrite ∧ FrameLaneTrainingStart ∧ FrameBackChannelLock ∧ FrameTrainingDeadlineMissed ∧ FrameLaneReady ∧
  FrameCommaLockLoss ∧ FramePacketEnd ∧ FrameQueueOverflow ∧ FrameAck ∧ FrameNak ∧ FrameStatus ∧ FrameSigret ∧
  FrameLinestat ∧ FrameData ∧ FrameRxModePacket ∧ FrameRxLinePacket ∧ FramePocRampComplete ∧ FramePocCutoff ∧
  FrameBlockLock ∧ FrameBlockLockLoss ∧ FrameStatusSend ∧ FramePocCooldownExpiry

/-- For each command named: when it answers a next state, memory and every part of the device that is not listed are as before, and so is every member whose class is not listed and whose class and number are not those of a member listed; a command marked OnlyChangesScene says so of the states in which every allocated object is of a scene class. -/
def Obligations.FramePanelsMovers : Prop :=
  FrameIdResponse ∧ FrameIdResponseTimeout ∧ FrameReadReply ∧ FrameCommitted ∧ FrameCommittedTimeout ∧
  FrameWriteRetryExpiry ∧ FrameDoseSnapshot ∧ FrameGainRecompute ∧ FrameOrbitStep ∧ FrameOperatingSecond ∧ FrameAckNew ∧
  FrameRowRead ∧ FrameGainRead ∧ FramePost ∧ FrameAbort ∧ FrameDmaListStart ∧ FrameDmaListComplete ∧ FrameKick ∧
  FrameRingEnableWrite ∧ FrameFill ∧ FrameBlitCommandComplete ∧ FrameSummaryWrite

/-- For each command named: when it answers a next state, memory and every part of the device that is not listed are as before, and so is every member whose class is not listed and whose class and number are not those of a member listed; a command marked OnlyChangesScene says so of the states in which every allocated object is of a scene class. -/
def Obligations.FrameAudioNetwork : Prop :=
  FrameRxAudioPacket ∧ FrameKeyOn ∧ FrameVoiceDurationExpiry ∧ FrameWaveTableWrite ∧ FrameGainsWrite ∧ FrameFilterWrite ∧
  FrameStart ∧ FrameSequencerTick ∧ FrameTdmFrame ∧ FrameAafPduReceived ∧ FrameTalkerPduSend ∧ FrameUplinkLinkUp ∧
  FrameUplinkLinkDown ∧ FrameUplinkFrameReceived ∧ FrameRedundancyWrite ∧ FramePdelayExchange ∧ FrameGptpSyncSend ∧
  FrameDuplicateAddressDetectionDone ∧ FrameEngineSample

/-- For each command named: when it answers a next state, memory and every part of the device that is not listed are as before, and so is every member whose class is not listed and whose class and number are not those of a member listed; a command marked OnlyChangesScene says so of the states in which every allocated object is of a scene class. -/
def Obligations.FramePower : Prop :=
  FrameSleepWinter ∧ FrameBlockStopAnswer ∧ FrameThermalSample ∧ FramePowerAverage ∧ FrameBoostRequest ∧
  FrameBoostEndRequest ∧ FrameCrankEntry ∧ FrameCrankExit ∧ FrameOvervoltageClear ∧ FrameRestoreStepComplete ∧
  FrameWearFlushEnd ∧ FrameStopDelayExpiry ∧ FrameSleepRollbackStep ∧ FrameResetNRelease ∧ FrameThermalTrip ∧
  FrameBoostEpisodeEnd ∧ FrameBoostVinLow

/-- For each command named: when it answers a next state, memory and every part of the device that is not listed are as before, and so is every member whose class is not listed and whose class and number are not those of a member listed; a command marked OnlyChangesScene says so of the states in which every allocated object is of a scene class. -/
def Obligations.FrameTrust : Prop :=
  FrameLoad ∧ FrameImageVerifyComplete ∧ FrameFirekeeperRestart ∧ FrameErase ∧ FrameVerify ∧ FrameActivate ∧ FrameEnrol ∧
  FrameRevoke ∧ FrameRevokeSlot ∧ FrameAdvance ∧ FrameAttest ∧ FrameHearthPackageLoaded ∧ FrameKindlingStart ∧
  FrameFirekeeperImageRetry ∧ FrameStartDoneDeadline

/-- A far-window store changes no octet outside its own aligned address and width, and a store of another mode changes none; BULK to a surface changes none outside its range, a write of a ring's ENABLE none outside CONSUME in the ring header, a completed list none outside its destination octets and its record, a completed blitter command none outside its destination octets, its STATUS and DETAIL and the header's LAST_SEQ and CONSUME, a migration none outside its destination, the Hearth package none outside the store. -/
def Obligations.StoresStayInside : Prop :=
  (∀ (k : Fin 5) (t : Fin 384) (w : Be32Op) (s u : State), exec ((storeForm k).1 t w) s = .next u →
    if w.mode = 7 then ∀ a, a < storeAddr k s t.val w ∨ storeAddr k s t.val w + (storeForm k).2.2.1 ≤ a → memRead u.mem a = memRead s.mem a
    else u.mem = s.mem) ∧
  (∀ (sess seq off : Nat) (r : Ref) (data : List Byte) (s u : State), refClass r = 0x13 → refMember r = 0 → exec (.bulk sess seq r off data) s = .next u →
    ∀ a, a < nGet s.dev (surf_ADDRESS (refInst r)) + off ∨ nGet s.dev (surf_ADDRESS (refInst r)) + off + data.length ≤ a → memRead u.mem a = memRead s.mem a) ∧
  (∀ (sess : Nat) (r : Fin 4) (v : Nat) (s u : State), exec (.ringEnableWrite sess r v) s = .next u →
    ∀ a, a < nGet s.dev (ring_RING_ADDRESS r.val) + 12 ∨ nGet s.dev (ring_RING_ADDRESS r.val) + 16 ≤ a → memRead u.mem a = memRead s.mem a) ∧
  (∀ (n : Fin 32) (j : DmaJob) (s u : State), (chanOf s.dev n.val).job = some j → exec (.dmaListComplete n) s = .next u →
    ∀ a, a ∉ addrsOf j.dst → (j.hasRecord = true → a < j.record ∨ j.record + 16 ≤ a) → memRead u.mem a = memRead s.mem a) ∧
  (∀ (r : Fin 4) (j : BlitJob) (s u : State), (ringOf s.dev r.val).job = some j → SceneAlloc s.dev → exec (.blitCommandComplete r) s = .next u →
    ∀ a, a ∉ (blitMoves s.dev s.mem j).map (·.dst) → a ≠ j.slot + 2 →
      a ≠ j.slot + 45 →
      (a < j.header + 8 ∨ j.header + 16 ≤ a) → memRead u.mem a = memRead s.mem a) ∧
  (∀ (m : Migration) (s u : State), s.dev.stoker.migration = some m → exec .migrationCopyComplete s = .next u →
    ∀ a, a < m.dest ∨ m.dest + m.size ≤ a → memRead u.mem a = memRead s.mem a) ∧
  (∀ (s u : State), exec .hearthPackageLoaded s = .next u → ∀ a, a < storeBase ∨ storeBase + 2097152 ≤ a → memRead u.mem a = memRead s.mem a)
end

