-- ==== Sys2Proof/Laws/Link.lean ====
section
/-!
SUPPORT. Laws of the link's scrambler (R391).
-/
namespace Sys2Proof.Machine

/-- A bit scrambled twice against the same bits of the wire is the bit again. -/
@[simp] theorem scrambleBit_twice (past : Nat) (b : Bool) : scrambleBit past (scrambleBit past b) = b := by
  unfold scrambleBit
  cases b <;> cases past.testBit 38 <;> cases past.testBit 57 <;> rfl

/-- A receiver that has seen the same 58 bits of the wire as the transmitter recovers every payload bit. -/
theorem descramble_scramble (l : List Bool) (past : Nat) : descrambleBits past (scrambleBits past l).2 = l := by
  induction l generalizing past with
  | nil => rfl
  | cons b l ih => simp [scrambleBits, descrambleBits, ih]

/-- Scrambling keeps the number of bits. -/
@[simp] theorem scrambleBits_length (l : List Bool) (past : Nat) : (scrambleBits past l).2.length = l.length := by
  induction l generalizing past with
  | nil => rfl
  | cons b l ih => simp [scrambleBits, ih]

end Sys2Proof.Machine
end

