-- ==== Sys2Proof/Laws/Map.lean ====
section
/-!
SUPPORT. Laws of sparse maps: reading after putting, setting and erasing, and the canonical form under each.
-/
namespace Sys2Proof.Machine

variable {α : Type}

@[simp] theorem mapFind_mapErase_same (m : SMap α) (i : Nat) : mapFind (mapErase m i) i = none := by
  induction m with
  | nil => rfl
  | cons e m ih =>
    obtain ⟨k, v⟩ := e
    by_cases h : i = k <;> simp [mapErase, mapFind, h]
    · simpa [h] using ih
    · exact ih

theorem mapFind_mapErase_other (m : SMap α) {i j : Nat} (h : j ≠ i) : mapFind (mapErase m i) j = mapFind m j := by
  induction m with
  | nil => rfl
  | cons e m ih =>
    obtain ⟨k, v⟩ := e
    by_cases hk : i = k
    · subst hk; simp [mapErase, mapFind, h, ih]
    · simp [mapErase, mapFind, hk, ih]

@[simp] theorem mapFind_mapPut_same (m : SMap α) (i : Nat) (a : α) : mapFind (mapPut m i a) i = some a := by
  induction m with
  | nil => simp [mapPut, mapFind]
  | cons e m ih =>
    obtain ⟨k, v⟩ := e
    unfold mapPut
    split
    · simp [mapFind]
    · split
      · next h => simp [mapFind, h]
      · next h => simp [mapFind, h, ih]

theorem mapFind_mapPut_other (m : SMap α) {i j : Nat} (a : α) (h : j ≠ i) : mapFind (mapPut m i a) j = mapFind m j := by
  induction m with
  | nil => simp [mapPut, mapFind, h]
  | cons e m ih =>
    obtain ⟨k, v⟩ := e
    unfold mapPut
    split
    · simp [mapFind, h]
    · split
      · next hk => subst hk; simp [mapFind, h]
      · simp [mapFind, ih]

@[simp] theorem mapGet_mapPut_same (m : SMap α) (i : Nat) (a d : α) : mapGet (mapPut m i a) i d = a := by simp [mapGet]

theorem mapGet_mapPut_other (m : SMap α) {i j : Nat} (a d : α) (h : j ≠ i) : mapGet (mapPut m i a) j d = mapGet m j d := by
  simp [mapGet, mapFind_mapPut_other m a h]

theorem mapGet_mapErase_other (m : SMap α) {i j : Nat} (d : α) (h : j ≠ i) : mapGet (mapErase m i) j d = mapGet m j d := by
  simp [mapGet, mapFind_mapErase_other m h]

/-- A key reads as it was set. -/
@[simp] theorem mapGet_mapSet_same [DecidableEq α] (m : SMap α) (i : Nat) (a d : α) : mapGet (mapSet m i a d) i d = a := by
  unfold mapSet
  split
  · next h => simp [mapGet, h]
  · simp

/-- Setting a key leaves every other key. -/
theorem mapGet_mapSet_other [DecidableEq α] (m : SMap α) {i j : Nat} (a d d' : α) (h : j ≠ i) :
    mapGet (mapSet m i a d) j d' = mapGet m j d' := by
  unfold mapSet
  split
  · exact mapGet_mapErase_other m d' h
  · exact mapGet_mapPut_other m a d' h

theorem mapRisingFrom_mono (m : SMap α) {a b : Nat} (h : b ≤ a) : mapRisingFrom a m = true → mapRisingFrom b m = true := by
  cases m with
  | nil => intro _; rfl
  | cons e m =>
    simp only [mapRisingFrom, Bool.and_eq_true, decide_eq_true_eq]
    rintro ⟨h1, h2⟩
    exact ⟨by omega, h2⟩

theorem mapRisingFrom_mapErase (m : SMap α) (i b : Nat) (h : mapRisingFrom b m = true) : mapRisingFrom b (mapErase m i) = true := by
  induction m generalizing b with
  | nil => rfl
  | cons e m ih =>
    obtain ⟨k, v⟩ := e
    simp only [mapRisingFrom, Bool.and_eq_true, decide_eq_true_eq] at h
    unfold mapErase
    split
    · exact ih b (mapRisingFrom_mono m (by omega) h.2)
    · simpa [mapRisingFrom, h.1] using ih (k + 1) h.2

theorem mapRisingFrom_mapPut (m : SMap α) (i b : Nat) (a : α) (hb : b ≤ i) (h : mapRisingFrom b m = true) :
    mapRisingFrom b (mapPut m i a) = true := by
  induction m generalizing b with
  | nil => simpa [mapPut, mapRisingFrom] using hb
  | cons e m ih =>
    obtain ⟨k, v⟩ := e
    simp only [mapRisingFrom, Bool.and_eq_true, decide_eq_true_eq] at h
    unfold mapPut
    split
    · next hi => simpa [mapRisingFrom, hb, Nat.succ_le_of_lt hi] using h.2
    · split
      · simpa [mapRisingFrom] using h
      · next h1 h2 =>
        have := ih (k + 1) (by omega) h.2
        simpa [mapRisingFrom, h.1] using this

theorem mapRisingFrom_filter (m : SMap α) (p : Nat × α → Bool) (b : Nat) (h : mapRisingFrom b m = true) :
    mapRisingFrom b (m.filter p) = true := by
  induction m generalizing b with
  | nil => rfl
  | cons e m ih =>
    obtain ⟨k, v⟩ := e
    simp only [mapRisingFrom, Bool.and_eq_true, decide_eq_true_eq] at h
    by_cases hp : p (k, v)
    · simpa [hp, mapRisingFrom, h.1] using ih (k + 1) h.2
    · simpa [hp] using ih b (mapRisingFrom_mono m (by omega) h.2)

theorem all_mapErase (m : SMap α) (i : Nat) (p : Nat × α → Bool) (h : m.all p = true) : (mapErase m i).all p = true := by
  induction m with
  | nil => rfl
  | cons e m ih =>
    obtain ⟨k, v⟩ := e
    simp only [List.all_cons, Bool.and_eq_true] at h
    unfold mapErase
    split
    · exact ih h.2
    · simpa [h.1] using ih h.2

theorem all_mapPut (m : SMap α) (i : Nat) (a : α) (p : Nat × α → Bool) (h : m.all p = true) (ha : p (i, a) = true) :
    (mapPut m i a).all p = true := by
  induction m with
  | nil => simpa [mapPut] using ha
  | cons e m ih =>
    obtain ⟨k, v⟩ := e
    simp only [List.all_cons, Bool.and_eq_true] at h
    unfold mapPut
    split
    · simpa [ha, h.1] using h.2
    · split
      · next hk => subst hk; simpa [ha] using h.2
      · simpa [h.1] using ih h.2

/-- Setting a key keeps the canonical form. -/
theorem mapWf_mapSet [DecidableEq α] (m : SMap α) (i : Nat) (a d : α) (h : mapWf m d = true) : mapWf (mapSet m i a d) d = true := by
  unfold mapWf at h ⊢
  simp only [Bool.and_eq_true] at h ⊢
  unfold mapSet
  split
  · exact ⟨mapRisingFrom_mapErase m i 0 h.1, all_mapErase m i _ h.2⟩
  · next hne => exact ⟨mapRisingFrom_mapPut m i 0 a (Nat.zero_le i) h.1, all_mapPut m i a _ h.2 (by simpa using hne)⟩

/-- Dropping entries keeps the canonical form. -/
theorem mapWf_filter [DecidableEq α] (m : SMap α) (p : Nat × α → Bool) (d : α) (h : mapWf m d = true) : mapWf (m.filter p) d = true := by
  unfold mapWf at h ⊢
  simp only [Bool.and_eq_true] at h ⊢
  refine ⟨mapRisingFrom_filter m p 0 h.1, ?_⟩
  rw [List.all_eq_true] at h ⊢
  intro e he
  exact h.2 e (List.mem_of_mem_filter he)

end Sys2Proof.Machine
end

