-- ==== Sys2Proof/Laws/Memory.lean ====
section
/-!
SUPPORT. Laws of memory: reading after writing, and the canonical form under every operation that writes memory.
-/
namespace Sys2Proof.Machine

/-- A byte reads as it was written. -/
@[simp] theorem memRead_memWrite_same (m : List Host.Cell) (a : Nat) (b : Byte) : memRead (memWrite m a b) a = b :=
  mapGet_mapSet_same m a b memDefault

/-- A write leaves every other address. -/
theorem memRead_memWrite_other (m : List Host.Cell) {a c : Nat} (b : Byte) (h : c ≠ a) : memRead (memWrite m a b) c = memRead m c :=
  mapGet_mapSet_other m b memDefault memDefault h

/-- A write of one byte keeps the canonical form. -/
theorem memWf_memWrite (m : List Host.Cell) (a : Nat) (b : Byte) (h : memWf m = true) : memWf (memWrite m a b) = true :=
  mapWf_mapSet m a b memDefault h

/-- A write of several bytes keeps the canonical form. -/
theorem memWf_memWriteBytes (bs : List Byte) (m : List Host.Cell) (a : Nat) (h : memWf m = true) : memWf (memWriteBytes m a bs) = true := by
  induction bs generalizing m a with
  | nil => exact h
  | cons b bs ih => exact ih _ _ (memWf_memWrite m a b h)

/-- A little-endian write keeps the canonical form. -/
theorem memWf_memWriteLe (m : List Host.Cell) (a n v : Nat) (h : memWf m = true) : memWf (memWriteLe m a n v) = true :=
  memWf_memWriteBytes _ m a h

/-- A write of several bytes leaves every address outside them. -/
theorem memRead_memWriteBytes_outside (bs : List Byte) (m : List Host.Cell) (a c : Nat) (h : c < a ∨ a + bs.length ≤ c) :
    memRead (memWriteBytes m a bs) c = memRead m c := by
  induction bs generalizing m a with
  | nil => rfl
  | cons b bs ih =>
    simp only [List.length_cons] at h
    simp only [memWriteBytes]
    rw [ih (memWrite m a b) (a + 1) (by omega), memRead_memWrite_other m b (by omega)]

/-- Memory that loses its content in part keeps the canonical form. -/
theorem memWf_memClear (p : Nat → Bool) (m : List Host.Cell) (h : memWf m = true) : memWf (memClear p m) = true :=
  mapWf_filter m _ memDefault h

/-- Memory with nothing listed has the canonical form. -/
@[simp] theorem memWf_nil : memWf [] = true := rfl

/-- What a byte written over the fabric does: memory takes it or stays, and the rest of the block stays. -/
theorem fabricPut_cases (s : State) (a : Nat) (b : Byte) :
    fabricPut s a b = s ∨ fabricPut s a b = { s with mem := memWrite s.mem a b } := by
  unfold fabricPut
  split
  · split
    · split
      · exact .inl rfl
      · exact .inr rfl
    · exact .inl rfl
  · split
    · exact .inr rfl
    · exact .inl rfl
  · exact .inl rfl

@[simp] theorem fabricPut_dev (s : State) (a : Nat) (b : Byte) : (fabricPut s a b).dev = s.dev := by
  rcases fabricPut_cases s a b with h | h <;> rw [h]

@[simp] theorem fabricPut_pending (s : State) (a : Nat) (b : Byte) : (fabricPut s a b).pending = s.pending := by
  rcases fabricPut_cases s a b with h | h <;> rw [h]

theorem memWf_fabricPut (s : State) (a : Nat) (b : Byte) (h : memWf s.mem = true) : memWf (fabricPut s a b).mem = true := by
  rcases fabricPut_cases s a b with e | e <;> rw [e]
  · exact h
  · exact memWf_memWrite s.mem a b h

theorem memRead_fabricPut_other (s : State) {a c : Nat} (b : Byte) (h : c ≠ a) : memRead (fabricPut s a b).mem c = memRead s.mem c := by
  rcases fabricPut_cases s a b with e | e <;> rw [e]
  exact memRead_memWrite_other s.mem b h

@[simp] theorem fabricPuts_dev (bs : List Byte) (s : State) (a : Nat) : (fabricPuts s a bs).dev = s.dev := by
  induction bs generalizing s a with
  | nil => rfl
  | cons b bs ih => simp [fabricPuts, ih]

@[simp] theorem fabricPuts_pending (bs : List Byte) (s : State) (a : Nat) : (fabricPuts s a bs).pending = s.pending := by
  induction bs generalizing s a with
  | nil => rfl
  | cons b bs ih => simp [fabricPuts, ih]

theorem memWf_fabricPuts (bs : List Byte) (s : State) (a : Nat) (h : memWf s.mem = true) : memWf (fabricPuts s a bs).mem = true := by
  induction bs generalizing s a with
  | nil => exact h
  | cons b bs ih => exact ih _ _ (memWf_fabricPut s a b h)

/-- A fabric write leaves every address outside its range. -/
theorem memRead_fabricPuts_outside (bs : List Byte) (s : State) (a c : Nat) (h : c < a ∨ a + bs.length ≤ c) :
    memRead (fabricPuts s a bs).mem c = memRead s.mem c := by
  induction bs generalizing s a with
  | nil => rfl
  | cons b bs ih =>
    simp only [List.length_cons] at h
    simp only [fabricPuts]
    rw [ih (fabricPut s a b) (a + 1) (by omega), memRead_fabricPut_other s b (by omega)]

/-- Every range written over the fabric: the canonical form, the queue, and the addresses outside the range stay. -/
theorem memWf_fabricWrite (s : State) (a : Nat) (bs : List Byte) (h : memWf s.mem = true) : memWf (fabricWrite s a bs).mem = true := by
  unfold fabricWrite
  dsimp only
  apply memWf_fabricPuts
  split <;> exact h

@[simp] theorem fabricWrite_pending (s : State) (a : Nat) (bs : List Byte) : (fabricWrite s a bs).pending = s.pending := by
  unfold fabricWrite
  dsimp only
  split <;> simp [withDev]

theorem memRead_fabricWrite_outside (s : State) (a c : Nat) (bs : List Byte) (h : c < a ∨ a + bs.length ≤ c) :
    memRead (fabricWrite s a bs).mem c = memRead s.mem c := by
  unfold fabricWrite
  dsimp only
  rw [memRead_fabricPuts_outside _ _ _ _ h]
  split <;> rfl

theorem memWf_putRange (s : State) (cls a : Nat) (bs : List Byte) (h : memWf s.mem = true) : memWf (putRange s cls a bs).mem = true :=
  memWf_fabricWrite _ a bs h

@[simp] theorem putRange_pending (s : State) (cls a : Nat) (bs : List Byte) : (putRange s cls a bs).pending = s.pending := by
  simp [putRange, withDev]

theorem memRead_putRange_outside (s : State) (cls a c : Nat) (bs : List Byte) (h : c < a ∨ a + bs.length ≤ c) :
    memRead (putRange s cls a bs).mem c = memRead s.mem c :=
  memRead_fabricWrite_outside _ a c bs h

end Sys2Proof.Machine
end

