-- ==== Sys2Proof/Laws/State.lean ====
section
/-!
SUPPORT. Laws of State: for each named operation of Ops.lean, each field it leaves, and reading members after writing them.
-/
namespace Sys2Proof.Machine

@[simp] theorem withDev_pending (s : State) (d : Dev) : (withDev s d).pending = s.pending := rfl
@[simp] theorem withDev_mem (s : State) (d : Dev) : (withDev s d).mem = s.mem := rfl
@[simp] theorem withDev_dev (s : State) (d : Dev) : (withDev s d).dev = d := rfl
@[simp] theorem withDev_withDev (s : State) (d e : Dev) : withDev (withDev s d) e = withDev s e := rfl
@[simp] theorem withDev_self (s : State) : withDev s s.dev = s := rfl

/-- What setting a member does: nothing where it holds the value, else its value and the time of its change. -/
theorem mSet_cases (d : Dev) (r : Ref) (v : Val) :
    (mGet d r = v ∧ mSet d r v = d) ∨
    (mGet d r ≠ v ∧ mSet d r v = { d with objs := mapSet d.objs r v (memberDefault r), dirty := mapPut d.dirty r (tbNs d) }) := by
  unfold mSet
  split
  · next h => exact .inl ⟨h, rfl⟩
  · next h => exact .inr ⟨h, rfl⟩

/-- A member reads as it was set. -/
@[simp] theorem mGet_mSet_same (d : Dev) (r : Ref) (v : Val) : mGet (mSet d r v) r = v := by
  rcases mSet_cases d r v with ⟨h, e⟩ | ⟨_, e⟩ <;> rw [e]
  · exact h
  · simp [mGet]

/-- Setting a member leaves every other member. -/
theorem mGet_mSet_other (d : Dev) {r q : Ref} (v : Val) (h : q ≠ r) : mGet (mSet d r v) q = mGet d q := by
  rcases mSet_cases d r v with ⟨_, e⟩ | ⟨_, e⟩ <;> rw [e]
  exact mapGet_mapSet_other d.objs v _ _ h

@[simp] theorem nGet_nSet_same (d : Dev) (r : Ref) (n : Nat) : nGet (nSet d r n) r = n := by simp [nGet, nSet]

theorem nGet_nSet_other (d : Dev) {r q : Ref} (n : Nat) (h : q ≠ r) : nGet (nSet d r n) q = nGet d q := by
  simp [nGet, nSet, mGet_mSet_other d _ h]

@[simp] theorem bGet_bSet_same (d : Dev) (r : Ref) (b : List Byte) : bGet (bSet d r b) r = b := by simp [bGet, bSet]

/-- Members are read from objs alone. -/
theorem mGet_congr {d e : Dev} (h : d.objs = e.objs) (r : Ref) : mGet d r = mGet e r := by simp [mGet, h]
theorem nGet_congr {d e : Dev} (h : d.objs = e.objs) (r : Ref) : nGet d r = nGet e r := by simp [nGet, mGet_congr h]
theorem bGet_congr {d e : Dev} (h : d.objs = e.objs) (r : Ref) : bGet d r = bGet e r := by simp [bGet, mGet_congr h]

theorem mSet_field {β : Type} (f : Dev → β) (hf : ∀ (d : Dev) o x, f { d with objs := o, dirty := x } = f d) (d : Dev) (r : Ref) (v : Val) :
    f (mSet d r v) = f d := by
  rcases mSet_cases d r v with ⟨_, e⟩ | ⟨_, e⟩ <;> rw [e]
  exact hf d _ _

@[simp] theorem mSet_now (d : Dev) (r : Ref) (v : Val) : (mSet d r v).now = d.now := mSet_field (·.now) (fun _ _ _ => rfl) d r v
@[simp] theorem mSet_tb (d : Dev) (r : Ref) (v : Val) : (mSet d r v).tb = d.tb := mSet_field (·.tb) (fun _ _ _ => rfl) d r v
@[simp] theorem mSet_tbInc (d : Dev) (r : Ref) (v : Val) : (mSet d r v).tbInc = d.tbInc := mSet_field (·.tbInc) (fun _ _ _ => rfl) d r v
@[simp] theorem mSet_timers (d : Dev) (r : Ref) (v : Val) : (mSet d r v).timers = d.timers := mSet_field (·.timers) (fun _ _ _ => rfl) d r v
@[simp] theorem mSet_regs (d : Dev) (r : Ref) (v : Val) : (mSet d r v).regs = d.regs := mSet_field (·.regs) (fun _ _ _ => rfl) d r v
@[simp] theorem mSet_noap (d : Dev) (r : Ref) (v : Val) : (mSet d r v).noap = d.noap := mSet_field (·.noap) (fun _ _ _ => rfl) d r v
@[simp] theorem mSet_islands (d : Dev) (r : Ref) (v : Val) : (mSet d r v).islands = d.islands := mSet_field (·.islands) (fun _ _ _ => rfl) d r v
@[simp] theorem mSet_scene (d : Dev) (r : Ref) (v : Val) : (mSet d r v).scene = d.scene := mSet_field (·.scene) (fun _ _ _ => rfl) d r v
@[simp] theorem mSet_events (d : Dev) (r : Ref) (v : Val) : (mSet d r v).events = d.events := mSet_field (·.events) (fun _ _ _ => rfl) d r v
@[simp] theorem mSet_obs (d : Dev) (r : Ref) (v : Val) : (mSet d r v).obs = d.obs := mSet_field (·.obs) (fun _ _ _ => rfl) d r v
@[simp] theorem mSet_power (d : Dev) (r : Ref) (v : Val) : (mSet d r v).power = d.power := mSet_field (·.power) (fun _ _ _ => rfl) d r v
@[simp] theorem mSet_hearth (d : Dev) (r : Ref) (v : Val) : (mSet d r v).hearth = d.hearth := mSet_field (·.hearth) (fun _ _ _ => rfl) d r v
@[simp] theorem mSet_pins (d : Dev) (r : Ref) (v : Val) : (mSet d r v).pins = d.pins := mSet_field (·.pins) (fun _ _ _ => rfl) d r v
@[simp] theorem mSet_time (d : Dev) (r : Ref) (v : Val) : (mSet d r v).time = d.time := mSet_field (·.time) (fun _ _ _ => rfl) d r v
@[simp] theorem mSet_heads (d : Dev) (r : Ref) (v : Val) : (mSet d r v).heads = d.heads := mSet_field (·.heads) (fun _ _ _ => rfl) d r v
@[simp] theorem mSet_dram (d : Dev) (r : Ref) (v : Val) : (mSet d r v).dram = d.dram := mSet_field (·.dram) (fun _ _ _ => rfl) d r v
@[simp] theorem mSet_stoker (d : Dev) (r : Ref) (v : Val) : (mSet d r v).stoker = d.stoker := mSet_field (·.stoker) (fun _ _ _ => rfl) d r v
@[simp] theorem mSet_pipes (d : Dev) (r : Ref) (v : Val) : (mSet d r v).pipes = d.pipes := mSet_field (·.pipes) (fun _ _ _ => rfl) d r v
@[simp] theorem mSet_beam (d : Dev) (r : Ref) (v : Val) : (mSet d r v).beam = d.beam := mSet_field (·.beam) (fun _ _ _ => rfl) d r v
@[simp] theorem mSet_lanes (d : Dev) (r : Ref) (v : Val) : (mSet d r v).lanes = d.lanes := mSet_field (·.lanes) (fun _ _ _ => rfl) d r v
@[simp] theorem mSet_wear (d : Dev) (r : Ref) (v : Val) : (mSet d r v).wear = d.wear := mSet_field (·.wear) (fun _ _ _ => rfl) d r v
@[simp] theorem mSet_audio (d : Dev) (r : Ref) (v : Val) : (mSet d r v).audio = d.audio := mSet_field (·.audio) (fun _ _ _ => rfl) d r v
@[simp] theorem mSet_movers (d : Dev) (r : Ref) (v : Val) : (mSet d r v).movers = d.movers := mSet_field (·.movers) (fun _ _ _ => rfl) d r v
@[simp] theorem mSet_net (d : Dev) (r : Ref) (v : Val) : (mSet d r v).net = d.net := mSet_field (·.net) (fun _ _ _ => rfl) d r v
@[simp] theorem mSet_trust (d : Dev) (r : Ref) (v : Val) : (mSet d r v).trust = d.trust := mSet_field (·.trust) (fun _ _ _ => rfl) d r v
@[simp] theorem mSet_free (d : Dev) (r : Ref) (v : Val) : (mSet d r v).free = d.free := mSet_field (·.free) (fun _ _ _ => rfl) d r v
@[simp] theorem mSet_out (d : Dev) (r : Ref) (v : Val) : (mSet d r v).out = d.out := mSet_field (·.out) (fun _ _ _ => rfl) d r v

@[simp] theorem nSet_now (d : Dev) (r : Ref) (n : Nat) : (nSet d r n).now = d.now := mSet_now d r _
@[simp] theorem nSet_tb (d : Dev) (r : Ref) (n : Nat) : (nSet d r n).tb = d.tb := mSet_tb d r _
@[simp] theorem nSet_tbInc (d : Dev) (r : Ref) (n : Nat) : (nSet d r n).tbInc = d.tbInc := mSet_tbInc d r _
@[simp] theorem nSet_timers (d : Dev) (r : Ref) (n : Nat) : (nSet d r n).timers = d.timers := mSet_timers d r _
@[simp] theorem nSet_regs (d : Dev) (r : Ref) (n : Nat) : (nSet d r n).regs = d.regs := mSet_regs d r _
@[simp] theorem nSet_noap (d : Dev) (r : Ref) (n : Nat) : (nSet d r n).noap = d.noap := mSet_noap d r _
@[simp] theorem nSet_islands (d : Dev) (r : Ref) (n : Nat) : (nSet d r n).islands = d.islands := mSet_islands d r _
@[simp] theorem nSet_scene (d : Dev) (r : Ref) (n : Nat) : (nSet d r n).scene = d.scene := mSet_scene d r _
@[simp] theorem nSet_events (d : Dev) (r : Ref) (n : Nat) : (nSet d r n).events = d.events := mSet_events d r _
@[simp] theorem nSet_obs (d : Dev) (r : Ref) (n : Nat) : (nSet d r n).obs = d.obs := mSet_obs d r _
@[simp] theorem nSet_power (d : Dev) (r : Ref) (n : Nat) : (nSet d r n).power = d.power := mSet_power d r _
@[simp] theorem nSet_hearth (d : Dev) (r : Ref) (n : Nat) : (nSet d r n).hearth = d.hearth := mSet_hearth d r _
@[simp] theorem nSet_pins (d : Dev) (r : Ref) (n : Nat) : (nSet d r n).pins = d.pins := mSet_pins d r _
@[simp] theorem nSet_time (d : Dev) (r : Ref) (n : Nat) : (nSet d r n).time = d.time := mSet_time d r _
@[simp] theorem nSet_heads (d : Dev) (r : Ref) (n : Nat) : (nSet d r n).heads = d.heads := mSet_heads d r _
@[simp] theorem nSet_dram (d : Dev) (r : Ref) (n : Nat) : (nSet d r n).dram = d.dram := mSet_dram d r _
@[simp] theorem nSet_stoker (d : Dev) (r : Ref) (n : Nat) : (nSet d r n).stoker = d.stoker := mSet_stoker d r _
@[simp] theorem nSet_pipes (d : Dev) (r : Ref) (n : Nat) : (nSet d r n).pipes = d.pipes := mSet_pipes d r _
@[simp] theorem nSet_beam (d : Dev) (r : Ref) (n : Nat) : (nSet d r n).beam = d.beam := mSet_beam d r _
@[simp] theorem nSet_lanes (d : Dev) (r : Ref) (n : Nat) : (nSet d r n).lanes = d.lanes := mSet_lanes d r _
@[simp] theorem nSet_wear (d : Dev) (r : Ref) (n : Nat) : (nSet d r n).wear = d.wear := mSet_wear d r _
@[simp] theorem nSet_audio (d : Dev) (r : Ref) (n : Nat) : (nSet d r n).audio = d.audio := mSet_audio d r _
@[simp] theorem nSet_movers (d : Dev) (r : Ref) (n : Nat) : (nSet d r n).movers = d.movers := mSet_movers d r _
@[simp] theorem nSet_net (d : Dev) (r : Ref) (n : Nat) : (nSet d r n).net = d.net := mSet_net d r _
@[simp] theorem nSet_trust (d : Dev) (r : Ref) (n : Nat) : (nSet d r n).trust = d.trust := mSet_trust d r _
@[simp] theorem nSet_free (d : Dev) (r : Ref) (n : Nat) : (nSet d r n).free = d.free := mSet_free d r _
@[simp] theorem nSet_out (d : Dev) (r : Ref) (n : Nat) : (nSet d r n).out = d.out := mSet_out d r _

@[simp] theorem nAdd_now (d : Dev) (r : Ref) (n : Nat) : (nAdd d r n).now = d.now := nSet_now d r _
@[simp] theorem nAdd_tb (d : Dev) (r : Ref) (n : Nat) : (nAdd d r n).tb = d.tb := nSet_tb d r _
@[simp] theorem nAdd_tbInc (d : Dev) (r : Ref) (n : Nat) : (nAdd d r n).tbInc = d.tbInc := nSet_tbInc d r _
@[simp] theorem nAdd_timers (d : Dev) (r : Ref) (n : Nat) : (nAdd d r n).timers = d.timers := nSet_timers d r _
@[simp] theorem nAdd_regs (d : Dev) (r : Ref) (n : Nat) : (nAdd d r n).regs = d.regs := nSet_regs d r _
@[simp] theorem nAdd_noap (d : Dev) (r : Ref) (n : Nat) : (nAdd d r n).noap = d.noap := nSet_noap d r _
@[simp] theorem nAdd_islands (d : Dev) (r : Ref) (n : Nat) : (nAdd d r n).islands = d.islands := nSet_islands d r _
@[simp] theorem nAdd_scene (d : Dev) (r : Ref) (n : Nat) : (nAdd d r n).scene = d.scene := nSet_scene d r _
@[simp] theorem nAdd_events (d : Dev) (r : Ref) (n : Nat) : (nAdd d r n).events = d.events := nSet_events d r _
@[simp] theorem nAdd_obs (d : Dev) (r : Ref) (n : Nat) : (nAdd d r n).obs = d.obs := nSet_obs d r _
@[simp] theorem nAdd_power (d : Dev) (r : Ref) (n : Nat) : (nAdd d r n).power = d.power := nSet_power d r _
@[simp] theorem nAdd_hearth (d : Dev) (r : Ref) (n : Nat) : (nAdd d r n).hearth = d.hearth := nSet_hearth d r _
@[simp] theorem nAdd_pins (d : Dev) (r : Ref) (n : Nat) : (nAdd d r n).pins = d.pins := nSet_pins d r _
@[simp] theorem nAdd_time (d : Dev) (r : Ref) (n : Nat) : (nAdd d r n).time = d.time := nSet_time d r _
@[simp] theorem nAdd_heads (d : Dev) (r : Ref) (n : Nat) : (nAdd d r n).heads = d.heads := nSet_heads d r _
@[simp] theorem nAdd_dram (d : Dev) (r : Ref) (n : Nat) : (nAdd d r n).dram = d.dram := nSet_dram d r _
@[simp] theorem nAdd_stoker (d : Dev) (r : Ref) (n : Nat) : (nAdd d r n).stoker = d.stoker := nSet_stoker d r _
@[simp] theorem nAdd_pipes (d : Dev) (r : Ref) (n : Nat) : (nAdd d r n).pipes = d.pipes := nSet_pipes d r _
@[simp] theorem nAdd_beam (d : Dev) (r : Ref) (n : Nat) : (nAdd d r n).beam = d.beam := nSet_beam d r _
@[simp] theorem nAdd_lanes (d : Dev) (r : Ref) (n : Nat) : (nAdd d r n).lanes = d.lanes := nSet_lanes d r _
@[simp] theorem nAdd_wear (d : Dev) (r : Ref) (n : Nat) : (nAdd d r n).wear = d.wear := nSet_wear d r _
@[simp] theorem nAdd_audio (d : Dev) (r : Ref) (n : Nat) : (nAdd d r n).audio = d.audio := nSet_audio d r _
@[simp] theorem nAdd_movers (d : Dev) (r : Ref) (n : Nat) : (nAdd d r n).movers = d.movers := nSet_movers d r _
@[simp] theorem nAdd_net (d : Dev) (r : Ref) (n : Nat) : (nAdd d r n).net = d.net := nSet_net d r _
@[simp] theorem nAdd_trust (d : Dev) (r : Ref) (n : Nat) : (nAdd d r n).trust = d.trust := nSet_trust d r _
@[simp] theorem nAdd_free (d : Dev) (r : Ref) (n : Nat) : (nAdd d r n).free = d.free := nSet_free d r _
@[simp] theorem nAdd_out (d : Dev) (r : Ref) (n : Nat) : (nAdd d r n).out = d.out := nSet_out d r _

@[simp] theorem nInc_now (d : Dev) (r : Ref) : (nInc d r).now = d.now := nSet_now d r _
@[simp] theorem nInc_tb (d : Dev) (r : Ref) : (nInc d r).tb = d.tb := nSet_tb d r _
@[simp] theorem nInc_tbInc (d : Dev) (r : Ref) : (nInc d r).tbInc = d.tbInc := nSet_tbInc d r _
@[simp] theorem nInc_timers (d : Dev) (r : Ref) : (nInc d r).timers = d.timers := nSet_timers d r _
@[simp] theorem nInc_regs (d : Dev) (r : Ref) : (nInc d r).regs = d.regs := nSet_regs d r _
@[simp] theorem nInc_noap (d : Dev) (r : Ref) : (nInc d r).noap = d.noap := nSet_noap d r _
@[simp] theorem nInc_islands (d : Dev) (r : Ref) : (nInc d r).islands = d.islands := nSet_islands d r _
@[simp] theorem nInc_scene (d : Dev) (r : Ref) : (nInc d r).scene = d.scene := nSet_scene d r _
@[simp] theorem nInc_events (d : Dev) (r : Ref) : (nInc d r).events = d.events := nSet_events d r _
@[simp] theorem nInc_obs (d : Dev) (r : Ref) : (nInc d r).obs = d.obs := nSet_obs d r _
@[simp] theorem nInc_power (d : Dev) (r : Ref) : (nInc d r).power = d.power := nSet_power d r _
@[simp] theorem nInc_hearth (d : Dev) (r : Ref) : (nInc d r).hearth = d.hearth := nSet_hearth d r _
@[simp] theorem nInc_pins (d : Dev) (r : Ref) : (nInc d r).pins = d.pins := nSet_pins d r _
@[simp] theorem nInc_time (d : Dev) (r : Ref) : (nInc d r).time = d.time := nSet_time d r _
@[simp] theorem nInc_heads (d : Dev) (r : Ref) : (nInc d r).heads = d.heads := nSet_heads d r _
@[simp] theorem nInc_dram (d : Dev) (r : Ref) : (nInc d r).dram = d.dram := nSet_dram d r _
@[simp] theorem nInc_stoker (d : Dev) (r : Ref) : (nInc d r).stoker = d.stoker := nSet_stoker d r _
@[simp] theorem nInc_pipes (d : Dev) (r : Ref) : (nInc d r).pipes = d.pipes := nSet_pipes d r _
@[simp] theorem nInc_beam (d : Dev) (r : Ref) : (nInc d r).beam = d.beam := nSet_beam d r _
@[simp] theorem nInc_lanes (d : Dev) (r : Ref) : (nInc d r).lanes = d.lanes := nSet_lanes d r _
@[simp] theorem nInc_wear (d : Dev) (r : Ref) : (nInc d r).wear = d.wear := nSet_wear d r _
@[simp] theorem nInc_audio (d : Dev) (r : Ref) : (nInc d r).audio = d.audio := nSet_audio d r _
@[simp] theorem nInc_movers (d : Dev) (r : Ref) : (nInc d r).movers = d.movers := nSet_movers d r _
@[simp] theorem nInc_net (d : Dev) (r : Ref) : (nInc d r).net = d.net := nSet_net d r _
@[simp] theorem nInc_trust (d : Dev) (r : Ref) : (nInc d r).trust = d.trust := nSet_trust d r _
@[simp] theorem nInc_free (d : Dev) (r : Ref) : (nInc d r).free = d.free := nSet_free d r _
@[simp] theorem nInc_out (d : Dev) (r : Ref) : (nInc d r).out = d.out := nSet_out d r _

theorem nSets_field {β : Type} (f : Dev → β) (hf : ∀ (d : Dev) o x, f { d with objs := o, dirty := x } = f d) (l : List (Ref × Nat)) (d : Dev) :
    f (nSets d l) = f d := by
  induction l generalizing d with
  | nil => rfl
  | cons e l ih => exact (ih (nSet d e.1 e.2)).trans (mSet_field f hf d e.1 _)

@[simp] theorem nSets_now (d : Dev) (l : List (Ref × Nat)) : (nSets d l).now = d.now := nSets_field (·.now) (fun _ _ _ => rfl) l d
@[simp] theorem nSets_tb (d : Dev) (l : List (Ref × Nat)) : (nSets d l).tb = d.tb := nSets_field (·.tb) (fun _ _ _ => rfl) l d
@[simp] theorem nSets_tbInc (d : Dev) (l : List (Ref × Nat)) : (nSets d l).tbInc = d.tbInc := nSets_field (·.tbInc) (fun _ _ _ => rfl) l d
@[simp] theorem nSets_timers (d : Dev) (l : List (Ref × Nat)) : (nSets d l).timers = d.timers := nSets_field (·.timers) (fun _ _ _ => rfl) l d
@[simp] theorem nSets_regs (d : Dev) (l : List (Ref × Nat)) : (nSets d l).regs = d.regs := nSets_field (·.regs) (fun _ _ _ => rfl) l d
@[simp] theorem nSets_noap (d : Dev) (l : List (Ref × Nat)) : (nSets d l).noap = d.noap := nSets_field (·.noap) (fun _ _ _ => rfl) l d
@[simp] theorem nSets_islands (d : Dev) (l : List (Ref × Nat)) : (nSets d l).islands = d.islands := nSets_field (·.islands) (fun _ _ _ => rfl) l d
@[simp] theorem nSets_scene (d : Dev) (l : List (Ref × Nat)) : (nSets d l).scene = d.scene := nSets_field (·.scene) (fun _ _ _ => rfl) l d
@[simp] theorem nSets_events (d : Dev) (l : List (Ref × Nat)) : (nSets d l).events = d.events := nSets_field (·.events) (fun _ _ _ => rfl) l d
@[simp] theorem nSets_obs (d : Dev) (l : List (Ref × Nat)) : (nSets d l).obs = d.obs := nSets_field (·.obs) (fun _ _ _ => rfl) l d
@[simp] theorem nSets_power (d : Dev) (l : List (Ref × Nat)) : (nSets d l).power = d.power := nSets_field (·.power) (fun _ _ _ => rfl) l d
@[simp] theorem nSets_hearth (d : Dev) (l : List (Ref × Nat)) : (nSets d l).hearth = d.hearth := nSets_field (·.hearth) (fun _ _ _ => rfl) l d
@[simp] theorem nSets_pins (d : Dev) (l : List (Ref × Nat)) : (nSets d l).pins = d.pins := nSets_field (·.pins) (fun _ _ _ => rfl) l d
@[simp] theorem nSets_time (d : Dev) (l : List (Ref × Nat)) : (nSets d l).time = d.time := nSets_field (·.time) (fun _ _ _ => rfl) l d
@[simp] theorem nSets_heads (d : Dev) (l : List (Ref × Nat)) : (nSets d l).heads = d.heads := nSets_field (·.heads) (fun _ _ _ => rfl) l d
@[simp] theorem nSets_dram (d : Dev) (l : List (Ref × Nat)) : (nSets d l).dram = d.dram := nSets_field (·.dram) (fun _ _ _ => rfl) l d
@[simp] theorem nSets_stoker (d : Dev) (l : List (Ref × Nat)) : (nSets d l).stoker = d.stoker := nSets_field (·.stoker) (fun _ _ _ => rfl) l d
@[simp] theorem nSets_pipes (d : Dev) (l : List (Ref × Nat)) : (nSets d l).pipes = d.pipes := nSets_field (·.pipes) (fun _ _ _ => rfl) l d
@[simp] theorem nSets_beam (d : Dev) (l : List (Ref × Nat)) : (nSets d l).beam = d.beam := nSets_field (·.beam) (fun _ _ _ => rfl) l d
@[simp] theorem nSets_lanes (d : Dev) (l : List (Ref × Nat)) : (nSets d l).lanes = d.lanes := nSets_field (·.lanes) (fun _ _ _ => rfl) l d
@[simp] theorem nSets_wear (d : Dev) (l : List (Ref × Nat)) : (nSets d l).wear = d.wear := nSets_field (·.wear) (fun _ _ _ => rfl) l d
@[simp] theorem nSets_audio (d : Dev) (l : List (Ref × Nat)) : (nSets d l).audio = d.audio := nSets_field (·.audio) (fun _ _ _ => rfl) l d
@[simp] theorem nSets_movers (d : Dev) (l : List (Ref × Nat)) : (nSets d l).movers = d.movers := nSets_field (·.movers) (fun _ _ _ => rfl) l d
@[simp] theorem nSets_net (d : Dev) (l : List (Ref × Nat)) : (nSets d l).net = d.net := nSets_field (·.net) (fun _ _ _ => rfl) l d
@[simp] theorem nSets_trust (d : Dev) (l : List (Ref × Nat)) : (nSets d l).trust = d.trust := nSets_field (·.trust) (fun _ _ _ => rfl) l d
@[simp] theorem nSets_free (d : Dev) (l : List (Ref × Nat)) : (nSets d l).free = d.free := nSets_field (·.free) (fun _ _ _ => rfl) l d
@[simp] theorem nSets_out (d : Dev) (l : List (Ref × Nat)) : (nSets d l).out = d.out := nSets_field (·.out) (fun _ _ _ => rfl) l d

@[simp] theorem emit_now (d : Dev) (o : Output) : (emit d o).now = d.now := rfl
@[simp] theorem emit_tb (d : Dev) (o : Output) : (emit d o).tb = d.tb := rfl
@[simp] theorem emit_tbInc (d : Dev) (o : Output) : (emit d o).tbInc = d.tbInc := rfl
@[simp] theorem emit_timers (d : Dev) (o : Output) : (emit d o).timers = d.timers := rfl
@[simp] theorem emit_objs (d : Dev) (o : Output) : (emit d o).objs = d.objs := rfl
@[simp] theorem emit_dirty (d : Dev) (o : Output) : (emit d o).dirty = d.dirty := rfl
@[simp] theorem emit_regs (d : Dev) (o : Output) : (emit d o).regs = d.regs := rfl
@[simp] theorem emit_noap (d : Dev) (o : Output) : (emit d o).noap = d.noap := rfl
@[simp] theorem emit_islands (d : Dev) (o : Output) : (emit d o).islands = d.islands := rfl
@[simp] theorem emit_scene (d : Dev) (o : Output) : (emit d o).scene = d.scene := rfl
@[simp] theorem emit_events (d : Dev) (o : Output) : (emit d o).events = d.events := rfl
@[simp] theorem emit_obs (d : Dev) (o : Output) : (emit d o).obs = d.obs := rfl
@[simp] theorem emit_power (d : Dev) (o : Output) : (emit d o).power = d.power := rfl
@[simp] theorem emit_hearth (d : Dev) (o : Output) : (emit d o).hearth = d.hearth := rfl
@[simp] theorem emit_pins (d : Dev) (o : Output) : (emit d o).pins = d.pins := rfl
@[simp] theorem emit_time (d : Dev) (o : Output) : (emit d o).time = d.time := rfl
@[simp] theorem emit_heads (d : Dev) (o : Output) : (emit d o).heads = d.heads := rfl
@[simp] theorem emit_dram (d : Dev) (o : Output) : (emit d o).dram = d.dram := rfl
@[simp] theorem emit_stoker (d : Dev) (o : Output) : (emit d o).stoker = d.stoker := rfl
@[simp] theorem emit_pipes (d : Dev) (o : Output) : (emit d o).pipes = d.pipes := rfl
@[simp] theorem emit_beam (d : Dev) (o : Output) : (emit d o).beam = d.beam := rfl
@[simp] theorem emit_lanes (d : Dev) (o : Output) : (emit d o).lanes = d.lanes := rfl
@[simp] theorem emit_wear (d : Dev) (o : Output) : (emit d o).wear = d.wear := rfl
@[simp] theorem emit_audio (d : Dev) (o : Output) : (emit d o).audio = d.audio := rfl
@[simp] theorem emit_movers (d : Dev) (o : Output) : (emit d o).movers = d.movers := rfl
@[simp] theorem emit_net (d : Dev) (o : Output) : (emit d o).net = d.net := rfl
@[simp] theorem emit_trust (d : Dev) (o : Output) : (emit d o).trust = d.trust := rfl
@[simp] theorem emit_free (d : Dev) (o : Output) : (emit d o).free = d.free := rfl

@[simp] theorem arm_now (d : Dev) (k i dt : Nat) : (arm d k i dt).now = d.now := rfl
@[simp] theorem arm_tb (d : Dev) (k i dt : Nat) : (arm d k i dt).tb = d.tb := rfl
@[simp] theorem arm_tbInc (d : Dev) (k i dt : Nat) : (arm d k i dt).tbInc = d.tbInc := rfl
@[simp] theorem arm_objs (d : Dev) (k i dt : Nat) : (arm d k i dt).objs = d.objs := rfl
@[simp] theorem arm_dirty (d : Dev) (k i dt : Nat) : (arm d k i dt).dirty = d.dirty := rfl
@[simp] theorem arm_regs (d : Dev) (k i dt : Nat) : (arm d k i dt).regs = d.regs := rfl
@[simp] theorem arm_noap (d : Dev) (k i dt : Nat) : (arm d k i dt).noap = d.noap := rfl
@[simp] theorem arm_islands (d : Dev) (k i dt : Nat) : (arm d k i dt).islands = d.islands := rfl
@[simp] theorem arm_scene (d : Dev) (k i dt : Nat) : (arm d k i dt).scene = d.scene := rfl
@[simp] theorem arm_events (d : Dev) (k i dt : Nat) : (arm d k i dt).events = d.events := rfl
@[simp] theorem arm_obs (d : Dev) (k i dt : Nat) : (arm d k i dt).obs = d.obs := rfl
@[simp] theorem arm_power (d : Dev) (k i dt : Nat) : (arm d k i dt).power = d.power := rfl
@[simp] theorem arm_hearth (d : Dev) (k i dt : Nat) : (arm d k i dt).hearth = d.hearth := rfl
@[simp] theorem arm_pins (d : Dev) (k i dt : Nat) : (arm d k i dt).pins = d.pins := rfl
@[simp] theorem arm_time (d : Dev) (k i dt : Nat) : (arm d k i dt).time = d.time := rfl
@[simp] theorem arm_heads (d : Dev) (k i dt : Nat) : (arm d k i dt).heads = d.heads := rfl
@[simp] theorem arm_dram (d : Dev) (k i dt : Nat) : (arm d k i dt).dram = d.dram := rfl
@[simp] theorem arm_stoker (d : Dev) (k i dt : Nat) : (arm d k i dt).stoker = d.stoker := rfl
@[simp] theorem arm_pipes (d : Dev) (k i dt : Nat) : (arm d k i dt).pipes = d.pipes := rfl
@[simp] theorem arm_beam (d : Dev) (k i dt : Nat) : (arm d k i dt).beam = d.beam := rfl
@[simp] theorem arm_lanes (d : Dev) (k i dt : Nat) : (arm d k i dt).lanes = d.lanes := rfl
@[simp] theorem arm_wear (d : Dev) (k i dt : Nat) : (arm d k i dt).wear = d.wear := rfl
@[simp] theorem arm_audio (d : Dev) (k i dt : Nat) : (arm d k i dt).audio = d.audio := rfl
@[simp] theorem arm_movers (d : Dev) (k i dt : Nat) : (arm d k i dt).movers = d.movers := rfl
@[simp] theorem arm_net (d : Dev) (k i dt : Nat) : (arm d k i dt).net = d.net := rfl
@[simp] theorem arm_trust (d : Dev) (k i dt : Nat) : (arm d k i dt).trust = d.trust := rfl
@[simp] theorem arm_free (d : Dev) (k i dt : Nat) : (arm d k i dt).free = d.free := rfl
@[simp] theorem arm_out (d : Dev) (k i dt : Nat) : (arm d k i dt).out = d.out := rfl

@[simp] theorem disarm_now (d : Dev) (k i : Nat) : (disarm d k i).now = d.now := rfl
@[simp] theorem disarm_tb (d : Dev) (k i : Nat) : (disarm d k i).tb = d.tb := rfl
@[simp] theorem disarm_tbInc (d : Dev) (k i : Nat) : (disarm d k i).tbInc = d.tbInc := rfl
@[simp] theorem disarm_objs (d : Dev) (k i : Nat) : (disarm d k i).objs = d.objs := rfl
@[simp] theorem disarm_dirty (d : Dev) (k i : Nat) : (disarm d k i).dirty = d.dirty := rfl
@[simp] theorem disarm_regs (d : Dev) (k i : Nat) : (disarm d k i).regs = d.regs := rfl
@[simp] theorem disarm_noap (d : Dev) (k i : Nat) : (disarm d k i).noap = d.noap := rfl
@[simp] theorem disarm_islands (d : Dev) (k i : Nat) : (disarm d k i).islands = d.islands := rfl
@[simp] theorem disarm_scene (d : Dev) (k i : Nat) : (disarm d k i).scene = d.scene := rfl
@[simp] theorem disarm_events (d : Dev) (k i : Nat) : (disarm d k i).events = d.events := rfl
@[simp] theorem disarm_obs (d : Dev) (k i : Nat) : (disarm d k i).obs = d.obs := rfl
@[simp] theorem disarm_power (d : Dev) (k i : Nat) : (disarm d k i).power = d.power := rfl
@[simp] theorem disarm_hearth (d : Dev) (k i : Nat) : (disarm d k i).hearth = d.hearth := rfl
@[simp] theorem disarm_pins (d : Dev) (k i : Nat) : (disarm d k i).pins = d.pins := rfl
@[simp] theorem disarm_time (d : Dev) (k i : Nat) : (disarm d k i).time = d.time := rfl
@[simp] theorem disarm_heads (d : Dev) (k i : Nat) : (disarm d k i).heads = d.heads := rfl
@[simp] theorem disarm_dram (d : Dev) (k i : Nat) : (disarm d k i).dram = d.dram := rfl
@[simp] theorem disarm_stoker (d : Dev) (k i : Nat) : (disarm d k i).stoker = d.stoker := rfl
@[simp] theorem disarm_pipes (d : Dev) (k i : Nat) : (disarm d k i).pipes = d.pipes := rfl
@[simp] theorem disarm_beam (d : Dev) (k i : Nat) : (disarm d k i).beam = d.beam := rfl
@[simp] theorem disarm_lanes (d : Dev) (k i : Nat) : (disarm d k i).lanes = d.lanes := rfl
@[simp] theorem disarm_wear (d : Dev) (k i : Nat) : (disarm d k i).wear = d.wear := rfl
@[simp] theorem disarm_audio (d : Dev) (k i : Nat) : (disarm d k i).audio = d.audio := rfl
@[simp] theorem disarm_movers (d : Dev) (k i : Nat) : (disarm d k i).movers = d.movers := rfl
@[simp] theorem disarm_net (d : Dev) (k i : Nat) : (disarm d k i).net = d.net := rfl
@[simp] theorem disarm_trust (d : Dev) (k i : Nat) : (disarm d k i).trust = d.trust := rfl
@[simp] theorem disarm_free (d : Dev) (k i : Nat) : (disarm d k i).free = d.free := rfl
@[simp] theorem disarm_out (d : Dev) (k i : Nat) : (disarm d k i).out = d.out := rfl

@[simp] theorem freeUsed_now (d : Dev) : (freeUsed d).now = d.now := rfl
@[simp] theorem freeUsed_tb (d : Dev) : (freeUsed d).tb = d.tb := rfl
@[simp] theorem freeUsed_tbInc (d : Dev) : (freeUsed d).tbInc = d.tbInc := rfl
@[simp] theorem freeUsed_timers (d : Dev) : (freeUsed d).timers = d.timers := rfl
@[simp] theorem freeUsed_objs (d : Dev) : (freeUsed d).objs = d.objs := rfl
@[simp] theorem freeUsed_dirty (d : Dev) : (freeUsed d).dirty = d.dirty := rfl
@[simp] theorem freeUsed_regs (d : Dev) : (freeUsed d).regs = d.regs := rfl
@[simp] theorem freeUsed_noap (d : Dev) : (freeUsed d).noap = d.noap := rfl
@[simp] theorem freeUsed_islands (d : Dev) : (freeUsed d).islands = d.islands := rfl
@[simp] theorem freeUsed_scene (d : Dev) : (freeUsed d).scene = d.scene := rfl
@[simp] theorem freeUsed_events (d : Dev) : (freeUsed d).events = d.events := rfl
@[simp] theorem freeUsed_obs (d : Dev) : (freeUsed d).obs = d.obs := rfl
@[simp] theorem freeUsed_power (d : Dev) : (freeUsed d).power = d.power := rfl
@[simp] theorem freeUsed_hearth (d : Dev) : (freeUsed d).hearth = d.hearth := rfl
@[simp] theorem freeUsed_pins (d : Dev) : (freeUsed d).pins = d.pins := rfl
@[simp] theorem freeUsed_time (d : Dev) : (freeUsed d).time = d.time := rfl
@[simp] theorem freeUsed_heads (d : Dev) : (freeUsed d).heads = d.heads := rfl
@[simp] theorem freeUsed_dram (d : Dev) : (freeUsed d).dram = d.dram := rfl
@[simp] theorem freeUsed_stoker (d : Dev) : (freeUsed d).stoker = d.stoker := rfl
@[simp] theorem freeUsed_pipes (d : Dev) : (freeUsed d).pipes = d.pipes := rfl
@[simp] theorem freeUsed_beam (d : Dev) : (freeUsed d).beam = d.beam := rfl
@[simp] theorem freeUsed_lanes (d : Dev) : (freeUsed d).lanes = d.lanes := rfl
@[simp] theorem freeUsed_wear (d : Dev) : (freeUsed d).wear = d.wear := rfl
@[simp] theorem freeUsed_audio (d : Dev) : (freeUsed d).audio = d.audio := rfl
@[simp] theorem freeUsed_movers (d : Dev) : (freeUsed d).movers = d.movers := rfl
@[simp] theorem freeUsed_net (d : Dev) : (freeUsed d).net = d.net := rfl
@[simp] theorem freeUsed_trust (d : Dev) : (freeUsed d).trust = d.trust := rfl
@[simp] theorem freeUsed_out (d : Dev) : (freeUsed d).out = d.out := rfl

@[simp] theorem freeUsedN_now (d : Dev) (n : Nat) : (freeUsedN d n).now = d.now := rfl
@[simp] theorem freeUsedN_tb (d : Dev) (n : Nat) : (freeUsedN d n).tb = d.tb := rfl
@[simp] theorem freeUsedN_tbInc (d : Dev) (n : Nat) : (freeUsedN d n).tbInc = d.tbInc := rfl
@[simp] theorem freeUsedN_timers (d : Dev) (n : Nat) : (freeUsedN d n).timers = d.timers := rfl
@[simp] theorem freeUsedN_objs (d : Dev) (n : Nat) : (freeUsedN d n).objs = d.objs := rfl
@[simp] theorem freeUsedN_dirty (d : Dev) (n : Nat) : (freeUsedN d n).dirty = d.dirty := rfl
@[simp] theorem freeUsedN_regs (d : Dev) (n : Nat) : (freeUsedN d n).regs = d.regs := rfl
@[simp] theorem freeUsedN_noap (d : Dev) (n : Nat) : (freeUsedN d n).noap = d.noap := rfl
@[simp] theorem freeUsedN_islands (d : Dev) (n : Nat) : (freeUsedN d n).islands = d.islands := rfl
@[simp] theorem freeUsedN_scene (d : Dev) (n : Nat) : (freeUsedN d n).scene = d.scene := rfl
@[simp] theorem freeUsedN_events (d : Dev) (n : Nat) : (freeUsedN d n).events = d.events := rfl
@[simp] theorem freeUsedN_obs (d : Dev) (n : Nat) : (freeUsedN d n).obs = d.obs := rfl
@[simp] theorem freeUsedN_power (d : Dev) (n : Nat) : (freeUsedN d n).power = d.power := rfl
@[simp] theorem freeUsedN_hearth (d : Dev) (n : Nat) : (freeUsedN d n).hearth = d.hearth := rfl
@[simp] theorem freeUsedN_pins (d : Dev) (n : Nat) : (freeUsedN d n).pins = d.pins := rfl
@[simp] theorem freeUsedN_time (d : Dev) (n : Nat) : (freeUsedN d n).time = d.time := rfl
@[simp] theorem freeUsedN_heads (d : Dev) (n : Nat) : (freeUsedN d n).heads = d.heads := rfl
@[simp] theorem freeUsedN_dram (d : Dev) (n : Nat) : (freeUsedN d n).dram = d.dram := rfl
@[simp] theorem freeUsedN_stoker (d : Dev) (n : Nat) : (freeUsedN d n).stoker = d.stoker := rfl
@[simp] theorem freeUsedN_pipes (d : Dev) (n : Nat) : (freeUsedN d n).pipes = d.pipes := rfl
@[simp] theorem freeUsedN_beam (d : Dev) (n : Nat) : (freeUsedN d n).beam = d.beam := rfl
@[simp] theorem freeUsedN_lanes (d : Dev) (n : Nat) : (freeUsedN d n).lanes = d.lanes := rfl
@[simp] theorem freeUsedN_wear (d : Dev) (n : Nat) : (freeUsedN d n).wear = d.wear := rfl
@[simp] theorem freeUsedN_audio (d : Dev) (n : Nat) : (freeUsedN d n).audio = d.audio := rfl
@[simp] theorem freeUsedN_movers (d : Dev) (n : Nat) : (freeUsedN d n).movers = d.movers := rfl
@[simp] theorem freeUsedN_net (d : Dev) (n : Nat) : (freeUsedN d n).net = d.net := rfl
@[simp] theorem freeUsedN_trust (d : Dev) (n : Nat) : (freeUsedN d n).trust = d.trust := rfl
@[simp] theorem freeUsedN_out (d : Dev) (n : Nat) : (freeUsedN d n).out = d.out := rfl

@[simp] theorem regSet_now (d : Dev) (a v r : Nat) : (regSet d a v r).now = d.now := rfl
@[simp] theorem regSet_tb (d : Dev) (a v r : Nat) : (regSet d a v r).tb = d.tb := rfl
@[simp] theorem regSet_tbInc (d : Dev) (a v r : Nat) : (regSet d a v r).tbInc = d.tbInc := rfl
@[simp] theorem regSet_timers (d : Dev) (a v r : Nat) : (regSet d a v r).timers = d.timers := rfl
@[simp] theorem regSet_objs (d : Dev) (a v r : Nat) : (regSet d a v r).objs = d.objs := rfl
@[simp] theorem regSet_dirty (d : Dev) (a v r : Nat) : (regSet d a v r).dirty = d.dirty := rfl
@[simp] theorem regSet_noap (d : Dev) (a v r : Nat) : (regSet d a v r).noap = d.noap := rfl
@[simp] theorem regSet_islands (d : Dev) (a v r : Nat) : (regSet d a v r).islands = d.islands := rfl
@[simp] theorem regSet_scene (d : Dev) (a v r : Nat) : (regSet d a v r).scene = d.scene := rfl
@[simp] theorem regSet_events (d : Dev) (a v r : Nat) : (regSet d a v r).events = d.events := rfl
@[simp] theorem regSet_obs (d : Dev) (a v r : Nat) : (regSet d a v r).obs = d.obs := rfl
@[simp] theorem regSet_power (d : Dev) (a v r : Nat) : (regSet d a v r).power = d.power := rfl
@[simp] theorem regSet_hearth (d : Dev) (a v r : Nat) : (regSet d a v r).hearth = d.hearth := rfl
@[simp] theorem regSet_pins (d : Dev) (a v r : Nat) : (regSet d a v r).pins = d.pins := rfl
@[simp] theorem regSet_time (d : Dev) (a v r : Nat) : (regSet d a v r).time = d.time := rfl
@[simp] theorem regSet_heads (d : Dev) (a v r : Nat) : (regSet d a v r).heads = d.heads := rfl
@[simp] theorem regSet_dram (d : Dev) (a v r : Nat) : (regSet d a v r).dram = d.dram := rfl
@[simp] theorem regSet_stoker (d : Dev) (a v r : Nat) : (regSet d a v r).stoker = d.stoker := rfl
@[simp] theorem regSet_pipes (d : Dev) (a v r : Nat) : (regSet d a v r).pipes = d.pipes := rfl
@[simp] theorem regSet_beam (d : Dev) (a v r : Nat) : (regSet d a v r).beam = d.beam := rfl
@[simp] theorem regSet_lanes (d : Dev) (a v r : Nat) : (regSet d a v r).lanes = d.lanes := rfl
@[simp] theorem regSet_wear (d : Dev) (a v r : Nat) : (regSet d a v r).wear = d.wear := rfl
@[simp] theorem regSet_audio (d : Dev) (a v r : Nat) : (regSet d a v r).audio = d.audio := rfl
@[simp] theorem regSet_movers (d : Dev) (a v r : Nat) : (regSet d a v r).movers = d.movers := rfl
@[simp] theorem regSet_net (d : Dev) (a v r : Nat) : (regSet d a v r).net = d.net := rfl
@[simp] theorem regSet_trust (d : Dev) (a v r : Nat) : (regSet d a v r).trust = d.trust := rfl
@[simp] theorem regSet_free (d : Dev) (a v r : Nat) : (regSet d a v r).free = d.free := rfl
@[simp] theorem regSet_out (d : Dev) (a v r : Nat) : (regSet d a v r).out = d.out := rfl

@[simp] theorem updSession_now (d : Dev) (i : Nat) (f : Session → Session) : (updSession d i f).now = d.now := rfl
@[simp] theorem updSession_tb (d : Dev) (i : Nat) (f : Session → Session) : (updSession d i f).tb = d.tb := rfl
@[simp] theorem updSession_tbInc (d : Dev) (i : Nat) (f : Session → Session) : (updSession d i f).tbInc = d.tbInc := rfl
@[simp] theorem updSession_timers (d : Dev) (i : Nat) (f : Session → Session) : (updSession d i f).timers = d.timers := rfl
@[simp] theorem updSession_objs (d : Dev) (i : Nat) (f : Session → Session) : (updSession d i f).objs = d.objs := rfl
@[simp] theorem updSession_dirty (d : Dev) (i : Nat) (f : Session → Session) : (updSession d i f).dirty = d.dirty := rfl
@[simp] theorem updSession_regs (d : Dev) (i : Nat) (f : Session → Session) : (updSession d i f).regs = d.regs := rfl
@[simp] theorem updSession_islands (d : Dev) (i : Nat) (f : Session → Session) : (updSession d i f).islands = d.islands := rfl
@[simp] theorem updSession_scene (d : Dev) (i : Nat) (f : Session → Session) : (updSession d i f).scene = d.scene := rfl
@[simp] theorem updSession_events (d : Dev) (i : Nat) (f : Session → Session) : (updSession d i f).events = d.events := rfl
@[simp] theorem updSession_obs (d : Dev) (i : Nat) (f : Session → Session) : (updSession d i f).obs = d.obs := rfl
@[simp] theorem updSession_power (d : Dev) (i : Nat) (f : Session → Session) : (updSession d i f).power = d.power := rfl
@[simp] theorem updSession_hearth (d : Dev) (i : Nat) (f : Session → Session) : (updSession d i f).hearth = d.hearth := rfl
@[simp] theorem updSession_pins (d : Dev) (i : Nat) (f : Session → Session) : (updSession d i f).pins = d.pins := rfl
@[simp] theorem updSession_time (d : Dev) (i : Nat) (f : Session → Session) : (updSession d i f).time = d.time := rfl
@[simp] theorem updSession_heads (d : Dev) (i : Nat) (f : Session → Session) : (updSession d i f).heads = d.heads := rfl
@[simp] theorem updSession_dram (d : Dev) (i : Nat) (f : Session → Session) : (updSession d i f).dram = d.dram := rfl
@[simp] theorem updSession_stoker (d : Dev) (i : Nat) (f : Session → Session) : (updSession d i f).stoker = d.stoker := rfl
@[simp] theorem updSession_pipes (d : Dev) (i : Nat) (f : Session → Session) : (updSession d i f).pipes = d.pipes := rfl
@[simp] theorem updSession_beam (d : Dev) (i : Nat) (f : Session → Session) : (updSession d i f).beam = d.beam := rfl
@[simp] theorem updSession_lanes (d : Dev) (i : Nat) (f : Session → Session) : (updSession d i f).lanes = d.lanes := rfl
@[simp] theorem updSession_wear (d : Dev) (i : Nat) (f : Session → Session) : (updSession d i f).wear = d.wear := rfl
@[simp] theorem updSession_audio (d : Dev) (i : Nat) (f : Session → Session) : (updSession d i f).audio = d.audio := rfl
@[simp] theorem updSession_movers (d : Dev) (i : Nat) (f : Session → Session) : (updSession d i f).movers = d.movers := rfl
@[simp] theorem updSession_net (d : Dev) (i : Nat) (f : Session → Session) : (updSession d i f).net = d.net := rfl
@[simp] theorem updSession_trust (d : Dev) (i : Nat) (f : Session → Session) : (updSession d i f).trust = d.trust := rfl
@[simp] theorem updSession_free (d : Dev) (i : Nat) (f : Session → Session) : (updSession d i f).free = d.free := rfl
@[simp] theorem updSession_out (d : Dev) (i : Nat) (f : Session → Session) : (updSession d i f).out = d.out := rfl

@[simp] theorem mGet_emit (d : Dev) (o : Output) (q : Ref) : mGet (emit d o) q = mGet d q := mGet_congr rfl q
@[simp] theorem nGet_emit (d : Dev) (o : Output) (q : Ref) : nGet (emit d o) q = nGet d q := nGet_congr rfl q
@[simp] theorem bGet_emit (d : Dev) (o : Output) (q : Ref) : bGet (emit d o) q = bGet d q := bGet_congr rfl q
@[simp] theorem mGet_arm (d : Dev) (k i dt : Nat) (q : Ref) : mGet (arm d k i dt) q = mGet d q := mGet_congr rfl q
@[simp] theorem nGet_arm (d : Dev) (k i dt : Nat) (q : Ref) : nGet (arm d k i dt) q = nGet d q := nGet_congr rfl q
@[simp] theorem bGet_arm (d : Dev) (k i dt : Nat) (q : Ref) : bGet (arm d k i dt) q = bGet d q := bGet_congr rfl q
@[simp] theorem mGet_disarm (d : Dev) (k i : Nat) (q : Ref) : mGet (disarm d k i) q = mGet d q := mGet_congr rfl q
@[simp] theorem nGet_disarm (d : Dev) (k i : Nat) (q : Ref) : nGet (disarm d k i) q = nGet d q := nGet_congr rfl q
@[simp] theorem bGet_disarm (d : Dev) (k i : Nat) (q : Ref) : bGet (disarm d k i) q = bGet d q := bGet_congr rfl q
@[simp] theorem mGet_freeUsed (d : Dev) (q : Ref) : mGet (freeUsed d) q = mGet d q := mGet_congr rfl q
@[simp] theorem nGet_freeUsed (d : Dev) (q : Ref) : nGet (freeUsed d) q = nGet d q := nGet_congr rfl q
@[simp] theorem bGet_freeUsed (d : Dev) (q : Ref) : bGet (freeUsed d) q = bGet d q := bGet_congr rfl q
@[simp] theorem mGet_freeUsedN (d : Dev) (n : Nat) (q : Ref) : mGet (freeUsedN d n) q = mGet d q := mGet_congr rfl q
@[simp] theorem nGet_freeUsedN (d : Dev) (n : Nat) (q : Ref) : nGet (freeUsedN d n) q = nGet d q := nGet_congr rfl q
@[simp] theorem bGet_freeUsedN (d : Dev) (n : Nat) (q : Ref) : bGet (freeUsedN d n) q = bGet d q := bGet_congr rfl q
@[simp] theorem mGet_regSet (d : Dev) (a v r : Nat) (q : Ref) : mGet (regSet d a v r) q = mGet d q := mGet_congr rfl q
@[simp] theorem nGet_regSet (d : Dev) (a v r : Nat) (q : Ref) : nGet (regSet d a v r) q = nGet d q := nGet_congr rfl q
@[simp] theorem bGet_regSet (d : Dev) (a v r : Nat) (q : Ref) : bGet (regSet d a v r) q = bGet d q := bGet_congr rfl q
@[simp] theorem mGet_updSession (d : Dev) (i : Nat) (f : Session → Session) (q : Ref) : mGet (updSession d i f) q = mGet d q := mGet_congr rfl q
@[simp] theorem nGet_updSession (d : Dev) (i : Nat) (f : Session → Session) (q : Ref) : nGet (updSession d i f) q = nGet d q := nGet_congr rfl q
@[simp] theorem bGet_updSession (d : Dev) (i : Nat) (f : Session → Session) (q : Ref) : bGet (updSession d i f) q = bGet d q := bGet_congr rfl q

/-- A deadline set reads as set. -/
@[simp] theorem mapFind_arm_same (d : Dev) (k i dt : Nat) : mapFind (arm d k i dt).timers (timerKey k i) = some (d.now + dt) := by
  simp [arm]

@[simp] theorem armed_disarm_same (d : Dev) (k i : Nat) : armed (disarm d k i) k i = false := by simp [armed, disarm]

/-- Several members set: one that the rest of the list does not name reads as set. -/
theorem nSets_cons (d : Dev) (r : Ref) (n : Nat) (l : List (Ref × Nat)) : nSets d ((r, n) :: l) = nSets (nSet d r n) l := rfl

@[simp] theorem nSets_nil (d : Dev) : nSets d [] = d := rfl

/-- A member that a list does not name stays. -/
theorem nGet_nSets_other (l : List (Ref × Nat)) (d : Dev) (q : Ref) (h : ∀ e ∈ l, q ≠ e.1) : nGet (nSets d l) q = nGet d q := by
  induction l generalizing d with
  | nil => rfl
  | cons e l ih =>
    have h1 : q ≠ e.1 := h e (by simp)
    calc nGet (nSets d (e :: l)) q = nGet (nSets (nSet d e.1 e.2) l) q := rfl
      _ = nGet (nSet d e.1 e.2) q := ih _ (fun x hx => h x (by simp [hx]))
      _ = nGet d q := nGet_nSet_other d _ h1

/-- A gated operation that the gate lets through. -/
theorem withGate_open (d : Dev) (sess : Nat) (r : Ref) (op : Dev → Dev × Status × List Byte) (h : writeGate d sess r = none) :
    withGate d sess r op = emitResult (actionResult r (op d)).1 sess (actionResult r (op d)).2.1 (actionResult r (op d)).2.2 := by
  simp [withGate, h]

/-- What an answer can be: the operation's own, or, for an action that names no result, octets of its type that use free values. -/
theorem actionResult_cases (r : Ref) (x : Dev × Status × List Byte) :
    actionResult r x = x ∨ ∃ n, actionResult r x = (freeUsedN x.1 n, x.2.1, freeBytes x.1.free n) := by
  unfold actionResult
  split
  · next m _ =>
    split
    · exact .inr ⟨m.typ.len, rfl⟩
    · exact .inl rfl
  · exact .inl rfl

/-- An answer keeps its status. -/
@[simp] theorem actionResult_status (r : Ref) (x : Dev × Status × List Byte) : (actionResult r x).2.1 = x.2.1 := by
  rcases actionResult_cases r x with h | ⟨n, h⟩ <;> rw [h]

/-- A gated operation that the gate refuses: the status goes out and nothing else changes. -/
theorem withGate_closed (d : Dev) (sess : Nat) (r : Ref) (op : Dev → Dev × Status × List Byte) {st : Status}
    (h : writeGate d sess r = some st) : withGate d sess r op = emitResult d sess st [] := by simp [withGate, h]

@[simp] theorem nGet_emitResult (d : Dev) (sess : Nat) (st : Status) (v : List Byte) (q : Ref) :
    nGet (emitResult d sess st v) q = nGet d q := nGet_congr rfl q
@[simp] theorem bGet_emitResult (d : Dev) (sess : Nat) (st : Status) (v : List Byte) (q : Ref) :
    bGet (emitResult d sess st v) q = bGet d q := bGet_congr rfl q

end Sys2Proof.Machine
end

