-- ==== Sys2Proof/WellFormed.lean ====
section
/-!
DEFINITION. Which operands an occurrence of a command can carry: the widths of the fields the spec gives each. The meanings are
total all the same: a command outside these bounds is answered as the spec answers a bad value.
-/
namespace Sys2Proof

/-- A number below a bound. -/
def below (bound n : Nat) : Bool := decide (n < bound)

/-- An aligned word address of the 40-bit space (R2, R6). -/
def regAddr (a : Nat) : Bool := below (2 ^ 40) a && decide (a % 4 = 0)

/-- A CAN identifier of 11 or 29 bits (R579). -/
def canId (ext : Bool) (id : Nat) : Bool := below (if ext then 2 ^ 29 else 2 ^ 11) id

/-- The length of a payload (R579, ISO 11898-1): none in a remote frame, at most 8 octets in a classical frame. -/
def canLen (fmt : CanFormat) (b : List Byte) : Bool :=
  if fmt.remote then !fmt.fd && b.isEmpty
  else decide (b.length ≤ 8) || (fmt.fd && [12, 16, 20, 24, 32, 48, 64].contains b.length)

/-- Octets of a frame, a packet or a message: 16-bit lengths. -/
def frameLen (b : List Byte) : Bool := below (2 ^ 16) b.length

/-- Symbols of a message of the back channel (R408). -/
def messageLen (m : List Symbol) : Bool := below (2 ^ 16) m.length

/-- Octets of a fixed length. -/
def octetLen (n : Nat) (b : List Byte) : Bool := decide (b.length = n)

/-- Where a datagram comes from (R42): 6 octets of a MAC address, IP addresses of 4 or 16 octets, a 16-bit port. -/
def srcWf (s : UdpSource) : Bool :=
  octetLen 6 s.mac && decide (s.ip.length = 4 ∨ s.ip.length = 16) && decide (s.own.length = s.ip.length) && below (2 ^ 16) s.port

/-- An item of a WRITE: 32-bit member, 8-bit type, 16-bit length (R64). -/
def itemWf (i : WriteItem) : Bool := below (2 ^ 32) i.ref && below (2 ^ 8) i.typ && frameLen i.val

/-- An item of a SUBSCRIBE: 32-bit member, 8-bit mode, 16-bit period (R71). -/
def subWf (i : SubItem) : Bool := below (2 ^ 32) i.ref && below (2 ^ 8) i.mode && below (2 ^ 16) i.period

/-- A temperature in 0.1 degrees of 16 signed bits (R686). -/
def decenti (t : Int) : Bool := decide (-32768 ≤ t) && decide (t ≤ 32767)

/-- A block's answer: an 8-bit reason and a 16-bit detail (R677). -/
def answerWf : StopAnswer → Bool
  | .stopped => true
  | .refuse reason detail => below (2 ^ 8) reason && below (2 ^ 16) detail
  | .timeout => true

/-- A well-formed command. -/
def Instr.wf : Instr → Bool
  | .registerWrite _ addr _ => regAddr addr
  | .untimedWriteArrival _ _ => true
  | .gatedIslandAccessResume _ => true
  | .gpioEdge _ _ => true
  | .matcherDebounceExpiry _ => true
  | .canFdFrameReceived _ fmt id dat => canId fmt.ext id && canLen fmt dat
  | .t1sFrameReceived _ frame => frameLen frame
  | .signalTimeout _ => true
  | .noapDatagramReceived src _ b => srcWf src && frameLen b
  | .hello src role slot hostKey nonce => srcWf src && below (2 ^ 8) role && below (2 ^ 8) slot && octetLen 97 hostKey && octetLen 32 nonce
  | .key sess seq sig => below (2 ^ 32) sess && below (2 ^ 32) seq && octetLen 96 sig
  | .close sess _ => below (2 ^ 32) sess
  | .read sess seq _ refs => below (2 ^ 32) sess && below (2 ^ 32) seq && refs.all (below (2 ^ 32))
  | .write sess seq items => below (2 ^ 32) sess && below (2 ^ 32) seq && items.all itemWf
  | .commit sess seq mask => below (2 ^ 32) sess && below (2 ^ 32) seq && below (2 ^ 64) mask
  | .commitDryRun sess seq mask => below (2 ^ 32) sess && below (2 ^ 32) seq && below (2 ^ 64) mask
  | .subscribe sess seq items => below (2 ^ 32) sess && below (2 ^ 32) seq && items.all subWf
  | .bulk sess seq target offset dat => below (2 ^ 32) sess && below (2 ^ 32) seq && below (2 ^ 32) target && below (2 ^ 64) offset && frameLen dat
  | .eventAck sess seq => below (2 ^ 32) sess && below (2 ^ 32) seq
  | .eventSend sess => below (2 ^ 32) sess
  | .eventRepeatExpiry sess seq => below (2 ^ 32) sess && below (2 ^ 32) seq
  | .periodicSubscriptionExpiry sess ref => below (2 ^ 32) sess && below (2 ^ 32) ref
  | .sessionIdleTimeout sess => below (2 ^ 32) sess
  | .sessionLifetimeExpiry sess => below (2 ^ 32) sess
  | .noapEnableWrite sess v => below (2 ^ 32) sess && below (2 ^ 64) v
  | .noapLiteRead _ fmt id frame => canId fmt.ext id && canLen fmt frame
  | .noapLiteWrite _ fmt id frame => canId fmt.ext id && canLen fmt frame
  | .alloc sess cls arg => below (2 ^ 32) sess && below (2 ^ 32) cls && below (2 ^ 64) arg
  | .free sess cls arg => below (2 ^ 32) sess && below (2 ^ 32) cls && below (2 ^ 32) arg
  | .realize sess surf arg => below (2 ^ 32) sess && below (2 ^ 32) surf && below (2 ^ 64) arg
  | .discard sess arg => below (2 ^ 32) sess && below (2 ^ 64) arg
  | .headFrameBoundary _ => true
  | .headFirstBoundary _ => true
  | .lineMatch _ _ => true
  | .frameDone _ => true
  | .segmentUnderrun _ _ => true
  | .pipeLineCompose _ => true
  | .raceLineRead _ _ m => below (2 ^ 14) m
  | .residentLoadComplete _ => true
  | .dramReadComplete _ found => decide (found.length ≤ 272)
  | .capacityStep kind unit => below 4 kind && below (2 ^ 32) unit
  | .hearthScrub word flips => below (2 ^ 32) word && decide (1 ≤ flips) && below 73 flips
  | .hearthSlotWrite sess _ _ m v => below (2 ^ 32) sess && below (2 ^ 8) m && below (2 ^ 64) v
  | .signalMapWrite sess _ m v => below (2 ^ 32) sess && below (2 ^ 8) m && below (2 ^ 64) v
  | .hoRequestWrite sess _ v => below (2 ^ 32) sess && below (2 ^ 64) v
  | .orbitEnableWrite sess _ v => below (2 ^ 32) sess && below (2 ^ 64) v
  | .faultClear sess mask => below (2 ^ 32) sess && below (2 ^ 64) mask
  | .mixerMismatch _ => true
  | .blinkGeneratorEdge _ => true
  | .nop _ _ => true
  | .ldA _ _ => true
  | .ldX _ _ => true
  | .ldY _ _ => true
  | .ldB _ _ => true
  | .ldH _ _ => true
  | .stA _ _ => true
  | .stX _ _ => true
  | .stY _ _ => true
  | .stB _ _ => true
  | .stH _ _ => true
  | .stT _ _ => true
  | .mvXa _ _ => true
  | .mvYa _ _ => true
  | .mvAx _ _ => true
  | .mvAy _ _ => true
  | .mvAl _ _ => true
  | .mvAt _ _ => true
  | .mvAf _ _ => true
  | .mvFa _ _ => true
  | .add _ _ => true
  | .addC _ _ => true
  | .sub _ _ => true
  | .subC _ _ => true
  | .rsb _ _ => true
  | .and _ _ => true
  | .or _ _ => true
  | .xor _ _ => true
  | .cmp _ _ => true
  | .cmpX _ _ => true
  | .cmpY _ _ => true
  | .tst _ _ => true
  | .shl _ _ => true
  | .shr _ _ => true
  | .sar _ _ => true
  | .min _ _ => true
  | .max _ _ => true
  | .addX _ _ => true
  | .addY _ _ => true
  | .mul _ _ => true
  | .mulq _ _ => true
  | .div _ _ => true
  | .recip _ _ => true
  | .sqrt _ _ => true
  | .sincos _ _ => true
  | .longOpComplete _ => true
  | .jmp _ _ => true
  | .call _ _ => true
  | .ret _ _ => true
  | .waitpos _ _ => true
  | .waitposEnd _ => true
  | .waitev _ _ => true
  | .waitevClaim _ => true
  | .eoi _ _ => true
  | .syncf _ _ => true
  | .fence _ _ => true
  | .farb _ _ => true
  | .cinv _ _ => true
  | .cinva _ _ => true
  | .ring _ _ => true
  | .dmaq _ _ => true
  | .postQueueDepart _ => true
  | .storeDrain _ => true
  | .loadDataArrival _ => true
  | .farWriteResponse _ => true
  | .timedWriteLanding _ => true
  | .beamPortQueueFree _ => true
  | .clusterFault _ => true
  | .load sess prog arg => below (2 ^ 32) sess && below (2 ^ 32) prog && below (2 ^ 64) arg
  | .laneDirectionWrite sess _ v => below (2 ^ 32) sess && below (2 ^ 64) v
  | .laneTrainingStart _ => true
  | .backChannelLock _ => true
  | .presetStepExpiry _ => true
  | .trainingDeadlineMissed _ => true
  | .trainingRetryExpiry _ => true
  | .laneReady _ => true
  | .commaLockLoss _ => true
  | .statusTimeout _ => true
  | .packetEnd _ => true
  | .queueOverflow _ => true
  | .ack _ msg => messageLen msg
  | .nak _ msg => messageLen msg
  | .retransmitTimeout _ => true
  | .status _ msg => messageLen msg
  | .sigret _ msg => messageLen msg
  | .linestat _ msg => messageLen msg
  | .data _ msg => messageLen msg
  | .rxModePacket _ pkt => frameLen pkt
  | .rxLinePacket _ pkt => frameLen pkt
  | .rxProtectedPacket _ pkt => frameLen pkt
  | .rxAudioPacket _ pkt => frameLen pkt
  | .pocRampComplete _ => true
  | .pocCutoff _ cause => below (2 ^ 8) cause
  | .pocEnableWrite sess _ v => below (2 ^ 32) sess && below (2 ^ 64) v
  | .idResponse _ msg => frameLen msg
  | .idResponseTimeout _ => true
  | .readReply _ msg => frameLen msg
  | .committed _ msg => frameLen msg
  | .committedTimeout _ => true
  | .writeRetryExpiry _ => true
  | .doseSnapshot _ => true
  | .cellRowDose _ => true
  | .gainRecompute _ => true
  | .orbitStep _ => true
  | .operatingSecond _ => true
  | .ackNew sess _ arg => below (2 ^ 32) sess && below (2 ^ 64) arg
  | .rowRead sess _ arg => below (2 ^ 32) sess && below (2 ^ 64) arg
  | .gainRead sess _ arg => below (2 ^ 32) sess && below (2 ^ 64) arg
  | .scrubRead _ found => decide (found.length ≤ 272)
  | .channelRetire _ cause => decide (1 ≤ cause) && below 5 cause
  | .retire sess _ arg => below (2 ^ 32) sess && below (2 ^ 64) arg
  | .unretire sess _ arg => below (2 ^ 32) sess && below (2 ^ 64) arg
  | .dramTrainingComplete _ _ => true
  | .post sess _ addr => below (2 ^ 32) sess && below (2 ^ 64) addr
  | .abort sess _ arg => below (2 ^ 32) sess && below (2 ^ 64) arg
  | .dmaListStart _ => true
  | .dmaListComplete _ => true
  | .kick sess _ arg => below (2 ^ 32) sess && below (2 ^ 64) arg
  | .ringEnableWrite sess _ v => below (2 ^ 32) sess && below (2 ^ 64) v
  | .fill _ => true
  | .copy _ => true
  | .clip _ => true
  | .blitCommandComplete _ => true
  | .keyOn sess _ => below (2 ^ 32) sess
  | .keyOff sess _ => below (2 ^ 32) sess
  | .voiceDurationExpiry _ => true
  | .waveTableWrite sess _ samples => below (2 ^ 32) sess && frameLen samples
  | .gainsWrite sess _ gains => below (2 ^ 32) sess && frameLen gains
  | .filterWrite sess _ coefs => below (2 ^ 32) sess && frameLen coefs
  | .start sess _ arg => below (2 ^ 32) sess && below (2 ^ 64) arg
  | .stop sess _ arg => below (2 ^ 32) sess && below (2 ^ 64) arg
  | .sequencerTick _ => true
  | .tdmFrame _ slots => decide (slots.length ≤ 16)
  | .aafPduReceived _ frame => frameLen frame
  | .talkerPduSend _ => true
  | .uplinkLinkUp _ => true
  | .uplinkLinkDown _ => true
  | .uplinkFrameReceived _ _ frame => frameLen frame
  | .arpRequest _ frame => frameLen frame
  | .icmpEcho _ frame => frameLen frame
  | .neighbourSolicitation _ frame => frameLen frame
  | .redundancyWrite sess v => below (2 ^ 32) sess && below (2 ^ 64) v
  | .pdelayExchange _ t1 t2 t3 t4 => below (2 ^ 80) t1 && below (2 ^ 80) t2 && below (2 ^ 80) t3 && below (2 ^ 80) t4
  | .gptpSync _ origin correction rx => below (2 ^ 80) origin && below (2 ^ 64) correction && below (2 ^ 64) rx
  | .gptpSyncSend _ => true
  | .setTime sess t => below (2 ^ 32) sess && below (2 ^ 64) t
  | .canBusOff _ => true
  | .canBusOffRecovery _ => true
  | .restart sess _ arg => below (2 ^ 32) sess && below (2 ^ 64) arg
  | .timerPeriod _ => true
  | .timerCompare _ _ => true
  | .timerCapture _ _ => true
  | .captureRead _ => true
  | .timerEnableWrite _ _ => true
  | .periodWrite _ _ => true
  | .startMaskWrite _ _ => true
  | .groupStart _ => true
  | .doorbell writer _ => below (2 ^ 32) writer
  | .ringAction sess source => below (2 ^ 32) sess && below (2 ^ 32) source
  | .hostClaim _ => true
  | .damperHoldExpiry _ => true
  | .eventRoutingWrite sess _ m v => below (2 ^ 32) sess && below (2 ^ 8) m && below (2 ^ 64) v
  | .holdoffWrite sess _ v => below (2 ^ 32) sess && below (2 ^ 64) v
  | .hostStateWrite sess v => below (2 ^ 32) sess && below (2 ^ 64) v
  | .set sess _ mask => below (2 ^ 32) sess && below (2 ^ 64) mask
  | .gpioClear sess _ mask => below (2 ^ 32) sess && below (2 ^ 64) mask
  | .toggle sess _ mask => below (2 ^ 32) sess && below (2 ^ 64) mask
  | .routeWrite sess m v => below (2 ^ 32) sess && below (2 ^ 8) m && below (2 ^ 64) v
  | .matcherWrite sess _ m v => below (2 ^ 32) sess && below (2 ^ 8) m && below (2 ^ 64) v
  | .hvsThresholdCrossing _ _ => true
  | .hvsFilterExpiry _ => true
  | .sleepWinter sess => below (2 ^ 32) sess
  | .sleepFrost sess => below (2 ^ 32) sess
  | .blockStopAnswer answer => answerWf answer
  | .thermalSample tj predicted => decenti tj && decenti predicted
  | .powerAverage mw vinMv vpocMv => below (2 ^ 32) mw && below (2 ^ 32) vinMv && below (2 ^ 32) vpocMv
  | .boostRequest sess arg => below (2 ^ 32) sess && below (2 ^ 64) arg
  | .boostEndRequest sess => below (2 ^ 32) sess
  | .imageVerifyComplete _ => true
  | .firekeeperRestart cause => below (2 ^ 32) cause
  | .erase sess _ arg => below (2 ^ 32) sess && below (2 ^ 64) arg
  | .verify sess _ arg => below (2 ^ 32) sess && below (2 ^ 64) arg
  | .activate sess _ arg => below (2 ^ 32) sess && below (2 ^ 64) arg
  | .enrol sess b => below (2 ^ 32) sess && frameLen b
  | .revoke sess keyId => below (2 ^ 32) sess && below (2 ^ 32) keyId
  | .revokeSlot sess ref arg => below (2 ^ 32) sess && below (2 ^ 32) ref && below (2 ^ 64) arg
  | .advance sess arg => below (2 ^ 32) sess && below (2 ^ 64) arg
  | .attest sess nonce => below (2 ^ 32) sess && octetLen 32 nonce
  | .token sess b => below (2 ^ 32) sess && frameLen b
  | .endToken sess arg => below (2 ^ 32) sess && below (2 ^ 64) arg
  | .countersRun sess => below (2 ^ 32) sess
  | .countersStop sess => below (2 ^ 32) sess
  | .clear sess arg => below (2 ^ 32) sess && below (2 ^ 64) arg
  | .arm sess arg => below (2 ^ 32) sess && below (2 ^ 64) arg
  | .trigger sess arg => below (2 ^ 32) sess && below (2 ^ 64) arg
  | .canIntegrated _ => true
  | .canProtocolError _ _ tecAdd recAdd => below 9 tecAdd && below 9 recAdd
  | .plcaBeaconReceived _ => true
  | .duplicateAddressDetectionDone _ _ => true
  | .blockLock _ => true
  | .blockLockLoss _ => true
  | .statusSend _ => true
  | .instructionCacheFill _ => true
  | .pocCooldownExpiry _ => true
  | .plcaBeaconSend _ => true
  | .plcaBeaconLoss _ => true
  | .onChangeWindowExpiry => true
  | .sceneLeaseExpiry => true
  | .capacityStepUndo => true
  | .migrationCopyComplete => true
  | .hearthPackageLoaded => true
  | .keepaliveLoss => true
  | .summaryWrite => true
  | .dramInitComplete => true
  | .engineSample => true
  | .ppsEdge => true
  | .syncTimeout => true
  | .ppsOutRise => true
  | .ppsOutFall => true
  | .rtcTick => true
  | .vinValid => true
  | .crankEntry => true
  | .crankExit => true
  | .crankTimeout => true
  | .vinLoss => true
  | .overvoltage => true
  | .overvoltageClear => true
  | .restoreStepComplete => true
  | .wearFlushEnd => true
  | .stopDelayExpiry => true
  | .sleepRollbackStep => true
  | .wakeN => true
  | .resetN => true
  | .resetNRelease => true
  | .thermalTrip => true
  | .boostEpisodeEnd => true
  | .boostLifetimeFuse => true
  | .kindlingStart => true
  | .firekeeperImageRetry => true
  | .bootSceneApply => true
  | .startDoneDeadline => true
  | .tokenExpiry => true
  | .chimneyRecordSend => true
  | .snapIn => true
  | .snapOutEnd => true
  | .vinAbsent => true
  | .boostVinLow => true
  | .commitDecision => true
  | .noapLiteResponseSent => true

end Sys2Proof
end

