-- ==== Sys2Proof/Tests/Slice0.lean ====
section
/-!
SUPPORT. Tests: for every condition WhenX of the statements a state and operands that meet it, witnesses for the other statements'
hypotheses, ill-formed commands that WellFormed refuses, and a few checks of one step.
-/
namespace Sys2Proof.Tests
open Sys2Proof.Machine


set_option Elab.async false

/-- A state over some device. -/
def on (d : Dev) : State := withDev State.reset d

/-- The state after reset with some members set. -/
def stM (l : List (Ref × Nat)) : State := on (nSets Dev.reset l)

/-- A device in which thread 0 holds program 17:0001 of head 0, running, with some members set. -/
def beamDev (l : List (Ref × Nat)) (f : Thread → Thread) : Dev :=
  updThread (nSets Dev.reset l) 0
    (fun x => f { x with prog := mref 0x17 1 0, head := 0, footprint := 4096, bank := 4096, view := List.range 16, state := .running, code := 0x1000000000, a := 7, x := 5, y := 3 })

/-- The same with a housekeeping program. -/
def houseDev (l : List (Ref × Nat)) (f : Thread → Thread) : Dev := beamDev l (fun x => f { x with house := true })

/-- A raster thread. -/
def raster (l : List (Ref × Nat)) (f : Thread → Thread) : State := on (beamDev l f)

/-- A housekeeping thread whose first line is cached. -/
def house (l : List (Ref × Nat)) (f : Thread → Thread) : State :=
  on { houseDev l f with beam.icache := [0] }

/-- An operand word of condition AL. -/
def op (m : Fin 8) (o : BitVec 19) : Be32Op := { cond := 0, mode := m, operand := o }

/-- A head with the timing of a small raster of 100 columns and 50 lines. -/
def headOn (d : Dev) (h : Nat) : Dev :=
  updHead d h (fun x => { x with timing := { x.timing with pixelClock := 100000000, hActive := 80, hFront := 4, hSync := 8, hBack := 8, vActive := 40, vFront := 4, vSync := 3, vBack := 3 } })

/-- A raster thread whose program's TARGET 0 is its own head. -/
def portDev (f : Thread → Thread) : Dev :=
  { beamDev [] f with scene.live := [(prog_TARGET 1 0 * 16, .num (mref 0x10 0 0))] }

/-- The same before its head has frames. -/
def portState : State := on (portDev id)

/-- The same with a raster and X at column 50 of line 0. -/
def portTimed : State := on (headOn (portDev (fun x => { x with x := 50 })) 0)

/-- A commit under evaluation. -/
def anEvaluation : Evaluation := { sess := 1, seq := 7, number := 3, mask := 1, dryRun := false, received := 0, taken := [] }

/-- A peer on uplink 0. -/
def aPeer : Peer := { upl := 0, mac := [2, 0, 0, 0, 0, 9], ip := [10, 0, 0, 2], port := 49702, own := [10, 0, 0, 1] }

/-- A source on uplink 1. -/
def aSource : UdpSource := { uplink := 1, mac := [2, 0, 0, 0, 0, 9], ip := [10, 0, 0, 3], port := 49702, own := [10, 0, 0, 1] }

/-- An open controlling session. -/
def aSession : Session :=
  { id := 1, controller := true, isOpen := true, slot := 2, digest := [], keys := [], seqIn := 5, seqOut := 9, msgsIn := 0, msgsOut := 0, kept := [],
    waiting := [], peer := aPeer, openedAt := 0, lastMsg := 0, subs := [], queue := [], unacked := [] }

/-- A device with that session and some members set. -/
def sessDev (l : List (Ref × Nat)) : Dev := { nSets Dev.reset ([(dev_LIFECYCLE, 1)] ++ l) with noap.sessions := [aSession] }

/-- The same as a state. -/
def withSession (l : List (Ref × Nat)) : State := on (sessDev l)

/-- A state in which timer channel 95 is as given. -/
def timerSt (f : Timer → Timer) : State := on (updTimer Dev.reset 95 f)

/-- A notification of LIFECYCLE. -/
def aNotif : Notif := { kind := 0, flags := 0, ref := dev_LIFECYCLE, time := 3, typ := 2, val := [1], source := none }

/-- An unacknowledged EVENT of that notification, sent some times. -/
def anEvent (n : Nat) : Unacked := { seq := 9, heard := false, repeats := n, deadline := 0, notifs := [aNotif] }

/-- That session with a request of a type and FLAGS that waits. -/
def waitSession (seq typ flags : Nat) : Session :=
  { aSession with waiting := [{ seq := seq, typ := typ, flags := flags, peer := { aPeer with ip := [10, 0, 0, 3] }, arrived := 0, started := false }] }

/-- A device with its network up, the Firekeeper running and one open controlling session on uplink 0. -/
def netDev : Dev :=
  { sessDev [(noap_ENABLE, 1), (dev_FK_STATE, 1), (upl_LINK 0, 1)] with islands.off := [] }

/-- A device whose session has a request that waits. -/
def withWait (seq typ flags : Nat) (d : Dev) : Dev := { d with noap.sessions := [waitSession seq typ flags] }

/-- The same device with a request that waits. -/
def waitDev (seq typ flags : Nat) : Dev := withWait seq typ flags netDev

/-- The same with surface 5 in the hot bank of cluster 0. -/
def bulkState : State :=
  on { nSets netDev [(surf_LOCATION 5, 2), (surf_ADDRESS 5, 0x1000000100), (surf_SIZE 5, 256), (surf_BUFFERS 5, 1)] with
    scene.alloc := [(mref 0x13 5 0, 1)], scene.pool := [{ owner := mref 0x13 5 0, lo := 0x1000000100, hi := 0x1000000200 }], dram.ready := true }

/-- A device with NOAP-lite on CAN FD controller 3. -/
def liteState : State :=
  on { nSets Dev.reset [(lite_LITE_CONTROLLER, 3), (lite_LITE_REQ_ID, 5), (lite_LITE_EXT_ID, 0), (can_MODE 3, 1), (can_STATE 3, 2), (dev_FK_STATE, 1),
    (dev_LIFECYCLE, 1)] with islands.off := [] }

/-- A commit under evaluation that enables head 0, which has no lane. -/
def failEval : Evaluation := { anEvaluation with taken := [{ ref := head_ENABLE 0, val := .num 1, heads := 1 }] }

/-- Live values of head 0. -/
def liveAt (l : List (Ref × Nat)) : SMap Val := l.foldl (fun m e => mapPut m (16 * e.1) (.num e.2)) []

/-- Band 11:0005 of head 0 on pipe 31. -/
def aPlace : BandPlace := { band := mref 0x11 5 0, head := 0, first := 31, split := 1, stages := 1 }

/-- A device whose pipe 31 composes that band, with head 0 running and its beam at a frame line, and more live values. -/
def pipeDev (line : Nat) (l : List (Ref × Nat)) (alloc : SMap Nat) : Dev :=
  { nSets (headOn Dev.reset 0) [(head_STATE 0, 3)] with
    tb := (line * 1000 + 10) * 2 ^ 32, stoker.bands := [aPlace], scene.alloc := mapPut alloc (mref 0x11 5 0) 1,
    scene.live := liveAt ([(band_HEAD 5, headRef 0), (band_ENABLE 5, 1), (band_TOP 5, 0), (band_HEIGHT 5, 40)] ++ l) }

/-- The same with a race-mode video layer 12:0009 of surface 13:0005, bound to input 2, which has written n lines. -/
def raceState (n : Nat) : State :=
  let d := pipeDev 10 [(layer_BAND 9, mref 0x11 5 0), (layer_ENABLE 9, 1), (layer_KIND 9, 3), (layer_SOURCE 9, mref 0x13 5 0),
    (layer_WIDTH 9, 64), (layer_HEIGHT 9, 32), (layer_SRC_W 9, 64), (layer_SRC_H 9, 32)] [(mref 0x12 9 0, 1), (mref 0x13 5 0, 1)]
  on { nSets d [(vin_SURFACE 2, mref 0x13 5 0), (vin_BUFFER_MODE 2, 1), (vin_WRITING 2, 0)] with
    dram.ready := true, scene.selected := [(5, 0)], lanes.input := [(2, { VideoIn.reset with line := n, started := true, surface := mref 0x13 5 0 })] }

/-- A READY receive lane 31 in block lock that input 15 takes and whose next SEQ is 255. -/
def rxLane : State :=
  on (updLane (nSets Dev.reset [(lane_DIRECTION 31, 2), (lane_STATE 31, 6), (vin_LANE 15, 31)]) 31 (fun x => { x with blockLock := true, rxSeq := 255 }))

/-- The same while a frame is written into buffer 0 of surface 13:0005. -/
def rxLineState : State :=
  on { nSets rxLane.dev [(vin_WRITING 15, 0), (vin_STREAM_STATE 15, 3), (vin_HEIGHT 15, 3), (vin_WIDTH 15, 16), (vin_FORMAT 15, 2), (surf_FORMAT 5, 2),
    (surf_WIDTH 5, 16), (surf_HEIGHT 5, 3), (surf_ADDRESS 5, 0x1000000000), (surf_LOCATION 5, 2)] with
    dram.ready := true, lanes.input := [(15, { VideoIn.reset with surface := mref 0x13 5 0 })] }

/-- A LINE packet of octets 8 to 15 of active line 2 of a line stream of n octets. -/
def rxLinePkt (n : Nat) : List Byte := linePacket 2 8 n 0 (octets [1, 2, 3, 4, 5, 6, 7, 8])

/-- A migration of surface 13:0005 to bank 1. -/
def aMigration : Migration :=
  { surf := mref 0x13 5 0, dest := 0x1000100000, size := 4, copied := false, toSwitch := 0, switched := 0, got := [] }

/-- A list that copies two octets from bank 0. -/
def aJob : DmaJob :=
  { seq := 9, flags := 0, next := 0, record := 0, src := [(0x1000000000, 2)], dst := [(0x1000000100, 2)], aborted := none, got := [] }

/-- A list of one source and one destination of 64 octets. -/
def listOctets (dst : Nat) : List Byte :=
  octets [1, 1, 0, 0, 7, 0, 0, 0] ++ zeros 56 ++ leBytes 8 0x1000000800 ++ leBytes 4 64 ++ zeros 4 ++ leBytes 8 dst ++ leBytes 4 64 ++ zeros 4

/-- A state in which a channel's queue names a list at the start of bank 0. -/
def listState (n : Nat) (b : List Byte) : State :=
  let s := on { updChan Dev.reset n (fun x => { x with queue := [0x1000000000] }) with dram.ready := true }
  { s with mem := memWriteBytes s.mem 0x1000000000 b }

/-- A FILL of two pixels of format 1 at the start of bank 1. -/
def fillCmd : List Byte :=
  octets [1, 0, 0, 0, 5, 0, 0, 0] ++ leBytes 8 0x1000100000 ++ zeros 8 ++ leBytes 4 64 ++ zeros 12 ++ leBytes 2 2 ++ leBytes 2 1 ++ octets [1, 0, 0, 0, 9] ++ zeros 15

/-- That command of slot 0 under way in a ring of bank 8. -/
def aBlit : BlitJob :=
  { cmd := fillCmd, status := 0, detail := 0, clip := [], index := 0, slot := 0x1000800040, header := 0x1000800000, again := false, got := [] }

/-- A COPY of two pixels. -/
def copyCmd : List Byte :=
  octets [2, 0, 0, 0, 5, 0, 0, 0] ++ leBytes 8 0x1000100000 ++ leBytes 8 0x1000101000 ++ leBytes 4 64 ++ leBytes 4 64 ++ zeros 8 ++ leBytes 2 2 ++ leBytes 2 1 ++ octets [1] ++ zeros 19

/-- A CLIP of one rectangle. -/
def clipCmd : List Byte := octets [3, 0, 0, 1, 5, 0, 0, 0, 1, 0, 2, 0, 3, 0, 4, 0] ++ zeros 48

/-- A state in which ring 3 is enabled in bank 0 and has a command in its slot 1. -/
def ringState (c : List Byte) : State :=
  let d := nSets Dev.reset [(ring_ENABLE 3, 1), (ring_RING_ADDRESS 3, 0x1000000000), (ring_RING_SIZE 3, 8), (ring_CONSUME 3, 1)]
  let s := on { updRing d 3 (fun x => { x with produce := 2 }) with dram.ready := true }
  { s with mem := memWriteBytes s.mem 0x1000000080 c }

/-- A broadcast frame of an EtherType, 60 octets at least. -/
def ethTo (t : Nat) (b : List Byte) : List Byte :=
  let f := ffs 6 ++ octets [2, 0, 0, 0, 0, 9] ++ beBytes 2 t ++ b
  f ++ zeros (60 - f.length)

/-- The network up with IPv4 address 10.0.0.1 and a link-local address in use. -/
def ipDev : Dev := { nSets netDev [(addr_IPV4_ADDR, 0x0A000001)] with net.usable := [0] }

/-- An ARP request for 10.0.0.1. -/
def arpAsk : List Byte := octets [0, 1, 8, 0, 6, 4, 0, 1, 2, 0, 0, 0, 0, 9, 10, 0, 0, 2, 0, 0, 0, 0, 0, 0, 10, 0, 0, 1]

/-- An ICMP echo request to 10.0.0.1. -/
def echoAsk : List Byte :=
  octets [0x45, 0, 0, 32, 0, 0, 0, 0, 64, 1, 0, 0, 10, 0, 0, 2, 10, 0, 0, 1, 8, 0, 0, 0, 1, 2, 3, 4, 5, 6, 7, 8]

/-- The head of an ICMPv6 packet with n octets. -/
def head6 (n : Nat) : List Byte := octets [0x60, 0, 0, 0, 0, n, 58, 255, 0xFE, 0x80, 0, 0, 0, 0, 0, 0, 0, 0, 0, 0, 0, 0, 0, 9] ++ ip6Of ipDev 0 0

/-- An ICMPv6 echo request. -/
def echo6Ask : List Byte := head6 8 ++ octets [128, 0, 0, 0, 1, 2, 3, 4]

/-- A neighbour solicitation. -/
def nsAsk : List Byte := head6 24 ++ octets [135, 0, 0, 0, 0, 0, 0, 0] ++ ip6Of ipDev 0 0

/-- A talker 15 of class B with a period of samples gathered. -/
def talkDev : Dev :=
  { nSets netDev [(avtp_ENABLE 31, 1), (avtp_CHANNELS 31, 1), (strm_UPLINK 31, 0), (strm_CLASS 31, 1)] with audio.gathered := [(15, List.replicate 12 [0, 5])] }

/-- A listener 15 of stream 7. -/
def aafDev : Dev := nSets netDev [(avtp_ENABLE 15, 1), (avtp_CHANNELS 15, 1), (strm_STREAM_ID 15, 7), (strm_UPLINK 15, 0), (strm_VLAN_ID 15, 0)]

/-- A PDU of that stream with one sample. -/
def aafPdu : List Byte := octets [2, 0x81, 9, 0, 0, 0, 0, 0, 0, 0, 0, 7, 0, 0, 0, 0, 4, 0x50, 1, 16, 0, 2, 0, 0, 1, 2]

/-- The frame of that PDU. -/
def aafFrame : List Byte := zeros 6 ++ octets [2, 0, 0, 0, 0, 9, 0x22, 0xF0] ++ aafPdu ++ zeros 20

/-- A device with a payload in the ACTIVE image of slot 3, and a package to load. -/
def packageState (p : List Byte) : State :=
  on { nSets Dev.reset [(hearth_PACKAGE_STATE, 1), (slotImg_ACTIVE 3, 1)] with
    trust.slots := [(3, zeros 16 ++ leBytes 4 p.length ++ zeros 492 ++ p)] }

/-- The head of a raster program's payload with a footprint of 1,024. -/
def progPayload : List Byte := zeros 8 ++ leBytes 4 1024 ++ zeros 20

/-- An image with that payload. -/
def progImage (b : List Byte) : List Byte := zeros 16 ++ leBytes 4 32 ++ zeros 492 ++ progPayload ++ b

/-- Whether a command answers a next state. -/
def answers (c : Instr) (s : State) : Bool := match exec c s with | .next _ => true | _ => false

/-! ### WellFormed refuses what no occurrence can carry -/

/-- Six octets. -/
def octets6 : List Byte := [0, 0, 0, 0, 0, 0]

/-- Four octets. -/
def octets4 : List Byte := [0, 0, 0, 0]

theorem test_ill_formed_1 : ([.registerWrite 0 1099511627776 0, .registerWrite 0 2 0, .canFdFrameReceived 0 { ext := true, brs := true, fd := true, remote := false } 536870912 [], .canFdFrameReceived 0 { ext := true, brs := true, fd := true, remote := false } 0 (List.replicate 9 0), .noapDatagramReceived { uplink := 0, mac := octets4, ip := octets4, port := 0, own := octets4 } true [], .noapDatagramReceived { uplink := 0, mac := octets6, ip := octets6, port := 0, own := octets4 } true [], .noapDatagramReceived { uplink := 0, mac := octets6, ip := octets4, port := 0, own := octets6 } true [], .noapDatagramReceived { uplink := 0, mac := octets6, ip := octets4, port := 65536, own := octets4 } true [], .hello { uplink := 0, mac := octets4, ip := octets4, port := 0, own := octets4 } 0 0 (List.replicate 97 0) (List.replicate 32 0), .hello { uplink := 0, mac := octets6, ip := octets6, port := 0, own := octets4 } 0 0 (List.replicate 97 0) (List.replicate 32 0), .hello { uplink := 0, mac := octets6, ip := octets4, port := 0, own := octets6 } 0 0 (List.replicate 97 0) (List.replicate 32 0), .hello { uplink := 0, mac := octets6, ip := octets4, port := 65536, own := octets4 } 0 0 (List.replicate 97 0) (List.replicate 32 0), .hello { uplink := 0, mac := octets6, ip := octets4, port := 0, own := octets4 } 256 0 (List.replicate 97 0) (List.replicate 32 0), .hello { uplink := 0, mac := octets6, ip := octets4, port := 0, own := octets4 } 0 256 (List.replicate 97 0) (List.replicate 32 0), .hello { uplink := 0, mac := octets6, ip := octets4, port := 0, own := octets4 } 0 0 (List.replicate 96 0) (List.replicate 32 0), .hello { uplink := 0, mac := octets6, ip := octets4, port := 0, own := octets4 } 0 0 (List.replicate 97 0) (List.replicate 31 0)] : List Instr).all (fun i => !i.wf) = true := by decide
theorem test_ill_formed_2 : ([.key 4294967296 0 (List.replicate 96 0), .key 0 4294967296 (List.replicate 96 0), .key 0 0 (List.replicate 95 0), .close 4294967296 true, .read 4294967296 0 true [], .read 0 4294967296 true [], .read 0 0 true [4294967296], .write 4294967296 0 [], .write 0 4294967296 [], .write 0 0 [{ ref := 4294967296, typ := 0, val := [] }], .write 0 0 [{ ref := 0, typ := 256, val := [] }], .commit 4294967296 0 0, .commit 0 4294967296 0, .commit 0 0 18446744073709551616, .commitDryRun 4294967296 0 0, .commitDryRun 0 4294967296 0] : List Instr).all (fun i => !i.wf) = true := by decide
theorem test_ill_formed_3 : ([.commitDryRun 0 0 18446744073709551616, .subscribe 4294967296 0 [], .subscribe 0 4294967296 [], .subscribe 0 0 [{ ref := 4294967296, mode := 0, period := 0 }], .subscribe 0 0 [{ ref := 0, mode := 256, period := 0 }], .subscribe 0 0 [{ ref := 0, mode := 0, period := 65536 }], .bulk 4294967296 0 0 0 [], .bulk 0 4294967296 0 0 [], .bulk 0 0 4294967296 0 [], .bulk 0 0 0 18446744073709551616 [], .eventAck 4294967296 0, .eventAck 0 4294967296, .eventSend 4294967296, .eventRepeatExpiry 4294967296 0, .eventRepeatExpiry 0 4294967296, .periodicSubscriptionExpiry 4294967296 0] : List Instr).all (fun i => !i.wf) = true := by decide
theorem test_ill_formed_4 : ([.periodicSubscriptionExpiry 0 4294967296, .sessionIdleTimeout 4294967296, .sessionLifetimeExpiry 4294967296, .noapEnableWrite 4294967296 0, .noapEnableWrite 0 18446744073709551616, .noapLiteRead 0 { ext := true, brs := true, fd := true, remote := false } 536870912 [], .noapLiteRead 0 { ext := true, brs := true, fd := true, remote := false } 0 (List.replicate 9 0), .noapLiteWrite 0 { ext := true, brs := true, fd := true, remote := false } 536870912 [], .noapLiteWrite 0 { ext := true, brs := true, fd := true, remote := false } 0 (List.replicate 9 0), .alloc 4294967296 0 0, .alloc 0 4294967296 0, .alloc 0 0 18446744073709551616, .free 4294967296 0 0, .free 0 4294967296 0, .free 0 0 4294967296, .realize 4294967296 0 0] : List Instr).all (fun i => !i.wf) = true := by decide
theorem test_ill_formed_5 : ([.realize 0 4294967296 0, .realize 0 0 18446744073709551616, .discard 4294967296 0, .discard 0 18446744073709551616, .raceLineRead 0 0 16384, .capacityStep 4 0, .capacityStep 0 4294967296, .hearthScrub 4294967296 1, .hearthScrub 0 0, .hearthScrub 0 73, .hearthSlotWrite 4294967296 0 0 0 0, .hearthSlotWrite 0 0 0 256 0, .hearthSlotWrite 0 0 0 0 18446744073709551616, .signalMapWrite 4294967296 0 0 0, .signalMapWrite 0 0 256 0, .signalMapWrite 0 0 0 18446744073709551616] : List Instr).all (fun i => !i.wf) = true := by decide
theorem test_ill_formed_6 : ([.hoRequestWrite 4294967296 0 0, .hoRequestWrite 0 0 18446744073709551616, .orbitEnableWrite 4294967296 0 0, .orbitEnableWrite 0 0 18446744073709551616, .faultClear 4294967296 0, .faultClear 0 18446744073709551616, .load 4294967296 0 0, .load 0 4294967296 0, .load 0 0 18446744073709551616, .laneDirectionWrite 4294967296 0 0, .laneDirectionWrite 0 0 18446744073709551616, .pocCutoff 0 256, .pocEnableWrite 4294967296 0 0, .pocEnableWrite 0 0 18446744073709551616, .ackNew 4294967296 0 0, .ackNew 0 0 18446744073709551616] : List Instr).all (fun i => !i.wf) = true := by decide
theorem test_ill_formed_7 : ([.rowRead 4294967296 0 0, .rowRead 0 0 18446744073709551616, .gainRead 4294967296 0 0, .gainRead 0 0 18446744073709551616, .channelRetire 0 0, .channelRetire 0 5, .retire 4294967296 0 0, .retire 0 0 18446744073709551616, .unretire 4294967296 0 0, .unretire 0 0 18446744073709551616, .post 4294967296 0 0, .post 0 0 18446744073709551616, .abort 4294967296 0 0, .abort 0 0 18446744073709551616, .kick 4294967296 0 0, .kick 0 0 18446744073709551616] : List Instr).all (fun i => !i.wf) = true := by decide
theorem test_ill_formed_8 : ([.ringEnableWrite 4294967296 0 0, .ringEnableWrite 0 0 18446744073709551616, .keyOn 4294967296 0, .keyOff 4294967296 0, .waveTableWrite 4294967296 0 [], .gainsWrite 4294967296 0 [], .filterWrite 4294967296 0 [], .start 4294967296 0 0, .start 0 0 18446744073709551616, .stop 4294967296 0 0, .stop 0 0 18446744073709551616, .tdmFrame 0 (List.replicate 17 0), .redundancyWrite 4294967296 0, .redundancyWrite 0 18446744073709551616, .pdelayExchange 0 1208925819614629174706176 0 0 0, .pdelayExchange 0 0 1208925819614629174706176 0 0] : List Instr).all (fun i => !i.wf) = true := by decide
theorem test_ill_formed_9 : ([.pdelayExchange 0 0 0 1208925819614629174706176 0, .pdelayExchange 0 0 0 0 1208925819614629174706176, .gptpSync 0 1208925819614629174706176 0 0, .gptpSync 0 0 18446744073709551616 0, .gptpSync 0 0 0 18446744073709551616, .setTime 4294967296 0, .setTime 0 18446744073709551616, .restart 4294967296 0 0, .restart 0 0 18446744073709551616, .doorbell 4294967296 0, .ringAction 4294967296 0, .ringAction 0 4294967296, .eventRoutingWrite 4294967296 0 0 0, .eventRoutingWrite 0 0 256 0, .eventRoutingWrite 0 0 0 18446744073709551616, .holdoffWrite 4294967296 0 0] : List Instr).all (fun i => !i.wf) = true := by decide
theorem test_ill_formed_10 : ([.holdoffWrite 0 0 18446744073709551616, .hostStateWrite 4294967296 0, .hostStateWrite 0 18446744073709551616, .set 4294967296 0 0, .set 0 0 18446744073709551616, .gpioClear 4294967296 0 0, .gpioClear 0 0 18446744073709551616, .toggle 4294967296 0 0, .toggle 0 0 18446744073709551616, .routeWrite 4294967296 0 0, .routeWrite 0 256 0, .routeWrite 0 0 18446744073709551616, .matcherWrite 4294967296 0 0 0, .matcherWrite 0 0 256 0, .matcherWrite 0 0 0 18446744073709551616, .sleepWinter 4294967296] : List Instr).all (fun i => !i.wf) = true := by decide
theorem test_ill_formed_11 : ([.sleepFrost 4294967296, .blockStopAnswer (.refuse 256 0), .blockStopAnswer (.refuse 0 65536), .thermalSample (-32769) 0, .thermalSample 32768 0, .thermalSample 0 (-32769), .thermalSample 0 32768, .powerAverage 4294967296 0 0, .powerAverage 0 4294967296 0, .powerAverage 0 0 4294967296, .boostRequest 4294967296 0, .boostRequest 0 18446744073709551616, .boostEndRequest 4294967296, .firekeeperRestart 4294967296, .erase 4294967296 0 0, .erase 0 0 18446744073709551616] : List Instr).all (fun i => !i.wf) = true := by decide
theorem test_ill_formed_12 : ([.verify 4294967296 0 0, .verify 0 0 18446744073709551616, .activate 4294967296 0 0, .activate 0 0 18446744073709551616, .enrol 4294967296 [], .revoke 4294967296 0, .revoke 0 4294967296, .revokeSlot 4294967296 0 0, .revokeSlot 0 4294967296 0, .revokeSlot 0 0 18446744073709551616, .advance 4294967296 0, .advance 0 18446744073709551616, .attest 4294967296 (List.replicate 32 0), .attest 0 (List.replicate 31 0), .token 4294967296 [], .endToken 4294967296 0] : List Instr).all (fun i => !i.wf) = true := by decide
theorem test_ill_formed_13 : ([.endToken 0 18446744073709551616, .countersRun 4294967296, .countersStop 4294967296, .clear 4294967296 0, .clear 0 18446744073709551616, .arm 4294967296 0, .arm 0 18446744073709551616, .trigger 4294967296 0, .trigger 0 18446744073709551616, .canProtocolError 0 true 9 0, .canProtocolError 0 true 0 9] : List Instr).all (fun i => !i.wf) = true := by decide
/-- 65,536 octets. -/
def longFrame : List Byte := List.replicate 65536 0

theorem test_frame_length : frameLen longFrame = false := by
  simp only [frameLen, longFrame, List.length_replicate, below]
  decide
/-- 65,536 symbols. -/
def longMessage : List Symbol := List.replicate 65536 (0)

theorem test_message_length : messageLen longMessage = false := by
  simp only [messageLen, longMessage, List.length_replicate, below]
  decide
theorem test_ill_formed_frames : ([.t1sFrameReceived 0 longFrame, .noapDatagramReceived { uplink := 0, mac := octets6, ip := octets4, port := 0, own := octets4 } true longFrame, .bulk 0 0 0 0 longFrame, .rxModePacket 0 longFrame, .rxLinePacket 0 longFrame, .rxProtectedPacket 0 longFrame, .rxAudioPacket 0 longFrame, .idResponse 0 longFrame, .readReply 0 longFrame, .committed 0 longFrame, .waveTableWrite 0 0 longFrame, .gainsWrite 0 0 longFrame, .filterWrite 0 0 longFrame, .aafPduReceived 0 longFrame, .uplinkFrameReceived 0 true longFrame, .arpRequest 0 longFrame, .icmpEcho 0 longFrame, .neighbourSolicitation 0 longFrame, .enrol 0 longFrame, .token 0 longFrame] : List Instr).all (fun i => !i.wf) = true := by
  simp [Instr.wf, test_frame_length]
theorem test_ill_formed_messages : ([.ack 0 longMessage, .nak 0 longMessage, .status 0 longMessage, .sigret 0 longMessage, .linestat 0 longMessage, .data 0 longMessage] : List Instr).all (fun i => !i.wf) = true := by
  simp [Instr.wf, test_message_length]
/-- 273 errors of a block. -/
def manyErrors : List ByteError := List.replicate 273 ⟨0, 1⟩

theorem test_error_count : decide (manyErrors.length ≤ 272) = false := by
  simp only [manyErrors, List.length_replicate]
  decide

theorem test_too_many_errors : ([.dramReadComplete 0 manyErrors, .scrubRead 0 manyErrors] : List Instr).all (fun i => !i.wf) = true := by
  simp only [List.all_cons, List.all_nil, Instr.wf, test_error_count]
  decide
theorem test_well_formed : ([.read 1 2 false [3], .thermalSample (-32768) 32767, .setTime 4294967295 18446744073709551615] : List Instr).all Instr.wf = true := by decide

/-! ### States and operands that meet the statements' conditions -/

theorem test_when_ldA_1 : WhenLdA (raster [] id) (0) (op 0 0x7FFFF) (0) := by decide
theorem test_when_ldA_2 : WhenLdA (raster [] id) (0) (op 2 0x10) (0) := by decide
theorem test_when_ldX_1 : WhenLdX (raster [] id) (0) (op 0 0x7FFFF) (0) := by decide
theorem test_when_ldX_2 : WhenLdX (raster [] id) (0) (op 2 0x10) (0) := by decide
theorem test_when_ldY_1 : WhenLdY (raster [] id) (0) (op 0 0x7FFFF) (0) := by decide
theorem test_when_ldY_2 : WhenLdY (raster [] id) (0) (op 2 0x10) (0) := by decide
theorem test_when_ldB : WhenLdB (raster [] id) (0) (op 3 0x10) (0) := by decide
theorem test_when_ldH : WhenLdH (raster [] id) (0) (op 3 0x10) (0) := by decide
theorem test_when_stA_1 : WhenStA (raster [] id) (0) (op 3 0x10) (0x15) := by decide
theorem test_when_stA_2 : WhenStA (raster [] id) (0) (op 2 0xFFF) (0xFFF) := by decide
theorem test_when_stX_1 : WhenStX (raster [] id) (0) (op 3 0x10) (0x15) := by decide
theorem test_when_stX_2 : WhenStX (raster [] id) (0) (op 2 0xFFF) (0xFFF) := by decide
theorem test_when_stY_1 : WhenStY (raster [] id) (0) (op 3 0x10) (0x15) := by decide
theorem test_when_stY_2 : WhenStY (raster [] id) (0) (op 2 0xFFF) (0xFFF) := by decide
theorem test_when_stB_1 : WhenStB (raster [] id) (0) (op 3 0x10) (0x15) := by decide
theorem test_when_stB_2 : WhenStB (raster [] id) (0) (op 2 0xFFF) (0xFFF) := by decide
theorem test_when_stH_1 : WhenStH (raster [] id) (0) (op 3 0x10) (0x15) := by decide
theorem test_when_stH_2 : WhenStH (raster [] id) (0) (op 2 0xFFF) (0xFFF) := by decide
theorem test_when_nop : WhenNop (raster [] id) (0) (op 0 0) := by decide
theorem test_when_nopIllegal_1 : WhenNopIllegal (raster [] id) (0) (op 1 0) (settleThread (raster [] id).dev 0) := by decide
theorem test_when_nopIllegal_2 : WhenNopIllegal (on { (raster [] id).dev with beam.scratch := [(2, 0xC0), (3, 0x09)] }) (0) (op 0 0) (settleThread { (raster [] id).dev with beam.scratch := [(2, 0xC0), (3, 0x09)] } 0) := by decide
theorem test_when_mvXa : WhenMvXa (raster [] id) (0) (op 0 0) := by decide
theorem test_when_mvYa : WhenMvYa (raster [] id) (0) (op 0 0) := by decide
theorem test_when_mvAx : WhenMvAx (raster [] id) (0) (op 0 0) := by decide
theorem test_when_mvAy : WhenMvAy (raster [] id) (0) (op 0 0) := by decide
theorem test_when_mvAl : WhenMvAl (raster [] id) (0) (op 0 0) := by decide
theorem test_when_mvAt : WhenMvAt (raster [] id) (0) (op 0 0) := by decide
theorem test_when_mvAf : WhenMvAf (raster [] id) (0) (op 0 0) := by decide
theorem test_when_mvFa : WhenMvFa (raster [] id) (0) (op 0 0) := by decide
theorem test_when_add_1 : WhenAdd (raster [] id) (0) (op 0 0x40001) (0xFFFC0001#32) := by decide
theorem test_when_add_2 : WhenAdd (raster [] (fun x => { x with a := 0x7FFFFFFF#32 })) (0) (op 0 1) (1) := by decide
theorem test_when_addC : WhenAddC (raster [] (fun x => { x with a := 0xFFFFFFFF#32, c := true })) (0) (op 0 0) (0) := by decide
theorem test_when_sub_1 : WhenSub (raster [] id) (0) (op 0 8) (8) := by decide
theorem test_when_sub_2 : WhenSub (raster [] (fun x => { x with a := 0x80000000#32 })) (0) (op 0 1) (1) := by decide
theorem test_when_subC : WhenSubC (raster [] id) (0) (op 0 7) (7) := by decide
theorem test_when_rsb : WhenRsb (raster [] id) (0) (op 0 0x40001) (0xFFFC0001#32) := by decide
theorem test_when_and : WhenAnd (raster [] id) (0) (op 0 0x40001) (0xFFFC0001#32) := by decide
theorem test_when_or : WhenOr (raster [] id) (0) (op 0 0x40001) (0xFFFC0001#32) := by decide
theorem test_when_xor : WhenXor (raster [] id) (0) (op 0 0x40001) (0xFFFC0001#32) := by decide
theorem test_when_cmp : WhenCmp (raster [] id) (0) (op 0 7) (7) := by decide
theorem test_when_cmpX : WhenCmpX (raster [] id) (0) (op 0 0x40001) (0xFFFC0001#32) := by decide
theorem test_when_cmpY : WhenCmpY (raster [] id) (0) (op 0 0x40001) (0xFFFC0001#32) := by decide
theorem test_when_tst : WhenTst (raster [] id) (0) (op 0 0x40001) (0xFFFC0001#32) := by decide
theorem test_when_shl_1 : WhenShl (raster [] id) (0) (op 0 1) (1) := by decide
theorem test_when_shl_2 : WhenShl (raster [] id) (0) (op 0 32) (32) := by decide
theorem test_when_shr_1 : WhenShr (raster [] id) (0) (op 0 1) (1) := by decide
theorem test_when_shr_2 : WhenShr (raster [] id) (0) (op 0 32) (32) := by decide
theorem test_when_sar_1 : WhenSar (raster [] id) (0) (op 0 1) (1) := by decide
theorem test_when_sar_2 : WhenSar (raster [] id) (0) (op 0 32) (32) := by decide
theorem test_when_min : WhenMin (raster [] id) (0) (op 0 0x40001) (0xFFFC0001#32) := by decide
theorem test_when_max : WhenMax (raster [] id) (0) (op 0 0x40001) (0xFFFC0001#32) := by decide
theorem test_when_addX : WhenAddX (raster [] id) (0) (op 0 0x40001) (0xFFFC0001#32) := by decide
theorem test_when_addY : WhenAddY (raster [] id) (0) (op 0 0x40001) (0xFFFC0001#32) := by decide
theorem test_when_mul_1 : WhenMul (raster [] id) (0) (op 0 0x40001) (0xFFFC0001#32) := by decide
theorem test_when_mul_2 : WhenMul (raster [] id) (0) (op 0 0) (0) := by decide
theorem test_when_mulq_1 : WhenMulq (raster [] id) (0) (op 0 0x40001) (0xFFFC0001#32) := by decide
theorem test_when_mulq_2 : WhenMulq (raster [] id) (0) (op 0 0) (0) := by decide
theorem test_when_div_1 : WhenDiv (raster [] id) (0) (op 0 0x40001) (0xFFFC0001#32) := by decide
theorem test_when_div_2 : WhenDiv (raster [] id) (0) (op 0 0) (0) := by decide
theorem test_when_recip_1 : WhenRecip (raster [] id) (0) (op 0 0x40001) (0xFFFC0001#32) := by decide
theorem test_when_recip_2 : WhenRecip (raster [] id) (0) (op 0 0) (0) := by decide
theorem test_when_sqrt_1 : WhenSqrt (raster [] id) (0) (op 0 0x40001) (0xFFFC0001#32) := by decide
theorem test_when_sqrt_2 : WhenSqrt (raster [] id) (0) (op 0 0) (0) := by decide
theorem test_when_sincos_1 : WhenSincos (raster [] id) (0) (op 0 0x40001) (0xFFFC0001#32) := by decide
theorem test_when_sincos_2 : WhenSincos (raster [] id) (0) (op 0 0) (0) := by decide
theorem test_when_longOpComplete : WhenLongOpComplete (raster [] (fun x => { x with longs := [(0, 9)] })) (0) (0) (9) := by decide
theorem test_when_jmp_1 : WhenJmp (raster [] id) (0) (op 0 0x7FFFF) := by decide
theorem test_when_jmp_2 : WhenJmp (raster [] id) (0) (op 3 0x103) := by decide
theorem test_when_call_1 : WhenCall (raster [] id) (0) (op 2 0x100) := by decide
theorem test_when_call_2 : WhenCall (raster [] (fun x => { x with rstack := List.replicate 7 0 })) (0) (op 0 4) := by decide
theorem test_when_ret : WhenRet (raster [] (fun x => { x with rstack := [0x40] })) (0) (op 0 0) (0x40) ([]) := by decide
theorem test_when_stAFar_1 : WhenStAFar (house [] (fun x => { x with farBase := 0x1000000000 })) (0) (0) (op 7 0x104) := by decide
theorem test_when_stAFar_2 : WhenStAFar (house [] (fun x => { x with farBase := 0x1000000000 })) (3) (0) (op 7 0x105) := by decide
theorem test_when_stARejected : WhenStARejected (house [] (fun x => { x with farBase := 0x1100000000 })) (0) (0) (op 7 0x104) := by decide
theorem test_when_stADropped : WhenStADropped (on { houseDev [] (fun x => { x with farBase := 0x3000000000 }) with beam.icache := [0], scene.alloc := [(mref 0x17 1 0, 1)] }) (0) (0) (op 7 0x104) := by decide
theorem test_when_stAPort : WhenStAPort (portState) (0) (0) (op 6 0x40) (0) (44) (0x40) ([]) := by decide
theorem test_when_stAPortDropped : WhenStAPortDropped (on { beamDev [] id with scene.alloc := [(mref 0x17 1 0, 1)] }) (0) (0) (op 6 0x40) (0) := by decide
theorem test_when_stT : WhenStT (portTimed) (0) (op 6 0x40) (0) := by decide
theorem test_when_stTLate : WhenStTLate (portState) (0) (op 6 0x40) (0) (44) (0x40) ([]) := by decide
theorem test_when_waitpos : WhenWaitpos (portTimed) (0) (op 0 0) (0) (0) (50) := by decide
set_option maxRecDepth 30000 in
theorem test_when_waitev : WhenWaitev (house [(ev_PROGRAM 3, mref 0x17 1 0), (ev_TARGET 3, 1), (ev_STATE 3, 1), (ev_COUNT 3, 3)] id) (0) (op 0 0) (3) := by decide
set_option maxRecDepth 30000 in
theorem test_when_waitevWaits : WhenWaitevWaits (house [] id) (0) (op 0 0) := by decide
theorem test_when_eoi : WhenEoi (on { (house [(ev_STATE 7, 2), (ev_COUNT 7, 3)] id).dev with events.claimant := [(7, 1)] }) (0) (op 0 0) (7) := by decide
theorem test_when_fence_1 : WhenFence (house [] id) (0) (op 0 0) := by decide
theorem test_when_fence_2 : WhenFence (raster [] id) (0) (op 0 0) := by decide
theorem test_when_syncf_1 : WhenSyncf (house [] id) (0) (op 0 0) := by decide
theorem test_when_syncf_2 : WhenSyncf (raster [] id) (0) (op 0 0) := by decide
theorem test_when_farb_1 : WhenFarb (house [] id) (0) (op 0 0x7FFFF) (0x7FFFF) := by decide
theorem test_when_farb_2 : WhenFarb (raster [] id) (0) (op 2 0x10) (0) := by decide
theorem test_when_cinv_1 : WhenCinv (house [] id) (0) (op 0 0x40) := by decide
theorem test_when_cinv_2 : WhenCinv (raster [] id) (0) (op 0 0x40) := by decide
theorem test_when_cinva_1 : WhenCinva (house [] id) (0) (op 0 0) := by decide
theorem test_when_cinva_2 : WhenCinva (raster [] id) (0) (op 0 0) := by decide
theorem test_when_ring : WhenRing (house [] id) (0) (op 0 0) := by decide
theorem test_when_dmaq : WhenDmaq (house [] id) (0) (op 0 5) := by decide
theorem test_when_storeDrain_1 : WhenStoreDrain (raster [] (fun x => { x with stores := [{ addr := 8, bytes := [1, 0, 3, 4], due := 0 }] })) (0) ({ addr := 8, bytes := [1, 0, 3, 4], due := 0 }) := by decide
theorem test_when_storeDrain_2 : WhenStoreDrain (raster [] (fun x => { x with stores := [{ addr := 4092, bytes := [1, 0, 3, 4], due := 0 }] })) (0) ({ addr := 4092, bytes := [1, 0, 3, 4], due := 0 }) := by decide
theorem test_when_storeDrainTwo : WhenStoreDrainTwo (raster [] (fun x => { x with stores := [{ addr := 8, bytes := [1, 0, 3, 4], due := 0 }, { addr := 9, bytes := [7], due := 1 }] })) (0) ({ addr := 8, bytes := [1, 0, 3, 4], due := 0 }) ({ addr := 9, bytes := [7], due := 1 }) := by decide
theorem test_when_loadDataArrival_1 : WhenLoadDataArrival (house [] (fun x => { x with state := .stalled 1 0 7 0x100, farBase := 0x1000000000 })) (0) (0) (0x100) (0x1000000100) := by decide
theorem test_when_loadDataArrival_2 : WhenLoadDataArrival (house [] (fun x => { x with state := .stalled 3 0 7 0x103, farBase := 0x1100000000 })) (0) (2) (0x103) (0x1100000100) := by decide
theorem test_when_loadDataArrivalDram : WhenLoadDataArrivalDram (on { (house [] (fun x => { x with state := .stalled 1 0 7 0x100, farBase := 0x8000000 })).dev with dram.ready := true }) (0) (0) (0x100) (0x8000100) := by decide
theorem test_when_loadDataArrivalPort : WhenLoadDataArrivalPort (on (portDev (fun x => { x with state := .stalled 1 0 6 0x10 }))) (0) (0) (0x10) (44) (0x10) ([]) := by decide
theorem test_when_instructionCacheFill : WhenInstructionCacheFill (on (houseDev [] (fun x => { x with state := .stalled 0 0 0 0 }))) (0) := by decide
set_option maxRecDepth 30000 in
theorem test_when_instructionCacheFillFull : WhenInstructionCacheFillFull (on { houseDev [] (fun x => { x with state := .stalled 0 0 0 0, pc := 0x4000, bank := 0x8000 }) with islands.gated := [0], beam.icache := List.range 256 }) (0) (0) (0) (0) (0) := by decide
theorem test_when_waitposEnd : WhenWaitposEnd (on (headOn (beamDev [(head_STATE 0, 2), (head_FRAME_COUNT 0, 9)] (fun x => { x with state := .waitPos 6 1 0 })) 0)) (0) (6) (1) (0) (0) := by decide
theorem test_when_clusterFault : WhenClusterFault (on { (raster [] id).dev with scene.evaluating := some anEvaluation }) := by decide
theorem test_when_clusterFaultStep_1 : WhenClusterFaultStep (State.reset) := by decide
theorem test_when_clusterFaultStep_2 : WhenClusterFaultStep (State.reset) := by decide
theorem test_when_clusterFaultCode : WhenClusterFaultCode (on { (raster [] id).dev with scene.evaluating := some anEvaluation }) := by decide
theorem test_when_farWriteResponse_1 : WhenFarWriteResponse (house [] (fun x => { x with farStores := 2 })) (0) := by decide
theorem test_when_farWriteResponse_2 : WhenFarWriteResponse (on { houseDev [] (fun x => { x with farStores := 2 }) with beam.posts := [(0, [⟨0, 5, 1, none, 9⟩, ⟨1, 5, 1, none, 9⟩])] }) (0) := by decide
theorem test_when_farWriteResponseBell : WhenFarWriteResponseBell (on { houseDev [] (fun x => { x with farStores := 2 }) with beam.bells := [⟨0, 5, 1, 0x8000010000, 960⟩] }) (0) (⟨0, 5, 1, 0x8000010000, 960⟩) := by decide
set_option maxRecDepth 30000 in
theorem test_when_waitevClaim : WhenWaitevClaim (house [(ev_PROGRAM 3, mref 0x17 1 0), (ev_TARGET 3, 1), (ev_STATE 3, 1), (ev_COUNT 3, 3)] (fun x => { x with state := .waitEv })) (0) (3) := by decide
theorem test_when_postQueueDepart : WhenPostQueueDepart (on { nSets Dev.reset [(dma_OWNER 4, 5)] with beam.posts := [(3, [⟨12, 5, 0, some 4, 9⟩])] }) (3) (⟨12, 5, 0, some 4, 9⟩) ([]) (4) := by decide
theorem test_when_postQueueDepartForeign : WhenPostQueueDepartForeign (on { Dev.reset with beam.posts := [(3, [⟨12, 5, 0, some 4, 9⟩])] }) (3) (⟨12, 5, 0, some 4, 9⟩) ([]) (4) := by decide
theorem test_when_postQueueDepartRings : WhenPostQueueDepartRings (on { Dev.reset with beam.posts := [(3, [⟨12, 5, 0, none, 0x203C1⟩])] }) (3) (⟨12, 5, 0, none, 0x203C1⟩) ([]) := by decide
theorem test_when_timedWriteLanding : WhenTimedWriteLanding (on (setTimed (nSets Dev.reset [(head_STATE 0, 2), (head_FRAME_COUNT 0, 9)]) 44 [{ frame := 6, line := 1, col := 0, off := 0x40, val := 0x1000001, thread := 0, prog := 5 }])) (44) (0) ({ frame := 6, line := 1, col := 0, off := 0x40, val := 0x1000001, thread := 0, prog := 5 }) := by decide
theorem test_when_timedWriteLandingPipe : WhenTimedWriteLandingPipe (on (setTimed (nSets (pipeDev 10 [] []) [(head_FRAME_COUNT 0, 9)]) 43 [{ frame := 6, line := 1, col := 0, off := 0x100, val := 1, thread := 0, prog := 5 }])) (43) (31) (0) ({ frame := 6, line := 1, col := 0, off := 0x100, val := 1, thread := 0, prog := 5 }) := by decide
theorem test_when_beamPortQueueFree : WhenBeamPortQueueFree (on (portDev (fun x => { x with state := .stalled 0x0B 0 6 0x40, timedAt := some (1, 1, 0) }))) (44) (0) (0x40) (1) (1) (0) (0) (44) (0x40) := by decide
theorem test_when_beamPortQueueFreeDropped : WhenBeamPortQueueFreeDropped (raster [] (fun x => { x with state := .stalled 0x0B 0 6 0x40 })) (44) (0) (0x40) := by decide
theorem test_when_registerWrite_1 : WhenRegisterWrite (State.reset) (103) (0x2000010000) (1) (0) := by decide
theorem test_when_registerWrite_2 : WhenRegisterWrite (State.reset) (103) (0x2000100040) (0x10) (0x40) := by decide
theorem test_when_registerWriteUnmapped : WhenRegisterWriteUnmapped (State.reset) (0x3000000000) := by decide
theorem test_when_untimedWriteArrival : WhenUntimedWriteArrival (on { Dev.reset with islands.crossing := [⟨103, 59, 0x40, 0x01FFFFFF#32, 0, 0, false⟩] }) (15) (103) (59) (⟨103, 59, 0x40, 0x01FFFFFF#32, 0, 0, false⟩) ([]) := by decide
theorem test_when_untimedWriteArrivalOff : WhenUntimedWriteArrivalOff (on { Dev.reset with islands.crossing := [⟨103, 59, 0x40, 0x01FFFFFF#32, 0, 0, false⟩], islands.off := [59] }) (103) (59) (⟨103, 59, 0x40, 0x01FFFFFF#32, 0, 0, false⟩) ([]) := by decide
theorem test_when_gatedIslandAccessResume : WhenGatedIslandAccessResume (on { Dev.reset with islands.gated := [59], islands.waiting := [⟨103, 59, 0x40, 0x01FFFFFF#32, 0, 0, false⟩] }) (59) := by decide
theorem test_when_doorbell_1 : WhenDoorbell (stM [(ev_TARGET 960, 1)]) (0x00FF03C0#32) (960) (255) := by decide
theorem test_when_doorbell_2 : WhenDoorbell (stM [(ev_COUNT 1023, 200), (ev_TARGET 1023, 0)]) (0x00FF03FF#32) (1023) (255) := by decide
theorem test_when_doorbellRejected_1 : WhenDoorbellRejected (959#32) := by decide
theorem test_when_doorbellRejected_2 : WhenDoorbellRejected (815#32) := by decide
theorem test_when_ringAction_1 : WhenRingAction (stM [(ev_TARGET 960, 0)]) (0) (960) := by decide
theorem test_when_ringAction_2 : WhenRingAction (stM [(ev_COUNT 1023, 255), (ev_TARGET 1023, 3)]) (0) (1023) := by decide
theorem test_when_ringActionTaken : WhenRingActionTaken (stM [(ev_TARGET 960, 2), (dev_FK_STATE, 1)]) (0) (960) := by decide
theorem test_when_hostClaim : WhenHostClaim (withSession [(ev_TARGET 960, 3), (ev_STATE 960, 1), (ev_COUNT 960, 2), (dev_FK_STATE, 1)]) (960) (1) := by decide
theorem test_when_damperHoldExpiry : WhenDamperHoldExpiry (on (arm (nSets Dev.reset ([(damper_HOLDING 5, 1), (ev_STATE 80, 1)] ++ (List.range 16).map (fun k => (ev_TARGET (80 + k), 1)))) tkDamper 5 0)) (5) := by decide
theorem test_when_eventRoutingWrite_1 : WhenEventRoutingWrite (State.reset) (0) (7) (1) (3) := by decide
theorem test_when_eventRoutingWrite_2 : WhenEventRoutingWrite (State.reset) (0) (7) (3) (1) := by decide
theorem test_when_eventRoutingWrite_3 : WhenEventRoutingWrite (on { nSets Dev.reset [(prog_LOADED 9, 1), (prog_KIND 9, 1)] with scene.alloc := [(mref 0x17 9 0, 1)] }) (0) (1023) (2) (mref 0x17 9 0) := by decide
theorem test_when_holdoffWrite_1 : WhenHoldoffWrite (State.reset) (0) (63) (65535) := by decide
theorem test_when_holdoffWrite_2 : WhenHoldoffWrite (stM [(damper_HOLDING 2, 1), (damper_HOLDOFF_US 2, 9)]) (0) (2) (0) := by decide
theorem test_when_hostStateWrite : WhenHostStateWrite (withSession []) (1) (1) := by decide
theorem test_when_gpioEdge : WhenGpioEdge (State.reset) (33) := by decide
theorem test_when_matcherDebounceExpiry : WhenMatcherDebounceExpiry (on (arm { Dev.reset with pins.matchResult := [(31, 1)] } tkMatcher 31 0)) (31) := by decide
theorem test_when_set : WhenSet (State.reset) (0) (4) (0x80000000) := by decide
theorem test_when_gpioClear : WhenGpioClear (State.reset) (0) (4) (0x80000000) := by decide
theorem test_when_toggle : WhenToggle (State.reset) (0) (4) (0x80000000) := by decide
theorem test_when_routeWrite : WhenRouteWrite (State.reset) (0) (1) (2) := by decide
theorem test_when_matcherWrite : WhenMatcherWrite (State.reset) (0) (31) (3) (1) := by decide
theorem test_when_hvsThresholdCrossing : WhenHvsThresholdCrossing (stM [(hvs_FILTER_US 7, 0)]) (7) (true) (1) := by decide
theorem test_when_hvsThresholdCrossingFiltered : WhenHvsThresholdCrossingFiltered (stM [(hvs_FILTER_US 7, 20)]) (7) (true) (1) := by decide
theorem test_when_hvsThresholdCrossingSame : WhenHvsThresholdCrossingSame (on { Dev.reset with pins.hvsCompare := [(7, 1)] }) (7) (true) := by decide
theorem test_when_hvsFilterExpiry : WhenHvsFilterExpiry (on (arm { Dev.reset with pins.hvsCompare := [(7, 1)] } tkHvs 7 0)) (7) := by decide
theorem test_when_signalTimeout : WhenSignalTimeout (on (arm (nSets Dev.reset [(sig_LOSS_STATE 255, 2)]) tkSignal 255 0)) (255) := by decide
set_option maxRecDepth 30000 in
theorem test_when_t1sFrameReceived : WhenT1sFrameReceived (on { nSets Dev.reset [(t1s_ENABLE 1, 1)] with islands.off := [] }) (1) ([0xFF, 0xFF, 0xFF, 0xFF, 0xFF, 0xFF, 0x02, 0x00, 0x00, 0x00, 0x00, 0x01, 0x88, 0xB5, 0x01, 0x02, 0x03, 0x04, 0x23, 0x3B, 0x69, 0x0A]) := by decide
theorem test_when_t1sFrameReceivedError : WhenT1sFrameReceivedError (on { nSets Dev.reset [(t1s_ENABLE 1, 1)] with islands.off := [] }) (1) ([]) := by decide
theorem test_when_canBusOff : WhenCanBusOff (on { nSets Dev.reset [(can_MODE 3, 1), (can_STATE 3, 3)] with islands.off := [] }) (3) := by decide
theorem test_when_canBusOffRecovery : WhenCanBusOffRecovery (stM [(can_STATE 3, 4), (can_AUTO_RECOVER 3, 1), (can_TEC 3, 9)]) (3) := by decide
theorem test_when_restart : WhenRestart (stM [(can_STATE 3, 4), (can_TEC 3, 9)]) (0) (3) := by decide
theorem test_when_canIntegrated : WhenCanIntegrated (on { nSets Dev.reset [(can_STATE 3, 1)] with islands.off := [] }) (3) := by decide
theorem test_when_canProtocolError_1 : WhenCanProtocolError (on { nSets Dev.reset [(can_MODE 3, 1), (can_STATE 3, 2), (can_TEC 3, 248)] with islands.off := [] }) (3) (true) (8) (0) (256) (0) := by decide
theorem test_when_canProtocolError_2 : WhenCanProtocolError (on { nSets Dev.reset [(can_MODE 3, 1), (can_STATE 3, 2), (can_REC 3, 127)] with islands.off := [] }) (3) (false) (8) (1) (0) (128) := by decide
theorem test_when_canProtocolErrorListening : WhenCanProtocolErrorListening (on { nSets Dev.reset [(can_MODE 3, 2), (can_STATE 3, 2)] with islands.off := [] }) (3) := by decide
theorem test_when_plcaBeaconSend : WhenPlcaBeaconSend (on { nSets Dev.reset [(t1s_ENABLE 1, 1), (t1s_PLCA_ENABLE 1, 1)] with islands.off := [] }) (1) := by decide
theorem test_when_plcaBeaconReceived : WhenPlcaBeaconReceived (on { nSets Dev.reset [(t1s_ENABLE 1, 1), (t1s_PLCA_ENABLE 1, 1), (t1s_NODE_ID 1, 3)] with islands.off := [] }) (1) := by decide
theorem test_when_plcaBeaconLoss : WhenPlcaBeaconLoss (on (arm (nSets Dev.reset [(t1s_PLCA_STATUS 1, 1)]) tkBeacon 1 0)) (1) := by decide
theorem test_when_canFdFrameReceived : WhenCanFdFrameReceived (on { nSets Dev.reset [(can_MODE 3, 1), (can_STATE 3, 2), (lite_LITE_CONTROLLER, 255)] with islands.off := [] }) (3) := by decide
theorem test_when_canFdFrameReceivedRemote_1 : WhenCanFdFrameReceivedRemote (on { nSets Dev.reset [(can_MODE 3, 1), (can_STATE 3, 2)] with islands.off := [] }) (3) := by decide
theorem test_when_canFdFrameReceivedRemote_2 : WhenCanFdFrameReceivedRemote (on { nSets Dev.reset [(can_MODE 3, 2), (can_STATE 3, 2)] with islands.off := [] }) (3) := by decide
theorem test_when_setTime : WhenSetTime (State.reset) (0) (1700000000000000000) := by decide
theorem test_when_gptpSync : WhenGptpSync (stM [(time_SOURCE, 1), (upl_GPTP_ROLE 1, 1)]) (1) (5000) (0) (10000000000) (9999995000) := by decide
theorem test_when_ppsEdge : WhenPpsEdge (on { nSets Dev.reset [(time_SOURCE, 2)] with tb := 2000500000 * 2 ^ 32, time.ppsLast := some 1000500000 }) (1000500000) (2000500000) := by decide
theorem test_when_ppsEdgeRejected : WhenPpsEdgeRejected (on { nSets Dev.reset [(time_SOURCE, 2)] with tb := 2002500000 * 2 ^ 32, time.ppsLast := some 1000500000 }) (1000500000) := by decide
theorem test_when_syncTimeout : WhenSyncTimeout (on (arm (nSets Dev.reset [(time_SOURCE, 1), (time_STATE, 2)]) tkSync 0 0)) := by decide
theorem test_when_ppsOutRise : WhenPpsOutRise (on { nSets Dev.reset [(time_PPS_OUT_ENABLE, 1), (time_TIME_VALID, 1)] with tb := 3000000000 * 2 ^ 32 }) (3) := by decide
theorem test_when_ppsOutFall : WhenPpsOutFall (on (arm { Dev.reset with time.ppsOut := true } tkPps 0 0)) := by decide
theorem test_when_timerPeriod : WhenTimerPeriod (timerSt (fun t => { t with enable := true, period := 100, count := 103, compare0 := 5 })) (95) := by decide
theorem test_when_timerCompare_1 : WhenTimerCompare (timerSt (fun t => { t with enable := true, period := 100, count := 50, compare0 := 5, add0 := 98 })) (95) (0) := by decide
theorem test_when_timerCompare_2 : WhenTimerCompare (timerSt (fun t => { t with enable := true, period := 100, count := 50, compare1 := 50 })) (95) (1) := by decide
theorem test_when_timerCapture : WhenTimerCapture (timerSt (fun t => { t with count := 77, capNew := true, capSrc := 168, capEdge := 1 })) (95) (false) := by decide
theorem test_when_captureRead : WhenCaptureRead (timerSt (fun t => { t with count := 77, capNew := true })) (95) := by decide
theorem test_when_timerEnableWrite_1 : WhenTimerEnableWrite (timerSt (fun t => { t with phase := 9, prescale := 4 })) (95) := by decide
theorem test_when_timerEnableWrite_2 : WhenTimerEnableWrite (timerSt (fun t => { t with enable := true, phase := 9, prescale := 4 })) (95) := by decide
theorem test_when_timerEnableWriteOff : WhenTimerEnableWriteOff (on { Dev.reset with islands.off := [11] }) (95) := by decide
theorem test_when_timerEnableWriteWaits : WhenTimerEnableWriteWaits (on { Dev.reset with islands.gated := [11] }) (95) := by decide
theorem test_when_periodWrite_1 : WhenPeriodWrite (timerSt (fun t => { t with enable := true, period := 100, count := 50 })) (95) := by decide
theorem test_when_periodWrite_2 : WhenPeriodWrite (timerSt (fun t => { t with enable := true, period := 100, count := 50 })) (95) := by decide
theorem test_when_startMaskWrite : WhenStartMaskWrite (State.reset) (11) (0x1FF#32) := by decide
theorem test_when_startMaskWriteLate : WhenStartMaskWriteLate (on { Dev.reset with tb := 5 * 2 ^ 32 }) (11) (0x81#32) := by decide
theorem test_when_groupStart : WhenGroupStart (on (updStart (updTimer Dev.reset 95 (fun t => { t with phase := 6 })) 11 (fun g => { g with mask := 0x81 }))) (11) := by decide
set_option maxRecDepth 30000 in
theorem test_when_token : WhenToken (stM [(time_TIME_VALID, 1)]) (0) (octets [0x56, 0x53, 0x42, 0x4F, 1, 0] ++ zeros 346) (0) (0) (0) := by decide
theorem test_when_endToken : WhenEndToken (stM [(obs_TOKEN_STATE, 1)]) (0) := by decide
theorem test_when_tokenExpiry : WhenTokenExpiry (stM [(obs_TOKEN_STATE, 1)]) := by decide
theorem test_when_chimneyRecordSend : WhenChimneyRecordSend (on { nSets Dev.reset [(obs_TOKEN_STATE, 1)] with obs.fifo := [⟨1, 960, 5, 1⟩] }) (⟨1, 960, 5, 1⟩) ([]) := by decide
theorem test_when_chimneyRecordSendLost : WhenChimneyRecordSendLost (on { nSets Dev.reset [(obs_TOKEN_STATE, 1)] with obs.fifo := [⟨1, 960, 5, 1⟩], obs.dropped := 7 }) (⟨1, 960, 5, 1⟩) ([]) := by decide
theorem test_when_countersRun : WhenCountersRun (State.reset) (0) := by decide
theorem test_when_countersStop : WhenCountersStop (State.reset) (0) := by decide
theorem test_when_clear : WhenClear (stM [(ctr_VALUE 511, 9)]) (0) := by decide
theorem test_when_arm : WhenArm (State.reset) (0) := by decide
theorem test_when_trigger : WhenTrigger (stM [(snap_SOURCES, 15), (snap_ARMED, 1)]) (0) := by decide
theorem test_when_triggerMissed : WhenTriggerMissed (stM [(snap_SOURCES, 15)]) (0) := by decide
theorem test_when_snapIn : WhenSnapIn (stM [(snap_SOURCES, 15), (snap_ARMED, 1)]) := by decide
theorem test_when_snapOutEnd : WhenSnapOutEnd (on (arm { Dev.reset with obs.snapOut := true } tkSnapOut 0 0)) := by decide
theorem test_when_hearthSlotWrite : WhenHearthSlotWrite (State.reset) (0) (15) (63) (5) (255) (1023) := by decide
theorem test_when_signalMapWrite : WhenSignalMapWrite (State.reset) (0) (255) (1) (3) := by decide
theorem test_when_hoRequestWrite_1 : WhenHoRequestWrite (State.reset) (0) (15) (1) := by decide
theorem test_when_hoRequestWrite_2 : WhenHoRequestWrite (stM [(hhead_HO_REQUEST 15, 1), (hhead_HO_CAUSE 15, 0x13)]) (0) (15) (0) := by decide
theorem test_when_orbitEnableWrite : WhenOrbitEnableWrite (State.reset) (0) (15) (0) := by decide
theorem test_when_faultClear : WhenFaultClear (on (updHHead (nSets Dev.reset [(hhead_FAULTS 15, 4), (hhead_HO_CAUSE 15, 0x20)]) 15 (fun x => { x with mixClean := true }))) (0) (0x8000) (15) := by decide
theorem test_when_mixerMismatch : WhenMixerMismatch (State.reset) (15) := by decide
theorem test_when_keepaliveLoss : WhenKeepaliveLoss (on { Dev.reset with hearth.released := false }) := by decide
theorem test_when_hearthScrub : WhenHearthScrub (262143) := by decide
theorem test_when_hearthScrubBad : WhenHearthScrubBad (262143) (2) := by decide
theorem test_when_noapDatagramReceived : WhenNoapDatagramReceived (on netDev) (octets [0x4E, 0x4F, 1, 1, 0, 0, 0, 1, 0, 0, 0, 1, 0, 0, 0, 9, 7] ++ zeros 16) (aSession) (1) (9) := by decide
theorem test_when_noapDatagramReceivedResponse : WhenNoapDatagramReceivedResponse (on { netDev with noap.sessions := [{ aSession with unacked := [anEvent 0] }] }) (octets [0x4E, 0x4F, 1, 5, 0, 1, 0, 1, 0, 0, 0, 1, 0, 0, 0, 9, 0] ++ zeros 16) ({ aSession with unacked := [anEvent 0] }) (anEvent 0) (1) := by decide
theorem test_when_noapDatagramReceivedFragment : WhenNoapDatagramReceivedFragment (on netDev) := by decide
theorem test_when_hello : WhenHello (on netDev) := by decide
theorem test_when_key : WhenKey (on { netDev with noap.sessions := [{ waitSession 9 0x11 0 with isOpen := false }] }) (1) (9) ({ waitSession 9 0x11 0 with isOpen := false }) := by decide
theorem test_when_close : WhenClose (on netDev) (1) (aSession) := by decide
theorem test_when_sessionIdleTimeout : WhenSessionIdleTimeout (on { netDev with now := 10 ^ 15 }) (1) (aSession) := by decide
theorem test_when_sessionLifetimeExpiry : WhenSessionLifetimeExpiry (on { netDev with now := 86400000000000 }) (1) (aSession) := by decide
theorem test_when_noapEnableWrite : WhenNoapEnableWrite (on netDev) (1) (0) := by decide
theorem test_when_subscribe : WhenSubscribe (on (waitDev 9 4 0)) (1) (9) (dev_LIFECYCLE) (1) (10) := by decide
theorem test_when_eventSend : WhenEventSend (on { netDev with noap.sessions := [{ aSession with queue := [aNotif] }] }) (1) ({ aSession with queue := [aNotif] }) (aNotif) := by decide
theorem test_when_eventRepeatExpiry : WhenEventRepeatExpiry (on { netDev with noap.sessions := [{ aSession with unacked := [anEvent 4] }] }) (1) (9) ({ aSession with unacked := [anEvent 4] }) (anEvent 4) := by decide
theorem test_when_eventRepeatExpiryLost : WhenEventRepeatExpiryLost (on { netDev with noap.sessions := [{ aSession with unacked := [anEvent 5] }] }) (1) (9) ({ aSession with unacked := [anEvent 5] }) (anEvent 5) := by decide
theorem test_when_eventAck : WhenEventAck (on { netDev with noap.sessions := [{ aSession with unacked := [anEvent 4] }] }) (1) (9) ({ aSession with unacked := [anEvent 4] }) (anEvent 4) := by decide
theorem test_when_periodicSubscriptionExpiry : WhenPeriodicSubscriptionExpiry (on { netDev with noap.sessions := [{ aSession with subs := [⟨dev_LIFECYCLE, true, 10, 0, []⟩] }] }) (1) (dev_LIFECYCLE) ({ aSession with subs := [⟨dev_LIFECYCLE, true, 10, 0, []⟩] }) (⟨dev_LIFECYCLE, true, 10, 0, []⟩) ({ kind := 0, flags := 0, ref := dev_LIFECYCLE, time := 0, typ := 2, val := [1], source := none }) := by decide
theorem test_when_onChangeWindowExpiry : WhenOnChangeWindowExpiry (on { netDev with now := 1000000, noap.sessions := [{ aSession with subs := [⟨dev_LIFECYCLE, false, 0, 0, []⟩] }], dirty := [(dev_LIFECYCLE, 77)] }) ({ aSession with subs := [⟨dev_LIFECYCLE, false, 0, 0, []⟩] }) (dev_LIFECYCLE) (77) ({ kind := 0, flags := 0, ref := dev_LIFECYCLE, time := 77, typ := 2, val := [1], source := none, onChange := true }) := by decide
theorem test_when_onChangeWindowExpiryRead : WhenOnChangeWindowExpiryRead (on { netDev with now := 1000000, noap.sessions := [{ aSession with subs := [⟨dev_START_MISSING, false, 0, 0, [0, 0, 0, 1]⟩] }] }) ({ aSession with subs := [⟨dev_START_MISSING, false, 0, 0, [0, 0, 0, 1]⟩] }) (⟨dev_START_MISSING, false, 0, 0, [0, 0, 0, 1]⟩) ({ kind := 0, flags := 0, ref := dev_START_MISSING, time := 0, typ := 4, val := [0, 0, 0, 0], source := none, onChange := true }) := by decide
theorem test_when_read : WhenRead (on (waitDev 9 1 2)) (1) (9) (true) ([dev_LIFECYCLE, 0]) := by decide
theorem test_when_readOne : WhenReadOne (on (waitDev 9 1 0)) (1) (9) (false) (dev_LIFECYCLE) (.ok) (2) ([1]) := by decide
theorem test_when_write : WhenWrite (on (waitDev 9 2 0)) (1) (9) ([{ ref := dev_LIFECYCLE, typ := 2, val := [0] }]) ((on (waitDev 9 2 0), [3, 0, 0, 0])) := by decide
theorem test_when_writeMember : WhenWriteMember (on (waitDev 9 2 0)) (1) (9) (5000) := by decide
theorem test_when_bulk : WhenBulk (on (withWait 9 6 0 bulkState.dev)) (1) (9) (5) (8) (0x1000000108) ([1, 2, 3, 4, 5, 6, 7, 8]) := by decide
set_option maxRecDepth 30000 in
theorem test_when_noapLiteRead : WhenNoapLiteRead (liteState) (3) (false) (5) (octets [1, 0, 0, 0, 0, 7] ++ beBytes 4 hearth_LOCK ++ zeros 54) (canReceived (emit liteState.dev (.canAck 3)) 3) := by decide
set_option maxRecDepth 30000 in
theorem test_when_noapLiteReadWaits : WhenNoapLiteReadWaits (on { liteState.dev with noap.sessions := [waitSession 9 1 0] }) (3) (false) (5) (octets [1, 0, 0, 0, 0, 7] ++ beBytes 4 hearth_LOCK ++ zeros 54) := by decide
set_option maxRecDepth 30000 in
theorem test_when_noapLiteWrite : WhenNoapLiteWrite (liteState) (3) (false) (5) (octets [2, 0, 0, 0, 0, 7] ++ beBytes 4 hearth_LOCK ++ octets [1, 1, 1] ++ zeros 51) (withDev liteState (liteAccept (canReceived (emit liteState.dev (.canAck 3)) 3) 7)) ((withDev liteState (liteAccept (canReceived (emit liteState.dev (.canAck 3)) 3) 7), .access, [])) := by decide
theorem test_when_noapLiteResponseSent : WhenNoapLiteResponseSent (on { liteState.dev with noap.litePending := 1 }) (3) := by decide
theorem test_when_alloc_1 : WhenAlloc (State.reset) (0) (0x12) (1023) (1023) := by decide
theorem test_when_alloc_2 : WhenAlloc (on { Dev.reset with scene.alloc := [(mref 0x11 0 0, 1)] }) (0) (0x11) (0xFFFF) (1) := by decide
theorem test_when_free : WhenFree (on { Dev.reset with scene.alloc := [(mref 0x12 7 0, 1)] }) (0) (0x12) (mref 0x12 7 0) := by decide
theorem test_when_freeDeferred : WhenFreeDeferred (on { nSets Dev.reset [(head_STATE 0, 2)] with scene.alloc := [(mref 0x11 0 0, 1)], scene.live := [(band_HEAD 0 * 16, .num (mref 0x10 0 0))] }) (0) (0x11) (mref 0x11 0 0) := by decide
set_option maxRecDepth 30000 in
theorem test_when_realize : WhenRealize (on { nSets Dev.reset [(surf_FORMAT 9, 1), (surf_WIDTH 9, 64), (surf_HEIGHT 9, 2)] with scene.alloc := [(mref 0x13 9 0, 1)] }) (0) (9) := by decide
theorem test_when_discard : WhenDiscard (State.reset) (0) := by decide
theorem test_when_sceneLeaseExpiry : WhenSceneLeaseExpiry (on { arm (nSets Dev.reset [(commitCtl_SCENE_LEASE, 5)]) tkSceneLease 0 0 with now := 5000000 }) (0) (5) := by decide
theorem test_when_commit_1 : WhenCommit (State.reset) (0) (0) (1) (1) (Dev.reset) := by decide
theorem test_when_commit_2 : WhenCommit (on (waitDev 9 3 0)) (1) (9) (1) (1) (beginRequest (waitDev 9 3 0) 1 9) := by decide
set_option maxRecDepth 30000 in
theorem test_when_commitRefused : WhenCommitRefused (on { Dev.reset with scene.staging := [{ ref := head_H_ACTIVE 0, val := .num 0, late := false }, { ref := head_ENABLE 0, val := .num 1, late := false }] }) (0) (0) (1) (1) ({ Dev.reset with scene.staging := [{ ref := head_H_ACTIVE 0, val := .num 0, late := false }, { ref := head_ENABLE 0, val := .num 1, late := false }] }) ({ reason := 5, heads := 1, ref := 268435472 }) := by decide
theorem test_when_commitDryRun_1 : WhenCommitDryRun (State.reset) (0) (0) (1) (1) (Dev.reset) := by decide
theorem test_when_commitDryRun_2 : WhenCommitDryRun (on (waitDev 9 3 4)) (1) (9) (1) (1) (beginRequest (waitDev 9 3 4) 1 9) := by decide
theorem test_when_commitDecision : WhenCommitDecision (on { nSets Dev.reset [(head_STATE 0, 2)] with scene.evaluating := some anEvaluation }) (anEvaluation) ({ mask := 1, taken := [], acts := [] }) := by decide +kernel
theorem test_when_commitDecisionDry : WhenCommitDecisionDry (on { Dev.reset with scene.evaluating := some { anEvaluation with dryRun := true } }) ({ anEvaluation with dryRun := true }) ({ mask := 1, taken := [], acts := [] }) := by decide +kernel
theorem test_when_commitDecisionRefused : WhenCommitDecisionRefused (on { Dev.reset with scene.evaluating := some failEval }) (failEval) ({ mask := 1, taken := failEval.taken, acts := [] }) ({ reason := 3, heads := 1, resource := 65535, slot := 65535, demand := 1, capacity := 0, obj := 0 }) := by decide +kernel
theorem test_when_headFrameBoundary : WhenHeadFrameBoundary (on (nSets (headOn Dev.reset 15) [(head_STATE 15, 3), (head_FRAME_COUNT 15, 0xFFFFFFFF)])) (15) := by decide +kernel
theorem test_when_headFrameBoundaryApply : WhenHeadFrameBoundaryApply (on { nSets (headOn Dev.reset 15) [(head_STATE 15, 3)] with tb := 300000 * 2 ^ 32, scene.live := [(head_ENABLE 15 * 16 + 15, .num 1), (head_PIXEL_CLOCK 15 * 16 + 15, .num 100000000), (head_H_ACTIVE 15 * 16 + 15, .num 80), (head_H_FRONT 15 * 16 + 15, .num 4), (head_H_SYNC 15 * 16 + 15, .num 8), (head_H_BACK 15 * 16 + 15, .num 8), (head_V_ACTIVE 15 * 16 + 15, .num 40), (head_V_FRONT 15 * 16 + 15, .num 4), (head_V_SYNC 15 * 16 + 15, .num 3), (head_V_BACK 15 * 16 + 15, .num 3)], scene.commits := [{ number := 17, named := 0x8000, waiting := 0x8000, admitted := 0, writes := [], holds := [], fronts := [], lifts := [] }] }) (15) ({ number := 17, named := 0x8000, waiting := 0x8000, admitted := 0, writes := [], holds := [], fronts := [], lifts := [] }) := by decide +kernel
theorem test_when_headFirstBoundary : WhenHeadFirstBoundary (on (nSets (updHead (headOn Dev.reset 15) 15 (fun q => { q with lanesReady := true })) [(head_STATE 15, 1)])) (15) := by decide +kernel
theorem test_when_lineMatch : WhenLineMatch (on (nSets (updHead (headOn Dev.reset 15) 15 (fun q => { q with cmpOn := [false, false, false, true], cmpLine := [0, 0, 0, 0] })) [(head_STATE 15, 3)])) (15) (3) := by decide
theorem test_when_frameDone : WhenFrameDone (on { nSets (updHead (headOn Dev.reset 15) 15 (fun q => { q with frameDone := false })) [(head_STATE 15, 3)] with tb := 2000 * 2 ^ 32 }) (15) := by decide
theorem test_when_frameDoneStopped : WhenFrameDoneStopped (on (arm Dev.reset tkHeadStop 15 0)) (15) := by decide
theorem test_when_segmentUnderrun : WhenSegmentUnderrun (on (raceState 1).dev) (0) (31) (0) := by decide
theorem test_when_pipeLineCompose : WhenPipeLineCompose (on (pipeDev 10 [] [])) (31) (0) (aPlace) := by decide
theorem test_when_raceLineRead : WhenRaceLineRead (raceState 1) (31) (0) (0) (0) (aPlace) ((0, mref 0x12 9 0)) := by decide
theorem test_when_raceLineReadLate : WhenRaceLineReadLate (raceState 0) (31) (0) (0) (0) (aPlace) ((0, mref 0x12 9 0)) := by decide
theorem test_when_residentLoadComplete : WhenResidentLoadComplete (on (updPipe Dev.reset 31 (fun x => { x with loads := [{ band := 5, slot := 0, blocks := [9], done := none }], buffer := [(9, [])] }))) (31) (0) := by decide
theorem test_when_capacityStep_1 : WhenCapacityStep (1) (31) := by decide
theorem test_when_capacityStep_2 : WhenCapacityStep (2) (11) := by decide
theorem test_when_capacityStep_3 : WhenCapacityStep (0) (0) := by decide
theorem test_when_capacityStep_4 : WhenCapacityStep (3) (7) := by decide
theorem test_when_capacityStepUndo : WhenCapacityStepUndo (on { arm Dev.reset tkCapacity 0 0 with stoker.actions := [{ ref := headRef 15, degrade := 0xFF }] }) := by decide
theorem test_when_migrationCopyComplete : WhenMigrationCopyComplete ({ on { arm (nSets Dev.reset [(surf_ADDRESS 5, 0x1000000000), (surf_LOCATION 5, 2)]) tkMigration 0 0 with stoker.migration := some aMigration } with mem := [(0x1000000000, 9), (0x1000000003, 8)] }) (aMigration) := by decide
theorem test_when_migrationCopyCompletePoisoned : WhenMigrationCopyCompletePoisoned (on { arm (nSets (bSet Dev.reset mem_SEGMENT_MAP (octets [8])) [(surf_ADDRESS 5, 256)]) tkMigration 0 0 with stoker.migration := some { aMigration with got := [(1, [])] } }) ({ aMigration with got := [(1, [])] }) := by decide
theorem test_when_dramReadComplete_1 : WhenDramReadComplete (on { Dev.reset with dram.ready := true, dram.reads := [(511, { cls := 4, unit := 0, block := 0, chan := 7, cancelled := false })] }) (511) ([{ pos := 271, flip := 1 }]) ({ cls := 4, unit := 0, block := 0, chan := 7, cancelled := false }) := by decide
theorem test_when_dramReadComplete_2 : WhenDramReadComplete (on { bSet Dev.reset mem_SEGMENT_MAP (octets [8]) with dram.ready := true, dram.reads := [(0, { cls := 0, unit := 63, block := 3, chan := 0, cancelled := false })] }) (0) ([{ pos := 0, flip := 1 }, { pos := 2, flip := 1 }, { pos := 4, flip := 1 }, { pos := 6, flip := 255 }]) ({ cls := 0, unit := 63, block := 3, chan := 0, cancelled := false }) := by decide
theorem test_when_dramReadCompleteBad : WhenDramReadCompleteBad (on { nSets (bSet Dev.reset mem_SEGMENT_MAP (octets [8])) [(mem_RETIRE_LIMIT, 4)] with dram.ready := true, dram.reads := [(511, { cls := 0, unit := 0, block := 3, chan := 0, cancelled := false })] }) (511) ([{ pos := 1, flip := 1 }, { pos := 3, flip := 1 }, { pos := 5, flip := 1 }, { pos := 7, flip := 1 }, { pos := 271, flip := 1 }]) ({ cls := 0, unit := 0, block := 3, chan := 0, cancelled := false }) := by decide
theorem test_when_scrubRead_1 : WhenScrubRead (on { bSet Dev.reset mem_SEGMENT_MAP (octets [15]) with dram.ready := true, power.phase := .running }) (7) ([{ pos := 0, flip := 1 }]) (0) (0) (false) := by decide
theorem test_when_scrubRead_2 : WhenScrubRead (on { bSet Dev.reset mem_SEGMENT_MAP (octets [15]) with dram.ready := true, power.phase := .running, dram.scrubAt := [(7, 524287)] }) (7) ([]) (0) (524287) (true) := by decide
theorem test_when_scrubReadWritesBack : WhenScrubReadWritesBack (on { bSet Dev.reset mem_SEGMENT_MAP (octets [15]) with dram.ready := true, power.phase := .running, dram.errors := [(9, [(0, 1)])], dram.writeBack := [(7, 9)] }) (7) (0) (0) (9) := by decide
theorem test_when_channelRetire : WhenChannelRetire (State.reset) (7) (4) := by decide
theorem test_when_retire : WhenRetire (State.reset) (0) (7) := by decide
theorem test_when_unretire : WhenUnretire (stM [(chan_STATE 7, 1)]) (0) (7) := by decide
theorem test_when_dramTrainingComplete_1 : WhenDramTrainingComplete (on { Dev.reset with dram.fullNext := [7] }) (7) := by decide
theorem test_when_dramTrainingComplete_2 : WhenDramTrainingComplete (on { Dev.reset with dram.fullNext := [] }) (0) := by decide
theorem test_when_dramTrainingCompleteFailed_1 : WhenDramTrainingCompleteFailed (on { Dev.reset with dram.fullNext := [7] }) (7) := by decide
theorem test_when_dramTrainingCompleteFailed_2 : WhenDramTrainingCompleteFailed (on { Dev.reset with dram.fullNext := [] }) (0) := by decide
theorem test_when_dramInitComplete : WhenDramInitComplete ({ on { bSet Dev.reset mem_SEGMENT_MAP (octets [1]) with dram.trained := [0, 1, 2, 3, 4, 5, 6, 7] } with mem := [(5, 1), (0x1000000000, 2)] }) := by decide
theorem test_when_laneDirectionWrite_1 : WhenLaneDirectionWrite (State.reset) (0) (31) (2) := by decide
theorem test_when_laneDirectionWrite_2 : WhenLaneDirectionWrite (stM [(lane_POC_ENABLE 7, 1)]) (0) (7) (1) := by decide
theorem test_when_laneTrainingStart : WhenLaneTrainingStart (stM [(lane_DIRECTION 31, 1)]) (31) := by decide
theorem test_when_backChannelLock : WhenBackChannelLock (stM [(lane_DIRECTION 31, 1), (lane_STATE 31, 2)]) (31) := by decide
theorem test_when_presetStepExpiry : WhenPresetStepExpiry (on (arm (nSets Dev.reset [(lane_DIRECTION 31, 1), (lane_STATE 31, 3)]) tkTrain 31 0)) (31) := by decide
theorem test_when_presetStepExpiryChosen : WhenPresetStepExpiryChosen (on (updLane (arm (nSets Dev.reset [(lane_DIRECTION 31, 1), (lane_STATE 31, 3)]) tkTrain 31 0) 31 (fun x => { x with step := 7, presetErrors := [0, 9, 0, 3, 3, 0, 0, 8] }))) (31) (3) := by decide
theorem test_when_trainingDeadlineMissed_1 : WhenTrainingDeadlineMissed (on (arm (nSets Dev.reset [(lane_DIRECTION 31, 1), (lane_STATE 31, 1)]) tkTrainEnd 31 0)) (31) := by decide
theorem test_when_trainingDeadlineMissed_2 : WhenTrainingDeadlineMissed (on (arm (nSets Dev.reset [(lane_DIRECTION 0, 1), (lane_STATE 0, 5)]) tkTrainEnd 0 0)) (0) := by decide
theorem test_when_trainingDeadlineMissed_3 : WhenTrainingDeadlineMissed (on (updLane (arm (nSets Dev.reset [(lane_DIRECTION 0, 1), (lane_STATE 0, 4)]) tkTrainEnd 0 0) 0 (fun x => { x with locked := true }))) (0) := by decide
theorem test_when_trainingRetryExpiry : WhenTrainingRetryExpiry (on (arm (nSets Dev.reset [(lane_DIRECTION 31, 1), (lane_STATE 31, 7)]) tkRetry 31 0)) (31) := by decide
theorem test_when_laneReady : WhenLaneReady (on (updLane (nSets Dev.reset [(lane_DIRECTION 31, 1), (lane_STATE 31, 5)]) 31 (fun x => { x with locked := true }))) (31) := by decide
theorem test_when_laneReadyReceive : WhenLaneReadyReceive (on (updLane (nSets Dev.reset [(lane_DIRECTION 31, 2), (lane_STATE 31, 3), (vin_LANE 15, 31)]) 31 (fun x => { x with blockLock := true }))) (31) (15) := by decide
theorem test_when_commaLockLoss : WhenCommaLockLoss (stM [(lane_DIRECTION 31, 1), (lane_STATE 31, 6)]) (31) := by decide
theorem test_when_statusTimeout : WhenStatusTimeout (on (arm (nSets Dev.reset [(lane_DIRECTION 31, 1), (lane_STATE 31, 6)]) tkStatus 31 0)) (31) := by decide
theorem test_when_packetEndTraining_1 : WhenPacketEndTraining (stM [(lane_DIRECTION 31, 1), (lane_STATE 31, 3), (lane_PRESET 31, 7)]) (31) := by decide
theorem test_when_packetEndTraining_2 : WhenPacketEndTraining (stM [(lane_DIRECTION 0, 1), (lane_STATE 0, 5)]) (0) := by decide
theorem test_when_packetEndLine : WhenPacketEndLine (on (updLane (nSets Dev.reset [(lane_DIRECTION 31, 1), (lane_STATE 31, 6)]) 31 (fun x => { x with lineQ := [⟨0x2D, 3, zeros 24⟩] }))) (31) (⟨0x2D, 3, zeros 24⟩) ([]) := by decide
theorem test_when_packetEndIdle : WhenPacketEndIdle (stM [(lane_DIRECTION 31, 1), (lane_STATE 31, 6)]) (31) := by decide
theorem test_when_ack : WhenAck (on (updLane (nSets Dev.reset [(lane_DIRECTION 31, 1), (lane_STATE 31, 6)]) 31 (fun x => { x with unacked := [⟨0x33, 255, []⟩, ⟨0x33, 0, []⟩], timeouts := 3 }))) (31) ((wireMessage true (bcMessage 1 0 (octets [255]))).1) (octets [255]) (0) := by decide +kernel
theorem test_when_nak : WhenNak (on (updLane (nSets Dev.reset [(lane_DIRECTION 31, 1), (lane_STATE 31, 6)]) 31 (fun x => { x with unacked := [⟨0x33, 255, []⟩, ⟨0x33, 0, []⟩] }))) (31) ((wireMessage true (bcMessage 2 0 (octets [0]))).1) (octets [0]) (0) := by decide +kernel
theorem test_when_retransmitTimeout_1 : WhenRetransmitTimeout (on (arm (updLane (nSets Dev.reset [(lane_DIRECTION 31, 1), (lane_STATE 31, 6)]) 31 (fun x => { x with unacked := [⟨0x33, 255, []⟩], timeouts := 6 })) tkAck 31 0)) (31) := by decide
theorem test_when_retransmitTimeout_2 : WhenRetransmitTimeout (on (arm (updLane (nSets Dev.reset [(lane_DIRECTION 0, 1), (lane_STATE 0, 6)]) 0 (fun x => { x with unacked := [⟨0x33, 255, []⟩], timeouts := 7 })) tkAck 0 0)) (0) := by decide
theorem test_when_status_1 : WhenStatus (stM [(lane_DIRECTION 31, 1), (lane_STATE 31, 6)]) (31) ((wireMessage true (bcMessage 3 9 (octets [1, 255, 255, 0, 2, 0, 0, 0]))).1) (octets [1, 255, 255, 0, 2, 0, 0, 0]) (9) := by decide +kernel
theorem test_when_status_2 : WhenStatus (stM [(lane_DIRECTION 31, 1), (lane_STATE 31, 6)]) (31) ((wireMessage true (bcMessage 3 9 (octets [0, 1, 0, 0, 2, 0, 0, 0]))).1) (octets [0, 1, 0, 0, 2, 0, 0, 0]) (9) := by decide +kernel
theorem test_when_sigret : WhenSigret (on (updHead (nSets Dev.reset [(lane_DIRECTION 31, 1), (lane_STATE 31, 6), (head_STATE 15, 3)]) 15 (fun q => { q with timing := { q.timing with lane := 31 } }))) (31) ((wireMessage true (bcMessage 4 0 (octets [7, 1, 0, 0, 1, 2, 3, 4]))).1) (octets [7, 1, 0, 0, 1, 2, 3, 4]) (0) (15) := by decide +kernel
theorem test_when_linestat : WhenLinestat (stM [(lane_DIRECTION 31, 1), (lane_STATE 31, 6)]) (31) ((wireMessage true (bcMessage 5 0 (octets [0, 0, 5, 1, 0, 0, 0, 0]))).1) (octets [0, 0, 5, 1, 0, 0, 0, 0]) (0) := by decide +kernel
theorem test_when_data : WhenData (on (updLane (nSets Dev.reset [(lane_DIRECTION 31, 1), (lane_STATE 31, 6)]) 31 (fun x => { x with bcSeq := 255 }))) (31) ((wireMessage true (bcMessage 6 255 (octets [0]))).1) (octets [0]) := by decide +kernel
theorem test_when_blockLock : WhenBlockLock (stM [(lane_DIRECTION 31, 2), (lane_STATE 31, 2)]) (31) := by decide
theorem test_when_blockLockLoss : WhenBlockLockLoss (on (updLane (nSets Dev.reset [(lane_DIRECTION 31, 2), (lane_STATE 31, 6)]) 31 (fun x => { x with blockLock := true }))) (31) := by decide
theorem test_when_statusSend : WhenStatusSend (on (arm (nSets Dev.reset [(lane_DIRECTION 31, 2), (lane_STATE 31, 6)]) tkStatusSend 31 0)) (31) := by decide
theorem test_when_rxModePacket : WhenRxModePacket (rxLane) (31) (protectedBytes 0x66 255 0 (zeros 32)) (zeros 32) (255) (0) (15) := by decide +kernel
theorem test_when_rxProtectedPacket_1 : WhenRxProtectedPacket (rxLane) (31) (protectedBytes 0x33 255 3 (zeros 1)) (zeros 1) (0x33) (255) (3) := by decide +kernel
theorem test_when_rxProtectedPacket_2 : WhenRxProtectedPacket (rxLane) (31) (protectedBytes 0x55 0 0 (zeros 1)) (zeros 1) (0x55) (0) (0) := by decide +kernel
theorem test_when_rxProtectedPacketBad : WhenRxProtectedPacketBad (rxLane) (31) (octets [0x33] ++ zeros 23) := by decide +kernel
theorem test_when_rxProtectedPacketUnknown : WhenRxProtectedPacketUnknown (rxLane) (31) (zeros 24) := by decide
theorem test_when_rxLinePacket : WhenRxLinePacket (rxLineState) (31) (rxLinePkt 16) (15) (8) (2) (8) (0x1000000000 + 2 * 64) := by decide +kernel
theorem test_when_rxLinePacketKept : WhenRxLinePacketKept (rxLineState) (31) (rxLinePkt 2000) (15) (8) (2) (8) (0x1000000000 + 2 * 64) := by decide +kernel
theorem test_when_pocRampComplete : WhenPocRampComplete (on (arm (nSets Dev.reset [(lane_POC_STATE 7, 1), (lane_STATE 7, 1)]) tkPocRamp 7 0)) (7) := by decide
theorem test_when_pocCutoff_1 : WhenPocCutoff (stM [(lane_POC_STATE 7, 2)]) (7) := by decide
theorem test_when_pocCutoff_2 : WhenPocCutoff (on (updLane (nSets Dev.reset [(lane_POC_STATE 7, 1)]) 7 (fun x => { x with cutoffs := [0, 0] }))) (7) := by decide
theorem test_when_pocCooldownExpiry_1 : WhenPocCooldownExpiry (on (arm (nSets Dev.reset [(lane_POC_STATE 7, 3), (lane_POC_ENABLE 7, 1)]) tkPocCool 7 0)) (7) := by decide
theorem test_when_pocCooldownExpiry_2 : WhenPocCooldownExpiry (on (arm (nSets Dev.reset [(lane_POC_STATE 7, 3)]) tkPocCool 7 0)) (7) := by decide
theorem test_when_pocEnableWrite_1 : WhenPocEnableWrite (stM [(lane_POC_STATE 7, 4)]) (0) (7) (0) (4) := by decide
theorem test_when_pocEnableWrite_2 : WhenPocEnableWrite (on (updLane (nSets Dev.reset [(lane_POC_STATE 7, 4)]) 7 (fun x => { x with latchOff := true }))) (0) (7) (1) (4) := by decide
theorem test_when_idResponse : WhenIdResponse (on (arm (nSets Dev.reset [(panel_IDENTITY_STATE 15, 1)]) tkId 15 5)) (15) (octets [0x81]) := by decide
theorem test_when_idResponseTimeout_1 : WhenIdResponseTimeout (on (arm (updPanel (nSets Dev.reset [(panel_IDENTITY_STATE 15, 1)]) 15 (fun x => { x with attempts := 3 })) tkId 15 0)) (15) := by decide
theorem test_when_idResponseTimeout_2 : WhenIdResponseTimeout (on (arm (updPanel (nSets Dev.reset [(panel_IDENTITY_STATE 0, 1)]) 0 (fun x => { x with attempts := 4 })) tkId 0 0)) (0) := by decide
theorem test_when_readReply_1 : WhenReadReply (on (updPanel (nSets Dev.reset [(panel_IDENTITY_STATE 15, 1)]) 15 (fun x => { x with digest := [1] }))) (15) (octets [0x82, 1, 0, 0, 0, 0, 7]) (1) := by decide
theorem test_when_readReply_2 : WhenReadReply (on (updPanel (nSets Dev.reset [(panel_IDENTITY_STATE 0, 1)]) 0 (fun x => { x with digest := [1] }))) (0) (octets [0x82, 1, 0, 0, 0, 0] ++ zeros 16) (1) := by decide
theorem test_when_readReplyLast : WhenReadReplyLast (on (updPanel (nSets Dev.reset [(panel_IDENTITY_STATE 15, 1)]) 15 (fun x => { x with digest := [1], records := [(1, zeros 16), (2, zeros 16)] }))) (15) (octets [0x82, 3, 0, 0, 0, 0] ++ zeros 16) := by decide
theorem test_when_readReplyAgain : WhenReadReplyAgain (stM [(panel_IDENTITY_STATE 15, 2)]) (15) (octets [0x82, 2, 0, 0, 0, 0] ++ wearRecord 2 1 []) (wearRecord 2 1 []) := by decide
theorem test_when_committed_1 : WhenCommitted (on (updPanel Dev.reset 15 (fun x => { x with writing := 2, genDose := 255 }))) (15) (octets [0x84, 2, 0, 1, 0, 0, 0]) (2) (256) := by decide
theorem test_when_committed_2 : WhenCommitted (on (updPanel Dev.reset 15 (fun x => { x with writing := 3, genHours := 1 }))) (15) (octets [0x84, 3, 2, 0, 0, 0, 0]) (3) (2) := by decide
theorem test_when_committed_3 : WhenCommitted (on (updPanel Dev.reset 15 (fun x => { x with writing := 3, genHours := 1 }))) (15) (octets [0x84, 3, 2, 0, 0, 0, 1]) (3) (2) := by decide
theorem test_when_committedTimeout : WhenCommittedTimeout (on (arm (updPanel Dev.reset 15 (fun x => { x with writing := 3, fails := 2 })) tkCommitted 15 0)) (15) := by decide
theorem test_when_writeRetryExpiry_1 : WhenWriteRetryExpiry (on (updPanel (arm (nSets Dev.reset [(panel_IDENTITY_STATE 15, 2), (panel_WEAR_STATE 15, 4)]) tkWriteRetry 15 0) 15 (fun x => { x with doseImage := octets [1, 0, 1, 0] }))) (15) := by decide
theorem test_when_writeRetryExpiry_2 : WhenWriteRetryExpiry (on (arm (nSets Dev.reset [(panel_IDENTITY_STATE 15, 2), (panel_WEAR_STATE 15, 4)]) tkWriteRetry 15 0)) (15) := by decide
theorem test_when_doseSnapshot : WhenDoseSnapshot (on (arm (nSets Dev.reset [(panel_IDENTITY_STATE 15, 2), (dev_FK_STATE, 1)]) tkDose 15 0)) (15) := by decide
theorem test_when_cellRowDose : WhenCellRowDose (on (updHead (updPanel (headOn (nSets Dev.reset [(panel_IDENTITY_STATE 15, 2), (panel_WEAR_STATE 15, 4), (dev_FK_STATE, 1)]) 15) 15 (fun x => { x with sums := [(0, 5000000), (14, 70000), (15, 9)] })) 15 (fun q => { q with panelLine := 16 }))) (15) (0) (5) := by decide
theorem test_when_gainRecompute_1 : WhenGainRecompute (on (arm (nSets Dev.reset [(dev_FK_STATE, 1)]) tkGain 15 0)) (15) := by decide +kernel
theorem test_when_gainRecompute_2 : WhenGainRecompute (on (arm (updPanel (nSets Dev.reset [(dev_FK_STATE, 1), (panel_WEAR_STATE 15, 1), (panel_COMP_ENABLE 15, 1)]) 15 (fun x => { x with first := true, ageing := zeros 316, records := [(2, zeros 16)] })) tkGain 15 0)) (15) := by decide +kernel
theorem test_when_summaryWrite : WhenSummaryWrite (on (arm (nSets Dev.reset [(panel_IDENTITY_STATE 15, 2)]) tkSummary 15 0)) (15) := by decide
theorem test_when_operatingSecond_1 : WhenOperatingSecond (on (updHead (nSets Dev.reset [(head_STATE 15, 3), (lane_STATE 31, 6)]) 15 (fun q => { q with timing := { q.timing with lane := 31 } }))) (15) := by decide
theorem test_when_operatingSecond_2 : WhenOperatingSecond (State.reset) (0) := by decide
theorem test_when_ackNew : WhenAckNew (stM [(panel_NEW_PANEL 15, 1)]) (0) (15) := by decide
theorem test_when_rowRead : WhenRowRead (on (updPanel Dev.reset 15 (fun x => { x with ageing := octets [17, 0, 16, 0] ++ zeros 312 }))) (0) (15) (1) ([1]) := by decide +kernel
theorem test_when_gainRead : WhenGainRead (on (updPanel Dev.reset 15 (fun x => { x with ageing := octets [17, 0, 16, 0] ++ zeros 312 }))) (0) (15) (0) ([0, 1]) := by decide +kernel
theorem test_when_post : WhenPost (on (updChan Dev.reset 31 (fun x => { x with queue := [1, 2, 3, 4, 5, 6, 7] }))) (0) (31) (0xFFFFFFFFFFFFFFFF) := by decide
theorem test_when_abort : WhenAbort (on (updChan Dev.reset 31 (fun x => { x with queue := [1], job := some aJob }))) (0) (31) := by decide
theorem test_when_dmaListStart : WhenDmaListStart (listState 31 (listOctets 0x1000000400)) (31) (0x1000000000) := by decide +kernel
theorem test_when_dmaListStartRefused_1 : WhenDmaListStartRefused (listState 31 (listOctets 0x1000000401)) (31) (0x1000000000) (.misaligned) (2) := by decide +kernel
theorem test_when_dmaListStartRefused_2 : WhenDmaListStartRefused (listState 31 (zeros 64)) (31) (0x1000000000) (.range) (1) := by decide +kernel
theorem test_when_dmaListComplete : WhenDmaListComplete (on { updChan Dev.reset 31 (fun x => { x with job := some aJob }) with dram.ready := true }) (31) (aJob) := by decide
theorem test_when_dmaListCompleteData : WhenDmaListCompleteData ({ on { updChan Dev.reset 31 (fun x => { x with job := some aJob }) with dram.ready := true } with mem := [(0x1000000000, 7), (0x1000000001, 8)] }) (31) (aJob) := by decide
theorem test_when_kick : WhenKick ({ stM [(ring_ENABLE 3, 1), (ring_RING_ADDRESS 3, 0x1000000000)] with mem := [(0x1000000003, 8)] }) (0) (3) := by decide
theorem test_when_ringEnableWrite : WhenRingEnableWrite ({ stM [(ring_RING_ADDRESS 3, 0x1000000000)] with mem := [(0x1000000000, 8)] }) (0) (3) (1) := by decide
theorem test_when_fill : WhenFill (ringState fillCmd) (3) (1) (fillCmd) := by decide
theorem test_when_fillRefused : WhenFillRefused (ringState (fillCmd.set 48 0 |>.set 42 0)) (3) (1) ((fillCmd.set 48 0 |>.set 42 0)) (.range) (1) := by decide
theorem test_when_copy : WhenCopy (ringState copyCmd) (3) (1) (copyCmd) := by decide
theorem test_when_copyRefused : WhenCopyRefused (ringState (copyCmd.set 48 0 |>.set 42 0)) (3) (1) ((copyCmd.set 48 0 |>.set 42 0)) (.range) (1) := by decide
theorem test_when_clip : WhenClip (ringState clipCmd) (3) (1) (clipCmd) := by decide
theorem test_when_blitCommandComplete_1 : WhenBlitCommandComplete (on { updRing (nSets Dev.reset [(ring_CONSUME 3, 0xFFFFFFFF)]) 3 (fun x => { x with job := some { aBlit with index := 0xFFFFFFFF } }) with dram.ready := true }) (3) ({ aBlit with index := 0xFFFFFFFF }) := by decide
theorem test_when_blitCommandComplete_2 : WhenBlitCommandComplete (on { updRing Dev.reset 3 (fun x => { x with job := some { aBlit with status := 5, detail := 1, again := true } }) with dram.ready := true }) (3) ({ aBlit with status := 5, detail := 1, again := true }) := by decide
theorem test_when_blitCommandCompleteData : WhenBlitCommandCompleteData (on { updRing Dev.reset 3 (fun x => { x with job := some aBlit }) with dram.ready := true }) (3) (aBlit) := by decide
theorem test_when_engineSample : WhenEngineSample (on (updVoice Dev.reset 127 (fun x => { x with keyOn := true }))) := by decide
theorem test_when_keyOn : WhenKeyOn (stM [(voice_STATE 127, 3)]) (0) (127) := by decide
theorem test_when_keyOff : WhenKeyOff (State.reset) (0) (127) := by decide
theorem test_when_voiceDurationExpiry : WhenVoiceDurationExpiry (on { updVoice Dev.reset 127 (fun x => { x with onAt := some 5, duration := 1 }) with now := ms 1 + 5 }) (127) (5) := by decide
theorem test_when_waveTableWrite : WhenWaveTableWrite (State.reset) (0) (31) (zeros 511 ++ [1]) := by decide +kernel
theorem test_when_gainsWrite : WhenGainsWrite (State.reset) (0) (47) (zeros 126 ++ octets [0, 64]) := by decide +kernel
theorem test_when_filterWrite : WhenFilterWrite (on (updOut Dev.reset 47 (fun x => { x with hist := [1, 2] }))) (0) (47) (zeros 119 ++ [1]) := by decide +kernel
theorem test_when_start : WhenStart (State.reset) (0) (3) (255) := by decide
theorem test_when_stop : WhenStop (stM [(seqr_RUNNING 3, 1)]) (0) (3) := by decide
theorem test_when_sequencerTick_1 : WhenSequencerTick (on { nSets Dev.reset [(seqr_RUNNING 3, 1), (seqr_CLOCK 3, 255)] with audio.seqs := [(3, { step := 0, wait := 2, last := 77 })] }) (3) := by decide
theorem test_when_sequencerTick_2 : WhenSequencerTick (on { nSets Dev.reset [(seqr_RUNNING 3, 1), (seqr_CLOCK 3, 255)] with audio.seqs := [(3, { step := 0, wait := 1, last := 77 })] }) (3) := by decide
theorem test_when_sequencerTickKey : WhenSequencerTickKey (on { bSet (nSets Dev.reset [(seqr_RUNNING 3, 1), (seqr_CLOCK 3, 255)]) (seqr_STEPS 3) (octets [127, 0, 0, 0, 5, 1, 9, 1]) with audio.seqs := [(3, { step := 0, wait := 1, last := 77 })] }) (3) (127) (265) (0) (octets [127, 0, 0, 0, 5, 1, 9, 1]) := by decide
theorem test_when_tdmFrame : WhenTdmFrame (stM [(tdm_ENABLE 3, 1)]) (3) := by decide
theorem test_when_rxAudioPacket : WhenRxAudioPacket (rxLane) (31) ((audioPacket 3 1 1 1000 [[0, 5], [1, 6]]).bytes) ((leBytes 8 1000 ++ sampleWord 5 ++ sampleWord 6)) (3) (1) (1) (2) (1000) := by decide +kernel
theorem test_when_rxAudioPacketLate : WhenRxAudioPacketLate (on { rxLane.dev with tb := 100000 * 2 ^ 32 }) (31) ((audioPacket 3 1 1 1000 [[0, 5], [1, 6]]).bytes) ((leBytes 8 1000 ++ sampleWord 5 ++ sampleWord 6)) (3) (1) (1) (2) := by decide +kernel
theorem test_when_uplinkLinkUp_1 : WhenUplinkLinkUp (on { nSets Dev.reset [(upl_MODE 1, 1)] with islands.off := [] }) (1) (5) := by decide
theorem test_when_uplinkLinkUp_2 : WhenUplinkLinkUp (on { nSets Dev.reset [(upl_MODE 0, 2)] with islands.off := [] }) (0) (3) := by decide
theorem test_when_uplinkLinkDown_1 : WhenUplinkLinkDown (on (arm (nSets Dev.reset [(upl_LINK 1, 1), (upl_SPEED 1, 4), (upl_LINK 0, 1), (addr_REDUNDANCY, 1), (addr_ACTIVE, 1)]) tkUplink 1 0)) (1) := by decide
theorem test_when_uplinkLinkDown_2 : WhenUplinkLinkDown (on (arm (nSets Dev.reset [(upl_LINK 1, 1), (upl_SPEED 1, 4), (addr_REDUNDANCY, 1), (addr_ACTIVE, 1)]) tkUplink 1 0)) (1) := by decide
theorem test_when_duplicateAddressDetectionDone_1 : WhenDuplicateAddressDetectionDone (on { Dev.reset with net.checking := [1, 0] }) (1) := by decide
theorem test_when_duplicateAddressDetectionDone_2 : WhenDuplicateAddressDetectionDone (on { Dev.reset with net.checking := [1, 0] }) (0) := by decide
theorem test_when_uplinkFrameReceived_1 : WhenUplinkFrameReceived (on netDev) (0) (false) (zeros 60) := by decide
theorem test_when_uplinkFrameReceived_2 : WhenUplinkFrameReceived (on netDev) (0) (true) (zeros 59) := by decide
theorem test_when_uplinkFrameReceivedOversize : WhenUplinkFrameReceivedOversize (on (nSet netDev (upl_MTU 0) 70)) (0) (zeros 89) := by decide
theorem test_when_uplinkFrameReceivedDropped : WhenUplinkFrameReceivedDropped (on netDev) (0) (octets [1, 2, 3, 4, 5, 6, 0, 0, 0, 0, 0, 0, 8, 6] ++ zeros 46) := by decide
theorem test_when_uplinkFrameReceivedOther : WhenUplinkFrameReceivedOther (on netDev) (0) (ethTo 0x88F7 []) := by decide
theorem test_when_arpRequest : WhenArpRequest (on ipDev) (0) (ethTo 0x0806 arpAsk) (arpAsk ++ zeros 18) := by decide
theorem test_when_icmpEcho : WhenIcmpEcho (on ipDev) (0) (ethTo 0x0800 echoAsk) (echoAsk ++ zeros 14) (octets [8, 0, 0, 0, 1, 2, 3, 4, 5, 6, 7, 8]) := by decide
set_option maxRecDepth 30000 in
theorem test_when_icmpEchoSix : WhenIcmpEchoSix (on ipDev) (0) (ethTo 0x86DD echo6Ask) (echo6Ask ++ zeros 0) (ip6Of ipDev 0 0) := by decide
set_option maxRecDepth 30000 in
theorem test_when_neighbourSolicitation : WhenNeighbourSolicitation (on ipDev) (0) (ethTo 0x86DD nsAsk) (nsAsk) (ip6Of ipDev 0 0) := by decide
theorem test_when_aafPduReceived : WhenAafPduReceived (on aafDev) (0) (15) (aafFrame) (aafPdu ++ zeros 20) := by decide
theorem test_when_aafPduReceivedMismatch : WhenAafPduReceivedMismatch (on (nSet aafDev (avtp_CHANNELS 15) 3)) (0) (15) (aafFrame) (aafPdu ++ zeros 20) := by decide
theorem test_when_talkerPduSend : WhenTalkerPduSend (on talkDev) (15) (List.replicate 12 [0, 5]) (0) (1) := by decide
theorem test_when_redundancyWrite : WhenRedundancyWrite (on netDev) (1) (1) := by decide
theorem test_when_pdelayExchange : WhenPdelayExchange (stM [(upl_GPTP_ROLE 1, 1), (upl_LINK 1, 1)]) (1) := by decide
theorem test_when_gptpSyncSend : WhenGptpSyncSend (on { nSets netDev [(upl_GPTP_ROLE 0, 2)] with net.gptp := [(0, { Gptp.reset with syncSeq := 65535 })] }) (0) (65535) := by decide
theorem test_when_rtcTick : WhenRtcTick (on { Dev.reset with power.phase := .lost, tb := 5 }) := by decide
theorem test_when_rtcTickFrost : WhenRtcTickFrost (on { Dev.reset with power.phase := .frost, tb := 5 }) := by decide +kernel
theorem test_when_rtcTickWakes : WhenRtcTickWakes (on { nSets Dev.reset [(hvs_WAKE 7, 1), (hvs_FILTER_US 7, 1)] with power.phase := .frost, pins.hvsCompare := [(7, 1)] }) (5) (7) := by decide +kernel
theorem test_when_vinValid : WhenVinValid (State.reset) := by decide
theorem test_when_vinValidLost : WhenVinValidLost (on { Dev.reset with power.phase := .lost }) := by decide
theorem test_when_vinLoss : WhenVinLoss (on { Dev.reset with power.phase := .running }) := by decide
theorem test_when_overvoltage : WhenOvervoltage (on { Dev.reset with power.phase := .running }) := by decide
theorem test_when_overvoltageClear : WhenOvervoltageClear (on { Dev.reset with power.phase := .lost, power.overvolt := true }) := by decide
theorem test_when_crankEntry : WhenCrankEntry (on { nSets Dev.reset [(head_STATE 15, 3)] with power.phase := .running }) := by decide
theorem test_when_crankExit : WhenCrankExit (on { nSets Dev.reset [(supply_SUPPLY_STATE, 1)] with islands.gated := [0, 43] }) := by decide
theorem test_when_crankTimeout : WhenCrankTimeout (on (arm { nSets Dev.reset [(supply_SUPPLY_STATE, 1)] with power.phase := .running } tkCrank 0 0)) := by decide
theorem test_when_restoreStepComplete_1 : WhenRestoreStepComplete (on (arm { Dev.reset with power.phase := .restoring 4 3 } tkRestore 0 0)) (4) (3) := by decide
theorem test_when_restoreStepComplete_2 : WhenRestoreStepComplete (on (arm { Dev.reset with power.phase := .restoring 3 1 } tkRestore 0 0)) (3) (1) := by decide
theorem test_when_restoreStepCompleteRuns : WhenRestoreStepCompleteRuns (on (arm { Dev.reset with power.phase := .restoring 10 0 } tkRestore 0 0)) (0) := by decide
theorem test_when_restoreStepCompleteWarm : WhenRestoreStepCompleteWarm (on (arm { Dev.reset with power.phase := .restoring 10 3 } tkRestore 0 0)) := by decide
theorem test_when_sleepWinter : WhenSleepWinter (on { Dev.reset with power.phase := .running }) (0) := by decide
theorem test_when_sleepFrost : WhenSleepFrost (on { sessDev [] with power.phase := .running }) (1) := by decide
theorem test_when_wearFlushEnd : WhenWearFlushEnd (on (arm { Dev.reset with power.sleep := .flush, wear.flushing := [3] } tkFlush 0 0)) := by decide
theorem test_when_blockStopAnswer_1 : WhenBlockStopAnswer (on { Dev.reset with power.sleep := .stop 6 }) (6) := by decide
theorem test_when_blockStopAnswer_2 : WhenBlockStopAnswer (on { Dev.reset with power.sleep := .stop 4 }) (4) := by decide
theorem test_when_blockStopAnswerRefuses_1 : WhenBlockStopAnswerRefuses (on { Dev.reset with power.sleep := .stop 1, scene.evaluating := some anEvaluation }) (1) (1) (0xFFFF) := by decide
theorem test_when_blockStopAnswerRefuses_2 : WhenBlockStopAnswerRefuses (on { updChan Dev.reset 31 (fun x => { x with job := some aJob }) with power.sleep := .stop 5 }) (5) (5) (31) := by decide
theorem test_when_blockStopAnswerTimeout : WhenBlockStopAnswerTimeout (on (arm { Dev.reset with power.sleep := .stop 8 } tkStop 0 0)) (8) := by decide
theorem test_when_stopDelayExpiry : WhenStopDelayExpiry (on (arm { Dev.reset with power.sleep := .delay 11 } tkStopDelay 0 0)) (11) := by decide
theorem test_when_stopDelayExpiryLast_1 : WhenStopDelayExpiryLast (on (arm { Dev.reset with power.sleep := .delay 12, power.sleepFor := 1 } tkStopDelay 0 0)) := by decide
theorem test_when_stopDelayExpiryLast_2 : WhenStopDelayExpiryLast (on (arm { Dev.reset with power.sleep := .delay 12, power.sleepFor := 2 } tkStopDelay 0 0)) := by decide
theorem test_when_sleepRollbackStep : WhenSleepRollbackStep (on (arm { Dev.reset with power.sleep := .rollback 3 } tkRollback 0 0)) (3) := by decide
theorem test_when_sleepRollbackStepLast : WhenSleepRollbackStepLast (on (arm { Dev.reset with power.sleep := .rollback 1, power.abortReason := 7, power.abortBlock := 2 } tkRollback 0 0)) (1) := by decide
theorem test_when_wakeN_1 : WhenWakeN (on { nSets Dev.reset [(power_WAKE_N_ENABLE, 1)] with power.phase := .frost }) := by decide
theorem test_when_wakeN_2 : WhenWakeN (on { nSets Dev.reset [(power_WAKE_N_ENABLE, 1)] with power.phase := .winter true }) := by decide
theorem test_when_wakeNBack : WhenWakeNBack (on { nSets Dev.reset [(power_WAKE_N_ENABLE, 1)] with power.phase := .running, power.sleep := .delay 7 }) (7) := by decide
theorem test_when_resetN : WhenResetN (on { Dev.reset with power.phase := .running, noap.sessions := [aSession] }) := by decide
theorem test_when_resetNRelease : WhenResetNRelease (on { Dev.reset with power.phase := .held }) := by decide
theorem test_when_thermalSample : WhenThermalSample (on { Dev.reset with power.phase := .running }) (1250) (1250) (4) := by decide
theorem test_when_thermalSampleDown : WhenThermalSampleDown (on { nSets Dev.reset [(therm_STEP, 1)] with power.phase := .running, now := 5000000000, power.thermLow := [(1, 0)] }) (1100) (1129) (0) := by decide
theorem test_when_thermalSampleHolds_1 : WhenThermalSampleHolds (on { nSets Dev.reset [(therm_STEP, 4)] with power.phase := .running }) (1210) (1210) := by decide
theorem test_when_thermalSampleHolds_2 : WhenThermalSampleHolds (on { Dev.reset with power.phase := .running }) (-400) (-400) := by decide
theorem test_when_thermalTrip : WhenThermalTrip (on { sessDev [] with power.phase := .running }) := by decide
theorem test_when_powerAverage_1 : WhenPowerAverage (State.reset) := by decide
theorem test_when_powerAverage_2 : WhenPowerAverage (on { Dev.reset with power.powerLevel := 3, power.powerLow := some 0, now := 5000000000 }) := by decide
theorem test_when_powerAverage_3 : WhenPowerAverage (on { Dev.reset with power.powerLevel := 2, now := 5000000000 }) := by decide
theorem test_when_powerAverage_4 : WhenPowerAverage (stM [(boost_STATE, 1)]) := by decide
theorem test_when_boostRequest : WhenBoostRequest (stM [(supply_VIN_MV, 10000)]) (0) (20) := by decide
theorem test_when_boostRequestRefused : WhenBoostRequestRefused (stM [(supply_VIN_MV, 9999)]) (0) (20) := by decide
theorem test_when_boostEndRequest : WhenBoostEndRequest (stM [(boost_STATE, 1)]) (0) := by decide
theorem test_when_boostEpisodeEnd : WhenBoostEpisodeEnd (on { arm (nSets Dev.reset [(boost_STATE, 1)]) tkBoost 0 0 with now := 20000000000 }) := by decide
theorem test_when_boostLifetimeFuse : WhenBoostLifetimeFuse (stM [(boost_LIFETIME_S, 10800000), (boost_STATE, 1)]) := by decide
theorem test_when_boostLifetimeFuseBurns : WhenBoostLifetimeFuseBurns (stM [(boost_LIFETIME_S, 72000), (boost_STATE, 1)]) := by decide
theorem test_when_kindlingStart : WhenKindlingStart (on { Dev.reset with trust.kindling := true, trust.digest := zeros 48 }) := by decide
theorem test_when_imageVerifyComplete : WhenImageVerifyComplete (on { Dev.reset with trust.trying := [(4, 6)], trust.released := true }) (6) (7) := by decide
theorem test_when_imageVerifyCompleteLast_1 : WhenImageVerifyCompleteLast (on { Dev.reset with trust.trying := [(4, 7)], trust.released := true }) (7) := by decide
theorem test_when_imageVerifyCompleteLast_2 : WhenImageVerifyCompleteLast (on { Dev.reset with trust.trying := [(2, 3)], trust.released := true }) (3) := by decide
theorem test_when_imageVerifyCompleteLast_3 : WhenImageVerifyCompleteLast (on { Dev.reset with trust.trying := [(1, 1)], trust.released := true }) (1) := by decide
theorem test_when_imageVerifyCompleteReleases : WhenImageVerifyCompleteReleases (on { Dev.reset with trust.trying := [(1, 0)], trust.concluded := [3] }) (0) := by decide
theorem test_when_firekeeperImageRetry : WhenFirekeeperImageRetry (on (arm Dev.reset tkFkRetry 0 0)) := by decide
theorem test_when_hearthPackageLoaded_1 : WhenHearthPackageLoaded (packageState (leBytes 4 12 ++ octets [0, 0, 0, 0, 7, 0, 0, 0, 0, 0, 0, 0])) (3) (12) (leBytes 4 12 ++ octets [0, 0, 0, 0, 7, 0, 0, 0, 0, 0, 0, 0]) (octets [0, 0, 0, 0, 7, 0, 0, 0, 0, 0, 0, 0]) := by decide +kernel
theorem test_when_hearthPackageLoaded_2 : WhenHearthPackageLoaded (packageState (leBytes 4 12 ++ octets [0, 0, 0, 0, 7, 0, 0, 0, 1, 0, 0, 0])) (3) (12) (leBytes 4 12 ++ octets [0, 0, 0, 0, 7, 0, 0, 0, 1, 0, 0, 0]) (octets [0, 0, 0, 0, 7, 0, 0, 0, 1, 0, 0, 0]) := by decide +kernel
theorem test_when_bootSceneApply : WhenBootSceneApply (on { nSets Dev.reset [(slotImg_ACTIVE 7, 1), (dev_FK_STATE, 1)] with trust.released := true, dram.ready := true }) := by decide
theorem test_when_startDoneDeadline : WhenStartDoneDeadline (on (arm { Dev.reset with trust.released := true, now := 900000000 } tkStartDone 0 0 |> fun d => { d with now := 1800000000 })) := by decide
theorem test_when_firekeeperRestart : WhenFirekeeperRestart (on { sessDev [(dev_FK_STATE, 1)] with scene.evaluating := some anEvaluation }) := by decide
theorem test_when_load : WhenLoad (on { bSet { nSet Dev.reset (prog_LOADED 7) 1 with scene.alloc := [(mref 0x17 7 0, 1)] } (prog_IMAGE 7) (progImage []) with dram.ready := true }) (0) (7) (progPayload) := by decide +kernel
theorem test_when_erase : WhenErase (on { Dev.reset with trust.slots := [(7, [1])] }) (0) (7) := by decide
theorem test_when_verify : WhenVerify (on { Dev.reset with trust.slots := [(7, [1])] }) (0) (7) := by decide
theorem test_when_activate : WhenActivate (stM [(slotImg_STATE 7, 2), (slotImg_PREFERRED 6, 1)]) (0) (7) (6) := by decide
theorem test_when_enrol : WhenEnrol (State.reset) (0) (zeros 97) := by decide
theorem test_when_revoke : WhenRevoke (State.reset) (0) (0x9F) := by decide
theorem test_when_revokeSlot : WhenRevokeSlot (State.reset) (0) (mref 8 0x10 0) := by decide
theorem test_when_advance_1 : WhenAdvance (State.reset) (0) (5) (64) := by decide
theorem test_when_advance_2 : WhenAdvance (stM [(slotImg_ACTIVE 7, 1), (slotImg_SECURITY_VERSION 7, 3)]) (0) (4) (3) := by decide
theorem test_when_attest : WhenAttest (State.reset) (0) (zeros 32) := by decide

/-! ### The hypotheses of the frames: every command answers at reset -/

theorem test_commands_answer_1 : ([.registerWrite 0 0 0, .untimedWriteArrival 0 [], .gatedIslandAccessResume 0, .gpioEdge 0 true, .matcherDebounceExpiry 0, .canFdFrameReceived 0 ⟨true, true, true, false⟩ 0 [], .t1sFrameReceived 0 [], .signalTimeout 0, .noapDatagramReceived ⟨0, [], [], 0, []⟩ true [], .hello ⟨0, [], [], 0, []⟩ 0 0 [] [], .key 0 0 [], .close 0 true, .read 0 0 true [], .write 0 0 [], .commit 0 0 0, .commitDryRun 0 0 0, .subscribe 0 0 [], .bulk 0 0 0 0 [], .eventAck 0 0, .eventSend 0, .eventRepeatExpiry 0 0, .periodicSubscriptionExpiry 0 0, .sessionIdleTimeout 0, .sessionLifetimeExpiry 0, .noapEnableWrite 0 0, .noapLiteRead 0 ⟨true, true, true, false⟩ 0 [], .noapLiteWrite 0 ⟨true, true, true, false⟩ 0 [], .alloc 0 0 0, .free 0 0 0, .realize 0 0 0] : List Instr).all (fun c => answers c State.reset) = true := by decide
theorem test_commands_answer_2 : ([.discard 0 0, .headFrameBoundary 0, .headFirstBoundary 0, .lineMatch 0 0, .frameDone 0, .segmentUnderrun 0 0, .pipeLineCompose 0, .raceLineRead 0 0 0, .residentLoadComplete 0, .dramReadComplete 0 [], .capacityStep 0 0, .hearthScrub 0 0, .hearthSlotWrite 0 0 0 0 0, .signalMapWrite 0 0 0 0, .hoRequestWrite 0 0 0, .orbitEnableWrite 0 0 0, .faultClear 0 0, .mixerMismatch 0, .blinkGeneratorEdge 0, .nop 0 (op 0 0), .ldA 0 (op 0 0), .ldX 0 (op 0 0), .ldY 0 (op 0 0), .ldB 0 (op 0 0), .ldH 0 (op 0 0), .stA 0 (op 0 0), .stX 0 (op 0 0), .stY 0 (op 0 0), .stB 0 (op 0 0), .stH 0 (op 0 0)] : List Instr).all (fun c => answers c State.reset) = true := by decide
theorem test_commands_answer_3 : ([.stT 0 (op 0 0), .mvXa 0 (op 0 0), .mvYa 0 (op 0 0), .mvAx 0 (op 0 0), .mvAy 0 (op 0 0), .mvAl 0 (op 0 0), .mvAt 0 (op 0 0), .mvAf 0 (op 0 0), .mvFa 0 (op 0 0), .add 0 (op 0 0), .addC 0 (op 0 0), .sub 0 (op 0 0), .subC 0 (op 0 0), .rsb 0 (op 0 0), .and 0 (op 0 0), .or 0 (op 0 0), .xor 0 (op 0 0), .cmp 0 (op 0 0), .cmpX 0 (op 0 0), .cmpY 0 (op 0 0), .tst 0 (op 0 0), .shl 0 (op 0 0), .shr 0 (op 0 0), .sar 0 (op 0 0), .min 0 (op 0 0), .max 0 (op 0 0), .addX 0 (op 0 0), .addY 0 (op 0 0), .mul 0 (op 0 0), .mulq 0 (op 0 0)] : List Instr).all (fun c => answers c State.reset) = true := by decide
theorem test_commands_answer_4 : ([.div 0 (op 0 0), .recip 0 (op 0 0), .sqrt 0 (op 0 0), .sincos 0 (op 0 0), .longOpComplete 0, .jmp 0 (op 0 0), .call 0 (op 0 0), .ret 0 (op 0 0), .waitpos 0 (op 0 0), .waitposEnd 0, .waitev 0 (op 0 0), .waitevClaim 0, .eoi 0 (op 0 0), .syncf 0 (op 0 0), .fence 0 (op 0 0), .farb 0 (op 0 0), .cinv 0 (op 0 0), .cinva 0 (op 0 0), .ring 0 (op 0 0), .dmaq 0 (op 0 0), .postQueueDepart 0, .storeDrain 0, .loadDataArrival 0, .farWriteResponse 0, .timedWriteLanding 0, .beamPortQueueFree 0, .clusterFault ⟨0, none⟩, .load 0 0 0, .laneDirectionWrite 0 0 0, .laneTrainingStart 0] : List Instr).all (fun c => answers c State.reset) = true := by decide
theorem test_commands_answer_5 : ([.backChannelLock 0, .presetStepExpiry 0, .trainingDeadlineMissed 0, .trainingRetryExpiry 0, .laneReady 0, .commaLockLoss 0, .statusTimeout 0, .packetEnd 0, .queueOverflow 0, .ack 0 [], .nak 0 [], .retransmitTimeout 0, .status 0 [], .sigret 0 [], .linestat 0 [], .data 0 [], .rxModePacket 0 [], .rxLinePacket 0 [], .rxProtectedPacket 0 [], .rxAudioPacket 0 [], .pocRampComplete 0, .pocCutoff 0 0, .pocEnableWrite 0 0 0, .idResponse 0 [], .idResponseTimeout 0, .readReply 0 [], .committed 0 [], .committedTimeout 0, .writeRetryExpiry 0, .doseSnapshot 0] : List Instr).all (fun c => answers c State.reset) = true := by decide
theorem test_commands_answer_6 : ([.cellRowDose 0, .gainRecompute 0, .orbitStep 0, .operatingSecond 0, .ackNew 0 0 0, .rowRead 0 0 0, .gainRead 0 0 0, .scrubRead 0 [], .channelRetire 0 0, .retire 0 0 0, .unretire 0 0 0, .dramTrainingComplete 0 true, .post 0 0 0, .abort 0 0 0, .dmaListStart 0, .dmaListComplete 0, .kick 0 0 0, .ringEnableWrite 0 0 0, .fill 0, .copy 0, .clip 0, .blitCommandComplete 0, .keyOn 0 0, .keyOff 0 0, .voiceDurationExpiry 0, .waveTableWrite 0 0 [], .gainsWrite 0 0 [], .filterWrite 0 0 [], .start 0 0 0, .stop 0 0 0] : List Instr).all (fun c => answers c State.reset) = true := by decide
theorem test_commands_answer_7 : ([.sequencerTick 0, .tdmFrame 0 [], .aafPduReceived 0 [], .talkerPduSend 0, .uplinkLinkUp ⟨0, 0⟩, .uplinkLinkDown 0, .uplinkFrameReceived 0 true [], .arpRequest 0 [], .icmpEcho 0 [], .neighbourSolicitation 0 [], .redundancyWrite 0 0, .pdelayExchange 0 0 0 0 0, .gptpSync 0 0 0 0, .gptpSyncSend 0, .setTime 0 0, .canBusOff 0, .canBusOffRecovery 0, .restart 0 0 0, .timerPeriod 0, .timerCompare 0 0, .timerCapture 0 true, .captureRead 0, .timerEnableWrite 0 0, .periodWrite 0 0, .startMaskWrite 0 0, .groupStart 0, .doorbell 0 0, .ringAction 0 0, .hostClaim 0, .damperHoldExpiry 0] : List Instr).all (fun c => answers c State.reset) = true := by decide
theorem test_commands_answer_8 : ([.eventRoutingWrite 0 0 0 0, .holdoffWrite 0 0 0, .hostStateWrite 0 0, .set 0 0 0, .gpioClear 0 0 0, .toggle 0 0 0, .routeWrite 0 0 0, .matcherWrite 0 0 0 0, .hvsThresholdCrossing 0 true, .hvsFilterExpiry 0, .sleepWinter 0, .sleepFrost 0, .blockStopAnswer .stopped, .thermalSample 0 0, .powerAverage 0 0 0, .boostRequest 0 0, .boostEndRequest 0, .imageVerifyComplete 0, .firekeeperRestart 0, .erase 0 0 0, .verify 0 0 0, .activate 0 0 0, .enrol 0 [], .revoke 0 0, .revokeSlot 0 0 0, .advance 0 0, .attest 0 [], .token 0 [], .endToken 0 0, .countersRun 0] : List Instr).all (fun c => answers c State.reset) = true := by decide
theorem test_commands_answer_9 : ([.countersStop 0, .clear 0 0, .arm 0 0, .trigger 0 0, .canIntegrated 0, .canProtocolError 0 true 0 0, .plcaBeaconReceived 0, .duplicateAddressDetectionDone 0 0, .blockLock 0, .blockLockLoss 0, .statusSend 0, .instructionCacheFill 0, .pocCooldownExpiry 0, .plcaBeaconSend 0, .plcaBeaconLoss 0, .onChangeWindowExpiry, .sceneLeaseExpiry, .capacityStepUndo, .migrationCopyComplete, .hearthPackageLoaded, .keepaliveLoss, .summaryWrite, .dramInitComplete, .engineSample, .ppsEdge, .syncTimeout, .ppsOutRise, .ppsOutFall, .rtcTick, .vinValid] : List Instr).all (fun c => answers c State.reset) = true := by decide
theorem test_commands_answer_10 : ([.crankEntry, .crankExit, .crankTimeout, .vinLoss, .overvoltage, .overvoltageClear, .restoreStepComplete, .wearFlushEnd, .stopDelayExpiry, .sleepRollbackStep, .wakeN, .resetN, .resetNRelease, .thermalTrip, .boostEpisodeEnd, .boostLifetimeFuse, .kindlingStart, .firekeeperImageRetry, .bootSceneApply, .startDoneDeadline, .tokenExpiry, .chimneyRecordSend, .snapIn, .snapOutEnd, .vinAbsent, .boostVinLow, .commitDecision, .noapLiteResponseSent] : List Instr).all (fun c => answers c State.reset) = true := by decide

/-! ### The hypotheses of the other statements -/

theorem test_front : ({ State.reset with pending := [.vinLoss, .vinValid] } : State).pending = .vinLoss :: [.vinValid] := rfl
theorem test_idle : State.reset.pending = [] := rfl
theorem test_order : MemInOrder { State.reset with mem := [(0x1000000000, 1), (0x1000000001, 2)] } ∧
    ∃ u, step { State.reset with mem := [(0x1000000000, 1), (0x1000000001, 2)] } = .next u := ⟨by unfold MemInOrder; decide, _, rfl⟩
theorem test_alloc : SceneAlloc (on { Dev.reset with scene.alloc := [(mref 0x13 4095 0, 1)] }).dev ∧
    ∃ u, step (on { Dev.reset with scene.alloc := [(mref 0x13 4095 0, 1)] }) = .next u := ⟨by decide, _, rfl⟩
theorem test_durable : durable sec_REVOKED_KEYS = true ∧ sec_REVOKED_KEYS ≠ supply_LAST_POWER_LOSS ∧ sec_REVOKED_KEYS ≠ boost_LIFETIME_S := by decide
theorem test_other_thread : 0x0A < 0x14 ∧ (be32Table.any (fun e => decide (e.1 = 0x14))) = true ∧ (383 : Nat) ≠ (0 : Fin 384).val := by decide
theorem test_false_condition : MayIssue 0x14 (raster [] id) 0 { op 0 1 with cond := 1 } ∧
    condHolds (threadOf (settleThread (raster [] id).dev 0) 0) (bkHolds (settleThread (raster [] id).dev 0) 0) 1 = false := by decide
theorem test_false_beam : threadHead portTimed.dev 0 = some 0 := by decide
theorem test_eoi_own : nGet (nSet { Dev.reset with events.claimant := [(1023, 5)] } (ev_STATE 1023) 2) (ev_STATE 1023) = 2 ∧
    mapFind (nSet { Dev.reset with events.claimant := [(1023, 5)] } (ev_STATE 1023) 2).events.claimant 1023 = some 5 := by decide
theorem test_eoi_other : ¬ (nGet Dev.reset (ev_STATE 0) = 2 ∧ mapFind Dev.reset.events.claimant 0 = some 5) := by decide
theorem test_pin_actions : nGet Dev.reset (bank_DATA_OUT 4) < 2 ^ 32 ∧ writeGate Dev.reset 0 (bank_SET 4) = none ∧
    writeGate Dev.reset 0 (bank_CLEAR 4) = none ∧ writeGate Dev.reset 0 (bank_TOGGLE 4) = none := by decide
theorem test_close : (withSession []).dev.noap.sessions.find? (fun y => decide (y.id = 1)) = some aSession ∧ aSession.controller = true ∧ aSession.isOpen = true := by decide
theorem test_long_operands : (3 : Word) ≠ 0 ∧ ¬ ((5 : Word) = 0x80000000 ∧ (3 : Word) = 0xFFFFFFFF) := by decide
theorem test_be32_has_word : encodeBe32 (.add 5 (op 0 1)) = some (5, 0x05000001) := by decide
theorem test_be32_undefined : be32Opcode 0xFFC00000 ∈ [0x27, 0x2E, 0x2F, 0x3D, 0x3E, 0x3F] := by decide
theorem test_inside_list : ∃ u, exec (.dmaListComplete 31) (on { updChan Dev.reset 31 (fun x => { x with job := some aJob }) with dram.ready := true }) = .next u ∧
    (chanOf (updChan Dev.reset 31 (fun x => { x with job := some aJob })) 31).job = some aJob ∧ 0x1000000102 ∉ addrsOf aJob.dst ∧ aJob.hasRecord = false := ⟨_, rfl, by decide⟩
theorem test_inside_bulk : refClass (mref 0x13 5 0) = 0x13 ∧ refMember (mref 0x13 5 0) = 0 := by decide

/-! ### BE32 words written out from R359, R361 and R368 -/

theorem test_word_store : decodeBe32 3 0x01B80104#32 = some (.stA 3 { cond := 0, mode := 7, operand := 0x104 }) := by decide
theorem test_word_shift : decodeBe32 3 0x8800000C#32 = some (.shl 3 { cond := 8, mode := 0, operand := 12 }) := by decide
theorem test_word_mul : decodeBe32 3 0xFA000002#32 = some (.mul 3 { cond := 15, mode := 0, operand := 2 }) := by decide
theorem test_word_return : decodeBe32 3 0x1C800000#32 = some (.ret 3 { cond := 1, mode := 0, operand := 0 }) := by decide

/-! ### Values worked out by hand from the rules -/

/-- R759: round(2.5) is 3 and round(−2.5) is −3. -/
theorem test_rounding : roundDiv 5 2 = 3 ∧ roundDiv (-5) 2 = -3 := by decide
/-- R372: DIV of 0x80000000 by −1; SINCOS of angle 0; SQRT of 4.0. -/
theorem test_long : divWord 0x80000000 0xFFFFFFFF = 0x7FFFFFFF ∧ sincosWord 0 = 0x00004000 ∧ sqrtWord 0x00040000 = 0x00020000 := by decide +kernel
/-- R29: 48:0010/9 packs to 0x48001009. -/
theorem test_reference : noap_TAG_FAIL = 0x48001005 ∧ mref 0x48 0x10 9 = 0x48001009 := by decide
/-- R657: a cold start begins the restore table at step 1. -/
theorem test_cold_start : (match step { State.reset with pending := [.vinValid] } with | .next u => decide (u.dev.power.phase = .restoring 1 0) | _ => false) = true := by decide
/-- R589: without supply a tick moves the clock of the model, not the timebase. -/
theorem test_tick_absent : (match step State.reset with | .next u => decide (u.dev.now = 5 ∧ u.dev.tb = 0) | _ => false) = true := by decide +kernel
/-- R468: the generator of degree 8 over the field polynomial 0x11D with roots α^0 to α^7, as tables of the code list it. -/
theorem test_outer_generator : rsGenerator = [1, 255, 11, 81, 54, 239, 173, 200, 24] := by decide +kernel
/-- R468: 256 data octets leave as 272; the code of zeros is zero. -/
theorem test_outer_code : channelOctets (zeros 256) = zeros 272 := by decide +kernel
/-- R391: from a state of zeros a 1 comes again 39 and 58 bits later. -/
theorem test_scrambler : (scrambleBits 0 (true :: List.replicate 63 false)).2 = (List.range 64).map (fun k => k == 0 || k == 39 || k == 58) := by decide
/-- R692: no two regions of the NOR share an octet, and each lies within its 64 MiB. -/
theorem test_nor_regions : norRegions.Pairwise (fun a b => norApart a b = true) ∧ norRegions.all (fun r => decide (r.2.1 + r.2.2 ≤ 2 ^ 26)) = true := by decide
/-- R298: without VIN both fault pins are released; in operation with a fault FLT_A is low and FLT_B high. -/
theorem test_fault_pins : faultLevels Dev.reset = (none, none) ∧
    faultLevels (nSet { Dev.reset with hearth.released := false } hearth_FAULT_PINS 1) = (some false, some true) := by decide
/-- R696: while RESET_N is low both xSPI ports hold their balls at high impedance. -/
theorem test_xspi_reset : (match exec .resetN (on { Dev.reset with power.phase := .running }) with
    | .next u => xspiHighZ u.dev 0 && xspiHighZ u.dev 1 | _ => false) = true := by decide +kernel

end Sys2Proof.Tests
end

section
/-!
Rounding (R759): how far roundRat is from its value, and the integer quotient by which roundDiv computes it.
-/
namespace Sys2Proof.Machine

theorem roundRat_of_nonneg {x : Rat} (h : 0 ≤ x) : roundRat x = (x + 1 / 2).floor := if_pos h

theorem roundRat_of_neg {x : Rat} (h : x < 0) : roundRat x = -(-x + 1 / 2).floor := if_neg (not_le.mpr h)

/-- The floor of a value and a half is at most a half above the value and less than a half below it. -/
theorem floor_add_half_bounds (x : Rat) :
    -(1 / 2) ≤ x - ((x + 1 / 2).floor : Rat) ∧ x - ((x + 1 / 2).floor : Rat) < 1 / 2 := by
  have hle : ((x + 1 / 2).floor : Rat) ≤ x + 1 / 2 := Rat.floor_le _
  have hlt : x + 1 / 2 - 1 < ((x + 1 / 2).floor : Rat) := Rat.lt_floor
  constructor <;> linarith

theorem roundRat_error_of_nonneg {x : Rat} (h : 0 ≤ x) :
    -(1 / 2) ≤ x - (roundRat x : Rat) ∧ x - (roundRat x : Rat) < 1 / 2 := by
  rw [roundRat_of_nonneg h]
  exact floor_add_half_bounds x

/-- Below zero the bounds are those of the value's opposite, so it is the tie upwards that cannot happen. -/
theorem roundRat_error_of_neg {x : Rat} (h : x < 0) :
    -(1 / 2) < x - (roundRat x : Rat) ∧ x - (roundRat x : Rat) ≤ 1 / 2 := by
  obtain ⟨hlo, hhi⟩ := floor_add_half_bounds (-x)
  rw [roundRat_of_neg h]
  push_cast
  constructor <;> linarith

theorem roundRat_nearest (x : Rat) : -(1 / 2) ≤ x - (roundRat x : Rat) ∧ x - (roundRat x : Rat) ≤ 1 / 2 := by
  rcases lt_or_ge x 0 with hx | hx
  · obtain ⟨hlo, hhi⟩ := roundRat_error_of_neg hx
    exact ⟨hlo.le, hhi⟩
  · obtain ⟨hlo, hhi⟩ := roundRat_error_of_nonneg hx
    exact ⟨hlo, hhi.le⟩

/-- Only a negative value goes a half downwards. -/
theorem neg_of_roundRat_half_below {x : Rat} (h : x - (roundRat x : Rat) = 1 / 2) : x < 0 := by
  by_contra hx
  exact (roundRat_error_of_nonneg (not_lt.mp hx)).2.ne h

/-- The floor of a quotient and a half is the integer quotient that roundDiv takes. -/
theorem floor_div_add_half (n : Int) {d : Nat} (hd : 0 < d) :
    ((n : Rat) / (d : Rat) + 1 / 2).floor = (2 * n + d) / (2 * d : Nat) := by
  have hne : (d : Rat) ≠ 0 := by positivity
  have hsum : (n : Rat) / (d : Rat) + 1 / 2 = ((2 * n + d : Int) : Rat) / ((2 * d : Nat) : Rat) := by
    push_cast
    field_simp
  rw [hsum]
  exact Rat.floor_intCast_div_natCast (2 * n + d) (2 * d)

theorem roundDiv_eq_roundRat (n : Int) {d : Nat} (hd : 0 < d) : roundDiv n d = roundRat ((n : Rat) / (d : Rat)) := by
  have hpos : (0 : Rat) < d := by exact_mod_cast hd
  unfold roundDiv
  split
  case isTrue hn =>
    have hq : 0 ≤ (n : Rat) / (d : Rat) := div_nonneg (by exact_mod_cast hn) hpos.le
    rw [roundRat_of_nonneg hq, floor_div_add_half n hd]
  case isFalse hn =>
    have hq : (n : Rat) / (d : Rat) < 0 := div_neg_of_neg_of_pos (by exact_mod_cast not_le.mp hn) hpos
    have hopp : -((n : Rat) / (d : Rat)) = ((-n : Int) : Rat) / (d : Rat) := by
      push_cast
      ring
    rw [roundRat_of_neg hq, hopp, floor_div_add_half (-n) hd]

@[simp] theorem roundRat_zero : roundRat 0 = 0 := by
  have hdiv : roundDiv 0 1 = roundRat (((0 : Int) : Rat) / ((1 : Nat) : Rat)) := roundDiv_eq_roundRat 0 one_pos
  simpa [roundDiv] using hdiv.symm

/-- Only a positive value goes a half upwards: 0 rounds to itself. -/
theorem pos_of_roundRat_half_above {x : Rat} (h : x - (roundRat x : Rat) = -(1 / 2)) : 0 < x := by
  rcases lt_trichotomy x 0 with hx | rfl | hx
  · exact absurd h (roundRat_error_of_neg hx).1.ne'
  · norm_num at h
  · exact hx

/-- Settles O11: the error of roundRat lies in [-1/2, 1/2) from zero up and in (-1/2, 1/2] below, and roundDiv is its integer form. -/
theorem roundingIsToNearest : Obligations.RoundingIsToNearest := by
  refine ⟨fun x => ?_, fun n d hd => roundDiv_eq_roundRat n hd, ?_, ?_⟩
  · obtain ⟨hlo, hhi⟩ := roundRat_nearest x
    have hfloor : x < (x.floor : Rat) + 1 := by exact_mod_cast Rat.lt_floor_add_one x
    exact ⟨hlo, hhi, neg_of_roundRat_half_below, pos_of_roundRat_half_above, Rat.floor_le x, hfloor, Rat.le_ceil, Rat.ceil_lt⟩
  · exact (roundDiv_eq_roundRat 5 two_pos).symm
  · exact (roundDiv_eq_roundRat (-5) two_pos).symm

end Sys2Proof.Machine
end

section
/-!
Crossings (R13 to R16): what the arrival of one source's oldest access does, and what it leaves when the access is a read.
-/
namespace Sys2Proof.Machine

/-- A device with other accesses in the crossings. -/
def withCrossing (d : Dev) (l : List RegWrite) : Dev := { d with islands.crossing := l }

@[simp] theorem withCrossing_off (d : Dev) (l : List RegWrite) : (withCrossing d l).islands.off = d.islands.off := rfl
@[simp] theorem withCrossing_gated (d : Dev) (l : List RegWrite) : (withCrossing d l).islands.gated = d.islands.gated := rfl

/-- The sources in rising order, of which there is one. -/
theorem doUntimedWriteArrival_singleton (dst src : Fin 105) (m : List Host.Cell) (d : Dev) :
    doUntimedWriteArrival dst [src] m d = arriveFrom m dst.val d src.val := by
  have hsrcs : (List.range 105).filter (fun i => [src].any (fun x => decide (x.val = i))) = [src.val] := by
    revert src
    decide
  simp only [doUntimedWriteArrival, hsrcs, List.foldl_cons, List.foldl_nil]

theorem arriveFrom_of_takeCrossing {d : Dev} {dst src : Nat} {w : RegWrite} {l : List RegWrite}
    (h : takeCrossing dst src d.islands.crossing = some (w, l)) (m : List Host.Cell) :
    arriveFrom m dst d src = arriveReg (withCrossing d l) m w := by
  simp only [arriveFrom, h, withCrossing]

/-- An access is not held at an island that has its power and its clock (R16). -/
theorem arriveReg_of_running {d : Dev} {w : RegWrite} (hoff : d.islands.off.contains w.dst = false)
    (hgated : d.islands.gated.contains w.dst = false) (m : List Host.Cell) : arriveReg d m w = applyReg d m w := by
  simp only [arriveReg, hoff, hgated, Bool.false_eq_true, if_false]

/-- Only in a cluster's timer block does a read change what it reads (R607). -/
theorem applyReg_read_of_ge {w : RegWrite} (hread : w.isRead = true) (hdst : 12 ≤ w.dst) (d : Dev) (m : List Host.Cell) :
    applyReg d m w = d := by
  simp [applyReg, hread, Nat.not_lt.mpr hdst]

/-- A read that meets the conditions of UntimedWriteArrivalDoes leaves the crossings and changes nothing else. -/
theorem exec_untimedWriteArrival_of_read {s : State} {h : Fin 16} {src dst : Fin 105} {w : RegWrite} {l : List RegWrite}
    (hw : WhenUntimedWriteArrival s h src dst w l) (hread : w.isRead = true) :
    exec (.untimedWriteArrival dst [src]) s = .next (withDev s (withCrossing s.dev l)) := by
  obtain ⟨hhead, htake, hdst, -, hoff, hgated⟩ := hw
  rw [← hdst] at hoff hgated
  calc exec (.untimedWriteArrival dst [src]) s
      = .next (withDev s (doUntimedWriteArrival dst [src] s.mem s.dev)) := rfl
    _ = .next (withDev s (applyReg (withCrossing s.dev l) s.mem w)) := by
        rw [doUntimedWriteArrival_singleton, arriveFrom_of_takeCrossing htake,
          arriveReg_of_running (by simpa using hoff) (by simpa using hgated)]
    _ = .next (withDev s (withCrossing s.dev l)) := by
        rw [applyReg_read_of_ge hread (by omega)]

/-- A read of the underrun colour of head 15 from the Firekeeper. A read has no value; its val differs from the colour after reset. -/
def colourRead : RegWrite := { src := 103, dst := 59, addr := 0x40, val := 1, thread := 0, prog := 0, isRead := true }

/-- The state after reset with that read in the crossings. -/
def colourReadCrossing : State := withDev State.reset (withCrossing State.reset.dev [colourRead])

theorem whenUntimedWriteArrival_colourReadCrossing : WhenUntimedWriteArrival colourReadCrossing 15 103 59 colourRead [] := by
  decide

/-- Refutes O28: the conditions of UntimedWriteArrivalDoes admit a read (the hypothesis isRead = false is missing; the model
itself sends only writes into the crossings). The read of `colourReadCrossing` arrives at head 15, whose underrun colour stays 0, where
the statement wants the low bits of val, 1. -/
theorem not_registerCrossings : ¬ Obligations.RegisterCrossings := by
  unfold Obligations.RegisterCrossings
  rintro ⟨-, -, harrival, -, -⟩
  obtain ⟨u, hexec, -, hucol⟩ := harrival colourReadCrossing 15 103 59 colourRead [] whenUntimedWriteArrival_colourReadCrossing
  rw [exec_untimedWriteArrival_of_read whenUntimedWriteArrival_colourReadCrossing rfl] at hexec
  cases hexec
  exact absurd hucol (by decide)

end Sys2Proof.Machine
end

section
/-!
What an operation keeps beside what it writes: members, deadlines and the HVS comparators. Raising an event, counting, tracing and
latching a snapshot (R610, R726 to R732), and applying a signal to the Hearth plane (R284), each write members of their own classes.
-/
namespace Sys2Proof.Machine

@[simp] theorem refClass_mref (c i m : Nat) : refClass (mref c i m) = c % 256 := by
  simp only [refClass, mref]
  omega

@[simp] theorem refInst_mref (c i m : Nat) : refInst (mref c i m) = i % 65536 := by
  simp only [refInst, mref]
  omega

@[simp] theorem refMember_mref (c i m : Nat) : refMember (mref c i m) = m % 256 := by
  simp only [refMember, mref]
  omega

/-- A device e that agrees with d on the members that meet M, on the deadlines whose keys meet T, and on the HVS comparators. -/
structure Keeps (M : Ref → Prop) (T : Nat → Prop) (d e : Dev) : Prop where
  member : ∀ q, M q → mGet e q = mGet d q
  deadline : ∀ k, T k → mapFind e.timers k = mapFind d.timers k
  hvs : e.pins.hvsCompare = d.pins.hvsCompare

namespace Keeps

variable {M M' : Ref → Prop} {T T' : Nat → Prop} {d e f : Dev}

theorem refl (d : Dev) : Keeps M T d d := ⟨fun _ _ => rfl, fun _ _ => rfl, rfl⟩

theorem trans (h : Keeps M T d e) (h' : Keeps M T e f) : Keeps M T d f :=
  ⟨fun q hq => (h'.member q hq).trans (h.member q hq), fun k hk => (h'.deadline k hk).trans (h.deadline k hk), h'.hvs.trans h.hvs⟩

theorem mono (h : Keeps M T d e) (hM : ∀ q, M' q → M q) (hT : ∀ k, T' k → T k) : Keeps M' T' d e :=
  ⟨fun q hq => h.member q (hM q hq), fun k hk => h.deadline k (hT k hk), h.hvs⟩

/-- Fields that hold neither members nor deadlines nor the comparators may change. -/
theorem same (h : Keeps M T d e) (hobjs : f.objs = e.objs) (htimers : f.timers = e.timers)
    (hhvs : f.pins.hvsCompare = e.pins.hvsCompare) : Keeps M T d f :=
  h.trans ⟨fun q _ => mGet_congr hobjs q, fun k _ => by rw [htimers], hhvs⟩

theorem setObs (h : Keeps M T d e) (o : Obs) : Keeps M T d { e with obs := o } := h.same rfl rfl rfl
theorem setEvents (h : Keeps M T d e) (v : Events) : Keeps M T d { e with events := v } := h.same rfl rfl rfl
theorem setHearth (h : Keeps M T d e) (p : Hearth) : Keeps M T d { e with hearth := p } := h.same rfl rfl rfl
theorem setAudio (h : Keeps M T d e) (a : Audio) : Keeps M T d { e with audio := a } := h.same rfl rfl rfl

theorem mSet (h : Keeps M T d e) {r : Ref} (hr : ¬ M r) (v : Val) : Keeps M T d (mSet e r v) :=
  h.trans ⟨fun _ hq => mGet_mSet_other e v (fun hqr => hr (hqr ▸ hq)), fun _ _ => by rw [mSet_timers], by rw [mSet_pins]⟩

theorem nSet (h : Keeps M T d e) {r : Ref} (hr : ¬ M r) (n : Nat) : Keeps M T d (nSet e r n) := h.mSet hr _

theorem nInc (h : Keeps M T d e) {r : Ref} (hr : ¬ M r) : Keeps M T d (nInc e r) := h.nSet hr _

theorem nSets (h : Keeps M T d e) {l : List (Ref × Nat)} (hl : ∀ x ∈ l, ¬ M x.1) : Keeps M T d (nSets e l) := by
  induction l generalizing e with
  | nil => exact h
  | cons x l ih => exact ih (h.nSet (hl x List.mem_cons_self) x.2) (fun y hy => hl y (List.mem_cons_of_mem x hy))

theorem arm (h : Keeps M T d e) {kind i : Nat} (hk : ¬ T (timerKey kind i)) (dt : Nat) : Keeps M T d (arm e kind i dt) :=
  h.trans ⟨fun q _ => mGet_arm e kind i dt q, fun _ hq => mapFind_mapPut_other e.timers _ (fun hqk => hk (hqk ▸ hq)), rfl⟩

theorem disarm (h : Keeps M T d e) {kind i : Nat} (hk : ¬ T (timerKey kind i)) : Keeps M T d (disarm e kind i) :=
  h.trans ⟨fun q _ => mGet_disarm e kind i q, fun _ hq => mapFind_mapErase_other e.timers (fun hqk => hk (hqk ▸ hq)), rfl⟩

theorem foldl {α : Type} {step : Dev → α → Dev} {l : List α} (hstep : ∀ d, ∀ a ∈ l, Keeps M T d (step d a)) (d : Dev) :
    Keeps M T d (l.foldl step d) := by
  induction l generalizing d with
  | nil => exact refl d
  | cons a l ih =>
    exact (hstep d a List.mem_cons_self).trans (ih (fun d b hb => hstep d b (List.mem_cons_of_mem a hb)) (step d a))

theorem ite {c : Prop} [Decidable c] (ht : c → Keeps M T d e) (hf : ¬ c → Keeps M T d f) : Keeps M T d (if c then e else f) := by
  split
  case isTrue hc => exact ht hc
  case isFalse hc => exact hf hc

/-- A step that may be left out. -/
theorem whenever {c : Prop} [Decidable c] (ht : c → Keeps M T d e) : Keeps M T d (if c then e else d) := ite ht (fun _ => refl d)

theorem whenNot {c : Prop} [Decidable c] (hf : ¬ c → Keeps M T d e) : Keeps M T d (if c then d else e) := ite (fun _ => refl d) hf

theorem nGet (h : Keeps M T d e) {q : Ref} (hq : M q) : nGet e q = nGet d q := by simp only [Machine.nGet, h.member q hq]

theorem armed (h : Keeps M T d e) {kind i : Nat} (hk : T (timerKey kind i)) : armed e kind i = armed d kind i := by
  simp only [Machine.armed, h.deadline _ hk]

end Keeps

/-- The members that neither events nor observation nor the Hearth plane's slots and signal map hold. -/
def QuietMember (q : Ref) : Prop := refClass q ∉ [0x20, 0x21, 0x50, 0x70]

/-- The keys of the deadlines that raising an event does not set. -/
def QuietKey (k : Nat) : Prop := k / 65536 ∉ [tkDamper, tkSnapOut]

theorem not_quietMember_mref {c : Nat} (i m : Nat) (hc : c % 256 ∈ [0x20, 0x21, 0x50, 0x70]) : ¬ QuietMember (mref c i m) := by
  simpa only [QuietMember, refClass_mref, not_not] using hc

theorem not_quietMember_ev (n m : Nat) : ¬ QuietMember (mref 0x50 n m) := not_quietMember_mref n m (by decide)
theorem not_quietMember_obs (n m : Nat) : ¬ QuietMember (mref 0x70 n m) := not_quietMember_mref n m (by decide)
theorem not_quietMember_slot (n m : Nat) : ¬ QuietMember (mref 0x20 n m) := not_quietMember_mref n m (by decide)
theorem not_quietMember_sig (n m : Nat) : ¬ QuietMember (mref 0x21 n m) := not_quietMember_mref n m (by decide)

theorem timerKey_div {kind i : Nat} (hi : i < 65536) : timerKey kind i / 65536 = kind := by
  simp only [timerKey]
  omega

theorem not_quietKey_damper {g : Nat} (hg : g < 65536) : ¬ QuietKey (timerKey tkDamper g) := by
  simp [QuietKey, timerKey_div hg]

theorem not_quietKey_snapOut : ¬ QuietKey (timerKey tkSnapOut 0) := by
  simp [QuietKey, timerKey_div]

/-- What raising an event and applying a signal keep. -/
abbrev KeepsQuiet (d e : Dev) : Prop := Keeps QuietMember QuietKey d e

theorem keepsQuiet_trace (d : Dev) (kind unit data : Nat) : KeepsQuiet d (trace d kind unit data) := by
  unfold trace
  refine Keeps.whenever fun _ => Keeps.ite (fun _ => ?_) (fun _ => ?_)
  · exact Keeps.setObs (Keeps.refl d) _
  · exact Keeps.nInc (Keeps.setObs (Keeps.refl d) _) (not_quietMember_obs _ _)

theorem keepsQuiet_countSignal (d : Dev) (sel n : Nat) : KeepsQuiet d (countSignal d sel n) := by
  unfold countSignal
  refine Keeps.whenever fun _ => Keeps.foldl (fun d k _ => ?_) d
  unfold counterAdd
  exact Keeps.whenever fun _ => Keeps.nSet (Keeps.setObs (Keeps.refl d) _) (not_quietMember_obs _ _) _

theorem keepsQuiet_snapIsland (d : Dev) (t i : Nat) : KeepsQuiet d (snapIsland d t i) := by
  have hfree : KeepsQuiet d (if 92 ≤ i ∧ i < 100 then freeUsed d else d) :=
    Keeps.whenever fun _ => (Keeps.refl d).same rfl rfl rfl
  refine hfree.nSets ?_
  simp only [List.forall_mem_cons, List.not_mem_nil, false_imp_iff, implies_true, and_true]
  exact ⟨not_quietMember_obs _ _, not_quietMember_obs _ _, not_quietMember_obs _ _, not_quietMember_obs _ _,
    not_quietMember_obs _ _, not_quietMember_obs _ _⟩

theorem keepsQuiet_snapCounters (d : Dev) : KeepsQuiet d (snapCounters d) :=
  Keeps.foldl (fun d _ _ => (Keeps.refl d).nSet (not_quietMember_obs _ _) _) d

theorem keepsQuiet_snapTrigger (d : Dev) (cause : Nat) : KeepsQuiet d (snapTrigger d cause) := by
  unfold snapTrigger
  refine Keeps.ite (fun _ => Keeps.refl d) fun _ => Keeps.ite (fun _ => ?joins) fun _ => Keeps.ite (fun _ => ?missed) fun _ => ?taken
  case joins => exact (Keeps.refl d).nSet (not_quietMember_obs _ _) _
  case missed => exact (Keeps.refl d).nInc (not_quietMember_obs _ _)
  case taken =>
    refine Keeps.arm (Keeps.setObs ?_ _) not_quietKey_snapOut _
    refine Keeps.trans (Keeps.trans ?_ (Keeps.foldl (fun d i _ => keepsQuiet_snapIsland d _ i) _)) (keepsQuiet_snapCounters _)
    refine (Keeps.refl d).nSets ?_
    simp only [List.forall_mem_cons, List.not_mem_nil, false_imp_iff, implies_true, and_true]
    exact ⟨not_quietMember_obs _ _, not_quietMember_obs _ _, not_quietMember_obs _ _, not_quietMember_obs _ _⟩

theorem keepsQuiet_startHold (d : Dev) {g : Nat} (hg : g < 65536) : KeepsQuiet d (startHold d g) :=
  Keeps.ite (fun _ => Keeps.refl d) fun _ => ((Keeps.refl d).nSet (not_quietMember_ev _ _) _).arm (not_quietKey_damper hg) _

theorem keepsQuiet_claimSource (d : Dev) {n : Nat} (hn : n < 1024) (who : Nat) : KeepsQuiet d (claimSource d n who) := by
  have hg : groupOf n < 65536 := by
    simp only [groupOf]
    omega
  unfold claimSource
  refine Keeps.trans (Keeps.setEvents ?_ _) (keepsQuiet_startHold _ hg)
  refine Keeps.trans ?_ (Keeps.whenever fun _ => Keeps.nInc (Keeps.refl _) (not_quietMember_ev _ _))
  refine Keeps.nInc ?_ (not_quietMember_ev _ _)
  exact ((Keeps.refl d).nSet (not_quietMember_ev _ _) _).nSet (not_quietMember_ev _ _) _

theorem keepsQuiet_endSource (d : Dev) (n : Nat) : KeepsQuiet d (endSource d n) := by
  have hclaimant : KeepsQuiet d { d with events.claimant := mapErase d.events.claimant n } := (Keeps.refl d).setEvents _
  unfold endSource
  refine Keeps.ite (fun _ => ?_) fun _ => Keeps.ite (fun _ => ?_) fun _ => ?_
  · exact hclaimant.nSet (not_quietMember_ev _ _) _
  · exact (hclaimant.nSet (not_quietMember_ev _ _) _).nSet (not_quietMember_ev _ _) _
  · exact hclaimant.nSet (not_quietMember_ev _ _) _

theorem keepsQuiet_firekeeperClaim (d : Dev) {n : Nat} (hn : n < 1024) : KeepsQuiet d (firekeeperClaim d n) :=
  Keeps.whenever fun _ => (keepsQuiet_claimSource d hn 0).trans (keepsQuiet_endSource _ n)

theorem keepsQuiet_raiseBy (d : Dev) {n : Nat} (hn : n < 1024) (amt : Nat) : KeepsQuiet d (raiseBy d n amt) := by
  unfold raiseBy
  refine Keeps.trans ?_ (keepsQuiet_firekeeperClaim _ hn)
  refine Keeps.trans ?_ (Keeps.whenever fun _ => keepsQuiet_snapTrigger _ 4)
  refine Keeps.trans (Keeps.trans ?_ (keepsQuiet_countSignal _ n 1)) (keepsQuiet_trace _ 1 n _)
  refine Keeps.trans (Keeps.setEvents ?_ _) (Keeps.whenNot fun _ => Keeps.nSet (Keeps.refl _) (not_quietMember_ev _ _) _)
  exact Keeps.nInc (Keeps.nSet (Keeps.refl d) (not_quietMember_ev _ _) _) (not_quietMember_ev _ _)

theorem keepsQuiet_setLevel (d : Dev) {n : Nat} (hn : n < 1024) (b : Bool) : KeepsQuiet d (setLevel d n b) :=
  Keeps.trans ((Keeps.refl d).nSet (not_quietMember_ev _ _) _) (Keeps.whenever fun _ => keepsQuiet_raiseBy _ hn 1)

theorem keepsQuiet_updHHead (d : Dev) (h : Nat) (f : HHead → HHead) : KeepsQuiet d (updHHead d h f) :=
  (Keeps.refl d).setHearth _

theorem keepsQuiet_recombineFor (was d : Dev) (n : Nat) : KeepsQuiet d (recombineFor was d n) := by
  refine Keeps.foldl (fun d i _ => Keeps.nSet ?_ (not_quietMember_slot _ _) _) d
  unfold retime
  exact Keeps.ite (fun _ => Keeps.refl d) fun _ => keepsQuiet_updHHead d _ _

theorem keepsQuiet_entryChange (lag : Nat) (d : Dev) (n : Nat) {f : Dev → Dev} (hf : ∀ e, KeepsQuiet e (f e)) :
    KeepsQuiet d (entryChange lag d n f) := by
  have hnote : KeepsQuiet d (noteEntry d n lag) := (Keeps.refl d).setHearth _
  exact (hnote.trans (hf _)).trans (keepsQuiet_recombineFor d _ n)

theorem keepsQuiet_writeEntryState (d : Dev) (n st : Nat) : KeepsQuiet d (writeEntryState d n st) :=
  Keeps.nSet (Keeps.setAudio (Keeps.refl d) _) (not_quietMember_sig _ _) _

theorem keepsQuiet_applyValue (lag : Nat) (d : Dev) (n v : Nat) : KeepsQuiet d (applyValue lag d n v) := by
  refine keepsQuiet_entryChange lag d n fun e => ?_
  have hloss : KeepsQuiet e (nSet e (sig_IN_LOSS n) 0) := (Keeps.refl e).nSet (not_quietMember_sig _ _) _
  exact Keeps.ite (fun _ => hloss) fun _ => hloss.trans (keepsQuiet_writeEntryState _ n _)

end Sys2Proof.Machine
end

section
/-!
Pins (pins chapter): what reading the pads, driving them and a matcher's look at its inputs keep, and what each command of the chapter
leaves in the members that it names.
-/
namespace Sys2Proof.Machine

/-- The members of the pin block that no matcher writes (R648): all but those numbered 7 and 8, as OUTPUT and CHANGES are. -/
def UnlookedMember (q : Ref) : Prop := refClass q = 0x58 ∧ refMember q ≠ 7 ∧ refMember q ≠ 8

/-- Those of them that driving and reading the pads do not write either: all but DATA_IN and OWNER of a bank (R638, R641). -/
def UndrivenMember (q : Ref) : Prop := UnlookedMember q ∧ (refInst q < 5 → refMember q ≠ 1 ∧ refMember q ≠ 9)

/-- The keys of the HVS filters' deadlines. -/
def HvsKey (k : Nat) : Prop := k / 65536 = tkHvs

theorem quietMember_of_pin {q : Ref} (hq : refClass q = 0x58) : QuietMember q := by
  simp [QuietMember, hq]

theorem quietKey_of_hvs {k : Nat} (hk : HvsKey k) : QuietKey k := by
  rw [QuietKey, hk]
  decide

theorem quietKey_matcher {k : Nat} (hk : k < 65536) : QuietKey (timerKey tkMatcher k) := by
  rw [QuietKey, timerKey_div hk]
  decide

theorem hvsKey_hvs (k : Fin 8) : HvsKey (timerKey tkHvs k.val) := timerKey_div (by omega)

theorem not_hvsKey_matcher {k : Nat} (hk : k < 65536) : ¬ HvsKey (timerKey tkMatcher k) := by
  rw [HvsKey, timerKey_div hk]
  decide

theorem not_unlookedMember_OUTPUT (k : Nat) : ¬ UnlookedMember (matcher_OUTPUT k) := by
  simp [UnlookedMember, matcher_OUTPUT]

theorem not_unlookedMember_CHANGES (k : Nat) : ¬ UnlookedMember (matcher_CHANGES k) := by
  simp [UnlookedMember, matcher_CHANGES]

theorem unlookedMember_DATA_IN (b : Nat) : UnlookedMember (bank_DATA_IN b) := by
  simp [UnlookedMember, bank_DATA_IN]

theorem not_undrivenMember_DATA_IN {b : Nat} (hb : b < 5) : ¬ UndrivenMember (bank_DATA_IN b) := by
  rintro ⟨-, hbank⟩
  rw [bank_DATA_IN, refInst_mref, refMember_mref] at hbank
  exact (hbank (by omega)).1 rfl

theorem not_undrivenMember_OWNER {b : Nat} (hb : b < 5) : ¬ UndrivenMember (bank_OWNER b) := by
  rintro ⟨-, hbank⟩
  rw [bank_OWNER, refInst_mref, refMember_mref] at hbank
  exact (hbank (by omega)).2 rfl

theorem undrivenMember_DATA_OUT (b : Nat) : UndrivenMember (bank_DATA_OUT b) := by
  simp [UndrivenMember, UnlookedMember, bank_DATA_OUT]

theorem undrivenMember_LEVEL (k : Nat) : UndrivenMember (hvs_LEVEL k) := by
  simp [UndrivenMember, UnlookedMember, hvs_LEVEL]

/-- A member of an object that is no bank. -/
theorem undrivenMember_mref {i m : Nat} (hi : 5 ≤ i) (hi' : i < 65536) (hm : m < 256) (hOut : m ≠ 7) (hChanges : m ≠ 8) :
    UndrivenMember (mref 0x58 i m) := by
  simp only [UndrivenMember, UnlookedMember, refClass_mref, refInst_mref, refMember_mref, Nat.mod_eq_of_lt hi', Nat.mod_eq_of_lt hm]
  exact ⟨⟨trivial, hOut, hChanges⟩, fun hbank => absurd hbank (by omega)⟩

/-! ### Matchers (R648) -/

theorem matcherOutput_same {d : Dev} {k v : Nat} (h : nGet d (matcher_OUTPUT k) = v) : matcherOutput d k v = d := if_pos h

/-- A new OUTPUT counts in CHANGES; its signal-map entries and its level source leave the pin block. -/
theorem keepsQuiet_matcherOutput {d : Dev} {k v : Nat} (hk : k < 32) (h : nGet d (matcher_OUTPUT k) ≠ v) :
    KeepsQuiet (nInc (nSet d (matcher_OUTPUT k) v) (matcher_CHANGES k)) (matcherOutput d k v) := by
  rw [matcherOutput, if_neg h]
  exact Keeps.trans (Keeps.foldl (fun e n _ => keepsQuiet_applyValue 15 e n v) _) (keepsQuiet_setLevel _ (by omega) _)

theorem keeps_matcherOutput (d : Dev) {k : Nat} (hk : k < 32) (v : Nat) : Keeps UnlookedMember HvsKey d (matcherOutput d k v) := by
  by_cases h : nGet d (matcher_OUTPUT k) = v
  · rw [matcherOutput_same h]
    exact Keeps.refl d
  · have hset : Keeps UnlookedMember HvsKey d _ := ((Keeps.refl d).nSet (not_unlookedMember_OUTPUT k) v).nInc (not_unlookedMember_CHANGES k)
    exact hset.trans ((keepsQuiet_matcherOutput hk h).mono (fun _ hq => quietMember_of_pin hq.1) (fun _ => quietKey_of_hvs))

theorem nGet_matcherOutput_OUTPUT {d : Dev} {k v : Nat} (hk : k < 32) (h : nGet d (matcher_OUTPUT k) ≠ v) :
    nGet (matcherOutput d k v) (matcher_OUTPUT k) = v := by
  have hne : matcher_OUTPUT k ≠ matcher_CHANGES k := fun he => by simpa [matcher_OUTPUT, matcher_CHANGES] using congrArg refMember he
  rw [(keepsQuiet_matcherOutput hk h).nGet (quietMember_of_pin (by simp [matcher_OUTPUT])), nInc, nAdd, nGet_nSet_other _ _ hne,
    nGet_nSet_same]

theorem nGet_matcherOutput_CHANGES {d : Dev} {k v : Nat} (hk : k < 32) (h : nGet d (matcher_OUTPUT k) ≠ v) :
    nGet (matcherOutput d k v) (matcher_CHANGES k) = satAdd 32 (nGet d (matcher_CHANGES k)) 1 := by
  have hne : matcher_CHANGES k ≠ matcher_OUTPUT k := fun he => by simpa [matcher_OUTPUT, matcher_CHANGES] using congrArg refMember he
  rw [(keepsQuiet_matcherOutput hk h).nGet (quietMember_of_pin (by simp [matcher_CHANGES])), nInc, nAdd, nGet_nSet_same,
    nGet_nSet_other _ _ hne]

/-- A matcher whose OUTPUT changes arms no debounce. -/
theorem armed_matcherOutput {d : Dev} {k v : Nat} (hk : k < 32) (h : nGet d (matcher_OUTPUT k) ≠ v) :
    armed (matcherOutput d k v) tkMatcher k = armed d tkMatcher k := by
  rw [(keepsQuiet_matcherOutput hk h).armed (quietKey_matcher (by omega))]
  simp [armed, nInc, nAdd]

theorem keeps_matcherLook (d : Dev) {k : Nat} (hk : k < 32) : Keeps UnlookedMember HvsKey d (matcherLook d k) := by
  have hkey := not_hvsKey_matcher (k := k) (by omega)
  have hres : Keeps UnlookedMember HvsKey d
      { d with pins.matchResult := mapSet d.pins.matchResult k (matcherResult d k) 0 } := (Keeps.refl d).same rfl rfl rfl
  unfold matcherLook
  refine Keeps.ite (fun _ => hres.disarm hkey) fun _ => Keeps.ite (fun _ => ?now) fun _ => Keeps.ite (fun _ => ?later) fun _ => hres
  case now => exact (hres.disarm hkey).trans (keeps_matcherOutput _ hk _)
  case later => exact hres.arm hkey _

theorem keeps_matcherLooks (d : Dev) : Keeps UnlookedMember HvsKey d ((List.range 32).foldl matcherLook d) :=
  Keeps.foldl (fun e _ hk => keeps_matcherLook e (List.mem_range.mp hk)) d

/-! ### The pads (R638 to R642) -/

/-- DATA_IN of one bank from the pad levels. -/
def readBank (d : Dev) (b : Nat) : Dev := nSet d (bank_DATA_IN b) (gatherBits 32 (fun i => padLevel d (32 * b + i)))

/-- When each input last moved, where the pads whose level DATA_IN does not show move now. -/
def movedAt (d : Dev) : SMap Nat :=
  ((List.range 160).filter (fun p => decide (fieldOf (nGet d (bank_DATA_IN (p / 32))) (p % 32) 1 ≠ padLevel d p))).foldl
    (fun m p => mapPut m p d.now) d.pins.changed

/-- Reading the pads notes which of them moved, then reads bank after bank. -/
theorem readPads_eq (d : Dev) : readPads d = (List.range 5).foldl readBank { d with pins.changed := movedAt d } := rfl

theorem keeps_readPads (d : Dev) : Keeps UndrivenMember HvsKey d (readPads d) := by
  have hnote : Keeps UndrivenMember HvsKey d { d with pins.changed := movedAt d } := (Keeps.refl d).same rfl rfl rfl
  rw [readPads_eq]
  exact hnote.trans (Keeps.foldl (fun e b hb => (Keeps.refl e).nSet (not_undrivenMember_DATA_IN (List.mem_range.mp hb)) _) _)

theorem keeps_settlePins (d : Dev) : Keeps UndrivenMember HvsKey d (settlePins d) :=
  Keeps.whenNot fun _ => (keeps_readPads d).trans ((keeps_matcherLooks _).mono (fun _ => And.left) (fun _ => id))

/-- What the pad latches take, which the members do not show. -/
theorem keeps_latchPads (en lv : Nat → Nat) (ps : List Nat) (d : Dev) :
    Keeps UndrivenMember HvsKey d (ps.foldl (fun x p => { x with pins.latchEnable := mapSet x.pins.latchEnable p (en p) 0,
                                                                 pins.latchLevel := mapSet x.pins.latchLevel p (lv p) 0 }) d) := by
  refine Keeps.foldl (fun e _ _ => ?_) d
  exact (Keeps.refl e).same rfl rfl rfl

theorem keeps_drivePads (d : Dev) : Keeps UndrivenMember HvsKey d (drivePads d) := by
  unfold drivePads
  refine Keeps.whenNot fun _ => Keeps.trans ?_ (keeps_settlePins _)
  refine Keeps.trans ?_ (Keeps.foldl (fun e b hb => Keeps.mSet (Keeps.refl e) (not_undrivenMember_OWNER (List.mem_range.mp hb)) _) _)
  exact Keeps.trans (keeps_latchPads _ _ _ d) (Keeps.whenever fun _ => (Keeps.refl _).same rfl rfl rfl)

theorem gatherBits_succ (n : Nat) (f : Nat → Nat) : gatherBits (n + 1) f = gatherBits n f + f n % 2 * 2 ^ n := by
  simp only [gatherBits, List.range_succ, List.foldl_append, List.foldl_cons, List.foldl_nil]

theorem gatherBits_lt (n : Nat) (f : Nat → Nat) : gatherBits n f < 2 ^ n := by
  induction n with
  | zero => simp [gatherBits]
  | succ n ih =>
    have hbit : f n % 2 * 2 ^ n ≤ 1 * 2 ^ n := Nat.mul_le_mul_right _ (by omega)
    rw [gatherBits_succ, pow_succ]
    omega

theorem testBit_gatherBits {n i : Nat} (hi : i < n) (f : Nat → Nat) : (gatherBits n f).testBit i = (f i).testBit 0 := by
  induction n with
  | zero => omega
  | succ n ih =>
    rw [gatherBits_succ, Nat.add_comm, Nat.mul_comm, Nat.testBit_two_pow_mul_add _ (gatherBits_lt n f)]
    split
    case isTrue hin => exact ih hin
    case isFalse hin =>
      obtain rfl : i = n := by omega
      simp

theorem fieldOf_one (n i : Nat) : fieldOf n i 1 = (n.testBit i).toNat := by
  rw [Nat.toNat_testBit, fieldOf, Nat.shiftRight_eq_div_pow, pow_one]

/-- The bank that is read last shows pad levels as they were when it was read, and later banks leave it. -/
theorem nGet_readBanks {n b : Nat} (hb : b < n) (hn : n ≤ 5) (d : Dev) :
    ∃ e, e.pins = d.pins ∧
      nGet ((List.range n).foldl readBank d) (bank_DATA_IN b) = gatherBits 32 (fun i => padLevel e (32 * b + i)) := by
  induction n with
  | zero => omega
  | succ n ih =>
    simp only [List.range_succ, List.foldl_append, List.foldl_cons, List.foldl_nil]
    by_cases hbn : b = n
    · refine ⟨(List.range n).foldl readBank d, ?_, ?_⟩
      · exact List.foldlRecOn (motive := fun e => e.pins = d.pins) _ _ rfl (fun e he a _ => (nSet_pins e _ _).trans he)
      · rw [hbn, readBank, nGet_nSet_same]
    · have hne : bank_DATA_IN b ≠ bank_DATA_IN n := fun he => by
        have hinst := congrArg refInst he
        simp only [bank_DATA_IN, refInst_mref] at hinst
        omega
      obtain ⟨e, hpins, hread⟩ := ih (by omega) (by omega)
      exact ⟨e, hpins, by rw [readBank, nGet_nSet_other _ _ hne, hread]⟩

/-- A pad that nothing drives but the outside shows the level from there (R641). -/
theorem padLevel_outside {d : Dev} {p : Nat} {level : Bool} (hlatch : mapGet d.pins.latchEnable p 0 = 0)
    (hout : mapGet d.pins.outside p 0 = if level then 2 else 1) : padLevel d p = level.toNat := by
  cases level <;> simp_all [padLevel]

theorem dataIn_settlePins {d : Dev} {p : Nat} {level : Bool} (hp : p < 160) (hawake : d.pins.asleep = false)
    (hlatch : mapGet d.pins.latchEnable p 0 = 0) (hout : mapGet d.pins.outside p 0 = if level then 2 else 1) :
    fieldOf (nGet (settlePins d) (bank_DATA_IN (p / 32))) (p % 32) 1 = level.toNat := by
  obtain ⟨e, hpins, hread⟩ := nGet_readBanks (b := p / 32) (n := 5) (by omega) le_rfl { d with pins.changed := movedAt d }
  have hpad : padLevel e p = level.toNat := padLevel_outside (by rw [hpins, hlatch]) (by rw [hpins, hout])
  have hsettle : settlePins d = (List.range 32).foldl matcherLook (readPads d) := if_neg (by simp [hawake])
  rw [hsettle, (keeps_matcherLooks _).nGet (unlookedMember_DATA_IN _), readPads_eq, hread, fieldOf_one,
    testBit_gatherBits (Nat.mod_lt p (by decide)), Nat.div_add_mod, hpad]
  cases level <;> rfl

/-! ### Answers of gated operations -/

/-- An operation that the gate lets through and that answers OK changes nothing more, but for the answer. -/
theorem withGate_answer {s : State} {sess : Nat} {r : Ref} {op : Dev → Dev × Status × List Byte} {e : Dev} {val : List Byte}
    (hgate : writeGate s.dev sess r = none) (hop : actionResult r (op s.dev) = (e, .ok, val)) (q : Ref) :
    nGet (withGate s.dev sess r op) q = nGet e q ∧ Answers (withDev s (withGate s.dev sess r op)) sess 0 val := by
  rw [withGate_open _ _ _ _ hgate, hop]
  exact ⟨nGet_emitResult .., by simp [Answers, emitResult, emit, Status.code]⟩

theorem actionResult_of_value (r : Ref) {x : Dev × Status × List Byte} (h : x.2.2 ≠ []) : actionResult r x = x := by
  unfold actionResult
  split <;> simp [h]

theorem actionResult_of_member {r : Ref} {row : MemberRow} (hrow : rowOf r = some row) (hacc : row.acc ≠ .x)
    (x : Dev × Status × List Byte) : actionResult r x = x := by
  simp [actionResult, hrow, hacc]

/-! ### Bank actions, routes and matchers (R643 to R649) -/

/-- SET, CLEAR and TOGGLE leave their new DATA_OUT, which is their answer. -/
theorem bankAction_answer {s : State} {sess new mask : Nat} {r : Ref} {op : Dev → Dev × Status × List Byte} (b : Nat)
    (hgate : writeGate s.dev sess r = none) (hmask : mask < 2 ^ 32) (hop : op s.dev = bankAction s.dev b new mask) :
    nGet (withGate s.dev sess r op) (bank_DATA_OUT b) = new ∧
      Answers (withDev s (withGate s.dev sess r op)) sess 0 (beBytes 4 new) := by
  have hout : nGet (drivePads (nSet s.dev (bank_DATA_OUT b) new)) (bank_DATA_OUT b) = new := by
    rw [(keeps_drivePads _).nGet (undrivenMember_DATA_OUT b), nGet_nSet_same]
  have hact : op s.dev = (drivePads (nSet s.dev (bank_DATA_OUT b) new), .ok, beBytes 4 new) := by
    simp only [hop, bankAction, if_neg (show ¬ mask ≥ 2 ^ 32 by omega), hout]
  obtain ⟨hread, hans⟩ := withGate_answer hgate ((actionResult_of_value r (by simp [hact, beBytes])).trans hact) (bank_DATA_OUT b)
  exact ⟨hread.trans hout, hans⟩

/-- The table gives no action among the routes, and no member above 4. -/
theorem rowOf_route {m : Nat} {row : MemberRow} (hm : m < 256) (hrow : rowOf (mref 0x58 0x100 m) = some row) :
    row.acc ≠ .x ∧ m ≤ 4 := by
  have htable : ∀ x ∈ dict58, x.lo ≤ 0x100 → 0x100 ≤ x.hi → x.acc ≠ .x ∧ x.m1 ≤ 4 := by decide
  have hmem := List.mem_of_find?_eq_some hrow
  have hin := List.find?_some hrow
  simp only [refClass_mref, refInst_mref, refMember_mref, Bool.and_eq_true, decide_eq_true_eq] at hmem hin
  obtain ⟨⟨⟨hlo, hhi⟩, -⟩, hm1⟩ := hin
  obtain ⟨hacc, hmax⟩ := htable row hmem hlo hhi
  exact ⟨hacc, by omega⟩

theorem routeWrite_ok {d : Dev} {m v : Nat} {row : MemberRow} (hrow : rowOf (mref 0x58 0x100 m) = some row)
    (hrange : inRange row (.num v) = true) (hcan : m = 1 → (List.range 4).all (fun c => decide (nGet d (can_MODE c) = 0)) = true)
    (htdm : m = 2 → (List.range 4).all (fun p => decide (nGet d (tdm_ENABLE p) ≠ 1)) = true) :
    routeWrite d m v = (drivePads (nSet d (mref 0x58 0x100 m) v), .ok, []) := by
  simp only [List.all_eq_true, decide_eq_true_eq] at hcan htdm
  have hcan' : ¬ (m = 1 ∧ (List.range 4).any (fun c => decide (nGet d (can_MODE c) ≠ 0) &&
      decide (fieldOf v (2 * c) 2 ≠ fieldOf (nGet d route_CAN_ROUTE) (2 * c) 2)) = true) := by
    rintro ⟨hm, hany⟩
    obtain ⟨c, hc, hbad⟩ := List.any_eq_true.mp hany
    simp [hcan hm c hc] at hbad
  have htdm' : ¬ (m = 2 ∧ (List.range 4).any (fun p => decide (nGet d (tdm_ENABLE p) = 1) &&
      decide (fieldOf v p 1 ≠ fieldOf (nGet d route_TDM_ROUTE) p 1)) = true) := by
    rintro ⟨hm, hany⟩
    obtain ⟨p, hp, hbad⟩ := List.any_eq_true.mp hany
    simp [htdm hm p hp] at hbad
  simp only [routeWrite, hrow, hrange, Bool.true_eq_false, if_false, if_neg hcan', if_neg htdm']

theorem matcherWrite_ok {d : Dev} {k m v : Nat} {row : MemberRow} (hrow : rowOf (mref 0x58 (0x200 + k) m) = some row)
    (hacc : row.acc = .rw) (hrange : inRange row (.num v) = true) (hlock : nGet d hearth_LOCK ≠ 1)
    (hshown : (entriesOf d 2 k).any (entryShown d) = false) (hpat : m = 2 → patternUnused d k v = false) :
    matcherWrite d k m v = (settlePins (disarm (nSet d (mref 0x58 (0x200 + k) m) v) tkMatcher k), .ok, []) := by
  have hpat' : ¬ (m = 2 ∧ patternUnused d k v = true) := fun ⟨hm, hbad⟩ => by simp [hpat hm] at hbad
  simp [matcherWrite, hrow, hacc, hrange, hlock, hshown, hpat']

/-! ### HVS inputs (R651, R652) -/

theorem nGet_hvsLevel (d : Dev) (k v : Nat) (hk : k < 8) : nGet (hvsLevel d k v) (hvs_LEVEL k) = v := by
  rw [hvsLevel, (keeps_settlePins _).nGet (undrivenMember_LEVEL k),
    (keepsQuiet_setLevel _ (by omega) _).nGet (quietMember_of_pin (by simp [hvs_LEVEL])), nGet_nSet_same]

/-- An HVS level that changes arms no filter and leaves the comparators. -/
theorem keeps_hvsLevel (d : Dev) (k v : Nat) (hk : k < 8) : Keeps (fun _ => False) HvsKey d (hvsLevel d k v) := by
  unfold hvsLevel
  refine Keeps.trans ?_ ((keeps_settlePins _).mono (fun _ => False.elim) (fun _ => id))
  refine Keeps.trans ?_ ((keepsQuiet_setLevel _ (by omega) _).mono (fun _ => False.elim) (fun _ => quietKey_of_hvs))
  refine Keeps.nSet ?_ not_false v
  exact (Keeps.refl d).same rfl rfl rfl

theorem nGet_hvsLook_LEVEL {d : Dev} {k : Nat} (hk : k < 8) (hfilter : nGet d (hvs_FILTER_US k) = 0) :
    nGet (hvsLook d k) (hvs_LEVEL k) = hvsAsserted d k := by
  by_cases heq : hvsAsserted d k = nGet d (hvs_LEVEL k)
  · rw [hvsLook, if_pos heq, nGet_disarm, heq]
  · rw [hvsLook, if_neg heq, if_pos hfilter, nGet_hvsLevel _ _ _ hk]

theorem hvsCompare_hvsLook (d : Dev) {k : Nat} (hk : k < 8) : (hvsLook d k).pins.hvsCompare = d.pins.hvsCompare := by
  unfold hvsLook
  split
  · rfl
  · split
    · exact (keeps_hvsLevel d k _ hk).hvs
    · rfl

theorem hvsLook_of_filter {d : Dev} {k : Nat} (hne : hvsAsserted d k ≠ nGet d (hvs_LEVEL k)) (hfilter : nGet d (hvs_FILTER_US k) ≠ 0) :
    hvsLook d k = arm d tkHvs k (us (nGet d (hvs_FILTER_US k))) := by
  rw [hvsLook, if_neg hne, if_neg hfilter]

/-- The device with an HVS comparator at a new level. -/
def withCompare (d : Dev) (k : Nat) (above : Bool) : Dev :=
  { d with pins.hvsCompare := mapSet d.pins.hvsCompare k above.toNat 0 }

@[simp] theorem nGet_withCompare (d : Dev) (k : Nat) (above : Bool) (q : Ref) : nGet (withCompare d k above) q = nGet d q :=
  nGet_congr rfl q

theorem mapGet_withCompare (d : Dev) (k : Nat) (above : Bool) :
    mapGet (withCompare d k above).pins.hvsCompare k 0 = above.toNat := mapGet_mapSet_same ..

theorem hvsAsserted_withCompare (d : Dev) (k : Nat) (above : Bool) :
    hvsAsserted (withCompare d k above) k = if nGet d (hvs_POLARITY k) = 0 then above.toNat else 1 - above.toNat := by
  simp only [hvsAsserted, mapGet_withCompare, nGet_withCompare]

theorem doHvsThresholdCrossing_awake {d : Dev} {k : Fin 8} {above : Bool} (hcmp : mapGet d.pins.hvsCompare k.val 0 ≠ above.toNat)
    (hawake : d.pins.asleep = false) : doHvsThresholdCrossing k above d = hvsLook (withCompare d k.val above) k.val := by
  rw [doHvsThresholdCrossing, if_neg hcmp]
  exact if_neg (by simp [hawake])

/-! ### The clauses of PinsAndMatchers -/

theorem gpioEdgeDoes : GpioEdgeDoes := by
  rintro s pin level ⟨hawake, hlatch⟩
  exact ⟨_, rfl, dataIn_settlePins pin.isLt hawake hlatch (mapGet_mapPut_same ..)⟩

theorem matcherDebounceExpiryDoes : MatcherDebounceExpiryDoes := by
  rintro s m ⟨hdue, hne⟩
  have hexec : doMatcherDebounceExpiry m s.dev =
      matcherOutput (disarm s.dev tkMatcher m.val) m.val (mapGet s.dev.pins.matchResult m.val 0) := if_pos hdue
  have hne' : nGet (disarm s.dev tkMatcher m.val) (matcher_OUTPUT m.val) ≠ mapGet s.dev.pins.matchResult m.val 0 := by
    simpa using hne.symm
  refine ⟨_, rfl, ?_⟩
  simp only [withDev_dev, hexec]
  refine ⟨nGet_matcherOutput_OUTPUT m.isLt hne', ?_, ?_⟩
  · rw [armed_matcherOutput m.isLt hne', armed_disarm_same]
  · rw [nGet_matcherOutput_CHANGES m.isLt hne', nGet_disarm]

theorem setDoes : SetDoes := fun _ _ b _ ⟨hgate, hmask⟩ => ⟨_, rfl, bankAction_answer b.val hgate hmask rfl⟩

theorem gpioClearDoes : GpioClearDoes := fun _ _ b _ ⟨hgate, hmask⟩ => ⟨_, rfl, bankAction_answer b.val hgate hmask rfl⟩

theorem toggleDoes : ToggleDoes := fun _ _ b _ ⟨hgate, hmask⟩ => ⟨_, rfl, bankAction_answer b.val hgate hmask rfl⟩

theorem routeWriteDoes : RouteWriteDoes := by
  rintro s sess m v ⟨hgate, -, hm, hany, hcan, htdm⟩
  obtain ⟨row, hrow, hrange⟩ := (Option.any_eq_true ..).mp hany
  obtain ⟨hacc, hmax⟩ := rowOf_route hm hrow
  obtain ⟨hread, hans⟩ := withGate_answer (op := fun d => routeWrite d m v) hgate
    ((actionResult_of_member hrow hacc _).trans (routeWrite_ok hrow hrange hcan htdm)) (mref 0x58 0x100 m)
  refine ⟨_, rfl, hread.trans ?_, hans⟩
  rw [(keeps_drivePads _).nGet (undrivenMember_mref (by decide) (by decide) hm (by omega) (by omega)), nGet_nSet_same]

theorem matcherWriteDoes : MatcherWriteDoes := by
  rintro s sess k m v ⟨hgate, hm, hany, hlock, hshown, hpat, hOut, hChanges⟩
  obtain ⟨row, hrow, hok⟩ := (Option.any_eq_true ..).mp hany
  simp only [Bool.and_eq_true, decide_eq_true_eq] at hok
  obtain ⟨hacc, hrange⟩ := hok
  obtain ⟨hread, hans⟩ := withGate_answer (op := fun d => matcherWrite d k.val m v) hgate
    ((actionResult_of_member hrow (by simp [hacc]) _).trans (matcherWrite_ok hrow hacc hrange hlock hshown hpat))
    (mref 0x58 (0x200 + k.val) m)
  refine ⟨_, rfl, hread.trans ?_, hans⟩
  rw [(keeps_settlePins _).nGet (undrivenMember_mref (by omega) (by omega) hm hOut hChanges), nGet_disarm, nGet_nSet_same]

theorem hvsThresholdCrossingDoes : HvsThresholdCrossingDoes := by
  rintro s k above v ⟨hcmp, hawake, hfilter, rfl⟩
  refine ⟨_, rfl, ?_⟩
  simp only [withDev_dev, doHvsThresholdCrossing_awake hcmp hawake]
  constructor
  · rw [nGet_hvsLook_LEVEL k.isLt (by simpa using hfilter), hvsAsserted_withCompare]
  · rw [hvsCompare_hvsLook _ k.isLt, mapGet_withCompare]

theorem hvsThresholdCrossingFilteredDoes : HvsThresholdCrossingFilteredDoes := by
  rintro s k above v ⟨hcmp, hawake, hfilter, rfl, hne⟩
  rw [← hvsAsserted_withCompare] at hne
  refine ⟨_, rfl, ?_⟩
  simp only [withDev_dev, doHvsThresholdCrossing_awake hcmp hawake]
  rw [hvsLook_of_filter (by simpa using hne) (by simpa using hfilter)]
  constructor
  · rw [nGet_arm, nGet_withCompare]
  · rw [mapFind_arm_same, nGet_withCompare, us, Nat.mul_comm]
    rfl

theorem hvsThresholdCrossingSameDoes : HvsThresholdCrossingSameDoes := by
  intro s k above hcmp
  exact ⟨_, rfl, congrArg (withDev s) (if_pos hcmp)⟩

theorem hvsFilterExpiryDoes : HvsFilterExpiryDoes := by
  intro s k hdue
  have hexec : doHvsFilterExpiry k s.dev = hvsLevel (disarm s.dev tkHvs k.val) k.val (hvsAsserted s.dev k.val) := if_pos hdue
  refine ⟨_, rfl, ?_⟩
  simp only [withDev_dev, hexec]
  constructor
  · exact nGet_hvsLevel _ _ _ k.isLt
  · rw [(keeps_hvsLevel _ _ _ k.isLt).armed (hvsKey_hvs k), armed_disarm_same]

/-- Settles O30: driving and reading the pads, the matchers and what they set off keep every member that a clause names, beside the one
that its command writes. -/
theorem pinsAndMatchers : Obligations.PinsAndMatchers :=
  ⟨gpioEdgeDoes, matcherDebounceExpiryDoes, setDoes, gpioClearDoes, toggleDoes, routeWriteDoes, matcherWriteDoes,
    hvsThresholdCrossingDoes, hvsThresholdCrossingFilteredDoes, hvsThresholdCrossingSameDoes, hvsFilterExpiryDoes⟩

end Sys2Proof.Machine
end

section
/-!
Packed references (R29): the fields of mref as octets of its 32-bit value, and mref back from them.
-/
namespace Sys2Proof.Machine

theorem mref_of_lt {c i m : Nat} (hc : c < 256) (hi : i < 65536) (hm : m < 256) : mref c i m = c * 16777216 + i * 256 + m := by
  simp only [mref, Nat.mod_eq_of_lt hc, Nat.mod_eq_of_lt hi, Nat.mod_eq_of_lt hm]

theorem mref_lt (c i m : Nat) : mref c i m < 2 ^ 32 := by
  change (_ : Nat) < _
  simp only [mref]
  omega

@[simp] theorem refObj_mref (c i m : Nat) : refObj (mref c i m) = mref c i 0 := by
  change (_ : Nat) = _
  simp only [refObj, mref]
  omega

theorem mref_refFields {r : Nat} (h : r < 2 ^ 32) : mref (refClass r) (refInst r) (refMember r) = r := by
  change (_ : Nat) = _
  simp only [mref, refClass, refInst, refMember]
  omega

/-- A bit field of a 32-bit number is what the division by its place leaves. -/
theorem extractLsb'_ofNat {x : Nat} (hx : x < 2 ^ 32) (start len : Nat) :
    (BitVec.ofNat 32 x).extractLsb' start len = BitVec.ofNat len (x / 2 ^ start) := by
  apply BitVec.eq_of_toNat_eq
  simp only [BitVec.extractLsb'_toNat, BitVec.toNat_ofNat, Nat.mod_eq_of_lt hx, Nat.shiftRight_eq_div_pow]

theorem ofNat_eq_ofNat_of_mod {w x y : Nat} (h : x % 2 ^ w = y % 2 ^ w) : BitVec.ofNat w x = BitVec.ofNat w y :=
  BitVec.eq_of_toNat_eq (by simpa only [BitVec.toNat_ofNat] using h)

/-- Settles O10: mref lays its fields side by side, so that division by their places takes them apart again. -/
theorem referencesArePacked : Obligations.ReferencesArePacked := by
  refine ⟨fun c i m hc hi hm => ⟨mref_lt c i m, ?cls, ?inst, ?mem, ?_, ?_, ?_, refObj_mref c i m⟩, fun r => mref_refFields, rfl⟩
  case cls | inst | mem =>
    rw [extractLsb'_ofNat (mref_lt c i m), mref_of_lt hc hi hm]
    apply ofNat_eq_ofNat_of_mod
    omega
  · rw [refClass_mref, Nat.mod_eq_of_lt hc]
  · rw [refInst_mref, Nat.mod_eq_of_lt hi]
  · rw [refMember_mref, Nat.mod_eq_of_lt hm]

end Sys2Proof.Machine
end

section
/-!
Commits whose buffers a job has begun to write since they came (R497): the decision refuses them with STATE.
-/
namespace Sys2Proof.Machine

/-- The Stoker does not look at a commit that would lease a buffer which is being written. -/
theorem doCommitDecision_of_writtenSince {s : State} {e : Evaluation} {r : Refused} (heval : s.dev.scene.evaluating = some e)
    (hwritten : writtenSince s.dev e = some r) :
    doCommitDecision s =
      takeFree (withDev s (limitCheck (refreshLeases (afterDecision (refuseState s.dev e r))) e.sess)) := by
  simp only [doCommitDecision, heval, decide', hwritten, withDev_dev, withDev_withDev]

/-- A dry run for head 0 under evaluation, of a commit that takes no write. -/
def dryRunOfHead0 : Evaluation := { sess := 0, seq := 0, number := 3, mask := 1, dryRun := true, received := 0, taken := [] }

/-- A head 0 that does not run, with an enabled layer of an enabled band that shows surface 13:0000, a list that writes the surface's first
octets, and the dry run under evaluation. -/
def writtenSurfaceState : State :=
  withDev State.reset { nSets Dev.reset [(surf_LOCATION 0, 1), (surf_SIZE 0, 256)] with
    scene.alloc := [(mref 0x11 0 0, 1), (mref 0x12 0 0, 1), (mref 0x13 0 0, 1)]
    scene.live := [(16 * band_HEAD 0, .num (headRef 0)), (16 * band_ENABLE 0, .num 1), (16 * layer_BAND 0, .num (mref 0x11 0 0)),
      (16 * layer_ENABLE 0, .num 1), (16 * layer_SOURCE 0, .num (mref 0x13 0 0))]
    scene.writing := [{ owner := 0, lo := 0, hi := 64 }]
    scene.evaluating := some dryRunOfHead0 }

theorem writtenSince_writtenSurfaceState :
    writtenSince writtenSurfaceState.dev dryRunOfHead0 = some { reason := 9, heads := 1, ref := mref 0x13 0 0 } := by
  decide +kernel

theorem whenCommitDecisionDry_writtenSurfaceState :
    WhenCommitDecisionDry writtenSurfaceState dryRunOfHead0 { mask := 1, taken := [], acts := [] } := by
  decide +kernel

/-- The decision refuses with STATE, code 11 (R41). -/
theorem commit_RESULT_writtenSurfaceState : nGet (doCommitDecision writtenSurfaceState).dev (commit_RESULT 3) = 11 := by
  rw [doCommitDecision_of_writtenSince rfl writtenSince_writtenSurfaceState]
  decide +kernel

/-- Refutes O37: the conditions of CommitDecisionDryDoes admit a commit whose buffer a job has begun to write since it came (the hypothesis
that writtenSince answers none is missing; CommitDecisionDoes and CommitDecisionRefusedDoes lack it too). The dry run of
`writtenSurfaceState` passes the Stoker's model, and ends with RESULT 11, where the statement wants 0. -/
theorem not_sceneCommands : ¬ Obligations.SceneCommands := by
  unfold Obligations.SceneCommands
  rintro ⟨-, -, -, -, -, -, -, -, -, -, hdry, -⟩
  obtain ⟨u, hexec, -, -, hresult, -⟩ := hdry _ _ _ whenCommitDecisionDry_writtenSurfaceState
  obtain rfl : doCommitDecision writtenSurfaceState = u := Host.Outcome.next.inj hexec
  exact absurd (commit_RESULT_writtenSurfaceState.symm.trans hresult) (by decide)
end Sys2Proof.Machine
end

section
/-!
The ends of operation and the reset (R32, R657, R660, R692): what the block as a reset leaves it has kept of the fuses and of the device
record.
-/
namespace Sys2Proof.Machine

/-- Dropping entries by their keys keeps those whose keys stay. -/
theorem mapFind_filter_of_key {α : Type} (m : SMap α) (p : Nat → Bool) {k : Nat} (hk : p k = true) :
    mapFind (m.filter (fun e => p e.1)) k = mapFind m k := by
  induction m with
  | nil => rfl
  | cons e m ih =>
    obtain ⟨i, v⟩ := e
    by_cases hi : p i = true
    · rw [List.filter_cons_of_pos (p := fun e : Nat × α => p e.1) hi]
      simp only [mapFind, ih]
    · have hne : k ≠ i := fun hki => hi (hki ▸ hk)
      rw [List.filter_cons_of_neg (p := fun e : Nat × α => p e.1) hi, ih]
      simp only [mapFind, if_neg hne]

/-- A device whose members were dropped by a test holds those that meet it. -/
theorem mGet_of_objs_filter {d e : Dev} {p : Ref → Bool} (hobjs : e.objs = d.objs.filter (fun x => p x.1)) {r : Ref} (hr : p r = true) :
    mGet e r = mGet d r := by
  simp only [mGet, mapGet, hobjs, mapFind_filter_of_key d.objs p hr]

/-- A device e with the fuses and the device record of d: the durable members but for LAST_POWER_LOSS, a LIFETIME_S that has not fallen,
and what the NOR devices and the fuses hold beside members. -/
structure KeepsRecord (d e : Dev) : Prop where
  member : ∀ r, durable r = true → r ≠ supply_LAST_POWER_LOSS → r ≠ boost_LIFETIME_S → mGet e r = mGet d r
  lifetime : nGet d boost_LIFETIME_S ≤ nGet e boost_LIFETIME_S
  slots : e.trust.slots = d.trust.slots
  digest : e.trust.digest = d.trust.digest
  stored : e.dram.stored = d.dram.stored
  fuses : e.power.boostFuses = d.power.boostFuses

namespace KeepsRecord

variable {d e f : Dev}

theorem refl (d : Dev) : KeepsRecord d d := ⟨fun _ _ _ _ => rfl, le_rfl, rfl, rfl, rfl, rfl⟩

theorem trans (h : KeepsRecord d e) (h' : KeepsRecord e f) : KeepsRecord d f where
  member r hr hloss hlife := (h'.member r hr hloss hlife).trans (h.member r hr hloss hlife)
  lifetime := h.lifetime.trans h'.lifetime
  slots := h'.slots.trans h.slots
  digest := h'.digest.trans h.digest
  stored := h'.stored.trans h.stored
  fuses := h'.fuses.trans h.fuses

/-- Other parts of the device may change. -/
theorem same (h : KeepsRecord d e) (hobjs : f.objs = e.objs) (hslots : f.trust.slots = e.trust.slots)
    (hdigest : f.trust.digest = e.trust.digest) (hstored : f.dram.stored = e.dram.stored)
    (hfuses : f.power.boostFuses = e.power.boostFuses) : KeepsRecord d f :=
  h.trans ⟨fun r _ _ _ => mGet_congr hobjs r, (nGet_congr hobjs _).ge, hslots, hdigest, hstored, hfuses⟩

theorem setPower (h : KeepsRecord d e) {p : Power} (hp : p.boostFuses = e.power.boostFuses := by rfl) : KeepsRecord d { e with power := p } :=
  h.same rfl rfl rfl rfl hp

theorem setPins (h : KeepsRecord d e) (p : Pins) : KeepsRecord d { e with pins := p } := h.same rfl rfl rfl rfl rfl

/-- A member outside the record is set. -/
theorem nSet (h : KeepsRecord d e) {r : Ref} (hr : durable r = false ∨ r = supply_LAST_POWER_LOSS) (n : Nat) :
    KeepsRecord d (nSet e r n) := by
  have hlife : boost_LIFETIME_S ≠ r := by
    rintro rfl
    exact hr.elim (by decide) (by decide)
  refine h.trans ⟨fun q hq hloss _ => mGet_mSet_other e _ ?_, (nGet_nSet_other e n hlife).ge, by simp, by simp, by simp, by simp⟩
  rintro rfl
  exact hr.elim (fun hno => by simp [hq] at hno) hloss

theorem ite {c : Prop} [Decidable c] (ht : c → KeepsRecord d e) (hf : ¬ c → KeepsRecord d f) : KeepsRecord d (if c then e else f) := by
  split
  case isTrue hc => exact ht hc
  case isFalse hc => exact hf hc

/-- A device that holds every durable member, with a LIFETIME_S that has not fallen. -/
theorem of_durable {n : Nat} (hmember : ∀ r, durable r = true → mGet e r = mGet d r) (hlife : nGet d boost_LIFETIME_S ≤ n)
    (hslots : e.trust.slots = d.trust.slots) (hdigest : e.trust.digest = d.trust.digest) (hstored : e.dram.stored = d.dram.stored)
    (hfuses : e.power.boostFuses = d.power.boostFuses) : KeepsRecord d (Machine.nSet e boost_LIFETIME_S n) where
  member r hr _ hne := (mGet_mSet_other e _ hne).trans (hmember r hr)
  lifetime := by rwa [nGet_nSet_same]
  slots := by rw [nSet_trust, hslots]
  digest := by rw [nSet_trust, hdigest]
  stored := by rw [nSet_dram, hstored]
  fuses := by rw [nSet_power, hfuses]

end KeepsRecord

theorem keepsRecord_coldReset (d : Dev) (vin : Bool) (keep : Ref → Bool) : KeepsRecord d (coldReset d vin keep) := by
  have hlife : ∀ e : Dev, e.objs = d.objs.filter (fun x => durable x.1 || (vin && wakeDomain x.1) || keep x.1) →
      e.trust.slots = d.trust.slots → e.trust.digest = d.trust.digest → e.dram.stored = d.dram.stored →
      e.power.boostFuses = d.power.boostFuses →
      KeepsRecord d (nSet e boost_LIFETIME_S (max (nGet d boost_LIFETIME_S) (36000 * d.power.boostFuses))) :=
    fun e hobjs => KeepsRecord.of_durable
      (fun r hr => mGet_of_objs_filter (p := fun r => durable r || (vin && wakeDomain r) || keep r) hobjs (by simp [hr])) (le_max_left _ _)
  unfold coldReset
  refine (KeepsRecord.ite (fun _ => (hlife _ ?_ ?_ ?_ ?_ ?_).nSet (.inl (by decide)) 2) (fun _ => hlife _ ?_ ?_ ?_ ?_ ?_)).same rfl rfl rfl rfl rfl
  all_goals rfl

namespace KeepsRecord

variable {d : Dev} {s : State}

theorem coldReset {e : Dev} (h : KeepsRecord d e) (vin : Bool) (keep : Ref → Bool) : KeepsRecord d (coldReset e vin keep) :=
  h.trans (keepsRecord_coldReset e vin keep)

theorem endAbruptly (h : KeepsRecord d s.dev) (cause : Nat) : KeepsRecord d (endAbruptly s cause).dev :=
  (((h.setPower).coldReset true _).setPower).nSet (.inr rfl) cause

theorem beginRestore {e : Dev} (h : KeepsRecord d e) (step start : Nat) : KeepsRecord d (beginRestore e step start) := by
  unfold Machine.beginRestore
  split <;> exact h.same rfl rfl rfl rfl rfl

theorem doVinValid (h : KeepsRecord d s.dev) : KeepsRecord d (doVinValid s).dev := by
  unfold Machine.doVinValid
  dsimp only
  split
  · exact (((h.coldReset false _).nSet (.inl (by decide)) 1).nSet (.inl (by decide)) 8500).beginRestore 1 0
  · split
    · exact h
    · exact (h.nSet (.inl (by decide)) 8500).beginRestore 2 0
  · exact h

theorem doVinLoss (h : KeepsRecord d s.dev) : KeepsRecord d (doVinLoss s).dev := by
  unfold Machine.doVinLoss
  split
  · exact h.endAbruptly 1
  · split
    · exact h.endAbruptly 1
    · exact h

theorem doVinAbsent (h : KeepsRecord d s.dev) : KeepsRecord d (doVinAbsent s).dev := by
  have hcold := (h.doVinLoss.setPower (p := { (Machine.doVinLoss s).dev.power with slept := none, overvolt := false })).coldReset
    false (fun _ => false)
  refine (hcold.same ?_ ?_ ?_ ?_ ?_).nSet (r := hearth_FAULT_PINS) (.inl (by decide)) 1 <;> rfl

theorem doCrankTimeout (h : KeepsRecord d s.dev) : KeepsRecord d (doCrankTimeout s).dev := by
  unfold Machine.doCrankTimeout
  split
  · exact h.endAbruptly 2
  · exact h

theorem doOvervoltage (h : KeepsRecord d s.dev) : KeepsRecord d (doOvervoltage s).dev := by
  have hover : KeepsRecord d (withDev s { s.dev with power.overvolt := true }).dev := h.setPower
  unfold Machine.doOvervoltage
  split
  · exact h
  · split
    · exact hover
    · exact hover.endAbruptly 3

theorem resetHeld (h : KeepsRecord d s.dev) : KeepsRecord d (resetHeld s).dev := by
  unfold Machine.resetHeld
  split
  · exact h
  · exact h
  · split
    · exact h.setPins _
    · exact ((h.setPower).coldReset true _).setPower
  · exact ((h.setPower).coldReset true _).setPower
  · exact (((h.setPower).coldReset true _).setPower).nSet (.inr rfl) 0

theorem doResetN (h : KeepsRecord d s.dev) : KeepsRecord d (doResetN s).dev :=
  resetHeld (s := withDev s { s.dev with pins.resetLow := true }) (h.setPins _)

end KeepsRecord

/-- Settles O8: each of the six either leaves the device as it is but for single members and parts outside the record, or leaves it as
coldReset does, which keeps every durable member. -/
theorem resetsKeepTheDeviceRecord : Obligations.ResetsKeepTheDeviceRecord := by
  intro c hc s u hexec
  have hkeeps : KeepsRecord s.dev u.dev := by
    simp only [List.mem_cons, List.not_mem_nil, or_false] at hc
    rcases hc with rfl | rfl | rfl | rfl | rfl | rfl <;> obtain rfl := Host.Outcome.next.inj hexec
    · exact (KeepsRecord.refl s.dev).doVinValid
    · exact (KeepsRecord.refl s.dev).doVinLoss
    · exact (KeepsRecord.refl s.dev).doVinAbsent
    · exact (KeepsRecord.refl s.dev).doCrankTimeout
    · exact (KeepsRecord.refl s.dev).doOvervoltage
    · exact (KeepsRecord.refl s.dev).doResetN
  exact ⟨hkeeps.member, hkeeps.lifetime, hkeeps.slots, hkeeps.digest, hkeeps.stored, hkeeps.fuses⟩

end Sys2Proof.Machine
end

section
/-!
What leaves a device's parts alone: an operation that writes members, deadlines, event sources, observation and free values only, and
the end of a session (R53, R54, R135, R626) in terms of it.
-/
namespace Sys2Proof.Machine

/-- A device e that differs from d at most in members, deadlines, event sources, observation and the free values used. -/
def MembersOnly (d e : Dev) : Prop :=
  e = { d with objs := e.objs, dirty := e.dirty, timers := e.timers, events := e.events, obs := e.obs, free := e.free }

namespace MembersOnly

variable {d e f : Dev}

theorem refl (d : Dev) : MembersOnly d d := rfl

theorem trans (h : MembersOnly d e) (h' : MembersOnly e f) : MembersOnly d f :=
  Eq.trans h' (congrArg (fun x : Dev =>
    { x with objs := f.objs, dirty := f.dirty, timers := f.timers, events := f.events, obs := f.obs, free := f.free }) h)

theorem mSet (d : Dev) (r : Ref) (v : Val) : MembersOnly d (mSet d r v) := by
  unfold Machine.mSet
  split
  · exact refl d
  · rfl

theorem nSet (d : Dev) (r : Ref) (n : Nat) : MembersOnly d (nSet d r n) := mSet d r _

theorem nInc (d : Dev) (r : Ref) : MembersOnly d (nInc d r) := nSet d r _

theorem nSets (d : Dev) (l : List (Ref × Nat)) : MembersOnly d (nSets d l) := by
  induction l generalizing d with
  | nil => exact refl d
  | cons x l ih => exact (nSet d x.1 x.2).trans (ih _)

theorem arm (d : Dev) (kind i dt : Nat) : MembersOnly d (arm d kind i dt) := rfl
theorem setEvents (d : Dev) (v : Events) : MembersOnly d { d with events := v } := rfl

theorem setObs (d : Dev) (o : Obs) : MembersOnly d { d with obs := o } := rfl
theorem useFree (d : Dev) : MembersOnly d (freeUsed d) := rfl

theorem foldl {α : Type} {step : Dev → α → Dev} (hstep : ∀ d a, MembersOnly d (step d a)) (l : List α) (d : Dev) :
    MembersOnly d (l.foldl step d) := by
  induction l generalizing d with
  | nil => exact refl d
  | cons a l ih => exact (hstep d a).trans (ih _)

theorem ite {c : Prop} [Decidable c] (ht : MembersOnly d e) (hf : MembersOnly d f) : MembersOnly d (if c then e else f) := by
  split
  · exact ht
  · exact hf

/-- A step that may be left out. -/
theorem whenever {c : Prop} [Decidable c] (ht : MembersOnly d e) : MembersOnly d (if c then e else d) := ite ht (refl d)

theorem noap (h : MembersOnly d e) : e.noap = d.noap := (congrArg Dev.noap h :)
theorem net (h : MembersOnly d e) : e.net = d.net := (congrArg Dev.net h :)
theorem scene (h : MembersOnly d e) : e.scene = d.scene := (congrArg Dev.scene h :)
theorem stoker (h : MembersOnly d e) : e.stoker = d.stoker := (congrArg Dev.stoker h :)
theorem heads (h : MembersOnly d e) : e.heads = d.heads := (congrArg Dev.heads h :)
theorem pipes (h : MembersOnly d e) : e.pipes = d.pipes := (congrArg Dev.pipes h :)
theorem now (h : MembersOnly d e) : e.now = d.now := (congrArg Dev.now h :)
theorem dram (h : MembersOnly d e) : e.dram = d.dram := (congrArg Dev.dram h :)
theorem trust (h : MembersOnly d e) : e.trust = d.trust := (congrArg Dev.trust h :)
theorem out (h : MembersOnly d e) : e.out = d.out := (congrArg Dev.out h :)

end MembersOnly

theorem membersOnly_countSessions (d : Dev) : MembersOnly d (countSessions d) := .nSets d _

theorem membersOnly_endSource (d : Dev) (n : Nat) : MembersOnly d (endSource d n) :=
  (MembersOnly.setEvents d _).trans (.ite (.nSet _ _ _) (.ite (.nSets _ _) (.nSet _ _ _)))

theorem membersOnly_startHold (d : Dev) (g : Nat) : MembersOnly d (startHold d g) :=
  .ite (.refl d) ((MembersOnly.nSet d _ _).trans (.arm _ _ _ _))

theorem membersOnly_claimSource (d : Dev) (n who : Nat) : MembersOnly d (claimSource d n who) :=
  ((MembersOnly.nSets d _).trans (.nInc _ _)).trans
    ((MembersOnly.whenever (.nInc _ _)).trans ((MembersOnly.setEvents _ _).trans (membersOnly_startHold _ _)))

theorem membersOnly_firekeeperClaim (d : Dev) (n : Nat) : MembersOnly d (firekeeperClaim d n) :=
  .whenever ((membersOnly_claimSource d n 0).trans (membersOnly_endSource _ n))

theorem membersOnly_countSignal (d : Dev) (sel n : Nat) : MembersOnly d (countSignal d sel n) :=
  .whenever (.foldl (fun e _ => .whenever ((MembersOnly.setObs e _).trans (.nSet _ _ _))) _ d)

theorem membersOnly_trace (d : Dev) (kind unit data : Nat) : MembersOnly d (trace d kind unit data) :=
  .whenever (.ite (.setObs d _) ((MembersOnly.setObs d _).trans (.nInc _ _)))

theorem membersOnly_snapIsland (d : Dev) (t i : Nat) : MembersOnly d (snapIsland d t i) :=
  (MembersOnly.whenever (.useFree d)).trans (.nSets _ _)

theorem membersOnly_snapTrigger (d : Dev) (cause : Nat) : MembersOnly d (snapTrigger d cause) := by
  refine .ite (.refl d) (.ite (.nSet d _ _) (.ite (.nInc d _) ?_))
  refine MembersOnly.trans ?_ ((MembersOnly.setObs _ _).trans (.arm _ _ _ _))
  exact ((MembersOnly.nSets d _).trans (.foldl (fun e i => membersOnly_snapIsland e _ i) _ _)).trans (.foldl (fun e _ => .nSet e _ _) _ _)

theorem membersOnly_raiseBy (d : Dev) (n amt : Nat) : MembersOnly d (raiseBy d n amt) := by
  unfold raiseBy
  refine MembersOnly.trans ?_ (membersOnly_firekeeperClaim _ n)
  refine MembersOnly.trans ?_ (.whenever (membersOnly_snapTrigger _ 4))
  refine MembersOnly.trans (MembersOnly.trans ?_ (membersOnly_countSignal _ n 1)) (membersOnly_trace _ 1 n _)
  refine MembersOnly.trans ?_ (.ite (.refl _) (.nSet _ _ _))
  exact ((MembersOnly.nSet d _ _).trans (.nInc _ _)).trans (.setEvents _ _)

theorem membersOnly_endNotified (d : Dev) (l : List Notif) : MembersOnly d (endNotified d l) := by
  refine .foldl (fun e n => ?_) l d
  cases n.source with
  | none => exact .refl e
  | some k => exact .whenever (membersOnly_endSource e k)

/-- A frame that an uplink takes or discards changes its queue or a counter. -/
theorem sendFrame_changes (d : Dev) (u q : Nat) (mark : TxMark) (f : List Byte) :
    ∃ n : Net, MembersOnly { d with net := n } (sendFrame d u q mark f) := by
  unfold sendFrame
  split
  · exact ⟨d.net, .nInc d _⟩
  · exact ⟨_, .refl _⟩

theorem sendNoap_changes (d : Dev) (p : Peer) (g : List Byte) : ∃ n : Net, MembersOnly { d with net := n } (sendNoap d p g) := by
  unfold sendNoap
  dsimp only
  split
  · exact ⟨d.net, .refl d⟩
  · exact sendFrame_changes d _ _ _ _

theorem sendMessage_changes (d : Dev) (sess : Nat) (p : Peer) (typ flags seq : Nat) (body : List Byte) :
    ∃ n : Net, MembersOnly { d with net := n } (sendMessage d sess p typ flags seq body) := sendNoap_changes _ _ _

/-- The sessions but one. -/
abbrev sessionsBut (d : Dev) (sess : Nat) : List Session := d.noap.sessions.filter (fun y => decide (y.id ≠ sess))

/-- Whether a session is the controlling one. -/
def controls (x : Session) : Bool := x.controller && x.isOpen

/-- A device without a session, whose staging set went with it where it controlled. -/
def withoutSession (d : Dev) (sess : Nat) (x : Session) : Dev :=
  { d with noap.sessions := sessionsBut d sess, scene.staging := if controls x then [] else d.scene.staging }

/-- What is left of a session that closes: members, and the scene lease timer of the controlling one (R53, R54, R135, R626). -/
theorem closeSession_of_find {d : Dev} {sess : Nat} {x : Session} (hx : d.noap.sessions.find? (fun y => decide (y.id = sess)) = some x) :
    MembersOnly (withoutSession d sess x) (closeSession d sess) ∧
      (controls x = true → mapFind (closeSession d sess).timers (timerKey tkSceneLease 0) = some d.now) := by
  have hold : MembersOnly { d with noap.sessions := sessionsBut d sess }
      (endNotified (countSessions { d with noap.sessions := sessionsBut d sess }) ((x.unacked.map (·.notifs)).flatten ++ x.queue)) :=
    (membersOnly_countSessions _).trans (membersOnly_endNotified _ _)
  unfold closeSession
  simp only [hx]
  change MembersOnly _ (if controls x = true then _ else _) ∧ (_ → mapFind (if controls x = true then _ else _ : Dev).timers _ = _)
  cases hc : controls x with
  | false =>
    have hsame : withoutSession d sess x = { d with noap.sessions := sessionsBut d sess } := by simp [withoutSession, hc]
    rw [if_neg Bool.false_ne_true, hsame]
    exact ⟨hold, fun h => absurd h Bool.false_ne_true⟩
  | true =>
    have hsame : withoutSession d sess x = { d with noap.sessions := sessionsBut d sess, scene.staging := [] } := by simp [withoutSession, hc]
    rw [if_pos rfl, hsame]
    refine ⟨?_, fun _ => ?_⟩
    · refine MembersOnly.trans ?_ (.arm _ _ _ _)
      refine MembersOnly.trans (?_ : MembersOnly _ { endNotified _ _ with scene.staging := [] }) (.nSet _ _ _)
      exact congrArg (fun e : Dev => { e with scene.staging := [] }) hold
    · rw [mapFind_arm_same]
      exact congrArg some ((MembersOnly.nSet _ _ _).now.trans hold.now)

/-- A session that is not there closes to no effect. -/
theorem closeSession_of_none {d : Dev} {sess : Nat} (hx : d.noap.sessions.find? (fun y => decide (y.id = sess)) = none) :
    closeSession d sess = d := by
  simp only [closeSession, hx]

/-- A session that closes is gone, and no other. -/
theorem closeSession_noap (d : Dev) (sess : Nat) : (closeSession d sess).noap = { d.noap with sessions := sessionsBut d sess } := by
  cases hx : d.noap.sessions.find? (fun y => decide (y.id = sess)) with
  | none =>
    have hall : sessionsBut d sess = d.noap.sessions :=
      List.filter_eq_self.mpr fun y hy => by simpa using List.find?_eq_none.mp hx y hy
    rw [closeSession_of_none hx, hall]
  | some x => exact (closeSession_of_find hx).1.noap

/-- CLOSE of a session that is there: a message to its peer where the device closes it, and its end. -/
theorem doClose_of_find {d : Dev} {sess : Nat} {x : Session} (byDevice : Bool)
    (hx : d.noap.sessions.find? (fun y => decide (y.id = sess)) = some x) :
    ∃ n : Net, MembersOnly { withoutSession d sess x with net := n } (doClose sess byDevice d) ∧
      (controls x = true → mapFind (doClose sess byDevice d).timers (timerKey tkSceneLease 0) = some d.now) := by
  have hsend : ∃ n : Net, MembersOnly { d with net := n } (if byDevice then sendMessage d sess x.peer 0x12 0 (x.seqOut + 1) [] else d) := by
    cases byDevice with
    | false => exact ⟨d.net, .refl d⟩
    | true => exact sendMessage_changes _ _ _ _ _ _ _
  obtain ⟨n, hn⟩ := hsend
  simp only [doClose, hx]
  generalize (if byDevice then sendMessage d sess x.peer 0x12 0 (x.seqOut + 1) [] else d) = e at hn ⊢
  have hfind : e.noap.sessions.find? (fun y => decide (y.id = sess)) = some x := by rw [hn.noap]; exact hx
  obtain ⟨hclosed, htimer⟩ := closeSession_of_find hfind
  refine ⟨n, MembersOnly.trans ?_ hclosed, fun hc => (htimer hc).trans (congrArg some hn.now)⟩
  have hwith := congrArg (fun y : Dev => withoutSession y sess x) hn
  exact hwith

/-- Settles O15: what goes with the controlling session is its staging set, and beside it only members, the scene lease timer and a CLOSE
that is sent (R53, R54). -/
theorem controllerCloseKeepsTheScene : Obligations.ControllerCloseKeepsTheScene := by
  intro sess byDevice x s hx hcontroller hopen
  have hc : controls x = true := by simp [controls, hcontroller, hopen]
  obtain ⟨n, hclosed, -⟩ := doClose_of_find byDevice hx
  have hscene : (doClose sess byDevice s.dev).scene = { s.dev.scene with staging := [] } :=
    hclosed.scene.trans (by simp [withoutSession, hc])
  exact ⟨_, rfl, (congrArg Scene.staging hscene :), (congrArg Scene.commits hscene :), (congrArg Scene.live hscene :),
    (congrArg Scene.alloc hscene :), hclosed.stoker, hclosed.heads, hclosed.pipes, rfl⟩

end Sys2Proof.Machine
end

section
/-!
Requests and messages of a NOAP session (R42 to R48, R55 to R57, R60, R563, R564): what a message that finds room does, what an answer
leaves of the session, and when a request is taken up as it waits.
-/
namespace Sys2Proof.Machine

variable {d e : Dev} {sess seq : Nat} {p : Peer} {g : List Byte}

/-- The members that a datagram's frame is made from: those of the uplinks and of the addresses. -/
def MailMember (r : Ref) : Prop := refClass r = 0x48 ∧ (refInst r < 2 ∨ refInst r = 8)

/-- A device e from which a datagram leaves as it would from d. -/
structure SameMail (d e : Dev) : Prop where
  member : ∀ r, MailMember r → mGet e r = mGet d r
  queues : e.net.queues = d.net.queues

namespace SameMail

theorem refl (d : Dev) : SameMail d d := ⟨fun _ _ => rfl, rfl⟩

theorem trans {f : Dev} (h : SameMail d e) (h' : SameMail e f) : SameMail d f :=
  ⟨fun r hr => (h'.member r hr).trans (h.member r hr), h'.queues.trans h.queues⟩

/-- Parts that hold neither members nor queues may change. -/
theorem of_same (hobjs : e.objs = d.objs) (hqueues : e.net.queues = d.net.queues) : SameMail d e :=
  ⟨fun r _ => mGet_congr hobjs r, hqueues⟩

theorem mSet (d : Dev) {r : Ref} (hr : ¬ MailMember r) (v : Val) : SameMail d (mSet d r v) :=
  ⟨fun _ hq => mGet_mSet_other d v (fun hqr => hr (hqr ▸ hq)), by rw [mSet_net]⟩

theorem nGet (h : SameMail d e) {r : Ref} (hr : MailMember r) : nGet e r = nGet d r := by simp only [Machine.nGet, h.member r hr]
theorem bGet (h : SameMail d e) {r : Ref} (hr : MailMember r) : bGet e r = bGet d r := by simp only [Machine.bGet, h.member r hr]

theorem queueOf (h : SameMail d e) (u q : Nat) : queueOf e u q = queueOf d u q := by simp only [Machine.queueOf, h.queues]

end SameMail

theorem mailMember_addr (m : Nat) : MailMember (mref 0x48 8 m) := by simp [MailMember]

theorem mailMember_upl {u : Nat} (hu : u < 2) (m : Nat) : MailMember (mref 0x48 u m) := by
  refine ⟨refClass_mref _ _ _, .inl ?_⟩
  rw [refInst_mref]
  omega

theorem SameMail.noapUplink (h : SameMail d e) (p : Peer) : noapUplink e p = noapUplink d p := by
  unfold Machine.noapUplink
  rw [show Machine.nGet e addr_REDUNDANCY = _ from h.nGet (mailMember_addr 1), show Machine.nGet e addr_ACTIVE = _ from h.nGet (mailMember_addr 2)]

theorem SameMail.noapFrame (h : SameMail d e) {u : Nat} (hu : u < 2) (p : Peer) (g : List Byte) : noapFrame e u p g = noapFrame d u p g := by
  unfold Machine.noapFrame ethHead macOf
  rw [show Machine.nGet e addr_REDUNDANCY = _ from h.nGet (mailMember_addr 1), show Machine.bGet e addr_MAC_0 = _ from h.bGet (mailMember_addr 4),
    show Machine.bGet e addr_MAC_1 = _ from h.bGet (mailMember_addr 5), show Machine.nGet e (upl_VLAN_ID u) = _ from h.nGet (mailMember_upl hu 5),
    show Machine.nGet e (upl_PCP u) = _ from h.nGet (mailMember_upl hu 6)]

/-- A device whose best-effort queue of an uplink has taken a frame. -/
def enqueued (d : Dev) (u : Nat) (f : List Byte) : Dev :=
  { d with net.queues := mapPut d.net.queues (4 * u + 3) (queueOf d u 3 ++ [{ octets := f ++ zeros (60 - f.length), mark := .plain }]) }

/-- A message to a peer that can be reached waits in the queue of its uplink, and nothing else changes. -/
theorem sendNoap_of_canSend (h : CanSend d p) (g : List Byte) :
    sendNoap d p g = enqueued d (noapUplink d p) (noapFrame d (noapUplink d p) p g) := by
  obtain ⟨hu, hlink, hroom⟩ := h
  have hroom' : ¬ queueDepth 3 ≤ (queueOf d (noapUplink d p) 3).length := Nat.not_le.mpr hroom
  simp only [sendNoap, sendEth, sendFrame, if_neg (Nat.not_le.mpr hu), hlink, hroom', ne_eq, not_true_eq_false, or_self, if_false]
  rfl

theorem SameMail.canSend (h : SameMail d e) (hd : CanSend d p) : CanSend e p := by
  obtain ⟨hu, hlink, hroom⟩ := hd
  unfold CanSend
  rw [h.noapUplink]
  refine ⟨hu, ?_, by rw [h.queueOf]; exact hroom⟩
  rw [← hlink]
  exact h.nGet (mailMember_upl hu 2)

/-- What is sent from a device that mails as s.dev does is a datagram sent from s. -/
theorem sendsTo_of_sameMail {s u : State} {e : Dev} (hmail : SameMail s.dev e) (hcan : CanSend s.dev p)
    (hu : u.dev.net.queues = (sendNoap e p g).net.queues) : SendsTo s u p g := by
  have hnew : u.dev.net.queues = (enqueued e (noapUplink s.dev p) (noapFrame s.dev (noapUplink s.dev p) p g)).net.queues := by
    rw [hu, sendNoap_of_canSend (hmail.canSend hcan), hmail.noapUplink, hmail.noapFrame hcan.1]
  change mapGet u.dev.net.queues _ [] = _
  rw [hnew, ← hmail.queueOf]
  exact mapGet_mapPut_same _ _ _ _

/-- The session that a function has changed. -/
theorem sessionOf_updSession (d : Dev) (sess : Nat) {f : Session → Session} (hid : ∀ x, (f x).id = x.id) :
    sessionOf (updSession d sess f) sess = (sessionOf d sess).map f := by
  have hsame : (fun x : Session => decide (x.id = sess)) ∘ (fun x => if x.id = sess then f x else x) = fun x => decide (x.id = sess) := by
    funext x
    dsimp only [Function.comp_apply]
    split
    · rw [hid]
    · rfl
  unfold sessionOf updSession
  rw [List.find?_map, hsame]
  refine Option.map_congr fun x hx => if_pos ?_
  have hfound := List.find?_some hx
  exact of_decide_eq_true hfound

/-- What a message of a session is sent by: its peer, its keys and its requests. -/
def mailOf (x : Session) : Peer × List Byte × List Req := (x.peer, x.keys, x.waiting)

/-- Two devices whose session numbered sess sends alike. -/
def SameSender (d e : Dev) (sess : Nat) : Prop := (sessionOf e sess).map mailOf = (sessionOf d sess).map mailOf

namespace SameSender

theorem of_sessions (h : e.noap.sessions = d.noap.sessions) (sess : Nat) : SameSender d e sess := by
  simp only [SameSender, sessionOf, h]

theorem updSession (d : Dev) (sess : Nat) {f : Session → Session} (hid : ∀ x, (f x).id = x.id) (hmail : ∀ x, mailOf (f x) = mailOf x) :
    SameSender d (updSession d sess f) sess := by
  rw [SameSender, sessionOf_updSession d sess hid, Option.map_map]
  exact Option.map_congr fun x _ => hmail x

theorem sessionKey (h : SameSender d e sess) : sessionKey e sess = sessionKey d sess := by
  have hkeys := congrArg (Option.map (fun m : Peer × List Byte × List Req => m.2.1)) h
  rwa [Option.map_map, Option.map_map] at hkeys

theorem requestPeer (h : SameSender d e sess) (seq : Nat) : requestPeer e sess seq = requestPeer d sess seq := by
  have hpeer := congrArg (Option.map (fun m : Peer × List Byte × List Req => m.1)) h
  have hwaiting := congrArg (fun o : Option (Peer × List Byte × List Req) => o.bind (fun m => m.2.2.find? (fun r => decide (r.seq = seq)))) h
  simp only [Option.map_map, Option.bind_map] at hpeer hwaiting
  simp only [mailOf, Function.comp_def] at hpeer hwaiting
  simp only [Machine.requestPeer, sessionPeer, hwaiting, hpeer]

theorem isSome (h : SameSender d e sess) : (sessionOf e sess).isSome = (sessionOf d sess).isSome := by
  simpa using congrArg Option.isSome h

end SameSender

theorem any_id_eq_isSome (d : Dev) (sess : Nat) : d.noap.sessions.any (fun x => decide (x.id = sess)) = (sessionOf d sess).isSome := by
  rw [sessionOf, List.isSome_find?]

/-- A session with a response among those it keeps, and its request no longer waiting. -/
def answered (seq typ : Nat) (body : List Byte) (x : Session) : Session :=
  { x with waiting := x.waiting.filter (fun r => r.seq ≠ seq), msgsOut := x.msgsOut + 1,
           kept := (x.kept ++ [({ seq := seq, typ := typ, body := body } : Kept)]).drop (x.kept.length - 63) }

theorem answer_of_isSome (h : (sessionOf d sess).isSome = true) (seq typ : Nat) (body : List Byte) :
    answer d sess seq typ body = sendMessage (updSession d sess (answered seq typ body)) sess (requestPeer d sess seq) typ 1 seq body := by
  have hany := (any_id_eq_isSome d sess).trans h
  simp only [answer, hany, Bool.true_eq_false, if_false]
  rfl

/-- An answer leaves beside members a response kept by its session and what is sent. -/
theorem answer_changes (d : Dev) (sess seq typ : Nat) (body : List Byte) :
    ∃ n : Net, MembersOnly { updSession d sess (answered seq typ body) with net := n } (answer d sess seq typ body) := by
  cases h : (sessionOf d sess).isSome with
  | true =>
    rw [answer_of_isSome h]
    exact sendMessage_changes _ _ _ _ _ _ _
  | false =>
    have hnone : ∀ x ∈ d.noap.sessions, ¬ x.id = sess := by
      simpa [sessionOf] using h
    have hsame : updSession d sess (answered seq typ body) = d := by
      have hmap : d.noap.sessions.map (fun x => if x.id = sess then answered seq typ body x else x) = d.noap.sessions :=
        (List.map_congr_left fun x hx => if_neg (hnone x hx)).trans (List.map_id _)
      simp only [updSession, hmap]
    have hany := (any_id_eq_isSome d sess).trans h
    refine ⟨d.net, ?_⟩
    rw [hsame, answer, if_pos hany]
    exact .refl d

theorem answer_noap (d : Dev) (sess seq typ : Nat) (body : List Byte) :
    (answer d sess seq typ body).noap = (updSession d sess (answered seq typ body)).noap := by
  obtain ⟨n, h⟩ := answer_changes d sess seq typ body
  exact h.noap

/-- No session has reached its limit of messages (R53). -/
def WithinLimit (d : Dev) : Prop := ∀ x ∈ d.noap.sessions, x.msgsIn < 2 ^ 31 ∧ x.msgsOut < 2 ^ 31

/-- No session reaches its limit of messages by one more from the device. -/
def RoomToSend (d : Dev) : Prop := ∀ x ∈ d.noap.sessions, x.msgsIn < 2 ^ 31 ∧ x.msgsOut + 1 < 2 ^ 31

theorem limitCheck_of_within (h : WithinLimit d) (sess : Nat) : limitCheck d sess = d := by
  unfold limitCheck
  split
  case h_1 x hx =>
    obtain ⟨hin, hout⟩ := h x (List.mem_of_find?_eq_some hx)
    exact if_neg (by omega)
  case h_2 => rfl

theorem within_of_sessions (h : e.noap.sessions = d.noap.sessions) (hd : WithinLimit d) : WithinLimit e := fun x hx => hd x (h ▸ hx)

theorem roomToSend_of_all (h : d.noap.sessions.all (fun x => decide (x.msgsIn < 2 ^ 31) && decide (x.msgsOut + 1 < 2 ^ 31)) = true) :
    RoomToSend d := by
  simpa [RoomToSend] using h

/-- A session's change that sends at most one message more. -/
theorem RoomToSend.updSession (h : RoomToSend d) (sess : Nat) {f : Session → Session} (hin : ∀ x, (f x).msgsIn = x.msgsIn)
    (hout : ∀ x, (f x).msgsOut ≤ x.msgsOut + 1) : WithinLimit (updSession d sess f) := by
  intro y hy
  obtain ⟨x, hx, rfl⟩ := List.mem_map.mp hy
  obtain ⟨hxin, hxout⟩ := h x hx
  have := hin x
  have := hout x
  split <;> omega

/-- A session's change that sends nothing. -/
theorem RoomToSend.updSession_same (h : RoomToSend d) (sess : Nat) {f : Session → Session} (hin : ∀ x, (f x).msgsIn = x.msgsIn)
    (hout : ∀ x, (f x).msgsOut = x.msgsOut) : RoomToSend (Machine.updSession d sess f) := by
  intro y hy
  obtain ⟨x, hx, rfl⟩ := List.mem_map.mp hy
  have hxroom := h x hx
  split
  · rwa [hin, hout]
  · exact hxroom

theorem limitCheck_answer (h : RoomToSend d) (sess seq typ : Nat) (body : List Byte) :
    limitCheck (answer d sess seq typ body) sess = answer d sess seq typ body :=
  limitCheck_of_within
    (within_of_sessions (congrArg Noap.sessions (answer_noap d sess seq typ body)) (h.updSession sess (fun _ => rfl) fun _ => le_rfl)) sess

theorem sessionOf_isSome_of_serves (h : serves d sess = true) : (sessionOf d sess).isSome = true := by
  simp only [serves, sessionOpen, Bool.and_eq_true, List.any_eq_true, decide_eq_true_eq] at h
  obtain ⟨-, x, hx, hid, -⟩ := h
  rw [← any_id_eq_isSome, List.any_eq_true]
  exact ⟨x, hx, decide_eq_true hid⟩

/-- A state whose messages are those that an answer leaves has the answer among them: it goes to where the request came from. -/
theorem responds_of_answer {s u : State} {typ : Nat} {body : List Byte} (hreach : Reachable s.dev sess (requestPeer s.dev sess seq))
    (hmail : SameMail s.dev d) (hsender : SameSender s.dev d sess) (hu : u.dev.net.queues = (answer d sess seq typ body).net.queues) :
    Responds s u sess typ seq body := by
  obtain ⟨hserves, hcan, -⟩ := hreach
  have hsome : (sessionOf d sess).isSome = true := hsender.isSome.trans (sessionOf_isSome_of_serves hserves)
  have hkey : sessionKey (updSession d sess (answered seq typ body)) sess = sessionKey s.dev sess := by
    rw [sessionKey, sessionOf_updSession d sess (f := answered seq typ body) fun _ => rfl, Option.map_map]
    exact hsender.sessionKey
  refine sendsTo_of_sameMail (e := updSession d sess (answered seq typ body)) (hmail.trans (.of_same rfl rfl)) hcan ?_
  rw [hu, answer_of_isSome hsome, sendMessage, hkey, hsender.requestPeer]

/-- A request that its session executes next is taken up as it waits (R57). -/
theorem takeTurn_of_isNext (h : IsNext d sess seq) (typ flags n : Nat) : takeTurn d sess seq typ flags n = (d, some (nextFlags d sess)) := by
  obtain ⟨r, hr, hseq⟩ := Option.map_eq_some_iff.mp h
  obtain ⟨hseq, hearlier⟩ := Prod.mk.inj hseq
  cases hx : sessionOf d sess with
  | none => simp [nextRequest, hx] at hr
  | some x =>
    have hfind : x.waiting.find? (fun w => !w.started) = some r := by simpa [nextRequest, hx] using hr
    have hwaits : x.waiting.any (fun w => decide (w.seq = seq)) = true :=
      List.any_eq_true.mpr ⟨r, List.mem_of_find?_eq_some hfind, decide_eq_true hseq⟩
    simp only [takeTurn, hx, hwaits, if_true, hr, nextFlags, Option.filter_some, hseq, hearlier, decide_true, Bool.not_false, Bool.and_self,
      Option.map_some, Option.getD_some]

/-- A request of a session that is served, in its turn. -/
theorem atTurn_of_isNext (hserves : serves d sess = true) (hnext : IsNext d sess seq) (typ flags n : Nat) (run : Dev → Nat → Dev) :
    atTurn d sess seq typ flags n run = limitCheck (run d (nextFlags d sess)) sess := by
  simp only [atTurn, hserves, Bool.true_eq_false, if_false, takeTurn_of_isNext hnext]

end Sys2Proof.Machine
end

section
/-!
Datagrams and the life of a session (R46 to R53, R55, R75, R81): clauses of O35.
-/
namespace Sys2Proof.Machine

variable {d : Dev} {x : Session} {sess seq n : Nat} {b : List Byte} {peer : Peer}

/-! ### A device with one session -/

theorem find_only (h : d.noap.sessions = [x]) (hid : x.id = sess) : d.noap.sessions.find? (fun y => decide (y.id = sess)) = some x := by
  simp [h, hid]

theorem updSession_only (h : d.noap.sessions = [x]) (hid : x.id = sess) (f : Session → Session) :
    (updSession d sess f).noap.sessions = [f x] := by
  simp [updSession, h, hid]

theorem within_only (h : d.noap.sessions = [x]) (hin : x.msgsIn < 2 ^ 31) (hout : x.msgsOut < 2 ^ 31) : WithinLimit d := by
  intro y hy
  rw [h, List.mem_singleton] at hy
  exact hy ▸ ⟨hin, hout⟩

/-! ### Datagrams (R46, R55, R75) -/

/-- A datagram of a session's number that is well formed, at a device that takes datagrams (R42 to R46). -/
structure Arrives (d : Dev) (b : List Byte) (x : Session) (n : Nat) : Prop where
  enabled : nGet d noap_ENABLE ≠ 0
  runs : nGet d dev_FK_STATE = 1
  network : networkRuns d = true
  count : n = ofBe (sliceOf b 6 2)
  length : b.length = n + 32
  whole : b.length ≤ 1432
  magic : ofBe (sliceOf b 0 2) = 0x4E4F
  version : ofBe (sliceOf b 2 1) = 1
  known : knownType (ofBe (sliceOf b 3 1)) = true
  tagged : ofBe (sliceOf b 3 1) ≠ 0x10
  session : d.noap.sessions.find? (fun y => decide (y.id = ofBe (sliceOf b 8 4))) = some x

/-- The TAG that a datagram of a session carries (R48). -/
abbrev tagHolds (b : List Byte) (x : Session) (n : Nat) : Prop := sliceOf b (16 + n) 16 = noapTag (sliceOf x.keys 0 48) (b.take (16 + n))

/-- What a datagram with its TAG does: an acknowledgement is heard, a request waits. -/
def takeIn (d : Dev) (peer : Peer) (b : List Byte) (x : Session) (n : Nat) : Dev :=
  let typ := ofBe (sliceOf b 3 1)
  let sess := ofBe (sliceOf b 8 4)
  let seq := ofBe (sliceOf b 12 4)
  let d := hearHost d sess
  if typ = 5 then limitCheck (hearAck d sess seq) sess
  else
    let d := updSession d sess (fun y => { y with peer := peer })
    limitCheck (if typ = 0x12 then d
      else requestIn x { seq := seq, typ := typ, flags := ofBe (sliceOf b 4 2), peer := peer, arrived := d.now, started := false }
        (ofBe (sliceOf b 16 (min n 1))) d) sess

/-- A datagram that arrives is heard where its TAG holds and counted where it does not. -/
theorem noapReceive_of_arrives (h : Arrives d b x n) (hopen : x.isOpen = true) :
    (tagHolds b x n → noapReceive d false peer b = takeIn d peer b x n) ∧
      (¬ tagHolds b x n → noapReceive d false peer b = nInc d noap_TAG_FAIL) := by
  obtain ⟨henabled, hruns, hnetwork, rfl, hlength, hwhole, hmagic, hversion, hknown, htagged, hsession⟩ := h
  unfold noapReceive
  rw [if_neg (by simp [henabled, hruns, hnetwork]), if_neg (by simp [hwhole])]
  dsimp only
  rw [if_neg (by simp [hlength, hmagic, hversion, hknown, htagged]), hsession]
  dsimp only
  refine ⟨fun htag => ?_, fun htag => if_pos htag⟩
  rw [if_neg (not_not_intro htag), if_neg (by simp [hopen])]
  rfl

/-- A datagram is either heard or counted in TAG_FAIL. -/
theorem completes_datagram {s : State} {src : UdpSource} {P : Dev → Prop} (h : Arrives s.dev b x n) (hopen : x.isOpen = true)
    (hheard : P (takeIn s.dev (peerOf src) b x n)) :
    Completes (.noapDatagramReceived src false b) s fun u =>
      if sliceOf b (16 + n) 16 = ((Config.hmacSha384 (sliceOf x.keys 0 48) (b.take (16 + n))).toList).take 16 then P u.dev
      else nGet u.dev noap_TAG_FAIL = satAdd 32 (nGet s.dev noap_TAG_FAIL) 1 ∧ u.dev.noap = s.dev.noap := by
  obtain ⟨hgood, hbad⟩ := noapReceive_of_arrives (peer := peerOf src) h hopen
  refine ⟨_, rfl, ?_⟩
  change if tagHolds b x n then P (noapReceive s.dev false (peerOf src) b) else
    nGet (noapReceive s.dev false (peerOf src) b) _ = _ ∧ (noapReceive s.dev false (peerOf src) b).noap = _
  split
  case isTrue htag => rwa [hgood htag]
  case isFalse htag =>
    rw [hbad htag]
    exact ⟨nGet_nSet_same _ _ _, nInc_noap _ _⟩

/-- A request that is neither kept nor waiting nor old, nor beyond the 64, waits. -/
theorem requestIn_of_new {r : Req} (hkept : x.kept.all (fun k => decide (k.seq ≠ r.seq)) = true)
    (hwaiting : x.waiting.all (fun w => decide (w.seq ≠ r.seq)) = true) (hseq : x.seqIn < r.seq + 64)
    (hroom : x.waiting.length < 64) (m : Nat) (d : Dev) :
    requestIn x r m d = updSession d x.id (fun y => { y with seqIn := max y.seqIn r.seq, waiting := y.waiting ++ [r] }) := by
  have hnone : x.kept.find? (fun k => decide (k.seq = r.seq)) = none := by simpa using hkept
  have hnew : ¬ x.waiting.any (fun w => decide (w.seq = r.seq)) = true := by simpa using hwaiting
  unfold requestIn
  rw [hnone]
  dsimp only
  rw [if_neg hnew, if_neg (Nat.not_le.mpr hseq), if_neg (Nat.not_le.mpr hroom)]

theorem noapDatagramReceivedDoes : NoapDatagramReceivedDoes := by
  intro s src b x n seq h
  obtain ⟨henabled, hruns, hnetwork, hn, hlength, hwhole, hmagic, hversion, htyp, hsessions, hid, rfl, hopen, hkept, hwaiting, hseq, hroom, hin,
    hout⟩ := h
  have htypes : knownType (ofBe (sliceOf b 3 1)) = true ∧ ofBe (sliceOf b 3 1) ≠ 0x10 ∧
      ofBe (sliceOf b 3 1) ≠ 0x12 ∧ ofBe (sliceOf b 3 1) ≠ 5 := by
    generalize ofBe (sliceOf b 3 1) = typ at htyp
    revert typ
    decide
  obtain ⟨hknown, htagged, hclose, hevent⟩ := htypes
  refine completes_datagram (P := fun e => e.noap.sessions = [_])
    ⟨henabled, hruns, hnetwork, hn, hlength, hwhole, hmagic, hversion, hknown, htagged, find_only hsessions hid.symm⟩ hopen ?_
  have hheard := updSession_only (updSession_only hsessions hid.symm (fun y => { y with lastMsg := s.dev.now, msgsIn := y.msgsIn + 1 })) hid.symm
    (fun y => { y with peer := peerOf src })
  unfold takeIn
  dsimp only
  rw [if_neg hevent, if_neg hclose, requestIn_of_new hkept hwaiting hseq hroom, limitCheck_of_within]
  · exact updSession_only hheard rfl _
  · exact within_only (updSession_only hheard rfl _) hin hout

theorem noapDatagramReceivedResponseDoes : NoapDatagramReceivedResponseDoes := by
  intro s src b x q n h
  obtain ⟨henabled, hruns, hnetwork, hn, hlength, hwhole, hmagic, hversion, htyp, hsessions, hid, hopen, hunacked, hseq, hin, hout⟩ := h
  have hknown : knownType (ofBe (sliceOf b 3 1)) = true ∧ ofBe (sliceOf b 3 1) ≠ 0x10 := by
    rw [htyp]
    decide
  refine completes_datagram (P := fun e => e.noap.sessions = [_])
    ⟨henabled, hruns, hnetwork, hn, hlength, hwhole, hmagic, hversion, hknown.1, hknown.2, find_only hsessions hid.symm⟩ hopen ?_
  have hheard := updSession_only (updSession_only hsessions hid.symm (fun y => { y with lastMsg := s.dev.now, msgsIn := y.msgsIn + 1 })) hid.symm
    (fun y => { y with unacked := y.unacked.map (fun u => if u.seq = q.seq then { u with heard := true } else u) })
  unfold takeIn
  dsimp only
  rw [if_pos htyp, ← hseq, limitCheck_of_within]
  · refine hheard.trans ?_
    simp [hunacked]
  · exact within_only hheard hin hout

theorem noapDatagramReceivedFragmentDoes : NoapDatagramReceivedFragmentDoes := by
  intro s src b ⟨henabled, hruns, hnetwork⟩
  have hcounted : noapReceive s.dev true (peerOf src) b = nInc s.dev noap_FRAG_DROPPED := by
    unfold noapReceive
    rw [if_neg (by simp [henabled, hruns, hnetwork]), if_pos (.inl rfl)]
  refine ⟨_, rfl, ?_⟩
  change nGet (noapReceive s.dev true (peerOf src) b) _ = _ ∧ (noapReceive s.dev true (peerOf src) b).noap = _
  rw [hcounted]
  exact ⟨nGet_nSet_same _ _ _, nInc_noap _ _⟩

/-! ### The end of a session (R53, R81) -/

theorem closeDoes : CloseDoes := by
  intro s sess byDevice x hx
  obtain ⟨n, hclosed, htimer⟩ := doClose_of_find byDevice hx
  refine ⟨_, rfl, congrArg Noap.sessions hclosed.noap, fun hcontroller hopen => ?_⟩
  have hc : controls x = true := by simp [controls, hcontroller, hopen]
  exact ⟨(congrArg Scene.staging hclosed.scene).trans (if_pos hc), htimer hc⟩

theorem closeSession_sessions (d : Dev) (sess : Nat) : (closeSession d sess).noap.sessions = sessionsBut d sess :=
  congrArg Noap.sessions (closeSession_noap d sess)

theorem sessionIdleTimeoutDoes : SessionIdleTimeoutDoes := by
  intro s sess x ⟨hx, hidle⟩
  have hends : doSessionIdleTimeout sess s.dev = closeSession s.dev sess := by
    simp only [doSessionIdleTimeout, hx]
    exact if_pos (by rw [ms]; omega)
  refine ⟨_, rfl, ?_⟩
  change (doSessionIdleTimeout sess s.dev).noap.sessions = _
  rw [hends]
  exact closeSession_sessions _ _

theorem sessionLifetimeExpiryDoes : SessionLifetimeExpiryDoes := by
  intro s sess x ⟨hx, hopen, hold⟩
  have hends : doSessionLifetimeExpiry sess s.dev = closeSession s.dev sess := by
    simp only [doSessionLifetimeExpiry, hx]
    exact if_pos ⟨hopen, hold⟩
  refine ⟨_, rfl, ?_⟩
  change (doSessionLifetimeExpiry sess s.dev).noap.sessions = _
  rw [hends]
  exact closeSession_sessions _ _

/-- Closing the sessions of a list leaves those whose numbers are not in it. -/
theorem foldl_closeSession_sessions (ids : List Nat) (d : Dev) :
    (ids.foldl closeSession d).noap.sessions = d.noap.sessions.filter (fun y => decide (y.id ∉ ids)) := by
  induction ids generalizing d with
  | nil => simp
  | cons i ids ih =>
    rw [List.foldl_cons, ih, closeSession_sessions, sessionsBut, List.filter_filter]
    exact List.filter_congr fun y _ => by simp [Bool.and_comm]

theorem closeAll_sessions (d : Dev) : (closeAll d).noap.sessions = [] := by
  rw [closeAll, foldl_closeSession_sessions, List.filter_eq_nil_iff]
  intro y hy
  simpa using ⟨y, hy, rfl⟩

end Sys2Proof.Machine
end

section
/-!
Opening sessions and switching NOAP off (R47, R49 to R52, R81, R135, R628): clauses of O35.
-/
namespace Sys2Proof.Machine

/-! ### A write of ENABLE (R81) -/

theorem keeps_discardOp (d : Dev) : Keeps (· = noap_ENABLE) (fun _ => False) d (discardOp d 0).1 := by
  have hempty : Keeps (· = noap_ENABLE) (fun _ => False) d { d with scene.staging := [] } := (Keeps.refl d).same rfl rfl rfl
  exact hempty.nSet (r := commitCtl_STAGED_COUNT) (by decide) _

/-- A session that closes leaves the members of its own accounts and of the event sources aside. -/
theorem keeps_closeSession (d : Dev) (sess : Nat) : Keeps (· = noap_ENABLE) (fun _ => False) d (closeSession d sess) := by
  have hcount : ∀ e, Keeps (· = noap_ENABLE) (fun _ => False) e (countSessions e) := fun e =>
    (Keeps.refl e).nSets (by simp; decide)
  have hend : ∀ (e : Dev) (l : List Notif), Keeps (· = noap_ENABLE) (fun _ => False) e (endNotified e l) := by
    refine fun e l => Keeps.foldl (fun e n _ => ?_) e
    cases n.source with
    | none => exact .refl e
    | some k =>
      refine Keeps.whenever fun _ => (keepsQuiet_endSource e k).mono (fun q hq => ?_) (fun _ => False.elim)
      rw [hq, QuietMember]
      decide
  unfold closeSession
  split
  · exact .refl d
  · dsimp only
    have hold : Keeps (· = noap_ENABLE) (fun _ => False) d { d with noap.sessions := sessionsBut d sess } := (Keeps.refl d).same rfl rfl rfl
    refine Keeps.ite (fun _ => ?_) fun _ => (hold.trans (hcount _)).trans (hend _ _)
    exact Keeps.arm (((hold.trans (hcount _)).trans (hend _ _)).trans (keeps_discardOp _)) not_false _

/-- A plain write of a member that takes the value. -/
theorem plainWrite_ok {d : Dev} {r : Ref} {v : Val} {row : MemberRow} (hrow : rowOf r = some row) (hacc : row.acc = .rw)
    (hrange : inRange row v = true) : plainWrite d r v = (mSet d r v, .ok, []) := by
  simp [plainWrite, hrow, hacc, hrange]

theorem noapEnable_ok (d : Dev) {v : Nat} (hv : v ≤ 1) :
    noapEnable d (.num v) = ({ nSet d noap_ENABLE v with noap.closing := d.noap.closing || v == 0 }, .ok, []) := by
  obtain ⟨row, hrow, hacc, hrange⟩ : ∃ row, rowOf noap_ENABLE = some row ∧ row.acc = .rw ∧ ∀ v ≤ 1, inRange row (.num v) = true :=
    ⟨_, rfl, rfl, by decide⟩
  have hzero : ((Val.num v : Val) == .num 0) = (v == 0) := by simp [beq_eq_decide]
  simp only [noapEnable, plainWrite_ok hrow hacc (hrange v hv), hzero]
  rfl

/-- Closing where it is asked for leaves ENABLE, and no session where a write has asked for it. -/
theorem closeIfAsked_spec (d : Dev) : nGet (closeIfAsked d) noap_ENABLE = nGet d noap_ENABLE ∧
    (d.noap.closing = true → (closeIfAsked d).noap.sessions = []) := by
  unfold closeIfAsked
  split
  case isTrue hc =>
    have hbegun : Keeps (· = noap_ENABLE) (fun _ => False) d { d with noap.closing := false } := (Keeps.refl d).same rfl rfl rfl
    have hkept := hbegun.trans (Keeps.foldl (l := d.noap.sessions.map (·.id)) (fun e i _ => keeps_closeSession e i) _)
    exact ⟨hkept.nGet rfl, fun _ => closeAll_sessions _⟩
  case isFalse hc => exact ⟨rfl, fun h => absurd h hc⟩

theorem noapEnableWriteDoes : NoapEnableWriteDoes := by
  intro s sess v ⟨hgate, hv⟩
  have hmember : actionResult noap_ENABLE (noapEnable s.dev (.num v)) = noapEnable s.dev (.num v) :=
    actionResult_of_member (row := (rowOf noap_ENABLE).get rfl) rfl (by decide) _
  have hopen := withGate_open s.dev sess noap_ENABLE (fun d => noapEnable d (.num v)) hgate
  rw [hmember, noapEnable_ok s.dev hv] at hopen
  obtain ⟨hread, hclosed⟩ := closeIfAsked_spec (withGate s.dev sess noap_ENABLE (fun d => noapEnable d (.num v)))
  refine ⟨_, rfl, hread.trans ?_, fun hzero => hclosed ?_⟩
  · rw [hopen, nGet_emitResult]
    exact nGet_nSet_same _ _ _
  · rw [hopen]
    simp [emitResult, emit, hzero]

/-! ### HELLO (R47, R50 to R52) -/

/-- The device's part of a HELLO response (R50). -/
def helloResponse (role : Nat) (d : Dev) : List Byte :=
  helloHead (if role = 1 ∧ d.noap.sessions.any (·.controller) then .state else .ok) d.noap.nextId (freeBytes d.free 97) (freeBytes (d.free + 97) 32)

/-- The session in set-up that a HELLO adds. -/
def helloSession (peer : Peer) (role slot : Nat) (hostKey nonce : List Byte) (d : Dev) : Session :=
  { id := d.noap.nextId, controller := role == 1 && !d.noap.sessions.any (·.controller), isOpen := false, slot := slot,
    digest := (Config.sha384 (octets [role, slot] ++ hostKey ++ nonce ++ helloResponse role d)).toList,
    keys := sessionKeys nonce (freeBytes (d.free + 97) 32) (Config.ecdhShared hostKey d.free).toList d.noap.nextId,
    seqIn := 0, seqOut := 0, msgsIn := 0, msgsOut := 0, kept := [], waiting := [], peer := peer, openedAt := d.now, lastMsg := d.now,
    subs := [], queue := [], unacked := [] }

/-- A HELLO that finds room for its session adds it, and takes its number. -/
theorem doHello_noap {s : State} (h : WhenHello s) (peer : Peer) (role slot : Nat) (hostKey nonce : List Byte) :
    (doHello peer role slot hostKey nonce s.dev).noap =
      { s.dev.noap with sessions := s.dev.noap.sessions ++ [helloSession peer role slot hostKey nonce s.dev], nextId := s.dev.noap.nextId + 1 } := by
  obtain ⟨henabled, hruns, hnetwork, hopened, hsetup⟩ := h
  unfold doHello
  rw [if_neg (by simp [henabled, hruns, hnetwork])]
  dsimp only
  rw [if_neg (by omega)]
  obtain ⟨n, hn⟩ := sendNoap_changes
    { freeUsedN s.dev 129 with
        noap.sessions := s.dev.noap.sessions ++ [helloSession peer role slot hostKey nonce s.dev],
        noap.nextId := s.dev.noap.nextId + 1 } peer
    (noapMessage none 0x10 1 0 0 (helloResponse role s.dev ++
      (Config.ecdsaSign (helloSession peer role slot hostKey nonce s.dev).digest).toList))
  exact hn.noap

theorem helloDoes : HelloDoes := by
  intro s src role slot hostKey nonce h
  have hnoap := doHello_noap h (peerOf src) role slot hostKey nonce
  refine ⟨_, rfl, helloSession (peerOf src) role slot hostKey nonce s.dev, congrArg Noap.sessions hnoap, rfl, congrArg Noap.nextId hnoap, ?_,
    rfl, rfl, rfl, rfl, (Config.ecdhShared hostKey s.dev.free).toList, freeBytes s.dev.free 97, freeBytes (s.dev.free + 97) 32, rfl, ?_⟩
  · simp [helloSession, beq_eq_decide]
  · simp [helloSession, helloResponse, helloHead]

end Sys2Proof.Machine
end

section
/-!
KEY (R49, R51, R52, R135, R628): a session that opens, and the host that wakes with the controlling one; a clause of O35.
-/
namespace Sys2Proof.Machine

/-! ### What waking the host keeps (R625, R626, R628) -/

/-- A session without its queue of notifications. -/
def forgetQueue (x : Session) : Session := { x with queue := [] }

/-- The member HOST_STATE. -/
def IsHostState (q : Ref) : Prop := q = evCtl_HOST_STATE

/-- The deadline of the scene lease. -/
def IsLeaseKey (k : Nat) : Prop := k = timerKey tkSceneLease 0

/-- A device e with the sessions of d but for their queues, and with its HOST_STATE and its scene lease timer. -/
structure KeepsHost (d e : Dev) : Prop where
  sessions : e.noap.sessions.map forgetQueue = d.noap.sessions.map forgetQueue
  keeps : Keeps IsHostState IsLeaseKey d e

namespace KeepsHost

variable {d e f : Dev}

theorem refl (d : Dev) : KeepsHost d d := ⟨rfl, .refl d⟩

theorem trans (h : KeepsHost d e) (h' : KeepsHost e f) : KeepsHost d f :=
  ⟨h'.sessions.trans h.sessions, h.keeps.trans h'.keeps⟩

theorem of_keeps (hnoap : e.noap = d.noap) (h : Keeps IsHostState IsLeaseKey d e) : KeepsHost d e :=
  ⟨by rw [hnoap], h⟩

theorem setEvents (d : Dev) (v : Events) : KeepsHost d { d with events := v } := .of_keeps rfl ((Keeps.refl d).setEvents v)

theorem foldl {step : Dev → Nat → Dev} {l : List Nat} (hstep : ∀ d, ∀ a ∈ l, KeepsHost d (step d a)) (d : Dev) :
    KeepsHost d (l.foldl step d) := by
  induction l generalizing d with
  | nil => exact refl d
  | cons a l ih => exact (hstep d a List.mem_cons_self).trans (ih (fun d b hb => hstep d b (List.mem_cons_of_mem a hb)) (step d a))

end KeepsHost

/-- The members of event sources and of damper groups are none of the event controller's own. -/
theorem not_hostState_source {i : Nat} (hi : i < 0x800) (m : Nat) : ¬ IsHostState (mref 0x50 i m) := by
  intro h
  have hinst := congrArg refInst h
  rw [refInst_mref] at hinst
  change i % 65536 = 0x800 at hinst
  omega

theorem keepsHost_endSource (d : Dev) {n : Nat} (hn : n < 1024) : KeepsHost d (endSource d n) := by
  have hm := fun m => not_hostState_source (i := n) (by omega) m
  refine .of_keeps (membersOnly_endSource d n).noap ?_
  have hbegun : Keeps IsHostState IsLeaseKey d { d with events.claimant := mapErase d.events.claimant n } :=
    (Keeps.refl d).setEvents _
  refine Keeps.ite (fun _ => hbegun.nSet (hm _) _) fun _ => Keeps.ite (fun _ => ?_) fun _ => hbegun.nSet (hm _) _
  exact (hbegun.nSet (hm _) _).nSet (hm _) _

theorem keepsHost_claimSource (d : Dev) {n : Nat} (hn : n < 1024) (who : Nat) : KeepsHost d (claimSource d n who) := by
  have hgroup : groupOf n < 64 := by
    simp only [groupOf]
    omega
  have hm := fun m => not_hostState_source (i := n) (by omega) m
  have hg := fun m => not_hostState_source (i := 0x400 + groupOf n) (by omega) m
  have hkey : ¬ IsLeaseKey (timerKey tkDamper (groupOf n)) := by
    simp only [IsLeaseKey, timerKey, tkDamper, tkSceneLease]
    omega
  refine .of_keeps (membersOnly_claimSource d n who).noap ?_
  unfold claimSource
  have hhold : ∀ e : Dev, Keeps IsHostState IsLeaseKey e (startHold e (groupOf n)) := fun e =>
    Keeps.whenNot fun _ => ((Keeps.refl e).nSet (hg _) _).arm hkey _
  refine Keeps.trans (Keeps.setEvents ?_ _) (hhold _)
  refine Keeps.trans ?_ (Keeps.whenever fun _ => Keeps.nInc (Keeps.refl _) (hg _))
  exact (((Keeps.refl d).nSet (hm _) _).nSet (hm _) _).nInc (hm _)

/-- A notification changes queues, or counts one that is lost. -/
theorem keepsHost_queueNotif (d : Dev) (sess : Nat) (n : Notif) : KeepsHost d (queueNotif d sess n) := by
  unfold queueNotif
  split
  · exact .refl d
  · split
    · refine ⟨?_, (Keeps.refl d).same rfl rfl rfl⟩
      simp only [updSession, List.map_map]
      refine List.map_congr_left fun x _ => ?_
      dsimp only [Function.comp_apply]
      split <;> rfl
    · exact .of_keeps (nInc_noap _ _) ((Keeps.refl d).nInc (show ¬ noap_EVENTS_LOST = evCtl_HOST_STATE by decide))

theorem keepsHost_notifyController (d : Dev) (n : Notif) : KeepsHost d (notifyController d n) := by
  unfold notifyController
  split
  · exact keepsHost_queueNotif d _ n
  · exact .refl d

theorem keepsHost_hostClaim (d : Dev) {n : Nat} (hn : n < 1024) (held : Bool) : KeepsHost d (hostClaim d n held) := by
  have hclaim : ∀ (v : Events) (x : Notif), KeepsHost d (notifyController (claimSource { d with events := v } n 0) x) := fun v x =>
    (KeepsHost.setEvents d v).trans ((keepsHost_claimSource _ hn 0).trans (keepsHost_notifyController _ x))
  unfold hostClaim
  dsimp only
  split
  · exact (hclaim _ _).trans (keepsHost_endSource _ hn)
  · exact hclaim _ _

/-- Waking the host sets HOST_STATE, and claims. -/
theorem keepsHost_wakeHost {d : Dev} (h : nGet d evCtl_HOST_STATE ≠ 0) :
    KeepsHost { nSet d evCtl_HOST_STATE 0 with events.hostWake := false } (wakeHost d) := by
  unfold wakeHost
  rw [if_neg h]
  refine KeepsHost.foldl (fun e n hn => ?_) _
  split
  · exact keepsHost_hostClaim e (List.mem_range.mp hn) true
  · exact .refl e

/-- Waking the host sets HOST_STATE to 0 and keeps the sessions but for their queues, and the scene lease timer (R628). -/
theorem wakeHost_spec (d : Dev) :
    nGet (wakeHost d) evCtl_HOST_STATE = 0 ∧ (wakeHost d).noap.sessions.map forgetQueue = d.noap.sessions.map forgetQueue ∧
      armed (wakeHost d) tkSceneLease 0 = armed d tkSceneLease 0 := by
  by_cases h : nGet d evCtl_HOST_STATE = 0
  · have hsame : wakeHost d = d := if_pos h
    rw [hsame]
    exact ⟨h, rfl, rfl⟩
  · obtain ⟨hsessions, hkeeps⟩ := keepsHost_wakeHost h
    refine ⟨(hkeeps.nGet rfl).trans (nGet_nSet_same d _ _), hsessions.trans ?_, (hkeeps.armed rfl).trans ?_⟩
    · exact congrArg (fun n : Noap => n.sessions.map forgetQueue) (nSet_noap d _ _)
    · exact congrArg (fun m => (mapFind m (timerKey tkSceneLease 0)).isSome) (nSet_timers d _ _)

/-! ### KEY (R49, R51, R52) -/

/-- A session that is found below its limit of messages stays. -/
theorem limitCheck_of_found {d : Dev} {sess : Nat} {y : Session} (hy : sessionOf d sess = some y) (hin : y.msgsIn < 2 ^ 31)
    (hout : y.msgsOut < 2 ^ 31) : limitCheck d sess = d := by
  unfold sessionOf at hy
  simp only [limitCheck, hy]
  exact if_neg (by omega)

theorem limitCheck_closeSession (d : Dev) (sess : Nat) : limitCheck (closeSession d sess) sess = closeSession d sess := by
  have hgone : (closeSession d sess).noap.sessions.find? (fun y => decide (y.id = sess)) = none := by
    rw [closeSession_sessions]
    simp [List.find?_eq_none]
  simp only [limitCheck, hgone]

/-- A session that closes with its answer is gone, and the others stay. -/
theorem closeSession_answer_sessions (d : Dev) (sess seq typ : Nat) (body : List Byte) :
    (closeSession (answer d sess seq typ body) sess).noap.sessions = sessionsBut d sess := by
  rw [closeSession_sessions, sessionsBut, answer_noap, updSession, List.filter_map]
  have hsame : (fun y : Session => decide (y.id ≠ sess)) ∘ (fun y => if y.id = sess then answered seq typ body y else y) =
      fun y => decide (y.id ≠ sess) := by
    funext y
    dsimp only [Function.comp_apply]
    split <;> rfl
  rw [hsame]
  refine (List.map_congr_left fun y hy => ?_).trans (List.map_id _)
  exact if_neg (of_decide_eq_true (List.mem_filter.mp hy).2)

theorem sessionOpen_of_found {d : Dev} {sess : Nat} {y : Session} (hy : sessionOf d sess = some y) (hopen : y.isOpen = true) :
    sessionOpen d sess = true := by
  have hid := List.find?_some hy
  exact List.any_eq_true.mpr ⟨y, List.mem_of_find?_eq_some hy, by simpa [hopen] using hid⟩

/-- The session of a device whose sessions are those of another but for their queues. -/
theorem sessionOf_forgetQueue {d e : Dev} (h : e.noap.sessions.map forgetQueue = d.noap.sessions.map forgetQueue) (sess : Nat) :
    (sessionOf e sess).map forgetQueue = (sessionOf d sess).map forgetQueue := by
  have hfind : ∀ l : List Session, (l.map forgetQueue).find? (fun y => decide (y.id = sess)) =
      (l.find? (fun y => decide (y.id = sess))).map forgetQueue := fun l => List.find?_map ..
  rw [sessionOf, sessionOf, ← hfind, ← hfind, h]

/-- The session that KEY has opened, its response kept. -/
def openedBy (d : Dev) (seq : Nat) (x : Session) : Session := answered seq 0x11 (octets [0]) { x with isOpen := true, openedAt := d.now }

/-- The device once a KEY that verifies is answered. -/
def keyOpened (d : Dev) (sess seq : Nat) : Dev :=
  answer (countSessions (updSession d sess (fun y => { y with isOpen := true, openedAt := d.now }))) sess seq 0x11 (octets [0])

theorem sessionOf_congr {d e : Dev} (h : e.noap = d.noap) (sess : Nat) : sessionOf e sess = sessionOf d sess := by simp only [sessionOf, h]

theorem sessionOf_keyOpened {d : Dev} {sess : Nat} {x : Session} (hx : sessionOf d sess = some x) (seq : Nat) :
    sessionOf (keyOpened d sess seq) sess = some (openedBy d seq x) := by
  rw [keyOpened, sessionOf_congr (answer_noap _ _ _ _ _), sessionOf_updSession _ sess (f := answered seq 0x11 (octets [0])) fun _ => rfl,
    sessionOf_congr (membersOnly_countSessions _).noap,
    sessionOf_updSession _ sess (f := fun y => { y with isOpen := true, openedAt := d.now }) fun _ => rfl, hx]
  rfl

/-- A KEY that verifies opens its session; with the controlling one the host wakes and the scene lease timer stops (R135, R628). -/
theorem doKey_of_verified {d : Dev} {sess seq : Nat} {sig : List Byte} {x : Session} (hx : sessionOf d sess = some x)
    (hruns : nGet d dev_FK_STATE = 1) (hclosed : x.isOpen = false) (hnext : IsNext d sess seq)
    (hroom : (d.noap.sessions.filter (·.isOpen)).length < 4) (hverifies : keyVerifies d x sig = true) :
    doKey sess seq sig d =
      limitCheck (if x.controller then wakeHost (disarm (keyOpened d sess seq) tkSceneLease 0) else keyOpened d sess seq) sess := by
  unfold sessionOf at hx
  simp only [doKey, hx, hruns, takeTurn_of_isNext hnext, hclosed, hverifies, Nat.not_le.mpr hroom, ne_eq, not_true_eq_false, if_false,
    Option.isNone_some, Bool.false_eq_true, Bool.true_eq_false]
  rfl

/-- A KEY that does not verify closes its session (R49, R51). -/
theorem doKey_of_refused {d : Dev} {sess seq : Nat} {sig : List Byte} {x : Session} (hx : sessionOf d sess = some x)
    (hruns : nGet d dev_FK_STATE = 1) (hclosed : x.isOpen = false) (hnext : IsNext d sess seq) (hrefused : keyVerifies d x sig = false) :
    doKey sess seq sig d = closeSession (answer d sess seq 0x11 (octets [Status.auth.code])) sess := by
  unfold sessionOf at hx
  simp only [doKey, hx, hruns, takeTurn_of_isNext hnext, hclosed, hrefused, ne_eq, not_true_eq_false, if_false, if_true,
    Option.isNone_some, Bool.false_eq_true, limitCheck_closeSession]

theorem keyDoes : KeyDoes := by
  intro s sess seq sig x ⟨hx, hruns, hclosed, hin, hout, hnext, hroom⟩
  refine ⟨_, rfl, ?_⟩
  change if _ then sessionOpen (doKey sess seq sig s.dev) sess = true ∧ (_ → armed (doKey sess seq sig s.dev) tkSceneLease 0 = false ∧
    nGet (doKey sess seq sig s.dev) evCtl_HOST_STATE = 0) else (doKey sess seq sig s.dev).noap.sessions = _
  split
  case isFalse hrefused =>
    rw [doKey_of_refused hx hruns hclosed hnext (Bool.eq_false_iff.mpr hrefused)]
    exact closeSession_answer_sessions _ _ _ _ _
  case isTrue hverifies =>
    rw [doKey_of_verified hx hruns hclosed hnext hroom hverifies]
    have hopened := sessionOf_keyOpened hx seq
    cases hc : x.controller with
    | false =>
      rw [if_neg Bool.false_ne_true, limitCheck_of_found hopened hin hout]
      exact ⟨sessionOpen_of_found hopened rfl, fun h => absurd h Bool.false_ne_true⟩
    | true =>
      rw [if_pos rfl]
      obtain ⟨hstate, hsessions, htimer⟩ := wakeHost_spec (disarm (keyOpened s.dev sess seq) tkSceneLease 0)
      have hfound := sessionOf_forgetQueue hsessions sess
      rw [sessionOf_congr (d := keyOpened s.dev sess seq) (e := disarm _ tkSceneLease 0) rfl, hopened] at hfound
      obtain ⟨y, hy, hforget⟩ := Option.map_eq_some_iff.mp hfound
      have hyin := congrArg Session.msgsIn hforget
      have hyout := congrArg Session.msgsOut hforget
      have hyopen := congrArg Session.isOpen hforget
      rw [limitCheck_of_found hy (lt_of_eq_of_lt hyin hin) (lt_of_eq_of_lt hyout hout)]
      exact ⟨sessionOpen_of_found hy hyopen, fun _ => ⟨htimer.trans (armed_disarm_same _ _ _), hstate⟩⟩

end Sys2Proof.Machine
end

section
/-!
Subscriptions, notifications and EVENT (R53, R71 to R76, R626): clauses of O35.
-/
namespace Sys2Proof.Machine

variable {d : Dev} {x : Session} {sess seq : Nat} {r : Ref}

/-! ### EVENT (R61, R74 to R76) -/

theorem roomToSend_only (h : d.noap.sessions = [x]) (hroom : RoomToSend d) : x.msgsIn < 2 ^ 31 ∧ x.msgsOut + 1 < 2 ^ 31 :=
  hroom x (by rw [h]; exact List.mem_singleton_self x)

/-- A message of the only session, which a change f that keeps its number and its keys has counted: it leaves, and the session is as f
leaves it. -/
theorem sendMessage_only {s : State} {f : Session → Session} (hs : s.dev.noap.sessions = [x]) (hid : x.id = sess) (hcan : CanSend s.dev x.peer)
    (hfid : ∀ y, (f y).id = y.id) (hkeys : ∀ y, (f y).keys = y.keys) (hin : (f x).msgsIn < 2 ^ 31) (hout : (f x).msgsOut < 2 ^ 31)
    (flags q : Nat) (body : List Byte) {e : Dev} (he : e = limitCheck (sendMessage (updSession s.dev sess f) sess x.peer 5 flags q body) sess) :
    e.noap.sessions = [f x] ∧ SendsTo s (withDev s e) x.peer (noapMessage (some x.keys) 5 flags sess q body) := by
  have hsessions := updSession_only hs hid f
  have hkey : sessionKey (updSession s.dev sess f) sess = some x.keys := by
    rw [sessionKey, sessionOf_updSession _ _ hfid, sessionOf, find_only hs hid]
    exact congrArg some (hkeys x)
  obtain ⟨n, hsent⟩ := sendMessage_changes (updSession s.dev sess f) sess x.peer 5 flags q body
  have hsame := (congrArg Noap.sessions hsent.noap).trans hsessions
  rw [limitCheck_of_within (within_only hsame hin hout)] at he
  subst he
  refine ⟨hsame, sendsTo_of_sameMail (e := updSession s.dev sess f) (.of_same rfl rfl) hcan ?_⟩
  rw [sendMessage, hkey]
  rfl

/-- A session whose oldest notifications have gone out in an EVENT (R75, R76). -/
def sentEvent (k q deadline : Nat) (ns : List Notif) (x : Session) : Session :=
  { x with queue := x.queue.drop k, seqOut := q, msgsOut := x.msgsOut + 1,
           unacked := x.unacked ++ [{ seq := q, heard := false, repeats := 0, deadline := deadline, notifs := ns }] }

theorem eventSendDoes : EventSendDoes := by
  intro s sess x n ⟨hs, hid, ⟨hserves, hcan, hlimit⟩, hunacked, hqueue, hwaiting, hfits⟩
  have hone : min 255 (eventFit 1 [n]) = 1 := by
    rw [eventFit, if_neg (by omega)]
    rfl
  obtain ⟨hin, hout⟩ := roomToSend_only hs (roomToSend_of_all hlimit)
  have hsends : doEventSend sess s.dev = limitCheck (sendMessage (updSession s.dev sess (sentEvent 1 (x.seqOut + 1) (s.dev.now + ms 20) [n])) sess
      x.peer 5 0 (x.seqOut + 1) (octets [1] ++ ([n].map notifBytes).flatten)) sess := by
    have hready : ¬ (serves s.dev sess = false ∨ 16 ≤ x.unacked.length ∨ 1 = 0 ∨ x.waiting ≠ []) := by
      simp [hserves, hunacked, hwaiting]
    simp only [doEventSend, find_only hs hid, hqueue, hone, if_neg hready]
    rfl
  obtain ⟨hsession, hsent⟩ := sendMessage_only (f := sentEvent 1 (x.seqOut + 1) (s.dev.now + ms 20) [n]) hs hid hcan (fun _ => rfl)
    (fun _ => rfl) hin hout _ _ _ hsends
  refine ⟨_, rfl, hsession.trans ?_, ?_⟩
  · simp [sentEvent, hqueue, ms]
  · rw [List.map_singleton, List.flatten_singleton] at hsent
    exact hsent

/-- A session that has sent one of its EVENTs again (R75). -/
def repeatedEvent (seq deadline : Nat) (x : Session) : Session :=
  { x with msgsOut := x.msgsOut + 1,
           unacked := x.unacked.map (fun v => if v.seq = seq then { v with repeats := v.repeats + 1, deadline := deadline } else v) }

theorem eventRepeatExpiryDoes : EventRepeatExpiryDoes := by
  intro s sess seq x q ⟨hs, hid, ⟨hserves, hcan, hlimit⟩, hunacked, hseq, hheard, hdue, hrepeats⟩
  obtain ⟨hin, hout⟩ := roomToSend_only hs (roomToSend_of_all hlimit)
  have hfind : x.unacked.find? (fun u => decide (u.seq = seq)) = some q := by simp [hunacked, hseq]
  have hsends : doEventRepeatExpiry sess seq s.dev = limitCheck (sendMessage (updSession s.dev sess (repeatedEvent seq (s.dev.now + ms 20))) sess
      x.peer 5 0 seq (octets [q.notifs.length] ++ (q.notifs.map notifBytes).flatten)) sess := by
    have hready : ¬ (serves s.dev sess = false ∨ q.heard = true ∨ s.dev.now < q.deadline) := by
      simp [hserves, hheard, hdue]
    simp only [doEventRepeatExpiry, find_only hs hid, hfind, if_neg hready, if_neg (Nat.not_le.mpr hrepeats)]
    rfl
  obtain ⟨hsession, hsent⟩ := sendMessage_only (f := repeatedEvent seq (s.dev.now + ms 20)) hs hid hcan (fun _ => rfl)
    (fun _ => rfl) hin hout _ _ _ hsends
  refine ⟨_, rfl, hsession.trans ?_, hsent⟩
  simp [repeatedEvent, hunacked, hseq, ms]

/-- A session without one of its unacknowledged EVENTs. -/
def forgetEvent (seq : Nat) (x : Session) : Session := { x with unacked := x.unacked.filter (fun v => decide (v.seq ≠ seq)) }

theorem forgetEvent_of_only {q : Unacked} (hunacked : x.unacked = [q]) (hseq : q.seq = seq) : forgetEvent seq x = { x with unacked := [] } := by
  simp [forgetEvent, hunacked, hseq]

/-- Notifications of no source end no claim. -/
theorem endNotified_of_no_source (d : Dev) {l : List Notif} (h : l.all (fun n => n.source.isNone) = true) : endNotified d l = d := by
  induction l generalizing d with
  | nil => rfl
  | cons n l ih =>
    obtain ⟨hn, hl⟩ := Bool.and_eq_true_iff.mp (List.all_cons ▸ h)
    rw [endNotified, List.foldl_cons, Option.isNone_iff_eq_none.mp hn]
    exact ih d hl

theorem eventRepeatExpiryLostDoes : EventRepeatExpiryLostDoes := by
  intro s sess seq x q ⟨hs, hid, hserves, hunacked, hseq, hheard, hdue, hrepeats⟩
  have hfind : x.unacked.find? (fun u => decide (u.seq = seq)) = some q := by simp [hunacked, hseq]
  have hlost : doEventRepeatExpiry sess seq s.dev =
      endNotified (nAdd (updSession s.dev sess (forgetEvent seq)) noap_EVENTS_LOST q.notifs.length) q.notifs := by
    have hready : ¬ (serves s.dev sess = false ∨ q.heard = true ∨ s.dev.now < q.deadline) := by
      simp [hserves, hheard, hdue]
    simp only [doEventRepeatExpiry, find_only hs hid, hfind, if_neg hready, if_pos hrepeats]
    rfl
  refine ⟨_, rfl, ?_, fun hnone => ?_⟩
  · change (doEventRepeatExpiry sess seq s.dev).noap.sessions = _
    have hcounted : MembersOnly (updSession s.dev sess (forgetEvent seq)) (nAdd _ noap_EVENTS_LOST q.notifs.length) := .nSet _ _ _
    rw [hlost, (hcounted.trans (membersOnly_endNotified _ _)).noap, updSession_only hs hid, forgetEvent_of_only hunacked hseq]
  · change nGet (doEventRepeatExpiry sess seq s.dev) noap_EVENTS_LOST = _
    rw [hlost, endNotified_of_no_source _ hnone]
    exact nGet_nSet_same _ _ _

theorem eventAckDoes : EventAckDoes := by
  intro s sess seq x q ⟨hs, hid, hserves, hunacked, hseq, hin, hout⟩
  have hfind : x.unacked.find? (fun u => decide (u.seq = seq)) = some q := by simp [hunacked, hseq]
  have hends : ∀ {e : Dev} {y : Session}, e.noap.sessions = [y] → y.id = sess → y.unacked = [q] → y.msgsIn < 2 ^ 31 → y.msgsOut < 2 ^ 31 →
      (limitCheck (endNotified (updSession e sess (forgetEvent seq)) q.notifs) sess).noap.sessions = [{ y with unacked := [] }] := by
    intro e y he hyid hyunacked hyin hyout
    have hsame := (congrArg Noap.sessions (membersOnly_endNotified _ q.notifs).noap).trans (updSession_only he hyid (forgetEvent seq))
    rw [limitCheck_of_within (within_only hsame hyin hyout), hsame, forgetEvent_of_only hyunacked hseq]
  refine ⟨_, rfl, ?_⟩
  change (doEventAck sess seq s.dev).noap.sessions = _
  simp only [doEventAck, find_only hs hid, hfind, hserves, Bool.true_eq_false, if_false]
  cases q.heard with
  | true => exact hends hs hid hunacked (by omega) hout
  | false => exact hends (updSession_only hs hid _) hid hunacked hin hout

/-! ### Notifications that fall due (R71, R73, R74) -/

/-- A notification finds room in a session's queue. -/
theorem queueNotif_of_room (hx : d.noap.sessions.find? (fun y => decide (y.id = sess)) = some x) (hroom : x.queue.length < 256) (n : Notif) :
    queueNotif d sess n = updSession d sess (fun y => { y with queue := queuePut y.queue n }) := by
  simp only [queueNotif, hx, hroom, true_or, if_true]

theorem memberNotif_onChange {time : Nat} {b : Bool} {n : Notif} (h : memberNotif d r time b = some n) : n.onChange = b := by
  unfold memberNotif at h
  dsimp only at h
  split at h
  · exact Option.some.inj h ▸ rfl
  · cases h

theorem periodicSubscriptionExpiryDoes : PeriodicSubscriptionExpiryDoes := by
  intro s sess r x q n ⟨hs, hid, hserves, hsubs, hr, hperiodic, hdue, hroom, hn⟩
  have hfind : x.subs.find? (fun t => decide (t.ref = r) && t.periodic) = some q := by simp [hsubs, hr, hperiodic]
  have hready : ¬ (serves s.dev sess = false ∨ s.dev.now < q.deadline) := by simp [hserves, hdue]
  have hlast : queuePut x.queue n = x.queue ++ [n] := by
    simp [queuePut, notifMerges, memberNotif_onChange hn]
  refine ⟨_, rfl, ?_⟩
  change (doPeriodicSubscriptionExpiry sess r s.dev).noap.sessions = _
  simp only [doPeriodicSubscriptionExpiry, find_only hs hid, hfind, if_neg hready, hn]
  have hmoved := updSession_only hs hid (fun y =>
    { y with subs := y.subs.map (fun t => if t.ref = r then { t with deadline := t.deadline + ms t.period } else t) })
  rw [queueNotif_of_room (find_only hmoved hid) hroom, updSession_only hmoved hid, hlast]
  simp [hsubs, hr, ms, Nat.mul_comm]

/-- Nothing to note where no on-change subscription is of a member that is worked out at a read. -/
theorem noteSeen_of_none (h : workedOutSubs d = []) : noteSeen d = d := by
  simp only [noteSeen, h, List.isEmpty_nil, if_true]

/-- A device at the end of a millisecond, its changes taken (R73). -/
def windowEnded (d : Dev) : Dev := { d with noap.window := d.now, dirty := [] }

/-- The end of a millisecond with one changed member of the only session, once the members that are worked out are noted (R73). -/
theorem doOnChangeWindowExpiry_only {e : Dev} {tm : Nat} {n : Notif} (hwindow : d.noap.window + 1000000 ≤ d.now) (hruns : nGet d dev_FK_STATE = 1)
    (hnote : noteSeen d = e) (hs : e.noap.sessions = [x]) (hchanged : changedSubs e = [(x.id, r, tm)]) (hn : memberNotif e r tm true = some n)
    (hqueue : x.queue = []) :
    (doOnChangeWindowExpiry d).noap.window = e.now ∧ (doOnChangeWindowExpiry d).dirty = [] ∧
      (doOnChangeWindowExpiry d).noap.sessions = [{ x with queue := [n] }] := by
  have hready : ¬ (d.now < d.noap.window + ms 1 ∨ nGet d dev_FK_STATE ≠ 1) := by
    simp only [ms, hruns]
    omega
  have hread : memberNotif (windowEnded e) r tm true = some n := hn
  have hends : doOnChangeWindowExpiry d = queueNotif (windowEnded e) x.id n := by
    unfold doOnChangeWindowExpiry
    rw [if_neg hready, hnote]
    change (changedSubs e).foldl _ (windowEnded e) = _
    rw [hchanged]
    simp only [List.foldl_cons, List.foldl_nil, hread]
  have hsame : (windowEnded e).noap.sessions = [x] := hs
  rw [hends, queueNotif_of_room (find_only hsame rfl) (by simp [hqueue])]
  refine ⟨rfl, rfl, ?_⟩
  rw [updSession_only hsame rfl, hqueue]
  rfl

theorem onChangeWindowExpiryDoes : OnChangeWindowExpiryDoes := by
  intro s x r tm n ⟨hwindow, hruns, hs, hchanged, hn, hqueue, hplain⟩
  have hnone : workedOutSubs s.dev = [] := by
    simp only [List.all_eq_true, Bool.not_eq_true'] at hplain
    simpa [workedOutSubs, hs] using fun q hq _ => hplain q hq
  exact ⟨_, rfl, doOnChangeWindowExpiry_only hwindow hruns (noteSeen_of_none hnone) hs hchanged hn hqueue⟩

theorem onChangeWindowExpiryReadDoes : OnChangeWindowExpiryReadDoes := by
  intro s x q n ⟨hwindow, hruns, hs, hsubs, hperiodic, hworked, hdiffers, hn, hqueue⟩
  have hnote : noteSeen s.dev = { s.dev with
      dirty := mapPut s.dev.dirty q.ref (tbNs s.dev),
      noap.sessions := [{ x with subs := [{ q with seen := (readMember s.dev 0 false q.ref).2.2 }] }] } := by
    have hone : workedOutSubs s.dev = [q] := by simp [workedOutSubs, hs, hsubs, hperiodic, hworked]
    simp [noteSeen, hone, hs, hsubs, hperiodic, hworked, hdiffers]
  have hends := doOnChangeWindowExpiry_only (x := { x with subs := [{ q with seen := (readMember s.dev 0 false q.ref).2.2 }] }) (r := q.ref)
    (tm := tbNs s.dev) (n := n) hwindow hruns hnote rfl (by simp [changedSubs, hperiodic]) hn hqueue
  exact ⟨_, rfl, hends.2.2⟩

end Sys2Proof.Machine
end

section
/-!
SUBSCRIBE (R71, R72), and O35 from its clauses.
-/
namespace Sys2Proof.Machine

variable {d e : Dev} {sess seq : Nat} {i : SubItem}

/-- A session without its subscription of a member. -/
def dropSubOf (r : Ref) (x : Session) : Session := { x with subs := x.subs.filter (fun t => decide (t.ref ≠ r)) }

/-- A session with a subscription in the place of the one of its member. -/
def resubscribed (q : Sub) (x : Session) : Session := { x with subs := (dropSubOf q.ref x).subs ++ [q] }

/-- The subscription that an item asks for (R71). -/
def subOf (d : Dev) (sess : Nat) (i : SubItem) : Sub :=
  { ref := i.ref, periodic := i.mode == 1, period := i.period, deadline := d.now + ms i.period, seen := (readMember d sess false i.ref).2.2 }

/-- A device whose session has the subscription that an item asks for, and whose changes are m. -/
def subscribed (d : Dev) (sess : Nat) (i : SubItem) (m : SMap Nat) : Dev := updSession { d with dirty := m } sess (resubscribed (subOf d sess i))

theorem dropSubOf_length (r : Ref) (x : Session) : (dropSubOf r x).subs.length ≤ x.subs.length := List.length_filter_le _ _

/-- Counting subscriptions is monotone in each session. -/
theorem foldl_subs_mono {f : Session → Session} (hf : ∀ x, (f x).subs.length ≤ x.subs.length) (l : List Session) {a b : Nat} (hab : a ≤ b) :
    (l.map f).foldl (fun a x => a + x.subs.length) a ≤ l.foldl (fun a x => a + x.subs.length) b := by
  induction l generalizing a b with
  | nil => exact hab
  | cons x l ih => exact ih (Nat.add_le_add hab (hf x))

theorem subCount_dropSub (d : Dev) (sess : Nat) (r : Ref) : subCount (dropSub d sess r) ≤ subCount d := by
  refine foldl_subs_mono (f := fun x => if x.id = sess then dropSubOf r x else x) (fun x => ?_) _ le_rfl
  split
  · exact dropSubOf_length r x
  · exact le_rfl

theorem updSession_updSession (d : Dev) (sess : Nat) {f g : Session → Session} (hid : ∀ x, (f x).id = x.id) :
    updSession (updSession d sess f) sess g = updSession d sess (fun x => g (f x)) := by
  have hmap : (d.noap.sessions.map (fun x => if x.id = sess then f x else x)).map (fun x => if x.id = sess then g x else x) =
      d.noap.sessions.map (fun x => if x.id = sess then g (f x) else x) := by
    rw [List.map_map]
    refine List.map_congr_left fun x _ => ?_
    by_cases hx : x.id = sess <;> simp [hx, hid]
  simp only [updSession, hmap]

/-- An item that names a readable member, where there is room, replaces the session's subscription of it (R71, R72). -/
theorem subscribeItem_of_room (hmode : i.mode = 0 ∨ (i.mode = 1 ∧ 10 ≤ i.period ∧ i.period ≤ 65535))
    (hread : (readMember d sess false i.ref).1 = .ok) (hcount : subCount d < 512)
    (hall : d.noap.sessions.all (fun x => decide (x.subs.length < 256)) = true) :
    ∃ m : SMap Nat, subscribeItem sess i d = (subscribed d sess i m, .ok) := by
  have hmine : ((((dropSub d sess i.ref).noap.sessions.find? (fun x => decide (x.id = sess))).map (fun x => x.subs.length)).getD 0) < 256 := by
    have hfound := sessionOf_updSession d sess (f := dropSubOf i.ref) fun _ => rfl
    change (((sessionOf (updSession d sess (dropSubOf i.ref)) sess).map (fun x => x.subs.length)).getD 0) < 256
    rw [hfound]
    cases hx : sessionOf d sess with
    | none => simp
    | some x =>
      have hlen := of_decide_eq_true (List.all_eq_true.mp hall x (List.mem_of_find?_eq_some hx))
      exact (dropSubOf_length _ _).trans_lt hlen
  have hfree : ¬ (256 ≤ ((((dropSub d sess i.ref).noap.sessions.find? (fun x => decide (x.id = sess))).map (fun x => x.subs.length)).getD 0) ∨
      512 ≤ subCount (dropSub d sess i.ref)) := by
    have := subCount_dropSub d sess i.ref
    omega
  unfold subscribeItem
  rw [if_neg (by omega), if_neg (by omega)]
  dsimp only
  rw [if_neg (not_not_intro hread), if_neg hfree]
  have hboth : ∀ m : SMap Nat, updSession (updSession { d with dirty := m } sess (dropSubOf i.ref)) sess
      (fun x => { x with subs := x.subs ++ [subOf d sess i] }) = subscribed d sess i m :=
    fun m => updSession_updSession _ sess fun _ => rfl
  split
  · exact ⟨_, congrArg (·, Status.ok) (hboth _)⟩
  · exact ⟨d.dirty, congrArg (·, Status.ok) (hboth _)⟩

/-- A test that a change of a session's brings about. -/
theorem all_updSession (d : Dev) (sess : Nat) {f : Session → Session} {p : Session → Bool} (hp : ∀ x, p (f x) = true) :
    (updSession d sess f).noap.sessions.all (fun x => decide (x.id ≠ sess) || p x) = true := by
  rw [List.all_eq_true]
  intro y hy
  obtain ⟨x, -, rfl⟩ := List.mem_map.mp hy
  split
  case isTrue => rw [hp, Bool.or_true]
  case isFalse hne => rw [decide_eq_true hne, Bool.true_or]

theorem subscribeDoes : SubscribeDoes := by
  intro s sess seq r mode period ⟨hreach, hnext, hmode, hread, hcount, hall⟩
  obtain ⟨m, hitem⟩ := subscribeItem_of_room (i := { ref := r, mode := mode, period := period }) hmode hread hcount hall
  have hroom : RoomToSend { s.dev with dirty := m } := roomToSend_of_all hreach.2.2
  have hanswer : doSubscribe sess seq [{ ref := r, mode := mode, period := period }] s.dev =
      answer (subscribed s.dev sess { ref := r, mode := mode, period := period } m) sess seq 4 (octets [0]) := by
    rw [doSubscribe, atTurn_of_isNext hreach.1 hnext]
    simp only [subscribeItems, hitem]
    exact limitCheck_answer (hroom.updSession_same sess (f := resubscribed _) (fun _ => rfl) fun _ => rfl) sess seq 4 _
  refine ⟨_, rfl, ?_, ?_⟩
  · refine responds_of_answer (d := subscribed s.dev sess { ref := r, mode := mode, period := period } m) hreach (.of_same rfl rfl) ?_
      (congrArg (fun e : Dev => e.net.queues) hanswer)
    exact SameSender.updSession { s.dev with dirty := m } sess (f := resubscribed _) (fun _ => rfl) fun _ => rfl
  · change (doSubscribe sess seq _ s.dev).noap.sessions.all _ = true
    rw [hanswer, answer_noap, subscribed, updSession_updSession _ sess (f := resubscribed _) fun _ => rfl]
    refine all_updSession { s.dev with dirty := m } sess (p := fun x => x.subs.contains _) fun x => ?_
    simp [answered, resubscribed, subOf, ms, Nat.mul_comm]

/-- Settles O35, clause by clause: what a datagram, a session's opening and end, a subscription and an EVENT leave of the sessions. -/
theorem noapSessions : Obligations.NoapSessions :=
  ⟨noapDatagramReceivedDoes, noapDatagramReceivedResponseDoes, noapDatagramReceivedFragmentDoes, helloDoes, keyDoes, closeDoes,
    sessionIdleTimeoutDoes, sessionLifetimeExpiryDoes, noapEnableWriteDoes, subscribeDoes, eventSendDoes, eventRepeatExpiryDoes,
    eventRepeatExpiryLostDoes, eventAckDoes, periodicSubscriptionExpiryDoes, onChangeWindowExpiryDoes, onChangeWindowExpiryReadDoes⟩

end Sys2Proof.Machine
end

section
/-!
READ and WRITE (R33 to R37, R62 to R65): clauses of O36.
-/
namespace Sys2Proof.Machine

variable {d : Dev} {sess seq : Nat}

/-- A session is reached where what serving it and its mail rest on is the same. -/
theorem reachable_of_same {e : Dev} {p : Peer} (hmail : SameMail d e) (hnoap : e.noap = d.noap) (hruns : nGet e dev_FK_STATE = nGet d dev_FK_STATE)
    (h : Reachable d sess p) : Reachable e sess p := by
  obtain ⟨hserves, hcan, hlimit⟩ := h
  refine ⟨?_, hmail.canSend hcan, by rwa [hnoap]⟩
  rw [← hserves, serves, serves, sessionOpen, sessionOpen, hnoap, hruns]

/-- The answer of a session that can be reached changes no member. -/
theorem answer_objs (hreach : Reachable d sess (requestPeer d sess seq)) (typ : Nat) (body : List Byte) :
    (answer d sess seq typ body).objs = d.objs := by
  obtain ⟨hserves, hcan, -⟩ := hreach
  have hmail : SameMail d (updSession d sess (answered seq typ body)) := .of_same rfl rfl
  rw [answer_of_isSome (sessionOf_isSome_of_serves hserves), sendMessage, sendNoap_of_canSend (hmail.canSend hcan)]
  rfl

/-- READ of a count of items that a request may have, in its turn. -/
theorem doRead_of_next {staged : Bool} {refs : List Ref} (hreach : Reachable d sess (requestPeer d sess seq)) (hnext : IsNext d sess seq)
    (hstaged : bitOf (nextFlags d sess) 1 = staged) (hone : 1 ≤ refs.length) (hmax : refs.length ≤ 32) :
    doRead sess seq staged refs d = answer d sess seq 1 (octets [refs.length] ++ readItems d sess staged 1 false refs) := by
  have hcount : ¬ countOk refs.length = false := by simp [countOk, hone, hmax]
  rw [doRead, atTurn_of_isNext hreach.1 hnext, if_neg hcount, hstaged]
  exact limitCheck_answer (roomToSend_of_all hreach.2.2) _ _ _ _

theorem readDoes : ReadDoes := by
  intro s sess seq staged refs ⟨hreach, hnext, hstaged, hone, hmax⟩
  have hanswer := doRead_of_next hreach hnext hstaged hone hmax
  refine ⟨_, rfl, responds_of_answer hreach (.refl _) (.of_sessions rfl _) (congrArg (fun e : Dev => e.net.queues) hanswer), ?_⟩
  exact (congrArg Dev.objs hanswer).trans (answer_objs hreach _ _)

theorem readOneDoes : ReadOneDoes := by
  intro s sess seq staged r st ty val ⟨hreach, hnext, hstaged, hread, hfits⟩
  have hanswer := doRead_of_next (refs := [r]) hreach hnext hstaged (by simp) (by simp)
  have hfull : (false || decide (1400 < 1 + 4 + val.length + 4 * ([] : List Ref).length)) = false := by
    simp only [List.length_nil, Bool.false_or, decide_eq_false_iff_not]
    omega
  have hitems : readItems s.dev sess staged 1 false [r] = octets [st.code, ty] ++ beBytes 2 val.length ++ val := by
    simp only [readItems, hread, hfull, Bool.false_eq_true, if_false, List.append_nil]
  rw [hitems] at hanswer
  exact ⟨_, rfl, responds_of_answer hreach (.refl _) (.of_sessions rfl _) (congrArg (fun e : Dev => e.net.queues) hanswer)⟩

/-- A request that changes memory, in its turn. -/
theorem atTurnMem_of_isNext {s : State} (hserves : serves s.dev sess = true) (hnext : IsNext s.dev sess seq) (typ n : Nat) (run : State → State) :
    atTurnMem s sess seq typ n run = withDev (run s) (limitCheck (run s).dev sess) := by
  simp only [atTurnMem, hserves, Bool.true_eq_false, if_false, takeTurn_of_isNext hnext, Option.isSome_some, if_true]
  rfl

/-- WRITE of a count of items that a request may have, in its turn, where no item closes the sessions. -/
theorem doWrite_of_next {s : State} {items : List WriteItem} {x : State × List Byte} (hserves : serves s.dev sess = true)
    (hnext : IsNext s.dev sess seq) (hone : 1 ≤ items.length) (hmax : items.length ≤ 32) (hx : writeItems sess 1 items s = x)
    (hroom : RoomToSend x.1.dev) (hstays : x.1.dev.noap.closing = false) :
    doWrite sess seq items s = withDev x.1 (answer x.1.dev sess seq 2 (octets [items.length] ++ x.2)) := by
  have hcount : ¬ countOk items.length = false := by simp [countOk, hone, hmax]
  have hasked : closeIfAsked (answer x.1.dev sess seq 2 (octets [items.length] ++ x.2)) =
      answer x.1.dev sess seq 2 (octets [items.length] ++ x.2) := by
    have hclosing := congrArg Noap.closing (answer_noap x.1.dev sess seq 2 (octets [items.length] ++ x.2))
    exact if_neg (by rw [hclosing]; exact Bool.not_eq_true _ ▸ hstays)
  rw [doWrite, atTurnMem_of_isNext hserves hnext]
  dsimp only
  rw [if_neg hcount, hx, hasked]
  exact congrArg (withDev x.1) (limitCheck_answer hroom _ _ _ _)

theorem writeDoes : WriteDoes := by
  intro s sess seq items x ⟨hserves, hnext, hone, hmax, hx, hreach, hstays⟩
  have hanswer := doWrite_of_next hserves hnext hone hmax hx (roomToSend_of_all hreach.2.2) hstays
  obtain ⟨n, hchanges⟩ := answer_changes x.1.dev sess seq 2 (octets [items.length] ++ x.2)
  refine ⟨_, rfl, ?_⟩
  rw [hanswer]
  exact ⟨responds_of_answer hreach (.refl _) (.of_sessions rfl _) rfl, rfl, hchanges.scene⟩

/-- A WRITE of one item whose result fits. -/
theorem writeItems_single {s e : State} {i : WriteItem} {st : Status} {val : List Byte} (hi : memberWrite s sess .message i = (e, st, val))
    (hfits : val.length ≤ 1395) : writeItems sess 1 [i] s = (e, octets [st.code, 0] ++ beBytes 2 val.length ++ val) := by
  have hroom : ¬ 1400 < 1 + 4 + val.length + 4 * ([] : List WriteItem).length := by
    rw [List.length_nil]
    omega
  simp only [writeItems, hi, if_neg hroom, List.append_nil]

/-- The octets of a number, most significant first, read after others. -/
theorem foldl_beBytes (k n a : Nat) : (beBytes k n).foldl (fun a x => a * 256 + x.toNat) a = a * 256 ^ k + n % 256 ^ k := by
  induction k generalizing a with
  | zero => simp [beBytes, Nat.mod_one]
  | succ k ih =>
    have hoctet : n >>> (8 * k) = n / 256 ^ k := by
      rw [Nat.shiftRight_eq_div_pow, Nat.pow_mul]
    have hsplit : n % (256 ^ k * 256) = n % 256 ^ k + 256 ^ k * (n / 256 ^ k % 256) := Nat.mod_mul
    rw [beBytes, List.foldl_cons, ih, BitVec.toNat_ofNat, hoctet, Nat.pow_succ 256 k, hsplit]
    ring

theorem ofBe_beBytes (k n : Nat) : ofBe (beBytes k n) = n % 256 ^ k := by
  rw [ofBe, foldl_beBytes, Nat.zero_mul, Nat.zero_add]

theorem beBytes_length (k n : Nat) : (beBytes k n).length = k := by
  induction k with
  | zero => rfl
  | succ k ih => rw [beBytes, List.length_cons, ih]

/-- A message's write of IDLE_TIMEOUT in its range takes effect (R53, R81). -/
theorem memberWrite_idleTimeout {s : State} {v : Nat} (hgate : writeGate s.dev sess noap_IDLE_TIMEOUT = none) (hlo : 1000 ≤ v)
    (hhi : v ≤ 60000) :
    memberWrite s sess .message { ref := noap_IDLE_TIMEOUT, typ := 4, val := beBytes 4 v } =
      (withDev s (nSet s.dev noap_IDLE_TIMEOUT v), .ok, []) := by
  obtain ⟨row, hrow, hacc, hname, htyp, hrng⟩ : ∃ row, rowOf noap_IDLE_TIMEOUT = some row ∧ row.acc = .rw ∧ row.name ≠ "IMAGE" ∧ row.typ = .u32 ∧
      row.rng = .nat 1000 60000 := ⟨_, rfl, rfl, by decide, rfl, rfl⟩
  have hwritten : writtenType row = .u32 := by simp [writtenType, hacc, htyp]
  have hsame : { row with typ := .u32 } = row := by rw [← htyp]
  have hval : decodeVal .u32 1024 (beBytes 4 v) = some (.num v) := by
    have hnum : ofBe (beBytes 4 v) = v := by
      rw [ofBe_beBytes]
      omega
    simp [decodeVal, beBytes_length, Ty.len, hnum]
  have hrange : inRange row (.num v) = true := by
    simp [inRange, htyp, hrng, rngNat, Ty.len, hlo, hhi]
    omega
  have hlive : writeLive s sess noap_IDLE_TIMEOUT (.num v) = (withDev s (nSet s.dev noap_IDLE_TIMEOUT v), .ok, []) :=
    congrArg (onDev s) (plainWrite_ok hrow hacc hrange)
  have hresult : ∀ e : Dev, actionResult noap_IDLE_TIMEOUT (e, .ok, []) = (e, .ok, []) := fun e =>
    actionResult_of_member hrow (by simp [hacc]) _
  have hopen : hearthGate s.dev noap_IDLE_TIMEOUT = none := rfl
  unfold memberWrite
  dsimp only
  rw [hgate, hrow]
  dsimp only
  rw [if_neg (by simp [hacc]), if_neg (fun h => hname h.1), hopen, hwritten]
  dsimp only
  rw [if_neg (by decide), if_pos rfl, hval]
  dsimp only
  rw [if_neg (by simp [hacc]), hsame, if_neg (by simp [hrange]), if_neg (by simp [hacc]), hlive, hresult]
  rfl

theorem writeMemberDoes : WriteMemberDoes := by
  intro s sess seq v ⟨hreach, hnext, hgate, hstays, hlo, hhi⟩
  have hitems : writeItems sess 1 [{ ref := noap_IDLE_TIMEOUT, typ := 4, val := beBytes 4 v }] s =
      (withDev s (nSet s.dev noap_IDLE_TIMEOUT v), [0, 0, 0, 0]) :=
    writeItems_single (memberWrite_idleTimeout hgate hlo hhi) (by simp)
  have hnoap : (nSet s.dev noap_IDLE_TIMEOUT v).noap = s.dev.noap := nSet_noap _ _ _
  have hsessions := congrArg Noap.sessions hnoap
  have hroom : RoomToSend (nSet s.dev noap_IDLE_TIMEOUT v) := fun x hx => roomToSend_of_all hreach.2.2 x (hsessions ▸ hx)
  have hanswer := doWrite_of_next hreach.1 hnext le_rfl (by simp) hitems hroom ((congrArg Noap.closing hnoap).trans hstays)
  have hmail : SameMail s.dev (nSet s.dev noap_IDLE_TIMEOUT v) := .mSet _ (by simp [MailMember, noap_IDLE_TIMEOUT]) _
  have hruns : nGet (nSet s.dev noap_IDLE_TIMEOUT v) dev_FK_STATE = nGet s.dev dev_FK_STATE := nGet_nSet_other _ _ (by decide)
  have hreach' := (SameSender.of_sessions hsessions sess).requestPeer seq ▸ reachable_of_same hmail hnoap hruns hreach
  refine ⟨_, rfl, ?_⟩
  rw [hanswer]
  refine ⟨(nGet_congr (answer_objs hreach' _ _) _).trans (nGet_nSet_same _ _ _), ?_⟩
  exact responds_of_answer hreach hmail (.of_sessions hsessions _) rfl

end Sys2Proof.Machine
end

section
/-!
NOAP-lite (R60, R82 to R86, R579, R587): clauses of O36. A frame that a controller receives changes its own counts only, so what NOAP-lite
looks at is as it was.
-/
namespace Sys2Proof.Machine

theorem mapPut_filter_of_key {α : Type} (m : SMap α) {i : Nat} (a : α) {p : Nat → Bool} (hi : p i = false) :
    (mapPut m i a).filter (fun e => p e.1) = m.filter (fun e => p e.1) := by
  induction m with
  | nil => simp [mapPut, hi]
  | cons e m ih =>
    obtain ⟨k, v⟩ := e
    unfold mapPut
    split
    · exact List.filter_cons_of_neg (p := fun e : Nat × α => p e.1) (by simp [hi])
    · split
      case isTrue hik =>
        have hk : ¬ p k = true := by simp [← hik, hi]
        rw [List.filter_cons_of_neg (p := fun e : Nat × α => p e.1) hk, List.filter_cons_of_neg (p := fun e : Nat × α => p e.1) hk]
      case isFalse => rw [List.filter_cons, List.filter_cons, ih]

theorem mapErase_filter_of_key {α : Type} (m : SMap α) {i : Nat} {p : Nat → Bool} (hi : p i = false) :
    (mapErase m i).filter (fun e => p e.1) = m.filter (fun e => p e.1) := by
  induction m with
  | nil => rfl
  | cons e m ih =>
    obtain ⟨k, v⟩ := e
    unfold mapErase
    split
    case isTrue hik =>
      have hk : ¬ p k = true := by simp [← hik, hi]
      rw [ih, List.filter_cons_of_neg (p := fun e : Nat × α => p e.1) hk]
    case isFalse => rw [List.filter_cons, List.filter_cons, ih]

/-- The signal-map members that do not read as their defaults. -/
def sigObjs (d : Dev) : SMap Val := d.objs.filter (fun e => decide (refClass e.1 = 0x21))

theorem sigObjs_mSet (d : Dev) {r : Ref} (hr : refClass r ≠ 0x21) (v : Val) : sigObjs (mSet d r v) = sigObjs d := by
  have hkey : decide (refClass r = 0x21) = false := decide_eq_false hr
  unfold sigObjs mSet mapSet
  split
  · rfl
  · dsimp only
    split
    · exact mapErase_filter_of_key d.objs (p := fun k => decide (refClass k = 0x21)) hkey
    · exact mapPut_filter_of_key d.objs v (p := fun k => decide (refClass k = 0x21)) hkey

/-! ### What a controller's frame keeps (R579, R587) -/

/-- The members that a frame received or sent by controller c leaves. -/
def CanKept (c : Nat) (q : Ref) : Prop := refClass q ≠ 0x48 ∨ refInst q ≠ 4 + c ∨ refMember q ∉ [6, 7, 8, 9, 10, 11]

/-- A device e that differs from d in the counts and the state of controller c, in the network's state and in free values. -/
structure CanOnly (c : Nat) (d e : Dev) : Prop where
  member : ∀ q, CanKept c q → mGet e q = mGet d q
  signals : sigObjs e = sigObjs d
  parts : ∃ n : Net, MembersOnly { d with net := n } e

namespace CanOnly

variable {c : Nat} {d e f : Dev}

theorem refl (d : Dev) : CanOnly c d d := ⟨fun _ _ => rfl, rfl, d.net, .refl d⟩

theorem trans (h : CanOnly c d e) (h' : CanOnly c e f) : CanOnly c d f := by
  obtain ⟨n, hn⟩ := h.parts
  obtain ⟨n', hn'⟩ := h'.parts
  refine ⟨fun q hq => (h'.member q hq).trans (h.member q hq), h'.signals.trans h.signals, n', ?_⟩
  have hnet := congrArg (fun x : Dev => { x with net := n' }) hn
  exact MembersOnly.trans hnet hn'

theorem nSet (d : Dev) {r : Ref} (hclass : refClass r = 0x48) (hr : ¬ CanKept c r) (v : Nat) : CanOnly c d (nSet d r v) where
  member _ hq := mGet_mSet_other d _ (fun hqr => hr (hqr ▸ hq))
  signals := sigObjs_mSet d (by rw [hclass]; decide) _
  parts := ⟨d.net, .nSet d r v⟩

theorem setNet (d : Dev) (n : Net) (k : Nat) : CanOnly c d { d with net := n, free := k } := ⟨fun q _ => mGet_congr rfl q, rfl, n, rfl⟩

theorem nGet (h : CanOnly c d e) {q : Ref} (hq : CanKept c q) : nGet e q = nGet d q := by simp only [Machine.nGet, h.member q hq]

end CanOnly

theorem not_canKept {c m : Nat} (hc : c < 4) (hm : m ∈ [6, 7, 8, 9, 10, 11]) : ¬ CanKept c (mref 0x48 (4 + c) m) := by
  have hinst : refInst (mref 0x48 (4 + c) m) = 4 + c := by
    rw [refInst_mref]
    omega
  have hmember : refMember (mref 0x48 (4 + c) m) = m := by
    have hsmall : ∀ k ∈ [6, 7, 8, 9, 10, 11], k % 256 = k := by decide
    rw [refMember_mref, hsmall m hm]
  simp only [CanKept, hinst, hmember, refClass_mref, not_or, not_not]
  exact ⟨by decide, trivial, hm⟩

theorem canOnly_canGrade {c : Nat} (hc : c < 4) (d : Dev) : CanOnly c d (canGrade d c) := by
  unfold canGrade
  split
  · exact .nSet d (refClass_mref _ _ _) (not_canKept hc (by decide)) _
  · exact .refl d

theorem canOnly_canHeard {c : Nat} (hc : c < 4) (d : Dev) : CanOnly c d (canHeard d c) := by
  have hset : ∀ (e : Dev) (v : Nat), CanOnly c e (canGrade (nSet e (can_REC c) v) c) := fun e v =>
    (CanOnly.nSet e (refClass_mref _ _ _) (not_canKept hc (by decide)) v).trans (canOnly_canGrade hc _)
  unfold canHeard
  split
  · exact .refl d
  · split
    · exact (CanOnly.setNet d _ _).trans (hset _ _)
    · exact hset d _

theorem canOnly_canReceived {c : Nat} (hc : c < 4) (d : Dev) : CanOnly c d (canReceived d c) :=
  (CanOnly.nSet d (refClass_mref _ _ _) (not_canKept hc (by decide)) _).trans (canOnly_canHeard hc _)

theorem canOnly_canSent {c : Nat} (hc : c < 4) (d : Dev) : CanOnly c d (canSent d c) :=
  ((CanOnly.nSet d (refClass_mref _ _ _) (not_canKept hc (by decide)) _).trans
    (.nSet _ (refClass_mref _ _ _) (not_canKept hc (by decide)) _)).trans (canOnly_canGrade hc _)


/-! ### A frame for NOAP-lite (R60, R82 to R86) -/

theorem canKept_class {c : Nat} {q : Ref} (h : refClass q ≠ 0x48) : CanKept c q := .inl h

theorem canKept_lite {c : Nat} (hc : c < 4) (m : Nat) : CanKept c (mref 0x48 0x11 m) := by
  refine .inr (.inl ?_)
  rw [refInst_mref]
  omega

theorem canKept_mode {c : Nat} (c' : Nat) : CanKept c (can_MODE c') := by
  refine .inr (.inr ?_)
  rw [can_MODE, refMember_mref]
  decide

/-- The entries that a frame selects, from the members of the signal map. -/
theorem canEntries_of_sigObjs {d e : Dev} {c : Nat} (h : CanOnly c d e) (port : Nat) (ext : Bool) (id : Nat) :
    canEntries e port ext id = canEntries d port ext id := by
  have hsig : ∀ n m, nGet e (mref 0x21 n m) = nGet d (mref 0x21 n m) := fun n m => h.nGet (canKept_class (by rw [refClass_mref]; decide))
  have hof : entriesOf e 1 port = entriesOf d 1 port := by
    have hsplit : ∀ f : Dev, f.objs.filter (fun x => decide (refClass x.1 = 0x21) && decide (refMember x.1 = 1) && decide (x.2 = Val.num 1)) =
        (sigObjs f).filter (fun x => decide (refMember x.1 = 1) && decide (x.2 = Val.num 1)) := by
      intro f
      rw [sigObjs, List.filter_filter]
      exact List.filter_congr fun x _ => by rw [Bool.and_assoc, Bool.and_comm]
    rw [entriesOf, entriesOf, hsplit, hsplit, h.signals]
    exact List.filter_congr fun n _ => by rw [show nGet e (sig_UNIT n) = nGet d (sig_UNIT n) from hsig n 2]
  rw [canEntries, canEntries, hof]
  exact List.filter_congr fun n _ => by rw [show nGet e (sig_IDENT n) = nGet d (sig_IDENT n) from hsig n 3]

/-- A device whose controller has received and acknowledged a frame. -/
def liteHeard (d : Dev) (port : Nat) : Dev := canReceived (emit d (.canAck port)) port

section
variable {s : State} {port : Nat} {ext : Bool} {id : Nat}

theorem canOnly_liteHeard (hport : port < 4) (d : Dev) : CanOnly port (emit d (.canAck port)) (liteHeard d port) := canOnly_canReceived hport _

theorem liteHeard_lite (hport : port < 4) (d : Dev) (m : Nat) : nGet (liteHeard d port) (mref 0x48 0x11 m) = nGet d (mref 0x48 0x11 m) :=
  (canOnly_liteHeard hport d).nGet (canKept_lite hport m)

theorem liteHeard_noap (hport : port < 4) (d : Dev) : (liteHeard d port).noap = d.noap := by
  obtain ⟨n, hn⟩ := (canOnly_liteHeard hport d).parts
  exact hn.noap

theorem liteHeard_trust (hport : port < 4) (d : Dev) : (liteHeard d port).trust = d.trust := by
  obtain ⟨n, hn⟩ := (canOnly_liteHeard hport d).parts
  exact hn.trust

theorem liteHeard_out (hport : port < 4) (d : Dev) : (liteHeard d port).out = d.out ++ [.canAck port] := by
  obtain ⟨n, hn⟩ := (canOnly_liteHeard hport d).parts
  exact hn.out

theorem liteHeard_now (hport : port < 4) (d : Dev) : (liteHeard d port).now = d.now := by
  obtain ⟨n, hn⟩ := (canOnly_liteHeard hport d).parts
  exact hn.now

/-- A frame of 64 octets is executed, or waits for the NOAP requests of its cycle. -/
theorem liteFrame_of_runs {t : State} {f : LiteFrame} (hruns : nGet t.dev dev_FK_STATE = 1) (hlength : f.octets.length = 64) :
    liteFrame t true f =
      if noapFirst t.dev then withDev t { t.dev with noap.liteWaiting := t.dev.noap.liteWaiting ++ [f] } else runLite t f := by
  have hwhole : ¬ ((true : Bool) = false ∨ f.octets.length ≠ 64) := by simp [hlength]
  rw [liteFrame, if_neg (not_not_intro hruns), if_neg hwhole]

/-- A frame of 64 octets with the request identifier reaches NOAP-lite, and no entry of the signal map. -/
theorem canFrame_lite (hport : port < 4) (hon : canOn s.dev port = true) (hentries : canEntries s.dev port ext id = [])
    (haddressed : liteAddressed s.dev port ext id = true) (hruns : nGet s.dev dev_FK_STATE = 1) {frame : List Byte} (hlength : frame.length = 64)
    (brs : Bool) :
    canFrame port ⟨ext, brs, true, false⟩ id frame s =
      if noapFirst s.dev then
        withDev s { liteHeard s.dev port with noap.liteWaiting := s.dev.noap.liteWaiting ++ [{ brs := brs, id := id, octets := frame }] }
      else runLite (withDev s (liteHeard s.dev port)) { brs := brs, id := id, octets := frame } := by
  have hheard := canOnly_liteHeard hport s.dev
  have hmode : nGet s.dev (can_MODE port) = 1 := by
    simp only [liteAddressed, Bool.and_eq_true, beq_iff_eq] at haddressed
    exact haddressed.1.1.2
  have hsignals : canSignals port ext id frame (liteHeard s.dev port) = liteHeard s.dev port := by
    have hnone : canEntries (liteHeard s.dev port) port ext id = [] := (canEntries_of_sigObjs hheard port ext id).trans hentries
    rw [canSignals, hnone]
    rfl
  have haddressed' : liteAddressed (liteHeard s.dev port) port ext id = true := by
    have hlite := liteHeard_lite hport s.dev
    rw [← haddressed, liteAddressed, liteAddressed, show nGet (liteHeard s.dev port) lite_LITE_CONTROLLER = _ from hlite 1,
      show nGet (liteHeard s.dev port) lite_LITE_REQ_ID = _ from hlite 2, show nGet (liteHeard s.dev port) lite_LITE_EXT_ID = _ from hlite 4,
      show nGet (liteHeard s.dev port) (can_MODE port) = nGet s.dev (can_MODE port) from hheard.nGet (canKept_mode port)]
    rfl
  have hruns' : nGet (liteHeard s.dev port) dev_FK_STATE = 1 := (hheard.nGet (canKept_class (by decide))).trans hruns
  have hfirst : noapFirst (liteHeard s.dev port) = noapFirst s.dev := by
    rw [noapFirst, noapFirst, liteHeard_noap hport, liteHeard_now hport]
  have hemits : (if nGet s.dev (can_MODE port) = 2 then s.dev else emit s.dev (.canAck port)) = emit s.dev (.canAck port) :=
    if_neg (by rw [hmode]; decide)
  have hlite : canFrame port ⟨ext, brs, true, false⟩ id frame s =
      liteFrame (withDev s (liteHeard s.dev port)) true { brs := brs, id := id, octets := frame } := by
    unfold canFrame
    rw [if_neg (by simp [hon]), hemits]
    dsimp only
    rw [if_neg Bool.false_ne_true, show canReceived (emit s.dev (.canAck port)) port = liteHeard s.dev port from rfl, hsignals,
      if_pos haddressed']
  rw [hlite, liteFrame_of_runs hruns' hlength, show (withDev s (liteHeard s.dev port)).dev = liteHeard s.dev port from rfl, hfirst,
    liteHeard_noap hport]
  rfl

/-- What NOAP-lite tests of a frame rests on its key and its last FRESHNESS. -/
theorem liteGenuine_liteHeard (hport : port < 4) (d : Dev) (b : List Byte) : liteGenuine (liteHeard d port) id b = liteGenuine d id b := by
  simp only [liteGenuine, liteTag, liteHeard_trust hport, liteHeard_noap hport]

/-- A request accepted changes its FRESHNESS and the count of those accepted. -/
theorem liteAccept_parts (d : Dev) (fresh : Nat) : ∃ stored accepted : Nat,
    liteAccept d fresh = { d with noap.liteLast := fresh, noap.liteStored := stored, noap.liteAccepted := accepted } := by
  unfold liteAccept
  dsimp only
  split
  · exact ⟨_, _, rfl⟩
  · exact ⟨_, _, rfl⟩

theorem runLite_of_forged {t : State} {f : LiteFrame} (h : liteGenuine t.dev f.id f.octets = false) :
    runLite t f = withDev t (nInc t.dev lite_LITE_TAG_FAIL) := if_pos h

/-- The device that has accepted a frame. -/
def liteAccepted (d : Dev) (f : LiteFrame) : Dev := liteAccept d (ofBe (sliceOf f.octets 2 4))

/-- What the READ of a frame answers. -/
def liteReadOf (d : Dev) (f : LiteFrame) : Status × Nat × List Byte := liteRead (liteAccepted d f) (ofBe (sliceOf f.octets 6 4))

/-- What the WRITE of a frame does and answers. -/
def liteWriteOf (t : State) (f : LiteFrame) : State × Status × List Byte :=
  liteWriteMember (withDev t (liteAccepted t.dev f)) (ofBe (sliceOf f.octets 6 4)) (ofBe (sliceOf f.octets 10 1))
    (sliceOf (f.octets.take 56) 12 (ofBe (sliceOf f.octets 11 1)))

theorem runLite_of_read {t : State} {f : LiteFrame} (h : liteGenuine t.dev f.id f.octets = true) (htyp : ofBe (f.octets.take 1) = 1)
    (hfree : t.dev.noap.litePending = 0) :
    runLite t f = withDev t (liteRespond (liteAccepted t.dev f) f.brs 1 (liteReadOf t.dev f).1 (ofBe (sliceOf f.octets 6 4))
      (liteReadOf t.dev f).2.1 (liteReadOf t.dev f).2.2) := by
  unfold runLite
  dsimp only
  rw [if_neg (by simp [h]), if_neg (by simp [htyp]), if_neg (not_not_intro hfree), if_pos htyp]
  rfl

theorem runLite_of_write {t : State} {f : LiteFrame} (h : liteGenuine t.dev f.id f.octets = true) (htyp : ofBe (f.octets.take 1) = 2)
    (hfree : t.dev.noap.litePending = 0) :
    ∃ vtype : Nat, runLite t f = withDev (liteWriteOf t f).1 (liteRespond (liteWriteOf t f).1.dev f.brs 2 (liteWriteOf t f).2.1
      (ofBe (sliceOf f.octets 6 4)) vtype (liteWriteOf t f).2.2) := by
  unfold runLite
  dsimp only
  rw [if_neg (by simp [h]), if_neg (by simp [htyp]), if_neg (not_not_intro hfree), if_neg (by simp [htyp])]
  exact ⟨_, rfl⟩

/-- The first 56 octets of a response (R82, R84). -/
theorem liteBody_length (typ status counter vtype : Nat) (r : Ref) (val : List Byte) : (liteBody typ status counter r vtype val).length = 56 := by
  have hval : (val.take 44).length ≤ 44 := List.length_take_le _ _
  simp only [liteBody, List.length_append, beBytes_length, octets, zeros, List.length_map, List.length_cons, List.length_nil, List.length_replicate]
  omega

theorem liteBody_take (typ status counter vtype : Nat) (r : Ref) (val : List Byte) :
    (liteBody typ status counter r vtype val).take 10 = octets [typ, status] ++ beBytes 4 counter ++ beBytes 4 r := by
  have hhead : (octets [typ, status] ++ beBytes 4 counter ++ beBytes 4 r).length = 10 := by simp [octets, beBytes_length]
  simp only [liteBody, List.append_assoc]
  rw [← List.append_assoc, ← List.append_assoc]
  exact List.take_left' hhead

/-- The device that has accepted a frame which its controller has received. -/
theorem liteAccepted_liteHeard (hport : port < 4) (d : Dev) (f : LiteFrame) :
    let e := liteAccepted (liteHeard d port) f
    e.noap.liteLast = ofBe (sliceOf f.octets 2 4) ∧ e.noap.litePending = d.noap.litePending ∧ e.noap.liteCounter = d.noap.liteCounter ∧
      e.out = d.out ++ [.canAck port] ∧ e.trust = d.trust ∧ ∀ m, nGet e (mref 0x48 0x11 m) = nGet d (mref 0x48 0x11 m) := by
  obtain ⟨stored, accepted, h⟩ := liteAccept_parts (liteHeard d port) (ofBe (sliceOf f.octets 2 4))
  dsimp only
  rw [liteAccepted, h]
  exact ⟨rfl, (congrArg Noap.litePending (liteHeard_noap hport d) :), (congrArg Noap.liteCounter (liteHeard_noap hport d) :), liteHeard_out hport d,
    liteHeard_trust hport d, fun m => liteHeard_lite hport d m⟩

/-- What a frame that is addressed to NOAP-lite says of the controller and the identifier (R81, R581). -/
theorem lite_of_addressed (h : liteAddressed s.dev port ext id = true) :
    nGet s.dev lite_LITE_CONTROLLER = port ∧ (nGet s.dev lite_LITE_EXT_ID == 1) = ext := by
  simp only [liteAddressed, Bool.and_eq_true, decide_eq_true_eq] at h
  obtain ⟨⟨⟨hcontroller, -⟩, -⟩, hext⟩ := h
  exact ⟨hcontroller, eq_of_beq hext⟩

/-- A forged frame is counted, and only acknowledged. -/
theorem canFrame_forged (hport : port < 4) {f : LiteFrame} (hf : liteGenuine s.dev f.id f.octets = false) :
    nGet (runLite (withDev s (liteHeard s.dev port)) f).dev lite_LITE_TAG_FAIL = satAdd 32 (nGet s.dev lite_LITE_TAG_FAIL) 1 ∧
      (runLite (withDev s (liteHeard s.dev port)) f).dev.out = s.dev.out ++ [.canAck port] := by
  have hforged : liteGenuine (withDev s (liteHeard s.dev port)).dev f.id f.octets = false := by
    rw [withDev_dev, liteGenuine_liteHeard hport, hf]
  rw [runLite_of_forged hforged, withDev_dev, withDev_dev]
  refine ⟨(nGet_nSet_same _ _ _).trans ?_, (nInc_out _ _).trans (liteHeard_out hport _)⟩
  exact congrArg (fun n => satAdd 32 n 1) (liteHeard_lite hport s.dev 6)

end

/-- The answer of NOAP-lite: its counter, one response more under way, and the frame with its TAG (R82, R84, R86). -/
theorem liteRespond_spec (d : Dev) (brs : Bool) (typ : Nat) (st : Status) (r : Ref) (vtype : Nat) (val : List Byte) :
    (liteRespond d brs typ st r vtype val).noap =
      { d.noap with liteCounter := wrapAdd 32 d.noap.liteCounter 1, litePending := d.noap.litePending + 1 } ∧
    (liteRespond d brs typ st r vtype val).objs = d.objs ∧
    (liteRespond d brs typ st r vtype val).out = d.out ++ [.can (nGet d lite_LITE_CONTROLLER) (nGet d lite_LITE_EXT_ID == 1) brs
      (nGet d lite_LITE_RSP_ID) (liteBody (0x80 + typ) st.code (wrapAdd 32 d.noap.liteCounter 1) r vtype val ++
        liteTag d (nGet d lite_LITE_RSP_ID) (liteBody (0x80 + typ) st.code (wrapAdd 32 d.noap.liteCounter 1) r vtype val))] :=
  ⟨rfl, rfl, rfl⟩

theorem noapLiteReadDoes : NoapLiteReadDoes := by
  intro s port ext brs id frame d ⟨hon, hentries, hd, haddressed, hruns, hlength, htyp, hfree, hfirst⟩
  have hport := port.isLt
  have hexec := canFrame_lite hport hon hentries haddressed hruns hlength brs
  rw [hfirst, if_neg Bool.false_ne_true] at hexec
  refine ⟨_, congrArg Host.Outcome.next hexec, ?_⟩
  split
  case isFalse hforged => exact canFrame_forged (f := { brs := brs, id := id, octets := frame }) hport (Bool.eq_false_iff.mpr hforged)
  case isTrue hgenuine =>
    have hnoap := liteHeard_noap hport s.dev
    have hlite := liteHeard_lite hport s.dev
    have htrue : liteGenuine (withDev s (liteHeard s.dev port)).dev id frame = true := by
      rw [withDev_dev, liteGenuine_liteHeard hport, hgenuine]
    have hfree' : (withDev s (liteHeard s.dev port)).dev.noap.litePending = 0 := by rw [withDev_dev, hnoap, hfree]
    rw [runLite_of_read (f := { brs := brs, id := id, octets := frame }) htrue htyp hfree', withDev_dev, withDev_dev]
    obtain ⟨hlast, hpending, hcounter, hout, htrust, hmembers⟩ :=
      liteAccepted_liteHeard hport s.dev { brs := brs, id := id, octets := frame }
    obtain ⟨hcontroller, hext⟩ := lite_of_addressed haddressed
    subst hd
    obtain ⟨hnew, -, hsent⟩ := liteRespond_spec (liteAccepted (liteHeard s.dev port) { brs := brs, id := id, octets := frame }) brs 1
      (liteReadOf (liteHeard s.dev port) { brs := brs, id := id, octets := frame }).1 (ofBe (sliceOf frame 6 4))
      (liteReadOf (liteHeard s.dev port) { brs := brs, id := id, octets := frame }).2.1
      (liteReadOf (liteHeard s.dev port) { brs := brs, id := id, octets := frame }).2.2
    rw [hcounter, hout, show nGet (liteAccepted (liteHeard s.dev port) _) lite_LITE_CONTROLLER = port from (hmembers 1).trans hcontroller,
      show nGet (liteAccepted (liteHeard s.dev port) _) lite_LITE_RSP_ID = nGet s.dev lite_LITE_RSP_ID from hmembers 3,
      show nGet (liteAccepted (liteHeard s.dev port) _) lite_LITE_EXT_ID = nGet s.dev lite_LITE_EXT_ID from hmembers 4, hext,
      List.append_assoc] at hsent
    refine ⟨(congrArg Noap.liteLast hnew).trans hlast, (congrArg Noap.litePending hnew).trans ?_,
      (congrArg Noap.liteCounter hnew).trans (congrArg (fun n => wrapAdd 32 n 1) hcounter), _, _, hsent, liteBody_length _ _ _ _ _ _, ?_,
      liteBody_take _ _ _ _ _ _, ?_⟩
    · exact congrArg (· + 1) (hpending.trans hfree)
    · simp [liteTag]
    · rw [liteTag, htrust]
      rfl

theorem noapLiteReadWaitsDoes : NoapLiteReadWaitsDoes := by
  intro s port ext brs id frame ⟨hon, hentries, haddressed, hruns, hlength, hfirst⟩
  have hexec := canFrame_lite port.isLt hon hentries haddressed hruns hlength brs
  rw [hfirst, if_pos rfl] at hexec
  exact ⟨_, congrArg Host.Outcome.next hexec, rfl, (congrArg Noap.sessions (liteHeard_noap port.isLt s.dev) :)⟩

theorem noapLiteWriteDoes : NoapLiteWriteDoes := by
  intro s port ext brs id frame e x ⟨hon, hentries, haddressed, hruns, hlength, htyp, hfree, hfirst, he, hx⟩
  have hport := port.isLt
  have hexec := canFrame_lite hport hon hentries haddressed hruns hlength brs
  rw [hfirst, if_neg Bool.false_ne_true] at hexec
  refine ⟨_, congrArg Host.Outcome.next hexec, ?_⟩
  split
  case isFalse hforged => exact canFrame_forged (f := { brs := brs, id := id, octets := frame }) hport (Bool.eq_false_iff.mpr hforged)
  case isTrue hgenuine =>
    have htrue : liteGenuine (withDev s (liteHeard s.dev port)).dev id frame = true := by
      rw [withDev_dev, liteGenuine_liteHeard hport, hgenuine]
    have hfree' : (withDev s (liteHeard s.dev port)).dev.noap.litePending = 0 := by rw [withDev_dev, liteHeard_noap hport, hfree]
    have hwrite : liteWriteOf (withDev s (liteHeard s.dev port)) { brs := brs, id := id, octets := frame } = x := by
      rw [← hx, he]
      rfl
    obtain ⟨vtype, hrun⟩ := runLite_of_write (f := { brs := brs, id := id, octets := frame }) htrue htyp hfree'
    rw [hwrite] at hrun
    rw [hrun]
    obtain ⟨hnew, hobjs, hsent⟩ := liteRespond_spec x.1.dev brs 2 x.2.1 (ofBe (sliceOf frame 6 4)) vtype x.2.2
    exact ⟨rfl, hobjs, congrArg Noap.liteCounter hnew, _, _, hsent, rfl⟩

theorem txFrames_ne {c m : Nat} (hm : m < 11) : can_TX_FRAMES c ≠ mref 0x48 (4 + c) m := by
  intro h
  have hmember := congrArg refMember h
  rw [can_TX_FRAMES, refMember_mref, refMember_mref] at hmember
  omega

/-- A frame sent is counted (R579, R587). -/
theorem nGet_canSent (d : Dev) (c : Nat) : nGet (canSent d c) (can_TX_FRAMES c) = satAdd 32 (nGet d (can_TX_FRAMES c)) 1 := by
  have hgrade : ∀ e : Dev, nGet (canGrade e c) (can_TX_FRAMES c) = nGet e (can_TX_FRAMES c) := by
    intro e
    unfold canGrade
    split
    · exact nGet_nSet_other e _ (txFrames_ne (by decide))
    · rfl
  have htec : can_TX_FRAMES c ≠ can_TEC c := txFrames_ne (by decide)
  rw [canSent, hgrade, nGet_nSet_other _ _ htec]
  exact nGet_nSet_same _ _ _

/-- A device with one response of NOAP-lite fewer under way. -/
def liteSent (d : Dev) : Dev := { d with noap.litePending := d.noap.litePending - 1 }

/-- A response that leaves, with the delay that is measured where it is compensated (R86, R587). -/
theorem doNoapLiteResponseSent_of_on {d : Dev} {c : Nat} (hpending : 0 < d.noap.litePending) (hcontroller : nGet d lite_LITE_CONTROLLER = c)
    (hc : c < 4) (hon : canOn d c = true) :
    doNoapLiteResponseSent d = canSent (liteSent d) c ∨
      ∃ k v, doNoapLiteResponseSent d = nSet { canSent (liteSent d) c with free := k } (can_TDC_MEASURED c) v := by
  have hready : ¬ (d.noap.litePending = 0 ∨ (c < 4 ∧ canOn d c = false)) := by
    rw [hon]
    simp
    omega
  unfold doNoapLiteResponseSent
  dsimp only
  rw [hcontroller, if_neg hready, if_neg (Nat.not_le.mpr hc)]
  split
  · exact .inr ⟨_, _, rfl⟩
  · exact .inl rfl

theorem noapLiteResponseSentDoes : NoapLiteResponseSentDoes := by
  intro s c ⟨hpending, hcontroller, hc, hon⟩
  obtain ⟨n, hn⟩ := (canOnly_canSent hc (liteSent s.dev)).parts
  have hcount : nGet (canSent (liteSent s.dev) c) (can_TX_FRAMES c) = satAdd 32 (nGet s.dev (can_TX_FRAMES c)) 1 := nGet_canSent _ c
  have hdelay : can_TX_FRAMES c ≠ can_TDC_MEASURED c := txFrames_ne (by decide)
  refine ⟨_, rfl, ?_⟩
  dsimp only
  rw [withDev_dev]
  rcases doNoapLiteResponseSent_of_on hpending hcontroller hc hon with h | ⟨k, v, h⟩
  · rw [h]
    exact ⟨congrArg Noap.litePending hn.noap, hcount⟩
  · rw [h, nSet_noap, nGet_nSet_other _ _ hdelay]
    exact ⟨congrArg Noap.litePending hn.noap, hcount⟩

end Sys2Proof.Machine
end

section
/-!
BULK to a surface (R77, R471, R472, R765), and O36 from its clauses. A write over the fabric accounts for itself in counts, in an event
and in what DRAM knows of its blocks; where it goes, and how its answer leaves, do not rest on them.
-/
namespace Sys2Proof.Machine

variable {d e f : Dev}

/-- The members that the accounts of a write leave: the map of the segments and the states of the channels among those of memory. -/
def PlainMember (q : Ref) : Prop := QuietMember q ∧ (refClass q = 0x68 → refMember q ∈ [1, 5])

/-- A device e that differs from d in the accounts of writes: counts, events, and what DRAM knows beside its banks. -/
structure Accounted (d e : Dev) : Prop where
  member : ∀ q, PlainMember q → mGet e q = mGet d q
  parts : ∃ r : Dram, r.banks = d.dram.banks ∧ MembersOnly { d with dram := r } e

namespace Accounted

theorem refl (d : Dev) : Accounted d d := ⟨fun _ _ => rfl, d.dram, rfl, .refl d⟩

theorem trans (h : Accounted d e) (h' : Accounted e f) : Accounted d f := by
  obtain ⟨r, hr, hd⟩ := h.parts
  obtain ⟨r', hr', he⟩ := h'.parts
  have hbanks : e.dram.banks = r.banks := congrArg Dram.banks hd.dram
  have hdram := congrArg (fun x : Dev => { x with dram := r' }) hd
  exact ⟨fun q hq => (h'.member q hq).trans (h.member q hq), r', hr'.trans (hbanks.trans hr), MembersOnly.trans hdram he⟩

/-- An operation that keeps the quiet members and changes members only. -/
theorem of_keepsQuiet (h : KeepsQuiet d e) (hparts : MembersOnly d e) : Accounted d e :=
  ⟨fun q hq => h.member q hq.1, d.dram, rfl, hparts⟩

theorem setDram (d : Dev) (r : Dram) (hr : r.banks = d.dram.banks) : Accounted d { d with dram := r } := ⟨fun q _ => mGet_congr rfl q, r, hr, rfl⟩

theorem nInc (d : Dev) {r : Ref} (hr : ¬ PlainMember r) : Accounted d (nInc d r) :=
  ⟨fun _ hq => mGet_mSet_other d _ (fun hqr => hr (hqr ▸ hq)), d.dram, rfl, .nInc d r⟩

theorem foldl {α : Type} {step : Dev → α → Dev} (hstep : ∀ d a, Accounted d (step d a)) (l : List α) (d : Dev) :
    Accounted d (l.foldl step d) := by
  induction l generalizing d with
  | nil => exact refl d
  | cons a l ih => exact (hstep d a).trans (ih _)

theorem noap (h : Accounted d e) : e.noap = d.noap := by
  obtain ⟨r, -, hparts⟩ := h.parts
  exact hparts.noap

theorem net (h : Accounted d e) : e.net = d.net := by
  obtain ⟨r, -, hparts⟩ := h.parts
  exact hparts.net

theorem banks (h : Accounted d e) : e.dram.banks = d.dram.banks := by
  obtain ⟨r, hr, hparts⟩ := h.parts
  exact (congrArg Dram.banks hparts.dram).trans hr

theorem nGet (h : Accounted d e) {q : Ref} (hq : PlainMember q) : nGet e q = nGet d q := by simp only [Machine.nGet, h.member q hq]
theorem bGet (h : Accounted d e) {q : Ref} (hq : PlainMember q) : bGet e q = bGet d q := by simp only [Machine.bGet, h.member q hq]

end Accounted

theorem plainMember_of_class {c : Nat} (i m : Nat) (hquiet : c % 256 ∉ [0x20, 0x21, 0x50, 0x70]) (hmem : c % 256 = 0x68 → m % 256 ∈ [1, 5]) :
    PlainMember (mref c i m) := by
  unfold PlainMember QuietMember
  rw [refClass_mref, refMember_mref]
  exact ⟨hquiet, hmem⟩

/-! ### Where a write goes (R460, R462, R486, R489) -/

theorem Accounted.segCode (h : Accounted d e) (n : Nat) : segCode e n = segCode d n := by
  unfold Machine.segCode
  rw [show Machine.bGet e mem_SEGMENT_MAP = Machine.bGet d mem_SEGMENT_MAP from h.bGet (plainMember_of_class _ _ (by decide) (by decide))]

theorem Accounted.channelOfAddr (h : Accounted d e) (a : Nat) : channelOfAddr e a = channelOfAddr d a := by
  unfold Machine.channelOfAddr addrGroup
  rw [h.segCode]

theorem Accounted.chanRetired (h : Accounted d e) (c : Nat) : chanRetired e c = chanRetired d c := by
  unfold Machine.chanRetired
  rw [show Machine.nGet e (chan_STATE c) = Machine.nGet d (chan_STATE c) from h.nGet (plainMember_of_class _ _ (by decide) (by decide))]

theorem Accounted.takesWrite (h : Accounted d e) (a : Nat) : takesWrite e a = takesWrite d a := by
  have hplace : placeOf e a = placeOf d a := by
    unfold placeOf
    rw [h.segCode]
  unfold Machine.takesWrite bankOn
  rw [hplace, h.channelOfAddr, h.banks]
  simp only [h.chanRetired]

theorem Accounted.sameMail (h : Accounted d e) : SameMail d e := by
  refine ⟨fun r hr => h.member r ⟨?_, fun hclass => ?_⟩, congrArg Net.queues h.net⟩
  · rw [QuietMember, hr.1]
    decide
  · rw [hr.1] at hclass
    exact absurd hclass (by decide)

/-! ### The accounts of a write (R470 to R472, R728) -/

theorem accounted_countSlot (d : Dev) (c cls : Nat) : Accounted d (countSlot d c cls) :=
  .of_keepsQuiet (keepsQuiet_countSignal _ _ _) (membersOnly_countSignal _ _ _)

theorem accounted_countWrite (d : Dev) (a n cls : Nat) : Accounted d (countWrite d a n cls) := by
  refine .foldl (fun d b => ?_) _ d
  split
  · split
    · exact .refl d
    · split
      · exact ((Accounted.of_keepsQuiet (keepsQuiet_countSignal d _ 1) (membersOnly_countSignal _ _ _)).trans
          (accounted_countSlot _ _ _)).trans (accounted_countSlot _ _ _)
      · exact accounted_countSlot d _ _
  · exact .refl d

theorem channelOfAddr_lt {a c : Nat} (h : channelOfAddr d a = some c) : c < 8 := by
  have hgroup : ∀ g, ∀ x ∈ groupChannels g, x < 8 := by
    intro g x hx
    unfold groupChannels at hx
    split_ifs at hx <;> simp at hx <;> omega
  have haddr : ∀ x ∈ addrGroup d a, x < 8 := by
    intro x hx
    unfold addrGroup at hx
    split at hx
    · exact hgroup _ x hx
    · exact absurd hx List.not_mem_nil
  unfold channelOfAddr at h
  dsimp only at h
  split at h
  · cases h
  · exact haddr c (List.mem_of_getElem? h)

theorem accounted_raise (d : Dev) {n : Nat} (hn : n < 1024) : Accounted d (raise d n) := by
  rw [raise]
  exact .of_keepsQuiet (keepsQuiet_raiseBy d hn 1) (membersOnly_raiseBy d n 1)

theorem accounted_blockCorrected (d : Dev) {c : Nat} (hc : c < 8) : Accounted d (blockCorrected d c) := by
  have hcount : Accounted d (nInc d (chan_CORRECTED c)) := .nInc d (by simp [PlainMember, chan_CORRECTED])
  have hn : 832 + c < 1024 := by omega
  have hraise : ∀ (e : Dev) (m : SMap Nat), Accounted e (raise { e with dram.lastCorrected := m } (832 + c)) := fun e m =>
    Accounted.trans (.setDram e { e.dram with lastCorrected := m } rfl) (accounted_raise _ hn)
  unfold blockCorrected
  dsimp only
  split
  · split
    · exact hcount
    · exact hcount.trans (hraise _ _)
  · exact hcount.trans (hraise _ _)

theorem accounted_correctPartial (d : Dev) (a n : Nat) : Accounted d (correctPartial d a n) := by
  refine .foldl (fun d b => ?_) _ d
  split
  case h_1 c hc =>
    split
    · exact .refl d
    · exact accounted_blockCorrected d (channelOfAddr_lt hc)
  case h_2 => exact .refl d

theorem accounted_clean (d : Dev) (a n : Nat) : Accounted d (cleanWords (cleanBlocks d a n) a n) :=
  Accounted.trans (e := cleanBlocks d a n) (.setDram d { d.dram with errors := _, writeBack := _ } rfl)
    (.setDram (cleanBlocks d a n) { (cleanBlocks d a n).dram with badWords := _, softWords := _ } rfl)

/-- A write over the fabric is its accounts and its octets. -/
theorem fabricWrite_spec (s : State) (a : Nat) (bs : List Byte) :
    ∃ e, Accounted s.dev e ∧ fabricWrite s a bs = fabricPuts (withDev s e) a bs := by
  have hcounts : ∀ d : Dev, Accounted d (cleanWords (cleanBlocks (correctPartial d a bs.length) a bs.length) a bs.length) := fun d =>
    (accounted_correctPartial d a bs.length).trans (accounted_clean _ a bs.length)
  unfold fabricWrite
  dsimp only
  split
  · exact ⟨_, (Accounted.nInc s.dev (by simp [PlainMember, mem_UNMAPPED_ACCESSES])).trans (hcounts _), rfl⟩
  · exact ⟨_, hcounts s.dev, rfl⟩

/-- A write that no migration minds is its accounts and its octets. -/
theorem putRange_of_still {s : State} (h : s.dev.stoker.migration = none) (cls a : Nat) (bs : List Byte) :
    ∃ e, Accounted s.dev e ∧ putRange s cls a bs = fabricPuts (withDev s e) a bs := by
  have hstill : touchMigration s.dev a bs.length = s.dev := by simp only [touchMigration, h]
  obtain ⟨e, he, hwrite⟩ := fabricWrite_spec (withDev s (countWrite s.dev a bs.length cls)) a bs
  refine ⟨e, (accounted_countWrite s.dev a bs.length cls).trans he, ?_⟩
  rw [putRange, hstill, hwrite, withDev_withDev]

theorem fabricPut_of_takes {s : State} {a : Nat} (h : takesWrite s.dev a = true) (b : Byte) :
    fabricPut s a b = { s with mem := memWrite s.mem a b } := by
  unfold takesWrite at h
  unfold fabricPut
  cases hplace : placeOf s.dev a with
  | dram n =>
    cases hc : channelOfAddr s.dev a with
    | none => simp [hplace, hc] at h
    | some c =>
      have hserves : chanRetired s.dev c = false := by simpa [hplace, hc] using h
      simp only [hserves, Bool.false_eq_true, if_false]
  | bank c =>
    have hon : bankOn s.dev c = true := by simpa [hplace] using h
    simp only [hon, if_true]
  | _ => simp [hplace] at h

/-- Memory that takes every octet of a write holds them. -/
theorem memRead_fabricPuts_inside (bs : List Byte) (s : State) (a : Nat) (h : ∀ k < bs.length, takesWrite s.dev (a + k) = true) {k : Nat}
    (hk : k < bs.length) : memRead (fabricPuts s a bs).mem (a + k) = bs.getD k 0 := by
  induction bs generalizing s a k with
  | nil => exact absurd hk (Nat.not_lt_zero k)
  | cons b bs ih =>
    have htakes : takesWrite s.dev a = true := h 0 (Nat.succ_pos _)
    rw [fabricPuts]
    cases k with
    | zero =>
      change memRead (fabricPuts (fabricPut s a b) (a + 1) bs).mem a = b
      rw [memRead_fabricPuts_outside bs _ (a + 1) a (.inl (Nat.lt_succ_self a)), fabricPut_of_takes htakes]
      exact memRead_memWrite_same _ _ _
    | succ k =>
      have hrest : ∀ j < bs.length, takesWrite (fabricPut s a b).dev (a + 1 + j) = true := by
        intro j hj
        rw [fabricPut_dev, Nat.add_assoc, Nat.add_comm 1 j]
        exact h (j + 1) (Nat.succ_lt_succ hj)
      have hread := ih (fabricPut s a b) (a + 1) hrest (Nat.lt_of_succ_lt_succ hk)
      rw [Nat.add_assoc, Nat.add_comm 1 k] at hread
      exact hread

/-! ### BULK (R77, R765) -/

theorem bulkDoes : BulkDoes := by
  intro s sess seq i off a data ⟨hreach, hnext, hi, ha, hcheck, hserves, hstill, hrmw, htakes⟩
  have hinst : refInst (mref 0x13 i 0) = i := by
    rw [refInst_mref]
    omega
  have hsurf : refClass (mref 0x13 i 0) = 0x13 ∧ refMember (mref 0x13 i 0) = 0 := ⟨refClass_mref _ _ _, refMember_mref _ _ _⟩
  have hbulk : bulkSurface s (mref 0x13 i 0) off data = (putRange s 5 a data, .ok) := by
    simp [bulkSurface, hinst, ← ha, hrmw]
  obtain ⟨e, he, hput⟩ := putRange_of_still hstill 5 a data
  have hdev : (putRange s 5 a data).dev = e := by rw [hput, fabricPuts_dev, withDev_dev]
  have hsessions := congrArg Noap.sessions he.noap
  have hroom : RoomToSend e := fun x hx => roomToSend_of_all hreach.2.2 x (hsessions ▸ hx)
  have hanswer : doBulk sess seq (mref 0x13 i 0) off data s = withDev (putRange s 5 a data) (answer e sess seq 6 (octets [0])) := by
    rw [doBulk, atTurnMem_of_isNext hreach.1 hnext]
    dsimp only
    rw [hcheck]
    dsimp only
    rw [if_neg (by simp [hserves]), if_pos hsurf, hbulk]
    dsimp only
    rw [hdev]
    exact congrArg (withDev (putRange s 5 a data)) (limitCheck_answer hroom _ _ _ _)
  refine ⟨_, rfl, ?_⟩
  rw [hanswer]
  refine ⟨fun k hk => ?_, responds_of_answer hreach he.sameMail (.of_sessions hsessions _) rfl⟩
  rw [withDev_mem, hput]
  refine memRead_fabricPuts_inside data (withDev s e) a (fun j hj => ?_) hk
  rw [withDev_dev, he.takesWrite]
  exact List.all_eq_true.mp htakes j (List.mem_range.mpr hj)

/-- Settles O36, clause by clause: READ, WRITE and BULK with their responses, and NOAP-lite. -/
theorem noapRequests : Obligations.NoapRequests :=
  ⟨readDoes, readOneDoes, writeDoes, writeMemberDoes, bulkDoes, noapLiteReadDoes, noapLiteReadWaitsDoes, noapLiteWriteDoes,
    noapLiteResponseSentDoes⟩

end Sys2Proof.Machine
end

section
/-!
What a step leaves in `alloc`, the allocated objects (R87, R91): the state, the lanes, events, HEARTH, pins and time.
`f_alloc` says that `f` leaves them, `sceneKeys_f` that `f` leaves only whole objects of a scene class.
-/
namespace Sys2Proof.Machine

/-- Every allocated object is a whole object of a scene class (R87, R89): `SceneAlloc` of the allocations alone. -/
def SceneKeys (m : SMap Nat) : Prop :=
  m.all (fun e => isSceneClass (refClass e.1) && refMember e.1 == 0 && decide (e.1 < 2 ^ 32)) = true

/-! ### Branches and folds -/

@[simp] theorem ite_alloc {c : Prop} [Decidable c] (d e : Dev) : (if c then d else e).scene.alloc = if c then d.scene.alloc else e.scene.alloc := by
  split <;> rfl

@[simp] theorem ite_dev {c : Prop} [Decidable c] (s t : State) : (if c then s else t).dev = if c then s.dev else t.dev := by
  split <;> rfl

@[simp] theorem ite_fst {α : Type} {c : Prop} [Decidable c] (x y : Dev × α) : (if c then x else y).1 = if c then x.1 else y.1 := by
  split <;> rfl

@[simp] theorem ite_fst_state {α : Type} {c : Prop} [Decidable c] (x y : State × α) : (if c then x else y).1 = if c then x.1 else y.1 := by
  split <;> rfl

@[simp] theorem foldl_alloc {α : Type} {f : Dev → α → Dev} (hf : ∀ d a, (f d a).scene.alloc = d.scene.alloc) (l : List α) (d : Dev) :
    (l.foldl f d).scene.alloc = d.scene.alloc := by
  induction l generalizing d with
  | nil => rfl
  | cons a l ih => exact (ih _).trans (hf d a)

@[simp] theorem foldl_alloc_state {α : Type} {f : State → α → State} (hf : ∀ s a, (f s a).dev.scene.alloc = s.dev.scene.alloc) (l : List α) (s : State) :
    (l.foldl f s).dev.scene.alloc = s.dev.scene.alloc := by
  induction l generalizing s with
  | nil => rfl
  | cons a l ih => exact (ih _).trans (hf s a)

@[simp] theorem foldl_alloc_pair {α β : Type} {f : Dev × β → α → Dev × β} (hf : ∀ x a, (f x a).1.scene.alloc = x.1.scene.alloc) (l : List α) (x : Dev × β) :
    (l.foldl f x).1.scene.alloc = x.1.scene.alloc := by
  induction l generalizing x with
  | nil => rfl
  | cons a l ih => exact (ih _).trans (hf x a)

@[simp] theorem sceneKeys_ite {c : Prop} [Decidable c] (m n : SMap Nat) :
    SceneKeys (if c then m else n) ↔ if c then SceneKeys m else SceneKeys n := by
  split <;> rfl

theorem sceneKeys_foldl {α : Type} {f : Dev → α → Dev} (hf : ∀ d a, SceneKeys d.scene.alloc → SceneKeys (f d a).scene.alloc) (l : List α) {d : Dev}
    (hk : SceneKeys d.scene.alloc) : SceneKeys (l.foldl f d).scene.alloc := by
  induction l generalizing d with
  | nil => exact hk
  | cons a l ih => exact ih (hf d a hk)

theorem sceneKeys_foldl_state {α : Type} {f : State → α → State} (hf : ∀ s a, SceneKeys s.dev.scene.alloc → SceneKeys (f s a).dev.scene.alloc) (l : List α)
    {s : State} (hk : SceneKeys s.dev.scene.alloc) : SceneKeys (l.foldl f s).dev.scene.alloc := by
  induction l generalizing s with
  | nil => exact hk
  | cons a l ih => exact ih (hf s a hk)

/-! ### The keys of the map -/

@[simp] theorem sceneKeys_nil : SceneKeys [] := rfl

theorem sceneKeys_mapErase {m : SMap Nat} (hk : SceneKeys m) (o : Ref) : SceneKeys (mapErase m o) := all_mapErase m o _ hk

theorem sceneKeys_mapPut {m : SMap Nat} (hk : SceneKeys m) {o : Ref} (ho : isSceneClass (refClass o) = true) (hm : refMember o = 0)
    (hlt : o < 2 ^ 32) (n : Nat) : SceneKeys (mapPut m o n) :=
  all_mapPut m o n _ hk (by simp only [ho, hm, hlt, beq_self_eq_true, decide_true, Bool.and_self])

/-! ### Ops.lean -/

@[simp] theorem bSet_alloc (d : Dev) (r : Ref) (b : List Byte) : (bSet d r b).scene.alloc = d.scene.alloc := by
  simp [bSet]

@[simp] theorem nWrap_alloc (d : Dev) (r : Ref) : (nWrap d r).scene.alloc = d.scene.alloc := by
  simp [nWrap]

@[simp] theorem dropObject_alloc (d : Dev) (o : Ref) : (dropObject d o).scene.alloc = d.scene.alloc := by
  simp [dropObject]

@[simp] theorem emitResult_alloc (d : Dev) (sess : Nat) (st : Status) (val : List Byte) : (emitResult d sess st val).scene.alloc = d.scene.alloc := by
  simp [emitResult]

@[simp] theorem queueNotif_alloc (d : Dev) (sess : Nat) (n : Notif) : (queueNotif d sess n).scene.alloc = d.scene.alloc := by
  unfold queueNotif
  split
  · rfl
  · simp

@[simp] theorem notifyController_alloc (d : Dev) (n : Notif) : (notifyController d n).scene.alloc = d.scene.alloc := by
  unfold notifyController
  split
  · simp
  · rfl

@[simp] theorem actionResult_alloc (r : Ref) (x : Dev × Status × List Byte) : (actionResult r x).1.scene.alloc = x.1.scene.alloc := by
  rcases actionResult_cases r x with h | ⟨n, h⟩ <;> simp [h]

@[simp] theorem withGate_alloc (d : Dev) (sess : Nat) (r : Ref) {op : Dev → Dev × Status × List Byte} (hop : ∀ d, (op d).1.scene.alloc = d.scene.alloc) :
    (withGate d sess r op).scene.alloc = d.scene.alloc := by
  unfold withGate
  split
  · simp
  · simp [hop]

@[simp] theorem plainWrite_alloc (d : Dev) (r : Ref) (v : Val) : (plainWrite d r v).1.scene.alloc = d.scene.alloc := by
  unfold plainWrite
  split
  · rfl
  · simp

/-! ### LaneTx.lean -/

@[simp] theorem updHead_alloc (d : Dev) (h : Nat) (f : HeadSt → HeadSt) : (updHead d h f).scene.alloc = d.scene.alloc := by
  simp [updHead]

@[simp] theorem updLane_alloc (d : Dev) (l : Nat) (f : LaneSt → LaneSt) : (updLane d l f).scene.alloc = d.scene.alloc := by
  simp [updLane]

@[simp] theorem pushLine_alloc (d : Dev) (l : Nat) (ps : List Packet) : (pushLine d l ps).scene.alloc = d.scene.alloc := by
  induction ps generalizing d with
  | nil => rfl
  | cons p ps ih => simp [pushLine, ih]

@[simp] theorem pushProtected_alloc (d : Dev) (l : Nat) (typ : Nat) (sub : Nat) (payload : List Byte) :
    (pushProtected d l typ sub payload).scene.alloc = d.scene.alloc := by
  simp [pushProtected]

@[simp] theorem sendMode_alloc (d : Dev) (h : Nat) (relock : Bool) : (sendMode d h relock).scene.alloc = d.scene.alloc := by
  simp [sendMode]

@[simp] theorem sendCtrl_alloc (d : Dev) (h : Nat) (channel : Nat) (payload : List Byte) :
    (sendCtrl d h channel payload).scene.alloc = d.scene.alloc := by
  simp [sendCtrl]

@[simp] theorem panelLog_alloc (d : Dev) (h : Nat) (code : Nat) (cause : Nat) : (panelLog d h code cause).scene.alloc = d.scene.alloc := by
  simp [panelLog]

/-! ### Observe.lean -/

@[simp] theorem trace_alloc (d : Dev) (kind unit data : Nat) :
    (trace d kind unit data).scene.alloc = d.scene.alloc := congrArg Scene.alloc (membersOnly_trace d kind unit data).scene

@[simp] theorem countSignal_alloc (d : Dev) (sel n : Nat) :
    (countSignal d sel n).scene.alloc = d.scene.alloc := congrArg Scene.alloc (membersOnly_countSignal d sel n).scene

@[simp] theorem serviceLog_alloc (d : Dev) (kind : Nat) (unit : Nat) (detail : Nat) :
    (serviceLog d kind unit detail).scene.alloc = d.scene.alloc := by
  simp [serviceLog]

@[simp] theorem snapTrigger_alloc (d : Dev) (cause : Nat) :
    (snapTrigger d cause).scene.alloc = d.scene.alloc := congrArg Scene.alloc (membersOnly_snapTrigger d cause).scene

/-! ### Events.lean -/

@[simp] theorem claimSource_alloc (d : Dev) (n who : Nat) :
    (claimSource d n who).scene.alloc = d.scene.alloc := congrArg Scene.alloc (membersOnly_claimSource d n who).scene

@[simp] theorem endSource_alloc (d : Dev) (n : Nat) :
    (endSource d n).scene.alloc = d.scene.alloc := congrArg Scene.alloc (membersOnly_endSource d n).scene

@[simp] theorem eoi_alloc (d : Dev) (n : Nat) (who : Nat) : (eoi d n who).scene.alloc = d.scene.alloc := by
  simp [eoi]

@[simp] theorem firekeeperClaim_alloc (d : Dev) (n : Nat) :
    (firekeeperClaim d n).scene.alloc = d.scene.alloc := congrArg Scene.alloc (membersOnly_firekeeperClaim d n).scene

@[simp] theorem raiseBy_alloc (d : Dev) (n amt : Nat) :
    (raiseBy d n amt).scene.alloc = d.scene.alloc := congrArg Scene.alloc (membersOnly_raiseBy d n amt).scene

@[simp] theorem raise_alloc (d : Dev) (n : Nat) : (raise d n).scene.alloc = d.scene.alloc := by
  simp [raise]

@[simp] theorem setLevel_alloc (d : Dev) (n : Nat) (b : Bool) : (setLevel d n b).scene.alloc = d.scene.alloc := by
  simp [setLevel]

@[simp] theorem endHold_alloc (d : Dev) (g : Nat) : (endHold d g).scene.alloc = d.scene.alloc := by
  simp [endHold]

@[simp] theorem startFirekeeper_alloc (d : Dev) : (startFirekeeper d).scene.alloc = d.scene.alloc := by
  simp [startFirekeeper]

@[simp] theorem hostClaim_alloc (d : Dev) (n : Nat) (held : Bool) : (hostClaim d n held).scene.alloc = d.scene.alloc := by
  simp [hostClaim]

@[simp] theorem wakeHost_alloc (d : Dev) : (wakeHost d).scene.alloc = d.scene.alloc := by
  simp [wakeHost]

@[simp] theorem implicitEoi_alloc (d : Dev) (who : Nat) : (implicitEoi d who).scene.alloc = d.scene.alloc := by
  simp [implicitEoi]

@[simp] theorem endNotified_alloc (d : Dev) (l : List Notif) :
    (endNotified d l).scene.alloc = d.scene.alloc := congrArg Scene.alloc (membersOnly_endNotified d l).scene

@[simp] theorem routingWrite_alloc (d : Dev) (n : Nat) (m : Nat) (v : Nat) : (routingWrite d n m v).1.scene.alloc = d.scene.alloc := by
  simp [routingWrite]

@[simp] theorem unrouteProgram_alloc (d : Dev) (o : Ref) : (unrouteProgram d o).scene.alloc = d.scene.alloc := by
  simp [unrouteProgram]

@[simp] theorem holdoffWrite_alloc (d : Dev) (g : Nat) (v : Nat) : (holdoffWrite d g v).1.scene.alloc = d.scene.alloc := by
  simp [holdoffWrite]

@[simp] theorem hostStateWrite_alloc (d : Dev) (sess : Nat) (v : Nat) : (hostStateWrite d sess v).1.scene.alloc = d.scene.alloc := by
  simp [hostStateWrite]

@[simp] theorem ringAction_alloc (d : Dev) (n : Nat) : (ringAction d n).1.scene.alloc = d.scene.alloc := by
  simp [ringAction]

@[simp] theorem doRingAction_alloc (sess : Nat) (source : Nat) (d : Dev) : (doRingAction sess source d).scene.alloc = d.scene.alloc := by
  simp [doRingAction]

@[simp] theorem doHostClaim_alloc (n : Fin 1024) (d : Dev) : (doHostClaim n d).scene.alloc = d.scene.alloc := by
  simp [doHostClaim]

@[simp] theorem doDamperHoldExpiry_alloc (g : Fin 64) (d : Dev) : (doDamperHoldExpiry g d).scene.alloc = d.scene.alloc := by
  simp [doDamperHoldExpiry]

@[simp] theorem doEventRoutingWrite_alloc (sess : Nat) (n : Fin 1024) (m : Nat) (v : Nat) (d : Dev) :
    (doEventRoutingWrite sess n m v d).scene.alloc = d.scene.alloc := by
  simp [doEventRoutingWrite]

@[simp] theorem doHoldoffWrite_alloc (sess : Nat) (g : Fin 64) (v : Nat) (d : Dev) : (doHoldoffWrite sess g v d).scene.alloc = d.scene.alloc := by
  simp [doHoldoffWrite]

@[simp] theorem doHostStateWrite_alloc (sess : Nat) (v : Nat) (d : Dev) : (doHostStateWrite sess v d).scene.alloc = d.scene.alloc := by
  simp [doHostStateWrite]

/-! ### Hearth.lean -/

@[simp] theorem updHHead_alloc (d : Dev) (h : Nat) (f : HHead → HHead) : (updHHead d h f).scene.alloc = d.scene.alloc := by
  simp [updHHead]

@[simp] theorem noteEntry_alloc (d : Dev) (n : Nat) (lag : Nat) : (noteEntry d n lag).scene.alloc = d.scene.alloc := by
  simp [noteEntry]

@[simp] theorem noteCut_alloc (d : Dev) (i : Nat) (lag : Nat) : (noteCut d i lag).scene.alloc = d.scene.alloc := by
  simp [noteCut]

@[simp] theorem recombine_alloc (d : Dev) (i : Nat) : (recombine d i).scene.alloc = d.scene.alloc := by
  simp [recombine]

@[simp] theorem retime_alloc (d : Dev) (was : Nat) (i : Nat) : (retime d was i).scene.alloc = d.scene.alloc := by
  simp [retime]

@[simp] theorem recombineFor_alloc (was : Dev) (d : Dev) (n : Nat) : (recombineFor was d n).scene.alloc = d.scene.alloc := by
  simp [recombineFor]

@[simp] theorem entryChange_alloc (lag : Nat) (d : Dev) (n : Nat) {f : Dev → Dev} (hf : ∀ d, (f d).scene.alloc = d.scene.alloc) :
    (entryChange lag d n f).scene.alloc = d.scene.alloc := by
  simp [entryChange, hf]

@[simp] theorem writeEntryState_alloc (d : Dev) (n : Nat) (st : Nat) : (writeEntryState d n st).scene.alloc = d.scene.alloc := by
  simp [writeEntryState]

@[simp] theorem rearmEntry_alloc (d : Dev) (n : Nat) : (rearmEntry d n).scene.alloc = d.scene.alloc := by
  simp [rearmEntry]

@[simp] theorem enterLoss_alloc (d : Dev) (n : Nat) : (enterLoss d n).scene.alloc = d.scene.alloc := by
  simp [enterLoss]

@[simp] theorem applyValue_alloc (lag : Nat) (d : Dev) (n : Nat) (v : Nat) : (applyValue lag d n v).scene.alloc = d.scene.alloc := by
  simp [applyValue]

@[simp] theorem updPins_alloc (d : Dev) : (updPins d).scene.alloc = d.scene.alloc := by
  simp [updPins]

@[simp] theorem hoCauseSet_alloc (d : Dev) (h : Nat) (bit : Nat) : (hoCauseSet d h bit).scene.alloc = d.scene.alloc := by
  simp [hoCauseSet]

@[simp] theorem hoCauseClear_alloc (d : Dev) (h : Nat) (bit : Nat) : (hoCauseClear d h bit).scene.alloc = d.scene.alloc := by
  simp [hoCauseClear]

@[simp] theorem latchFault_alloc (d : Dev) (h : Nat) (bit : Nat) (frame : Nat) : (latchFault d h bit frame).scene.alloc = d.scene.alloc := by
  simp [latchFault]

@[simp] theorem packageInvalid_alloc (d : Dev) : (packageInvalid d).scene.alloc = d.scene.alloc := by
  simp [packageInvalid]

@[simp] theorem slotWrite_alloc (m : List Host.Cell) (d : Dev) (i : Nat) (mem : Nat) (v : Nat) :
    (slotWrite m d i mem v).1.scene.alloc = d.scene.alloc := by
  unfold slotWrite
  split
  · rfl
  · simp

@[simp] theorem signalMapWrite_alloc (d : Dev) (n : Nat) (mem : Nat) (v : Nat) : (signalMapWrite d n mem v).1.scene.alloc = d.scene.alloc := by
  unfold signalMapWrite
  split
  · rfl
  · simp

@[simp] theorem hoRequestWrite_alloc (d : Dev) (h : Nat) (v : Nat) : (hoRequestWrite d h v).1.scene.alloc = d.scene.alloc := by
  simp [hoRequestWrite]

@[simp] theorem faultClearHead_alloc (d : Dev) (h : Nat) : (faultClearHead d h).1.scene.alloc = d.scene.alloc := by
  simp [faultClearHead]

@[simp] theorem faultClear_alloc (d : Dev) (mask : Nat) : (faultClear d mask).1.scene.alloc = d.scene.alloc := by
  simp [faultClear]

@[simp] theorem hheadWrite_alloc (m : List Host.Cell) (d : Dev) (h : Nat) (mem : Nat) (v : Val) :
    (hheadWrite m d h mem v).1.scene.alloc = d.scene.alloc := by
  unfold hheadWrite
  split
  · rfl
  · split <;> simp

@[simp] theorem blinkWrite_alloc (d : Dev) (mem : Nat) (v : Nat) : (blinkWrite d mem v).1.scene.alloc = d.scene.alloc := by
  simp [blinkWrite]

@[simp] theorem errorLog_alloc (d : Dev) (addr : Nat) (place : Nat) (master : Nat) (kind : Nat) :
    (errorLog d addr place master kind).scene.alloc = d.scene.alloc := by
  simp [errorLog]

@[simp] theorem sramCorrected_alloc (d : Dev) : (sramCorrected d).scene.alloc = d.scene.alloc := by
  simp [sramCorrected]

@[simp] theorem sramBad_alloc (d : Dev) (addr : Nat) (place : Nat) (kind : Nat) : (sramBad d addr place kind).scene.alloc = d.scene.alloc := by
  simp [sramBad]

@[simp] theorem latchStoreEcc_alloc (d : Dev) (h : Nat) : (latchStoreEcc d h).scene.alloc = d.scene.alloc := by
  simp [latchStoreEcc]

@[simp] theorem storeWordBad_alloc (m : List Host.Cell) (d : Dev) (w : Nat) : (storeWordBad m d w).scene.alloc = d.scene.alloc := by
  simp [storeWordBad]

@[simp] theorem doHearthSlotWrite_alloc (sess : Nat) (h : Fin 16) (slot : Fin 64) (mem : Nat) (v : Nat) (m : List Host.Cell) (d : Dev) :
    (doHearthSlotWrite sess h slot mem v m d).scene.alloc = d.scene.alloc := by
  simp [doHearthSlotWrite]

@[simp] theorem doSignalMapWrite_alloc (sess : Nat) (n : Fin 256) (mem : Nat) (v : Nat) (d : Dev) :
    (doSignalMapWrite sess n mem v d).scene.alloc = d.scene.alloc := by
  simp [doSignalMapWrite]

@[simp] theorem doHoRequestWrite_alloc (sess : Nat) (h : Fin 16) (v : Nat) (d : Dev) : (doHoRequestWrite sess h v d).scene.alloc = d.scene.alloc := by
  simp [doHoRequestWrite]

@[simp] theorem doFaultClear_alloc (sess : Nat) (mask : Nat) (d : Dev) : (doFaultClear sess mask d).scene.alloc = d.scene.alloc := by
  simp [doFaultClear]

@[simp] theorem doMixerMismatch_alloc (h : Fin 16) (d : Dev) : (doMixerMismatch h d).scene.alloc = d.scene.alloc := by
  simp [doMixerMismatch]

@[simp] theorem doKeepaliveLoss_alloc (d : Dev) : (doKeepaliveLoss d).scene.alloc = d.scene.alloc := by
  simp [doKeepaliveLoss]

@[simp] theorem doBlinkGeneratorEdge_alloc (g : Fin 2) (d : Dev) : (doBlinkGeneratorEdge g d).scene.alloc = d.scene.alloc := by
  simp [doBlinkGeneratorEdge]

@[simp] theorem doHearthScrub_alloc (w : Nat) (flips : Nat) (m : List Host.Cell) (d : Dev) :
    (doHearthScrub w flips m d).scene.alloc = d.scene.alloc := by
  simp [doHearthScrub]

/-! ### Pins.lean -/

@[simp] theorem readPads_alloc (d : Dev) : (readPads d).scene.alloc = d.scene.alloc := by
  simp [readPads]

@[simp] theorem matcherOutput_alloc (d : Dev) (k : Nat) (v : Nat) : (matcherOutput d k v).scene.alloc = d.scene.alloc := by
  simp [matcherOutput]

@[simp] theorem matcherLook_alloc (d : Dev) (k : Nat) : (matcherLook d k).scene.alloc = d.scene.alloc := by
  simp [matcherLook]

@[simp] theorem settlePins_alloc (d : Dev) : (settlePins d).scene.alloc = d.scene.alloc := by
  simp [settlePins]

@[simp] theorem drivePads_alloc (d : Dev) : (drivePads d).scene.alloc = d.scene.alloc := by
  simp [drivePads]

@[simp] theorem bankWrite_alloc (d : Dev) (r : Ref) (v : Val) : (bankWrite d r v).1.scene.alloc = d.scene.alloc := by
  simp [bankWrite]

@[simp] theorem bankAction_alloc (d : Dev) (b : Nat) (new : Nat) (mask : Nat) : (bankAction d b new mask).1.scene.alloc = d.scene.alloc := by
  simp [bankAction]

@[simp] theorem bankSet_alloc (d : Dev) (b : Nat) (mask : Nat) : (bankSet d b mask).1.scene.alloc = d.scene.alloc := by
  simp [bankSet]

@[simp] theorem bankClear_alloc (d : Dev) (b : Nat) (mask : Nat) : (bankClear d b mask).1.scene.alloc = d.scene.alloc := by
  simp [bankClear]

@[simp] theorem bankToggle_alloc (d : Dev) (b : Nat) (mask : Nat) : (bankToggle d b mask).1.scene.alloc = d.scene.alloc := by
  simp [bankToggle]

@[simp] theorem routeWrite_alloc (d : Dev) (mem : Nat) (v : Nat) : (routeWrite d mem v).1.scene.alloc = d.scene.alloc := by
  unfold routeWrite
  split
  · rfl
  · simp

@[simp] theorem matcherWrite_alloc (d : Dev) (k : Nat) (mem : Nat) (v : Nat) : (matcherWrite d k mem v).1.scene.alloc = d.scene.alloc := by
  unfold matcherWrite
  split
  · rfl
  · simp

@[simp] theorem hvsLevel_alloc (d : Dev) (k : Nat) (v : Nat) : (hvsLevel d k v).scene.alloc = d.scene.alloc := by
  simp [hvsLevel]

@[simp] theorem hvsLook_alloc (d : Dev) (k : Nat) : (hvsLook d k).scene.alloc = d.scene.alloc := by
  simp [hvsLook]

@[simp] theorem startPins_alloc (d : Dev) : (startPins d).scene.alloc = d.scene.alloc := by
  simp [startPins]

@[simp] theorem followWake_alloc (d : Dev) : (followWake d).scene.alloc = d.scene.alloc := by
  simp [followWake]

@[simp] theorem hvsWrite_alloc (d : Dev) (k : Nat) (mem : Nat) (v : Val) : (hvsWrite d k mem v).1.scene.alloc = d.scene.alloc := by
  simp [hvsWrite]

@[simp] theorem doGpioEdge_alloc (pin : Fin 160) (level : Bool) (d : Dev) : (doGpioEdge pin level d).scene.alloc = d.scene.alloc := by
  simp [doGpioEdge]

@[simp] theorem doMatcherDebounceExpiry_alloc (m : Fin 32) (d : Dev) : (doMatcherDebounceExpiry m d).scene.alloc = d.scene.alloc := by
  simp [doMatcherDebounceExpiry]

@[simp] theorem doSet_alloc (sess : Nat) (b : Fin 5) (mask : Nat) (d : Dev) : (doSet sess b mask d).scene.alloc = d.scene.alloc := by
  simp [doSet]

@[simp] theorem doGpioClear_alloc (sess : Nat) (b : Fin 5) (mask : Nat) (d : Dev) : (doGpioClear sess b mask d).scene.alloc = d.scene.alloc := by
  simp [doGpioClear]

@[simp] theorem doToggle_alloc (sess : Nat) (b : Fin 5) (mask : Nat) (d : Dev) : (doToggle sess b mask d).scene.alloc = d.scene.alloc := by
  simp [doToggle]

@[simp] theorem doRouteWrite_alloc (sess : Nat) (m : Nat) (v : Nat) (d : Dev) : (doRouteWrite sess m v d).scene.alloc = d.scene.alloc := by
  simp [doRouteWrite]

@[simp] theorem doMatcherWrite_alloc (sess : Nat) (k : Fin 32) (m : Nat) (v : Nat) (d : Dev) :
    (doMatcherWrite sess k m v d).scene.alloc = d.scene.alloc := by
  simp [doMatcherWrite]

@[simp] theorem doHvsThresholdCrossing_alloc (k : Fin 8) (above : Bool) (d : Dev) :
    (doHvsThresholdCrossing k above d).scene.alloc = d.scene.alloc := by
  simp [doHvsThresholdCrossing]

@[simp] theorem doHvsFilterExpiry_alloc (k : Fin 8) (d : Dev) : (doHvsFilterExpiry k d).scene.alloc = d.scene.alloc := by
  simp [doHvsFilterExpiry]

/-! ### Time.lean -/

@[simp] theorem tokenEnd_alloc (d : Dev) : (tokenEnd d).scene.alloc = d.scene.alloc := by
  simp [tokenEnd]

@[simp] theorem servoState_alloc (d : Dev) (st : Nat) : (servoState d st).scene.alloc = d.scene.alloc := by
  simp [servoState]

@[simp] theorem stepOrigins_alloc (d : Dev) (delta : ℤ) : (stepOrigins d delta).scene.alloc = d.scene.alloc := by
  simp [stepOrigins]

@[simp] theorem timebaseStep_alloc (d : Dev) (delta : ℤ) (cause : Nat) : (timebaseStep d delta cause).scene.alloc = d.scene.alloc := by
  unfold timebaseStep
  dsimp only
  split <;> split <;> simp

@[simp] theorem servoAdjust_alloc (d : Dev) : (servoAdjust d).scene.alloc = d.scene.alloc := by
  simp [servoAdjust]

@[simp] theorem servoSample_alloc (d : Dev) (e : ℤ) (cause : Nat) : (servoSample d e cause).scene.alloc = d.scene.alloc := by
  simp [servoSample]

@[simp] theorem gptpSample_alloc (d : Dev) (u : Nat) (e : ℤ) : (gptpSample d u e).scene.alloc = d.scene.alloc := by
  simp [gptpSample]

@[simp] theorem doGptpSync_alloc (u : Fin 2) (origin : Nat) (correction : Nat) (rx : Nat) (d : Dev) :
    (doGptpSync u origin correction rx d).scene.alloc = d.scene.alloc := by
  simp [doGptpSync]

@[simp] theorem doPpsEdge_alloc (d : Dev) : (doPpsEdge d).scene.alloc = d.scene.alloc := by
  unfold doPpsEdge
  split
  · rfl
  · split <;> simp

@[simp] theorem awaitSource_alloc (d : Dev) : (awaitSource d).scene.alloc = d.scene.alloc := by
  unfold awaitSource
  dsimp only
  split
  · simp
  · split <;> simp

@[simp] theorem doSyncTimeout_alloc (d : Dev) : (doSyncTimeout d).scene.alloc = d.scene.alloc := by
  simp [doSyncTimeout]

@[simp] theorem setTime_alloc (d : Dev) (t : Nat) : (setTime d t).1.scene.alloc = d.scene.alloc := by
  simp [setTime]

@[simp] theorem sourceWrite_alloc (d : Dev) (v : Nat) : (sourceWrite d v).1.scene.alloc = d.scene.alloc := by
  simp [sourceWrite]

@[simp] theorem ppsWrite_alloc (d : Dev) (mem : Nat) (v : Val) : (ppsWrite d mem v).1.scene.alloc = d.scene.alloc := by
  simp [ppsWrite]

@[simp] theorem doPpsOutRise_alloc (d : Dev) : (doPpsOutRise d).scene.alloc = d.scene.alloc := by
  simp [doPpsOutRise]

@[simp] theorem doPpsOutFall_alloc (d : Dev) : (doPpsOutFall d).scene.alloc = d.scene.alloc := by
  simp [doPpsOutFall]

@[simp] theorem updTimer_alloc (d : Dev) (n : Nat) (f : Timer → Timer) : (updTimer d n f).scene.alloc = d.scene.alloc := by
  simp [updTimer]

@[simp] theorem timerFire_alloc (d : Dev) (n : Nat) (k : Nat) : (timerFire d n k).scene.alloc = d.scene.alloc := by
  simp [timerFire]

@[simp] theorem timerReload_alloc (d : Dev) (n : Nat) : (timerReload d n).scene.alloc = d.scene.alloc := by
  simp [timerReload]

@[simp] theorem timerCapture_alloc (d : Dev) (n : Nat) (rising : Bool) : (timerCapture d n rising).scene.alloc = d.scene.alloc := by
  simp [timerCapture]

@[simp] theorem timerEnable_alloc (d : Dev) (n : Nat) (b : Bool) : (timerEnable d n b).scene.alloc = d.scene.alloc := by
  simp [timerEnable]

@[simp] theorem timerControl_alloc (d : Dev) (n : Nat) (v : Nat) : (timerControl d n v).scene.alloc = d.scene.alloc := by
  simp [timerControl]

@[simp] theorem periodWrite_alloc (d : Dev) (n : Nat) (v : Nat) : (periodWrite d n v).scene.alloc = d.scene.alloc := by
  simp [periodWrite]

@[simp] theorem updStart_alloc (d : Dev) (c : Nat) (f : GroupStart → GroupStart) : (updStart d c f).scene.alloc = d.scene.alloc := by
  simp [updStart]

@[simp] theorem groupStart_alloc (d : Dev) (c : Nat) : (groupStart d c).scene.alloc = d.scene.alloc := by
  simp [groupStart]

@[simp] theorem startMaskWrite_alloc (d : Dev) (c : Nat) (v : Nat) : (startMaskWrite d c v).scene.alloc = d.scene.alloc := by
  simp [startMaskWrite]

@[simp] theorem captureRead_alloc (d : Dev) (n : Nat) : (captureRead d n).1.scene.alloc = d.scene.alloc := by
  simp [captureRead]

@[simp] theorem doTimerPeriod_alloc (n : Fin 96) (d : Dev) : (doTimerPeriod n d).scene.alloc = d.scene.alloc := by
  simp [doTimerPeriod]

@[simp] theorem doTimerCompare_alloc (n : Fin 96) (k : Fin 2) (d : Dev) : (doTimerCompare n k d).scene.alloc = d.scene.alloc := by
  simp [doTimerCompare]

@[simp] theorem doTimerCapture_alloc (n : Fin 96) (rising : Bool) (d : Dev) : (doTimerCapture n rising d).scene.alloc = d.scene.alloc := by
  simp [doTimerCapture]

@[simp] theorem doGroupStart_alloc (c : Fin 12) (d : Dev) : (doGroupStart c d).scene.alloc = d.scene.alloc := by
  simp [doGroupStart]

@[simp] theorem doSetTime_alloc (sess : Nat) (t : Nat) (d : Dev) : (doSetTime sess t d).scene.alloc = d.scene.alloc := by
  simp [doSetTime]

end Sys2Proof.Machine
end

section
/-!
What a step leaves in `alloc`, the allocated objects (R87, R91): memory, the scene and its checks, registers, threads and a commit as it is applied.
`f_alloc` says that `f` leaves them, `sceneKeys_f` that `f` leaves only whole objects of a scene class.
-/
namespace Sys2Proof.Machine

/-! ### Dram.lean -/

@[simp] theorem upset_alloc (d : Dev) (b : Nat) (es : List ByteError) : (upset d b es).scene.alloc = d.scene.alloc := by
  simp [upset]

@[simp] theorem countRmwFails_alloc (d : Dev) (bs : List Nat) : (countRmwFails d bs).scene.alloc = d.scene.alloc := by
  unfold countRmwFails
  refine foldl_alloc (fun d a => ?_) _ _
  split <;> simp

@[simp] theorem blockCorrected_alloc (d : Dev) (c : Nat) : (blockCorrected d c).scene.alloc = d.scene.alloc := by
  unfold blockCorrected
  dsimp only
  split <;> simp

@[simp] theorem correctPartial_alloc (d : Dev) (a : Nat) (n : Nat) : (correctPartial d a n).scene.alloc = d.scene.alloc := by
  unfold correctPartial
  refine foldl_alloc (fun d b => ?_) _ _
  split
  · split <;> simp
  · rfl

@[simp] theorem cleanBlocks_alloc (d : Dev) (a : Nat) (n : Nat) : (cleanBlocks d a n).scene.alloc = d.scene.alloc := by
  simp [cleanBlocks]

@[simp] theorem cleanWords_alloc (d : Dev) (a : Nat) (n : Nat) : (cleanWords d a n).scene.alloc = d.scene.alloc := by
  simp [cleanWords]

@[simp] theorem fabricWrite_alloc (s : State) (a : Nat) (bs : List Byte) : (fabricWrite s a bs).dev.scene.alloc = s.dev.scene.alloc := by
  simp [fabricWrite]

@[simp] theorem setSegCodes_alloc (d : Dev) (l : List Nat) : (setSegCodes d l).scene.alloc = d.scene.alloc := by
  simp [setSegCodes]

@[simp] theorem moveReserved_alloc (d : Dev) : (moveReserved d).scene.alloc = d.scene.alloc := by
  unfold moveReserved
  dsimp only
  split
  · split
    · rfl
    · split
      · simp
      · split
        · simp
        · rfl
  · rfl

@[simp] theorem countSlot_alloc (d : Dev) (c : Nat) (cls : Nat) : (countSlot d c cls).scene.alloc = d.scene.alloc := by
  simp [countSlot]

@[simp] theorem countRead_alloc (d : Dev) (r : DramRead) : (countRead d r).scene.alloc = d.scene.alloc := by
  simp [countRead]

@[simp] theorem countWrite_alloc (d : Dev) (a : Nat) (n : Nat) (cls : Nat) : (countWrite d a n cls).scene.alloc = d.scene.alloc := by
  unfold countWrite
  refine foldl_alloc (fun d a => ?_) _ _
  split
  · split
    · rfl
    · split <;> simp
  · rfl

@[simp] theorem askRead_alloc (d : Dev) (r : DramRead) : (askRead d r).scene.alloc = d.scene.alloc := by
  unfold askRead
  split
  · simp
  · rfl

@[simp] theorem askRange_alloc (d : Dev) (cls : Nat) (unit : Nat) (a : Nat) (n : Nat) : (askRange d cls unit a n).scene.alloc = d.scene.alloc := by
  unfold askRange
  refine foldl_alloc (fun d a => ?_) _ _
  split <;> simp

@[simp] theorem grantWaiting_alloc (d : Dev) : (grantWaiting d).scene.alloc = d.scene.alloc := by
  simp [grantWaiting]

@[simp] theorem cancelReads_alloc (d : Dev) (cls : Nat) (unit : Nat) : (cancelReads d cls unit).scene.alloc = d.scene.alloc := by
  simp [cancelReads]

/-! ### Scene.lean -/

@[simp] theorem countStaged_alloc (d : Dev) : (countStaged d).scene.alloc = d.scene.alloc := by
  simp [countStaged]

@[simp] theorem countClass_alloc (d : Dev) (c : Nat) : (countClass d c).scene.alloc = d.scene.alloc := by
  simp [countClass]

@[simp] theorem updVin_alloc (d : Dev) (i : Nat) (f : VideoIn → VideoIn) : (updVin d i f).scene.alloc = d.scene.alloc := by
  simp [updVin]

@[simp] theorem lookStream_alloc (d : Dev) (i : Nat) : (lookStream d i).scene.alloc = d.scene.alloc := by
  simp [lookStream]

@[simp] theorem lookStreams_alloc (d : Dev) : (lookStreams d).scene.alloc = d.scene.alloc := by
  simp [lookStreams]

@[simp] theorem sceneKeys_releaseObject {d : Dev} (hk : SceneKeys d.scene.alloc) (o : Ref) : SceneKeys (releaseObject d o).scene.alloc := by
  unfold releaseObject
  simpa using sceneKeys_mapErase hk o

@[simp] theorem refreshObject_alloc (live : List Nat) (pend : List Nat) (ls : List (Nat × Nat)) (scenes : List (List Ref)) (d : Dev) (o : Ref) :
    (refreshObject live pend ls scenes d o).scene.alloc = d.scene.alloc := by
  simp [refreshObject]

@[simp] theorem sceneKeys_refreshLeases {d : Dev} (hk : SceneKeys d.scene.alloc) : SceneKeys (refreshLeases d).scene.alloc := by
  unfold refreshLeases
  refine sceneKeys_foldl (fun d o hd => ?_) _ ?_
  · simpa using sceneKeys_releaseObject hd o
  · simpa using hk

theorem sceneClass_lt {c : Nat} (h : isSceneClass c = true) : c < 256 := by
  simp only [isSceneClass, Bool.and_eq_true, decide_eq_true_eq] at h
  omega

@[simp] theorem sceneKeys_allocOp {d : Dev} (hk : SceneKeys d.scene.alloc) (c arg : Nat) : SceneKeys (allocOp d c arg).1.scene.alloc := by
  unfold allocOp
  dsimp only
  split
  · exact hk
  · next hc =>
    rw [Bool.not_eq_false] at hc
    split
    · exact hk
    · split
      · exact hk
      · next i _ =>
        have hput : SceneKeys (mapPut d.scene.alloc (mref c i 0) 1) :=
          sceneKeys_mapPut hk (by rwa [refClass_mref, Nat.mod_eq_of_lt (sceneClass_lt hc)]) (refMember_mref _ _ _) (mref_lt _ _ _) 1
        simpa [dropObject] using hput

@[simp] theorem sceneKeys_freeOp {d : Dev} (hk : SceneKeys d.scene.alloc) (c : Nat) (o : Ref) : SceneKeys (freeOp d c o).1.scene.alloc := by
  unfold freeOp
  split
  · exact hk
  · next hc =>
    split
    · exact hk
    · next ho =>
      obtain ⟨rfl, hm, -, hlt⟩ : refClass o = c ∧ refMember o = 0 ∧ allocOf d o ≠ 0 ∧ o < 2 ^ 32 := by
        simpa only [not_or, not_not, not_le, ge_iff_le] using ho
      split
      · exact hk
      · split
        · simpa only [nSet_scene, countClass_alloc] using sceneKeys_mapPut hk (by simpa only [Bool.not_eq_false] using hc) hm hlt 2
        · simp only [sceneKeys_releaseObject hk]

theorem findPlace_alloc {d e : Dev} {n a : Nat} (h : findPlace d n = some (e, a)) : e.scene.alloc = d.scene.alloc := by
  unfold findPlace at h
  dsimp only at h
  split at h
  · cases h
  · split at h
    · split at h <;> cases h <;> simp
    · cases h

@[simp] theorem sceneKeys_realizeOp {d : Dev} (hk : SceneKeys d.scene.alloc) (i arg : Nat) : SceneKeys (realizeOp d i arg).1.scene.alloc := by
  unfold realizeOp
  split
  · exact hk
  · split
    · exact hk
    · dsimp only
      split
      · exact hk
      · next e a he =>
        refine sceneKeys_refreshLeases ?_
        simpa [discardFront, findPlace_alloc he] using hk

@[simp] theorem discardOp_alloc (d : Dev) (arg : Nat) : (discardOp d arg).1.scene.alloc = d.scene.alloc := by
  simp [discardOp]

@[simp] theorem stageWrite_alloc (d : Dev) (r : Ref) (v : Val) : (stageWrite d r v).1.scene.alloc = d.scene.alloc := by
  simp [stageWrite]

@[simp] theorem doSceneLeaseExpiry_alloc (d : Dev) : (doSceneLeaseExpiry d).scene.alloc = d.scene.alloc := by
  unfold doSceneLeaseExpiry
  split
  · simp
  · rfl

theorem sceneKeys_withGate {d : Dev} (sess : Nat) (r : Ref) {op : Dev → Dev × Status × List Byte}
    (hop : ∀ d, SceneKeys d.scene.alloc → SceneKeys (op d).1.scene.alloc) (hk : SceneKeys d.scene.alloc) :
    SceneKeys (withGate d sess r op).scene.alloc := by
  unfold withGate
  split
  · simpa using hk
  · simpa using hop d hk

@[simp] theorem sceneKeys_doAlloc (sess cls arg : Nat) {d : Dev} (hk : SceneKeys d.scene.alloc) : SceneKeys (doAlloc sess cls arg d).scene.alloc :=
  sceneKeys_withGate _ _ (fun _ h => sceneKeys_allocOp h _ _) hk

@[simp] theorem sceneKeys_doFree (sess cls : Nat) (arg : Ref) {d : Dev} (hk : SceneKeys d.scene.alloc) :
    SceneKeys (doFree sess cls arg d).scene.alloc :=
  sceneKeys_withGate _ _ (fun _ h => sceneKeys_freeOp h _ _) hk

@[simp] theorem sceneKeys_doRealize (sess surf arg : Nat) {d : Dev} (hk : SceneKeys d.scene.alloc) :
    SceneKeys (doRealize sess surf arg d).scene.alloc :=
  sceneKeys_withGate _ _ (fun _ h => sceneKeys_realizeOp h _ _) hk

@[simp] theorem doDiscard_alloc (sess : Nat) (arg : Nat) (d : Dev) : (doDiscard sess arg d).scene.alloc = d.scene.alloc := by
  simp [doDiscard]

/-! ### Model.lean -/

@[simp] theorem holdCapacity_alloc (d : Dev) : (holdCapacity d).scene.alloc = d.scene.alloc := by
  simp [holdCapacity]

/-! ### PipeRegs.lean -/

@[simp] theorem updPipe_alloc (d : Dev) (p : Nat) (f : Pipe → Pipe) : (updPipe d p f).scene.alloc = d.scene.alloc := by
  simp [updPipe]

@[simp] theorem countDropped_alloc (d : Dev) (prog : Ref) : (countDropped d prog).scene.alloc = d.scene.alloc := by
  simp [countDropped]

@[simp] theorem pipeWrite_alloc (d : Dev) (p : Nat) (off : Nat) (val : Nat) (line : Nat) (prog : Ref) (timed : Bool) :
    (pipeWrite d p off val line prog timed).scene.alloc = d.scene.alloc := by
  unfold pipeWrite
  dsimp only
  split
  · simp
  · split
    · simp
    · split
      · simp
      · split
        · simp
        · split
          · split
            · simp
            · split
              · simp
              · split <;> simp
          · simp

@[simp] theorem headWrite_alloc (d : Dev) (h : Nat) (off : Nat) (val : Nat) (prog : Ref) (timed : Bool) (pos : Nat × Nat) :
    (headWrite d h off val prog timed pos).scene.alloc = d.scene.alloc := by
  simp [headWrite]

@[simp] theorem loadPalette_alloc (d : Dev) (h : Nat) (pal : Ref) (p : Nat) : (loadPalette d h pal p).scene.alloc = d.scene.alloc := by
  simp [loadPalette]

@[simp] theorem loadPalettes_alloc (d : Dev) (h : Nat) (pals : List Ref) : (loadPalettes d h pals).scene.alloc = d.scene.alloc := by
  simp [loadPalettes]

@[simp] theorem loadNewPipes_alloc (d : Dev) (h : Nat) (old : List Nat) : (loadNewPipes d h old).scene.alloc = d.scene.alloc := by
  simp [loadNewPipes]

@[simp] theorem loadAllPalettes_alloc (d : Dev) (h : Nat) : (loadAllPalettes d h).scene.alloc = d.scene.alloc := by
  simp [loadAllPalettes]

@[simp] theorem setTimed_alloc (d : Dev) (isl : Nat) (l : List TimedWrite) : (setTimed d isl l).scene.alloc = d.scene.alloc := by
  simp [setTimed]

@[simp] theorem discardTimed_alloc (d : Dev) (h : Nat) : (discardTimed d h).scene.alloc = d.scene.alloc := by
  simp [discardTimed]

@[simp] theorem countLate_alloc (d : Dev) (t : Nat) (pos : Nat) : (countLate d t pos).scene.alloc = d.scene.alloc := by
  simp [countLate]

/-! ### Threads.lean -/

@[simp] theorem updThread_alloc (d : Dev) (t : Nat) (f : Thread → Thread) : (updThread d t f).scene.alloc = d.scene.alloc := by
  simp [updThread]

@[simp] theorem setRun_alloc (d : Dev) (t : Nat) (st : TState) : (setRun d t st).scene.alloc = d.scene.alloc := by
  simp [setRun]

@[simp] theorem fillView_alloc (d : Dev) (t : Nat) (img : List Byte) : (fillView d t img).scene.alloc = d.scene.alloc := by
  simp [fillView]

@[simp] theorem loseScratch_alloc (d : Dev) (engine : Nat → Bool) : (loseScratch d engine).scene.alloc = d.scene.alloc := by
  simp [loseScratch]

@[simp] theorem gateIdle_alloc (d : Dev) : (gateIdle d).scene.alloc = d.scene.alloc := by
  simp [gateIdle]

@[simp] theorem reportEngine_alloc (d : Dev) (e : Nat) : (reportEngine d e).scene.alloc = d.scene.alloc := by
  simp [reportEngine]

@[simp] theorem startThreadAt_alloc (s : State) (p : ProgPlace) (code : Nat) (view : List Nat) :
    (startThreadAt s p code view).dev.scene.alloc = s.dev.scene.alloc := by
  simp [startThreadAt]

@[simp] theorem stopThread_alloc (d : Dev) (t : Nat) : (stopThread d t).scene.alloc = d.scene.alloc := by
  simp [stopThread]

@[simp] theorem showLoading_alloc (d : Dev) : (showLoading d).scene.alloc = d.scene.alloc := by
  simp [showLoading]

@[simp] theorem leaveThread_alloc (d : Dev) (p : ProgPlace) : (leaveThread d p).scene.alloc = d.scene.alloc := by
  simp [leaveThread]

@[simp] theorem startThread_alloc (s : State) (p : ProgPlace) : (startThread s p).dev.scene.alloc = s.dev.scene.alloc := by
  simp [startThread]

@[simp] theorem faultThread_alloc (d : Dev) (t : Nat) (code : Nat) : (faultThread d t code).scene.alloc = d.scene.alloc := by
  simp [faultThread]

@[simp] theorem restartThread_alloc (d : Dev) (t : Nat) : (restartThread d t).scene.alloc = d.scene.alloc := by
  simp [restartThread]

@[simp] theorem liftRasterFaults_alloc (d : Dev) (h : Nat) : (liftRasterFaults d h).scene.alloc = d.scene.alloc := by
  simp [liftRasterFaults]

@[simp] theorem liftHouseFault_alloc (d : Dev) (prog : Ref) : (liftHouseFault d prog).scene.alloc = d.scene.alloc := by
  simp [liftHouseFault]

/-! ### Wear.lean -/

@[simp] theorem updPanel_alloc (d : Dev) (h : Nat) (f : PanelSt → PanelSt) : (updPanel d h f).scene.alloc = d.scene.alloc := by
  simp [updPanel]

@[simp] theorem countGap_alloc (d : Dev) (h : Nat) : (countGap d h).scene.alloc = d.scene.alloc := by
  unfold countGap
  dsimp only
  split <;> simp

@[simp] theorem readRecord_alloc (d : Dev) (h : Nat) (typ : Nat) (off : Nat) (len : Nat) :
    (readRecord d h typ off len).scene.alloc = d.scene.alloc := by
  simp [readRecord]

@[simp] theorem readNext_alloc (d : Dev) (h : Nat) (typ : Nat) (b : List Byte) : (readNext d h typ b).scene.alloc = d.scene.alloc := by
  simp [readNext]

@[simp] theorem startRead_alloc (d : Dev) (h : Nat) (typ : Nat) : (startRead d h typ).scene.alloc = d.scene.alloc := by
  simp [startRead]

@[simp] theorem reloadDoses_alloc (d : Dev) : (reloadDoses d).scene.alloc = d.scene.alloc := by
  simp [reloadDoses]

@[simp] theorem setGains_alloc (d : Dev) (h : Nat) (atOnce : Bool) : (setGains d h atOnce).scene.alloc = d.scene.alloc := by
  simp [setGains]

@[simp] theorem checkWear_alloc (d : Dev) (h : Nat) : (checkWear d h).scene.alloc = d.scene.alloc := by
  simp [checkWear]

@[simp] theorem passRow_alloc (d : Dev) (h : Nat) (r : Nat) : (passRow d h r).scene.alloc = d.scene.alloc := by
  simp [passRow]

@[simp] theorem flushDose_alloc (d : Dev) (h : Nat) : (flushDose d h).scene.alloc = d.scene.alloc := by
  unfold flushDose
  refine foldl_alloc (fun d a => ?_) _ _
  split <;> simp

@[simp] theorem wearAgain_alloc (d : Dev) (h : Nat) : (wearAgain d h).scene.alloc = d.scene.alloc := by
  simp [wearAgain]

@[simp] theorem sendIdRequest_alloc (d : Dev) (h : Nat) : (sendIdRequest d h).scene.alloc = d.scene.alloc := by
  simp [sendIdRequest]

@[simp] theorem startIdentity_alloc (d : Dev) (h : Nat) : (startIdentity d h).scene.alloc = d.scene.alloc := by
  simp [startIdentity]

@[simp] theorem panelCheck_alloc (d : Dev) (h : Nat) : (panelCheck d h).scene.alloc = d.scene.alloc := by
  simp [panelCheck]

/-! ### Apply.lean -/

@[simp] theorem setLive_alloc (d : Dev) (h : Nat) (num : Nat) (r : Ref) (v : Val) : (setLive d h num r v).scene.alloc = d.scene.alloc := by
  simp [setLive]

@[simp] theorem setLives_alloc (d : Dev) (h : Nat) (num : Nat) (ws : List (Ref × Val)) : (setLives d h num ws).scene.alloc = d.scene.alloc := by
  simp [setLives]

@[simp] theorem applyWrites_alloc (d : Dev) (h : Nat) (c : PendingCommit) : (applyWrites d h c).scene.alloc = d.scene.alloc := by
  simp [applyWrites]

@[simp] theorem recordApplied_alloc (d : Dev) (h : Nat) (c : PendingCommit) (sup : Bool) : (recordApplied d h c sup).scene.alloc = d.scene.alloc := by
  simp [recordApplied]

@[simp] theorem loadChanged_alloc (d : Dev) (h : Nat) (before : List Ref) (cs : List PendingCommit) :
    (loadChanged d h before cs).scene.alloc = d.scene.alloc := by
  simp [loadChanged]

@[simp] theorem reportBands_alloc (d : Dev) : (reportBands d).scene.alloc = d.scene.alloc := by
  simp [reportBands]

@[simp] theorem reportPipe_alloc (d : Dev) (p : Nat) : (reportPipe d p).scene.alloc = d.scene.alloc := by
  unfold reportPipe
  dsimp only
  split <;> simp

@[simp] theorem reportPipes_alloc (d : Dev) (h : Nat) : (reportPipes d h).scene.alloc = d.scene.alloc := by
  simp [reportPipes]

@[simp] theorem reportEveryPipe_alloc (d : Dev) : (reportEveryPipe d).scene.alloc = d.scene.alloc := by
  simp [reportEveryPipe]

@[simp] theorem reportHead_alloc (d : Dev) (h : Nat) : (reportHead d h).scene.alloc = d.scene.alloc := by
  unfold reportHead
  dsimp only
  split <;> simp

@[simp] theorem takePlacement_alloc (s : State) (h : Nat) (nums : List Nat) : (takePlacement s h nums).dev.scene.alloc = s.dev.scene.alloc := by
  unfold takePlacement
  dsimp only
  split
  · rfl
  · simp

@[simp] theorem takeActions_alloc (d : Dev) (h : Nat) : (takeActions d h).scene.alloc = d.scene.alloc := by
  simp [takeActions]

@[simp] theorem dropClasses_alloc (d : Dev) : (dropClasses d).scene.alloc = d.scene.alloc := by
  simp [dropClasses]

@[simp] theorem anchorHead_alloc (d : Dev) (h : Nat) : (anchorHead d h).scene.alloc = d.scene.alloc := by
  unfold anchorHead
  split
  · rfl
  · simp

@[simp] theorem lookLanes_alloc (d : Dev) (h : Nat) : (lookLanes d h).scene.alloc = d.scene.alloc := by
  simp [lookLanes]

@[simp] theorem takeCoupling_alloc (d : Dev) (h : Nat) : (takeCoupling d h).scene.alloc = d.scene.alloc := by
  unfold takeCoupling
  split <;> rfl

@[simp] theorem startHead_alloc (d : Dev) (h : Nat) : (startHead d h).scene.alloc = d.scene.alloc := by
  simp [startHead]

@[simp] theorem stopHeadNow_alloc (d : Dev) (h : Nat) : (stopHeadNow d h).scene.alloc = d.scene.alloc := by
  simp [stopHeadNow]

@[simp] theorem applyCommits_alloc (s : State) (h : Nat) (cs : List PendingCommit) : (applyCommits s h cs).dev.scene.alloc = s.dev.scene.alloc := by
  unfold applyCommits
  split
  · rfl
  · simp

@[simp] theorem applyRest_alloc (s : State) (h : Nat) : (applyRest s h).dev.scene.alloc = s.dev.scene.alloc := by
  simp [applyRest]

@[simp] theorem recouple_alloc (d : Dev) (h : Nat) : (recouple d h).scene.alloc = d.scene.alloc := by
  unfold recouple
  dsimp only
  split <;> simp

@[simp] theorem reportAll_alloc (d : Dev) (h : Nat) : (reportAll d h).scene.alloc = d.scene.alloc := by
  simp [reportAll]

@[simp] theorem settleIdle_alloc (d : Dev) (h : Nat) : (settleIdle d h).scene.alloc = d.scene.alloc := by
  simp [settleIdle]

@[simp] theorem applyIdle_alloc (s : State) (h : Nat) (cs : List PendingCommit) : (applyIdle s h cs).dev.scene.alloc = s.dev.scene.alloc := by
  simp [applyIdle]

end Sys2Proof.Machine
end

section
/-!
What a step leaves in `alloc`, the allocated objects (R87, R91): requests, the commits of a session, memory reads, pipes and heads.
`f_alloc` says that `f` leaves them, `sceneKeys_f` that `f` leaves only whole objects of a scene class.
-/
namespace Sys2Proof.Machine

/-! ### Uplinks.lean -/

@[simp] theorem sendFrame_alloc (d : Dev) (u : Nat) (q : Nat) (mark : TxMark) (f : List Byte) :
    (sendFrame d u q mark f).scene.alloc = d.scene.alloc := by
  simp [sendFrame]

@[simp] theorem sendEth_alloc (d : Dev) (u : Nat) (f : List Byte) : (sendEth d u f).scene.alloc = d.scene.alloc := by
  simp [sendEth]

@[simp] theorem sendIp_alloc (d : Dev) (u : Nat) (dst : List Byte) (typ : Nat) (body : List Byte) :
    (sendIp d u dst typ body).scene.alloc = d.scene.alloc := by
  simp [sendIp]

@[simp] theorem sendNoap_alloc (d : Dev) (p : Peer) (dgram : List Byte) : (sendNoap d p dgram).scene.alloc = d.scene.alloc := by
  simp [sendNoap]

@[simp] theorem advert_alloc (d : Dev) (u : Nat) (a : List Byte) (flags : Nat) (dstMac : List Byte) (dst : List Byte) :
    (advert d u a flags dstMac dst).scene.alloc = d.scene.alloc := by
  simp [advert]

@[simp] theorem addrState_alloc (d : Dev) : (addrState d).scene.alloc = d.scene.alloc := by
  simp [addrState]

@[simp] theorem updSlopes_alloc (d : Dev) : (updSlopes d).scene.alloc = d.scene.alloc := by
  simp [updSlopes]

@[simp] theorem failover_alloc (d : Dev) (u : Nat) : (failover d u).scene.alloc = d.scene.alloc := by
  simp [failover]

@[simp] theorem dropQueues_alloc (d : Dev) (u : Nat) : (dropQueues d u).scene.alloc = d.scene.alloc := by
  simp [dropQueues]

@[simp] theorem pcsRestart_alloc (d : Dev) (u : Nat) : (pcsRestart d u).scene.alloc = d.scene.alloc := by
  simp [pcsRestart]

@[simp] theorem linkDown_alloc (d : Dev) (u : Nat) : (linkDown d u).scene.alloc = d.scene.alloc := by
  simp [linkDown]

@[simp] theorem restartUplinks_alloc (d : Dev) : (restartUplinks d).scene.alloc = d.scene.alloc := by
  simp [restartUplinks]

/-! ### Requests.lean -/

@[simp] theorem sendMessage_alloc (d : Dev) (sess : Nat) (peer : Peer) (typ : Nat) (flags : Nat) (seq : Nat) (body : List Byte) :
    (sendMessage d sess peer typ flags seq body).scene.alloc = d.scene.alloc := by
  simp [sendMessage]

@[simp] theorem answer_alloc (d : Dev) (sess : Nat) (seq : Nat) (typ : Nat) (body : List Byte) :
    (answer d sess seq typ body).scene.alloc = d.scene.alloc := by
  simp [answer]

@[simp] theorem hearHost_alloc (d : Dev) (sess : Nat) : (hearHost d sess).scene.alloc = d.scene.alloc := by
  simp [hearHost]

@[simp] theorem requestIn_alloc (x : Session) (r : Req) (n : Nat) (d : Dev) : (requestIn x r n d).scene.alloc = d.scene.alloc := by
  unfold requestIn
  split <;> simp

@[simp] theorem takeTurn_alloc (d : Dev) (sess : Nat) (seq : Nat) (typ : Nat) (flags : Nat) (n : Nat) :
    (takeTurn d sess seq typ flags n).1.scene.alloc = d.scene.alloc := by
  unfold takeTurn
  split
  · rfl
  · simp

@[simp] theorem beginRequest_alloc (d : Dev) (sess : Nat) (seq : Nat) : (beginRequest d sess seq).scene.alloc = d.scene.alloc := by
  simp [beginRequest]

/-! ### Commit.lean -/

@[simp] theorem writeRecord_alloc (d : Dev) (e : Evaluation) (st : Status) (taken : Nat) :
    (writeRecord d e st taken).scene.alloc = d.scene.alloc := by
  simp [writeRecord]

@[simp] theorem endEvaluation_alloc (d : Dev) (e : Evaluation) (st : Status) : (endEvaluation d e st).scene.alloc = d.scene.alloc := by
  simp [endEvaluation]

@[simp] theorem refuseState_alloc (d : Dev) (e : Evaluation) (r : Refused) : (refuseState d e r).scene.alloc = d.scene.alloc := by
  simp [refuseState]

@[simp] theorem refusePlacement_alloc (d : Dev) (e : Evaluation) (f : Fail) : (refusePlacement d e f).scene.alloc = d.scene.alloc := by
  simp [refusePlacement]

@[simp] theorem commitReceived_alloc (d : Dev) (m : List Host.Cell) (sess : Nat) (seq : Nat) (mask : Nat) (dry : Bool) :
    (commitReceived d m sess seq mask dry).scene.alloc = d.scene.alloc := by
  unfold commitReceived
  dsimp only
  split
  · simp
  · split <;> simp

@[simp] theorem reportModel_alloc (d : Dev) (peaks : List ℚ) : (reportModel d peaks).scene.alloc = d.scene.alloc := by
  simp [reportModel]

@[simp] theorem announceActions_alloc (d : Dev) (old : List Action) (new : List Action) :
    (announceActions d old new).scene.alloc = d.scene.alloc := by
  simp [announceActions]

@[simp] theorem reportMigration_alloc (d : Dev) : (reportMigration d).scene.alloc = d.scene.alloc := by
  simp [reportMigration]

@[simp] theorem nextMigration_alloc (d : Dev) (q : List Ref) : (nextMigration d q).scene.alloc = d.scene.alloc := by
  induction q generalizing d with
  | nil => rfl
  | cons o q ih =>
    unfold nextMigration
    split
    · simp
    · exact ih d

@[simp] theorem startMigration_alloc (d : Dev) : (startMigration d).scene.alloc = d.scene.alloc := by
  unfold startMigration
  split <;> simp

@[simp] theorem abortMigration_alloc (d : Dev) : (abortMigration d).scene.alloc = d.scene.alloc := by
  unfold abortMigration
  split
  · rfl
  · simp

@[simp] theorem pinMigration_alloc (d : Dev) : (pinMigration d).scene.alloc = d.scene.alloc := by
  unfold pinMigration
  split
  · simp
  · rfl

@[simp] theorem touchMigration_alloc (d : Dev) (a : Nat) (n : Nat) : (touchMigration d a n).scene.alloc = d.scene.alloc := by
  unfold touchMigration
  split
  · simp
  · rfl

@[simp] theorem placeFree_alloc (s : State) (vd : Verdict) : (placeFree s vd).dev.scene.alloc = s.dev.scene.alloc := by
  simp [placeFree]

@[simp] theorem takeVerdict_alloc (d : Dev) (vd : Verdict) (acts : List Action) : (takeVerdict d vd acts).scene.alloc = d.scene.alloc := by
  simp [takeVerdict]

@[simp] theorem replaceHeads_alloc (d : Dev) (vd : Verdict) (acts : List Action) (hs : List Nat) :
    (replaceHeads d vd acts hs).scene.alloc = d.scene.alloc := by
  unfold replaceHeads
  rw [showLoading_alloc]
  refine foldl_alloc (fun d h => ?_) _ _
  dsimp only
  split <;> rfl

@[simp] theorem replaceAll_alloc (d : Dev) (vd : Verdict) (acts : List Action) : (replaceAll d vd acts).scene.alloc = d.scene.alloc := by
  simp [replaceAll]

@[simp] theorem takeFree_alloc (s : State) : (takeFree s).dev.scene.alloc = s.dev.scene.alloc := by
  simp [takeFree]

@[simp] theorem settleCauses_alloc (d : Dev) (acts : List Action) (h : Nat) : (settleCauses d acts h).scene.alloc = d.scene.alloc := by
  simp [settleCauses]

@[simp] theorem rerunModel_alloc (d : Dev) : (rerunModel d).scene.alloc = d.scene.alloc := by
  simp [rerunModel]

@[simp] theorem rerunIfHeld_alloc (d : Dev) (h : Nat) (applied : Bool) : (rerunIfHeld d h applied).scene.alloc = d.scene.alloc := by
  simp [rerunIfHeld]

@[simp] theorem modelUnderrun_alloc (d : Dev) : (modelUnderrun d).scene.alloc = d.scene.alloc := by
  simp [modelUnderrun]

@[simp] theorem capacityChanged_alloc (d : Dev) : (capacityChanged d).scene.alloc = d.scene.alloc := by
  simp [capacityChanged]

@[simp] theorem refreshModel_alloc (d : Dev) : (refreshModel d).scene.alloc = d.scene.alloc := by
  simp [refreshModel]

@[simp] theorem liftStep_alloc (d : Dev) : (liftStep d).scene.alloc = d.scene.alloc := by
  simp [liftStep]

@[simp] theorem tryUndo_alloc (d : Dev) (which : List Action) : (tryUndo d which).scene.alloc = d.scene.alloc := by
  simp [tryUndo]

@[simp] theorem admitCommit_alloc (s : State) (e : Evaluation) (vd : Verdict) (acts : List Action) :
    (admitCommit s e vd acts).dev.scene.alloc = s.dev.scene.alloc := by
  simp [admitCommit]

@[simp] theorem decide'_alloc (s : State) (e : Evaluation) : (decide' s e).dev.scene.alloc = s.dev.scene.alloc := by
  unfold decide'
  dsimp only
  split
  · simp
  · split <;> simp

@[simp] theorem afterDecision_alloc (d : Dev) : (afterDecision d).scene.alloc = d.scene.alloc := by
  simp [afterDecision]

@[simp] theorem doCapacityStep_alloc (kind : Nat) (unit : Nat) (d : Dev) : (doCapacityStep kind unit d).scene.alloc = d.scene.alloc := by
  simp [doCapacityStep]

@[simp] theorem sceneKeys_doCapacityStepUndo (d : Dev) (hk : SceneKeys d.scene.alloc) :
    SceneKeys (doCapacityStepUndo d).scene.alloc := by
  simp [doCapacityStepUndo, hk]

@[simp] theorem finishMigration_alloc (d : Dev) (m : Migration) : (finishMigration d m).scene.alloc = d.scene.alloc := by
  simp [finishMigration]

@[simp] theorem settleMigration_alloc (d : Dev) : (settleMigration d).scene.alloc = d.scene.alloc := by
  unfold settleMigration
  split
  · simp
  · rfl

@[simp] theorem switchMigration_alloc (d : Dev) (h : Nat) : (switchMigration d h).scene.alloc = d.scene.alloc := by
  unfold switchMigration
  split
  · simp
  · rfl

@[simp] theorem sceneKeys_doFreeMigrating (sess : Nat) (cls : Nat) (arg : Ref) (d : Dev) (hk : SceneKeys d.scene.alloc) :
    SceneKeys (doFreeMigrating sess cls arg d).scene.alloc := by
  unfold doFreeMigrating
  dsimp only
  split <;> simp [hk]

/-! ### Memory.lean -/

@[simp] theorem endPass_alloc (d : Dev) : (endPass d).scene.alloc = d.scene.alloc := by
  simp [endPass]

@[simp] theorem sceneKeys_retireChannel (d : Dev) (c : Nat) (cause : Nat) (hk : SceneKeys d.scene.alloc) :
    SceneKeys (retireChannel d c cause).scene.alloc := by
  simp [retireChannel, hk]

@[simp] theorem sceneKeys_reportBad (d : Dev) (b : Nat) (c : Nat) (master : Nat) (kind : Nat) (hk : SceneKeys d.scene.alloc) :
    SceneKeys (reportBad d b c master kind).scene.alloc := by
  simp [reportBad, hk]

@[simp] theorem sceneKeys_decodeBlock (d : Dev) (b : Nat) (c : Nat) (master : Nat) (kind : Nat) (hk : SceneKeys d.scene.alloc) :
    SceneKeys (decodeBlock d b c master kind).scene.alloc := by
  simp [decodeBlock, hk]

@[simp] theorem sceneKeys_readRange (d : Dev) (a n cls : Nat) (hk : SceneKeys d.scene.alloc) : SceneKeys (readRange d a n cls).scene.alloc := by
  unfold readRange
  refine sceneKeys_foldl (fun d b hd => ?_) _ (by simpa using hk)
  split <;> simp [hd]

@[simp] theorem sceneKeys_failRmw (d : Dev) (a n master : Nat) (hk : SceneKeys d.scene.alloc) : SceneKeys (failRmw d a n master).scene.alloc := by
  unfold failRmw
  refine sceneKeys_foldl (fun d b hd => ?_) _ (by simpa using hk)
  split <;> simp [hd]

@[simp] theorem putRange_alloc (s : State) (cls : Nat) (a : Nat) (bs : List Byte) : (putRange s cls a bs).dev.scene.alloc = s.dev.scene.alloc := by
  simp [putRange]

@[simp] theorem deliver_alloc (d : Dev) (m : List Host.Cell) (r : DramRead) : (deliver d m r).scene.alloc = d.scene.alloc := by
  simp [deliver]

@[simp] theorem sceneKeys_doDramReadComplete (tag : Fin 512) (found : List ByteError) (s : State) (hk : SceneKeys s.dev.scene.alloc) :
    SceneKeys (doDramReadComplete tag found s).dev.scene.alloc := by
  unfold doDramReadComplete
  dsimp only
  split
  · exact hk
  · simp [hk]

@[simp] theorem finishWriteBack_alloc (d : Dev) (c : Nat) : (finishWriteBack d c).scene.alloc = d.scene.alloc := by
  unfold finishWriteBack
  split
  · rfl
  · simp

@[simp] theorem sceneKeys_doScrubRead (c : Fin 8) (found : List ByteError) (d : Dev) (hk : SceneKeys d.scene.alloc) :
    SceneKeys (doScrubRead c found d).scene.alloc := by
  unfold doScrubRead
  split
  · exact hk
  · split
    · exact hk
    · simp [hk]

@[simp] theorem sceneKeys_doMigrationCopyComplete (s : State) (hk : SceneKeys s.dev.scene.alloc) :
    SceneKeys (doMigrationCopyComplete s).dev.scene.alloc := by
  unfold doMigrationCopyComplete
  dsimp only
  split
  · exact hk
  · next g _ =>
    have hread : ∀ l : List Nat, SceneKeys (l.foldl (fun d b => readRange d (b * 256) 256 2) s.dev).scene.alloc :=
      fun l => sceneKeys_foldl (fun d b => sceneKeys_readRange d _ _ _) l hk
    split
    · exact hk
    · split <;> simp [hread]

@[simp] theorem sceneKeys_doChannelRetire (c : Fin 8) (cause : Nat) (d : Dev) (hk : SceneKeys d.scene.alloc) :
    SceneKeys (doChannelRetire c cause d).scene.alloc := by
  simp [doChannelRetire, hk]

@[simp] theorem sceneKeys_retireOp (d : Dev) (c : Nat) (arg : Nat) (hk : SceneKeys d.scene.alloc) :
    SceneKeys (retireOp d c arg).1.scene.alloc := by
  simp [retireOp, hk]

@[simp] theorem unretireOp_alloc (d : Dev) (c : Nat) (arg : Nat) : (unretireOp d c arg).1.scene.alloc = d.scene.alloc := by
  simp [unretireOp]

@[simp] theorem sceneKeys_doRetire (sess : Nat) (c : Fin 8) (arg : Nat) {d : Dev} (hk : SceneKeys d.scene.alloc) :
    SceneKeys (doRetire sess c arg d).scene.alloc :=
  sceneKeys_withGate _ _ (fun _ h => sceneKeys_retireOp _ _ _ h) hk

@[simp] theorem doUnretire_alloc (sess : Nat) (c : Fin 8) (arg : Nat) (d : Dev) : (doUnretire sess c arg d).scene.alloc = d.scene.alloc := by
  simp [doUnretire]

@[simp] theorem startTraining_alloc (d : Dev) : (startTraining d).scene.alloc = d.scene.alloc := by
  simp only [startTraining, moveReserved_alloc]
  refine foldl_alloc (fun d c => ?_) _ _
  split <;> simp

@[simp] theorem beginInit_alloc (d : Dev) : (beginInit d).scene.alloc = d.scene.alloc := by
  simp [beginInit]

@[simp] theorem sceneKeys_doDramTrainingComplete (c : Fin 8) (good : Bool) (d : Dev) (hk : SceneKeys d.scene.alloc) :
    SceneKeys (doDramTrainingComplete c good d).scene.alloc := by
  simp [doDramTrainingComplete, hk]

/-! ### Compose.lean -/

@[simp] theorem askBlocks_alloc (d : Dev) (unit : Nat) (l : List (Nat × Nat)) : (askBlocks d unit l).scene.alloc = d.scene.alloc := by
  simp [askBlocks]

@[simp] theorem askLine_alloc (d : Dev) (m : List Host.Cell) (p : Nat) : (askLine d m p).scene.alloc = d.scene.alloc := by
  unfold askLine
  split
  · simp
  · rfl

@[simp] theorem askResident_alloc (d : Dev) (m : List Host.Cell) (p : Nat) : (askResident d m p).scene.alloc = d.scene.alloc := by
  simp [askResident]

@[simp] theorem countSprites_alloc (d : Dev) (x : Frame) (p : Nat) (l : Ref) (y : Nat) : (countSprites d x p l y).scene.alloc = d.scene.alloc := by
  simp [countSprites]

@[simp] theorem handOver_alloc (d : Dev) (m : List Host.Cell) (b : BandPlace) (y : Nat) : (handOver d m b y).scene.alloc = d.scene.alloc := by
  simp [handOver]

@[simp] theorem recompose_alloc (d : Dev) (m : List Host.Cell) (h : Nat) (line : Nat) (col : Nat) :
    (recompose d m h line col).scene.alloc = d.scene.alloc := by
  simp [recompose]

@[simp] theorem noteRead_alloc (d : Dev) (h : Nat) (ks : List Nat) : (noteRead d h ks).scene.alloc = d.scene.alloc := by
  simp [noteRead]

@[simp] theorem doPipeLineCompose_alloc (p : Fin 32) (m : List Host.Cell) (d : Dev) : (doPipeLineCompose p m d).scene.alloc = d.scene.alloc := by
  unfold doPipeLineCompose
  split
  · rfl
  · simp

@[simp] theorem sceneKeys_pipeReads (d : Dev) (m : List Host.Cell) (p : Nat) (run : Nat × Nat) (hk : SceneKeys d.scene.alloc) :
    SceneKeys (pipeReads d m p run).scene.alloc :=
  sceneKeys_foldl (fun d e hd => by simp [hd]) _ hk

@[simp] theorem sceneKeys_doRaceLineRead (p : Fin 32) (slot : Fin 2) (r : Nat) (m : List Host.Cell) (d : Dev) (hk : SceneKeys d.scene.alloc) :
    SceneKeys (doRaceLineRead p slot r m d).scene.alloc := by
  unfold doRaceLineRead
  split
  · exact hk
  · simp [hk]

@[simp] theorem doResidentLoadComplete_alloc (p : Fin 32) (d : Dev) : (doResidentLoadComplete p d).scene.alloc = d.scene.alloc := by
  simp [doResidentLoadComplete]

/-! ### Send.lean -/

@[simp] theorem countUnderrun_alloc (d : Dev) (h : Nat) (y : Nat) : (countUnderrun d h y).scene.alloc = d.scene.alloc := by
  simp [countUnderrun]

@[simp] theorem addDose_alloc (d : Dev) (h : Nat) (y : Nat) (l : List Pix) : (addDose d h y l).scene.alloc = d.scene.alloc := by
  simp [addDose]

@[simp] theorem signLine_alloc (d : Dev) (h : Nat) (y : Nat) (l : List Pix) : (signLine d h y l).scene.alloc = d.scene.alloc := by
  simp [signLine]

@[simp] theorem sendPanelLine_alloc (d : Dev) (h : Nat) (y : Nat) (composed : List Pix) :
    (sendPanelLine d h y composed).scene.alloc = d.scene.alloc := by
  simp [sendPanelLine]

@[simp] theorem sendReady_alloc (h : Nat) (y : Nat) (n : Nat) (d : Dev) : (sendReady h y n d).scene.alloc = d.scene.alloc := by
  induction n generalizing d with
  | zero => rfl
  | succ n ih => simp [sendReady, ih]

@[simp] theorem mixLine_sendDark_alloc (d : Dev) (h : Nat) (y : Nat) (zero : List Pix) :
    (mixLine.sendDark d h y zero).scene.alloc = d.scene.alloc := by
  simp [mixLine.sendDark]

@[simp] theorem mixLine_alloc (d : Dev) (m : List Host.Cell) (h : Nat) (y : Nat) : (mixLine d m h y).scene.alloc = d.scene.alloc := by
  unfold mixLine
  dsimp only
  split
  · simp
  · split <;> simp

@[simp] theorem mixUntil_alloc (m : List Host.Cell) (h : Nat) (bound : Nat) (d : Dev) : (mixUntil m h bound d).scene.alloc = d.scene.alloc := by
  simp [mixUntil]

@[simp] theorem scanHead_alloc (d : Dev) (m : List Host.Cell) (h : Nat) : (scanHead d m h).scene.alloc = d.scene.alloc := by
  simp [scanHead]

@[simp] theorem scanRest_alloc (d : Dev) (m : List Host.Cell) (h : Nat) : (scanRest d m h).scene.alloc = d.scene.alloc := by
  simp [scanRest]

@[simp] theorem scanHeads_alloc (d : Dev) (m : List Host.Cell) : (scanHeads d m).scene.alloc = d.scene.alloc := by
  simp [scanHeads]

/-! ### Heads.lean -/

@[simp] theorem takeTiming_alloc (d : Dev) (h : Nat) (t : Timing) (b : ℚ) : (takeTiming d h t b).scene.alloc = d.scene.alloc := by
  unfold takeTiming
  dsimp only
  split <;> simp

@[simp] theorem loadColour_alloc (d : Dev) (h : Nat) (hold : Bool) : (loadColour d h hold).scene.alloc = d.scene.alloc := by
  simp [loadColour]

@[simp] theorem loadRegs_alloc (d : Dev) (h : Nat) : (loadRegs d h).scene.alloc = d.scene.alloc := by
  simp [loadRegs]

@[simp] theorem loadOrbit_alloc (d : Dev) (h : Nat) (hold : Bool) : (loadOrbit d h hold).scene.alloc = d.scene.alloc := by
  simp [loadOrbit]

@[simp] theorem loadAutumn_alloc (d : Dev) (h : Nat) : (loadAutumn d h).scene.alloc = d.scene.alloc := by
  simp [loadAutumn]

@[simp] theorem latchSlots_alloc (d : Dev) (h : Nat) : (latchSlots d h).scene.alloc = d.scene.alloc := by
  simp [latchSlots]

@[simp] theorem closeSignatures_alloc (d : Dev) (h : Nat) (frame : Nat) (shown : Bool) :
    (closeSignatures d h frame shown).scene.alloc = d.scene.alloc := by
  simp [closeSignatures]

@[simp] theorem sendSig_alloc (d : Dev) (h : Nat) : (sendSig d h).scene.alloc = d.scene.alloc := by
  simp [sendSig]

@[simp] theorem compareSig_alloc (d : Dev) (h : Nat) (n : Nat) : (compareSig d h n).scene.alloc = d.scene.alloc := by
  unfold compareSig
  dsimp only
  split
  · rfl
  · split <;> simp

@[simp] theorem ageReads_alloc (d : Dev) (p : Nat) (h : Nat) : (ageReads d p h).scene.alloc = d.scene.alloc := by
  simp [ageReads]

@[simp] theorem cancelOld_alloc (d : Dev) (h : Nat) : (cancelOld d h).scene.alloc = d.scene.alloc := by
  simp [cancelOld]

@[simp] theorem resetPipe_alloc (d : Dev) (p : Nat) : (resetPipe d p).scene.alloc = d.scene.alloc := by
  simp [resetPipe]

@[simp] theorem selectBuffers_alloc (d : Dev) (h : Nat) : (selectBuffers d h).scene.alloc = d.scene.alloc := by
  simp [selectBuffers]

@[simp] theorem withdrawLayers_alloc (d : Dev) (h : Nat) : (withdrawLayers d h).scene.alloc = d.scene.alloc := by
  simp [withdrawLayers]

@[simp] theorem restartKept_alloc (d : Dev) (before : List (Nat × Ref)) (h : Nat) : (restartKept d before h).scene.alloc = d.scene.alloc := by
  simp [restartKept]

@[simp] theorem beginFrame_alloc (d : Dev) (m : List Host.Cell) (h : Nat) : (beginFrame d m h).scene.alloc = d.scene.alloc := by
  simp [beginFrame]

@[simp] theorem countBoundary_alloc (d : Dev) (h : Nat) (target : ℚ) : (countBoundary d h target).scene.alloc = d.scene.alloc := by
  simp [countBoundary]

@[simp] theorem traceBoundary_alloc (d : Dev) (h : Nat) : (traceBoundary d h).scene.alloc = d.scene.alloc := by
  simp [traceBoundary]

@[simp] theorem announceBoundary_alloc (d : Dev) (h : Nat) : (announceBoundary d h).scene.alloc = d.scene.alloc := by
  simp [announceBoundary]

@[simp] theorem reportBoundary_alloc (d : Dev) (h : Nat) : (reportBoundary d h).scene.alloc = d.scene.alloc := by
  simp [reportBoundary]

@[simp] theorem modeSent_alloc (d : Dev) (h : Nat) : (modeSent d h).scene.alloc = d.scene.alloc := by
  simp [modeSent]

@[simp] theorem oweMode_alloc (d : Dev) (h : Nat) : (oweMode d h).scene.alloc = d.scene.alloc := by
  simp [oweMode]

@[simp] theorem endRelock_alloc (s : State) (h : Nat) : (endRelock s h).dev.scene.alloc = s.dev.scene.alloc := by
  simp [endRelock]

@[simp] theorem beginRelock_alloc (d : Dev) (h : Nat) (cs : List PendingCommit) (b : ℚ) : (beginRelock d h cs b).scene.alloc = d.scene.alloc := by
  simp [beginRelock]

@[simp] theorem beginRetrain_alloc (d : Dev) (h : Nat) (cs : List PendingCommit) : (beginRetrain d h cs).scene.alloc = d.scene.alloc := by
  simp [beginRetrain]

@[simp] theorem stopAtBoundary_alloc (s : State) (h : Nat) (cs : List PendingCommit) :
    (stopAtBoundary s h cs).dev.scene.alloc = s.dev.scene.alloc := by
  simp [stopAtBoundary]

@[simp] theorem boundaryCommits_alloc (s : State) (h : Nat) (b : ℚ) : (boundaryCommits s h b).1.dev.scene.alloc = s.dev.scene.alloc := by
  unfold boundaryCommits
  dsimp only
  split
  · simp
  · split
    · simp
    · split <;> simp

@[simp] theorem releaseHeld_alloc (d : Dev) (h : Nat) : (releaseHeld d h).scene.alloc = d.scene.alloc := by
  simp [releaseHeld]

@[simp] theorem sceneKeys_doHeadFrameBoundary (h : Fin 16) (s : State) (hk : SceneKeys s.dev.scene.alloc) :
    SceneKeys (doHeadFrameBoundary h s).dev.scene.alloc := by
  simp [doHeadFrameBoundary, hk]

@[simp] theorem sceneKeys_doHeadFirstBoundary (h : Fin 16) (s : State) (hk : SceneKeys s.dev.scene.alloc) :
    SceneKeys (doHeadFirstBoundary h s).dev.scene.alloc := by
  simp [doHeadFirstBoundary, hk]

@[simp] theorem doLineMatch_alloc (h : Fin 16) (k : Fin 4) (d : Dev) : (doLineMatch h k d).scene.alloc = d.scene.alloc := by
  simp [doLineMatch]

@[simp] theorem freeLeaving_alloc (d : Dev) (h : Nat) : (freeLeaving d h).scene.alloc = d.scene.alloc := by
  simp [freeLeaving]

@[simp] theorem sceneKeys_doFrameDone (h : Fin 16) (d : Dev) (hk : SceneKeys d.scene.alloc) :
    SceneKeys (doFrameDone h d).scene.alloc := by
  simp [doFrameDone, hk]

@[simp] theorem doSegmentUnderrun_alloc (h : Fin 16) (p : Fin 32) (d : Dev) : (doSegmentUnderrun h p d).scene.alloc = d.scene.alloc := by
  simp [doSegmentUnderrun]

@[simp] theorem doOrbitStep_alloc (h : Fin 16) (d : Dev) : (doOrbitStep h d).scene.alloc = d.scene.alloc := by
  simp [doOrbitStep]

end Sys2Proof.Machine
end

section
/-!
What a step leaves in `alloc`, the allocated objects (R87, R91): panels, lanes, video in, audio and the routing of sources.
`f_alloc` says that `f` leaves them, `sceneKeys_f` that `f` leaves only whole objects of a scene class.
-/
namespace Sys2Proof.Machine

/-! ### Panels.lean -/

@[simp] theorem withhold_alloc (d : Dev) (h : Nat) : (withhold d h).scene.alloc = d.scene.alloc := by
  simp [withhold]

@[simp] theorem clearWithheld_alloc (d : Dev) (h : Nat) : (clearWithheld d h).scene.alloc = d.scene.alloc := by
  simp [clearWithheld]

@[simp] theorem policyLook_alloc (d : Dev) (h : Nat) : (policyLook d h).scene.alloc = d.scene.alloc := by
  simp [policyLook]

@[simp] theorem failPanel_alloc (d : Dev) (h : Nat) (reason : Nat) : (failPanel d h reason).scene.alloc = d.scene.alloc := by
  simp [failPanel]

@[simp] theorem idResponse_alloc (d : Dev) (h : Nat) (msg : List Byte) : (idResponse d h msg).scene.alloc = d.scene.alloc := by
  unfold idResponse
  dsimp only
  split
  · rfl
  · split <;> simp

@[simp] theorem writeSummary_alloc (d : Dev) (h : Nat) : (writeSummary d h).scene.alloc = d.scene.alloc := by
  simp [writeSummary]

@[simp] theorem sendRecord_alloc (d : Dev) (h : Nat) (typ : Nat) (gen : Nat) (body : List Byte) :
    (sendRecord d h typ gen body).scene.alloc = d.scene.alloc := by
  simp [sendRecord]

@[simp] theorem sendHours_alloc (d : Dev) (h : Nat) : (sendHours d h).scene.alloc = d.scene.alloc := by
  simp [sendHours]

@[simp] theorem startWrite_alloc (d : Dev) (h : Nat) : (startWrite d h).scene.alloc = d.scene.alloc := by
  simp [startWrite]

@[simp] theorem sceneKeys_readDoses (d : Dev) (hk : SceneKeys d.scene.alloc) : SceneKeys (readDoses d).scene.alloc := by
  unfold readDoses
  dsimp only
  split
  · exact hk
  · rw [reloadDoses_alloc]
    refine sceneKeys_foldl (fun d b hd => ?_) _ hk
    split <;> simp [hd]

@[simp] theorem takeSnapshot_alloc (d : Dev) (h : Nat) : (takeSnapshot d h).scene.alloc = d.scene.alloc := by
  simp [takeSnapshot]

@[simp] theorem addEarly_alloc (d : Dev) (h : Nat) : (addEarly d h).scene.alloc = d.scene.alloc := by
  simp [addEarly]

@[simp] theorem newPanel_alloc (d : Dev) (h : Nat) : (newPanel d h).scene.alloc = d.scene.alloc := by
  unfold newPanel
  split
  · rfl
  · simp

@[simp] theorem acceptPanel_alloc (d : Dev) (h : Nat) : (acceptPanel d h).scene.alloc = d.scene.alloc := by
  simp [acceptPanel]

@[simp] theorem doseReloaded_alloc (d : Dev) (h : Nat) : (doseReloaded d h).scene.alloc = d.scene.alloc := by
  simp [doseReloaded]

@[simp] theorem readDone_alloc (d : Dev) (h : Nat) (typ : Nat) : (readDone d h typ).scene.alloc = d.scene.alloc := by
  simp [readDone]

@[simp] theorem readReply_alloc (d : Dev) (h : Nat) (msg : List Byte) : (readReply d h msg).scene.alloc = d.scene.alloc := by
  unfold readReply
  split
  · rfl
  · simp

@[simp] theorem writeFailed_alloc (d : Dev) (h : Nat) : (writeFailed d h).scene.alloc = d.scene.alloc := by
  simp [writeFailed]

@[simp] theorem writeDone_alloc (d : Dev) (h : Nat) : (writeDone d h).scene.alloc = d.scene.alloc := by
  simp [writeDone]

@[simp] theorem committed_alloc (d : Dev) (h : Nat) (msg : List Byte) : (committed d h msg).scene.alloc = d.scene.alloc := by
  simp [committed]

@[simp] theorem panelData_alloc (d : Dev) (h : Nat) (b : List Byte) : (panelData d h b).scene.alloc = d.scene.alloc := by
  simp [panelData]

@[simp] theorem doIdResponse_alloc (h : Fin 16) (msg : List Byte) (d : Dev) : (doIdResponse h msg d).scene.alloc = d.scene.alloc := by
  simp [doIdResponse]

@[simp] theorem doReadReply_alloc (h : Fin 16) (msg : List Byte) (d : Dev) : (doReadReply h msg d).scene.alloc = d.scene.alloc := by
  simp [doReadReply]

@[simp] theorem doCommitted_alloc (h : Fin 16) (msg : List Byte) (d : Dev) : (doCommitted h msg d).scene.alloc = d.scene.alloc := by
  simp [doCommitted]

@[simp] theorem doIdResponseTimeout_alloc (h : Fin 16) (d : Dev) : (doIdResponseTimeout h d).scene.alloc = d.scene.alloc := by
  simp [doIdResponseTimeout]

@[simp] theorem doCommittedTimeout_alloc (h : Fin 16) (d : Dev) : (doCommittedTimeout h d).scene.alloc = d.scene.alloc := by
  simp [doCommittedTimeout]

@[simp] theorem doWriteRetryExpiry_alloc (h : Fin 16) (d : Dev) : (doWriteRetryExpiry h d).scene.alloc = d.scene.alloc := by
  simp [doWriteRetryExpiry]

@[simp] theorem sceneKeys_doDoseSnapshot (h : Fin 16) (d : Dev) (hk : SceneKeys d.scene.alloc) :
    SceneKeys (doDoseSnapshot h d).scene.alloc := by
  simp [doDoseSnapshot, hk]

@[simp] theorem sceneKeys_doCellRowDose (h : Fin 16) (d : Dev) (hk : SceneKeys d.scene.alloc) :
    SceneKeys (doCellRowDose h d).scene.alloc := by
  unfold doCellRowDose
  split
  · exact hk
  · simp [hk]

@[simp] theorem sceneKeys_doGainRecompute (h : Fin 16) (d : Dev) (hk : SceneKeys d.scene.alloc) :
    SceneKeys (doGainRecompute h d).scene.alloc := by
  simp [doGainRecompute, hk]

@[simp] theorem doSummaryWrite_alloc (d : Dev) : (doSummaryWrite d).scene.alloc = d.scene.alloc := by
  simp [doSummaryWrite]

@[simp] theorem doOperatingSecond_alloc (h : Fin 16) (d : Dev) : (doOperatingSecond h d).scene.alloc = d.scene.alloc := by
  simp [doOperatingSecond]

@[simp] theorem ackNewOp_alloc (d : Dev) (h : Nat) (arg : Nat) : (ackNewOp d h arg).1.scene.alloc = d.scene.alloc := by
  simp [ackNewOp]

@[simp] theorem rowReadOp_alloc (d : Dev) (h : Nat) (arg : Nat) : (rowReadOp d h arg).1.scene.alloc = d.scene.alloc := by
  unfold rowReadOp
  dsimp only
  split <;> rfl

@[simp] theorem gainReadOp_alloc (d : Dev) (h : Nat) (arg : Nat) : (gainReadOp d h arg).1.scene.alloc = d.scene.alloc := by
  unfold gainReadOp
  dsimp only
  split
  · rfl
  · simp

@[simp] theorem orbitEnable_alloc (m : List Host.Cell) (d : Dev) (h : Nat) (v : Nat) : (orbitEnable m d h v).1.scene.alloc = d.scene.alloc := by
  simp [orbitEnable]

@[simp] theorem panelWrite_alloc (m : List Host.Cell) (d : Dev) (h : Nat) (mem : Nat) (v : Val) :
    (panelWrite m d h mem v).1.scene.alloc = d.scene.alloc := by
  unfold panelWrite
  split <;> simp

@[simp] theorem doOrbitEnableWrite_alloc (sess : Nat) (h : Fin 16) (v : Nat) (m : List Host.Cell) (d : Dev) :
    (doOrbitEnableWrite sess h v m d).scene.alloc = d.scene.alloc := by
  simp [doOrbitEnableWrite]

@[simp] theorem doAckNew_alloc (sess : Nat) (h : Fin 16) (arg : Nat) (d : Dev) : (doAckNew sess h arg d).scene.alloc = d.scene.alloc := by
  simp [doAckNew]

@[simp] theorem doRowRead_alloc (sess : Nat) (h : Fin 16) (arg : Nat) (d : Dev) : (doRowRead sess h arg d).scene.alloc = d.scene.alloc := by
  simp [doRowRead]

@[simp] theorem doGainRead_alloc (sess : Nat) (h : Fin 16) (arg : Nat) (d : Dev) : (doGainRead sess h arg d).scene.alloc = d.scene.alloc := by
  simp [doGainRead]

/-! ### Lanes.lean -/

@[simp] theorem setLaneState_alloc (d : Dev) (l : Nat) (st : Nat) : (setLaneState d l st).scene.alloc = d.scene.alloc := by
  simp [setLaneState]

@[simp] theorem streamStates_alloc (d : Dev) (l : Nat) : (streamStates d l).scene.alloc = d.scene.alloc := by
  simp [streamStates]

@[simp] theorem pocRamp_alloc (d : Dev) (l : Nat) : (pocRamp d l).scene.alloc = d.scene.alloc := by
  simp [pocRamp]

@[simp] theorem pocOff_alloc (d : Dev) (l : Nat) : (pocOff d l).scene.alloc = d.scene.alloc := by
  simp [pocOff]

@[simp] theorem pocLook_alloc (d : Dev) (l : Nat) : (pocLook d l).scene.alloc = d.scene.alloc := by
  simp [pocLook]

@[simp] theorem pocEnable_alloc (d : Dev) (l : Nat) (v : Nat) : (pocEnable d l v).scene.alloc = d.scene.alloc := by
  simp [pocEnable]

@[simp] theorem pocSample_alloc (d : Dev) (l : Nat) : (pocSample d l).scene.alloc = d.scene.alloc := by
  simp [pocSample]

@[simp] theorem laneQuiet_alloc (d : Dev) (l : Nat) : (laneQuiet d l).scene.alloc = d.scene.alloc := by
  simp [laneQuiet]

@[simp] theorem startTrain_alloc (d : Dev) (l : Nat) : (startTrain d l).scene.alloc = d.scene.alloc := by
  simp [startTrain]

@[simp] theorem laneOff_alloc (d : Dev) (l : Nat) : (laneOff d l).scene.alloc = d.scene.alloc := by
  simp [laneOff]

@[simp] theorem failTrain_alloc (d : Dev) (l : Nat) (reason : Nat) : (failTrain d l reason).scene.alloc = d.scene.alloc := by
  simp [failTrain]

@[simp] theorem retrain_alloc (d : Dev) (l : Nat) : (retrain d l).scene.alloc = d.scene.alloc := by
  simp [retrain]

@[simp] theorem setDirection_alloc (d : Dev) (l : Nat) (v : Nat) : (setDirection d l v).scene.alloc = d.scene.alloc := by
  simp [setDirection]

@[simp] theorem laneWrite_alloc (d : Dev) (l : Nat) (mem : Nat) (v : Nat) : (laneWrite d l mem v).1.scene.alloc = d.scene.alloc := by
  simp [laneWrite]

@[simp] theorem doLaneDirectionWrite_alloc (sess : Nat) (l : Fin 32) (v : Nat) (d : Dev) :
    (doLaneDirectionWrite sess l v d).scene.alloc = d.scene.alloc := by
  simp [doLaneDirectionWrite]

@[simp] theorem doPocEnableWrite_alloc (sess : Nat) (l : Fin 32) (v : Nat) (d : Dev) : (doPocEnableWrite sess l v d).scene.alloc = d.scene.alloc := by
  simp [doPocEnableWrite]

@[simp] theorem doLaneTrainingStart_alloc (l : Fin 32) (d : Dev) : (doLaneTrainingStart l d).scene.alloc = d.scene.alloc := by
  simp [doLaneTrainingStart]

@[simp] theorem doBackChannelLock_alloc (l : Fin 32) (d : Dev) : (doBackChannelLock l d).scene.alloc = d.scene.alloc := by
  simp [doBackChannelLock]

@[simp] theorem doPresetStepExpiry_alloc (l : Fin 32) (d : Dev) : (doPresetStepExpiry l d).scene.alloc = d.scene.alloc := by
  unfold doPresetStepExpiry
  dsimp only
  split
  · rfl
  · split
    · simp
    · split <;> simp

@[simp] theorem doTrainingDeadlineMissed_alloc (l : Fin 32) (d : Dev) : (doTrainingDeadlineMissed l d).scene.alloc = d.scene.alloc := by
  simp [doTrainingDeadlineMissed]

@[simp] theorem doTrainingRetryExpiry_alloc (l : Fin 32) (d : Dev) : (doTrainingRetryExpiry l d).scene.alloc = d.scene.alloc := by
  simp [doTrainingRetryExpiry]

@[simp] theorem doLaneReady_alloc (l : Fin 32) (d : Dev) : (doLaneReady l d).scene.alloc = d.scene.alloc := by
  simp [doLaneReady]

@[simp] theorem doCommaLockLoss_alloc (l : Fin 32) (d : Dev) : (doCommaLockLoss l d).scene.alloc = d.scene.alloc := by
  simp [doCommaLockLoss]

@[simp] theorem doStatusTimeout_alloc (l : Fin 32) (d : Dev) : (doStatusTimeout l d).scene.alloc = d.scene.alloc := by
  simp [doStatusTimeout]

@[simp] theorem bcSend_alloc (d : Dev) (l : Nat) (typ : Nat) (seq : Nat) (p : List Byte) : (bcSend d l typ seq p).scene.alloc = d.scene.alloc := by
  simp [bcSend]

@[simp] theorem bcReceive_alloc (d : Dev) (l typ : Nat) (msg : List Symbol) {op : Dev → Nat → List Byte → Dev} (hop : ∀ d n p, (op d n p).scene.alloc = d.scene.alloc) :
    (bcReceive d l typ msg op).scene.alloc = d.scene.alloc := by
  unfold bcReceive
  split
  · rfl
  · split
    · simp
    · split
      · exact hop _ _ _
      · rfl

@[simp] theorem ackUpTo_alloc (d : Dev) (l : Nat) (seq : Nat) : (ackUpTo d l seq).scene.alloc = d.scene.alloc := by
  simp [ackUpTo]

@[simp] theorem doAck_alloc (l : Fin 32) (msg : List Symbol) (d : Dev) : (doAck l msg d).scene.alloc = d.scene.alloc := by
  simp [doAck]

@[simp] theorem doNak_alloc (l : Fin 32) (msg : List Symbol) (d : Dev) : (doNak l msg d).scene.alloc = d.scene.alloc := by
  simp [doNak]

@[simp] theorem doRetransmitTimeout_alloc (l : Fin 32) (d : Dev) : (doRetransmitTimeout l d).scene.alloc = d.scene.alloc := by
  simp [doRetransmitTimeout]

@[simp] theorem statusTraining_alloc (d : Dev) (l : Nat) (p : List Byte) : (statusTraining d l p).scene.alloc = d.scene.alloc := by
  simp [statusTraining]

@[simp] theorem statusOp_alloc (d : Dev) (l : Nat) (p : List Byte) : (statusOp d l p).scene.alloc = d.scene.alloc := by
  simp [statusOp]

@[simp] theorem doStatus_alloc (l : Fin 32) (msg : List Symbol) (d : Dev) : (doStatus l msg d).scene.alloc = d.scene.alloc := by
  simp [doStatus]

@[simp] theorem sigReturn_alloc (d : Dev) (h : Nat) (p : List Byte) : (sigReturn d h p).scene.alloc = d.scene.alloc := by
  simp [sigReturn]

@[simp] theorem doSigret_alloc (l : Fin 32) (msg : List Symbol) (d : Dev) : (doSigret l msg d).scene.alloc = d.scene.alloc := by
  simp [doSigret]

@[simp] theorem doLinestat_alloc (l : Fin 32) (msg : List Symbol) (d : Dev) : (doLinestat l msg d).scene.alloc = d.scene.alloc := by
  simp [doLinestat]

@[simp] theorem doData_alloc (l : Fin 32) (msg : List Symbol) (d : Dev) : (doData l msg d).scene.alloc = d.scene.alloc := by
  simp [doData]

@[simp] theorem laneOut_alloc (d : Dev) (l : Nat) (bs : List (Bool × List Byte)) (idles : Nat) :
    (laneOut d l bs idles).scene.alloc = d.scene.alloc := by
  simp [laneOut]

@[simp] theorem idleOut_alloc (d : Dev) (l : Nat) (mark : Bool) (train : Bool) : (idleOut d l mark train).scene.alloc = d.scene.alloc := by
  simp [idleOut]

@[simp] theorem sendBlocks_alloc (d : Dev) (l : Nat) (b : List Byte) (idle : Bool) : (sendBlocks d l b idle).scene.alloc = d.scene.alloc := by
  simp [sendBlocks]

@[simp] theorem takeReserve_alloc (d : Dev) (l : Nat) (blocks : Nat) : (takeReserve d l blocks).scene.alloc = d.scene.alloc := by
  simp [takeReserve]

@[simp] theorem sendProtected_alloc (d : Dev) (l : Nat) (typ : Nat) (p : Packet) (again : Bool) :
    (sendProtected d l typ p again).scene.alloc = d.scene.alloc := by
  simp [sendProtected]

@[simp] theorem chooseNext_alloc (d : Dev) (l : Nat) : (chooseNext d l).scene.alloc = d.scene.alloc := by
  unfold chooseNext
  dsimp only
  split
  · simp
  · split
    · simp
    · split
      · simp
      · split
        · simp
        · split
          · simp
          · split <;> simp

@[simp] theorem doPacketEnd_alloc (l : Fin 32) (d : Dev) : (doPacketEnd l d).scene.alloc = d.scene.alloc := by
  simp [doPacketEnd]

@[simp] theorem doQueueOverflow_alloc (l : Fin 32) (d : Dev) : (doQueueOverflow l d).scene.alloc = d.scene.alloc := by
  simp [doQueueOverflow]

@[simp] theorem doPocRampComplete_alloc (l : Fin 32) (d : Dev) : (doPocRampComplete l d).scene.alloc = d.scene.alloc := by
  simp [doPocRampComplete]

@[simp] theorem doPocCutoff_alloc (l : Fin 32) (_cause : Nat) (d : Dev) : (doPocCutoff l _cause d).scene.alloc = d.scene.alloc := by
  simp [doPocCutoff]

@[simp] theorem doPocCooldownExpiry_alloc (l : Fin 32) (d : Dev) : (doPocCooldownExpiry l d).scene.alloc = d.scene.alloc := by
  simp [doPocCooldownExpiry]

@[simp] theorem rxErrors_alloc (d : Dev) (l : Nat) (n : Nat) : (rxErrors d l n).scene.alloc = d.scene.alloc := by
  simp [rxErrors]

@[simp] theorem doBlockLock_alloc (l : Fin 32) (d : Dev) : (doBlockLock l d).scene.alloc = d.scene.alloc := by
  simp [doBlockLock]

@[simp] theorem lockLost_alloc (d : Dev) (l : Nat) : (lockLost d l).scene.alloc = d.scene.alloc := by
  simp [lockLost]

@[simp] theorem doBlockLockLoss_alloc (l : Fin 32) (d : Dev) : (doBlockLockLoss l d).scene.alloc = d.scene.alloc := by
  simp [doBlockLockLoss]

@[simp] theorem rxBlocks_alloc (d : Dev) (l : Nat) (n : Nat) (bad : Bool) : (rxBlocks d l n bad).scene.alloc = d.scene.alloc := by
  simp [rxBlocks]

@[simp] theorem rxTake_alloc (d : Dev) (l : Nat) (p : List Byte) : (rxTake d l p).1.scene.alloc = d.scene.alloc := by
  simp [rxTake]

@[simp] theorem doStatusSend_alloc (l : Fin 32) (d : Dev) : (doStatusSend l d).scene.alloc = d.scene.alloc := by
  simp [doStatusSend]

/-! ### VideoIn.lean -/

@[simp] theorem takeSurface_alloc (d : Dev) (i : Nat) : (takeSurface d i).scene.alloc = d.scene.alloc := by
  simp [takeSurface]

@[simp] theorem modeOp_alloc (d : Dev) (p : List Byte) (i : Nat) : (modeOp d p i).scene.alloc = d.scene.alloc := by
  simp [modeOp]

@[simp] theorem rxProtected_alloc (d : Dev) (l : Nat) (p : List Byte) : (rxProtected d l p).scene.alloc = d.scene.alloc := by
  unfold rxProtected
  split <;> simp

@[simp] theorem doRxModePacket_alloc (l : Fin 32) (p : List Byte) (d : Dev) : (doRxModePacket l p d).scene.alloc = d.scene.alloc := by
  simp [doRxModePacket]

@[simp] theorem doRxProtectedPacket_alloc (l : Fin 32) (p : List Byte) (d : Dev) : (doRxProtectedPacket l p d).scene.alloc = d.scene.alloc := by
  simp [doRxProtectedPacket]

@[simp] theorem startFrame_alloc (d : Dev) (i : Nat) : (startFrame d i).scene.alloc = d.scene.alloc := by
  unfold startFrame
  dsimp only
  split
  · simp
  · split <;> simp

@[simp] theorem damageLine_alloc (d : Dev) (i : Nat) (line : Nat) : (damageLine d i line).scene.alloc = d.scene.alloc := by
  simp [damageLine]

@[simp] theorem keepPiece_alloc (d : Dev) (i : Nat) (line : Nat) (off : Nat) (payload : List Byte) :
    (keepPiece d i line off payload).scene.alloc = d.scene.alloc := by
  simp [keepPiece]

@[simp] theorem sceneKeys_writeLine (i : Nat) (s : State) (q : LinePart) (hk : SceneKeys s.dev.scene.alloc) :
    SceneKeys (writeLine i s q).dev.scene.alloc := by
  have hfail : SceneKeys (q.parts.foldl (fun d p => failRmw d (q.base + p.1) p.2.length 1) s.dev).scene.alloc :=
    sceneKeys_foldl (fun d p => sceneKeys_failRmw d _ _ _) _ hk
  unfold writeLine
  dsimp only
  split <;> simp [hfail]

@[simp] theorem sceneKeys_flushLines (s : State) (i : Nat) (hk : SceneKeys s.dev.scene.alloc) : SceneKeys (flushLines s i).dev.scene.alloc := by
  unfold flushLines
  split
  · exact sceneKeys_foldl_state (fun s q => sceneKeys_writeLine i s q) _ (by simpa using hk)
  · exact hk

@[simp] theorem sceneKeys_endLine (s : State) (i : Nat) (hk : SceneKeys s.dev.scene.alloc) :
    SceneKeys (endLine s i).dev.scene.alloc := by
  unfold endLine
  split
  · exact hk
  · simp [hk]

@[simp] theorem sceneKeys_linePassed (d : Dev) (i : Nat) (line : Nat) (last : Bool) (hk : SceneKeys d.scene.alloc) :
    SceneKeys (linePassed d i line last).scene.alloc := by
  simp [linePassed, hk]

@[simp] theorem sceneKeys_inputLine (s : State) (p : List Byte) (i : Nat) (hk : SceneKeys s.dev.scene.alloc) :
    SceneKeys (inputLine s p i).dev.scene.alloc := by
  simp [inputLine, hk]

@[simp] theorem sendLinestat_alloc (d : Dev) (l : Nat) : (sendLinestat d l).scene.alloc = d.scene.alloc := by
  simp [sendLinestat]

@[simp] theorem noteLine_alloc (d : Dev) (l : Nat) (line : Nat) (bad : Bool) : (noteLine d l line bad).scene.alloc = d.scene.alloc := by
  simp [noteLine]

@[simp] theorem lineReport_alloc (d : Dev) (l : Nat) (line : Nat) (frame : Nat) (good : Bool) (last : Bool) :
    (lineReport d l line frame good last).scene.alloc = d.scene.alloc := by
  simp [lineReport]

@[simp] theorem sceneKeys_doRxLinePacket (l : Fin 32) (p : List Byte) (s : State) (hk : SceneKeys s.dev.scene.alloc) :
    SceneKeys (doRxLinePacket l p s).dev.scene.alloc := by
  have htake : SceneKeys (withDev s (rxTake s.dev l.val p).1).dev.scene.alloc := by simpa using hk
  unfold doRxLinePacket
  dsimp only
  split
  · exact htake
  · split
    · simpa using hk
    · simpa using sceneKeys_foldl_state (fun s i => sceneKeys_inputLine s p i) _ htake

@[simp] theorem setInputLane_alloc (d : Dev) (i : Nat) (v : Nat) : (setInputLane d i v).scene.alloc = d.scene.alloc := by
  simp [setInputLane]

@[simp] theorem vinWrite_alloc (d : Dev) (i : Nat) (mem : Nat) (v : Nat) : (vinWrite d i mem v).1.scene.alloc = d.scene.alloc := by
  simp [vinWrite]

/-! ### Audio.lean -/

@[simp] theorem updVoice_alloc (d : Dev) (v : Nat) (f : Voice → Voice) : (updVoice d v f).scene.alloc = d.scene.alloc := by
  simp [updVoice]

@[simp] theorem keyVoice_alloc (d : Dev) (v : Nat) (on : Bool) : (keyVoice d v on).scene.alloc = d.scene.alloc := by
  simp [keyVoice]

@[simp] theorem keyOp_alloc (d : Dev) (v : Nat) (arg : Nat) : (keyOp d v arg).1.scene.alloc = d.scene.alloc := by
  simp [keyOp]

@[simp] theorem voiceWrite_alloc (d : Dev) (v : Nat) (mem : Nat) (x : Val) : (voiceWrite d v mem x).1.scene.alloc = d.scene.alloc := by
  simp [voiceWrite]

@[simp] theorem doKeyOn_alloc (sess : Nat) (v : Fin 128) (d : Dev) : (doKeyOn sess v d).scene.alloc = d.scene.alloc := by
  simp [doKeyOn]

@[simp] theorem doKeyOff_alloc (sess : Nat) (v : Fin 128) (d : Dev) : (doKeyOff sess v d).scene.alloc = d.scene.alloc := by
  simp [doKeyOff]

@[simp] theorem doVoiceDurationExpiry_alloc (v : Fin 128) (d : Dev) : (doVoiceDurationExpiry v d).scene.alloc = d.scene.alloc := by
  unfold doVoiceDurationExpiry
  dsimp only
  split
  · simp
  · rfl

@[simp] theorem waveOp_alloc (d : Dev) (t : Nat) (b : List Byte) : (waveOp d t b).1.scene.alloc = d.scene.alloc := by
  simp [waveOp]

@[simp] theorem doWaveTableWrite_alloc (sess : Nat) (t : Fin 32) (b : List Byte) (d : Dev) :
    (doWaveTableWrite sess t b d).scene.alloc = d.scene.alloc := by
  simp [doWaveTableWrite]

@[simp] theorem gainsOp_alloc (d : Dev) (o : Nat) (b : List Byte) : (gainsOp d o b).1.scene.alloc = d.scene.alloc := by
  simp [gainsOp]

@[simp] theorem doGainsWrite_alloc (sess : Nat) (o : Fin 48) (b : List Byte) (d : Dev) : (doGainsWrite sess o b d).scene.alloc = d.scene.alloc := by
  simp [doGainsWrite]

@[simp] theorem updOut_alloc (d : Dev) (o : Nat) (f : OutCh → OutCh) : (updOut d o f).scene.alloc = d.scene.alloc := by
  simp [updOut]

@[simp] theorem filterOp_alloc (d : Dev) (o : Nat) (b : List Byte) : (filterOp d o b).1.scene.alloc = d.scene.alloc := by
  simp [filterOp]

@[simp] theorem doFilterWrite_alloc (sess : Nat) (o : Fin 48) (b : List Byte) (d : Dev) : (doFilterWrite sess o b d).scene.alloc = d.scene.alloc := by
  simp [doFilterWrite]

@[simp] theorem startSeq_alloc (d : Dev) (q : Nat) (arg : Nat) : (startSeq d q arg).1.scene.alloc = d.scene.alloc := by
  simp [startSeq]

@[simp] theorem endSeq_alloc (d : Dev) (q : Nat) : (endSeq d q).scene.alloc = d.scene.alloc := by
  simp [endSeq]

@[simp] theorem stopSeq_alloc (d : Dev) (q : Nat) (arg : Nat) : (stopSeq d q arg).1.scene.alloc = d.scene.alloc := by
  simp [stopSeq]

@[simp] theorem seqWrite_alloc (d : Dev) (q : Nat) (mem : Nat) (v : Val) : (seqWrite d q mem v).1.scene.alloc = d.scene.alloc := by
  simp [seqWrite]

@[simp] theorem runSteps_alloc (q : Nat) (n : Nat) (i : Nat) (d : Dev) : (runSteps q n i d).scene.alloc = d.scene.alloc := by
  induction n generalizing i d with
  | zero => rfl
  | succ n ih => simp [runSteps, ih]

@[simp] theorem doSequencerTick_alloc (q : Fin 4) (d : Dev) : (doSequencerTick q d).scene.alloc = d.scene.alloc := by
  simp [doSequencerTick]

@[simp] theorem doStart_alloc (sess : Nat) (q : Fin 4) (arg : Nat) (d : Dev) : (doStart sess q arg d).scene.alloc = d.scene.alloc := by
  simp [doStart]

@[simp] theorem doStop_alloc (sess : Nat) (q : Fin 4) (arg : Nat) (d : Dev) : (doStop sess q arg d).scene.alloc = d.scene.alloc := by
  simp [doStop]

@[simp] theorem takeSpeed_alloc (d : Dev) : (takeSpeed d).scene.alloc = d.scene.alloc := by
  simp [takeSpeed]

@[simp] theorem setSounding_alloc (d : Dev) (on : Bool) : (setSounding d on).scene.alloc = d.scene.alloc := by
  simp [setSounding]

@[simp] theorem avasLook_alloc (d : Dev) : (avasLook d).scene.alloc = d.scene.alloc := by
  simp [avasLook]

@[simp] theorem triggerVoice_alloc (last : Nat) (now : Nat) (edges : SMap Nat) (d : Dev) (v : Nat) :
    (triggerVoice last now edges d v).scene.alloc = d.scene.alloc := by
  unfold triggerVoice
  dsimp only
  split
  · rfl
  · split
    · simp
    · split
      · simp
      · rfl

@[simp] theorem applyKeys_alloc (d : Dev) (v : Nat) : (applyKeys d v).scene.alloc = d.scene.alloc := by
  simp [applyKeys]

@[simp] theorem sampleVoice_alloc (d : Dev) (v : Nat) : (sampleVoice d v).scene.alloc = d.scene.alloc := by
  simp [sampleVoice]

@[simp] theorem pushPast_alloc (d : Dev) (k : Nat) (x : ℤ) : (pushPast d k x).scene.alloc = d.scene.alloc := by
  simp [pushPast]

@[simp] theorem tdmSample_alloc (n : Nat) (d : Dev) (p : Nat) : (tdmSample n d p).scene.alloc = d.scene.alloc := by
  simp [tdmSample]

@[simp] theorem streamSample_alloc (t : Nat) (d : Dev) (k : Nat) : (streamSample t d k).scene.alloc = d.scene.alloc := by
  simp [streamSample]

@[simp] theorem stepNodes_alloc (d : Dev) : (stepNodes d).scene.alloc = d.scene.alloc := by
  simp [stepNodes]

@[simp] theorem sampleOutput_alloc (d : Dev) (o : Nat) : (sampleOutput d o).scene.alloc = d.scene.alloc := by
  simp [sampleOutput]

@[simp] theorem gather_alloc (d : Dev) (n : Nat) (t : Nat) (channels : Nat) (first : Nat) (rate : Nat) :
    (gather d n t channels first rate).scene.alloc = d.scene.alloc := by
  simp [gather]

@[simp] theorem laneStream_alloc (n : Nat) (d : Dev) (k : Nat) : (laneStream n d k).scene.alloc = d.scene.alloc := by
  simp [laneStream]

@[simp] theorem doEngineSample_alloc (d : Dev) : (doEngineSample d).scene.alloc = d.scene.alloc := by
  simp [doEngineSample]

@[simp] theorem tdmInput_alloc (d : Dev) (p : Nat) (slots : List Word) : (tdmInput d p slots).scene.alloc = d.scene.alloc := by
  simp [tdmInput]

@[simp] theorem doTdmFrame_alloc (p : Fin 4) (slots : List Word) (d : Dev) : (doTdmFrame p slots d).scene.alloc = d.scene.alloc := by
  simp [doTdmFrame]

@[simp] theorem tdmWrite_alloc (d : Dev) (p : Nat) (mem : Nat) (v : Val) : (tdmWrite d p mem v).1.scene.alloc = d.scene.alloc := by
  unfold tdmWrite
  split
  · split
    · simp
    · rfl
  · simp

@[simp] theorem laneAudWrite_alloc (d : Dev) (k : Nat) (mem : Nat) (v : Val) : (laneAudWrite d k mem v).1.scene.alloc = d.scene.alloc := by
  simp [laneAudWrite]

@[simp] theorem hear_alloc (d : Dev) (base : Nat) (channels : Nat) (rate : Nat) (t : Nat) (lateMember : Option Ref) (samples : Nat → Nat → ℤ) (frames : Nat) :
    (hear d base channels rate t lateMember samples frames).scene.alloc = d.scene.alloc := by
  refine foldl_alloc (fun d k => ?_) _ _
  cases lateMember <;> simp only [ite_alloc, raise_alloc, nAdd_scene, foldl_alloc, ite_self, implies_true]

@[simp] theorem doRxAudioPacket_alloc (l : Fin 32) (p : List Byte) (d : Dev) : (doRxAudioPacket l p d).scene.alloc = d.scene.alloc := by
  unfold doRxAudioPacket
  dsimp only
  split
  · simp
  · split <;> simp

end Sys2Proof.Machine
end

section
/-!
What a step leaves in `alloc`, the allocated objects (R87, R91): DMA lists, the blitter, islands and threads.
`f_alloc` says that `f` leaves them, `sceneKeys_f` that `f` leaves only whole objects of a scene class.
-/
namespace Sys2Proof.Machine

/-! ### Movers.lean -/

@[simp] theorem updChan_alloc (d : Dev) (n : Nat) (f : DmaChan → DmaChan) : (updChan d n f).scene.alloc = d.scene.alloc := by
  simp [updChan]

@[simp] theorem reportRings_alloc (d : Dev) : (reportRings d).scene.alloc = d.scene.alloc := by
  simp [reportRings]

@[simp] theorem updRing_alloc (d : Dev) (r : Nat) (f : Ring → Ring) : (updRing d r f).scene.alloc = d.scene.alloc := by
  simp [updRing]

@[simp] theorem putMoves_alloc (s : State) (cls : Nat) (ms : List Move) : (putMoves s cls ms).dev.scene.alloc = s.dev.scene.alloc := by
  simp [putMoves]

@[simp] theorem stopMoves_alloc (s : State) (cls : Nat) (ms : List Move) (fit : Move → Bool) (back : Bool) (k : Nat) :
    (stopMoves s cls ms fit back k).dev.scene.alloc = s.dev.scene.alloc := by
  simp [stopMoves]

@[simp] theorem sceneKeys_runMoves (s : State) (got : SMap (List Byte)) (ms : List Move) (own : List Move) (back : Bool) (cls : Nat) (hk : SceneKeys s.dev.scene.alloc) :
    SceneKeys (runMoves s got ms own back cls).1.dev.scene.alloc := by
  unfold runMoves
  dsimp only
  split
  · simp [hk]
  · split <;> split <;> simp [hk]

@[simp] theorem sceneKeys_jobPut (s : State) (a : Nat) (bs : List Byte) (cls : Nat) (hk : SceneKeys s.dev.scene.alloc) :
    SceneKeys (jobPut s a bs cls).dev.scene.alloc := by
  simp [jobPut, hk]

@[simp] theorem markJob_alloc (d : Dev) (owner : Nat) (ws : List (Nat × Nat)) (rs : List (Nat × Nat)) :
    (markJob d owner ws rs).scene.alloc = d.scene.alloc := by
  simp [markJob]

@[simp] theorem unmarkJob_alloc (d : Dev) (owner : Nat) : (unmarkJob d owner).scene.alloc = d.scene.alloc := by
  simp [unmarkJob]

@[simp] theorem reportList_alloc (d : Dev) (n : Nat) (seq : Nat) (flags : Nat) (st : Status) (detail : Nat) (bytes : Nat) :
    (reportList d n seq flags st detail bytes).scene.alloc = d.scene.alloc := by
  simp [reportList]

@[simp] theorem refuseUnread_alloc (d : Dev) (n : Nat) (st : Status) (detail : Nat) : (refuseUnread d n st detail).scene.alloc = d.scene.alloc := by
  simp [refuseUnread]

@[simp] theorem askSources_alloc (d : Dev) (cls : Nat) (unit : Nat) (rs : List (Nat × Nat)) :
    (askSources d cls unit rs).scene.alloc = d.scene.alloc := by
  simp [askSources]

theorem takeList_alloc {d e : Dev} {n a : Nat} (h : takeList d n = some (e, a)) : e.scene.alloc = d.scene.alloc := by
  unfold takeList at h
  dsimp only at h
  split at h
  · cases h; simp
  · split at h <;> cases h; simp

@[simp] theorem sceneKeys_doDmaListStart (n : Fin 32) (s : State) (hk : SceneKeys s.dev.scene.alloc) :
    SceneKeys (doDmaListStart n s).dev.scene.alloc := by
  unfold doDmaListStart
  split
  · exact hk
  · split
    · exact hk
    · next d a hd =>
      have hd : SceneKeys d.scene.alloc := by rw [takeList_alloc hd]; exact hk
      dsimp only
      rw [withDev_dev]
      split
      · simpa using hd
      · split
        · simpa using hd
        · split
          · simp [hd]
          · split
            · simp [hd]
            · split <;> simp [hd]

@[simp] theorem sceneKeys_moveList (s : State) (j : DmaJob) (hk : SceneKeys s.dev.scene.alloc) :
    SceneKeys (moveList s j).1.dev.scene.alloc := by
  simp [moveList, hk]

@[simp] theorem sceneKeys_doDmaListComplete (n : Fin 32) (s : State) (hk : SceneKeys s.dev.scene.alloc) :
    SceneKeys (doDmaListComplete n s).dev.scene.alloc := by
  unfold doDmaListComplete
  split
  · exact hk
  · simp [hk]

theorem enqueueList_alloc {d e : Dev} {n a : Nat} (h : enqueueList d n a = some e) : e.scene.alloc = d.scene.alloc := by
  unfold enqueueList at h
  split at h
  · cases h
  · cases h
    simp

@[simp] theorem postOp_alloc (d : Dev) (n : Nat) (a : Nat) : (postOp d n a).1.scene.alloc = d.scene.alloc := by
  unfold postOp
  split
  · rfl
  · split
    · rfl
    · split
      · rfl
      · next e he => exact enqueueList_alloc he

@[simp] theorem abortOp_alloc (d : Dev) (n : Nat) (arg : Nat) : (abortOp d n arg).1.scene.alloc = d.scene.alloc := by
  simp [abortOp]

@[simp] theorem chanWrite_alloc (d : Dev) (n : Nat) (mem : Nat) (v : Val) : (chanWrite d n mem v).1.scene.alloc = d.scene.alloc := by
  simp [chanWrite]

@[simp] theorem sceneKeys_startBlit (s : State) (r : Nat) (kind : Nat) (hk : SceneKeys s.dev.scene.alloc) :
    SceneKeys (startBlit s r kind).dev.scene.alloc := by
  unfold startBlit
  dsimp only
  split
  · exact hk
  · split
    · exact hk
    · split
      · simp [hk]
      · split
        · simp [hk]
        · split
          · simp [hk]
          · split
            · simp [hk]
            · split <;> simp [hk]

@[simp] theorem sceneKeys_readProduce (d : Dev) (m : List Host.Cell) (r : Nat) (hk : SceneKeys d.scene.alloc) :
    SceneKeys (readProduce d m r).1.scene.alloc := by
  simp [readProduce, hk]

@[simp] theorem sceneKeys_kickRing (d : Dev) (m : List Host.Cell) (r : Nat) (hk : SceneKeys d.scene.alloc) :
    SceneKeys (kickRing d m r).scene.alloc := by
  simp [kickRing, hk]

@[simp] theorem sceneKeys_doBlitCommandComplete (r : Fin 4) (s : State) (hk : SceneKeys s.dev.scene.alloc) :
    SceneKeys (doBlitCommandComplete r s).dev.scene.alloc := by
  unfold doBlitCommandComplete
  split
  · exact hk
  · split
    · exact hk
    · next j _ _ =>
      extract_lets op s1 x s2 may lost fails det st next put s3 s4 d1 d2 d3 d4 d5 d6
      have hs1 : SceneKeys s1.dev.scene.alloc := by
        rwa [withDev_dev, cancelReads_alloc]
      have hs2 : SceneKeys s2.dev.scene.alloc := by
        simp only [s2, x]
        split
        · exact sceneKeys_runMoves _ _ _ _ _ _ hs1
        · exact hs1
      have hput : ∀ s p b, SceneKeys s.dev.scene.alloc → SceneKeys (put s p b).dev.scene.alloc := by
        intro s p b hs
        simp only [put]
        split
        · exact sceneKeys_jobPut _ _ _ _ hs
        · exact hs
      have hs3 : SceneKeys s3.dev.scene.alloc := by
        simpa only [s3] using hput _ (j.slot + 45) (octets [det]) (hput s2 (j.slot + 2) (octets [st]) hs2)
      have hs4 : SceneKeys s4.dev.scene.alloc := by
        simpa only [s4] using hput _ (j.header + 12) (leBytes 4 next) (hput s3 (j.header + 8) (sliceOf j.cmd 4 4) hs3)
      have hd3 : SceneKeys d3.scene.alloc := by
        simpa only [d3, d2, d1, ite_alloc, nInc_scene, nSet_scene, updRing_alloc, unmarkJob_alloc, ite_self] using hs4
      have hd4 : SceneKeys d4.scene.alloc := by
        simp only [d4]
        split
        · exact sceneKeys_kickRing _ _ _ hd3
        · exact hd3
      rw [withDev_dev]
      simpa only [d6, d5, ite_alloc, raise_alloc, reportRings_alloc, ite_self] using hd4

@[simp] theorem sceneKeys_kickOp (m : List Host.Cell) (d : Dev) (r : Nat) (arg : Nat) (hk : SceneKeys d.scene.alloc) :
    SceneKeys (kickOp m d r arg).1.scene.alloc := by
  simp [kickOp, hk]

@[simp] theorem sceneKeys_ringEnable (s : State) (r : Nat) (v : Nat) (hk : SceneKeys s.dev.scene.alloc) :
    SceneKeys (ringEnable s r v).1.dev.scene.alloc := by
  unfold ringEnable
  dsimp only
  split
  · exact hk
  · split
    · simp [hk]
    · split <;> simp [hk]

@[simp] theorem ringWrite_alloc (d : Dev) (r : Nat) (mem : Nat) (v : Val) : (ringWrite d r mem v).1.scene.alloc = d.scene.alloc := by
  unfold ringWrite
  split
  · rfl
  · split
    · rfl
    · split
      · split <;> simp
      · split <;> simp
      · simp

@[simp] theorem sceneKeys_doorbell (d : Dev) (m : List Host.Cell) (prog : Ref) (v : Nat) (hk : SceneKeys d.scene.alloc) :
    SceneKeys (doorbell d m prog v).scene.alloc := by
  simp [doorbell, hk]

@[simp] theorem doPost_alloc (sess : Nat) (n : Fin 32) (addr : Nat) (d : Dev) : (doPost sess n addr d).scene.alloc = d.scene.alloc := by
  simp [doPost]

@[simp] theorem doAbort_alloc (sess : Nat) (n : Fin 32) (arg : Nat) (d : Dev) : (doAbort sess n arg d).scene.alloc = d.scene.alloc := by
  simp [doAbort]

@[simp] theorem sceneKeys_doKick (sess : Nat) (r : Fin 4) (arg : Nat) (m : List Host.Cell) {d : Dev} (hk : SceneKeys d.scene.alloc) :
    SceneKeys (doKick sess r arg m d).scene.alloc :=
  sceneKeys_withGate _ _ (fun _ h => sceneKeys_kickOp _ _ _ _ h) hk

theorem sceneKeys_withGateMem {s : State} (sess : Nat) (r : Ref) {op : State → State × Status × List Byte}
    (hop : ∀ s, SceneKeys s.dev.scene.alloc → SceneKeys (op s).1.dev.scene.alloc) (hk : SceneKeys s.dev.scene.alloc) :
    SceneKeys (withGateMem s sess r op).dev.scene.alloc := by
  unfold withGateMem
  split
  · simpa using hk
  · simpa using hop s hk

@[simp] theorem sceneKeys_doRingEnableWrite (sess : Nat) (r : Fin 4) (v : Nat) {s : State} (hk : SceneKeys s.dev.scene.alloc) :
    SceneKeys (doRingEnableWrite sess r v s).dev.scene.alloc :=
  sceneKeys_withGateMem _ _ (fun _ h => sceneKeys_ringEnable _ _ _ h) hk

@[simp] theorem sceneKeys_doDoorbell (writer : Ref) (v : Word) (m : List Host.Cell) (d : Dev) (hk : SceneKeys d.scene.alloc) :
    SceneKeys (doDoorbell writer v m d).scene.alloc := by
  simp [doDoorbell, hk]

/-! ### Registers.lean -/

@[simp] theorem timerSettle_alloc (d : Dev) (n : Nat) : (timerSettle d n).scene.alloc = d.scene.alloc := by
  simp [timerSettle]

@[simp] theorem timerWrite_alloc (d : Dev) (n : Nat) (off : Nat) (v : Nat) : (timerWrite d n off v).scene.alloc = d.scene.alloc := by
  unfold timerWrite
  split <;> simp

@[simp] theorem clusterWrite_alloc (d : Dev) (c : Nat) (off : Nat) (v : Nat) : (clusterWrite d c off v).scene.alloc = d.scene.alloc := by
  simp [clusterWrite]

@[simp] theorem clusterRead_alloc (d : Dev) (c : Nat) (off : Nat) : (clusterRead d c off).1.scene.alloc = d.scene.alloc := by
  unfold clusterRead
  split
  · simp
  · split
    · simp
    · simp
    · rfl
    · rfl
    · rfl
    · rfl

@[simp] theorem pipeLand_alloc (d : Dev) (m : List Host.Cell) (p : Nat) (off : Nat) (val : Nat) (prog : Ref) (line : Nat) (col : Nat) (timed : Bool) :
    (pipeLand d m p off val prog line col timed).scene.alloc = d.scene.alloc := by
  unfold pipeLand
  dsimp only
  split <;> simp

@[simp] theorem sceneKeys_applyReg (d : Dev) (m : List Host.Cell) (w : RegWrite) (hk : SceneKeys d.scene.alloc) :
    SceneKeys (applyReg d m w).scene.alloc := by
  simp [applyReg, hk]

@[simp] theorem countOff_alloc (d : Dev) (isl : Nat) : (countOff d isl).scene.alloc = d.scene.alloc := by
  simp [countOff]

@[simp] theorem sceneKeys_arriveReg (d : Dev) (m : List Host.Cell) (w : RegWrite) (hk : SceneKeys d.scene.alloc) :
    SceneKeys (arriveReg d m w).scene.alloc := by
  simp [arriveReg, hk]

@[simp] theorem sceneKeys_sendReg (d : Dev) (m : List Host.Cell) (w : RegWrite) (hk : SceneKeys d.scene.alloc) :
    SceneKeys (sendReg d m w).scene.alloc := by
  simp [sendReg, hk]

@[simp] theorem sceneKeys_doRegisterWrite (src : Fin 105) (addr : Nat) (v : Word) (m : List Host.Cell) (d : Dev) (hk : SceneKeys d.scene.alloc) :
    SceneKeys (doRegisterWrite src addr v m d).scene.alloc := by
  unfold doRegisterWrite
  split <;> simp [hk]

@[simp] theorem sceneKeys_arriveFrom (m : List Host.Cell) (dst : Nat) (d : Dev) (src : Nat) (hk : SceneKeys d.scene.alloc) :
    SceneKeys (arriveFrom m dst d src).scene.alloc := by
  unfold arriveFrom
  split
  · exact hk
  · simp [hk]

@[simp] theorem sceneKeys_doUntimedWriteArrival (dst : Fin 105) (srcs : List (Fin 105)) (m : List Host.Cell) (d : Dev) (hk : SceneKeys d.scene.alloc) :
    SceneKeys (doUntimedWriteArrival dst srcs m d).scene.alloc :=
  sceneKeys_foldl (fun d src => sceneKeys_arriveFrom m _ d src) _ hk

@[simp] theorem sceneKeys_doGatedIslandAccessResume (isl : Fin 105) (m : List Host.Cell) (d : Dev) (hk : SceneKeys d.scene.alloc) :
    SceneKeys (doGatedIslandAccessResume isl m d).scene.alloc :=
  sceneKeys_foldl (fun d w => sceneKeys_applyReg d m w) _ hk

@[simp] theorem sceneKeys_timerAccess (d : Dev) (m : List Host.Cell) (c : Nat) (off : Nat) (v : Word) (isRead : Bool) (hk : SceneKeys d.scene.alloc) :
    SceneKeys (timerAccess d m c off v isRead).scene.alloc := by
  simp [timerAccess, hk]

@[simp] theorem sceneKeys_doCaptureRead (n : Fin 96) (m : List Host.Cell) (d : Dev) (hk : SceneKeys d.scene.alloc) :
    SceneKeys (doCaptureRead n m d).scene.alloc := by
  simp [doCaptureRead, hk]

@[simp] theorem sceneKeys_doTimerEnableWrite (n : Fin 96) (v : Word) (m : List Host.Cell) (d : Dev) (hk : SceneKeys d.scene.alloc) :
    SceneKeys (doTimerEnableWrite n v m d).scene.alloc := by
  simp [doTimerEnableWrite, hk]

@[simp] theorem sceneKeys_doPeriodWrite (n : Fin 96) (v : Word) (m : List Host.Cell) (d : Dev) (hk : SceneKeys d.scene.alloc) :
    SceneKeys (doPeriodWrite n v m d).scene.alloc := by
  simp [doPeriodWrite, hk]

@[simp] theorem sceneKeys_doStartMaskWrite (c : Fin 12) (v : Word) (m : List Host.Cell) (d : Dev) (hk : SceneKeys d.scene.alloc) :
    SceneKeys (doStartMaskWrite c v m d).scene.alloc := by
  simp [doStartMaskWrite, hk]

/-! ### Operands.lean -/

@[simp] theorem scratchPut_alloc (d : Dev) (t : Nat) (a : Nat) (bs : List Byte) : (scratchPut d t a bs).scene.alloc = d.scene.alloc := by
  simp [scratchPut]

@[simp] theorem readWord_alloc (d : Dev) (t : Nat) (a : Nat) : (readWord d t a).scene.alloc = d.scene.alloc := by
  simp [readWord]

@[simp] theorem fillLine_alloc (d : Dev) (m : List Host.Cell) (t : Nat) (a : Nat) : (fillLine d m t a).scene.alloc = d.scene.alloc := by
  simp [fillLine]

@[simp] theorem cacheStore_alloc (d : Dev) (t : Nat) (a : Nat) (bs : List Byte) : (cacheStore d t a bs).scene.alloc = d.scene.alloc := by
  unfold cacheStore
  split <;> rfl

@[simp] theorem dropLine_alloc (d : Dev) (t : Nat) (a : Nat) : (dropLine d t a).scene.alloc = d.scene.alloc := by
  simp [dropLine]

@[simp] theorem dropLines_alloc (d : Dev) (t : Nat) : (dropLines d t).scene.alloc = d.scene.alloc := by
  simp [dropLines]

/-! ### Issue.lean -/

@[simp] theorem withThread_alloc (s : State) (t : Nat) (f : Thread → Thread) : (withThread s t f).dev.scene.alloc = s.dev.scene.alloc := by
  simp [withThread]

@[simp] theorem drainDue_alloc (d : Dev) (t : Nat) (all : Bool) (l : List StoreEntry) : (drainDue d t all l).scene.alloc = d.scene.alloc := by
  induction l generalizing d with
  | nil => simp [drainDue]
  | cons e l ih => simp [drainDue, ih]

@[simp] theorem pushStore_alloc (d : Dev) (t : Nat) (a : Nat) (bs : List Byte) : (pushStore d t a bs).scene.alloc = d.scene.alloc := by
  simp [pushStore]

@[simp] theorem endLongs_alloc (d : Dev) (t : Nat) (l : List (Nat × Word)) (kept : List (Nat × Word)) (acc : Word) :
    (endLongs d t l kept acc).scene.alloc = d.scene.alloc := by
  induction l generalizing kept acc with
  | nil => simp [endLongs]
  | cons e l ih => simp [endLongs, ih]

@[simp] theorem settleThread_alloc (d : Dev) (t : Nat) : (settleThread d t).scene.alloc = d.scene.alloc := by
  simp [settleThread]

@[simp] theorem stall_alloc (s : State) (t : Nat) (op : Nat) (w : Be32Op) : (stall s t op w).dev.scene.alloc = s.dev.scene.alloc := by
  simp [stall]

@[simp] theorem readOperand_alloc (d : Dev) (t : Nat) (op : Nat) (w : Be32Op) : (readOperand d t op w).scene.alloc = d.scene.alloc := by
  simp [readOperand]

@[simp] theorem retireOp32_alloc (s : State) (t : Nat) (pc : Word) (pend : Option (Nat × Word)) (load : Option (Nat × Word)) (wrote : Option Nat) :
    (retireOp32 s t pc pend load wrote).dev.scene.alloc = s.dev.scene.alloc := by
  simp [retireOp32]

@[simp] theorem useSlots_alloc (s : State) (t : Nat) (n : Nat) : (useSlots s t n).dev.scene.alloc = s.dev.scene.alloc := by
  simp [useSlots]

@[simp] theorem readFetch_alloc (d : Dev) (t : Nat) : (readFetch d t).scene.alloc = d.scene.alloc := by
  simp [readFetch]

@[simp] theorem dropWrite_alloc (d : Dev) (t : Nat) : (dropWrite d t).scene.alloc = d.scene.alloc := by
  simp [dropWrite]

@[simp] theorem rejectStore_alloc (d : Dev) (t : Nat) : (rejectStore d t).scene.alloc = d.scene.alloc := by
  simp [rejectStore]

@[simp] theorem farIssued_alloc (d : Dev) (t : Nat) : (farIssued d t).scene.alloc = d.scene.alloc := by
  simp [farIssued]

@[simp] theorem sceneKeys_sendBell (d : Dev) (m : List Host.Cell) (b : Bell) (hk : SceneKeys d.scene.alloc) :
    SceneKeys (sendBell d m b).scene.alloc := by
  simp [sendBell, hk]

@[simp] theorem sceneKeys_issueBell (d : Dev) (m : List Host.Cell) (t : Nat) (a : Nat) (v : Word) (hk : SceneKeys d.scene.alloc) :
    SceneKeys (issueBell d m t a v).scene.alloc := by
  simp [issueBell, hk]

@[simp] theorem sceneKeys_sendPort (d : Dev) (m : List Host.Cell) (t off : Nat) (v : Word) (l : List Nat) (hk : SceneKeys d.scene.alloc) :
    SceneKeys (sendPort d m t off v l).scene.alloc := by
  cases l with
  | nil => exact hk
  | cons i l => exact sceneKeys_foldl (fun d i => sceneKeys_sendReg d m _) _ (sceneKeys_sendReg d m _ hk)

@[simp] theorem holdTimed_alloc (d : Dev) (t : Nat) (off : Nat) (val : Nat) (frame : Nat) (line : Nat) (col : Nat) (l : List Nat) :
    (holdTimed d t off val frame line col l).scene.alloc = d.scene.alloc := by
  unfold holdTimed
  split
  · rfl
  · simp

@[simp] theorem claimFor_alloc (d : Dev) (t : Nat) (n : Nat) : (claimFor d t n).scene.alloc = d.scene.alloc := by
  simp [claimFor]

end Sys2Proof.Machine
end

section
/-!
What a step leaves in `alloc`, the allocated objects (R87, R91): signals, sessions, the network, trust and the events of threads.
`f_alloc` says that `f` leaves them, `sceneKeys_f` that `f` leaves only whole objects of a scene class.
-/
namespace Sys2Proof.Machine

/-! ### Signals.lean -/

@[simp] theorem speedFrame_alloc (d : Dev) (n : Nat) (b : List Byte) : (speedFrame d n b).scene.alloc = d.scene.alloc := by
  simp [speedFrame]

@[simp] theorem applyFrame_alloc (lag : Nat) (d : Dev) (n : Nat) (b : List Byte) : (applyFrame lag d n b).scene.alloc = d.scene.alloc := by
  simp [applyFrame]

@[simp] theorem rejectFrame_alloc (d : Dev) (n : Nat) : (rejectFrame d n).scene.alloc = d.scene.alloc := by
  simp [rejectFrame]

@[simp] theorem setRef_alloc (d : Dev) (n : Nat) (c : Nat) : (setRef d n c).scene.alloc = d.scene.alloc := by
  simp [setRef]

@[simp] theorem entryFrame_alloc (lag : Nat) (d : Dev) (n : Nat) (b : List Byte) : (entryFrame lag d n b).scene.alloc = d.scene.alloc := by
  unfold entryFrame
  split
  · simp
  · split <;> simp

@[simp] theorem entriesFrame_alloc (lag : Nat) (d : Dev) (es : List Nat) (b : List Byte) : (entriesFrame lag d es b).scene.alloc = d.scene.alloc := by
  simp [entriesFrame]

@[simp] theorem doSignalTimeout_alloc (n : Fin 256) (d : Dev) : (doSignalTimeout n d).scene.alloc = d.scene.alloc := by
  simp [doSignalTimeout]

@[simp] theorem networkLoss_alloc (d : Dev) : (networkLoss d).scene.alloc = d.scene.alloc := by
  simp [networkLoss]

@[simp] theorem canGrade_alloc (d : Dev) (c : Nat) : (canGrade d c).scene.alloc = d.scene.alloc := by
  simp [canGrade]

@[simp] theorem canHeard_alloc (d : Dev) (c : Nat) : (canHeard d c).scene.alloc = d.scene.alloc := by
  simp [canHeard]

@[simp] theorem canReceived_alloc (d : Dev) (c : Nat) : (canReceived d c).scene.alloc = d.scene.alloc := by
  simp [canReceived]

@[simp] theorem canSent_alloc (d : Dev) (c : Nat) : (canSent d c).scene.alloc = d.scene.alloc := by
  simp [canSent]

@[simp] theorem canSignals_alloc (port : Nat) (ext : Bool) (id : Nat) (data : List Byte) (d : Dev) :
    (canSignals port ext id data d).scene.alloc = d.scene.alloc := by
  simp [canSignals]

@[simp] theorem canBusOff_alloc (d : Dev) (c : Nat) : (canBusOff d c).scene.alloc = d.scene.alloc := by
  simp [canBusOff]

@[simp] theorem canFresh_alloc (d : Dev) (c : Nat) (st : Nat) : (canFresh d c st).scene.alloc = d.scene.alloc := by
  simp [canFresh]

@[simp] theorem doCanBusOff_alloc (port : Fin 4) (d : Dev) : (doCanBusOff port d).scene.alloc = d.scene.alloc := by
  simp [doCanBusOff]

@[simp] theorem doCanBusOffRecovery_alloc (port : Fin 4) (d : Dev) : (doCanBusOffRecovery port d).scene.alloc = d.scene.alloc := by
  simp [doCanBusOffRecovery]

@[simp] theorem canRestart_alloc (d : Dev) (c : Nat) (arg : Nat) : (canRestart d c arg).1.scene.alloc = d.scene.alloc := by
  simp [canRestart]

@[simp] theorem doCanIntegrated_alloc (port : Fin 4) (d : Dev) : (doCanIntegrated port d).scene.alloc = d.scene.alloc := by
  simp [doCanIntegrated]

@[simp] theorem doCanProtocolError_alloc (port : Fin 4) (transmitter : Bool) (tecAdd : Nat) (recAdd : Nat) (d : Dev) :
    (doCanProtocolError port transmitter tecAdd recAdd d).scene.alloc = d.scene.alloc := by
  simp [doCanProtocolError]

@[simp] theorem canTimingWrite_alloc (d : Dev) (c : Nat) (mem : Nat) (v : Nat) : (canTimingWrite d c mem v).1.scene.alloc = d.scene.alloc := by
  simp [canTimingWrite]

@[simp] theorem canModeWrite_alloc (d : Dev) (c : Nat) (v : Nat) : (canModeWrite d c v).1.scene.alloc = d.scene.alloc := by
  simp [canModeWrite]

@[simp] theorem canWrite_alloc (d : Dev) (c : Nat) (mem : Nat) (x : Val) : (canWrite d c mem x).1.scene.alloc = d.scene.alloc := by
  unfold canWrite
  split <;> simp

@[simp] theorem plcaLost_alloc (d : Dev) (p : Nat) : (plcaLost d p).scene.alloc = d.scene.alloc := by
  simp [plcaLost]

@[simp] theorem doPlcaBeaconSend_alloc (port : Fin 2) (d : Dev) : (doPlcaBeaconSend port d).scene.alloc = d.scene.alloc := by
  simp [doPlcaBeaconSend]

@[simp] theorem doPlcaBeaconReceived_alloc (port : Fin 2) (d : Dev) : (doPlcaBeaconReceived port d).scene.alloc = d.scene.alloc := by
  simp [doPlcaBeaconReceived]

@[simp] theorem doPlcaBeaconLoss_alloc (port : Fin 2) (d : Dev) : (doPlcaBeaconLoss port d).scene.alloc = d.scene.alloc := by
  simp [doPlcaBeaconLoss]

@[simp] theorem t1sWrite_alloc (d : Dev) (p : Nat) (mem : Nat) (x : Val) : (t1sWrite d p mem x).1.scene.alloc = d.scene.alloc := by
  unfold t1sWrite
  dsimp only
  split
  · split
    · simp
    · rfl
  · simp

@[simp] theorem doT1sFrameReceived_alloc (port : Fin 2) (frame : List Byte) (d : Dev) :
    (doT1sFrameReceived port frame d).scene.alloc = d.scene.alloc := by
  simp [doT1sFrameReceived]

@[simp] theorem doRestart_alloc (sess : Nat) (c : Fin 4) (arg : Nat) (d : Dev) : (doRestart sess c arg d).scene.alloc = d.scene.alloc := by
  simp [doRestart]

/-! ### Sessions.lean -/

@[simp] theorem badCount_alloc (d : Dev) (sess : Nat) (seq : Nat) (typ : Nat) : (badCount d sess seq typ).scene.alloc = d.scene.alloc := by
  simp [badCount]

@[simp] theorem countSessions_alloc (d : Dev) : (countSessions d).scene.alloc = d.scene.alloc := by
  simp [countSessions]

@[simp] theorem closeSession_alloc (d : Dev) (sess : Nat) : (closeSession d sess).scene.alloc = d.scene.alloc := by
  unfold closeSession
  split
  · rfl
  · simp

@[simp] theorem closeAll_alloc (d : Dev) : (closeAll d).scene.alloc = d.scene.alloc := by
  simp [closeAll]

@[simp] theorem limitCheck_alloc (d : Dev) (sess : Nat) : (limitCheck d sess).scene.alloc = d.scene.alloc := by
  unfold limitCheck
  split
  · simp
  · rfl

@[simp] theorem doHello_alloc (peer : Peer) (role : Nat) (slot : Nat) (hostKey : List Byte) (nonce : List Byte) (d : Dev) :
    (doHello peer role slot hostKey nonce d).scene.alloc = d.scene.alloc := by
  simp [doHello]

@[simp] theorem doKey_alloc (sess : Nat) (seq : Nat) (sig : List Byte) (d : Dev) : (doKey sess seq sig d).scene.alloc = d.scene.alloc := by
  unfold doKey
  split
  · rfl
  · simp

@[simp] theorem doClose_alloc (sess : Nat) (byDevice : Bool) (d : Dev) : (doClose sess byDevice d).scene.alloc = d.scene.alloc := by
  unfold doClose
  split
  · rfl
  · simp

@[simp] theorem atTurn_alloc (d : Dev) (sess seq typ flags n : Nat) {run : Dev → Nat → Dev} (hrun : ∀ d f, (run d f).scene.alloc = d.scene.alloc) :
    (atTurn d sess seq typ flags n run).scene.alloc = d.scene.alloc := by
  unfold atTurn
  split
  · rfl
  · dsimp only
    rw [limitCheck_alloc]
    split <;> simp [hrun]

@[simp] theorem commitTurn_alloc (sess : Nat) (seq : Nat) (mask : Nat) (dry : Bool) (m : List Host.Cell) (d : Dev) :
    (commitTurn sess seq mask dry m d).scene.alloc = d.scene.alloc := by
  simp [commitTurn]

@[simp] theorem doCommit_alloc (sess : Nat) (seq : Nat) (mask : Nat) (s : State) :
    (doCommit sess seq mask s).dev.scene.alloc = s.dev.scene.alloc := by
  simp [doCommit]

@[simp] theorem doCommitDryRun_alloc (sess : Nat) (seq : Nat) (mask : Nat) (s : State) :
    (doCommitDryRun sess seq mask s).dev.scene.alloc = s.dev.scene.alloc := by
  simp [doCommitDryRun]

@[simp] theorem sceneKeys_doCommitDecision (s : State) (hk : SceneKeys s.dev.scene.alloc) :
    SceneKeys (doCommitDecision s).dev.scene.alloc := by
  unfold doCommitDecision
  split
  · exact hk
  · simp [hk]

@[simp] theorem doRead_alloc (sess : Nat) (seq : Nat) (staged : Bool) (refs : List Ref) (d : Dev) :
    (doRead sess seq staged refs d).scene.alloc = d.scene.alloc := by
  simp [doRead]

@[simp] theorem dropSub_alloc (d : Dev) (sess : Nat) (r : Ref) : (dropSub d sess r).scene.alloc = d.scene.alloc := by
  simp [dropSub]

@[simp] theorem subscribeItem_alloc (sess : Nat) (i : SubItem) (d : Dev) : (subscribeItem sess i d).1.scene.alloc = d.scene.alloc := by
  simp [subscribeItem]

@[simp] theorem subscribeItems_alloc (sess : Nat) (l : List SubItem) (d : Dev) : (subscribeItems sess l d).1.scene.alloc = d.scene.alloc := by
  induction l generalizing d with
  | nil => rfl
  | cons i l ih => simp [subscribeItems, ih]

@[simp] theorem doSubscribe_alloc (sess : Nat) (seq : Nat) (items : List SubItem) (d : Dev) :
    (doSubscribe sess seq items d).scene.alloc = d.scene.alloc := by
  simp [doSubscribe]

@[simp] theorem doEventSend_alloc (sess : Nat) (d : Dev) : (doEventSend sess d).scene.alloc = d.scene.alloc := by
  unfold doEventSend
  split
  · rfl
  · simp

@[simp] theorem doEventRepeatExpiry_alloc (sess : Nat) (seq : Nat) (d : Dev) : (doEventRepeatExpiry sess seq d).scene.alloc = d.scene.alloc := by
  unfold doEventRepeatExpiry
  split
  · rfl
  · split
    · rfl
    · simp

@[simp] theorem doEventAck_alloc (sess : Nat) (seq : Nat) (d : Dev) : (doEventAck sess seq d).scene.alloc = d.scene.alloc := by
  unfold doEventAck
  split
  · rfl
  · split
    · rfl
    · simp

@[simp] theorem doPeriodicSubscriptionExpiry_alloc (sess : Nat) (r : Ref) (d : Dev) :
    (doPeriodicSubscriptionExpiry sess r d).scene.alloc = d.scene.alloc := by
  unfold doPeriodicSubscriptionExpiry
  split
  · rfl
  · split
    · rfl
    · split
      · rfl
      · split <;> simp

@[simp] theorem noteSeen_alloc (d : Dev) : (noteSeen d).scene.alloc = d.scene.alloc := by
  simp [noteSeen]

@[simp] theorem doOnChangeWindowExpiry_alloc (d : Dev) : (doOnChangeWindowExpiry d).scene.alloc = d.scene.alloc := by
  unfold doOnChangeWindowExpiry
  split
  · rfl
  · dsimp only
    rw [foldl_alloc (fun d c => by split <;> simp)]
    simp

@[simp] theorem doSessionIdleTimeout_alloc (sess : Nat) (d : Dev) : (doSessionIdleTimeout sess d).scene.alloc = d.scene.alloc := by
  unfold doSessionIdleTimeout
  split
  · simp
  · rfl

@[simp] theorem doSessionLifetimeExpiry_alloc (sess : Nat) (d : Dev) : (doSessionLifetimeExpiry sess d).scene.alloc = d.scene.alloc := by
  unfold doSessionLifetimeExpiry
  split
  · simp
  · rfl

@[simp] theorem noapEnable_alloc (d : Dev) (v : Val) : (noapEnable d v).1.scene.alloc = d.scene.alloc := by
  simp [noapEnable]

@[simp] theorem closeIfAsked_alloc (d : Dev) : (closeIfAsked d).scene.alloc = d.scene.alloc := by
  simp [closeIfAsked]

@[simp] theorem doNoapEnableWrite_alloc (sess : Nat) (v : Nat) (d : Dev) : (doNoapEnableWrite sess v d).scene.alloc = d.scene.alloc := by
  simp [doNoapEnableWrite]

@[simp] theorem hearAck_alloc (d : Dev) (sess : Nat) (seq : Nat) : (hearAck d sess seq).scene.alloc = d.scene.alloc := by
  simp [hearAck]

@[simp] theorem noapReceive_alloc (d : Dev) (fragment : Bool) (peer : Peer) (b : List Byte) :
    (noapReceive d fragment peer b).scene.alloc = d.scene.alloc := by
  unfold noapReceive
  dsimp only
  split
  · rfl
  · split
    · simp
    · split
      · rfl
      · split
        · rfl
        · simp

@[simp] theorem doNoapDatagramReceived_alloc (peer : Peer) (fragment : Bool) (b : List Byte) (d : Dev) :
    (doNoapDatagramReceived peer fragment b d).scene.alloc = d.scene.alloc := by
  simp [doNoapDatagramReceived]

/-! ### Network.lean -/

@[simp] theorem probe_alloc (d : Dev) (u : Nat) (k : Nat) : (probe d u k).scene.alloc = d.scene.alloc := by
  simp [probe]

@[simp] theorem holdDown_alloc (d : Dev) (u : Nat) : (holdDown d u).scene.alloc = d.scene.alloc := by
  simp [holdDown]

@[simp] theorem firstActive_alloc (d : Dev) (u : Nat) : (firstActive d u).scene.alloc = d.scene.alloc := by
  simp [firstActive]

@[simp] theorem doUplinkLinkUp_alloc (u : Fin 2) (rate : Fin 6) (d : Dev) : (doUplinkLinkUp u rate d).scene.alloc = d.scene.alloc := by
  simp [doUplinkLinkUp]

@[simp] theorem doUplinkLinkDown_alloc (u : Fin 2) (d : Dev) : (doUplinkLinkDown u d).scene.alloc = d.scene.alloc := by
  simp [doUplinkLinkDown]

@[simp] theorem doDuplicateAddressDetectionDone_alloc (u : Fin 2) (conflict : Fin 4) (d : Dev) :
    (doDuplicateAddressDetectionDone u conflict d).scene.alloc = d.scene.alloc := by
  simp [doDuplicateAddressDetectionDone]

@[simp] theorem redundancyWrite_alloc (d : Dev) (v : Val) : (redundancyWrite d v).1.scene.alloc = d.scene.alloc := by
  simp [redundancyWrite]

@[simp] theorem uplinkWrite_alloc (d : Dev) (u : Nat) (mem : Nat) (v : Val) : (uplinkWrite d u mem v).1.scene.alloc = d.scene.alloc := by
  simp [uplinkWrite]

@[simp] theorem addrWrite_alloc (d : Dev) (mem : Nat) (v : Val) : (addrWrite d mem v).1.scene.alloc = d.scene.alloc := by
  simp [addrWrite]

@[simp] theorem streamWrite_alloc (d : Dev) (n : Nat) (mem : Nat) (v : Val) : (streamWrite d n mem v).1.scene.alloc = d.scene.alloc := by
  simp [streamWrite]

@[simp] theorem avtpWrite_alloc (d : Dev) (n : Nat) (mem : Nat) (v : Val) : (avtpWrite d n mem v).1.scene.alloc = d.scene.alloc := by
  simp [avtpWrite]

@[simp] theorem arpIn_alloc (d : Dev) (u : Nat) (p : List Byte) : (arpIn d u p).scene.alloc = d.scene.alloc := by
  simp [arpIn]

@[simp] theorem ip4In_alloc (d : Dev) (u : Nat) (src : List Byte) (p : List Byte) : (ip4In d u src p).scene.alloc = d.scene.alloc := by
  simp [ip4In]

@[simp] theorem ip6In_alloc (d : Dev) (u : Nat) (src : List Byte) (p : List Byte) : (ip6In d u src p).scene.alloc = d.scene.alloc := by
  simp [ip6In]

@[simp] theorem aafAt_alloc (d : Dev) (p : List Byte) (n : Nat) : (aafAt d p n).scene.alloc = d.scene.alloc := by
  unfold aafAt
  split <;> simp

@[simp] theorem aafIn_alloc (d : Dev) (u : Nat) (f : List Byte) (p : List Byte) : (aafIn d u f p).scene.alloc = d.scene.alloc := by
  simp [aafIn]

@[simp] theorem updGptp_alloc (d : Dev) (u : Nat) (f : Gptp → Gptp) : (updGptp d u f).scene.alloc = d.scene.alloc := by
  simp [updGptp]

@[simp] theorem noteIn_alloc (d : Dev) (u : Nat) : (noteIn d u).scene.alloc = d.scene.alloc := by
  simp [noteIn]

@[simp] theorem sendGptp_alloc (d : Dev) (u : Nat) (mark : TxMark) (b : List Byte) : (sendGptp d u mark b).scene.alloc = d.scene.alloc := by
  simp [sendGptp]

@[simp] theorem linkDelay_alloc (d : Dev) (u : Nat) (t1 : ℤ) (t2 : ℤ) (t3 : ℤ) (t4 : ℤ) :
    (linkDelay d u t1 t2 t3 t4).scene.alloc = d.scene.alloc := by
  simp [linkDelay]

@[simp] theorem gptpIn_alloc (d : Dev) (u : Nat) (p : List Byte) : (gptpIn d u p).scene.alloc = d.scene.alloc := by
  unfold gptpIn
  dsimp only
  split
  · rfl
  · split
    · simp
    · simp
    · simp
    · simp
    · simp
    · rfl

@[simp] theorem frameIn_alloc (d : Dev) (u : Nat) (f : List Byte) : (frameIn d u f).scene.alloc = d.scene.alloc := by
  simp [frameIn]

@[simp] theorem ethReceive_alloc (d : Dev) (u : Nat) (fcsOk : Bool) (f : List Byte) : (ethReceive d u fcsOk f).scene.alloc = d.scene.alloc := by
  simp [ethReceive]

@[simp] theorem doUplinkFrameReceived_alloc (u : Fin 2) (fcsOk : Bool) (f : List Byte) (d : Dev) :
    (doUplinkFrameReceived u fcsOk f d).scene.alloc = d.scene.alloc := by
  simp [doUplinkFrameReceived]

@[simp] theorem doArpRequest_alloc (u : Fin 2) (f : List Byte) (d : Dev) : (doArpRequest u f d).scene.alloc = d.scene.alloc := by
  simp [doArpRequest]

@[simp] theorem doIcmpEcho_alloc (u : Fin 2) (f : List Byte) (d : Dev) : (doIcmpEcho u f d).scene.alloc = d.scene.alloc := by
  simp [doIcmpEcho]

@[simp] theorem doNeighbourSolicitation_alloc (u : Fin 2) (f : List Byte) (d : Dev) :
    (doNeighbourSolicitation u f d).scene.alloc = d.scene.alloc := by
  simp [doNeighbourSolicitation]

@[simp] theorem doAafPduReceived_alloc (u : Fin 2) (f : List Byte) (d : Dev) : (doAafPduReceived u f d).scene.alloc = d.scene.alloc := by
  simp [doAafPduReceived]

@[simp] theorem doTalkerPduSend_alloc (t : Fin 16) (d : Dev) : (doTalkerPduSend t d).scene.alloc = d.scene.alloc := by
  simp [doTalkerPduSend]

@[simp] theorem doPdelayExchange_alloc (u : Fin 2) (t1 : Nat) (t2 : Nat) (t3 : Nat) (t4 : Nat) (d : Dev) :
    (doPdelayExchange u t1 t2 t3 t4 d).scene.alloc = d.scene.alloc := by
  simp [doPdelayExchange]

@[simp] theorem doGptpSyncSend_alloc (u : Fin 2) (d : Dev) : (doGptpSyncSend u d).scene.alloc = d.scene.alloc := by
  simp [doGptpSyncSend]

@[simp] theorem frameLeft_alloc (d : Dev) (u : Nat) (mark : TxMark) : (frameLeft d u mark).scene.alloc = d.scene.alloc := by
  unfold frameLeft
  split
  · rfl
  · simp
  · simp
  · simp
  · simp

@[simp] theorem beginFrameOut_alloc (d : Dev) (u : Nat) : (beginFrameOut d u).scene.alloc = d.scene.alloc := by
  unfold beginFrameOut
  split
  · rfl
  · split
    · rfl
    · simp

@[simp] theorem askDelay_alloc (d : Dev) (u : Nat) : (askDelay d u).scene.alloc = d.scene.alloc := by
  simp [askDelay]

@[simp] theorem uplinkTick_alloc (d : Dev) (u : Nat) : (uplinkTick d u).scene.alloc = d.scene.alloc := by
  unfold uplinkTick
  dsimp only
  split
  · rfl
  · split <;> simp

@[simp] theorem uplinksTick_alloc (d : Dev) : (uplinksTick d).scene.alloc = d.scene.alloc := by
  simp [uplinksTick]

@[simp] theorem doRedundancyWrite_alloc (sess : Nat) (v : Nat) (d : Dev) : (doRedundancyWrite sess v d).scene.alloc = d.scene.alloc := by
  simp [doRedundancyWrite]

/-! ### Trust.lean -/

@[simp] theorem verifySlot_alloc (d : Dev) (i : Nat) : (verifySlot d i).scene.alloc = d.scene.alloc := by
  simp [verifySlot]

@[simp] theorem eraseOp_alloc (d : Dev) (i : Nat) (arg : Nat) : (eraseOp d i arg).1.scene.alloc = d.scene.alloc := by
  simp [eraseOp]

@[simp] theorem slotBulk_alloc (d : Dev) (i : Nat) (off : Nat) (b : List Byte) : (slotBulk d i off b).1.scene.alloc = d.scene.alloc := by
  simp [slotBulk]

@[simp] theorem verifyOp_alloc (d : Dev) (i : Nat) (arg : Nat) : (verifyOp d i arg).1.scene.alloc = d.scene.alloc := by
  simp [verifyOp]

@[simp] theorem activateOp_alloc (d : Dev) (i : Nat) (arg : Nat) : (activateOp d i arg).1.scene.alloc = d.scene.alloc := by
  simp [activateOp]

@[simp] theorem enrolOp_alloc (d : Dev) (b : List Byte) : (enrolOp d b).1.scene.alloc = d.scene.alloc := by
  simp [enrolOp]

@[simp] theorem revokeOp_alloc (d : Dev) (arg : Nat) : (revokeOp d arg).1.scene.alloc = d.scene.alloc := by
  simp [revokeOp]

@[simp] theorem revokeSlotOp_alloc (d : Dev) (r : Ref) (arg : Nat) : (revokeSlotOp d r arg).1.scene.alloc = d.scene.alloc := by
  simp [revokeSlotOp]

@[simp] theorem advanceOp_alloc (d : Dev) (arg : Nat) : (advanceOp d arg).1.scene.alloc = d.scene.alloc := by
  simp [advanceOp]

@[simp] theorem attestOp_alloc (d : Dev) (nonce : List Byte) : (attestOp d nonce).1.scene.alloc = d.scene.alloc := by
  simp [attestOp]

@[simp] theorem liteKeyWrite_alloc (d : Dev) (b : List Byte) : (liteKeyWrite d b).1.scene.alloc = d.scene.alloc := by
  simp [liteKeyWrite]

@[simp] theorem loadOp_alloc (d : Dev) (i : Nat) (arg : Nat) (signed : Bool) : (loadOp d i arg signed).1.scene.alloc = d.scene.alloc := by
  simp [loadOp]

@[simp] theorem progImageWrite_alloc (d : Dev) (i : Nat) (b : List Byte) : (progImageWrite d i b).1.scene.alloc = d.scene.alloc := by
  simp [progImageWrite]

@[simp] theorem doLoad_alloc (sess : Nat) (prog : Nat) (arg : Nat) (d : Dev) : (doLoad sess prog arg d).scene.alloc = d.scene.alloc := by
  simp [doLoad]

@[simp] theorem doErase_alloc (sess : Nat) (slot : Fin 8) (arg : Nat) (d : Dev) : (doErase sess slot arg d).scene.alloc = d.scene.alloc := by
  simp [doErase]

@[simp] theorem doVerify_alloc (sess : Nat) (slot : Fin 8) (arg : Nat) (d : Dev) : (doVerify sess slot arg d).scene.alloc = d.scene.alloc := by
  simp [doVerify]

@[simp] theorem doActivate_alloc (sess : Nat) (slot : Fin 8) (arg : Nat) (d : Dev) : (doActivate sess slot arg d).scene.alloc = d.scene.alloc := by
  simp [doActivate]

@[simp] theorem doEnrol_alloc (sess : Nat) (b : List Byte) (d : Dev) : (doEnrol sess b d).scene.alloc = d.scene.alloc := by
  simp [doEnrol]

@[simp] theorem doRevoke_alloc (sess : Nat) (keyId : Nat) (d : Dev) : (doRevoke sess keyId d).scene.alloc = d.scene.alloc := by
  simp [doRevoke]

@[simp] theorem doRevokeSlot_alloc (sess : Nat) (r : Ref) (arg : Nat) (d : Dev) : (doRevokeSlot sess r arg d).scene.alloc = d.scene.alloc := by
  simp [doRevokeSlot]

@[simp] theorem doAdvance_alloc (sess : Nat) (arg : Nat) (d : Dev) : (doAdvance sess arg d).scene.alloc = d.scene.alloc := by
  simp [doAdvance]

@[simp] theorem doAttest_alloc (sess : Nat) (nonce : List Byte) (d : Dev) : (doAttest sess nonce d).scene.alloc = d.scene.alloc := by
  simp [doAttest]

/-! ### Observation.lean -/

@[simp] theorem tokenWrite_alloc (d : Dev) (b : List Byte) : (tokenWrite d b).1.scene.alloc = d.scene.alloc := by
  simp [tokenWrite]

@[simp] theorem endTokenOp_alloc (d : Dev) (arg : Nat) : (endTokenOp d arg).1.scene.alloc = d.scene.alloc := by
  simp [endTokenOp]

@[simp] theorem sendTrace_alloc (d : Dev) (r : TraceRecord) : (sendTrace d r).scene.alloc = d.scene.alloc := by
  simp [sendTrace]

@[simp] theorem doChimneyRecordSend_alloc (d : Dev) : (doChimneyRecordSend d).scene.alloc = d.scene.alloc := by
  unfold doChimneyRecordSend
  split
  · rfl
  · split
    · rfl
    · simp

@[simp] theorem doTokenExpiry_alloc (d : Dev) : (doTokenExpiry d).scene.alloc = d.scene.alloc := by
  simp [doTokenExpiry]

@[simp] theorem runOp_alloc (d : Dev) (arg : Nat) : (runOp d arg).1.scene.alloc = d.scene.alloc := by
  simp [runOp]

@[simp] theorem clearOp_alloc (d : Dev) (arg : Nat) : (clearOp d arg).1.scene.alloc = d.scene.alloc := by
  simp [clearOp]

@[simp] theorem counterWrite_alloc (d : Dev) (k : Nat) (mem : Nat) (v : Val) : (counterWrite d k mem v).1.scene.alloc = d.scene.alloc := by
  simp [counterWrite]

@[simp] theorem armOp_alloc (d : Dev) (arg : Nat) : (armOp d arg).1.scene.alloc = d.scene.alloc := by
  simp [armOp]

@[simp] theorem triggerOp_alloc (d : Dev) (arg : Nat) : (triggerOp d arg).1.scene.alloc = d.scene.alloc := by
  simp [triggerOp]

@[simp] theorem doToken_alloc (sess : Nat) (b : List Byte) (d : Dev) : (doToken sess b d).scene.alloc = d.scene.alloc := by
  simp [doToken]

@[simp] theorem doEndToken_alloc (sess : Nat) (arg : Nat) (d : Dev) : (doEndToken sess arg d).scene.alloc = d.scene.alloc := by
  simp [doEndToken]

@[simp] theorem doCountersRun_alloc (sess : Nat) (d : Dev) : (doCountersRun sess d).scene.alloc = d.scene.alloc := by
  simp [doCountersRun]

@[simp] theorem doCountersStop_alloc (sess : Nat) (d : Dev) : (doCountersStop sess d).scene.alloc = d.scene.alloc := by
  simp [doCountersStop]

@[simp] theorem doClear_alloc (sess : Nat) (arg : Nat) (d : Dev) : (doClear sess arg d).scene.alloc = d.scene.alloc := by
  simp [doClear]

@[simp] theorem doArm_alloc (sess : Nat) (arg : Nat) (d : Dev) : (doArm sess arg d).scene.alloc = d.scene.alloc := by
  simp [doArm]

@[simp] theorem doTrigger_alloc (sess : Nat) (arg : Nat) (d : Dev) : (doTrigger sess arg d).scene.alloc = d.scene.alloc := by
  simp [doTrigger]

@[simp] theorem doSnapIn_alloc (d : Dev) : (doSnapIn d).scene.alloc = d.scene.alloc := by
  simp [doSnapIn]

@[simp] theorem doSnapOutEnd_alloc (d : Dev) : (doSnapOutEnd d).scene.alloc = d.scene.alloc := by
  simp [doSnapOutEnd]

/-! ### ThreadEvents.lean -/

/-- An operand that waits has left the allocations. -/
def Got.Leaves (d : Dev) : Got → Prop
  | .wait e => e.scene.alloc = d.scene.alloc
  | _ => True

theorem scratchLoad_leaves (d : Dev) (t a n : Nat) : (scratchLoad d t a n).Leaves d := by
  unfold scratchLoad
  dsimp only
  split
  · trivial
  · split
    · split <;> trivial
    · split <;> trivial

theorem viewAddr_leaves (d : Dev) (t : Nat) (w : Be32Op) : (viewAddr d t w).Leaves d := by
  have hload := scratchLoad_leaves d t (w.operand.toNat % 1024) 4
  unfold viewAddr
  split
  iterate 4 trivial
  split
  · trivial
  · exact hload

theorem farLoad_leaves (d : Dev) (t : Nat) (w : Be32Op) (n : Nat) : (farLoad d t w n).Leaves d := by
  unfold farLoad
  dsimp only
  split
  · trivial
  · split
    · trivial
    · split
      · trivial
      · split
        · trivial
        · simp [Got.Leaves]
    · rfl

theorem portLoad_leaves (d : Dev) (t : Nat) (w : Be32Op) : (portLoad d t w).Leaves d := by
  unfold portLoad
  split
  · trivial
  · split
    · trivial
    · split <;> trivial

theorem loadOperand_leaves (d : Dev) (t : Nat) (w : Be32Op) (n : Nat) : (loadOperand d t w n).Leaves d := by
  unfold loadOperand
  split
  · exact portLoad_leaves d t w
  · exact farLoad_leaves d t w n
  · have haddr := viewAddr_leaves d t w
    split
    · exact scratchLoad_leaves d t _ n
    · exact haddr

theorem operand_leaves (d : Dev) (t : Nat) (w : Be32Op) : (operand d t w).Leaves d := by
  unfold operand
  split
  · trivial
  · exact loadOperand_leaves d t w 4

/-- Whatever state an effect leaves has only whole objects of a scene class allocated. -/
@[simp] def RanKeepsScene : Ran → Prop
  | .done s _ => SceneKeys s.dev.scene.alloc
  | .jump s _ => SceneKeys s.dev.scene.alloc
  | .wait s => SceneKeys s.dev.scene.alloc
  | .hold s _ => SceneKeys s.dev.scene.alloc
  | .fault _ => True

/-- An effect leaves only whole objects of a scene class, whatever becomes of the thread. -/
structure EffectKeepsScene (eff : Effect) : Prop where
  ran : ∀ (s : State) t w, SceneKeys s.dev.scene.alloc → RanKeepsScene (eff s t w)

theorem ranKeepsScene_withOperand {s : State} {t : Nat} {w : Be32Op} {k : Word → Ran} (hk : SceneKeys s.dev.scene.alloc) (hrun : ∀ v, RanKeepsScene (k v)) :
    RanKeepsScene (withOperand s t w k) := by
  have hleaves := operand_leaves s.dev t w
  unfold withOperand
  split <;> rename_i hop
  · exact hrun _
  · rw [hop] at hleaves
    simpa [Eq.symm hleaves] using hk
  · trivial

theorem effectKeepsScene_effNop : EffectKeepsScene effNop := ⟨fun _ _ _ hk => hk⟩

theorem effectKeepsScene_jmpEffect : EffectKeepsScene jmpEffect := ⟨fun _ _ _ hk => hk⟩

theorem effectKeepsScene_effMvAt : EffectKeepsScene effMvAt := ⟨fun _ _ _ hk => by simpa [effMvAt] using hk⟩

theorem effectKeepsScene_regEffect (f : Thread → Thread) : EffectKeepsScene (regEffect f) := ⟨fun s t w hk => by simpa [regEffect] using hk⟩

theorem effectKeepsScene_opEffect (f : Thread → Word → Thread) : EffectKeepsScene (opEffect f) :=
  ⟨fun s t w hk => ranKeepsScene_withOperand hk fun v => by simpa using hk⟩

theorem effectKeepsScene_longEffect (cycles : Nat) (f : Word → Word → Word) : EffectKeepsScene (longEffect cycles f) :=
  ⟨fun s t w hk => ranKeepsScene_withOperand hk fun v => by simpa using hk⟩

theorem effectKeepsScene_loadEffect (r n : Nat) : EffectKeepsScene (loadEffect r n) := by
  refine ⟨fun s t w hk => ?_⟩
  have hleaves := loadOperand_leaves s.dev t w n
  unfold loadEffect
  split
  · simpa using hk
  · split <;> rename_i hop
    · exact hk
    · rw [hop] at hleaves
      simpa [Eq.symm hleaves] using hk
    · trivial

theorem ranKeepsScene_portStore {s : State} (t : Nat) (w : Be32Op) (v : Word) (hk : SceneKeys s.dev.scene.alloc) :
    RanKeepsScene (portStore s t w v) := by
  unfold portStore
  split
  · trivial
  · dsimp only
    split <;> simp [hk]

theorem ranKeepsScene_farStore {s : State} (t a : Nat) (bs : List Byte) (hk : SceneKeys s.dev.scene.alloc) : RanKeepsScene (farStore s t a bs) := by
  unfold farStore
  dsimp only
  split
  · simp [hk]
  · simp [hk]
  · simp [hk]
  · simp [hk]
  · split
    · simp [hk]
    · split
      · simp [hk]
      · split <;> simp [hk]

theorem effectKeepsScene_storeEffect (n : Nat) (f : Thread → Word) : EffectKeepsScene (storeEffect n f) := by
  refine ⟨fun s t w hk => ?_⟩
  have hleaves := viewAddr_leaves s.dev t w
  unfold storeEffect
  dsimp only
  split
  · exact ranKeepsScene_portStore t w _ hk
  · exact ranKeepsScene_farStore t _ _ hk
  · split <;> rename_i hop
    · trivial
    · rw [hop] at hleaves
      simpa [Eq.symm hleaves] using hk
    · split
      · trivial
      · split <;> simp [hk]

theorem effectKeepsScene_timedEffect : EffectKeepsScene timedEffect := by
  refine ⟨fun s t w hk => ?_⟩
  unfold timedEffect
  dsimp only
  split
  · trivial
  · split
    · simp [hk]
    · split
      · split
        · simp [hk]
        · split <;> simp [hk]
      · split
        · simp [hk]
        · split <;> simp [hk]

theorem effectKeepsScene_waitPosEffect : EffectKeepsScene waitPosEffect := by
  refine ⟨fun s t w hk => ?_⟩
  unfold waitPosEffect
  dsimp only
  split
  · trivial
  · split
    · trivial
    · split <;> simp [hk]

theorem effectKeepsScene_waitEvEffect : EffectKeepsScene waitEvEffect := by
  refine ⟨fun s t w hk => ?_⟩
  unfold waitEvEffect
  split <;> simp [hk]

theorem effectKeepsScene_fenceEffect : EffectKeepsScene fenceEffect := by
  refine ⟨fun s t w hk => ?_⟩
  unfold fenceEffect
  split <;> exact hk

theorem effectKeepsScene_syncfEffect : EffectKeepsScene syncfEffect := by
  refine ⟨fun s t w hk => ?_⟩
  have hfence := effectKeepsScene_fenceEffect.ran s t w hk
  unfold syncfEffect
  split <;> rename_i hrun
  · rw [hrun] at hfence
    split <;> simpa using hfence
  · exact hfence

theorem effectKeepsScene_callEffect : EffectKeepsScene callEffect := by
  refine ⟨fun s t w hk => ?_⟩
  unfold callEffect
  dsimp only
  split
  · trivial
  · simpa using hk

theorem effectKeepsScene_retEffect : EffectKeepsScene retEffect := by
  refine ⟨fun s t w hk => ?_⟩
  unfold retEffect
  split
  · trivial
  · simpa using hk

theorem effectKeepsScene_farbEffect : EffectKeepsScene farbEffect := by
  refine ⟨fun s t w hk => ?_⟩
  unfold farbEffect
  dsimp only
  split
  · simpa using hk
  · exact ranKeepsScene_withOperand hk fun v => by simpa using hk

theorem effectKeepsScene_cinvEffect : EffectKeepsScene cinvEffect := by
  refine ⟨fun s t w hk => ?_⟩
  unfold cinvEffect
  split <;> simpa using hk

theorem effectKeepsScene_cinvaEffect : EffectKeepsScene cinvaEffect := by
  refine ⟨fun s t w hk => ?_⟩
  unfold cinvaEffect
  split <;> simpa using hk

theorem effectKeepsScene_postEffect (entry : Thread → Be32Op → Option Nat × Nat) : EffectKeepsScene (postEffect entry) :=
  ⟨fun s t w hk => by simpa [postEffect] using hk⟩

theorem effectKeepsScene_effEoi : EffectKeepsScene effEoi := by
  refine ⟨fun s t w hk => ?_⟩
  rw [effEoi, RanKeepsScene, withDev_dev, eoi_alloc]
  exact hk

theorem effectKeepsScene_effectOf (op : Nat) : EffectKeepsScene (effectOf op) := by
  unfold effectOf
  split
  · exact effectKeepsScene_effNop
  iterate 5 exact effectKeepsScene_loadEffect _ _
  iterate 5 exact effectKeepsScene_storeEffect _ _
  · exact effectKeepsScene_timedEffect
  iterate 5 exact effectKeepsScene_regEffect _
  · exact effectKeepsScene_effMvAt
  iterate 2 exact effectKeepsScene_regEffect _
  iterate 19 exact effectKeepsScene_opEffect _
  iterate 6 exact effectKeepsScene_longEffect _ _
  · exact effectKeepsScene_jmpEffect
  · exact effectKeepsScene_callEffect
  · exact effectKeepsScene_retEffect
  · exact effectKeepsScene_waitPosEffect
  · exact effectKeepsScene_waitEvEffect
  · exact effectKeepsScene_effEoi
  · exact effectKeepsScene_syncfEffect
  · exact effectKeepsScene_fenceEffect
  · exact effectKeepsScene_farbEffect
  · exact effectKeepsScene_cinvEffect
  · exact effectKeepsScene_cinvaEffect
  iterate 2 exact effectKeepsScene_postEffect _
  · exact effectKeepsScene_effNop

theorem sceneKeys_runEffect {eff : Effect} (he : EffectKeepsScene eff) (op t : Nat) (w : Be32Op) {s : State} (hk : SceneKeys s.dev.scene.alloc) :
    SceneKeys (runEffect eff op t w s).dev.scene.alloc := by
  have hread : SceneKeys (withDev s (readOperand s.dev t op w)).dev.scene.alloc := by simpa using hk
  have hran := he.ran _ t w hread
  unfold runEffect
  dsimp only
  split <;> rename_i heff <;> rw [heff] at hran
  iterate 4 simpa using hran
  simpa using hk

theorem sceneKeys_issue {eff : Effect} (he : EffectKeepsScene eff) (op t : Nat) (w : Be32Op) {s : State} (hk : SceneKeys s.dev.scene.alloc) :
    SceneKeys (issue eff op t w s).dev.scene.alloc := by
  unfold issue
  split
  · exact hk
  · dsimp only
    split
    · simpa using hk
    · split
      · simpa using hk
      · split
        · simpa using hk
        · split
          · simpa using hk
          · split
            · simpa using hk
            · split
              · refine sceneKeys_runEffect he _ _ _ ?_
                split <;> simpa using hk
              · rw [useSlots_alloc, retireOp32_alloc]
                split <;> simpa using hk

@[simp] theorem sceneKeys_retry (s : State) (t : Nat) (hk : SceneKeys s.dev.scene.alloc) : SceneKeys (retry s t).dev.scene.alloc := by
  unfold retry
  split
  · exact sceneKeys_issue (effectKeepsScene_effectOf _) _ _ _ (by simpa using hk)
  · exact hk

@[simp] theorem sceneKeys_doLongOpComplete (t : Fin 384) (s : State) (hk : SceneKeys s.dev.scene.alloc) :
    SceneKeys (doLongOpComplete t s).dev.scene.alloc := by
  simp [doLongOpComplete, hk]

@[simp] theorem sceneKeys_doStoreDrain (t : Fin 384) (s : State) (hk : SceneKeys s.dev.scene.alloc) :
    SceneKeys (doStoreDrain t s).dev.scene.alloc := by
  simp [doStoreDrain, hk]

@[simp] theorem sceneKeys_leaveBells (d : Dev) (m : List Host.Cell) (t : Nat) (hk : SceneKeys d.scene.alloc) :
    SceneKeys (leaveBells d m t).scene.alloc :=
  sceneKeys_foldl (fun d b => sceneKeys_sendBell d m b) _ hk

@[simp] theorem sceneKeys_doFarWriteResponse (t : Fin 384) (s : State) (hk : SceneKeys s.dev.scene.alloc) :
    SceneKeys (doFarWriteResponse t s).dev.scene.alloc := by
  unfold doFarWriteResponse
  split
  · exact hk
  · exact sceneKeys_retry _ _ (sceneKeys_leaveBells _ _ _ (by simpa using hk))

@[simp] theorem sceneKeys_arrive (s : State) (t : Nat) (v : Word) (hk : SceneKeys s.dev.scene.alloc) :
    SceneKeys (arrive s t v).dev.scene.alloc := by
  simp [arrive, hk]

@[simp] theorem sceneKeys_arriveFar (s : State) (t : Nat) (a : Nat) (n : Nat) (hk : SceneKeys s.dev.scene.alloc) :
    SceneKeys (arriveFar s t a n).dev.scene.alloc := by
  unfold arriveFar
  dsimp only
  split <;> simp [hk]

@[simp] theorem sceneKeys_arrivePort (s : State) (t : Nat) (w : Be32Op) (hk : SceneKeys s.dev.scene.alloc) :
    SceneKeys (arrivePort s t w).dev.scene.alloc := by
  unfold arrivePort
  dsimp only
  split <;> simp [hk]

@[simp] theorem sceneKeys_doLoadDataArrival (t : Fin 384) (s : State) (hk : SceneKeys s.dev.scene.alloc) :
    SceneKeys (doLoadDataArrival t s).dev.scene.alloc := by
  unfold doLoadDataArrival
  split
  · simp [hk]
  · exact hk

@[simp] theorem clusterStop_alloc (d : Dev) (t : Nat) : (clusterStop d t).scene.alloc = d.scene.alloc := by
  simp [clusterStop]

@[simp] theorem loseCluster_alloc (c : Fin 12) (d : Dev) : (loseCluster c d).scene.alloc = d.scene.alloc := by
  simp [loseCluster]

@[simp] theorem sceneKeys_doInstructionCacheFill (t : Fin 384) (s : State) (hk : SceneKeys s.dev.scene.alloc) :
    SceneKeys (doInstructionCacheFill t s).dev.scene.alloc := by
  unfold doInstructionCacheFill
  split
  · simp [hk]
  · exact hk

@[simp] theorem doWaitposEnd_alloc (t : Fin 384) (d : Dev) : (doWaitposEnd t d).scene.alloc = d.scene.alloc := by
  unfold doWaitposEnd
  split
  · simp
  · rfl

@[simp] theorem doWaitevClaim_alloc (t : Fin 384) (d : Dev) : (doWaitevClaim t d).scene.alloc = d.scene.alloc := by
  unfold doWaitevClaim
  split
  · simp
  · rfl

@[simp] theorem popPost_alloc (d : Dev) (e : Nat) : (popPost d e).scene.alloc = d.scene.alloc := by
  simp [popPost]

@[simp] theorem sceneKeys_doPostQueueDepart (e : Fin 96) (m : List Host.Cell) (d : Dev) (hk : SceneKeys d.scene.alloc) :
    SceneKeys (doPostQueueDepart e m d).scene.alloc := by
  unfold doPostQueueDepart
  split
  · exact hk
  · split
    · exact hk
    · split
      · simp [hk]
      · split
        · simp [hk]
        · split
          · exact hk
          · next d' hq => simpa [enqueueList_alloc hq] using hk

@[simp] theorem doTimedWriteLanding_alloc (isl : Fin 105) (m : List Host.Cell) (d : Dev) :
    (doTimedWriteLanding isl m d).scene.alloc = d.scene.alloc := by
  unfold doTimedWriteLanding
  dsimp only
  split
  · rfl
  · split
    · rfl
    · simp

@[simp] theorem sceneKeys_doBeamPortQueueFree (isl : Fin 105) (s : State) (hk : SceneKeys s.dev.scene.alloc) :
    SceneKeys (doBeamPortQueueFree isl s).dev.scene.alloc := by
  unfold doBeamPortQueueFree
  split
  · exact sceneKeys_foldl_state sceneKeys_retry _ hk
  · exact hk

@[simp] theorem doClusterFault_alloc (c : ClusterLoss) (d : Dev) : (doClusterFault c d).scene.alloc = d.scene.alloc := by
  unfold doClusterFault
  split <;> simp

end Sys2Proof.Machine
end

section
/-!
What a step leaves in `alloc`, the allocated objects (R87, R91): power, writes of members, NOAP-lite, boot and the tick.
`f_alloc` says that `f` leaves them, `sceneKeys_f` that `f` leaves only whole objects of a scene class.
-/
namespace Sys2Proof.Machine

/-! ### Power.lean -/

@[simp] theorem updState_alloc (d : Dev) : (updState d).scene.alloc = d.scene.alloc := by
  simp [updState]

@[simp] theorem tracePower_alloc (d : Dev) : (tracePower d).scene.alloc = d.scene.alloc := by
  simp [tracePower]

@[simp] theorem updRate_alloc (d : Dev) : (updRate d).scene.alloc = d.scene.alloc := by
  unfold updRate
  dsimp only
  split <;> simp

@[simp] theorem burnFuses_alloc (d : Dev) : (burnFuses d).scene.alloc = d.scene.alloc := by
  simp [burnFuses]

@[simp] theorem boostEnd_alloc (d : Dev) : (boostEnd d).scene.alloc = d.scene.alloc := by
  simp [boostEnd]

@[simp] theorem boostStart_alloc (d : Dev) (n : Nat) : (boostStart d n).scene.alloc = d.scene.alloc := by
  simp [boostStart]

@[simp] theorem boostOp_alloc (d : Dev) (arg : Nat) : (boostOp d arg).1.scene.alloc = d.scene.alloc := by
  simp [boostOp]

@[simp] theorem doBoostRequest_alloc (sess : Nat) (arg : Nat) (d : Dev) : (doBoostRequest sess arg d).scene.alloc = d.scene.alloc := by
  simp [doBoostRequest]

@[simp] theorem doBoostEndRequest_alloc (sess : Nat) (d : Dev) : (doBoostEndRequest sess d).scene.alloc = d.scene.alloc := by
  simp [doBoostEndRequest]

@[simp] theorem doBoostEpisodeEnd_alloc (d : Dev) : (doBoostEpisodeEnd d).scene.alloc = d.scene.alloc := by
  simp [doBoostEpisodeEnd]

@[simp] theorem doBoostLifetimeFuse_alloc (d : Dev) : (doBoostLifetimeFuse d).scene.alloc = d.scene.alloc := by
  simp [doBoostLifetimeFuse]

@[simp] theorem doBoostVinLow_alloc (d : Dev) : (doBoostVinLow d).scene.alloc = d.scene.alloc := by
  simp [doBoostVinLow]

@[simp] theorem updAutumn_alloc (d : Dev) : (updAutumn d).scene.alloc = d.scene.alloc := by
  simp [updAutumn]

@[simp] theorem autumnWrite_alloc (d : Dev) (h : Nat) (mem : Nat) (v : Val) : (autumnWrite d h mem v).1.scene.alloc = d.scene.alloc := by
  simp [autumnWrite]

@[simp] theorem governed_alloc (d : Dev) (was : Bool) : (governed d was).scene.alloc = d.scene.alloc := by
  unfold governed
  dsimp only
  split
  · split <;> simp
  · simp

@[simp] theorem finishAbort_alloc (d : Dev) : (finishAbort d).scene.alloc = d.scene.alloc := by
  simp [finishAbort]

@[simp] theorem sleepAbort_alloc (d : Dev) (block : Nat) (reason : Nat) (detail : Nat) :
    (sleepAbort d block reason detail).scene.alloc = d.scene.alloc := by
  simp [sleepAbort]

@[simp] theorem sleepOp_alloc (d : Dev) (arg : Nat) : (sleepOp d arg).1.scene.alloc = d.scene.alloc := by
  simp [sleepOp]

@[simp] theorem doSleepWinter_alloc (sess : Nat) (d : Dev) : (doSleepWinter sess d).scene.alloc = d.scene.alloc := by
  simp [doSleepWinter]

@[simp] theorem doSleepFrost_alloc (sess : Nat) (d : Dev) : (doSleepFrost sess d).scene.alloc = d.scene.alloc := by
  simp [doSleepFrost]

@[simp] theorem sendStop_alloc (d : Dev) (b : Nat) : (sendStop d b).scene.alloc = d.scene.alloc := by
  simp [sendStop]

@[simp] theorem doWearFlushEnd_alloc (d : Dev) : (doWearFlushEnd d).scene.alloc = d.scene.alloc := by
  simp [doWearFlushEnd]

@[simp] theorem holdCoupling_alloc (d : Dev) (h : Nat) : (holdCoupling d h).scene.alloc = d.scene.alloc := by
  unfold holdCoupling
  split <;> rfl

@[simp] theorem sceneKeys_stopHeads (s : State) (hk : SceneKeys s.dev.scene.alloc) :
    SceneKeys (stopHeads s).dev.scene.alloc := by
  simp [stopHeads, hk]

@[simp] theorem sceneKeys_resumeHeads (s : State) (hk : SceneKeys s.dev.scene.alloc) :
    SceneKeys (resumeHeads s).dev.scene.alloc := by
  simp [resumeHeads, hk]

@[simp] theorem stopLanes_alloc (d : Dev) : (stopLanes d).scene.alloc = d.scene.alloc := by
  simp [stopLanes]

@[simp] theorem resumeLanes_alloc (d : Dev) : (resumeLanes d).scene.alloc = d.scene.alloc := by
  simp [resumeLanes]

@[simp] theorem stopNetwork_alloc (d : Dev) : (stopNetwork d).scene.alloc = d.scene.alloc := by
  simp [stopNetwork]

@[simp] theorem resumeNetwork_alloc (d : Dev) : (resumeNetwork d).scene.alloc = d.scene.alloc := by
  simp [resumeNetwork]

@[simp] theorem loseBanks_alloc (s : State) : (loseBanks s).dev.scene.alloc = s.dev.scene.alloc := by
  simp [loseBanks]

@[simp] theorem stopEvents_alloc (d : Dev) : (stopEvents d).scene.alloc = d.scene.alloc := by
  simp [stopEvents]

@[simp] theorem holdMigration_alloc (d : Dev) : (holdMigration d).scene.alloc = d.scene.alloc := by
  unfold holdMigration
  split
  · rfl
  · simp

@[simp] theorem sceneKeys_stopBlock (s : State) (b : Nat) (hk : SceneKeys s.dev.scene.alloc) :
    SceneKeys (stopBlock s b).dev.scene.alloc := by
  simp [stopBlock, hk]

@[simp] theorem sceneKeys_dramAgain (s : State) (hk : SceneKeys s.dev.scene.alloc) : SceneKeys (dramAgain s).dev.scene.alloc := by
  unfold dramAgain
  dsimp only
  refine sceneKeys_foldl_state (fun s t hs => ?_) _ (sceneKeys_foldl_state sceneKeys_flushLines _ hk)
  split
  · split
    · exact sceneKeys_retry s t hs
    · exact hs
  · exact hs

@[simp] theorem sceneKeys_doDramInitComplete (s : State) (hk : SceneKeys s.dev.scene.alloc) :
    SceneKeys (doDramInitComplete s).dev.scene.alloc := by
  simp [doDramInitComplete, hk]

@[simp] theorem sceneKeys_resumeBlock (s : State) (b : Nat) (hk : SceneKeys s.dev.scene.alloc) :
    SceneKeys (resumeBlock s b).dev.scene.alloc := by
  simp [resumeBlock, hk]

@[simp] theorem sceneKeys_doBlockStopAnswer (a : StopAnswer) (s : State) (hk : SceneKeys s.dev.scene.alloc) :
    SceneKeys (doBlockStopAnswer a s).dev.scene.alloc := by
  unfold doBlockStopAnswer
  dsimp only
  split
  · split
    · simp [hk]
    · split <;> simp [hk]
  · exact hk

@[simp] theorem sceneKeys_doSleepRollbackStep (s : State) (hk : SceneKeys s.dev.scene.alloc) : SceneKeys (doSleepRollbackStep s).dev.scene.alloc := by
  unfold doSleepRollbackStep
  split
  · next b _ =>
    split
    · exact hk
    · have hresume := sceneKeys_resumeBlock (withDev s (disarm { s.dev with power.sleep := .rollback (b - 1) } tkRollback 0)) b hk
      simpa using hresume
  · exact hk

@[simp] theorem sleepPads_alloc (d : Dev) : (sleepPads d).scene.alloc = d.scene.alloc := by
  simp [sleepPads]

@[simp] theorem sceneKeys_coldReset (d : Dev) (vin : Bool) (keep : Ref → Bool) : SceneKeys (coldReset d vin keep).scene.alloc := by
  unfold coldReset
  dsimp only
  split <;> simp [Dev.reset, Scene.reset]

@[simp] theorem sceneKeys_endAbruptly (s : State) (cause : Nat) : SceneKeys (endAbruptly s cause).dev.scene.alloc := by
  simp [endAbruptly]

@[simp] theorem beginRestore_alloc (d : Dev) (step : Nat) (start : Nat) : (beginRestore d step start).scene.alloc = d.scene.alloc := by
  unfold beginRestore
  split <;> simp

@[simp] theorem sceneKeys_doVinValid (s : State) (hk : SceneKeys s.dev.scene.alloc) :
    SceneKeys (doVinValid s).dev.scene.alloc := by
  unfold doVinValid
  dsimp only
  split
  · simp
  · simp [hk]
  · exact hk

@[simp] theorem sceneKeys_doVinLoss (s : State) (hk : SceneKeys s.dev.scene.alloc) :
    SceneKeys (doVinLoss s).dev.scene.alloc := by
  unfold doVinLoss
  split <;> simp [hk]

@[simp] theorem sceneKeys_doVinAbsent (s : State) : SceneKeys (doVinAbsent s).dev.scene.alloc := by
  simp [doVinAbsent]

@[simp] theorem sceneKeys_doCrankTimeout (s : State) (hk : SceneKeys s.dev.scene.alloc) :
    SceneKeys (doCrankTimeout s).dev.scene.alloc := by
  simp [doCrankTimeout, hk]

@[simp] theorem sceneKeys_doOvervoltage (s : State) (hk : SceneKeys s.dev.scene.alloc) : SceneKeys (doOvervoltage s).dev.scene.alloc := by
  unfold doOvervoltage
  split
  · exact hk
  · split
    · exact hk
    · exact sceneKeys_endAbruptly _ _

@[simp] theorem doOvervoltageClear_alloc (d : Dev) : (doOvervoltageClear d).scene.alloc = d.scene.alloc := by
  simp [doOvervoltageClear]

@[simp] theorem doCrankEntry_alloc (d : Dev) : (doCrankEntry d).scene.alloc = d.scene.alloc := by
  simp [doCrankEntry]

@[simp] theorem sceneKeys_doCrankExit (s : State) (hk : SceneKeys s.dev.scene.alloc) : SceneKeys (doCrankExit s).dev.scene.alloc := by
  unfold doCrankExit
  split
  · exact hk
  · dsimp only
    refine sceneKeys_dramAgain _ ?_
    simp only [withDev_dev, raise_alloc, tracePower_alloc]
    exact sceneKeys_foldl (fun d i => sceneKeys_doGatedIslandAccessResume _ _ d) _ (by simpa using hk)

@[simp] theorem removePower_alloc (s : State) (kind : Nat) : (removePower s kind).dev.scene.alloc = s.dev.scene.alloc := by
  simp [removePower]

@[simp] theorem doStopDelayExpiry_alloc (s : State) : (doStopDelayExpiry s).dev.scene.alloc = s.dev.scene.alloc := by
  unfold doStopDelayExpiry
  split
  · simp
  · rfl

@[simp] theorem sceneKeys_doThermalTrip (s : State) (hk : SceneKeys s.dev.scene.alloc) :
    SceneKeys (doThermalTrip s).dev.scene.alloc := by
  simp [doThermalTrip, hk]

@[simp] theorem sceneKeys_wakeUp (s : State) (source : Nat) (detail : Nat) (hk : SceneKeys s.dev.scene.alloc) :
    SceneKeys (wakeUp s source detail).dev.scene.alloc := by
  unfold wakeUp
  dsimp only
  split
  · simp [hk]
  · simp
  · simp
  · exact hk

@[simp] theorem sceneKeys_wakeRequest (s : State) (source : Nat) (detail : Nat) (hk : SceneKeys s.dev.scene.alloc) :
    SceneKeys (wakeRequest s source detail).dev.scene.alloc := by
  simp [wakeRequest, hk]

@[simp] theorem sceneKeys_doWakeN (s : State) (hk : SceneKeys s.dev.scene.alloc) :
    SceneKeys (doWakeN s).dev.scene.alloc := by
  simp [doWakeN, hk]

@[simp] theorem sceneKeys_resetHeld (s : State) (hk : SceneKeys s.dev.scene.alloc) :
    SceneKeys (resetHeld s).dev.scene.alloc := by
  unfold resetHeld
  split
  · exact hk
  · exact hk
  · simp [hk]
  · simp
  · simp

@[simp] theorem sceneKeys_doResetN (s : State) (hk : SceneKeys s.dev.scene.alloc) : SceneKeys (doResetN s).dev.scene.alloc :=
  sceneKeys_resetHeld _ hk

@[simp] theorem doResetNRelease_alloc (d : Dev) : (doResetNRelease d).scene.alloc = d.scene.alloc := by
  simp [doResetNRelease]

@[simp] theorem resumeTime_alloc (d : Dev) : (resumeTime d).scene.alloc = d.scene.alloc := by
  unfold resumeTime
  dsimp only
  split <;> simp

@[simp] theorem resumePins_alloc (d : Dev) (start : Nat) : (resumePins d start).scene.alloc = d.scene.alloc := by
  simp [resumePins]

@[simp] theorem resumeProgram_alloc (s : State) (p : ProgPlace) : (resumeProgram s p).dev.scene.alloc = s.dev.scene.alloc := by
  simp [resumeProgram]

@[simp] theorem hearthAgain_alloc (d : Dev) : (hearthAgain d).scene.alloc = d.scene.alloc := by
  unfold hearthAgain
  dsimp only
  split <;> simp

@[simp] theorem obsAgain_alloc (d : Dev) : (obsAgain d).scene.alloc = d.scene.alloc := by
  simp [obsAgain]

@[simp] theorem sceneKeys_warmResume (s : State) (hk : SceneKeys s.dev.scene.alloc) : SceneKeys (warmResume s).dev.scene.alloc := by
  have hbanks : ∀ (d : Dev) (m : Dram), SceneKeys d.scene.alloc → SceneKeys (resumeLanes (resumeNetwork { d with dram := m })).scene.alloc :=
    fun d m h => by simpa using h
  unfold warmResume
  extract_lets d1 d2 _ d3 d4 sc _ s1 s2 d5 _ d6 d7 s3 d8
  have hd2 : SceneKeys d2.scene.alloc := by
    simp only [d2, d1]
    simpa using hk
  clear_value d2
  have hs1 : SceneKeys s1.dev.scene.alloc := by simpa [s1, sc, d4, d3] using hd2
  clear_value s1
  have hs2 : SceneKeys s2.dev.scene.alloc := by simpa [s2] using hs1
  clear_value s2
  have hd7 : SceneKeys d7.scene.alloc := by
    simp only [d7, d6, d5]
    exact hbanks s2.dev _ hs2
  clear_value d7
  have hs3 : SceneKeys s3.dev.scene.alloc := by
    simp only [s3]
    exact sceneKeys_resumeHeads _ (by simpa using hd7)
  clear_value s3
  have hd8 : SceneKeys d8.scene.alloc := by
    simp only [d8]
    simpa using hs3
  clear_value d8
  rw [withDev_dev]
  exact sceneKeys_refreshLeases (by simpa using hd8)

@[simp] theorem sceneKeys_endRestore (s : State) (start : Nat) (hk : SceneKeys s.dev.scene.alloc) :
    SceneKeys (endRestore s start).dev.scene.alloc := by
  unfold endRestore
  dsimp only
  split
  · exact sceneKeys_warmResume _ hk
  · simp only [withDev_dev, ite_alloc, raise_alloc, serviceLog_alloc, nSet_scene, ite_self]
    exact hk

@[simp] theorem sceneKeys_doRestoreStepComplete (s : State) (hk : SceneKeys s.dev.scene.alloc) :
    SceneKeys (doRestoreStepComplete s).dev.scene.alloc := by
  unfold doRestoreStepComplete
  split
  · simp [hk]
  · exact hk

@[simp] theorem drainTimer_alloc (n : Nat) (k : Nat) (d : Dev) : (drainTimer n k d).scene.alloc = d.scene.alloc := by
  induction k generalizing d with
  | zero => rfl
  | succ k ih => simp [drainTimer, ih]

@[simp] theorem copyLook_alloc (d : Dev) (key : Nat) (n : Nat) (source : Nat) (now : Nat) :
    (copyLook d key n source now).1.scene.alloc = d.scene.alloc := by
  simp [copyLook]

@[simp] theorem wakeCopies_alloc (d : Dev) : (wakeCopies d).1.scene.alloc = d.scene.alloc := by
  simp [wakeCopies]

@[simp] theorem wakeTimers_alloc (d : Dev) : (wakeTimers d).1.scene.alloc = d.scene.alloc := by
  simp [wakeTimers]

@[simp] theorem sceneKeys_doRtcTick (s : State) (hk : SceneKeys s.dev.scene.alloc) :
    SceneKeys (doRtcTick s).dev.scene.alloc := by
  unfold doRtcTick
  dsimp only
  split
  · exact hk
  · split
    · split
      · simp [hk]
      · simp [hk]
      · simp [hk]
    · split
      · simp [hk]
      · simp [hk]
    · exact hk

@[simp] theorem setStep_alloc (d : Dev) (new : Nat) : (setStep d new).scene.alloc = d.scene.alloc := by
  simp [setStep]

@[simp] theorem doThermalSample_alloc (tj : ℤ) (pred : ℤ) (d : Dev) : (doThermalSample tj pred d).scene.alloc = d.scene.alloc := by
  unfold doThermalSample
  dsimp only
  split
  · simp
  · split
    · rfl
    · split
      · simp
      · split
        · simp
        · split <;> simp

@[simp] theorem doPowerAverage_alloc (mw : Nat) (vinMv : Nat) (vpocMv : Nat) (d : Dev) :
    (doPowerAverage mw vinMv vpocMv d).scene.alloc = d.scene.alloc := by
  unfold doPowerAverage
  split <;> simp

/-! ### Write.lean -/

@[simp] theorem liteWrite_alloc (d : Dev) (mem : Nat) (v : Val) : (liteWrite d mem v).1.scene.alloc = d.scene.alloc := by
  simp [liteWrite]

@[simp] theorem writeSystem_alloc (d : Dev) (r : Ref) (v : Val) : (writeSystem d r v).1.scene.alloc = d.scene.alloc := by
  unfold writeSystem
  split
  · simp
  · simp
  · simp
  · rfl
  · simp
  · simp
  · simp
  · simp
  · simp
  · simp
  · simp
  · simp
  · simp
  · simp
  · simp
  · simp
  · rfl

@[simp] theorem sceneKeys_freeMember (d : Dev) (c : Nat) (v : Val) (hk : SceneKeys d.scene.alloc) : SceneKeys (freeMember d c v).1.scene.alloc := by
  have hfree := sceneKeys_freeOp hk c (numOf v)
  unfold freeMember
  dsimp only
  split
  · split
    · simpa using hfree
    · exact hfree
  · exact hfree

@[simp] theorem sceneKeys_writeScene (d : Dev) (r : Ref) (v : Val) (hk : SceneKeys d.scene.alloc) :
    SceneKeys (writeScene d r v).1.scene.alloc := by
  simp [writeScene, hk]

@[simp] theorem writeHearth_alloc (m : List Host.Cell) (d : Dev) (r : Ref) (v : Val) : (writeHearth m d r v).1.scene.alloc = d.scene.alloc := by
  simp [writeHearth]

@[simp] theorem writeMedia_alloc (m : List Host.Cell) (d : Dev) (r : Ref) (v : Val) : (writeMedia m d r v).1.scene.alloc = d.scene.alloc := by
  unfold writeMedia
  split <;> simp

@[simp] theorem writePorts_alloc (d : Dev) (sess : Nat) (r : Ref) (v : Val) : (writePorts d sess r v).1.scene.alloc = d.scene.alloc := by
  unfold writePorts
  split <;> simp

@[simp] theorem sceneKeys_writeMovers (s : State) (r : Ref) (v : Val) (hk : SceneKeys s.dev.scene.alloc) :
    SceneKeys (writeMovers s r v).1.dev.scene.alloc := by
  unfold writeMovers
  dsimp only
  split <;> simp [onDev, hk]

@[simp] theorem writeStaged_alloc (d : Dev) (r : Ref) (v : Val) : (writeStaged d r v).1.scene.alloc = d.scene.alloc := by
  simp [writeStaged]

@[simp] theorem sceneKeys_writeLive (s : State) (sess : Nat) (r : Ref) (v : Val) (hk : SceneKeys s.dev.scene.alloc) :
    SceneKeys (writeLive s sess r v).1.dev.scene.alloc := by
  simp [writeLive, onDev, hk]

@[simp] theorem bootLoad_alloc (d : Dev) (r : Ref) (b : List Byte) : (bootLoad d r b).1.scene.alloc = d.scene.alloc := by
  simp [bootLoad]

@[simp] theorem sceneKeys_memberWrite (s : State) (sess : Nat) (by' : Writer) (it : WriteItem) (hk : SceneKeys s.dev.scene.alloc) :
    SceneKeys (memberWrite s sess by' it).1.dev.scene.alloc := by
  unfold memberWrite
  split
  · exact hk
  · split
    · exact hk
    · split
      · exact hk
      · split
        · exact hk
        · split
          · exact hk
          · split
            · exact hk
            · split
              · exact hk
              · simp [onDev, hk]

@[simp] theorem sceneKeys_writeItems (sess size : Nat) (l : List WriteItem) (s : State) (hk : SceneKeys s.dev.scene.alloc) :
    SceneKeys (writeItems sess size l s).1.dev.scene.alloc := by
  induction l generalizing size s with
  | nil => exact hk
  | cons i l ih =>
    unfold writeItems
    refine ih _ _ ?_
    split
    · exact hk
    · exact sceneKeys_memberWrite s sess .message i hk

theorem sceneKeys_atTurnMem {s : State} (sess seq typ n : Nat) {run : State → State}
    (hrun : ∀ s, SceneKeys s.dev.scene.alloc → SceneKeys (run s).dev.scene.alloc) (hk : SceneKeys s.dev.scene.alloc) :
    SceneKeys (atTurnMem s sess seq typ n run).dev.scene.alloc := by
  unfold atTurnMem
  split
  · exact hk
  · dsimp only
    rw [withDev_dev, limitCheck_alloc]
    split
    · exact hrun _ (by simpa using hk)
    · simpa using hk

@[simp] theorem sceneKeys_doWrite (sess seq : Nat) (items : List WriteItem) (s : State) (hk : SceneKeys s.dev.scene.alloc) :
    SceneKeys (doWrite sess seq items s).dev.scene.alloc := by
  refine sceneKeys_atTurnMem _ _ _ _ (fun s h => ?_) hk
  split <;> simp [h]

@[simp] theorem sceneKeys_bulkBlob (s : State) (sess : Nat) (r : Ref) (off : Nat) (b : List Byte) (hk : SceneKeys s.dev.scene.alloc) :
    SceneKeys (bulkBlob s sess r off b).1.dev.scene.alloc := by
  simp [bulkBlob, hk]

@[simp] theorem sceneKeys_bulkSurface (s : State) (r : Ref) (off : Nat) (b : List Byte) (hk : SceneKeys s.dev.scene.alloc) :
    SceneKeys (bulkSurface s r off b).1.dev.scene.alloc := by
  simp [bulkSurface, hk]

@[simp] theorem sceneKeys_doBulk (sess seq : Nat) (target : Ref) (off : Nat) (b : List Byte) (s : State) (hk : SceneKeys s.dev.scene.alloc) :
    SceneKeys (doBulk sess seq target off b s).dev.scene.alloc := by
  refine sceneKeys_atTurnMem _ _ _ _ (fun s h => ?_) hk
  split <;> simp [h]

/-! ### Lite.lean -/

@[simp] theorem liteRespond_alloc (d : Dev) (brs : Bool) (typ : Nat) (st : Status) (r : Ref) (vtype : Nat) (val : List Byte) :
    (liteRespond d brs typ st r vtype val).scene.alloc = d.scene.alloc := by
  simp [liteRespond]

@[simp] theorem liteAccept_alloc (d : Dev) (fresh : Nat) : (liteAccept d fresh).scene.alloc = d.scene.alloc := by
  simp [liteAccept]

@[simp] theorem sceneKeys_liteWriteMember (s : State) (r : Ref) (vtype : Nat) (val : List Byte) (hk : SceneKeys s.dev.scene.alloc) :
    SceneKeys (liteWriteMember s r vtype val).1.dev.scene.alloc := by
  simp [liteWriteMember, hk]

@[simp] theorem sceneKeys_runLite (s : State) (f : LiteFrame) (hk : SceneKeys s.dev.scene.alloc) :
    SceneKeys (runLite s f).dev.scene.alloc := by
  simp [runLite, hk]

@[simp] theorem sceneKeys_liteFrame (s : State) (fd : Bool) (f : LiteFrame) (hk : SceneKeys s.dev.scene.alloc) :
    SceneKeys (liteFrame s fd f).dev.scene.alloc := by
  simp [liteFrame, hk]

@[simp] theorem sceneKeys_liteTurn (s : State) (hk : SceneKeys s.dev.scene.alloc) : SceneKeys (liteTurn s).dev.scene.alloc :=
  sceneKeys_foldl_state sceneKeys_runLite _ hk

@[simp] theorem sceneKeys_canFrame (port : Nat) (fmt : CanFormat) (id : Nat) (data : List Byte) (s : State) (hk : SceneKeys s.dev.scene.alloc) :
    SceneKeys (canFrame port fmt id data s).dev.scene.alloc := by
  simp [canFrame, hk]

@[simp] theorem doNoapLiteResponseSent_alloc (d : Dev) : (doNoapLiteResponseSent d).scene.alloc = d.scene.alloc := by
  simp [doNoapLiteResponseSent]

/-! ### Boot.lean -/

@[simp] theorem recordFailed_alloc (d : Dev) (off : Nat) : (recordFailed d off).scene.alloc = d.scene.alloc := by
  simp [recordFailed]

@[simp] theorem sceneKeys_recordCommit (s : State) (mask : Nat) (hk : SceneKeys s.dev.scene.alloc) :
    SceneKeys (recordCommit s mask).1.dev.scene.alloc := by
  unfold recordCommit
  dsimp only
  split
  · simp [hk]
  · split <;> simp [hk]

@[simp] theorem sceneKeys_recordData (s : State) (r : Ref) (off : Nat) (b : List Byte) (hk : SceneKeys s.dev.scene.alloc) :
    SceneKeys (recordData s r off b).1.dev.scene.alloc := by
  simp [recordData, hk]

@[simp] theorem sceneKeys_applyRecord (s : State) (w : Writer) (kind : Nat) (b : List Byte) (hk : SceneKeys s.dev.scene.alloc) :
    SceneKeys (applyRecord s w kind b).1.dev.scene.alloc := by
  unfold applyRecord
  split
  · simp [hk]
  · simp [hk]
  · simp [hk]
  · simp [hk]
  · simp [hk]
  · simp [hk]
  · simp [hk]
  · simp [hk]
  · exact hk

@[simp] theorem sceneKeys_applyRecords (w : Writer) (p : List Byte) (n off : Nat) (s : State) (hk : SceneKeys s.dev.scene.alloc) :
    SceneKeys (applyRecords w p n off s).dev.scene.alloc := by
  induction n generalizing off s with
  | zero => exact hk
  | succ n ih =>
    unfold applyRecords
    split
    · exact hk
    · exact ih _ _ (by simp [hk])

@[simp] theorem sceneKeys_applyList (w : Writer) (p : List Byte) (off : Nat) (s : State) (hk : SceneKeys s.dev.scene.alloc) :
    SceneKeys (applyList w p off s).dev.scene.alloc := by
  simp [applyList, hk]

@[simp] theorem tryType_alloc (d : Dev) (typ : Nat) : (tryType d typ).scene.alloc = d.scene.alloc := by
  simp [tryType]

@[simp] theorem readHeader_alloc (d : Dev) (i : Nat) : (readHeader d i).scene.alloc = d.scene.alloc := by
  simp [readHeader]

@[simp] theorem doKindlingStart_alloc (d : Dev) : (doKindlingStart d).scene.alloc = d.scene.alloc := by
  simp [doKindlingStart]

@[simp] theorem sceneKeys_release (s : State) (hk : SceneKeys s.dev.scene.alloc) : SceneKeys (release s).dev.scene.alloc := by
  have htrain : ∀ (d : Dev) (t : Trust), SceneKeys d.scene.alloc → SceneKeys (startTraining { d with trust := t }).scene.alloc :=
    fun d t h => by simpa using h
  unfold release
  extract_lets s1 s2 d1 on d2 tr d3 d4
  have hs1 : SceneKeys s1.dev.scene.alloc := by simpa [s1] using hk
  clear_value s1
  have hs2 : SceneKeys s2.dev.scene.alloc := sceneKeys_applyList _ _ _ s1 hs1
  clear_value s2
  have hd2 : SceneKeys d2.scene.alloc := by simpa [d2, d1] using hs2
  clear_value d2
  have hd3 : SceneKeys d3.scene.alloc := by
    simp only [d3, tr]
    exact htrain d2 _ hd2
  clear_value d3
  have hd4 : SceneKeys d4.scene.alloc := by simpa [d4] using hd3
  clear_value d4
  rw [withDev_dev, arm_scene]
  exact hd4

@[simp] theorem sceneKeys_typeDone (s : State) (typ : Nat) (found : Bool) (hk : SceneKeys s.dev.scene.alloc) :
    SceneKeys (typeDone s typ found).dev.scene.alloc := by
  unfold typeDone
  extract_lets _ _ d1 _ d2 d3 _ d4 _
  have hd4 : SceneKeys d4.scene.alloc := by
    simpa only [d4, d3, d2, ite_alloc, packageInvalid_alloc, ite_self] using hk
  split
  · exact hk
  · split
    · rwa [withDev_dev, startFirekeeper_alloc]
    · split
      · exact sceneKeys_release _ hd4
      · exact hd4

@[simp] theorem sceneKeys_doImageVerifyComplete (slot : Fin 8) (s : State) (hk : SceneKeys s.dev.scene.alloc) :
    SceneKeys (doImageVerifyComplete slot s).dev.scene.alloc := by
  simp [doImageVerifyComplete, hk]

@[simp] theorem doFirekeeperImageRetry_alloc (d : Dev) : (doFirekeeperImageRetry d).scene.alloc = d.scene.alloc := by
  simp [doFirekeeperImageRetry]

@[simp] theorem fillStore_alloc (s : State) (b : List Byte) : (fillStore s b).dev.scene.alloc = s.dev.scene.alloc := by
  simp [fillStore]

@[simp] theorem dropPackage_alloc (d : Dev) : (dropPackage d).scene.alloc = d.scene.alloc := by
  simp [dropPackage]

@[simp] theorem sceneKeys_doHearthPackageLoaded (s : State) (hk : SceneKeys s.dev.scene.alloc) :
    SceneKeys (doHearthPackageLoaded s).dev.scene.alloc := by
  simp [doHearthPackageLoaded, hk]

@[simp] theorem sceneKeys_doBootSceneApply (s : State) (hk : SceneKeys s.dev.scene.alloc) :
    SceneKeys (doBootSceneApply s).dev.scene.alloc := by
  simp [doBootSceneApply, hk]

@[simp] theorem doStartDoneDeadline_alloc (d : Dev) : (doStartDoneDeadline d).scene.alloc = d.scene.alloc := by
  simp [doStartDoneDeadline]

@[simp] theorem doFirekeeperRestart_alloc (cause : Nat) (d : Dev) : (doFirekeeperRestart cause d).scene.alloc = d.scene.alloc := by
  unfold doFirekeeperRestart
  dsimp only
  split
  · rfl
  · split
    · simp
    · split <;> simp

/-! ### Tick.lean -/

@[simp] theorem advanceTimebase_alloc (d : Dev) : (advanceTimebase d).scene.alloc = d.scene.alloc := by
  simp [advanceTimebase]

@[simp] theorem countHours_alloc (d : Dev) : (countHours d).scene.alloc = d.scene.alloc := by
  simp [countHours]

@[simp] theorem advance_alloc (d : Dev) : (advance d).scene.alloc = d.scene.alloc := by
  simp [advance]

@[simp] theorem refreshTick_alloc (d : Dev) : (refreshTick d).scene.alloc = d.scene.alloc := by
  simp [refreshTick]

@[simp] theorem sceneKeys_tick (s : State) (hk : SceneKeys s.dev.scene.alloc) : SceneKeys (tick s).dev.scene.alloc := by
  have hturn := sceneKeys_liteTurn (withDev s { s.dev with out := [] }) hk
  unfold tick
  simpa only [withDev_dev, uplinksTick_alloc, scanHeads_alloc, refreshTick_alloc, followWake_alloc, advance_alloc] using hturn

end Sys2Proof.Machine
end

section
/-!
O6: the step allocates scene objects only (R87, R89, R91).
-/
namespace Sys2Proof.Machine

/-- Every command keeps the allocations whole objects of scene classes: the BE32 commands through their effects, every other through the
lemma of its function. -/
theorem sceneKeys_exec {c : Instr} {s u : State} (hk : SceneKeys s.dev.scene.alloc) (h : exec c s = .next u) : SceneKeys u.dev.scene.alloc := by
  cases c with
  | nop t w =>
    obtain rfl := Host.Outcome.next.inj h
    exact sceneKeys_issue effectKeepsScene_effNop _ t w hk
  | ldA t w | ldX t w | ldY t w | ldB t w | ldH t w =>
    obtain rfl := Host.Outcome.next.inj h
    exact sceneKeys_issue (effectKeepsScene_loadEffect _ _) _ t w hk
  | stA t w | stX t w | stY t w | stB t w | stH t w =>
    obtain rfl := Host.Outcome.next.inj h
    exact sceneKeys_issue (effectKeepsScene_storeEffect _ _) _ t w hk
  | stT t w =>
    obtain rfl := Host.Outcome.next.inj h
    exact sceneKeys_issue effectKeepsScene_timedEffect _ t w hk
  | mvXa t w | mvYa t w | mvAx t w | mvAy t w | mvAl t w | mvAf t w | mvFa t w =>
    obtain rfl := Host.Outcome.next.inj h
    exact sceneKeys_issue (effectKeepsScene_regEffect _) _ t w hk
  | mvAt t w =>
    obtain rfl := Host.Outcome.next.inj h
    exact sceneKeys_issue effectKeepsScene_effMvAt _ t w hk
  | add t w | addC t w | sub t w | subC t w | rsb t w | and t w | or t w | xor t w | cmp t w | cmpX t w | cmpY t w
    | tst t w | shl t w | shr t w | sar t w | min t w | max t w | addX t w | addY t w =>
    obtain rfl := Host.Outcome.next.inj h
    exact sceneKeys_issue (effectKeepsScene_opEffect _) _ t w hk
  | mul t w | mulq t w | div t w | recip t w | sqrt t w | sincos t w =>
    obtain rfl := Host.Outcome.next.inj h
    exact sceneKeys_issue (effectKeepsScene_longEffect _ _) _ t w hk
  | jmp t w =>
    obtain rfl := Host.Outcome.next.inj h
    exact sceneKeys_issue effectKeepsScene_jmpEffect _ t w hk
  | call t w =>
    obtain rfl := Host.Outcome.next.inj h
    exact sceneKeys_issue effectKeepsScene_callEffect _ t w hk
  | ret t w =>
    obtain rfl := Host.Outcome.next.inj h
    exact sceneKeys_issue effectKeepsScene_retEffect _ t w hk
  | waitpos t w =>
    obtain rfl := Host.Outcome.next.inj h
    exact sceneKeys_issue effectKeepsScene_waitPosEffect _ t w hk
  | waitev t w =>
    obtain rfl := Host.Outcome.next.inj h
    exact sceneKeys_issue effectKeepsScene_waitEvEffect _ t w hk
  | eoi t w =>
    obtain rfl := Host.Outcome.next.inj h
    exact sceneKeys_issue effectKeepsScene_effEoi _ t w hk
  | syncf t w =>
    obtain rfl := Host.Outcome.next.inj h
    exact sceneKeys_issue effectKeepsScene_syncfEffect _ t w hk
  | fence t w =>
    obtain rfl := Host.Outcome.next.inj h
    exact sceneKeys_issue effectKeepsScene_fenceEffect _ t w hk
  | farb t w =>
    obtain rfl := Host.Outcome.next.inj h
    exact sceneKeys_issue effectKeepsScene_farbEffect _ t w hk
  | cinv t w =>
    obtain rfl := Host.Outcome.next.inj h
    exact sceneKeys_issue effectKeepsScene_cinvEffect _ t w hk
  | cinva t w =>
    obtain rfl := Host.Outcome.next.inj h
    exact sceneKeys_issue effectKeepsScene_cinvaEffect _ t w hk
  | ring t w | dmaq t w =>
    obtain rfl := Host.Outcome.next.inj h
    exact sceneKeys_issue (effectKeepsScene_postEffect _) _ t w hk
  | _ =>
    obtain rfl := Host.Outcome.next.inj h
    simp [hk]

/-- The invariant of O6, on the keys of `alloc` alone. -/
theorem sceneKeys_step {s u : State} (hk : SceneKeys s.dev.scene.alloc) (h : step s = .next u) : SceneKeys u.dev.scene.alloc := by
  unfold step at h
  split at h
  · obtain rfl := Host.Outcome.next.inj h
    exact sceneKeys_tick s hk
  · next c rest _ => exact sceneKeys_exec (s := { s with pending := rest }) hk h

/-- Settles O6: every command and the tick keep the keys of `alloc` whole objects of scene classes. -/
theorem allocationsStayInScene : Obligations.AllocationsStayInScene :=
  fun _ _ hscene h => sceneKeys_step hscene h

end Sys2Proof.Machine
end

section
/-!
A line that waits for a resident load (R206, R215): the pipe composes it no sooner than the load is complete, and does not give it up before
the beam has passed it.
-/
namespace Sys2Proof.Machine

/-- A pipe leaves the device as it is while its next line waits for a resident load and the beam has not passed the line. -/
theorem doPipeLineCompose_of_waiting {d : Dev} {m : List Host.Cell} {p : Fin 32} {y : Nat} {b : BandPlace} (hnext : nextLine d p.val = some (y, b))
    (hloads : loadsReady ((frameOf d m b.head b.band).on p.val) p.val (pipeSlots d b p.val) y = false)
    (hbeam : (beamPos d b.head).1 ≤ ((frameOf d m b.head b.band).on p.val).line y) :
    doPipeLineCompose p m d = d := by
  simp only [doPipeLineCompose, hnext, hloads, hbeam, and_self, if_true, ite_self]

/-- Band 11:0005 of head 0, which pipe 31 composes. -/
def residentBand : BandPlace := { band := mref 0x11 5 0, head := 0, first := 31, split := 1, stages := 1 }

/-- 100 columns and 50 lines, of which 20 and 10 are blanking, at 100 MHz. -/
def residentTiming : Timing :=
  { Timing.reset with pixelClock := 100000000, hActive := 80, hFront := 4, hSync := 8, hBack := 8, vActive := 40, vFront := 4, vSync := 3, vBack := 3 }

/-- Head 0 runs with frames of 50 lines of 1 µs, 10 of them blanking, and its beam at frame line 10, active line 0. Its band 11:0005 shows
tile map 13:0005 through layer 12:0009, and pipe 31, which composes it, has no resident load complete. -/
def residentWaitState : State :=
  withDev State.reset { updHead (nSet Dev.reset (head_STATE 0) 3) 0 (fun q => { q with timing := residentTiming }) with
    tb := 10010 * 2 ^ 32
    stoker.bands := [residentBand]
    scene.alloc := [(mref 0x11 5 0, 1), (mref 0x12 9 0, 1), (mref 0x13 5 0, 1)]
    scene.live := [(16 * band_HEAD 5, .num (headRef 0)), (16 * band_ENABLE 5, .num 1), (16 * band_HEIGHT 5, .num 40),
      (16 * layer_BAND 9, .num (mref 0x11 5 0)), (16 * layer_ENABLE 9, .num 1), (16 * layer_KIND 9, .num 1),
      (16 * layer_SOURCE 9, .num (mref 0x13 5 0)), (16 * layer_HEIGHT 9, .num 32)] }

theorem whenPipeLineCompose_residentWaitState : WhenPipeLineCompose residentWaitState 31 0 residentBand := by
  decide

theorem exec_pipeLineCompose_residentWaitState : exec (.pipeLineCompose 31) residentWaitState = .next residentWaitState := by
  have hkeep : doPipeLineCompose 31 residentWaitState.mem residentWaitState.dev = residentWaitState.dev :=
    doPipeLineCompose_of_waiting (y := 0) (b := residentBand) (by decide) (by decide) (by decide)
  exact congrArg (fun d => Host.Outcome.next (withDev residentWaitState d)) hkeep

/-- Refutes O38: the conditions of PipeLineComposeDoes admit a line whose resident load has not come (the hypothesis that loadsReady
answers true is missing). In `residentWaitState` pipe 31 waits for the map of layer 12:0009, and its next line stays 0, where the statement
wants 1. -/
theorem not_headsAndLines : ¬ Obligations.HeadsAndLines := by
  unfold Obligations.HeadsAndLines
  rintro ⟨-, -, -, -, -, -, -, hcompose, -⟩
  obtain ⟨u, hexec, hnext, -⟩ := hcompose residentWaitState 31 0 residentBand whenPipeLineCompose_residentWaitState
  obtain rfl := Host.Outcome.next.inj (exec_pipeLineCompose_residentWaitState.symm.trans hexec)
  exact absurd hnext (by decide)

end Sys2Proof.Machine
end

section
/-!
A cache fill that brings an uncorrectable block: its report raises MEM_UNCORRECTABLE, source 840 (R473), and the fault of the thread that
waits for it raises THREAD_FAULT of the thread's cluster (R350), which would be the same source for a cluster 34.
-/
namespace Sys2Proof.Machine

/-- The device when a read has freed its tag and its block, in which some errors have come about, has passed the decoder (R470, R473). -/
def fillDecoded (d : Dev) (tag : Fin 512) (found : List ByteError) (r : DramRead) : Dev :=
  decodeBlock (upset { d with dram.reads := mapErase d.dram.reads tag.val } r.block found) r.block r.chan r.cls 0

/-- A cache fill goes to no pipe and to no job. -/
theorem deliver_of_fill {r : DramRead} (hfill : r.cls = 4) (d : Dev) (m : List Host.Cell) : deliver d m r = d := by
  simp [deliver, hfill]

theorem blockPoisoned_of_bad {d : Dev} {b c : Nat} (hchan : channelOfAddr d (b * 256) = some c) (hbad : blockBad d b = true) :
    blockPoisoned d b = true := by
  simp [blockPoisoned, hchan, hbad]

/-- A fill that brings an uncorrectable block is reported by the decoder, and then its thread faults. -/
theorem exec_dramReadComplete_of_badFill {s : State} {tag : Fin 512} {found : List ByteError} {r : DramRead}
    (hw : WhenDramReadCompleteBad s tag found r) (hfill : r.cls = 4) (hlive : r.cancelled = false) :
    exec (.dramReadComplete tag found) s =
      .next (withDev s (grantWaiting (faultThread (fillDecoded s.dev tag found r) r.unit 5))) := by
  obtain ⟨hread, hserves, hchan, -, hbad, -⟩ := hw
  have hpoisoned : blockPoisoned (upset { s.dev with dram.reads := mapErase s.dev.dram.reads tag.val } r.block found) r.block = true :=
    blockPoisoned_of_bad (c := r.chan) hchan hbad
  calc exec (.dramReadComplete tag found) s = .next (doDramReadComplete tag found s) := rfl
    _ = _ := by
      simp [doDramReadComplete, fillDecoded, hread, hserves, hfill, hlive, hpoisoned, deliver_of_fill hfill]

/-- A fill (class 4) of block 3 for thread 1088, of a cluster 34. There are 384 threads, in 12 clusters of 32 (R311). -/
def strayFill : DramRead := { cls := 4, unit := 1088, block := 3, chan := 0, cancelled := false }

/-- Five octets of codeword 0 in error, one more than the decoder corrects (R469). -/
def fiveErrors : List ByteError :=
  [{ pos := 0, flip := 1 }, { pos := 2, flip := 1 }, { pos := 4, flip := 1 }, { pos := 6, flip := 1 }, { pos := 8, flip := 1 }]

/-- DRAM serves requests, segment 0 lies on channel 0, and that fill is in flight with tag 0. -/
def strayFillState : State :=
  withDev State.reset { bSet Dev.reset mem_SEGMENT_MAP (octets [8]) with dram.ready := true, dram.reads := [(0, strayFill)] }

theorem whenDramReadCompleteBad_strayFillState : WhenDramReadCompleteBad strayFillState 0 fiveErrors strayFill := by
  decide

theorem raised_strayFillState : nGet strayFillState.dev (ev_RAISED 840) = 0 := by
  decide +kernel

/-- The report and the fault have each raised the source. -/
theorem raised_strayFill_completed :
    nGet (grantWaiting (faultThread (fillDecoded strayFillState.dev 0 fiveErrors strayFill) strayFill.unit 5)) (ev_RAISED 840) = 2 := by
  decide +kernel

/-- Refutes O39: the conditions of DramReadCompleteBadDoes admit a fill for a thread that the device does not have (the hypothesis
r.cls = 4 → r.unit < 384 is missing; the model itself asks for fills of its 384 threads only). In `strayFillState` the completion counts
2 in RAISED of source 840, where the statement wants 1. -/
theorem not_dramAndPlacement : ¬ Obligations.DramAndPlacement := by
  unfold Obligations.DramAndPlacement
  rintro ⟨-, -, -, -, -, hbad, -⟩
  obtain ⟨u, hexec, -, -, hraised⟩ := hbad strayFillState 0 fiveErrors strayFill whenDramReadCompleteBad_strayFillState
  rw [exec_dramReadComplete_of_badFill whenDramReadCompleteBad_strayFillState rfl rfl] at hexec
  obtain rfl := Host.Outcome.next.inj hexec
  rw [withDev_dev, raised_strayFill_completed, raised_strayFillState] at hraised
  exact absurd hraised (by decide)

end Sys2Proof.Machine
end

section
/-!
The signal map (R277, R281 to R286): what an entry's change leaves beside the slots that name it, and what a frame at its entries leaves of
the network's members. Clauses of O31.
-/
namespace Sys2Proof.Machine

variable {d e : Dev}

theorem mref_ne_of_member {c i m c' i' m' : Nat} (h : m % 256 ≠ m' % 256) : mref c i m ≠ mref c' i' m' :=
  fun he => h (by simpa using congrArg refMember he)

/-- A command that changes the device alone completes with what holds of the device that it leaves. -/
theorem completes_of_dev {c : Instr} {s : State} {P : State → Prop} (hexec : exec c s = .next (withDev s d)) (hd : d = e)
    (hP : P (withDev s e)) : Completes c s P :=
  ⟨_, hexec.trans (congrArg (fun d => Host.Outcome.next (withDev s d)) hd), hP⟩

/-! ### Loss (R286) -/

theorem retime_refs (d : Dev) (was i : Nat) : (retime d was i).hearth.refs = d.hearth.refs := by
  unfold retime
  dsimp only
  split <;> rfl

/-- A change of an entry writes SHOWN of the slots that name it, and their heads' cuts (R23, R277). -/
theorem keeps_recombineFor (was d : Dev) (n : Nat) : Keeps (fun q => refClass q ≠ 0x20) (fun _ => True) d (recombineFor was d n) := by
  refine Keeps.foldl (fun e i _ => Keeps.nSet ?_ (by simp [slot_SHOWN]) _) d
  unfold retime
  exact Keeps.whenNot fun _ => (Keeps.refl e).setHearth _

theorem recombineFor_refs (was d : Dev) (n : Nat) : (recombineFor was d n).hearth.refs = d.hearth.refs := by
  refine List.foldlRecOn (motive := fun e : Dev => e.hearth.refs = d.hearth.refs) _ _ rfl fun e he i _ => ?_
  exact (congrArg Hearth.refs (nSet_hearth _ _ _)).trans ((retime_refs _ _ _).trans he)

/-- A device that has lost an entry's counter reference. -/
def refDropped (d : Dev) (n : Nat) : Dev := { d with hearth.refs := mapErase d.hearth.refs n }

/-- A device that has noted an entry's loss, before its STATE and its slots follow. -/
def lossNoted (d : Dev) (n : Nat) : Dev := disarm (nSet (noteEntry (refDropped d n) n 0) (sig_IN_LOSS n) 1) tkSignal n

/-- A device whose entry has entered loss, before the slots that name it follow. -/
def entryLost (d : Dev) (n : Nat) : Dev :=
  if nGet d (sig_LOSS_STATE n) = 3 then lossNoted d n else writeEntryState (lossNoted d n) n (nGet d (sig_LOSS_STATE n))

theorem enterLoss_eq (d : Dev) (n : Nat) : enterLoss d n = recombineFor (refDropped d n) (entryLost d n) n := rfl

theorem nGet_lossNoted_other (d : Dev) {n : Nat} {q : Ref} (hq : q ≠ sig_IN_LOSS n) : nGet (lossNoted d n) q = nGet d q :=
  (nGet_nSet_other _ 1 hq).trans (nGet_congr rfl q)

theorem lossNoted_refs (d : Dev) (n : Nat) : (lossNoted d n).hearth.refs = mapErase d.hearth.refs n :=
  congrArg Hearth.refs (nSet_hearth _ _ _)

theorem nGet_writeEntryState_same (d : Dev) (n st : Nat) : nGet (writeEntryState d n st) (sig_STATE n) = st := nGet_nSet_same _ _ _

theorem nGet_writeEntryState_other (d : Dev) {n : Nat} (st : Nat) {q : Ref} (hq : q ≠ sig_STATE n) :
    nGet (writeEntryState d n st) q = nGet d q :=
  (nGet_nSet_other _ st hq).trans (nGet_congr rfl q)

theorem writeEntryState_timers (d : Dev) (n st : Nat) : (writeEntryState d n st).timers = d.timers := nSet_timers _ _ _

theorem writeEntryState_hearth (d : Dev) (n st : Nat) : (writeEntryState d n st).hearth = d.hearth := nSet_hearth _ _ _

theorem nGet_entryLost_STATE (d : Dev) (n : Nat) : nGet (entryLost d n) (sig_STATE n) =
    if nGet d (sig_LOSS_STATE n) = 3 then nGet d (sig_STATE n) else nGet d (sig_LOSS_STATE n) := by
  unfold entryLost
  split
  · exact nGet_lossNoted_other d (mref_ne_of_member (by decide))
  · exact nGet_writeEntryState_same _ _ _

/-- Beside STATE the entry's members are those of the loss noted. -/
theorem nGet_entryLost_other (d : Dev) {n : Nat} {q : Ref} (hq : q ≠ sig_STATE n) : nGet (entryLost d n) q = nGet (lossNoted d n) q := by
  unfold entryLost
  split
  · rfl
  · exact nGet_writeEntryState_other _ _ hq

theorem entryLost_timers (d : Dev) (n : Nat) : (entryLost d n).timers = (lossNoted d n).timers := by
  unfold entryLost
  split
  · rfl
  · exact writeEntryState_timers _ _ _

theorem entryLost_refs (d : Dev) (n : Nat) : (entryLost d n).hearth.refs = mapErase d.hearth.refs n := by
  unfold entryLost
  split
  · exact lossNoted_refs d n
  · rw [writeEntryState_hearth, lossNoted_refs]

/-- A member of an entry is not of a slot. -/
theorem nGet_enterLoss_sig (d : Dev) (n k m : Nat) : nGet (enterLoss d n) (mref 0x21 k m) = nGet (entryLost d n) (mref 0x21 k m) := by
  rw [enterLoss_eq]
  exact (keeps_recombineFor _ _ n).nGet (by simp)

theorem nGet_enterLoss_IN_LOSS (d : Dev) (n : Nat) : nGet (enterLoss d n) (sig_IN_LOSS n) = 1 := by
  rw [sig_IN_LOSS, nGet_enterLoss_sig, nGet_entryLost_other d (mref_ne_of_member (by decide))]
  exact nGet_nSet_same _ _ _

theorem nGet_enterLoss_TIMEOUTS (d : Dev) (n : Nat) : nGet (enterLoss d n) (sig_TIMEOUTS n) = nGet d (sig_TIMEOUTS n) := by
  rw [sig_TIMEOUTS, nGet_enterLoss_sig, nGet_entryLost_other d (mref_ne_of_member (by decide)),
    nGet_lossNoted_other d (mref_ne_of_member (by decide))]

theorem nGet_enterLoss_STATE (d : Dev) (n : Nat) : nGet (enterLoss d n) (sig_STATE n) =
    if nGet d (sig_LOSS_STATE n) = 3 then nGet d (sig_STATE n) else nGet d (sig_LOSS_STATE n) :=
  (nGet_enterLoss_sig d n n 19).trans (nGet_entryLost_STATE d n)

theorem armed_enterLoss (d : Dev) (n : Nat) : armed (enterLoss d n) tkSignal n = false := by
  rw [enterLoss_eq, (keeps_recombineFor _ _ n).armed trivial, armed, entryLost_timers]
  exact armed_disarm_same _ _ _

theorem mapFind_refs_enterLoss (d : Dev) (n : Nat) : mapFind (enterLoss d n).hearth.refs n = none := by
  rw [enterLoss_eq, recombineFor_refs, entryLost_refs, mapFind_mapErase_same]

theorem signalTimeoutDoes : SignalTimeoutDoes := by
  intro s n hdue
  have hexec : doSignalTimeout n s.dev = enterLoss (nInc s.dev (sig_TIMEOUTS n.val)) n.val := if_pos hdue
  have hkept : ∀ m, m % 256 ≠ 22 → nGet (nInc s.dev (sig_TIMEOUTS n.val)) (mref 0x21 n.val m) = nGet s.dev (mref 0x21 n.val m) :=
    fun m hm => nGet_nSet_other _ _ (mref_ne_of_member hm)
  refine completes_of_dev rfl hexec ⟨nGet_enterLoss_IN_LOSS _ _, ?_, ?_, armed_enterLoss _ _, mapFind_refs_enterLoss _ _⟩
  · exact (nGet_enterLoss_TIMEOUTS _ _).trans (nGet_nSet_same _ _ _)
  · rw [withDev_dev, nGet_enterLoss_STATE, sig_LOSS_STATE, sig_STATE, hkept _ (by decide), hkept _ (by decide)]

/-! ### Frames at their entries (R281 to R285) -/

/-- What keeps every member of the network's objects. -/
abbrev KeepsNetwork (d e : Dev) : Prop := Keeps (fun q => refClass q = 0x48) (fun _ => False) d e

theorem keepsNetwork_of_quiet (h : KeepsQuiet d e) : KeepsNetwork d e :=
  h.mono (fun q hq => by simp [QuietMember, hq]) (fun _ => False.elim)

theorem keepsNetwork_nSet (d : Dev) {c : Nat} (i m v : Nat) (hc : c % 256 ≠ 0x48) : KeepsNetwork d (nSet d (mref c i m) v) :=
  (Keeps.refl d).nSet (by simpa using hc) v

theorem keepsNetwork_speedFrame (d : Dev) (n : Nat) (b : List Byte) : KeepsNetwork d (speedFrame d n b) := by
  refine Keeps.whenNot fun _ => Keeps.ite (fun _ => ?inRange) fun _ => ?outside
  case inRange => exact keepsNetwork_nSet d _ _ _ (by decide)
  case outside =>
    have hfree : KeepsNetwork d (freeUsed d) := (Keeps.refl d).same rfl rfl rfl
    exact hfree.nSet (r := avas_SPEED_KMH) (by decide) _

theorem keepsNetwork_rearmEntry (d : Dev) (n : Nat) : KeepsNetwork d (rearmEntry d n) :=
  Keeps.ite (fun _ => (Keeps.refl d).disarm not_false) fun _ => (Keeps.refl d).arm not_false _

theorem keepsNetwork_applyFrame (lag : Nat) (d : Dev) (n : Nat) (b : List Byte) : KeepsNetwork d (applyFrame lag d n b) :=
  ((keepsNetwork_rearmEntry d n).trans (keepsNetwork_of_quiet (keepsQuiet_applyValue lag _ n _))).trans (keepsNetwork_speedFrame _ n b)

theorem keepsNetwork_rejectFrame (d : Dev) (n : Nat) : KeepsNetwork d (rejectFrame d n) := keepsNetwork_nSet d _ _ _ (by decide)

theorem keepsNetwork_setRef (d : Dev) (n c : Nat) : KeepsNetwork d (setRef d n c) := (Keeps.refl d).setHearth _

theorem keepsNetwork_entryFrame (lag : Nat) (d : Dev) (n : Nat) (b : List Byte) : KeepsNetwork d (entryFrame lag d n b) := by
  refine Keeps.ite (fun _ => keepsNetwork_rejectFrame d n) fun _ => Keeps.ite (fun _ => keepsNetwork_applyFrame lag d n b) fun _ => ?_
  split
  case h_1 => exact keepsNetwork_setRef d n _
  case h_2 r _ =>
    refine Keeps.ite (fun _ => keepsNetwork_rejectFrame d n) fun _ => Keeps.ite (fun _ => ?_) fun _ => ?_
    · exact (keepsNetwork_setRef d n _).trans (keepsNetwork_applyFrame lag _ n b)
    · exact (keepsNetwork_setRef d n _).trans (keepsNetwork_rejectFrame _ n)

theorem keepsNetwork_entriesFrame (lag : Nat) (d : Dev) (es : List Nat) (b : List Byte) : KeepsNetwork d (entriesFrame lag d es b) :=
  Keeps.foldl (fun e _ _ => keepsNetwork_entryFrame _ e _ b) d

/-! ### 10BASE-T1S ports (R576, R577) -/

/-- The entries of a source and unit are those of the signal map's members alone (R280). -/
theorem entriesOf_mSet (d : Dev) {r : Ref} (hr : refClass r ≠ 0x21) (v : Val) (source unit : Nat) :
    entriesOf (mSet d r v) source unit = entriesOf d source unit := by
  have hsplit : ∀ f : Dev, f.objs.filter (fun x => decide (refClass x.1 = 0x21) && decide (refMember x.1 = 1) && decide (x.2 = Val.num source)) =
      (sigObjs f).filter (fun x => decide (refMember x.1 = 1) && decide (x.2 = Val.num source)) := by
    intro f
    rw [sigObjs, List.filter_filter]
    exact List.filter_congr fun x _ => by rw [Bool.and_assoc, Bool.and_comm]
  have hunit : ∀ n, nGet (mSet d r v) (sig_UNIT n) = nGet d (sig_UNIT n) := by
    intro n
    have hne : sig_UNIT n ≠ r := fun h => hr (by rw [← h, sig_UNIT, refClass_mref])
    simp only [nGet, mGet_mSet_other d v hne]
  simp only [entriesOf, hsplit, sigObjs_mSet d hr, hunit]

theorem t1sEntries_nInc (d : Dev) {r : Ref} (hr : refClass r ≠ 0x21) (port : Nat) (f : List Byte) :
    t1sEntries (nInc d r) port f = t1sEntries d port f := by
  have hident : ∀ n, nGet (nInc d r) (sig_IDENT n) = nGet d (sig_IDENT n) := fun n =>
    nGet_nSet_other d _ fun h => hr (by rw [← h, sig_IDENT, refClass_mref])
  have hof : entriesOf (nInc d r) 3 port = entriesOf d 3 port := entriesOf_mSet d hr _ 3 port
  simp only [t1sEntries, hof, hident]

/-- The destination of a frame stands before its FCS. -/
theorem sliceOf_take {b : List Byte} {n k : Nat} (h : n ≤ k) : sliceOf (b.take k) 0 n = sliceOf b 0 n := by
  simp only [sliceOf, List.drop_zero, List.take_take, Nat.min_eq_left h]

/-- A frame that a port takes is counted, and feeds its entries or is counted as unmatched. -/
theorem doT1sFrameReceived_taken {port : Fin 2} {frame : List Byte} (hw : t1sOn d port.val = true) (hfcs : fcsGood frame = true)
    (htakes : t1sTakes d port.val (sliceOf frame 0 6) = true) (hlength : 22 ≤ frame.length) :
    doT1sFrameReceived port frame d =
      if t1sEntries d port.val (frame.take (frame.length - 4)) = [] then
        nInc (nInc d (t1s_RX_FRAMES port.val)) (t1s_RX_UNMATCHED port.val)
      else entriesFrame 240 (nInc d (t1s_RX_FRAMES port.val)) (t1sEntries d port.val (frame.take (frame.length - 4)))
        ((etherBody (frame.take (frame.length - 4))).2.drop 2) := by
  have hclass : refClass (t1s_RX_FRAMES port.val) ≠ 0x21 := by
    rw [t1s_RX_FRAMES, refClass_mref]
    decide
  have hdst : sliceOf (frame.take (frame.length - 4)) 0 6 = sliceOf frame 0 6 := sliceOf_take (by omega)
  unfold doT1sFrameReceived
  dsimp only
  rw [if_neg (by simp [hw]), if_neg (by simp [hfcs]), hdst, if_neg (by simp [htakes]), t1sEntries_nInc d hclass]

theorem t1sFrameReceivedDoes : T1sFrameReceivedDoes := by
  rintro s port frame ⟨hon, hfcs, htakes, hlength⟩
  refine completes_of_dev rfl (doT1sFrameReceived_taken hon hfcs htakes hlength) ?_
  rw [withDev_dev]
  have hne : t1s_RX_UNMATCHED port.val ≠ t1s_RX_FRAMES port.val := mref_ne_of_member (by decide)
  have hcount : nGet (nInc s.dev (t1s_RX_FRAMES port.val)) (t1s_RX_FRAMES port.val) = satAdd 32 (nGet s.dev (t1s_RX_FRAMES port.val)) 1 :=
    nGet_nSet_same _ _ _
  split
  case isTrue =>
    refine ⟨(nGet_nSet_other _ _ hne.symm).trans hcount, fun _ => (nGet_nSet_same _ _ _).trans ?_⟩
    exact congrArg (fun k => satAdd 32 k 1) (nGet_nSet_other _ _ hne)
  case isFalse hsome =>
    exact ⟨((keepsNetwork_entriesFrame _ _ _ _).nGet (by simp [t1s_RX_FRAMES])).trans hcount, fun hnone => absurd hnone hsome⟩

theorem t1sFrameReceivedErrorDoes : T1sFrameReceivedErrorDoes := by
  rintro s port frame ⟨hon, hfcs⟩
  have hexec : doT1sFrameReceived port frame s.dev = nInc s.dev (t1s_RX_ERRORS port.val) := by
    simp [doT1sFrameReceived, hon, hfcs]
  exact completes_of_dev rfl hexec (nGet_nSet_same _ _ _)

theorem plcaBeaconSendDoes : PlcaBeaconSendDoes := by
  intro s port hcoordinates
  have hexec : doPlcaBeaconSend port s.dev = emit (nSet s.dev (t1s_PLCA_STATUS port.val) 1)
      (.beacon port.val (nGet s.dev (t1s_TO_TIMER port.val)) (nGet s.dev (t1s_NODE_COUNT port.val))) := if_pos hcoordinates
  exact completes_of_dev rfl hexec ⟨nGet_nSet_same _ _ _, congrArg (· ++ _) (nSet_out _ _ _)⟩

theorem plcaBeaconReceivedDoes : PlcaBeaconReceivedDoes := by
  intro s port hfollows
  have hexec : doPlcaBeaconReceived port s.dev = arm (nSet s.dev (t1s_PLCA_STATUS port.val) 1) tkBeacon port.val (us 400) := if_pos hfollows
  exact completes_of_dev rfl hexec ⟨nGet_nSet_same _ _ _, (mapFind_arm_same _ _ _ _).trans (by rw [nSet_now, us])⟩

/-- A status that falls is counted, with the port's event (R577). -/
theorem plcaLost_of_status {p : Nat} (h : nGet d (t1s_PLCA_STATUS p) = 1) :
    plcaLost d p = raise (nInc (nSet (disarm d tkBeacon p) (t1s_PLCA_STATUS p) 0) (t1s_BEACON_LOSSES p)) (849 + p) := if_pos h

theorem plcaBeaconLossDoes : PlcaBeaconLossDoes := by
  rintro s port ⟨hdue, hstatus⟩
  have hexec : doPlcaBeaconLoss port s.dev = plcaLost s.dev port.val := if_pos hdue
  have hne : t1s_PLCA_STATUS port.val ≠ t1s_BEACON_LOSSES port.val := mref_ne_of_member (by decide)
  refine completes_of_dev rfl (hexec.trans (plcaLost_of_status hstatus)) ?_
  rw [withDev_dev, raise]
  have hraise := fun e => keepsNetwork_of_quiet (keepsQuiet_raiseBy e (n := 849 + port.val) (by omega) 1)
  constructor
  · rw [(hraise _).nGet (by simp [t1s_PLCA_STATUS]), nInc, nAdd, nGet_nSet_other _ _ hne, nGet_nSet_same]
  · rw [(hraise _).nGet (by simp [t1s_BEACON_LOSSES]), nInc, nAdd, nGet_nSet_same, nGet_nSet_other _ _ hne.symm, nGet_disarm]

end Sys2Proof.Machine
end

section
/-!
CAN FD controllers (R579, R583, R587), and O31 from its clauses.
-/
namespace Sys2Proof.Machine

variable {d e : Dev} {c : Nat}

theorem nGet_nInc_same (d : Dev) (r : Ref) : nGet (nInc d r) r = satAdd 32 (nGet d r) 1 := nGet_nSet_same _ _ _

theorem nGet_nInc_other (d : Dev) {r q : Ref} (h : q ≠ r) : nGet (nInc d r) q = nGet d q := nGet_nSet_other _ _ h

/-! ### Answers of actions that name no result -/

theorem freeBytes_length (k n : Nat) : (freeBytes k n).length = n := by
  induction n generalizing k with
  | zero => rfl
  | succ n ih => exact congrArg (· + 1) (ih (k + 1))

/-- An action that the gate lets through and that names no result changes nothing more, but for an answer of free octets of its type
(R37). -/
theorem withGate_answerOpen {s : State} {sess : Nat} {r : Ref} {op : Dev → Dev × Status × List Byte} {e : Dev} {row : MemberRow}
    (hgate : writeGate s.dev sess r = none) (hop : op s.dev = (e, .ok, [])) (hrow : rowOf r = some row) (hacc : row.acc = .x) (q : Ref) :
    nGet (withGate s.dev sess r op) q = nGet e q ∧ AnswersOpen (withDev s (withGate s.dev sess r op)) sess 0 row.typ.len := by
  have hresult : actionResult r (op s.dev) = (freeUsedN e row.typ.len, .ok, freeBytes e.free row.typ.len) := by
    simp [actionResult, hop, hrow, hacc]
  rw [withGate_open _ _ _ _ hgate, hresult]
  exact ⟨(nGet_emitResult _ _ _ _ q).trans (nGet_freeUsedN _ _ q), freeBytes e.free row.typ.len, freeBytes_length _ _,
    by simp [emitResult, emit, Status.code]⟩

/-! ### STATE and the error counters -/

/-- Whether a controller takes part in bus traffic rests on the islands and on members numbered up to 6 (R587, R637). -/
theorem canOn_congr (c : Nat) (hislands : e.islands = d.islands) (hmember : ∀ q, refMember q ≤ 6 → nGet e q = nGet d q) :
    canOn e c = canOn d c := by
  have hcan : ∀ k route, canClaims e k route = canClaims d k route := fun k route => by
    rw [canClaims, canClaims, hmember (can_MODE k) (by simp [can_MODE]), hmember route_CAN_ROUTE (by decide)]
  have htdm : ∀ p route, tdmClaims e p route = tdmClaims d p route := fun p route => by
    rw [tdmClaims, tdmClaims, hmember (tdm_ENABLE p) (by simp [tdm_ENABLE]), hmember route_TDM_ROUTE (by decide)]
  have hwake : ∀ route, wakeClaims e route = wakeClaims d route := fun route => by
    rw [wakeClaims, wakeClaims, hmember route_HOST_WAKE_ROUTE (by decide)]
  have howner : ∀ p, ownerOf e p = ownerOf d p := fun p => by simp only [ownerOf, hcan, htdm, hwake]
  have hball : canRxBall e c = canRxBall d c := by rw [canRxBall, canRxBall, hmember route_CAN_ROUTE (by decide)]
  rw [canOn, canOn, networkRuns, networkRuns, hislands, hball, howner, hmember (can_MODE c) (by simp [can_MODE]),
    hmember (can_STATE c) (by simp [can_STATE])]

theorem state_of_canOn (h : canOn d c = true) : nGet d (can_STATE c) = 2 ∨ nGet d (can_STATE c) = 3 := by
  simp only [canOn, Bool.and_eq_true, Bool.or_eq_true, beq_iff_eq] at h
  exact h.2

/-- The grade of a controller on the bus (R579, R587). -/
theorem nGet_canGrade_STATE (hstate : nGet d (can_STATE c) = 2 ∨ nGet d (can_STATE c) = 3) :
    nGet (canGrade d c) (can_STATE c) = if 128 ≤ nGet d (can_TEC c) ∨ d.net.canOver.contains c then 3 else 2 := by
  rw [canGrade, if_pos hstate, nGet_nSet_same]

theorem nGet_canGrade_other (d : Dev) {q : Ref} (hq : q ≠ can_STATE c) : nGet (canGrade d c) q = nGet d q := by
  unfold canGrade
  split
  · exact nGet_nSet_other _ _ hq
  · rfl

/-- Counters at 0 and a new STATE (R583, R587). -/
theorem nGet_canFresh (d : Dev) (c st : Nat) : nGet (canFresh d c st) (can_STATE c) = st ∧ nGet (canFresh d c st) (can_TEC c) = 0 ∧
    nGet (canFresh d c st) (can_REC c) = 0 := by
  have hTEC : can_TEC c ≠ can_REC c := mref_ne_of_member (by decide)
  have hTEC' : can_TEC c ≠ can_STATE c := mref_ne_of_member (by decide)
  have hREC : can_REC c ≠ can_STATE c := mref_ne_of_member (by decide)
  simp only [canFresh, nSets_cons, nSets_nil, nGet_nSet_same, nGet_nSet_other _ _ hTEC, nGet_nSet_other _ _ hTEC', nGet_nSet_other _ _ hREC,
    and_self]

theorem canBusOff_of_on (hon : canOn d c = true) (hcounts : canCounts d c = true) :
    canBusOff d c = raise (nInc (nSet d (can_STATE c) 4) (can_BUS_OFFS c)) (851 + c) := if_pos (by simp [hon, hcounts])

/-- The event of bus-off leaves the network's members (R583). -/
theorem nGet_canBusOff (hc : c < 4) (hon : canOn d c = true) (hcounts : canCounts d c = true) {q : Ref} (hq : refClass q = 0x48) :
    nGet (canBusOff d c) q = nGet (nInc (nSet d (can_STATE c) 4) (can_BUS_OFFS c)) q := by
  rw [canBusOff_of_on hon hcounts, raise]
  exact (keepsNetwork_of_quiet (keepsQuiet_raiseBy _ (by omega) 1)).nGet hq

theorem nGet_canBusOff_STATE (hc : c < 4) (hon : canOn d c = true) (hcounts : canCounts d c = true) :
    nGet (canBusOff d c) (can_STATE c) = 4 := by
  have hne : can_STATE c ≠ can_BUS_OFFS c := mref_ne_of_member (by decide)
  rw [nGet_canBusOff hc hon hcounts (by simp [can_STATE]), nGet_nInc_other _ hne, nGet_nSet_same]

theorem nGet_canBusOff_BUS_OFFS (hc : c < 4) (hon : canOn d c = true) (hcounts : canCounts d c = true) :
    nGet (canBusOff d c) (can_BUS_OFFS c) = satAdd 32 (nGet d (can_BUS_OFFS c)) 1 := by
  have hne : can_BUS_OFFS c ≠ can_STATE c := mref_ne_of_member (by decide)
  rw [nGet_canBusOff hc hon hcounts (by simp [can_BUS_OFFS]), nGet_nInc_same, nGet_nSet_other _ _ hne]

theorem nGet_canBusOff_other (hc : c < 4) (hon : canOn d c = true) (hcounts : canCounts d c = true) {m : Nat}
    (hm : m % 256 ≠ 6 ∧ m % 256 ≠ 13) (i : Nat) : nGet (canBusOff d c) (mref 0x48 i m) = nGet d (mref 0x48 i m) := by
  have hstate : mref 0x48 i m ≠ can_STATE c := mref_ne_of_member hm.1
  have hoffs : mref 0x48 i m ≠ can_BUS_OFFS c := mref_ne_of_member hm.2
  rw [nGet_canBusOff hc hon hcounts (by simp), nGet_nInc_other _ hoffs, nGet_nSet_other _ _ hstate]

theorem canBusOffDoes : CanBusOffDoes := by
  rintro s port ⟨hon, hcounts⟩
  exact ⟨_, rfl, nGet_canBusOff_STATE port.isLt hon hcounts, nGet_canBusOff_BUS_OFFS port.isLt hon hcounts⟩

theorem canBusOffRecoveryDoes : CanBusOffRecoveryDoes := by
  intro s port hoff
  have hexec : doCanBusOffRecovery port s.dev = canFresh s.dev port.val 2 := if_pos hoff
  exact completes_of_dev rfl hexec (nGet_canFresh _ _ _)

theorem rowOf_restart (port : Fin 4) :
    (rowOf (can_RESTART port.val)).any (fun row => decide (row.acc = .x) && decide (row.typ.len = 1)) = true := by
  revert port
  decide

theorem restartDoes : RestartDoes := by
  rintro s sess port ⟨hgate, hoff⟩
  obtain ⟨row, hrow, hok⟩ := (Option.any_eq_true ..).mp (rowOf_restart port)
  simp only [Bool.and_eq_true, decide_eq_true_eq] at hok
  obtain ⟨hacc, hlen⟩ := hok
  have hop : canRestart s.dev port.val 0 = (canFresh s.dev port.val 1, .ok, []) := by simp [canRestart, hoff]
  have hread := withGate_answerOpen (op := fun d => canRestart d port.val 0) hgate hop hrow hacc
  obtain ⟨hstate, htec, hrec⟩ := nGet_canFresh s.dev port.val 1
  refine ⟨_, rfl, ?_⟩
  exact ⟨(hread _).1.trans hstate, (hread _).1.trans htec, (hread _).1.trans hrec, hlen ▸ (hread 0).2⟩

theorem canIntegratedDoes : CanIntegratedDoes := by
  intro s port hwaits
  have hexec : doCanIntegrated port s.dev = nSet s.dev (can_STATE port.val) 2 := if_pos hwaits
  exact completes_of_dev rfl hexec (nGet_nSet_same _ _ _)

/-! ### Protocol errors (R579, R583) -/

/-- The controllers whose receive error count stands above 127, after controller c's has come to r. -/
def overAfter (d : Dev) (c r : Nat) : List Nat :=
  if 127 < r ∧ d.net.canOver.contains c = false then d.net.canOver ++ [c] else d.net.canOver

/-- A device that has counted a protocol error of controller c, whose error counters come to t and r. -/
def errorCounted (d : Dev) (c t r : Nat) : Dev :=
  nSets { nInc d (can_PROTOCOL_ERRORS c) with net.canOver := overAfter d c r } [(can_TEC c, min 255 t), (can_REC c, min 127 r)]

theorem contains_overAfter (d : Dev) (c r : Nat) : (overAfter d c r).contains c = (decide (127 < r) || d.net.canOver.contains c) := by
  unfold overAfter
  split
  case isTrue h => simp [h.1]
  case isFalse h =>
    cases hin : d.net.canOver.contains c with
    | true => simp
    | false =>
      have hle : ¬ 127 < r := fun hr => h ⟨hr, hin⟩
      simp [hle]

theorem nGet_errorCounted_TEC (d : Dev) (c t r : Nat) : nGet (errorCounted d c t r) (can_TEC c) = min 255 t := by
  have hne : can_TEC c ≠ can_REC c := mref_ne_of_member (by decide)
  rw [errorCounted, nSets_cons, nSets_cons, nSets_nil, nGet_nSet_other _ _ hne, nGet_nSet_same]

theorem nGet_errorCounted_REC (d : Dev) (c t r : Nat) : nGet (errorCounted d c t r) (can_REC c) = min 127 r := nGet_nSet_same _ _ _

/-- Beside the error counters only PROTOCOL_ERRORS changes. -/
theorem nGet_errorCounted_other (d : Dev) {c t r : Nat} {q : Ref} (htec : q ≠ can_TEC c) (hrec : q ≠ can_REC c) :
    nGet (errorCounted d c t r) q = nGet (nInc d (can_PROTOCOL_ERRORS c)) q := by
  rw [errorCounted, nSets_cons, nSets_cons, nSets_nil, nGet_nSet_other _ _ hrec, nGet_nSet_other _ _ htec]
  exact nGet_congr rfl q

theorem nGet_errorCounted_PROTOCOL_ERRORS (d : Dev) (c t r : Nat) :
    nGet (errorCounted d c t r) (can_PROTOCOL_ERRORS c) = satAdd 32 (nGet d (can_PROTOCOL_ERRORS c)) 1 := by
  have htec : can_PROTOCOL_ERRORS c ≠ can_TEC c := mref_ne_of_member (by decide)
  have hrec : can_PROTOCOL_ERRORS c ≠ can_REC c := mref_ne_of_member (by decide)
  rw [nGet_errorCounted_other d htec hrec, nGet_nInc_same]

theorem nGet_errorCounted_low (d : Dev) (c t r : Nat) {q : Ref} (hq : refMember q ≤ 6) : nGet (errorCounted d c t r) q = nGet d q := by
  have hne : ∀ {i m : Nat}, 6 < m % 256 → q ≠ mref 0x48 i m := by
    rintro i m hm rfl
    rw [refMember_mref] at hq
    omega
  exact (nGet_errorCounted_other d (hne (by decide)) (hne (by decide))).trans (nGet_nSet_other d _ (hne (by decide)))

theorem errorCounted_canOver (d : Dev) (c t r : Nat) : (errorCounted d c t r).net.canOver = overAfter d c r :=
  congrArg Net.canOver (nSets_net _ _)

theorem errorCounted_islands (d : Dev) (c t r : Nat) : (errorCounted d c t r).islands = d.islands :=
  (nSets_islands _ _).trans (nInc_islands _ _)

theorem canOn_errorCounted (d : Dev) (c t r : Nat) : canOn (errorCounted d c t r) c = canOn d c :=
  canOn_congr c (errorCounted_islands d c t r) fun _ hq => nGet_errorCounted_low d c t r hq

theorem canCounts_errorCounted (d : Dev) (c t r : Nat) : canCounts (errorCounted d c t r) c = canCounts d c := by
  rw [canCounts, canCounts, nGet_errorCounted_low d c t r (by simp [can_MODE])]

theorem canCounts_nInc (d : Dev) (c : Nat) : canCounts (nInc d (can_PROTOCOL_ERRORS c)) c = canCounts d c := by
  have hne : can_MODE c ≠ can_PROTOCOL_ERRORS c := mref_ne_of_member (by decide)
  rw [canCounts, canCounts, nGet_nInc_other _ hne]

/-- A protocol error in normal operation moves the error counters, and STATE with them. -/
theorem doCanProtocolError_counting {port : Fin 4} {transmitter : Bool} {tecAdd recAdd t r : Nat} (hon : canOn d port.val = true)
    (hcounts : canCounts d port.val = true) (ht : t = nGet d (can_TEC port.val) + if transmitter then tecAdd else 0)
    (hr : r = nGet d (can_REC port.val) + if transmitter then 0 else recAdd) :
    doCanProtocolError port transmitter tecAdd recAdd d =
      if 255 < t then canBusOff (errorCounted d port.val t r) port.val else canGrade (errorCounted d port.val t r) port.val := by
  have htec : can_TEC port.val ≠ can_PROTOCOL_ERRORS port.val := mref_ne_of_member (by decide)
  have hrec : can_REC port.val ≠ can_PROTOCOL_ERRORS port.val := mref_ne_of_member (by decide)
  unfold doCanProtocolError
  dsimp only
  rw [if_neg (by simp [hon]), canCounts_nInc, if_neg (by simp [hcounts]), nGet_nInc_other _ htec, nGet_nInc_other _ hrec, ← ht, ← hr]
  simp only [errorCounted, overAfter, nInc_net]

theorem canProtocolErrorDoes : CanProtocolErrorDoes := by
  rintro s port transmitter tecAdd recAdd t r ⟨hon, hcounts, ht, hr⟩
  have hon' : canOn (errorCounted s.dev port.val t r) port.val = true := (canOn_errorCounted ..).trans hon
  have hcounts' : canCounts (errorCounted s.dev port.val t r) port.val = true := (canCounts_errorCounted ..).trans hcounts
  refine completes_of_dev rfl (doCanProtocolError_counting hon hcounts ht hr) ?_
  rw [withDev_dev]
  have herrors := nGet_errorCounted_PROTOCOL_ERRORS s.dev port.val t r
  have htec := nGet_errorCounted_TEC s.dev port.val t r
  have hrec := nGet_errorCounted_REC s.dev port.val t r
  split
  case isTrue =>
    have hkept := fun m hm => nGet_canBusOff_other port.isLt hon' hcounts' (m := m) hm (4 + port.val)
    exact ⟨(hkept 12 (by decide)).trans herrors, (hkept 7 (by decide)).trans htec, (hkept 8 (by decide)).trans hrec,
      nGet_canBusOff_STATE port.isLt hon' hcounts'⟩
  case isFalse hle =>
    have hkept := fun {q} hq => nGet_canGrade_other (errorCounted s.dev port.val t r) (c := port.val) (q := q) hq
    refine ⟨(hkept (mref_ne_of_member (by decide))).trans herrors, (hkept (mref_ne_of_member (by decide))).trans htec,
      (hkept (mref_ne_of_member (by decide))).trans hrec, ?_⟩
    have hpassive : 128 ≤ min 255 t ↔ 128 ≤ t := by omega
    rw [nGet_canGrade_STATE (state_of_canOn hon'), htec, errorCounted_canOver, contains_overAfter]
    simp only [hpassive, Bool.or_eq_true, decide_eq_true_eq]

theorem canProtocolErrorListeningDoes : CanProtocolErrorListeningDoes := by
  rintro s port transmitter tecAdd recAdd ⟨hon, hlistens⟩
  have hexec : doCanProtocolError port transmitter tecAdd recAdd s.dev = nInc s.dev (can_PROTOCOL_ERRORS port.val) := by
    unfold doCanProtocolError
    dsimp only
    rw [if_neg (by simp [hon]), canCounts_nInc, if_pos hlistens]
  exact completes_of_dev rfl hexec ⟨nGet_nInc_same _ _, nGet_nInc_other _ (mref_ne_of_member (by decide)), nGet_nInc_other _ (mref_ne_of_member (by decide)),
    nGet_nInc_other _ (mref_ne_of_member (by decide))⟩

/-! ### Frames (R21, R579, R587) -/

/-- A device whose controller has acknowledged a frame, unless it listens only. -/
def acknowledged (d : Dev) (c : Nat) : Dev := if nGet d (can_MODE c) = 2 then d else emit d (.canAck c)

theorem nGet_acknowledged (d : Dev) (c : Nat) (q : Ref) : nGet (acknowledged d c) q = nGet d q := by
  unfold acknowledged
  split
  · rfl
  · exact nGet_emit _ _ _

theorem acknowledged_out (d : Dev) (c : Nat) : (acknowledged d c).out = d.out ++ if nGet d (can_MODE c) = 2 then [] else [.canAck c] := by
  unfold acknowledged
  split
  · exact (List.append_nil _).symm
  · rfl

/-- A frame heard moves REC and STATE alone of the members. -/
theorem nGet_canHeard_other (d : Dev) {q : Ref} (hstate : q ≠ can_STATE c) (hrec : q ≠ can_REC c) : nGet (canHeard d c) q = nGet d q := by
  unfold canHeard
  split
  · rfl
  · split
    · exact (nGet_canGrade_other _ hstate).trans ((nGet_nSet_other _ _ hrec).trans (nGet_congr rfl q))
    · exact (nGet_canGrade_other _ hstate).trans (nGet_nSet_other _ _ hrec)

theorem nGet_canHeard_RX_FRAMES (d : Dev) (c : Nat) : nGet (canHeard d c) (can_RX_FRAMES c) = nGet d (can_RX_FRAMES c) :=
  nGet_canHeard_other d (mref_ne_of_member (by decide)) (mref_ne_of_member (by decide))

theorem nGet_canReceived_RX_FRAMES (d : Dev) (c : Nat) : nGet (canReceived d c) (can_RX_FRAMES c) = satAdd 32 (nGet d (can_RX_FRAMES c)) 1 := by
  rw [canReceived, nGet_canHeard_RX_FRAMES, nGet_nInc_same]

theorem keepsNetwork_canSignals (port : Nat) (ext : Bool) (id : Nat) (data : List Byte) (d : Dev) :
    KeepsNetwork d (canSignals port ext id data d) := keepsNetwork_entriesFrame _ _ _ _

/-- A data frame at a controller other than NOAP-lite's feeds the signal map alone. -/
theorem canFrame_data {s : State} {port : Fin 4} (hon : canOn s.dev port.val = true) (hlite : nGet s.dev lite_LITE_CONTROLLER ≠ port.val)
    (ext brs fd : Bool) (id : Nat) (data : List Byte) :
    canFrame port.val ⟨ext, brs, fd, false⟩ id data s =
      withDev s (canSignals port.val ext id data (canReceived (acknowledged s.dev port.val) port.val)) := by
  have hcontroller : nGet (canSignals port.val ext id data (canReceived (acknowledged s.dev port.val) port.val)) lite_LITE_CONTROLLER ≠ port.val := by
    have hkept : nGet (canReceived (acknowledged s.dev port.val) port.val) lite_LITE_CONTROLLER =
        nGet (acknowledged s.dev port.val) lite_LITE_CONTROLLER :=
      (canOnly_canReceived port.isLt _).nGet (canKept_lite port.isLt 1)
    rw [(keepsNetwork_canSignals _ _ _ _ _).nGet (by decide), hkept, nGet_acknowledged]
    exact hlite
  unfold canFrame
  rw [if_neg (by simp [hon])]
  dsimp only
  rw [if_neg Bool.false_ne_true, if_neg]
  · rfl
  · intro haddressed
    simp only [liteAddressed, Bool.and_eq_true, decide_eq_true_eq] at haddressed
    exact hcontroller haddressed.1.1.1

theorem canFdFrameReceivedDoes : CanFdFrameReceivedDoes := by
  rintro s port ext brs fd id data ⟨hon, hlite⟩
  refine ⟨_, congrArg Host.Outcome.next (canFrame_data hon hlite ext brs fd id data), ?_⟩
  dsimp only
  rw [withDev_dev, (keepsNetwork_canSignals _ _ _ _ _).nGet (by simp [can_RX_FRAMES]), nGet_canReceived_RX_FRAMES, nGet_acknowledged]

/-- A remote frame is acknowledged and heard. -/
theorem canFrame_remote {s : State} {port : Nat} (hon : canOn s.dev port = true) (ext brs fd : Bool) (id : Nat) (data : List Byte) :
    canFrame port ⟨ext, brs, fd, true⟩ id data s = withDev s (canHeard (acknowledged s.dev port) port) := by
  unfold canFrame
  rw [if_neg (by simp [hon])]
  rfl

theorem canFdFrameReceivedRemoteDoes : CanFdFrameReceivedRemoteDoes := by
  intro s port ext brs fd id data hon
  refine ⟨_, congrArg Host.Outcome.next (canFrame_remote hon ext brs fd id data), ?_⟩
  obtain ⟨n, hn⟩ := (canOnly_canHeard port.isLt (acknowledged s.dev port.val)).parts
  rw [withDev_dev]
  constructor
  · rw [nGet_canHeard_RX_FRAMES, nGet_acknowledged]
  · exact hn.out.trans (acknowledged_out _ _)

/-- Settles O31, clause by clause: an entry's loss, the counts of frames, a controller's STATE and error counters, and PLCA_STATUS. -/
theorem signalsAndFieldbuses : Obligations.SignalsAndFieldbuses :=
  ⟨signalTimeoutDoes, t1sFrameReceivedDoes, t1sFrameReceivedErrorDoes, canBusOffDoes, canBusOffRecoveryDoes, restartDoes, canIntegratedDoes,
    canProtocolErrorDoes, canProtocolErrorListeningDoes, plcaBeaconSendDoes, plcaBeaconReceivedDoes, plcaBeaconLossDoes,
    canFdFrameReceivedDoes, canFdFrameReceivedRemoteDoes⟩

end Sys2Proof.Machine
end

section
/-!
REVOKE_SLOT (R703) of an object that holds no key: 08:0000, whose member 3 is the register REVOKED_KEYS and no action.
-/
namespace Sys2Proof.Machine

/-- A gated operation on a member that is no action adds no value to its own (R37). -/
theorem withGate_of_member {d e : Dev} {sess : Nat} {r : Ref} {op : Dev → Dev × Status × List Byte} {row : MemberRow} {st : Status}
    {val : List Byte} (hgate : writeGate d sess r = none) (hrow : rowOf r = some row) (hacc : row.acc ≠ .x) (hop : op d = (e, st, val)) :
    withGate d sess r op = emitResult e sess st val := by
  rw [withGate_open _ _ _ _ hgate, actionResult_of_member hrow hacc, hop]

/-- Of the reference that REVOKE_SLOT names only the object number in class 08 counts; here it is that of REVOKED_KEYS. -/
theorem whenRevokeSlot_REVOKED_KEYS : WhenRevokeSlot State.reset 0 sec_REVOKED_KEYS := by
  decide

/-- REVOKE_SLOT of 08:0000 completes as a member write does, without a value. -/
theorem exec_revokeSlot_REVOKED_KEYS : exec (.revokeSlot 0 sec_REVOKED_KEYS 0) State.reset =
    .next (withDev State.reset (emitResult (nSet State.reset.dev sec_ENROL 1) 0 .ok [])) := by
  have hrow : ∃ row, rowOf sec_REVOKED_KEYS = some row ∧ row.acc ≠ .x := ⟨_, rfl, by decide⟩
  obtain ⟨row, hrow, hacc⟩ := hrow
  have hdo : doRevokeSlot 0 sec_REVOKED_KEYS 0 State.reset.dev = emitResult (nSet State.reset.dev sec_ENROL 1) 0 .ok [] :=
    withGate_of_member (op := fun d => revokeSlotOp d sec_REVOKED_KEYS 0) whenRevokeSlot_REVOKED_KEYS hrow hacc rfl
  exact congrArg (fun d => Host.Outcome.next (withDev State.reset d)) hdo

/-- Refutes O48: the conditions of RevokeSlotDoes hold of a reference to 08:0000 (the hypothesis that the reference is to a host key slot,
08:0010 to 08:0017, or to a panel CA key, 08:0020 to 08:0023, is missing: only there is member 3 REVOKE_SLOT). After reset the device's own
REVOKE_SLOT of 08:0000 answers OK without a value, where the statement wants an octet. -/
theorem not_startupAndTrust : ¬ Obligations.StartupAndTrust := by
  unfold Obligations.StartupAndTrust
  rintro ⟨-, -, -, -, -, -, -, -, -, -, -, -, -, -, -, hrevokeSlot, -⟩
  obtain ⟨u, hexec, -, val, hlength, hlast⟩ := hrevokeSlot State.reset 0 sec_REVOKED_KEYS whenRevokeSlot_REVOKED_KEYS
  obtain rfl := Host.Outcome.next.inj (exec_revokeSlot_REVOKED_KEYS.symm.trans hexec)
  have hempty : val = [] := by simpa [emitResult, emit, Status.code, eq_comm] using hlast
  simp [hempty] at hlength

end Sys2Proof.Machine
end

section
/-!
How a thread's instruction issues (R319 to R323, R359 to R366, R483, R728): what fetch, operand and issue slot count beside the
instruction's own effect, and the thread as an instruction that completes or jumps leaves it.
-/
namespace Sys2Proof.Machine

@[simp] theorem threadOf_updThread (d : Dev) (t : Nat) (f : Thread → Thread) : threadOf (updThread d t f) t = f (threadOf d t) := by
  simp [threadOf, updThread]

theorem threadOf_congr {d e : Dev} (h : e.beam = d.beam) (t : Nat) : threadOf e t = threadOf d t := by
  simp only [threadOf, h]

/-- A thread's register set leaves what the thread is beside A, X and Y. -/
theorem landLoad_cases (x : Thread) (pend : Option (Nat × Word)) (wrote : Option Nat) :
    ∃ a b c, landLoad x pend wrote = { x with a := a, x := b, y := c } := by
  rcases pend with _ | ⟨r, v⟩
  · exact ⟨_, _, _, rfl⟩
  · simp only [landLoad]
    split
    · exact ⟨_, _, _, rfl⟩
    · unfold setReg
      split <;> exact ⟨_, _, _, rfl⟩

/-- A device e that differs from d at most in what counts: corrected SRAM words with their count (R483) and class 70 with the counters
behind it (R728). -/
structure CountsOnly (d e : Dev) : Prop where
  shape : ∃ o x b l, e = { d with objs := o, dirty := x, obs := b, dram.softWords := l }
  member : ∀ r, r ≠ mem_SRAM_CORRECTED → refClass r ≠ 0x70 → nGet e r = nGet d r

namespace CountsOnly

variable {d e f : Dev}

theorem refl (d : Dev) : CountsOnly d d := ⟨⟨_, _, _, _, rfl⟩, fun _ _ _ => rfl⟩

theorem trans (h : CountsOnly d e) (h' : CountsOnly e f) : CountsOnly d f := by
  obtain ⟨⟨_, _, _, _, rfl⟩, hm⟩ := h
  obtain ⟨⟨_, _, _, _, rfl⟩, hm'⟩ := h'
  exact ⟨⟨_, _, _, _, rfl⟩, fun r hr hc => (hm' r hr hc).trans (hm r hr hc)⟩

theorem nSet (d : Dev) {r : Ref} (hr : r = mem_SRAM_CORRECTED ∨ refClass r = 0x70) (n : Nat) : CountsOnly d (nSet d r n) := by
  refine ⟨?_, fun q hq hc => nGet_nSet_other d n ?_⟩
  · rcases mSet_cases d r (.num n) with ⟨_, h⟩ | ⟨_, h⟩
    · exact ⟨_, _, _, _, h⟩
    · exact ⟨_, _, _, _, h⟩
  · rintro rfl
    exact hr.elim hq hc

theorem setSoftWords (d : Dev) (l : List Nat) : CountsOnly d { d with dram.softWords := l } := ⟨⟨_, _, _, _, rfl⟩, fun _ _ _ => rfl⟩

theorem setObs (d : Dev) (b : Obs) : CountsOnly d { d with obs := b } := ⟨⟨_, _, _, _, rfl⟩, fun _ _ _ => rfl⟩

theorem foldl {α : Type} {step : Dev → α → Dev} (hstep : ∀ d a, CountsOnly d (step d a)) (l : List α) (d : Dev) :
    CountsOnly d (l.foldl step d) := by
  induction l generalizing d with
  | nil => exact refl d
  | cons a l ih => exact (hstep d a).trans (ih _)

theorem beam (h : CountsOnly d e) : e.beam = d.beam := by
  obtain ⟨⟨_, _, _, _, rfl⟩, -⟩ := h
  rfl

theorem events (h : CountsOnly d e) : e.events = d.events := by
  obtain ⟨⟨_, _, _, _, rfl⟩, -⟩ := h
  rfl

theorem nowPs (h : CountsOnly d e) : nowPs e = nowPs d := by
  obtain ⟨⟨_, _, _, _, rfl⟩, -⟩ := h
  rfl

theorem scratchBad (h : CountsOnly d e) (t a : Nat) : scratchBad e t a = scratchBad d t a := by
  obtain ⟨⟨_, _, _, _, rfl⟩, -⟩ := h
  rfl

theorem threadOf (h : CountsOnly d e) (t : Nat) : threadOf e t = threadOf d t := threadOf_congr h.beam t

theorem cyclesPs (h : CountsOnly d e) (n : Nat) : cyclesPs e n = cyclesPs d n := by
  simp only [Machine.cyclesPs, h.member boost_STATE (by decide) (by decide)]

theorem scratchByte (h : CountsOnly d e) (t a : Nat) : scratchByte e t a = scratchByte d t a := by
  simp only [Machine.scratchByte, scratchKey, h.beam, h.threadOf]

/-- A load that has its value has the same after counting. -/
theorem scratchLoad (h : CountsOnly d e) {t a n : Nat} {v : Word} (hv : scratchLoad d t a n = .val v) : scratchLoad e t a n = .val v := by
  simp only [Machine.scratchLoad, footprint, h.threadOf, h.scratchBad, h.scratchByte] at hv ⊢
  cases hfind : (Machine.threadOf d t).stores.reverse.find? (entryMeets (alignTo a n) n) with
  | none => simpa only [hfind] using hv
  | some x =>
    simp only [hfind] at hv ⊢
    split_ifs at hv ⊢
    exact hv

/-- The effective address too (R363). -/
theorem viewAddr (h : CountsOnly d e) {t : Nat} {w : Be32Op} {a : Word} (ha : viewAddr d t w = .val a) : viewAddr e t w = .val a := by
  simp only [Machine.viewAddr, h.threadOf] at ha ⊢
  split at ha
  case h_5 =>
    cases hp : Machine.scratchLoad d t (w.operand.toNat % 1024) 4 with
    | val p => simpa only [h.scratchLoad hp, hp] using ha
    | wait d' => simp [hp] at ha
    | fault c => simp [hp] at ha
  all_goals exact ha

end CountsOnly

/-- Whether a mode's operand lies in the thread's view (R363). -/
abbrev ViewMode (w : Be32Op) : Prop := 1 ≤ w.mode.val ∧ w.mode.val ≤ 5

/-- A word without an uncorrectable error is read: its single-bit error is corrected and counted (R483). -/
theorem countsOnly_readWord {d : Dev} {t a : Nat} (hgood : scratchBad d t a = false) : CountsOnly d (readWord d t a) := by
  have hbad : d.dram.badWords.contains (scratchWord d t a) = false := hgood
  simp only [readWord, hbad, Bool.false_eq_true, if_false]
  split
  · exact (CountsOnly.setSoftWords d _).trans (CountsOnly.nSet _ (.inl rfl) _)
  · exact .refl d

theorem countsOnly_readWords {t : Nat} (l : List Nat) {d : Dev} (hgood : ∀ a ∈ l, scratchBad d t a = false) :
    CountsOnly d (l.foldl (fun d a => readWord d t a) d) := by
  induction l generalizing d with
  | nil => exact .refl d
  | cons a l ih =>
    have hread := countsOnly_readWord (hgood a List.mem_cons_self)
    exact hread.trans (ih fun b hb => (hread.scratchBad t b).trans (hgood b (List.mem_cons_of_mem a hb)))

/-- A fetch without a fault has corrected its word at most (R483). -/
theorem countsOnly_readFetch {d : Dev} {t : Nat} (hfetch : fetchFault d t = none) : CountsOnly d (readFetch d t) := by
  unfold readFetch
  dsimp only
  split
  · exact .refl d
  · next hraster =>
    obtain ⟨hperf, hfoot⟩ := not_or.mp hraster
    refine countsOnly_readWord ?_
    simpa [fetchFault, hperf, hfoot] using hfetch

/-- Signals counted (R728). -/
theorem countsOnly_countSignal (d : Dev) (sel n : Nat) : CountsOnly d (countSignal d sel n) := by
  unfold countSignal
  split
  · refine CountsOnly.foldl (fun e k => ?_) _ d
    unfold counterAdd
    split
    · exact (CountsOnly.setObs e _).trans (CountsOnly.nSet _ (.inr (by simp [ctr_VALUE])) _)
    · exact .refl e
  · exact .refl d

/-- A load of the view that memory serves meets no uncorrectable word (R350). -/
theorem scratchBad_of_scratchLoad {d : Dev} {t a n : Nat} {v : Word} (hv : scratchLoad d t a n = .val v)
    (hmem : ((threadOf d t).stores.reverse.find? (entryMeets (alignTo a n) n)).isNone = true) : scratchBad d t (alignTo a n) = false := by
  have hnone := Option.isNone_iff_eq_none.mp hmem
  simp only [scratchLoad, hnone] at hv
  split_ifs at hv with hview hbad
  exact eq_false_of_ne_true hbad

theorem operandReads_of_not_viewMode {d : Dev} {t : Nat} {w : Be32Op} (hmode : ¬ ViewMode w) (n : Nat) (load : Bool) :
    operandReads d t w n load = [] := by
  have hpointer : w.mode ≠ 5 := fun h => hmode (by simp [ViewMode, h])
  have hload : (load && decide (1 ≤ w.mode.val) && decide (w.mode.val ≤ 5)) = false := by
    rw [Bool.and_assoc, ← Bool.decide_and, decide_eq_false hmode, Bool.and_false]
  simp only [operandReads, hpointer, false_and, if_false, hload, Bool.false_and, Bool.false_eq_true, ite_self]
  split <;> rfl

/-- The pointer of mode 5 is there where the address is (R363). -/
theorem scratchLoad_of_pointer {d : Dev} {t : Nat} {w : Be32Op} {a : Word} (ha : viewAddr d t w = .val a) (hmode : w.mode = 5) :
    ∃ p, scratchLoad d t (w.operand.toNat % 1024) 4 = .val p := by
  simp only [viewAddr, hmode] at ha
  cases hp : scratchLoad d t (w.operand.toNat % 1024) 4 with
  | val p => exact ⟨p, rfl⟩
  | wait d' => simp [hp] at ha
  | fault c => simp [hp] at ha

/-- The words that an operand reads are good where its address and, of a load, its value are there. -/
theorem scratchBad_of_mem_operandReads {d : Dev} {t n : Nat} {w : Be32Op} {load : Bool} {a : Word} (ha : viewAddr d t w = .val a)
    (hv : load = true → ViewMode w → ∃ v, scratchLoad d t a.toNat n = .val v) {b : Nat} (hb : b ∈ operandReads d t w n load) :
    scratchBad d t b = false := by
  have hpointer : ∀ c ∈ (if w.mode = 5 ∧ ((threadOf d t).stores.reverse.find? (entryMeets (alignTo (w.operand.toNat % 1024) 4) 4)).isNone
      then [alignTo (w.operand.toNat % 1024) 4] else []), scratchBad d t c = false := by
    intro c hc
    split at hc
    · next h =>
      obtain ⟨p, hp⟩ := scratchLoad_of_pointer ha h.1
      rw [List.mem_singleton.mp hc]
      exact scratchBad_of_scratchLoad hp h.2
    · exact absurd hc List.not_mem_nil
  simp only [operandReads, ha] at hb
  split at hb
  · next h =>
    simp only [Bool.and_eq_true, decide_eq_true_eq] at h
    obtain ⟨⟨⟨⟨hload, hlow⟩, hhigh⟩, -⟩, hmem⟩ := h
    obtain ⟨v, hval⟩ := hv hload ⟨hlow, hhigh⟩
    rcases List.mem_append.mp hb with hb | hb
    · exact hpointer b hb
    · rw [List.mem_singleton.mp hb]
      exact scratchBad_of_scratchLoad hval hmem
  · exact hpointer b hb

/-- A load that has its value: of the view, so does its address. -/
theorem loadOperand_of_viewMode {d : Dev} {t n : Nat} {w : Be32Op} {v : Word} (hmode : ViewMode w) (hv : loadOperand d t w n = .val v) :
    ∃ a, viewAddr d t w = .val a ∧ scratchLoad d t a.toNat n = .val v := by
  have h6 : w.mode.val ≠ 6 := by omega
  have h7 : w.mode.val ≠ 7 := by omega
  simp only [loadOperand] at hv
  cases ha : viewAddr d t w with
  | val a => exact ⟨a, rfl, by simpa only [ha] using hv⟩
  | wait d' => simp [ha] at hv
  | fault c => simp [ha] at hv

theorem loadOperand_of_viewAddr {d : Dev} {t n : Nat} {w : Be32Op} {a : Word} (hmode : ViewMode w) (ha : viewAddr d t w = .val a) :
    loadOperand d t w n = scratchLoad d t a.toNat n := by
  have h6 : w.mode.val ≠ 6 := by omega
  have h7 : w.mode.val ≠ 7 := by omega
  simp only [loadOperand, ha]

/-- What a load's operand reads is corrected and counted, and its value stays (R483). -/
theorem readOperand_of_load {d : Dev} {t op n : Nat} {w : Be32Op} {v : Word} (hwidth : accessWidth op = n)
    (hv : ViewMode w → loadOperand d t w n = .val v) :
    CountsOnly d (readOperand d t op w) ∧ loadOperand (readOperand d t op w) t w n = loadOperand d t w n := by
  by_cases hmode : ViewMode w
  · obtain ⟨a, ha, hval⟩ := loadOperand_of_viewMode hmode (hv hmode)
    have hcounts : CountsOnly d (readOperand d t op w) := by
      unfold readOperand
      split
      · exact countsOnly_readWords _ fun b hb => scratchBad_of_mem_operandReads ha (fun _ _ => ⟨v, hwidth ▸ hval⟩) hb
      · exact .refl d
    refine ⟨hcounts, ?_⟩
    rw [hv hmode, loadOperand_of_viewAddr hmode (hcounts.viewAddr ha), hcounts.scratchLoad hval]
  · have hsame : readOperand d t op w = d := by simp [readOperand, operandReads_of_not_viewMode hmode]
    rw [hsame]
    exact ⟨.refl d, rfl⟩

/-- What a store's operand reads is corrected and counted (R483). -/
theorem countsOnly_readOperand_of_store {d : Dev} {t op : Nat} {w : Be32Op} {a : Word} (hstores : opStores op = true)
    (ha : viewAddr d t w = .val a) : CountsOnly d (readOperand d t op w) := by
  unfold readOperand
  split
  · refine countsOnly_readWords _ fun b hb => scratchBad_of_mem_operandReads ha (fun hload => ?_) hb
    simp [hstores] at hload
  · exact .refl d

/-- An opcode without an operand of its mode reads none (R368). -/
theorem readOperand_of_no_operand {op : Nat} (hop : opHasOperand op = false) (d : Dev) (t : Nat) (w : Be32Op) : readOperand d t op w = d := by
  simp [readOperand, hop]

/-- Before it issues, a thread's long operations end and its stores drain: that writes threads and scratchpads only (R319 to R323). -/
theorem endLongs_shape (t : Nat) (longs : List (Nat × Word)) (d : Dev) (left : List (Nat × Word)) (l : Word) :
    ∃ m, endLongs d t longs left l = { d with beam.threads := m } := by
  induction longs generalizing left l with
  | nil => exact ⟨_, rfl⟩
  | cons e rest ih =>
    simp only [endLongs]
    split
    · exact ih _ _
    · exact ih _ _

theorem drainDue_shape (t : Nat) (all : Bool) (stores : List StoreEntry) (d : Dev) :
    ∃ m p, drainDue d t all stores = { d with beam.threads := m, beam.scratch := p } := by
  induction stores generalizing d with
  | nil => exact ⟨_, _, rfl⟩
  | cons e rest ih =>
    simp only [drainDue]
    split
    · obtain ⟨m, p, h⟩ := ih (scratchPut d t e.addr e.bytes)
      exact ⟨m, p, h⟩
    · exact ⟨_, _, rfl⟩

theorem settleThread_shape (d : Dev) (t : Nat) : ∃ m p, settleThread d t = { d with beam.threads := m, beam.scratch := p } := by
  unfold settleThread
  obtain ⟨m, h⟩ := endLongs_shape t (threadOf d t).longs d [] (threadOf d t).l
  dsimp only
  rw [h]
  obtain ⟨m', p, h'⟩ := drainDue_shape t _ _ _
  exact ⟨m', p, h'⟩

/-- A device e that differs from d at most in threads, scratchpads, free values used, and in what counts. -/
def IssuesOnly (d e : Dev) : Prop := ∃ m p k, CountsOnly { d with beam.threads := m, beam.scratch := p, free := k } e

theorem issuesOnly_settleThread (d : Dev) (t : Nat) : IssuesOnly d (settleThread d t) := by
  obtain ⟨m, p, h⟩ := settleThread_shape d t
  exact ⟨m, p, d.free, h ▸ .refl _⟩

namespace IssuesOnly

variable {d e : Dev}

theorem nowPs (h : IssuesOnly d e) : nowPs e = nowPs d := by
  obtain ⟨m, p, k, hc⟩ := h
  exact hc.nowPs

theorem cyclesPs (h : IssuesOnly d e) (n : Nat) : cyclesPs e n = cyclesPs d n := by
  obtain ⟨m, p, k, hc⟩ := h
  exact hc.cyclesPs n

theorem icache (h : IssuesOnly d e) : e.beam.icache = d.beam.icache := by
  obtain ⟨m, p, k, hc⟩ := h
  exact (congrArg Beam.icache hc.beam :)

theorem dcache (h : IssuesOnly d e) : e.beam.dcache = d.beam.dcache := by
  obtain ⟨m, p, k, hc⟩ := h
  exact (congrArg Beam.dcache hc.beam :)

end IssuesOnly

/-- A device in which a thread has issued an instruction that leaves it as y: the thread retires, and its issue slots are counted
(R315, R360, R366, R728). -/
theorem useSlots_retireOp32 (u : State) (t n : Nat) (pc : Word) (pend load : Option (Nat × Word)) (wrote : Option Nat) :
    ∃ e, useSlots (retireOp32 u t pc pend load wrote) t n = withDev u e ∧
      CountsOnly (updThread u.dev t (fun y =>
        landLoad { y with state := .running, pc := pc, delayed := load, arrived := none, timedAt := none } pend wrote)) e :=
  ⟨_, rfl, countsOnly_countSignal _ _ _⟩

section
variable {eff : Effect} {op t : Nat} {w : Be32Op} {s : State}

/-- An instruction that is free to issue and whose condition holds takes its effect on the device `atIssue` (R360, R361). -/
theorem issue_of_issues (h : Issues op s t w) (hlong : awaitsL (settleThread s.dev t) t op = false) :
    issue eff op t w s = runEffect eff op t w (withDev s (atIssue s t w)) := by
  obtain ⟨⟨hrun, hclock, hfetch, hcached, hlegal, hfar⟩, hcond⟩ := h
  have hhead : threadHead (readFetch (settleThread s.dev t) t) t = threadHead (settleThread s.dev t) t := by
    simp only [threadHead, (countsOnly_readFetch hfetch).threadOf]
  have hline : ¬ (perfMode (settleThread s.dev t) t = true ∧
      (settleThread s.dev t).beam.icache.contains (fetchLine (settleThread s.dev t) t) = false) :=
    fun hmiss => Bool.false_ne_true (hmiss.2.symm.trans (hcached hmiss.1))
  have hmode : ¬ (w.mode = 7 ∧ perfMode (settleThread s.dev t) t = false) :=
    fun hdet => absurd (hfar hdet.1) (by simp [hdet.2])
  have hruns : ¬ ((threadOf s.dev t).state ≠ .running ∨ clusterRuns s.dev t = false) := by
    simp [hrun, hclock]
  simp only [issue, hruns, if_false, withDev_dev, withDev_mem, hfetch, hline, hlegal, hmode, hlong, Bool.false_eq_true, hcond, if_true, atIssue, hhead]
  exact congrArg (runEffect eff op t w) (apply_ite (withDev s) _ _ _).symm

theorem threadAt_eq (h : Issues op s t w) : threadAt s t w = threadOf (settleThread s.dev t) t := by
  obtain ⟨⟨-, -, hfetch, -⟩, -⟩ := h
  unfold threadAt atIssue
  dsimp only
  split
  · exact (countsOnly_readFetch hfetch).threadOf t
  · exact (countsOnly_readFetch hfetch).threadOf t

/-- Until an instruction takes its effect, its issue has changed threads, scratchpads, free values and counts. -/
theorem issuesOnly_atIssue (h : Issues op s t w) : IssuesOnly s.dev (atIssue s t w) := by
  obtain ⟨⟨-, -, hfetch, -⟩, -⟩ := h
  obtain ⟨m, p, hsettled⟩ := settleThread_shape s.dev t
  have hread := countsOnly_readFetch hfetch
  rw [hsettled] at hread
  unfold atIssue
  rw [hsettled]
  dsimp only
  split
  · obtain ⟨⟨o, x, b, l, hshape⟩, hmember⟩ := hread
    refine ⟨m, p, s.dev.free + 1, ⟨o, x, b, l, ?_⟩, fun r hr hc => ?_⟩
    · rw [hshape]
      rfl
    · exact hmember r hr hc
  · exact ⟨m, p, s.dev.free, hread⟩

/-- What an instruction leaves that completes with a state u: u with its thread retired, and counts (R360, R366). -/
theorem issue_of_done (h : Issues op s t w) (hlong : awaitsL (settleThread s.dev t) t op = false)
    (hread : CountsOnly (atIssue s t w) (readOperand (atIssue s t w) t op w)) {u : State} {load : Option (Nat × Word)}
    (hdone : eff (withDev s (readOperand (atIssue s t w) t op w)) t w = .done u load) :
    ∃ e, issue eff op t w s = withDev u e ∧
      CountsOnly (updThread u.dev t (fun y => retired (threadAt s t w) y (opWrites op) load)) e := by
  have hthread : threadOf (readOperand (atIssue s t w) t op w) t = threadAt s t w := hread.threadOf t
  rw [issue_of_issues h hlong]
  simp only [runEffect, withDev_dev, withDev_withDev, hdone, hthread]
  exact useSlots_retireOp32 u t 1 _ _ _ _

/-- The thread that an instruction leaves that completes with a state u. -/
theorem threadOf_issue_of_done (h : Issues op s t w) (hlong : awaitsL (settleThread s.dev t) t op = false)
    (hread : CountsOnly (atIssue s t w) (readOperand (atIssue s t w) t op w)) {u : State} {load : Option (Nat × Word)}
    (hdone : eff (withDev s (readOperand (atIssue s t w) t op w)) t w = .done u load) :
    threadOf (issue eff op t w s).dev t = retired (threadAt s t w) (threadOf u.dev t) (opWrites op) load := by
  obtain ⟨e, hissue, hcounts⟩ := issue_of_done h hlong hread hdone
  rw [hissue, withDev_dev, hcounts.threadOf, threadOf_updThread]

/-- The thread that an instruction leaves that jumps with a state u (R366, R373). -/
theorem threadOf_issue_of_jump (h : Issues op s t w) (hlong : awaitsL (settleThread s.dev t) t op = false) (hop : opHasOperand op = false)
    {u : State} {pc : Word} (hjump : eff (withDev s (atIssue s t w)) t w = .jump u pc) :
    threadOf (issue eff op t w s).dev t = jumped (threadAt s t w) (threadOf u.dev t) pc := by
  rw [issue_of_issues h hlong]
  simp only [runEffect, withDev_dev, withDev_withDev, readOperand_of_no_operand hop, hjump]
  obtain ⟨e, hretire, hcounts⟩ := useSlots_retireOp32 u t (if perfMode (atIssue s t w) t then 1 else 2) pc (threadAt s t w).delayed none none
  rw [show threadOf (atIssue s t w) t = threadAt s t w from rfl, hretire, withDev_dev, hcounts.threadOf, threadOf_updThread]
  rfl

end

end Sys2Proof.Machine
end

section
/-!
Loads and stores of a thread's own view, moves, long operations, jumps, calls and returns (R359 to R374): clauses of O19, O20, O22 and O23.
-/
namespace Sys2Proof.Machine

/-- The entry that a store of a thread x to its view puts into the store buffer: it drains three engine cycles after the one before it, or
after now (R321). -/
def viewEntry (d : Dev) (x : Thread) (a : Nat) (bs : List Byte) : StoreEntry where
  addr := a
  bytes := bs
  due := (match x.stores.getLast? with | some e => max (nowPs d) e.due | none => nowPs d) + cyclesPs d 3

section
variable {op t : Nat} {w : Be32Op} {s : State}

/-- Only MV.AL waits for L (R319, R320). -/
theorem awaitsL_of_ne (hop : op ≠ 0x10) (d : Dev) (t : Nat) : awaitsL d t op = false := by
  simp [awaitsL, hop]

/-- An instruction on registers and flags alone. -/
theorem threadOf_issue_regEffect (h : Issues op s t w) (hlong : awaitsL (settleThread s.dev t) t op = false)
    (hop : opHasOperand op = false) (f : Thread → Thread) :
    threadOf (issue (regEffect f) op t w s).dev t = retired (threadAt s t w) (f (threadAt s t w)) (opWrites op) none := by
  have hread := readOperand_of_no_operand hop (atIssue s t w) t w
  rw [threadOf_issue_of_done h hlong (by rw [hread]; exact .refl _) rfl]
  simp only [withThread, withDev_dev, threadOf_updThread, hread]
  rfl

/-- A load: an immediate is in its register at once, other data follow the next instruction (R366). -/
theorem threadOf_issue_loadEffect (h : Issues op s t w) (hop : op ≠ 0x10) {r n : Nat} (hwidth : accessWidth op = n) {v : Word}
    (hv : w.mode ≠ 0 → loadOperand (atIssue s t w) t w n = .val v) :
    threadOf (issue (loadEffect r n) op t w s).dev t =
      if w.mode = 0 then retired (threadAt s t w) (setReg (threadAt s t w) r (w.operand.signExtend 32)) (opWrites op) none
      else retired (threadAt s t w) (threadAt s t w) (opWrites op) (some (r, v)) := by
  have hview : ViewMode w → w.mode ≠ 0 := fun hmode hzero => by simp [ViewMode, hzero] at hmode
  obtain ⟨hread, hsame⟩ := readOperand_of_load hwidth fun hmode => hv (hview hmode)
  have hlong := awaitsL_of_ne hop (settleThread s.dev t) t
  have hthread : threadOf (readOperand (atIssue s t w) t op w) t = threadAt s t w := hread.threadOf t
  split
  · next hmode =>
    rw [threadOf_issue_of_done h hlong hread (by simp only [loadEffect, hmode, if_true]; rfl)]
    simp only [withThread, withDev_dev, threadOf_updThread, hthread, immSigned]
  · next hmode =>
    have hval := hsame.trans (hv hmode)
    rw [threadOf_issue_of_done h hlong hread (by simp only [loadEffect, hmode, if_false, withDev_dev, hval]; rfl)]
    rw [withDev_dev, hthread]

/-- A long operation: its result is to be in L after its latency (R319, R371). -/
theorem threadOf_issue_longEffect (h : Issues op s t w) (hop : op ≠ 0x10) (hwidth : accessWidth op = 4) {v : Word}
    (hv : operand (atIssue s t w) t w = .val v) (n : Nat) (f : Word → Word → Word) :
    threadOf (issue (longEffect n f) op t w s).dev t = retired (threadAt s t w)
      { threadAt s t w with longs := (threadAt s t w).longs ++ [(nowPs s.dev + cyclesPs s.dev n, f (threadAt s t w).a v)] } (opWrites op) none := by
  have hview : ViewMode w → w.mode ≠ 0 := fun hmode hzero => by simp [ViewMode, hzero] at hmode
  have hload : w.mode ≠ 0 → loadOperand (atIssue s t w) t w 4 = .val v := fun hmode => by simpa [operand, hmode] using hv
  obtain ⟨hread, hsame⟩ := readOperand_of_load hwidth fun hmode => hload (hview hmode)
  have hval : operand (readOperand (atIssue s t w) t op w) t w = .val v := by
    rw [← hv]
    simp only [operand, hsame]
  have hthread : threadOf (readOperand (atIssue s t w) t op w) t = threadAt s t w := hread.threadOf t
  have hissue := issuesOnly_atIssue h
  rw [threadOf_issue_of_done h (awaitsL_of_ne hop _ t) hread (by simp only [longEffect, withOperand, withDev_dev, hval]; rfl)]
  simp only [withThread, withDev_dev, threadOf_updThread, hthread, hread.nowPs, hread.cyclesPs, hissue.nowPs, hissue.cyclesPs]

/-- A store to the thread's view is last in its pair (R321). -/
theorem threadOf_issue_storeEffect (h : Issues op s t w) (hop : opStores op = true) (hmode : w.mode.val ∈ [1, 2, 3, 4, 5]) {a : Word}
    (ha : viewAddr (atIssue s t w) t w = .val a) {n : Nat} (hfoot : alignTo a.toNat n < footprint (atIssue s t w) t)
    (hroom : (threadAt s t w).stores.length < 2) (f : Thread → Word) :
    threadOf (issue (storeEffect n f) op t w s).dev t = retired (threadAt s t w)
      { threadAt s t w with stores := (threadAt s t w).stores ++ [viewEntry s.dev (threadAt s t w) (alignTo a.toNat n) (leBytes n (f (threadAt s t w)).toNat)] }
      (opWrites op) none := by
  have hne : op ≠ 0x10 := by
    rintro rfl
    exact absurd hop (by decide)
  have hread := countsOnly_readOperand_of_store hop ha
  have hthread : threadOf (readOperand (atIssue s t w) t op w) t = threadAt s t w := hread.threadOf t
  have hissue := issuesOnly_atIssue h
  have h6 : w.mode.val ≠ 6 := fun h6 => by simp [h6] at hmode
  have h7 : w.mode.val ≠ 7 := fun h7 => by simp [h7] at hmode
  have hinside : ¬ footprint (readOperand (atIssue s t w) t op w) t ≤ alignTo a.toNat n := by
    simpa only [footprint, hread.threadOf, not_le] using hfoot
  have hspace : ¬ 2 ≤ (threadAt s t w).stores.length := not_le.mpr hroom
  have heff : storeEffect n f (withDev s (readOperand (atIssue s t w) t op w)) t w = .done (withDev s
      (pushStore (readOperand (atIssue s t w) t op w) t (alignTo a.toNat n) (leBytes n (f (threadAt s t w)).toNat))) none := by
    simp only [storeEffect, withDev_dev, hread.viewAddr ha, hinside, hthread, hspace, if_false]
    rfl
  rw [threadOf_issue_of_done h (awaitsL_of_ne hne _ t) hread heff]
  simp only [withDev_dev, pushStore, threadOf_updThread, hthread, hread.nowPs, hread.cyclesPs, hissue.nowPs, hissue.cyclesPs]
  rfl

end

/-- LD.A, LD.X and LD.Y: the load's effect and register by the thread's opcode (R366, R368). -/
theorem ldADoes : LdADoes := fun _ _ _ _ ⟨h, hv⟩ => ⟨_, rfl, threadOf_issue_loadEffect h (by decide) rfl hv⟩
theorem ldXDoes : LdXDoes := fun _ _ _ _ ⟨h, hv⟩ => ⟨_, rfl, threadOf_issue_loadEffect h (by decide) rfl hv⟩
theorem ldYDoes : LdYDoes := fun _ _ _ _ ⟨h, hv⟩ => ⟨_, rfl, threadOf_issue_loadEffect h (by decide) rfl hv⟩

theorem opModes_of_issues {op t : Nat} {w : Be32Op} {s : State} (h : Issues op s t w) : (opModes op).contains w.mode.val = true := by
  obtain ⟨⟨-, -, -, -, hlegal, -⟩, -⟩ := h
  simp only [illegal, Bool.or_eq_false_iff, Bool.not_eq_false'] at hlegal
  exact hlegal.1.2

/-- LD.B and LD.H have no immediate form (R360). -/
theorem mode_ne_zero_of_issues {op t : Nat} {w : Be32Op} {s : State} (h : Issues op s t w) (hop : (opModes op).contains 0 = false) :
    w.mode ≠ 0 := by
  intro hmode
  have hlegal := opModes_of_issues h
  rw [hmode] at hlegal
  exact Bool.false_ne_true (hop.symm.trans hlegal)

theorem ldBDoes : LdBDoes := fun _ _ _ _ ⟨h, hv⟩ =>
  ⟨_, rfl, (threadOf_issue_loadEffect h (by decide) rfl fun _ => hv).trans (if_neg (mode_ne_zero_of_issues h (by decide)))⟩

theorem ldHDoes : LdHDoes := fun _ _ _ _ ⟨h, hv⟩ =>
  ⟨_, rfl, (threadOf_issue_loadEffect h (by decide) rfl fun _ => hv).trans (if_neg (mode_ne_zero_of_issues h (by decide)))⟩

theorem stADoes : StADoes := fun _ _ _ _ ⟨h, hmode, ha, hfoot, hroom⟩ => ⟨_, rfl, threadOf_issue_storeEffect h rfl hmode ha hfoot hroom _⟩
theorem stXDoes : StXDoes := fun _ _ _ _ ⟨h, hmode, ha, hfoot, hroom⟩ => ⟨_, rfl, threadOf_issue_storeEffect h rfl hmode ha hfoot hroom _⟩
theorem stYDoes : StYDoes := fun _ _ _ _ ⟨h, hmode, ha, hfoot, hroom⟩ => ⟨_, rfl, threadOf_issue_storeEffect h rfl hmode ha hfoot hroom _⟩
theorem stBDoes : StBDoes := fun _ _ _ _ ⟨h, hmode, ha, hfoot, hroom⟩ => ⟨_, rfl, threadOf_issue_storeEffect h rfl hmode ha hfoot hroom _⟩
theorem stHDoes : StHDoes := fun _ _ _ _ ⟨h, hmode, ha, hfoot, hroom⟩ => ⟨_, rfl, threadOf_issue_storeEffect h rfl hmode ha hfoot hroom _⟩

/-- Settles O19, clause by clause: loads of a value that is there, and stores of the view into a buffer with room. -/
theorem beamLoadsStores : Obligations.BeamLoadsStores :=
  ⟨ldADoes, ldXDoes, ldYDoes, ldBDoes, ldHDoes, stADoes, stXDoes, stYDoes, stBDoes, stHDoes⟩

/-- A faulting thread, until the fault is reported: its program's code, PC and count, and the thread stopped (R350). -/
def faultStopped (d : Dev) (t code : Nat) : Dev :=
  let i := refInst (threadOf d t).prog
  let e := nInc (nSets d [(prog_FAULT_CODE i, code), (prog_FAULT_PC i, (threadOf d t).pc.toNat)]) (prog_FAULTS i)
  setRun (updThread e t (fun x => { x with faultRun := x.faultRun + 1 })) t .faulted

/-- What a fault reports and ends: a trace record, the service log, the thread's claims and an event (R350, R622). -/
def reportFault (d : Dev) (t code data source : Nat) : Dev :=
  raiseBy (implicitEoi (serviceLog (trace d 7 t data) 2 t code) (t + 1)) source 1

theorem faultThread_eq (d : Dev) (t code : Nat) :
    faultThread d t code = reportFault (faultStopped d t code) t code (code * 2 ^ 24 + (threadOf d t).pc.toNat % 2 ^ 16) (704 + 4 * (t / 32)) := rfl

theorem beam_of_membersOnly {d e : Dev} (h : MembersOnly d e) : e.beam = d.beam := (congrArg Dev.beam h :)

theorem membersOnly_implicitEoi (d : Dev) (who : Nat) : MembersOnly d (implicitEoi d who) :=
  .foldl (fun e _ => membersOnly_endSource e _) _ d

theorem membersOnly_reportFault (d : Dev) (t code data source : Nat) : MembersOnly d (reportFault d t code data source) :=
  ((membersOnly_trace d 7 t data).trans (.nSets _ _)).trans ((membersOnly_implicitEoi _ _).trans (membersOnly_raiseBy _ source 1))

theorem keepsQuiet_serviceLog (d : Dev) (kind unit detail : Nat) : KeepsQuiet d (serviceLog d kind unit detail) := by
  refine (Keeps.refl d).nSets ?_
  simp only [List.forall_mem_cons, List.not_mem_nil, false_imp_iff, implies_true, and_true]
  exact ⟨not_quietMember_obs _ _, not_quietMember_obs _ _, not_quietMember_obs _ _, not_quietMember_obs _ _, not_quietMember_obs _ _,
    not_quietMember_obs _ _⟩

theorem keepsQuiet_implicitEoi (d : Dev) (who : Nat) : KeepsQuiet d (implicitEoi d who) :=
  Keeps.foldl (fun e _ _ => keepsQuiet_endSource e _) d

theorem keepsQuiet_reportFault (d : Dev) (t code data : Nat) {source : Nat} (hsource : source < 1024) :
    KeepsQuiet d (reportFault d t code data source) :=
  ((keepsQuiet_trace d 7 t data).trans (keepsQuiet_serviceLog _ 2 t code)).trans
    ((keepsQuiet_implicitEoi _ _).trans (keepsQuiet_raiseBy _ hsource 1))

theorem threadOf_setRun (d : Dev) (t : Nat) (st : TState) : threadOf (setRun d t st) t = { threadOf d t with state := st } := by
  unfold setRun
  dsimp only
  split
  · exact threadOf_updThread d t _
  · rw [threadOf_congr (nSet_beam _ _ _), threadOf_updThread]

/-- A thread's state set changes no member but RUN_STATE. -/
theorem nGet_setRun (d : Dev) (t : Nat) (st : TState) {r : Ref} (hr : ∀ i, r ≠ prog_RUN_STATE i) : nGet (setRun d t st) r = nGet d r := by
  unfold setRun
  dsimp only
  split
  · rfl
  · rw [nGet_nSet_other _ _ (hr _)]
    rfl

theorem state_faultThread (d : Dev) (t code : Nat) : (threadOf (faultThread d t code) t).state = .faulted := by
  rw [faultThread_eq, threadOf_congr (beam_of_membersOnly (membersOnly_reportFault _ t code _ _)), faultStopped, threadOf_setRun]

/-- Of its program's members a fault sets RUN_STATE, FAULT_CODE and FAULT_PC, and counts FAULTS (R331, R350). -/
theorem nGet_faultThread (d : Dev) {t : Nat} (ht : t < 384) (code i : Nat) {k : Nat} (hrun : k % 256 ≠ 25) :
    nGet (faultThread d t code) (mref 0x17 i k) = nGet (nInc (nSets d [(prog_FAULT_CODE (refInst (threadOf d t).prog), code),
      (prog_FAULT_PC (refInst (threadOf d t).prog), (threadOf d t).pc.toNat)]) (prog_FAULTS (refInst (threadOf d t).prog))) (mref 0x17 i k) := by
  rw [faultThread_eq, (keepsQuiet_reportFault _ t code _ (by omega)).nGet (by simp [QuietMember]), faultStopped,
    nGet_setRun _ _ _ fun _ => mref_ne_of_member hrun]
  rfl

theorem nGet_FAULT_CODE_faultThread (d : Dev) {t : Nat} (ht : t < 384) (code : Nat) :
    nGet (faultThread d t code) (prog_FAULT_CODE (refInst (threadOf d t).prog)) = code := by
  refine (nGet_faultThread d ht code _ (by decide)).trans ?_
  refine (nGet_nSet_other _ _ (mref_ne_of_member (by decide))).trans ?_
  exact (nGet_nSet_other _ _ (mref_ne_of_member (by decide))).trans (nGet_nSet_same _ _ _)

theorem nGet_FAULT_PC_faultThread (d : Dev) {t : Nat} (ht : t < 384) (code : Nat) :
    nGet (faultThread d t code) (prog_FAULT_PC (refInst (threadOf d t).prog)) = (threadOf d t).pc.toNat := by
  refine (nGet_faultThread d ht code _ (by decide)).trans ?_
  exact (nGet_nSet_other _ _ (mref_ne_of_member (by decide))).trans (nGet_nSet_same _ _ _)

/-- The issue of an illegal instruction faults (R360). -/
theorem issue_of_illegal {eff : Effect} {op t : Nat} {w : Be32Op} {s : State} (hrun : (threadOf s.dev t).state = .running)
    (hclock : clusterRuns s.dev t = true) (hfetch : fetchFault (settleThread s.dev t) t = none)
    (hcached : perfMode (settleThread s.dev t) t = true →
      (settleThread s.dev t).beam.icache.contains (fetchLine (settleThread s.dev t) t) = true)
    (hillegal : illegal s.mem (settleThread s.dev t) t op w = true) :
    issue eff op t w s = withDev s (faultThread (readFetch (settleThread s.dev t) t) t 1) := by
  have hline : ¬ (perfMode (settleThread s.dev t) t = true ∧
      (settleThread s.dev t).beam.icache.contains (fetchLine (settleThread s.dev t) t) = false) :=
    fun hmiss => Bool.false_ne_true (hmiss.2.symm.trans (hcached hmiss.1))
  have hruns : ¬ ((threadOf s.dev t).state ≠ .running ∨ clusterRuns s.dev t = false) := by
    simp [hrun, hclock]
  simp only [issue, hruns, if_false, withDev_dev, withDev_mem, hfetch, hline, hillegal, if_true, withDev_withDev]

/-- NOP's own effect is none. -/
theorem effNop_eq (s : State) (t : Nat) (w : Be32Op) : effNop s t w = .done s none := rfl

theorem nopDoes : NopDoes := fun s t w h =>
  ⟨_, rfl, threadOf_issue_of_done h (awaitsL_of_ne (by decide) _ _) (.refl _) (effNop_eq (withDev s (atIssue s t.val w)) _ _)⟩

theorem nopIllegalDoes : NopIllegalDoes := by
  rintro s t w d ⟨hrun, hclock, rfl, hfetch, hcached, hillegal⟩
  have hthread := (countsOnly_readFetch hfetch).threadOf t.val
  refine ⟨_, (congrArg Host.Outcome.next (issue_of_illegal hrun hclock hfetch hcached hillegal) :), ?_⟩
  dsimp only
  rw [withDev_dev, ← hthread]
  exact ⟨state_faultThread _ _ _, nGet_FAULT_CODE_faultThread _ t.isLt _, nGet_FAULT_PC_faultThread _ t.isLt _⟩

theorem mvXaDoes : MvXaDoes := fun _ _ _ h => ⟨_, rfl, threadOf_issue_regEffect h (awaitsL_of_ne (by decide) _ _) rfl _⟩
theorem mvYaDoes : MvYaDoes := fun _ _ _ h => ⟨_, rfl, threadOf_issue_regEffect h (awaitsL_of_ne (by decide) _ _) rfl _⟩
theorem mvAxDoes : MvAxDoes := fun _ _ _ h => ⟨_, rfl, threadOf_issue_regEffect h (awaitsL_of_ne (by decide) _ _) rfl _⟩
theorem mvAyDoes : MvAyDoes := fun _ _ _ h => ⟨_, rfl, threadOf_issue_regEffect h (awaitsL_of_ne (by decide) _ _) rfl _⟩
theorem mvAfDoes : MvAfDoes := fun _ _ _ h => ⟨_, rfl, threadOf_issue_regEffect h (awaitsL_of_ne (by decide) _ _) rfl _⟩
theorem mvFaDoes : MvFaDoes := fun _ _ _ h => ⟨_, rfl, threadOf_issue_regEffect h (awaitsL_of_ne (by decide) _ _) rfl _⟩

theorem mvAlDoes : MvAlDoes := by
  rintro s t w ⟨h, hlongs⟩
  rw [threadAt_eq h] at hlongs
  exact ⟨_, rfl, threadOf_issue_regEffect h (by simp [awaitsL, hlongs]) rfl _⟩

/-- TID: the thread's own number, and its head's (R358). -/
theorem tidOf_eq (d : Dev) (t : Nat) :
    tidOf d t = BitVec.ofNat 32 (t + if (threadOf d t).head < 16 then (threadOf d t).head * 2 ^ 16 else 2 ^ 20) := by
  have hnumber : t % 4 + 4 * (t / 4) = t := by omega
  simp only [tidOf, hnumber]

theorem mvAtDoes : MvAtDoes := by
  intro s t w h
  refine ⟨_, rfl, (threadOf_issue_of_done h (awaitsL_of_ne (by decide) _ _) (.refl _) rfl).trans ?_⟩
  simp only [withThread, withDev_dev, threadOf_updThread, tidOf_eq]
  rfl

/-- Settles O20, clause by clause: NOP and the moves on the registers of a thread that is free to issue, and the fault of an illegal one. -/
theorem beamMoves : Obligations.BeamMoves :=
  ⟨nopDoes, nopIllegalDoes, mvXaDoes, mvYaDoes, mvAxDoes, mvAyDoes, mvAlDoes, mvAtDoes, mvAfDoes, mvFaDoes⟩

theorem mulDoes : MulDoes := fun _ _ _ _ ⟨h, hv⟩ => ⟨_, rfl, threadOf_issue_longEffect h (by decide) rfl hv _ _⟩
theorem mulqDoes : MulqDoes := fun _ _ _ _ ⟨h, hv⟩ => ⟨_, rfl, threadOf_issue_longEffect h (by decide) rfl hv _ _⟩
theorem recipDoes : RecipDoes := fun _ _ _ _ ⟨h, hv⟩ => ⟨_, rfl, threadOf_issue_longEffect h (by decide) rfl hv _ _⟩
theorem sqrtDoes : SqrtDoes := fun _ _ _ _ ⟨h, hv⟩ => ⟨_, rfl, threadOf_issue_longEffect h (by decide) rfl hv _ _⟩
theorem sincosDoes : SincosDoes := fun _ _ _ _ ⟨h, hv⟩ => ⟨_, rfl, threadOf_issue_longEffect h (by decide) rfl hv _ _⟩

/-- A quotient rounded toward zero lies no further from zero than its dividend, so that only -2^31 / -1 leaves the 32 bits (R372). -/
theorem satWord_tdiv (a b : Word) : satWord (a.toInt.tdiv b.toInt) = BitVec.ofInt 32 (min 2147483647 (a.toInt.tdiv b.toInt)) := by
  have habs : (a.toInt.tdiv b.toInt).natAbs ≤ a.toInt.natAbs := by
    rw [Int.natAbs_tdiv]
    exact Nat.div_le_self _ _
  have hlow : -2147483648 ≤ a.toInt := by simpa using a.le_toInt
  have hhigh : a.toInt < 2147483648 := by simpa using a.toInt_lt
  have hquot : ¬ a.toInt.tdiv b.toInt < -2147483648 := by omega
  simp only [satWord, clampInt, hquot, if_false]
  congr 1
  omega

theorem divWord_eq (a b : Word) : divWord a b = if b = 0 then (if 0 ≤ a.toInt then 0x7FFFFFFF#32 else 0x80000000#32)
    else BitVec.ofInt 32 (min 2147483647 (a.toInt.tdiv b.toInt)) := by
  simp only [divWord, satWord_tdiv]
  rfl

theorem divDoes : DivDoes := by
  rintro s t w v ⟨h, hv⟩
  refine ⟨_, rfl, (threadOf_issue_longEffect h (by decide) rfl hv 20 divWord).trans ?_⟩
  rw [divWord_eq]
  rfl

/-- A waiting instruction is tried again; that a thread runs means that none waits. -/
theorem retry_of_running {s : State} {t : Nat} (hrun : (threadOf s.dev t).state = .running) : retry s t = s := by
  simp only [retry, hrun]

theorem longOpCompleteDoes : LongOpCompleteDoes := by
  rintro s t e r ⟨hrun, hclock, hlongs, hdue⟩
  have hended : endLongs s.dev t.val (threadOf s.dev t.val).longs [] (threadOf s.dev t.val).l =
      updThread s.dev t.val (fun x => { x with longs := [], l := r }) := by
    simp only [hlongs, endLongs, hdue, if_true, List.map_nil]
  refine ⟨withDev s (updThread s.dev t.val (fun x => { x with longs := [], l := r })), congrArg Host.Outcome.next ?_, threadOf_updThread _ _ _⟩
  simp only [doLongOpComplete, hclock, if_true, hended]
  exact retry_of_running (by rw [withDev_dev, threadOf_updThread]; exact hrun)

/-- Settles O22, clause by clause: the results of the long operations on an operand that is there, and a due one in L. -/
theorem beamLongOperations : Obligations.BeamLongOperations :=
  ⟨mulDoes, mulqDoes, divDoes, recipDoes, sqrtDoes, sincosDoes, longOpCompleteDoes⟩

theorem target_eq_jumpTarget (x : Thread) (w : Be32Op) : target x w = jumpTarget x w := by
  obtain ⟨cond, mode, operand⟩ := w
  fin_cases mode <;> rfl

theorem jmpDoes : JmpDoes := by
  intro s t w h
  refine ⟨_, rfl, (threadOf_issue_of_jump (u := withDev s (atIssue s t.val w)) h (awaitsL_of_ne (by decide) _ _) rfl rfl).trans ?_⟩
  exact congrArg _ (target_eq_jumpTarget _ _)

theorem callDoes : CallDoes := by
  rintro s t w ⟨h, hroom⟩
  have heff : effCall (withDev s (atIssue s t.val w)) t.val w = .jump
      (withThread (withDev s (atIssue s t.val w)) t.val (fun x => { x with rstack := (x.pc + 4) :: x.rstack })) (target (threadAt s t.val w) w) :=
    if_neg (not_le.mpr hroom)
  refine ⟨_, rfl, (threadOf_issue_of_jump h (awaitsL_of_ne (by decide) _ _) rfl heff).trans ?_⟩
  rw [withThread, withDev_dev, threadOf_updThread, target_eq_jumpTarget]
  rfl

theorem retDoes : RetDoes := by
  rintro s t w a l ⟨h, hstack⟩
  have heff : effRet (withDev s (atIssue s t.val w)) t.val w = .jump
      (withThread (withDev s (atIssue s t.val w)) t.val (fun x => { x with rstack := l })) a := by
    have hcurrent : (threadOf (atIssue s t.val w) t.val).rstack = a :: l := hstack
    simp only [effRet, retEffect, withDev_dev, hcurrent]
  refine ⟨_, rfl, (threadOf_issue_of_jump h (awaitsL_of_ne (by decide) _ _) rfl heff).trans ?_⟩
  rw [withThread, withDev_dev, threadOf_updThread]
  rfl

/-- Settles O23, clause by clause: the target, the return stack and the rest of a thread that jumps, calls and returns. -/
theorem beamControlFlow : Obligations.BeamControlFlow := ⟨jmpDoes, callDoes, retDoes⟩

end Sys2Proof.Machine
end

section
/-!
Waits, claims, fences, cache invalidation and posts (R343, R377 to R383, R616 to R620): clauses of O25.
-/
namespace Sys2Proof.Machine

section
variable {eff : Effect} {op t : Nat} {w : Be32Op} {s : State}

/-- An instruction without an operand of its mode completes: its effect, its thread retired, and counts (R360, R366). -/
theorem issue_of_done_without_operand (h : Issues op s t w) (hne : op ≠ 0x10) (hop : opHasOperand op = false) {u : State}
    {load : Option (Nat × Word)} (hdone : eff (withDev s (atIssue s t w)) t w = .done u load) :
    ∃ e, issue eff op t w s = withDev u e ∧
      CountsOnly (updThread u.dev t (fun y => retired (threadAt s t w) y (opWrites op) load)) e ∧
      threadOf e t = retired (threadAt s t w) (threadOf u.dev t) (opWrites op) load := by
  have hread := readOperand_of_no_operand hop (atIssue s t w) t w
  obtain ⟨e, hissue, hcounts⟩ := issue_of_done (load := load) (u := u) h (awaitsL_of_ne hne _ t) (by rw [hread]; exact .refl _) (by rw [hread]; exact hdone)
  exact ⟨e, hissue, hcounts, (hcounts.threadOf t).trans (threadOf_updThread _ _ _)⟩

/-- An instruction that enters a wait: its thread stays where it is, and a load that was delayed has landed (R343, R366). -/
theorem threadOf_issue_of_hold (h : Issues op s t w) (hne : op ≠ 0x10) (hop : opHasOperand op = false) {u : State} {st : TState}
    (hhold : eff (withDev s (atIssue s t w)) t w = .hold u st) :
    threadOf (issue eff op t w s).dev t =
      { landLoad { threadOf u.dev t with delayed := none } (threadAt s t w).delayed (opWrites op) with state := st } := by
  rw [issue_of_issues h (awaitsL_of_ne hne _ t)]
  simp only [runEffect, withDev_dev, withDev_withDev, readOperand_of_no_operand hop, hhold, withThread, threadOf_setRun, threadOf_updThread]
  have hslots := (countsOnly_countSignal u.dev (3 * 4096 + t) 1).threadOf t
  simp only [useSlots, withDev_dev, hslots]
  rfl

end

/-- Where a load lands, the thread's PC, state and delayed load stay. -/
theorem landLoad_pc (x : Thread) (pend : Option (Nat × Word)) (wrote : Option Nat) : (landLoad x pend wrote).pc = x.pc := by
  obtain ⟨a, b, c, h⟩ := landLoad_cases x pend wrote
  rw [h]

theorem landLoad_delayed (x : Thread) (pend : Option (Nat × Word)) (wrote : Option Nat) : (landLoad x pend wrote).delayed = x.delayed := by
  obtain ⟨a, b, c, h⟩ := landLoad_cases x pend wrote
  rw [h]

/-- What counts is no member of an event source (R630). -/
theorem nGet_ev_of_countsOnly {d e : Dev} (h : CountsOnly d e) (n m : Nat) : nGet e (mref 0x50 n m) = nGet d (mref 0x50 n m) := by
  refine h.member _ (fun heq => ?_) (by simp)
  simpa [mem_SRAM_CORRECTED] using congrArg refClass heq

@[simp] theorem nGet_updThread (d : Dev) (t : Nat) (f : Thread → Thread) (r : Ref) : nGet (updThread d t f) r = nGet d r := rfl

@[simp] theorem updThread_events (d : Dev) (t : Nat) (f : Thread → Thread) : (updThread d t f).events = d.events := rfl

theorem events_startHold (d : Dev) (g : Nat) : (startHold d g).events = d.events := by
  unfold startHold
  split
  · rfl
  · exact nSet_events _ _ _

/-- Members but HOLDING and HELD_CLAIMS of Damper groups and CLAIMS of sources, by their numbers. -/
def NotCountedByClaim (q : Ref) : Prop := refMember q ∉ [2, 3, 9]

theorem keeps_startHold (d : Dev) (g : Nat) : Keeps NotCountedByClaim (fun _ => False) d (startHold d g) :=
  Keeps.ite (fun _ => Keeps.refl d) fun _ =>
    ((Keeps.refl d).nSet (by simp [NotCountedByClaim, damper_HOLDING]) _).arm not_false _

/-- Of its source's members a claim sets COUNT and STATE and counts CLAIMS (R619); of the source's Damper group it sets HOLDING and
HELD_CLAIMS (R623, R631). -/
theorem keeps_claimSource (d : Dev) (n who : Nat) :
    Keeps NotCountedByClaim (fun _ => False) (nSets d [(ev_COUNT n, 0), (ev_STATE n, 2)]) (claimSource d n who) := by
  unfold claimSource
  refine Keeps.trans (Keeps.setEvents ?_ _) (keeps_startHold _ _)
  refine Keeps.trans ?_ (Keeps.whenever fun _ => Keeps.nInc (Keeps.refl _) (by simp [NotCountedByClaim, damper_HELD_CLAIMS]))
  exact Keeps.nInc (Keeps.refl _) (by simp [NotCountedByClaim, ev_CLAIMS])

theorem nGet_STATE_claimSource (d : Dev) (n who : Nat) : nGet (claimSource d n who) (ev_STATE n) = 2 :=
  ((keeps_claimSource d n who).nGet (by simp [NotCountedByClaim, ev_STATE])).trans (nGet_nSet_same _ _ _)

theorem nGet_COUNT_claimSource (d : Dev) (n who : Nat) : nGet (claimSource d n who) (ev_COUNT n) = 0 :=
  ((keeps_claimSource d n who).nGet (by simp [NotCountedByClaim, ev_COUNT])).trans ((nGet_nSet_other _ _ (mref_ne_of_member (by decide))).trans (nGet_nSet_same _ _ _))

theorem claimant_claimSource (d : Dev) (n who : Nat) : mapFind (claimSource d n who).events.claimant n = some who := by
  unfold claimSource
  dsimp only
  rw [events_startHold]
  exact mapFind_mapPut_same _ _ _

theorem waitEvEffect_of_some {s : State} {t n : Nat} (hclaim : claimable s.dev t = some n) (w : Be32Op) :
    waitEvEffect s t w = .done (withDev s (claimFor s.dev t n)) none := by
  unfold waitEvEffect
  rw [hclaim]

theorem waitEvEffect_of_none {s : State} {t : Nat} (hclaim : claimable s.dev t = none) (w : Be32Op) : waitEvEffect s t w = .hold s .waitEv := by
  unfold waitEvEffect
  rw [hclaim]

theorem waitevDoes : WaitevDoes := by
  rintro s t w n ⟨h, hclaim⟩
  have heff := waitEvEffect_of_some (s := withDev s (atIssue s t.val w)) hclaim w
  obtain ⟨e, hissue, hcounts, hthread⟩ := issue_of_done_without_operand (eff := effWaitev) h (by decide) rfl heff
  refine ⟨_, congrArg Host.Outcome.next hissue, ?_⟩
  dsimp only
  rw [withDev_dev, withDev_dev] at hthread
  have hmember (m : Nat) : nGet e (mref 0x50 n m) = nGet (claimSource (atIssue s t.val w) n (t.val + 1)) (mref 0x50 n m) := by
    rw [nGet_ev_of_countsOnly hcounts, nGet_updThread, withDev_dev, withDev_dev, claimFor, nGet_updThread]
  have hevents : e.events = (claimSource (atIssue s t.val w) n (t.val + 1)).events := by
    rw [hcounts.events, updThread_events, withDev_dev, withDev_dev, claimFor, updThread_events]
  refine ⟨hthread.trans ?_, ?_, ?_, ?_⟩
  · rw [claimFor, threadOf_updThread, threadOf_congr (beam_of_membersOnly (membersOnly_claimSource _ n (t.val + 1)))]
    rfl
  · exact (hmember 4).trans (nGet_STATE_claimSource _ n _)
  · exact (hmember 5).trans (nGet_COUNT_claimSource _ n _)
  · rw [withDev_dev, hevents]
    exact claimant_claimSource _ n _

theorem waitevWaitsDoes : WaitevWaitsDoes := by
  rintro s t w ⟨h, hclaim⟩
  have heff := waitEvEffect_of_none (s := withDev s (atIssue s t.val w)) hclaim w
  have hthread := threadOf_issue_of_hold (eff := effWaitev) h (by decide) rfl heff
  refine ⟨_, rfl, ?_⟩
  dsimp only
  rw [hthread]
  exact ⟨rfl, landLoad_pc _ _ _, landLoad_delayed _ _ _⟩

/-- WAITPOS on the mirror as it reads it: it completes where the mirror shows the position, but for the frame boundary of a raster thread,
and else waits for the next frame that shows it (R343). -/
theorem waitPosEffect_eq {s : State} {t h line col : Nat} (w : Be32Op) (hhead : threadHead s.dev t = some h)
    (hx : (threadOf s.dev t).x.toNat / 2 ^ 16 % 2 ^ 14 = line) (hx' : (threadOf s.dev t).x.toNat % 2 ^ 14 = col)
    (hline : line < (headOf s.dev h).timing.vTotal) (hcol : col < (headOf s.dev h).timing.hTotal) :
    waitPosEffect s t w =
      if (mirror s.dev h).2 = line * (headOf s.dev h).timing.hTotal + col ∧
          ¬ (threadRaster s.dev t ∧ line * (headOf s.dev h).timing.hTotal + col = 0) then .done (withDev s (freeUsed s.dev)) none
      else .hold (withDev s (freeUsed s.dev)) (.waitPos
        (if (mirror s.dev h).2 < line * (headOf s.dev h).timing.hTotal + col then (mirror s.dev h).1 else ((mirror s.dev h).1 + 1) % 2 ^ 32) line col) := by
  have hfield : fieldOf (threadOf s.dev t).x.toNat 16 14 = line := by rw [fieldOf, Nat.shiftRight_eq_div_pow, hx]
  have hfield' : fieldOf (threadOf s.dev t).x.toNat 0 14 = col := by rw [fieldOf, Nat.shiftRight_zero, hx']
  have hinside : ¬ ((headOf s.dev h).timing.vTotal ≤ line ∨ (headOf s.dev h).timing.hTotal ≤ col) := by omega
  simp only [waitPosEffect, hhead, hfield, hfield', hinside, if_false]

theorem waitposDoes : WaitposDoes := by
  rintro s t w h line col ⟨hissues, hhead, hline, hcol, hlines, hcols⟩
  have heff := waitPosEffect_eq (s := withDev s (atIssue s t.val w)) w hhead hline hcol hlines hcols
  rw [withDev_dev, withDev_withDev] at heff
  refine ⟨_, rfl, ?_⟩
  dsimp only
  split
  · next hshown =>
    rw [if_pos hshown] at heff
    obtain ⟨e, hissue, -, hthread⟩ := issue_of_done_without_operand (eff := effWaitpos) hissues (by decide) rfl heff
    rw [hissue]
    exact hthread
  · next hwaits =>
    rw [if_neg hwaits] at heff
    rw [threadOf_issue_of_hold (eff := effWaitpos) hissues (by decide) rfl heff]
    exact ⟨landLoad_pc _ _ _, rfl⟩

/-- The end of a claim (R620): PENDING where more has come or a level is still asserted, else IDLE. -/
theorem nGet_STATE_endSource (d : Dev) (n : Nat) : nGet (endSource d n) (ev_STATE n) =
    if 0 < nGet d (ev_COUNT n) ∨ (eventSense n = 1 ∧ nGet d (ev_LEVEL n) = 1) then 1 else 0 := by
  have hmember (r : Ref) : nGet { d with events.claimant := mapErase d.events.claimant n } r = nGet d r := rfl
  simp only [endSource, hmember, gt_iff_lt]
  by_cases hcount : 0 < nGet d (ev_COUNT n)
  · simp only [hcount, if_true, true_or, nGet_nSet_same]
  · by_cases hlevel : eventSense n = 1 ∧ nGet d (ev_LEVEL n) = 1
    · simp only [hcount, hlevel, if_false, if_true, and_self, or_true]
      exact nGet_nSet_same _ _ _
    · simp only [hcount, hlevel, if_false, or_self, nGet_nSet_same]

theorem claimant_endSource (d : Dev) (n : Nat) : mapFind (endSource d n).events.claimant n = none := by
  have hevents : (endSource d n).events = { d.events with claimant := mapErase d.events.claimant n } := by
    unfold endSource
    dsimp only
    split_ifs <;> simp only [nSet_events, nSets_events]
  rw [hevents]
  exact mapFind_mapErase_same _ _

theorem eoiDoes : EoiDoes := by
  rintro s t w n ⟨h, hnumber, hactive, hclaimant⟩
  have heff : effEoi (withDev s (atIssue s t.val w)) t.val w = .done (withDev s (endSource (atIssue s t.val w) n)) none := by
    have hnumber' : (threadOf (atIssue s t.val w) t.val).a.toNat % 1024 = n := hnumber
    simp only [effEoi, withDev_dev, withDev_withDev, hnumber', eoi, hactive, hclaimant, and_self, if_true]
  obtain ⟨e, hissue, hcounts, hthread⟩ := issue_of_done_without_operand h (by decide) rfl heff
  refine ⟨_, congrArg Host.Outcome.next hissue, ?_, ?_, hthread.trans ?_⟩
  · exact (congrArg (fun v : Events => mapFind v.claimant n) hcounts.events).trans (claimant_endSource _ n)
  · exact (nGet_ev_of_countsOnly hcounts n 4).trans (nGet_STATE_endSource _ n)
  · rw [withDev_dev, threadOf_congr (beam_of_membersOnly (membersOnly_endSource _ n))]
    rfl

/-- A fence of a deterministic thread, or of one whose stores have drained and been answered, waits for nothing (R377). -/
theorem fenceEffect_of_fenced {s : State} {t : Nat} (w : Be32Op)
    (hstores : perfMode s.dev t = true → (threadOf s.dev t).stores = [] ∧ (threadOf s.dev t).farStores = 0) : fenceEffect s t w = .done s none := by
  refine if_pos ?_
  cases hperf : perfMode s.dev t with
  | false => exact .inl rfl
  | true => exact .inr (by simp [fenced, hstores hperf])

theorem fenceDoes : FenceDoes := by
  rintro s t w ⟨h, hstores⟩
  obtain ⟨e, hissue, hcounts, hthread⟩ := issue_of_done_without_operand (eff := effFence) h (by decide) rfl
    (fenceEffect_of_fenced (s := withDev s (atIssue s t.val w)) w hstores)
  exact ⟨_, congrArg Host.Outcome.next hissue, hthread, (congrArg Beam.icache hcounts.beam).trans (issuesOnly_atIssue h).icache⟩

theorem syncfDoes : SyncfDoes := by
  rintro s t w ⟨h, hstores⟩
  have hfence := fenceEffect_of_fenced (s := withDev s (atIssue s t.val w)) w hstores
  have hcache := (issuesOnly_atIssue h).icache
  cases hperf : perfMode (atIssue s t.val w) t.val with
  | false =>
    have heff : effSyncf (withDev s (atIssue s t.val w)) t.val w = .done (withDev s (atIssue s t.val w)) none := by
      simp only [effSyncf, syncfEffect, hfence, withDev_dev, hperf, Bool.false_eq_true, if_false]
    obtain ⟨e, hissue, hcounts, hthread⟩ := issue_of_done_without_operand h (by decide) rfl heff
    refine ⟨_, congrArg Host.Outcome.next hissue, hthread, ?_⟩
    exact (congrArg Beam.icache hcounts.beam).trans hcache
  | true =>
    have heff : effSyncf (withDev s (atIssue s t.val w)) t.val w = .done (withDev s { atIssue s t.val w with
        beam.icache := (atIssue s t.val w).beam.icache.filter (fun k => decide (k / 2 ^ 16 ≠ t.val / 4)) }) none := by
      simp only [effSyncf, syncfEffect, hfence, withDev_dev, hperf, if_true, withDev_withDev]
    obtain ⟨e, hissue, hcounts, hthread⟩ := issue_of_done_without_operand h (by decide) rfl heff
    refine ⟨_, congrArg Host.Outcome.next hissue, hthread, ?_⟩
    exact (congrArg Beam.icache hcounts.beam).trans (congrArg (List.filter _) hcache)

/-- FARB on an operand that has its value (R363, R368). -/
theorem farbEffect_eq {s : State} {t : Nat} {w : Be32Op} {v : Word}
    (hv : if w.mode = 0 then v = w.operand.zeroExtend 32 else operand s.dev t w = .val v) :
    farbEffect s t w = .done (withThread s t (fun x => { x with farBase := v.toNat % 2 ^ 21 * 0x80000 })) none := by
  unfold farbEffect
  dsimp only
  split at hv
  · next hmode =>
    rw [if_pos hmode, hv]
    rfl
  · next hmode =>
    rw [if_neg hmode, withOperand, hv]

theorem farbDoes : FarbDoes := by
  rintro s t w v ⟨h, hv⟩
  obtain ⟨e, hissue, -, hthread⟩ := issue_of_done_without_operand (eff := effFarb) h (by decide) rfl
    (farbEffect_eq (s := withDev s (atIssue s t.val w)) hv)
  refine ⟨_, congrArg Host.Outcome.next hissue, hthread.trans ?_⟩
  rw [withThread, withDev_dev, threadOf_updThread]
  rfl

/-- CINV and CINVA: a housekeeping thread's data cache with some lines dropped; in deterministic mode nothing (R383). -/
theorem dcache_of_done {eff : Effect} {op : Nat} {t : Fin 384} {w : Be32Op} {s : State} (h : Issues op s t.val w) (hne : op ≠ 0x10)
    (hop : opHasOperand op = false) {drop : SMap (List Byte) → SMap (List Byte)}
    (hperf : perfMode (atIssue s t.val w) t.val = true → eff (withDev s (atIssue s t.val w)) t.val w =
      .done (withDev s { atIssue s t.val w with beam.dcache := drop (atIssue s t.val w).beam.dcache }) none)
    (hdet : perfMode (atIssue s t.val w) t.val = false →
      eff (withDev s (atIssue s t.val w)) t.val w = .done (withDev s (atIssue s t.val w)) none) :
    threadOf (issue eff op t.val w s).dev t.val = retired (threadAt s t.val w) (threadAt s t.val w) (opWrites op) none ∧
      (issue eff op t.val w s).dev.beam.dcache =
        if perfMode (atIssue s t.val w) t.val then drop s.dev.beam.dcache else s.dev.beam.dcache := by
  have hcache := (issuesOnly_atIssue h).dcache
  cases hmode : perfMode (atIssue s t.val w) t.val with
  | true =>
    obtain ⟨e, hissue, hcounts, hthread⟩ := issue_of_done_without_operand h hne hop (hperf hmode)
    rw [hissue]
    exact ⟨hthread, (congrArg Beam.dcache hcounts.beam).trans (congrArg drop hcache)⟩
  | false =>
    obtain ⟨e, hissue, hcounts, hthread⟩ := issue_of_done_without_operand h hne hop (hdet hmode)
    rw [hissue]
    exact ⟨hthread, (congrArg Beam.dcache hcounts.beam).trans hcache⟩

theorem cinvDoes : CinvDoes := by
  intro s t w h
  refine ⟨_, rfl, dcache_of_done h (by decide) rfl (drop := fun m =>
    mapErase m (cacheKey t.val (((threadAt s t.val w).farBase + w.operand.toNat) % 2 ^ 40))) (fun hperf => ?_) (fun hdet => ?_)⟩
  · exact if_pos hperf
  · exact if_neg (ne_true_of_eq_false hdet)

theorem cinvaDoes : CinvaDoes := by
  intro s t w h
  refine ⟨_, rfl, dcache_of_done h (by decide) rfl (drop := fun m =>
    m.filter (fun e => decide (e.1 / 2 ^ 34 ≠ t.val / 4))) (fun hperf => ?_) (fun hdet => ?_)⟩
  · exact if_pos hperf
  · exact if_neg (ne_true_of_eq_false hdet)

/-- The entry that a thread x posts. -/
def postOf (t : Nat) (x : Thread) (entry : Option Nat × Nat) : Post :=
  { thread := t, prog := x.prog, need := x.farStores, channel := entry.1, value := entry.2 }

/-- A device with an entry last in the post queue of a thread's engine. -/
def posted (d : Dev) (t : Nat) (p : Post) : Dev :=
  { d with beam.posts := mapPut d.beam.posts (t / 4) (postsOf d (t / 4) ++ [p]) }

theorem postEffect_of_room {s : State} {t : Nat} (hroom : (postsOf s.dev (t / 4)).length < 4) (entry : Thread → Be32Op → Option Nat × Nat)
    (w : Be32Op) : postEffect entry s t w = .done (withDev s (updThread
      (posted s.dev t (postOf t (threadOf s.dev t) (entry (threadOf s.dev t) w))) t (fun x => { x with c := true }))) none := by
  simp only [postEffect, hroom, decide_true, if_true]
  rfl

theorem postEffect_of_full {s : State} {t : Nat} (hfull : ¬ (postsOf s.dev (t / 4)).length < 4) (entry : Thread → Be32Op → Option Nat × Nat)
    (w : Be32Op) : postEffect entry s t w = .done (withDev s (updThread s.dev t (fun x => { x with c := false }))) none := by
  simp only [postEffect, hfull, decide_false, Bool.false_eq_true, if_false]

/-- RING and DMAQ: the entry that fits is last in its engine's queue of four, and C says whether it fitted (R380, R381). -/
theorem posts_of_postEffect {op t : Nat} {w : Be32Op} {s : State} (h : Issues op s t w) (hne : op ≠ 0x10) (hop : opHasOperand op = false)
    (entry : Thread → Be32Op → Option Nat × Nat) :
    threadOf (issue (postEffect entry) op t w s).dev t = retired (threadAt s t w)
        { threadAt s t w with c := decide ((mapGet (atIssue s t w).beam.posts (t / 4) []).length < 4) } (opWrites op) none ∧
      mapGet (issue (postEffect entry) op t w s).dev.beam.posts (t / 4) [] =
        if (mapGet (atIssue s t w).beam.posts (t / 4) []).length < 4 then mapGet (atIssue s t w).beam.posts (t / 4) [] ++
          [{ thread := t, prog := (threadAt s t w).prog, need := (threadAt s t w).farStores, channel := (entry (threadAt s t w) w).1,
             value := (entry (threadAt s t w) w).2 }]
        else mapGet (atIssue s t w).beam.posts (t / 4) [] := by
  by_cases hroom : (mapGet (atIssue s t w).beam.posts (t / 4) []).length < 4
  · obtain ⟨e, hissue, hcounts, hthread⟩ := issue_of_done_without_operand h hne hop
      (postEffect_of_room (s := withDev s (atIssue s t w)) hroom entry w)
    rw [hissue, withDev_dev, hthread, hcounts.beam, if_pos hroom, decide_eq_true hroom, withDev_dev, threadOf_updThread]
    exact ⟨rfl, mapGet_mapPut_same _ _ _ _⟩
  · obtain ⟨e, hissue, hcounts, hthread⟩ := issue_of_done_without_operand h hne hop
      (postEffect_of_full (s := withDev s (atIssue s t w)) hroom entry w)
    rw [hissue, withDev_dev, hthread, hcounts.beam, if_neg hroom, decide_eq_false hroom, withDev_dev, threadOf_updThread]
    exact ⟨rfl, rfl⟩

theorem ringDoes : RingDoes := fun _ _ _ h => ⟨_, rfl, posts_of_postEffect h (by decide) rfl _⟩

theorem dmaqDoes : DmaqDoes := fun _ _ _ h => ⟨_, rfl, posts_of_postEffect h (by decide) rfl _⟩

/-- Settles O25, clause by clause: waits and claims, the fences of a thread whose stores are answered, the caches and the post queue. -/
theorem beamWaitsAndCaches : Obligations.BeamWaitsAndCaches :=
  ⟨waitposDoes, waitevDoes, waitevWaitsDoes, eoiDoes, fenceDoes, syncfDoes, farbDoes, cinvDoes, cinvaDoes, ringDoes, dmaqDoes⟩

end Sys2Proof.Machine
end

section
/-!
Stores through the far window while DRAM serves no request (R477): they wait, and so are not in memory when they issue.
-/
namespace Sys2Proof.Machine

/-- An instruction whose operand or effect has to wait leaves its thread waiting for it (R360, R369). -/
theorem state_issue_of_wait {eff : Effect} {op t : Nat} {w : Be32Op} {s u : State} (h : Issues op s t w) (hne : op ≠ 0x10)
    (hwait : eff (withDev s (readOperand (atIssue s t w) t op w)) t w = .wait u) :
    (threadOf (issue eff op t w s).dev t).state = .stalled op 0 w.mode.val w.operand.toNat := by
  rw [issue_of_issues h (awaitsL_of_ne hne _ t)]
  simp only [runEffect, withDev_dev, withDev_withDev, hwait, stall, withThread, threadOf_updThread]
  rfl

theorem retired_state (x y : Thread) (wrote : Option Nat) (load : Option (Nat × Word)) : (retired x y wrote load).state = .running := by
  obtain ⟨a, b, c, h⟩ := landLoad_cases { y with state := .running, pc := x.pc + 4, delayed := load, arrived := none, timedAt := none } x.delayed wrote
  exact (congrArg Thread.state h :)

theorem farStore_of_dram_stopped {s : State} {t a : Nat} (hkind : farKind s.dev t a = 0) (hstopped : dramServes s.dev = false) (bs : List Byte) :
    farStore s t a bs = .wait s := by
  simp only [farStore, hkind, hstopped, and_self, if_true]

theorem storeEffect_of_far {w : Be32Op} (hmode : w.mode = 7) (n : Nat) (f : Thread → Word) (s : State) (t : Nat) :
    storeEffect n f s t w = farStore s t (farAddr s.dev t w n) (leBytes n (f (threadOf s.dev t)).toNat) := by
  simp only [storeEffect, hmode]
  rfl

/-- ST.A through the far window to DRAM that serves no request waits (R477). -/
theorem state_stA_of_dram_stopped {s : State} {t : Fin 384} {w : Be32Op} (h : Issues 0x06 s t.val w) (hmode : w.mode = 7)
    (hkind : farKind (atIssue s t.val w) t.val (farAddr (atIssue s t.val w) t.val w 4) = 0) (hstopped : dramServes (atIssue s t.val w) = false) :
    (threadOf (issue effStA 0x06 t.val w s).dev t.val).state = .stalled 0x06 0 w.mode.val w.operand.toNat := by
  have hview : ¬ ViewMode w := by simp [ViewMode, hmode]
  have hread : readOperand (atIssue s t.val w) t.val 0x06 w = atIssue s t.val w := by
    simp [readOperand, operandReads_of_not_viewMode hview]
  have hwait : effStA (withDev s (readOperand (atIssue s t.val w) t.val 0x06 w)) t.val w = .wait (withDev s (atIssue s t.val w)) := by
    rw [hread, effStA, storeEffect_of_far hmode]
    rw [farStore_of_dram_stopped]
    · rw [withDev_dev]
      exact hkind
    · rw [withDev_dev]
      exact hstopped
  exact state_issue_of_wait h (by decide) hwait

/-- Thread 0 runs a housekeeping program in cluster bank 0, with its first line cached, and its far window is at segment 1 of DRAM, whose
initialisation is not over. -/
def farStoreState : State :=
  withDev State.reset { updThread Dev.reset 0 (fun x =>
    { x with state := .running, house := true, bank := 4, code := 0x1000000000, farBase := 0x8000000 }) with beam.icache := [0] }

/-- The first word of the far window. -/
def farWord : Be32Op := { cond := 0, mode := 7, operand := 0 }

theorem whenStAFar_farStoreState : WhenStAFar farStoreState 0 0 farWord := by
  decide

/-- Refutes O24: the conditions of StAFarDoes admit DRAM that serves no request (the hypothesis that dramServes answers true, where the
address lies in DRAM, is missing). In `farStoreState` ST.A waits (R477), where the statement wants it issued and its octets in memory. -/
theorem not_beamFarAndPort : ¬ Obligations.BeamFarAndPort := by
  unfold Obligations.BeamFarAndPort
  rintro ⟨hfar, -⟩
  obtain ⟨u, hexec, -, hretired⟩ := hfar farStoreState 0 0 farWord whenStAFar_farStoreState
  obtain rfl := Host.Outcome.next.inj hexec
  have hwaits := state_stA_of_dram_stopped whenStAFar_farStoreState.1 rfl (by decide) (by decide)
  rw [hretired, retired_state] at hwaits
  exact absurd hwaits (by decide)

end Sys2Proof.Machine
end

section
/-!
Loads of a cluster bank's word through the far window that find it uncorrectable (R350, R483).
-/
namespace Sys2Proof.Machine

/-- The data of a far-window load from a cluster bank that are uncorrectable fault the thread (R350, R483). -/
theorem arriveFar_of_badWord {s : State} {t a n : Nat} (hkind : farKind s.dev t a = 1) (hbad : (bankWordsBad s.dev a n).isEmpty = false) :
    arriveFar s t a n = withDev s (faultThread (readRange s.dev a n 4) t 5) := by
  simp only [arriveFar, hkind, hbad, Bool.false_eq_true, if_false]

/-- The data of a load that waits as LoadDataArrivalDoes says arrive from its far-window address (R326, R369). -/
theorem doLoadDataArrival_of_when {s : State} {t : Fin 384} {k : Fin 3} {o a : Nat} (hw : WhenLoadDataArrival s t k o a) :
    doLoadDataArrival t s = arriveFar s t.val a 4 := by
  obtain ⟨⟨hstate, hclock, hperf, ha, -, -, -, hcached⟩, -⟩ := hw
  have hloads : ∀ k : Fin 3, opStores (1 + k.val) = false ∧ accessWidth (1 + k.val) = 4 := by decide
  have haddr : farAddr s.dev t.val { cond := Fin.ofNat 16 0, mode := Fin.ofNat 8 7, operand := BitVec.ofNat 19 o } 4 = a := by
    rw [ha, farAddr, BitVec.toNat_ofNat, alignTo]
  simp only [doLoadDataArrival, hstate, (hloads k).1, (hloads k).2, hperf, hcached, hclock, haddr]
  rfl

/-- Thread 0 of a housekeeping program in cluster bank 0, with its first line cached, waits for LD.A of the word 256 octets further in the
bank, which is uncorrectable. -/
def badWordState : State :=
  withDev State.reset { updThread Dev.reset 0 (fun x =>
    { x with state := .stalled 1 0 7 0x100, house := true, bank := 4, code := 0x1000000000, farBase := 0x1000000000 }) with
      beam.icache := [0]
      dram.badWords := [0x1000000100 / 8] }

theorem whenLoadDataArrival_badWordState : WhenLoadDataArrival badWordState 0 0 0x100 0x1000000100 := by
  decide

/-- Refutes O26: the conditions of LoadDataArrivalDoes admit a word of a cluster bank that is uncorrectable (the hypothesis that
bankWordsBad finds none is missing). In `badWordState` the thread faults (R350), where the statement wants its load to complete. -/
theorem not_beamWaitsEnd : ¬ Obligations.BeamWaitsEnd := by
  unfold Obligations.BeamWaitsEnd
  rintro ⟨-, -, hload, -⟩
  obtain ⟨u, hexec, ⟨hrunning, -⟩, -⟩ := hload badWordState 0 0 0x100 0x1000000100 whenLoadDataArrival_badWordState
  obtain rfl := Host.Outcome.next.inj hexec
  rw [doLoadDataArrival_of_when whenLoadDataArrival_badWordState, arriveFar_of_badWord (by decide) (by decide), withDev_dev,
    state_faultThread] at hrunning
  exact absurd hrunning (by decide)

end Sys2Proof.Machine
end

section
/-!
A timed store that waits for room in a queue, whose word in the view has been overwritten since it issued (R347, R360).
-/
namespace Sys2Proof.Machine

/-- A state in which a thread that waits tries its instruction again. -/
def retried (s : State) (t : Nat) : State := withThread s t (fun x => { x with state := .running })

/-- A queue with room lets the one thread that waits for it try its ST.T again (R347). -/
theorem doBeamPortQueueFree_of_awaitsQueue {s : State} {isl : Fin 105} {t : Fin 384} {o : Nat} (hroom : (timedOf s.dev isl.val).length < 64)
    (hwaits : AwaitsQueue s t.val o) : doBeamPortQueueFree isl s =
      issue effStT 0x0B t.val { cond := 0, mode := 6, operand := BitVec.ofNat 19 o } (retried s t.val) := by
  obtain ⟨hwaiters, hstate, hclock, -⟩ := hwaits
  simp only [doBeamPortQueueFree, hroom, if_true, hwaiters, List.foldl_cons, List.foldl_nil, retry, hstate, hclock]
  rfl

/-- Thread 0 runs a raster program of head 0 with a view of one granule, and its ST.T through the beam port waits. The word at its PC,
0x09C00000, has the opcode 0x27, which is undefined (R368). -/
def overwrittenState : State :=
  withDev State.reset { updThread Dev.reset 0 (fun x => { x with state := .stalled 0x0B 0 6 0, head := 0, footprint := 4, view := [0] }) with
    beam.scratch := [(2, 0xC0), (3, 0x09)] }

theorem whenBeamPortQueueFreeDropped_overwrittenState : WhenBeamPortQueueFreeDropped overwrittenState 44 0 0 := by
  decide

/-- Refutes O27: the conditions of BeamPortQueueFreeDroppedDoes admit a word at the thread's PC that has an undefined opcode (the hypothesis
that `illegal` answers false is missing). In `overwrittenState` the thread faults (R350, R360), where the statement wants it to go on. -/
theorem not_beamQueuesAndClaims : ¬ Obligations.BeamQueuesAndClaims := by
  unfold Obligations.BeamQueuesAndClaims
  rintro ⟨-, -, -, -, -, -, -, -, -, hdropped⟩
  obtain ⟨u, hexec, hrunning, -⟩ := hdropped overwrittenState 44 0 0 whenBeamPortQueueFreeDropped_overwrittenState
  obtain rfl := Host.Outcome.next.inj hexec
  obtain ⟨hroom, hwaits, -⟩ := whenBeamPortQueueFreeDropped_overwrittenState
  rw [doBeamPortQueueFree_of_awaitsQueue hroom hwaits,
    issue_of_illegal (by decide) (by decide) (by decide) (by decide) (by decide), withDev_dev, state_faultThread] at hrunning
  exact absurd hrunning (by decide)

end Sys2Proof.Machine
end

section
/-!
Words of BE32 instructions (R359, R360, R368): the fields of a word, and the table of opcodes as decoder and encoder read it.
-/
namespace Sys2Proof.Machine

/-- The fields of a word lie side by side from bit 31 down (R359). -/
theorem be32Word_toNat (op : BitVec 6) (w : Be32Op) :
    (be32Word op w).toNat = w.cond.val * 2 ^ 28 + op.toNat * 2 ^ 22 + w.mode.val * 2 ^ 19 + w.operand.toNat := by
  have hcond := w.cond.isLt
  have hmode := w.mode.isLt
  simp only [be32Word, BitVec.toNat_append, BitVec.toNat_ofNat]
  rw [← Nat.shiftLeft_add_eq_or_of_lt w.operand.isLt, ← Nat.shiftLeft_add_eq_or_of_lt (by omega), ← Nat.shiftLeft_add_eq_or_of_lt op.isLt]
  simp only [Nat.shiftLeft_eq]
  omega

theorem be32Opcode_eq (v : Word) : be32Opcode v = v.toNat / 2 ^ 22 % 2 ^ 6 := by
  simp [be32Opcode, BitVec.extractLsb'_toNat, Nat.shiftRight_eq_div_pow]

theorem be32Opcode_lt (v : Word) : be32Opcode v < 64 := (v.extractLsb' 22 6).isLt

theorem be32Fields_cond (v : Word) : (be32Fields v).cond.val = v.toNat / 2 ^ 28 % 2 ^ 4 := by
  simp [be32Fields, Nat.shiftRight_eq_div_pow]

theorem be32Fields_mode (v : Word) : (be32Fields v).mode.val = v.toNat / 2 ^ 19 % 2 ^ 3 := by
  simp [be32Fields, Nat.shiftRight_eq_div_pow]

theorem be32Fields_operand (v : Word) : (be32Fields v).operand.toNat = v.toNat % 2 ^ 19 := by
  simp [be32Fields, BitVec.extractLsb'_toNat]

theorem be32Opcode_be32Word (op : BitVec 6) (w : Be32Op) : be32Opcode (be32Word op w) = op.toNat := by
  have hop := op.isLt
  have hmode := w.mode.isLt
  have hoperand := w.operand.isLt
  rw [be32Opcode_eq, be32Word_toNat]
  omega

theorem be32Fields_be32Word (op : BitVec 6) (w : Be32Op) : be32Fields (be32Word op w) = w := by
  have hcond := w.cond.isLt
  have hop := op.isLt
  have hmode := w.mode.isLt
  have hoperand := w.operand.isLt
  refine (Be32Op.mk.injEq ..).mpr ⟨Fin.ext ((be32Fields_cond _).trans ?_), Fin.ext ((be32Fields_mode _).trans ?_),
    BitVec.eq_of_toNat_eq ((be32Fields_operand _).trans ?_)⟩
  all_goals
    rw [be32Word_toNat]
    omega

theorem be32Word_be32Fields (v : Word) : be32Word (BitVec.ofNat 6 (be32Opcode v)) (be32Fields v) = v := by
  apply BitVec.eq_of_toNat_eq
  have hv := v.isLt
  rw [be32Word_toNat, BitVec.toNat_ofNat, be32Opcode_eq, be32Fields_cond, be32Fields_mode, be32Fields_operand]
  omega

/-- The table's row for a word's opcode, with the word's other fields. -/
theorem decodeBe32_be32Word (t : Fin 384) (op : BitVec 6) (w : Be32Op) :
    decodeBe32 t (be32Word op w) = (be32Table.find? (fun e => decide (e.1 = op.toNat))).map (fun e => e.2 t w) := by
  rw [decodeBe32, be32Opcode_be32Word, be32Fields_be32Word]

/-- The encoder's row for each command is the table's. -/
theorem decodeBe32_of_encodeBe32 {i : Instr} {t : Fin 384} {v : Word} (h : encodeBe32 i = some (t, v)) : decodeBe32 t v = some i := by
  unfold encodeBe32 at h
  split at h
  case h_59 => cases h
  all_goals
    obtain ⟨rfl, rfl⟩ := Prod.mk.inj (Option.some.inj h)
    exact decodeBe32_be32Word _ _ _

/-- The table's row for each opcode is the encoder's. -/
theorem encodeBe32_of_mem_be32Table {e : Nat × (Fin 384 → Be32Op → Instr)} (he : e ∈ be32Table) (t : Fin 384) (w : Be32Op) :
    encodeBe32 (e.2 t w) = some (t, be32Word (BitVec.ofNat 6 e.1) w) := by
  fin_cases he <;> rfl

theorem encodeBe32_of_decodeBe32 {i : Instr} {t : Fin 384} {v : Word} (h : decodeBe32 t v = some i) : encodeBe32 i = some (t, v) := by
  obtain ⟨e, hfind, rfl⟩ := Option.map_eq_some_iff.mp h
  have hkey : e.1 = be32Opcode v := by simpa using List.find?_some hfind
  rw [encodeBe32_of_mem_be32Table (List.mem_of_find?_eq_some hfind), hkey, be32Word_be32Fields]

/-- The opcodes below 64 that the table leaves out. -/
theorem be32Table_find?_isNone : ∀ n : Fin 64,
    (be32Table.find? (fun e => decide (e.1 = n.val))).isNone = decide (n.val ∈ [0x27, 0x2E, 0x2F, 0x3D, 0x3E, 0x3F]) := by
  decide

theorem decodeBe32_eq_none_iff (t : Fin 384) (v : Word) :
    decodeBe32 t v = none ↔ be32Opcode v ∈ [0x27, 0x2E, 0x2F, 0x3D, 0x3E, 0x3F] := by
  rw [decodeBe32, Option.map_eq_none_iff, ← Option.isNone_iff_eq_none, be32Table_find?_isNone ⟨be32Opcode v, be32Opcode_lt v⟩,
    decide_eq_true_iff]

/-- Settles O17: a word is its four fields side by side, and the encoder's rows are those of the table by which words are decoded. -/
theorem be32WordsComeBack : Obligations.Be32WordsComeBack :=
  ⟨fun _ _ _ => decodeBe32_of_encodeBe32, fun _ _ _ => encodeBe32_of_decodeBe32, fun _ he => encodeBe32_of_mem_be32Table he,
    decodeBe32_eq_none_iff⟩

/-- Settles O18: each word is looked up in the table by its opcode. -/
theorem be32WordsDecode : Obligations.Be32WordsDecode := by
  unfold Obligations.Be32WordsDecode
  exact ⟨rfl, rfl, rfl, rfl, rfl⟩

end Sys2Proof.Machine
end

section
/-!
The results of the long operations (R372).
-/
namespace Sys2Proof.Machine

/-- MULQ keeps bits [47:16] of the product, since a floor of a quotient by 2^16 drops the 16 bits below them. -/
theorem mulqWord_eq_extractLsb' (a b : Word) : mulqWord a b = (a.signExtend 64 * b.signExtend 64).extractLsb' 16 32 := by
  have hproduct : a.signExtend 64 * b.signExtend 64 = BitVec.ofInt 64 (a.toInt * b.toInt) := (BitVec.ofInt_mul ..).symm
  rw [hproduct, mulqWord]
  apply BitVec.eq_of_toNat_eq
  simp only [BitVec.toNat_ofInt, BitVec.extractLsb'_toNat, Nat.shiftRight_eq_div_pow]
  omega

theorem satWord_toInt (i : Int) : (satWord i).toInt = clampInt (-2147483648) 2147483647 i := by
  have hrange : -2147483648 ≤ clampInt (-2147483648) 2147483647 i ∧ clampInt (-2147483648) 2147483647 i ≤ 2147483647 := by
    unfold clampInt
    split_ifs <;> omega
  exact BitVec.toInt_ofInt_eq_self (by decide) (by simpa using hrange.1) (by simp; omega)

/-- Of the quotients rounded toward zero only -2^31 / -1 has no signed word. -/
theorem tdiv_toInt_lt {a b : Word} (hb : b ≠ 0) (hcorner : ¬ (a = 0x80000000 ∧ b = 0xFFFFFFFF)) : a.toInt.tdiv b.toInt < 2147483648 := by
  have hlow : -2147483648 ≤ a.toInt := by simpa using a.le_toInt
  have hhigh : a.toInt < 2147483648 := by simpa using a.toInt_lt
  have habs : (a.toInt.tdiv b.toInt).natAbs = a.toInt.natAbs / b.toInt.natAbs := Int.natAbs_tdiv ..
  have hb0 : b.toInt ≠ 0 := fun h => hb (BitVec.toInt_inj.mp h)
  rcases eq_or_ne b.toInt (-1) with hneg | hneg
  · have ha : a.toInt ≠ -2147483648 := fun ha => hcorner ⟨BitVec.toInt_inj.mp ha, BitVec.toInt_inj.mp hneg⟩
    rw [hneg, Int.tdiv_neg, Int.tdiv_one]
    omega
  rcases eq_or_ne b.toInt 1 with hone | hone
  · rwa [hone, Int.tdiv_one]
  · have hhalf : a.toInt.natAbs / b.toInt.natAbs ≤ a.toInt.natAbs / 2 := Nat.div_le_div_left (by omega) (by decide)
    omega

theorem divWord_toInt {a b : Word} (hb : b ≠ 0) (hcorner : ¬ (a = 0x80000000 ∧ b = 0xFFFFFFFF)) :
    (divWord a b).toInt = a.toInt.tdiv b.toInt := by
  have hlt := tdiv_toInt_lt hb hcorner
  have hlow : -2147483648 ≤ a.toInt := by simpa using a.le_toInt
  have hhigh : a.toInt < 2147483648 := by simpa using a.toInt_lt
  have habs : (a.toInt.tdiv b.toInt).natAbs ≤ a.toInt.natAbs := by
    rw [Int.natAbs_tdiv]
    exact Nat.div_le_self _ _
  rw [divWord, if_neg hb, satWord_toInt, clampInt, if_neg (by omega), if_neg (by omega)]

theorem roundRat_neg (x : Rat) : roundRat (-x) = -roundRat x := by
  rcases lt_trichotomy x 0 with hx | rfl | hx
  · rw [roundRat_of_neg hx, roundRat_of_nonneg (by linarith), neg_neg]
  · simp
  · rw [roundRat_of_neg (by linarith : -x < 0), roundRat_of_nonneg hx.le, neg_neg]

/-- The reciprocal in Q16.16 rounds alike on both sides of zero. -/
theorem recipWord_toInt {b : Word} (hb : b ≠ 0) :
    (recipWord b).toInt = clampInt (-2147483648) 2147483647 (roundRat (4294967296 / (b.toInt : Rat))) := by
  have hb0 : b.toInt ≠ 0 := fun h => hb (BitVec.toInt_inj.mp h)
  rw [recipWord, if_neg hb, satWord_toInt]
  congr 1
  split
  · next hpos =>
    have hcast : ((b.toInt.toNat : Nat) : Rat) = (b.toInt : Rat) := by exact_mod_cast Int.toNat_of_nonneg hpos
    rw [roundDiv_eq_roundRat _ (by omega), hcast]
    norm_num
  · next hneg =>
    have hcast : (((-b.toInt).toNat : Nat) : Rat) = -(b.toInt : Rat) := by exact_mod_cast Int.toNat_of_nonneg (by omega : 0 ≤ -b.toInt)
    rw [roundDiv_eq_roundRat _ (by omega), hcast, ← roundRat_neg, div_neg, neg_neg]
    norm_num

/-- The search bit by bit ends at the root where it is less than 2^k above the start. -/
theorem rootFrom_eq_sqrt (n k r : Nat) (hlow : r * r ≤ n) (hhigh : n < (r + 2 ^ k) * (r + 2 ^ k)) : rootFrom n k r = n.sqrt := by
  induction k generalizing r with
  | zero => exact Nat.eq_sqrt.mpr ⟨hlow, hhigh⟩
  | succ k ih =>
    rw [pow_succ] at hhigh
    rw [rootFrom]
    split
    · next hbit => exact ih _ hbit (by rwa [add_assoc, ← mul_two])
    · next hbit => exact ih _ hlow (not_le.mp hbit)

theorem sqrtWord_toNat (b : Word) : (sqrtWord b).toNat =
    if (b.toNat * 65536).sqrt < b.toNat * 65536 - (b.toNat * 65536).sqrt * (b.toNat * 65536).sqrt then (b.toNat * 65536).sqrt + 1
    else (b.toNat * 65536).sqrt := by
  have hb := b.isLt
  have hroot : rootFrom (b.toNat * 65536) 25 0 = (b.toNat * 65536).sqrt := rootFrom_eq_sqrt _ _ _ (Nat.zero_le _) (by omega)
  have hsmall : (b.toNat * 65536).sqrt < 2 ^ 24 := Nat.sqrt_lt.mpr (by omega)
  rw [sqrtWord]
  rw [hroot, BitVec.toNat_ofNat, Nat.mod_eq_of_lt]
  split <;> omega

/-- The nearest integer to a root: no square of a half-integer lies between. -/
theorem sqrtWord_nearest (b : Word) :
    4 * (b.toNat * 65536) < (2 * (sqrtWord b).toNat + 1) ^ 2 ∧ (2 * (sqrtWord b).toNat - 1) ^ 2 ≤ 4 * (b.toNat * 65536) := by
  rw [sqrtWord_toNat]
  generalize b.toNat * 65536 = n
  have hlow := Nat.sqrt_le n
  have hhigh := Nat.lt_succ_sqrt n
  generalize n.sqrt = r at hlow hhigh
  split
  · next hup =>
    rw [show 2 * (r + 1) - 1 = 2 * r + 1 by omega]
    constructor <;> nlinarith [Nat.sub_add_cancel hlow]
  · next hdown =>
    have hsquare : (2 * r - 1) ^ 2 ≤ (2 * r) ^ 2 := Nat.pow_le_pow_left (Nat.sub_le _ _) 2
    constructor <;> nlinarith [Nat.sub_add_cancel hlow]

/-- Settles O16, operation by operation. -/
theorem longOperationResults : Obligations.LongOperationResults :=
  ⟨mulqWord_eq_extractLsb', fun _ _ => divWord_toInt, fun _ => rfl, by decide, fun _ => recipWord_toInt, rfl, sqrtWord_nearest⟩

end Sys2Proof.Machine
end

section
/-!
Sums, comparisons, logic, shifts and extremes (R357, R363, R370): clauses of O21.
-/
namespace Sys2Proof.Machine

/-- An operand that has its value has it after what it reads is corrected and counted (R483). -/
theorem readOperand_of_operand {d : Dev} {t op : Nat} {w : Be32Op} {v : Word} (hwidth : accessWidth op = 4)
    (hv : operand d t w = .val v) : CountsOnly d (readOperand d t op w) ∧ operand (readOperand d t op w) t w = .val v := by
  have hview : ViewMode w → w.mode ≠ 0 := fun hmode hzero => by simp [ViewMode, hzero] at hmode
  have hload : w.mode ≠ 0 → loadOperand d t w 4 = .val v := fun hmode => by simpa [operand, hmode] using hv
  obtain ⟨hread, hsame⟩ := readOperand_of_load hwidth fun hmode => hload (hview hmode)
  refine ⟨hread, ?_⟩
  rw [← hv]
  simp only [operand, hsame]

/-- An operation on registers, flags and the operand's value. -/
theorem threadOf_issue_opEffect {op t : Nat} {w : Be32Op} {s : State} (h : Issues op s t w) (hop : op ≠ 0x10) (hwidth : accessWidth op = 4)
    {v : Word} (hv : operand (atIssue s t w) t w = .val v) (f : Thread → Word → Thread) :
    threadOf (issue (opEffect f) op t w s).dev t = retired (threadAt s t w) (f (threadAt s t w) v) (opWrites op) none := by
  obtain ⟨hread, hval⟩ := readOperand_of_operand hwidth hv
  rw [threadOf_issue_of_done h (awaitsL_of_ne hop _ t) hread (by simp only [opEffect, withOperand, withDev_dev, hval]; rfl)]
  rw [withThread, withDev_dev, threadOf_updThread]
  exact congrArg (fun x => retired (threadAt s t w) (f x v) (opWrites op) none) (hread.threadOf t)

theorem addWord_eq (a b : Word) (cin : Bool) : addWord a b cin = a + b + if cin then 1 else 0 := by
  cases cin <;> simp [addWord, BitVec.ofNat_add]

theorem subWord_eq (a b : Word) (bin : Bool) : subWord a b bin = a - b - if bin then 1 else 0 := by
  apply BitVec.eq_of_toNat_eq
  cases bin <;> simp [subWord, BitVec.toNat_ofInt, BitVec.toNat_sub] <;> omega

theorem addWord_false (a b : Word) : addWord a b false = a + b := by simp [addWord_eq]

theorem subWord_false (a b : Word) : subWord a b false = a - b := by simp [subWord_eq]

theorem flagsAdd_false (x : Thread) (a b : Word) : flagsAdd x a b false =
    { flagsNZ x (a + b) with c := decide (2 ^ 32 ≤ a.toNat + b.toNat), v := !fits32 (a.toInt + b.toInt) } := by
  simp [flagsAdd, addWord_false]

theorem flagsSub_false (x : Thread) (a b : Word) : flagsSub x a b false =
    { flagsNZ x (a - b) with c := decide (b.toNat ≤ a.toNat), v := !fits32 (a.toInt - b.toInt) } := by
  simp [flagsSub, subWord_false]

/-- A carry that is clear is a borrow (R370). -/
theorem subWord_not (a b : Word) (c : Bool) : subWord a b (!c) = a - b - if c then 0 else 1 := by
  cases c <;> simp [subWord_eq]

theorem addDoes : AddDoes := fun _ _ _ _ ⟨h, hv⟩ =>
  ⟨_, rfl, (threadOf_issue_opEffect h (by decide) rfl hv _).trans (by simp only [flagsAdd_false, addWord_false]; rfl)⟩
theorem addCDoes : AddCDoes := fun _ _ _ _ ⟨h, hv⟩ =>
  ⟨_, rfl, (threadOf_issue_opEffect h (by decide) rfl hv _).trans (by simp only [flagsAdd, addWord_eq]; rfl)⟩
theorem subDoes : SubDoes := fun _ _ _ _ ⟨h, hv⟩ =>
  ⟨_, rfl, (threadOf_issue_opEffect h (by decide) rfl hv _).trans (by simp only [flagsSub_false, subWord_false]; rfl)⟩
theorem subCDoes : SubCDoes := fun _ _ _ _ ⟨h, hv⟩ =>
  ⟨_, rfl, (threadOf_issue_opEffect h (by decide) rfl hv _).trans (by simp only [flagsSub, subWord_not]; rfl)⟩
theorem rsbDoes : RsbDoes := fun _ _ _ _ ⟨h, hv⟩ =>
  ⟨_, rfl, (threadOf_issue_opEffect h (by decide) rfl hv _).trans (by simp only [flagsSub_false, subWord_false]; rfl)⟩
theorem cmpDoes : CmpDoes := fun _ _ _ _ ⟨h, hv⟩ =>
  ⟨_, rfl, (threadOf_issue_opEffect h (by decide) rfl hv _).trans (by rw [flagsSub_false]; rfl)⟩
theorem cmpXDoes : CmpXDoes := fun _ _ _ _ ⟨h, hv⟩ =>
  ⟨_, rfl, (threadOf_issue_opEffect h (by decide) rfl hv _).trans (by rw [flagsSub_false]; rfl)⟩
theorem cmpYDoes : CmpYDoes := fun _ _ _ _ ⟨h, hv⟩ =>
  ⟨_, rfl, (threadOf_issue_opEffect h (by decide) rfl hv _).trans (by rw [flagsSub_false]; rfl)⟩

theorem andDoes : AndDoes := fun _ _ _ _ ⟨h, hv⟩ => ⟨_, rfl, threadOf_issue_opEffect h (by decide) rfl hv _⟩
theorem orDoes : OrDoes := fun _ _ _ _ ⟨h, hv⟩ => ⟨_, rfl, threadOf_issue_opEffect h (by decide) rfl hv _⟩
theorem xorDoes : XorDoes := fun _ _ _ _ ⟨h, hv⟩ => ⟨_, rfl, threadOf_issue_opEffect h (by decide) rfl hv _⟩
theorem tstDoes : TstDoes := fun _ _ _ _ ⟨h, hv⟩ => ⟨_, rfl, threadOf_issue_opEffect h (by decide) rfl hv _⟩
theorem shlDoes : ShlDoes := fun _ _ _ _ ⟨h, hv⟩ => ⟨_, rfl, threadOf_issue_opEffect h (by decide) rfl hv _⟩
theorem shrDoes : ShrDoes := fun _ _ _ _ ⟨h, hv⟩ => ⟨_, rfl, threadOf_issue_opEffect h (by decide) rfl hv _⟩
theorem sarDoes : SarDoes := fun _ _ _ _ ⟨h, hv⟩ => ⟨_, rfl, threadOf_issue_opEffect h (by decide) rfl hv _⟩
theorem minDoes : MinDoes := fun _ _ _ _ ⟨h, hv⟩ => ⟨_, rfl, threadOf_issue_opEffect h (by decide) rfl hv _⟩
theorem maxDoes : MaxDoes := fun _ _ _ _ ⟨h, hv⟩ => ⟨_, rfl, threadOf_issue_opEffect h (by decide) rfl hv _⟩
theorem addXDoes : AddXDoes := fun _ _ _ _ ⟨h, hv⟩ => ⟨_, rfl, threadOf_issue_opEffect h (by decide) rfl hv _⟩
theorem addYDoes : AddYDoes := fun _ _ _ _ ⟨h, hv⟩ => ⟨_, rfl, threadOf_issue_opEffect h (by decide) rfl hv _⟩

/-- Settles O21, clause by clause: register and flags that each operation leaves of an operand that is there. -/
theorem beamArithmetic : Obligations.BeamArithmetic :=
  ⟨addDoes, addCDoes, subDoes, subCDoes, rsbDoes, andDoes, orDoes, xorDoes, cmpDoes, cmpXDoes, cmpYDoes, tstDoes, shlDoes, shrDoes, sarDoes,
    minDoes, maxDoes, addXDoes, addYDoes⟩

end Sys2Proof.Machine
end

section
/-!
Frames (O49 and its like): what may change beside what raising an event changes, and a device that differs from another within a frame.
Raising, tracing, counting and latching a snapshot (R610 to R626, R724 to R732) are within every frame.
-/
namespace Sys2Proof.Machine

/-- What a command may change: parts, and members by class or by class and number, with what raising an event changes added to both. -/
structure Reach where
  parts : List Part
  classes : List Nat
  members : List Ref
  counts : classes.contains 0x70 = true

namespace Reach

/-- The parts that may change. -/
def allParts (R : Reach) : List Part := raiseParts ++ R.parts

/-- The members that may change, each for all of its class and number. -/
def allMembers (R : Reach) : List Ref := raiseMembers ++ R.members

/-- Whether members of a class and number may change. -/
def admits (R : Reach) (c m : Nat) : Bool :=
  R.classes.contains c || R.allMembers.any (fun k => decide (refClass k = c) && decide (refMember k = m))

/-- Whether a frame allows all that another does. -/
def sub (R G : Reach) : Bool :=
  R.parts.all G.parts.contains && R.classes.all G.classes.contains && R.members.all (fun k => G.admits (refClass k) (refMember k))

variable {R G : Reach}

theorem admits_obs (R : Reach) (m : Nat) : R.admits 0x70 m = true := by
  rw [admits, R.counts, Bool.true_or]

/-- The members that raising an event writes (R610 to R631). -/
theorem admits_raise {c m : Nat} (h : raiseMembers.any (fun k => decide (refClass k = c) && decide (refMember k = m)) = true) :
    R.admits c m = true := by
  simp only [admits, allMembers, List.any_append, h, Bool.true_or, Bool.or_true]

theorem allParts_mono (h : R.sub G = true) {p : Part} (hp : R.allParts.contains p = true) : G.allParts.contains p = true := by
  simp only [sub, Bool.and_eq_true, List.all_eq_true] at h
  simp only [allParts, List.contains_append, Bool.or_eq_true] at hp ⊢
  exact hp.imp_right fun hp => h.1.1 p (List.contains_iff_mem.mp hp)

theorem admits_mono (h : R.sub G = true) {c m : Nat} (hm : R.admits c m = true) : G.admits c m = true := by
  simp only [sub, Bool.and_eq_true, List.all_eq_true] at h
  obtain ⟨⟨-, hclasses⟩, hmembers⟩ := h
  rw [admits, Bool.or_eq_true] at hm
  rcases hm with hm | hm
  · rw [admits, hclasses c (List.contains_iff_mem.mp hm), Bool.true_or]
  · obtain ⟨k, hk, heq⟩ := List.any_eq_true.mp hm
    simp only [Bool.and_eq_true, decide_eq_true_eq] at heq
    obtain ⟨rfl, rfl⟩ := heq
    rcases List.mem_append.mp hk with hk | hk
    · exact admits_raise (List.any_eq_true.mpr ⟨k, hk, by simp⟩)
    · exact hmembers k hk

end Reach

/-- Two devices that agree on a part. -/
def SamePart (d e : Dev) (p : Part) : Prop := samePart (withDev State.reset d) (withDev State.reset e) p

/-- A device e with one part of f, but for the scene. -/
def takePart (e f : Dev) : Part → Dev
  | .dirty => { e with dirty := f.dirty }
  | .free => { e with free := f.free }
  | .timers => { e with timers := f.timers }
  | .events => { e with events := f.events }
  | .obs => { e with obs := f.obs }
  | .noap => { e with noap := f.noap }
  | .islands => { e with islands := f.islands }
  | .time => { e with time := f.time }
  | .heads => { e with heads := f.heads }
  | .dram => { e with dram := f.dram }
  | .stoker => { e with stoker := f.stoker }
  | .pipes => { e with pipes := f.pipes }
  | .lanes => { e with lanes := f.lanes }
  | .wear => { e with wear := f.wear }
  | .movers => { e with movers := f.movers }
  | .threads => { e with beam.threads := f.beam.threads }
  | .bells => { e with beam.bells := f.beam.bells }
  | .scratch => { e with beam.scratch := f.beam.scratch }
  | .dcache => { e with beam.dcache := f.beam.dcache }
  | .icache => { e with beam.icache := f.beam.icache }
  | .posts => { e with beam.posts := f.beam.posts }
  | _ => e

theorem objs_takePart (e f : Dev) (p : Part) : (takePart e f p).objs = e.objs := by cases p <;> rfl

theorem alloc_takePart (e f : Dev) (p : Part) : (takePart e f p).scene.alloc = e.scene.alloc := by cases p <;> rfl

theorem samePart_takePart (e f : Dev) {p q : Part} (hq : q ≠ p) : SamePart e (takePart e f p) q := by
  cases p <;> cases q <;> trivial

/-- A device e that differs from d within a frame, and has objects of scene classes only if d has. -/
structure Within (R : Reach) (d e : Dev) : Prop where
  part : ∀ p, R.allParts.contains p = false → SamePart d e p
  member : ∀ r, R.admits (r / 16777216) (refMember r) = false → mGet e r = mGet d r
  keys : SceneKeys d.scene.alloc → SceneKeys e.scene.alloc

namespace Within

variable {R G : Reach} {d e f : Dev}

theorem refl (d : Dev) : Within R d d := ⟨fun p _ => by cases p <;> rfl, fun _ _ => rfl, id⟩

theorem trans (h : Within R d e) (h' : Within R e f) : Within R d f where
  part p hp := by
    have hfirst := h.part p hp
    have hsecond := h'.part p hp
    cases p <;> exact Eq.trans hsecond hfirst
  member r hr := (h'.member r hr).trans (h.member r hr)
  keys := h'.keys ∘ h.keys

theorem mono (h : Within R d e) (hsub : R.sub G = true) : Within G d e where
  part p hp := h.part p (eq_false_of_ne_true fun hin => Bool.false_ne_true (hp.symm.trans (Reach.allParts_mono hsub hin)))
  member r hr := h.member r (eq_false_of_ne_true fun hin => Bool.false_ne_true (hr.symm.trans (Reach.admits_mono hsub hin)))
  keys := h.keys

/-- A step within a narrower frame. -/
theorem add (h : Within G d e) (h' : Within R e f) (hsub : R.sub G = true) : Within G d f := h.trans (h'.mono hsub)

/-- A part that may change is changed. -/
theorem put (h : Within R d e) (p : Part) (hp : R.allParts.contains p = true) (hf : f = takePart e f p) : Within R d f := by
  have hrest (q : Part) (hq : R.allParts.contains q = false) : SamePart e f q := by
    rw [hf]
    exact samePart_takePart e f (by rintro rfl; exact Bool.false_ne_true (hq.symm.trans hp))
  refine h.trans ⟨hrest, fun r _ => mGet_congr ?_ r, ?_⟩
  · rw [hf, objs_takePart]
  · rw [hf, alloc_takePart]
    exact id

/-- The scene changes, and its allocated objects stay of scene classes. -/
theorem setScene (h : Within R d e) {x : Scene} (hk : SceneKeys e.scene.alloc → SceneKeys x.alloc)
    (hp : R.allParts.contains .scene = true) : Within R d { e with scene := x } := by
  refine h.trans ⟨fun p hin => ?_, fun _ _ => rfl, hk⟩
  cases p
  case scene => exact absurd (hin.symm.trans hp) Bool.false_ne_true
  all_goals rfl

theorem contains_of_raise {p : Part} (hp : raiseParts.contains p = true) : R.allParts.contains p = true := by
  simp only [Reach.allParts, List.contains_append, hp, Bool.true_or]

theorem mSet (h : Within R d e) {r : Ref} (hr : R.admits (r / 16777216) (refMember r) = true) (v : Val) : Within R d (mSet e r v) := by
  have hobjs : Within R d { e with objs := mapSet e.objs r v (memberDefault r) } := by
    refine h.trans ⟨fun p _ => by cases p <;> rfl, fun q hq => mapGet_mapSet_other e.objs v _ _ ?_, id⟩
    rintro rfl
    exact Bool.false_ne_true (hq.symm.trans hr)
  unfold Machine.mSet
  split
  · exact h
  · exact hobjs.put .dirty (contains_of_raise (by decide)) rfl

theorem mref_div (c i m : Nat) : mref c i m / 16777216 = c % 256 := by
  change (c % 256 * 16777216 + i % 65536 * 256 + m % 256) / 16777216 = c % 256
  omega

theorem nSet (h : Within R d e) {c i m : Nat} (n : Nat) (hr : R.admits (c % 256) (m % 256) = true) :
    Within R d (nSet e (mref c i m) n) :=
  h.mSet (by rwa [mref_div, refMember_mref]) _

theorem bSet (h : Within R d e) {c i m : Nat} (b : List Byte) (hr : R.admits (c % 256) (m % 256) = true) :
    Within R d (bSet e (mref c i m) b) :=
  h.mSet (by rwa [mref_div, refMember_mref]) _

/-- A member of class 70 is written (R724 to R732). -/
theorem nSetObs (h : Within R d e) {i m : Nat} (n : Nat) : Within R d (Machine.nSet e (mref 0x70 i m) n) := h.nSet n (R.admits_obs _)

/-- A member that raising an event writes. -/
theorem nSetRaise (h : Within R d e) {c i m : Nat} (n : Nat)
    (hr : raiseMembers.any (fun k => decide (refClass k = c % 256) && decide (refMember k = m % 256)) = true) :
    Within R d (Machine.nSet e (mref c i m) n) :=
  h.nSet n (Reach.admits_raise hr)

theorem foldl {α : Type} {step : Dev → α → Dev} (h : Within R d e) (l : List α)
    (hstep : ∀ e, ∀ a ∈ l, Within R d e → Within R d (step e a)) : Within R d (l.foldl step e) := by
  induction l generalizing e with
  | nil => exact h
  | cons a l ih =>
    exact ih (hstep e a List.mem_cons_self h) fun f b hb => hstep f b (List.mem_cons_of_mem a hb)

theorem ite {c : Prop} [Decidable c] (ht : c → Within R d e) (hf : ¬ c → Within R d f) : Within R d (if c then e else f) := by
  split
  case isTrue hc => exact ht hc
  case isFalse hc => exact hf hc

theorem useFree (h : Within R d e) : Within R d (freeUsed e) := h.put .free (contains_of_raise (by decide)) rfl

theorem arm (h : Within R d e) (kind i dt : Nat) : Within R d (arm e kind i dt) := h.put .timers (contains_of_raise (by decide)) rfl

theorem disarm (h : Within R d e) (kind i : Nat) : Within R d (disarm e kind i) := h.put .timers (contains_of_raise (by decide)) rfl

theorem setEvents (h : Within R d e) (v : Events) : Within R d { e with events := v } := h.put .events (contains_of_raise (by decide)) rfl

theorem setObs (h : Within R d e) (o : Obs) : Within R d { e with obs := o } := h.put .obs (contains_of_raise (by decide)) rfl

theorem trace (h : Within R d e) (kind unit data : Nat) : Within R d (trace e kind unit data) := by
  unfold Machine.trace
  exact ite (fun _ => ite (fun _ => h.setObs _) fun _ => (h.setObs _).nSetObs _) fun _ => h

theorem countSignal (h : Within R d e) (sel n : Nat) : Within R d (countSignal e sel n) := by
  unfold Machine.countSignal
  refine ite (fun _ => h.foldl _ fun f k _ hf => ?_) fun _ => h
  exact ite (fun _ => (hf.setObs _).nSetObs _) fun _ => hf

theorem serviceLog (h : Within R d e) (kind unit detail : Nat) : Within R d (serviceLog e kind unit detail) :=
  (((((h.nSetObs _).nSetObs _).nSetObs _).nSetObs _).nSetObs _).nSetObs _

theorem snapIsland (h : Within R d e) (t i : Nat) : Within R d (snapIsland e t i) := by
  have hfree : Within R d (if 92 ≤ i ∧ i < 100 then freeUsed e else e) := ite (fun _ => h.useFree) fun _ => h
  exact (((((hfree.nSetObs _).nSetObs _).nSetObs _).nSetObs _).nSetObs _).nSetObs _

theorem snapTrigger (h : Within R d e) (cause : Nat) : Within R d (snapTrigger e cause) := by
  unfold Machine.snapTrigger
  refine ite (fun _ => h) fun _ => ite (fun _ => h.nSetObs _) fun _ => ite (fun _ => h.nSetObs _) fun _ => ?_
  have hmembers : Within R d (nSets e [(snap_ARMED, 0), (snap_SEQ, satAdd 32 (nGet e snap_SEQ) 1), (snap_TRIGGER_TIME, tbNs e),
      (snap_CAUSE, cause &&& nGet e snap_SOURCES)]) := (((h.nSetObs _).nSetObs _).nSetObs _).nSetObs _
  exact (((hmembers.foldl _ fun f i _ hf => hf.snapIsland _ i).foldl _ fun f k _ hf => hf.nSetObs _).setObs _).arm _ _ _

theorem startHold (h : Within R d e) (g : Nat) : Within R d (startHold e g) :=
  ite (fun _ => h) fun _ => (h.nSetRaise _ (by decide)).arm _ _ _

theorem claimSource (h : Within R d e) (n who : Nat) : Within R d (claimSource e n who) := by
  unfold Machine.claimSource
  refine (setEvents (ite (fun _ => nSetRaise ?_ _ (by decide)) fun _ => ?_) _).startHold _
  all_goals exact ((h.nSetRaise _ (by decide)).nSetRaise _ (by decide)).nSetRaise _ (by decide)

theorem endSource (h : Within R d e) (n : Nat) : Within R d (endSource e n) :=
  ite (fun _ => (h.setEvents _).nSetRaise _ (by decide)) fun _ =>
      ite (fun _ => ((h.setEvents _).nSetRaise _ (by decide)).nSetRaise _ (by decide)) fun _ => (h.setEvents _).nSetRaise _ (by decide)

theorem firekeeperClaim (h : Within R d e) (n : Nat) : Within R d (firekeeperClaim e n) :=
  ite (fun _ => (h.claimSource n 0).endSource n) fun _ => h

theorem raiseBy (h : Within R d e) (n amt : Nat) : Within R d (raiseBy e n amt) := by
  have hcounts : Within R d (nInc (Machine.nSet e (ev_COUNT n) (min 255 (nGet e (ev_COUNT n) + amt))) (ev_RAISED n)) :=
    (h.nSetRaise _ (by decide)).nSetRaise _ (by decide)
  unfold Machine.raiseBy
  refine firekeeperClaim (ite (fun _ => snapTrigger ?_ 4) fun _ => ?_) n
  all_goals
    refine trace (countSignal (ite (fun _ => hcounts.setEvents _) fun _ => ?_) n 1) 1 n _
    exact (hcounts.setEvents _).nSetRaise _ (by decide)

theorem raise (h : Within R d e) (n : Nat) : Within R d (raise e n) := h.raiseBy n 1

theorem implicitEoi (h : Within R d e) (who : Nat) : Within R d (implicitEoi e who) := h.foldl _ fun _ a _ hf => hf.endSource a.1

end Within

/-- A state u that differs from s within a reach. -/
structure StepWithin (R : Reach) (s u : State) : Prop where
  mem : R.allParts.contains .mem = false → u.mem = s.mem
  dev : Within R s.dev u.dev

namespace StepWithin

variable {R G : Reach} {s u v : State}

theorem refl (s : State) : StepWithin R s s := ⟨fun _ => rfl, .refl _⟩

theorem trans (h : StepWithin R s u) (h' : StepWithin R u v) : StepWithin R s v :=
  ⟨fun hm => (h'.mem hm).trans (h.mem hm), h.dev.trans h'.dev⟩

theorem mono (h : StepWithin R s u) (hsub : R.sub G = true) : StepWithin G s u :=
  ⟨fun hm => h.mem (eq_false_of_ne_true fun hin => Bool.false_ne_true (hm.symm.trans (Reach.allParts_mono hsub hin))), h.dev.mono hsub⟩

/-- The device changes, and memory does not. -/
theorem setDev (h : StepWithin R s u) {d : Dev} (hd : Within R u.dev d) : StepWithin R s (withDev u d) :=
  h.trans ⟨fun _ => rfl, hd⟩

/-- A reach of a command, in terms of the statements. -/
theorem differOnly (h : StepWithin R s u) : DifferOnly (raiseParts ++ R.parts) R.classes (raiseMembers ++ R.members) s u := by
  refine ⟨fun p hp => ?_, fun r hclass hmember => h.dev.member r ?_⟩
  · have hpart := h.dev.part p hp
    cases p
    case mem => exact h.mem hp
    all_goals exact hpart
  · rw [Reach.admits, hclass, Bool.false_or, List.any_eq_false]
    intro k hk
    have hne := List.all_eq_true.mp hmember k hk
    simp only [Bool.or_eq_true, decide_eq_true_eq, Bool.and_eq_true] at hne ⊢
    omega

/-- A reach in terms of a statement's lists. -/
theorem differOnly_of_sub (h : StepWithin R s u) {ps : List Part} {cs : List Nat} {ks : List Ref} (hcounts : cs.contains 0x70 = true)
    (hsub : R.sub { parts := ps, classes := cs, members := ks, counts := hcounts } = true) :
    DifferOnly (raiseParts ++ ps) cs (raiseMembers ++ ks) s u :=
  (h.mono hsub).differOnly

end StepWithin

end Sys2Proof.Machine
end

section
/-!
The issue of an instruction within a reach (R313 to R330, R350, R359 to R366, R384).
-/
namespace Sys2Proof.Machine

/-- What an uncorrectable SRAM word changes that is found: its count and an entry of the error log (R483, R493). -/
def sramReach : Reach where
  parts := []
  classes := [0x70]
  members := [errLog_TIME 0, errLog_ADDRESS 0, errLog_WHERE 0, errLog_MASTER 0, errLog_KIND 0, mem_SRAM_UNCORRECTABLE, mem_LOG_NEXT]
  counts := by decide

theorem within_errorLog (d : Dev) (addr place master kind : Nat) : Within sramReach d (errorLog d addr place master kind) :=
  ((((((Within.refl d).nSet _ (by decide)).nSet _ (by decide)).nSet _ (by decide)).nSet _ (by decide)).nSet _ (by decide)).nSet _ (by decide)

theorem within_sramBad (d : Dev) (addr place kind : Nat) : Within sramReach d (sramBad d addr place kind) :=
  (((Within.refl d).nSet _ (by decide)).trans (within_errorLog _ addr place 8 kind)).raise 842

/-- What the issue of an instruction changes beside the instruction's own effect: parts of the engines, reads of DRAM and SRAM with their
errors (R473, R483), and what a thread's fault leaves in its program (R350). -/
def issueReach : Reach where
  parts := [.dram, .threads, .bells, .scratch, .dcache, .icache, .posts]
  classes := [0x70]
  members := [prog_RUN_STATE 0, prog_FAULT_CODE 0, prog_FAULT_PC 0, prog_FAULTS 0, errLog_TIME 0, errLog_ADDRESS 0, errLog_WHERE 0,
    errLog_MASTER 0, errLog_KIND 0, mem_SRAM_CORRECTED, mem_SRAM_UNCORRECTABLE, mem_LOG_NEXT]
  counts := by decide

theorem within_updThread (d : Dev) (t : Nat) (f : Thread → Thread) : Within issueReach d (updThread d t f) :=
  (Within.refl d).put .threads (by decide) rfl

theorem within_setRun (d : Dev) (t : Nat) (st : TState) : Within issueReach d (setRun d t st) := by
  unfold setRun
  exact Within.ite (fun _ => within_updThread d t _) fun _ => (within_updThread d t _).nSet _ (by decide)

theorem within_faultThread (d : Dev) (t code : Nat) : Within issueReach d (faultThread d t code) := by
  have hstopped : Within issueReach d (faultStopped d t code) :=
    (((((Within.refl d).nSet _ (by decide)).nSet _ (by decide)).nSet _ (by decide)).trans (within_updThread _ t _)).trans (within_setRun _ t .faulted)
  rw [faultThread_eq]
  exact (((hstopped.trace 7 t _).serviceLog 2 t code).implicitEoi (t + 1)).raise _

theorem within_readWord (d : Dev) (t a : Nat) : Within issueReach d (readWord d t a) :=
  Within.ite (fun _ => (within_sramBad d _ 8 0).mono (by decide)) fun _ =>
      Within.ite (fun _ => ((Within.refl d).put .dram (by decide) rfl).nSet _ (by decide)) fun _ => .refl d

theorem within_readFetch (d : Dev) (t : Nat) : Within issueReach d (readFetch d t) :=
  Within.ite (fun _ => .refl d) fun _ => within_readWord d t _

theorem within_readOperand (d : Dev) (t op : Nat) (w : Be32Op) : Within issueReach d (readOperand d t op w) :=
  Within.ite (fun _ => (Within.refl d).foldl _ fun e a _ h => h.trans (within_readWord e t a)) fun _ => .refl d

/-- Long operations that end and stores that drain (R319 to R323). -/
theorem within_settleThread (d : Dev) (t : Nat) : Within issueReach d (settleThread d t) := by
  obtain ⟨m, p, h⟩ := settleThread_shape d t
  rw [h]
  exact ((Within.refl d).put (f := { d with beam.threads := m }) .threads (by decide) rfl).put .scratch (by decide) rfl

/-- A block of DRAM asked for (R478 to R481). -/
theorem within_askRead (d : Dev) (r : DramRead) : Within issueReach d (askRead d r) := by
  unfold askRead
  split
  · exact (((Within.refl d).put .dram (by decide) rfl).countSignal _ 1).countSignal _ 1
  · exact (Within.refl d).put .dram (by decide) rfl

/-- An operand that waits has changed a device within a reach. -/
def GotWithin (R : Reach) (d : Dev) : Got → Prop
  | .wait e => Within R d e
  | _ => True

theorem gotWithin_scratchLoad (d : Dev) (t a n : Nat) : GotWithin issueReach d (scratchLoad d t a n) := by
  unfold scratchLoad
  dsimp only
  split
  · trivial
  · split
    · split
      · trivial
      · exact Within.refl d
    · split <;> trivial

theorem gotWithin_viewAddr (d : Dev) (t : Nat) (w : Be32Op) : GotWithin issueReach d (viewAddr d t w) := by
  have hpointer := gotWithin_scratchLoad d t (w.operand.toNat % 1024) 4
  unfold viewAddr
  dsimp only
  split
  iterate 4 trivial
  split
  · trivial
  · exact hpointer

theorem gotWithin_farLoad (d : Dev) (t : Nat) (w : Be32Op) (n : Nat) : GotWithin issueReach d (farLoad d t w n) := by
  unfold farLoad
  dsimp only
  split
  · trivial
  · split
    · trivial
    · split
      · trivial
      · split
        · trivial
        · exact Within.ite (fun _ => within_askRead d _) fun _ => .refl d
    · exact Within.refl d

theorem gotWithin_portLoad (d : Dev) (t : Nat) (w : Be32Op) : GotWithin issueReach d (portLoad d t w) := by
  unfold portLoad
  split
  · trivial
  · split
    · trivial
    · split
      · trivial
      · exact Within.refl d

theorem gotWithin_loadOperand (d : Dev) (t : Nat) (w : Be32Op) (n : Nat) : GotWithin issueReach d (loadOperand d t w n) := by
  have haddr := gotWithin_viewAddr d t w
  unfold loadOperand
  split
  · exact gotWithin_portLoad d t w
  · exact gotWithin_farLoad d t w n
  · split
    · exact gotWithin_scratchLoad d t _ n
    · exact haddr

theorem gotWithin_operand (d : Dev) (t : Nat) (w : Be32Op) : GotWithin issueReach d (operand d t w) := by
  unfold operand
  split
  · trivial
  · exact gotWithin_loadOperand d t w 4

/-- Whatever state an effect leaves differs from s within a reach. -/
inductive RanWithin (R : Reach) (s : State) : Ran → Prop
  | done {u : State} (h : StepWithin R s u) (load : Option (Nat × Word)) : RanWithin R s (.done u load)
  | jump {u : State} (h : StepWithin R s u) (pc : Word) : RanWithin R s (.jump u pc)
  | wait {u : State} (h : StepWithin R s u) : RanWithin R s (.wait u)
  | hold {u : State} (h : StepWithin R s u) (st : TState) : RanWithin R s (.hold u st)
  | fault (code : Nat) : RanWithin R s (.fault code)

section
variable {R : Reach} {s u : State}

theorem RanWithin.mono {G : Reach} {r : Ran} (h : RanWithin G s r) (hsub : G.sub R = true) : RanWithin R s r := by
  cases h with
  | done h load => exact .done (h.mono hsub) load
  | jump h pc => exact .jump (h.mono hsub) pc
  | wait h => exact .wait (h.mono hsub)
  | hold h st => exact .hold (h.mono hsub) st
  | fault c => exact .fault c

theorem StepWithin.ofDev {d : Dev} (h : Within R s.dev d) : StepWithin R s (withDev s d) := (StepWithin.refl s).setDev h

variable (hR : issueReach.sub R = true)
include hR

theorem StepWithin.thread (h : StepWithin R s u) (t : Nat) (f : Thread → Thread) : StepWithin R s (withThread u t f) :=
  h.setDev ((within_updThread _ t f).mono hR)

theorem StepWithin.fault (h : StepWithin R s u) (t code : Nat) : StepWithin R s (withDev u (faultThread u.dev t code)) :=
  h.setDev ((within_faultThread _ t code).mono hR)

/-- An instruction that retires, with its issue slots (R315, R360, R366). -/
theorem StepWithin.retire (h : StepWithin R s u) (t n : Nat) (pc : Word) (pend load : Option (Nat × Word)) (wrote : Option Nat) :
    StepWithin R s (useSlots (retireOp32 u t pc pend load wrote) t n) := by
  have hretired : StepWithin R s (retireOp32 u t pc pend load wrote) := h.thread hR t _
  exact hretired.setDev ((Within.refl _).countSignal _ n)

theorem ranWithin_withOperand {t : Nat} {w : Be32Op} {k : Word → Ran} (hk : ∀ v, RanWithin R s (k v)) : RanWithin R s (withOperand s t w k) := by
  have hwait := gotWithin_operand s.dev t w
  unfold withOperand
  split
  · exact hk _
  · next heq =>
    rw [heq] at hwait
    exact .wait (.ofDev (hwait.mono hR))
  · exact .fault _

theorem stepWithin_runEffect {eff : Effect} {op t : Nat} {w : Be32Op} (h : StepWithin R s u)
    (heff : ∀ v, StepWithin R s v → RanWithin R v (eff v t w)) : StepWithin R s (runEffect eff op t w u) := by
  have hread : StepWithin R s (withDev u (readOperand u.dev t op w)) := h.setDev ((within_readOperand _ t op w).mono hR)
  have hran := heff _ hread
  unfold runEffect
  dsimp only
  generalize eff (withDev u (readOperand u.dev t op w)) t w = r at hran
  cases hran with
  | done h load => exact (hread.trans h).retire hR t 1 _ _ _ _
  | jump h pc => exact (hread.trans h).retire hR t _ _ _ _ _
  | wait h => exact (hread.trans h).thread hR t _
  | hold h st =>
    have hslots := (hread.trans h).setDev ((Within.refl _).countSignal (3 * 4096 + t) 1)
    exact (hslots.thread hR t _).setDev ((within_setRun _ t _).mono hR)
  | fault code => exact hread.fault hR t _

/-- What an instruction changes: its effect, and what its issue does beside it. -/
theorem stepWithin_issue {eff : Effect} {op t : Nat} {w : Be32Op} (heff : ∀ u, StepWithin R s u → RanWithin R u (eff u t w)) :
    StepWithin R s (issue eff op t w s) := by
  have hsettled : StepWithin R s (withDev s (settleThread s.dev t)) := .ofDev ((within_settleThread _ t).mono hR)
  have hfetched := hsettled.setDev ((within_readFetch (settleThread s.dev t) t).mono hR)
  unfold issue
  split
  · exact .refl s
  dsimp only
  split
  · exact hfetched.fault hR t _
  split
  · exact hfetched.thread hR t _
  split
  · exact hfetched.fault hR t _
  split
  · exact hfetched.fault hR t _
  split
  · exact hfetched.thread hR t _
  have hcond : StepWithin R s (if w.cond = 15 ∧ (threadHead (settleThread s.dev t) t).isSome then
      withDev (withDev (withDev s (settleThread s.dev t)) (readFetch (settleThread s.dev t) t))
        (freeUsed (withDev (withDev s (settleThread s.dev t)) (readFetch (settleThread s.dev t) t)).dev)
      else withDev (withDev s (settleThread s.dev t)) (readFetch (settleThread s.dev t) t)) := by
    split
    · exact hfetched.setDev (Within.refl _).useFree
    · exact hfetched
  split
  · exact stepWithin_runEffect hR hcond heff
  · exact hcond.retire hR t 1 _ _ _ _

end

theorem ranWithin_effNop (s : State) (t : Nat) (w : Be32Op) : RanWithin issueReach s (effNop s t w) := .done (.refl s) none

theorem ranWithin_regEffect (f : Thread → Thread) (s : State) (t : Nat) (w : Be32Op) : RanWithin issueReach s (regEffect f s t w) :=
  .done ((StepWithin.refl s).thread (by decide) t f) none

theorem ranWithin_effMvAt (s : State) (t : Nat) (w : Be32Op) : RanWithin issueReach s (effMvAt s t w) :=
  .done ((StepWithin.refl s).thread (by decide) t _) none

theorem ranWithin_opEffect (f : Thread → Word → Thread) (s : State) (t : Nat) (w : Be32Op) : RanWithin issueReach s (opEffect f s t w) :=
  ranWithin_withOperand (by decide) fun _ => .done ((StepWithin.refl s).thread (by decide) t _) none

theorem ranWithin_longEffect (n : Nat) (f : Word → Word → Word) (s : State) (t : Nat) (w : Be32Op) :
    RanWithin issueReach s (longEffect n f s t w) :=
  ranWithin_withOperand (by decide) fun _ => .done ((StepWithin.refl s).thread (by decide) t _) none

theorem ranWithin_loadEffect (r n : Nat) (s : State) (t : Nat) (w : Be32Op) : RanWithin issueReach s (loadEffect r n s t w) := by
  have hwait := gotWithin_loadOperand s.dev t w n
  unfold loadEffect
  split
  · exact .done ((StepWithin.refl s).thread (by decide) t _) none
  · split
    · exact .done (.refl s) _
    · next heq =>
      rw [heq] at hwait
      exact .wait (.ofDev hwait)
    · exact .fault _

theorem ranWithin_jmpEffect (s : State) (t : Nat) (w : Be32Op) : RanWithin issueReach s (jmpEffect s t w) := .jump (.refl s) _

theorem ranWithin_callEffect (s : State) (t : Nat) (w : Be32Op) : RanWithin issueReach s (callEffect s t w) := by
  unfold callEffect
  dsimp only
  split
  · exact .fault _
  · exact .jump ((StepWithin.refl s).thread (by decide) t _) _

theorem ranWithin_retEffect (s : State) (t : Nat) (w : Be32Op) : RanWithin issueReach s (retEffect s t w) := by
  unfold retEffect
  split
  · exact .fault _
  · exact .jump ((StepWithin.refl s).thread (by decide) t _) _

/-- A command that is the issue of an instruction whose effect is within `issueReach` has its frame. -/
theorem onlyChanges_of_issue {c : Instr} {eff : Effect} {op t : Nat} {w : Be32Op} (hexec : ∀ s, exec c s = .next (issue eff op t w s))
    (heff : ∀ s, RanWithin issueReach s (eff s t w)) :
    OnlyChanges c (raiseParts ++ issueReach.parts) issueReach.classes (raiseMembers ++ issueReach.members) := by
  intro s u hnext
  obtain rfl := Host.Outcome.next.inj ((hexec s).symm.trans hnext)
  exact (stepWithin_issue (by decide) fun u _ => heff u).differOnly

theorem frameNop : FrameNop := by
  intro t w
  simp only [List.forall_mem_cons, List.not_mem_nil, false_imp_iff, implies_true, and_true]
  refine ⟨onlyChanges_of_issue (fun _ => rfl) fun s => ranWithin_effNop s t.val w, ?_⟩
  iterate 5 refine ⟨onlyChanges_of_issue (fun _ => rfl) fun s => ranWithin_loadEffect _ _ s t.val w, ?_⟩
  iterate 5 refine ⟨onlyChanges_of_issue (fun _ => rfl) fun s => ranWithin_regEffect _ s t.val w, ?_⟩
  refine ⟨onlyChanges_of_issue (fun _ => rfl) fun s => ranWithin_effMvAt s t.val w, ?_⟩
  iterate 2 refine ⟨onlyChanges_of_issue (fun _ => rfl) fun s => ranWithin_regEffect _ s t.val w, ?_⟩
  iterate 19 refine ⟨onlyChanges_of_issue (fun _ => rfl) fun s => ranWithin_opEffect _ s t.val w, ?_⟩
  iterate 6 refine ⟨onlyChanges_of_issue (fun _ => rfl) fun s => ranWithin_longEffect _ _ s t.val w, ?_⟩
  exact ⟨onlyChanges_of_issue (fun _ => rfl) fun s => ranWithin_jmpEffect s t.val w,
    onlyChanges_of_issue (fun _ => rfl) fun s => ranWithin_callEffect s t.val w,
    onlyChanges_of_issue (fun _ => rfl) fun s => ranWithin_retEffect s t.val w⟩

end Sys2Proof.Machine
end

section
/-!
A channel that retires within a reach (R303, R444, R466, R473, R474, R488 to R493): reports, the reserved segment, doses read again, a new
placement, and the objects that are released.
-/
namespace Sys2Proof.Machine

/-- What a bad or corrected block of DRAM changes that a master finds, up to the retirement of its channel (R470, R473, R488). -/
def retireReach : Reach where
  parts := [.noap, .scene, .dram, .stoker, .lanes, .wear]
  classes := [0x11, 0x12, 0x13, 0x14, 0x15, 0x16, 0x17, 0x70]
  members := [commitCtl_STAGED_COUNT, chanRep_SCAN_PEAK 0, stepRep_STEPS, chanRep_VIDEO_IN 0, stepRep_RHO_PERMILLE, chanRep_SCAN_CAPACITY 0,
    stepRep_ACTIONS, chanRep_RETIRED 0, hhead_HO_CAUSE 0, panel_DOSE_GAP_MS 0, vin_STREAM_STATE 0, noap_EVENTS_LOST, ev_TARGET 0,
    chan_STATE 0, errLog_TIME 0, mem_SCRUB_BLOCKS, chan_RETIRE_CAUSE 0, errLog_ADDRESS 0, mem_SCRUB_PASSES, errLog_WHERE 0,
    mem_LAST_PASS_TIME, chan_CORRECTED 0, errLog_MASTER 0, mem_RESERVE_PERMILLE, chan_UNCORRECTABLE 0, errLog_KIND 0, mem_SEGMENT_MAP,
    chan_UE_PASS 0, mem_RESERVED_SEGMENT, mem_SRAM_UNCORRECTABLE, mem_LOG_NEXT]
  counts := by decide

/-- A reach in which the members of the scene classes may change (R87). -/
theorem admits_scene {c : Nat} (hc : isSceneClass c = true) (m : Nat) : retireReach.admits c m = true := by
  have hmem : retireReach.classes.contains c = true := by
    simp only [isSceneClass, Bool.and_eq_true, decide_eq_true_eq] at hc
    obtain ⟨hlow, hhigh⟩ := hc
    interval_cases c <;> rfl
  rw [Reach.admits, hmem, Bool.true_or]

/-! ### Sessions and lanes -/

theorem within_notifyController (d : Dev) (n : Notif) : Within retireReach d (notifyController d n) := by
  unfold notifyController
  split
  · unfold queueNotif
    split
    · exact .refl d
    · exact Within.ite (fun _ => (Within.refl d).put .noap (by decide) rfl) fun _ => (Within.refl d).nSet _ (by decide)
  · exact .refl d

theorem within_sendCtrl (d : Dev) (h channel : Nat) (payload : List Byte) : Within retireReach d (sendCtrl d h channel payload) := by
  have hlane (l : Nat) (f : LaneSt → LaneSt) : Within retireReach d (updLane d l f) := (Within.refl d).put .lanes (by decide) rfl
  unfold sendCtrl pushProtected
  exact Within.ite (fun _ => .refl d) fun _ => Within.ite (fun _ => hlane _ _) fun _ =>
    Within.ite (fun _ => Within.ite (fun _ => hlane _ _) fun _ => .refl d) fun _ => hlane _ _

/-! ### Objects -/

theorem div_of_lt {o : Nat} (hlt : o < 2 ^ 32) : o / 16777216 = refClass o := by
  simp only [refClass]
  omega

/-- An object's members have its class. -/
theorem add_div_of_lt {o k : Nat} (hlt : o < 2 ^ 32) (hm : refMember o = 0) (hk : k < 256) : (o + k) / 16777216 = refClass o := by
  simp only [refClass, refMember] at hm ⊢
  omega

/-- An object's members dropped (R91). -/
theorem within_dropObject (d : Dev) {o : Ref} (ho : isSceneClass (refClass o) = true) (hlt : o < 2 ^ 32) :
    Within retireReach d (dropObject d o) := by
  have hobjs : Within retireReach d { d with objs := d.objs.filter (fun e => decide (refObj e.1 ≠ o)) } := by
    refine ⟨fun p _ => by cases p <;> rfl, fun r hr => mGet_of_objs_filter (p := fun r => decide (refObj r ≠ o)) rfl ?_, id⟩
    rw [decide_eq_true_iff]
    rintro rfl
    have hclass : refClass (refObj r) = r / 16777216 := by
      rw [← div_of_lt hlt]
      change r / 256 * 256 / 16777216 = r / 16777216
      omega
    rw [hclass] at ho
    exact Bool.false_ne_true (hr.symm.trans (admits_scene ho _))
  exact hobjs.setScene id (by decide)

theorem within_lookStreams (d : Dev) : Within retireReach d (lookStreams d) :=
  (Within.refl d).foldl _ fun _ _ _ h => Within.ite (fun _ => h.nSet _ (by decide)) fun _ => h

theorem within_countClass (d : Dev) {c : Nat} (hc : isSceneClass c = true) : Within retireReach d (countClass d c) := by
  have hclass (m : Nat) : retireReach.admits (c % 256) m = true := by
    rw [Nat.mod_eq_of_lt (sceneClass_lt hc)]
    exact admits_scene hc m
  exact ((Within.refl d).nSet _ (hclass _)).nSet _ (hclass _)

theorem within_releaseObject (d : Dev) {o : Ref} (ho : isSceneClass (refClass o) = true) (hlt : o < 2 ^ 32) :
    Within retireReach d (releaseObject d o) := by
  have hroute : Within retireReach d (if refClass o = 0x17 then unrouteProgram d o else d) :=
    Within.ite (fun _ => (Within.refl d).foldl _ fun _ _ _ h => Within.ite (fun _ => h.nSet _ (by decide)) fun _ => h) fun _ => .refl d
  refine ((((Within.setScene hroute ?_ (by decide)).trans (within_dropObject _ ho hlt)).trans (within_countClass _ ho)).nSet _ (by decide)).trans
      (within_lookStreams _)
  exact fun hk => sceneKeys_mapErase hk o

/-- STATE and LEASE_HEADS of an object (R92), and a surface's BUFFER_STATE and HEAD_FRONT. -/
theorem within_refreshObject (live pend : List Nat) (ls : List (Nat × Nat)) (scenes : List (List Ref)) (d : Dev) {o : Ref}
    (ho : isSceneClass (refClass o) = true) (hm : refMember o = 0) (hlt : o < 2 ^ 32) :
    Within retireReach d (refreshObject live pend ls scenes d o) := by
  have hnear {k : Nat} (hk : k < 256) : retireReach.admits ((o + k) / 16777216) (refMember (o + k)) = true := by
    rw [add_div_of_lt hlt hm hk]
    exact admits_scene ho _
  have hstate (st mask : Nat) : Within retireReach d (nSets d [(obj_STATE o, st), (obj_LEASE_HEADS o, mask)]) :=
    ((Within.refl d).mSet (hnear (k := 1) (by decide)) _).mSet (hnear (k := 2) (by decide)) _
  unfold refreshObject
  exact Within.ite (fun _ => ((hstate _ _).nSet _ (by decide)).nSet _ (by decide)) fun _ => hstate _ _

theorem sceneKey_of_mem {m : SMap Nat} (hk : SceneKeys m) {e : Ref × Nat} (he : e ∈ m) :
    isSceneClass (refClass e.1) = true ∧ refMember e.1 = 0 ∧ e.1 < 2 ^ 32 := by
  have hkey := List.all_eq_true.mp hk e he
  simp only [Bool.and_eq_true, beq_iff_eq, decide_eq_true_eq] at hkey
  exact ⟨hkey.1.1, hkey.1.2, hkey.2⟩

/-- Leases looked at anew, and the objects released whose last lease is gone (R91, R92). -/
theorem within_refreshLeases (d : Dev) (hd : SceneKeys d.scene.alloc) : Within retireReach d (refreshLeases d) := by
  unfold refreshLeases
  dsimp only
  refine Within.foldl (Within.foldl (.refl d) _ fun e o ho h => h.trans ?_) _ fun e o ho h => (h.trans ?_).trans (within_notifyController _ _)
  · obtain ⟨x, hx, rfl⟩ := List.mem_map.mp ho
    obtain ⟨hscene, hm, hlt⟩ := sceneKey_of_mem hd hx
    exact within_refreshObject _ _ _ _ _ hscene hm hlt
  · obtain ⟨x, hx, rfl⟩ := List.mem_map.mp ho
    obtain ⟨hscene, -, hlt⟩ := sceneKey_of_mem hd (List.mem_of_mem_filter hx)
    exact within_releaseObject _ hscene hlt

/-! ### Doses -/

theorem within_updPanel (d : Dev) (h : Nat) (f : PanelSt → PanelSt) : Within retireReach d (updPanel d h f) :=
  (Within.refl d).put .wear (by decide) rfl

theorem within_countGap (d : Dev) (h : Nat) : Within retireReach d (countGap d h) := by
  have hgap : Within retireReach d (match (panelOf d h).gapFrom with
      | some t => updPanel (nAdd d (panel_DOSE_GAP_MS h) ((d.now - t) / ms 1)) h (fun x => { x with gapFrom := some (t + (d.now - t) / ms 1 * ms 1) })
      | none => d) := by
    split
    · exact ((Within.refl d).nSet _ (by decide)).trans (within_updPanel _ h _)
    · exact .refl d
  unfold countGap
  exact Within.ite (fun _ => Within.ite (fun _ => hgap) fun _ => hgap.trans (within_updPanel _ h _)) fun _ => hgap.trans (within_updPanel _ h _)

theorem within_startRead (d : Dev) (h typ : Nat) : Within retireReach d (startRead d h typ) := by
  unfold startRead readNext
  exact Within.ite (fun _ => (within_updPanel d h _).trans (within_sendCtrl _ h 2 _)) fun _ => (within_updPanel d h _).trans (within_sendCtrl _ h 2 _)

/-- The doses that a retired channel held are read again (R444). -/
theorem within_reloadDoses (d : Dev) : Within retireReach d (reloadDoses d) := by
  refine Within.foldl ((Within.refl d).put .wear (by decide) rfl) _ fun e h _ he => Within.trans ?_ (within_countGap _ h)
  have hcleared := he.trans (within_updPanel e h (fun x => { x with dose := [], early := [] }))
  exact Within.ite (fun _ => hcleared.trans (within_startRead _ h 2)) fun _ => hcleared

/-! ### The placement that follows -/

theorem within_hoCauseSet (d : Dev) (h bit : Nat) : Within retireReach d (hoCauseSet d h bit) := (Within.refl d).nSet _ (by decide)

theorem within_hoCauseClear (d : Dev) (h bit : Nat) : Within retireReach d (hoCauseClear d h bit) := (Within.refl d).nSet _ (by decide)

theorem within_holdCapacity (d : Dev) : Within retireReach d (holdCapacity d) :=
  Within.ite (fun _ => (Within.refl d).put .stoker (by decide) rfl) fun _ => .refl d

theorem within_reportModel (d : Dev) (peaks : List Rat) : Within retireReach d (reportModel d peaks) := by
  unfold reportModel
  dsimp only
  generalize hchannels : List.foldl _ _ _ = e
  have h : Within retireReach d e := by
    rw [← hchannels]
    exact (Within.refl d).foldl _ fun _ _ _ h => (((h.nSet _ (by decide)).nSet _ (by decide)).nSet _ (by decide)).nSet _ (by decide)
  exact (((h.nSet _ (by decide)).nSet _ (by decide)).nSet _ (by decide)).bSet _ (by decide)

theorem within_announceActions (d : Dev) (old new : List Action) : Within retireReach d (announceActions d old new) := by
  unfold announceActions
  refine Within.foldl (Within.foldl (.refl d) _ fun e x _ h => ?_) _ fun e a _ h => ?_
  · refine Within.ite (fun _ => h) fun _ => Within.raise (Within.trace ?_ 11 _ _) 885
    exact Within.ite (fun _ => h.trans (within_hoCauseSet _ _ 2)) fun _ => h
  · refine Within.ite (fun _ => h) fun _ => Within.raise ?_ 885
    exact Within.ite (fun _ => h.trans (within_hoCauseClear _ _ 2)) fun _ => h

theorem within_takeVerdict (d : Dev) (vd : Verdict) (acts : List Action) : Within retireReach d (takeVerdict d vd acts) :=
  (((Within.refl d).put .stoker (by decide) rfl).trans (within_announceActions _ _ acts)).trans (within_reportModel _ vd.peaks)

theorem within_showLoading (d : Dev) : Within retireReach d (showLoading d) :=
  (Within.refl d).foldl _ fun _ _ _ h => Within.ite (fun _ => h) fun _ => h.nSet _ (by decide)

theorem within_replaceHeads (d : Dev) (vd : Verdict) (acts : List Action) (hs : List Nat) : Within retireReach d (replaceHeads d vd acts hs) := by
  refine Within.trans (Within.foldl (.refl d) _ fun e h _ he => ?_) (within_showLoading _)
  dsimp only
  split
  · exact he.put .stoker (by decide) rfl
  · exact he.put .stoker (by decide) rfl

theorem within_replaceAll (d : Dev) (vd : Verdict) (acts : List Action) : Within retireReach d (replaceAll d vd acts) :=
  ((within_replaceHeads d vd acts _).put .stoker (by decide) rfl).trans (within_showLoading _)

theorem within_settleCauses (d : Dev) (acts : List Action) (h : Nat) : Within retireReach d (settleCauses d acts h) := by
  have hleft : Within retireReach d (if leftWithout d acts h then hoCauseSet d h 0 else hoCauseClear d h 0) :=
    Within.ite (fun _ => within_hoCauseSet d h 0) fun _ => within_hoCauseClear d h 0
  exact Within.ite (fun _ => hleft.trans (within_hoCauseClear _ h 1)) fun _ => hleft

theorem within_rerunModel (d : Dev) : Within retireReach d (rerunModel d) :=
  ((within_takeVerdict d _ _).trans (within_replaceAll _ _ _)).foldl _ fun _ h _ he => he.trans (within_settleCauses _ _ h)

theorem within_capacityChanged (d : Dev) : Within retireReach d (capacityChanged d) :=
  Within.ite (fun _ => .refl d) fun _ => within_rerunModel d

/-! ### The channel -/

theorem within_setSegCodes (d : Dev) (l : List Nat) : Within retireReach d (setSegCodes d l) := ((Within.refl d).put .dram (by decide) rfl).bSet _
    (by decide)

/-- The reserved segment moves off a retired channel (R466). -/
theorem within_moveReserved (d : Dev) : Within retireReach d (moveReserved d) := by
  refine Within.ite (fun _ => Within.ite (fun _ => .refl d) fun _ => ?_) fun _ => .refl d
  split
  · exact (Within.refl d).nSet _ (by decide)
  · split
    · exact (within_setSegCodes d _).nSet _ (by decide)
    · exact .refl d

/-- The end of a scrub pass (R474). -/
theorem within_endPass (d : Dev) : Within retireReach d (endPass d) := by
  refine Within.ite (fun _ => ?_) fun _ => .refl d
  have hpass : Within retireReach d (nSets { d with dram.scrubAt := [] } [(mem_SCRUB_PASSES, satAdd 32 (nGet d mem_SCRUB_PASSES) 1),
      (mem_LAST_PASS_TIME, tbNs d), (mem_SCRUB_BLOCKS, 0)]) :=
    ((((Within.refl d).put .dram (by decide) rfl).nSet _ (by decide)).nSet _ (by decide)).nSet _ (by decide)
  exact hpass.foldl _ fun _ _ _ h => h.nSet _ (by decide)

/-- A channel that retires (R488, R489). -/
theorem within_retireChannel (d : Dev) (c cause : Nat) (hd : SceneKeys d.scene.alloc) : Within retireReach d (retireChannel d c cause) := by
  unfold retireChannel
  refine Within.ite (fun _ => .refl d) fun _ => ?_
  dsimp only
  generalize List.filter _ _ = heads
  generalize hmarked : nSets { holdCapacity d with dram.retired := _, dram.writeBack := _ } _ = e
  have hreport : Within retireReach d (raise (serviceLog e 4 c cause) 841) := by
    rw [← hmarked]
    exact ((((within_holdCapacity d).put .dram (by decide) rfl).nSet _ (by decide) |>.nSet _ (by decide)).serviceLog 4 c cause).raise 841
  have hheads := (hreport.trans (within_moveReserved _)).foldl heads (step := fun d h => hoCauseSet d h 1) fun _ h _ he =>
    he.trans (within_hoCauseSet _ h 1)
  refine Within.trans ?_ (within_endPass _)
  split
  · have hplaced := (hheads.trans (within_reloadDoses _)).trans (within_capacityChanged _)
    exact hplaced.trans (within_refreshLeases _ (hplaced.keys hd))
  · have hplaced := hheads.trans (within_capacityChanged _)
    exact hplaced.trans (within_refreshLeases _ (hplaced.keys hd))

/-- An uncorrectable block is reported, and its channel retires at RETIRE_LIMIT (R473, R488). -/
theorem within_reportBad (d : Dev) (b c master kind : Nat) (hd : SceneKeys d.scene.alloc) :
    Within retireReach d (reportBad d b c master kind) := by
  unfold reportBad
  dsimp only
  generalize hlogged : serviceLog _ 5 c b = e
  have h : Within retireReach d e := by
    rw [← hlogged]
    exact ((((Within.refl d).nSet _ (by decide)).add (within_errorLog _ (b * 256) c master kind) (by decide)).trace 9 c b).serviceLog 5 c b
  have hpass : Within retireReach d (nSet (raise e 840) (chan_UE_PASS c) (satAdd 16 (nGet (raise e 840) (chan_UE_PASS c)) 1)) :=
    (h.raise 840).nSet _ (by decide)
  exact Within.ite (fun _ => hpass.trans (within_retireChannel _ c 3 (hpass.keys hd))) fun _ => hpass

theorem within_blockCorrected (d : Dev) (c : Nat) : Within retireReach d (blockCorrected d c) := by
  have hcount : Within retireReach d (nInc d (chan_CORRECTED c)) := (Within.refl d).nSet _ (by decide)
  unfold blockCorrected
  dsimp only
  split
  · exact Within.ite (fun _ => hcount) fun _ => (hcount.put .dram (by decide) rfl).raise _
  · exact (hcount.put .dram (by decide) rfl).raise _

theorem within_decodeBlock (d : Dev) (b c master kind : Nat) (hd : SceneKeys d.scene.alloc) :
    Within retireReach d (decodeBlock d b c master kind) :=
  Within.ite (fun _ => within_reportBad d b c master kind hd) fun _ => Within.ite (fun _ => .refl d) fun _ => within_blockCorrected d c

/-- A read of a block counted (R478, R728). -/
theorem within_countRead (R : Reach) (d : Dev) (r : DramRead) : Within R d (countRead d r) := ((Within.refl d).countSignal _ 1).countSignal _ 1

/-- A range read at once (R470, R473, R483). -/
theorem within_readRange (d : Dev) (a n cls : Nat) (hd : SceneKeys d.scene.alloc) : Within retireReach d (readRange d a n cls) := by
  refine Within.foldl (Within.foldl (.refl d) _ fun e w _ h => h.add (within_sramBad e (8 * w) 9 0) (by decide)) _ fun e b _ h => ?_
  split
  · next c _ =>
    have hcount := h.trans (within_countRead retireReach e { cls := cls, unit := 0, block := b, chan := c, cancelled := false })
    exact hcount.trans (within_decodeBlock _ b _ cls 0 (hcount.keys hd))
  · exact h

end Sys2Proof.Machine
end

section
/-!
A register access within a reach (R11 to R16, R329, R339, R549): timers, pipes, heads, doorbells and what an island without power counts.
-/
namespace Sys2Proof.Machine

/-! ### Timers -/

/-- What a timer block changes: its timers, and the events that they raise. -/
def timerReach : Reach where
  parts := [.time]
  classes := [0x70]
  members := []
  counts := by decide

theorem within_updTimer (d : Dev) (n : Nat) (f : Timer → Timer) : Within timerReach d (updTimer d n f) := (Within.refl d).put .time (by decide) rfl

theorem within_updStart (d : Dev) (c : Nat) (f : GroupStart → GroupStart) : Within timerReach d (updStart d c f) :=
  (Within.refl d).put .time (by decide) rfl

theorem within_timerFire (d : Dev) (n k : Nat) : Within timerReach d (timerFire d n k) :=
  Within.ite (fun _ => (within_updTimer d n _).raise _) fun _ => .refl d

theorem within_timerReload (d : Dev) (n : Nat) : Within timerReach d (timerReload d n) := by
  have hfired := (within_timerFire d n 0).trans (within_timerFire _ n 1)
  exact Within.ite (fun _ => (hfired.trans (within_updTimer _ n _)).raise _) fun _ => .refl d

theorem within_timerSettle (d : Dev) (n : Nat) : Within timerReach d (timerSettle d n) :=
  ((within_timerReload d n).trans (within_timerFire _ n 0)).trans (within_timerFire _ n 1)

theorem within_timerEnable (d : Dev) (n : Nat) (b : Bool) : Within timerReach d (timerEnable d n b) := within_updTimer d n _

theorem within_timerControl (d : Dev) (n v : Nat) : Within timerReach d (timerControl d n v) :=
  (within_updTimer d n _).trans (within_timerEnable _ n _)

theorem within_periodWrite (d : Dev) (n v : Nat) : Within timerReach d (periodWrite d n v) :=
  Within.ite (fun _ => (within_updTimer d n _).trans (within_updTimer _ n _)) fun _ => within_updTimer d n _

theorem within_timerWrite (d : Dev) (n off v : Nat) : Within timerReach d (timerWrite d n off v) := by
  have hsettled := within_timerSettle d n
  unfold timerWrite
  dsimp only
  split
  case h_1 => exact hsettled.trans (within_timerControl _ n v)
  case h_3 => exact hsettled.trans (within_periodWrite _ n v)
  case h_13 => exact hsettled
  all_goals exact hsettled.trans (within_updTimer _ n _)

theorem within_groupStart (d : Dev) (c : Nat) : Within timerReach d (groupStart d c) := by
  unfold groupStart
  refine Within.trans ?_ (within_updStart _ c _)
  exact (Within.refl d).foldl _ fun _ k _ h => h.trans (within_updTimer _ (8 * c + k) _)

theorem within_startMaskWrite (d : Dev) (c v : Nat) : Within timerReach d (startMaskWrite d c v) :=
  Within.ite (fun _ => ((within_updStart d c _).trans (within_updStart _ c _)).trans (within_groupStart _ c)) fun _ => within_updStart d c _

theorem within_clusterWrite (d : Dev) (c off v : Nat) : Within timerReach d (clusterWrite d c off v) :=
  Within.ite (fun _ => within_timerWrite d _ _ v) fun _ => Within.ite (fun _ => within_updStart d c _) fun _ =>
    Within.ite (fun _ => within_updStart d c _) fun _ => Within.ite (fun _ => within_startMaskWrite d c v) fun _ => .refl d

theorem within_captureRead (d : Dev) (n : Nat) : Within timerReach d (captureRead d n).1 := by
  unfold captureRead
  dsimp only
  split
  · exact .refl d
  · dsimp only
    exact within_updTimer d n _

theorem within_clusterRead (d : Dev) (c off : Nat) : Within timerReach d (clusterRead d c off).1 := by
  unfold clusterRead
  dsimp only
  split
  · split
    · exact within_captureRead d _
    · exact .refl d
  · split
    iterate 2 exact (Within.refl d).useFree
    all_goals exact .refl d

/-! ### Pipes and heads -/

/-- What a register access of any island changes (R11 to R16). -/
def registerReach : Reach where
  parts := retireReach.parts ++ [.islands, .time, .heads, .pipes, .movers]
  classes := retireReach.classes
  members := retireReach.members ++ [head_LOCKED_WRITES 0, evCtl_DOORBELL_REJECTS, blit_RINGS_ACTIVE, ring_FOREIGN_KICKS 0]
  counts := by decide

theorem within_updPipe (d : Dev) (p : Nat) (f : Pipe → Pipe) : Within registerReach d (updPipe d p f) := (Within.refl d).put .pipes (by decide) rfl

theorem within_updHead (d : Dev) (h : Nat) (f : HeadSt → HeadSt) : Within registerReach d (updHead d h f) :=
  (Within.refl d).put .heads (by decide) rfl

theorem within_countDropped (d : Dev) (prog : Ref) : Within registerReach d (countDropped d prog) :=
  Within.ite (fun _ => .refl d) fun _ => (Within.refl d).nSet _ (by decide)

theorem within_pipeWrite (d : Dev) (p off val line : Nat) (prog : Ref) (timed : Bool) :
    Within registerReach d (pipeWrite d p off val line prog timed) := by
  have hdropped := within_countDropped d prog
  have hno : Within registerReach d (if timed then countDropped d prog else d) := Within.ite (fun _ => hdropped) fun _ => .refl d
  unfold pipeWrite
  refine Within.ite (fun _ => hno) fun _ => Within.ite (fun _ => ?_) fun _ => Within.ite (fun _ => within_updPipe d p _) fun _ =>
    Within.ite (fun _ => within_updPipe d p _) fun _ => Within.ite (fun _ => ?_) fun _ => hno
  · exact Within.ite (fun _ => within_updPipe d p _) fun _ => Within.ite (fun _ => within_updPipe d p _) fun _ => hno
  · split
    · exact hdropped
    · split
      · exact hdropped
      · split
        · exact hdropped
        · exact Within.ite (fun _ => hdropped) fun _ => within_updPipe d p _

theorem within_headWrite (d : Dev) (h off val : Nat) (prog : Ref) (timed : Bool) (pos : Nat × Nat) :
    Within registerReach d (headWrite d h off val prog timed pos) :=
  Within.ite
    (fun _ => Within.ite (fun _ => (Within.refl d).nSet _ (by decide)) fun _ => Within.ite (fun _ => within_updHead d h _) fun _ =>
        within_updHead d h _)
    fun _ => Within.ite (fun _ => within_updHead d h _) fun _ => Within.ite (fun _ => within_updHead d h _) fun _ =>
      Within.ite (fun _ => within_countDropped d prog) fun _ => .refl d

/-- What a pipe has composed of a line and not yet sent composed anew (R186, R196, R232). -/
theorem within_recompose (d : Dev) (m : List Host.Cell) (h line col : Nat) : Within registerReach d (recompose d m h line col) := by
  unfold recompose
  exact within_updHead d h _

theorem within_pipeLand (d : Dev) (m : List Host.Cell) (p off val : Nat) (prog : Ref) (line col : Nat) (timed : Bool) :
    Within registerReach d (pipeLand d m p off val prog line col timed) := by
  have hwrite := within_pipeWrite d p off val line prog timed
  unfold pipeLand
  dsimp only
  split
  · exact Within.ite (fun _ => hwrite.trans (within_recompose _ m _ line col)) fun _ => hwrite
  · exact hwrite

/-! ### Doorbells -/

theorem within_updRing (d : Dev) (r : Nat) (f : Ring → Ring) : Within registerReach d (updRing d r f) := ((Within.refl d).put .movers
    (by decide) rfl).nSet _ (by decide)

theorem within_readProduce (d : Dev) (m : List Host.Cell) (r : Nat) (hd : SceneKeys d.scene.alloc) : Within retireReach d (readProduce d m r).1 := by
  have hread := within_readRange d (nGet d (ring_RING_ADDRESS r)) 4 6 hd
  unfold readProduce
  dsimp only
  split
  · exact hread.useFree
  · exact hread

theorem within_kickRing (d : Dev) (m : List Host.Cell) (r : Nat) (hd : SceneKeys d.scene.alloc) : Within registerReach d (kickRing d m r) :=
  Within.ite (fun _ => .refl d) fun _ => Within.ite (fun _ => within_updRing d r _) fun _ =>
    ((within_readProduce d m r hd).mono (by decide)).trans (within_updRing _ r _)

theorem within_doorbell (d : Dev) (m : List Host.Cell) (prog : Ref) (v : Nat) (hd : SceneKeys d.scene.alloc) :
    Within registerReach d (doorbell d m prog v) := by
  have hraise (n amt : Nat) : Within registerReach d (raiseBy d n amt) := (Within.refl d).raiseBy n amt
  refine Within.ite (fun _ => hraise _ _) fun _ => Within.ite (fun _ => Within.ite (fun _ => ?_) fun _ => (Within.refl d).nSet _ (by decide)) fun _ =>
      (Within.refl d).nSet _ (by decide)
  exact (hraise _ _).trans (within_kickRing _ m _ ((hraise _ _).keys hd))

/-! ### Islands -/

theorem within_applyReg (d : Dev) (m : List Host.Cell) (w : RegWrite) (hd : SceneKeys d.scene.alloc) : Within registerReach d (applyReg d m w) := by
  unfold applyReg
  refine Within.ite (fun _ => Within.ite (fun _ => (within_clusterRead d _ _).mono (by decide)) fun _ => .refl d) fun _ =>
    Within.ite (fun _ => within_pipeLand d m _ _ _ _ _ _ _) fun _ => Within.ite (fun _ => within_headWrite d _ _ _ _ _ _) fun _ =>
      Within.ite (fun _ => (within_clusterWrite d _ _ _).mono (by decide)) fun _ => Within.ite (fun _ => within_doorbell d m _ _ hd) fun _ => .refl d

theorem within_arriveReg (d : Dev) (m : List Host.Cell) (w : RegWrite) (hd : SceneKeys d.scene.alloc) : Within registerReach d (arriveReg d m w) := by
  have hoff : Within registerReach d (countOff d w.dst) :=
      Within.ite (fun _ => ((Within.refl d).nSet _ (by decide)).nSet _ (by decide)) fun _ => .refl d
  exact Within.ite (fun _ => hoff) fun _ => Within.ite (fun _ => (Within.refl d).put .islands (by decide) rfl) fun _ => within_applyReg d m w hd

theorem within_sendReg (d : Dev) (m : List Host.Cell) (w : RegWrite) (hd : SceneKeys d.scene.alloc) : Within registerReach d (sendReg d m w) :=
  Within.ite (fun _ => within_arriveReg d m w hd) fun _ => (Within.refl d).put .islands (by decide) rfl

end Sys2Proof.Machine
end

section
/-!
Instructions that store, wait and order, and LONG_OP_COMPLETE, within a reach (R319 to R330, R339 to R347, R375 to R383), and O49 from its
clauses.
-/
namespace Sys2Proof.Machine

/-! ### Waits, claims, fences, caches and posts -/

theorem ranWithin_waitPosEffect (s : State) (t : Nat) (w : Be32Op) : RanWithin issueReach s (waitPosEffect s t w) := by
  have hmirror : StepWithin issueReach s (withDev s (freeUsed s.dev)) := .ofDev (Within.refl _).useFree
  unfold waitPosEffect
  dsimp only
  split
  · exact .fault _
  · split
    · exact .fault _
    · split
      · exact .done hmirror _
      · exact .hold hmirror _

theorem within_claimFor (d : Dev) (t n : Nat) : Within issueReach d (claimFor d t n) := by
  unfold claimFor
  exact ((Within.refl d).claimSource n (t + 1)).trans (within_updThread _ t _)

theorem ranWithin_effWaitev (s : State) (t : Nat) (w : Be32Op) : RanWithin issueReach s (effWaitev s t w) := by
  unfold effWaitev waitEvEffect
  split
  · exact .done (.ofDev (within_claimFor _ t _)) none
  · exact .hold (.refl s) _

theorem ranWithin_fenceEffect (s : State) (t : Nat) (w : Be32Op) : RanWithin issueReach s (fenceEffect s t w) := by
  unfold fenceEffect
  split
  · exact .done (.refl s) none
  · exact .wait (.refl s)

theorem ranWithin_syncfEffect (s : State) (t : Nat) (w : Be32Op) : RanWithin issueReach s (syncfEffect s t w) := by
  have hfence := ranWithin_fenceEffect s t w
  unfold syncfEffect
  split
  · next heq =>
    rw [heq] at hfence
    obtain ⟨h⟩ := hfence
    split
    · exact .done (h.setDev ((Within.refl _).put .icache (by decide) rfl)) _
    · exact .done h _
  · exact hfence

theorem ranWithin_farbEffect (s : State) (t : Nat) (w : Be32Op) : RanWithin issueReach s (farbEffect s t w) := by
  have hset (v : Word) : StepWithin issueReach s (withThread s t (fun x => { x with farBase := v.toNat % 2 ^ 21 * 0x80000 })) :=
    (StepWithin.refl s).thread (by decide) t _
  unfold farbEffect
  dsimp only
  split
  · exact .done (hset _) none
  · exact ranWithin_withOperand (by decide) fun v => .done (hset v) none

theorem ranWithin_cinvEffect (s : State) (t : Nat) (w : Be32Op) : RanWithin issueReach s (cinvEffect s t w) := by
  unfold cinvEffect
  split
  · exact .done (.ofDev ((Within.refl _).put .dcache (by decide) rfl)) none
  · exact .done (.refl s) none

theorem ranWithin_cinvaEffect (s : State) (t : Nat) (w : Be32Op) : RanWithin issueReach s (cinvaEffect s t w) := by
  unfold cinvaEffect
  split
  · exact .done (.ofDev ((Within.refl _).put .dcache (by decide) rfl)) none
  · exact .done (.refl s) none

theorem ranWithin_postEffect (entry : Thread → Be32Op → Option Nat × Nat) (s : State) (t : Nat) (w : Be32Op) :
    RanWithin issueReach s (postEffect entry s t w) := by
  refine .done (.ofDev (Within.trans ?_ (within_updThread _ t _))) none
  exact Within.ite (fun _ => (Within.refl _).put .posts (by decide) rfl) fun _ => .refl _

/-! ### The beam port -/

/-- What a store through the beam port changes (R339, R340, R344 to R347). -/
def beamPortReach : Reach where
  parts := registerReach.parts ++ issueReach.parts
  classes := registerReach.classes
  members := registerReach.members ++ issueReach.members
  counts := by decide

theorem within_sendPort (d : Dev) (m : List Host.Cell) (t off : Nat) (v : Word) (l : List Nat) (hd : SceneKeys d.scene.alloc) :
    Within registerReach d (sendPort d m t off v l) := by
  cases l with
  | nil => exact .refl d
  | cons i l =>
    have hfirst := within_sendReg d m
      { src := t / 32, dst := i, addr := off, val := v, thread := t + 1, prog := (threadOf d t).prog, isRead := false } hd
    exact hfirst.foldl _ fun e j _ h => h.trans (within_sendReg e m _ (h.keys hd))

theorem ranWithin_portStore {s : State} (t : Nat) (w : Be32Op) (v : Word) (hs : SceneKeys s.dev.scene.alloc) :
    RanWithin beamPortReach s (portStore s t w v) := by
  unfold portStore
  split
  · exact .fault _
  · dsimp only
    split
    · exact .done (.ofDev ((within_countDropped _ _).mono (by decide))) none
    · exact .done (.ofDev ((within_sendPort _ _ t _ v _ hs).mono (by decide))) none

theorem within_countLate (d : Dev) (t pos : Nat) : Within registerReach d (countLate d t pos) := by
  refine Within.raise (Within.trace ?_ 8 t pos) _
  exact Within.ite (fun _ => .refl d) fun _ => (Within.refl d).nSet _ (by decide)

theorem within_holdTimed (d : Dev) (t off val frame line col : Nat) (l : List Nat) :
    Within registerReach d (holdTimed d t off val frame line col l) := by
  have hput (e : Dev) (isl : Nat) (x : List TimedWrite) : Within registerReach e (setTimed e isl x) := (Within.refl e).put .pipes (by decide) rfl
  cases l with
  | nil => exact .refl d
  | cons i l => exact (hput d i _).foldl _ fun e j _ h => h.trans (hput e j _)

theorem ranWithin_timedEffect {s : State} (t : Nat) (w : Be32Op) (hs : SceneKeys s.dev.scene.alloc) :
    RanWithin beamPortReach s (timedEffect s t w) := by
  have hlate (d : Dev) (pos off : Nat) (v : Word) (l : List Nat) (hd : Within registerReach s.dev d) :
      StepWithin beamPortReach s (withDev s (sendPort (countLate d t pos) s.mem t off v l)) := by
    have hcount := hd.trans (within_countLate d t pos)
    exact .ofDev ((hcount.trans (within_sendPort _ s.mem t off v l (hcount.keys hs))).mono (by decide))
  have hhold (d : Dev) (off val frame line col : Nat) (l : List Nat) (hd : Within registerReach s.dev d) :
      StepWithin beamPortReach s (withDev s (holdTimed d t off val frame line col l)) :=
    .ofDev ((hd.trans (within_holdTimed d t off val frame line col l)).mono (by decide))
  unfold timedEffect
  dsimp only
  split
  · exact .fault _
  · split
    · exact .done (.ofDev ((within_countDropped _ _).mono (by decide))) none
    · split
      · split
        · exact .done (hlate _ _ _ _ _ (.refl _)) none
        · split
          · exact .wait (.refl s)
          · exact .done (hhold _ _ _ _ _ _ _ (.refl _)) none
      · split
        · exact .done (hlate _ _ _ _ _ (Within.refl _).useFree) none
        · split
          · exact .wait (.ofDev ((Within.refl (R := beamPortReach) _).useFree.add (within_updThread _ t _) (by decide)))
          · exact .done (hhold _ _ _ _ _ _ _ (Within.refl _).useFree) none

/-! ### Stores to memory -/

/-- What a store of a thread changes, through the beam port or the far window or to the view (R321, R327 to R330, R339). -/
def storeReach : Reach where
  parts := .mem :: beamPortReach.parts
  classes := beamPortReach.classes
  members := beamPortReach.members ++ [migRep_MIG_SURFACE, migRep_MIG_DEST, migRep_MIG_COPIED, migRep_MIG_QUEUED, migRep_MIGRATIONS_ABORTED,
    chan_RMW_FAILS 0, mem_UNMAPPED_ACCESSES]
  counts := by decide

theorem within_reportMigration (d : Dev) : Within storeReach d (reportMigration d) := ((((Within.refl d).nSet _ (by decide)).nSet _
    (by decide)).nSet _ (by decide)).nSet _ (by decide)

theorem within_askRange (d : Dev) (cls unit a n : Nat) : Within issueReach d (askRange d cls unit a n) := by
  refine (Within.refl d).foldl _ fun e b _ h => ?_
  split
  · exact h.trans (within_askRead e _)
  · exact h

theorem within_nextMigration (d : Dev) (q : List Ref) : Within storeReach d (nextMigration d q) := by
  induction q generalizing d with
  | nil => exact (Within.refl d).put .stoker (by decide) rfl
  | cons o q ih =>
    unfold nextMigration
    split
    · exact (((Within.refl d).put .stoker (by decide) rfl).add (within_askRange _ 2 0 _ _) (by decide)).arm _ _ _
    · exact ih d

/-- The migration that a write touches is aborted, and the next one begins (R164). -/
theorem within_abortMigration (d : Dev) : Within storeReach d (abortMigration d) := by
  unfold abortMigration startMigration
  split
  · exact .refl d
  · have hnone : Within storeReach d { d with stoker.migration := none } := (Within.refl d).put .stoker (by decide) rfl
    have hcancelled : Within storeReach d (cancelReads { d with stoker.migration := none } 2 0) := hnone.put .dram (by decide) rfl
    have haborted : Within storeReach d (disarm (nInc
        (cancelReads { d with stoker.migration := none } 2 0) migRep_MIGRATIONS_ABORTED) tkMigration 0) :=
      (hcancelled.nSet _ (by decide)).disarm _ _
    refine Within.trans ?_ (within_reportMigration _)
    split
    · exact haborted
    · exact haborted.trans (within_nextMigration _ _)

theorem within_touchMigration (d : Dev) (a n : Nat) : Within storeReach d (touchMigration d a n) := by
  unfold touchMigration
  split
  · exact Within.ite (fun _ => within_abortMigration d) fun _ => .refl d
  · exact .refl d

theorem within_countWrite (R : Reach) (d : Dev) (a n cls : Nat) : Within R d (countWrite d a n cls) := by
  refine (Within.refl d).foldl _ fun e b _ h => ?_
  split
  · exact Within.ite (fun _ => h) fun _ => Within.ite (fun _ => ((h.countSignal _ 1).countSignal _ 1).countSignal _ 1) fun _ => h.countSignal _ 1
  · exact h

theorem within_correctPartial (d : Dev) (a n : Nat) : Within retireReach d (correctPartial d a n) := by
  refine (Within.refl d).foldl _ fun e b _ h => ?_
  split
  · exact Within.ite (fun _ => h) fun _ => h.trans (within_blockCorrected e _)
  · exact h

theorem within_fabricWrite (s : State) (a : Nat) (bs : List Byte) : Within storeReach s.dev (fabricWrite s a bs).dev := by
  have hcount : Within storeReach s.dev (if (List.range bs.length).any (fun i => !assigned s.dev (a + i)) then
      withDev s (nInc s.dev mem_UNMAPPED_ACCESSES) else s).dev := by
    split
    · exact (Within.refl _).nSet _ (by decide)
    · exact .refl _
  unfold fabricWrite
  rw [fabricPuts_dev]
  exact Within.put (Within.put (hcount.add (within_correctPartial _ a bs.length) (by decide)) .dram (by decide) rfl) .dram (by decide) rfl

theorem within_putRange (s : State) (cls a : Nat) (bs : List Byte) : Within storeReach s.dev (putRange s cls a bs).dev := by
  unfold putRange
  refine Within.trans ?_ (within_fabricWrite _ a bs)
  exact (within_touchMigration s.dev a bs.length).trans (within_countWrite _ _ a bs.length cls)

theorem within_failRmw (d : Dev) (a n master : Nat) (hd : SceneKeys d.scene.alloc) : Within storeReach d (failRmw d a n master) := by
  refine Within.foldl (Within.foldl (.refl d) _ fun e b _ h => ?_) _ fun e b _ h => ?_
  · split
    · exact h.nSet _ (by decide)
    · exact h
  · split
    · exact h.add (within_reportBad e b _ master 1 (h.keys hd)) (by decide)
    · exact h

theorem within_issueBell (d : Dev) (m : List Host.Cell) (t a : Nat) (v : Word) (hd : SceneKeys d.scene.alloc) :
    Within storeReach d (issueBell d m t a v) := by
  have hissued : Within storeReach d (farIssued d t) := (within_updThread d t _).mono (by decide)
  exact Within.ite (fun _ => hissued.add (within_sendReg _ m _ (hissued.keys hd)) (by decide)) fun _ => hissued.put .bells (by decide) rfl

/-- A step whose reach has memory. -/
theorem StepWithin.ofMem {R : Reach} {s u : State} (h : Within R s.dev u.dev) (hm : R.allParts.contains .mem = true) : StepWithin R s u :=
  ⟨fun hno => absurd (hno.symm.trans hm) Bool.false_ne_true, h⟩

theorem ranWithin_farStore {s : State} (t a : Nat) (bs : List Byte) (hs : SceneKeys s.dev.scene.alloc) :
    RanWithin storeReach s (farStore s t a bs) := by
  have hdropped (d : Dev) : Within storeReach d (dropWrite d t) := (within_countDropped d _).mono (by decide)
  have hrejected : StepWithin storeReach s (withDev s (rejectStore s.dev t)) := .ofDev ((Within.refl _).nSet _ (by decide))
  have hissued (d : Dev) : Within storeReach d (farIssued d t) := (within_updThread d t _).mono (by decide)
  unfold farStore
  dsimp only
  split
  · exact .done hrejected none
  · exact .done (.ofDev (within_issueBell _ _ t _ _ hs)) none
  · exact .done (.ofDev ((hissued _).add (within_arriveReg _ _ _ ((hissued _).keys hs)) (by decide))) none
  · exact .done (.ofDev (hdropped _)) none
  · split
    · exact .wait (.refl s)
    · split
      · exact .done hrejected none
      · split
        · exact .done (.ofDev ((within_failRmw _ a _ 4 hs).trans (hdropped _))) none
        · refine .done (.ofMem ((within_putRange s 4 a bs).trans (Within.trans ?_ (hissued _))) (by decide)) none
          unfold cacheStore
          split
          · exact .refl _
          · exact (Within.refl _).put .dcache (by decide) rfl

theorem within_pushStore (d : Dev) (t a : Nat) (bs : List Byte) : Within issueReach d (pushStore d t a bs) := by
  unfold pushStore
  exact within_updThread d t _

theorem ranWithin_storeEffect (n : Nat) (f : Thread → Word) {s : State} (t : Nat) (w : Be32Op) (hs : SceneKeys s.dev.scene.alloc) :
    RanWithin storeReach s (storeEffect n f s t w) := by
  have hwait := gotWithin_viewAddr s.dev t w
  unfold storeEffect
  dsimp only
  split
  · exact (ranWithin_portStore t w _ hs).mono (by decide)
  · exact ranWithin_farStore t _ _ hs
  · split
    · exact .fault _
    · next heq =>
      rw [heq] at hwait
      exact .wait (.ofDev (Within.mono (R := issueReach) hwait (by decide)))
    · split
      · exact .fault _
      · split
        · exact .wait (.refl s)
        · exact .done (.ofDev ((within_pushStore _ t _ _).mono (by decide))) none

/-- A store changes no more than its reach in the states that have objects of scene classes only. -/
theorem stepWithin_issue_storeEffect {n op t : Nat} {f : Thread → Word} {w : Be32Op} {s : State} (hs : SceneKeys s.dev.scene.alloc) :
    StepWithin storeReach s (issue (storeEffect n f) op t w s) :=
  stepWithin_issue (by decide) fun _ hu => ranWithin_storeEffect n f t w (hu.dev.keys hs)

theorem frameStA : FrameStA := by
  intro t w
  simp only [List.forall_mem_cons, List.not_mem_nil, false_imp_iff, implies_true, and_true]
  refine ⟨?_, ?_, ?_, ?_, ?_⟩
  all_goals
    intro s u hs hnext
    obtain rfl := Host.Outcome.next.inj hnext
    exact (stepWithin_issue_storeEffect hs).differOnly_of_sub rfl (by decide)

/-! ### LONG_OP_COMPLETE -/

/-- What an instruction changes, whichever it is. -/
def anyReach : Reach where
  parts := storeReach.parts
  classes := storeReach.classes
  members := storeReach.members ++ [evCtl_EOI_ERRORS]
  counts := by decide

theorem ranWithin_effEoi (s : State) (t : Nat) (w : Be32Op) : RanWithin anyReach s (effEoi s t w) := by
  refine .done (.ofDev ?_) none
  unfold eoi
  exact Within.ite (fun _ => (Within.refl _).endSource _) fun _ => (Within.refl _).nSet _ (by decide)

theorem ranWithin_effectOf (op : Nat) {s : State} (t : Nat) (w : Be32Op) (hs : SceneKeys s.dev.scene.alloc) :
    RanWithin anyReach s (effectOf op s t w) := by
  have hissue {r : Ran} (h : RanWithin issueReach s r) : RanWithin anyReach s r := h.mono (by decide)
  have hstore {r : Ran} (h : RanWithin storeReach s r) : RanWithin anyReach s r := h.mono (by decide)
  unfold effectOf
  split
  · exact hissue (ranWithin_effNop s t w)
  iterate 5 exact hissue (ranWithin_loadEffect _ _ s t w)
  iterate 5 exact hstore (ranWithin_storeEffect _ _ t w hs)
  · exact (ranWithin_timedEffect t w hs).mono (by decide)
  iterate 5 exact hissue (ranWithin_regEffect _ s t w)
  · exact hissue (ranWithin_effMvAt s t w)
  iterate 2 exact hissue (ranWithin_regEffect _ s t w)
  iterate 19 exact hissue (ranWithin_opEffect _ s t w)
  iterate 6 exact hissue (ranWithin_longEffect _ _ s t w)
  · exact hissue (ranWithin_jmpEffect s t w)
  · exact hissue (ranWithin_callEffect s t w)
  · exact hissue (ranWithin_retEffect s t w)
  · exact hissue (ranWithin_waitPosEffect s t w)
  · exact hissue (ranWithin_effWaitev s t w)
  · exact ranWithin_effEoi s t w
  · exact hissue (ranWithin_syncfEffect s t w)
  · exact hissue (ranWithin_fenceEffect s t w)
  · exact hissue (ranWithin_farbEffect s t w)
  · exact hissue (ranWithin_cinvEffect s t w)
  · exact hissue (ranWithin_cinvaEffect s t w)
  iterate 2 exact hissue (ranWithin_postEffect _ s t w)
  · exact hissue (ranWithin_effNop s t w)

theorem stepWithin_issue_effectOf (op t : Nat) (w : Be32Op) {s : State} (hs : SceneKeys s.dev.scene.alloc) :
    StepWithin anyReach s (issue (effectOf op) op t w s) :=
  stepWithin_issue (by decide) fun _ hu => ranWithin_effectOf op t w (hu.dev.keys hs)

/-- A waiting instruction that is tried again. -/
theorem stepWithin_retry (s : State) (t : Nat) (hs : SceneKeys s.dev.scene.alloc) : StepWithin anyReach s (retry s t) := by
  have hrun : StepWithin anyReach s (withThread s t (fun x => { x with state := .running })) := (StepWithin.refl s).thread (by decide) t _
  unfold retry
  split
  · exact hrun.trans (stepWithin_issue_effectOf _ t _ (hrun.dev.keys hs))
  · exact .refl s

theorem within_endLongs (d : Dev) (t : Nat) (longs left : List (Nat × Word)) (l : Word) : Within issueReach d (endLongs d t longs left l) := by
  obtain ⟨m, h⟩ := endLongs_shape t longs d left l
  rw [h]
  exact (Within.refl d).put .threads (by decide) rfl

theorem stepWithin_doLongOpComplete (t : Fin 384) (s : State) (hs : SceneKeys s.dev.scene.alloc) :
    StepWithin anyReach s (doLongOpComplete t s) := by
  unfold doLongOpComplete
  dsimp only
  split
  · have hended : StepWithin anyReach s (withDev s (endLongs s.dev t.val (threadOf s.dev t.val).longs [] (threadOf s.dev t.val).l)) :=
      .ofDev ((within_endLongs _ _ _ _ _).mono (by decide))
    exact hended.trans (stepWithin_retry _ _ (hended.dev.keys hs))
  · exact .refl s

theorem frameLongOpComplete : FrameLongOpComplete := by
  intro t s u hs hnext
  obtain rfl := Host.Outcome.next.inj hnext
  exact (stepWithin_doLongOpComplete t s hs).differOnly_of_sub rfl (by decide)

/-- Settles O49, clause by clause: what the issue of an instruction changes, what a store changes beside, and what an instruction that waited
for L and issues may change. -/
theorem frameBeamArithmetic : Obligations.FrameBeamArithmetic := ⟨frameNop, frameStA, frameLongOpComplete⟩

end Sys2Proof.Machine
end

section
/-!
AUDIO packets whose time is the present nanosecond (R552, R588): the timebase counts fractions of it, so that the time of a first frame may have
passed although its whole nanoseconds equal those of the timebase.
-/
namespace Sys2Proof.Machine

/-- A READY receive lane 0 in block lock, 2^-32 ns past the timebase's start. -/
def fractionLane : State :=
  withDev State.reset
    { updLane (nSets Dev.reset [(lane_DIRECTION 0, 2), (lane_STATE 0, 6)]) 0 (fun x => { x with blockLock := true }) with tb := 1 }

/-- An AUDIO packet of stream 0 with one frame of one channel at 48 kHz, which plays at 0 ns. -/
def zeroTimePacket : List Byte := (audioPacket 0 1 0 0 [[0, 5]]).bytes

/-- The payload of that packet. -/
def zeroTimeBody : List Byte := leBytes 8 0 ++ sampleWord 5

theorem whenRxAudioPacket_fractionLane : WhenRxAudioPacket fractionLane 0 zeroTimePacket zeroTimeBody 0 1 0 1 0 := by
  decide +kernel

/-- The key of the packet's channel among the streams (R553). -/
abbrev zeroTimeChannel : Nat := 1024 + 32 * (0 : Fin 32).val + 8 * 0 + 0

theorem heard_fractionLane : mapGet fractionLane.dev.audio.heard zeroTimeChannel [] = [] := rfl

/-- The one frame is late, and its sample is not kept. -/
theorem heard_zeroTimePacket : mapGet (doRxAudioPacket 0 zeroTimePacket fractionLane.dev).audio.heard zeroTimeChannel [] = [] := by
  decide +kernel

/-- Refutes O44: RxAudioPacketDoes compares the packet's time with the timebase in whole nanoseconds, where the model counts its fractions too
(the hypothesis s.dev.tb ≤ t * 2 ^ 32 is missing). In `fractionLane` the packet's frame is late by 2^-32 ns and nothing is kept of it, where
the statement wants one sample in the queue of its channel. -/
theorem not_audioBlock : ¬ Obligations.AudioBlock := by
  unfold Obligations.AudioBlock
  rintro ⟨-, -, -, -, -, -, -, -, -, -, -, -, haudio, -⟩
  obtain ⟨u, hexec, hkept⟩ := haudio _ _ _ _ _ _ _ _ _ whenRxAudioPacket_fractionLane
  obtain rfl : withDev fractionLane (doRxAudioPacket 0 zeroTimePacket fractionLane.dev) = u := Host.Outcome.next.inj hexec
  have hlength := (hkept 0 one_pos).2
  rw [withDev_dev, heard_zeroTimePacket, heard_fractionLane] at hlength
  exact absurd hlength (by decide)

end Sys2Proof.Machine
end

section
/-!
LINE packets of an input whose own object stands among the allocated ones (R91, R420): when the frame is complete the leases are worked out anew,
and that object is released as one whose FREE was deferred.
-/
namespace Sys2Proof.Machine

/-- A video input 0 on a READY receive lane 0, which writes into buffer 0 of surface 13:0001 and has counted a damaged line. Its object 38:0000 is
among the allocated objects as FREEING; no command allocates objects outside the scene classes (R87). -/
def strayInputState : State :=
  withDev State.reset { nSets Dev.reset [(lane_DIRECTION 0, 2), (lane_STATE 0, 6), (vin_LANE 0, 0), (vin_WRITING 0, 0), (vin_STREAM_STATE 0, 3),
      (vin_FORMAT 0, 2), (vin_WIDTH 0, 16), (vin_HEIGHT 0, 1), (vin_LINES_DAMAGED 0, 1), (surf_FORMAT 1, 2), (surf_WIDTH 1, 16),
      (surf_HEIGHT 1, 1), (surf_ADDRESS 1, 0x1000000000), (surf_LOCATION 1, 2)] with
    dram.ready := true
    lanes.lane := [(0, { LaneSt.reset with blockLock := true })]
    lanes.input := [(0, { VideoIn.reset with surface := mref 0x13 1 0 })]
    scene.alloc := [(mref 0x38 0 0, 2)] }

/-- A LINE packet of octets 8 to 15 of active line 0, the last of its line. -/
def lastLinePacket : List Byte := linePacket 0 8 16 0 (octets [1, 2, 3, 4, 5, 6, 7, 8])

theorem whenRxLinePacket_strayInputState :
    WhenRxLinePacket strayInputState 0 lastLinePacket 0 8 0 8 0x1000000000 := by
  decide +kernel

theorem damaged_strayInputState : nGet strayInputState.dev (vin_LINES_DAMAGED (0 : Fin 16).val) = 1 := by
  decide +kernel

/-- The release puts the input's members back at their defaults. -/
theorem damaged_strayInput_completed :
    nGet (doRxLinePacket 0 lastLinePacket strayInputState).dev (vin_LINES_DAMAGED (0 : Fin 16).val) = 0 := by
  decide +kernel

/-- Refutes O41: the conditions of RxLinePacketDoes allow a device whose allocated objects are not of the scene classes (the hypothesis
SceneAlloc s.dev is missing, which every step keeps). In `strayInputState` the packet ends its frame, and the release of the input's own
object puts LINES_DAMAGED back at 0, where the statement wants it to stay 1. -/
theorem not_receiveLanesAndPower : ¬ Obligations.ReceiveLanesAndPower := by
  unfold Obligations.ReceiveLanesAndPower
  rintro ⟨-, -, -, -, -, -, -, hline, -⟩
  obtain ⟨u, hexec, -, -, hdamaged⟩ := hline _ _ _ _ _ _ _ _ whenRxLinePacket_strayInputState
  obtain rfl : doRxLinePacket 0 lastLinePacket strayInputState = u := Host.Outcome.next.inj hexec
  rw [damaged_strayInput_completed, damaged_strayInputState] at hdamaged
  exact absurd hdamaged (by decide)

end Sys2Proof.Machine
end

section
/-!
Lanes (link chapter): what an operation keeps of the lane members and of the lanes, and what training, the power output and the blocks that leave
a lane do to them (R385, R389 to R391, R403, R415 to R417, R423).
-/
namespace Sys2Proof.Machine

/-! ### What keeps the lanes -/

/-- A lane without its queues of protected packets. -/
def LaneSt.bare (x : LaneSt) : LaneSt := { x with modeQ := [], sigQ := [], ctrlQ := [] }

/-- A device e with the lane members of d and with its lanes, which may have taken more protected packets into their queues. -/
structure KeepsLanes (d e : Dev) : Prop where
  member : ∀ i m, mGet e (mref 0x30 i m) = mGet d (mref 0x30 i m)
  lane : ∀ l, (laneOf e l).bare = (laneOf d l).bare

@[simp] theorem laneOf_updLane_same (d : Dev) (l : Nat) (f : LaneSt → LaneSt) : laneOf (updLane d l f) l = f (laneOf d l) :=
  mapGet_mapSet_same ..

theorem laneOf_updLane_other (d : Dev) {l k : Nat} (f : LaneSt → LaneSt) (h : k ≠ l) : laneOf (updLane d l f) k = laneOf d k :=
  mapGet_mapSet_other _ _ _ _ h

theorem laneOf_congr {d e : Dev} (h : e.lanes = d.lanes) (l : Nat) : laneOf e l = laneOf d l := by simp only [laneOf, h]

namespace KeepsLanes

variable {d e f : Dev}

theorem refl (d : Dev) : KeepsLanes d d := ⟨fun _ _ => rfl, fun _ => rfl⟩

theorem trans (h : KeepsLanes d e) (h' : KeepsLanes e f) : KeepsLanes d f :=
  ⟨fun i m => (h'.member i m).trans (h.member i m), fun l => (h'.lane l).trans (h.lane l)⟩

/-- Parts that hold neither members nor lanes may change. -/
theorem of_same (hobjs : e.objs = d.objs) (hlanes : e.lanes.lane = d.lanes.lane) : KeepsLanes d e :=
  ⟨fun _ _ => mGet_congr hobjs _, fun l => by simp only [laneOf, hlanes]⟩

theorem mSet (d : Dev) {r : Ref} (hr : refClass r ≠ 0x30) (v : Val) : KeepsLanes d (mSet d r v) :=
  ⟨fun i m => mGet_mSet_other d v fun h => hr (by rw [← h, refClass_mref]), fun l => by simp only [laneOf, mSet_lanes]⟩

theorem nSet (d : Dev) {c i m : Nat} (n : Nat) (hc : c % 256 ≠ 0x30) : KeepsLanes d (nSet d (mref c i m) n) :=
  mSet d (by rwa [refClass_mref]) _

theorem nSets (d : Dev) (l : List (Ref × Nat)) (hl : ∀ x ∈ l, refClass x.1 ≠ 0x30) : KeepsLanes d (nSets d l) := by
  induction l generalizing d with
  | nil => exact refl d
  | cons x l ih => exact (mSet d (hl x List.mem_cons_self) _).trans (ih _ fun y hy => hl y (List.mem_cons_of_mem x hy))

theorem updLane (d : Dev) (l : Nat) {f : LaneSt → LaneSt} (hf : ∀ x, (f x).bare = x.bare) : KeepsLanes d (updLane d l f) := by
  refine ⟨fun _ _ => rfl, fun k => ?_⟩
  by_cases hk : k = l
  · rw [hk, laneOf_updLane_same, hf]
  · rw [laneOf_updLane_other d f hk]

theorem foldl {α : Type} {step : Dev → α → Dev} {l : List α} (hstep : ∀ a ∈ l, ∀ d, KeepsLanes d (step d a)) (d : Dev) :
    KeepsLanes d (l.foldl step d) := by
  induction l generalizing d with
  | nil => exact refl d
  | cons a l ih => exact (hstep a List.mem_cons_self d).trans (ih (fun b hb => hstep b (List.mem_cons_of_mem a hb)) _)

theorem ite {c : Prop} [Decidable c] (ht : KeepsLanes d e) (hf : KeepsLanes d f) : KeepsLanes d (if c then e else f) := by
  split
  · exact ht
  · exact hf

/-- A step that may be left out. -/
theorem whenever {c : Prop} [Decidable c] (ht : KeepsLanes d e) : KeepsLanes d (if c then e else d) := ite ht (refl d)

theorem whenNot {c : Prop} [Decidable c] (hf : KeepsLanes d e) : KeepsLanes d (if c then d else e) := ite (refl d) hf

theorem nGet (h : KeepsLanes d e) (i m : Nat) : nGet e (mref 0x30 i m) = nGet d (mref 0x30 i m) := by
  simp only [Machine.nGet, h.member]

/-- A field of a lane that its queues of protected packets are no part of. -/
theorem field {β : Type} (h : KeepsLanes d e) (g : LaneSt → β) (hg : ∀ x, g x.bare = g x) (l : Nat) : g (laneOf e l) = g (laneOf d l) := by
  rw [← hg, h.lane, hg]

end KeepsLanes

theorem MembersOnly.lanes {d e : Dev} (h : MembersOnly d e) : e.lanes = d.lanes := (congrArg Dev.lanes h :)

/-- Events, observation and traces keep the lanes. -/
theorem keepsLanes_of_quiet {d e : Dev} (hquiet : KeepsQuiet d e) (hmembers : MembersOnly d e) : KeepsLanes d e :=
  ⟨fun _ _ => hquiet.member _ (by simp [QuietMember]), fun l => by rw [laneOf_congr hmembers.lanes]⟩

theorem keepsLanes_raise (d : Dev) {n : Nat} (hn : n < 1024) : KeepsLanes d (raise d n) :=
  keepsLanes_of_quiet (keepsQuiet_raiseBy d hn 1) (membersOnly_raiseBy d n 1)

theorem keepsLanes_serviceLog (d : Dev) (kind unit detail : Nat) : KeepsLanes d (serviceLog d kind unit detail) := by
  refine .nSets d _ ?_
  simp [svcLog_TIME, svcLog_KIND, svcLog_UNIT, svcLog_DETAIL, svc_LOG_NEXT, svc_LOG_ENTRIES]

theorem keepsLanes_pushProtected (d : Dev) (l typ sub : Nat) (payload : List Byte) : KeepsLanes d (pushProtected d l typ sub payload) :=
  .whenNot (.ite (.updLane d l fun _ => rfl) (.ite (.whenever (.updLane d l fun _ => rfl)) (.updLane d l fun _ => rfl)))

theorem keepsLanes_sendCtrl (d : Dev) (h channel : Nat) (payload : List Byte) : KeepsLanes d (sendCtrl d h channel payload) :=
  keepsLanes_pushProtected d _ _ _ _

theorem keepsLanes_updPanel (d : Dev) (h : Nat) (f : PanelSt → PanelSt) : KeepsLanes d (updPanel d h f) := .of_same rfl rfl
theorem keepsLanes_arm (d : Dev) (kind i dt : Nat) : KeepsLanes d (arm d kind i dt) := .of_same rfl rfl
theorem keepsLanes_disarm (d : Dev) (kind i : Nat) : KeepsLanes d (disarm d kind i) := .of_same rfl rfl

theorem keepsLanes_sendIdRequest (d : Dev) (h : Nat) : KeepsLanes d (sendIdRequest d h) := by
  have hnonce : KeepsLanes d (updPanel (freeUsedN d 32) h fun x => { x with nonce := randomOctets d 32, attempts := x.attempts + 1 }) := .of_same rfl rfl
  exact (hnonce.trans (keepsLanes_sendCtrl _ h 1 _)).trans (keepsLanes_arm _ _ _ _)

theorem keepsLanes_startIdentity (d : Dev) (h : Nat) : KeepsLanes d (startIdentity d h) :=
  (((KeepsLanes.nSet d _ (by decide)).trans (.nSet _ _ (by decide))).trans (keepsLanes_updPanel _ h _)).trans (keepsLanes_sendIdRequest _ h)

theorem keepsLanes_lookLanes (d : Dev) (h : Nat) : KeepsLanes d (lookLanes d h) := by
  refine .whenever ?_
  unfold anchorHead
  split
  · exact .refl d
  · exact .of_same rfl rfl

/-! ### Members of a lane that is written -/

theorem nGet_nSet_member (d : Dev) {c i m c' i' m' : Nat} (n : Nat) (h : m' % 256 ≠ m % 256) :
    nGet (nSet d (mref c i m) n) (mref c' i' m') = nGet d (mref c' i' m') :=
  nGet_nSet_other d n (mref_ne_of_member h)

theorem nGet_nSet_class (d : Dev) {c i m c' i' m' : Nat} (n : Nat) (h : c' % 256 ≠ c % 256) :
    nGet (nSet d (mref c i m) n) (mref c' i' m') = nGet d (mref c' i' m') :=
  nGet_nSet_other d n fun he => h (by simpa using congrArg refClass he)

@[simp] theorem nGet_updLane (d : Dev) (l : Nat) (f : LaneSt → LaneSt) (q : Ref) : nGet (updLane d l f) q = nGet d q := nGet_congr rfl q
@[simp] theorem nGet_laneQuiet (d : Dev) (l : Nat) (q : Ref) : nGet (laneQuiet d l) q = nGet d q := nGet_congr rfl q
@[simp] theorem laneOf_laneQuiet (d : Dev) (l k : Nat) : laneOf (laneQuiet d l) k = laneOf d k := rfl
@[simp] theorem laneOf_arm (d : Dev) (kind i dt k : Nat) : laneOf (arm d kind i dt) k = laneOf d k := rfl
@[simp] theorem laneOf_disarm (d : Dev) (kind i k : Nat) : laneOf (disarm d kind i) k = laneOf d k := rfl
@[simp] theorem laneOf_emit (d : Dev) (o : Output) (k : Nat) : laneOf (emit d o) k = laneOf d k := rfl
@[simp] theorem laneOf_nSet (d : Dev) (r : Ref) (n k : Nat) : laneOf (nSet d r n) k = laneOf d k := laneOf_congr (nSet_lanes d r n) k
@[simp] theorem laneOf_nAdd (d : Dev) (r : Ref) (n k : Nat) : laneOf (nAdd d r n) k = laneOf d k := laneOf_nSet d r _ k
@[simp] theorem laneOf_countSignal (d : Dev) (sel n k : Nat) : laneOf (countSignal d sel n) k = laneOf d k :=
  laneOf_congr (membersOnly_countSignal d sel n).lanes k

@[simp] theorem laneOf_setLaneState (d : Dev) (l st k : Nat) : laneOf (setLaneState d l st) k = laneOf d k := by
  unfold setLaneState
  split
  · rfl
  · exact (laneOf_congr (membersOnly_trace _ _ _ _).lanes k).trans (laneOf_nSet _ _ _ _)

/-- A new STATE leaves a trace (R726), which keeps every member that is not observation's. -/
theorem nGet_setLaneState (d : Dev) (l st : Nat) {q : Ref} (hq : QuietMember q) :
    nGet (setLaneState d l st) q = nGet (nSet d (lane_STATE l) st) q := by
  unfold setLaneState
  split
  case isTrue h =>
    by_cases hne : q = lane_STATE l
    · rw [hne, h, nGet_nSet_same]
    · rw [nGet_nSet_other _ _ hne]
  case isFalse => exact (keepsQuiet_trace _ _ _ _).nGet hq

theorem quietMember_lane (i m : Nat) : QuietMember (mref 0x30 i m) := by simp [QuietMember]

@[simp] theorem nGet_setLaneState_STATE (d : Dev) (l st : Nat) : nGet (setLaneState d l st) (lane_STATE l) = st :=
  (nGet_setLaneState d l st (quietMember_lane l 3)).trans (nGet_nSet_same _ _ _)

theorem nGet_setLaneState_member (d : Dev) (l st i : Nat) {m : Nat} (h : m % 256 ≠ 3) :
    nGet (setLaneState d l st) (mref 0x30 i m) = nGet d (mref 0x30 i m) :=
  (nGet_setLaneState d l st (quietMember_lane i m)).trans (nGet_nSet_member d st (by simpa using h))

/-- The power output's own members are POC_STATE and POC_MA, members 8 and 9 (R423, R426). -/
theorem nGet_pocLook_member (d : Dev) (l i : Nat) {m : Nat} (hstate : m % 256 ≠ 8) (hma : m % 256 ≠ 9) :
    nGet (pocLook d l) (mref 0x30 i m) = nGet d (mref 0x30 i m) := by
  have hoff : nGet (pocOff d l) (mref 0x30 i m) = nGet d (mref 0x30 i m) := by
    unfold pocOff
    split
    · exact (nGet_nSet_member _ _ (by simpa using hma)).trans (nGet_nSet_member _ _ (by simpa using hstate))
    · rfl
  unfold pocLook
  split
  · exact hoff
  · split
    · exact nGet_nSet_member _ _ (by simpa using hstate)
    · rfl

theorem keepsLanes_streamStates (d : Dev) (l : Nat) : KeepsLanes d (streamStates d l) :=
  .foldl (fun _ _ e => .nSet e _ (by decide)) d

end Sys2Proof.Machine
end

section
/-!
Training (R385, R413, R415 to R417): how a lane starts, ends, fails and repeats its training. Clauses of O40.
-/
namespace Sys2Proof.Machine

variable {d : Dev} {l : Nat}

/-- The state in which a lane's training begins: a lane whose power output ramps waits for it (R415, R423). -/
abbrev firstState (d : Dev) (l : Nat) : Nat := if nGet d (lane_POC_STATE l) = 1 then 1 else 2

/-- A lane with its queues, its progress and its locks as training begins (R415, R417). -/
def trainReset (now : Nat) (x : LaneSt) : LaneSt :=
  { x with again := x.unacked, timeouts := 0, step := 0, entries := 0, presetErrors := List.replicate 8 0, trainStart := now,
           locked := false, blockLock := false }

/-- A device as a lane's training begins, but for PRESET, STATE and the deadline that follows. -/
def trainBegun (d : Dev) (l : Nat) : Dev :=
  let e := pocLook (laneQuiet d l) l
  updLane (updLane e (queueLane e l) fun x => { x with lineQ := [], sigQ := [], audioQ := [] }) l (trainReset e.now)

theorem nGet_trainBegun (d : Dev) (l : Nat) (q : Ref) : nGet (trainBegun d l) q = nGet (pocLook (laneQuiet d l) l) q := nGet_congr rfl q

/-- A device as a lane's training begins, but for the deadline that follows. -/
def trainNamed (d : Dev) (l : Nat) : Dev :=
  setLaneState (nSet (trainBegun d l) (lane_PRESET l) 4) l (firstState (trainBegun d l) l)

theorem startTrain_eq (d : Dev) (l : Nat) : startTrain d l =
    if nGet (trainNamed d l) (lane_DIRECTION l) = 1 then arm (trainNamed d l) tkTrainEnd l (ms 10)
    else streamStates (arm (trainNamed d l) tkStatusSend l (ms 1)) l := rfl

theorem keepsLanes_startTrain (d : Dev) (l : Nat) : KeepsLanes (trainNamed d l) (startTrain d l) := by
  rw [startTrain_eq]
  exact .ite (keepsLanes_arm _ _ _ _) ((keepsLanes_arm _ _ _ _).trans (keepsLanes_streamStates _ l))

theorem nGet_startTrain_POC_STATE (d : Dev) (l : Nat) :
    nGet (startTrain d l) (lane_POC_STATE l) = nGet (trainBegun d l) (lane_POC_STATE l) :=
  (((keepsLanes_startTrain d l).nGet l 8).trans (nGet_setLaneState_member _ _ _ _ (by decide))).trans (nGet_nSet_member _ _ (by decide))

theorem nGet_startTrain_STATE (d : Dev) (l : Nat) : nGet (startTrain d l) (lane_STATE l) = firstState (startTrain d l) l := by
  rw [firstState, nGet_startTrain_POC_STATE]
  exact ((keepsLanes_startTrain d l).nGet l 3).trans (nGet_setLaneState_STATE _ _ _)

theorem nGet_startTrain_PRESET (d : Dev) (l : Nat) : nGet (startTrain d l) (lane_PRESET l) = 4 :=
  (((keepsLanes_startTrain d l).nGet l 5).trans (nGet_setLaneState_member _ _ _ _ (by decide))).trans (nGet_nSet_same _ _ _)

/-- Training writes STATE, PRESET, POC_STATE and POC_MA, members 3, 5, 8 and 9. -/
theorem nGet_startTrain_member (d : Dev) (l i : Nat) {m : Nat} (h : m % 256 ∉ [3, 5, 8, 9]) :
    nGet (startTrain d l) (mref 0x30 i m) = nGet d (mref 0x30 i m) := by
  simp only [List.mem_cons, List.not_mem_nil, or_false, not_or] at h
  obtain ⟨hstate, hpreset, hpoc, hma⟩ := h
  rw [(keepsLanes_startTrain d l).nGet, trainNamed, nGet_setLaneState_member _ _ _ _ hstate, lane_PRESET, nGet_nSet_member _ _ (by simpa using hpreset),
    nGet_trainBegun, nGet_pocLook_member _ _ _ hpoc hma, nGet_laneQuiet]

/-! ### DIRECTION and the start of training (R385, R415) -/

theorem nGet_laneOff_STATE (d : Dev) (l : Nat) : nGet (laneOff d l) (lane_STATE l) = 0 := nGet_setLaneState_STATE _ _ _

theorem nGet_laneOff_member (d : Dev) (l i : Nat) {m : Nat} (h : m % 256 ≠ 3) :
    nGet (laneOff d l) (mref 0x30 i m) = nGet d (mref 0x30 i m) :=
  nGet_setLaneState_member _ _ _ _ h

theorem nGet_setDirection_DIRECTION (d : Dev) (l v : Nat) : nGet (setDirection d l v) (lane_DIRECTION l) = v := by
  have hoff : nGet (laneOff (nSet d (lane_DIRECTION l) v) l) (lane_DIRECTION l) = v :=
    (nGet_laneOff_member _ _ _ (by decide)).trans (nGet_nSet_same _ _ _)
  unfold setDirection
  split
  · exact hoff
  · exact (nGet_startTrain_member _ _ _ (by decide)).trans hoff

theorem nGet_setDirection_STATE (d : Dev) (l v : Nat) :
    nGet (setDirection d l v) (lane_STATE l) = if v = 0 then 0 else firstState (setDirection d l v) l := by
  unfold setDirection
  split
  · exact nGet_laneOff_STATE _ _
  · exact nGet_startTrain_STATE _ _

/-- No member of a lane is an action (R426). -/
theorem actionResult_lane (l m : Nat) (x : Dev × Status × List Byte) : actionResult (mref 0x30 l m) x = x := by
  have htable : ∀ row ∈ dict30, row.acc ≠ .x := by decide
  cases hrow : rowOf (mref 0x30 l m) with
  | none => simp only [actionResult, hrow]
  | some row =>
    have hmem := List.mem_of_find?_eq_some hrow
    rw [refClass_mref] at hmem
    exact actionResult_of_member hrow (htable row hmem) x

theorem laneDirectionWriteDoes : LaneDirectionWriteDoes := by
  rintro s sess l v ⟨hgate, hv, hused, hroom⟩
  have hfew : ¬ (v = 2 ∧ 16 ≤ ((List.range 32).filter (fun k => decide (k ≠ l.val) && decide (nGet s.dev (lane_DIRECTION k) = 2))).length) :=
    fun ⟨h2, hmany⟩ => absurd (hroom h2) (Nat.not_lt.mpr hmany)
  have hop : laneWrite s.dev l.val 1 v = (setDirection s.dev l.val v, .ok, []) := by
    simp only [laneWrite, if_true, if_neg (Nat.not_lt.mpr hv), hused, Bool.false_eq_true, if_false, if_neg hfew]
  have hans := withGate_answer (op := fun d => laneWrite d l.val 1 v) hgate ((actionResult_lane _ _ _).trans hop)
  refine ⟨_, rfl, ((hans _).1).trans (nGet_setDirection_DIRECTION _ _ _), (hans 0).2, ((hans _).1).trans ?_⟩
  rw [nGet_setDirection_STATE]
  exact congrArg (fun n => if v = 0 then 0 else if n = 1 then 1 else 2) (hans _).1.symm

theorem laneTrainingStartDoes : LaneTrainingStartDoes := fun s l hw =>
  completes_of_dev rfl (if_pos hw) ⟨nGet_startTrain_STATE s.dev l.val, nGet_startTrain_PRESET s.dev l.val⟩

/-! ### The steps of training (R415) -/

theorem backChannelLockDoes : BackChannelLockDoes := by
  intro s l hw
  refine completes_of_dev rfl (if_pos hw) ⟨?_, ?_, ?_⟩
  · simp
  · simp only [withDev_dev, nGet_arm, nGet_updLane]
    exact (nGet_setLaneState_member _ _ _ _ (by decide)).trans (nGet_nSet_same _ _ _)
  · simp

theorem presetStepExpiryDoes : PresetStepExpiryDoes := by
  rintro s l ⟨hstate, hdir, hdue, hleft⟩
  have hexec : doPresetStepExpiry l s.dev =
      arm (nSet (updLane s.dev l.val (fun x => { x with step := (laneOf s.dev l.val).step + 1 })) (lane_PRESET l.val)
        ((laneOf s.dev l.val).step + 1)) tkTrain l.val (ms 1) := by
    unfold doPresetStepExpiry
    dsimp only
    rw [if_neg (by simp [hstate, hdir, hdue]), if_pos hleft]
  refine completes_of_dev rfl hexec ⟨?_, ?_, ?_⟩
  · simp
  · simp
  · simpa [lane_STATE, lane_PRESET, nGet_nSet_member] using hstate

theorem presetStepExpiryChosenDoes : PresetStepExpiryChosenDoes := by
  rintro s l p ⟨hstate, hdir, hdue, hlast, hbest⟩
  have hexec : ∃ left, doPresetStepExpiry l s.dev =
      arm (disarm (setLaneState (nSet (updLane s.dev l.val (fun x => { x with step := (laneOf s.dev l.val).step + 1 })) (lane_PRESET l.val) p)
        l.val 4) tkTrain l.val) tkTrainEnd l.val left := by
    refine ⟨(laneOf s.dev l.val).trainStart + ms 22 - s.dev.now, ?_⟩
    unfold doPresetStepExpiry
    dsimp only
    rw [if_neg (by simp [hstate, hdir, hdue]), if_neg (Nat.not_lt.mpr hlast)]
    simp only [laneOf_updLane_same, hbest]
    rfl
  obtain ⟨left, hexec⟩ := hexec
  refine completes_of_dev rfl hexec ⟨?_, ?_⟩
  · simp only [withDev_dev, nGet_arm, nGet_disarm]
    exact (nGet_setLaneState_member _ _ _ _ (by decide)).trans (nGet_nSet_same _ _ _)
  · simp

/-! ### Training that fails (R416) -/

/-- A device whose training has failed, before the event that says so. -/
def trainFailed (d : Dev) (l reason : Nat) : Dev :=
  arm (setLaneState (updLane (nInc (nSet (laneQuiet d l) (lane_TRAIN_RESULT l) reason) (lane_TRAIN_FAILS l)) l
    (fun x => { x with downRaised := true, locked := false })) l 7) tkRetry l (ms 100)

theorem failTrain_eq (d : Dev) (l reason : Nat) :
    failTrain d l reason = if (laneOf d l).downRaised then trainFailed d l reason else raise (trainFailed d l reason) (640 + 2 * l) := rfl

theorem keepsLanes_failTrain (d : Dev) {l : Nat} (hl : l < 32) (reason : Nat) : KeepsLanes (trainFailed d l reason) (failTrain d l reason) := by
  rw [failTrain_eq]
  exact .whenNot (keepsLanes_raise _ (by omega))

theorem nGet_failTrain_STATE (d : Dev) {l : Nat} (hl : l < 32) (reason : Nat) : nGet (failTrain d l reason) (lane_STATE l) = 7 :=
  ((keepsLanes_failTrain d hl reason).nGet l 3).trans (nGet_setLaneState_STATE _ _ _)

theorem nGet_failTrain_TRAIN_RESULT (d : Dev) {l : Nat} (hl : l < 32) (reason : Nat) :
    nGet (failTrain d l reason) (lane_TRAIN_RESULT l) = reason :=
  calc nGet (failTrain d l reason) (lane_TRAIN_RESULT l) = nGet (trainFailed d l reason) (lane_TRAIN_RESULT l) :=
        (keepsLanes_failTrain d hl reason).nGet l 4
    _ = nGet (nSet (laneQuiet d l) (lane_TRAIN_RESULT l) reason) (lane_TRAIN_RESULT l) :=
        (nGet_setLaneState_member _ _ _ _ (by decide)).trans (nGet_nSet_member _ _ (by decide))
    _ = reason := nGet_nSet_same _ _ _

theorem nGet_failTrain_TRAIN_FAILS (d : Dev) {l : Nat} (hl : l < 32) (reason : Nat) :
    nGet (failTrain d l reason) (lane_TRAIN_FAILS l) = satAdd 32 (nGet d (lane_TRAIN_FAILS l)) 1 :=
  calc nGet (failTrain d l reason) (lane_TRAIN_FAILS l) = nGet (trainFailed d l reason) (lane_TRAIN_FAILS l) :=
        (keepsLanes_failTrain d hl reason).nGet l 15
    _ = satAdd 32 (nGet (nSet (laneQuiet d l) (lane_TRAIN_RESULT l) reason) (lane_TRAIN_FAILS l)) 1 :=
        (nGet_setLaneState_member _ _ _ _ (by decide)).trans (nGet_nSet_same _ _ _)
    _ = satAdd 32 (nGet d (lane_TRAIN_FAILS l)) 1 := congrArg (fun n => satAdd 32 n 1) (nGet_nSet_member _ _ (by decide))

theorem armed_failTrain (d : Dev) {l : Nat} (hl : l < 32) (reason : Nat) : armed (failTrain d l reason) tkRetry l = true := by
  have harmed : armed (trainFailed d l reason) tkRetry l = true := by simp [armed, trainFailed]
  have hkey : QuietKey (timerKey tkRetry l) := by
    rw [QuietKey, timerKey_div (by omega)]
    decide
  rw [failTrain_eq]
  split
  · exact harmed
  · exact ((keepsQuiet_raiseBy _ (by omega) 1).armed hkey).trans harmed

/-- The reason of a training that its deadline ends (R416): none in the Ready phase (assumption log 144). -/
abbrev missedReason (d : Dev) (l : Nat) : Nat :=
  if 4 ≤ nGet d (lane_STATE l) ∧ (laneOf d l).locked = true then 0 else max 2 (nGet d (lane_STATE l))

theorem doTrainingDeadlineMissed_eq {s : State} {l : Fin 32} (hw : WhenTrainingDeadlineMissed s l) :
    doTrainingDeadlineMissed l s.dev = failTrain s.dev l.val (missedReason s.dev l.val) := by
  obtain ⟨hdir, hdue, hfirst, hlast⟩ := hw
  unfold doTrainingDeadlineMissed missedReason
  dsimp only
  rw [if_neg (by simp [hdir, hdue])]
  generalize nGet s.dev (lane_STATE l.val) = st at hfirst hlast ⊢
  obtain rfl | rfl | rfl | rfl | rfl : st = 1 ∨ st = 2 ∨ st = 3 ∨ st = 4 ∨ st = 5 := by omega
  all_goals cases (laneOf s.dev l.val).locked <;> rfl

theorem trainingDeadlineMissedDoes : TrainingDeadlineMissedDoes := fun s l hw =>
  completes_of_dev rfl (doTrainingDeadlineMissed_eq hw)
    ⟨nGet_failTrain_STATE s.dev l.isLt _, nGet_failTrain_TRAIN_RESULT s.dev l.isLt _, nGet_failTrain_TRAIN_FAILS s.dev l.isLt _,
      armed_failTrain s.dev l.isLt _⟩

theorem trainingRetryExpiryDoes : TrainingRetryExpiryDoes := fun s l hw =>
  completes_of_dev rfl (if_pos hw) ⟨nGet_startTrain_STATE s.dev l.val, nGet_startTrain_PRESET s.dev l.val⟩

/-! ### A READY lane that trains again (R417) -/

/-- A device as a READY lane trains again: RETRAINS counts, and the service log and the panels' fault logs take an entry. -/
def retrainNoted (d : Dev) (l : Nat) : Dev :=
  let e := serviceLog (nInc d (lane_RETRAINS l)) 3 l (nGet d (lane_TRAIN_RESULT l))
  (panelsOn e l).foldl (fun d h => panelLog d h 2 (nGet d (lane_TRAIN_RESULT l))) e

theorem retrain_eq (d : Dev) (l : Nat) : retrain d l = startTrain (retrainNoted d l) l := rfl

theorem keepsLanes_retrainNoted (d : Dev) (l : Nat) : KeepsLanes (nInc d (lane_RETRAINS l)) (retrainNoted d l) :=
  (keepsLanes_serviceLog _ _ _ _).trans (.foldl (fun h _ d => keepsLanes_sendCtrl d h 3 _) _)

theorem nGet_retrain_RETRAINS (d : Dev) (l : Nat) :
    nGet (retrain d l) (lane_RETRAINS l) = satAdd 32 (nGet d (lane_RETRAINS l)) 1 :=
  calc nGet (retrain d l) (lane_RETRAINS l) = nGet (retrainNoted d l) (lane_RETRAINS l) := nGet_startTrain_member _ _ _ (by decide)
    _ = nGet (nInc d (lane_RETRAINS l)) (lane_RETRAINS l) := (keepsLanes_retrainNoted d l).nGet l 14
    _ = satAdd 32 (nGet d (lane_RETRAINS l)) 1 := nGet_nSet_same _ _ _

theorem nGet_retrain_STATE (d : Dev) (l : Nat) : nGet (retrain d l) (lane_STATE l) = firstState (retrain d l) l := nGet_startTrain_STATE _ _

theorem nGet_retrain_member (d : Dev) (l i : Nat) {m : Nat} (h : m % 256 ∉ [3, 5, 8, 9, 14]) :
    nGet (retrain d l) (mref 0x30 i m) = nGet d (mref 0x30 i m) := by
  simp only [List.mem_cons, List.not_mem_nil, or_false, not_or] at h
  obtain ⟨hstate, hpreset, hpoc, hma, hretrains⟩ := h
  rw [retrain_eq, nGet_startTrain_member _ _ _ (by simp [hstate, hpreset, hpoc, hma]), (keepsLanes_retrainNoted d l).nGet]
  exact nGet_nSet_member _ _ (by simpa using hretrains)

theorem commaLockLossDoes : CommaLockLossDoes := fun s l hw =>
  completes_of_dev rfl (if_pos hw) ⟨nGet_retrain_RETRAINS s.dev l.val, nGet_retrain_STATE s.dev l.val⟩

theorem statusTimeoutDoes : StatusTimeoutDoes := fun s l hw =>
  completes_of_dev rfl (if_pos hw) ⟨nGet_retrain_RETRAINS s.dev l.val, nGet_retrain_STATE s.dev l.val⟩

/-! ### A lane that becomes READY (R258, R415, R417, R427, R432) -/

/-- A transmit lane as it becomes READY, before heads and panels look at it. -/
def readyLane (d : Dev) (l : Nat) : Dev :=
  let e := arm (setLaneState (updLane (laneQuiet d l) l (fun x => { x with downRaised := false, modeOwed := true, timeouts := 0, entries := 3 }))
    l 6) tkStatus l (ms 20)
  if (laneOf e l).unacked.isEmpty then e else arm e tkAck l (us 200)

theorem nGet_readyLane_STATE (d : Dev) (l : Nat) : nGet (readyLane d l) (lane_STATE l) = 6 := by
  unfold readyLane
  dsimp only
  split <;> simp

theorem laneOf_readyLane (d : Dev) (l : Nat) :
    laneOf (readyLane d l) l = { laneOf d l with downRaised := false, modeOwed := true, timeouts := 0, entries := 3 } := by
  unfold readyLane
  dsimp only
  split <;> simp

/-- A device whose starting heads have looked at their lanes, and whose panels on a lane begin their check. -/
def lookedAt (d : Dev) (l : Nat) : Dev :=
  (panelsOn ((List.range 16).foldl lookLanes d) l).foldl startIdentity ((List.range 16).foldl lookLanes d)

theorem keepsLanes_lookedAt (d : Dev) (l : Nat) : KeepsLanes d (lookedAt d l) :=
  (KeepsLanes.foldl (fun h _ e => keepsLanes_lookLanes e h) d).trans (.foldl (fun h _ e => keepsLanes_startIdentity e h) _)

theorem laneReadyDoes : LaneReadyDoes := by
  intro s l hw
  have hexec : doLaneReady l s.dev = lookedAt (readyLane s.dev l.val) l.val := if_pos hw
  have hkept := keepsLanes_lookedAt (readyLane s.dev l.val) l.val
  refine completes_of_dev rfl hexec ⟨?_, ?_, ?_⟩ <;> rw [withDev_dev]
  · rw [lane_STATE, hkept.nGet]
    exact nGet_readyLane_STATE _ _
  · rw [hkept.field LaneSt.modeOwed (fun _ => rfl), laneOf_readyLane]
  · rw [hkept.field LaneSt.downRaised (fun _ => rfl), laneOf_readyLane]

/-- What the step of one element brings about, and no step undoes, holds after all of them. -/
theorem foldl_of_mem {α β : Type} {step : β → α → β} {P Q : β → Prop} {l : List α} {a : α} (hP : ∀ b x, P b → P (step b x))
    (hkeep : ∀ b x, P b → Q b → Q (step b x)) (hset : ∀ b, P b → Q (step b a)) (ha : a ∈ l) {b : β} (hb : P b) : Q (l.foldl step b) := by
  have hstay : ∀ (l : List α) (b : β), P b → Q b → Q (l.foldl step b) := fun l => by
    induction l with
    | nil => exact fun b _ hq => hq
    | cons x l ih => exact fun b hp hq => ih _ (hP b x hp) (hkeep b x hp hq)
  induction l generalizing b with
  | nil => exact absurd ha List.not_mem_nil
  | cons x l ih =>
    rcases List.mem_cons.mp ha with rfl | ha
    · exact hstay l _ (hP b a hb) (hset b hb)
    · exact ih ha (hP b x hb)

/-- The inputs of a READY lane have no stream yet (R427). -/
theorem nGet_streamStates {i : Nat} (hlane : nGet d (vin_LANE i) = l) (hi : i < 16) (hready : nGet d (lane_STATE l) = 6) :
    nGet (streamStates d l) (vin_STREAM_STATE i) = 2 := by
  have hstate (e : Dev) (k n : Nat) : nGet (nSet e (vin_STREAM_STATE k) n) (lane_STATE l) = nGet e (lane_STATE l) :=
    nGet_nSet_class e n (by decide)
  have hmem : i ∈ inputsOf d l := List.mem_filter.mpr ⟨List.mem_range.mpr hi, decide_eq_true hlane⟩
  refine foldl_of_mem (P := fun e => nGet e (lane_STATE l) = 6) (Q := fun e => nGet e (vin_STREAM_STATE i) = 2)
    (fun e k he => (hstate e k _).trans he) (fun e k he hset => ?_) (fun e he => ?_) hmem hready
  · rw [if_pos he]
    by_cases hk : vin_STREAM_STATE i = vin_STREAM_STATE k
    · rw [← hk, nGet_nSet_same]
    · rw [nGet_nSet_other _ _ hk, hset]
  · rw [if_pos he, nGet_nSet_same]

theorem laneReadyReceiveDoes : LaneReadyReceiveDoes := by
  rintro s l i ⟨hdir, hstate, hlock, hlane⟩
  have hexec : doLaneReady l s.dev = streamStates (arm (setLaneState (updLane (laneQuiet s.dev l.val) l.val
      (fun x => { x with downRaised := false })) l.val 6) tkStatusSend l.val (ms 10)) l.val := by
    unfold doLaneReady
    dsimp only
    rw [if_neg (by simp [hdir]), if_pos ⟨hdir, hstate, hlock⟩]
  refine completes_of_dev rfl hexec ⟨?_, ?_⟩
  · exact ((keepsLanes_streamStates _ _).nGet l.val 3).trans (nGet_setLaneState_STATE _ _ _)
  · refine nGet_streamStates ?_ i.isLt (nGet_setLaneState_STATE _ _ _)
    refine ((nGet_setLaneState _ _ _ (q := vin_LANE i.val) (by simp [QuietMember, vin_LANE])).trans ?_).trans hlane
    exact nGet_nSet_class _ _ (by decide)

end Sys2Proof.Machine
end

section
/-!
The back channel of a transmit lane (R291, R407 to R414, R417): what each message does that the lane takes. Clauses of O40.
-/
namespace Sys2Proof.Machine

variable {d : Dev} {s : State} {l : Fin 32} {msg : List Symbol} {p : List Byte} {typ seq : Nat}

/-- A good message of its command's type is taken (R408). -/
theorem bcReceive_of_decode (hdir : nGet d (lane_DIRECTION l.val) = 1) (hon : 2 ≤ nGet d (lane_STATE l.val)) (hup : nGet d (lane_STATE l.val) ≠ 7)
    (hmsg : bcDecode msg = some (typ, seq, p)) (op : Dev → Nat → List Byte → Dev) : bcReceive d l.val typ msg op = op d seq p := by
  simp only [bcReceive, hdir, ne_eq, not_true_eq_false, Nat.not_lt.mpr hon, hup, or_self, if_false, hmsg, if_true]

/-! ### ACK, NAK and the time-out (R409, R413) -/

theorem ackDoes : AckDoes := by
  rintro s l msg p seq ⟨hdir, hon, hup, hmsg, hfull, hsent⟩
  have hexec : doAck l msg s.dev = ackUpTo s.dev l.val (ofLe (sliceOf p 0 1)) :=
    (bcReceive_of_decode hdir hon hup hmsg _).trans (if_pos hfull)
  refine completes_of_dev rfl hexec ?_
  unfold ackUpTo
  dsimp only
  rw [if_pos hsent]
  split <;> simp

theorem nakDoes : NakDoes := by
  rintro s l msg p seq ⟨hdir, hon, hup, hmsg, hfull⟩
  have hexec : doNak l msg s.dev = updLane s.dev l.val (fun x => { x with again := x.unacked.dropWhile (fun q => decide (q.seq ≠ ofLe (sliceOf p 0 1))) }) :=
    (bcReceive_of_decode hdir hon hup hmsg _).trans (if_pos hfull)
  exact completes_of_dev rfl hexec (by simp)

theorem retransmitTimeoutDoes : RetransmitTimeoutDoes := by
  rintro s l ⟨hready, hdir, hdue, hsent⟩
  have hopen : ¬ (nGet s.dev (lane_STATE l.val) ≠ 6 ∨ nGet s.dev (lane_DIRECTION l.val) ≠ 1 ∨ due s.dev tkAck l.val = false ∨
      (laneOf s.dev l.val).unacked.isEmpty = true) := by
    simp [hready, hdir, hdue, hsent]
  have hexec : doRetransmitTimeout l s.dev = _ := if_neg hopen
  refine completes_of_dev rfl hexec ?_
  by_cases hmany : (laneOf s.dev l.val).timeouts < 7
  · rw [if_pos hmany, if_neg (Nat.not_le.mpr hmany)]
    simp
  · rw [if_neg hmany, if_pos (Nat.not_lt.mp hmany)]
    exact nGet_retrain_RETRAINS _ _

/-! ### STATUS and LINESTAT (R410, R411) -/

/-- A device that has noted what a STATUS reports. -/
def statusNoted (d : Dev) (l : Nat) (p : List Byte) : Dev :=
  let e := nSet (nAdd d (lane_BLOCK_ERRORS l) (ofLe (sliceOf p 1 2))) (lane_PEER_CAPS l) (ofLe (sliceOf p 4 1))
  if laneBonded e l then nSet e (lane_SKEW_BLOCKS (l / 2 * 2)) (ofLe (sliceOf p 5 1)) else e

theorem nGet_statusNoted (d : Dev) (l i : Nat) (p : List Byte) {m : Nat} (h : m % 256 ≠ 18) : nGet (statusNoted d l p) (mref 0x30 i m) =
    nGet (nSet (nAdd d (lane_BLOCK_ERRORS l) (ofLe (sliceOf p 1 2))) (lane_PEER_CAPS l) (ofLe (sliceOf p 4 1))) (mref 0x30 i m) := by
  unfold statusNoted
  dsimp only
  split
  · exact nGet_nSet_member _ _ (by simpa using h)
  · rfl

theorem nGet_statusNoted_member (d : Dev) (l i : Nat) (p : List Byte) {m : Nat} (h : m % 256 ∉ [6, 10, 18]) :
    nGet (statusNoted d l p) (mref 0x30 i m) = nGet d (mref 0x30 i m) := by
  simp only [List.mem_cons, List.not_mem_nil, or_false, not_or] at h
  obtain ⟨hcaps, herrors, hskew⟩ := h
  rw [nGet_statusNoted d l i p hskew]
  exact (nGet_nSet_member _ _ (by simpa using hcaps)).trans (nGet_nSet_member _ _ (by simpa using herrors))

theorem statusOp_of_ready (hready : nGet d (lane_STATE l.val) = 6) (p : List Byte) : statusOp d l.val p =
    if bitOf (ofLe (sliceOf p 0 1)) 0 then arm (statusNoted d l.val p) tkStatus l.val (ms 20) else retrain (statusNoted d l.val p) l.val :=
  if_pos ((nGet_statusNoted_member d l.val l.val p (m := 3) (by decide)).trans hready)

theorem statusDoes : StatusDoes := by
  rintro s l msg p seq ⟨hdir, hready, hmsg, hlength⟩
  have hexec : doStatus l msg s.dev = _ :=
    ((bcReceive_of_decode hdir (by omega) (by omega) hmsg _).trans (if_pos hlength)).trans (statusOp_of_ready hready p)
  have herrors : nGet (statusNoted s.dev l.val p) (lane_BLOCK_ERRORS l.val) =
      satAdd 32 (nGet s.dev (lane_BLOCK_ERRORS l.val)) (ofLe (sliceOf p 1 2)) :=
    ((nGet_statusNoted _ _ _ _ (by decide)).trans (nGet_nSet_member _ _ (by decide))).trans (nGet_nSet_same _ _ _)
  have hcaps : nGet (statusNoted s.dev l.val p) (lane_PEER_CAPS l.val) = ofLe (sliceOf p 4 1) :=
    (nGet_statusNoted _ _ _ _ (by decide)).trans (nGet_nSet_same _ _ _)
  refine completes_of_dev rfl hexec ?_
  rw [withDev_dev]
  split
  case isTrue => exact ⟨herrors, hcaps, (nGet_statusNoted_member _ _ _ _ (m := 3) (by decide)).trans hready⟩
  case isFalse =>
    refine ⟨(nGet_retrain_member _ _ _ (by decide)).trans herrors, (nGet_retrain_member _ _ _ (by decide)).trans hcaps, ?_⟩
    rw [nGet_retrain_RETRAINS]
    exact congrArg (fun n => satAdd 32 n 1) (nGet_statusNoted_member _ _ _ _ (by decide))

theorem linestatDoes : LinestatDoes := by
  rintro s l msg p seq ⟨hdir, hon, hup, hmsg, hfull, hlength⟩
  have hexec : doLinestat l msg s.dev = nAdd s.dev (lane_LINE_ERROR_LINES l.val) (ofLe (sliceOf p 2 2)) :=
    (bcReceive_of_decode hdir hon hup hmsg _).trans (if_pos ⟨hfull, hlength⟩)
  exact completes_of_dev rfl hexec (nGet_nSet_same _ _ _)

/-! ### SIGRET (R291) -/

/-- The signatures of a frame that a SIGRET brings (R291). -/
def sigSetOf (p : List Byte) : SigSet :=
  { frame := ofLe (sliceOf p 0 1), crcs := (List.range (ofLe (sliceOf p 1 1))).map (fun k => ofLe (sliceOf p (4 + 4 * k) 4)) }

theorem getLast_sigReturn (d : Dev) (h : Nat) (p : List Byte) : (hheadOf (sigReturn d h p) h).returned.getLast? = some (sigSetOf p) := by
  simp [sigReturn, hheadOf, updHHead, sigSetOf]

theorem hheadOf_sigReturn_other (d : Dev) {h k : Nat} (p : List Byte) (hne : h ≠ k) : hheadOf (sigReturn d k p) h = hheadOf d h :=
  mapGet_mapSet_other _ _ _ _ hne

theorem sigretDoes : SigretDoes := by
  rintro s l msg p seq h ⟨hdir, hon, hup, hmsg, hfull, hlength, hruns, hlane⟩
  have hexec : doSigret l msg s.dev = (headsOn s.dev l.val).foldl (fun d h => sigReturn d h p) s.dev :=
    (bcReceive_of_decode hdir hon hup hmsg _).trans (if_pos ⟨hfull, hlength⟩)
  have hmem : h.val ∈ headsOn s.dev l.val := by
    simp [headsOn, headRuns, hruns, hlane, h.isLt]
  refine completes_of_dev rfl hexec ?_
  rw [withDev_dev]
  refine foldl_of_mem (step := fun e k => sigReturn e k p) (P := fun _ => True) (Q := fun e => (hheadOf e h.val).returned.getLast? = some (sigSetOf p))
    (fun _ _ _ => trivial) (fun e k _ he => ?_) (fun e _ => getLast_sigReturn e h.val p) hmem trivial
  by_cases hk : h.val = k
  · rw [← hk, getLast_sigReturn]
  · rw [hheadOf_sigReturn_other e p hk, he]

end Sys2Proof.Machine
end

section
/-!
What a transmit lane puts on the wire when a packet ends (R389 to R391, R402 to R405, R415). Clauses of O40.
-/
namespace Sys2Proof.Machine

variable {d : Dev} {l : Nat}

/-! ### Blocks that leave a lane -/

theorem out_laneOut (d : Dev) (l : Nat) (bs : List (Bool × List Byte)) (idles : Nat) :
    (laneOut d l bs idles).out = d.out ++ [.lane l (wireBlocks (laneOf d l).scrambler bs).2] := by
  have hcount : (countSignal (countSignal d (5 * 4096 + l) bs.length) (6 * 4096 + l) idles).out = d.out :=
    ((membersOnly_countSignal _ _ _).out).trans (membersOnly_countSignal _ _ _).out
  show _ ++ _ = _
  rw [← hcount]
  rfl

/-- Blocks scrambled with what the lane held before its other parts were noted. -/
theorem out_laneOut_updLane (bs : List (Bool × List Byte)) (idles : Nat) {f : LaneSt → LaneSt} (hf : ∀ x, (f x).scrambler = x.scrambler) :
    (laneOut (updLane d l f) l bs idles).out = d.out ++ [.lane l (wireBlocks (laneOf d l).scrambler bs).2] := by
  rw [out_laneOut, laneOf_updLane_same, hf]
  rfl

theorem laneOf_laneOut (d : Dev) (l : Nat) (bs : List (Bool × List Byte)) (idles : Nat) :
    laneOf (laneOut d l bs idles) l = { laneOf d l with scrambler := (wireBlocks (laneOf d l).scrambler bs).1 } := by
  simp [laneOut]

/-- The one block of an IDLE packet, a control block (R390). -/
theorem blocksOfPacket_idleBlock (d : Dev) (l : Nat) (mark train : Bool) :
    blocksOfPacket (idleBlock d l mark train) = [(true, idleBlock d l mark train)] := by
  simp [blocksOfPacket, idleBlock, withHcrc, octets, sliceOf, zeros]

theorem out_idleOut (d : Dev) (l : Nat) (mark train : Bool) :
    (idleOut d l mark train).out = d.out ++ [.lane l (onWire d l (idleBlock d l mark train))] := by
  rw [idleOut, ← blocksOfPacket_idleBlock]
  exact out_laneOut_updLane _ _ fun _ => rfl

/-! ### A packet of a lane that is in no pair -/

theorem out_sendBlocks (halone : laneBonded d l = false) (b : List Byte) (idle : Bool) :
    (sendBlocks d l b idle).out = d.out ++ [.lane l (onWire d l b)] := by
  simp only [sendBlocks, halone, Bool.false_eq_true, if_false]
  exact out_laneOut_updLane _ _ fun _ => rfl

/-- What the lane notes of a packet sent (R403). -/
theorem laneOf_sendBlocks (halone : laneBonded d l = false) (b : List Byte) (idle : Bool) :
    (laneOf (sendBlocks d l b idle) l).lineQ = (laneOf d l).lineQ ∧
    (laneOf (sendBlocks d l b idle) l).sinceIdle = if idle then 0 else (laneOf d l).sinceIdle + b.length / 8 := by
  simp [sendBlocks, halone, laneOf_laneOut]

theorem takeReserve_noLines (hline : (laneOf d l).lineQ = []) (blocks : Nat) : laneOf (takeReserve d l blocks) l = laneOf d l := by
  simp [takeReserve, hline]

/-! ### PACKET_END (R403, R415) -/

theorem packetEndTrainingDoes : PacketEndTrainingDoes := by
  rintro s l ⟨hdir, hon, htrain⟩
  have hexec : doPacketEnd l s.dev =
      idleOut s.dev l.val (decide (nGet s.dev (lane_STATE l.val) = 5)) (decide (nGet s.dev (lane_STATE l.val) ≤ 3)) := by
    simp only [doPacketEnd]
    rw [if_neg (by omega)]
    split
    · rw [decide_eq_false (by omega), decide_eq_true ‹_›]
    · rw [decide_eq_false (p := nGet s.dev (lane_STATE l.val) ≤ 3) ‹_›]
      split
      · rw [decide_eq_false (by omega)]
      · rw [if_pos (by omega), decide_eq_true (by omega)]
  exact completes_of_dev rfl hexec (out_idleOut _ _ _ _)

/-- A READY lane that is in no pair sends by the ranks of R403. -/
theorem doPacketEnd_of_ready {l : Fin 32} (hdir : nGet d (lane_DIRECTION l.val) = 1) (hready : nGet d (lane_STATE l.val) = 6)
    (halone : laneBonded d l.val = false) : doPacketEnd l d = chooseNext d l.val := by
  simp [doPacketEnd, bcFull, hdir, hready, halone]

theorem packetEndLineDoes : PacketEndLineDoes := by
  rintro s l p ps ⟨hdir, hready, halone, hrecent, hmode, hsig, hline⟩
  have hexec : doPacketEnd l s.dev = sendBlocks (updLane s.dev l.val fun x => { x with lineQ := ps }) l.val p.bytes false := by
    rw [doPacketEnd_of_ready hdir hready halone]
    simp only [chooseNext]
    rw [if_neg (by omega)]
    simp only [hmode, hsig, hline]
  have halone' : laneBonded (updLane s.dev l.val fun x => { x with lineQ := ps }) l.val = false := halone
  refine completes_of_dev rfl hexec ⟨?_, ?_⟩ <;> rw [withDev_dev]
  · rw [out_sendBlocks halone', onWire, laneOf_updLane_same]
    rfl
  · rw [(laneOf_sendBlocks halone' _ _).1, laneOf_updLane_same]

/-- No protected packet waits (R403). -/
theorem ready_eq_none {x : LaneSt} (hagain : x.again = []) (typ : Nat) : ready x typ [] = none := by
  simp [ready, nextProtected, firstOf, hagain]

/-- The lane sends an IDLE block, whose turn it is or for want of another packet (R403). -/
theorem chooseNext_idle (hline : (laneOf d l).lineQ = []) (hturn : 2048 ≤ (laneOf d l).sinceIdle ∨ ((laneOf d l).again = [] ∧
    (laneOf d l).modeQ = [] ∧ (laneOf d l).sigQ = [] ∧ (laneOf d l).audioQ = [] ∧ (laneOf d l).ctrlQ = [])) :
    chooseNext d l = sendBlocks (takeReserve d l 1) l (idleBlock d l false false) true ∨
    chooseNext d l = sendBlocks d l (idleBlock d l false false) true := by
  by_cases hidle : 2048 ≤ (laneOf d l).sinceIdle
  · left
    simp [chooseNext, mayStart, hidle, hline]
  · right
    obtain ⟨hagain, hmode, hsig, haudio, hctrl⟩ := hturn.resolve_left hidle
    simp [chooseNext, hidle, hmode, hsig, hline, haudio, hctrl, ready_eq_none hagain]

theorem packetEndIdleDoes : PacketEndIdleDoes := by
  rintro s l ⟨hdir, hready, halone, hline, hturn⟩
  have hlane := takeReserve_noLines hline 1
  have halone' : laneBonded (takeReserve s.dev l.val 1) l.val = false := halone
  rcases chooseNext_idle hline hturn with hsend | hsend <;>
    refine completes_of_dev rfl ((doPacketEnd_of_ready hdir hready halone).trans hsend) ⟨?_, ?_⟩ <;> rw [withDev_dev]
  · rw [out_sendBlocks halone', onWire, hlane]
    rfl
  · exact (laneOf_sendBlocks halone' _ _).2
  · exact out_sendBlocks halone _ _
  · exact (laneOf_sendBlocks halone _ _).2

theorem queueOverflowDoes : QueueOverflowDoes := by
  intro s l
  refine completes_of_dev rfl (e := doQueueOverflow l s.dev) rfl ⟨nGet_nSet_same _ _ _, ?_⟩
  simp [doQueueOverflow]

end Sys2Proof.Machine
end

section
/-!
A DATA message of the back channel (R414) and the panel it is for (R434 to R437, R439, R444, R453): the panel's affairs keep the lanes. Clause of O40.
-/
namespace Sys2Proof.Machine

variable {d : Dev} {h : Nat}

/-! ### Policy and a panel that fails (R434, R436) -/

theorem keepsLanes_policyLook (d : Dev) (h : Nat) : KeepsLanes d (policyLook d h) := by
  refine .whenNot (.ite (.whenNot ?_) (.whenever ?_))
  · exact ((KeepsLanes.nSet d _ (by decide)).trans (keepsLanes_updPanel _ _ _)).trans (.nSet _ _ (by decide))
  · exact (keepsLanes_updPanel d h _).trans (.whenNot ((KeepsLanes.nSet _ _ (by decide)).trans (.nSet _ _ (by decide))))

theorem keepsLanes_clearWithheld (d : Dev) (h : Nat) : KeepsLanes d (clearWithheld d h) :=
  .whenever ((keepsLanes_updPanel d h _).trans (.whenNot ((KeepsLanes.nSet _ _ (by decide)).trans (.nSet _ _ (by decide)))))

theorem keepsLanes_failPanel (d : Dev) (hh : h < 16) (reason : Nat) : KeepsLanes d (failPanel d h reason) := by
  have hmembers : KeepsLanes (disarm d tkId h) (nSets (disarm d tkId h)
      [(panel_IDENTITY_STATE h, 3), (panel_FAIL_REASON h, reason), (panel_WEAR_STATE h, 0)]) :=
    .nSets _ _ (by simp [panel_IDENTITY_STATE, panel_FAIL_REASON, panel_WEAR_STATE])
  have hpanel := ((keepsLanes_disarm d tkId h).trans hmembers).trans (keepsLanes_updPanel _ h fun x =>
    { x with early := [], earlyOpen := false, gains := [], sums := [] })
  exact ((hpanel.trans (keepsLanes_serviceLog _ 8 h reason)).trans (keepsLanes_raise _ (by omega))).trans (keepsLanes_policyLook _ h)

/-! ### Records read and written (R437, R439, R444, R453) -/

theorem keepsLanes_readNext (d : Dev) (h typ : Nat) (b : List Byte) : KeepsLanes d (readNext d h typ b) :=
  .ite (keepsLanes_sendCtrl _ _ _ _) (keepsLanes_sendCtrl _ _ _ _)

theorem keepsLanes_startRead (d : Dev) (h typ : Nat) : KeepsLanes d (startRead d h typ) :=
  (keepsLanes_updPanel d h _).trans (keepsLanes_readNext _ h typ [])

theorem keepsLanes_sendRecord (d : Dev) (h typ gen : Nat) (body : List Byte) : KeepsLanes d (sendRecord d h typ gen body) :=
  (((KeepsLanes.foldl (fun _ _ d => keepsLanes_sendCtrl d _ _ _) d).trans (keepsLanes_sendCtrl _ _ _ _)).trans
    (keepsLanes_updPanel _ _ _)).trans (keepsLanes_arm _ _ _ _)

theorem keepsLanes_sendHours (d : Dev) (h : Nat) : KeepsLanes d (sendHours d h) := keepsLanes_sendRecord _ _ _ _ _

theorem keepsLanes_startWrite (d : Dev) (h : Nat) : KeepsLanes d (startWrite d h) :=
  (keepsLanes_disarm d _ _).trans (.ite (keepsLanes_sendHours _ _) (keepsLanes_sendRecord _ _ _ _ _))

theorem keepsLanes_takeSnapshot (d : Dev) (h : Nat) : KeepsLanes d (takeSnapshot d h) :=
  ((keepsLanes_updPanel d h _).trans (keepsLanes_arm _ _ _ _)).trans (keepsLanes_startWrite _ h)

theorem keepsLanes_rebuilt (d : Dev) (h : Nat) : KeepsLanes d (takeSnapshot (nSet d (panel_DOSE_REBUILT h) 1) h) :=
  (KeepsLanes.nSet d _ (by decide)).trans (keepsLanes_takeSnapshot _ h)

theorem keepsLanes_doseReloaded (d : Dev) (h : Nat) : KeepsLanes d (doseReloaded d h) :=
  .ite ((keepsLanes_updPanel d h _).trans (keepsLanes_rebuilt _ h)) (keepsLanes_updPanel d h _)

theorem keepsLanes_writeSummary (d : Dev) (h : Nat) : KeepsLanes d (writeSummary d h) :=
  ((keepsLanes_updPanel d h _).trans (.nSet _ _ (by decide))).trans (keepsLanes_arm _ _ _ _)

theorem keepsLanes_newPanel (d : Dev) (hh : h < 16) : KeepsLanes d (newPanel d h) := by
  unfold newPanel
  split
  · exact .refl d
  · refine .whenNot ?_
    exact (((keepsLanes_updPanel d h _).trans (keepsLanes_writeSummary _ h)).trans (.nSet _ _ (by decide))).trans
      (keepsLanes_raise _ (by omega))

theorem keepsLanes_addEarly (d : Dev) (h : Nat) : KeepsLanes d (addEarly d h) := by
  unfold addEarly
  dsimp only
  refine .trans (.whenever ?_) (keepsLanes_updPanel _ h _)
  exact .of_same rfl rfl

theorem keepsLanes_acceptPanel (d : Dev) (hh : h < 16) : KeepsLanes d (acceptPanel d h) := by
  unfold acceptPanel
  extract_lets x ageRec doseRec hours st a counted same f rebuilt dose secs sent noted timed named early seen summed
  have hnoted : KeepsLanes d noted := keepsLanes_updPanel d h _
  have htimed : KeepsLanes d timed :=
    hnoted.trans (.whenNot (((keepsLanes_disarm _ _ _).trans (keepsLanes_disarm _ _ _)).trans (keepsLanes_disarm _ _ _)))
  have hnamed : KeepsLanes d named := by
    refine (htimed.trans (.nSets _ _ ?_)).trans (.mSet _ (by simp [panel_PANEL_ID]) _)
    simp [panel_IDENTITY_STATE, panel_FAIL_REASON, panel_WEAR_STATE, dose_GEN, panel_OPERATING_S, dose_GRID]
  have hearly : KeepsLanes d early := hnamed.trans (.whenever (keepsLanes_addEarly _ h))
  have hseen : KeepsLanes d seen := (hearly.trans (keepsLanes_clearWithheld _ h)).trans (keepsLanes_newPanel _ hh)
  have hsummed : KeepsLanes d summed := (hseen.trans (.whenNot (keepsLanes_arm _ _ _ _))).trans (keepsLanes_arm _ _ _ _)
  exact hsummed.trans (.ite (keepsLanes_rebuilt _ h) (.whenNot (keepsLanes_arm _ _ _ _)))

theorem keepsLanes_readDone (d : Dev) (hh : h < 16) (typ : Nat) : KeepsLanes d (readDone d h typ) :=
  .ite (keepsLanes_doseReloaded d h) (.ite (keepsLanes_startRead d h _) (.ite (keepsLanes_acceptPanel d hh) (keepsLanes_failPanel d hh 5)))

theorem keepsLanes_readReply (d : Dev) (hh : h < 16) (msg : List Byte) : KeepsLanes d (readReply d h msg) := by
  unfold readReply
  split
  · exact .refl d
  · exact .whenever ((keepsLanes_updPanel d h _).trans (.ite (keepsLanes_readDone _ hh _) (keepsLanes_readNext _ h _ _)))

theorem keepsLanes_idResponse (d : Dev) (hh : h < 16) (msg : List Byte) : KeepsLanes d (idResponse d h msg) := by
  refine .whenNot ((keepsLanes_disarm d tkId h).trans ?_)
  dsimp only
  split
  · exact keepsLanes_failPanel _ hh _
  · exact (keepsLanes_updPanel _ h _).trans (keepsLanes_startRead _ h 1)

theorem keepsLanes_writeFailed (d : Dev) (hh : h < 16) : KeepsLanes d (writeFailed d h) := by
  have hfail : KeepsLanes d (updPanel (nInc (disarm d tkCommitted h) (panel_WRITE_FAILS h)) h
      fun x => { x with writing := 0, fails := (panelOf d h).fails + 1 }) :=
    ((keepsLanes_disarm d _ _).trans (.nSet _ _ (by decide))).trans (keepsLanes_updPanel _ h _)
  exact hfail.trans (.ite (keepsLanes_arm _ _ _ _) (.whenever (keepsLanes_raise _ (by omega))))

theorem keepsLanes_writeDone (d : Dev) (h : Nat) : KeepsLanes d (writeDone d h) := .of_same rfl rfl

theorem keepsLanes_committed (d : Dev) (hh : h < 16) (msg : List Byte) : KeepsLanes d (committed d h msg) := by
  have hnoted : KeepsLanes d (nSet (disarm d tkCommitted h) (panel_LAST_PANEL_WRITE h) (tbNs (disarm d tkCommitted h))) :=
    (keepsLanes_disarm d _ _).trans (.nSet _ _ (by decide))
  unfold committed
  dsimp only
  refine .whenNot (.ite (keepsLanes_writeFailed d hh) (.ite ?_ ?_))
  · exact ((hnoted.trans (keepsLanes_updPanel _ h _)).trans (.nSet _ _ (by decide))).trans (keepsLanes_sendHours _ h)
  · exact (hnoted.trans (keepsLanes_updPanel _ h _)).trans (keepsLanes_writeDone _ h)

theorem keepsLanes_panelData (d : Dev) (hh : h < 16) (b : List Byte) : KeepsLanes d (panelData d h b) :=
  .ite (keepsLanes_idResponse d hh _) (.whenever (.ite (keepsLanes_readReply d hh _) (.whenever (keepsLanes_committed d hh _))))

/-! ### DATA (R414) -/

/-- Every panel of a lane takes the octets of a DATA message. -/
def panelsData (d : Dev) (l : Nat) (p : List Byte) : Dev := (panelsOn d l).foldl (fun d h => panelData d h p) d

theorem keepsLanes_panelsData (d : Dev) (l : Nat) (p : List Byte) : KeepsLanes d (panelsData d l p) :=
  .foldl (fun _ hh e => keepsLanes_panelData e (List.mem_range.mp (List.mem_of_mem_filter hh)) p) d

theorem dataDoes : DataDoes := by
  rintro s l msg p ⟨hdir, hon, hup, hmsg, hfull⟩
  have hexec : doData l msg s.dev = panelsData
      (updLane s.dev l.val fun x => { x with bcSeq := ((laneOf s.dev l.val).bcSeq + 1) % 256 }) l.val p :=
    (bcReceive_of_decode hdir hon hup hmsg _).trans (if_pos ⟨hfull, rfl⟩)
  refine completes_of_dev rfl hexec ?_
  have hpanels := keepsLanes_panelsData (updLane s.dev l.val fun x => { x with bcSeq := ((laneOf s.dev l.val).bcSeq + 1) % 256 }) l.val p
  rw [withDev_dev, hpanels.field LaneSt.bcSeq (fun _ => rfl), laneOf_updLane_same]

/-- Settles O40, clause by clause: what a command does to its lane is said of the device it builds, and the steps after that keep the lanes
(`KeepsLanes`) or add only what the clause does not speak of. -/
theorem transmitLanes : Obligations.TransmitLanes :=
  ⟨laneDirectionWriteDoes, laneTrainingStartDoes, backChannelLockDoes, presetStepExpiryDoes, presetStepExpiryChosenDoes,
    trainingDeadlineMissedDoes, trainingRetryExpiryDoes, laneReadyDoes, laneReadyReceiveDoes, commaLockLossDoes, statusTimeoutDoes,
    packetEndTrainingDoes, packetEndLineDoes, packetEndIdleDoes, queueOverflowDoes, ackDoes, nakDoes, retransmitTimeoutDoes, statusDoes,
    sigretDoes, linestatDoes, dataDoes⟩

end Sys2Proof.Machine
end

section
/-!
DOSE records read again (R444) that cannot be used (R453): the doses of a panel that the newest summary knows are rebuilt from its coarse map.
-/
namespace Sys2Proof.Machine

/-- An AGEING body of a panel of 16 x 16 pixels, a grid of one cell (R430): DECAY[0] 32,768 and DOSE_STEP 1 for each colour (R429, R431). -/
def oneCellAgeing : List Byte :=
  leBytes 2 16 ++ leBytes 2 16 ++ (List.replicate 3 (zeros 34 ++ leBytes 4 1 ++ leBytes 2 32768 ++ zeros 64)).flatten

/-- Head 0 with an AUTHENTIC panel of that body, whose summary was written when its cell had a dose of 1 unit in colour 0 (R452). -/
def summarisedPanel : Dev :=
  writeSummary (updPanel (bSet (nSets Dev.reset [(panel_IDENTITY_STATE 0, 2), (panel_WEAR_STATE 0, 1)]) (panel_PANEL_ID 0) (List.replicate 16 7)) 0
    fun x => { x with ageing := oneCellAgeing, dose := [(0, 2 ^ 32)] }) 0

/-- That panel when its running doses have lost their memory and its DOSE record is read again (R444). -/
def doseReadingState : State := withDev State.reset (updPanel summarisedPanel 0 fun x => { x with dose := [] })

/-- A DOSE record without COLS and ROWS, which so are not those of the panel's grid (R430, R453). -/
def emptyDoseRecord : List Byte := wearRecord 2 1 []

/-- The reply that brings the whole of that record (R437). -/
def emptyDoseReply : List Byte := octets [0x82, 2, 0, 0, 0, 0] ++ emptyDoseRecord

theorem whenReadReplyAgain_doseReadingState : WhenReadReplyAgain doseReadingState 0 emptyDoseReply emptyDoseRecord := by
  decide +kernel

theorem emptyDoseRecord_unusable :
    (recordGood emptyDoseRecord &&
      doseBodyFits (panelOf doseReadingState.dev (0 : Fin 16).val).ageing (recordBody emptyDoseRecord)) = false := by
  decide +kernel

/-- The summary's unit of dose is back in the cell. -/
theorem dose_rebuilt_from_summary :
    (panelOf (doReadReply 0 emptyDoseReply doseReadingState.dev) (0 : Fin 16).val).dose = [(0, 2 ^ 32)] := by
  decide +kernel

/-- Refutes O42: ReadReplyAgainDoes wants no doses after a DOSE record that cannot be used, where R453 has them rebuilt from the newest summary
if that is of the same panel (the hypothesis that no summary knows the panel is missing, and that no dose was counted while the record was read,
which is added too). In `doseReadingState` the cell has its unit of dose back from the summary. -/
theorem not_panelsAndWear : ¬ Obligations.PanelsAndWear := by
  unfold Obligations.PanelsAndWear
  rintro ⟨-, -, -, -, hagain, -⟩
  obtain ⟨u, hexec, hdose⟩ := hagain _ _ _ _ whenReadReplyAgain_doseReadingState
  obtain rfl : withDev doseReadingState (doReadReply 0 emptyDoseReply doseReadingState.dev) = u := Host.Outcome.next.inj hexec
  rw [withDev_dev, dose_rebuilt_from_summary, emptyDoseRecord_unusable] at hdose
  exact absurd hdose (by decide)

end Sys2Proof.Machine
end

section
/-!
The dispatch and the state after reset: what holds of every command by its arm alone (95_what_each_step_holds).
-/
-- One proof at a time: the tasks of many short proofs wait on one another, and each holds a stack of its own.
set_option Elab.async false
namespace Sys2Proof.Machine

/-- Settles O1: step is by definition exec of the front command. -/
theorem stepRunsTheFrontCommand : Obligations.StepRunsTheFrontCommand := by
  intro c rest s hpending
  simp only [step, hpending]

/-- Settles O3: every arm of the dispatch is a next state. -/
theorem everyCommandAnswers : Obligations.EveryCommandAnswers := by
  intro c s
  cases c <;> exact ⟨_, rfl⟩

/-- Settles O4: memory, the allocations and the queue of the state after reset are empty lists. -/
theorem invariantsAtReset : Obligations.InvariantsAtReset := ⟨memWf_nil, rfl, rfl⟩

end Sys2Proof.Machine
end

section
/-!
The end of an interrupt (R620) and the three actions of a bank (R644).
-/
namespace Sys2Proof.Machine

theorem ev_COUNT_ne_ev_STATE (n : Nat) : ev_COUNT n ≠ ev_STATE n := fun h => by
  simpa [ev_COUNT, ev_STATE] using congrArg refMember h

/-- Ending a source: the claim is gone, and STATE and COUNT are as R620 has them. -/
theorem endSource_claimant (d : Dev) (n : Nat) : mapFind (endSource d n).events.claimant n = none := by
  unfold endSource
  dsimp only
  split
  · simp
  · split <;> simp

theorem endSource_of_counted {d : Dev} {n : Nat} (hc : 0 < nGet d (ev_COUNT n)) :
    nGet (endSource d n) (ev_STATE n) = 1 ∧ nGet (endSource d n) (ev_COUNT n) = nGet d (ev_COUNT n) := by
  have hend : endSource d n = nSet { d with events.claimant := mapErase d.events.claimant n } (ev_STATE n) 1 := if_pos hc
  rw [hend, nGet_nSet_same, nGet_nSet_other _ _ (ev_COUNT_ne_ev_STATE n)]
  exact ⟨rfl, rfl⟩

theorem endSource_of_level {d : Dev} {n : Nat} (hc : nGet d (ev_COUNT n) = 0) (hl : eventSense n = 1 ∧ nGet d (ev_LEVEL n) = 1) :
    nGet (endSource d n) (ev_STATE n) = 1 ∧ nGet (endSource d n) (ev_COUNT n) = 1 := by
  have hend : endSource d n =
      nSets { d with events.claimant := mapErase d.events.claimant n } [(ev_COUNT n, 1), (ev_STATE n, 1)] :=
    (if_neg (Nat.not_lt.mpr hc.le)).trans (if_pos hl)
  rw [hend, nSets_cons, nSets_cons, nSets_nil, nGet_nSet_same, nGet_nSet_other _ _ (ev_COUNT_ne_ev_STATE n), nGet_nSet_same]
  exact ⟨rfl, rfl⟩

theorem endSource_of_idle {d : Dev} {n : Nat} (hc : nGet d (ev_COUNT n) = 0) (hl : ¬ (eventSense n = 1 ∧ nGet d (ev_LEVEL n) = 1)) :
    nGet (endSource d n) (ev_STATE n) = 0 ∧ nGet (endSource d n) (ev_COUNT n) = 0 := by
  have hend : endSource d n = nSet { d with events.claimant := mapErase d.events.claimant n } (ev_STATE n) 0 :=
    (if_neg (Nat.not_lt.mpr hc.le)).trans (if_neg hl)
  rw [hend, nGet_nSet_same, nGet_nSet_other _ _ (ev_COUNT_ne_ev_STATE n)]
  exact ⟨rfl, hc⟩

/-- Settles O13, by the branches of R620. -/
theorem endOfInterrupt : Obligations.EndOfInterrupt := by
  refine fun d n who _ => ⟨fun hown => ?_, fun hother => ?_⟩
  · have heoi : eoi d n who = endSource d n := if_pos hown
    rw [heoi]
    refine ⟨endSource_claimant d n, ?_⟩
    split
    case isTrue hc => exact endSource_of_counted hc
    case isFalse hc =>
      have hzero : nGet d (ev_COUNT n) = 0 := by omega
      split
      case isTrue hl => exact endSource_of_level hzero hl
      case isFalse hl => exact endSource_of_idle hzero hl
  · have heoi : eoi d n who = nInc d evCtl_EOI_ERRORS := if_neg hother
    rw [heoi]
    exact ⟨nGet_nInc_same d _, nInc_events d _, fun r hr => mGet_mSet_other d _ hr⟩

/-- Settles O14: the new DATA_OUT of each action, bit by bit. -/
theorem pinActionsAreIndivisible : Obligations.PinActionsAreIndivisible := by
  intro sess b mask s hmask _ i hi
  refine ⟨fun hgate => ?_, fun hgate => ?_, fun hgate => ?_⟩
  · obtain ⟨u, hexec, hout, -⟩ := setDoes s sess b mask ⟨hgate, hmask⟩
    exact ⟨u, hexec, by simp only [hout, bitOf, Nat.testBit_or]⟩
  · obtain ⟨u, hexec, hout, -⟩ := gpioClearDoes s sess b mask ⟨hgate, hmask⟩
    have hones : Nat.testBit 0xFFFFFFFF i = true := by
      simpa [hi] using Nat.testBit_two_pow_sub_one 32 i
    refine ⟨u, hexec, ?_⟩
    simp only [hout, bitOf, Nat.testBit_and, Nat.testBit_xor, hones, Bool.xor_true]
  · obtain ⟨u, hexec, hout, -⟩ := toggleDoes s sess b mask ⟨hgate, hmask⟩
    exact ⟨u, hexec, by simp only [hout, bitOf, Nat.testBit_xor]⟩

end Sys2Proof.Machine
end

section
/-!
HOST_CLAIM (R625) in a state with two sessions of one identifier: the claim looks for room in the controlling session's queue, and
the notification goes to the first session of that identifier.
-/
-- One proof at a time: the tasks of many short proofs wait on one another, and each holds a stack of its own.
set_option Elab.async false
namespace Sys2Proof.Machine

/-- An open session 1 that controls, with no notification queued. -/
def emptyController : Session :=
  { id := 1, controller := true, isOpen := true, slot := 0, digest := [], keys := [], seqIn := 0, seqOut := 0, msgsIn := 0, msgsOut := 0,
    kept := [], waiting := [], peer := { upl := 0, mac := [], ip := [], port := 0, own := [] }, openedAt := 0, lastMsg := 0, subs := [],
    queue := [], unacked := [] }

/-- A session of the same identifier that does not control and whose queue is full (R76). -/
def fullTwin : Session :=
  { emptyController with
    controller := false,
    queue := List.replicate 256 { kind := 0, flags := 0, ref := dev_LIFECYCLE, time := 0, typ := 2, val := [1], source := none } }

/-- The state after reset with both sessions, the full one first, and a HOST source 960 that waits to be claimed. -/
def twinState : State :=
  withDev State.reset
    { nSets Dev.reset [(dev_LIFECYCLE, 1), (ev_TARGET 960, 3), (ev_STATE 960, 1), (ev_COUNT 960, 2), (dev_FK_STATE, 1)] with
      noap.sessions := [fullTwin, emptyController] }

theorem whenHostClaim_twinState : WhenHostClaim twinState 960 1 := by decide

/-- The twin's queue has no room, so the notification is lost: the sessions stay. -/
theorem sessions_doHostClaim_twinState : (doHostClaim 960 twinState.dev).noap.sessions = [fullTwin, emptyController] := by
  decide +kernel

/-- Refutes O29: in `twinState` HOST_CLAIM queues the claim of source 960 for no session, where the statement has it in the queue of
every session whose identifier is the controlling session's. -/
theorem not_eventsAndDoorbells : ¬ Obligations.EventsAndDoorbells := by
  unfold Obligations.EventsAndDoorbells
  rintro ⟨-, -, -, -, hclaim, -⟩
  obtain ⟨u, hexec, -, -, -, hqueue⟩ := hclaim twinState 960 1 whenHostClaim_twinState
  have hu : u = withDev twinState (doHostClaim 960 twinState.dev) := (Host.Outcome.next.inj hexec).symm
  have hmem : emptyController ∈ u.dev.noap.sessions := by
    rw [hu, withDev_dev, sessions_doHostClaim_twinState]
    exact List.mem_cons_of_mem _ List.mem_cons_self
  exact List.not_mem_nil (hqueue emptyController hmem rfl)

end Sys2Proof.Machine
end

section
/-!
THERMAL_SAMPLE less than 1 ms after the governor has moved (R679).
-/
-- One proof at a time: the tasks of many short proofs wait on one another, and each holds a stack of its own.
set_option Elab.async false
namespace Sys2Proof.Machine

/-- The state after reset, running, in which the governor has moved at this moment. -/
def justStepped : State := withDev State.reset { Dev.reset with power.phase := .running, power.stepAt := some 0 }

theorem whenThermalSample_justStepped : WhenThermalSample justStepped 1250 1250 4 := by decide

/-- The governor moves one step at most in 1 ms: this sample leaves STEP. -/
theorem step_doThermalSample_justStepped : nGet (doThermalSample 1250 1250 justStepped.dev) therm_STEP = 0 := by decide +kernel

/-- Refutes O47: the conditions of ThermalSampleDoes say nothing of the time since the last step. In `justStepped` a sample of 125 °C
meets the condition of step 4 and leaves STEP at 0, where the statement wants 1. -/
theorem not_heatPowerAndBoost : ¬ Obligations.HeatPowerAndBoost := by
  unfold Obligations.HeatPowerAndBoost
  rintro ⟨hsample, -⟩
  obtain ⟨u, hexec, hstep, -⟩ := hsample justStepped 1250 1250 4 whenThermalSample_justStepped
  cases hexec
  rw [withDev_dev, step_doThermalSample_justStepped] at hstep
  exact absurd hstep (by decide)

end Sys2Proof.Machine
end

section
/-!
Frames that name every class from 0 to 255: a member of a reference from 2^32 up is of none of them, and a state may hold such a reference.
-/
-- One proof at a time: the tasks of many short proofs wait on one another, and each holds a stack of its own.
set_option Elab.async false
namespace Sys2Proof.Machine

/-- A reference past 32 bits: no class that a frame can list has it. -/
def wideRef : Ref := 2 ^ 32

/-- A command does not have a frame of every class that lists no other member if it leaves the member of `wideRef` different. -/
theorem not_onlyChanges_of_wideRef {c : Instr} {s u : State} {ps : List Part} (hexec : exec c s = .next u)
    (hne : mGet u.dev wideRef ≠ mGet s.dev wideRef) : ¬ OnlyChanges c ps allClasses [] := fun h =>
  hne ((h s u hexec).2 wideRef (by decide) rfl)

/-- A commit that is pending on head 15 and writes the member of `wideRef` there. -/
def wideCommit : PendingCommit :=
  { number := 17, named := 0x8000, waiting := 0x8000, admitted := 0, writes := [{ ref := wideRef, val := .num 7, heads := 0x8000 }],
    holds := [], fronts := [], lifts := [] }

/-! ### HEAD_FRAME_BOUNDARY -/

/-- The state after reset, 250 µs on, with head 15 in STATE 2 and that commit pending. -/
def wideBoundary : State :=
  withDev State.reset { nSets Dev.reset [(head_STATE 15, 2)] with tb := 250000 * 2 ^ 32, scene.commits := [wideCommit] }

/-- No placement waits for a head that is none (R168). -/
theorem takeFree_of_nextFor {s : State} (h : nextFor s.dev 16 [] = none) : takeFree s = s := by
  simp only [takeFree, takePlacement, h]

theorem mGet_headFrameBoundary_wideRef : mGet (doHeadFrameBoundary 15 wideBoundary).dev wideRef = .num 7 := by
  unfold doHeadFrameBoundary
  dsimp only
  rw [if_neg (by decide +kernel), if_pos (by decide +kernel), takeFree_of_nextFor (by decide +kernel)]
  decide +kernel

/-- Refutes O54: the boundary of head 15 in `wideBoundary` applies the commit, which writes a member of no class that the frame lists. -/
theorem not_frameHeadsDram : ¬ Obligations.FrameHeadsDram := by
  unfold Obligations.FrameHeadsDram
  rintro ⟨hboundary, -⟩
  refine not_onlyChanges_of_wideRef (s := wideBoundary) rfl ?_ (hboundary 15)
  rw [mGet_headFrameBoundary_wideRef]
  decide

/-! ### COMMIT_DECISION -/

/-- The state after reset with head 0 in STATE 2 and a commit under evaluation that writes that member on no head. -/
def wideDecision : State :=
  withDev State.reset
    { nSets Dev.reset [(head_STATE 0, 2)] with
      scene.evaluating := some { sess := 1, seq := 7, number := 3, mask := 1, dryRun := false, received := 0,
                                 taken := [{ ref := wideRef, val := .num 7, heads := 0 }] } }

theorem mGet_commitDecision_wideRef : mGet (doCommitDecision wideDecision).dev wideRef = .num 7 := by decide +kernel

/-- Refutes O53: COMMIT_DECISION in `wideDecision` writes a member of no class that the frame lists. -/
theorem not_frameHearthSessions : ¬ Obligations.FrameHearthSessions := by
  unfold Obligations.FrameHearthSessions
  intro hframes
  have hdecision : FrameCommitDecision := by simp only [hframes]
  refine not_onlyChanges_of_wideRef (s := wideDecision) rfl ?_ hdecision
  rw [mGet_commitDecision_wideRef]
  decide

/-! ### BLOCK_STOP_ANSWER -/

/-- The state after reset with head 15 in STATE 2 and the commit pending on it, when the heads are to stop. -/
def wideStop : State :=
  withDev State.reset { nSets Dev.reset [(head_STATE 15, 2)] with power.sleep := .stop 3, scene.commits := [wideCommit] }

theorem mGet_blockStopAnswer_wideRef : mGet (doBlockStopAnswer .stopped wideStop).dev wideRef = .num 7 := by decide +kernel

/-- Refutes O58: in `wideStop` the heads stop, which applies the commit, and that writes a member of no class that the frame lists. -/
theorem not_framePower : ¬ Obligations.FramePower := by
  unfold Obligations.FramePower
  rintro ⟨-, hanswer, -⟩
  refine not_onlyChanges_of_wideRef (s := wideStop) rfl ?_ (hanswer .stopped)
  rw [mGet_blockStopAnswer_wideRef]
  decide

/-! ### HEARTH_PACKAGE_LOADED -/

/-- A reference past 32 bits whose low bits are those of a member that the package loads (R695). -/
def widePackageRef : Ref := 2 ^ 32 + mref 0x21 0 1

/-- The state after reset with that member set and a package that is not valid to load. -/
def widePackage : State :=
  withDev State.reset { Dev.reset with objs := [(slotImg_ACTIVE 3, .num 1), (hearth_PACKAGE_STATE, .num 1), (widePackageRef, .num 9)] }

/-- Its device without the members that the package loads. -/
def widePackageDropped : Dev := { widePackage.dev with objs := widePackage.dev.objs.filter (fun e => !packageLoads e.1) }

/-- SHOWN of a slot is 0 by default (R271). -/
theorem memberDefault_slot_SHOWN (i : Nat) : memberDefault (slot_SHOWN i) = .num 0 := by
  have htable : ∀ x ∈ dict20, x.m0 ≤ 11 → 11 ≤ x.m1 → x.dflt = .num 0 := by decide
  simp only [memberDefault, slot_SHOWN, refClass_mref, refMember_mref]
  split
  case h_1 m hm =>
    have hin := List.find?_some hm
    have hmem : m ∈ dict20 := by
      simpa [dictOf] using List.mem_of_find?_eq_some hm
    simp only [refMember_mref, Bool.and_eq_true, decide_eq_true_eq] at hin
    exact htable m hmem hin.1.2 hin.2
  case h_2 => rfl

theorem slots_hidden_widePackageDropped (i : Nat) : nGet widePackageDropped (slot_SHOWN i) = 0 := by
  have hne (r : Ref) (hr : refClass r ≠ 0x20 ∨ refMember r ≠ 11) : slot_SHOWN i ≠ r := by
    rintro rfl
    simp [slot_SHOWN] at hr
  have hobjs : widePackageDropped.objs = [(slotImg_ACTIVE 3, .num 1), (hearth_PACKAGE_STATE, .num 1)] := by decide
  have hget : mGet widePackageDropped (slot_SHOWN i) = memberDefault (slot_SHOWN i) := by
    simp [mGet, hobjs, mapGet, mapFind, hne (slotImg_ACTIVE 3) (by decide), hne hearth_PACKAGE_STATE (by decide)]
  rw [nGet, hget, memberDefault_slot_SHOWN]

/-- No slot is shown, so that none is combined anew (R277). -/
theorem dropPackage_widePackage : dropPackage widePackage.dev = packageInvalid widePackageDropped := by
  refine congrArg packageInvalid (List.foldlRecOn (motive := fun e => e = widePackageDropped) _ _ rfl ?_)
  rintro _ rfl i -
  exact if_pos (slots_hidden_widePackageDropped i)

theorem mGet_hearthPackageLoaded_widePackageRef : mGet (doHearthPackageLoaded widePackage).dev widePackageRef = .num 0 := by
  unfold doHearthPackageLoaded
  dsimp only
  rw [if_neg (by decide +kernel), if_pos (by decide +kernel), dropPackage_widePackage]
  decide +kernel

/-- Refutes O59: HEARTH_PACKAGE_LOADED in `widePackage` drops a member of no class that the frame lists. -/
theorem not_frameTrust : ¬ Obligations.FrameTrust := by
  unfold Obligations.FrameTrust
  intro hframes
  have hloaded : FrameHearthPackageLoaded := by simp only [hframes]
  have hmember := (hloaded .hearthPackageLoaded List.mem_cons_self widePackage _ rfl).2 widePackageRef (by decide) rfl
  rw [mGet_hearthPackageLoaded_widePackageRef] at hmember
  exact absurd hmember (by decide)

end Sys2Proof.Machine
end

section
/-!
What every command keeps of the queue and of memory (O5, O7): the queue is the same list, and memory in its canonical form stays in it. One
lemma for each function that answers a state, in the order of the model.
-/
-- One proof at a time: the tasks of many short proofs wait on one another, and each holds a stack of its own.
set_option Elab.async false
namespace Sys2Proof.Machine

/-- A state u with the queue of s, whose memory has the canonical form if that of s has. -/
structure Steady (s u : State) : Prop where
  pending : u.pending = s.pending
  mem : memWf s.mem = true → memWf u.mem = true

namespace Steady

variable {s u v : State}

theorem refl (s : State) : Steady s s := ⟨rfl, id⟩

theorem trans (h : Steady s u) (h' : Steady u v) : Steady s v := ⟨h'.pending.trans h.pending, h'.mem ∘ h.mem⟩

/-- The device alone changes. -/
theorem setDev (h : Steady s u) (d : Dev) : Steady s (withDev u d) := ⟨h.pending, h.mem⟩

theorem ofDev (s : State) (d : Dev) : Steady s (withDev s d) := (refl s).setDev d

theorem ite {c : Prop} [Decidable c] (ht : c → Steady s u) (hf : ¬ c → Steady s v) : Steady s (if c then u else v) := by
  split
  case isTrue hc => exact ht hc
  case isFalse hc => exact hf hc

theorem foldl {α : Type} {step : State → α → State} (l : List α) (hstep : ∀ u, ∀ a ∈ l, Steady u (step u a)) (h : Steady s u) :
    Steady s (l.foldl step u) := by
  induction l generalizing u with
  | nil => exact h
  | cons a l ih => exact ih (fun u b hb => hstep u b (List.mem_cons_of_mem a hb)) (h.trans (hstep u a List.mem_cons_self))

/-- Memory loses part of its content, and the device changes. -/
theorem clear (s : State) (p : Nat → Bool) (d : Dev) : Steady s { s with mem := memClear p s.mem, dev := d } := ⟨rfl, memWf_memClear p s.mem⟩

/-- Memory loses its content, and the device changes. -/
theorem empty (s : State) (d : Dev) : Steady s { s with mem := [], dev := d } := ⟨rfl, fun _ => rfl⟩

end Steady

/-! ### Writes over the fabric -/

theorem steady_fabricPuts (s : State) (a : Nat) (bs : List Byte) : Steady s (fabricPuts s a bs) :=
  ⟨fabricPuts_pending bs s a, memWf_fabricPuts bs s a⟩

theorem steady_putRange (s : State) (cls a : Nat) (bs : List Byte) : Steady s (putRange s cls a bs) :=
  ⟨putRange_pending s cls a bs, memWf_putRange s cls a bs⟩

theorem steady_withGateMem (s : State) (sess : Nat) (r : Ref) {op : State → State × Status × List Byte} (h : Steady s (op s).1) :
    Steady s (withGateMem s sess r op) := by
  unfold withGateMem
  split
  · exact .ofDev s _
  · exact h.setDev _

/-! ### Placement and commits -/

theorem steady_startThreadAt (s : State) (p : ProgPlace) (code : Nat) (view : List Nat) : Steady s (startThreadAt s p code view) := by
  unfold startThreadAt
  dsimp only
  exact .ite (fun _ => (Steady.ofDev s _).trans ((Steady.ofDev _ _).trans (steady_fabricPuts _ code _))) fun _ => .ofDev s _

theorem steady_startThread (s : State) (p : ProgPlace) : Steady s (startThread s p) := by
  unfold startThread
  exact (Steady.ite (fun _ => .refl s) fun _ => .ofDev s _).trans (steady_startThreadAt _ p _ _)

theorem steady_takePlacement (s : State) (h : Nat) (nums : List Nat) : Steady s (takePlacement s h nums) := by
  unfold takePlacement
  dsimp only
  split
  · exact .refl s
  · exact ((Steady.ofDev s _).foldl _ fun u p _ => steady_startThread u p).setDev _

theorem steady_takeFree (s : State) : Steady s (takeFree s) := steady_takePlacement s 16 []

theorem steady_applyCommits (s : State) (h : Nat) (cs : List PendingCommit) : Steady s (applyCommits s h cs) := by
  unfold applyCommits
  split
  · exact .refl s
  · exact ((Steady.ofDev s _).trans (steady_takePlacement _ h _)).setDev _

theorem steady_applyRest (s : State) (h : Nat) : Steady s (applyRest s h) := steady_applyCommits s h _

theorem steady_applyIdle (s : State) (h : Nat) (cs : List PendingCommit) : Steady s (applyIdle s h cs) := by
  have hdiscard : Steady s (if resultEnable s.dev h cs then s else withDev s (discardTimed s.dev h)) :=
    .ite (fun _ => .refl s) fun _ => .ofDev s _
  have happly := hdiscard.trans (steady_applyCommits _ h cs)
  unfold applyIdle
  exact (Steady.ite (fun _ => (happly.setDev _).trans (steady_applyRest _ h)) fun _ => happly).setDev _

theorem steady_placeFree (s : State) (vd : Verdict) : Steady s (placeFree s vd) :=
  (Steady.ofDev s _).foldl _ fun u p _ => steady_startThread u p

theorem steady_admitCommit (s : State) (e : Evaluation) (vd : Verdict) (acts : List Action) : Steady s (admitCommit s e vd acts) := by
  unfold admitCommit
  dsimp only
  exact (((Steady.ofDev s _).trans (steady_placeFree _ vd)).foldl _ fun u h _ => steady_applyIdle u h _).setDev _

theorem steady_decide' (s : State) (e : Evaluation) : Steady s (decide' s e) := by
  unfold decide'
  split
  · exact .ofDev s _
  · dsimp only
    split
    · exact .ofDev s _
    · exact .ite (fun _ => .ofDev s _) fun _ => (steady_admitCommit s e _ _).setDev _

theorem steady_doCommitDecision (s : State) : Steady s (doCommitDecision s) := by
  unfold doCommitDecision
  split
  · exact .refl s
  · exact ((steady_decide' s _).setDev _).trans (steady_takeFree _)

/-! ### Heads -/

theorem steady_endRelock (s : State) (h : Nat) : Steady s (endRelock s h) := by
  unfold endRelock
  dsimp only
  have happly := (Steady.ite (c := resultTiming s.dev h (relockCommits s.dev h) = (headOf s.dev h).timing) (fun _ => .refl s)
    fun _ => .ofDev s (discardTimed s.dev h)).trans (steady_applyCommits _ h (relockCommits s.dev h))
  exact .ite (fun _ => happly.setDev _) fun _ => happly.setDev _

theorem steady_stopAtBoundary (s : State) (h : Nat) (cs : List PendingCommit) : Steady s (stopAtBoundary s h cs) :=
  ((((Steady.ofDev s _).trans (steady_applyCommits _ h cs)).setDev _).trans (steady_applyRest _ h)).setDev _

theorem steady_boundaryCommits (s : State) (h : Nat) (b : Rat) : Steady s (boundaryCommits s h b).1 := by
  have hplace {u : State} (hu : Steady s u) : Steady s (takePlacement u h []) := hu.trans (steady_takePlacement u h [])
  have hfirst (d : Dev) : Steady s (withDev s d) := .ofDev s d
  unfold boundaryCommits
  dsimp only
  split
  · exact (hplace (hfirst _)).setDev _
  · split
    · split
      · exact ((hfirst _).trans (steady_endRelock _ h)).setDev _
      · exact (hfirst _).trans (steady_stopAtBoundary _ h _)
    · split <;> dsimp only
      · exact (hplace (hfirst _)).setDev _
      · exact ((hfirst _).trans (steady_applyCommits _ h _)).setDev _
      · exact ((((hfirst _).setDev _).trans (steady_applyCommits _ h _)).setDev _).setDev _
      · exact (hplace ((hfirst _).setDev _)).setDev _
      · exact (hplace ((hfirst _).setDev _)).setDev _
      · exact hplace ((hfirst _).setDev _)
      · exact (hfirst _).trans (steady_stopAtBoundary _ h _)

theorem steady_doHeadFrameBoundary (h : Fin 16) (s : State) : Steady s (doHeadFrameBoundary h s) := by
  unfold doHeadFrameBoundary
  extract_lets n b d shown n0 before d1 src d2 d3 d4 d5 waiting x
  split
  · exact .refl s
  · have hx : Steady s x.1 := (Steady.ofDev s _).trans (steady_boundaryCommits _ _ _)
    have hpinned (c : Prop) [Decidable c] : Steady s (if c then withDev x.1 (pinMigration x.1.dev) else x.1) :=
      .ite (fun _ => hx.setDev _) fun _ => hx
    split
    · exact ((hpinned _).setDev _).trans (steady_takeFree _)
    · exact ((hpinned _).setDev _).trans (steady_takeFree _)

theorem steady_doHeadFirstBoundary (h : Fin 16) (s : State) : Steady s (doHeadFirstBoundary h s) := by
  unfold doHeadFirstBoundary
  dsimp only
  exact .ite (fun _ => .refl s) fun _ => ((Steady.ofDev s _).trans (steady_takePlacement _ h.val [])).setDev _

/-! ### DRAM and video inputs -/

theorem steady_doDramReadComplete (tag : Fin 512) (found : List ByteError) (s : State) : Steady s (doDramReadComplete tag found s) := by
  unfold doDramReadComplete
  dsimp only
  split
  · exact .refl s
  · exact .ite (fun _ => .refl s) fun _ => .ofDev s _

theorem steady_doMigrationCopyComplete (s : State) : Steady s (doMigrationCopyComplete s) := by
  unfold doMigrationCopyComplete
  dsimp only
  split
  · exact .refl s
  · refine .ite (fun _ => .refl s) fun _ => .ite (fun _ => .ofDev s _) fun _ => ?_
    exact ((Steady.ofDev s _).trans (steady_fabricPuts _ _ _)).setDev _

theorem steady_writeLine (i : Nat) (s : State) (q : LinePart) : Steady s (writeLine i s q) :=
  .ite (fun _ => (Steady.ofDev s _).setDev _) fun _ => (Steady.ofDev s _).foldl _ fun u _ _ => steady_putRange u 1 _ _

theorem steady_flushLines (s : State) (i : Nat) : Steady s (flushLines s i) :=
  .ite (fun _ => (Steady.ofDev s _).foldl _ fun u q _ => steady_writeLine i u q) fun _ => .refl s

theorem steady_endLine (s : State) (i : Nat) : Steady s (endLine s i) := by
  unfold endLine
  split
  · exact .refl s
  · exact (Steady.ofDev s _).trans (steady_flushLines _ i)

theorem steady_inputLine (s : State) (p : List Byte) (i : Nat) : Steady s (inputLine s p i) := by
  have hended (c : Bool) : Steady s (if c then endLine (withDev s (lookStreams s.dev)) i else withDev s (lookStreams s.dev)) :=
    .ite (fun _ => (Steady.ofDev s _).trans (steady_endLine _ i)) fun _ => .ofDev s _
  have hstarted (c : Prop) [Decidable c] (u : State) (h : Steady s u) :
      Steady s (if c then withDev u (refreshLeases (startFrame u.dev i)) else u) := .ite (fun _ => h.setDev _) fun _ => h
  unfold inputLine
  dsimp only
  refine .ite (fun _ => hstarted _ _ (hended _)) fun _ => Steady.setDev ?_ _
  exact .ite (fun _ => ((hstarted _ _ (hended _)).setDev _).trans (steady_endLine _ i)) fun _ => (hstarted _ _ (hended _)).setDev _

theorem steady_doRxLinePacket (l : Fin 32) (p : List Byte) (s : State) : Steady s (doRxLinePacket l p s) := by
  unfold doRxLinePacket
  dsimp only
  refine .ite (fun _ => .ofDev s _) fun _ => .ite (fun _ => (Steady.ofDev s _).setDev _) fun _ => ?_
  exact ((Steady.ofDev s _).foldl _ fun u i _ => steady_inputLine u p i).setDev _

/-! ### DMA and blitter -/

theorem steady_putMoves (s : State) (cls : Nat) (ms : List Move) : Steady s (putMoves s cls ms) :=
  (Steady.refl s).foldl _ fun u _ _ => steady_putRange u cls _ _

theorem steady_stopMoves (s : State) (cls : Nat) (ms : List Move) (fit : Move → Bool) (back : Bool) (k : Nat) :
    Steady s (stopMoves s cls ms fit back k) :=
  ((steady_putMoves s cls _).trans (steady_putMoves _ cls _)).setDev _

theorem steady_runMoves (s : State) (got : SMap (List Byte)) (ms own : List Move) (back : Bool) (cls : Nat) :
    Steady s (runMoves s got ms own back cls).1 := by
  unfold runMoves
  dsimp only
  split
  · exact steady_putMoves s cls ms
  · exact (Steady.ofDev s _).trans (steady_stopMoves _ cls own _ back _)

theorem steady_jobPut (s : State) (a : Nat) (bs : List Byte) (cls : Nat) : Steady s (jobPut s a bs cls) :=
  .ite (fun _ => steady_putRange s cls a bs) fun _ => .ofDev s _

theorem steady_doDmaListStart (n : Fin 32) (s : State) : Steady s (doDmaListStart n s) := by
  unfold doDmaListStart
  refine .ite (fun _ => .refl s) fun _ => ?_
  split
  · exact .refl s
  · exact .ofDev s _

theorem steady_moveList (s : State) (j : DmaJob) : Steady s (moveList s j).1 := by
  unfold moveList
  dsimp only
  split
  · exact (Steady.ofDev s _).trans (steady_stopMoves _ 3 _ _ false _)
  · exact steady_runMoves s j.got _ _ false 3

theorem steady_doDmaListComplete (n : Fin 32) (s : State) : Steady s (doDmaListComplete n s) := by
  unfold doDmaListComplete
  dsimp only
  split
  · exact .refl s
  · next j _ =>
    refine .ite (fun _ => .refl s) fun _ => Steady.setDev ?_ _
    have hmoved := (Steady.ofDev s (cancelReads s.dev 3 n.val)).trans (steady_moveList _ j)
    exact .ite (fun _ => hmoved.trans (steady_jobPut _ _ _ 3)) fun _ => hmoved

theorem steady_startBlit (s : State) (r kind : Nat) : Steady s (startBlit s r kind) := by
  unfold startBlit
  dsimp only
  exact .ite (fun _ => .refl s) fun _ => .ite (fun _ => .refl s) fun _ => .ofDev s _

theorem steady_doBlitCommandComplete (r : Fin 4) (s : State) : Steady s (doBlitCommandComplete r s) := by
  have hput (u : State) (c : Prop) [Decidable c] (p : Nat) (b : List Byte) : Steady u (if c then jobPut u p b 6 else u) :=
    .ite (fun _ => steady_jobPut u p b 6) fun _ => .refl u
  unfold doBlitCommandComplete
  dsimp only
  split
  · exact .refl s
  · next j _ =>
    refine .ite (fun _ => .refl s) fun _ => Steady.setDev ?_ _
    refine Steady.trans (Steady.trans (Steady.trans (Steady.trans ?_ (hput _ _ _ _)) (hput _ _ _ _)) (hput _ _ _ _)) (hput _ _ _ _)
    split
    · exact (Steady.ofDev s _).trans (steady_runMoves _ j.got _ _ _ 6)
    · exact .ofDev s _

theorem steady_ringEnable (s : State) (r v : Nat) : Steady s (ringEnable s r v).1 := by
  unfold ringEnable
  split
  · exact .refl s
  · split
    · exact .ofDev s _
    · exact .ite (fun _ => (Steady.ofDev s _).trans (steady_jobPut _ _ _ 6)) fun _ => .ofDev s _

theorem steady_doRingEnableWrite (sess : Nat) (r : Fin 4) (v : Nat) (s : State) : Steady s (doRingEnableWrite sess r v s) :=
  steady_withGateMem s sess _ (steady_ringEnable s r.val v)

end Sys2Proof.Machine
end

section
/-!
The instructions keep the queue and the canonical form of memory (O5, O7).
-/
-- One proof at a time: the tasks of many short proofs wait on one another, and each holds a stack of its own.
set_option Elab.async false
namespace Sys2Proof.Machine

theorem steady_withThread (s : State) (t : Nat) (f : Thread → Thread) : Steady s (withThread s t f) := .ofDev s _

theorem steady_stall (s : State) (t op : Nat) (w : Be32Op) : Steady s (stall s t op w) := steady_withThread s t _

theorem steady_retireOp32 (s : State) (t : Nat) (pc : Word) (pend load : Option (Nat × Word)) (wrote : Option Nat) :
    Steady s (retireOp32 s t pc pend load wrote) := steady_withThread s t _

theorem steady_useSlots (s : State) (t n : Nat) : Steady s (useSlots s t n) := .ofDev s _

/-- An effect whose next state keeps the queue and the form of memory. -/
inductive RanSteady (s : State) : Ran → Prop
  | done {u : State} (h : Steady s u) (load : Option (Nat × Word)) : RanSteady s (.done u load)
  | jump {u : State} (h : Steady s u) (pc : Word) : RanSteady s (.jump u pc)
  | wait {u : State} (h : Steady s u) : RanSteady s (.wait u)
  | hold {u : State} (h : Steady s u) (st : TState) : RanSteady s (.hold u st)
  | fault (code : Nat) : RanSteady s (.fault code)

theorem steady_runEffect {eff : Effect} {op t : Nat} {w : Be32Op} (heff : ∀ s, RanSteady s (eff s t w)) (s : State) :
    Steady s (runEffect eff op t w s) := by
  have hread : Steady s (withDev s (readOperand s.dev t op w)) := .ofDev s _
  have hran := heff (withDev s (readOperand s.dev t op w))
  unfold runEffect
  dsimp only
  generalize eff (withDev s (readOperand s.dev t op w)) t w = r at hran
  cases hran with
  | done h => exact ((hread.trans h).trans (steady_retireOp32 _ t _ _ _ _)).trans (steady_useSlots _ t _)
  | jump h => exact ((hread.trans h).trans (steady_retireOp32 _ t _ _ _ _)).trans (steady_useSlots _ t _)
  | wait h => exact (hread.trans h).trans (steady_stall _ t op _)
  | hold h => exact (((hread.trans h).trans (steady_useSlots _ t _)).trans (steady_withThread _ t _)).setDev _
  | fault => exact hread.setDev _

theorem steady_issue {eff : Effect} {op t : Nat} {w : Be32Op} (heff : ∀ s, RanSteady s (eff s t w)) (s : State) :
    Steady s (issue eff op t w s) := by
  have hfetched (d e : Dev) : Steady s (withDev (withDev s d) e) := (Steady.ofDev s d).setDev e
  unfold issue
  dsimp only
  refine .ite (fun _ => .refl s) fun _ => ?_
  split
  · exact (hfetched _ _).setDev _
  · refine .ite (fun _ => (hfetched _ _).trans (steady_stall _ t op w)) fun _ => .ite (fun _ => (hfetched _ _).setDev _) fun _ =>
      .ite (fun _ => (hfetched _ _).setDev _) fun _ => .ite (fun _ => (hfetched _ _).trans (steady_stall _ t op w)) fun _ => ?_
    refine .ite (fun _ => Steady.trans ?_ (steady_runEffect heff _)) fun _ =>
      (Steady.trans ?_ (steady_retireOp32 _ t _ _ _ _)).trans (steady_useSlots _ t _)
    · exact .ite (fun _ => (hfetched _ _).setDev _) fun _ => hfetched _ _
    · exact .ite (fun _ => (hfetched _ _).setDev _) fun _ => hfetched _ _

/-! ### The effects -/

theorem ranSteady_withOperand {s : State} {t : Nat} {w : Be32Op} {k : Word → Ran} (hk : ∀ v, RanSteady s (k v)) :
    RanSteady s (withOperand s t w k) := by
  unfold withOperand
  split
  · exact hk _
  · exact .wait (.ofDev s _)
  · exact .fault _

theorem ranSteady_regEffect (f : Thread → Thread) (s : State) (t : Nat) (w : Be32Op) : RanSteady s (regEffect f s t w) :=
  .done (steady_withThread s t f) none

theorem ranSteady_opEffect (f : Thread → Word → Thread) (s : State) (t : Nat) (w : Be32Op) : RanSteady s (opEffect f s t w) :=
  ranSteady_withOperand fun _ => .done (steady_withThread s t _) none

theorem ranSteady_longEffect (n : Nat) (f : Word → Word → Word) (s : State) (t : Nat) (w : Be32Op) : RanSteady s (longEffect n f s t w) :=
  ranSteady_withOperand fun _ => .done (steady_withThread s t _) none

theorem ranSteady_loadEffect (r n : Nat) (s : State) (t : Nat) (w : Be32Op) : RanSteady s (loadEffect r n s t w) := by
  unfold loadEffect
  split
  · exact .done (steady_withThread s t _) none
  · split
    · exact .done (.refl s) _
    · exact .wait (.ofDev s _)
    · exact .fault _

theorem ranSteady_farStore (s : State) (t a : Nat) (bs : List Byte) : RanSteady s (farStore s t a bs) := by
  unfold farStore
  dsimp only
  split
  iterate 4 exact .done (.ofDev s _) none
  split
  · exact .wait (.refl s)
  · split
    · exact .done (.ofDev s _) none
    · split
      · exact .done (.ofDev s _) none
      · exact .done ((steady_putRange s 4 a bs).setDev _) none

theorem ranSteady_portStore (s : State) (t : Nat) (w : Be32Op) (v : Word) : RanSteady s (portStore s t w v) := by
  unfold portStore
  split
  · exact .fault _
  · dsimp only
    split
    · exact .done (.ofDev s _) none
    · exact .done (.ofDev s _) none

theorem ranSteady_storeEffect (n : Nat) (f : Thread → Word) (s : State) (t : Nat) (w : Be32Op) : RanSteady s (storeEffect n f s t w) := by
  unfold storeEffect
  dsimp only
  split
  · exact ranSteady_portStore s t w _
  · exact ranSteady_farStore s t _ _
  · split
    · exact .fault _
    · exact .wait (.ofDev s _)
    · split
      · exact .fault _
      · split
        · exact .wait (.refl s)
        · exact .done (.ofDev s _) none

theorem ranSteady_timedEffect (s : State) (t : Nat) (w : Be32Op) : RanSteady s (timedEffect s t w) := by
  unfold timedEffect
  dsimp only
  split
  · exact .fault _
  · split
    · exact .done (.ofDev s _) none
    · split
      · split
        · exact .done (.ofDev s _) none
        · split
          · exact .wait (.refl s)
          · exact .done (.ofDev s _) none
      · split
        · exact .done (.ofDev s _) none
        · split
          · exact .wait (.ofDev s _)
          · exact .done (.ofDev s _) none

theorem ranSteady_waitPosEffect (s : State) (t : Nat) (w : Be32Op) : RanSteady s (waitPosEffect s t w) := by
  unfold waitPosEffect
  dsimp only
  split
  · exact .fault _
  · split
    · exact .fault _
    · split
      · exact .done (.ofDev s _) none
      · exact .hold (.ofDev s _) _

theorem ranSteady_waitEvEffect (s : State) (t : Nat) (w : Be32Op) : RanSteady s (waitEvEffect s t w) := by
  unfold waitEvEffect
  split
  · exact .done (.ofDev s _) none
  · exact .hold (.refl s) _

theorem ranSteady_fenceEffect (s : State) (t : Nat) (w : Be32Op) : RanSteady s (fenceEffect s t w) := by
  unfold fenceEffect
  split
  · exact .done (.refl s) none
  · exact .wait (.refl s)

theorem ranSteady_syncfEffect (s : State) (t : Nat) (w : Be32Op) : RanSteady s (syncfEffect s t w) := by
  have hfence := ranSteady_fenceEffect s t w
  unfold syncfEffect
  split
  · next heq =>
    rw [heq] at hfence
    cases hfence with
    | done h =>
      split
      · exact .done (h.setDev _) _
      · exact .done h _
  · exact hfence

theorem ranSteady_callEffect (s : State) (t : Nat) (w : Be32Op) : RanSteady s (callEffect s t w) := by
  unfold callEffect
  dsimp only
  split
  · exact .fault _
  · exact .jump (steady_withThread s t _) _

theorem ranSteady_retEffect (s : State) (t : Nat) (w : Be32Op) : RanSteady s (retEffect s t w) := by
  unfold retEffect
  split
  · exact .fault _
  · exact .jump (steady_withThread s t _) _

theorem ranSteady_farbEffect (s : State) (t : Nat) (w : Be32Op) : RanSteady s (farbEffect s t w) := by
  unfold farbEffect
  dsimp only
  split
  · exact .done (steady_withThread s t _) none
  · exact ranSteady_withOperand fun _ => .done (steady_withThread s t _) none

theorem ranSteady_cinvEffect (s : State) (t : Nat) (w : Be32Op) : RanSteady s (cinvEffect s t w) := by
  unfold cinvEffect
  split
  · exact .done (.ofDev s _) none
  · exact .done (.refl s) none

theorem ranSteady_cinvaEffect (s : State) (t : Nat) (w : Be32Op) : RanSteady s (cinvaEffect s t w) := by
  unfold cinvaEffect
  split
  · exact .done (.ofDev s _) none
  · exact .done (.refl s) none

theorem ranSteady_postEffect (entry : Thread → Be32Op → Option Nat × Nat) (s : State) (t : Nat) (w : Be32Op) :
    RanSteady s (postEffect entry s t w) := .done (.ofDev s _) none

theorem ranSteady_effectOf (op : Nat) (s : State) (t : Nat) (w : Be32Op) : RanSteady s (effectOf op s t w) := by
  unfold effectOf
  split
  · exact .done (.refl s) none
  iterate 5 exact ranSteady_loadEffect _ _ s t w
  iterate 5 exact ranSteady_storeEffect _ _ s t w
  · exact ranSteady_timedEffect s t w
  iterate 5 exact ranSteady_regEffect _ s t w
  · exact .done (steady_withThread s t _) none
  iterate 2 exact ranSteady_regEffect _ s t w
  iterate 19 exact ranSteady_opEffect _ s t w
  iterate 6 exact ranSteady_longEffect _ _ s t w
  · exact .jump (.refl s) _
  · exact ranSteady_callEffect s t w
  · exact ranSteady_retEffect s t w
  · exact ranSteady_waitPosEffect s t w
  · exact ranSteady_waitEvEffect s t w
  · exact .done (.ofDev s _) none
  · exact ranSteady_syncfEffect s t w
  · exact ranSteady_fenceEffect s t w
  · exact ranSteady_farbEffect s t w
  · exact ranSteady_cinvEffect s t w
  · exact ranSteady_cinvaEffect s t w
  iterate 2 exact ranSteady_postEffect _ s t w
  · exact .done (.refl s) none

theorem steady_issue_effectOf (op code t : Nat) (w : Be32Op) (s : State) : Steady s (issue (effectOf op) code t w s) :=
  steady_issue (fun u => ranSteady_effectOf op u t w) s

/-! ### What threads wait for -/

theorem steady_retry (s : State) (t : Nat) : Steady s (retry s t) := by
  unfold retry
  split
  · exact (steady_withThread s t _).trans (steady_issue_effectOf _ _ t _ _)
  · exact .refl s

theorem steady_doLongOpComplete (t : Fin 384) (s : State) : Steady s (doLongOpComplete t s) :=
  .ite (fun _ => (Steady.ofDev s _).trans (steady_retry _ _)) fun _ => .refl s

theorem steady_doStoreDrain (t : Fin 384) (s : State) : Steady s (doStoreDrain t s) :=
  .ite (fun _ => (Steady.ofDev s _).trans (steady_retry _ _)) fun _ => .refl s

theorem steady_doFarWriteResponse (t : Fin 384) (s : State) : Steady s (doFarWriteResponse t s) :=
  .ite (fun _ => .refl s) fun _ => (Steady.ofDev s _).trans (steady_retry _ _)

theorem steady_arrive (s : State) (t : Nat) (v : Word) : Steady s (arrive s t v) := (steady_withThread s t _).trans (steady_retry _ _)

theorem steady_arriveFar (s : State) (t a n : Nat) : Steady s (arriveFar s t a n) := by
  have hdev (d : Dev) (v : Word) : Steady s (arrive (withDev s d) t v) := (Steady.ofDev s d).trans (steady_arrive _ t v)
  unfold arriveFar
  dsimp only
  split
  · exact .ite (fun _ => .refl s) fun _ => .ite (fun _ => .ofDev s _) fun _ => hdev _ _
  · exact .ite (fun _ => .refl s) fun _ => hdev _ _
  · exact steady_arrive s t 0
  · exact steady_arrive s t 0
  · exact .ite (fun _ => steady_arrive s t _) fun _ => .ofDev s _

theorem steady_arrivePort (s : State) (t : Nat) (w : Be32Op) : Steady s (arrivePort s t w) := by
  unfold arrivePort
  dsimp only
  split
  · exact steady_arrive s t 0
  · exact .ite (fun _ => .refl s) fun _ => (Steady.ofDev s _).trans (steady_arrive _ t _)

theorem steady_doLoadDataArrival (t : Fin 384) (s : State) : Steady s (doLoadDataArrival t s) := by
  unfold doLoadDataArrival
  split
  · exact .ite (fun _ => .refl s) fun _ => .ite (fun _ => steady_arrivePort s _ _) fun _ => .ite (fun _ => steady_arriveFar s _ _ _) fun _ => .refl s
  · exact .refl s

theorem steady_doInstructionCacheFill (t : Fin 384) (s : State) : Steady s (doInstructionCacheFill t s) := by
  unfold doInstructionCacheFill
  split
  · exact .ite (fun _ => .refl s) fun _ => .ite (fun _ => (Steady.ofDev s _).trans (steady_takeFree _)) fun _ =>
      (Steady.ofDev s _).trans (steady_retry _ _)
  · exact .refl s

theorem steady_doBeamPortQueueFree (isl : Fin 105) (s : State) : Steady s (doBeamPortQueueFree isl s) :=
  .ite (fun _ => (Steady.refl s).foldl _ fun u t _ => steady_retry u t) fun _ => .refl s

end Sys2Proof.Machine
end

section
/-!
The supply, the power states, writes and start-up keep the queue and the canonical form of memory (O5, O7).
-/
-- One proof at a time: the tasks of many short proofs wait on one another, and each holds a stack of its own.
set_option Elab.async false
namespace Sys2Proof.Machine

/-! ### Blocks that stop and restart -/

theorem steady_stopHeads (s : State) : Steady s (stopHeads s) :=
  ((Steady.refl s).foldl _ fun u h _ => .ite (fun _ => (Steady.ofDev u _).trans (steady_applyRest _ h)) fun _ => .refl u).setDev _

theorem steady_resumeHeads (s : State) : Steady s (resumeHeads s) :=
  ((Steady.refl s).foldl _ fun u h _ => (steady_applyRest u h).setDev _).setDev _

theorem steady_loseBanks (s : State) : Steady s (loseBanks s) := .clear s _ _

theorem steady_stopBlock (s : State) (b : Nat) : Steady s (stopBlock s b) :=
  .ite (fun _ => .ofDev s _) fun _ => .ite (fun _ => .ofDev s _) fun _ => .ite (fun _ => steady_stopHeads s) fun _ =>
    .ite (fun _ => .ofDev s _) fun _ => .ite (fun _ => .ofDev s _) fun _ =>
    .ite (fun _ => (Steady.ofDev s _).trans (steady_loseBanks _)) fun _ => .ite (fun _ => .ofDev s _) fun _ => .refl s

theorem steady_dramAgain (s : State) : Steady s (dramAgain s) := by
  refine ((Steady.refl s).foldl _ fun u i _ => steady_flushLines u i).foldl _ fun u t _ => ?_
  split
  · exact .ite (fun _ => steady_retry u t) fun _ => .refl u
  · exact .refl u

theorem steady_doDramInitComplete (s : State) : Steady s (doDramInitComplete s) :=
  .ite (fun _ => .refl s) fun _ => (Steady.clear s _ _).trans (steady_dramAgain _)

theorem steady_resumeBlock (s : State) (b : Nat) : Steady s (resumeBlock s b) :=
  .ite (fun _ => .ofDev s _) fun _ => .ite (fun _ => steady_resumeHeads s) fun _ => .ite (fun _ => .ofDev s _) fun _ =>
    .ite (fun _ => .ofDev s _) fun _ => .ite (fun _ => steady_dramAgain s) fun _ => .ite (fun _ => .ofDev s _) fun _ => .refl s

theorem steady_doBlockStopAnswer (a : StopAnswer) (s : State) : Steady s (doBlockStopAnswer a s) := by
  unfold doBlockStopAnswer
  dsimp only
  split
  · split
    · exact .ofDev s _
    · split
      · exact .ite (fun _ => .refl s) fun _ => (steady_stopBlock s _).setDev _
      · exact .ite (fun _ => .ofDev s _) fun _ => .refl s
      · exact .ite (fun _ => .ofDev s _) fun _ => .refl s
  · exact .refl s

theorem steady_doSleepRollbackStep (s : State) : Steady s (doSleepRollbackStep s) := by
  unfold doSleepRollbackStep
  split
  · exact .ite (fun _ => .refl s) fun _ => ((Steady.ofDev s _).trans (steady_resumeBlock _ _)).setDev _
  · exact .refl s

/-! ### Supply -/

theorem steady_endAbruptly (s : State) (cause : Nat) : Steady s (endAbruptly s cause) := .empty s _

theorem steady_doVinValid (s : State) : Steady s (doVinValid s) := by
  unfold doVinValid
  dsimp only
  split
  · exact .empty s _
  · exact .ite (fun _ => .refl s) fun _ => .ofDev s _
  · exact .refl s

theorem steady_doVinLoss (s : State) : Steady s (doVinLoss s) := by
  unfold doVinLoss
  split
  · exact steady_endAbruptly s 1
  · exact .ite (fun _ => steady_endAbruptly s 1) fun _ => .refl s

theorem steady_doVinAbsent (s : State) : Steady s (doVinAbsent s) := (steady_doVinLoss s).trans (.empty _ _)

theorem steady_doCrankTimeout (s : State) : Steady s (doCrankTimeout s) := .ite (fun _ => steady_endAbruptly s 2) fun _ => .refl s

theorem steady_doOvervoltage (s : State) : Steady s (doOvervoltage s) :=
  .ite (fun _ => .refl s) fun _ => .ite (fun _ => .ofDev s _) fun _ => (Steady.ofDev s _).trans (steady_endAbruptly _ 3)

theorem steady_doCrankExit (s : State) : Steady s (doCrankExit s) :=
  .ite (fun _ => .refl s) fun _ => (Steady.ofDev s _).trans (steady_dramAgain _)

theorem steady_removePower (s : State) (kind : Nat) : Steady s (removePower s kind) :=
  (Steady.clear s _ _).trans (steady_loseBanks _)

theorem steady_doStopDelayExpiry (s : State) : Steady s (doStopDelayExpiry s) := by
  unfold doStopDelayExpiry
  dsimp only
  split
  · exact .ite (fun _ => .refl s) fun _ => .ite (fun _ => .ofDev s _) fun _ => (Steady.ofDev s _).trans (steady_removePower _ _)
  · exact .refl s

theorem steady_doThermalTrip (s : State) : Steady s (doThermalTrip s) :=
  .ite (fun _ => .refl s) fun _ => (((Steady.ofDev s _).trans (steady_stopHeads _)).setDev _).trans (steady_removePower _ 2)

/-! ### Wake -/

theorem steady_wakeUp (s : State) (source detail : Nat) : Steady s (wakeUp s source detail) := by
  unfold wakeUp
  dsimp only
  split
  · exact .ofDev s _
  · exact .empty s _
  · exact .empty s _
  · exact .refl s

theorem steady_wakeRequest (s : State) (source detail : Nat) : Steady s (wakeRequest s source detail) :=
  .ite (fun _ => .ite (fun _ => .refl s) fun _ => steady_wakeUp s source detail) fun _ => .ofDev s _

theorem steady_doWakeN (s : State) : Steady s (doWakeN s) := .ite (fun _ => steady_wakeRequest s 3 0) fun _ => .refl s

theorem steady_resetHeld (s : State) : Steady s (resetHeld s) := by
  unfold resetHeld
  split
  · exact .refl s
  · exact .refl s
  · exact .ite (fun _ => .ofDev s _) fun _ => .empty s _
  · exact .empty s _
  · exact .empty s _

theorem steady_doResetN (s : State) : Steady s (doResetN s) := (Steady.ofDev s _).trans (steady_resetHeld _)

theorem steady_resumeProgram (s : State) (p : ProgPlace) : Steady s (resumeProgram s p) := by
  have hstart := steady_startThreadAt s p
  unfold resumeProgram
  exact .ite (fun _ => (hstart _ _).setDev _) fun _ => hstart _ _

theorem steady_warmResume (s : State) : Steady s (warmResume s) :=
  ((((Steady.ofDev s _).foldl _ fun u p _ => steady_resumeProgram u p).setDev _).trans (steady_resumeHeads _)).setDev _

theorem steady_endRestore (s : State) (start : Nat) : Steady s (endRestore s start) :=
  .ite (fun _ => (Steady.ofDev s _).trans (steady_warmResume _)) fun _ => .ofDev s _

theorem steady_doRestoreStepComplete (s : State) : Steady s (doRestoreStepComplete s) := by
  unfold doRestoreStepComplete
  split
  · exact .ite (fun _ => .refl s) fun _ => .ite (fun _ => (Steady.ofDev s _).trans (steady_endRestore _ _)) fun _ => .ofDev s _
  · exact .refl s

theorem steady_doRtcTick (s : State) : Steady s (doRtcTick s) := by
  have hwake (d : Dev) (source detail : Nat) : Steady s (wakeRequest (withDev s d) source detail) :=
    (Steady.ofDev s d).trans (steady_wakeRequest _ source detail)
  unfold doRtcTick
  dsimp only
  refine .ite (fun _ => .refl s) fun _ => ?_
  split
  · split
    · exact hwake _ _ _
    · exact hwake _ _ _
    · exact .ofDev s _
  · split
    · exact hwake _ _ _
    · exact .ofDev s _
  · exact .ofDev s _

/-! ### WRITE and BULK -/

theorem steady_onDev (s : State) (x : Dev × Status × List Byte) : Steady s (onDev s x).1 := .ofDev s x.1

theorem steady_writeMovers (s : State) (r : Ref) (v : Val) : Steady s (writeMovers s r v).1 := by
  unfold writeMovers
  dsimp only
  split
  · exact steady_onDev s _
  · split
    · exact steady_ringEnable s _ _
    · exact steady_onDev s _
  · exact steady_onDev s _
  · exact steady_onDev s _

theorem steady_writeLive (s : State) (sess : Nat) (r : Ref) (v : Val) : Steady s (writeLive s sess r v).1 := by
  unfold writeLive
  dsimp only
  split
  · exact steady_onDev s _
  split
  · exact steady_onDev s _
  split
  · exact steady_onDev s _
  split
  · exact steady_onDev s _
  split
  · exact steady_onDev s _
  · exact steady_writeMovers s r v

theorem steady_memberWrite (s : State) (sess : Nat) (by' : Writer) (it : WriteItem) : Steady s (memberWrite s sess by' it).1 := by
  unfold memberWrite
  split
  · exact .refl s
  split
  · exact .refl s
  split
  · exact .refl s
  split
  · exact .refl s
  split
  · exact .refl s
  split
  · exact .refl s
  split
  · exact .refl s
  split
  · exact steady_onDev s _
  split
  · exact .refl s
  split
  · exact steady_onDev s _
  · exact (steady_writeLive s sess _ _).trans (steady_onDev _ _)

theorem steady_writeItems (sess size : Nat) (items : List WriteItem) (s : State) : Steady s (writeItems sess size items s).1 := by
  induction items generalizing size s with
  | nil => exact .refl s
  | cons i l ih =>
    refine Steady.trans ?_ (ih _ _)
    split
    · exact .refl s
    · exact steady_memberWrite s sess .message i

theorem steady_atTurnMem {run : State → State} (hrun : ∀ u, Steady u (run u)) (s : State) (sess seq typ n : Nat) :
    Steady s (atTurnMem s sess seq typ n run) :=
  .ite (fun _ => .refl s) fun _ => Steady.setDev (.ite (fun _ => (Steady.ofDev s _).trans (hrun _)) fun _ => .ofDev s _) _

theorem steady_doWrite (sess seq : Nat) (items : List WriteItem) (s : State) : Steady s (doWrite sess seq items s) :=
  steady_atTurnMem (fun u => .ite (fun _ => .ofDev u _) fun _ => (steady_writeItems sess 1 items u).setDev _) s sess seq 2 _

theorem steady_bulkBlob (s : State) (sess : Nat) (r : Ref) (off : Nat) (b : List Byte) : Steady s (bulkBlob s sess r off b).1 := by
  unfold bulkBlob
  split
  · exact .ofDev s _
  · exact steady_writeLive s sess r _

theorem steady_bulkSurface (s : State) (r : Ref) (off : Nat) (b : List Byte) : Steady s (bulkSurface s r off b).1 := by
  unfold bulkSurface
  dsimp only
  split
  · exact .ofDev s _
  · exact steady_putRange s 5 _ b

theorem steady_doBulk (sess seq : Nat) (target : Ref) (off : Nat) (b : List Byte) (s : State) : Steady s (doBulk sess seq target off b s) := by
  refine steady_atTurnMem (fun u => ?_) s sess seq 6 1
  split
  · exact .ofDev u _
  · refine .ite (fun _ => .refl u) fun _ => Steady.setDev ?_ _
    split
    · exact steady_bulkSurface u target off b
    · exact steady_bulkBlob u sess target off b

/-! ### NOAP-lite -/

theorem steady_liteWriteMember (s : State) (r : Ref) (vtype : Nat) (val : List Byte) : Steady s (liteWriteMember s r vtype val).1 := by
  unfold liteWriteMember
  split
  · exact .refl s
  split
  · exact .refl s
  split
  · exact .refl s
  · exact steady_memberWrite s 0 .message _

theorem steady_runLite (s : State) (f : LiteFrame) : Steady s (runLite s f) :=
  .ite (fun _ => .ofDev s _) fun _ => .ite (fun _ => .refl s) fun _ => .ite (fun _ => .ofDev s _) fun _ => .ite (fun _ => .ofDev s _) fun _ =>
    ((Steady.ofDev s _).trans (steady_liteWriteMember _ _ _ _)).setDev _

theorem steady_liteFrame (s : State) (fd : Bool) (f : LiteFrame) : Steady s (liteFrame s fd f) :=
  .ite (fun _ => .refl s) fun _ => .ite (fun _ => .ofDev s _) fun _ => .ite (fun _ => .ofDev s _) fun _ => steady_runLite s f

theorem steady_liteTurn (s : State) : Steady s (liteTurn s) := (Steady.ofDev s _).foldl _ fun u f _ => steady_runLite u f

theorem steady_canFrame (port : Nat) (fmt : CanFormat) (id : Nat) (data : List Byte) (s : State) : Steady s (canFrame port fmt id data s) :=
  .ite (fun _ => .refl s) fun _ => .ite (fun _ => .ofDev s _) fun _ => .ite (fun _ => (Steady.ofDev s _).trans (steady_liteFrame _ _ _))
    fun _ => .ofDev s _

/-! ### Start-up -/

theorem steady_recordCommit (s : State) (mask : Nat) : Steady s (recordCommit s mask).1 := by
  have hdecided := (Steady.ofDev s (commitReceived s.dev s.mem 0 0 mask false)).trans (steady_doCommitDecision _)
  unfold recordCommit
  dsimp only
  split
  · exact .ofDev s _
  · split
    · exact hdecided.setDev _
    · exact hdecided

theorem steady_recordData (s : State) (r : Ref) (off : Nat) (b : List Byte) : Steady s (recordData s r off b).1 := by
  unfold recordData
  dsimp only
  split
  · exact .refl s
  split
  · exact .refl s
  split
  · exact .refl s
  split
  · exact .refl s
  split
  · exact .refl s
  · exact steady_bulkSurface s r off b

theorem steady_applyRecord (s : State) (w : Writer) (kind : Nat) (b : List Byte) : Steady s (applyRecord s w kind b).1 := by
  unfold applyRecord
  dsimp only
  split
  · split
    · exact .refl s
    · exact steady_memberWrite s 0 _ _
  · exact steady_memberWrite s 0 _ _
  · exact steady_recordCommit s _
  · exact steady_recordCommit s _
  · split
    · exact .refl s
    · exact .ofDev s _
  · split
    · exact .refl s
    · exact .ofDev s _
  · exact steady_recordData s _ _ _
  · split
    · exact .refl s
    · exact .ofDev s _
  · exact .refl s

theorem steady_applyRecords (w : Writer) (p : List Byte) (n off : Nat) (s : State) : Steady s (applyRecords w p n off s) := by
  induction n generalizing off s with
  | zero => exact .refl s
  | succ n ih => exact .ite (fun _ => .refl s) fun _ => ((steady_applyRecord s w _ _).setDev _).trans (ih _ _)

theorem steady_applyList (w : Writer) (p : List Byte) (off : Nat) (s : State) : Steady s (applyList w p off s) := steady_applyRecords w p _ off s

theorem steady_release (s : State) : Steady s (release s) := ((Steady.ofDev s _).trans (steady_applyList .config _ 0 _)).setDev _

theorem steady_typeDone (s : State) (typ : Nat) (found : Bool) : Steady s (typeDone s typ found) :=
  .ite (fun _ => .ofDev s _) fun _ => .ite (fun _ => .ofDev s _) fun _ => .ite (fun _ => (Steady.ofDev s _).trans (steady_release _))
    fun _ => .ofDev s _

theorem steady_doImageVerifyComplete (slot : Fin 8) (s : State) : Steady s (doImageVerifyComplete slot s) := by
  have hdone (d : Dev) (typ : Nat) (found : Bool) := (Steady.ofDev s d).trans (steady_typeDone (withDev s d) typ found)
  unfold doImageVerifyComplete
  dsimp only
  refine .ite (fun _ => .refl s) fun _ => .ite (fun _ => .ite (fun _ => (hdone _ _ _).setDev _) fun _ => hdone _ _ _) fun _ =>
    .ite (fun _ => .ofDev s _) fun _ => hdone _ _ _

theorem steady_fillStore (s : State) (b : List Byte) : Steady s (fillStore s b) := ⟨rfl, memWf_memWriteBytes _ _ _⟩

theorem steady_doHearthPackageLoaded (s : State) : Steady s (doHearthPackageLoaded s) := by
  have hfilled (b p : List Byte) (off : Nat) := (steady_fillStore s b).trans (steady_applyList .package p off (fillStore s b))
  unfold doHearthPackageLoaded
  exact .ite (fun _ => .refl s) fun _ => .ite (fun _ => .ofDev s _) fun _ => .ite (fun _ => (hfilled _ _ _).setDev _) fun _ =>
    (hfilled _ _ _).setDev _

theorem steady_doBootSceneApply (s : State) : Steady s (doBootSceneApply s) :=
  .ite (fun _ => .refl s) fun _ => (steady_applyList .scene _ 0 s).setDev _

/-! ### A tick and a step -/

theorem steady_tick (s : State) : Steady s (tick s) := ((Steady.ofDev s _).trans (steady_liteTurn _)).setDev _

end Sys2Proof.Machine
end

section
/-!
Every command, and every step, keeps the queue and the canonical form of memory (O5, O7).
-/
-- One proof at a time: the tasks of many short proofs wait on one another, and each holds a stack of its own.
set_option Elab.async false
namespace Sys2Proof.Machine

/-- What a command answers keeps the queue and the canonical form of memory: a command that is not named here changes the device alone. -/
theorem steady_exec {c : Instr} {s u : State} (h : exec c s = .next u) : Steady s u := by
  cases c
  all_goals obtain rfl := Host.Outcome.next.inj h
  case nop t w => exact steady_issue_effectOf 0x00 _ t w s
  case ldA t w | ldX t w | ldY t w | ldB t w | ldH t w => exact steady_issue (fun u => ranSteady_loadEffect _ _ u t w) s
  case stA t w | stX t w | stY t w | stB t w | stH t w => exact steady_issue (fun u => ranSteady_storeEffect _ _ u t w) s
  case stT t w => exact steady_issue (fun u => ranSteady_timedEffect u t w) s
  case mvXa t w | mvYa t w | mvAx t w | mvAy t w | mvAl t w | mvAf t w | mvFa t w =>
    exact steady_issue (fun u => ranSteady_regEffect _ u t w) s
  case mvAt t w => exact steady_issue_effectOf 0x11 _ t w s
  case add t w | addC t w | sub t w | subC t w | rsb t w | and t w | or t w | xor t w | cmp t w | cmpX t w | cmpY t w | tst t w
      | shl t w | shr t w | sar t w | min t w | max t w | addX t w | addY t w =>
    exact steady_issue (fun u => ranSteady_opEffect _ u t w) s
  case mul t w | mulq t w | div t w | recip t w | sqrt t w | sincos t w => exact steady_issue (fun u => ranSteady_longEffect _ _ u t w) s
  case jmp t w => exact steady_issue_effectOf 0x30 _ t w s
  case call t w => exact steady_issue (fun u => ranSteady_callEffect u t w) s
  case ret t w => exact steady_issue (fun u => ranSteady_retEffect u t w) s
  case waitpos t w => exact steady_issue (fun u => ranSteady_waitPosEffect u t w) s
  case waitev t w => exact steady_issue (fun u => ranSteady_waitEvEffect u t w) s
  case eoi t w => exact steady_issue_effectOf 0x35 _ t w s
  case syncf t w => exact steady_issue (fun u => ranSteady_syncfEffect u t w) s
  case fence t w => exact steady_issue (fun u => ranSteady_fenceEffect u t w) s
  case farb t w => exact steady_issue (fun u => ranSteady_farbEffect u t w) s
  case cinv t w => exact steady_issue (fun u => ranSteady_cinvEffect u t w) s
  case cinva t w => exact steady_issue (fun u => ranSteady_cinvaEffect u t w) s
  case ring t w | dmaq t w => exact steady_issue (fun u => ranSteady_postEffect _ u t w) s
  case longOpComplete t => exact steady_doLongOpComplete t s
  case storeDrain t => exact steady_doStoreDrain t s
  case loadDataArrival t => exact steady_doLoadDataArrival t s
  case farWriteResponse t => exact steady_doFarWriteResponse t s
  case beamPortQueueFree isl => exact steady_doBeamPortQueueFree isl s
  case instructionCacheFill t => exact steady_doInstructionCacheFill t s
  case clusterFault | capacityStep | capacityStepUndo => exact (Steady.ofDev s _).trans (steady_takeFree _)
  case commitDecision => exact steady_doCommitDecision s
  case headFrameBoundary => exact steady_doHeadFrameBoundary _ s
  case headFirstBoundary => exact steady_doHeadFirstBoundary _ s
  case migrationCopyComplete => exact steady_doMigrationCopyComplete s
  case dramReadComplete tag found => exact steady_doDramReadComplete tag found s
  case dramInitComplete => exact steady_doDramInitComplete s
  case rxLinePacket l p => exact steady_doRxLinePacket l p s
  case dmaListStart n => exact steady_doDmaListStart n s
  case dmaListComplete n => exact steady_doDmaListComplete n s
  case ringEnableWrite sess r v => exact steady_doRingEnableWrite sess r v s
  case fill r | copy r | clip r => exact steady_startBlit s r _
  case blitCommandComplete r => exact steady_doBlitCommandComplete r s
  case rtcTick => exact steady_doRtcTick s
  case vinValid => exact steady_doVinValid s
  case vinAbsent => exact steady_doVinAbsent s
  case vinLoss => exact steady_doVinLoss s
  case crankExit => exact steady_doCrankExit s
  case crankTimeout => exact steady_doCrankTimeout s
  case overvoltage => exact steady_doOvervoltage s
  case restoreStepComplete => exact steady_doRestoreStepComplete s
  case blockStopAnswer a => exact steady_doBlockStopAnswer a s
  case stopDelayExpiry => exact steady_doStopDelayExpiry s
  case sleepRollbackStep => exact steady_doSleepRollbackStep s
  case wakeN => exact steady_doWakeN s
  case resetN => exact steady_doResetN s
  case thermalTrip => exact steady_doThermalTrip s
  case write sess seq items => exact steady_doWrite sess seq items s
  case bulk sess seq target off b => exact steady_doBulk sess seq target off b s
  case canFdFrameReceived port fmt id b | noapLiteRead port fmt id b | noapLiteWrite port fmt id b => exact steady_canFrame port fmt id b s
  case imageVerifyComplete slot => exact steady_doImageVerifyComplete slot s
  case hearthPackageLoaded => exact steady_doHearthPackageLoaded s
  case bootSceneApply => exact steady_doBootSceneApply s
  all_goals exact .ofDev s _

theorem steady_step {s u : State} (h : step s = .next u) (hm : memWf s.mem = true) : memWf u.mem = true := by
  unfold step at h
  split at h
  · obtain rfl := Host.Outcome.next.inj h
    exact (steady_tick s).mem hm
  · exact (steady_exec h).mem hm

/-- Settles O5: memory changes by writes and by losses of content, and both keep its canonical form. -/
theorem memoryStaysInOrder : Obligations.MemoryStaysInOrder := fun _ _ hm h => steady_step h hm

/-- Settles O7: no command writes the queue. -/
theorem commandsLeaveTheQueue : Obligations.CommandsLeaveTheQueue := fun _ _ _ h => (steady_exec h).pending

end Sys2Proof.Machine
end

section
/-!
What leaves the clock of the model and the engines alone: `f_aside` says that `f` does. A tick moves the clock in `advance` (assumption
log 3), and a register write reaches no engine (R13, R16).
-/
-- One proof at a time: the tasks of many short proofs wait on one another, and each holds a stack of its own.
set_option Elab.async false
namespace Sys2Proof.Machine

@[simp] theorem ite_now {c : Prop} [Decidable c] (d e : Dev) : (if c then d else e).now = if c then d.now else e.now := by
  split <;> rfl

@[simp] theorem ite_beam {c : Prop} [Decidable c] (d e : Dev) : (if c then d else e).beam = if c then d.beam else e.beam := by
  split <;> rfl

@[simp] theorem foldl_now {α : Type} {f : Dev → α → Dev} (hf : ∀ d a, (f d a).now = d.now) (l : List α) (d : Dev) :
    (l.foldl f d).now = d.now := by
  induction l generalizing d with
  | nil => rfl
  | cons a l ih => exact (ih _).trans (hf d a)

@[simp] theorem foldl_beam {α : Type} {f : Dev → α → Dev} (hf : ∀ d a, (f d a).beam = d.beam) (l : List α) (d : Dev) :
    (l.foldl f d).beam = d.beam := by
  induction l generalizing d with
  | nil => rfl
  | cons a l ih => exact (ih _).trans (hf d a)

theorem aside_of_membersOnly {d e : Dev} (h : MembersOnly d e) : e.now = d.now ∧ e.beam = d.beam := ⟨h.now, beam_of_membersOnly h⟩

@[simp] theorem bSet_aside (d : Dev) (r : Ref) (b : List Byte) : (bSet d r b).now = d.now ∧ (bSet d r b).beam = d.beam := by
  simp [bSet]

@[simp] theorem dropObject_aside (d : Dev) (o : Ref) : (dropObject d o).now = d.now ∧ (dropObject d o).beam = d.beam := by
  simp [dropObject]

@[simp] theorem queueNotif_aside (d : Dev) (sess : Nat) (n : Notif) : (queueNotif d sess n).now = d.now ∧ (queueNotif d sess n).beam = d.beam := by
  unfold queueNotif
  split
  · exact ⟨rfl, rfl⟩
  · simp

@[simp] theorem notifyController_aside (d : Dev) (n : Notif) : (notifyController d n).now = d.now ∧ (notifyController d n).beam = d.beam := by
  unfold notifyController
  split
  · simp
  · exact ⟨rfl, rfl⟩

@[simp] theorem updHead_aside (d : Dev) (h : Nat) (f : HeadSt → HeadSt) : (updHead d h f).now = d.now ∧ (updHead d h f).beam = d.beam := by
  simp [updHead]

@[simp] theorem updLane_aside (d : Dev) (l : Nat) (f : LaneSt → LaneSt) : (updLane d l f).now = d.now ∧ (updLane d l f).beam = d.beam := by
  simp [updLane]

@[simp] theorem pushLine_aside (d : Dev) (l : Nat) (ps : List Packet) : (pushLine d l ps).now = d.now ∧ (pushLine d l ps).beam = d.beam := by
  induction ps generalizing d with
  | nil => exact ⟨rfl, rfl⟩
  | cons p ps ih => simp [pushLine, ih]

@[simp] theorem pushProtected_aside (d : Dev) (l : Nat) (typ : Nat) (sub : Nat) (payload : List Byte) :
    (pushProtected d l typ sub payload).now = d.now ∧ (pushProtected d l typ sub payload).beam = d.beam := by
  simp [pushProtected]

@[simp] theorem sendCtrl_aside (d : Dev) (h : Nat) (channel : Nat) (payload : List Byte) :
    (sendCtrl d h channel payload).now = d.now ∧ (sendCtrl d h channel payload).beam = d.beam := by
  simp [sendCtrl]

@[simp] theorem panelLog_aside (d : Dev) (h : Nat) (code : Nat) (cause : Nat) :
    (panelLog d h code cause).now = d.now ∧ (panelLog d h code cause).beam = d.beam := by
  simp [panelLog]

@[simp] theorem trace_aside (d : Dev) (kind unit data : Nat) :
    (trace d kind unit data).now = d.now ∧ (trace d kind unit data).beam = d.beam :=
  aside_of_membersOnly (membersOnly_trace d kind unit data)

@[simp] theorem countSignal_aside (d : Dev) (sel n : Nat) :
    (countSignal d sel n).now = d.now ∧ (countSignal d sel n).beam = d.beam :=
  aside_of_membersOnly (membersOnly_countSignal d sel n)

@[simp] theorem serviceLog_aside (d : Dev) (kind : Nat) (unit : Nat) (detail : Nat) :
    (serviceLog d kind unit detail).now = d.now ∧ (serviceLog d kind unit detail).beam = d.beam := by
  simp [serviceLog]

@[simp] theorem snapTrigger_aside (d : Dev) (cause : Nat) :
    (snapTrigger d cause).now = d.now ∧ (snapTrigger d cause).beam = d.beam :=
  aside_of_membersOnly (membersOnly_snapTrigger d cause)

@[simp] theorem claimSource_aside (d : Dev) (n who : Nat) :
    (claimSource d n who).now = d.now ∧ (claimSource d n who).beam = d.beam :=
  aside_of_membersOnly (membersOnly_claimSource d n who)

@[simp] theorem endSource_aside (d : Dev) (n : Nat) :
    (endSource d n).now = d.now ∧ (endSource d n).beam = d.beam :=
  aside_of_membersOnly (membersOnly_endSource d n)

@[simp] theorem firekeeperClaim_aside (d : Dev) (n : Nat) :
    (firekeeperClaim d n).now = d.now ∧ (firekeeperClaim d n).beam = d.beam :=
  aside_of_membersOnly (membersOnly_firekeeperClaim d n)

@[simp] theorem raiseBy_aside (d : Dev) (n amt : Nat) :
    (raiseBy d n amt).now = d.now ∧ (raiseBy d n amt).beam = d.beam :=
  aside_of_membersOnly (membersOnly_raiseBy d n amt)

@[simp] theorem raise_aside (d : Dev) (n : Nat) : (raise d n).now = d.now ∧ (raise d n).beam = d.beam := by
  simp [raise]

@[simp] theorem setLevel_aside (d : Dev) (n : Nat) (b : Bool) : (setLevel d n b).now = d.now ∧ (setLevel d n b).beam = d.beam := by
  simp [setLevel]

@[simp] theorem unrouteProgram_aside (d : Dev) (o : Ref) : (unrouteProgram d o).now = d.now ∧ (unrouteProgram d o).beam = d.beam := by
  simp [unrouteProgram]

@[simp] theorem updHHead_aside (d : Dev) (h : Nat) (f : HHead → HHead) : (updHHead d h f).now = d.now ∧ (updHHead d h f).beam = d.beam := by
  simp [updHHead]

@[simp] theorem noteEntry_aside (d : Dev) (n : Nat) (lag : Nat) : (noteEntry d n lag).now = d.now ∧ (noteEntry d n lag).beam = d.beam := by
  simp [noteEntry]

@[simp] theorem retime_aside (d : Dev) (was : Nat) (i : Nat) : (retime d was i).now = d.now ∧ (retime d was i).beam = d.beam := by
  simp [retime]

@[simp] theorem recombineFor_aside (was : Dev) (d : Dev) (n : Nat) : (recombineFor was d n).now = d.now ∧ (recombineFor was d n).beam = d.beam := by
  simp [recombineFor]

@[simp] theorem entryChange_aside (lag : Nat) (d : Dev) (n : Nat) {f : Dev → Dev} (hf : ∀ d, (f d).now = d.now ∧ (f d).beam = d.beam) :
    (entryChange lag d n f).now = d.now ∧ (entryChange lag d n f).beam = d.beam := by
  simp [entryChange, hf]

@[simp] theorem writeEntryState_aside (d : Dev) (n : Nat) (st : Nat) :
    (writeEntryState d n st).now = d.now ∧ (writeEntryState d n st).beam = d.beam := by
  simp [writeEntryState]

@[simp] theorem applyValue_aside (lag : Nat) (d : Dev) (n : Nat) (v : Nat) :
    (applyValue lag d n v).now = d.now ∧ (applyValue lag d n v).beam = d.beam := by
  simp [applyValue]

@[simp] theorem updPins_aside (d : Dev) : (updPins d).now = d.now ∧ (updPins d).beam = d.beam := by
  simp [updPins]

@[simp] theorem hoCauseSet_aside (d : Dev) (h : Nat) (bit : Nat) : (hoCauseSet d h bit).now = d.now ∧ (hoCauseSet d h bit).beam = d.beam := by
  simp [hoCauseSet]

@[simp] theorem hoCauseClear_aside (d : Dev) (h : Nat) (bit : Nat) : (hoCauseClear d h bit).now = d.now ∧ (hoCauseClear d h bit).beam = d.beam := by
  simp [hoCauseClear]

@[simp] theorem latchFault_aside (d : Dev) (h : Nat) (bit : Nat) (frame : Nat) :
    (latchFault d h bit frame).now = d.now ∧ (latchFault d h bit frame).beam = d.beam := by
  simp [latchFault]

@[simp] theorem errorLog_aside (d : Dev) (addr : Nat) (place : Nat) (master : Nat) (kind : Nat) :
    (errorLog d addr place master kind).now = d.now ∧ (errorLog d addr place master kind).beam = d.beam := by
  simp [errorLog]

@[simp] theorem sramBad_aside (d : Dev) (addr : Nat) (place : Nat) (kind : Nat) :
    (sramBad d addr place kind).now = d.now ∧ (sramBad d addr place kind).beam = d.beam := by
  simp [sramBad]

@[simp] theorem latchStoreEcc_aside (d : Dev) (h : Nat) : (latchStoreEcc d h).now = d.now ∧ (latchStoreEcc d h).beam = d.beam := by
  simp [latchStoreEcc]

@[simp] theorem readPads_aside (d : Dev) : (readPads d).now = d.now ∧ (readPads d).beam = d.beam := by
  simp [readPads]

@[simp] theorem matcherOutput_aside (d : Dev) (k : Nat) (v : Nat) : (matcherOutput d k v).now = d.now ∧ (matcherOutput d k v).beam = d.beam := by
  simp [matcherOutput]

@[simp] theorem matcherLook_aside (d : Dev) (k : Nat) : (matcherLook d k).now = d.now ∧ (matcherLook d k).beam = d.beam := by
  simp [matcherLook]

@[simp] theorem settlePins_aside (d : Dev) : (settlePins d).now = d.now ∧ (settlePins d).beam = d.beam := by
  simp [settlePins]

@[simp] theorem followWake_aside (d : Dev) : (followWake d).now = d.now ∧ (followWake d).beam = d.beam := by
  simp [followWake]

@[simp] theorem updTimer_aside (d : Dev) (n : Nat) (f : Timer → Timer) : (updTimer d n f).now = d.now ∧ (updTimer d n f).beam = d.beam := by
  simp [updTimer]

@[simp] theorem timerFire_aside (d : Dev) (n : Nat) (k : Nat) : (timerFire d n k).now = d.now ∧ (timerFire d n k).beam = d.beam := by
  simp [timerFire]

@[simp] theorem timerReload_aside (d : Dev) (n : Nat) : (timerReload d n).now = d.now ∧ (timerReload d n).beam = d.beam := by
  simp [timerReload]

@[simp] theorem timerEnable_aside (d : Dev) (n : Nat) (b : Bool) : (timerEnable d n b).now = d.now ∧ (timerEnable d n b).beam = d.beam := by
  simp [timerEnable]

@[simp] theorem timerControl_aside (d : Dev) (n : Nat) (v : Nat) : (timerControl d n v).now = d.now ∧ (timerControl d n v).beam = d.beam := by
  simp [timerControl]

@[simp] theorem periodWrite_aside (d : Dev) (n : Nat) (v : Nat) : (periodWrite d n v).now = d.now ∧ (periodWrite d n v).beam = d.beam := by
  simp [periodWrite]

@[simp] theorem updStart_aside (d : Dev) (c : Nat) (f : GroupStart → GroupStart) :
    (updStart d c f).now = d.now ∧ (updStart d c f).beam = d.beam := by
  simp [updStart]

@[simp] theorem groupStart_aside (d : Dev) (c : Nat) : (groupStart d c).now = d.now ∧ (groupStart d c).beam = d.beam := by
  simp [groupStart]

@[simp] theorem startMaskWrite_aside (d : Dev) (c : Nat) (v : Nat) : (startMaskWrite d c v).now = d.now ∧ (startMaskWrite d c v).beam = d.beam := by
  simp [startMaskWrite]

@[simp] theorem captureRead_aside (d : Dev) (n : Nat) : (captureRead d n).1.now = d.now ∧ (captureRead d n).1.beam = d.beam := by
  simp [captureRead]

@[simp] theorem blockCorrected_aside (d : Dev) (c : Nat) : (blockCorrected d c).now = d.now ∧ (blockCorrected d c).beam = d.beam := by
  unfold blockCorrected
  dsimp only
  split <;> simp

@[simp] theorem setSegCodes_aside (d : Dev) (l : List Nat) : (setSegCodes d l).now = d.now ∧ (setSegCodes d l).beam = d.beam := by
  simp [setSegCodes]

@[simp] theorem moveReserved_aside (d : Dev) : (moveReserved d).now = d.now ∧ (moveReserved d).beam = d.beam := by
  unfold moveReserved
  dsimp only
  split
  · split
    · exact ⟨rfl, rfl⟩
    · split
      · simp
      · split
        · simp
        · exact ⟨rfl, rfl⟩
  · exact ⟨rfl, rfl⟩

@[simp] theorem countSlot_aside (d : Dev) (c : Nat) (cls : Nat) : (countSlot d c cls).now = d.now ∧ (countSlot d c cls).beam = d.beam := by
  simp [countSlot]

@[simp] theorem countRead_aside (d : Dev) (r : DramRead) : (countRead d r).now = d.now ∧ (countRead d r).beam = d.beam := by
  simp [countRead]

@[simp] theorem countStaged_aside (d : Dev) : (countStaged d).now = d.now ∧ (countStaged d).beam = d.beam := by
  simp [countStaged]

@[simp] theorem countClass_aside (d : Dev) (c : Nat) : (countClass d c).now = d.now ∧ (countClass d c).beam = d.beam := by
  simp [countClass]

@[simp] theorem lookStream_aside (d : Dev) (i : Nat) : (lookStream d i).now = d.now ∧ (lookStream d i).beam = d.beam := by
  simp [lookStream]

@[simp] theorem lookStreams_aside (d : Dev) : (lookStreams d).now = d.now ∧ (lookStreams d).beam = d.beam := by
  simp [lookStreams]

@[simp] theorem refreshObject_aside (live : List Nat) (pend : List Nat) (ls : List (Nat × Nat)) (scenes : List (List Ref)) (d : Dev) (o : Ref) :
    (refreshObject live pend ls scenes d o).now = d.now ∧ (refreshObject live pend ls scenes d o).beam = d.beam := by
  simp [refreshObject]

@[simp] theorem holdCapacity_aside (d : Dev) : (holdCapacity d).now = d.now ∧ (holdCapacity d).beam = d.beam := by
  simp [holdCapacity]

@[simp] theorem updPipe_aside (d : Dev) (p : Nat) (f : Pipe → Pipe) : (updPipe d p f).now = d.now ∧ (updPipe d p f).beam = d.beam := by
  simp [updPipe]

@[simp] theorem countDropped_aside (d : Dev) (prog : Ref) : (countDropped d prog).now = d.now ∧ (countDropped d prog).beam = d.beam := by
  simp [countDropped]

@[simp] theorem pipeWrite_aside (d : Dev) (p : Nat) (off : Nat) (val : Nat) (line : Nat) (prog : Ref) (timed : Bool) :
    (pipeWrite d p off val line prog timed).now = d.now ∧ (pipeWrite d p off val line prog timed).beam = d.beam := by
  unfold pipeWrite
  dsimp only
  split
  · simp
  · split
    · simp
    · split
      · simp
      · split
        · simp
        · split
          · split
            · simp
            · split
              · simp
              · split <;> simp
          · simp

@[simp] theorem headWrite_aside (d : Dev) (h : Nat) (off : Nat) (val : Nat) (prog : Ref) (timed : Bool) (pos : Nat × Nat) :
    (headWrite d h off val prog timed pos).now = d.now ∧ (headWrite d h off val prog timed pos).beam = d.beam := by
  simp [headWrite]

@[simp] theorem loseScratch_now (d : Dev) (engine : Nat → Bool) : (loseScratch d engine).now = d.now := by
  simp [loseScratch]

@[simp] theorem gateIdle_now (d : Dev) : (gateIdle d).now = d.now := by
  simp [gateIdle]

@[simp] theorem showLoading_aside (d : Dev) : (showLoading d).now = d.now ∧ (showLoading d).beam = d.beam := by
  simp [showLoading]

@[simp] theorem updPanel_aside (d : Dev) (h : Nat) (f : PanelSt → PanelSt) : (updPanel d h f).now = d.now ∧ (updPanel d h f).beam = d.beam := by
  simp [updPanel]

@[simp] theorem countGap_aside (d : Dev) (h : Nat) : (countGap d h).now = d.now ∧ (countGap d h).beam = d.beam := by
  unfold countGap
  dsimp only
  split <;> simp

@[simp] theorem readRecord_aside (d : Dev) (h : Nat) (typ : Nat) (off : Nat) (len : Nat) :
    (readRecord d h typ off len).now = d.now ∧ (readRecord d h typ off len).beam = d.beam := by
  simp [readRecord]

@[simp] theorem readNext_aside (d : Dev) (h : Nat) (typ : Nat) (b : List Byte) :
    (readNext d h typ b).now = d.now ∧ (readNext d h typ b).beam = d.beam := by
  simp [readNext]

@[simp] theorem startRead_aside (d : Dev) (h : Nat) (typ : Nat) : (startRead d h typ).now = d.now ∧ (startRead d h typ).beam = d.beam := by
  simp [startRead]

@[simp] theorem reloadDoses_aside (d : Dev) : (reloadDoses d).now = d.now ∧ (reloadDoses d).beam = d.beam := by
  simp [reloadDoses]

@[simp] theorem sendFrame_aside (d : Dev) (u : Nat) (q : Nat) (mark : TxMark) (f : List Byte) :
    (sendFrame d u q mark f).now = d.now ∧ (sendFrame d u q mark f).beam = d.beam := by
  simp [sendFrame]

@[simp] theorem sendEth_aside (d : Dev) (u : Nat) (f : List Byte) : (sendEth d u f).now = d.now ∧ (sendEth d u f).beam = d.beam := by
  simp [sendEth]

@[simp] theorem sendIp_aside (d : Dev) (u : Nat) (dst : List Byte) (typ : Nat) (body : List Byte) :
    (sendIp d u dst typ body).now = d.now ∧ (sendIp d u dst typ body).beam = d.beam := by
  simp [sendIp]

@[simp] theorem advert_aside (d : Dev) (u : Nat) (a : List Byte) (flags : Nat) (dstMac : List Byte) (dst : List Byte) :
    (advert d u a flags dstMac dst).now = d.now ∧ (advert d u a flags dstMac dst).beam = d.beam := by
  simp [advert]

@[simp] theorem addrState_aside (d : Dev) : (addrState d).now = d.now ∧ (addrState d).beam = d.beam := by
  simp [addrState]

@[simp] theorem updSlopes_aside (d : Dev) : (updSlopes d).now = d.now ∧ (updSlopes d).beam = d.beam := by
  simp [updSlopes]

@[simp] theorem failover_aside (d : Dev) (u : Nat) : (failover d u).now = d.now ∧ (failover d u).beam = d.beam := by
  simp [failover]

@[simp] theorem dropQueues_aside (d : Dev) (u : Nat) : (dropQueues d u).now = d.now ∧ (dropQueues d u).beam = d.beam := by
  simp [dropQueues]

@[simp] theorem pcsRestart_aside (d : Dev) (u : Nat) : (pcsRestart d u).now = d.now ∧ (pcsRestart d u).beam = d.beam := by
  simp [pcsRestart]

@[simp] theorem linkDown_aside (d : Dev) (u : Nat) : (linkDown d u).now = d.now ∧ (linkDown d u).beam = d.beam := by
  simp [linkDown]

@[simp] theorem restartUplinks_aside (d : Dev) : (restartUplinks d).now = d.now ∧ (restartUplinks d).beam = d.beam := by
  simp [restartUplinks]

@[simp] theorem reportModel_aside (d : Dev) (peaks : List ℚ) : (reportModel d peaks).now = d.now ∧ (reportModel d peaks).beam = d.beam := by
  simp [reportModel]

@[simp] theorem announceActions_aside (d : Dev) (old : List Action) (new : List Action) :
    (announceActions d old new).now = d.now ∧ (announceActions d old new).beam = d.beam := by
  simp [announceActions]

@[simp] theorem takeVerdict_aside (d : Dev) (vd : Verdict) (acts : List Action) :
    (takeVerdict d vd acts).now = d.now ∧ (takeVerdict d vd acts).beam = d.beam := by
  simp [takeVerdict]

@[simp] theorem replaceHeads_aside (d : Dev) (vd : Verdict) (acts : List Action) (hs : List Nat) :
    (replaceHeads d vd acts hs).now = d.now ∧ (replaceHeads d vd acts hs).beam = d.beam := by
  unfold replaceHeads
  simp only [showLoading_aside]
  refine ⟨foldl_now (fun d h => ?_) _ _, foldl_beam (fun d h => ?_) _ _⟩
  all_goals
    split <;> rfl

@[simp] theorem replaceAll_aside (d : Dev) (vd : Verdict) (acts : List Action) :
    (replaceAll d vd acts).now = d.now ∧ (replaceAll d vd acts).beam = d.beam := by
  simp [replaceAll]

@[simp] theorem settleCauses_aside (d : Dev) (acts : List Action) (h : Nat) :
    (settleCauses d acts h).now = d.now ∧ (settleCauses d acts h).beam = d.beam := by
  simp [settleCauses]

@[simp] theorem rerunModel_aside (d : Dev) : (rerunModel d).now = d.now ∧ (rerunModel d).beam = d.beam := by
  simp [rerunModel]

@[simp] theorem modelUnderrun_aside (d : Dev) : (modelUnderrun d).now = d.now ∧ (modelUnderrun d).beam = d.beam := by
  simp [modelUnderrun]

@[simp] theorem capacityChanged_aside (d : Dev) : (capacityChanged d).now = d.now ∧ (capacityChanged d).beam = d.beam := by
  simp [capacityChanged]

@[simp] theorem endPass_aside (d : Dev) : (endPass d).now = d.now ∧ (endPass d).beam = d.beam := by
  simp [endPass]

@[simp] theorem finishWriteBack_aside (d : Dev) (c : Nat) : (finishWriteBack d c).now = d.now ∧ (finishWriteBack d c).beam = d.beam := by
  unfold finishWriteBack
  split
  · exact ⟨rfl, rfl⟩
  · simp

@[simp] theorem recompose_aside (d : Dev) (m : List Host.Cell) (h : Nat) (line : Nat) (col : Nat) :
    (recompose d m h line col).now = d.now ∧ (recompose d m h line col).beam = d.beam := by
  simp [recompose]

@[simp] theorem countUnderrun_aside (d : Dev) (h : Nat) (y : Nat) : (countUnderrun d h y).now = d.now ∧ (countUnderrun d h y).beam = d.beam := by
  simp [countUnderrun]

@[simp] theorem addDose_aside (d : Dev) (h : Nat) (y : Nat) (l : List Pix) : (addDose d h y l).now = d.now ∧ (addDose d h y l).beam = d.beam := by
  simp [addDose]

@[simp] theorem signLine_aside (d : Dev) (h : Nat) (y : Nat) (l : List Pix) :
    (signLine d h y l).now = d.now ∧ (signLine d h y l).beam = d.beam := by
  simp [signLine]

@[simp] theorem sendPanelLine_aside (d : Dev) (h : Nat) (y : Nat) (composed : List Pix) :
    (sendPanelLine d h y composed).now = d.now ∧ (sendPanelLine d h y composed).beam = d.beam := by
  simp [sendPanelLine]

@[simp] theorem sendReady_aside (h : Nat) (y : Nat) (n : Nat) (d : Dev) : (sendReady h y n d).now = d.now ∧ (sendReady h y n d).beam = d.beam := by
  induction n generalizing d with
  | zero => exact ⟨rfl, rfl⟩
  | succ n ih => simp [sendReady, ih]

@[simp] theorem mixLine_sendDark_aside (d : Dev) (h : Nat) (y : Nat) (zero : List Pix) :
    (mixLine.sendDark d h y zero).now = d.now ∧ (mixLine.sendDark d h y zero).beam = d.beam := by
  simp [mixLine.sendDark]

@[simp] theorem mixLine_aside (d : Dev) (m : List Host.Cell) (h : Nat) (y : Nat) :
    (mixLine d m h y).now = d.now ∧ (mixLine d m h y).beam = d.beam := by
  unfold mixLine
  dsimp only
  split
  · simp
  · split <;> simp

@[simp] theorem mixUntil_aside (m : List Host.Cell) (h : Nat) (bound : Nat) (d : Dev) :
    (mixUntil m h bound d).now = d.now ∧ (mixUntil m h bound d).beam = d.beam := by
  simp [mixUntil]

@[simp] theorem scanHead_aside (d : Dev) (m : List Host.Cell) (h : Nat) : (scanHead d m h).now = d.now ∧ (scanHead d m h).beam = d.beam := by
  simp [scanHead]

@[simp] theorem scanHeads_aside (d : Dev) (m : List Host.Cell) : (scanHeads d m).now = d.now ∧ (scanHeads d m).beam = d.beam := by
  simp [scanHeads]

@[simp] theorem pocSample_aside (d : Dev) (l : Nat) : (pocSample d l).now = d.now ∧ (pocSample d l).beam = d.beam := by
  simp [pocSample]

@[simp] theorem reportRings_aside (d : Dev) : (reportRings d).now = d.now ∧ (reportRings d).beam = d.beam := by
  simp [reportRings]

@[simp] theorem updRing_aside (d : Dev) (r : Nat) (f : Ring → Ring) : (updRing d r f).now = d.now ∧ (updRing d r f).beam = d.beam := by
  simp [updRing]

@[simp] theorem timerSettle_aside (d : Dev) (n : Nat) : (timerSettle d n).now = d.now ∧ (timerSettle d n).beam = d.beam := by
  simp [timerSettle]

@[simp] theorem timerWrite_aside (d : Dev) (n : Nat) (off : Nat) (v : Nat) :
    (timerWrite d n off v).now = d.now ∧ (timerWrite d n off v).beam = d.beam := by
  unfold timerWrite
  split <;> simp

@[simp] theorem clusterWrite_aside (d : Dev) (c : Nat) (off : Nat) (v : Nat) :
    (clusterWrite d c off v).now = d.now ∧ (clusterWrite d c off v).beam = d.beam := by
  simp [clusterWrite]

@[simp] theorem clusterRead_aside (d : Dev) (c : Nat) (off : Nat) :
    (clusterRead d c off).1.now = d.now ∧ (clusterRead d c off).1.beam = d.beam := by
  unfold clusterRead
  split
  · simp
  · split
    · simp
    · simp
    · exact ⟨rfl, rfl⟩
    · exact ⟨rfl, rfl⟩
    · exact ⟨rfl, rfl⟩
    · exact ⟨rfl, rfl⟩

@[simp] theorem pipeLand_aside (d : Dev) (m : List Host.Cell) (p : Nat) (off : Nat) (val : Nat) (prog : Ref) (line : Nat) (col : Nat) (timed : Bool) :
    (pipeLand d m p off val prog line col timed).now = d.now ∧ (pipeLand d m p off val prog line col timed).beam = d.beam := by
  unfold pipeLand
  dsimp only
  split <;> simp

@[simp] theorem countOff_aside (d : Dev) (isl : Nat) : (countOff d isl).now = d.now ∧ (countOff d isl).beam = d.beam := by
  simp [countOff]

@[simp] theorem noteSeen_aside (d : Dev) : (noteSeen d).now = d.now ∧ (noteSeen d).beam = d.beam := by
  simp [noteSeen]

@[simp] theorem updGptp_aside (d : Dev) (u : Nat) (f : Gptp → Gptp) : (updGptp d u f).now = d.now ∧ (updGptp d u f).beam = d.beam := by
  simp [updGptp]

@[simp] theorem sendGptp_aside (d : Dev) (u : Nat) (mark : TxMark) (b : List Byte) :
    (sendGptp d u mark b).now = d.now ∧ (sendGptp d u mark b).beam = d.beam := by
  simp [sendGptp]

@[simp] theorem frameLeft_aside (d : Dev) (u : Nat) (mark : TxMark) : (frameLeft d u mark).now = d.now ∧ (frameLeft d u mark).beam = d.beam := by
  unfold frameLeft
  split
  · exact ⟨rfl, rfl⟩
  · simp
  · simp
  · simp
  · simp

@[simp] theorem beginFrameOut_aside (d : Dev) (u : Nat) : (beginFrameOut d u).now = d.now ∧ (beginFrameOut d u).beam = d.beam := by
  unfold beginFrameOut
  split
  · exact ⟨rfl, rfl⟩
  · split
    · exact ⟨rfl, rfl⟩
    · simp

@[simp] theorem askDelay_aside (d : Dev) (u : Nat) : (askDelay d u).now = d.now ∧ (askDelay d u).beam = d.beam := by
  simp [askDelay]

@[simp] theorem uplinkTick_aside (d : Dev) (u : Nat) : (uplinkTick d u).now = d.now ∧ (uplinkTick d u).beam = d.beam := by
  unfold uplinkTick
  dsimp only
  split
  · exact ⟨rfl, rfl⟩
  · split <;> simp

@[simp] theorem uplinksTick_aside (d : Dev) : (uplinksTick d).now = d.now ∧ (uplinksTick d).beam = d.beam := by
  simp [uplinksTick]

@[simp] theorem advanceTimebase_aside (d : Dev) : (advanceTimebase d).now = d.now ∧ (advanceTimebase d).beam = d.beam := by
  simp [advanceTimebase]

@[simp] theorem countHours_aside (d : Dev) : (countHours d).now = d.now ∧ (countHours d).beam = d.beam := by
  simp [countHours]

@[simp] theorem refreshTick_now (d : Dev) : (refreshTick d).now = d.now := by
  simp [refreshTick]

@[simp] theorem releaseObject_aside (d : Dev) (o : Ref) : (releaseObject d o).now = d.now ∧ (releaseObject d o).beam = d.beam := by
  simp [releaseObject]

@[simp] theorem refreshLeases_aside (d : Dev) : (refreshLeases d).now = d.now ∧ (refreshLeases d).beam = d.beam := by
  simp [refreshLeases]

@[simp] theorem retireChannel_aside (d : Dev) (c cause : Nat) :
    (retireChannel d c cause).now = d.now ∧ (retireChannel d c cause).beam = d.beam := by
  simp [retireChannel]

@[simp] theorem reportBad_aside (d : Dev) (b c master kind : Nat) :
    (reportBad d b c master kind).now = d.now ∧ (reportBad d b c master kind).beam = d.beam := by
  simp [reportBad]

@[simp] theorem decodeBlock_aside (d : Dev) (b c master kind : Nat) :
    (decodeBlock d b c master kind).now = d.now ∧ (decodeBlock d b c master kind).beam = d.beam := by
  simp [decodeBlock]

@[simp] theorem readRange_aside (d : Dev) (a n cls : Nat) : (readRange d a n cls).now = d.now ∧ (readRange d a n cls).beam = d.beam := by
  unfold readRange
  refine ⟨(foldl_now (fun d b => ?_) _ _).trans (by simp), (foldl_beam (fun d b => ?_) _ _).trans (by simp)⟩
  all_goals
    split
    · simp
    · rfl

/-! ### A register write -/

@[simp] theorem readProduce_aside (d : Dev) (m : List Host.Cell) (r : Nat) :
    (readProduce d m r).1.now = d.now ∧ (readProduce d m r).1.beam = d.beam := by
  simp [readProduce]

@[simp] theorem kickRing_aside (d : Dev) (m : List Host.Cell) (r : Nat) : (kickRing d m r).now = d.now ∧ (kickRing d m r).beam = d.beam := by
  simp [kickRing]

@[simp] theorem doorbell_aside (d : Dev) (m : List Host.Cell) (prog : Ref) (v : Nat) :
    (doorbell d m prog v).now = d.now ∧ (doorbell d m prog v).beam = d.beam := by
  simp [doorbell]

@[simp] theorem applyReg_aside (d : Dev) (m : List Host.Cell) (w : RegWrite) :
    (applyReg d m w).now = d.now ∧ (applyReg d m w).beam = d.beam := by
  simp [applyReg]

@[simp] theorem arriveReg_aside (d : Dev) (m : List Host.Cell) (w : RegWrite) :
    (arriveReg d m w).now = d.now ∧ (arriveReg d m w).beam = d.beam := by
  simp [arriveReg]

@[simp] theorem sendReg_aside (d : Dev) (m : List Host.Cell) (w : RegWrite) :
    (sendReg d m w).now = d.now ∧ (sendReg d m w).beam = d.beam := by
  simp [sendReg]

/-! ### A tick -/

theorem advance_now (d : Dev) : (advance d).now = d.now + 5 := by simp [advance]

theorem liteTurn_of_none {s : State} (h : s.dev.noap.liteWaiting = []) : liteTurn s = s := by
  rw [liteTurn, h, List.foldl_nil, ← h]
  rfl

theorem tick_pending (s : State) : (tick s).pending = s.pending := (steady_tick s).pending

/-- A tick for which no NOAP-lite frame waited is a tick of the device: memory stays, and the clock goes on by 5 ns. -/
theorem tick_of_no_lite {s : State} (h : s.dev.noap.liteWaiting = []) : (tick s).dev.now = s.dev.now + 5 ∧ (tick s).mem = s.mem := by
  have hturn : liteTurn (withDev s { s.dev with out := [] }) = withDev s { s.dev with out := [] } := liteTurn_of_none h
  have hadvance (d : Dev) (m : List Host.Cell) : (uplinksTick (scanHeads (refreshTick (followWake (advance d))) m)).now = d.now + 5 := by
    simp only [uplinksTick_aside, scanHeads_aside, refreshTick_now, followWake_aside, advance_now]
  unfold tick
  dsimp only
  simp only [hturn, withDev_dev, withDev_mem]
  exact ⟨hadvance _ _, trivial⟩

/-- Settles O2: the clock moves in `advance` alone. -/
theorem idleStepIsATick : Obligations.IdleStepIsATick := by
  intro s hidle
  have hstep : step s = .next (tick s) := by rw [step, hidle]
  exact ⟨tick s, hstep, (tick_pending s).trans hidle, tick_of_no_lite⟩

end Sys2Proof.Machine
end

section
/-!
An instruction that is no store changes no thread but its own (O9): what fetch, operand, effect and retirement of a thread leave of the
others. Register writes of ST.T leave the engines alone.
-/
-- One proof at a time: the tasks of many short proofs wait on one another, and each holds a stack of its own.
set_option Elab.async false
namespace Sys2Proof.Machine

theorem threadOf_updThread_other (d : Dev) {t k : Nat} (h : k ≠ t) (f : Thread → Thread) : threadOf (updThread d t f) k = threadOf d k :=
  mapGet_mapSet_other _ _ _ _ h

/-- A device e with every thread of d but t. -/
structure OtherThreads (t : Nat) (d e : Dev) : Prop where
  same : ∀ k, k ≠ t → threadOf e k = threadOf d k

namespace OtherThreads

variable {t : Nat} {d e f : Dev}

theorem refl (d : Dev) : OtherThreads t d d := ⟨fun _ _ => rfl⟩

theorem trans (h : OtherThreads t d e) (h' : OtherThreads t e f) : OtherThreads t d f :=
  ⟨fun k hk => (h'.same k hk).trans (h.same k hk)⟩

theorem of_threads (h : e.beam.threads = d.beam.threads) : OtherThreads t d e := ⟨fun k _ => by simp only [threadOf, h]⟩

theorem of_beam (h : e.beam = d.beam) : OtherThreads t d e := of_threads (by rw [h])

theorem updThread (d : Dev) (f : Thread → Thread) : OtherThreads t d (updThread d t f) :=
  ⟨fun _ hk => threadOf_updThread_other d hk f⟩

theorem foldl {α : Type} {step : Dev → α → Dev} (hstep : ∀ d a, OtherThreads t d (step d a)) (l : List α) (d : Dev) :
    OtherThreads t d (l.foldl step d) := by
  induction l generalizing d with
  | nil => exact refl d
  | cons a l ih => exact (hstep d a).trans (ih _)

theorem ite {c : Prop} [Decidable c] (he : OtherThreads t d e) (hf : OtherThreads t d f) : OtherThreads t d (if c then e else f) := by
  split
  · exact he
  · exact hf

/-- The device of a state changes. -/
theorem setDev {s u : State} (h : OtherThreads t s.dev u.dev) (h' : OtherThreads t u.dev d) : OtherThreads t s.dev (withDev u d).dev := by
  rw [withDev_dev]
  exact h.trans h'

theorem ofDev {s : State} (h : OtherThreads t s.dev d) : OtherThreads t s.dev (withDev s d).dev := (refl s.dev).setDev h

end OtherThreads

/-! ### What an issue does beside the effect -/

theorem otherThreads_setRun (d : Dev) (t : Nat) (st : TState) : OtherThreads t d (setRun d t st) :=
  .ite (.updThread d _) ((OtherThreads.updThread d _).trans (.of_beam (nSet_beam _ _ _)))

theorem otherThreads_faultThread (d : Dev) (t code : Nat) : OtherThreads t d (faultThread d t code) := by
  have hcounted : OtherThreads t d (nInc (nSets d [(prog_FAULT_CODE (refInst (threadOf d t).prog), code),
      (prog_FAULT_PC (refInst (threadOf d t).prog), (threadOf d t).pc.toNat)]) (prog_FAULTS (refInst (threadOf d t).prog))) :=
    .of_beam (by simp only [nInc_beam, nSets_beam])
  rw [faultThread_eq]
  exact (hcounted.trans ((OtherThreads.updThread _ _).trans (otherThreads_setRun _ t _))).trans
    (.of_beam (beam_of_membersOnly (membersOnly_reportFault _ t code _ _)))

theorem otherThreads_readWord (d : Dev) (t a : Nat) : OtherThreads t d (readWord d t a) :=
  .ite (.of_beam (by simp)) (.ite (.of_beam (by simp [sramCorrected])) (.refl d))

theorem otherThreads_readFetch (d : Dev) (t : Nat) : OtherThreads t d (readFetch d t) := .ite (.refl d) (otherThreads_readWord d t _)

theorem otherThreads_readOperand (d : Dev) (t op : Nat) (w : Be32Op) : OtherThreads t d (readOperand d t op w) :=
  .ite (.foldl (fun d a => otherThreads_readWord d t a) _ d) (.refl d)

theorem otherThreads_endLongs (t : Nat) (longs left : List (Nat × Word)) (l : Word) (d : Dev) :
    OtherThreads t d (endLongs d t longs left l) := by
  induction longs generalizing left l with
  | nil => exact .updThread d _
  | cons e rest ih => exact .ite (ih _ _) (ih _ _)

theorem otherThreads_drainDue (t : Nat) (all : Bool) (stores : List StoreEntry) (d : Dev) : OtherThreads t d (drainDue d t all stores) := by
  have hput (d : Dev) (e : StoreEntry) : OtherThreads t d (scratchPut d t e.addr e.bytes) := .of_threads rfl
  induction stores generalizing d with
  | nil => exact .updThread d _
  | cons e rest ih => exact .ite (OtherThreads.trans (hput d e) (ih _)) (.updThread d _)

theorem otherThreads_settleThread (d : Dev) (t : Nat) : OtherThreads t d (settleThread d t) :=
  (otherThreads_endLongs t _ _ _ d).trans (otherThreads_drainDue t _ _ _)

theorem otherThreads_withThread (s : State) (t : Nat) (f : Thread → Thread) : OtherThreads t s.dev (withThread s t f).dev := .ofDev (.updThread _ f)

theorem otherThreads_useSlots (s : State) (t n : Nat) : OtherThreads t s.dev (useSlots s t n).dev :=
  .ofDev (.of_beam (beam_of_membersOnly (membersOnly_countSignal s.dev _ n)))

/-- What an effect leaves of the other threads. -/
def RanOthers (t : Nat) (s : State) : Ran → Prop
  | .done u _ => OtherThreads t s.dev u.dev
  | .jump u _ => OtherThreads t s.dev u.dev
  | .wait u => OtherThreads t s.dev u.dev
  | .hold u _ => OtherThreads t s.dev u.dev
  | .fault _ => True

theorem otherThreads_runEffect {eff : Effect} {op t : Nat} {w : Be32Op} (heff : ∀ s, RanOthers t s (eff s t w)) (s : State) :
    OtherThreads t s.dev (runEffect eff op t w s).dev := by
  have hread : OtherThreads t s.dev (withDev s (readOperand s.dev t op w)).dev := .ofDev (otherThreads_readOperand s.dev t op w)
  have hran := heff (withDev s (readOperand s.dev t op w))
  unfold runEffect
  dsimp only
  generalize eff (withDev s (readOperand s.dev t op w)) t w = r at hran
  cases r with
  | done u load => exact ((hread.trans hran).trans (otherThreads_withThread _ t _)).trans (otherThreads_useSlots _ t _)
  | jump u pc => exact ((hread.trans hran).trans (otherThreads_withThread _ t _)).trans (otherThreads_useSlots _ t _)
  | wait u => exact (hread.trans hran).trans (otherThreads_withThread _ t _)
  | hold u st =>
    exact (((hread.trans hran).trans (otherThreads_useSlots _ t _)).trans (otherThreads_withThread _ t _)).setDev (otherThreads_setRun _ t st)
  | fault code => exact hread.setDev (otherThreads_faultThread _ t code)

theorem otherThreads_issue {eff : Effect} {op t : Nat} {w : Be32Op} (heff : ∀ s, RanOthers t s (eff s t w)) (s : State) :
    OtherThreads t s.dev (issue eff op t w s).dev := by
  have hfetched : OtherThreads t s.dev (withDev (withDev s (settleThread s.dev t)) (readFetch (settleThread s.dev t) t)).dev :=
    (OtherThreads.ofDev (otherThreads_settleThread s.dev t)).setDev (otherThreads_readFetch _ t)
  have hbk (c : Prop) [Decidable c] : OtherThreads t s.dev (if c then
      withDev (withDev (withDev s (settleThread s.dev t)) (readFetch (settleThread s.dev t) t))
        (freeUsed (withDev (withDev s (settleThread s.dev t)) (readFetch (settleThread s.dev t) t)).dev)
      else withDev (withDev s (settleThread s.dev t)) (readFetch (settleThread s.dev t) t)).dev := by
    split
    · exact hfetched.setDev (.of_threads rfl)
    · exact hfetched
  unfold issue
  split
  · exact .refl _
  dsimp only
  split
  · exact hfetched.setDev (otherThreads_faultThread _ t _)
  split
  · exact hfetched.trans (otherThreads_withThread _ t _)
  split
  · exact hfetched.setDev (otherThreads_faultThread _ t _)
  split
  · exact hfetched.setDev (otherThreads_faultThread _ t _)
  split
  · exact hfetched.trans (otherThreads_withThread _ t _)
  split
  · exact (hbk _).trans (otherThreads_runEffect heff _)
  · exact ((hbk _).trans (otherThreads_withThread _ t _)).trans (otherThreads_useSlots _ t _)

/-! ### Operands: a wait asks DRAM for a block -/

theorem otherThreads_askRead (t : Nat) (d : Dev) (r : DramRead) : OtherThreads t d (askRead d r) := by
  unfold askRead
  split
  · exact .of_beam (by simp)
  · exact .of_threads rfl

/-- What an operand that waits leaves of the other threads. -/
def GotOthers (t : Nat) (d : Dev) : Got → Prop
  | .wait e => OtherThreads t d e
  | _ => True

theorem gotOthers_scratchLoad (d : Dev) (t a n : Nat) : GotOthers t d (scratchLoad d t a n) := by
  unfold scratchLoad
  dsimp only
  split
  · trivial
  · split
    · split
      · trivial
      · exact OtherThreads.refl d
    · split <;> trivial

theorem gotOthers_viewAddr (d : Dev) (t : Nat) (w : Be32Op) : GotOthers t d (viewAddr d t w) := by
  have hpointer := gotOthers_scratchLoad d t (w.operand.toNat % 1024) 4
  unfold viewAddr
  dsimp only
  split
  iterate 4 trivial
  split
  · trivial
  · exact hpointer

theorem gotOthers_farLoad (d : Dev) (t : Nat) (w : Be32Op) (n : Nat) : GotOthers t d (farLoad d t w n) := by
  unfold farLoad
  dsimp only
  split
  · trivial
  · split
    · trivial
    · split
      · trivial
      · split
        · trivial
        · exact OtherThreads.ite (otherThreads_askRead t d _) (.refl d)
    · exact OtherThreads.refl d

theorem gotOthers_portLoad (d : Dev) (t : Nat) (w : Be32Op) : GotOthers t d (portLoad d t w) := by
  unfold portLoad
  split
  · trivial
  · split
    · trivial
    · split
      · trivial
      · exact OtherThreads.refl d

theorem gotOthers_loadOperand (d : Dev) (t : Nat) (w : Be32Op) (n : Nat) : GotOthers t d (loadOperand d t w n) := by
  have haddr := gotOthers_viewAddr d t w
  unfold loadOperand
  split
  · exact gotOthers_portLoad d t w
  · exact gotOthers_farLoad d t w n
  · split
    · exact gotOthers_scratchLoad d t _ n
    · exact haddr

theorem gotOthers_operand (d : Dev) (t : Nat) (w : Be32Op) : GotOthers t d (operand d t w) := by
  unfold operand
  split
  · trivial
  · exact gotOthers_loadOperand d t w 4

theorem ranOthers_withOperand {s : State} {t : Nat} {w : Be32Op} {k : Word → Ran} (hk : ∀ v, RanOthers t s (k v)) :
    RanOthers t s (withOperand s t w k) := by
  have hwait := gotOthers_operand s.dev t w
  unfold withOperand
  generalize operand s.dev t w = g at hwait
  cases g with
  | val v => exact hk v
  | wait d => exact OtherThreads.ofDev hwait
  | fault c => trivial

/-! ### The effects -/

theorem ranOthers_regEffect (f : Thread → Thread) (s : State) (t : Nat) (w : Be32Op) : RanOthers t s (regEffect f s t w) :=
  otherThreads_withThread s t f

theorem ranOthers_opEffect (f : Thread → Word → Thread) (s : State) (t : Nat) (w : Be32Op) : RanOthers t s (opEffect f s t w) :=
  ranOthers_withOperand fun _ => otherThreads_withThread s t _

theorem ranOthers_longEffect (n : Nat) (f : Word → Word → Word) (s : State) (t : Nat) (w : Be32Op) : RanOthers t s (longEffect n f s t w) :=
  ranOthers_withOperand fun _ => otherThreads_withThread s t _

theorem ranOthers_loadEffect (r n : Nat) (s : State) (t : Nat) (w : Be32Op) : RanOthers t s (loadEffect r n s t w) := by
  have hwait := gotOthers_loadOperand s.dev t w n
  unfold loadEffect
  split
  · exact otherThreads_withThread s t _
  · generalize loadOperand s.dev t w n = g at hwait
    cases g with
    | val v => exact OtherThreads.refl _
    | wait d => exact OtherThreads.ofDev hwait
    | fault c => trivial

theorem otherThreads_sendPort (t t' off : Nat) (v : Word) (l : List Nat) (d : Dev) (m : List Host.Cell) :
    OtherThreads t d (sendPort d m t' off v l) := by
  have hput (d : Dev) (w : RegWrite) : OtherThreads t d (sendReg d m w) := .of_beam (sendReg_aside d m w).2
  cases l with
  | nil => exact .refl d
  | cons i l => exact (hput _ _).trans (.foldl (fun _ _ => hput _ _) l _)

theorem otherThreads_holdTimed (t t' off val frame line col : Nat) (l : List Nat) (d : Dev) :
    OtherThreads t d (holdTimed d t' off val frame line col l) := by
  cases l with
  | nil => exact .refl d
  | cons i l =>
    have hput (d : Dev) (k : Nat) (x : List TimedWrite) : OtherThreads t d (setTimed d k x) := .of_threads rfl
    exact (hput _ _ _).trans (.foldl (fun _ _ => hput _ _ _) l _)

theorem ranOthers_timedEffect (s : State) (t : Nat) (w : Be32Op) : RanOthers t s (timedEffect s t w) := by
  have hlate (d : Dev) (pos off : Nat) (v : Word) (l : List Nat) : OtherThreads t d (sendPort (countLate d t pos) s.mem t off v l) := by
    refine OtherThreads.trans (.of_beam ?_) (otherThreads_sendPort t t off v l _ _)
    unfold countLate
    dsimp only
    split <;> simp
  have hfree : OtherThreads t s.dev (freeUsed s.dev) := .of_threads rfl
  unfold timedEffect
  dsimp only
  split
  · trivial
  split
  · exact OtherThreads.ofDev (.of_beam (by simp [dropWrite]))
  split
  · split
    · exact OtherThreads.ofDev (hlate _ _ _ _ _)
    split
    · exact OtherThreads.refl _
    · exact OtherThreads.ofDev (otherThreads_holdTimed t t _ _ _ _ _ _ _)
  · split
    · exact OtherThreads.ofDev (hfree.trans (hlate _ _ _ _ _))
    split
    · exact OtherThreads.ofDev (hfree.trans (.updThread _ _))
    · exact OtherThreads.ofDev (hfree.trans (otherThreads_holdTimed t t _ _ _ _ _ _ _))

theorem ranOthers_waitPosEffect (s : State) (t : Nat) (w : Be32Op) : RanOthers t s (waitPosEffect s t w) := by
  unfold waitPosEffect
  dsimp only
  split
  · trivial
  split
  · trivial
  split
  · exact OtherThreads.ofDev (.of_threads rfl)
  · exact OtherThreads.ofDev (.of_threads rfl)

theorem otherThreads_claimFor (d : Dev) (t n : Nat) : OtherThreads t d (claimFor d t n) := by
  unfold claimFor
  exact (OtherThreads.of_beam (claimSource_aside d n (t + 1)).2).trans (.updThread _ _)

theorem ranOthers_effWaitev (s : State) (t : Nat) (w : Be32Op) : RanOthers t s (effWaitev s t w) := by
  unfold effWaitev waitEvEffect
  split
  · exact OtherThreads.ofDev (otherThreads_claimFor _ t _)
  · exact OtherThreads.refl _

theorem ranOthers_effEoi (s : State) (t : Nat) (w : Be32Op) : RanOthers t s (effEoi s t w) :=
  OtherThreads.ofDev (.of_beam (by simp [eoi]))

theorem ranOthers_fenceEffect (s : State) (t : Nat) (w : Be32Op) : RanOthers t s (fenceEffect s t w) := by
  unfold fenceEffect
  split
  · exact OtherThreads.refl _
  · exact OtherThreads.refl _

theorem ranOthers_syncfEffect (s : State) (t : Nat) (w : Be32Op) : RanOthers t s (syncfEffect s t w) := by
  have hfence := ranOthers_fenceEffect s t w
  unfold syncfEffect
  generalize fenceEffect s t w = r at hfence
  cases r with
  | done u load =>
    dsimp only
    split
    · exact OtherThreads.setDev hfence (.of_threads rfl)
    · exact hfence
  | jump | wait | hold | fault => exact hfence

theorem ranOthers_callEffect (s : State) (t : Nat) (w : Be32Op) : RanOthers t s (callEffect s t w) := by
  unfold callEffect
  dsimp only
  split
  · trivial
  · exact otherThreads_withThread s t _

theorem ranOthers_retEffect (s : State) (t : Nat) (w : Be32Op) : RanOthers t s (retEffect s t w) := by
  unfold retEffect
  split
  · trivial
  · exact otherThreads_withThread s t _

theorem ranOthers_farbEffect (s : State) (t : Nat) (w : Be32Op) : RanOthers t s (farbEffect s t w) := by
  unfold farbEffect
  dsimp only
  split
  · exact otherThreads_withThread s t _
  · exact ranOthers_withOperand fun _ => otherThreads_withThread s t _

theorem ranOthers_cinvEffect (s : State) (t : Nat) (w : Be32Op) : RanOthers t s (cinvEffect s t w) := by
  unfold cinvEffect
  split
  · exact OtherThreads.ofDev (.of_threads rfl)
  · exact OtherThreads.refl _

theorem ranOthers_cinvaEffect (s : State) (t : Nat) (w : Be32Op) : RanOthers t s (cinvaEffect s t w) := by
  unfold cinvaEffect
  split
  · exact OtherThreads.ofDev (.of_threads rfl)
  · exact OtherThreads.refl _

theorem ranOthers_postEffect (entry : Thread → Be32Op → Option Nat × Nat) (s : State) (t : Nat) (w : Be32Op) :
    RanOthers t s (postEffect entry s t w) := by
  have hpost (q : SMap (List Post)) : OtherThreads t s.dev { s.dev with beam.posts := q } := .of_threads rfl
  unfold postEffect
  dsimp only
  split
  · exact OtherThreads.ofDev ((hpost _).trans (.updThread _ _))
  · exact OtherThreads.ofDev (.updThread _ _)

theorem ranOthers_effectOf {op : Nat} (hop : op < 0x06 ∨ 0x0A < op) (s : State) (t : Nat) (w : Be32Op) : RanOthers t s (effectOf op s t w) := by
  unfold effectOf
  split
  · exact OtherThreads.refl _
  iterate 5 exact ranOthers_loadEffect _ _ s t w
  iterate 5 exact absurd hop (by decide)
  · exact ranOthers_timedEffect s t w
  iterate 5 exact ranOthers_regEffect _ s t w
  · exact otherThreads_withThread s t _
  iterate 2 exact ranOthers_regEffect _ s t w
  iterate 19 exact ranOthers_opEffect _ s t w
  iterate 6 exact ranOthers_longEffect _ _ s t w
  · exact OtherThreads.refl _
  · exact ranOthers_callEffect s t w
  · exact ranOthers_retEffect s t w
  · exact ranOthers_waitPosEffect s t w
  · with_reducible exact ranOthers_effWaitev s t w
  · exact ranOthers_effEoi s t w
  · exact ranOthers_syncfEffect s t w
  · exact ranOthers_fenceEffect s t w
  · exact ranOthers_farbEffect s t w
  · exact ranOthers_cinvEffect s t w
  · exact ranOthers_cinvaEffect s t w
  iterate 2 exact ranOthers_postEffect _ s t w
  · exact OtherThreads.refl _

/-- Each entry of the opcode table is issued with the effect of its opcode (R368). -/
theorem exec_be32Table : ∀ e ∈ be32Table, ∀ (t : Fin 384) (w : Be32Op) (s : State),
    exec (e.2 t w) s = .next (issue (effectOf e.1) e.1 t.val w s) := by
  simp only [be32Table, be32Transfers, be32Sums, be32Shifts, be32Controls, List.forall_mem_append, List.forall_mem_cons, List.not_mem_nil,
    false_imp_iff, implies_true, and_true]
  repeat' refine And.intro ?_ ?_
  all_goals
    intro t w s
    rfl

/-- Settles O9: whatever an instruction that is no store does, it does to its own thread. -/
theorem otherThreadsStay : Obligations.OtherThreadsStay := by
  intro e he hop t w s u hnext k hk
  rw [exec_be32Table e he t w s] at hnext
  obtain rfl := Host.Outcome.next.inj hnext
  exact (otherThreads_issue (fun v => ranOthers_effectOf hop v t w) s).same k hk

end Sys2Proof.Machine
end

section
/-!
The observation block (O33): what a snapshot, the counters, the token and a record of the Chimney port leave, member by member.
-/
-- One proof at a time: the tasks of many short proofs wait on one another, and each holds a stack of its own.
set_option Elab.async false
namespace Sys2Proof.Machine

variable {d e : Dev}

/-! ### Members of the block apart -/

theorem mref_ne_of_inst {c i m c' i' m' : Nat} (h : i % 65536 ≠ i' % 65536) : mref c i m ≠ mref c' i' m' :=
  fun he => h (by simpa using congrArg refInst he)

/-! ### Snapshots (R731, R732) -/

/-- An island's latch writes that island's members alone. -/
theorem nGet_snapIsland (d : Dev) (t : Nat) {i : Nat} (hi : i < 105) {q : Ref} (hq : ¬ (0x300 ≤ refInst q ∧ refInst q < 0x400)) :
    nGet (snapIsland d t i) q = nGet d q := by
  have hne {m : Nat} : q ≠ mref 0x70 (0x300 + i) m := fun he => hq (by rw [he, refInst_mref]; omega)
  unfold snapIsland
  dsimp only
  rw [nGet_nSets_other]
  · split
    · exact nGet_freeUsed d q
    · rfl
  · simp only [List.forall_mem_cons, List.not_mem_nil, false_imp_iff, implies_true, and_true]
    exact ⟨hne, hne, hne, hne, hne, hne⟩

theorem nGet_snapIslands (d : Dev) (t : Nat) {q : Ref} (hq : ¬ (0x300 ≤ refInst q ∧ refInst q < 0x400)) :
    nGet ((List.range 105).foldl (fun d i => snapIsland d t i) d) q = nGet d q :=
  List.foldlRecOn (motive := fun e => nGet e q = nGet d q) _ _ rfl
    fun e he _ hi => (nGet_snapIsland e t (List.mem_range.mp hi) hq).trans he

/-- Counters below n copied one by one. -/
theorem nGet_snapCounters_below {n : Nat} (hn : n ≤ 512) (d : Dev) :
    (∀ k < n, nGet ((List.range n).foldl (fun d k => nSet d (ctr_SNAP_VALUE k) (nGet d (ctr_VALUE k))) d) (ctr_SNAP_VALUE k) =
      nGet d (ctr_VALUE k)) ∧
    ∀ q, refMember q ≠ 4 ∨ refInst q < 0x1000 →
      nGet ((List.range n).foldl (fun d k => nSet d (ctr_SNAP_VALUE k) (nGet d (ctr_VALUE k))) d) q = nGet d q := by
  induction n with
  | zero => exact ⟨fun k hk => absurd hk (Nat.not_lt_zero k), fun _ _ => rfl⟩
  | succ n ih =>
    obtain ⟨hcopied, hkept⟩ := ih (by omega)
    simp only [List.range_succ, List.foldl_append, List.foldl_cons, List.foldl_nil]
    constructor
    · intro k hk
      by_cases hkn : k = n
      · subst hkn
        exact (nGet_nSet_same _ _ _).trans (hkept _ (.inl (by simp [ctr_VALUE])))
      · have hne : ctr_SNAP_VALUE k ≠ ctr_SNAP_VALUE n := mref_ne_of_inst (by omega)
        exact (nGet_nSet_other _ _ hne).trans (hcopied k (by omega))
    · intro q hq
      have hne : q ≠ ctr_SNAP_VALUE n := by
        rintro rfl
        rcases hq with h | h
        · simp [ctr_SNAP_VALUE] at h
        · rw [ctr_SNAP_VALUE, refInst_mref] at h
          omega
      exact (nGet_nSet_other _ _ hne).trans (hkept q hq)

/-- A device as an armed snapshot's trigger leaves it, before SNAP_OUT rises. -/
def snapLatched (d : Dev) (en : Nat) : Dev :=
  snapCounters ((List.range 105).foldl (fun e i => snapIsland e (tbNs d) i) (nSets d
    [(snap_ARMED, 0), (snap_SEQ, satAdd 32 (nGet d snap_SEQ) 1), (snap_TRIGGER_TIME, tbNs d), (snap_CAUSE, en)]))

theorem nGet_snapCounters (d : Dev) {q : Ref} (hq : refMember q ≠ 4 ∨ refInst q < 0x1000) : nGet (snapCounters d) q = nGet d q :=
  (nGet_snapCounters_below (n := 512) le_rfl d).2 q hq

theorem nGet_snapCounters_SNAP_VALUE (d : Dev) {k : Nat} (hk : k < 512) : nGet (snapCounters d) (ctr_SNAP_VALUE k) = nGet d (ctr_VALUE k) :=
  (nGet_snapCounters_below (n := 512) le_rfl d).1 k hk

/-- A device on which SNAP_OUT rises (R733). -/
def snapOutUp (d : Dev) : Dev := arm { d with obs.snapOut := true, obs.snapAt := some d.now } tkSnapOut 0 1000

theorem nGet_snapOutUp (d : Dev) (q : Ref) : nGet (snapOutUp d) q = nGet d q := nGet_congr rfl q

theorem snapOutUp_snapOut (d : Dev) : (snapOutUp d).obs.snapOut = true := rfl

theorem mapFind_snapOutUp (d : Dev) : mapFind (snapOutUp d).timers (timerKey tkSnapOut 0) = some (d.now + 1000) := mapFind_arm_same _ _ _ _

theorem snapTrigger_of_armed {cause : Nat} (hawake : asleep d = false) (hsource : cause &&& nGet d snap_SOURCES ≠ 0)
    (harmed : nGet d snap_ARMED = 1) :
    snapTrigger d cause = snapOutUp (snapLatched d (cause &&& nGet d snap_SOURCES)) := by
  have hne : nGet d snap_ARMED ≠ 0 := by omega
  unfold snapTrigger snapOutUp snapLatched us
  dsimp only
  rw [if_neg (fun h => h.elim hsource (by simp [hawake])), if_neg (fun h => hne h.1), if_neg hne]

theorem snapLatched_now (d : Dev) (en : Nat) : (snapLatched d en).now = d.now := by
  have hislands (e : Dev) : ((List.range 105).foldl (fun e i => snapIsland e (tbNs d) i) e).now = e.now :=
    foldl_now (fun e i => (membersOnly_snapIsland e _ i).now) _ e
  simp [snapLatched, snapCounters, hislands]

theorem nGet_snapLatched (d : Dev) (en : Nat) {q : Ref} (hq : refInst q = 0x200) :
    nGet (snapLatched d en) q = nGet (nSets d
      [(snap_ARMED, 0), (snap_SEQ, satAdd 32 (nGet d snap_SEQ) 1), (snap_TRIGGER_TIME, tbNs d), (snap_CAUSE, en)]) q :=
  (nGet_snapCounters _ (.inr (by omega))).trans (nGet_snapIslands _ _ (by omega))

theorem nGet_snapLatched_SNAP_VALUE (d : Dev) (en : Nat) {k : Nat} (hk : k < 512) :
    nGet (snapLatched d en) (ctr_SNAP_VALUE k) = nGet d (ctr_VALUE k) := by
  have hinst : refInst (ctr_VALUE k) = 0x1000 + k := by
    rw [ctr_VALUE, refInst_mref]
    omega
  have hne {m : Nat} : ctr_VALUE k ≠ mref 0x70 0x200 m := mref_ne_of_inst (by omega)
  rw [snapLatched, nGet_snapCounters_SNAP_VALUE _ hk, nGet_snapIslands _ _ (by omega), nGet_nSets_other]
  simp only [List.forall_mem_cons, List.not_mem_nil, false_imp_iff, implies_true, and_true]
  exact ⟨hne, hne, hne, hne⟩

/-- What a trigger of one source leaves of an armed snapshot. -/
theorem snapTrigger_leaves {i : Nat} (hawake : asleep d = false) (hsource : bitOf (nGet d snap_SOURCES) i = true) (harmed : nGet d snap_ARMED = 1) :
    nGet (snapTrigger d (2 ^ i)) snap_ARMED = 0 ∧ nGet (snapTrigger d (2 ^ i)) snap_SEQ = satAdd 32 (nGet d snap_SEQ) 1 ∧
      nGet (snapTrigger d (2 ^ i)) snap_CAUSE = 2 ^ i ∧ nGet (snapTrigger d (2 ^ i)) snap_TRIGGER_TIME = tbNs d ∧
      (snapTrigger d (2 ^ i)).obs.snapOut = true ∧
      (∀ k < 512, nGet (snapTrigger d (2 ^ i)) (ctr_SNAP_VALUE k) = nGet d (ctr_VALUE k)) ∧
      mapFind (snapTrigger d (2 ^ i)).timers (timerKey tkSnapOut 0) = some (d.now + 1000) := by
  have hcause : 2 ^ i &&& nGet d snap_SOURCES = 2 ^ i := by
    have hbit : (nGet d snap_SOURCES).testBit i = true := hsource
    refine Nat.eq_of_testBit_eq fun k => ?_
    rw [Nat.testBit_and, Nat.testBit_two_pow]
    by_cases hk : i = k
    · subst hk
      simp [hbit]
    · simp [hk]
  rw [snapTrigger_of_armed hawake (by rw [hcause]; exact (Nat.two_pow_pos i).ne') harmed, hcause]
  have hread (q : Ref) := nGet_snapOutUp (snapLatched d (2 ^ i)) q
  have hsnap {m : Nat} := nGet_snapLatched d (2 ^ i) (q := mref 0x70 0x200 m) (by rw [refInst_mref])
  refine ⟨?_, ?_, ?_, ?_, snapOutUp_snapOut _, fun k hk => (hread _).trans (nGet_snapLatched_SNAP_VALUE d _ hk), ?_⟩
  · refine ((hread _).trans hsnap).trans ?_
    exact (nGet_nSet_other _ _ (by decide)).trans ((nGet_nSet_other _ _ (by decide)).trans ((nGet_nSet_other _ _ (by decide)).trans
      (nGet_nSet_same _ _ _)))
  · refine ((hread _).trans hsnap).trans ?_
    exact (nGet_nSet_other _ _ (by decide)).trans ((nGet_nSet_other _ _ (by decide)).trans (nGet_nSet_same _ _ _))
  · exact ((hread _).trans hsnap).trans (nGet_nSet_same _ _ _)
  · refine ((hread _).trans hsnap).trans ?_
    exact (nGet_nSet_other _ _ (by decide)).trans (nGet_nSet_same _ _ _)
  · exact (mapFind_snapOutUp _).trans (congrArg (fun t => some (t + 1000)) (snapLatched_now d _))

theorem snapInDoes : SnapInDoes := by
  rintro s ⟨hawake, hsource, harmed⟩
  obtain ⟨harm, hseq, hcause, htime, hout, -, htimer⟩ := snapTrigger_leaves (i := 0) hawake hsource harmed
  exact completes_of_dev (d := doSnapIn s.dev) (e := snapTrigger s.dev (2 ^ 0)) rfl rfl ⟨harm, hseq, hcause, htime, hout, htimer⟩

theorem snapOutEndDoes : SnapOutEndDoes := by
  intro s hdue
  have hexec : doSnapOutEnd s.dev = { disarm s.dev tkSnapOut 0 with obs.snapOut := false } := if_pos hdue
  exact completes_of_dev rfl hexec ⟨rfl, armed_disarm_same s.dev tkSnapOut 0⟩

/-! ### Actions that name no result -/

/-- An action that the gate lets through and that names no result, with the free octets that answer it (R37). -/
theorem withGate_of_action {sess : Nat} {r : Ref} {op : Dev → Dev × Status × List Byte} {row : MemberRow} (hgate : writeGate d sess r = none)
    (hop : op d = (e, .ok, [])) (hrow : rowOf r = some row) (hacc : row.acc = .x) :
    withGate d sess r op = emitResult (freeUsedN e row.typ.len) sess .ok (freeBytes e.free row.typ.len) := by
  have hresult : actionResult r (op d) = (freeUsedN e row.typ.len, .ok, freeBytes e.free row.typ.len) := by
    simp [actionResult, hop, hrow, hacc]
  rw [withGate_open _ _ _ _ hgate, hresult]

/-- Whether a member is an action, with a result of n octets. -/
def actionOf (r : Ref) (n : Nat) : Bool := (rowOf r).any (fun row => decide (row.acc = .x) && decide (row.typ.len = n))

/-- An action without a result keeps members and observation as its operation leaves them, and is answered OK. -/
theorem withGate_action {s : State} {sess n : Nat} {r : Ref} {op : Dev → Dev × Status × List Byte} (hr : actionOf r n = true)
    (hgate : writeGate s.dev sess r = none) (hop : op s.dev = (e, .ok, [])) :
    (∀ q, nGet (withGate s.dev sess r op) q = nGet e q) ∧ (withGate s.dev sess r op).obs = e.obs ∧
      AnswersOpen (withDev s (withGate s.dev sess r op)) sess 0 n := by
  obtain ⟨row, hrow, hok⟩ := (Option.any_eq_true ..).mp hr
  simp only [Bool.and_eq_true, decide_eq_true_eq] at hok
  obtain ⟨hacc, rfl⟩ := hok
  have hread := withGate_answerOpen hgate hop hrow hacc
  exact ⟨fun q => (hread q).1, by rw [withGate_of_action hgate hop hrow hacc]; rfl, (hread 0).2⟩

theorem countersRunDoes : CountersRunDoes := by
  intro s sess hgate
  obtain ⟨-, hobs, hans⟩ := withGate_action (r := ctrCtl_RUN) (n := 1) (by decide) hgate (op := fun d => runOp d 1) rfl
  exact ⟨_, rfl, congrArg Obs.running hobs, hans⟩

theorem countersStopDoes : CountersStopDoes := by
  intro s sess hgate
  obtain ⟨-, hobs, hans⟩ := withGate_action (r := ctrCtl_RUN) (n := 1) (by decide) hgate (op := fun d => runOp d 0) rfl
  exact ⟨_, rfl, congrArg Obs.running hobs, hans⟩

/-- Counters below n cleared one by one. -/
theorem nGet_clear_below {n : Nat} (hn : n ≤ 512) (d : Dev) (v : Nat → Nat) :
    ∀ k < n, nGet ((List.range n).foldl (fun e k => nSet e (ctr_VALUE k) (v k)) d) (ctr_VALUE k) = v k := by
  induction n with
  | zero => exact fun k hk => absurd hk (Nat.not_lt_zero k)
  | succ n ih =>
    intro k hk
    simp only [List.range_succ, List.foldl_append, List.foldl_cons, List.foldl_nil]
    by_cases hkn : k = n
    · subst hkn
      exact nGet_nSet_same _ _ _
    · have hne : ctr_VALUE k ≠ ctr_VALUE n := mref_ne_of_inst (by omega)
      exact (nGet_nSet_other _ _ hne).trans (ih (by omega) k (by omega))

theorem clearDoes : ClearDoes := by
  intro s sess hgate
  obtain ⟨hread, -, hans⟩ := withGate_action (r := ctrCtl_CLEAR) (n := 1) (by decide) hgate (op := fun d => clearOp d 0) rfl
  refine ⟨_, rfl, fun k hk => ?_, hans⟩
  refine ((hread _).trans (nGet_clear_below le_rfl _ (fun k => ((countedNow s.dev).contains k).toNat) k hk)).trans ?_
  cases (countedNow s.dev).contains k <;> rfl

theorem armDoes : ArmDoes := by
  intro s sess hgate
  obtain ⟨hread, -, hans⟩ := withGate_action (r := snap_ARM) (n := 1) (by decide) hgate (op := fun d => armOp d 0) rfl
  exact ⟨_, rfl, (hread _).trans (nGet_nSet_same _ _ _), hans⟩

theorem triggerDoes : TriggerDoes := by
  rintro s sess ⟨hgate, hawake, hsource, harmed⟩
  obtain ⟨hread, hobs, hans⟩ := withGate_action (r := snap_TRIGGER) (n := 1) (by decide) hgate (op := fun d => triggerOp d 0) rfl
  obtain ⟨harm, hseq, hcause, htime, hout, hvalues, -⟩ := snapTrigger_leaves (i := 1) hawake hsource harmed
  exact ⟨_, rfl, (hread _).trans harm, (hread _).trans hseq, (hread _).trans hcause, (hread _).trans htime,
    (congrArg Obs.snapOut hobs).trans hout, fun k hk => (hread _).trans (hvalues k hk), hans⟩

theorem triggerMissedDoes : TriggerMissedDoes := by
  rintro s sess ⟨hgate, hawake, hsource, harmed, hearlier⟩
  obtain ⟨hread, -, -⟩ := withGate_action (r := snap_TRIGGER) (n := 1) (by decide) hgate (op := fun d => triggerOp d 0) rfl
  have hcause : 2 &&& nGet s.dev snap_SOURCES ≠ 0 := fun h0 => by
    have hbit : (2 &&& nGet s.dev snap_SOURCES).testBit 1 = true := by
      rw [Nat.testBit_and]
      exact (Bool.and_eq_true _ _).mpr ⟨rfl, hsource⟩
    simp [h0] at hbit
  have hmissed : snapTrigger s.dev 2 = nInc s.dev snap_MISSED := by
    unfold snapTrigger
    dsimp only
    rw [if_neg (by simp [hawake, hcause]), if_neg (fun h => hearlier h.2), if_pos harmed]
  have hop : (triggerOp s.dev 0).1 = nInc s.dev snap_MISSED := hmissed
  refine ⟨_, rfl, (hread _).trans ?_, (hread _).trans ?_⟩
  · exact (congrArg (fun e => nGet e snap_MISSED) hmissed).trans (nGet_nInc_same _ _)
  · exact (congrArg (fun e => nGet e snap_SEQ) hmissed).trans (nGet_nInc_other _ (by decide))

/-! ### The token and the Chimney port (R723 to R727) -/

/-- A trace record leaves every member but RECORDS_LOST. -/
theorem nGet_trace (d : Dev) (kind unit data : Nat) {q : Ref} (hq : q ≠ obs_RECORDS_LOST) : nGet (trace d kind unit data) q = nGet d q := by
  unfold trace
  split
  · split
    · rfl
    · exact (nGet_nInc_other _ hq).trans (nGet_congr rfl q)
  · rfl

theorem nGet_tokenEnd (d : Dev) (h : nGet d obs_TOKEN_STATE = 1) : nGet (tokenEnd d) obs_TOKEN_STATE = 2 := by
  rw [tokenEnd, if_pos h]
  exact nGet_nSet_same _ _ _

theorem endTokenDoes : EndTokenDoes := by
  rintro s sess ⟨hgate, hstate⟩
  obtain ⟨hread, -, hans⟩ := withGate_action (r := obs_END) (n := 1) (by decide) hgate (op := fun d => endTokenOp d 0) rfl
  exact ⟨_, rfl, (hread _).trans (nGet_tokenEnd s.dev hstate), hans⟩

theorem tokenExpiryDoes : TokenExpiryDoes := by
  intro s hexpired
  have hexec : doTokenExpiry s.dev = tokenEnd s.dev := if_pos hexpired
  exact completes_of_dev rfl hexec (nGet_tokenEnd s.dev hexpired.1)

theorem nGet_sendTrace_RECORDS_SENT (d : Dev) (r : TraceRecord) :
    nGet (sendTrace d r) obs_RECORDS_SENT = satAdd 64 (nGet d obs_RECORDS_SENT) 1 := (nGet_emit _ _ _).trans (nGet_nSet_same _ _ _)

theorem sendTrace_obs (d : Dev) (r : TraceRecord) : (sendTrace d r).obs = { d.obs with seq := (d.obs.seq + 1) % 256 } := nSet_obs _ _ _

theorem sendTrace_out (d : Dev) (r : TraceRecord) : (sendTrace d r).out = d.out ++ [.chimney (d.obs.seq % 2) (recordBytes d.obs.seq r)] :=
  congrArg (· ++ _) (nSet_out _ _ _)

theorem chimneyRecordSendDoes : ChimneyRecordSendDoes := by
  rintro s r l ⟨hstate, hfifo, hdropped⟩
  have hexec : doChimneyRecordSend s.dev = sendTrace { s.dev with obs.fifo := l } r := by
    simp [doChimneyRecordSend, chimneyOn, hstate, hfifo, hdropped]
  refine completes_of_dev rfl hexec ⟨congrArg Obs.fifo (sendTrace_obs _ r), congrArg Obs.seq (sendTrace_obs _ r), ?_, sendTrace_out _ r⟩
  exact (nGet_sendTrace_RECORDS_SENT _ r).trans (congrArg (fun n => satAdd 64 n 1) (nGet_congr rfl _))

theorem chimneyRecordSendLostDoes : ChimneyRecordSendLostDoes := by
  rintro s r l ⟨hstate, hfifo, hdropped, hroom, hkind⟩
  have hon : traceOn s.dev 15 0 = true := by simp [traceOn, chimneyOn, hstate, hkind, traceScope]
  have hexec : doChimneyRecordSend s.dev =
      sendTrace { s.dev with obs.dropped := 0 } { kind := 15, unit := 0, time := tbNs s.dev, data := s.dev.obs.dropped } := by
    unfold doChimneyRecordSend
    rw [if_neg (by simp [chimneyOn, hstate]), hfifo]
    exact if_pos ⟨hdropped, hfifo ▸ hroom, hon⟩
  exact completes_of_dev rfl hexec ⟨(congrArg Obs.fifo (sendTrace_obs _ _)).trans hfifo, congrArg Obs.dropped (sendTrace_obs _ _), sendTrace_out _ _⟩

/-- A device with a token ACTIVE. -/
def tokenTaken (d : Dev) (scope from0 until0 : Nat) : Dev :=
  trace (nSets { d with obs.notBefore := from0 } [(obs_SCOPE, scope), (obs_NOT_AFTER, until0), (obs_TOKEN_STATE, 1)]) 14 0 1

theorem nGet_tokenTaken (d : Dev) (scope from0 until0 : Nat) :
    nGet (tokenTaken d scope from0 until0) obs_TOKEN_STATE = 1 ∧ nGet (tokenTaken d scope from0 until0) obs_SCOPE = scope ∧
      nGet (tokenTaken d scope from0 until0) obs_NOT_AFTER = until0 := by
  refine ⟨?_, ?_, ?_⟩
  all_goals refine (nGet_trace _ 14 0 1 (by decide)).trans ?_
  · exact nGet_nSet_same _ _ _
  · exact (nGet_nSet_other _ _ (by decide)).trans ((nGet_nSet_other _ _ (by decide)).trans (nGet_nSet_same _ _ _))
  · exact (nGet_nSet_other _ _ (by decide)).trans (nGet_nSet_same _ _ _)

theorem tokenTaken_notBefore (d : Dev) (scope from0 until0 : Nat) : (tokenTaken d scope from0 until0).obs.notBefore = from0 := by
  unfold tokenTaken trace
  split
  · split <;> simp
  · simp

/-- A write of a well-formed TOKEN while TIME_VALID is 1: what is checked of it (R723). -/
theorem tokenWrite_of_form {b : List Byte} (hform : tokenForm b = true) (hvalid : nGet d time_TIME_VALID = 1) :
    tokenWrite d b =
      if rootEnrolled d (ofLe (sliceOf b 8 1)) = true ∧ keyRevoked d (ofLe (sliceOf b 8 1)) (ofLe (sliceOf b 6 2)) = false ∧
        endorsed d (ofLe (sliceOf b 8 1)) (sliceOf b 6 2) (sliceOf b 48 97) (sliceOf b 160 96) = true ∧
        Config.ecdsaVerifies (sliceOf b 48 97) (sha (sliceOf b 0 256)) (sliceOf b 256 96) = true ∧
        sliceOf b 16 16 = sliceOf (bGet d dev_SERIAL) 0 16 ∧ ofLe (sliceOf b 32 8) ≤ tbNs d ∧ tbNs d < ofLe (sliceOf b 40 8)
      then (tokenTaken d (ofLe (sliceOf b 9 1)) (ofLe (sliceOf b 32 8)) (ofLe (sliceOf b 40 8)), .ok, []) else (d, .auth, []) := by
  unfold tokenWrite
  dsimp only
  rw [if_neg (by simp [hform]), if_neg (by simp [hvalid])]
  by_cases hroot : rootEnrolled d (ofLe (sliceOf b 8 1)) = false ∨ keyRevoked d (ofLe (sliceOf b 8 1)) (ofLe (sliceOf b 6 2)) = true
  · rw [if_pos hroot, if_neg]
    rintro ⟨henrolled, hkey, -⟩
    rcases hroot with h | h
    · exact absurd (henrolled.symm.trans h) (by decide)
    · exact absurd (hkey.symm.trans h) (by decide)
  rw [if_neg hroot]
  by_cases hsigned : endorsed d (ofLe (sliceOf b 8 1)) (sliceOf b 6 2) (sliceOf b 48 97) (sliceOf b 160 96) = false ∨
      Config.ecdsaVerifies (sliceOf b 48 97) (sha (sliceOf b 0 256)) (sliceOf b 256 96) = false
  · rw [if_pos hsigned, if_neg]
    rintro ⟨-, -, hendorsed, hverifies, -⟩
    rcases hsigned with h | h
    · exact absurd (hendorsed.symm.trans h) (by decide)
    · exact absurd (hverifies.symm.trans h) (by decide)
  rw [if_neg hsigned]
  by_cases hwindow : sliceOf b 16 16 ≠ sliceOf (bGet d dev_SERIAL) 0 16 ∨ tbNs d < ofLe (sliceOf b 32 8) ∨ ofLe (sliceOf b 40 8) ≤ tbNs d
  · rw [if_pos hwindow, if_neg]
    rintro ⟨-, -, -, -, hserial, hfrom, huntil⟩
    rcases hwindow with h | h | h
    · exact h hserial
    · omega
    · omega
  rw [if_neg hwindow]
  simp only [not_or, Bool.not_eq_false, Bool.not_eq_true, not_lt, not_le, ne_eq, not_not] at hroot hsigned hwindow
  rw [if_pos ⟨hroot.1, hroot.2, hsigned.1, hsigned.2, hwindow⟩]
  rfl

theorem tokenDoes : TokenDoes := by
  rintro s sess b root from0 until0 ⟨hgate, hform, hvalid, rfl, rfl, rfl⟩
  have hwrite := tokenWrite_of_form hform hvalid
  obtain ⟨row, hrow, hacc⟩ := (Option.any_eq_true ..).mp (show (rowOf obs_TOKEN).any (fun row => decide (row.acc ≠ .x)) = true by decide)
  have hacc := of_decide_eq_true hacc
  have hanswer (e : Dev) (st : Status) : Answers (withDev s (emitResult e sess st [])) sess st.code [] := by simp [Answers, emitResult, emit]
  by_cases hgood : rootEnrolled s.dev (ofLe (sliceOf b 8 1)) = true ∧
      keyRevoked s.dev (ofLe (sliceOf b 8 1)) (ofLe (sliceOf b 6 2)) = false ∧
      endorsed s.dev (ofLe (sliceOf b 8 1)) (sliceOf b 6 2) (sliceOf b 48 97) (sliceOf b 160 96) = true ∧
      Config.ecdsaVerifies (sliceOf b 48 97) (sha (sliceOf b 0 256)) (sliceOf b 256 96) = true ∧
      sliceOf b 16 16 = sliceOf (bGet s.dev dev_SERIAL) 0 16 ∧ ofLe (sliceOf b 32 8) ≤ tbNs s.dev ∧ tbNs s.dev < ofLe (sliceOf b 40 8)
  · rw [if_pos hgood] at hwrite
    obtain ⟨hstate, hscope, huntil⟩ := nGet_tokenTaken s.dev (ofLe (sliceOf b 9 1)) (ofLe (sliceOf b 32 8)) (ofLe (sliceOf b 40 8))
    refine completes_of_dev (d := doToken sess b s.dev) rfl (withGate_of_member hgate hrow hacc hwrite) ?_
    rw [if_pos hgood]
    exact ⟨(nGet_emitResult _ _ _ _ _).trans hstate, (nGet_emitResult _ _ _ _ _).trans hscope, (nGet_emitResult _ _ _ _ _).trans huntil,
      tokenTaken_notBefore _ _ _ _, hanswer _ .ok⟩
  · rw [if_neg hgood] at hwrite
    refine completes_of_dev (d := doToken sess b s.dev) rfl (withGate_of_member hgate hrow hacc hwrite) ?_
    rw [if_neg hgood]
    exact ⟨hanswer _ .auth, nGet_emitResult _ _ _ _ _⟩

/-- Settles O33, clause by clause: the token and its end, the records that leave, the counters, and the snapshot. -/
theorem observationBlock : Obligations.ObservationBlock :=
  ⟨tokenDoes, endTokenDoes, tokenExpiryDoes, chimneyRecordSendDoes, chimneyRecordSendLostDoes, countersRunDoes, countersStopDoes, clearDoes,
    armDoes, triggerDoes, triggerMissedDoes, snapInDoes, snapOutEndDoes⟩

end Sys2Proof.Machine
end

section
/-!
What raising a source leaves of the counts of raises (R610, R611): its own RAISED goes up by one and no other source's moves.
-/
-- One proof at a time: the tasks of many short proofs wait on one another, and each holds a stack of its own.
set_option Elab.async false
namespace Sys2Proof.Machine

variable {d e : Dev}

/-- RAISED of a source (R611). -/
def RaisedMember (q : Ref) : Prop := refClass q = 0x50 ∧ refMember q = 8

theorem raisedMember_ev_RAISED (n : Nat) : RaisedMember (ev_RAISED n) := by simp [RaisedMember, ev_RAISED]

theorem not_raisedMember_ev {n m : Nat} (hm : m % 256 ≠ 8) : ¬ RaisedMember (mref 0x50 n m) := fun h => hm (by simpa using h.2)

theorem not_raisedMember_obs (n m : Nat) : ¬ RaisedMember (mref 0x70 n m) := fun h => by simp [RaisedMember] at h

/-- What keeps every RAISED. -/
abbrev KeepsRaised (d e : Dev) : Prop := Keeps RaisedMember (fun _ => False) d e

theorem keepsRaised_countSignal (d : Dev) (sel n : Nat) : KeepsRaised d (countSignal d sel n) := by
  unfold countSignal
  refine Keeps.whenever fun _ => Keeps.foldl (fun d k _ => ?_) d
  unfold counterAdd
  exact Keeps.whenever fun _ => Keeps.nSet (Keeps.setObs (Keeps.refl d) _) (not_raisedMember_obs _ _) _

theorem keepsRaised_trace (d : Dev) (kind unit data : Nat) : KeepsRaised d (trace d kind unit data) := by
  unfold trace
  exact Keeps.whenever fun _ => Keeps.ite (fun _ => (Keeps.refl d).setObs _)
    fun _ => ((Keeps.refl d).setObs _).nInc (not_raisedMember_obs _ _)

theorem keepsRaised_snapIsland (d : Dev) (t i : Nat) : KeepsRaised d (snapIsland d t i) := by
  have hfree : KeepsRaised d (if 92 ≤ i ∧ i < 100 then freeUsed d else d) := Keeps.whenever fun _ => (Keeps.refl d).same rfl rfl rfl
  refine hfree.nSets ?_
  simp only [List.forall_mem_cons, List.not_mem_nil, false_imp_iff, implies_true, and_true]
  exact ⟨not_raisedMember_obs _ _, not_raisedMember_obs _ _, not_raisedMember_obs _ _, not_raisedMember_obs _ _,
    not_raisedMember_obs _ _, not_raisedMember_obs _ _⟩

theorem keepsRaised_snapCounters (d : Dev) : KeepsRaised d (snapCounters d) :=
  Keeps.foldl (fun d _ _ => (Keeps.refl d).nSet (not_raisedMember_obs _ _) _) d

theorem keepsRaised_snapTrigger (d : Dev) (cause : Nat) : KeepsRaised d (snapTrigger d cause) := by
  unfold snapTrigger
  refine Keeps.ite (fun _ => Keeps.refl d) fun _ => Keeps.ite (fun _ => (Keeps.refl d).nSet (not_raisedMember_obs _ _) _) fun _ =>
    Keeps.ite (fun _ => (Keeps.refl d).nInc (not_raisedMember_obs _ _)) fun _ => ?_
  refine Keeps.arm (Keeps.setObs ?_ _) id _
  refine Keeps.trans (Keeps.trans ?_ (Keeps.foldl (fun d i _ => keepsRaised_snapIsland d _ i) _)) (keepsRaised_snapCounters _)
  refine (Keeps.refl d).nSets ?_
  simp only [List.forall_mem_cons, List.not_mem_nil, false_imp_iff, implies_true, and_true]
  exact ⟨not_raisedMember_obs _ _, not_raisedMember_obs _ _, not_raisedMember_obs _ _, not_raisedMember_obs _ _⟩

theorem keepsRaised_claimSource (d : Dev) (n who : Nat) : KeepsRaised d (claimSource d n who) := by
  unfold claimSource startHold
  dsimp only
  have hclaimed : KeepsRaised d (nInc (nSets d [(ev_COUNT n, 0), (ev_STATE n, 2)]) (ev_CLAIMS n)) :=
    (((Keeps.refl d).nSet (not_raisedMember_ev (by decide)) _).nSet (not_raisedMember_ev (by decide)) _).nInc (not_raisedMember_ev (by decide))
  have hwaited (c : Prop) [Decidable c] : KeepsRaised d (if c then nInc (nInc (nSets d [(ev_COUNT n, 0), (ev_STATE n, 2)]) (ev_CLAIMS n))
      (damper_HELD_CLAIMS (groupOf n)) else nInc (nSets d [(ev_COUNT n, 0), (ev_STATE n, 2)]) (ev_CLAIMS n)) :=
    Keeps.ite (fun _ => hclaimed.nInc (not_raisedMember_ev (by decide))) fun _ => hclaimed
  exact Keeps.ite (fun _ => (hwaited _).setEvents _) fun _ => Keeps.arm (((hwaited _).setEvents _).nSet (not_raisedMember_ev (by decide)) _) id _

theorem keepsRaised_endSource (d : Dev) (n : Nat) : KeepsRaised d (endSource d n) := by
  have hclaimant : KeepsRaised d { d with events.claimant := mapErase d.events.claimant n } := (Keeps.refl d).setEvents _
  unfold endSource
  exact Keeps.ite (fun _ => hclaimant.nSet (not_raisedMember_ev (by decide)) _) fun _ =>
    Keeps.ite (fun _ => (hclaimant.nSet (not_raisedMember_ev (by decide)) _).nSet (not_raisedMember_ev (by decide)) _) fun _ =>
      hclaimant.nSet (not_raisedMember_ev (by decide)) _

theorem keepsRaised_firekeeperClaim (d : Dev) (n : Nat) : KeepsRaised d (firekeeperClaim d n) :=
  Keeps.whenever fun _ => (keepsRaised_claimSource d n 0).trans (keepsRaised_endSource _ n)

/-- Raising a source is one count of RAISED, and what else it does leaves every RAISED. -/
theorem keepsRaised_raiseBy (d : Dev) (n amt : Nat) : KeepsRaised (nInc (nSet d (ev_COUNT n) (min 255 (nGet d (ev_COUNT n) + amt))) (ev_RAISED n))
    (raiseBy d n amt) := by
  unfold raiseBy
  refine Keeps.trans ?_ (keepsRaised_firekeeperClaim _ n)
  refine Keeps.trans ?_ (Keeps.whenever fun _ => keepsRaised_snapTrigger _ 4)
  refine Keeps.trans (Keeps.trans ?_ (keepsRaised_countSignal _ n 1)) (keepsRaised_trace _ 1 n _)
  exact Keeps.trans ((Keeps.refl _).setEvents _) (Keeps.whenNot fun _ => Keeps.nSet (Keeps.refl _) (not_raisedMember_ev (by decide)) _)

theorem ev_RAISED_ne_ev_COUNT (n k : Nat) : ev_RAISED n ≠ ev_COUNT k := mref_ne_of_member (by decide)

theorem nGet_raise_RAISED (d : Dev) (n : Nat) : nGet (raise d n) (ev_RAISED n) = satAdd 32 (nGet d (ev_RAISED n)) 1 := by
  rw [raise, (keepsRaised_raiseBy d n 1).nGet (raisedMember_ev_RAISED n), nGet_nInc_same, nGet_nSet_other _ _ (ev_RAISED_ne_ev_COUNT n n)]

theorem nGet_raise_RAISED_other (d : Dev) {n k : Nat} (hn : n < 65536) (hk : k < 65536) (h : k ≠ n) :
    nGet (raise d n) (ev_RAISED k) = nGet d (ev_RAISED k) := by
  have hne : ev_RAISED k ≠ ev_RAISED n := mref_ne_of_inst (by omega)
  rw [raise, (keepsRaised_raiseBy d n 1).nGet (raisedMember_ev_RAISED k), nGet_nInc_other _ hne,
    nGet_nSet_other _ _ (ev_RAISED_ne_ev_COUNT k n)]

end Sys2Proof.Machine
end

section
/-!
The timer channels (O32, R601 to R607): a channel and the group-start registers after a change, what a channel that settles keeps, and the
clauses of the channels' commands.
-/
-- One proof at a time: the tasks of many short proofs wait on one another, and each holds a stack of its own.
set_option Elab.async false
namespace Sys2Proof.Machine

variable {d e : Dev} {n : Nat}

@[simp] theorem timerOf_updTimer (d : Dev) (n : Nat) (f : Timer → Timer) : timerOf (updTimer d n f) n = f (timerOf d n) :=
  mapGet_mapSet_same ..

theorem timerOf_updTimer_other (d : Dev) {n k : Nat} (h : k ≠ n) (f : Timer → Timer) : timerOf (updTimer d n f) k = timerOf d k :=
  mapGet_mapSet_other _ _ _ _ h

theorem timerOf_congr (h : e.time = d.time) (n : Nat) : timerOf e n = timerOf d n := by simp only [timerOf, h]

@[simp] theorem startOf_updStart (d : Dev) (c : Nat) (f : GroupStart → GroupStart) : startOf (updStart d c f) c = f (startOf d c) :=
  mapGet_mapSet_same ..

theorem time_of_membersOnly (h : MembersOnly d e) : e.time = d.time := (congrArg Dev.time h :)

theorem raise_time (d : Dev) (n : Nat) : (raise d n).time = d.time := time_of_membersOnly (membersOnly_raiseBy d n 1)

/-- A counter stands by the channel's own fields and the advance of the timebase (R602). -/
theorem rawCount_congr (h : e.time.adv = d.time.adv) (t : Timer) : rawCount e t = rawCount d t := by simp only [rawCount, h]

/-! ### Comparators and reloads (R602, R603) -/

/-- A channel whose comparator k fires. -/
def fired (t : Timer) (k : Nat) : Timer :=
  if k = 0 then { t with next0 := t.compare0 + 1, compare0 := if t.add0 = 0 then t.compare0 else (t.compare0 + t.add0) % periodOf t }
  else { t with next1 := t.compare1 + 1, compare1 := if t.add1 = 0 then t.compare1 else (t.compare1 + t.add1) % periodOf t }

theorem timerFire_of_due {k : Nat} (h : compareDue d (timerOf d n) k = true) :
    timerFire d n k = raise (updTimer d n (fun t => fired t k)) (4 * n + 1 + k) := if_pos h

theorem timerFire_of_not_due {k : Nat} (h : compareDue d (timerOf d n) k = false) : timerFire d n k = d := if_neg (by simp [h])

/-- A channel with the counter and the settings of another, whose comparators may stand elsewhere. -/
def SameCounter (t t' : Timer) : Prop :=
  t' = { t with next0 := t'.next0, compare0 := t'.compare0, next1 := t'.next1, compare1 := t'.compare1 }

theorem SameCounter.trans {t t' t'' : Timer} (h : SameCounter t t') (h' : SameCounter t' t'') : SameCounter t t'' :=
  Eq.trans h' (congrArg (fun x : Timer =>
    { x with next0 := t''.next0, compare0 := t''.compare0, next1 := t''.next1, compare1 := t''.compare1 }) h)

theorem sameCounter_fired (t : Timer) (k : Nat) : SameCounter t (fired t k) := by
  unfold SameCounter fired
  split <;> rfl

theorem SameCounter.rawCount {t t' : Timer} (h : SameCounter t t') (d : Dev) : rawCount d t' = rawCount d t := by
  rw [h]
  rfl

theorem SameCounter.periodOf {t t' : Timer} (h : SameCounter t t') : periodOf t' = periodOf t := by
  rw [h]
  rfl

theorem sameCounter_timerFire (d : Dev) (n k : Nat) :
    SameCounter (timerOf d n) (timerOf (timerFire d n k) n) ∧ (timerFire d n k).time.adv = d.time.adv := by
  cases hdue : compareDue d (timerOf d n) k
  · rw [timerFire_of_not_due hdue]
    exact ⟨rfl, rfl⟩
  · rw [timerFire_of_due hdue, timerOf_congr (raise_time _ _), timerOf_updTimer, raise_time]
    exact ⟨sameCounter_fired _ k, rfl⟩

/-- Both comparators of a channel look, in order. -/
def firedBoth (d : Dev) (n : Nat) : Dev := timerFire (timerFire d n 0) n 1

theorem sameCounter_firedBoth (d : Dev) (n : Nat) :
    SameCounter (timerOf d n) (timerOf (firedBoth d n) n) ∧ (firedBoth d n).time.adv = d.time.adv := by
  obtain ⟨hfirst, hadv⟩ := sameCounter_timerFire d n 0
  obtain ⟨hsecond, hadv'⟩ := sameCounter_timerFire (timerFire d n 0) n 1
  exact ⟨hfirst.trans hsecond, hadv'.trans hadv⟩

/-- A channel that reloads at a time. -/
def reloaded (d : Dev) (t : Timer) : Timer :=
  { t with count := rawCount d t - periodOf t, next0 := 0, next1 := 0, since := d.time.adv - (d.time.adv - t.since) % countStep t }

theorem timerReload_of_due (hon : (timerOf d n).enable = true) (hdue : periodOf (timerOf d n) ≤ rawCount d (timerOf d n)) :
    timerReload d n = raise (updTimer (firedBoth d n) n (reloaded (firedBoth d n))) (4 * n) := if_pos ⟨hon, hdue⟩

theorem timerReload_of_not_due (h : ¬ ((timerOf d n).enable = true ∧ periodOf (timerOf d n) ≤ rawCount d (timerOf d n))) :
    timerReload d n = d := if_neg h

theorem nGet_timerFire_RAISED_other (d : Dev) {k i : Nat} (hn : n < 96) (hk : k < 2) (hi : i < 1024) (h : i ≠ 4 * n + 1 + k) :
    nGet (timerFire d n k) (ev_RAISED i) = nGet d (ev_RAISED i) := by
  cases hdue : compareDue d (timerOf d n) k
  · rw [timerFire_of_not_due hdue]
  · rw [timerFire_of_due hdue, nGet_raise_RAISED_other _ (by omega) (by omega) h]
    rfl

theorem timerPeriodDoes : TimerPeriodDoes := by
  rintro s n ⟨hon, hdue⟩
  obtain ⟨hsame, hadv⟩ := sameCounter_firedBoth s.dev n.val
  have hchannel : timerOf (raise (updTimer (firedBoth s.dev n.val) n.val (reloaded (firedBoth s.dev n.val))) (4 * n.val)) n.val =
      reloaded (firedBoth s.dev n.val) (timerOf (firedBoth s.dev n.val) n.val) :=
    (timerOf_congr (raise_time _ _) _).trans (timerOf_updTimer _ _ _)
  refine completes_of_dev rfl (timerReload_of_due hon hdue) ?_
  dsimp only
  rw [withDev_dev, hchannel]
  refine ⟨?_, rfl, rfl, ?_⟩
  · exact congrArg₂ (· - ·) ((rawCount_congr hadv _).trans (hsame.rawCount _)) hsame.periodOf
  · refine (nGet_raise_RAISED _ _).trans (congrArg (fun k => satAdd 32 k 1) ?_)
    have hother {k : Nat} (hk : k < 2) (d : Dev) := nGet_timerFire_RAISED_other d (i := 4 * n.val) n.isLt hk (by omega) (by omega)
    exact (hother (by decide) _).trans (hother (by decide) _)

theorem timerCompareDoes : TimerCompareDoes := by
  intro s n k hdue
  refine completes_of_dev rfl (timerFire_of_due hdue) ?_
  dsimp only
  rw [withDev_dev, timerOf_congr (raise_time _ _), timerOf_updTimer]
  refine ⟨?_, (nGet_raise_RAISED _ _).trans rfl⟩
  match k with
  | 0 => exact ⟨rfl, rfl⟩
  | 1 => exact ⟨rfl, rfl⟩

/-! ### Capture (R606, R607) -/

theorem timerCaptureDoes : TimerCaptureDoes := by
  rintro s n rising ⟨hawake, hpasses, hsource, hedge, hwindow, hdiv⟩
  have hexec : doTimerCapture n rising s.dev =
      timerCapture (updTimer s.dev n.val (fun t => { t with edgeAt := mapFind s.dev.pins.changed t.capSrc })) n.val rising := by
    unfold doTimerCapture
    dsimp only
    rw [if_neg (by simp [hawake, hpasses])]
  have hselected : (timerOf s.dev n.val).capSrc ≠ 0x3FF ∧ (((timerOf s.dev n.val).capEdge = 0 ∧ rising = true) ∨
      ((timerOf s.dev n.val).capEdge = 1 ∧ ¬ rising = true) ∨ (timerOf s.dev n.val).capEdge = 2) := by
    refine ⟨hsource, ?_⟩
    rcases hedge with h | h | ⟨h, hfalling⟩
    · exact .inr (.inr h)
    · exact .inl h
    · exact .inr (.inl ⟨h, by simp [hfalling]⟩)
  refine completes_of_dev rfl hexec ?_
  rw [withDev_dev]
  unfold timerCapture
  dsimp only
  rw [timerOf_updTimer, if_neg (not_not.mpr hselected), if_neg (by simp [hwindow]), if_neg (Nat.not_lt.mpr hdiv)]
  rw [timerOf_congr (raise_time _ _), timerOf_updTimer, timerOf_updTimer]
  exact ⟨rfl, rfl, rfl, rfl, nGet_raise_RAISED _ _⟩

/-! ### Register accesses from the channel's own island (R11, R16) -/

theorem timerAccess_of_running {c : Nat} (h : islandRuns d c = true) (hc : c < 12) (m : List Host.Cell) (off : Nat) (v : Word) :
    timerAccess d m c off v false = clusterWrite d c (off % 0x10000) v.toNat := by
  simp only [islandRuns, Bool.and_eq_true, Bool.not_eq_true'] at h
  obtain ⟨hoff, hgated⟩ := h
  unfold timerAccess
  rw [arriveReg_of_running hoff hgated]
  unfold applyReg
  dsimp only
  rw [if_neg (by decide), if_neg (by omega), if_neg (by omega), if_pos hc]

theorem timerRead_of_running {c : Nat} (h : islandRuns d c = true) (hc : c < 12) (m : List Host.Cell) (off : Nat) (v : Word) :
    timerAccess d m c off v true = (clusterRead d c (off % 0x10000)).1 := by
  simp only [islandRuns, Bool.and_eq_true, Bool.not_eq_true'] at h
  obtain ⟨hoff, hgated⟩ := h
  unfold timerAccess
  rw [arriveReg_of_running hoff hgated]
  unfold applyReg
  dsimp only
  rw [if_pos rfl, if_pos hc]

/-- A channel's register of its own cluster's block (R601). -/
theorem clusterWrite_channel (d : Dev) {n off : Nat} (hoff : off < 0x40) (v : Nat) :
    clusterWrite d (n / 8) ((0x40 * (n % 8) + off) % 0x10000) v = timerWrite d n off v := by
  have hchannel : 8 * (n / 8) + (0x40 * (n % 8) + off) % 0x10000 / 0x40 = n := by omega
  have hregister : (0x40 * (n % 8) + off) % 0x10000 % 0x40 = off := by omega
  unfold clusterWrite
  rw [if_pos (by omega), hchannel, hregister]

theorem captureReadDoes : CaptureReadDoes := by
  rintro s n ⟨hruns, hset⟩
  have hchannel : 8 * (n.val / 8) + (0x40 * (n.val % 8) + 0x24) % 0x10000 / 0x40 = n.val := by omega
  have hregister : (0x40 * (n.val % 8) + 0x24) % 0x10000 % 0x40 = 0x24 := by omega
  have hexec : doCaptureRead n s.mem s.dev = updTimer s.dev n.val (fun t => { t with capNew := false }) := by
    unfold doCaptureRead
    rw [timerRead_of_running hruns (by omega)]
    unfold clusterRead captureRead
    dsimp only
    rw [if_pos (by omega), hchannel, if_pos hregister, if_neg (by simp [hset])]
  exact completes_of_dev rfl hexec (timerOf_updTimer _ _ _)

/-! ### A channel settles before a register of it changes (R602, R603) -/

theorem periodOf_pos (t : Timer) : 0 < periodOf t := by
  unfold periodOf
  split <;> omega

theorem countStep_pos (t : Timer) : 0 < countStep t := by
  unfold countStep nsUnit
  omega

/-- The counter of a channel that has just reloaded shows the count by which it passed PERIOD. -/
theorem rawCount_reloaded {t : Timer} (hon : t.enable = true) : rawCount d (reloaded d t) = rawCount d t - periodOf t := by
  have hrest : (d.time.adv - (d.time.adv - (d.time.adv - t.since) % countStep t)) / countStep t = 0 := by
    have hlt := Nat.mod_lt (d.time.adv - t.since) (countStep_pos t)
    have hle := Nat.mod_le (d.time.adv - t.since) (countStep t)
    exact Nat.div_eq_of_lt (by omega)
  rw [rawCount, if_pos (show (reloaded d t).enable = true from hon)]
  exact (congrArg (rawCount d t - periodOf t + ·) hrest).trans (Nat.add_zero _)

/-- What a channel keeps that settles: its settings and what COUNT shows; one that is off keeps everything. -/
structure Settled (t t' : Timer) (c c' : Nat) : Prop where
  enable : t'.enable = t.enable
  prescale : t'.prescale = t.prescale
  phase : t'.phase = t.phase
  period : t'.period = t.period
  periodShort : t'.periodShort = t.periodShort
  count : c' = c

theorem settled_of_sameCounter {t t' : Timer} (h : SameCounter t t') (hadv : e.time.adv = d.time.adv) :
    Settled t t' (timerCount d t) (timerCount e t') := by
  have hcount : timerCount e t' = timerCount d t := by
    rw [timerCount, timerCount, rawCount_congr hadv, h.rawCount, h.periodOf]
  rw [h] at hcount ⊢
  exact ⟨rfl, rfl, rfl, rfl, rfl, hcount⟩

theorem Settled.trans {t t' t'' : Timer} {c c' c'' : Nat} (h : Settled t t' c c') (h' : Settled t' t'' c' c'') : Settled t t'' c c'' :=
  ⟨h'.enable.trans h.enable, h'.prescale.trans h.prescale, h'.phase.trans h.phase, h'.period.trans h.period,
    h'.periodShort.trans h.periodShort, h'.count.trans h.count⟩

theorem settled_reloaded {t : Timer} (hon : t.enable = true) (hdue : periodOf t ≤ rawCount d t) :
    Settled t (reloaded d t) (timerCount d t) (timerCount d (reloaded d t)) := by
  refine ⟨rfl, rfl, rfl, rfl, rfl, ?_⟩
  rw [timerCount, timerCount, rawCount_reloaded hon, show periodOf (reloaded d t) = periodOf t from rfl, ← Nat.mod_eq_sub_mod hdue]

theorem settled_timerReload (d : Dev) (n : Nat) :
    Settled (timerOf d n) (timerOf (timerReload d n) n) (timerCount d (timerOf d n)) (timerCount (timerReload d n) (timerOf (timerReload d n) n)) ∧
      (timerReload d n).time.adv = d.time.adv := by
  by_cases h : (timerOf d n).enable = true ∧ periodOf (timerOf d n) ≤ rawCount d (timerOf d n)
  · obtain ⟨hon, hdue⟩ := h
    obtain ⟨hsame, hadv⟩ := sameCounter_firedBoth d n
    have hfired := settled_of_sameCounter hsame hadv
    have hreloaded := settled_reloaded (hfired.enable.trans hon) (d := firedBoth d n)
      (by rw [rawCount_congr hadv, hsame.rawCount, hsame.periodOf]; exact hdue)
    have hadv' : (raise (updTimer (firedBoth d n) n (reloaded (firedBoth d n))) (4 * n)).time.adv = (firedBoth d n).time.adv :=
      (congrArg TimeSt.adv (raise_time _ _)).trans rfl
    rw [timerReload_of_due hon hdue, timerOf_congr (raise_time _ _), timerOf_updTimer]
    refine ⟨?_, hadv'.trans hadv⟩
    exact (hfired.trans hreloaded).trans ⟨rfl, rfl, rfl, rfl, rfl, by rw [timerCount, timerCount, rawCount_congr hadv']⟩
  · rw [timerReload_of_not_due h]
    exact ⟨⟨rfl, rfl, rfl, rfl, rfl, rfl⟩, rfl⟩

theorem settled_timerSettle (d : Dev) (n : Nat) :
    Settled (timerOf d n) (timerOf (timerSettle d n) n) (timerCount d (timerOf d n)) (timerCount (timerSettle d n) (timerOf (timerSettle d n) n)) ∧
      (timerSettle d n).time.adv = d.time.adv := by
  obtain ⟨hreload, hadv⟩ := settled_timerReload d n
  obtain ⟨hsame, hadv'⟩ := sameCounter_firedBoth (timerReload d n) n
  exact ⟨hreload.trans (settled_of_sameCounter hsame hadv'), hadv'.trans hadv⟩

/-! ### Writes of a channel's registers (R601, R604) -/

theorem doTimerEnableWrite_of_running {n : Fin 96} (h : islandRuns d (n.val / 8) = true) (v : Word) (m : List Host.Cell) :
    doTimerEnableWrite n v m d = timerControl (timerSettle d n.val) n.val v.toNat :=
  (timerAccess_of_running h (by omega) m _ v).trans (clusterWrite_channel d (off := 0) (by decide) _)

theorem doPeriodWrite_of_running {n : Fin 96} (h : islandRuns d (n.val / 8) = true) (v : Word) (m : List Host.Cell) :
    doPeriodWrite n v m d = periodWrite (timerSettle d n.val) n.val v.toNat :=
  (timerAccess_of_running h (by omega) m _ v).trans (clusterWrite_channel d (off := 8) (by decide) _)

/-- A channel after a write of its control register (R601). -/
theorem timerOf_timerControl (d : Dev) (n v : Nat) :
    (timerOf (timerControl d n v) n).enable = bitOf v 0 ∧ (timerOf (timerControl d n v) n).wake = bitOf v 1 ∧
      (timerOf (timerControl d n v) n).windowEn = bitOf v 2 ∧
      (timerOf (timerControl d n v) n).prescale = (if (timerOf d n).enable then (timerOf d n).prescale else fieldOf v 16 16) ∧
      ((timerOf d n).enable = false → bitOf v 0 = true →
        (timerOf (timerControl d n v) n).count = (timerOf d n).phase ∧ (timerOf (timerControl d n v) n).since = d.time.adv) := by
  unfold timerControl timerEnable
  dsimp only
  rw [timerOf_updTimer, timerOf_updTimer]
  cases hwas : (timerOf d n).enable <;> cases hnew : bitOf v 0 <;> simp [hwas, updTimer]

theorem bitOf_toNat (v : Word) (i : Nat) : bitOf v.toNat i = v.getLsbD i := rfl

theorem fieldOf_high (v : Word) : fieldOf v.toNat 16 16 = v.toNat / 2 ^ 16 := by
  have hlt := v.isLt
  rw [fieldOf, Nat.shiftRight_eq_div_pow]
  omega

theorem timerEnableWriteDoes : TimerEnableWriteDoes := by
  intro s n v hruns
  obtain ⟨hsettled, hadv⟩ := settled_timerSettle s.dev n.val
  obtain ⟨henable, hwake, hwindow, hprescale, hstart⟩ := timerOf_timerControl (timerSettle s.dev n.val) n.val v.toNat
  refine completes_of_dev rfl (doTimerEnableWrite_of_running hruns v s.mem) ⟨henable, hwake, hwindow, ?_, fun hoff hon => ?_⟩
  · rw [withDev_dev, hprescale, hsettled.enable, hsettled.prescale, fieldOf_high]
  · obtain ⟨hcount, hsince⟩ := hstart (hsettled.enable.trans hoff) hon
    exact ⟨hcount.trans hsettled.phase, hsince.trans hadv⟩

theorem timerEnableWriteOffDoes : TimerEnableWriteOffDoes := by
  intro s n v hoff
  have hexec : doTimerEnableWrite n v s.mem s.dev =
      nSet (nInc s.dev ctrCtl_ISLAND_OFF_ACCESSES) ctrCtl_LAST_OFF_ISLAND (n.val / 8) := by
    unfold doTimerEnableWrite timerAccess arriveReg countOff
    dsimp only
    rw [if_pos hoff, if_pos hoff]
  refine completes_of_dev rfl hexec ⟨?_, nGet_nSet_same _ _ _, ?_⟩
  · exact (nGet_nSet_other _ _ (by decide)).trans (nGet_nInc_same _ _)
  · exact (nSet_time _ _ _).trans (nInc_time _ _)

theorem timerEnableWriteWaitsDoes : TimerEnableWriteWaitsDoes := by
  rintro s n v ⟨hoff, hgated⟩
  have hexec : doTimerEnableWrite n v s.mem s.dev = { s.dev with islands.waiting := s.dev.islands.waiting ++
      [{ src := n.val / 8, dst := n.val / 8, addr := 0x40 * (n.val % 8), val := v, thread := 0, prog := 0, isRead := false }] } := by
    unfold doTimerEnableWrite timerAccess arriveReg
    dsimp only
    rw [if_neg (hoff ▸ Bool.false_ne_true), if_pos hgated]
  exact completes_of_dev rfl hexec ⟨rfl, rfl⟩

/-- A channel after a write of PERIOD (R604). -/
theorem timerOf_periodWrite (d : Dev) (n v : Nat) :
    (timerOf (periodWrite d n v) n).period = v ∧
      (timerOf (periodWrite d n v) n).periodShort = ((timerOf d n).periodShort || ((timerOf d n).enable &&
        decide ((if v = 0 then 2 ^ 32 else v) ≤ timerCount d (timerOf d n)))) := by
  have hperiod : periodOf { timerOf d n with period := v } = if v = 0 then 2 ^ 32 else v := rfl
  generalize (if v = 0 then 2 ^ 32 else v) = p at hperiod ⊢
  unfold periodWrite
  dsimp only
  rw [timerOf_updTimer, hperiod]
  by_cases h : (timerOf d n).enable = true ∧ p ≤ timerCount d (timerOf d n)
  · rw [if_pos h, timerOf_updTimer, timerOf_updTimer]
    exact ⟨rfl, by simp [h.1, h.2]⟩
  · rw [if_neg h, timerOf_updTimer]
    refine ⟨rfl, ?_⟩
    cases hon : (timerOf d n).enable
    · simp
    · have hle : ¬ p ≤ timerCount d (timerOf d n) := fun hle => h ⟨hon, hle⟩
      simp [hle]

theorem periodWriteDoes : PeriodWriteDoes := by
  intro s n v hruns
  obtain ⟨hsettled, -⟩ := settled_timerSettle s.dev n.val
  obtain ⟨hperiod, hshort⟩ := timerOf_periodWrite (timerSettle s.dev n.val) n.val v.toNat
  refine completes_of_dev rfl (doPeriodWrite_of_running hruns v s.mem) ⟨hperiod, ?_⟩
  rw [withDev_dev, hshort, hsettled.periodShort, hsettled.enable, hsettled.count]

/-! ### Group starts (R605) -/

/-- A channel that starts with its group. -/
def started (d : Dev) (t : Timer) : Timer :=
  { t with enable := true, count := t.phase, since := d.time.adv, next0 := t.phase + 1, next1 := t.phase + 1 }

theorem groupStart_eq (d : Dev) (c : Nat) : groupStart d c =
    updStart ((bitsOf (startOf d c).mask 8).foldl (fun d k => updTimer d (8 * c + k) (started d)) d) c (fun g => { g with mask := 0 }) := rfl

theorem startOf_updTimer (d : Dev) (n c : Nat) (f : Timer → Timer) : startOf (updTimer d n f) c = startOf d c := rfl

theorem timerOf_updStart (d : Dev) (n c : Nat) (f : GroupStart → GroupStart) : timerOf (updStart d c f) n = timerOf d n := rfl

theorem startOf_startGroup (l : List Nat) (d : Dev) (c : Nat) :
    startOf (l.foldl (fun d k => updTimer d (8 * c + k) (started d)) d) c = startOf d c :=
  List.foldlRecOn (motive := fun e => startOf e c = startOf d c) _ _ rfl fun _ he _ _ => he

/-- Every channel of a list starts at its PHASE. -/
theorem timerOf_startGroup (l : List Nat) (hl : l.Nodup) (d : Dev) (c : Nat) {k : Nat} (hk : k ∈ l) :
    (timerOf (l.foldl (fun d k => updTimer d (8 * c + k) (started d)) d) (8 * c + k)).enable = true ∧
      (timerOf (l.foldl (fun d k => updTimer d (8 * c + k) (started d)) d) (8 * c + k)).count = (timerOf d (8 * c + k)).phase := by
  induction l generalizing d with
  | nil => simp at hk
  | cons a l ih =>
    obtain ⟨hnot, hl⟩ := List.nodup_cons.mp hl
    rw [List.foldl_cons]
    rcases List.mem_cons.mp hk with rfl | hk
    · have hlater : ∀ e : Dev, timerOf (l.foldl (fun d j => updTimer d (8 * c + j) (started d)) e) (8 * c + k) = timerOf e (8 * c + k) :=
        fun e => List.foldlRecOn (motive := fun f => timerOf f (8 * c + k) = timerOf e (8 * c + k)) _ _ rfl fun f hf j hj => by
          have hne : k ≠ j := fun h => hnot (h ▸ hj)
          exact (timerOf_updTimer_other f (by omega) _).trans hf
      rw [hlater, timerOf_updTimer]
      exact ⟨rfl, rfl⟩
    · have hne : k ≠ a := fun h => hnot (h ▸ hk)
      have hphase : timerOf (updTimer d (8 * c + a) (started d)) (8 * c + k) = timerOf d (8 * c + k) :=
        timerOf_updTimer_other d (by omega) _
      exact hphase ▸ ih hl _ hk

theorem mem_bitsOf {n w k : Nat} : k ∈ bitsOf n w ↔ k < w ∧ bitOf n k = true := by simp [bitsOf, bitOf]

theorem nodup_bitsOf (n w : Nat) : (bitsOf n w).Nodup := List.nodup_range.filter _

theorem groupStart_leaves (d : Dev) (c : Nat) :
    (startOf (groupStart d c) c).mask = 0 ∧ (startOf (groupStart d c) c).late = (startOf d c).late ∧
      ∀ k < 8, bitOf (startOf d c).mask k = true →
        (timerOf (groupStart d c) (8 * c + k)).enable = true ∧ (timerOf (groupStart d c) (8 * c + k)).count = (timerOf d (8 * c + k)).phase := by
  rw [groupStart_eq, startOf_updStart, startOf_startGroup]
  refine ⟨rfl, rfl, fun k hk hbit => ?_⟩
  rw [timerOf_updStart]
  exact timerOf_startGroup _ (nodup_bitsOf _ _) d c (mem_bitsOf.mpr ⟨hk, hbit⟩)

theorem groupStartDoes : GroupStartDoes := by
  rintro s c ⟨hmask, -, htime⟩
  have hexec : doGroupStart c s.dev = groupStart s.dev c.val := if_pos ⟨hmask, htime⟩
  obtain ⟨hcleared, -, hstarted⟩ := groupStart_leaves s.dev c.val
  exact completes_of_dev rfl hexec ⟨hcleared, hstarted⟩

theorem doStartMaskWrite_of_running {c : Fin 12} (h : islandRuns d c.val = true) (v : Word) (m : List Host.Cell) :
    doStartMaskWrite c v m d = startMaskWrite d c.val v.toNat := timerAccess_of_running h c.isLt m _ v

/-- The group-start registers with START_MASK written. -/
def maskWritten (d : Dev) (c v : Nat) : Dev :=
  updStart d c (fun g => { g with mask := fieldOf v 0 8, late := g.late && (!bitOf v 8 || g.lateAt == some d.now) })

theorem startMaskWrite_eq (d : Dev) (c v : Nat) : startMaskWrite d c v =
    if fieldOf v 0 8 ≠ 0 ∧ (startOf d c).time < tbNs d then
      groupStart (updStart (maskWritten d c v) c (fun g => { g with late := true, lateAt := some d.now })) c
    else maskWritten d c v := by
  unfold startMaskWrite
  dsimp only
  rw [startOf_updStart]
  rfl

theorem fieldOf_low (v : Nat) : fieldOf v 0 8 = v % 256 := rfl

theorem startMaskWriteDoes : StartMaskWriteDoes := by
  rintro s c v ⟨hruns, hlate, hnone⟩
  have hexec : doStartMaskWrite c v s.mem s.dev = maskWritten s.dev c.val v.toNat := by
    rw [doStartMaskWrite_of_running hruns, startMaskWrite_eq, fieldOf_low, if_neg]
    rintro ⟨hmask, htime⟩
    rcases hnone with h | h
    · exact hmask h
    · omega
  refine completes_of_dev rfl hexec ?_
  rw [withDev_dev, maskWritten, startOf_updStart]
  refine ⟨fieldOf_low _, ?_⟩
  simp [bitOf_toNat, beq_eq_false_iff_ne.mpr hlate]

theorem startMaskWriteLateDoes : StartMaskWriteLateDoes := by
  rintro s c v ⟨hruns, hmask, htime⟩
  have hexec := (doStartMaskWrite_of_running hruns v s.mem).trans ((startMaskWrite_eq s.dev c.val v.toNat).trans (if_pos ⟨hmask, htime⟩))
  obtain ⟨hcleared, hlate, hstarted⟩ := groupStart_leaves
    (updStart (maskWritten s.dev c.val v.toNat) c.val (fun g => { g with late := true, lateAt := some s.dev.now })) c.val
  rw [startOf_updStart] at hlate
  refine completes_of_dev rfl hexec ⟨hcleared, hlate, fun k hk hbit => hstarted k hk ?_⟩
  rw [startOf_updStart, maskWritten, startOf_updStart]
  show bitOf (v.toNat % 2 ^ 8) k = true
  rw [bitOf, Nat.testBit_mod_two_pow]
  exact (Bool.and_eq_true _ _).mpr ⟨by simpa using hk, hbit⟩

end Sys2Proof.Machine
end

section
/-!
The timebase and its servo (O32, R588 to R599): a step of the timebase split into its log and what follows it, what a sample leaves, and
PPS_OUT.
-/
-- One proof at a time: the tasks of many short proofs wait on one another, and each holds a stack of its own.
set_option Elab.async false
namespace Sys2Proof.Machine

variable {d e : Dev}

/-- A member that no event writes and that is of neither the step log nor the sleep-epoch records. -/
def OutsideLog (q : Ref) : Prop := QuietMember q ∧ (refClass q = 3 → refInst q = 0)

/-- What leaves those members and the deadlines that no event sets. -/
abbrev KeepsOutsideLog (d e : Dev) : Prop := Keeps OutsideLog QuietKey d e

theorem KeepsQuiet.outsideLog (h : KeepsQuiet d e) : KeepsOutsideLog d e :=
  h.mono (fun _ hq => hq.1) fun _ hk => hk

theorem outsideLog_mref (m : Nat) : OutsideLog (mref 3 0 m) := by simp [OutsideLog, QuietMember]

theorem not_outsideLog_obs (n m : Nat) : ¬ OutsideLog (mref 0x70 n m) := fun h => not_quietMember_obs n m h.1

theorem not_outsideLog_epoch_WAKE_STEP (i : Nat) : ¬ OutsideLog (epoch_WAKE_STEP (i % 4)) := fun h => by
  have hinst : (0x20 + i % 4) % 65536 = 0 := by simpa [epoch_WAKE_STEP] using h.2 (by simp [epoch_WAKE_STEP])
  omega

theorem keepsOutsideLog_raise (d : Dev) {n : Nat} (hn : n < 1024) : KeepsOutsideLog d (raise d n) := (keepsQuiet_raiseBy d hn 1).outsideLog

theorem keepsOutsideLog_tokenEnd (d : Dev) : KeepsOutsideLog d (tokenEnd d) :=
  Keeps.whenever fun _ => (keepsQuiet_trace d 14 0 2).outsideLog.nSet (not_outsideLog_obs _ _) _

theorem membersOnly_tokenEnd (d : Dev) : MembersOnly d (tokenEnd d) :=
  .whenever ((membersOnly_trace d 14 0 2).trans (.nSet _ _ _))

/-! ### A step of the timebase (R593, R594) -/

/-- A timebase that has stepped, with its origins and its log. -/
def stepLogged (d : Dev) (delta : Int) (cause : Nat) : Dev :=
  nSets (stepOrigins { d with tb := ((d.tb : Int) + delta * nsUnit).toNat } delta)
    [(stepLog_TIME (nGet d time_LOG_NEXT), tbNs d), (stepLog_STEP (nGet d time_LOG_NEXT), twosOf 64 delta),
      (stepLog_CAUSE (nGet d time_LOG_NEXT), cause), (time_LOG_NEXT, (nGet d time_LOG_NEXT + 1) % 8),
      (time_STEPS, satAdd 32 (nGet d time_STEPS) 1)]

/-- The first step after a wake is kept with its epoch (R596). -/
def wakeStepKept (d : Dev) (before : Nat) (delta : Int) : Dev :=
  match d.time.wakeAt with
  | some w => if before ≤ w + 10 * 10 ^ 9 then
      nSet { d with time.wakeAt := none } (epoch_WAKE_STEP ((d.time.epochNext + 3) % 4)) (twosOf 64 delta)
    else { d with time.wakeAt := none }
  | none => d

/-- A token whose window the time has left ends (R724). -/
def tokenLeft (d : Dev) : Dev :=
  if nGet d obs_TOKEN_STATE = 1 ∧ (tbNs d < d.obs.notBefore ∨ nGet d obs_NOT_AFTER ≤ tbNs d) then tokenEnd d else d

/-- No instant of PPS_OUT that is yet to come counts as done (R595). -/
def ppsKept (d : Dev) : Dev := { d with time.ppsDone := min d.time.ppsDone (ppsPassed d) }

/-- What follows a step: PPS_OUT, the wake's step, the token's window and TIME_STEP. -/
def stepEnded (d : Dev) (before : Nat) (delta : Int) : Dev := raise (tokenLeft (wakeStepKept (ppsKept d) before delta)) 855

theorem timebaseStep_eq (d : Dev) (delta : Int) (cause : Nat) : timebaseStep d delta cause =
    stepEnded (if cause ≠ 2 then nSet (stepLogged d delta cause) time_TIME_VALID 1 else stepLogged d delta cause) (tbNs d) delta := by
  unfold timebaseStep stepEnded wakeStepKept tokenLeft ppsKept
  rfl

theorem keepsOutsideLog_wakeStepKept (d : Dev) (before : Nat) (delta : Int) : KeepsOutsideLog d (wakeStepKept d before delta) := by
  unfold wakeStepKept
  split
  · have hwoken : KeepsOutsideLog d { d with time.wakeAt := none } := (Keeps.refl d).same rfl rfl rfl
    exact Keeps.ite (fun _ => hwoken.nSet (not_outsideLog_epoch_WAKE_STEP _) _) fun _ => hwoken
  · exact Keeps.refl d

theorem keepsOutsideLog_ppsKept (d : Dev) : KeepsOutsideLog d (ppsKept d) := (Keeps.refl d).same rfl rfl rfl

theorem keepsOutsideLog_tokenLeft (d : Dev) : KeepsOutsideLog d (tokenLeft d) := Keeps.whenever fun _ => keepsOutsideLog_tokenEnd d

theorem keepsOutsideLog_stepEnded (d : Dev) (before : Nat) (delta : Int) : KeepsOutsideLog d (stepEnded d before delta) :=
  ((keepsOutsideLog_ppsKept d).trans (keepsOutsideLog_wakeStepKept _ before delta)).trans
    ((keepsOutsideLog_tokenLeft _).trans (keepsOutsideLog_raise _ (by decide)))

theorem wakeStepKept_tb (d : Dev) (before : Nat) (delta : Int) : (wakeStepKept d before delta).tb = d.tb := by
  unfold wakeStepKept
  split
  · split
    · exact (congrArg Dev.tb (MembersOnly.nSet _ _ _) :)
    · rfl
  · rfl

theorem membersOnly_tokenLeft (d : Dev) : MembersOnly d (tokenLeft d) := .whenever (membersOnly_tokenEnd d)

theorem stepEnded_tb (d : Dev) (before : Nat) (delta : Int) : (stepEnded d before delta).tb = d.tb := by
  have hended := (membersOnly_tokenLeft (wakeStepKept (ppsKept d) before delta)).trans (membersOnly_raiseBy _ 855 1)
  exact (congrArg Dev.tb hended :).trans (wakeStepKept_tb (ppsKept d) before delta)

theorem nGet_stepLogged_STEPS (d : Dev) (delta : Int) (cause : Nat) :
    nGet (stepLogged d delta cause) time_STEPS = satAdd 32 (nGet d time_STEPS) 1 := nGet_nSet_same _ _ _

theorem keeps_stepLogged (d : Dev) (delta : Int) (cause : Nat) : Keeps (· = time_OFFSET_NS) QuietKey d (stepLogged d delta cause) := by
  have hstepped : Keeps (· = time_OFFSET_NS) QuietKey d (stepOrigins { d with tb := ((d.tb : Int) + delta * nsUnit).toNat } delta) :=
    (Keeps.refl d).same rfl rfl rfl
  refine hstepped.nSets ?_
  simp only [List.forall_mem_cons, List.not_mem_nil, false_imp_iff, implies_true, and_true]
  exact ⟨mref_ne_of_member (by decide), mref_ne_of_member (by decide), mref_ne_of_member (by decide), by decide, by decide⟩

theorem stepLogged_tb (d : Dev) (delta : Int) (cause : Nat) : (stepLogged d delta cause).tb = ((d.tb : Int) + delta * nsUnit).toNat :=
  (congrArg Dev.tb (MembersOnly.nSets _ _) :)

/-- A step counts, and leaves the last sample and the deadlines that no event sets. -/
theorem timebaseStep_leaves (d : Dev) (delta : Int) (cause : Nat) :
    nGet (timebaseStep d delta cause) time_STEPS = satAdd 32 (nGet d time_STEPS) 1 ∧
      Keeps (· = time_OFFSET_NS) QuietKey d (timebaseStep d delta cause) ∧
      (timebaseStep d delta cause).tb = ((d.tb : Int) + delta * nsUnit).toNat := by
  rw [timebaseStep_eq]
  have hended := keepsOutsideLog_stepEnded
    (if cause ≠ 2 then nSet (stepLogged d delta cause) time_TIME_VALID 1 else stepLogged d delta cause) (tbNs d) delta
  refine ⟨(hended.nGet (outsideLog_mref 13)).trans ?_, ?_, (stepEnded_tb _ _ _).trans ?_⟩
  · split
    · exact (nGet_nSet_other _ _ (by decide)).trans (nGet_stepLogged_STEPS d delta cause)
    · exact nGet_stepLogged_STEPS d delta cause
  · refine Keeps.trans ?_ (hended.mono (by rintro _ rfl; exact outsideLog_mref 5) fun _ hk => hk)
    exact Keeps.ite (fun _ => (keeps_stepLogged d delta cause).nSet (by decide) _) fun _ => keeps_stepLogged d delta cause
  · split
    · rw [nSet_tb]
      exact stepLogged_tb d delta cause
    · exact stepLogged_tb d delta cause

/-- A step that is not PPS's makes the time valid (R594). -/
theorem nGet_timebaseStep_TIME_VALID (d : Dev) (delta : Int) {cause : Nat} (h : cause ≠ 2) :
    nGet (timebaseStep d delta cause) time_TIME_VALID = 1 := by
  rw [timebaseStep_eq, if_pos h]
  exact ((keepsOutsideLog_stepEnded _ _ _).nGet (outsideLog_mref 2)).trans (nGet_nSet_same _ _ _)

/-- A step to a time reaches it (R599). -/
theorem tbNs_timebaseStep (d : Dev) (t cause : Nat) : tbNs (timebaseStep d ((t : Int) - tbNs d) cause) = t := by
  obtain ⟨-, -, htb⟩ := timebaseStep_leaves d ((t : Int) - tbNs d) cause
  rw [tbNs, htb, tbNs, nsUnit]
  omega

theorem emitResult_tb (d : Dev) (sess : Nat) (st : Status) (val : List Byte) : (emitResult d sess st val).tb = d.tb := rfl

theorem setTimeDoes : SetTimeDoes := by
  rintro s sess t ⟨hgate, hsource, hrange⟩
  have hop : setTime s.dev t = (timebaseStep s.dev ((t : Int) - tbNs s.dev) 3, .ok, beBytes 8 (t / 4 * 4)) := by
    unfold setTime
    rw [if_neg (by omega), if_neg (by omega)]
    dsimp only
    rw [tbRead, tbNs_timebaseStep]
  have hvalue : (setTime s.dev t).2.2 ≠ [] := by
    rw [hop]
    exact List.ne_nil_of_length_pos (by simp [beBytes])
  have hresult : actionResult time_SET_TIME (setTime s.dev t) = _ := (actionResult_of_value _ hvalue).trans hop
  have hdone := withGate_answer (op := fun d => setTime d t) hgate hresult
  refine ⟨_, rfl, ?_, ((hdone _).1).trans (nGet_timebaseStep_TIME_VALID _ _ (by decide)),
    ((hdone _).1).trans (timebaseStep_leaves _ _ _).1, (hdone 0).2⟩
  have htb : (withGate s.dev sess time_SET_TIME fun d => setTime d t).tb = (timebaseStep s.dev ((t : Int) - tbNs s.dev) 3).tb := by
    rw [withGate_open _ _ _ _ hgate, hresult]
    exact emitResult_tb _ _ _ _
  exact (congrArg (· / 2 ^ 32) htb).trans (tbNs_timebaseStep s.dev t 3)

/-! ### Samples of the servo (R592, R593) -/

/-- A change of STATE leaves the timebase's other registers. -/
theorem keeps_servoState (d : Dev) (st : Nat) :
    Keeps (fun q => OutsideLog q ∧ q ≠ time_STATE) QuietKey d (servoState d st) := by
  have hset : Keeps (fun q => OutsideLog q ∧ q ≠ time_STATE) QuietKey d (nSet d time_STATE st) :=
    (Keeps.refl d).nSet (fun h => h.2 rfl) st
  exact Keeps.ite (fun _ => hset.trans ((keepsOutsideLog_raise _ (by decide)).mono (fun _ hq => hq.1) fun _ hk => hk)) fun _ => hset

theorem nGet_servoState_STATE (d : Dev) (st : Nat) : nGet (servoState d st) time_STATE = st := by
  unfold servoState
  dsimp only
  split
  · exact ((keepsOutsideLog_raise _ (by decide)).nGet (outsideLog_mref 4)).trans (nGet_nSet_same _ _ _)
  · exact nGet_nSet_same _ _ _

theorem membersOnly_servoState (d : Dev) (st : Nat) : MembersOnly d (servoState d st) :=
  (MembersOnly.nSet d _ _).trans (.whenever (membersOnly_raiseBy _ 856 1))

/-- The timebase after a sample is taken, before the servo's state follows. -/
def sampled (d : Dev) (e : Int) (cause : Nat) : Dev :=
  if e.natAbs > nGet (nSet d time_OFFSET_NS (twosOf 64 e)) time_STEP_THRESHOLD_NS then
    timebaseStep (nSet d time_OFFSET_NS (twosOf 64 e)) (-e) cause
  else servoAdjust (nSet d time_OFFSET_NS (twosOf 64 e))

/-- What a change of the servo's state after a sample keeps. -/
theorem keeps_servoSample (d : Dev) (e : Int) (cause : Nat) :
    Keeps (fun q => OutsideLog q ∧ q ≠ time_STATE) QuietKey (sampled d e cause) (servoSample d e cause) := by
  have hrun (run : Nat) : Keeps (fun q => OutsideLog q ∧ q ≠ time_STATE) QuietKey (sampled d e cause)
      { sampled d e cause with time.goodRun := run } := (Keeps.refl _).same rfl rfl rfl
  unfold servoSample
  exact Keeps.ite (fun _ => (hrun _).trans (keeps_servoState _ 2)) fun _ =>
    Keeps.ite (fun _ => hrun _) fun _ => (hrun _).trans (keeps_servoState _ 1)

theorem keeps_servoAdjust (d : Dev) : Keeps (· = time_OFFSET_NS) QuietKey d (servoAdjust d) := by
  have hused : Keeps (· = time_OFFSET_NS) QuietKey d (freeUsed d) := (Keeps.refl d).same rfl rfl rfl
  exact (hused.nSet (by decide) _).same rfl rfl rfl

/-- A sample is OFFSET_NS; one above the threshold steps the timebase (R592, R593). -/
theorem servoSample_leaves (d : Dev) (e : Int) (cause : Nat) :
    nGet (servoSample d e cause) time_OFFSET_NS = twosOf 64 e ∧
      (∀ k, QuietKey k → mapFind (servoSample d e cause).timers k = mapFind d.timers k) ∧
      (nGet d time_STEP_THRESHOLD_NS < e.natAbs →
        nGet (servoSample d e cause) time_STEPS = satAdd 32 (nGet d time_STEPS) 1) := by
  have hlast := keeps_servoSample d e cause
  have hsampled : Keeps (· = time_OFFSET_NS) QuietKey (nSet d time_OFFSET_NS (twosOf 64 e)) (sampled d e cause) :=
    Keeps.ite (fun _ => (timebaseStep_leaves _ _ _).2.1) fun _ => keeps_servoAdjust _
  refine ⟨?_, fun k hk => ?_, fun h => ?_⟩
  · exact (hlast.nGet ⟨outsideLog_mref 5, by decide⟩).trans ((hsampled.nGet rfl).trans (nGet_nSet_same _ _ _))
  · exact (hlast.deadline k hk).trans ((hsampled.deadline k hk).trans (by rw [nSet_timers]))
  · have habove : e.natAbs > nGet (nSet d time_OFFSET_NS (twosOf 64 e)) time_STEP_THRESHOLD_NS := by
      rw [nGet_nSet_other _ _ (by decide)]
      exact h
    refine (hlast.nGet ⟨outsideLog_mref 13, by decide⟩).trans ?_
    rw [sampled, if_pos habove]
    exact (timebaseStep_leaves _ _ _).1.trans (congrArg (satAdd 32 · 1) (nGet_nSet_other _ _ (by decide)))

theorem quietKey_sync {i : Nat} (hi : i < 65536) : QuietKey (timerKey tkSync i) := by
  rw [QuietKey, timerKey_div hi]
  decide

theorem gptpSyncDoes : GptpSyncDoes := by
  rintro s up origin correction rx e ⟨htakes, huplink, hrole, rfl⟩
  refine completes_of_dev rfl (if_pos ⟨htakes, huplink, hrole⟩) ?_
  obtain ⟨hoffset, hdeadline, hstep⟩ := servoSample_leaves (arm (disarm s.dev tkSync 2) tkSync 0 (ms 1000))
    ((rx : Int) - nGet s.dev (upl_INGRESS_LATENCY_NS up.val) -
      (origin + correction + nGet s.dev (upl_LINK_DELAY_NS up.val) : Nat)) 1
  refine ⟨hoffset, (hdeadline _ (quietKey_sync (by decide))).trans (mapFind_arm_same _ _ _ _), fun h => ?_⟩
  exact hstep h

theorem ppsEdgeDoes : PpsEdgeDoes := by
  rintro s l x ⟨hsource, hlast, hlo, hhi, rfl⟩
  have hexec : doPpsEdge s.dev =
      let e := arm { s.dev with time.ppsLast := some (tbNs s.dev) } tkSync 1 (ms 2000)
      let x : Int := (tbNs s.dev : Int) - sintOf 32 (nGet s.dev time_PPS_IN_OFFSET_NS)
      let u := servoSample e (x - nearestSecond x) 2
      { u with time.ppsLast := some ((tbNs s.dev : Int) + (((u.tb : Int) - s.dev.tb) / nsUnit)).toNat } := by
    unfold doPpsEdge
    dsimp only
    rw [if_neg (by omega), hlast]
    dsimp only
    rw [if_pos ⟨hlo, hhi⟩, if_neg (by simp [hsource])]
    rfl
  refine completes_of_dev rfl hexec ?_
  obtain ⟨hoffset, hdeadline, -⟩ := servoSample_leaves
    (arm { s.dev with time.ppsLast := some (tbNs s.dev) } tkSync 1 (ms 2000))
    (((tbNs s.dev : Int) - sintOf 32 (nGet s.dev time_PPS_IN_OFFSET_NS)) -
      nearestSecond ((tbNs s.dev : Int) - sintOf 32 (nGet s.dev time_PPS_IN_OFFSET_NS))) 2
  exact ⟨hoffset, rfl, (hdeadline _ (quietKey_sync (by decide))).trans (mapFind_arm_same _ _ _ _)⟩

theorem ppsEdgeRejectedDoes : PpsEdgeRejectedDoes := by
  rintro s l ⟨hsource, hlast, hwindow⟩
  have hexec : doPpsEdge s.dev = nInc s.dev time_PPS_REJECTED := by
    unfold doPpsEdge
    dsimp only
    rw [if_neg (by omega), hlast]
    dsimp only
    rw [if_neg (by omega)]
  refine completes_of_dev rfl hexec ⟨nGet_nInc_same _ _, ?_⟩
  rw [withDev_dev, nInc_time]
  exact hlast

/-! ### HOLDOVER and PPS_OUT (R593, R595) -/

/-- The references whose time has run out are dropped. -/
def referencesDropped (d : Dev) : Dev :=
  let e := if due d tkSync 0 || due d tkSync 2 then disarm (disarm d tkSync 0) tkSync 2 else d
  if due d tkSync 1 then { disarm e tkSync 1 with time.ppsLast := none } else e

theorem nGet_referencesDropped (d : Dev) (q : Ref) : nGet (referencesDropped d) q = nGet d q := by
  unfold referencesDropped
  dsimp only
  split <;> split <;> exact nGet_congr rfl q

theorem referencesDropped_tbInc (d : Dev) : (referencesDropped d).tbInc = d.tbInc := by
  unfold referencesDropped
  dsimp only
  split <;> split <;> rfl

theorem syncTimeoutDoes : SyncTimeoutDoes := by
  intro s h
  have hexec : doSyncTimeout s.dev = servoState { referencesDropped s.dev with time.goodRun := 0 } 3 := by
    refine if_pos (c := (takesGptp (referencesDropped s.dev) = true ∧ _) ∨ (nGet (referencesDropped s.dev) time_SOURCE = 2 ∧ _) ∨ _) ?_
    rw [nGet_referencesDropped, takesGptp, nGet_referencesDropped]
    rcases h with ⟨htakes, hdue⟩ | ⟨hsource, hdue⟩
    · exact .inl ⟨htakes, by simp [hdue]⟩
    · exact .inr (.inl ⟨hsource, hdue⟩)
  have hmembers := membersOnly_servoState { referencesDropped s.dev with time.goodRun := 0 } 3
  refine completes_of_dev rfl hexec ⟨nGet_servoState_STATE _ _, ?_, ?_⟩
  · exact (congrArg TimeSt.goodRun (time_of_membersOnly hmembers)).trans rfl
  · exact (congrArg Dev.tbInc hmembers :).trans (referencesDropped_tbInc s.dev)

theorem ppsOutRiseDoes : PpsOutRiseDoes := by
  rintro s k ⟨henable, hvalid, hoffset, rfl, hdone⟩
  have hpassed : ppsPassed s.dev = (tbNs s.dev - nGet s.dev time_PPS_OUT_OFFSET_NS) / 10 ^ 9 + 1 := if_pos hoffset
  refine completes_of_dev rfl (if_pos ⟨henable, hvalid, hpassed ▸ hdone⟩) ⟨rfl, hpassed, ?_⟩
  exact (mapFind_arm_same _ _ _ _).trans (congrArg (fun n => some (s.dev.now + n)) (Nat.mul_comm _ _))

theorem ppsOutFallDoes : PpsOutFallDoes := by
  intro s hdue
  exact completes_of_dev rfl (if_pos hdue) ⟨rfl, armed_disarm_same _ _ _⟩

/-- Settles O32, from one lemma per command of the timebase, of the timer channels and of group starts. -/
theorem timebaseAndTimers : Obligations.TimebaseAndTimers :=
  ⟨setTimeDoes, gptpSyncDoes, ppsEdgeDoes, ppsEdgeRejectedDoes, syncTimeoutDoes, ppsOutRiseDoes, ppsOutFallDoes, timerPeriodDoes,
    timerCompareDoes, timerCaptureDoes, captureReadDoes, timerEnableWriteDoes, timerEnableWriteOffDoes, timerEnableWriteWaitsDoes,
    periodWriteDoes, startMaskWriteDoes, startMaskWriteLateDoes, groupStartDoes⟩

end Sys2Proof.Machine
end

section
/-!
Frames that leave and frames that come (O45, R560 to R564): what a frame that an uplink takes changes, how a received frame is counted, and
the answers to ARP, echo and neighbour solicitation.
-/
-- One proof at a time: the tasks of many short proofs wait on one another, and each holds a stack of its own.
set_option Elab.async false
namespace Sys2Proof.Machine

variable {d e : Dev}

/-! ### Frames that leave (R564, R571) -/

theorem sendFrame_of_room {u q : Nat} (hlink : nGet d (upl_LINK u) = 1) (hroom : (queueOf d u q).length < queueDepth q) (mark : TxMark)
    (f : List Byte) : sendFrame d u q mark f =
      { d with net.queues := mapPut d.net.queues (4 * u + q) (queueOf d u q ++ [{ octets := f ++ zeros (60 - f.length), mark := mark }]) } :=
  if_neg (by omega)

theorem queueOf_sendFrame {u q : Nat} (hlink : nGet d (upl_LINK u) = 1) (hroom : (queueOf d u q).length < queueDepth q) (mark : TxMark)
    (f : List Byte) : queueOf (sendFrame d u q mark f) u q = queueOf d u q ++ [{ octets := f ++ zeros (60 - f.length), mark := mark }] := by
  rw [sendFrame_of_room hlink hroom]
  exact mapGet_mapPut_same ..

/-- A frame sent counts at most as discarded (R564). -/
theorem keeps_sendFrame (d : Dev) (u q : Nat) (mark : TxMark) (f : List Byte) :
    Keeps (fun r => refMember r ≠ 21) (fun _ => True) d (sendFrame d u q mark f) :=
  Keeps.ite (fun _ => (Keeps.refl d).nInc (by simp [upl_TX_DISCARDS])) fun _ => (Keeps.refl d).same rfl rfl rfl

theorem keeps_sendIp (d : Dev) (u : Nat) (dst : List Byte) (typ : Nat) (body : List Byte) :
    Keeps (fun r => refMember r ≠ 21) (fun _ => True) d (sendIp d u dst typ body) :=
  Keeps.whenever fun _ => keeps_sendFrame d u 3 .plain _

theorem queueOf_congr (h : e.net = d.net) (u q : Nat) : queueOf e u q = queueOf d u q := by rw [queueOf, queueOf, h]

/-! ### Frames that come (R560 to R562) -/

/-- An uplink that has counted a frame it took (R560). -/
def rxCounted (d : Dev) (u : Nat) : Dev := nSet d (upl_RX_FRAMES u) (satAdd 64 (nGet d (upl_RX_FRAMES u)) 1)

theorem ethReceive_of_taken {u : Nat} {f : List Byte} (h : FrameTaken d u f) : ethReceive d u true f = frameIn (rxCounted d u) u f := by
  obtain ⟨hruns, hlink, hlength, hmtu, hmac, htype, hvlan, hwhole⟩ := h
  have hip : ¬ (((etherBody f).1 == 0x0800 || (etherBody f).1 == 0x0806 || (etherBody f).1 == 0x86DD) = true ∧
      frameVlan f ≠ nGet d (upl_VLAN_ID u)) := by
    rintro ⟨hip, hother⟩
    rcases hvlan with h | h | h
    · simp [h] at hip
    · simp [h] at hip
    · exact hother h
  unfold ethReceive
  dsimp only
  rw [if_neg (by simp [hruns, hlink]), if_neg (by simp; omega), if_neg (by omega), if_neg (by simp only [hmac, htype]; simpa using hip),
    if_neg (by simp [hwhole])]
  rfl

theorem doUplinkFrameReceived_of_bad {u : Fin 2} {fcsOk : Bool} {f : List Byte} (hruns : networkRuns d = true)
    (hlink : nGet d (upl_LINK u.val) = 1) (hbad : fcsOk = false ∨ f.length < 60) :
    doUplinkFrameReceived u fcsOk f d = nInc d (upl_RX_ERRORS u.val) := by
  unfold doUplinkFrameReceived ethReceive
  dsimp only
  rw [if_neg (by simp [hruns, hlink]), if_pos (hbad.imp_right (by omega))]

theorem uplinkFrameReceivedDoes : UplinkFrameReceivedDoes := by
  rintro s n fcsOk f ⟨hruns, hlink, hbad⟩
  exact completes_of_dev rfl (doUplinkFrameReceived_of_bad hruns hlink hbad) (nGet_nInc_same _ _)

theorem uplinkFrameReceivedOversizeDoes : UplinkFrameReceivedOversizeDoes := by
  rintro s n f ⟨hruns, hlink, hlength, hmtu⟩
  have hexec : doUplinkFrameReceived n true f s.dev = nInc s.dev (upl_RX_OVERSIZE n.val) := by
    unfold doUplinkFrameReceived ethReceive
    dsimp only
    rw [if_neg (by simp [hruns, hlink]), if_neg (by simp; omega), if_pos hmtu]
  exact completes_of_dev rfl hexec (nGet_nInc_same _ _)

theorem uplinkFrameReceivedDroppedDoes : UplinkFrameReceivedDroppedDoes := by
  rintro s n f ⟨hruns, hlink, hlength, hmtu, hother⟩
  have hexec : doUplinkFrameReceived n true f s.dev = nInc s.dev (upl_RX_DROPPED n.val) := by
    unfold doUplinkFrameReceived ethReceive
    dsimp only
    rw [if_neg (by simp [hruns, hlink]), if_neg (by simp; omega), if_neg (by omega), if_pos (hother.imp_right .inl)]
  exact completes_of_dev rfl hexec (nGet_nInc_same _ _)

/-! ### What counting a frame leaves (R560) -/

theorem mGet_rxCounted (d : Dev) (u : Nat) {q : Ref} (hq : refMember q ≠ 15) : mGet (rxCounted d u) q = mGet d q :=
  mGet_mSet_other _ _ fun h => hq (by simp [h, upl_RX_FRAMES])

theorem nGet_rxCounted (d : Dev) (u : Nat) {q : Ref} (hq : refMember q ≠ 15) : nGet (rxCounted d u) q = nGet d q := by
  rw [nGet, nGet, mGet_rxCounted d u hq]

theorem bGet_rxCounted (d : Dev) (u : Nat) {q : Ref} (hq : refMember q ≠ 15) : bGet (rxCounted d u) q = bGet d q := by
  rw [bGet, bGet, mGet_rxCounted d u hq]

theorem rxCounted_net (d : Dev) (u : Nat) : (rxCounted d u).net = d.net := nSet_net _ _ _

theorem macOf_rxCounted (d : Dev) (u v : Nat) : macOf (rxCounted d u) v = macOf d v := by
  rw [macOf, macOf, nGet_rxCounted _ _ (by decide), bGet_rxCounted _ _ (by decide), bGet_rxCounted _ _ (by decide)]

theorem ip6Of_rxCounted (d : Dev) (u v k : Nat) : ip6Of (rxCounted d u) v k = ip6Of d v k := by
  rw [ip6Of, ip6Of, linkLocal, linkLocal, macOf_rxCounted, bGet_rxCounted _ _ (by decide)]

theorem nGet_rxCounted_IPV4_ADDR (d : Dev) (u : Nat) : nGet (rxCounted d u) addr_IPV4_ADDR = nGet d addr_IPV4_ADDR :=
  nGet_rxCounted _ _ (by decide)

/-- An uplink with its own of the IPv6 addresses in use (R562). -/
theorem any_usable_rxCounted (d : Dev) (u : Nat) (a : List Byte) :
    ((List.range 2).filter (fun k => (rxCounted d u).net.usable.contains (4 * u + k))).any (fun k => ip6Of (rxCounted d u) u k == a) =
      (List.range 2).any (fun k => d.net.usable.contains (4 * u + k) && ip6Of d u k == a) := by
  rw [List.any_filter, rxCounted_net]
  exact congrArg (List.any _) (funext fun k => by rw [ip6Of_rxCounted])

/-- The answer to a frame that an uplink has counted waits in its best-effort queue (R562, R564). -/
theorem repliesEth_of_sendIp {s : State} {u : Nat} {f dst body : List Byte} (h : FrameTaken s.dev u f) (hsends : sendsIp s.dev u = true)
    (hroom : (queueOf s.dev u 3).length < 64) (typ : Nat) :
    RepliesEth s (withDev s (sendIp (rxCounted s.dev u) u dst typ body)) u
      (ethHead s.dev u dst (nGet s.dev (upl_VLAN_ID u)) (nGet s.dev (upl_PCP u)) typ ++ body) := by
  have hsends' : sendsIp (rxCounted s.dev u) u = true := by
    rw [sendsIp, nGet_rxCounted _ _ (by decide), nGet_rxCounted _ _ (by decide)]
    exact hsends
  have hlink : nGet (rxCounted s.dev u) (upl_LINK u) = 1 := (nGet_rxCounted _ _ (by simp [upl_LINK])).trans h.2.1
  have hqueue : queueOf (rxCounted s.dev u) u 3 = queueOf s.dev u 3 := queueOf_congr (rxCounted_net _ _) u 3
  have hhead (vlan pcp : Nat) : ethHead (rxCounted s.dev u) u dst vlan pcp typ = ethHead s.dev u dst vlan pcp typ := by
    rw [ethHead, ethHead, macOf_rxCounted]
  refine ⟨?_, ((keeps_sendIp _ _ _ _ _).nGet (by simp [upl_RX_FRAMES])).trans (nGet_nSet_same _ _ _)⟩
  rw [withDev_dev, sendIp, if_pos hsends', sendEth, queueOf_sendFrame hlink (by rw [hqueue]; exact hroom), hqueue, hhead,
    nGet_rxCounted _ _ (by simp [upl_VLAN_ID]), nGet_rxCounted _ _ (by simp [upl_PCP])]

/-! ### ARP, echo and neighbour solicitation (R562) -/

theorem arpRequestDoes : ArpRequestDoes := by
  rintro s n f p ⟨htaken, hbody, hup, hop, haddress, hsends, hroom⟩
  have hexec : doArpRequest n f s.dev = sendIp (rxCounted s.dev n.val) n.val (sliceOf p 8 6) 0x0806
      (octets [0, 1, 8, 0, 6, 4, 0, 2] ++ macOf s.dev n.val ++ beBytes 4 (nGet s.dev addr_IPV4_ADDR) ++ sliceOf p 8 6 ++
        beBytes 4 (ofBe (sliceOf p 14 4))) := by
    have hip4 : ip4Up (rxCounted s.dev n.val) = true := by simpa [ip4Up, nGet_rxCounted_IPV4_ADDR] using hup
    unfold doArpRequest
    rw [if_pos (by rw [hbody]), ethReceive_of_taken htaken, frameIn, hbody]
    dsimp only
    rw [if_pos rfl, arpIn, if_pos ⟨hip4, hop, haddress.trans (nGet_rxCounted_IPV4_ADDR _ _).symm⟩, arpBody, macOf_rxCounted,
      nGet_rxCounted_IPV4_ADDR]
    rfl
  refine completes_of_dev rfl hexec ?_
  have hreply := repliesEth_of_sendIp (dst := sliceOf p 8 6) (body := octets [0, 1, 8, 0, 6, 4, 0, 2] ++ macOf s.dev n.val ++
    beBytes 4 (nGet s.dev addr_IPV4_ADDR) ++ sliceOf p 8 6 ++ beBytes 4 (ofBe (sliceOf p 14 4))) htaken hsends hroom 0x0806
  simpa only [List.append_assoc] using hreply

theorem icmpEchoDoes : IcmpEchoDoes := by
  rintro s n f p body ⟨htaken, hbody, hup, haddress, hproto, hslice, hecho, hsends, hroom⟩
  have hexec : doIcmpEcho n f s.dev = sendIp (rxCounted s.dev n.val) n.val (sliceOf f 6 6) 0x0800
      (ip4 (nGet s.dev addr_IPV4_ADDR) (ofBe (sliceOf p 12 4)) 1
        (octets [0, 0] ++ inetCheck (octets [0, 0, 0, 0] ++ body.drop 4) ++ body.drop 4)) := by
    have hip4 : ip4Up (rxCounted s.dev n.val) = true := by simpa [ip4Up, nGet_rxCounted_IPV4_ADDR] using hup
    have hmine : ¬ (ip4Up (rxCounted s.dev n.val) = false ∨ ofBe (sliceOf p 16 4) ≠ nGet (rxCounted s.dev n.val) addr_IPV4_ADDR) := by
      rw [nGet_rxCounted_IPV4_ADDR, hip4]
      simpa using haddress
    unfold doIcmpEcho
    dsimp only
    rw [hbody]
    rw [if_pos (.inl ⟨rfl, hproto⟩), ethReceive_of_taken htaken, frameIn, hbody]
    dsimp only
    rw [if_neg (by decide), if_pos rfl, ip4In]
    dsimp only
    rw [← hslice, if_neg hmine, if_pos ⟨hproto, hecho⟩, nGet_rxCounted_IPV4_ADDR]
    rfl
  exact completes_of_dev rfl hexec (repliesEth_of_sendIp htaken hsends hroom 0x0800)

/-- A slice is the octets from its offset, each 0 where there is none. -/
theorem sliceOf_eq_map (p : List Byte) (o n : Nat) : sliceOf p o n = (List.range n).map (fun j => p.getD (o + j) 0) := by
  refine List.ext_getElem (by simp [sliceOf, zeros]) fun j _ hj => ?_
  have hn : j < n := by simpa using hj
  by_cases h : o + j < p.length
  · simp [sliceOf, h, hn, show j < p.length - o by omega]
  · simp [sliceOf, zeros, List.getElem_append, h, show ¬ j < p.length - o by omega]

/-- A slice of a slice that holds it. -/
theorem sliceOf_sliceOf (p : List Byte) {o n i k : Nat} (h : i + k ≤ n) : sliceOf (sliceOf p o n) i k = sliceOf p (o + i) k := by
  simp only [sliceOf_eq_map]
  refine List.map_congr_left fun j hj => ?_
  have hlt : i + j < n := by
    have := List.mem_range.mp hj
    omega
  simp [hlt, Nat.add_assoc]

theorem icmpEchoSixDoes : IcmpEchoSixDoes := by
  rintro s n f p a ⟨htaken, hbody, hmine, rfl, hnext, hlength, hecho, hsends, hroom⟩
  have htype : ofBe (sliceOf (sliceOf p 40 (ofBe (sliceOf p 4 2))) 0 1) = 128 := by rw [sliceOf_sliceOf p hlength, hecho]
  have hexec : doIcmpEcho n f s.dev = sendIp (rxCounted s.dev n.val) n.val (sliceOf f 6 6) 0x86DD
      (icmp6 (sliceOf p 24 16) (sliceOf p 8 16) (octets [129, 0, 0, 0] ++ (sliceOf p 40 (ofBe (sliceOf p 4 2))).drop 4)) := by
    unfold doIcmpEcho
    dsimp only
    rw [hbody]
    rw [if_pos (.inr ⟨rfl, hnext, hecho⟩), ethReceive_of_taken htaken, frameIn, hbody]
    dsimp only
    rw [if_neg (by decide), if_neg (by decide), if_pos rfl, ip6In]
    dsimp only
    rw [htype, if_neg (by simp), any_usable_rxCounted, if_neg (by rw [hmine]; decide), if_pos ⟨hnext, rfl⟩]
  exact completes_of_dev rfl hexec (repliesEth_of_sendIp htaken hsends hroom 0x86DD)

theorem neighbourSolicitationDoes : NeighbourSolicitationDoes := by
  rintro s n f p t ⟨htaken, hbody, hnext, hlength, hsolicits, rfl, hmine, hfrom, hsends, hroom⟩
  have htype : ofBe (sliceOf (sliceOf p 40 (ofBe (sliceOf p 4 2))) 0 1) = 135 := by rw [sliceOf_sliceOf p (by omega), hsolicits]
  have htarget : sliceOf (sliceOf p 40 (ofBe (sliceOf p 4 2))) 8 16 = sliceOf p 48 16 := sliceOf_sliceOf p hlength
  have hexec : doNeighbourSolicitation n f s.dev = sendIp (rxCounted s.dev n.val) n.val (sliceOf f 6 6) 0x86DD
      (icmp6 (sliceOf p 48 16) (sliceOf p 8 16) (octets [136, 0, 0, 0, 0x60, 0, 0, 0] ++ sliceOf p 48 16 ++ octets [2, 1] ++
        macOf s.dev n.val)) := by
    unfold doNeighbourSolicitation
    dsimp only
    rw [hbody]
    rw [if_pos ⟨rfl, hnext, hsolicits⟩, ethReceive_of_taken htaken, frameIn, hbody]
    dsimp only
    rw [if_neg (by decide), if_neg (by decide), if_pos rfl, ip6In]
    dsimp only
    rw [htype, if_pos ⟨hnext, rfl⟩, htarget, any_usable_rxCounted, if_pos hmine, if_neg hfrom, advert, macOf_rxCounted]
  exact completes_of_dev rfl hexec (repliesEth_of_sendIp htaken hsends hroom 0x86DD)

end Sys2Proof.Machine
end

section
/-!
Uplinks that come up and fall, duplicate address detection, received gPTP messages, IEEE 1722 streams, REDUNDANCY and gPTP transmission (O45,
R559, R562, R566 to R574).
-/
-- One proof at a time: the tasks of many short proofs wait on one another, and each holds a stack of its own.
set_option Elab.async false
namespace Sys2Proof.Machine

variable {d e : Dev}

/-! ### LINK of an uplink (R559, R562, R572) -/

/-- LINK, SPEED or LINK_DOWNS of an uplink. -/
def LinkMember (q : Ref) : Prop := refClass q = 0x48 ∧ refInst q < 8 ∧ refMember q ∈ [2, 3, 20]

theorem linkMember_upl {u m : Nat} (hu : u < 8) (hm : m ∈ [2, 3, 20]) : LinkMember (mref 0x48 u m) := by
  have hm' : m % 256 = m := by
    revert hm
    simp only [List.mem_cons, List.not_mem_nil, or_false]
    omega
  simpa [LinkMember, hm', show u % 65536 < 8 by omega] using hm

theorem not_linkMember_of_member {c i m : Nat} (hm : m % 256 ∉ [2, 3, 20]) : ¬ LinkMember (mref c i m) :=
  fun h => hm (by simpa using h.2.2)

theorem not_linkMember_addr (m : Nat) : ¬ LinkMember (mref 0x48 8 m) := fun h => by simp [LinkMember] at h

/-- What leaves every LINK, SPEED and LINK_DOWNS and the uplinks that check their addresses. -/
structure KeepsLinks (d e : Dev) : Prop where
  links : Keeps LinkMember (fun _ => False) d e
  checking : e.net.checking = d.net.checking

theorem KeepsLinks.refl (d : Dev) : KeepsLinks d d := ⟨Keeps.refl d, rfl⟩

theorem KeepsLinks.trans {f : Dev} (h : KeepsLinks d e) (h' : KeepsLinks e f) : KeepsLinks d f :=
  ⟨h.links.trans h'.links, h'.checking.trans h.checking⟩

theorem KeepsLinks.whenever {c : Prop} [Decidable c] (h : KeepsLinks d e) : KeepsLinks d (if c then e else d) := by
  split
  · exact h
  · exact .refl d

theorem keepsLinks_nSet (d : Dev) {r : Ref} (hr : ¬ LinkMember r) (n : Nat) : KeepsLinks d (nSet d r n) :=
  ⟨(Keeps.refl d).nSet hr n, by rw [nSet_net]⟩

theorem keepsLinks_sendFrame (d : Dev) (u q : Nat) (mark : TxMark) (f : List Byte) : KeepsLinks d (sendFrame d u q mark f) := by
  unfold sendFrame
  split
  · exact keepsLinks_nSet d (not_linkMember_of_member (by decide)) _
  · exact ⟨(Keeps.refl d).same rfl rfl rfl, rfl⟩

theorem keepsLinks_sendIp (d : Dev) (u : Nat) (dst : List Byte) (typ : Nat) (body : List Byte) : KeepsLinks d (sendIp d u dst typ body) :=
  (keepsLinks_sendFrame d u 3 .plain _).whenever

theorem keepsLinks_firstActive (d : Dev) (u : Nat) : KeepsLinks d (firstActive d u) := by
  unfold firstActive
  have hfirst (k : Option Nat) (v : Nat) : KeepsLinks d (nSet { d with net.firstUp := k } addr_ACTIVE v) :=
    by
    have hset : KeepsLinks d { d with net.firstUp := k } := ⟨(Keeps.refl d).same rfl rfl rfl, rfl⟩
    exact hset.trans (keepsLinks_nSet _ (r := addr_ACTIVE) (not_linkMember_addr 2) v)
  split
  · exact .refl d
  · split
    · exact hfirst _ _
    · split
      · exact hfirst _ _
      · exact .refl d

theorem keepsLinks_addrState (d : Dev) : KeepsLinks d (addrState d) := keepsLinks_nSet d (not_linkMember_addr 8) _

theorem keepsLinks_updSlopes (d : Dev) : KeepsLinks d (updSlopes d) := by
  refine ⟨(Keeps.refl d).nSets ?_, congrArg Net.checking (MembersOnly.nSets d _).net⟩
  simp only [List.forall_mem_cons, List.not_mem_nil, false_imp_iff, implies_true, and_true]
  exact ⟨not_linkMember_of_member (by decide), not_linkMember_of_member (by decide), not_linkMember_of_member (by decide),
    not_linkMember_of_member (by decide)⟩

/-- The solicitations of duplicate address detection go out. -/
def probes (d : Dev) (u : Nat) : Dev := (List.range 2).foldl (fun d k => if hasIp6 d u k then probe d u k else d) d

theorem keepsLinks_probes (d : Dev) (u : Nat) : KeepsLinks d (probes d u) :=
  List.foldlRecOn _ _ (.refl d) fun e h _ _ => h.trans (keepsLinks_sendIp e u _ _ _).whenever

/-- An uplink whose link has come up, before its addresses are checked (R559). -/
def linkRaised (d : Dev) (u speed : Nat) : Dev :=
  let d := arm (nSet d (upl_SPEED u) speed) tkUplink u (ms 1)
  nSet { d with net.checking := d.net.checking ++ [u], net.heldDown := d.net.heldDown.filter (· ≠ u) } (upl_LINK u) 1

theorem linkRaised_leaves (d : Dev) (u speed : Nat) : nGet (linkRaised d u speed) (upl_LINK u) = 1 ∧
    nGet (linkRaised d u speed) (upl_SPEED u) = speed ∧ (linkRaised d u speed).net.checking = d.net.checking ++ [u] := by
  unfold linkRaised
  refine ⟨nGet_nSet_same _ _ _, (nGet_nSet_other _ _ (mref_ne_of_member (by decide))).trans ?_, ?_⟩
  · exact (nGet_congr rfl _).trans (nGet_nSet_same d _ _)
  · rw [nSet_net]
    exact congrArg (· ++ [u]) (congrArg Net.checking (nSet_net d _ _))

theorem doUplinkLinkUp_of_rising {s : State} {n : Fin 2} {r : Fin 6} (h : WhenUplinkLinkUp s n r) :
    doUplinkLinkUp n r s.dev = probes (updSlopes (addrState (firstActive
      (linkRaised s.dev n.val (if nGet s.dev (upl_MODE n.val) = 1 then 4 else 1 + r.val)) n.val))) n.val := by
  obtain ⟨hmode, hruns, hlink, hrate, hsettled⟩ := h
  have hready : ¬ (armed s.dev tkUplink n.val = true ∧ due s.dev tkUplink n.val = false) := fun h => by simp [hsettled h.1] at h
  unfold doUplinkLinkUp probes linkRaised
  dsimp only
  rw [if_neg (by simp only [not_or]; exact ⟨by omega, by simp [hruns], hlink, hready⟩),
    if_neg (by rintro ⟨hm, hr⟩; exact absurd (hrate hm) (by omega))]

theorem uplinkLinkUpDoes : UplinkLinkUpDoes := by
  intro s n r h
  have hexec := doUplinkLinkUp_of_rising h
  obtain ⟨hup, hspeed, hchecking⟩ := linkRaised_leaves s.dev n.val (if nGet s.dev (upl_MODE n.val) = 1 then 4 else 1 + r.val)
  generalize linkRaised s.dev n.val _ = m at hexec hup hspeed hchecking
  have hkept := (((keepsLinks_firstActive m n.val).trans (keepsLinks_addrState _)).trans (keepsLinks_updSlopes _)).trans
    (keepsLinks_probes _ n.val)
  have hn : n.val < 8 := by omega
  refine completes_of_dev rfl hexec ?_
  rw [withDev_dev]
  exact ⟨(hkept.links.nGet (linkMember_upl hn (by decide))).trans hup, hkept.checking.trans hchecking,
    (hkept.links.nGet (linkMember_upl hn (by decide))).trans hspeed⟩

/-! ### A link that falls (R559, R572) -/

/-- A failover before FAILOVER is raised (R572). -/
def failoverSent (d : Dev) (u : Nat) : Dev :=
  let d := if nGet d addr_IPV4_ADDR = 0 then d
    else sendIp d u (ffs 6) 0x0806 (arpBody d u 1 (zeros 6) (nGet d addr_IPV4_ADDR))
  (List.range 2).foldl (fun d k =>
    if hasIp6 d u k && !d.net.conflict.contains (4 * u + k) then advert d u (ip6Of d u k) 0x20 (mcast6 allNodes) allNodes else d) d

/-- The announcements of a failover count at most as discarded. -/
theorem keeps_failoverSent (d : Dev) (u : Nat) : Keeps (fun r => refMember r ≠ 21) (fun _ => True) d (failoverSent d u) :=
  (Keeps.whenNot fun _ => keeps_sendIp d u _ _ _).trans (Keeps.foldl (fun e _ _ => Keeps.whenever fun _ => keeps_sendIp e u _ _ _) _)

theorem failover_eq (d : Dev) (u : Nat) :
    failover d u = raise (failoverSent (updSlopes (nInc (nSet d addr_ACTIVE u) addr_FAILOVERS)) u) 848 := rfl

/-- The slopes of the uplinks' queues are members 13 and 14. -/
theorem keeps_updSlopes (d : Dev) : Keeps (fun q => refMember q ∉ [13, 14]) (fun _ => True) d (updSlopes d) := by
  refine (Keeps.refl d).nSets ?_
  simp only [List.forall_mem_cons, List.not_mem_nil, false_imp_iff, implies_true, and_true]
  simp [upl_IDLE_SLOPE_A, upl_IDLE_SLOPE_B]

theorem quietMember_net {i m : Nat} : QuietMember (mref 0x48 i m) := by simp [QuietMember]

/-- A failover makes the other uplink active, counts, and raises FAILOVER (R572). -/
theorem failover_leaves (d : Dev) (u : Nat) : nGet (failover d u) addr_ACTIVE = u ∧
    nGet (failover d u) addr_FAILOVERS = satAdd 32 (nGet d addr_FAILOVERS) 1 ∧
    nGet (failover d u) (ev_RAISED 848) = satAdd 32 (nGet d (ev_RAISED 848)) 1 ∧
    Keeps LinkMember (fun _ => False) d (failover d u) := by
  have hmoved : Keeps (fun q => refMember q ∉ [13, 14, 21]) (fun _ => False) (nInc (nSet d addr_ACTIVE u) addr_FAILOVERS)
      (failoverSent (updSlopes (nInc (nSet d addr_ACTIVE u) addr_FAILOVERS)) u) :=
    ((keeps_updSlopes _).mono (fun q hq => by simp at hq ⊢; omega) fun _ => False.elim).trans
      ((keeps_failoverSent _ u).mono (fun q hq => by simp at hq ⊢; omega) fun _ => False.elim)
  have hraised := keepsQuiet_raiseBy (failoverSent (updSlopes (nInc (nSet d addr_ACTIVE u) addr_FAILOVERS)) u) (n := 848) (by decide) 1
  rw [failover_eq]
  refine ⟨?_, ?_, ?_, ?_⟩
  · exact (hraised.nGet quietMember_net).trans ((hmoved.nGet (by decide)).trans
      ((nGet_nSet_other _ _ (by decide)).trans (nGet_nSet_same _ _ _)))
  · exact (hraised.nGet quietMember_net).trans ((hmoved.nGet (by decide)).trans
      ((nGet_nInc_same _ _).trans (congrArg (satAdd 32 · 1) (nGet_nSet_other _ _ (by decide)))))
  · refine (nGet_raise_RAISED _ _).trans (congrArg (satAdd 32 · 1) ((hmoved.nGet (by decide)).trans ?_))
    exact (nGet_nInc_other _ (by decide)).trans (nGet_nSet_other _ _ (by decide))
  · have hcounted : Keeps LinkMember (fun _ => False) d (nInc (nSet d addr_ACTIVE u) addr_FAILOVERS) :=
      ((Keeps.refl d).nSet (not_linkMember_addr 2) u).nInc (not_linkMember_addr 3)
    refine hcounted.trans ((hmoved.mono (fun q hq => ?_) fun _ => False.elim).trans (hraised.mono (fun q hq => ?_) fun _ => False.elim))
    · obtain ⟨-, -, hm⟩ := hq
      simp at hm ⊢
      omega
    · simp [QuietMember, hq.1]

/-- An uplink whose link has fallen, before ACTIVE moves (R559, R564). -/
def linkLost (d : Dev) (u : Nat) : Dev :=
  let d := pcsRestart (dropQueues (nInc (nSets d [(upl_LINK u, 0), (upl_SPEED u, 0)]) (upl_LINK_DOWNS u)) u) u
  let own := fun (k : Nat) => decide (k / 4 = u)
  addrState (disarm { d with net.usable := d.net.usable.filter (fun k => !own k), net.conflict := d.net.conflict.filter (fun k => !own k),
                             net.checking := d.net.checking.filter (· ≠ u), net.gptp := mapErase d.net.gptp u } tkSyncSend u)

theorem linkDown_eq {u : Nat} (h : nGet d (upl_LINK u) ≠ 0) : linkDown d u =
    if nGet (linkLost d u) addr_REDUNDANCY = 1 ∧ nGet (linkLost d u) addr_ACTIVE = u then
      if nGet (linkLost d u) (upl_LINK (1 - u)) = 1 then failover (linkLost d u) (1 - u) else updSlopes (nSet (linkLost d u) addr_ACTIVE 0xFF)
    else linkLost d u := if_neg h

theorem Keeps.setNet {M : Ref → Prop} {T : Nat → Prop} (h : Keeps M T d e) (n : Net) : Keeps M T d { e with net := n } := h.same rfl rfl rfl

/-- What follows the change of LINK, SPEED and LINK_DOWNS counts discarded frames and gives ADDR_STATE. -/
theorem keeps_linkLost (d : Dev) (u : Nat) : Keeps (fun q => refMember q ≠ 21 ∧ q ≠ addr_ADDR_STATE) (fun _ => False)
    (nInc (nSets d [(upl_LINK u, 0), (upl_SPEED u, 0)]) (upl_LINK_DOWNS u)) (linkLost d u) := by
  unfold linkLost
  generalize nInc (nSets d [(upl_LINK u, 0), (upl_SPEED u, 0)]) (upl_LINK_DOWNS u) = m
  have hdropped : Keeps (fun q => refMember q ≠ 21 ∧ q ≠ addr_ADDR_STATE) (fun _ => False) m (dropQueues m u) := by
    unfold dropQueues nAdd
    exact Keeps.nSet (Keeps.setNet (Keeps.refl m) _) (by simp [upl_TX_DISCARDS]) _
  have hstarted := Keeps.arm (kind := tkUplink) (i := u) hdropped id (ms 10)
  dsimp only
  exact Keeps.nSet (Keeps.disarm (Keeps.setNet hstarted _) id) (fun h => h.2 rfl) _

theorem linkLost_leaves (d : Dev) (u : Nat) : nGet (linkLost d u) (upl_LINK u) = 0 ∧ nGet (linkLost d u) (upl_SPEED u) = 0 ∧
    nGet (linkLost d u) (upl_LINK_DOWNS u) = satAdd 32 (nGet d (upl_LINK_DOWNS u)) 1 ∧
    ∀ q, q ≠ upl_LINK u → q ≠ upl_SPEED u → q ≠ upl_LINK_DOWNS u → refMember q ≠ 21 → q ≠ addr_ADDR_STATE →
      nGet (linkLost d u) q = nGet d q := by
  have hkept := keeps_linkLost d u
  have hmember {m : Nat} (hm : m % 256 ≠ 21 ∧ m % 256 ≠ 8) : refMember (mref 0x48 u m) ≠ 21 ∧ mref 0x48 u m ≠ addr_ADDR_STATE :=
    ⟨by simpa using hm.1, mref_ne_of_member hm.2⟩
  have hne {m k : Nat} (h : m % 256 ≠ k % 256) : mref 0x48 u m ≠ mref 0x48 u k := mref_ne_of_member h
  refine ⟨?_, ?_, ?_, fun q hlink hspeed hdowns hsent haddr => ?_⟩
  · exact (hkept.nGet (hmember (by decide))).trans ((nGet_nInc_other _ (hne (by decide))).trans
      ((nGet_nSet_other _ _ (hne (by decide))).trans (nGet_nSet_same _ _ _)))
  · exact (hkept.nGet (hmember (by decide))).trans ((nGet_nInc_other _ (hne (by decide))).trans (nGet_nSet_same _ _ _))
  · exact (hkept.nGet (hmember (by decide))).trans ((nGet_nInc_same _ _).trans (congrArg (satAdd 32 · 1)
      ((nGet_nSet_other _ _ (hne (by decide))).trans (nGet_nSet_other _ _ (hne (by decide))))))
  · exact (hkept.nGet ⟨hsent, haddr⟩).trans ((nGet_nInc_other _ hdowns).trans
      ((nGet_nSet_other _ _ hspeed).trans (nGet_nSet_other _ _ hlink)))

/-- A link's fall ends with ACTIVE moved, cleared or as it was, and leaves LINK, SPEED and LINK_DOWNS (R572). -/
theorem keeps_linkDown {u : Nat} (h : nGet d (upl_LINK u) ≠ 0) : Keeps LinkMember (fun _ => False) (linkLost d u) (linkDown d u) := by
  rw [linkDown_eq h]
  refine Keeps.whenever fun _ => Keeps.ite (fun _ => (failover_leaves _ _).2.2.2) fun _ => ?_
  exact ((Keeps.refl _).nSet (not_linkMember_addr 2) _).trans (keepsLinks_updSlopes _).links

theorem uplinkLinkDownDoes : UplinkLinkDownDoes := by
  rintro s n ⟨hdue, hlink⟩
  have hn : n.val < 8 := by omega
  have hexec : doUplinkLinkDown n s.dev = linkDown s.dev n.val := if_pos hdue
  obtain ⟨hfallen, hspeed, hdowns, hother⟩ := linkLost_leaves s.dev n.val
  have hkept := keeps_linkDown hlink
  have haddr {m : Nat} (hm : m % 256 ≠ 21 ∧ m % 256 ≠ 8) : nGet (linkLost s.dev n.val) (mref 0x48 8 m) = nGet s.dev (mref 0x48 8 m) := by
    have hinst (k : Nat) : mref 0x48 8 m ≠ mref 0x48 n.val k := mref_ne_of_inst (by omega)
    exact hother _ (hinst 2) (hinst 3) (hinst 20) (by simpa using hm.1) (mref_ne_of_member hm.2)
  refine completes_of_dev rfl hexec ⟨(hkept.nGet (linkMember_upl hn (by decide))).trans hfallen,
    (hkept.nGet (linkMember_upl hn (by decide))).trans hspeed, (hkept.nGet (linkMember_upl hn (by decide))).trans hdowns, ?_⟩
  rintro ⟨hredundancy, hactive⟩
  have hpartner : nGet (linkLost s.dev n.val) (upl_LINK (1 - n.val)) = nGet s.dev (upl_LINK (1 - n.val)) :=
    hother _ (mref_ne_of_inst (by omega)) (mref_ne_of_member (by decide)) (mref_ne_of_member (by decide)) (by simp [upl_LINK])
      (mref_ne_of_member (by decide))
  have hmoves : nGet (linkLost s.dev n.val) addr_REDUNDANCY = 1 ∧ nGet (linkLost s.dev n.val) addr_ACTIVE = n.val :=
    ⟨(haddr (by decide)).trans hredundancy, (haddr (by decide)).trans hactive⟩
  rw [withDev_dev, linkDown_eq hlink, if_pos hmoves, hpartner]
  split
  · obtain ⟨hmoved, hfailovers, hraised, -⟩ := failover_leaves (linkLost s.dev n.val) (1 - n.val)
    refine ⟨hmoved, hfailovers.trans (congrArg (satAdd 32 · 1) (haddr (by decide))), hraised.trans (congrArg (satAdd 32 · 1) ?_)⟩
    have hclass (i m : Nat) : ev_RAISED 848 ≠ mref 0x48 i m := fun h => absurd (congrArg refClass h) (by simp [ev_RAISED])
    exact hother _ (hclass _ _) (hclass _ _) (hclass _ _) (by decide) (hclass _ _)
  · exact ((keeps_updSlopes _).nGet (by decide)).trans (nGet_nSet_same _ _ _)

/-! ### Duplicate address detection (R562) -/

theorem duplicateAddressDetectionDoneDoes : DuplicateAddressDetectionDoneDoes := by
  intro s n k hchecking
  have hexec : ∃ m : Dev, doDuplicateAddressDetectionDone n k s.dev = addrState m ∧
      m.net.checking = s.dev.net.checking.filter (· ≠ n.val) ∧
      m.net.usable = s.dev.net.usable ++ (((List.range 2).filter (hasIp6 s.dev n.val)).filter (fun i => !bitOf k.val i)).map (4 * n.val + ·) ∧
      m.net.conflict = s.dev.net.conflict ++ (((List.range 2).filter (hasIp6 s.dev n.val)).filter (fun i => bitOf k.val i)).map (4 * n.val + ·) :=
    ⟨_, if_neg (by rw [hchecking]; decide), rfl, rfl, rfl⟩
  obtain ⟨m, hexec, hfiltered, husable, hconflict⟩ := hexec
  refine completes_of_dev rfl hexec ?_
  rw [withDev_dev, addrState, nSet_net, hfiltered, husable, hconflict]
  refine ⟨by simp, List.all_eq_true.mpr fun i hi => ?_⟩
  cases hhas : hasIp6 s.dev n.val i
  · rfl
  · cases hbit : bitOf k.val i <;> simp_all

/-! ### gPTP messages (R569, R570) -/

/-- What leaves the members of the uplinks and streams. -/
abbrev KeepsNet (d e : Dev) : Prop := Keeps (fun q => refClass q = 0x48) (fun _ => False) d e

theorem KeepsOutsideLog.net (h : KeepsOutsideLog d e) : KeepsNet d e :=
  h.mono (fun q hq => by simp [OutsideLog, QuietMember, hq]) fun _ => False.elim

theorem keepsNet_timebaseStep (d : Dev) (delta : Int) (cause : Nat) : KeepsNet d (timebaseStep d delta cause) := by
  have hlogged : KeepsNet d (stepLogged d delta cause) := by
    have hstepped : KeepsNet d (stepOrigins { d with tb := ((d.tb : Int) + delta * nsUnit).toNat } delta) := (Keeps.refl d).same rfl rfl rfl
    refine hstepped.nSets ?_
    simp only [List.forall_mem_cons, List.not_mem_nil, false_imp_iff, implies_true, and_true]
    simp [stepLog_TIME, stepLog_STEP, stepLog_CAUSE, time_LOG_NEXT, time_STEPS]
  rw [timebaseStep_eq]
  exact (Keeps.ite (fun _ => hlogged.nSet (by decide) _) fun _ => hlogged).trans (keepsOutsideLog_stepEnded _ _ _).net

theorem keepsNet_servoAdjust (d : Dev) : KeepsNet d (servoAdjust d) := by
  have hused : KeepsNet d (freeUsed d) := (Keeps.refl d).same rfl rfl rfl
  exact (hused.nSet (r := time_RATE_PPB) (by decide) _).same rfl rfl rfl

theorem keepsNet_servoSample (d : Dev) (e : Int) (cause : Nat) : KeepsNet d (servoSample d e cause) := by
  have hoffset : KeepsNet d (nSet d time_OFFSET_NS (twosOf 64 e)) := (Keeps.refl d).nSet (by decide) _
  have hsampled : KeepsNet d (sampled d e cause) :=
    Keeps.ite (fun _ => hoffset.trans (keepsNet_timebaseStep _ _ _)) fun _ => hoffset.trans (keepsNet_servoAdjust _)
  refine hsampled.trans ((keeps_servoSample d e cause).mono (fun q hq => ⟨?_, ?_⟩) fun _ => False.elim)
  · simp [OutsideLog, QuietMember, hq]
  · rintro rfl
    exact absurd hq (by decide)

theorem keepsNet_gptpSample (d : Dev) (u : Nat) (e : Int) : KeepsNet d (gptpSample d u e) :=
  Keeps.whenever fun _ => (((Keeps.refl d).disarm id).arm id _).trans (keepsNet_servoSample _ _ _)

theorem keepsNet_updGptp (d : Dev) (u : Nat) (f : Gptp → Gptp) : KeepsNet d (updGptp d u f) := (Keeps.refl d).same rfl rfl rfl

theorem keepsNet_noteIn (d : Dev) (u : Nat) : KeepsNet d (noteIn d u) := (Keeps.refl d).same rfl rfl rfl

/-- A gPTP message changes of the uplinks' members LINK_DELAY_NS and TX_DISCARDS only. -/
theorem keeps_gptpIn (d : Dev) (u : Nat) (p : List Byte) :
    Keeps (fun q => refClass q = 0x48 ∧ refMember q = 15) (fun _ => False) d (gptpIn d u p) := by
  have hnet {d e : Dev} (h : KeepsNet d e) : Keeps (fun q => refClass q = 0x48 ∧ refMember q = 15) (fun _ => False) d e :=
    h.mono (fun _ hq => hq.1) fun _ => id
  have hsent (d : Dev) (mark : TxMark) (b : List Byte) :
      Keeps (fun q => refClass q = 0x48 ∧ refMember q = 15) (fun _ => False) d (sendGptp d u mark b) :=
    (keeps_sendFrame d u 0 mark _).mono (fun _ hq => by simp [hq.2]) fun _ => False.elim
  unfold gptpIn
  refine Keeps.whenNot fun _ => ?_
  split
  · exact hnet ((keepsNet_noteIn d u).trans (keepsNet_updGptp _ _ _))
  · exact Keeps.whenever fun _ => hnet ((keepsNet_updGptp d u _).trans (keepsNet_gptpSample _ _ _))
  · exact (hnet (keepsNet_noteIn d u)).trans (hsent _ _ _)
  · exact Keeps.whenever fun _ => hnet ((keepsNet_noteIn d u).trans (keepsNet_updGptp _ _ _))
  · exact Keeps.whenever fun _ => (hnet (keepsNet_updGptp d u _)).nSet (fun h => by simp [upl_LINK_DELAY_NS] at h) _
  · exact Keeps.refl d

theorem uplinkFrameReceivedOtherDoes : UplinkFrameReceivedOtherDoes := by
  rintro s n f ⟨htaken, htype⟩
  have hexec : doUplinkFrameReceived n true f s.dev = gptpIn (rxCounted s.dev n.val) n.val (etherBody f).2 := by
    rw [doUplinkFrameReceived, ethReceive_of_taken htaken, frameIn, htype]
    rfl
  exact completes_of_dev rfl hexec (((keeps_gptpIn _ _ _).nGet (by simp [upl_RX_FRAMES])).trans (nGet_nSet_same _ _ _))

theorem pdelayExchangeDoes : PdelayExchangeDoes := by
  rintro s n t1 t2 t3 t4 ⟨hrole, hlink⟩
  have hexec : doPdelayExchange n t1 t2 t3 t4 s.dev = linkDelay s.dev n.val ((t1 : Int) + nGet s.dev (upl_EGRESS_LATENCY_NS n.val)) t2 t3
      ((t4 : Int) - nGet s.dev (upl_INGRESS_LATENCY_NS n.val)) := if_neg (by simp [hrole, hlink])
  exact completes_of_dev rfl hexec (nGet_nSet_same _ _ _)

/-! ### Sync (R570) -/

theorem sliceOf_length (b : List Byte) (o n : Nat) : (sliceOf b o n).length = n := by simp [sliceOf_eq_map]

theorem ptpHead_length (d : Dev) (u typ len flags seq control : Nat) : (ptpHead d u typ len flags seq control).length = 34 := by
  simp [ptpHead, sliceOf_length, beBytes_length, octets, zeros]

/-- A Sync of a master port with its octets of padding to 60. -/
theorem sync_padded (d : Dev) (u k : Nat) :
    ethHead d u (octets [0x01, 0x80, 0xC2, 0, 0, 0x0E]) 0 0 0x88F7 ++ (ptpHead d u 0 44 0x0200 k 0 ++ zeros 10) ++
        zeros (60 - (ethHead d u (octets [0x01, 0x80, 0xC2, 0, 0, 0x0E]) 0 0 0x88F7 ++ (ptpHead d u 0 44 0x0200 k 0 ++ zeros 10)).length) =
      octets [0x01, 0x80, 0xC2, 0, 0, 0x0E] ++ macOf d u ++ octets [0x88, 0xF7] ++ ptpHead d u 0 44 0x0200 k 0 ++ zeros 10 ++ zeros 2 := by
  have hhead : ethHead d u (octets [0x01, 0x80, 0xC2, 0, 0, 0x0E]) 0 0 0x88F7 =
      octets [0x01, 0x80, 0xC2, 0, 0, 0x0E] ++ macOf d u ++ octets [0x88, 0xF7] := by
    rw [ethHead, if_pos rfl, List.append_nil]
    rfl
  have hlength : (octets [0x01, 0x80, 0xC2, 0, 0, 0x0E] ++ macOf d u ++ octets [0x88, 0xF7] ++
      (ptpHead d u 0 44 0x0200 k 0 ++ zeros 10)).length = 58 := by
    simp [ptpHead_length, macOf, sliceOf_length, octets, zeros]
  rw [hhead, hlength]
  simp only [List.append_assoc]

theorem gptpSyncSendDoes : GptpSyncSendDoes := by
  rintro s n k ⟨hrole, hlink, hruns, hsettled, rfl, hroom⟩
  let m := arm (updGptp s.dev n.val (fun g => { g with syncSeq := ((gptpOf s.dev n.val).syncSeq + 1) % 65536 })) tkSyncSend n.val (ms 125)
  have hexec : doGptpSyncSend n s.dev = sendGptp m n.val (.sync (gptpOf s.dev n.val).syncSeq)
      (ptpHead m n.val 0 44 0x0200 (gptpOf s.dev n.val).syncSeq 0 ++ zeros 10) :=
    if_neg (by
      have hready : ¬ (armed s.dev tkSyncSend n.val = true ∧ due s.dev tkSyncSend n.val = false) := fun h => by simp [hsettled h.1] at h
      simp [hrole, hlink, hruns, hready])
  refine completes_of_dev rfl hexec ?_
  have hqueue : queueOf m n.val 0 = queueOf s.dev n.val 0 := rfl
  rw [withDev_dev, sendGptp, sendFrame_of_room (d := m) (q := 0) hlink (by rw [hqueue]; exact hroom)]
  refine ⟨?_, mapFind_arm_same _ _ _ _, (mapGet_mapPut_same _ _ _ _).trans ?_⟩
  · exact congrArg Gptp.syncSeq (mapGet_mapSet_same ..)
  · exact congrArg (fun o => queueOf s.dev n.val 0 ++ [{ octets := o, mark := .sync (gptpOf s.dev n.val).syncSeq }])
      (sync_padded s.dev n.val (gptpOf s.dev n.val).syncSeq)

end Sys2Proof.Machine
end

section
/-!
IEEE 1722 streams and REDUNDANCY (O45, R551, R566 to R568, R574): what a PDU changes at its listener, what a talker's PDU leaves, and the
write that restarts the uplinks.
-/
-- One proof at a time: the tasks of many short proofs wait on one another, and each holds a stack of its own.
set_option Elab.async false
namespace Sys2Proof.Machine

variable {d e : Dev} {l : Nat}

/-! ### A PDU at its listeners (R568) -/

/-- The members of listener l that its PDUs read or count, LATE_SAMPLES aside. -/
def ListenerMember (l : Nat) (q : Ref) : Prop := q ∈ [strm_PDUS l, strm_SEQ_GAPS l, avtp_CHANNELS l, avtp_RATE l, avtp_MISMATCHES l]

theorem quietMember_of_listener {q : Ref} (h : ListenerMember l q) : QuietMember q := by
  simp only [ListenerMember, List.mem_cons, List.not_mem_nil, or_false] at h
  rcases h with rfl | rfl | rfl | rfl | rfl <;>
    simp [QuietMember, strm_PDUS, strm_SEQ_GAPS, avtp_CHANNELS, avtp_RATE, avtp_MISMATCHES]

theorem not_listenerMember_LATE_SAMPLES (j : Nat) : ¬ ListenerMember l (avtp_LATE_SAMPLES j) := fun h => by
  simp only [ListenerMember, List.mem_cons, List.not_mem_nil, or_false] at h
  rcases h with h | h | h | h | h
  · exact absurd (congrArg refClass h) (by simp [avtp_LATE_SAMPLES, strm_PDUS])
  all_goals exact absurd h (mref_ne_of_member (by decide))

/-- The members of another listener's streams are others. -/
theorem not_listenerMember_of_inst {i m : Nat} {j : Nat} (hl : l < 16) (hj : j < 16) (h : j ≠ l) (hi : i = 0x10 + j ∨ i = 0x100 + j) (c : Nat) :
    ¬ ListenerMember l (mref c i m) := fun hm => by
  simp only [ListenerMember, List.mem_cons, List.not_mem_nil, or_false, strm_PDUS, strm_SEQ_GAPS, avtp_CHANNELS, avtp_RATE,
    avtp_MISMATCHES] at hm
  rcases hm with h | h | h | h | h <;> exact absurd h (mref_ne_of_inst (by omega))

/-- What leaves those members and the last sequence number of listener l. -/
structure KeepsListener (l : Nat) (d e : Dev) : Prop where
  members : Keeps (ListenerMember l) (fun _ => False) d e
  pduSeq : mapFind e.audio.pduSeq (16 + l) = mapFind d.audio.pduSeq (16 + l)

namespace KeepsListener

variable {f : Dev}

theorem refl (d : Dev) : KeepsListener l d d := ⟨Keeps.refl d, rfl⟩

theorem trans (h : KeepsListener l d e) (h' : KeepsListener l e f) : KeepsListener l d f :=
  ⟨h.members.trans h'.members, h'.pduSeq.trans h.pduSeq⟩

theorem nInc (h : KeepsListener l d e) {r : Ref} (hr : ¬ ListenerMember l r) : KeepsListener l d (nInc e r) :=
  ⟨h.members.nInc hr, by rw [nInc_audio, h.pduSeq]⟩

theorem nAdd (h : KeepsListener l d e) {r : Ref} (hr : ¬ ListenerMember l r) (n : Nat) : KeepsListener l d (nAdd e r n) :=
  ⟨h.members.nSet hr _, (congrArg (fun a : Audio => mapFind a.pduSeq (16 + l)) (nSet_audio _ _ _)).trans h.pduSeq⟩

theorem raise (h : KeepsListener l d e) {n : Nat} (hn : n < 1024) : KeepsListener l d (raise e n) :=
  ⟨h.members.trans ((keepsQuiet_raiseBy e hn 1).mono (fun _ hq => quietMember_of_listener hq) fun _ => False.elim),
    (congrArg (fun a : Audio => mapFind a.pduSeq (16 + l)) (congrArg Dev.audio (membersOnly_raiseBy e n 1) :)).trans h.pduSeq⟩

theorem ite {c : Prop} [Decidable c] (h : KeepsListener l d e) (h' : KeepsListener l d f) : KeepsListener l d (if c then e else f) := by
  split
  · exact h
  · exact h'

theorem foldl {α : Type} {step : Dev → α → Dev} (hstep : ∀ d a, KeepsListener l d (step d a)) (s : List α) (d : Dev) :
    KeepsListener l d (s.foldl step d) :=
  List.foldlRecOn (motive := KeepsListener l d) s step (refl d) fun e h a _ => h.trans (hstep e a)

end KeepsListener

theorem keepsListener_hear (d : Dev) (base channels rate t j : Nat) (samples : Nat → Nat → Int) (frames : Nat) :
    KeepsListener l d (hear d base channels rate t (some (avtp_LATE_SAMPLES j)) samples frames) := by
  unfold hear
  refine KeepsListener.foldl (fun d k => .ite ?late (.foldl (fun d c => .ite (.refl d) ?heard) _ d)) _ d
  case late => exact ((KeepsListener.refl d).nAdd (not_listenerMember_LATE_SAMPLES j) channels).raise (n := 870) (by decide)
  case heard => exact ⟨(Keeps.refl d).same rfl rfl rfl, rfl⟩

/-- An AAF PDU of n channels at a listener that takes its format, before its samples are heard. -/
def pduTaken (d : Dev) (n ch rate seq : Nat) : Dev :=
  let d := match mapFind d.audio.pduSeq (16 + n) with
    | some l => if seq = (l + 1) % 256 then d else nInc d (strm_SEQ_GAPS n)
    | none => d
  nInc { d with audio.pduSeq := mapPut d.audio.pduSeq (16 + n) seq
                audio.rates := (List.range ch).foldl (fun m c => mapPut m (8 * n + c) rate) d.audio.rates } (strm_PDUS n)

/-- The rate that a PDU's NSR names (R551). -/
def pduRate (p : List Byte) : Nat := if ofBe (sliceOf p 17 1) / 16 = 7 then 1 else 0

/-- Whether a listener's settings differ from a PDU's format (R551). -/
def pduMismatch (d : Dev) (p : List Byte) (n : Nat) : Prop :=
  ofBe (sliceOf p 17 2) % 1024 ≠ nGet d (avtp_CHANNELS n) ∨
    (ofBe (sliceOf p 17 1) / 16 ≠ 5 ∧ ofBe (sliceOf p 17 1) / 16 ≠ 7) ∨ pduRate p ≠ nGet d (avtp_RATE n)

theorem aafAt_of_mismatch {p : List Byte} (hseq : bitOf (ofBe (sliceOf p 1 1)) 0 = true) (hformat : aafOctets (ofBe (sliceOf p 16 1)) ≠ 0)
    (h : pduMismatch d p l) : aafAt d p l = nInc d (avtp_MISMATCHES l) := by
  unfold pduMismatch pduRate at h
  unfold aafAt
  dsimp only
  rw [if_neg (by simp [hseq, hformat]), if_pos h]

theorem aafAt_of_match {p : List Byte} (hseq : bitOf (ofBe (sliceOf p 1 1)) 0 = true) (hformat : aafOctets (ofBe (sliceOf p 16 1)) ≠ 0)
    (h : ¬ pduMismatch d p l) : ∃ t samples frames, aafAt d p l =
      hear (pduTaken d l (ofBe (sliceOf p 17 2) % 1024) (pduRate p) (ofBe (sliceOf p 2 1))) (8 * l) (ofBe (sliceOf p 17 2) % 1024) (pduRate p) t
        (some (avtp_LATE_SAMPLES l)) samples frames := by
  unfold pduMismatch pduRate at h
  unfold aafAt
  dsimp only
  rw [if_neg (by simp [hseq, hformat]), if_neg h]
  exact ⟨_, _, _, rfl⟩

theorem keepsListener_pduTaken (d : Dev) {j : Nat} (hl : l < 16) (hj : j < 16) (h : j ≠ l) (ch rate seq : Nat) :
    KeepsListener l d (pduTaken d j ch rate seq) := by
  have hstream (m : Nat) : ¬ ListenerMember l (mref 0x48 (0x100 + j) m) := not_listenerMember_of_inst hl hj h (.inr rfl) _
  have hgaps : KeepsListener l d (match mapFind d.audio.pduSeq (16 + j) with
      | some k => if seq = (k + 1) % 256 then d else nInc d (strm_SEQ_GAPS j)
      | none => d) := by
    split
    · split
      · exact .refl d
      · exact (KeepsListener.refl d).nInc (hstream 7)
    · exact .refl d
  unfold pduTaken
  dsimp only
  generalize (match mapFind d.audio.pduSeq (16 + j) with
      | some k => if seq = (k + 1) % 256 then d else nInc d (strm_SEQ_GAPS j)
      | none => d) = m at hgaps
  have hset : KeepsListener l m { m with audio.pduSeq := mapPut m.audio.pduSeq (16 + j) seq
                                         audio.rates := (List.range ch).foldl (fun m c => mapPut m (8 * j + c) rate) m.audio.rates } :=
    ⟨(Keeps.refl m).same rfl rfl rfl, mapFind_mapPut_other _ _ (by omega)⟩
  exact (hgaps.trans hset).nInc (hstream 6)

/-- A PDU at another listener leaves this one's. -/
theorem keepsListener_aafAt (d : Dev) (p : List Byte) {j : Nat} (hl : l < 16) (hj : j < 16) (h : j ≠ l) : KeepsListener l d (aafAt d p j) := by
  by_cases hnone : bitOf (ofBe (sliceOf p 1 1)) 0 = false ∨ aafOctets (ofBe (sliceOf p 16 1)) = 0
  · have hexec : aafAt d p j = d := if_pos hnone
    rw [hexec]
    exact .refl d
  · obtain ⟨hseq, hformat⟩ := not_or.mp hnone
    rw [Bool.not_eq_false] at hseq
    by_cases hmismatch : pduMismatch d p j
    · rw [aafAt_of_mismatch hseq hformat hmismatch]
      exact (KeepsListener.refl d).nInc (not_listenerMember_of_inst hl hj h (.inl rfl) _)
    · obtain ⟨t, samples, frames, hexec⟩ := aafAt_of_match hseq hformat hmismatch
      rw [hexec]
      exact (keepsListener_pduTaken d hl hj h _ _ _).trans (keepsListener_hear _ _ _ _ _ _ _ _)

/-- A PDU at all its listeners is one PDU at each: for a listener of them the others change nothing. -/
theorem aafIn_at {u : Nat} {f p : List Byte} (hl : l < 16) (htakes : aafTakes d u f p l = true) :
    ∃ m, KeepsListener l d m ∧ KeepsListener l (aafAt m p l) (aafIn d u f p) := by
  have hmem : l ∈ (List.range 16).filter (aafTakes d u f p) := List.mem_filter.mpr ⟨List.mem_range.mpr hl, htakes⟩
  have hnodup : ((List.range 16).filter (aafTakes d u f p)).Nodup := List.nodup_range.filter _
  have hbound : ∀ j ∈ (List.range 16).filter (aafTakes d u f p), j < 16 := fun j hj => List.mem_range.mp (List.mem_filter.mp hj).1
  unfold aafIn
  obtain ⟨before, after, hsplit⟩ := List.append_of_mem hmem
  rw [hsplit] at hnodup hbound ⊢
  have hothers : ∀ j, j ∈ before ∨ j ∈ after → j ≠ l := by
    rintro j hj rfl
    simp only [List.nodup_append, List.nodup_cons, List.mem_cons] at hnodup
    rcases hj with hj | hj
    · exact hnodup.2.2 j hj j (.inl rfl) rfl
    · exact hnodup.2.1.1 hj
  have hfold (s : List Nat) (hs : ∀ j ∈ s, j < 16 ∧ j ≠ l) (m : Dev) : KeepsListener l m (s.foldl (fun d n => aafAt d p n) m) :=
    List.foldlRecOn (motive := KeepsListener l m) s _ (.refl m) fun e h j hj => h.trans (keepsListener_aafAt e p hl (hs j hj).1 (hs j hj).2)
  refine ⟨before.foldl (fun d n => aafAt d p n) d, hfold _ (fun j hj => ⟨hbound j (by simp [hj]), hothers j (.inl hj)⟩) d, ?_⟩
  rw [List.foldl_append, List.foldl_cons]
  exact hfold _ (fun j hj => ⟨hbound j (by simp [hj]), hothers j (.inr hj)⟩) _

theorem nGet_pduTaken (d : Dev) (n ch rate seq : Nat) : nGet (pduTaken d n ch rate seq) (strm_PDUS n) = satAdd 32 (nGet d (strm_PDUS n)) 1 ∧
    mapFind (pduTaken d n ch rate seq).audio.pduSeq (16 + n) = some seq ∧
    nGet (pduTaken d n ch rate seq) (strm_SEQ_GAPS n) =
      if (mapFind d.audio.pduSeq (16 + n)).all (fun o => decide (seq = (o + 1) % 256)) then nGet d (strm_SEQ_GAPS n)
      else satAdd 32 (nGet d (strm_SEQ_GAPS n)) 1 := by
  have hne : strm_PDUS n ≠ strm_SEQ_GAPS n := mref_ne_of_member (by decide)
  unfold pduTaken
  dsimp only
  have hput (m : Dev) (r : Ref) (a : Audio) : nGet (nInc { m with audio := a } r) r = satAdd 32 (nGet m r) 1 := nGet_nInc_same _ _
  have hputOther (m : Dev) {q r : Ref} (h : q ≠ r) (a : Audio) : nGet (nInc { m with audio := a } r) q = nGet m q := nGet_nInc_other _ h
  rw [hput, hputOther _ hne.symm, nInc_audio]
  refine ⟨congrArg (satAdd 32 · 1) ?_, mapFind_mapPut_same _ _ _, ?_⟩
  · split
    · split
      · rfl
      · exact nGet_nInc_other _ hne
    · rfl
  · cases hlast : mapFind d.audio.pduSeq (16 + n) with
    | none => rfl
    | some o =>
      by_cases h : seq = (o + 1) % 256
      · simp [← h]
      · simp [h, nGet_nInc_same]

theorem aafTakes_received (d : Dev) (u : Nat) (f p : List Byte) (n : Nat) :
    aafTakes (noteIn (rxCounted d u) u) u f p n = aafTakes d u f p n := by
  have hn (q : Ref) (hq : refMember q ≠ 15) : nGet (noteIn (rxCounted d u) u) q = nGet d q := (nGet_congr rfl q).trans (nGet_rxCounted d u hq)
  have hb (q : Ref) (hq : refMember q ≠ 15) : bGet (noteIn (rxCounted d u) u) q = bGet d q := (bGet_congr rfl q).trans (bGet_rxCounted d u hq)
  simp only [aafTakes, macOf]
  rw [hn _ (by simp [avtp_ENABLE]), hn _ (by decide), hn _ (by simp [strm_UPLINK]), hn _ (by simp [strm_STREAM_ID]),
    hn _ (by simp [strm_VLAN_ID]), hb _ (by simp [strm_DEST_MAC]), hb _ (by decide), hb _ (by decide)]

theorem keepsListener_received (d : Dev) (u : Nat) : KeepsListener l d (noteIn (rxCounted d u) u) := by
  have hcounted : KeepsListener l d (rxCounted d u) := by
    refine ⟨(Keeps.refl d).nSet (fun h => ?_) _, by rw [rxCounted, nSet_audio]⟩
    simp only [ListenerMember, List.mem_cons, List.not_mem_nil, or_false] at h
    rcases h with h | h | h | h | h <;> exact absurd h (mref_ne_of_member (by decide))
  exact hcounted.trans ⟨(Keeps.refl _).same rfl rfl rfl, rfl⟩

/-- A frame that holds a PDU of 1722, at a listener that takes it. -/
theorem doAafPduReceived_at {s : State} {n : Fin 2} {f p : List Byte} (hl : l < 16) (htaken : FrameTaken s.dev n.val f)
    (hbody : etherBody f = (0x22F0, p)) (htakes : aafTakes s.dev n.val f p l = true) :
    ∃ m, KeepsListener l s.dev m ∧ KeepsListener l (aafAt m p l) (doAafPduReceived n f s.dev) := by
  have hexec : doAafPduReceived n f s.dev = aafIn (noteIn (rxCounted s.dev n.val) n.val) n.val f p := by
    rw [doAafPduReceived, if_pos (by rw [hbody]), ethReceive_of_taken htaken, frameIn, hbody]
    rfl
  obtain ⟨m, hbefore, hafter⟩ := aafIn_at hl ((aafTakes_received s.dev n.val f p l).trans htakes)
  exact ⟨m, (keepsListener_received _ _).trans hbefore, hexec ▸ hafter⟩

theorem aafPduReceivedDoes : AafPduReceivedDoes := by
  rintro s n l f p ⟨htaken, hbody, htakes, hseq, hformat, hchannels, hnsr, hrate⟩
  obtain ⟨m, hbefore, hafter⟩ := doAafPduReceived_at l.isLt htaken hbody htakes
  have hread {q : Ref} (hq : ListenerMember l.val q) : nGet m q = nGet s.dev q := hbefore.members.nGet hq
  have hmatch : ¬ pduMismatch m p l.val := by
    rw [pduMismatch, hread (by simp [ListenerMember]), hread (by simp [ListenerMember]), pduRate, hnsr]
    have hcases : nGet s.dev (avtp_RATE l.val) = 0 ∨ nGet s.dev (avtp_RATE l.val) = 1 := by omega
    rcases hcases with h | h <;> simp [h, hchannels]
  obtain ⟨t, samples, frames, hexec⟩ := aafAt_of_match hseq hformat hmatch
  rw [hexec] at hafter
  have hheard := (keepsListener_hear (l := l.val) (pduTaken m l.val (ofBe (sliceOf p 17 2) % 1024) (pduRate p) (ofBe (sliceOf p 2 1)))
    (8 * l.val) (ofBe (sliceOf p 17 2) % 1024) (pduRate p) t l.val samples frames).trans hafter
  obtain ⟨hpdus, hpduSeq, hgaps⟩ := nGet_pduTaken m l.val (ofBe (sliceOf p 17 2) % 1024) (pduRate p) (ofBe (sliceOf p 2 1))
  rw [hread (by simp [ListenerMember])] at hpdus hgaps
  rw [hbefore.pduSeq] at hgaps
  exact ⟨_, rfl, (hheard.members.nGet (by simp [ListenerMember])).trans hpdus, hheard.pduSeq.trans hpduSeq,
    (hheard.members.nGet (by simp [ListenerMember])).trans hgaps⟩

theorem aafPduReceivedMismatchDoes : AafPduReceivedMismatchDoes := by
  rintro s n l f p ⟨htaken, hbody, htakes, hseq, hformat, hchannels⟩
  obtain ⟨m, hbefore, hafter⟩ := doAafPduReceived_at l.isLt htaken hbody htakes
  have hread {q : Ref} (hq : ListenerMember l.val q) : nGet m q = nGet s.dev q := hbefore.members.nGet hq
  have hmismatch : pduMismatch m p l.val := .inl (by rwa [hread (by simp [ListenerMember])])
  rw [aafAt_of_mismatch hseq hformat hmismatch] at hafter
  refine ⟨_, rfl, (hafter.members.nGet (by simp [ListenerMember])).trans ((nGet_nInc_same _ _).trans ?_),
    (hafter.members.nGet (q := strm_PDUS l.val) (by simp [ListenerMember])).trans
      ((nGet_nInc_other _ (mref_ne_of_member (by decide))).trans ?_)⟩
  · exact congrArg (satAdd 32 · 1) (hread (by simp [ListenerMember]))
  · exact hread (q := strm_PDUS l.val) (by simp [ListenerMember])

/-! ### A talker's PDU (R566) -/

/-- A talker whose sample frames are taken for a PDU. -/
def pduGathered (d : Dev) (t k : Nat) : Dev :=
  { d with audio.gathered := mapPut d.audio.gathered t ((mapGet d.audio.gathered t []).drop k),
           audio.pduSeq := mapPut d.audio.pduSeq t ((mapGet d.audio.pduSeq t 0 + 1) % 256) }

theorem talkerPduSendDoes : TalkerPduSendDoes := by
  rintro s t q up c ⟨henable, hruns, rfl, hframes, rfl, hup, hlink, rfl, hroom⟩
  have hexec : doTalkerPduSend t s.dev = sendFrame (pduGathered s.dev t.val (talkerFrames s.dev t.val)) (streamUplink s.dev (16 + t.val))
      (1 + nGet s.dev (strm_CLASS (16 + t.val))) (.pdu t.val)
      (ethHead s.dev (streamUplink s.dev (16 + t.val)) (sliceOf (bGet s.dev (strm_DEST_MAC (16 + t.val))) 0 6)
        (nGet s.dev (strm_VLAN_ID (16 + t.val)))
        (if nGet s.dev (strm_CLASS (16 + t.val)) = 0 then nGet s.dev (upl_CLASS_A_PCP (streamUplink s.dev (16 + t.val)))
          else nGet s.dev (upl_CLASS_B_PCP (streamUplink s.dev (16 + t.val)))) 0x22F0 ++
        talkerPdu s.dev t.val (mapGet s.dev.audio.pduSeq t.val 0) ((mapGet s.dev.audio.gathered t.val []).take (talkerFrames s.dev t.val))) := by
    unfold doTalkerPduSend
    dsimp only
    rw [if_neg (by simp [henable, hruns]; exact hframes), if_neg (by omega)]
    rfl
  refine completes_of_dev rfl hexec ?_
  rw [withDev_dev, sendFrame_of_room (d := pduGathered s.dev t.val (talkerFrames s.dev t.val)) hlink hroom]
  exact ⟨mapGet_mapPut_same .., mapGet_mapPut_same .., mapGet_mapPut_same ..⟩

/-! ### REDUNDANCY (R574) -/

/-- The switch and the active uplink of the addressing object. -/
def RedundancyMember (q : Ref) : Prop := q = addr_REDUNDANCY ∨ q = addr_ACTIVE

/-- What leaves both. -/
abbrev KeepsRedundancy (d e : Dev) : Prop := Keeps RedundancyMember (fun _ => False) d e

theorem not_redundancyMember {r : Ref} (h : ¬ (r = addr_REDUNDANCY ∨ r = addr_ACTIVE)) : ¬ RedundancyMember r := h

/-- A session that closes leaves the addressing object. -/
theorem keepsRedundancy_closeSession (d : Dev) (sess : Nat) : KeepsRedundancy d (closeSession d sess) := by
  have hcount (e : Dev) : KeepsRedundancy e (countSessions e) := (Keeps.refl e).nSets (by simp [RedundancyMember]; decide)
  have hend (e : Dev) (l : List Notif) : KeepsRedundancy e (endNotified e l) := by
    refine Keeps.foldl (fun e n _ => ?_) e
    cases n.source with
    | none => exact .refl e
    | some k =>
      refine Keeps.whenever fun _ => (keepsQuiet_endSource e k).mono (fun q hq => ?_) fun _ => False.elim
      rcases hq with rfl | rfl <;> exact quietMember_net
  have hdiscard (e : Dev) : KeepsRedundancy e (discardOp e 0).1 := by
    have hempty : KeepsRedundancy e { e with scene.staging := [] } := (Keeps.refl e).same rfl rfl rfl
    exact hempty.nSet (r := commitCtl_STAGED_COUNT) (not_redundancyMember (by decide)) _
  unfold closeSession
  split
  · exact .refl d
  · dsimp only
    have hold : KeepsRedundancy d { d with noap.sessions := sessionsBut d sess } := (Keeps.refl d).same rfl rfl rfl
    refine Keeps.ite (fun _ => ?_) fun _ => (hold.trans (hcount _)).trans (hend _ _)
    exact Keeps.arm (((hold.trans (hcount _)).trans (hend _ _)).trans (hdiscard _)) not_false _

theorem closeSession_net_out (d : Dev) (sess : Nat) : (closeSession d sess).net = d.net ∧ (closeSession d sess).out = d.out := by
  cases hx : d.noap.sessions.find? (fun y => decide (y.id = sess)) with
  | none => exact (closeSession_of_none hx).symm ▸ ⟨rfl, rfl⟩
  | some x =>
    obtain ⟨hclosed, -⟩ := closeSession_of_find hx
    exact ⟨hclosed.net, hclosed.out⟩

theorem closeAll_leaves (d : Dev) : KeepsRedundancy d (closeAll d) ∧ (closeAll d).net = d.net ∧ (closeAll d).out = d.out :=
  List.foldlRecOn (motive := fun e => KeepsRedundancy d e ∧ e.net = d.net ∧ e.out = d.out) _ _ ⟨Keeps.refl d, rfl, rfl⟩
    fun e ⟨hkept, hnet, hout⟩ i _ =>
      ⟨hkept.trans (keepsRedundancy_closeSession e i), (closeSession_net_out e i).1.trans hnet, (closeSession_net_out e i).2.trans hout⟩

/-- A device whose REDUNDANCY has been written. -/
def redundancySet (d : Dev) (v : Nat) : Dev :=
  nSet { nSet d addr_REDUNDANCY v with noap.closing := true, net.restart := true } addr_ACTIVE 0xFF

theorem redundancyWrite_ok (d : Dev) {v : Nat} (hv : v ≤ 1) : redundancyWrite d (.num v) = (redundancySet d v, .ok, []) := by
  obtain ⟨row, hrow, hacc, hrange⟩ : ∃ row, rowOf addr_REDUNDANCY = some row ∧ row.acc = .rw ∧ ∀ v ≤ 1, inRange row (.num v) = true :=
    ⟨_, rfl, rfl, by decide⟩
  simp only [redundancyWrite, plainWrite_ok hrow hacc (hrange v hv)]
  rfl

theorem nGet_redundancySet (d : Dev) (v : Nat) :
    nGet (redundancySet d v) addr_REDUNDANCY = v ∧ nGet (redundancySet d v) addr_ACTIVE = 0xFF :=
  ⟨(nGet_nSet_other _ _ (by decide)).trans ((nGet_congr rfl _).trans (nGet_nSet_same d _ _)), nGet_nSet_same _ _ _⟩

theorem redundancySet_noap_net (d : Dev) (v : Nat) :
    (redundancySet d v).noap.closing = true ∧ (redundancySet d v).net.restart = true ∧ (redundancySet d v).out = d.out := by
  unfold redundancySet
  rw [nSet_noap, nSet_net, nSet_out]
  exact ⟨rfl, rfl, nSet_out d _ _⟩

/-- REDUNDANCY written, with its answer sent. -/
def redundancyAnswered (d : Dev) (sess v : Nat) : Dev := emitResult (redundancySet d v) sess .ok []

theorem redundancyWriteDoes : RedundancyWriteDoes := by
  rintro s sess v ⟨hgate, hv⟩
  have hmember : actionResult addr_REDUNDANCY (redundancyWrite s.dev (.num v)) = redundancyWrite s.dev (.num v) :=
    actionResult_of_member (row := (rowOf addr_REDUNDANCY).get rfl) rfl (by decide) _
  have hopen := withGate_open s.dev sess addr_REDUNDANCY (fun d => redundancyWrite d (.num v)) hgate
  rw [hmember, redundancyWrite_ok s.dev hv] at hopen
  obtain ⟨hclosing, hrestart, -⟩ := redundancySet_noap_net s.dev v
  obtain ⟨hset, hnone⟩ := nGet_redundancySet s.dev v
  have hexec : doRedundancyWrite sess v s.dev = closeAll { redundancyAnswered s.dev sess v with noap.closing := false } := by
    rw [doRedundancyWrite, hopen]
    exact if_pos hclosing
  obtain ⟨hkept, hnet, hout⟩ := closeAll_leaves { redundancyAnswered s.dev sess v with noap.closing := false }
  refine completes_of_dev rfl hexec ?_
  rw [withDev_dev]
  refine ⟨(hkept.nGet (.inl rfl)).trans ?_, (hkept.nGet (.inr rfl)).trans ?_, (congrArg Net.restart hnet).trans hrestart, ?_,
    closeAll_sessions _⟩
  · exact (nGet_congr rfl _).trans hset
  · exact (nGet_congr rfl _).trans hnone
  · refine (congrArg List.getLast? hout).trans ?_
    simp [redundancyAnswered, emitResult, emit, Status.code]

/-- Settles O45, from one lemma per command of the uplinks, the streams and gPTP. -/
theorem networkPorts : Obligations.NetworkPorts :=
  ⟨uplinkLinkUpDoes, uplinkLinkDownDoes, duplicateAddressDetectionDoneDoes, uplinkFrameReceivedDoes, uplinkFrameReceivedOversizeDoes,
    uplinkFrameReceivedDroppedDoes, uplinkFrameReceivedOtherDoes, arpRequestDoes, icmpEchoDoes, icmpEchoSixDoes, neighbourSolicitationDoes,
    aafPduReceivedDoes, aafPduReceivedMismatchDoes, talkerPduSendDoes, redundancyWriteDoes, pdelayExchangeDoes, gptpSyncSendDoes⟩

end Sys2Proof.Machine
end

section
/-!
What a command may change of memory (O60): a frame on memory, with one lemma for each function that writes over the fabric.
-/
-- One proof at a time: the tasks of many short proofs wait on one another, and each holds a stack of its own.
set_option Elab.async false
namespace Sys2Proof.Machine

/-- The states s and u hold the same octet at every address outside A. -/
structure MemOutside (A : Nat → Prop) (s u : State) : Prop where
  read : ∀ a, ¬ A a → memRead u.mem a = memRead s.mem a

/-- The address c is one of the n from a. -/
def InRange (a n c : Nat) : Prop := a ≤ c ∧ c < a + n

theorem not_inRange {a n c : Nat} (h : c < a ∨ a + n ≤ c) : ¬ InRange a n c := by
  unfold InRange
  omega

theorem inRange_sub {a n b k c : Nat} (ha : a ≤ b) (hn : b + k ≤ a + n) (h : InRange b k c) : InRange a n c := by
  unfold InRange at *
  omega

namespace MemOutside

variable {A B : Nat → Prop} {s u v : State}

theorem refl (A : Nat → Prop) (s : State) : MemOutside A s s := ⟨fun _ _ => rfl⟩

theorem trans (h : MemOutside A s u) (h' : MemOutside A u v) : MemOutside A s v := ⟨fun a ha => (h'.read a ha).trans (h.read a ha)⟩

theorem mono (h : MemOutside A s u) (hsub : ∀ a, A a → B a) : MemOutside B s u := ⟨fun a ha => h.read a fun hA => ha (hsub a hA)⟩

/-- Memory is the same list. -/
theorem ofMem (A : Nat → Prop) (h : u.mem = s.mem) : MemOutside A s u := ⟨fun _ _ => by rw [h]⟩

/-- The device alone changes. -/
theorem setDev (h : MemOutside A s u) (d : Dev) : MemOutside A s (withDev u d) := ⟨h.read⟩

theorem ofDev (A : Nat → Prop) (s : State) (d : Dev) : MemOutside A s (withDev s d) := (refl A s).setDev d

theorem ite {c : Prop} [Decidable c] (ht : c → MemOutside A s u) (hf : ¬ c → MemOutside A s v) : MemOutside A s (if c then u else v) := by
  split
  case isTrue hc => exact ht hc
  case isFalse hc => exact hf hc

theorem foldl {α : Type} {step : State → α → State} (l : List α) (hstep : ∀ u, ∀ a ∈ l, MemOutside A u (step u a)) (h : MemOutside A s u) :
    MemOutside A s (l.foldl step u) := by
  induction l generalizing u with
  | nil => exact h
  | cons a l ih => exact ih (fun u b hb => hstep u b (List.mem_cons_of_mem a hb)) (h.trans (hstep u a List.mem_cons_self))

/-- The memory of a state that step answers. -/
theorem read_of_next (h : MemOutside A s u) (hv : (.next u : Res) = .next v) {a : Nat} (ha : ¬ A a) :
    memRead v.mem a = memRead s.mem a := by
  cases hv
  exact h.read a ha

end MemOutside

theorem memOutside_fabricPuts (s : State) (a : Nat) (bs : List Byte) : MemOutside (InRange a bs.length) s (fabricPuts s a bs) :=
  ⟨fun c hc => memRead_fabricPuts_outside bs s a c (by unfold InRange at hc; omega)⟩

theorem memOutside_putRange (s : State) (cls a : Nat) (bs : List Byte) : MemOutside (InRange a bs.length) s (putRange s cls a bs) :=
  ⟨fun c hc => memRead_putRange_outside s cls a c bs (by unfold InRange at hc; omega)⟩

theorem memOutside_jobPut (s : State) (a : Nat) (bs : List Byte) (cls : Nat) : MemOutside (InRange a bs.length) s (jobPut s a bs cls) :=
  .ite (fun _ => memOutside_putRange s cls a bs) fun _ => .ofDev _ s _

@[simp] theorem leBytes_length (n v : Nat) : (leBytes n v).length = n := by
  induction n generalizing v with
  | zero => rfl
  | succ n ih => exact congrArg (· + 1) (ih _)

/-! ### Moves -/

/-- The address c is where one of the moves goes. -/
def MovesTo (ms : List Move) (c : Nat) : Prop := c ∈ ms.map (·.dst)

theorem movesTo_of_subset {ms own : List Move} (hsub : ms ⊆ own) {c : Nat} (h : MovesTo ms c) : MovesTo own c := List.map_subset _ hsub h

/-- The runs of a list of moves hold no address that is not one of theirs. -/
theorem movesTo_of_mem_runsOf (ms : List Move) : ∀ r ∈ runsOf ms, ∀ c, InRange r.1 r.2.length c → MovesTo ms c := by
  induction ms with
  | nil => exact fun r hr => absurd hr List.not_mem_nil
  | cons m ms ih =>
    have hlater {r : Nat × List Byte} (hr : r ∈ runsOf ms) {c : Nat} (hc : InRange r.1 r.2.length c) : MovesTo (m :: ms) c :=
      List.mem_cons_of_mem _ (ih r hr c hc)
    have hself : MovesTo (m :: ms) m.dst := List.mem_cons_self
    have hfirst {c : Nat} (hc : InRange m.dst 1 c) : MovesTo (m :: ms) c := by
      obtain rfl : c = m.dst := by unfold InRange at hc; omega
      exact hself
    intro r hr c hc
    unfold runsOf at hr
    split at hr
    case h_1 a bs rs hruns =>
      split at hr
      case isTrue hjoin =>
        rcases List.mem_cons.mp hr with rfl | hr
        · by_cases hcm : c = m.dst
          · exact hcm ▸ hself
          · refine hlater (r := (a, bs)) (hruns ▸ List.mem_cons_self) ?_
            unfold InRange at *
            simp only [List.length_cons] at hc ⊢
            omega
        · exact hlater (hruns ▸ List.mem_cons_of_mem _ hr) hc
      case isFalse =>
        rcases List.mem_cons.mp hr with rfl | hr
        · exact hfirst hc
        · exact hlater (hruns ▸ hr) hc
    case h_2 =>
      obtain rfl := List.mem_singleton.mp hr
      exact hfirst hc

theorem memOutside_putMoves (s : State) (cls : Nat) (ms : List Move) : MemOutside (MovesTo ms) s (putMoves s cls ms) :=
  (MemOutside.refl _ s).foldl _ fun u r hr => (memOutside_putRange u cls r.1 r.2).mono (movesTo_of_mem_runsOf ms r hr)

theorem openMoves_subset (d : Dev) (ms : List Move) : openMoves d ms ⊆ ms := by
  intro m hm
  obtain ⟨⟨k, x⟩, hx, hsome⟩ := List.mem_filterMap.mp hm
  split at hsome
  · exact Option.some.inj hsome ▸ (List.of_mem_zip hx).2
  · exact absurd hsome (by simp)

theorem memOutside_stopMoves (s : State) (cls : Nat) (ms : List Move) (fit : Move → Bool) (back : Bool) (k : Nat) :
    MemOutside (MovesTo ms) s (stopMoves s cls ms fit back k) := by
  have hdone : (if back then (ms.take k).reverse else ms.take k) ⊆ ms := by
    split
    · exact fun m hm => List.take_subset k ms (List.mem_reverse.mp hm)
    · exact List.take_subset k ms
  have hopen (d : Dev) : (openMoves d (ms.drop k)).filter fit ⊆ ms :=
    fun m hm => List.drop_subset k ms (openMoves_subset d _ (List.mem_of_mem_filter hm))
  exact (((memOutside_putMoves s cls _).mono fun _ => movesTo_of_subset hdone).trans
    ((memOutside_putMoves _ cls _).mono fun _ => movesTo_of_subset (hopen _))).setDev _

theorem memOutside_runMoves (s : State) (got : SMap (List Byte)) {ms own : List Move} (hown : own ⊆ ms) (back : Bool) (cls : Nat) :
    MemOutside (MovesTo ms) s (runMoves s got ms own back cls).1 := by
  unfold runMoves
  dsimp only
  split
  · exact memOutside_putMoves s cls ms
  · exact (MemOutside.ofDev _ s _).trans ((memOutside_stopMoves _ cls own _ back _).mono fun _ => movesTo_of_subset hown)

/-! ### Lists of the DMA engines -/

/-- The moves of a list go to its destinations, whatever device and memory it reads. -/
theorem mem_addrsOf_of_movesTo {d : Dev} {m : List Host.Cell} {j : DmaJob} {c : Nat} (h : MovesTo (listMoves d m j) c) : c ∈ addrsOf j.dst := by
  obtain ⟨x, hx, rfl⟩ := List.mem_map.mp h
  obtain ⟨e, he, rfl⟩ := List.mem_map.mp hx
  exact (List.of_mem_zip he).2

theorem memOutside_moveList (s : State) (j : DmaJob) : MemOutside (· ∈ addrsOf j.dst) s (moveList s j).1 := by
  refine MemOutside.mono (A := MovesTo (listMoves s.dev s.mem j)) ?_ fun _ => mem_addrsOf_of_movesTo
  unfold moveList
  dsimp only
  split
  · exact (MemOutside.ofDev _ s _).trans (memOutside_stopMoves _ 3 _ _ false _)
  · exact memOutside_runMoves s j.got (List.Subset.refl _) false 3

/-- The address c is one that the list j writes: a destination, or an octet of its record. -/
def ListWrites (j : DmaJob) (c : Nat) : Prop := c ∈ addrsOf j.dst ∨ (j.hasRecord = true ∧ InRange j.record 16 c)

theorem memOutside_doDmaListComplete (n : Fin 32) {j : DmaJob} {s : State} (hjob : (chanOf s.dev n.val).job = some j) :
    MemOutside (ListWrites j) s (doDmaListComplete n s) := by
  unfold doDmaListComplete
  rw [hjob]
  dsimp only
  refine .ite (fun _ => .refl _ s) fun _ => MemOutside.setDev ?_ _
  have hmoved := (MemOutside.ofDev (ListWrites j) s (cancelReads s.dev 3 n.val)).trans ((memOutside_moveList _ j).mono fun _ => Or.inl)
  refine .ite (fun hrecord => hmoved.trans ((memOutside_jobPut _ j.record _ 3).mono fun c hc => .inr ⟨hrecord, ?_⟩)) fun _ => hmoved
  simpa [leBytes_length, octets] using hc

/-! ### Commands of the blitter -/

/-- An octet of a destination line goes to its own address. -/
theorem dst_of_blitByte {d : Dev} {m : List Host.Cell} {j : BlitJob} {v a : Nat} {x : Move} (h : blitByte d m j v a = some x) : x.dst = a := by
  unfold blitByte at h
  dsimp only at h
  grind

/-- The command alone settles which octets of a destination line it writes. -/
theorem map_dst_blitByte (d d' : Dev) (m m' : List Host.Cell) (j : BlitJob) (v a : Nat) :
    (blitByte d m j v a).map (·.dst) = (blitByte d' m' j v a).map (·.dst) := by
  unfold blitByte
  dsimp only
  split
  · split <;> rfl
  · split
    · split <;> rfl
    · rfl

theorem map_dst_blitMoves (d d' : Dev) (m m' : List Host.Cell) (j : BlitJob) :
    (blitMoves d m j).map (·.dst) = (blitMoves d' m' j).map (·.dst) := by
  simp only [blitMoves, blitLines, List.map_flatten, List.map_map, Function.comp_def, List.map_filterMap, map_dst_blitByte d d' m m' j]

/-- The order in which a command takes its lines and columns leaves out no move and adds none. -/
theorem blitOwn_subset (d : Dev) (m : List Host.Cell) (j : BlitJob) : blitOwn d m j ⊆ blitMoves d m j := by
  intro x hx
  unfold blitOwn at hx
  dsimp only at hx
  obtain ⟨l, hl, hxl⟩ := List.mem_flatten.mp hx
  refine List.mem_flatten.mpr ?_
  split at hl
  · obtain ⟨l', hl', rfl⟩ := List.mem_map.mp hl
    refine ⟨l', ?_, List.mem_reverse.mp hxl⟩
    split at hl'
    · exact List.mem_reverse.mp hl'
    · exact hl'
  · refine ⟨l, ?_, hxl⟩
    split at hl
    · exact List.mem_reverse.mp hl
    · exact hl

/-- The address c is one that a command writes: a destination octet, its STATUS, its DETAIL, LAST_SEQ or CONSUME. -/
def BlitWrites (d : Dev) (m : List Host.Cell) (j : BlitJob) (c : Nat) : Prop :=
  MovesTo (blitMoves d m j) c ∨ c = j.slot + 2 ∨ c = j.slot + 45 ∨ InRange (j.header + 8) 8 c

theorem memOutside_doBlitCommandComplete (r : Fin 4) {j : BlitJob} {s : State} (hjob : (ringOf s.dev r.val).job = some j) :
    MemOutside (BlitWrites s.dev s.mem j) s (doBlitCommandComplete r s) := by
  have hput {c : Prop} [Decidable c] {u : State} (p : Nat) (b : List Byte) (hp : ∀ a, InRange p b.length a → BlitWrites s.dev s.mem j a)
      (hu : MemOutside (BlitWrites s.dev s.mem j) s u) : MemOutside (BlitWrites s.dev s.mem j) s (if c then jobPut u p b 6 else u) :=
    .ite (fun _ => hu.trans ((memOutside_jobPut u p b 6).mono hp)) fun _ => hu
  have hstatus (st a : Nat) (ha : InRange (j.slot + 2) (octets [st]).length a) : BlitWrites s.dev s.mem j a := .inr (.inl (by
    simp only [InRange, octets, List.length_map, List.length_singleton] at ha; omega))
  have hdetail (det a : Nat) (ha : InRange (j.slot + 45) (octets [det]).length a) : BlitWrites s.dev s.mem j a := .inr (.inr (.inl (by
    simp only [InRange, octets, List.length_map, List.length_singleton] at ha; omega)))
  have hseq (a : Nat) (ha : InRange (j.header + 8) (sliceOf j.cmd 4 4).length a) : BlitWrites s.dev s.mem j a :=
    .inr (.inr (.inr (inRange_sub le_rfl (by rw [sliceOf_length]; omega) ha)))
  have hconsume (n a : Nat) (ha : InRange (j.header + 12) (leBytes 4 n).length a) : BlitWrites s.dev s.mem j a :=
    .inr (.inr (.inr (inRange_sub (by omega) (by rw [leBytes_length]) ha)))
  have hmoves (d : Dev) : MemOutside (BlitWrites s.dev s.mem j) (withDev s d)
      (runMoves (withDev s d) j.got (blitMoves d s.mem j) (blitOwn d s.mem j) (blitBack j.cmd) 6).1 :=
    (memOutside_runMoves _ j.got (blitOwn_subset d s.mem j) _ 6).mono fun c hc =>
      .inl (show c ∈ (blitMoves s.dev s.mem j).map (·.dst) from map_dst_blitMoves d s.dev s.mem s.mem j ▸ hc)
  unfold doBlitCommandComplete
  rw [hjob]
  dsimp only
  refine .ite (fun _ => .refl _ s) fun _ => MemOutside.setDev ?_ _
  refine hput _ _ (hconsume _) (hput _ _ hseq (hput _ _ (hdetail _) (hput _ _ (hstatus _) ?_)))
  refine (MemOutside.ofDev _ s (cancelReads s.dev 6 r.val)).trans ?_
  split
  · exact hmoves _
  · exact .refl _ _

/-! ### A ring's ENABLE -/

theorem memOutside_ringEnable (s : State) (r v : Nat) :
    MemOutside (InRange (nGet s.dev (ring_RING_ADDRESS r) + 12) 4) s (ringEnable s r v).1 := by
  unfold ringEnable
  split
  · exact .refl _ s
  · split
    · exact .ofDev _ s _
    · dsimp only
      split
      · exact (MemOutside.ofDev _ s _).trans ((memOutside_jobPut _ _ _ 6).mono fun a ha => by simpa using ha)
      · exact .ofDev _ s _

theorem memOutside_withGateMem {A : Nat → Prop} (s : State) (sess : Nat) (r : Ref) {op : State → State × Status × List Byte}
    (h : MemOutside A s (op s).1) : MemOutside A s (withGateMem s sess r op) := by
  unfold withGateMem
  split
  · exact .ofDev _ s _
  · exact h.setDev _

/-! ### Migrations -/

theorem memOutside_doMigrationCopyComplete {s : State} {m : Migration} (hm : s.dev.stoker.migration = some m) :
    MemOutside (InRange m.dest m.size) s (doMigrationCopyComplete s) := by
  unfold doMigrationCopyComplete
  dsimp only
  rw [hm]
  dsimp only
  refine .ite (fun _ => .refl _ s) fun _ => .ite (fun _ => .ofDev _ s _) fun _ => MemOutside.setDev ?_ _
  exact (MemOutside.ofDev _ s _).trans ((memOutside_fabricPuts _ _ _).mono fun a ha => by simpa using ha)

end Sys2Proof.Machine
end

section
/-!
What WRITE, BULK, the Hearth package and the stores may change of memory (O60), and the settlement of O60.
-/
-- One proof at a time: the tasks of many short proofs wait on one another, and each holds a stack of its own.
set_option Elab.async false
namespace Sys2Proof.Machine

/-! ### BULK -/

/-- Members that a request's arrival leaves: its counts have other numbers. -/
def PlaceMember (r : Ref) : Prop := refMember r = 14

theorem keeps_sendMessage (d : Dev) (sess : Nat) (p : Peer) (typ flags seq : Nat) (body : List Byte) :
    Keeps PlaceMember (fun _ => True) d (sendMessage d sess p typ flags seq body) :=
  Keeps.ite (fun _ => .refl d) fun _ => (keeps_sendFrame d _ 3 .plain _).mono (fun r (hr : refMember r = 14) => by omega) fun _ => id

theorem keeps_updSession (d : Dev) (sess : Nat) (f : Session → Session) : Keeps PlaceMember (fun _ => True) d (updSession d sess f) :=
  (Keeps.refl d).same rfl rfl rfl

theorem keeps_answer (d : Dev) (sess seq typ : Nat) (body : List Byte) : Keeps PlaceMember (fun _ => True) d (answer d sess seq typ body) := by
  refine Keeps.ite (fun _ => .refl d) fun _ => ?_
  dsimp only
  exact (keeps_updSession d sess _).trans (keeps_sendMessage _ _ _ _ _ _ _)

theorem keeps_requestIn (x : Session) (r : Req) (n : Nat) (d : Dev) : Keeps PlaceMember (fun _ => True) d (requestIn x r n d) := by
  have hdup : ¬ PlaceMember noap_DUP_COUNT := by simp [PlaceMember, noap_DUP_COUNT]
  have hsession (f : Session → Session) := keeps_updSession d x.id f
  unfold requestIn
  split
  · exact (hsession _).trans (keeps_sendMessage _ _ _ _ _ _ _)
  · exact Keeps.ite (fun _ => .refl d) fun _ => Keeps.ite (fun _ => (Keeps.refl d).nInc hdup) fun _ =>
      Keeps.ite (fun _ => (hsession _).trans (keeps_answer _ _ _ _ _)) fun _ => hsession _

theorem keeps_takeTurn (d : Dev) (sess seq typ flags n : Nat) : Keeps PlaceMember (fun _ => True) d (takeTurn d sess seq typ flags n).1 := by
  unfold takeTurn
  split
  · exact .refl d
  · exact Keeps.ite (fun _ => .refl d) fun _ => (keeps_updSession d sess _).trans (keeps_requestIn _ _ n _)

/-- A request's arrival leaves the address of a surface. -/
theorem surf_ADDRESS_takeTurn (d : Dev) (sess seq typ flags n i : Nat) :
    nGet (takeTurn d sess seq typ flags n).1 (surf_ADDRESS i) = nGet d (surf_ADDRESS i) :=
  (keeps_takeTurn d sess seq typ flags n).nGet (q := surf_ADDRESS i) (by simp [PlaceMember, surf_ADDRESS])

theorem memOutside_atTurnMem {A : Nat → Prop} {s : State} {run : State → State} {sess seq typ n : Nat}
    (hrun : MemOutside A (withDev s (takeTurn s.dev sess seq typ 0 n).1) (run (withDev s (takeTurn s.dev sess seq typ 0 n).1))) :
    MemOutside A s (atTurnMem s sess seq typ n run) :=
  .ite (fun _ => .refl _ s) fun _ => MemOutside.setDev (.ite (fun _ => (MemOutside.ofDev _ s _).trans hrun) fun _ => .ofDev _ s _) _

theorem memOutside_bulkSurface (s : State) (r : Ref) (off : Nat) (b : List Byte) :
    MemOutside (InRange (nGet s.dev (surf_ADDRESS (refInst r)) + off) b.length) s (bulkSurface s r off b).1 := by
  unfold bulkSurface
  dsimp only
  split
  · exact .ofDev _ s _
  · exact memOutside_putRange s 5 _ b

theorem memOutside_doBulk {s : State} {r : Ref} (sess seq off : Nat) (b : List Byte) (hclass : refClass r = 0x13) (hmember : refMember r = 0) :
    MemOutside (InRange (nGet s.dev (surf_ADDRESS (refInst r)) + off) b.length) s (doBulk sess seq r off b s) := by
  refine memOutside_atTurnMem ?_
  dsimp only
  rw [← surf_ADDRESS_takeTurn s.dev sess seq 6 0 1 (refInst r)]
  split
  · exact .ofDev _ _ _
  · refine .ite (fun _ => .refl _ _) fun _ => ?_
    rw [if_pos ⟨hclass, hmember⟩]
    exact (memOutside_bulkSurface (withDev s _) r off b).setDev _

/-! ### The Hearth package -/

theorem writeLive_mem_of_hearth (s : State) (sess : Nat) {r : Ref} (v : Val) (hr : refClass r = 0x20 ∨ refClass r = 0x21) :
    (writeLive s sess r v).1.mem = s.mem := by
  unfold writeLive
  dsimp only
  rw [if_neg (by omega), if_neg (by omega), if_pos (by omega)]
  rfl

theorem memberWrite_mem {s : State} {sess : Nat} {by' : Writer} {it : WriteItem}
    (hlive : ∀ v, (writeLive s sess it.ref v).1.mem = s.mem) : (memberWrite s sess by' it).1.mem = s.mem := by
  unfold memberWrite
  split
  · rfl
  split
  · rfl
  split
  · rfl
  split
  · rfl
  split
  · rfl
  split
  · rfl
  split
  · rfl
  split
  · rfl
  split
  · rfl
  split
  · rfl
  · exact hlive _

/-- A record of the package writes members of the Hearth plane, and no memory (R706, R708). -/
theorem applyRecord_mem_of_package (s : State) (kind : Nat) (b : List Byte) : (applyRecord s .package kind b).1.mem = s.mem := by
  unfold applyRecord
  dsimp only
  split
  · split
    · rfl
    case isFalse hclass => exact memberWrite_mem fun v => writeLive_mem_of_hearth s 0 v (by tauto)
  all_goals simp_all

theorem applyRecords_mem_of_package (p : List Byte) (n off : Nat) (s : State) : (applyRecords .package p n off s).mem = s.mem := by
  induction n generalizing off s with
  | zero => rfl
  | succ n ih =>
    unfold applyRecords
    split
    · rfl
    · exact (ih _ _).trans (applyRecord_mem_of_package s _ _)

theorem memOutside_fillStore (s : State) {b : List Byte} (hb : b.length ≤ storeSize) :
    MemOutside (InRange storeBase storeSize) s (fillStore s b) := by
  refine ⟨fun a ha => memRead_memWriteBytes_outside _ s.mem storeBase a ?_⟩
  unfold InRange at ha
  simp only [List.length_map, List.length_zip, List.length_range, Nat.min_self]
  omega

theorem memOutside_doHearthPackageLoaded (s : State) : MemOutside (InRange storeBase storeSize) s (doHearthPackageLoaded s) := by
  unfold doHearthPackageLoaded
  dsimp only
  refine .ite (fun _ => .refl _ s) fun _ => .ite (fun _ => .ofDev _ s _) fun hsize => ?_
  have hfilled (off : Nat) : MemOutside (InRange storeBase storeSize) s (applyList .package (activePayload s.dev 2) off
      (fillStore s (sliceOf (activePayload s.dev 2) 4 (ofLe (sliceOf (activePayload s.dev 2) 0 4))))) :=
    (memOutside_fillStore s (by rw [sliceOf_length]; omega)).trans (.ofMem _ (applyRecords_mem_of_package _ _ off _))
  exact .ite (fun _ => (hfilled _).setDev _) fun _ => (hfilled _).setDev _

/-! ### Stores -/

/-- What holds of the memory that an effect leaves. -/
def RanMem (P : List Host.Cell → Prop) : Ran → Prop
  | .done u _ => P u.mem
  | .jump u _ => P u.mem
  | .wait u => P u.mem
  | .hold u _ => P u.mem
  | .fault _ => True

@[simp] theorem withThread_mem (s : State) (t : Nat) (f : Thread → Thread) : (withThread s t f).mem = s.mem := rfl

@[simp] theorem useSlots_mem (s : State) (t n : Nat) : (useSlots s t n).mem = s.mem := rfl

@[simp] theorem retireOp32_mem (s : State) (t : Nat) (pc : Word) (pend load : Option (Nat × Word)) (wrote : Option Nat) :
    (retireOp32 s t pc pend load wrote).mem = s.mem := rfl

@[simp] theorem stall_mem (s : State) (t op : Nat) (w : Be32Op) : (stall s t op w).mem = s.mem := rfl

theorem runEffect_mem {P : List Host.Cell → Prop} {eff : Effect} {op t : Nat} {w : Be32Op} {s : State} (hs : P s.mem)
    (heff : RanMem P (eff (withDev s (readOperand s.dev t op w)) t w)) : P (runEffect eff op t w s).mem := by
  unfold runEffect
  dsimp only
  generalize eff (withDev s (readOperand s.dev t op w)) t w = r at heff
  cases r with
  | done | jump | wait | hold =>
    simp only [useSlots_mem, retireOp32_mem, stall_mem, withThread_mem, withDev_mem]
    exact heff
  | fault => simpa only [withDev_mem] using hs

theorem readWord_beam (d : Dev) (t a : Nat) : (readWord d t a).beam = d.beam := by
  unfold readWord
  dsimp only
  split
  · simp
  · split
    · simp [sramCorrected]
    · rfl

theorem readFetch_beam (d : Dev) (t : Nat) : (readFetch d t).beam = d.beam := by
  unfold readFetch
  dsimp only
  split
  · rfl
  · exact readWord_beam d t _

theorem readOperand_beam (d : Dev) (t op : Nat) (w : Be32Op) : (readOperand d t op w).beam = d.beam := by
  unfold readOperand
  split
  · generalize operandReads d t w (accessWidth op) (!opStores op) = l
    induction l generalizing d with
    | nil => rfl
    | cons a l ih => exact (ih _).trans (readWord_beam d t a)
  · rfl

/-- The memory that an issue leaves is the memory before it, or what the effect leaves of the state at issue. -/
theorem issue_mem {P : List Host.Cell → Prop} {eff : Effect} {op t : Nat} {w : Be32Op} {s : State} (hs : P s.mem)
    (heff : RanMem P (eff (withDev s (readOperand (atIssue s t w) t op w)) t w)) : P (issue eff op t w s).mem := by
  have hran : P (runEffect eff op t w (withDev s (atIssue s t w))).mem := runEffect_mem hs heff
  have hat (d e : Dev) (c : Prop) [Decidable c] : (if c then withDev (withDev (withDev s d) e) (freeUsed e) else withDev (withDev s d) e) =
      withDev s (if c then freeUsed e else e) := by
    split <;> rfl
  have hhead : threadHead (settleThread s.dev t) t = threadHead (readFetch (settleThread s.dev t) t) t := by
    rw [threadHead, threadHead, threadOf, threadOf, readFetch_beam]
  unfold issue
  split
  · exact hs
  dsimp only
  split
  · simpa only [withDev_mem] using hs
  split
  · simpa only [stall_mem, withDev_mem] using hs
  split
  · simpa only [withDev_mem] using hs
  split
  · simpa only [withDev_mem] using hs
  split
  · simpa only [stall_mem, withDev_mem] using hs
  split
  · simp only [withDev_dev, hhead, hat]
    exact hran
  · split <;> simpa only [useSlots_mem, retireOp32_mem, withDev_mem] using hs

theorem ranMem_portStore {P : List Host.Cell → Prop} {s : State} (hs : P s.mem) (t : Nat) (w : Be32Op) (v : Word) : RanMem P (portStore s t w v) := by
  unfold portStore
  split
  · trivial
  · dsimp only
    split <;> exact hs

/-- A store through the far window changes memory in its own octets alone. -/
theorem ranMem_farStore (s : State) (t a : Nat) (bs : List Byte) :
    RanMem (fun m => ∀ c, ¬ InRange a bs.length c → memRead m c = memRead s.mem c) (farStore s t a bs) := by
  unfold farStore
  dsimp only
  split
  · exact fun _ _ => rfl
  · exact fun _ _ => rfl
  · exact fun _ _ => rfl
  · exact fun _ _ => rfl
  · split
    · exact fun _ _ => rfl
    split
    · exact fun _ _ => rfl
    split
    · exact fun _ _ => rfl
    · exact (memOutside_putRange s 4 a bs).read

/-- A store of another mode changes no memory. -/
theorem ranMem_storeEffect_of_near {s : State} {w : Be32Op} (hmode : w.mode ≠ 7) (n : Nat) (f : Thread → Word) (t : Nat) :
    RanMem (· = s.mem) (storeEffect n f s t w) := by
  unfold storeEffect
  dsimp only
  split
  · exact ranMem_portStore (P := (· = s.mem)) rfl t w _
  case h_2 hm => exact absurd (Fin.ext hm) hmode
  · split
    · trivial
    · exact rfl
    · split
      · trivial
      split
      · exact rfl
      · exact rfl

theorem ranMem_storeEffect_of_far {s : State} {w : Be32Op} (hmode : w.mode = 7) (n : Nat) (f : Thread → Word) (t : Nat) :
    RanMem (fun m => ∀ c, ¬ InRange (farAddr s.dev t w n) n c → memRead m c = memRead s.mem c) (storeEffect n f s t w) := by
  have hfar := ranMem_farStore s t (farAddr s.dev t w n) (leBytes n (f (threadOf s.dev t)).toNat)
  rw [leBytes_length] at hfar
  unfold storeEffect
  simp only [hmode]
  exact hfar

/-- Each of the five stores is issued with the effect of a store (R368). -/
theorem exec_storeForm (k : Fin 5) (t : Fin 384) (w : Be32Op) (s : State) : exec ((storeForm k).1 t w) s =
    .next (issue (storeEffect (storeForm k).2.2.1 (storeForm k).2.2.2) (storeForm k).2.1 t.val w s) := by
  fin_cases k <;> rfl

/-- The address of a far-window store is settled at issue: reading the operand leaves FARB. -/
theorem farAddr_at_issue (k : Fin 5) (s : State) (t op : Nat) (w : Be32Op) :
    farAddr (readOperand (atIssue s t w) t op w) t w (storeForm k).2.2.1 = storeAddr k s t w := by
  simp only [farAddr, threadOf, readOperand_beam]
  rfl

theorem storeStaysInside (k : Fin 5) (t : Fin 384) (w : Be32Op) (s u : State) (hnext : exec ((storeForm k).1 t w) s = .next u) :
    if w.mode = 7 then ∀ a, a < storeAddr k s t.val w ∨ storeAddr k s t.val w + (storeForm k).2.2.1 ≤ a → memRead u.mem a = memRead s.mem a
    else u.mem = s.mem := by
  rw [exec_storeForm] at hnext
  obtain rfl := Host.Outcome.next.inj hnext
  split
  case isTrue hmode =>
    intro a ha
    have hfar := ranMem_storeEffect_of_far (s := withDev s (readOperand (atIssue s t.val w) t.val (storeForm k).2.1 w)) hmode
      (storeForm k).2.2.1 (storeForm k).2.2.2 t.val
    rw [withDev_dev, farAddr_at_issue] at hfar
    exact issue_mem (P := fun m => ∀ c, ¬ InRange (storeAddr k s t.val w) (storeForm k).2.2.1 c → memRead m c = memRead s.mem c)
      (fun _ _ => rfl) hfar a (not_inRange ha)
  case isFalse hmode => exact issue_mem (P := (· = s.mem)) rfl (ranMem_storeEffect_of_near hmode _ _ _)

/-- Settles O60: each command writes over the fabric in the ranges named, and nowhere else. -/
theorem storesStayInside : Obligations.StoresStayInside := by
  refine ⟨storeStaysInside, ?_, ?_, ?_, ?_, ?_, ?_⟩
  · intro sess seq off r data s u hclass hmember hnext a ha
    exact (memOutside_doBulk sess seq off data hclass hmember).read_of_next hnext (not_inRange ha)
  · intro sess r v s u hnext a ha
    exact (memOutside_withGateMem s sess _ (memOutside_ringEnable s r.val v)).read_of_next hnext (not_inRange ha)
  · intro n j s u hjob hnext a hdst hrecord
    refine (memOutside_doDmaListComplete n hjob).read_of_next hnext fun hwrites => ?_
    rcases hwrites with hin | ⟨hhas, hin⟩
    · exact hdst hin
    · exact not_inRange (hrecord hhas) hin
  · intro r j s u hjob _ hnext a hdst hstatus hdetail hheader
    refine (memOutside_doBlitCommandComplete r hjob).read_of_next hnext fun hwrites => ?_
    rcases hwrites with hin | hin | hin | hin
    · exact hdst hin
    · exact hstatus hin
    · exact hdetail hin
    · exact not_inRange hheader hin
  · intro m s u hm hnext a ha
    exact (memOutside_doMigrationCopyComplete hm).read_of_next hnext (not_inRange ha)
  · intro s u hnext a ha
    exact (memOutside_doHearthPackageLoaded s).read_of_next hnext (not_inRange ha)

end Sys2Proof.Machine
end

section
/-!
Frames without what raising an event changes (O50 to O52, O55 to O57): a device that differs from another in the parts and members of a frame
alone, and the commands that such a frame bounds.
-/
-- One proof at a time: the tasks of many short proofs wait on one another, and each holds a stack of its own.
set_option Elab.async false
namespace Sys2Proof.Machine

/-- What may change: parts of the device, and members by class or by class and number. -/
structure Margin where
  parts : List Part
  classes : List Nat
  members : List Ref

namespace Margin

/-- Whether members of a class and number may change. -/
def admits (F : Margin) (c m : Nat) : Bool :=
  F.classes.contains c || F.members.any (fun k => decide (refClass k = c) && decide (refMember k = m))

/-- Whether a frame allows all that another does. -/
def sub (F G : Margin) : Bool :=
  F.parts.all G.parts.contains && F.classes.all G.classes.contains && F.members.all (fun k => G.admits (refClass k) (refMember k))

/-- What two frames allow together. -/
def join (F G : Margin) : Margin := { parts := F.parts ++ G.parts, classes := F.classes ++ G.classes, members := F.members ++ G.members }

variable {F G : Margin}

theorem parts_mono (h : F.sub G = true) {p : Part} (hp : G.parts.contains p = false) : F.parts.contains p = false := by
  simp only [sub, Bool.and_eq_true, List.all_eq_true] at h
  refine eq_false_of_ne_true fun hin => Bool.false_ne_true (hp.symm.trans ?_)
  exact h.1.1 p (List.contains_iff_mem.mp hin)

theorem admits_mono (h : F.sub G = true) {c m : Nat} (hm : G.admits c m = false) : F.admits c m = false := by
  simp only [sub, Bool.and_eq_true, List.all_eq_true] at h
  obtain ⟨⟨-, hclasses⟩, hmembers⟩ := h
  refine eq_false_of_ne_true fun hin => Bool.false_ne_true (hm.symm.trans ?_)
  rw [admits, Bool.or_eq_true] at hin
  rcases hin with hin | hin
  · rw [admits, hclasses c (List.contains_iff_mem.mp hin), Bool.true_or]
  · obtain ⟨k, hk, heq⟩ := List.any_eq_true.mp hin
    simp only [Bool.and_eq_true, decide_eq_true_eq] at heq
    obtain ⟨rfl, rfl⟩ := heq
    exact hmembers k hk

end Margin

/-- A device e with one part of f. -/
def withPart (e f : Dev) : Part → Dev
  | .mem => e
  | .now => { e with now := f.now }
  | .tb => { e with tb := f.tb }
  | .tbInc => { e with tbInc := f.tbInc }
  | .timers => { e with timers := f.timers }
  | .dirty => { e with dirty := f.dirty }
  | .regs => { e with regs := f.regs }
  | .noap => { e with noap := f.noap }
  | .islands => { e with islands := f.islands }
  | .scene => { e with scene := f.scene }
  | .events => { e with events := f.events }
  | .obs => { e with obs := f.obs }
  | .power => { e with power := f.power }
  | .hearth => { e with hearth := f.hearth }
  | .pins => { e with pins := f.pins }
  | .time => { e with time := f.time }
  | .heads => { e with heads := f.heads }
  | .dram => { e with dram := f.dram }
  | .stoker => { e with stoker := f.stoker }
  | .pipes => { e with pipes := f.pipes }
  | .threads => { e with beam.threads := f.beam.threads }
  | .bells => { e with beam.bells := f.beam.bells }
  | .scratch => { e with beam.scratch := f.beam.scratch }
  | .dcache => { e with beam.dcache := f.beam.dcache }
  | .icache => { e with beam.icache := f.beam.icache }
  | .posts => { e with beam.posts := f.beam.posts }
  | .lanes => { e with lanes := f.lanes }
  | .wear => { e with wear := f.wear }
  | .audio => { e with audio := f.audio }
  | .movers => { e with movers := f.movers }
  | .net => { e with net := f.net }
  | .trust => { e with trust := f.trust }
  | .free => { e with free := f.free }
  | .out => { e with out := f.out }

theorem objs_withPart (e f : Dev) (p : Part) : (withPart e f p).objs = e.objs := by cases p <;> rfl

theorem alloc_withPart (e f : Dev) {p : Part} (hp : p ≠ .scene) : (withPart e f p).scene.alloc = e.scene.alloc := by
  cases p
  case scene => exact absurd rfl hp
  all_goals rfl

theorem samePart_withPart (e f : Dev) {p q : Part} (hq : q ≠ p) : SamePart e (withPart e f p) q := by
  cases p <;> cases q <;> trivial

theorem SamePart.trans {d e f : Dev} {p : Part} (h : SamePart d e p) (h' : SamePart e f p) : SamePart d f p := by
  cases p <;> exact Eq.trans h' h

/-- A device e that differs from d within a frame, and has objects of scene classes only if d has. -/
structure Bounded (F : Margin) (d e : Dev) : Prop where
  part : ∀ p, F.parts.contains p = false → SamePart d e p
  member : ∀ r, F.admits (r / 16777216) (refMember r) = false → mGet e r = mGet d r
  keys : SceneKeys d.scene.alloc → SceneKeys e.scene.alloc

namespace Bounded

variable {F G : Margin} {d e f : Dev}

theorem refl (d : Dev) : Bounded F d d := ⟨fun p _ => by cases p <;> rfl, fun _ _ => rfl, id⟩

theorem trans (h : Bounded F d e) (h' : Bounded F e f) : Bounded F d f :=
  ⟨fun p hp => (h.part p hp).trans (h'.part p hp), fun r hr => (h'.member r hr).trans (h.member r hr), h'.keys ∘ h.keys⟩

theorem mono (h : Bounded G d e) (hsub : G.sub F = true := by decide) : Bounded F d e :=
  ⟨fun p hp => h.part p (Margin.parts_mono hsub hp), fun r hr => h.member r (Margin.admits_mono hsub hr), h.keys⟩

/-- A step within a narrower frame. -/
theorem add (h : Bounded F d e) (h' : Bounded G e f) (hsub : G.sub F = true := by decide) : Bounded F d f := h.trans (h'.mono hsub)

/-- A reach of the frames that count raised events. -/
theorem ofWithin {R : Reach} (h : Within R d e)
    (hsub : Margin.sub ⟨raiseParts ++ R.parts, R.classes, raiseMembers ++ R.members⟩ F = true := by decide) : Bounded F d e :=
  (⟨h.part, h.member, h.keys⟩ : Bounded ⟨raiseParts ++ R.parts, R.classes, raiseMembers ++ R.members⟩ d e).mono hsub

theorem addWithin {R : Reach} (h : Bounded F d e) (h' : Within R e f)
    (hsub : Margin.sub ⟨raiseParts ++ R.parts, R.classes, raiseMembers ++ R.members⟩ F = true := by decide) : Bounded F d f :=
  h.trans (ofWithin h' hsub)

/-- A part that may change is changed. -/
theorem put (h : Bounded F d e) (p : Part) (hf : f = withPart e f p) (hp : (F.parts.contains p && p != .scene) = true := by decide) :
    Bounded F d f := by
  simp only [Bool.and_eq_true, bne_iff_ne, ne_eq] at hp
  have hrest (q : Part) (hq : F.parts.contains q = false) : SamePart e f q := by
    rw [hf]
    exact samePart_withPart e f (by rintro rfl; exact Bool.false_ne_true (hq.symm.trans hp.1))
  refine h.trans ⟨hrest, fun r _ => mGet_congr ?_ r, ?_⟩
  · rw [hf, objs_withPart]
  · rw [hf, alloc_withPart e f hp.2]
    exact id

/-- The scene changes, and its allocated objects stay of scene classes. -/
theorem setScene (h : Bounded F d e) {x : Scene} (hk : SceneKeys e.scene.alloc → SceneKeys x.alloc)
    (hp : F.parts.contains .scene = true := by decide) : Bounded F d { e with scene := x } := by
  refine h.trans ⟨fun p hin => ?_, fun _ _ => rfl, hk⟩
  cases p
  case scene => exact absurd (hin.symm.trans hp) Bool.false_ne_true
  all_goals rfl

theorem mSet (h : Bounded F d e) {r : Ref} (v : Val) (hr : F.admits (r / 16777216) (refMember r) = true)
    (hp : F.parts.contains .dirty = true := by decide) : Bounded F d (mSet e r v) := by
  have hobjs : Bounded F d { e with objs := mapSet e.objs r v (memberDefault r) } := by
    refine h.trans ⟨fun p _ => by cases p <;> rfl, fun q hq => mapGet_mapSet_other e.objs v _ _ ?_, id⟩
    rintro rfl
    exact Bool.false_ne_true (hq.symm.trans hr)
  unfold Machine.mSet
  split
  · exact h
  · exact hobjs.put .dirty rfl (by simpa using hp)

theorem nSet (h : Bounded F d e) {c i m : Nat} (n : Nat)
    (hr : (F.parts.contains .dirty && F.admits (c % 256) (m % 256)) = true := by decide) : Bounded F d (nSet e (mref c i m) n) := by
  simp only [Bool.and_eq_true] at hr
  exact h.mSet _ (by rw [Within.mref_div, refMember_mref]; exact hr.2) hr.1

theorem bSet (h : Bounded F d e) {c i m : Nat} (b : List Byte)
    (hr : (F.parts.contains .dirty && F.admits (c % 256) (m % 256)) = true := by decide) : Bounded F d (bSet e (mref c i m) b) := by
  simp only [Bool.and_eq_true] at hr
  exact h.mSet _ (by rw [Within.mref_div, refMember_mref]; exact hr.2) hr.1

theorem nInc (h : Bounded F d e) {c i m : Nat}
    (hr : (F.parts.contains .dirty && F.admits (c % 256) (m % 256)) = true := by decide) : Bounded F d (nInc e (mref c i m)) :=
  h.nSet _ hr

theorem foldl {α : Type} {step : Dev → α → Dev} (h : Bounded F d e) (l : List α) (hstep : ∀ e, ∀ a ∈ l, Bounded F e (step e a)) :
    Bounded F d (l.foldl step e) := by
  induction l generalizing e with
  | nil => exact h
  | cons a l ih => exact ih (h.trans (hstep e a List.mem_cons_self)) fun f b hb => hstep f b (List.mem_cons_of_mem a hb)

theorem ite {c : Prop} [Decidable c] (ht : c → Bounded F d e) (hf : ¬ c → Bounded F d f) : Bounded F d (if c then e else f) := by
  split
  case isTrue hc => exact ht hc
  case isFalse hc => exact hf hc

/-- A change that a condition asks for. -/
theorem whenever {c : Prop} [Decidable c] (ht : c → Bounded F d e) : Bounded F d (if c then e else d) := ite ht fun _ => refl d

theorem otherwise {c : Prop} [Decidable c] (hf : ¬ c → Bounded F d e) : Bounded F d (if c then d else e) := ite (fun _ => refl d) hf

theorem useFree (h : Bounded F d e) (hp : (F.parts.contains .free && Part.free != .scene) = true := by decide) :
    Bounded F d (freeUsed e) := h.put .free rfl hp

theorem useFreeN (h : Bounded F d e) (n : Nat) (hp : (F.parts.contains .free && Part.free != .scene) = true := by decide) :
    Bounded F d (freeUsedN e n) := h.put .free rfl hp

theorem arm (h : Bounded F d e) (kind i dt : Nat) (hp : (F.parts.contains .timers && Part.timers != .scene) = true := by decide) :
    Bounded F d (arm e kind i dt) := h.put .timers rfl hp

theorem disarm (h : Bounded F d e) (kind i : Nat) (hp : (F.parts.contains .timers && Part.timers != .scene) = true := by decide) :
    Bounded F d (disarm e kind i) := h.put .timers rfl hp

theorem emit (h : Bounded F d e) (o : Output) (hp : (F.parts.contains .out && Part.out != .scene) = true := by decide) :
    Bounded F d (emit e o) := h.put .out rfl hp

end Bounded

/-! ### Raising, tracing, counting -/

/-- What raising an event changes (R610 to R626, R724 to R732). -/
def raiseMargin : Margin := ⟨raiseParts, [0x70], raiseMembers⟩

/-- Raising an event, tracing and counting are within every reach. -/
def raiseReach : Reach := ⟨[], [0x70], [], by decide⟩

namespace Bounded

variable {F : Margin} {d e : Dev}

theorem raiseBy (h : Bounded F d e) (n amt : Nat) (hF : raiseMargin.sub F = true := by decide) : Bounded F d (raiseBy e n amt) :=
  h.addWithin (R := raiseReach) ((Within.refl e).raiseBy n amt) hF

theorem raise (h : Bounded F d e) (n : Nat) (hF : raiseMargin.sub F = true := by decide) : Bounded F d (raise e n) := h.raiseBy n 1 hF

theorem serviceLog (h : Bounded F d e) (kind unit detail : Nat) (hF : raiseMargin.sub F = true := by decide) :
    Bounded F d (serviceLog e kind unit detail) :=
  h.addWithin (R := raiseReach) ((Within.refl e).serviceLog kind unit detail) hF

end Bounded

/-- What an entry of the trace or a count of a signal changes (R724, R728). -/
def traceMargin : Margin := ⟨[.dirty, .obs], [], [obs_RECORDS_LOST]⟩

/-! ### Answers of actions and member writes -/

/-- What the answer of a member write changes (R65, R372). -/
def answerMargin : Margin := ⟨[.free, .out], [], []⟩

namespace Bounded

variable {F : Margin} {d e : Dev}

theorem emitResult (h : Bounded F d e) (sess : Nat) (st : Status) (b : List Byte) (hF : answerMargin.sub F = true := by decide) :
    Bounded F d (emitResult e sess st b) :=
  h.trans ((((Bounded.refl e).put .out rfl : Bounded answerMargin e (Machine.emitResult e sess st b))).mono hF)

/-- A member written with its answer: what its operation changes, and the answer. -/
theorem withGate {sess : Nat} {r : Ref} {op : Dev → Dev × Status × List Byte} (h : Bounded F d (op d).1)
    (hF : answerMargin.sub F = true := by decide) : Bounded F d (withGate d sess r op) := by
  unfold Machine.withGate
  split
  · exact (refl d).emitResult sess _ _ hF
  · have hresult : Bounded F d (actionResult r (op d)).1 := by
      unfold actionResult
      split
      · split
        · exact h.trans ((((refl (op d).1).useFreeN _ : Bounded answerMargin _ _)).mono hF)
        · exact h
      · exact h
    exact hresult.emitResult sess _ _ hF

end Bounded

/-! ### Commands -/

/-- The statement of a frame, of a state whose device and memory change within it. -/
theorem differOnly_of_bounded {s u : State} {ps : List Part} {cs : List Nat} {ks : List Ref} (h : Bounded ⟨ps, cs, ks⟩ s.dev u.dev)
    (hmem : u.mem = s.mem ∨ ps.contains .mem = true) : DifferOnly ps cs ks s u := by
  refine ⟨fun p hp => ?_, fun r hclass hmember => h.member r ?_⟩
  · have hpart := h.part p hp
    cases p
    case mem => exact hmem.resolve_right fun hin => Bool.false_ne_true (hp.symm.trans hin)
    all_goals exact hpart
  · rw [Margin.admits, hclass, Bool.false_or, List.any_eq_false]
    intro k hk
    have hne := List.all_eq_true.mp hmember k hk
    simp only [Bool.or_eq_true, decide_eq_true_eq, Bool.and_eq_true] at hne ⊢
    omega

/-- A command that changes the device alone, and that within a frame. -/
theorem onlyChanges_of_dev {c : Instr} {f : State → Dev} {F : Margin} {ps : List Part} {cs : List Nat} {ks : List Ref}
    (hexec : ∀ s, exec c s = .next (withDev s (f s))) (hbound : ∀ s, Bounded F s.dev (f s))
    (hsub : F.sub ⟨ps, cs, ks⟩ = true := by decide) : OnlyChanges c ps cs ks := by
  intro s u hnext
  obtain rfl := Host.Outcome.next.inj ((hexec s).symm.trans hnext)
  exact differOnly_of_bounded ((hbound s).mono hsub) (.inl rfl)

end Sys2Proof.Machine
end

section
/-!
Events, pins and register crossings within their frames (O51): R11 to R16, R281 to R287, R610 to R632, R641 to R653.
-/
-- One proof at a time: the tasks of many short proofs wait on one another, and each holds a stack of its own.
set_option Elab.async false
namespace Sys2Proof.Machine

/-- A command that changes the device alone, within a frame where every allocated object is of a scene class. -/
theorem onlyChangesScene_of_dev {c : Instr} {f : State → Dev} {F : Margin} {ps : List Part} {cs : List Nat} {ks : List Ref}
    (hexec : ∀ s, exec c s = .next (withDev s (f s))) (hbound : ∀ s, SceneKeys s.dev.scene.alloc → Bounded F s.dev (f s))
    (hsub : F.sub ⟨ps, cs, ks⟩ = true := by decide) : OnlyChangesScene c ps cs ks := by
  intro s u hs hnext
  obtain rfl := Host.Outcome.next.inj ((hexec s).symm.trans hnext)
  exact differOnly_of_bounded ((hbound s hs).mono hsub) (.inl rfl)

/-! ### Claims and Damper holds (R615 to R628) -/

/-- What the end of a source changes (R620). -/
def sourceMargin : Margin := ⟨[.dirty, .events], [], [ev_STATE 0, ev_COUNT 0]⟩

theorem bounded_endSource (d : Dev) (n : Nat) : Bounded sourceMargin d (endSource d n) := by
  have hended (e : Events) : Bounded sourceMargin d { d with events := e } := (Bounded.refl d).put .events rfl
  exact .ite (fun _ => (hended _).nSet _) fun _ => .ite (fun _ => ((hended _).nSet _).nSet _) fun _ => (hended _).nSet _

/-- What a claim, the end of a source and a hold change. -/
def claimMargin : Margin :=
  ⟨[.timers, .dirty, .events], [], [damper_HOLDING 0, damper_HELD_CLAIMS 0, ev_STATE 0, ev_COUNT 0, ev_CLAIMS 0]⟩

theorem bounded_startHold (d : Dev) (g : Nat) : Bounded claimMargin d (startHold d g) :=
  .otherwise fun _ => ((Bounded.refl d).nSet _).arm _ _ _

theorem bounded_claimSource (d : Dev) (n who : Nat) : Bounded claimMargin d (claimSource d n who) := by
  have hclaimed : Bounded claimMargin d (nInc (nSets d [(ev_COUNT n, 0), (ev_STATE n, 2)]) (ev_CLAIMS n)) :=
    (((Bounded.refl d).nSet _).nSet _).nInc
  unfold claimSource
  refine (Bounded.put (Bounded.ite (fun _ => ?_) fun _ => ?_) .events rfl).trans (bounded_startHold _ _)
  · exact hclaimed.nInc
  · exact hclaimed

theorem bounded_firekeeperClaim (d : Dev) (n : Nat) : Bounded claimMargin d (firekeeperClaim d n) :=
  .whenever fun _ => (bounded_claimSource d n 0).add (bounded_endSource _ n)

theorem bounded_endHold (d : Dev) (g : Nat) : Bounded claimMargin d (endHold d g) :=
  ((((Bounded.refl d).nSet _).disarm _ _).put .events rfl).foldl _ fun e n _ => bounded_firekeeperClaim e n

theorem bounded_doDamperHoldExpiry (g : Fin 64) (d : Dev) : Bounded claimMargin d (doDamperHoldExpiry g d) :=
  .whenever fun _ => bounded_endHold d g.val

/-- What the host's claims change. -/
def hostMargin : Margin := claimMargin.join ⟨[.noap], [], [noap_EVENTS_LOST]⟩

theorem bounded_queueNotif (d : Dev) (sess : Nat) (n : Notif) : Bounded hostMargin d (queueNotif d sess n) := by
  unfold queueNotif
  split
  · exact .refl d
  · exact .ite (fun _ => (Bounded.refl d).put .noap rfl) fun _ => (Bounded.refl d).nInc

theorem bounded_notifyController (d : Dev) (n : Notif) : Bounded hostMargin d (notifyController d n) := by
  unfold notifyController
  split
  · exact bounded_queueNotif d _ n
  · exact .refl d

theorem bounded_hostClaim (d : Dev) (n : Nat) (held : Bool) : Bounded hostMargin d (hostClaim d n held) := by
  have hclaimed (e : Events) : Bounded hostMargin d (claimSource { d with events := e } n 0) :=
    ((Bounded.refl d).put .events rfl).add (bounded_claimSource _ n 0)
  unfold hostClaim
  exact .ite (fun _ => ((hclaimed _).trans (bounded_notifyController _ _)).add (bounded_endSource _ n)) fun _ =>
    (hclaimed _).trans (bounded_notifyController _ _)

theorem bounded_doHostClaim (n : Fin 1024) (d : Dev) : Bounded hostMargin d (doHostClaim n d) :=
  .whenever fun _ => bounded_hostClaim d n.val false

/-- What a write of HOST_STATE changes. -/
def hostStateMargin : Margin := hostMargin.join (answerMargin.join ⟨[], [], [evCtl_HOST_STATE]⟩)

theorem bounded_wakeHost (d : Dev) : Bounded hostStateMargin d (wakeHost d) := by
  have hawake (e : Events) : Bounded hostStateMargin d { nSet d evCtl_HOST_STATE 0 with events := e } :=
    ((Bounded.refl d).nSet _).put .events rfl
  exact .otherwise fun _ => (hawake _).foldl _ fun e n _ => .whenever fun _ => (bounded_hostClaim e n true).mono

theorem bounded_hostStateWrite (d : Dev) (sess v : Nat) : Bounded hostStateMargin d (hostStateWrite d sess v).1 := by
  unfold hostStateWrite
  split
  · exact .refl d
  split
  · exact bounded_wakeHost d
  split
  · exact (Bounded.refl d).nSet _
  · exact .refl d

/-- What a write of a source's routing changes. -/
def routingMargin : Margin := claimMargin.join (answerMargin.join ⟨[], [], [ev_TARGET 0, ev_PROGRAM 0, ev_WAKE_HOST 0]⟩)

theorem bounded_routingWrite (d : Dev) (n m v : Nat) : Bounded routingMargin d (routingWrite d n m v).1 := by
  unfold routingWrite
  split
  · exact .refl d
  split
  · split
    · exact ((Bounded.refl d).nSet _).add (bounded_firekeeperClaim _ n)
    · exact .refl d
  split
  · split
    · exact (Bounded.refl d).nSet _
    split
    · exact .refl d
    split
    · exact .refl d
    split
    · exact .refl d
    · exact (Bounded.refl d).nSet _
  split
  · split
    · exact (Bounded.refl d).nSet _
    · exact .refl d
  split
  · exact .refl d
  · exact .refl d

/-- What a write of HOLDOFF_US changes. -/
def holdoffMargin : Margin := claimMargin.join (answerMargin.join ⟨[], [], [damper_HOLDOFF_US 0]⟩)

theorem bounded_holdoffWrite (d : Dev) (g v : Nat) : Bounded holdoffMargin d (holdoffWrite d g v).1 := by
  have hset : Bounded holdoffMargin d (nSet d (damper_HOLDOFF_US g) v) := (Bounded.refl d).nSet _
  unfold holdoffWrite
  split
  · exact .ite (fun _ => hset.add (bounded_endHold _ g)) fun _ => hset
  · exact .refl d

/-- What RING changes. -/
def ringMargin : Margin := raiseMargin.join answerMargin

theorem bounded_ringAction (d : Dev) (n : Nat) : Bounded ringMargin d (ringAction d n).1 := by
  unfold ringAction
  split
  · dsimp only
    exact (Bounded.refl d).raiseBy n 1
  · exact .refl d

/-! ### Entries of the signal map (R277, R281 to R287) -/

/-- What a value of an entry changes. -/
def entryMargin : Margin := ⟨[.dirty, .hearth, .audio], [], [slot_SHOWN 0, sig_STATE 0, sig_IN_LOSS 0]⟩

theorem bounded_retime (d : Dev) (was i : Nat) : Bounded entryMargin d (retime d was i) :=
  .otherwise fun _ => (Bounded.refl d).put .hearth rfl

theorem bounded_recombineFor (was d : Dev) (n : Nat) : Bounded entryMargin d (recombineFor was d n) :=
  (Bounded.refl d).foldl _ fun e i _ => (bounded_retime e _ i).nSet _

theorem bounded_writeEntryState (d : Dev) (n st : Nat) : Bounded entryMargin d (writeEntryState d n st) :=
  Bounded.nSet ((Bounded.refl d).put .audio rfl) _

theorem bounded_entryChange {F : Margin} (lag : Nat) (d : Dev) (n : Nat) {f : Dev → Dev} (hf : ∀ e, Bounded F e (f e))
    (hF : entryMargin.sub F = true := by decide) : Bounded F d (entryChange lag d n f) := by
  have hnoted : Bounded entryMargin d (noteEntry d n lag) := (Bounded.refl d).put .hearth rfl
  exact ((hnoted.mono hF).trans (hf _)).trans ((bounded_recombineFor d _ n).mono hF)

theorem bounded_applyValue (lag : Nat) (d : Dev) (n v : Nat) : Bounded entryMargin d (applyValue lag d n v) := by
  refine bounded_entryChange lag d n fun e => ?_
  have hset : Bounded entryMargin e (nSet e (sig_IN_LOSS n) 0) := (Bounded.refl e).nSet _
  exact .ite (fun _ => hset) fun _ => hset.trans (bounded_writeEntryState _ n _)

/-! ### Pins (R641 to R653) -/

/-- What a matcher's output changes, with the events and the entries that follow it. -/
def matcherMargin : Margin :=
  raiseMargin.join (entryMargin.join ⟨[], [], [ev_LEVEL 0, matcher_OUTPUT 0, matcher_CHANGES 0]⟩)

theorem bounded_setLevel (d : Dev) (n : Nat) (b : Bool) : Bounded matcherMargin d (setLevel d n b) := by
  have hset : Bounded matcherMargin d (nSet d (ev_LEVEL n) b.toNat) := (Bounded.refl d).nSet _
  exact .ite (fun _ => hset.raiseBy n 1) fun _ => hset

theorem bounded_matcherOutput (d : Dev) (k v : Nat) : Bounded matcherMargin d (matcherOutput d k v) := by
  have hset : Bounded matcherMargin d (nInc (nSet d (matcher_OUTPUT k) v) (matcher_CHANGES k)) := ((Bounded.refl d).nSet _).nInc
  exact .otherwise fun _ => (hset.foldl _ fun e n _ => (bounded_applyValue 15 e n v).mono).trans (bounded_setLevel _ _ _)

theorem bounded_doMatcherDebounceExpiry (m : Fin 32) (d : Dev) : Bounded matcherMargin d (doMatcherDebounceExpiry m d) :=
  .whenever fun _ => ((Bounded.refl d).disarm _ _).trans (bounded_matcherOutput _ _ _)

/-- What the pads as they stand change. -/
def pinMargin : Margin := matcherMargin.join ⟨[.pins], [], [bank_DATA_IN 0]⟩

theorem bounded_matcherLook (d : Dev) (k : Nat) : Bounded pinMargin d (matcherLook d k) := by
  have hset (x : SMap Nat) : Bounded pinMargin d { d with pins.matchResult := x } := (Bounded.refl d).put .pins rfl
  exact .ite (fun _ => (hset _).disarm _ _) fun _ => .ite (fun _ => ((hset _).disarm _ _).add (bounded_matcherOutput _ k _)) fun _ =>
    .ite (fun _ => (hset _).arm _ _ _) fun _ => hset _

theorem bounded_readPads (d : Dev) : Bounded pinMargin d (readPads d) :=
  Bounded.foldl ((Bounded.refl d).put .pins rfl) _ fun e _ _ => (Bounded.refl e).nSet _

theorem bounded_settlePins (d : Dev) : Bounded pinMargin d (settlePins d) :=
  .otherwise fun _ => (bounded_readPads d).foldl _ fun e k _ => bounded_matcherLook e k

theorem bounded_doGpioEdge (pin : Fin 160) (level : Bool) (d : Dev) : Bounded pinMargin d (doGpioEdge pin level d) :=
  Bounded.trans ((Bounded.refl d).put .pins rfl) (bounded_settlePins _)

/-- What the levels of the HVS inputs change. -/
def hvsMargin : Margin := pinMargin.join ⟨[], [], [hvs_LEVEL 0]⟩

theorem bounded_hvsLevel (d : Dev) (k v : Nat) : Bounded hvsMargin d (hvsLevel d k v) :=
  (Bounded.add (Bounded.nSet ((Bounded.refl d).put .pins rfl) _) (bounded_setLevel _ _ _)).add (bounded_settlePins _)

theorem bounded_hvsLook (d : Dev) (k : Nat) : Bounded hvsMargin d (hvsLook d k) :=
  .ite (fun _ => (Bounded.refl d).disarm _ _) fun _ => .ite (fun _ => bounded_hvsLevel d k _) fun _ => (Bounded.refl d).arm _ _ _

theorem bounded_doHvsThresholdCrossing (k : Fin 8) (above : Bool) (d : Dev) : Bounded hvsMargin d (doHvsThresholdCrossing k above d) := by
  have hset (x : SMap Nat) : Bounded hvsMargin d { d with pins.hvsCompare := x } := (Bounded.refl d).put .pins rfl
  exact .otherwise fun _ => .ite (fun _ => hset _) fun _ => (hset _).trans (bounded_hvsLook _ k.val)

theorem bounded_doHvsFilterExpiry (k : Fin 8) (d : Dev) : Bounded hvsMargin d (doHvsFilterExpiry k d) :=
  .whenever fun _ => ((Bounded.refl d).disarm _ _).trans (bounded_hvsLevel _ _ _)

/-- What driving the pads changes. -/
def driveMargin : Margin := pinMargin.join ⟨[], [], [bank_OWNER 0]⟩

theorem bounded_drivePads (d : Dev) : Bounded driveMargin d (drivePads d) := by
  refine .otherwise fun _ => Bounded.add (Bounded.foldl (Bounded.ite (fun _ => Bounded.useFree ?_) fun _ => ?_) _ fun e b _ => ?_)
    (bounded_settlePins _)
  · exact (Bounded.refl d).foldl _ fun e p _ => (Bounded.refl e).put .pins rfl
  · exact (Bounded.refl d).foldl _ fun e p _ => (Bounded.refl e).put .pins rfl
  · exact (Bounded.refl e).bSet _

/-- What SET, CLEAR and TOGGLE change. -/
def bankMargin : Margin := driveMargin.join (answerMargin.join ⟨[], [], [bank_DATA_OUT 0]⟩)

theorem bounded_bankAction (d : Dev) (b new mask : Nat) : Bounded bankMargin d (bankAction d b new mask).1 := by
  unfold bankAction
  split
  · exact .refl d
  · exact ((Bounded.refl d).nSet _).add (bounded_drivePads _)

/-- What a write of a member of class 58 changes. -/
def class58Margin : Margin := driveMargin.join (answerMargin.join ⟨[], [0x58], []⟩)

theorem admits_class58 (m : Nat) : (class58Margin.parts.contains .dirty && class58Margin.admits (0x58 % 256) (m % 256)) = true := rfl

theorem bounded_routeWrite (d : Dev) (mem v : Nat) : Bounded class58Margin d (routeWrite d mem v).1 := by
  unfold routeWrite
  split
  · exact .refl d
  split
  · exact .refl d
  split
  · exact .refl d
  split
  · exact .refl d
  · exact ((Bounded.refl d).nSet _ (admits_class58 mem)).add (bounded_drivePads _)

theorem bounded_matcherWrite (d : Dev) (k mem v : Nat) : Bounded class58Margin d (matcherWrite d k mem v).1 := by
  unfold matcherWrite
  split
  · exact .refl d
  split
  · exact .refl d
  split
  · exact .refl d
  split
  · exact .refl d
  split
  · exact .refl d
  split
  · exact .refl d
  · exact (((Bounded.refl d).nSet _ (admits_class58 mem)).disarm _ _).add (bounded_settlePins _)

/-! ### Register crossings (R11 to R16) -/

/-- What a register access of any island changes. -/
def registerMargin : Margin := ⟨raiseParts ++ registerReach.parts, registerReach.classes, raiseMembers ++ registerReach.members⟩

theorem bounded_arriveFrom (m : List Host.Cell) (dst : Nat) (d : Dev) (src : Nat) (hd : SceneKeys d.scene.alloc) :
    Bounded registerMargin d (arriveFrom m dst d src) := by
  unfold arriveFrom
  split
  · exact .refl d
  · exact ((Bounded.refl d).put .islands rfl).addWithin (within_arriveReg _ m _ hd)

theorem Bounded.foldl_keys {F : Margin} {d e : Dev} {α : Type} {step : Dev → α → Dev} (h : Bounded F d e) (l : List α)
    (hstep : ∀ e a, SceneKeys e.scene.alloc → Bounded F e (step e a)) (hd : SceneKeys d.scene.alloc) : Bounded F d (l.foldl step e) := by
  induction l generalizing e with
  | nil => exact h
  | cons a l ih => exact ih (h.trans (hstep e a (h.keys hd)))

theorem bounded_doUntimedWriteArrival (dst : Fin 105) (srcs : List (Fin 105)) (m : List Host.Cell) (d : Dev) (hd : SceneKeys d.scene.alloc) :
    Bounded registerMargin d (doUntimedWriteArrival dst srcs m d) :=
  (Bounded.refl d).foldl_keys _ (fun e src he => bounded_arriveFrom m dst.val e src he) hd

theorem bounded_doGatedIslandAccessResume (isl : Fin 105) (m : List Host.Cell) (d : Dev) (hd : SceneKeys d.scene.alloc) :
    Bounded registerMargin d (doGatedIslandAccessResume isl m d) :=
  Bounded.foldl_keys ((Bounded.refl d).put .islands rfl) _ (fun e w he => .ofWithin (within_applyReg e m w he)) hd

/-- What a register write of an island changes. -/
def registerWriteMargin : Margin := registerMargin.join ⟨[], [], [mem_UNMAPPED_ACCESSES]⟩

theorem bounded_doRegisterWrite (src : Fin 105) (addr : Nat) (v : Word) (m : List Host.Cell) (d : Dev) (hd : SceneKeys d.scene.alloc) :
    Bounded registerWriteMargin d (doRegisterWrite src addr v m d) := by
  unfold doRegisterWrite
  split
  · exact .ite (fun _ => .ofWithin (within_sendReg d m _ hd)) fun _ => (Bounded.refl d).nInc
  · exact (Bounded.refl d).nInc

/-- What a bad or corrected block of DRAM or a bank's word changes that a master finds (R470, R473, R483, R488). -/
def retireMargin : Margin := ⟨raiseParts ++ retireReach.parts, retireReach.classes, raiseMembers ++ retireReach.members⟩

/-- What a blitter ring changes that is read anew. -/
def kickMargin : Margin := retireMargin.join ⟨[.movers], [], [blit_RINGS_ACTIVE]⟩

theorem bounded_updRing (d : Dev) (r : Nat) (f : Ring → Ring) : Bounded kickMargin d (updRing d r f) :=
  Bounded.nSet ((Bounded.refl d).put .movers rfl) _

theorem bounded_kickRing (d : Dev) (m : List Host.Cell) (r : Nat) (hd : SceneKeys d.scene.alloc) : Bounded kickMargin d (kickRing d m r) :=
  .otherwise fun _ => .ite (fun _ => bounded_updRing d r _) fun _ =>
    (Bounded.ofWithin (within_readProduce d m r hd)).trans (bounded_updRing _ r _)

/-- What a doorbell changes: its source, or a ring that it kicks. -/
def doorbellMargin : Margin := kickMargin.join ⟨[], [], [evCtl_DOORBELL_REJECTS, ring_FOREIGN_KICKS 0]⟩

theorem bounded_doorbell (d : Dev) (m : List Host.Cell) (prog : Ref) (v : Nat) (hd : SceneKeys d.scene.alloc) :
    Bounded doorbellMargin d (doorbell d m prog v) := by
  have hraise (n amt : Nat) : Bounded doorbellMargin d (raiseBy d n amt) := (Bounded.refl d).raiseBy n amt
  refine .ite (fun _ => hraise _ _) fun _ => .ite (fun _ => .ite (fun _ => ?_) fun _ => (Bounded.refl d).nInc) fun _ => (Bounded.refl d).nInc
  exact (hraise _ _).add (bounded_kickRing _ m _ ((hraise _ _).keys hd))

/-! ### The commands -/

theorem frameRegisterWrite : FrameRegisterWrite := fun src addr v =>
  onlyChangesScene_of_dev (fun _ => rfl) fun s hs => bounded_doRegisterWrite src addr v s.mem s.dev hs

theorem frameUntimedWriteArrival : FrameUntimedWriteArrival := fun dst srcs =>
  onlyChangesScene_of_dev (fun _ => rfl) fun s hs => bounded_doUntimedWriteArrival dst srcs s.mem s.dev hs

theorem frameGatedIslandAccessResume : FrameGatedIslandAccessResume := fun isl =>
  onlyChangesScene_of_dev (fun _ => rfl) fun s hs => bounded_doGatedIslandAccessResume isl s.mem s.dev hs

theorem frameGpioEdge : FrameGpioEdge := fun pin level => onlyChanges_of_dev (fun _ => rfl) fun s => bounded_doGpioEdge pin level s.dev

theorem frameMatcherDebounceExpiry : FrameMatcherDebounceExpiry := fun m =>
  onlyChanges_of_dev (fun _ => rfl) fun s => bounded_doMatcherDebounceExpiry m s.dev

theorem frameDoorbell : FrameDoorbell := fun writer v =>
  onlyChangesScene_of_dev (fun _ => rfl) fun s hs => bounded_doorbell s.dev s.mem writer v.toNat hs

theorem frameRingAction : FrameRingAction := fun _ source =>
  onlyChanges_of_dev (fun _ => rfl) fun s => .withGate (bounded_ringAction s.dev source)

theorem frameHostClaim : FrameHostClaim := fun source => onlyChanges_of_dev (fun _ => rfl) fun s => bounded_doHostClaim source s.dev

theorem frameDamperHoldExpiry : FrameDamperHoldExpiry := fun g => onlyChanges_of_dev (fun _ => rfl) fun s => bounded_doDamperHoldExpiry g s.dev

theorem frameEventRoutingWrite : FrameEventRoutingWrite := fun _ source m v =>
  onlyChanges_of_dev (fun _ => rfl) fun s => .withGate (bounded_routingWrite s.dev source.val m v)

theorem frameHoldoffWrite : FrameHoldoffWrite := fun _ g v =>
  onlyChanges_of_dev (fun _ => rfl) fun s => .withGate (bounded_holdoffWrite s.dev g.val v)

theorem frameHostStateWrite : FrameHostStateWrite := fun sess v =>
  onlyChanges_of_dev (fun _ => rfl) fun s => .withGate (bounded_hostStateWrite s.dev sess v)

theorem frameSet : FrameSet := by
  intro sess b mask
  simp only [List.forall_mem_cons, List.not_mem_nil, false_imp_iff, implies_true, and_true]
  exact ⟨onlyChanges_of_dev (fun _ => rfl) fun s => .withGate (bounded_bankAction s.dev b.val _ mask),
    onlyChanges_of_dev (fun _ => rfl) fun s => .withGate (bounded_bankAction s.dev b.val _ mask),
    onlyChanges_of_dev (fun _ => rfl) fun s => .withGate (bounded_bankAction s.dev b.val _ mask)⟩

theorem frameRouteWrite : FrameRouteWrite := fun _ m v => onlyChanges_of_dev (fun _ => rfl) fun s => .withGate (bounded_routeWrite s.dev m v)

theorem frameMatcherWrite : FrameMatcherWrite := fun _ k m v =>
  onlyChanges_of_dev (fun _ => rfl) fun s => .withGate (bounded_matcherWrite s.dev k.val m v)

theorem frameHvsThresholdCrossing : FrameHvsThresholdCrossing := fun k above =>
  onlyChanges_of_dev (fun _ => rfl) fun s => bounded_doHvsThresholdCrossing k above s.dev

theorem frameHvsFilterExpiry : FrameHvsFilterExpiry := fun k => onlyChanges_of_dev (fun _ => rfl) fun s => bounded_doHvsFilterExpiry k s.dev

/-- Settles O51, clause by clause. -/
theorem frameFabricEventsPins : Obligations.FrameFabricEventsPins :=
  ⟨frameRegisterWrite, frameUntimedWriteArrival, frameGatedIslandAccessResume, frameGpioEdge, frameMatcherDebounceExpiry, frameDoorbell,
    frameRingAction, frameHostClaim, frameDamperHoldExpiry, frameEventRoutingWrite, frameHoldoffWrite, frameHostStateWrite, frameSet,
    frameRouteWrite, frameMatcherWrite, frameHvsThresholdCrossing, frameHvsFilterExpiry⟩

end Sys2Proof.Machine
end

section
/-!
Instructions and thread events that reach memory, ports and waits, within their frames (O50): R313 to R347, R353, R366 to R384.
-/
-- One proof at a time: the tasks of many short proofs wait on one another, and each holds a stack of its own.
set_option Elab.async false
namespace Sys2Proof.Machine

/-! ### Instructions -/

/-- A command that is the issue of an instruction whose effect is within a reach has the frame of that reach. -/
theorem onlyChanges_of_issueWithin {R : Reach} {c : Instr} {eff : Effect} {op t : Nat} {w : Be32Op} {ps : List Part} {cs : List Nat}
    {ks : List Ref} (hexec : ∀ s, exec c s = .next (issue eff op t w s)) (heff : ∀ s, RanWithin R s (eff s t w))
    (hissue : issueReach.sub R = true := by decide)
    (hsub : Margin.sub ⟨raiseParts ++ R.parts, R.classes, raiseMembers ++ R.members⟩ ⟨ps, cs, ks⟩ = true := by decide) : OnlyChanges c ps cs ks := by
  intro s u hnext
  obtain rfl := Host.Outcome.next.inj ((hexec s).symm.trans hnext)
  have hstep : StepWithin R s (issue eff op t w s) := stepWithin_issue hissue fun u _ => heff u
  refine differOnly_of_bounded (.ofWithin hstep.dev hsub) ?_
  by_cases hmem : R.allParts.contains .mem = true
  · simp only [Margin.sub, Bool.and_eq_true, List.all_eq_true] at hsub
    exact .inr (hsub.1.1 _ (List.contains_iff_mem.mp hmem))
  · exact .inl (hstep.mem (eq_false_of_ne_true hmem))

theorem frameStT : FrameStT := by
  intro t w s u hs hnext
  obtain rfl := Host.Outcome.next.inj hnext
  have hstep : StepWithin beamPortReach s (issue effStT 0x0B t.val w s) :=
    stepWithin_issue (by decide) fun _ hu => ranWithin_timedEffect t w (hu.dev.keys hs)
  exact hstep.differOnly_of_sub rfl (by decide)

theorem frameWaitpos : FrameWaitpos := by
  intro t w
  simp only [List.forall_mem_cons, List.not_mem_nil, false_imp_iff, implies_true, and_true]
  exact ⟨onlyChanges_of_issue (fun _ => rfl) fun s => ranWithin_waitPosEffect s t.val w,
    onlyChanges_of_issue (fun _ => rfl) fun s => ranWithin_effWaitev s t.val w,
    onlyChanges_of_issue (fun _ => rfl) fun s => ranWithin_syncfEffect s t.val w,
    onlyChanges_of_issue (fun _ => rfl) fun s => ranWithin_fenceEffect s t.val w,
    onlyChanges_of_issue (fun _ => rfl) fun s => ranWithin_farbEffect s t.val w,
    onlyChanges_of_issue (fun _ => rfl) fun s => ranWithin_cinvEffect s t.val w,
    onlyChanges_of_issue (fun _ => rfl) fun s => ranWithin_cinvaEffect s t.val w,
    onlyChanges_of_issue (fun _ => rfl) fun s => ranWithin_postEffect _ s t.val w,
    onlyChanges_of_issue (fun _ => rfl) fun s => ranWithin_postEffect _ s t.val w⟩

/-- What EOI changes: the issue, and its count of errors (R620). -/
def eoiReach : Reach where
  parts := issueReach.parts
  classes := issueReach.classes
  members := issueReach.members ++ [evCtl_EOI_ERRORS]
  counts := by decide

theorem ranWithin_effEoi_eoiReach (s : State) (t : Nat) (w : Be32Op) : RanWithin eoiReach s (effEoi s t w) := by
  refine .done (.ofDev ?_) none
  unfold eoi
  exact Within.ite (fun _ => (Within.refl _).endSource _) fun _ => (Within.refl _).nSet _ (by decide)

theorem frameEoi : FrameEoi := fun t w => onlyChanges_of_issueWithin (fun _ => rfl) fun s => ranWithin_effEoi_eoiReach s t.val w

/-! ### Waits that end -/

/-- What a thread's wait changes that ends: its thread and RUN_STATE. -/
def threadMargin : Margin := ⟨[.dirty, .threads], [], [prog_RUN_STATE 0]⟩

theorem bounded_updThread (d : Dev) (t : Nat) (f : Thread → Thread) : Bounded threadMargin d (updThread d t f) := (Bounded.refl d).put .threads rfl

theorem bounded_setRun (d : Dev) (t : Nat) (st : TState) : Bounded threadMargin d (setRun d t st) :=
  .ite (fun _ => bounded_updThread d t _) fun _ => (bounded_updThread d t _).nSet _

theorem bounded_doWaitposEnd (t : Fin 384) (d : Dev) : Bounded threadMargin d (doWaitposEnd t d) := by
  unfold doWaitposEnd
  split
  · exact .otherwise fun _ => .whenever fun _ => (bounded_updThread d t.val _).trans (bounded_setRun _ t.val _)
  · exact .refl d

theorem frameWaitposEnd : FrameWaitposEnd := fun t => onlyChanges_of_dev (fun _ => rfl) fun s => bounded_doWaitposEnd t s.dev

/-- What a claim for a thread changes. -/
def threadClaimMargin : Margin := claimMargin.join threadMargin

theorem bounded_claimFor (d : Dev) (t n : Nat) : Bounded threadClaimMargin d (claimFor d t n) := by
  unfold claimFor
  exact ((Bounded.refl d).add (bounded_claimSource d n (t + 1))).add (bounded_updThread _ t _)

theorem bounded_doWaitevClaim (t : Fin 384) (d : Dev) : Bounded threadClaimMargin d (doWaitevClaim t d) := by
  unfold doWaitevClaim
  split
  · exact ((bounded_claimFor d t.val _).add (bounded_updThread _ t.val _)).add (bounded_setRun _ t.val _)
  · exact .refl d

theorem frameWaitevClaim : FrameWaitevClaim := fun t => onlyChanges_of_dev (fun _ => rfl) fun s => bounded_doWaitevClaim t s.dev

/-! ### Posts and timed writes that leave -/

/-- What a post changes that leaves its queue. -/
def postMargin : Margin := registerMargin.join ⟨[.posts], [], [dma_STATE 0, dma_QUEUED 0, dma_FOREIGN_POSTS 0]⟩

theorem bounded_updChan (d : Dev) (n : Nat) (f : DmaChan → DmaChan) :
    Bounded ⟨[.dirty, .movers], [], [dma_STATE 0, dma_QUEUED 0]⟩ d (updChan d n f) :=
  Bounded.nSet (Bounded.nSet ((Bounded.refl d).put .movers rfl) _) _

theorem bounded_doPostQueueDepart (e : Fin 96) (m : List Host.Cell) (d : Dev) (hd : SceneKeys d.scene.alloc) :
    Bounded postMargin d (doPostQueueDepart e m d) := by
  have hpopped (x : Dev) : Bounded postMargin x (popPost x e.val) := (Bounded.refl x).put .posts rfl
  unfold doPostQueueDepart
  split
  · exact .refl d
  · refine .otherwise fun _ => ?_
    split
    · exact (hpopped d).addWithin (within_sendReg _ m _ hd)
    · refine .ite (fun _ => (hpopped d).nInc) fun _ => ?_
      split
      · exact .refl d
      next n _ x hqueued =>
        have hin : Bounded postMargin d x := by
          unfold enqueueList at hqueued
          split at hqueued
          · exact absurd hqueued (by simp)
          · exact Option.some.inj hqueued ▸ (bounded_updChan d _ _).mono
        exact hin.trans (hpopped x)

theorem framePostQueueDepart : FramePostQueueDepart := fun e =>
  onlyChangesScene_of_dev (fun _ => rfl) fun s hs => bounded_doPostQueueDepart e s.mem s.dev hs

/-- What a timed write changes where it lands. -/
def landingMargin : Margin := ⟨[.dirty, .heads, .pipes], [], [head_LOCKED_WRITES 0, prog_DROPPED_WRITES 0]⟩

theorem bounded_updPipe (d : Dev) (p : Nat) (f : Pipe → Pipe) : Bounded landingMargin d (updPipe d p f) := (Bounded.refl d).put .pipes rfl

theorem bounded_updHead (d : Dev) (h : Nat) (f : HeadSt → HeadSt) : Bounded landingMargin d (updHead d h f) := (Bounded.refl d).put .heads rfl

theorem bounded_countDropped (d : Dev) (prog : Ref) : Bounded landingMargin d (countDropped d prog) := .otherwise fun _ => (Bounded.refl d).nInc

theorem bounded_pipeWrite (d : Dev) (p off val line : Nat) (prog : Ref) (timed : Bool) :
    Bounded landingMargin d (pipeWrite d p off val line prog timed) := by
  have hdropped := bounded_countDropped d prog
  have hno : Bounded landingMargin d (if timed then countDropped d prog else d) := .whenever fun _ => hdropped
  unfold pipeWrite
  refine .ite (fun _ => hno) fun _ => .ite (fun _ => ?_) fun _ => .ite (fun _ => bounded_updPipe d p _) fun _ =>
    .ite (fun _ => bounded_updPipe d p _) fun _ => .ite (fun _ => ?_) fun _ => hno
  · exact .ite (fun _ => bounded_updPipe d p _) fun _ => .ite (fun _ => bounded_updPipe d p _) fun _ => hno
  · split
    · exact hdropped
    · split
      · exact hdropped
      · split
        · exact hdropped
        · exact .ite (fun _ => hdropped) fun _ => bounded_updPipe d p _

theorem bounded_headWrite (d : Dev) (h off val : Nat) (prog : Ref) (timed : Bool) (pos : Nat × Nat) :
    Bounded landingMargin d (headWrite d h off val prog timed pos) :=
  .ite (fun _ => .ite (fun _ => (Bounded.refl d).nInc) fun _ => .ite (fun _ => bounded_updHead d h _) fun _ => bounded_updHead d h _)
    fun _ => .ite (fun _ => bounded_updHead d h _) fun _ => .ite (fun _ => bounded_updHead d h _) fun _ => .whenever fun _ =>
      bounded_countDropped d prog

theorem bounded_recompose (d : Dev) (m : List Host.Cell) (h line col : Nat) : Bounded landingMargin d (recompose d m h line col) := by
  unfold recompose
  exact bounded_updHead d h _

theorem bounded_pipeLand (d : Dev) (m : List Host.Cell) (p off val : Nat) (prog : Ref) (line col : Nat) (timed : Bool) :
    Bounded landingMargin d (pipeLand d m p off val prog line col timed) := by
  have hwrite := bounded_pipeWrite d p off val line prog timed
  unfold pipeLand
  dsimp only
  split
  · exact .ite (fun _ => hwrite.trans (bounded_recompose _ m _ line col)) fun _ => hwrite
  · exact hwrite

theorem bounded_doTimedWriteLanding (isl : Fin 105) (m : List Host.Cell) (d : Dev) : Bounded landingMargin d (doTimedWriteLanding isl m d) := by
  unfold doTimedWriteLanding
  split
  · exact .refl d
  · dsimp only
    split
    · exact .refl d
    · have htaken (l : List TimedWrite) : Bounded landingMargin d (setTimed d isl.val l) := (Bounded.refl d).put .pipes rfl
      exact .whenever fun _ => .ite (fun _ => (htaken _).trans (bounded_pipeLand _ m _ _ _ _ _ _ _)) fun _ =>
        (htaken _).trans (bounded_headWrite _ _ _ _ _ _ _)

theorem frameTimedWriteLanding : FrameTimedWriteLanding := fun isl =>
  onlyChanges_of_dev (fun _ => rfl) fun s => bounded_doTimedWriteLanding isl s.mem s.dev

/-! ### Data, drains and responses -/

theorem within_drainDue (d : Dev) (t : Nat) (all : Bool) (stores : List StoreEntry) : Within issueReach d (drainDue d t all stores) := by
  induction stores generalizing d with
  | nil => exact within_updThread d t _
  | cons e rest ih =>
    have hput : Within issueReach d (scratchPut d t e.addr e.bytes) := (Within.refl d).put .scratch (by decide) rfl
    exact Within.ite (fun _ => hput.trans (ih _)) fun _ => within_updThread d t _

/-- The device when the oldest far-window store of a thread has its response (R329). -/
def farAnswered (d : Dev) (t : Nat) : Dev :=
  let e := updThread d t (fun x => { x with farStores := x.farStores - 1 })
  { e with beam.bells := e.beam.bells.map (fun b => if b.thread = t then { b with need := b.need - 1 } else b) }

/-- The device when a thread's posts wait for one response less (R380). -/
def postsAnswered (d : Dev) (t : Nat) : Dev :=
  { d with beam.posts := mapSet d.beam.posts (t / 4) ((postsOf d (t / 4)).map
    (fun p => if p.thread = t then { p with need := p.need - 1 } else p)) [] }

theorem doFarWriteResponse_eq (t : Fin 384) (s : State) : doFarWriteResponse t s =
    if (threadOf s.dev t.val).farStores = 0 ∨ bellUnderWay s.dev t.val then s
    else retry (withDev s (postsAnswered (leaveBells (farAnswered s.dev t.val) s.mem t.val) t.val)) t.val := rfl

section
variable {s : State}

theorem stepWithin_doStoreDrain (t : Fin 384) (hs : SceneKeys s.dev.scene.alloc) : StepWithin anyReach s (doStoreDrain t s) := by
  have hdrained : StepWithin anyReach s (withDev s (drainDue s.dev t.val false (threadOf s.dev t.val).stores)) :=
    .ofDev ((within_drainDue _ _ _ _).mono (by decide))
  unfold doStoreDrain
  split
  · exact hdrained.trans (stepWithin_retry _ _ (hdrained.dev.keys hs))
  · exact .refl s

theorem within_leaveBells (d : Dev) (m : List Host.Cell) (t : Nat) (hd : SceneKeys d.scene.alloc) : Within anyReach d (leaveBells d m t) :=
  Within.foldl ((Within.refl d).put .bells (by decide) rfl) _ fun e b _ h => h.add (within_sendReg e m _ (h.keys hd)) (by decide)

theorem stepWithin_doFarWriteResponse (t : Fin 384) (hs : SceneKeys s.dev.scene.alloc) : StepWithin anyReach s (doFarWriteResponse t s) := by
  have hanswered : Within anyReach s.dev (farAnswered s.dev t.val) :=
    Within.put (f := farAnswered s.dev t.val) ((within_updThread s.dev t.val _).mono (by decide)) .bells (by decide) rfl
  have hleft : Within anyReach s.dev (postsAnswered (leaveBells (farAnswered s.dev t.val) s.mem t.val) t.val) :=
    (hanswered.trans (within_leaveBells _ s.mem t.val (hanswered.keys hs))).put .posts (by decide) rfl
  rw [doFarWriteResponse_eq]
  split
  · exact .refl s
  · exact (StepWithin.ofDev hleft).trans (stepWithin_retry _ _ (hleft.keys hs))

theorem stepWithin_arrive (t : Nat) (v : Word) (hs : SceneKeys s.dev.scene.alloc) : StepWithin anyReach s (arrive s t v) := by
  have hthread : StepWithin anyReach s (withThread s t (fun x => { x with arrived := some v })) := (StepWithin.refl s).thread (by decide) t _
  exact hthread.trans (stepWithin_retry _ _ (hthread.dev.keys hs))

theorem within_fillLine (d : Dev) (m : List Host.Cell) (t a : Nat) : Within anyReach d (fillLine d m t a) :=
  Within.put (f := fillLine d m t a) (Within.ite (fun _ => (Within.refl d).useFree) fun _ => .refl d) .dcache (by decide) rfl

theorem stepWithin_arriveFar (t a n : Nat) (hs : SceneKeys s.dev.scene.alloc) : StepWithin anyReach s (arriveFar s t a n) := by
  have harrive {d : Dev} (hd : Within anyReach s.dev d) (v : Word) : StepWithin anyReach s (arrive (withDev s d) t v) :=
    (StepWithin.ofDev hd).trans (stepWithin_arrive t v (hd.keys hs))
  have hfault {d : Dev} (hd : Within anyReach s.dev d) : StepWithin anyReach s (withDev s (faultThread d t 5)) :=
    .ofDev (hd.trans ((within_faultThread d t 5).mono (by decide)))
  unfold arriveFar
  dsimp only
  split
  · split
    · exact .refl s
    · split
      · exact hfault (.refl _)
      · exact harrive (within_fillLine _ _ _ _) _
  · split
    · exact .refl s
    · exact harrive ((within_clusterRead _ _ _).mono (by decide)) _
  · exact stepWithin_arrive t 0 hs
  · exact stepWithin_arrive t 0 hs
  · split
    · exact stepWithin_arrive t _ hs
    · exact hfault ((within_readRange _ _ _ 4 hs).mono (by decide))

theorem within_countOff (d : Dev) (isl : Nat) : Within anyReach d (countOff d isl) :=
  Within.ite (fun _ => (((Within.refl d).nSet _ (by decide)).nSet _ (by decide))) fun _ => .refl d

theorem stepWithin_arrivePort (t : Nat) (w : Be32Op) (hs : SceneKeys s.dev.scene.alloc) : StepWithin anyReach s (arrivePort s t w) := by
  unfold arrivePort
  dsimp only
  split
  · exact stepWithin_arrive t 0 hs
  · next i _ _ =>
    have hcount := within_countOff s.dev i
    split
    · exact .refl s
    · exact (StepWithin.ofDev hcount).trans (stepWithin_arrive t _ (hcount.keys hs))

theorem stepWithin_doLoadDataArrival (t : Fin 384) (hs : SceneKeys s.dev.scene.alloc) : StepWithin anyReach s (doLoadDataArrival t s) := by
  unfold doLoadDataArrival
  split
  · dsimp only
    split
    · exact .refl s
    split
    · exact stepWithin_arrivePort t.val _ hs
    split
    · exact stepWithin_arriveFar t.val _ _ hs
    · exact .refl s
  · exact .refl s

theorem frameStoreDrain : FrameStoreDrain := by
  intro t
  simp only [List.forall_mem_cons, List.not_mem_nil, false_imp_iff, implies_true, and_true]
  refine ⟨?_, ?_, ?_⟩
  all_goals
    intro s u hs hnext
    obtain rfl := Host.Outcome.next.inj hnext
  · exact (stepWithin_doStoreDrain t hs).differOnly_of_sub rfl (by decide)
  · exact (stepWithin_doLoadDataArrival t hs).differOnly_of_sub rfl (by decide)
  · exact (stepWithin_doFarWriteResponse t hs).differOnly_of_sub rfl (by decide)

theorem stepWithin_retries (ts : List Nat) (hs : SceneKeys s.dev.scene.alloc) : StepWithin anyReach s (ts.foldl retry s) := by
  induction ts generalizing s with
  | nil => exact .refl s
  | cons t ts ih =>
    have hretried := stepWithin_retry s t hs
    exact hretried.trans (ih (hretried.dev.keys hs))

theorem stepWithin_doBeamPortQueueFree (isl : Fin 105) (hs : SceneKeys s.dev.scene.alloc) : StepWithin anyReach s (doBeamPortQueueFree isl s) := by
  unfold doBeamPortQueueFree
  split
  · exact stepWithin_retries _ hs
  · exact .refl s

end

theorem frameBeamPortQueueFree : FrameBeamPortQueueFree := by
  intro isl s u hs hnext
  obtain rfl := Host.Outcome.next.inj hnext
  exact (stepWithin_doBeamPortQueueFree isl hs).differOnly_of_sub rfl (by decide)

/-! ### Threads that start and stop (R348 to R353) -/

/-- What a placement that is taken changes, with the threads that it starts and stops. -/
def placeMargin : Margin :=
  claimMargin.join ⟨[.dram, .stoker, .pipes, .threads, .scratch], [0x1A], [prog_RUN_STATE 0, prog_ENGINE 0, prog_THREAD 0]⟩

theorem bounded_implicitEoi (d : Dev) (who : Nat) : Bounded claimMargin d (implicitEoi d who) :=
  (Bounded.refl d).foldl _ fun e x _ => (bounded_endSource e x.1).mono

theorem bounded_reportEngine (d : Dev) (e : Nat) : Bounded placeMargin d (reportEngine d e) := by
  have hmode (x y : Nat) : Bounded placeMargin d (nSets d [(engRep_MODE e, x), (engRep_SCRATCH_USED e, y)]) := ((Bounded.refl d).nSet _).nSet _
  refine (hmode _ _).foldl _ fun f k hk => (Bounded.refl f).nSet _ ?_
  obtain ⟨j, rfl⟩ : ∃ j : Fin 4, j.val = k := ⟨⟨k, List.mem_range.mp hk⟩, rfl⟩
  revert j
  decide

theorem bounded_stopThread (d : Dev) (t : Nat) : Bounded placeMargin d (stopThread d t) := by
  have hreported (i : Nat) : Bounded placeMargin d (nSets d [(prog_RUN_STATE i, 0), (prog_ENGINE i, 255), (prog_THREAD i, 255)]) :=
    (((Bounded.refl d).nSet _).nSet _).nSet _
  refine .otherwise fun _ => (Bounded.trans ?_ (bounded_reportEngine _ _)).add (bounded_implicitEoi _ _)
  exact Bounded.add (.ite (fun _ => .refl d) fun _ => hreported _) (bounded_updThread _ t _)

theorem bounded_leaveThread (d : Dev) (p : ProgPlace) : Bounded placeMargin d (leaveThread d p) := .whenever fun _ => bounded_stopThread d _

theorem bounded_fillView (d : Dev) (t : Nat) (img : List Byte) : Bounded placeMargin d (fillView d t img) := by
  have hfilled (r : Dram) (m : SMap Nat) : Bounded placeMargin d { d with dram := r, beam.scratch := m } :=
    Bounded.put (f := { d with dram := r, beam.scratch := m }) ((Bounded.refl d).put (f := { d with dram := r }) .dram rfl) .scratch rfl
  exact hfilled _ _

theorem bounded_cleanWords (d : Dev) (a n : Nat) : Bounded placeMargin d (cleanWords d a n) := (Bounded.refl d).put .dram rfl

/-- The thread of a place as a program's start finds it (R348). -/
def threadEntered (d : Dev) (p : ProgPlace) (code : Nat) (view : List Nat) : Dev :=
  updThread d (4 * p.engine + p.thread) (fun x => clearThread { Thread.reset with
    prog := p.prog, head := p.head, house := nGet d (prog_KIND (refInst p.prog)) == 1, footprint := nGet d (prog_FOOTPRINT (refInst p.prog)),
    bank := nGet d (prog_BANK_BYTES (refInst p.prog)), entry := nGet d (prog_ENTRY (refInst p.prog)), view := view, code := code,
    farStores := x.farStores })

/-- The device when a program has started at its place. -/
def threadStarted (d : Dev) (p : ProgPlace) (code : Nat) (view : List Nat) : Dev :=
  let t := 4 * p.engine + p.thread
  let e := fillView (threadEntered d p code view) t (viewImage (progPayload d p.prog) (p.engine / 8))
  reportEngine (nSets (setRun e t (if clusterOut e t then .faulted else .running))
    [(prog_ENGINE (refInst p.prog), p.engine), (prog_THREAD (refInst p.prog), p.thread)]) p.engine

theorem startThreadAt_eq (s : State) (p : ProgPlace) (code : Nat) (view : List Nat) : startThreadAt s p code view =
    let u := withDev s (threadStarted s.dev p code view)
    let n := nGet u.dev (prog_BANK_BYTES (refInst p.prog))
    if nGet s.dev (prog_KIND (refInst p.prog)) == 1 then
      fabricPuts (withDev u (cleanWords u.dev code n)) code ((viewImage (progPayload s.dev p.prog) (p.engine / 8)).take n)
    else u := rfl

theorem bounded_threadStarted (d : Dev) (p : ProgPlace) (code : Nat) (view : List Nat) : Bounded placeMargin d (threadStarted d p code view) := by
  have hentered : Bounded placeMargin d (threadEntered d p code view) := (bounded_updThread d _ _).mono
  unfold threadStarted
  exact (Bounded.nSet (Bounded.nSet ((hentered.trans (bounded_fillView _ _ _)).add (bounded_setRun _ _ _)) _) _).trans (bounded_reportEngine _ _)

theorem bounded_startThreadAt (s : State) (p : ProgPlace) (code : Nat) (view : List Nat) :
    Bounded placeMargin s.dev (startThreadAt s p code view).dev := by
  have hstarted := bounded_threadStarted s.dev p code view
  rw [startThreadAt_eq]
  dsimp only
  split
  · rw [fabricPuts_dev, withDev_dev, withDev_dev]
    exact hstarted.trans (bounded_cleanWords _ _ _)
  · rw [withDev_dev]
    exact hstarted

theorem bounded_startThread (s : State) (p : ProgPlace) : Bounded placeMargin s.dev (startThread s p).dev := by
  have hstopped : Bounded placeMargin s.dev (if (threadOf s.dev (4 * p.engine + p.thread)).prog = p.prog then s else
      withDev s (stopThread s.dev (4 * p.engine + p.thread))).dev := by
    split
    · exact .refl _
    · exact bounded_stopThread _ _
  unfold startThread
  exact hstopped.trans (bounded_startThreadAt _ p _ _)

theorem bounded_loadNewPipes (d : Dev) (h : Nat) (old : List Nat) : Bounded placeMargin d (loadNewPipes d h old) :=
  (Bounded.refl d).foldl _ fun e p _ => (Bounded.refl e).foldl _ fun f o _ => (Bounded.refl f).put .pipes rfl

/-- RUN_STATE of the programs that no thread runs. -/
theorem bounded_showLoading (d : Dev) : Bounded ⟨[.dirty], [], [prog_RUN_STATE 0]⟩ d (showLoading d) :=
  (Bounded.refl d).foldl _ fun e p _ => .otherwise fun _ => (Bounded.refl e).nSet _

theorem bounded_takePlacement (s : State) (h : Nat) (nums : List Nat) : Bounded placeMargin s.dev (takePlacement s h nums).dev := by
  have hthreads (u : State) (ps : List ProgPlace) : Bounded placeMargin u.dev (ps.foldl startThread u).dev := by
    induction ps generalizing u with
    | nil => exact .refl _
    | cons p ps ih => exact (bounded_startThread u p).trans (ih _)
  unfold takePlacement
  dsimp only
  split
  · exact .refl _
  · refine Bounded.trans (Bounded.trans ?_ (hthreads (withDev s _) _)) (bounded_showLoading _).mono
    exact (Bounded.foldl ((Bounded.refl _).put .stoker rfl) _ fun e p _ => bounded_leaveThread e p).trans (bounded_loadNewPipes _ h _)

/-! ### The model of capacity after a loss (R160 to R170, R353) -/

/-- What the model of capacity changes that is run again. -/
def modelMargin : Margin :=
  raiseMargin.join ⟨[.stoker], [], [hhead_HO_CAUSE 0, mem_RESERVE_PERMILLE, prog_RUN_STATE 0, chanRep_SCAN_PEAK 0, stepRep_STEPS, chanRep_VIDEO_IN 0,
    stepRep_RHO_PERMILLE, chanRep_SCAN_CAPACITY 0, stepRep_ACTIONS, chanRep_RETIRED 0]⟩

/-- What a loss of capacity changes. -/
def capacityMargin : Margin := modelMargin.join placeMargin

theorem bounded_hoCauseSet (d : Dev) (h bit : Nat) : Bounded ⟨[.dirty], [], [hhead_HO_CAUSE 0]⟩ d (hoCauseSet d h bit) := (Bounded.refl d).nSet _

theorem bounded_hoCauseClear (d : Dev) (h bit : Nat) : Bounded ⟨[.dirty], [], [hhead_HO_CAUSE 0]⟩ d (hoCauseClear d h bit) := (Bounded.refl d).nSet _

theorem bounded_announceActions (d : Dev) (old new : List Action) : Bounded modelMargin d (announceActions d old new) := by
  have htrace (e : Dev) (k u x : Nat) : Bounded modelMargin e (trace e k u x) := .ofWithin (R := raiseReach) ((Within.refl e).trace k u x)
  unfold announceActions
  refine Bounded.foldl (Bounded.foldl (.refl d) _ fun e x _ => ?_) _ fun e a _ => ?_
  · refine .otherwise fun _ => Bounded.raise (Bounded.trans ?_ (htrace _ 11 _ _)) 885
    exact .whenever fun _ => (bounded_hoCauseSet _ _ 2).mono
  · refine .otherwise fun _ => Bounded.raise ?_ 885
    exact .whenever fun _ => (bounded_hoCauseClear _ _ 2).mono

theorem bounded_reportModel (d : Dev) (peaks : List Rat) : Bounded modelMargin d (reportModel d peaks) := by
  unfold reportModel
  dsimp only
  generalize hchannels : List.foldl _ _ _ = e
  have h : Bounded modelMargin d e := by
    rw [← hchannels]
    exact (Bounded.refl d).foldl _ fun f _ _ => ((((Bounded.refl f).nSet _).nSet _).nSet _).nSet _
  exact (((h.nSet _).nSet _).nSet _).bSet _

theorem bounded_takeVerdict (d : Dev) (vd : Verdict) (acts : List Action) : Bounded modelMargin d (takeVerdict d vd acts) :=
  (Bounded.trans ((Bounded.refl d).put .stoker rfl) (bounded_announceActions _ _ acts)).trans (bounded_reportModel _ vd.peaks)

theorem bounded_replaceHeads (d : Dev) (vd : Verdict) (acts : List Action) (hs : List Nat) :
    Bounded modelMargin d (replaceHeads d vd acts hs) := by
  refine Bounded.add (Bounded.foldl (.refl d) _ fun e h _ => ?_) (bounded_showLoading _)
  dsimp only
  split
  · exact (Bounded.refl e).put .stoker rfl
  · exact (Bounded.refl e).put .stoker rfl

theorem bounded_replaceAll (d : Dev) (vd : Verdict) (acts : List Action) : Bounded modelMargin d (replaceAll d vd acts) :=
  Bounded.add ((bounded_replaceHeads d vd acts _).put .stoker rfl) (bounded_showLoading _)

theorem bounded_settleCauses (d : Dev) (acts : List Action) (h : Nat) : Bounded modelMargin d (settleCauses d acts h) := by
  have hleft : Bounded modelMargin d (if leftWithout d acts h then hoCauseSet d h 0 else hoCauseClear d h 0) :=
    .ite (fun _ => (bounded_hoCauseSet d h 0).mono) fun _ => (bounded_hoCauseClear d h 0).mono
  exact .ite (fun _ => hleft.add (bounded_hoCauseClear _ h 1)) fun _ => hleft

theorem bounded_rerunModel (d : Dev) : Bounded modelMargin d (rerunModel d) :=
  ((bounded_takeVerdict d _ _).trans (bounded_replaceAll _ _ _)).foldl _ fun e h _ => bounded_settleCauses e _ h

theorem bounded_capacityChanged (d : Dev) : Bounded modelMargin d (capacityChanged d) := .otherwise fun _ => bounded_rerunModel d

theorem bounded_holdCapacity (d : Dev) : Bounded modelMargin d (holdCapacity d) := .whenever fun _ => (Bounded.refl d).put .stoker rfl

/-- A loss of clusters counts against the capacity. -/
theorem bounded_doCapacityStep_cluster (d : Dev) (c : Nat) : Bounded capacityMargin d (doCapacityStep 2 c d) := by
  unfold doCapacityStep
  dsimp only
  rw [if_neg (by decide), if_neg (by omega)]
  refine .ite (fun _ => ?_) fun _ => ?_
  · exact ((((Bounded.refl d).add (bounded_holdCapacity d)).put .stoker rfl).add (bounded_capacityChanged _))
  · rw [if_neg (by decide)]
    exact .refl d

theorem bounded_clusterStop (d : Dev) (t : Nat) : Bounded capacityMargin d (clusterStop d t) :=
  .otherwise fun _ => (bounded_setRun d t _).mono.add (bounded_implicitEoi _ _)

theorem bounded_loseCluster (c : Fin 12) (d : Dev) : Bounded capacityMargin d (loseCluster c d) :=
  ((Bounded.refl d).foldl _ fun e _ _ => bounded_clusterStop e _).trans (bounded_doCapacityStep_cluster _ _)

/-- What a cluster's fault changes. -/
def clusterMargin : Margin :=
  capacityMargin.join ⟨[], [], [errLog_TIME 0, errLog_ADDRESS 0, errLog_WHERE 0, errLog_MASTER 0, errLog_KIND 0, mem_SRAM_UNCORRECTABLE,
    mem_LOG_NEXT]⟩

theorem bounded_doClusterFault (c : ClusterLoss) (d : Dev) : Bounded clusterMargin d (doClusterFault c d) := by
  unfold doClusterFault
  split
  · exact (bounded_loseCluster _ d).mono
  · exact (Bounded.addWithin ((Bounded.refl d).put .dram rfl) (within_sramBad _ _ 9 0)).add (bounded_loseCluster _ _)

theorem frameClusterFault : FrameClusterFault := by
  intro c s u hnext
  obtain rfl := Host.Outcome.next.inj hnext
  have hfault : Bounded clusterMargin s.dev (takeFree (withDev s (doClusterFault c s.dev))).dev :=
    (bounded_doClusterFault c s.dev).add (bounded_takePlacement (withDev s _) 16 [])
  exact differOnly_of_bounded hfault.mono (.inr rfl)

/-- What the fill of an instruction cache line changes, with the issue that waited for it. -/
def cacheFillMargin : Margin :=
  Margin.join ⟨raiseParts ++ anyReach.parts, anyReach.classes, raiseMembers ++ anyReach.members⟩ ⟨[], [0x1A], []⟩

/-- The device when the line of a waiting thread's instruction is filled, in place of another where the cache is full (R325). -/
def cacheFilled (d : Dev) (t : Nat) : Dev :=
  let held := d.beam.icache.filter (fun i => decide (i / 2 ^ 16 = t / 4))
  let full := decide (256 ≤ held.length)
  let gone := held.getD (freeNat d 8) 0
  let e := if full then freeUsed d else d
  { e with beam.icache := e.beam.icache.filter (fun i => !full || decide (i ≠ gone)) ++ [fetchLine d t] }

theorem bounded_cacheFilled (d : Dev) (t : Nat) : Bounded cacheFillMargin d (cacheFilled d t) :=
  Bounded.put (f := cacheFilled d t) (.whenever fun _ => (Bounded.refl d).useFree) .icache rfl

theorem doInstructionCacheFill_of_stalled {t : Fin 384} {s : State} {op c m o : Nat} (h : (threadOf s.dev t.val).state = .stalled op c m o) :
    doInstructionCacheFill t s =
      if perfMode s.dev t.val = false ∨ s.dev.beam.icache.contains (fetchLine s.dev t.val) then s
      else if !(bankWordsBad s.dev (codeLine s.dev t.val) 64).isEmpty then
        takeFree (withDev s (loseCluster (Fin.ofNat 12 (t.val / 32)) (readRange s.dev (codeLine s.dev t.val) 64 4)))
      else retry (withDev s (cacheFilled s.dev t.val)) t.val := by
  unfold doInstructionCacheFill
  rw [h]
  rfl

theorem bounded_doInstructionCacheFill (t : Fin 384) (s : State) (hs : SceneKeys s.dev.scene.alloc) :
    Bounded cacheFillMargin s.dev (doInstructionCacheFill t s).dev := by
  have hfilled := bounded_cacheFilled s.dev t.val
  have hlost : Bounded cacheFillMargin s.dev (loseCluster (Fin.ofNat 12 (t.val / 32)) (readRange s.dev (codeLine s.dev t.val) 64 4)) :=
    (Bounded.ofWithin (within_readRange _ _ 64 4 hs)).add (bounded_loseCluster _ _)
  cases h : (threadOf s.dev t.val).state with
  | stalled op c m o =>
    rw [doInstructionCacheFill_of_stalled h]
    split
    · exact .refl _
    split
    · exact hlost.add (bounded_takePlacement (withDev s _) 16 [])
    · exact hfilled.addWithin (stepWithin_retry (withDev s _) t.val (hfilled.keys hs)).dev
  | _ =>
    unfold doInstructionCacheFill
    rw [h]
    exact .refl _

theorem frameInstructionCacheFill : FrameInstructionCacheFill := by
  intro t s u hs hnext
  obtain rfl := Host.Outcome.next.inj hnext
  exact differOnly_of_bounded (bounded_doInstructionCacheFill t s hs).mono (.inr rfl)

/-- Settles O50, clause by clause. -/
theorem frameBeamMemory : Obligations.FrameBeamMemory :=
  ⟨frameStT, frameWaitpos, frameWaitposEnd, frameWaitevClaim, frameEoi, framePostQueueDepart, frameStoreDrain, frameTimedWriteLanding,
    frameBeamPortQueueFree, frameClusterFault, frameInstructionCacheFill⟩

end Sys2Proof.Machine
end

section
/-!
Writes of DRAM and cluster banks within a frame (O55, O56): R160 to R164, R460 to R493.
-/
-- One proof at a time: the tasks of many short proofs wait on one another, and each holds a stack of its own.
set_option Elab.async false
namespace Sys2Proof.Machine

/-- A member written with its own plain rules. -/
theorem bounded_plainWrite {F : Margin} (d : Dev) {r : Ref} (v : Val) (hr : F.admits (r / 16777216) (refMember r) = true)
    (hp : F.parts.contains .dirty = true := by decide) : Bounded F d (plainWrite d r v).1 := by
  unfold plainWrite
  split
  · exact .refl d
  split
  · exact .refl d
  split
  · exact (Bounded.refl d).mSet v hr hp
  · exact .refl d

namespace Bounded

variable {F : Margin} {d e : Dev}

theorem trace (h : Bounded F d e) (kind unit data : Nat) (hF : traceMargin.sub F = true := by decide) : Bounded F d (trace e kind unit data) := by
  have hobs (o : Obs) : Bounded traceMargin e { e with obs := o } := (Bounded.refl e).put .obs rfl
  have htrace : Bounded traceMargin e (Machine.trace e kind unit data) := .whenever fun _ => .ite (fun _ => hobs _) fun _ => (hobs _).nInc
  exact h.add htrace hF

end Bounded

/-- What a counted signal changes (R728). -/
def countMargin : Margin := ⟨[.dirty, .obs], [], [ctr_VALUE 0]⟩

theorem Bounded.countSignal {F : Margin} {d e : Dev} (h : Bounded F d e) (sel n : Nat) (hF : countMargin.sub F = true := by decide) :
    Bounded F d (countSignal e sel n) := by
  have hcount : Bounded countMargin e (Machine.countSignal e sel n) :=
    .whenever fun _ => (Bounded.refl e).foldl _ fun f k _ => .whenever fun _ => Bounded.nSet ((Bounded.refl f).put .obs rfl) _
  exact h.add hcount hF

/-! ### Channels that retire, without what an SRAM word's error counts (R91, R444, R466, R473, R474, R488, R489) -/

/-- What an uncorrectable block of DRAM changes (R473, R488). -/
def blockMargin : Margin :=
  hostMargin.join (modelMargin.join ⟨[.scene, .dram, .lanes, .wear], [0x11, 0x12, 0x13, 0x14, 0x15, 0x16, 0x17], [commitCtl_STAGED_COUNT,
    panel_DOSE_GAP_MS 0, vin_STREAM_STATE 0, ev_TARGET 0, chan_STATE 0, chan_RETIRE_CAUSE 0, chan_UNCORRECTABLE 0, chan_UE_PASS 0,
    errLog_TIME 0, errLog_ADDRESS 0, errLog_WHERE 0, errLog_MASTER 0, errLog_KIND 0, mem_LOG_NEXT, mem_SCRUB_BLOCKS, mem_SCRUB_PASSES,
    mem_LAST_PASS_TIME, mem_SEGMENT_MAP, mem_RESERVED_SEGMENT]⟩)

/-- The members of a scene class may change (R87). -/
theorem blockMargin_admits {c : Nat} (hc : isSceneClass c = true) (m : Nat) : blockMargin.admits c m = true := by
  have hin : blockMargin.classes.contains c = true := by
    simp only [isSceneClass, Bool.and_eq_true, decide_eq_true_eq] at hc
    obtain ⟨hlow, hhigh⟩ := hc
    interval_cases c <;> rfl
  rw [Margin.admits, hin, Bool.true_or]

/-- An object's members dropped (R91). -/
theorem bounded_dropObject (d : Dev) {o : Ref} (ho : isSceneClass (refClass o) = true) (hlt : o < 2 ^ 32) :
    Bounded blockMargin d (dropObject d o) := by
  have hkept (r : Ref) (hr : blockMargin.admits (r / 16777216) (refMember r) = false) :
      mGet { d with objs := d.objs.filter (fun e => decide (refObj e.1 ≠ o)) } r = mGet d r := by
    refine mGet_of_objs_filter (p := fun r => decide (refObj r ≠ o)) rfl (decide_eq_true ?_)
    rintro rfl
    have hclass : refClass (refObj r) = r / 16777216 := by
      have hdiv (n : Nat) : n / 256 * 256 / 16777216 = n / 16777216 := by omega
      exact (div_of_lt hlt).symm.trans (hdiv r)
    exact Bool.false_ne_true (hr.symm.trans (blockMargin_admits (hclass ▸ ho) _))
  have hobjs : Bounded blockMargin d { d with objs := d.objs.filter (fun e => decide (refObj e.1 ≠ o)) } :=
    ⟨fun p _ => by cases p <;> rfl, hkept, id⟩
  exact hobjs.setScene id

theorem bounded_lookStreams (d : Dev) : Bounded blockMargin d (lookStreams d) :=
  (Bounded.refl d).foldl _ fun e _ _ => .whenever fun _ => (Bounded.refl e).nSet _

theorem bounded_countClass (d : Dev) {c : Nat} (hc : isSceneClass c = true) : Bounded blockMargin d (countClass d c) := by
  have hadmits (m : Nat) : (blockMargin.parts.contains .dirty && blockMargin.admits (c % 256) m) = true := by
    rw [Nat.mod_eq_of_lt (sceneClass_lt hc), blockMargin_admits hc]
    rfl
  exact ((Bounded.refl d).nSet _ (hadmits _)).nSet _ (hadmits _)

theorem bounded_releaseObject (d : Dev) {o : Ref} (ho : isSceneClass (refClass o) = true) (hlt : o < 2 ^ 32) :
    Bounded blockMargin d (releaseObject d o) := by
  have hroute : Bounded blockMargin d (if refClass o = 0x17 then unrouteProgram d o else d) :=
    .whenever fun _ => (Bounded.refl d).foldl _ fun e _ _ => .whenever fun _ => (Bounded.refl e).nSet _
  exact ((((hroute.setScene fun hk => sceneKeys_mapErase hk o).trans (bounded_dropObject _ ho hlt)).trans (bounded_countClass _ ho)).nSet _).trans
    (bounded_lookStreams _)

theorem bounded_refreshObject (live pend : List Nat) (ls : List (Nat × Nat)) (scenes : List (List Ref)) (d : Dev) {o : Ref}
    (ho : isSceneClass (refClass o) = true) (hm : refMember o = 0) (hlt : o < 2 ^ 32) :
    Bounded blockMargin d (refreshObject live pend ls scenes d o) := by
  have hnear {k : Nat} (hk : k < 256) : blockMargin.admits ((o + k) / 16777216) (refMember (o + k)) = true := by
    rw [add_div_of_lt hlt hm hk]
    exact blockMargin_admits ho _
  have hstate (st mask : Nat) : Bounded blockMargin d (nSets d [(obj_STATE o, st), (obj_LEASE_HEADS o, mask)]) :=
    ((Bounded.refl d).mSet _ (hnear (k := 1) (by decide))).mSet _ (hnear (k := 2) (by decide))
  exact .ite (fun _ => ((hstate _ _).nSet _).nSet _) fun _ => hstate _ _

/-- Leases looked at anew, and the objects released whose last lease is gone (R91, R92). -/
theorem bounded_refreshLeases (d : Dev) (hd : SceneKeys d.scene.alloc) : Bounded blockMargin d (refreshLeases d) := by
  unfold refreshLeases
  dsimp only
  refine Bounded.foldl (Bounded.foldl (.refl d) _ fun e o ho => ?_) _ fun e o ho => ?_
  · obtain ⟨x, hx, rfl⟩ := List.mem_map.mp ho
    obtain ⟨hscene, hm, hlt⟩ := sceneKey_of_mem hd hx
    exact bounded_refreshObject _ _ _ _ _ hscene hm hlt
  · obtain ⟨x, hx, rfl⟩ := List.mem_map.mp ho
    obtain ⟨hscene, -, hlt⟩ := sceneKey_of_mem hd (List.mem_of_mem_filter hx)
    exact (bounded_releaseObject _ hscene hlt).add (bounded_notifyController _ _)

theorem bounded_countGap (d : Dev) (h : Nat) : Bounded blockMargin d (countGap d h) := by
  have hpanel {e : Dev} (he : Bounded blockMargin d e) (f : PanelSt → PanelSt) : Bounded blockMargin d (updPanel e h f) := he.put .wear rfl
  unfold countGap
  extract_lets x gap
  have hgap : Bounded blockMargin d gap := by
    unfold gap
    split
    · exact hpanel ((Bounded.refl d).nSet _) _
    · exact .refl d
  exact .ite (fun _ => .ite (fun _ => hgap) fun _ => hpanel hgap _) fun _ => hpanel hgap _

/-- What a packet changes that is queued for a lane. -/
def sendMargin : Margin := ⟨[.lanes], [], []⟩

theorem bounded_pushProtected (d : Dev) (l typ sub : Nat) (payload : List Byte) : Bounded sendMargin d (pushProtected d l typ sub payload) := by
  have hpush (f : LaneSt → LaneSt) : Bounded sendMargin d (updLane d l f) := (Bounded.refl d).put .lanes rfl
  exact .otherwise fun _ => .ite (fun _ => hpush _) fun _ => .ite (fun _ => .whenever fun _ => hpush _) fun _ => hpush _

theorem bounded_sendCtrl (d : Dev) (h channel : Nat) (payload : List Byte) : Bounded sendMargin d (sendCtrl d h channel payload) :=
  bounded_pushProtected d _ _ _ _

theorem bounded_readNext (d : Dev) (h typ : Nat) (b : List Byte) : Bounded sendMargin d (readNext d h typ b) :=
  .ite (fun _ => bounded_sendCtrl d h 2 _) fun _ => bounded_sendCtrl d h 2 _

theorem bounded_startRead (d : Dev) (h typ : Nat) : Bounded ⟨[.lanes, .wear], [], []⟩ d (startRead d h typ) :=
  Bounded.add ((Bounded.refl d).put .wear rfl) (bounded_readNext _ h typ [])

/-- The doses that a retired channel held are read again (R444). -/
theorem bounded_reloadDoses (d : Dev) : Bounded blockMargin d (reloadDoses d) := by
  refine Bounded.foldl ((Bounded.refl d).put .wear rfl) _ fun e h _ => Bounded.trans ?_ (bounded_countGap _ h)
  have hcleared : Bounded blockMargin e (updPanel e h (fun x => { x with dose := [], early := [] })) := (Bounded.refl e).put .wear rfl
  exact .ite (fun _ => hcleared.add (bounded_startRead _ h 2)) fun _ => hcleared

theorem bounded_setSegCodes (d : Dev) (l : List Nat) : Bounded blockMargin d (setSegCodes d l) := Bounded.bSet ((Bounded.refl d).put .dram rfl) _

/-- The reserved segment moves off a retired channel (R466). -/
theorem bounded_moveReserved (d : Dev) : Bounded blockMargin d (moveReserved d) := by
  unfold moveReserved
  dsimp only
  refine .whenever fun _ => .otherwise fun _ => ?_
  split
  · exact (Bounded.refl d).nSet _
  · split
    · exact (bounded_setSegCodes d _).nSet _
    · exact .refl d

/-- The end of a scrub pass (R474). -/
theorem bounded_endPass (d : Dev) : Bounded blockMargin d (endPass d) := by
  have hcleared : Bounded blockMargin d { d with dram.scrubAt := [] } := (Bounded.refl d).put .dram rfl
  exact .whenever fun _ => (((hcleared.nSet _).nSet _).nSet _).foldl _ fun e _ _ => (Bounded.refl e).nSet _

/-- A channel that retires (R488, R489). -/
theorem bounded_retireChannel (d : Dev) (c cause : Nat) (hd : SceneKeys d.scene.alloc) : Bounded blockMargin d (retireChannel d c cause) := by
  unfold retireChannel
  extract_lets held heads full dram marked reported moved caused reloaded
  have hheld : Bounded blockMargin d full := (bounded_holdCapacity d).mono
  have hmarked : Bounded blockMargin d marked := Bounded.nSet (Bounded.nSet (hheld.put .dram rfl) _) _
  have hmoved : Bounded blockMargin d moved := ((hmarked.serviceLog 4 c cause).raise 841).trans (bounded_moveReserved _)
  have hcaused : Bounded blockMargin d caused := hmoved.foldl _ fun e h _ => (bounded_hoCauseSet e h 1).mono
  have hreloaded : Bounded blockMargin d reloaded := .ite (fun _ => hcaused.trans (bounded_reloadDoses _)) fun _ => hcaused
  have hplaced : Bounded blockMargin d (capacityChanged reloaded) := hreloaded.add (bounded_capacityChanged _)
  exact .otherwise fun _ => (hplaced.trans (bounded_refreshLeases _ (hplaced.keys hd))).trans (bounded_endPass _)

theorem bounded_errorLog (d : Dev) (addr place master kind : Nat) : Bounded blockMargin d (errorLog d addr place master kind) :=
  ((((((Bounded.refl d).nSet _).nSet _).nSet _).nSet _).nSet _).nSet _

/-- An uncorrectable block is reported, and its channel retires at RETIRE_LIMIT (R473, R488). -/
theorem bounded_reportBad (d : Dev) (b c master kind : Nat) (hd : SceneKeys d.scene.alloc) : Bounded blockMargin d (reportBad d b c master kind) := by
  unfold reportBad
  extract_lets counted logged raised n passed
  have hlogged : Bounded blockMargin d logged :=
    (((Bounded.refl d).nInc.trans (bounded_errorLog _ _ _ _ _)).addWithin (R := raiseReach) ((Within.refl _).trace 9 c b)).serviceLog 5 c b
  have hpassed : Bounded blockMargin d passed := (hlogged.raise 840).nSet _
  exact .ite (fun _ => hpassed.trans (bounded_retireChannel _ c 3 (hpassed.keys hd))) fun _ => hpassed

/-! ### Writes -/

/-- What a write of memory changes beside memory, with the migration that it ends (R164, R460, R472). -/
def writeMargin : Margin :=
  blockMargin.join ⟨[.mem], [], [migRep_MIG_SURFACE, migRep_MIG_DEST, migRep_MIG_COPIED, migRep_MIG_QUEUED, migRep_MIGRATIONS_ABORTED,
    chan_CORRECTED 0, chan_RMW_FAILS 0, mem_UNMAPPED_ACCESSES]⟩

theorem bounded_blockCorrected (d : Dev) (c : Nat) : Bounded writeMargin d (blockCorrected d c) := by
  have hcount : Bounded writeMargin d (nInc d (chan_CORRECTED c)) := (Bounded.refl d).nInc
  unfold blockCorrected
  dsimp only
  split
  · exact .ite (fun _ => hcount) fun _ => Bounded.raise (hcount.put .dram rfl) _
  · exact Bounded.raise (hcount.put .dram rfl) _

theorem bounded_correctPartial (d : Dev) (a n : Nat) : Bounded writeMargin d (correctPartial d a n) := by
  refine (Bounded.refl d).foldl _ fun e b _ => ?_
  split
  · exact .otherwise fun _ => bounded_blockCorrected e _
  · exact .refl e

theorem bounded_askRead (d : Dev) (r : DramRead) : Bounded blockMargin d (askRead d r) := by
  unfold askRead
  split
  · exact (Bounded.countSignal ((Bounded.refl d).put .dram rfl) _ 1).countSignal _ 1
  · exact (Bounded.refl d).put .dram rfl

theorem bounded_askRange (d : Dev) (cls unit a n : Nat) : Bounded blockMargin d (askRange d cls unit a n) := by
  refine (Bounded.refl d).foldl _ fun e b _ => ?_
  split
  · exact bounded_askRead e _
  · exact .refl e

theorem bounded_cancelReads (d : Dev) (cls unit : Nat) : Bounded blockMargin d (cancelReads d cls unit) := (Bounded.refl d).put .dram rfl

theorem bounded_reportMigration (d : Dev) : Bounded writeMargin d (reportMigration d) := ((((Bounded.refl d).nSet _).nSet _).nSet _).nSet _

theorem bounded_nextMigration (d : Dev) (q : List Ref) : Bounded writeMargin d (nextMigration d q) := by
  induction q generalizing d with
  | nil => exact (Bounded.refl d).put .stoker rfl
  | cons o q ih =>
    unfold nextMigration
    split
    · exact (Bounded.add ((Bounded.refl d).put .stoker rfl) (bounded_askRange _ 2 0 _ _)).arm _ _ _
    · exact ih d

theorem bounded_startMigration (d : Dev) : Bounded writeMargin d (startMigration d) := by
  unfold startMigration
  split
  · exact bounded_reportMigration d
  · exact (bounded_nextMigration d _).trans (bounded_reportMigration _)

theorem bounded_abortMigration (d : Dev) : Bounded writeMargin d (abortMigration d) := by
  have hnone : Bounded writeMargin d { d with stoker.migration := none } := (Bounded.refl d).put .stoker rfl
  unfold abortMigration
  split
  · exact .refl d
  · exact (((hnone.add (bounded_cancelReads _ 2 0)).nInc).disarm _ _).trans (bounded_startMigration _)

theorem bounded_touchMigration (d : Dev) (a n : Nat) : Bounded writeMargin d (touchMigration d a n) := by
  unfold touchMigration
  split
  · exact .whenever fun _ => bounded_abortMigration d
  · exact .refl d

theorem bounded_countWrite (d : Dev) (a n cls : Nat) : Bounded raiseMargin d (countWrite d a n cls) :=
  .ofWithin (within_countWrite raiseReach d a n cls)

theorem bounded_fabricWrite (s : State) (a : Nat) (bs : List Byte) : Bounded writeMargin s.dev (fabricWrite s a bs).dev := by
  have hcount : Bounded writeMargin s.dev (if (List.range bs.length).any (fun i => !assigned s.dev (a + i)) then
      withDev s (nInc s.dev mem_UNMAPPED_ACCESSES) else s).dev := by
    split
    · exact (Bounded.refl _).nInc
    · exact .refl _
  unfold fabricWrite
  rw [fabricPuts_dev]
  exact Bounded.put (Bounded.put (hcount.trans (bounded_correctPartial _ a bs.length)) .dram rfl) .dram rfl

theorem bounded_putRange (s : State) (cls a : Nat) (bs : List Byte) : Bounded writeMargin s.dev (putRange s cls a bs).dev := by
  unfold putRange
  exact (Bounded.add (bounded_touchMigration s.dev a bs.length) (bounded_countWrite _ a bs.length cls)).trans
    (bounded_fabricWrite (withDev s _) a bs)

theorem bounded_failRmw (d : Dev) (a n master : Nat) (hd : SceneKeys d.scene.alloc) : Bounded writeMargin d (failRmw d a n master) := by
  have hcounted : Bounded writeMargin d (countRmwFails d (rmwFailures d a n)) := by
    refine (Bounded.refl d).foldl _ fun e b _ => ?_
    split
    · exact (Bounded.refl e).nInc
    · exact .refl e
  refine hcounted.foldl_keys _ (fun e b he => ?_) hd
  split
  · exact (bounded_reportBad e b _ master 1 he).mono
  · exact .refl e

theorem bounded_readRange (d : Dev) (a n cls : Nat) (hd : SceneKeys d.scene.alloc) : Bounded retireMargin d (readRange d a n cls) :=
  .ofWithin (within_readRange d a n cls hd)

end Sys2Proof.Machine
end

section
/-!
Lanes within their frames (O55): R387 to R441.
-/
-- One proof at a time: the tasks of many short proofs wait on one another, and each holds a stack of its own.
set_option Elab.async false
namespace Sys2Proof.Machine

namespace Bounded

variable {F : Margin} {d e : Dev}

theorem updLane (h : Bounded F d e) (l : Nat) (f : LaneSt → LaneSt) (hp : (F.parts.contains .lanes && Part.lanes != .scene) = true := by decide) :
    Bounded F d (updLane e l f) := h.put .lanes rfl hp

theorem updVin (h : Bounded F d e) (i : Nat) (f : VideoIn → VideoIn) (hp : (F.parts.contains .lanes && Part.lanes != .scene) = true := by decide) :
    Bounded F d (updVin e i f) := h.put .lanes rfl hp

theorem updPanel (h : Bounded F d e) (k : Nat) (f : PanelSt → PanelSt) (hp : (F.parts.contains .wear && Part.wear != .scene) = true := by decide) :
    Bounded F d (updPanel e k f) := h.put .wear rfl hp

end Bounded

/-! ### States, power over the cable and training (R394 to R420) -/

/-- What an entry of the service log changes (R741). -/
def logMargin : Margin := ⟨[.dirty], [], [svcLog_TIME 0, svcLog_KIND 0, svcLog_UNIT 0, svcLog_DETAIL 0, svc_LOG_NEXT, svc_LOG_ENTRIES]⟩

theorem bounded_serviceLog (d : Dev) (kind unit detail : Nat) : Bounded logMargin d (serviceLog d kind unit detail) :=
  ((((((Bounded.refl d).nSet _).nSet _).nSet _).nSet _).nSet _).nSet _

/-- What the power over a lane's cable changes. -/
def pocMargin : Margin := ⟨[.timers, .dirty], [], [lane_POC_STATE 0, lane_POC_MA 0]⟩

theorem bounded_pocLook (d : Dev) (l : Nat) : Bounded pocMargin d (pocLook d l) := by
  have hoff : Bounded pocMargin d (pocOff d l) := .whenever fun _ => (((Bounded.refl d).disarm _ _).nSet _).nSet _
  have hramp : Bounded pocMargin d (pocRamp d l) := ((Bounded.refl d).nSet _).arm _ _ _
  exact .ite (fun _ => hoff) fun _ => .whenever fun _ => hramp

/-- What a lane's change of STATE changes. -/
def laneStateMargin : Margin := ⟨[.dirty, .obs], [], [lane_STATE 0, obs_RECORDS_LOST]⟩

theorem bounded_setLaneState (d : Dev) (l st : Nat) : Bounded laneStateMargin d (setLaneState d l st) :=
  .otherwise fun _ => ((Bounded.refl d).nSet _).trace _ _ _

theorem bounded_streamStates (d : Dev) (l : Nat) : Bounded ⟨[.dirty], [], [vin_STREAM_STATE 0]⟩ d (streamStates d l) :=
  (Bounded.refl d).foldl _ fun e _ _ => (Bounded.refl e).nSet _

theorem bounded_laneQuiet (d : Dev) (l : Nat) : Bounded ⟨[.timers], [], []⟩ d (laneQuiet d l) :=
  ((((((Bounded.refl d).disarm _ _).disarm _ _).disarm _ _).disarm _ _).disarm _ _).disarm _ _

/-- What the start of a training changes. -/
def trainMargin : Margin :=
  ⟨[.timers, .dirty, .obs, .lanes], [], [lane_STATE 0, lane_PRESET 0, lane_POC_STATE 0, lane_POC_MA 0, vin_STREAM_STATE 0, obs_RECORDS_LOST]⟩

theorem bounded_startTrain (d : Dev) (l : Nat) : Bounded trainMargin d (startTrain d l) := by
  have hlook : Bounded trainMargin d (pocLook (laneQuiet d l) l) := ((Bounded.refl d).add (bounded_laneQuiet d l)).add (bounded_pocLook _ l)
  unfold startTrain
  dsimp only
  refine .ite (fun _ => Bounded.arm ?_ _ _ _) fun _ => Bounded.add (Bounded.arm ?_ _ _ _) (bounded_streamStates _ l)
  all_goals exact (((hlook.updLane _ _).updLane _ _).nSet _).add (bounded_setLaneState _ l _)

theorem bounded_laneOff (d : Dev) (l : Nat) : Bounded trainMargin d (laneOff d l) :=
  (Bounded.updLane ((bounded_laneQuiet d l).mono) _ _).add (bounded_setLaneState _ l _)

/-- What a write of a member of a lane changes. -/
def laneMargin : Margin := trainMargin.join (answerMargin.join ⟨[], [0x30], []⟩)

theorem bounded_setDirection (d : Dev) (l v : Nat) : Bounded laneMargin d (setDirection d l v) := by
  have hoff : Bounded laneMargin d (laneOff (nSet d (lane_DIRECTION l) v) l) := ((Bounded.refl d).nSet _).add (bounded_laneOff _ l)
  exact .ite (fun _ => hoff) fun _ => hoff.add (bounded_startTrain _ l)

theorem bounded_pocEnable (d : Dev) (l v : Nat) : Bounded laneMargin d (pocEnable d l v) := by
  have hset : Bounded laneMargin d (nSet d (lane_POC_ENABLE l) v) := (Bounded.refl d).nSet _
  exact .ite (fun _ => hset.add (bounded_pocLook _ l)) fun _ => .ite (fun _ => hset.updLane _ _) fun _ =>
    .ite (fun _ => ((hset.updLane _ _).nSet _).add (bounded_pocLook _ l)) fun _ => hset

theorem bounded_laneWrite (d : Dev) (l mem v : Nat) : Bounded laneMargin d (laneWrite d l mem v).1 := by
  unfold laneWrite
  split
  · split
    · exact .refl d
    split
    · exact .refl d
    split
    · exact .refl d
    · exact bounded_setDirection d l v
  split
  · split
    · exact .refl d
    split
    · exact .refl d
    · exact ((Bounded.refl d).nSet _).add (bounded_pocLook _ l)
  split
  · split
    · exact .refl d
    · exact bounded_pocEnable d l v
  · refine bounded_plainWrite d _ ?_
    rw [Within.mref_div]
    rfl

theorem frameLaneDirectionWrite : FrameLaneDirectionWrite := by
  intro sess l v
  simp only [List.forall_mem_cons, List.not_mem_nil, false_imp_iff, implies_true, and_true]
  exact ⟨onlyChanges_of_dev (fun _ => rfl) fun s => .withGate (bounded_laneWrite s.dev l.val 1 v),
    onlyChanges_of_dev (fun _ => rfl) fun s => .withGate (bounded_laneWrite s.dev l.val 7 v)⟩

theorem frameLaneTrainingStart : FrameLaneTrainingStart := by
  intro l
  simp only [List.forall_mem_cons, List.not_mem_nil, false_imp_iff, implies_true, and_true]
  exact ⟨onlyChanges_of_dev (fun _ => rfl) fun s => .whenever fun _ => bounded_startTrain s.dev l.val,
    onlyChanges_of_dev (fun _ => rfl) fun s => .whenever fun _ => bounded_startTrain s.dev l.val⟩

/-- What the presets of a training change. -/
def presetMargin : Margin := ⟨[.timers, .dirty, .obs, .lanes], [], [lane_STATE 0, lane_PRESET 0, obs_RECORDS_LOST]⟩

theorem bounded_doBackChannelLock (l : Fin 32) (d : Dev) : Bounded presetMargin d (doBackChannelLock l d) := by
  have hfirst : Bounded presetMargin d (setLaneState (nSet d (lane_PRESET l) 0) l 3) := ((Bounded.refl d).nSet _).add (bounded_setLaneState _ _ _)
  exact .whenever fun _ => ((hfirst.updLane _ _).arm _ _ _).arm _ _ _

theorem bounded_doPresetStepExpiry (l : Fin 32) (d : Dev) : Bounded presetMargin d (doPresetStepExpiry l d) := by
  unfold doPresetStepExpiry
  dsimp only
  refine .otherwise fun _ => ?_
  generalize (laneOf d l.val).step + 1 = k
  have hstep : Bounded presetMargin d (updLane d l.val (fun x => { x with step := k })) := (Bounded.refl d).updLane _ _
  refine .ite (fun _ => (hstep.nSet _).arm _ _ _) fun _ => ?_
  split
  · exact hstep.disarm _ _
  · exact (((hstep.nSet _).add (bounded_setLaneState _ _ _)).disarm _ _).arm _ _ _

theorem frameBackChannelLock : FrameBackChannelLock := by
  intro l
  simp only [List.forall_mem_cons, List.not_mem_nil, false_imp_iff, implies_true, and_true]
  exact ⟨onlyChanges_of_dev (fun _ => rfl) fun s => bounded_doBackChannelLock l s.dev,
    onlyChanges_of_dev (fun _ => rfl) fun s => bounded_doPresetStepExpiry l s.dev⟩

/-- What a failed training changes (R414, R420). -/
def failMargin : Margin := raiseMargin.join ⟨[.lanes], [], [lane_STATE 0, lane_TRAIN_RESULT 0, lane_TRAIN_FAILS 0]⟩

theorem bounded_failTrain (d : Dev) (l reason : Nat) : Bounded failMargin d (failTrain d l reason) := by
  have hcount : Bounded failMargin d (nInc (nSet (laneQuiet d l) (lane_TRAIN_RESULT l) reason) (lane_TRAIN_FAILS l)) :=
    (((Bounded.refl d).add (bounded_laneQuiet d l)).nSet _).nInc
  have hfailed := Bounded.arm ((hcount.updLane l (fun x => { x with downRaised := true, locked := false })).add (bounded_setLaneState _ l 7))
    tkRetry l (ms 100)
  exact .ite (fun _ => hfailed) fun _ => hfailed.raise _

theorem bounded_doTrainingDeadlineMissed (l : Fin 32) (d : Dev) : Bounded failMargin d (doTrainingDeadlineMissed l d) := by
  have hfail := bounded_failTrain d l.val
  exact .otherwise fun _ => .ite (fun _ => hfail _) fun _ => .ite (fun _ => hfail _) fun _ => .ite (fun _ => hfail _) fun _ =>
    .ite (fun _ => hfail _) fun _ => .whenever fun _ => hfail _

theorem frameTrainingDeadlineMissed : FrameTrainingDeadlineMissed := fun l =>
  onlyChanges_of_dev (fun _ => rfl) fun s => bounded_doTrainingDeadlineMissed l s.dev

/-! ### Control packets, identity requests and retraining (R403, R420, R431 to R436) -/

/-- What the start of a panel's identity check changes (R431). -/
def identityMargin : Margin := ⟨[.timers, .dirty, .lanes, .wear, .free], [], [panel_IDENTITY_STATE 0, panel_FAIL_REASON 0]⟩

theorem bounded_sendIdRequest (d : Dev) (h : Nat) : Bounded identityMargin d (sendIdRequest d h) :=
  Bounded.arm ((Bounded.updPanel ((Bounded.refl d).useFreeN 32) _ _).add (bounded_sendCtrl _ h _ _)) _ _ _

theorem bounded_startIdentity (d : Dev) (h : Nat) : Bounded identityMargin d (startIdentity d h) :=
  ((((Bounded.refl d).nSet _).nSet _).updPanel _ _).trans (bounded_sendIdRequest _ h)

/-- What a lane changes that is ready. -/
def readyMargin : Margin := identityMargin.join ⟨[.obs, .heads], [], [lane_STATE 0, vin_STREAM_STATE 0, obs_RECORDS_LOST]⟩

theorem bounded_anchorHead (d : Dev) (h : Nat) : Bounded ⟨[.heads], [], []⟩ d (anchorHead d h) := by
  unfold anchorHead
  split
  · exact .refl d
  · exact Bounded.put ((Bounded.refl d).put .heads rfl) .heads rfl

theorem bounded_doLaneReady (l : Fin 32) (d : Dev) : Bounded readyMargin d (doLaneReady l d) := by
  have hready (f : LaneSt → LaneSt) : Bounded readyMargin d (setLaneState (updLane (laneQuiet d l.val) l.val f) l.val 6) :=
    (((Bounded.refl d).add (bounded_laneQuiet d l.val)).updLane _ _).add (bounded_setLaneState _ _ _)
  have hlook (e : Dev) (h : Nat) : Bounded readyMargin e (lookLanes e h) := .whenever fun _ => (bounded_anchorHead e h).mono
  refine .ite (fun _ => ?_) fun _ => .whenever fun _ => ((hready _).arm _ _ _).add (bounded_streamStates _ _)
  refine Bounded.foldl (Bounded.foldl ?_ _ fun e h _ => hlook e h) _ fun e h _ => (bounded_startIdentity e h).mono
  exact .ite (fun _ => (hready _).arm _ _ _) fun _ => ((hready _).arm _ _ _).arm _ _ _

theorem frameLaneReady : FrameLaneReady := fun l => onlyChanges_of_dev (fun _ => rfl) fun s => bounded_doLaneReady l s.dev

/-- What a retraining changes. -/
def retrainMargin : Margin := trainMargin.join (logMargin.join ⟨[], [], [lane_RETRAINS 0]⟩)

theorem bounded_retrain (d : Dev) (l : Nat) : Bounded retrainMargin d (retrain d l) :=
  Bounded.add (Bounded.foldl (((Bounded.refl d).nInc).add (bounded_serviceLog _ 3 l _)) _ fun e h _ => (bounded_sendCtrl e h _ _).mono)
    (bounded_startTrain _ l)

theorem bounded_doRetransmitTimeout (l : Fin 32) (d : Dev) : Bounded retrainMargin d (doRetransmitTimeout l d) :=
  .otherwise fun _ => .ite (fun _ => bounded_retrain d l.val) fun _ => ((Bounded.refl d).updLane _ _).arm _ _ _

theorem frameCommaLockLoss : FrameCommaLockLoss := by
  intro l
  simp only [List.forall_mem_cons, List.not_mem_nil, false_imp_iff, implies_true, and_true]
  exact ⟨onlyChanges_of_dev (fun _ => rfl) fun s => .whenever fun _ => bounded_retrain s.dev l.val,
    onlyChanges_of_dev (fun _ => rfl) fun s => .whenever fun _ => bounded_retrain s.dev l.val,
    onlyChanges_of_dev (fun _ => rfl) fun s => bounded_doRetransmitTimeout l s.dev⟩

/-! ### What a lane sends (R400 to R412) -/

/-- What the blocks change that a lane sends. -/
def outMargin : Margin := countMargin.join ⟨[.timers, .lanes, .out], [], [lane_CTRL_RETRANSMITS 0]⟩

theorem bounded_laneOut (d : Dev) (l : Nat) (bs : List (Bool × List Byte)) (idles : Nat) : Bounded outMargin d (laneOut d l bs idles) :=
  ((((Bounded.refl d).countSignal _ _).countSignal _ _).updLane _ _).emit _

theorem bounded_idleOut (d : Dev) (l : Nat) (mark train : Bool) : Bounded outMargin d (idleOut d l mark train) :=
  ((Bounded.refl d).updLane _ _).trans (bounded_laneOut _ _ _ _)

theorem bounded_sendBlocks (d : Dev) (l : Nat) (b : List Byte) (idle : Bool) : Bounded outMargin d (sendBlocks d l b idle) := by
  unfold sendBlocks
  dsimp only
  split
  · exact (((Bounded.refl d).updLane _ _).trans (bounded_laneOut _ _ _ _)).trans (bounded_laneOut _ _ _ _)
  · exact ((Bounded.refl d).updLane _ _).trans (bounded_laneOut _ _ _ _)

theorem bounded_takeReserve (d : Dev) (l n : Nat) : Bounded outMargin d (takeReserve d l n) := (Bounded.refl d).updLane _ _

theorem bounded_sendProtected (d : Dev) (l typ : Nat) (p : Packet) (again : Bool) : Bounded outMargin d (sendProtected d l typ p again) := by
  have hreserve := bounded_takeReserve d l (p.bytes.length / 8)
  have hqueued (f g : LaneSt → LaneSt) : Bounded outMargin d (if again = true then nInc (updLane (takeReserve d l (p.bytes.length / 8)) l f)
      (lane_CTRL_RETRANSMITS l) else updLane (takeReserve d l (p.bytes.length / 8)) l g) :=
    .ite (fun _ => (hreserve.updLane _ _).nInc) fun _ => hreserve.updLane _ _
  unfold sendProtected
  refine Bounded.trans ?_ (bounded_sendBlocks _ _ _ _)
  exact .ite (fun _ => hqueued _ _) fun _ => (hqueued _ _).arm _ _ _

theorem bounded_chooseNext (d : Dev) (l : Nat) : Bounded outMargin d (chooseNext d l) := by
  unfold chooseNext
  dsimp only
  split
  · exact (bounded_takeReserve d l 1).trans (bounded_sendBlocks _ _ _ _)
  split
  · exact bounded_sendProtected d l _ _ _
  split
  · exact bounded_sendProtected d l _ _ _
  split
  · exact ((Bounded.refl d).updLane _ _).trans (bounded_sendBlocks _ _ _ _)
  split
  · exact ((Bounded.refl d).updLane _ _).trans (bounded_sendBlocks _ _ _ _)
  split
  · exact bounded_sendProtected d l _ _ _
  · exact bounded_sendBlocks d l _ _

theorem bounded_doPacketEnd (l : Fin 32) (d : Dev) : Bounded outMargin d (doPacketEnd l d) := by
  have hidle := bounded_idleOut d l.val
  exact .otherwise fun _ => .ite (fun _ => hidle _ _) fun _ => .ite (fun _ => hidle _ _) fun _ => .ite (fun _ => hidle _ _) fun _ =>
    .otherwise fun _ => .ite (fun _ => hidle _ _) fun _ => bounded_chooseNext d l.val

theorem framePacketEnd : FramePacketEnd := fun l => onlyChanges_of_dev (fun _ => rfl) fun s => bounded_doPacketEnd l s.dev

theorem frameQueueOverflow : FrameQueueOverflow := fun l =>
  onlyChanges_of_dev (F := ⟨[.dirty, .lanes], [], [lane_QUEUE_OVERFLOWS 0]⟩) (fun _ => rfl) fun s => ((Bounded.refl s.dev).updLane _ _).nSet _

/-! ### Messages of the back channel (R404 to R418) -/

theorem bounded_bcReceive {F : Margin} (d : Dev) (l typ : Nat) (msg : List Symbol) {op : Dev → Nat → List Byte → Dev}
    (hop : ∀ e seq p, Bounded F e (op e seq p)) (hF : Margin.sub ⟨[.dirty], [], [lane_BC_ERRORS 0]⟩ F = true := by decide) :
    Bounded F d (bcReceive d l typ msg op) := by
  unfold bcReceive
  split
  · exact .refl d
  split
  · exact (((Bounded.refl d).nInc : Bounded ⟨[.dirty], [], [lane_BC_ERRORS 0]⟩ d _)).mono hF
  · exact .whenever fun _ => hop d _ _

/-- What the acknowledgement of packets changes. -/
def ackMargin : Margin := ⟨[.timers, .dirty, .lanes], [], [lane_BC_ERRORS 0]⟩

theorem bounded_ackUpTo (d : Dev) (l seq : Nat) : Bounded ackMargin d (ackUpTo d l seq) := by
  have hset (f : LaneSt → LaneSt) : Bounded ackMargin d (updLane d l f) := (Bounded.refl d).updLane _ _
  exact .whenever fun _ => .ite (fun _ => (hset _).disarm _ _) fun _ => (hset _).arm _ _ _

theorem frameAck : FrameAck := fun l msg =>
  onlyChanges_of_dev (fun _ => rfl) fun s => bounded_bcReceive s.dev l.val 1 msg fun e _ _ => .whenever fun _ => bounded_ackUpTo e l.val _

theorem frameNak : FrameNak := fun l msg =>
  onlyChanges_of_dev (F := ⟨[.dirty, .lanes], [], [lane_BC_ERRORS 0]⟩) (fun _ => rfl) fun s =>
    bounded_bcReceive s.dev l.val 2 msg fun e _ _ => .whenever fun _ => (Bounded.refl e).updLane _ _

/-- What a STATUS message changes. -/
def statusMargin : Margin :=
  failMargin.join (retrainMargin.join ⟨[], [], [lane_BLOCK_ERRORS 0, lane_PEER_CAPS 0, lane_SKEW_BLOCKS 0, lane_BC_ERRORS 0]⟩)

theorem bounded_statusTraining (d : Dev) (l : Nat) (p : List Byte) : Bounded statusMargin d (statusTraining d l p) := by
  have hfail (r : Nat) : Bounded statusMargin d (failTrain d l r) := (bounded_failTrain d l r).mono
  have hset (f : LaneSt → LaneSt) : Bounded statusMargin d (updLane d l f) := (Bounded.refl d).updLane _ _
  have hfilled (f : LaneSt → LaneSt) (x : Nat) : Bounded statusMargin d (arm (updLane d l f) tkTrainEnd l x) := (hset f).arm _ _ _
  unfold statusTraining
  refine .otherwise fun _ => .ite (fun _ => .whenever fun _ => hset _) fun _ => .ite (fun _ => ?_) fun _ => .whenever fun _ =>
    .ite (fun _ => hfail 5) fun _ => hfilled _ _
  exact .ite (fun _ => hfail 4) fun _ => .ite (fun _ => (Bounded.add (.refl d) (bounded_setLaneState d l 5)).arm _ _ _) fun _ => hfilled _ _

theorem bounded_statusOp (d : Dev) (l : Nat) (p : List Byte) : Bounded statusMargin d (statusOp d l p) := by
  have hcounts (x y : Nat) : Bounded statusMargin d (nSet (nAdd d (lane_BLOCK_ERRORS l) x) (lane_PEER_CAPS l) y) :=
    ((Bounded.refl d).nSet _).nSet _
  have hskew {e : Dev} (he : Bounded statusMargin d e) : Bounded statusMargin d (if nGet e (lane_STATE l) = 6 then
      (if bitOf (ofLe (sliceOf p 0 1)) 0 then arm e tkStatus l (ms 20) else retrain e l) else statusTraining e l p) :=
    .ite (fun _ => .ite (fun _ => he.arm _ _ _) fun _ => he.add (bounded_retrain _ l)) fun _ => he.trans (bounded_statusTraining _ l p)
  exact hskew (.ite (fun _ => (hcounts _ _).nSet _) fun _ => hcounts _ _)

theorem frameStatus : FrameStatus := fun l msg =>
  onlyChanges_of_dev (fun _ => rfl) fun s => bounded_bcReceive s.dev l.val 3 msg fun e _ p => .whenever fun _ => bounded_statusOp e l.val p

theorem frameSigret : FrameSigret := fun l msg =>
  onlyChanges_of_dev (F := ⟨[.dirty, .hearth], [], [lane_BC_ERRORS 0]⟩) (fun _ => rfl) fun s =>
    bounded_bcReceive s.dev l.val 4 msg fun e _ _ => .whenever fun _ => (Bounded.refl e).foldl _ fun f _ _ => (Bounded.refl f).put .hearth rfl

theorem frameLinestat : FrameLinestat := fun l msg =>
  onlyChanges_of_dev (F := ⟨[.dirty], [], [lane_LINE_ERROR_LINES 0, lane_BC_ERRORS 0]⟩) (fun _ => rfl) fun s =>
    bounded_bcReceive s.dev l.val 5 msg fun e _ _ => .whenever fun _ => (Bounded.refl e).nSet _

end Sys2Proof.Machine
end

section
/-!
Panel messages and received packets within their frames (O55): R421 to R441, R431 to R439, R442 to R457.
-/
-- One proof at a time: the tasks of many short proofs wait on one another, and each holds a stack of its own.
set_option Elab.async false
namespace Sys2Proof.Machine

/-! ### Panel messages (R431 to R439, R446 to R457) -/

/-- What a panel changes whose identity check fails (R435, R436). -/
def panelFailMargin : Margin :=
  raiseMargin.join ⟨[.lanes, .wear], [], [hhead_HO_CAUSE 0, hhead_HO_REQUEST 0, panel_IDENTITY_STATE 0, panel_FAIL_REASON 0, panel_WEAR_STATE 0]⟩

theorem bounded_withhold (d : Dev) (h : Nat) : Bounded panelFailMargin d (withhold d h) :=
  .otherwise fun _ => (((Bounded.refl d).nSet _).updPanel _ _).add (bounded_hoCauseSet _ h 4)

theorem bounded_clearWithheld (d : Dev) (h : Nat) : Bounded panelFailMargin d (clearWithheld d h) := by
  have hset (f : PanelSt → PanelSt) : Bounded panelFailMargin d (updPanel d h f) := (Bounded.refl d).updPanel _ _
  exact .whenever fun _ => .ite (fun _ => hset _) fun _ => ((hset _).nSet _).add (bounded_hoCauseClear _ h 4)

theorem bounded_policyLook (d : Dev) (h : Nat) : Bounded panelFailMargin d (policyLook d h) :=
  .otherwise fun _ => .ite (fun _ => bounded_withhold d h) fun _ => bounded_clearWithheld d h

theorem bounded_failPanel (d : Dev) (h reason : Nat) : Bounded panelFailMargin d (failPanel d h reason) :=
  ((((((((Bounded.refl d).disarm _ _).nSet _).nSet _).nSet _).updPanel _ _).serviceLog 8 h reason).raise _).trans (bounded_policyLook _ h)

theorem bounded_idResponse (d : Dev) (h : Nat) (msg : List Byte) : Bounded panelFailMargin d (idResponse d h msg) := by
  have hdisarm : Bounded panelFailMargin d (disarm d tkId h) := (Bounded.refl d).disarm _ _
  unfold idResponse
  refine .otherwise fun _ => ?_
  dsimp only
  split
  · exact hdisarm.trans (bounded_failPanel _ h _)
  · exact (hdisarm.updPanel _ _).add (bounded_startRead _ h 1)

/-- What the write of a summary sector changes (R456). -/
def summaryMargin : Margin := ⟨[.timers, .dirty, .wear], [], [panel_LAST_SUMMARY_WRITE 0]⟩

theorem bounded_writeSummary (d : Dev) (h : Nat) : Bounded summaryMargin d (writeSummary d h) :=
  (((Bounded.refl d).updPanel _ _).nSet _).arm _ _ _

/-- What the write of a dose or hours record to a panel changes (R454, R455). -/
def recordMargin : Margin := ⟨[.timers, .lanes, .wear], [], []⟩

theorem bounded_sendRecord (d : Dev) (h typ gen : Nat) (body : List Byte) : Bounded recordMargin d (sendRecord d h typ gen body) :=
  (((Bounded.foldl (.refl d) _ fun e _ _ => (bounded_sendCtrl e h 2 _).mono).add (bounded_sendCtrl _ h 2 _)).updPanel _ _).arm _ _ _

theorem bounded_sendHours (d : Dev) (h : Nat) : Bounded recordMargin d (sendHours d h) := bounded_sendRecord d h 3 _ _

theorem bounded_startWrite (d : Dev) (h : Nat) : Bounded recordMargin d (startWrite d h) := by
  have hdisarm : Bounded recordMargin d (disarm d tkWriteRetry h) := (Bounded.refl d).disarm _ _
  exact .ite (fun _ => hdisarm.trans (bounded_sendHours _ h)) fun _ => hdisarm.trans (bounded_sendRecord _ h 2 _ _)

theorem bounded_takeSnapshot (d : Dev) (h : Nat) : Bounded recordMargin d (takeSnapshot d h) :=
  (((Bounded.refl d).updPanel _ _).arm _ _ _).trans (bounded_startWrite _ h)

/-- What a panel changes that is accepted (R433, R434, R447 to R450). -/
def acceptMargin : Margin :=
  panelFailMargin.join (summaryMargin.join ⟨[], [], [panel_PANEL_ID 0, panel_NEW_PANEL 0, panel_DOSE_REBUILT 0, panel_OPERATING_S 0, dose_GEN 0,
    dose_GRID 0]⟩)

theorem bounded_newPanel (d : Dev) (h : Nat) : Bounded acceptMargin d (newPanel d h) := by
  unfold newPanel
  split
  · exact .refl d
  · exact .otherwise fun _ => ((((Bounded.refl d).updPanel _ _).add (bounded_writeSummary _ h)).nSet _).raise _

theorem bounded_addEarly (d : Dev) (h : Nat) : Bounded acceptMargin d (addEarly d h) := by
  unfold addEarly
  dsimp only
  refine Bounded.updPanel ?_ _ _
  exact .whenever fun _ => (Bounded.refl d).useFreeN _

theorem bounded_acceptPanel (d : Dev) (h : Nat) : Bounded acceptMargin d (acceptPanel d h) := by
  unfold acceptPanel
  extract_lets x ageRec doseRec hours st a counted same f rebuilt dose secs sent taken kept shown early named armed
  have htaken : Bounded acceptMargin d taken := (Bounded.refl d).updPanel _ _
  have hkept : Bounded acceptMargin d kept := .ite (fun _ => htaken) fun _ => ((htaken.disarm _ _).disarm _ _).disarm _ _
  have hshown : Bounded acceptMargin d shown := ((((((hkept.nSet _).nSet _).nSet _).nSet _).nSet _).nSet _).bSet _
  have hearly : Bounded acceptMargin d early := .ite (fun _ => hshown.trans (bounded_addEarly _ h)) fun _ => hshown
  have hnamed : Bounded acceptMargin d named := (hearly.add (bounded_clearWithheld _ h)).trans (bounded_newPanel _ h)
  have harmed : Bounded acceptMargin d armed := Bounded.arm (.ite (fun _ => hnamed) fun _ => hnamed.arm _ _ _) _ _ _
  exact .ite (fun _ => (harmed.nSet _).add (bounded_takeSnapshot _ h)) fun _ => .ite (fun _ => harmed) fun _ => harmed.arm _ _ _

theorem bounded_doseReloaded (d : Dev) (h : Nat) : Bounded acceptMargin d (doseReloaded d h) := by
  have hset (f : PanelSt → PanelSt) : Bounded acceptMargin d (updPanel d h f) := (Bounded.refl d).updPanel _ _
  exact .ite (fun _ => ((hset _).nSet _).add (bounded_takeSnapshot _ h)) fun _ => hset _

theorem bounded_readDone (d : Dev) (h typ : Nat) : Bounded acceptMargin d (readDone d h typ) :=
  .ite (fun _ => bounded_doseReloaded d h) fun _ => .ite (fun _ => (bounded_startRead d h _).mono) fun _ =>
    .ite (fun _ => bounded_acceptPanel d h) fun _ => (bounded_failPanel d h 5).mono

theorem bounded_readReply (d : Dev) (h : Nat) (msg : List Byte) : Bounded acceptMargin d (readReply d h msg) := by
  have hset (f : PanelSt → PanelSt) : Bounded acceptMargin d (updPanel d h f) := (Bounded.refl d).updPanel _ _
  unfold readReply
  split
  · exact .refl d
  · exact .whenever fun _ => .ite (fun _ => (hset _).trans (bounded_readDone _ h _)) fun _ => (hset _).add (bounded_readNext _ h _ _)

/-- What a failed write to a panel changes (R455). -/
def writeFailMargin : Margin := raiseMargin.join ⟨[.wear], [], [panel_WRITE_FAILS 0]⟩

theorem bounded_writeFailed (d : Dev) (h : Nat) : Bounded writeFailMargin d (writeFailed d h) := by
  have hcount (f : PanelSt → PanelSt) : Bounded writeFailMargin d (updPanel (nInc (disarm d tkCommitted h) (panel_WRITE_FAILS h)) h f) :=
    (((Bounded.refl d).disarm _ _).nInc).updPanel _ _
  exact .ite (fun _ => (hcount _).arm _ _ _) fun _ => .ite (fun _ => (hcount _).raise _) fun _ => hcount _

/-- What the answer to a write to a panel changes. -/
def commitMargin : Margin := writeFailMargin.join ⟨[.lanes], [], [panel_LAST_PANEL_WRITE 0, dose_GEN 0]⟩

theorem bounded_writeDone (d : Dev) (h : Nat) : Bounded ⟨[.wear], [], []⟩ d (writeDone d h) :=
  Bounded.put ((Bounded.refl d).updPanel _ _) .wear rfl

theorem bounded_committed (d : Dev) (h : Nat) (msg : List Byte) : Bounded commitMargin d (committed d h msg) := by
  have hset : Bounded commitMargin d (nSet (disarm d tkCommitted h) (panel_LAST_PANEL_WRITE h) (tbNs d)) := ((Bounded.refl d).disarm _ _).nSet _
  exact .otherwise fun _ => .ite (fun _ => (bounded_writeFailed d h).mono) fun _ => .ite
    (fun _ => ((hset.updPanel _ _).nSet _).add (bounded_sendHours _ h)) fun _ => (hset.updPanel _ _).add (bounded_writeDone _ h)

/-- What a panel's message changes. -/
def panelMargin : Margin := acceptMargin.join (commitMargin.join ⟨[], [], [lane_BC_ERRORS 0]⟩)

theorem bounded_panelData (d : Dev) (h : Nat) (b : List Byte) : Bounded panelMargin d (panelData d h b) :=
  .ite (fun _ => (bounded_idResponse d h _).mono) fun _ => .whenever fun _ => .ite (fun _ => (bounded_readReply d h _).mono) fun _ =>
    .whenever fun _ => (bounded_committed d h _).mono

theorem frameData : FrameData := fun l msg =>
  onlyChanges_of_dev (fun _ => rfl) fun s => bounded_bcReceive s.dev l.val 6 msg fun e _ p => .whenever fun _ =>
    ((Bounded.refl e).updLane _ _).foldl _ fun f h _ => bounded_panelData f h p

/-! ### Received packets (R421 to R429) -/

/-- What a lost lock of a receiving lane changes. -/
def lockMargin : Margin :=
  ⟨[.timers, .dirty, .obs, .lanes], [], logMargin.members ++ [lane_STATE 0, lane_BLOCK_ERRORS 0, lane_RETRAINS 0, vin_STREAM_STATE 0,
    obs_RECORDS_LOST]⟩

theorem bounded_lockLost (d : Dev) (l : Nat) : Bounded lockMargin d (lockLost d l) := by
  have hset (f : LaneSt → LaneSt) : Bounded lockMargin d (updLane d l f) := (Bounded.refl d).updLane _ _
  have hlost {e : Dev} (he : Bounded lockMargin d e) : Bounded lockMargin d (streamStates (arm (setLaneState e l 2) tkStatusSend l (ms 1)) l) :=
    ((he.add (bounded_setLaneState _ l 2)).arm _ _ _).add (bounded_streamStates _ l)
  exact hlost (.ite (fun _ => (hset _).nInc.add (bounded_serviceLog _ 3 l 0)) fun _ => hset _)

/-- What the blocks of a packet change that a lane receives. -/
def rxMargin : Margin := lockMargin.join countMargin

theorem bounded_rxBlocks (d : Dev) (l n : Nat) (bad : Bool) : Bounded rxMargin d (rxBlocks d l n bad) :=
  ((Bounded.refl d).countSignal _ n).updLane _ _

theorem bounded_rxErrors (d : Dev) (l n : Nat) : Bounded lockMargin d (rxErrors d l n) := ((Bounded.refl d).nSet _).updLane _ _

theorem bounded_rxTake (d : Dev) (l : Nat) (p : List Byte) : Bounded rxMargin d (rxTake d l p).1 := by
  have hbad : Bounded rxMargin d (rxErrors (rxBlocks d l 1 true) l 1) := (bounded_rxBlocks d l 1 true).add (bounded_rxErrors _ l 1)
  have hblocks := bounded_rxBlocks d l (p.length / 8) false
  have herror : Bounded rxMargin d (rxErrors (rxBlocks d l (p.length / 8) false) l 1) := hblocks.add (bounded_rxErrors _ l 1)
  unfold rxTake
  split
  · exact .refl d
  split
  · exact .ite (fun _ => hbad.add (bounded_lockLost _ l)) fun _ => hbad
  dsimp only
  split
  · exact herror
  split
  · exact herror
  split
  · exact .ite (fun _ => hblocks.updLane _ _) fun _ => hblocks
  · exact hblocks

theorem bounded_bcSend (d : Dev) (l typ seq : Nat) (p : List Byte) : Bounded ⟨[.lanes, .out], [], []⟩ d (bcSend d l typ seq p) :=
  ((Bounded.refl d).updLane _ _).emit _

/-- What a protected packet changes that a lane receives. -/
def protectedMargin : Margin := rxMargin.join ⟨[.out], [], [vin_FORMAT 0, vin_WIDTH 0, vin_HEIGHT 0, vin_RATE 0]⟩

theorem bounded_modeOp (d : Dev) (p : List Byte) (i : Nat) : Bounded protectedMargin d (modeOp d p i) :=
  (((((Bounded.refl d).nSet _).nSet _).nSet _).nSet _).updVin _ _ |>.nSet _

theorem bounded_rxProtected (d : Dev) (l : Nat) (p : List Byte) : Bounded protectedMargin d (rxProtected d l p) := by
  have htaken : Bounded protectedMargin d (rxTake d l p).1 := (bounded_rxTake d l p).mono
  unfold rxProtected
  dsimp only
  refine .ite (fun _ => htaken) fun _ => ?_
  split
  · exact htaken.add (bounded_bcSend _ _ _ _ _)
  · refine .ite (fun _ => htaken.add (bounded_bcSend _ _ _ _ _)) fun _ => ?_
    have hacked (f : LaneSt → LaneSt) (b : List Byte) : Bounded protectedMargin d (bcSend (updLane (rxTake d l p).1 l f) l 1 0 b) :=
      (htaken.updLane _ _).add (bounded_bcSend _ _ _ _ _)
    exact .ite (fun _ => ((hacked _ _).updLane _ _).foldl _ fun e i _ => bounded_modeOp e _ i) fun _ => hacked _ _

theorem frameRxModePacket : FrameRxModePacket := by
  intro l pkt
  simp only [List.forall_mem_cons, List.not_mem_nil, false_imp_iff, implies_true, and_true]
  exact ⟨onlyChanges_of_dev (fun _ => rfl) fun s => .whenever fun _ => bounded_rxProtected s.dev l.val pkt,
    onlyChanges_of_dev (fun _ => rfl) fun s => bounded_rxProtected s.dev l.val pkt⟩

/-! ### Lines of a video input (R424 to R428) -/

theorem bounded_states {F : Margin} {α : Type} {step : State → α → State} (l : List α)
    (hstep : ∀ u a, SceneKeys u.dev.scene.alloc → Bounded F u.dev (step u a).dev) (s : State) (hs : SceneKeys s.dev.scene.alloc) :
    Bounded F s.dev (l.foldl step s).dev := by
  induction l generalizing s with
  | nil => exact .refl _
  | cons a l ih => exact (hstep s a hs).trans (ih _ ((hstep s a hs).keys hs))

/-- What the lines of a packet change that a lane receives. -/
def lineMargin : Margin :=
  writeMargin.join (rxMargin.join ⟨[.lanes, .free, .out], [], [vin_FRAMES_COMPLETED 0, vin_FRAMES_DROPPED 0, vin_LINES_DAMAGED 0, vin_WRITING 0,
    vin_LAST_COMPLETE 0, vin_LAST_START_TIME 0]⟩)

theorem bounded_damageLine (d : Dev) (i line : Nat) : Bounded lineMargin d (damageLine d i line) :=
  .otherwise fun _ => ((Bounded.refl d).updVin _ _).nInc

theorem bounded_writeLine (i : Nat) (s : State) (q : LinePart) (hs : SceneKeys s.dev.scene.alloc) :
    Bounded lineMargin s.dev (writeLine i s q).dev := by
  have hfailed : Bounded lineMargin s.dev (q.parts.foldl (fun d p => failRmw d (q.base + p.1) p.2.length 1) s.dev) :=
    (Bounded.refl _).foldl_keys _ (fun e p he => (bounded_failRmw e _ _ 1 he).mono) hs
  unfold writeLine
  dsimp only
  split
  · exact hfailed.trans (bounded_damageLine _ i _)
  · exact hfailed.trans (bounded_states _ (fun u p _ => (bounded_putRange u 1 _ _).mono) (withDev s _) (hfailed.keys hs))

theorem bounded_flushLines (s : State) (i : Nat) (hs : SceneKeys s.dev.scene.alloc) : Bounded lineMargin s.dev (flushLines s i).dev := by
  have hset (f : VideoIn → VideoIn) : Bounded lineMargin s.dev (updVin s.dev i f) := (Bounded.refl _).updVin _ _
  unfold flushLines
  split
  · have hkept := hset (fun x => { x with held := [] })
    exact hkept.trans (bounded_states _ (fun u q hu => bounded_writeLine i u q hu) (withDev s _) (hkept.keys hs))
  · exact .refl _

theorem bounded_endLine (s : State) (i : Nat) (hs : SceneKeys s.dev.scene.alloc) : Bounded lineMargin s.dev (endLine s i).dev := by
  have hset (f : VideoIn → VideoIn) : Bounded lineMargin s.dev (updVin s.dev i f) := (Bounded.refl _).updVin _ _
  unfold endLine
  split
  · exact .refl _
  · exact (hset _).trans (bounded_flushLines (withDev s (updVin s.dev i _)) i ((hset _).keys hs))

theorem bounded_startFrame (d : Dev) (i : Nat) : Bounded lineMargin d (startFrame d i) := by
  have hsurface : Bounded lineMargin d (takeSurface d i) := .otherwise fun _ => (Bounded.refl d).updVin _ _
  have hlook : Bounded lineMargin d (lookStream (takeSurface d i) i) := hsurface.nSet _
  unfold startFrame
  extract_lets looked fresh timed
  have hfresh : Bounded lineMargin d fresh := (hlook.nSet _).updVin _ _
  have htimed : Bounded lineMargin d timed := hfresh.nSet _
  refine .ite (fun _ => htimed.updVin _ _) fun _ => ?_
  split
  · exact (htimed.updVin _ _).nInc
  · exact (htimed.updVin _ _).nSet _

theorem bounded_keepPiece (d : Dev) (i line off : Nat) (payload : List Byte) : Bounded lineMargin d (keepPiece d i line off payload) := by
  unfold keepPiece
  exact (Bounded.refl d).updVin _ _

theorem bounded_linePassed (d : Dev) (i line : Nat) (last : Bool) (hd : SceneKeys d.scene.alloc) :
    Bounded lineMargin d (linePassed d i line last) := by
  unfold linePassed
  extract_lets noted k whole
  have hnoted : Bounded lineMargin d noted := (Bounded.refl d).updVin _ _
  have hcomplete : Bounded lineMargin d (nSets (nInc whole (vin_FRAMES_COMPLETED i)) [(vin_LAST_COMPLETE i, k), (vin_WRITING i, 0xFF)]) :=
    (((hnoted.updVin _ _).nInc).nSet _).nSet _
  exact .ite (fun _ => hcomplete.add (bounded_refreshLeases _ (hcomplete.keys hd))) fun _ => hnoted

theorem Bounded.withDev {F : Margin} {d e : Dev} (h : Bounded F d e) (s : State) : Bounded F d (withDev s e).dev := h

theorem Bounded.iteState {F : Margin} {d : Dev} {c : Prop} [Decidable c] {u v : State} (ht : c → Bounded F d u.dev) (hf : ¬ c → Bounded F d v.dev) :
    Bounded F d (if c then u else v).dev := by
  split
  case isTrue hc => exact ht hc
  case isFalse hc => exact hf hc

theorem bounded_inputLine (s : State) (p : List Byte) (i : Nat) (hs : SceneKeys s.dev.scene.alloc) :
    Bounded lineMargin s.dev (inputLine s p i).dev := by
  unfold inputLine
  extract_lets flags line off n payload crcOk start looked ended started d kept filled
  have hlooked : Bounded lineMargin s.dev looked.dev := (bounded_lookStreams s.dev).mono.withDev s
  have hended : Bounded lineMargin s.dev ended.dev :=
    .iteState (fun _ => hlooked.trans (bounded_endLine looked i (hlooked.keys hs))) fun _ => hlooked
  have hframe : Bounded lineMargin s.dev (startFrame ended.dev i) := hended.trans (bounded_startFrame ended.dev i)
  have hstarted : Bounded lineMargin s.dev started.dev :=
    .iteState (fun _ => (hframe.add (bounded_refreshLeases _ (hframe.keys hs))).withDev ended) fun _ => hended
  clear_value started
  have hkept : Bounded lineMargin s.dev kept :=
    Bounded.trans (.ite (fun _ => hstarted) fun _ => hstarted.trans (bounded_damageLine _ i line)) (bounded_keepPiece _ i line off payload)
  have hfilled : Bounded lineMargin s.dev filled.dev :=
    .iteState (fun _ => hkept.trans (bounded_endLine (withDev started kept) i (hkept.keys hs))) fun _ => hkept.withDev started
  exact .iteState (fun _ => hstarted) fun _ => (hfilled.trans (bounded_linePassed _ i line _ (hfilled.keys hs))).withDev filled

theorem bounded_noteLine (d : Dev) (l line : Nat) (bad : Bool) : Bounded sendMargin d (noteLine d l line bad) :=
  .whenever fun _ => (Bounded.refl d).updLane _ _

theorem bounded_sendLinestat (d : Dev) (l : Nat) : Bounded lineMargin d (sendLinestat d l) := by
  have hfree : Bounded lineMargin d (if (laneOf d l).rxBad.isEmpty then freeUsed d else d) := .whenever fun _ => (Bounded.refl d).useFree
  unfold sendLinestat
  dsimp only
  exact (hfree.add (bounded_bcSend _ _ _ _ _)).updLane _ _

theorem bounded_lineReport (d : Dev) (l line frame : Nat) (good last : Bool) : Bounded lineMargin d (lineReport d l line frame good last) := by
  unfold lineReport
  extract_lets sent noted
  have hsent : Bounded lineMargin d sent := .whenever fun _ => bounded_sendLinestat d l
  have hnoted : Bounded lineMargin d noted := (hsent.updLane _ _).add (bounded_noteLine _ _ _ _)
  exact .ite (fun _ => hnoted.trans (bounded_sendLinestat _ l)) fun _ => hnoted

theorem bounded_doRxLinePacket (l : Fin 32) (p : List Byte) (s : State) (hs : SceneKeys s.dev.scene.alloc) :
    Bounded lineMargin s.dev (doRxLinePacket l p s).dev := by
  have htaken : Bounded lineMargin s.dev (rxTake s.dev l p).1 := (bounded_rxTake s.dev l p).mono
  have hlines (l' : List Nat) := htaken.trans (bounded_states l' (fun u i hu => bounded_inputLine u p i hu)
    (withDev s (rxTake s.dev l p).1) (htaken.keys hs))
  unfold doRxLinePacket
  dsimp only
  split
  · exact htaken
  split
  · exact htaken.add (bounded_noteLine (rxTake s.dev l p).1 l.val (ofLe (sliceOf p 2 2) % 2 ^ 14) true)
  · exact (hlines _).trans (bounded_lineReport _ _ _ _ _ _)

theorem frameRxLinePacket : FrameRxLinePacket := by
  intro l pkt s u hs hnext
  obtain rfl := Host.Outcome.next.inj hnext
  exact differOnly_of_bounded (bounded_doRxLinePacket l pkt s hs).mono (.inr rfl)

/-! ### Power over the cable, block lock and STATUS (R394 to R399, R421 to R423) -/

theorem bounded_doPocRampComplete (l : Fin 32) (d : Dev) :
    Bounded ⟨.free :: trainMargin.parts, [], trainMargin.members⟩ d (doPocRampComplete l d) := by
  unfold doPocRampComplete
  extract_lets k sampled
  have hsampled : Bounded ⟨.free :: trainMargin.parts, [], trainMargin.members⟩ d sampled := by
    have hset : Bounded ⟨.free :: trainMargin.parts, [], trainMargin.members⟩ d (nSet (disarm d tkPocRamp l) (lane_POC_STATE l) 2) :=
      ((Bounded.refl d).disarm _ _).nSet _
    exact .ite (fun _ => hset.useFree.nSet _) fun _ => hset
  exact .otherwise fun _ => .ite (fun _ => hsampled.add (bounded_setLaneState _ _ _)) fun _ => .ite (fun _ => hsampled.add (bounded_startTrain _ _))
    fun _ => hsampled

theorem framePocRampComplete : FramePocRampComplete := fun l => onlyChanges_of_dev (fun _ => rfl) fun s => bounded_doPocRampComplete l s.dev

/-- What a cut-off of the power over a cable changes. -/
def cutoffMargin : Margin := failMargin.join (pocMargin.join ⟨[], [], [lane_POC_FAULTS 0]⟩)

theorem bounded_doPocCutoff (l : Fin 32) (cause : Nat) (d : Dev) : Bounded cutoffMargin d (doPocCutoff l cause d) := by
  unfold doPocCutoff
  extract_lets k st past latch cut counted raised ls
  have hcounted : Bounded cutoffMargin d counted := ((((((Bounded.refl d).disarm _ _).updLane _ _).nSet _).nSet _).nInc)
  have hraised : Bounded cutoffMargin d raised := Bounded.raise (.ite (fun _ => hcounted) fun _ => hcounted.arm _ _ _) _
  exact .otherwise fun _ => .ite (fun _ => hraised.add (bounded_failTrain _ _ 1)) fun _ => hraised

theorem framePocCutoff : FramePocCutoff := fun l cause => onlyChanges_of_dev (fun _ => rfl) fun s => bounded_doPocCutoff l cause s.dev

theorem bounded_doBlockLock (l : Fin 32) (d : Dev) : Bounded ⟨[.dirty, .obs, .lanes], [], laneStateMargin.members⟩ d (doBlockLock l d) := by
  have hset (f : LaneSt → LaneSt) : Bounded ⟨[.dirty, .obs, .lanes], [], laneStateMargin.members⟩ d (updLane d l f) := (Bounded.refl d).updLane _ _
  exact .whenever fun _ => .ite (fun _ => (hset _).add (bounded_setLaneState _ _ 3)) fun _ => hset _

theorem frameBlockLock : FrameBlockLock := fun l => onlyChanges_of_dev (fun _ => rfl) fun s => bounded_doBlockLock l s.dev

theorem frameBlockLockLoss : FrameBlockLockLoss := fun l => onlyChanges_of_dev (fun _ => rfl) fun s =>
  .otherwise fun _ => (bounded_rxErrors s.dev _ _).trans (bounded_lockLost _ _)

theorem bounded_doStatusSend (l : Fin 32) (d : Dev) : Bounded ⟨[.timers, .lanes, .free, .out], [], []⟩ d (doStatusSend l d) := by
  unfold doStatusSend
  dsimp only
  exact .otherwise fun _ => (Bounded.updLane (((Bounded.refl d).useFreeN 2).add (bounded_bcSend _ _ _ _ _)) _ _).arm _ _ _

theorem frameStatusSend : FrameStatusSend := fun l => onlyChanges_of_dev (fun _ => rfl) fun s => bounded_doStatusSend l s.dev

theorem framePocCooldownExpiry : FramePocCooldownExpiry := fun l => onlyChanges_of_dev (F := pocMargin) (fun _ => rfl) fun s =>
  .whenever fun _ => (((Bounded.refl s.dev).disarm _ _).nSet _).trans (bounded_pocLook _ _)

/-- Settles O55, clause by clause. -/
theorem frameLanes : Obligations.FrameLanes :=
  ⟨frameLaneDirectionWrite, frameLaneTrainingStart, frameBackChannelLock, frameTrainingDeadlineMissed, frameLaneReady, frameCommaLockLoss,
    framePacketEnd, frameQueueOverflow, frameAck, frameNak, frameStatus, frameSigret, frameLinestat, frameData, frameRxModePacket,
    frameRxLinePacket, framePocRampComplete, framePocCutoff, frameBlockLock, frameBlockLockLoss, frameStatusSend, framePocCooldownExpiry⟩

end Sys2Proof.Machine
end

section
/-!
Panels, wear, DMA lists and the blitter within their frames (O56): R431 to R457, R500 to R530.
-/
-- One proof at a time: the tasks of many short proofs wait on one another, and each holds a stack of its own.
set_option Elab.async false
namespace Sys2Proof.Machine

/-! ### Panels (R431 to R439, R446 to R457) -/

theorem frameIdResponse : FrameIdResponse := fun h msg => onlyChanges_of_dev (fun _ => rfl) fun s => bounded_idResponse s.dev h.val msg

theorem frameIdResponseTimeout : FrameIdResponseTimeout := fun h => onlyChanges_of_dev (F := panelFailMargin) (fun _ => rfl) fun s =>
  .whenever fun _ => .ite (fun _ => (bounded_sendIdRequest s.dev h.val).mono) fun _ => bounded_failPanel s.dev h.val 1

theorem frameReadReply : FrameReadReply := fun h msg => onlyChanges_of_dev (fun _ => rfl) fun s => bounded_readReply s.dev h.val msg

theorem frameCommitted : FrameCommitted := fun h msg => onlyChanges_of_dev (fun _ => rfl) fun s => bounded_committed s.dev h.val msg

theorem frameCommittedTimeout : FrameCommittedTimeout := fun h => onlyChanges_of_dev (fun _ => rfl) fun s =>
  .whenever fun _ => bounded_writeFailed s.dev h.val

theorem frameWriteRetryExpiry : FrameWriteRetryExpiry := fun h => onlyChanges_of_dev (fun _ => rfl) fun s =>
  .whenever fun _ => bounded_startWrite s.dev h.val

/-- What doses change that are read from DRAM (R444, R473). -/
theorem bounded_readDoses (d : Dev) (hd : SceneKeys d.scene.alloc) : Bounded blockMargin d (readDoses d) := by
  unfold readDoses
  extract_lets r bad reported
  have hreported : Bounded blockMargin d reported := by
    refine (Bounded.refl d).foldl_keys _ (fun e b he => ?_) hd
    split
    · exact bounded_reportBad e b _ 2 0 he
    · exact .refl e
  exact .otherwise fun _ => (hreported.put .dram rfl).trans (bounded_reloadDoses _)

theorem bounded_passRow (d : Dev) (h r : Nat) : Bounded blockMargin d (passRow d h r) := by
  unfold passRow
  extract_lets q x cols mine delta add rest kept counted
  have hkept : Bounded blockMargin d kept := (Bounded.refl d).updPanel _ _
  have hcounted : Bounded blockMargin d counted :=
    .ite (fun _ => hkept) fun _ => .ite (fun _ => hkept.updPanel _ _) fun _ => .ite (fun _ => .ite (fun _ => hkept.updPanel _ _) fun _ =>
      hkept.updPanel _ _) fun _ => hkept
  exact hcounted.trans (bounded_countGap _ h)

theorem bounded_doDoseSnapshot (h : Fin 16) (d : Dev) (hd : SceneKeys d.scene.alloc) : Bounded blockMargin d (doDoseSnapshot h d) :=
  .whenever fun _ => (bounded_readDoses d hd).add (bounded_takeSnapshot _ h.val)

theorem bounded_doCellRowDose (h : Fin 16) (d : Dev) (hd : SceneKeys d.scene.alloc) : Bounded blockMargin d (doCellRowDose h d) := by
  unfold doCellRowDose
  split
  · exact .refl d
  · exact (bounded_readDoses d hd).trans (bounded_passRow _ h.val _)

theorem frameDoseSnapshot : FrameDoseSnapshot := by
  intro h
  simp only [List.forall_mem_cons, List.not_mem_nil, false_imp_iff, implies_true, and_true]
  exact ⟨onlyChangesScene_of_dev (fun _ => rfl) fun s hs => bounded_doDoseSnapshot h s.dev hs,
    onlyChangesScene_of_dev (fun _ => rfl) fun s hs => bounded_doCellRowDose h s.dev hs⟩

/-- What new gains change. -/
def gainMargin : Margin := blockMargin.join ⟨[], [], [panel_WORST_LOSS 0, panel_WORST_CELL 0]⟩

theorem bounded_checkWear (d : Dev) (h : Nat) : Bounded gainMargin d (checkWear d h) := by
  unfold checkWear
  extract_lets x w cols shown high raised
  have hshown : Bounded gainMargin d shown := ((Bounded.refl d).nSet _).nSet _
  have hraised : Bounded gainMargin d raised := .ite (fun _ => hshown.raise _) fun _ => hshown
  exact hraised.updPanel _ _

theorem bounded_setGains (d : Dev) (h : Nat) (atOnce : Bool) : Bounded gainMargin d (setGains d h atOnce) := by
  have hset (f : PanelSt → PanelSt) : Bounded gainMargin d (updPanel d h f) := (Bounded.refl d).updPanel _ _
  exact .ite (fun _ => hset _) fun _ => hset _

theorem bounded_doGainRecompute (h : Fin 16) (d : Dev) (hd : SceneKeys d.scene.alloc) : Bounded gainMargin d (doGainRecompute h d) := by
  unfold doGainRecompute
  extract_lets k read set first
  have hread : Bounded gainMargin d read := (bounded_readDoses d hd).mono
  have hfirst : Bounded gainMargin d first := Bounded.updPanel ((hread.trans (bounded_setGains _ _ _)).arm _ _ _) _ _
  exact .whenever fun _ => .ite (fun _ => hread.arm _ _ _) fun _ => .ite (fun _ => hfirst.trans (bounded_checkWear _ _)) fun _ => hfirst

theorem frameGainRecompute : FrameGainRecompute := fun h =>
  onlyChangesScene_of_dev (fun _ => rfl) fun s hs => bounded_doGainRecompute h s.dev hs

theorem frameOrbitStep : FrameOrbitStep := fun h =>
  onlyChanges_of_dev (F := ⟨[.heads], [], []⟩) (fun _ => rfl) fun s => (Bounded.refl s.dev).put .heads rfl

theorem bounded_doOperatingSecond (h : Fin 16) (d : Dev) :
    Bounded ⟨[.timers, .dirty, .wear], [], [panel_OPERATING_S 0]⟩ d (doOperatingSecond h d) := by
  have harmed : Bounded ⟨[.timers, .dirty, .wear], [], [panel_OPERATING_S 0]⟩ d (arm d tkOperating h.val (ms 1000)) := (Bounded.refl d).arm _ _ _
  exact .otherwise fun _ => .ite (fun _ => (harmed.updPanel _ _).nSet _) fun _ => harmed

theorem frameOperatingSecond : FrameOperatingSecond := fun h => onlyChanges_of_dev (fun _ => rfl) fun s => bounded_doOperatingSecond h s.dev

theorem frameAckNew : FrameAckNew := fun sess h arg =>
  onlyChanges_of_dev (F := answerMargin.join ⟨[.dirty], [], [panel_NEW_PANEL 0]⟩) (fun _ => rfl) fun s => .withGate (by
    unfold ackNewOp
    split
    · exact .refl _
    · exact (Bounded.refl _).nSet _)

theorem frameRowRead : FrameRowRead := fun sess h arg =>
  onlyChanges_of_dev (F := answerMargin) (fun _ => rfl) fun s => .withGate (by
    unfold rowReadOp
    dsimp only
    split
    · exact .refl _
    · exact .refl _)

/-- What the gains change that the controller reads (R483). -/
def gainReadMargin : Margin := answerMargin.join ⟨raiseParts ++ sramReach.parts, sramReach.classes, raiseMembers ++ sramReach.members⟩

theorem frameGainRead : FrameGainRead := fun sess h arg =>
  onlyChanges_of_dev (F := gainReadMargin) (fun _ => rfl) fun s => .withGate (by
    unfold gainReadOp
    dsimp only
    split
    · exact .refl _
    · exact (Bounded.refl _).foldl _ fun e k _ => .ofWithin (within_sramBad e _ 12 0))

theorem frameSummaryWrite : FrameSummaryWrite :=
  onlyChanges_of_dev (F := summaryMargin) (fun _ => rfl) fun s => (Bounded.refl s.dev).foldl _ fun e h _ => .whenever fun _ =>
    bounded_writeSummary e h

/-! ### DMA lists (R500 to R512) -/

/-- What a post of a list changes, or the abortion of a channel's lists. -/
def postListMargin : Margin := answerMargin.join ⟨[.dirty, .movers], [], [dma_STATE 0, dma_QUEUED 0]⟩

theorem bounded_enqueueList {d e : Dev} {n a : Nat} (h : enqueueList d n a = some e) : Bounded postListMargin d e := by
  unfold enqueueList at h
  split at h
  · exact absurd h (by simp)
  · obtain rfl := Option.some.inj h
    exact (bounded_updChan d n _).mono

theorem bounded_postOp (d : Dev) (n a : Nat) : Bounded postListMargin d (postOp d n a).1 := by
  unfold postOp
  split
  · exact .refl d
  split
  · exact .refl d
  split
  · exact .refl d
  · next e hqueued => exact bounded_enqueueList hqueued

theorem framePost : FramePost := fun _ n addr => onlyChanges_of_dev (fun _ => rfl) fun s => .withGate (bounded_postOp s.dev n.val addr)

theorem bounded_abortOp (d : Dev) (n arg : Nat) : Bounded postListMargin d (abortOp d n arg).1 := by
  unfold abortOp
  split
  · exact .refl d
  · dsimp only
    exact (bounded_updChan d n _).mono

theorem frameAbort : FrameAbort := fun _ n arg => onlyChanges_of_dev (fun _ => rfl) fun s => .withGate (bounded_abortOp s.dev n.val arg)

/-- What the start of a DMA list changes. -/
def listMargin : Margin :=
  retireMargin.join ⟨[.movers], [], [dma_STATE 0, dma_QUEUED 0, dma_LAST_SEQ 0, dma_LAST_STATUS 0, dma_LAST_DETAIL 0, dma_LAST_BYTES 0,
    dma_LISTS_DONE 0, dma_LISTS_FAILED 0]⟩

theorem bounded_reportList (d : Dev) (n seq flags : Nat) (st : Status) (detail bytes : Nat) :
    Bounded listMargin d (reportList d n seq flags st detail bytes) := by
  have hlast : Bounded listMargin d (nSets d [(dma_LAST_SEQ n, seq), (dma_LAST_STATUS n, st.code), (dma_LAST_DETAIL n, detail),
      (dma_LAST_BYTES n, bytes)]) := ((((Bounded.refl d).nSet _).nSet _).nSet _).nSet _
  exact .ite (fun _ => .ite (fun _ => hlast.nInc.raise _) fun _ => hlast.nInc) fun _ => hlast.nInc.raise _

theorem bounded_refuseUnread (d : Dev) (n : Nat) (st : Status) (detail : Nat) : Bounded listMargin d (refuseUnread d n st detail) :=
  (Bounded.refl d).useFree.trans (bounded_reportList _ n _ _ _ _ _)

/-- What the marks of a running job's ranges change. -/
def markMargin : Margin := ⟨[.scene, .movers], [], []⟩

theorem bounded_markJob (d : Dev) (owner : Nat) (ws rs : List (Nat × Nat)) : Bounded markMargin d (markJob d owner ws rs) :=
  Bounded.put (f := markJob d owner ws rs) ((Bounded.refl d).setScene (x := (markJob d owner ws rs).scene) id) .movers rfl

theorem bounded_unmarkJob (d : Dev) (owner : Nat) : Bounded markMargin d (unmarkJob d owner) :=
  Bounded.put (f := unmarkJob d owner) ((Bounded.refl d).setScene (x := (unmarkJob d owner).scene) id) .movers rfl

theorem bounded_askSources (d : Dev) (cls unit : Nat) (rs : List (Nat × Nat)) : Bounded blockMargin d (askSources d cls unit rs) :=
  (Bounded.refl d).foldl _ fun e r _ => bounded_askRange e cls unit r.1 r.2

theorem bounded_takeList {d e : Dev} {n a : Nat} (h : takeList d n = some (e, a)) : Bounded listMargin d e := by
  have hupd (f : DmaChan → DmaChan) : Bounded listMargin d (updChan d n f) := (bounded_updChan d n f).mono
  unfold takeList at h
  dsimp only at h
  split at h
  · exact (Prod.mk.inj (Option.some.inj h)).1 ▸ hupd _
  · split at h
    · exact (Prod.mk.inj (Option.some.inj h)).1 ▸ hupd _
    · exact absurd h (by simp)

theorem bounded_doDmaListStart (n : Fin 32) (s : State) (hs : SceneKeys s.dev.scene.alloc) : Bounded listMargin s.dev (doDmaListStart n s).dev := by
  unfold doDmaListStart
  refine .iteState (fun _ => .refl _) fun _ => ?_
  split
  · exact .refl _
  next d a htaken =>
    have htaken := bounded_takeList htaken
    have hread (len : Nat) : Bounded listMargin s.dev (readRange d a len 3) := htaken.add (bounded_readRange d a len 3 (htaken.keys hs))
    refine Bounded.withDev ?_ s
    refine .ite (fun _ => htaken.trans (bounded_refuseUnread _ _ _ _)) fun _ =>
      .ite (fun _ => htaken.trans (bounded_refuseUnread _ _ _ _)) fun _ => ?_
    dsimp only
    refine .ite (fun _ => (hread _).trans (bounded_reportList _ _ _ _ _ _ _)) fun _ =>
      .ite (fun _ => (hread _).trans (bounded_reportList _ _ _ _ _ _ _)) fun _ => ?_
    split
    · exact (hread _).trans (bounded_reportList _ _ _ _ _ _ _)
    · exact (((hread _).add (bounded_markJob _ _ _ _)).add (bounded_updChan _ _ _)).add (bounded_askSources _ _ _ _)

theorem doDmaListStart_mem (n : Fin 32) (s : State) : (doDmaListStart n s).mem = s.mem := by
  unfold doDmaListStart
  split
  · rfl
  · split <;> rfl

theorem frameDmaListStart : FrameDmaListStart := by
  intro n s u hs hnext
  obtain rfl := Host.Outcome.next.inj hnext
  exact differOnly_of_bounded (bounded_doDmaListStart n s hs).mono (.inl (doDmaListStart_mem n s))

/-! ### Moves of a list or a blitter command (R507, R525, R526) -/

/-- What the moves of a job change. -/
def jobMargin : Margin := retireMargin.join writeMargin

theorem bounded_jobPut (s : State) (a : Nat) (bs : List Byte) (cls : Nat) (hs : SceneKeys s.dev.scene.alloc) :
    Bounded writeMargin s.dev (jobPut s a bs cls).dev :=
  .iteState (fun _ => bounded_putRange s cls a bs) fun _ => (bounded_failRmw s.dev a bs.length cls hs).withDev s

theorem bounded_putMoves (s : State) (cls : Nat) (ms : List Move) (hs : SceneKeys s.dev.scene.alloc) :
    Bounded jobMargin s.dev (putMoves s cls ms).dev :=
  bounded_states _ (fun u r _ => (bounded_putRange u cls r.1 r.2).mono) s hs

theorem bounded_stopMoves (s : State) (cls : Nat) (ms : List Move) (fit : Move → Bool) (back : Bool) (k : Nat) (hs : SceneKeys s.dev.scene.alloc) :
    Bounded jobMargin s.dev (stopMoves s cls ms fit back k).dev := by
  unfold stopMoves
  extract_lets u rest v
  have hu : Bounded jobMargin s.dev u.dev := bounded_putMoves s cls _ hs
  have hv : Bounded jobMargin s.dev v.dev := hu.trans (bounded_putMoves u cls _ (hu.keys hs))
  exact (hv.useFreeN _).withDev v

theorem bounded_runMoves (s : State) (got : SMap (List Byte)) (ms own : List Move) (back : Bool) (cls : Nat) (hs : SceneKeys s.dev.scene.alloc) :
    Bounded jobMargin s.dev (runMoves s got ms own back cls).1.dev := by
  unfold runMoves
  dsimp only
  split
  · exact bounded_putMoves s cls ms hs
  · next k m _ =>
    have hread (c : Prop) [Decidable c] (a : Nat) : Bounded jobMargin s.dev (if c then readRange s.dev a 1 cls else s.dev) :=
      .whenever fun _ => (bounded_readRange s.dev a 1 cls hs).mono
    have hfailed {e : Dev} (he : Bounded jobMargin s.dev e) (c : Prop) [Decidable c] :
        Bounded jobMargin s.dev (if c then failRmw e m.dst 1 cls else e) :=
      .ite (fun _ => he.add (bounded_failRmw e m.dst 1 cls (he.keys hs))) fun _ => he
    have hsource {e : Dev} (he : Bounded jobMargin s.dev e) (fit : Move → Bool) :
        Bounded jobMargin s.dev (stopMoves (withDev s e) cls own fit back k).dev :=
      he.trans (bounded_stopMoves (withDev s e) cls own fit back k (he.keys hs))
    refine hsource (hfailed ?_ _) _
    split
    · exact hread _ _
    · exact .refl _

/-! ### DMA lists that complete (R508 to R512) -/

/-- What a DMA list changes that completes. -/
def listDoneMargin : Margin := listMargin.join writeMargin

theorem bounded_moveList (s : State) (j : DmaJob) (hs : SceneKeys s.dev.scene.alloc) : Bounded jobMargin s.dev (moveList s j).1.dev := by
  have hfree : Bounded jobMargin s.dev (freeUsed s.dev) := (Bounded.refl _).useFree
  unfold moveList
  dsimp only
  split
  · exact hfree.trans (bounded_stopMoves (withDev s _) 3 _ _ false _ (hfree.keys hs))
  · exact bounded_runMoves s j.got _ _ false 3 hs

theorem bounded_doDmaListComplete (n : Fin 32) (s : State) (hs : SceneKeys s.dev.scene.alloc) :
    Bounded listDoneMargin s.dev (doDmaListComplete n s).dev := by
  unfold doDmaListComplete
  split
  · exact .refl _
  next j _ =>
    refine .iteState (fun _ => .refl _) fun _ => ?_
    extract_lets x lost y st put d
    have hcancel : Bounded listDoneMargin s.dev (cancelReads s.dev 3 n.val) := (bounded_cancelReads s.dev 3 n.val).mono
    have hmoved : Bounded listDoneMargin s.dev x.1.dev := hcancel.add (bounded_moveList (withDev s _) j (hcancel.keys hs))
    have hput : Bounded listDoneMargin s.dev put.dev :=
      .iteState (fun _ => hmoved.add (bounded_jobPut x.1 _ _ 3 (hmoved.keys hs))) fun _ => hmoved
    have hd : Bounded listDoneMargin s.dev d := (hput.add (bounded_unmarkJob _ _)).add (bounded_updChan _ _ _)
    exact (hd.add (bounded_reportList _ _ _ _ _ _ _)).withDev put

theorem frameDmaListComplete : FrameDmaListComplete := by
  intro n s u hs hnext
  obtain rfl := Host.Outcome.next.inj hnext
  exact differOnly_of_bounded (bounded_doDmaListComplete n s hs).mono (.inr rfl)

/-! ### Blitter rings (R515 to R530) -/

theorem bounded_kickOp (m : List Host.Cell) (d : Dev) (r arg : Nat) (hd : SceneKeys d.scene.alloc) :
    Bounded (answerMargin.join kickMargin) d (kickOp m d r arg).1 := by
  unfold kickOp
  split
  · exact .refl d
  split
  · exact .refl d
  split
  · exact .refl d
  · exact (bounded_kickRing d m r hd).mono

theorem frameKick : FrameKick := fun _ r arg =>
  onlyChangesScene_of_dev (fun _ => rfl) fun s hs => .withGate (bounded_kickOp s.mem s.dev r.val arg hs)

/-- What a write of a ring's ENABLE changes. -/
def ringEnableMargin : Margin := kickMargin.join (writeMargin.join (answerMargin.join ⟨[], [], [ring_ENABLE 0, ring_CONSUME 0]⟩))

theorem bounded_ringEnable (s : State) (r v : Nat) (hs : SceneKeys s.dev.scene.alloc) :
    Bounded ringEnableMargin s.dev (ringEnable s r v).1.dev := by
  unfold ringEnable
  split
  · exact .refl _
  split
  · exact ((Bounded.refl s.dev).nSet _).nSet _
  · dsimp only
    generalize hproduce : readProduce s.dev s.mem r = y
    have hread : Bounded ringEnableMargin s.dev y.1 := hproduce ▸ .ofWithin (within_readProduce s.dev s.mem r hs)
    generalize hset : updRing _ r _ = e
    have he : Bounded ringEnableMargin s.dev e := by
      rw [← hset]
      exact ((hread.nSet _).nSet _).add (bounded_updRing _ r _)
    exact .iteState (fun _ => he.add (bounded_jobPut (withDev s e) _ _ 6 (he.keys hs))) fun _ => he.withDev s

theorem Bounded.withGateMem {F : Margin} {s : State} {sess : Nat} {r : Ref} {op : State → State × Status × List Byte}
    (h : Bounded F s.dev (op s).1.dev) (hF : answerMargin.sub F = true := by decide) : Bounded F s.dev (withGateMem s sess r op).dev := by
  unfold Machine.withGateMem
  split
  · exact ((Bounded.refl s.dev).emitResult sess _ _ hF).withDev s
  · have hresult : Bounded F s.dev (actionResult r ((op s).1.dev, (op s).2)).1 := by
      unfold actionResult
      split
      · split
        · exact h.trans ((((Bounded.refl _).useFreeN _ : Bounded answerMargin _ _)).mono hF)
        · exact h
      · exact h
    exact (hresult.emitResult sess _ _ hF).withDev _

theorem frameRingEnableWrite : FrameRingEnableWrite := by
  intro sess r v s u hs hnext
  obtain rfl := Host.Outcome.next.inj hnext
  have henabled : Bounded ringEnableMargin s.dev (doRingEnableWrite sess r v s).dev := .withGateMem (bounded_ringEnable s r.val v hs)
  exact differOnly_of_bounded henabled.mono (.inr rfl)

theorem bounded_startBlit (s : State) (r kind : Nat) (hs : SceneKeys s.dev.scene.alloc) : Bounded kickMargin s.dev (startBlit s r kind).dev := by
  unfold startBlit
  extract_lets d i a c op known readable x hd job poisoned full movers read
  refine .iteState (fun _ => .refl _) fun _ => .iteState (fun _ => .refl _) fun _ => ?_
  have hread : Bounded kickMargin s.dev read :=
    Bounded.put (.ite (fun _ => (bounded_readRange s.dev a 64 6 hs).mono) fun _ => .refl _) .movers rfl
  have hupd (f : Ring → Ring) : Bounded kickMargin s.dev (updRing read r f) := hread.trans (bounded_updRing _ r f)
  refine Bounded.withDev ?_ s
  refine .ite (fun _ => hupd _) fun _ => .ite (fun _ => hupd _) fun _ => .ite (fun _ => .ite (fun _ => hupd _) fun _ => hupd _) fun _ =>
    .ite (fun _ => hupd _) fun _ => ?_
  split
  · exact hupd _
  · exact ((hread.add (bounded_markJob _ _ _ _)).trans (bounded_updRing _ r _)).add (bounded_askSources _ _ _ _)

theorem startBlit_mem (s : State) (r kind : Nat) : (startBlit s r kind).mem = s.mem := by
  unfold startBlit
  dsimp only
  split
  · rfl
  · split <;> rfl

theorem onlyChangesScene_of_startBlit {c : Instr} {r kind : Nat} {ps : List Part} {cs : List Nat} {ks : List Ref}
    (hexec : ∀ s, exec c s = .next (startBlit s r kind)) (hsub : kickMargin.sub ⟨ps, cs, ks⟩ = true := by decide) :
    OnlyChangesScene c ps cs ks := by
  intro s u hs hnext
  obtain rfl := Host.Outcome.next.inj ((hexec s).symm.trans hnext)
  exact differOnly_of_bounded ((bounded_startBlit s r kind hs).mono hsub) (.inl (startBlit_mem s r kind))

theorem frameFill : FrameFill := by
  intro r
  simp only [List.forall_mem_cons, List.not_mem_nil, false_imp_iff, implies_true, and_true]
  exact ⟨onlyChangesScene_of_startBlit fun _ => rfl, onlyChangesScene_of_startBlit fun _ => rfl, onlyChangesScene_of_startBlit fun _ => rfl⟩

/-- What a blitter command changes that completes. -/
def blitMargin : Margin := kickMargin.join (writeMargin.join ⟨[], [], [ring_CONSUME 0, ring_COMMANDS_DONE 0, ring_COMMANDS_FAILED 0]⟩)

theorem bounded_doBlitCommandComplete (r : Fin 4) (s : State) (hs : SceneKeys s.dev.scene.alloc) :
    Bounded blitMargin s.dev (doBlitCommandComplete r s).dev := by
  unfold doBlitCommandComplete
  split
  · exact .refl _
  next j _ =>
    refine .iteState (fun _ => .refl _) fun _ => ?_
    extract_lets op cancelled x moved may lost fails det st next put answered advanced idle shown counted kicked reported raised
    have hput {u : State} (hu : Bounded blitMargin s.dev u.dev) (p : Nat) (b : List Byte) : Bounded blitMargin s.dev (put u p b).dev :=
      .iteState (fun _ => hu.add (bounded_jobPut u p b 6 (hu.keys hs))) fun _ => hu
    have hcancelled : Bounded blitMargin s.dev cancelled.dev := (bounded_cancelReads s.dev 6 r.val).mono
    have hmoved : Bounded blitMargin s.dev moved.dev := by
      unfold moved x
      split
      · exact hcancelled.add (bounded_runMoves cancelled j.got _ _ _ 6 (hcancelled.keys hs))
      · exact hcancelled
    have hadvanced : Bounded blitMargin s.dev advanced.dev := hput (hput (hput (hput hmoved _ _) _ _) _ _) _ _
    have hshown : Bounded blitMargin s.dev shown := ((hadvanced.add (bounded_unmarkJob _ _)).add (bounded_updRing _ _ _)).nSet _
    have hcounted : Bounded blitMargin s.dev counted := .ite (fun _ => hshown.nInc) fun _ => hshown.nInc
    have hkicked : Bounded blitMargin s.dev kicked := .ite (fun _ => hcounted.add (bounded_kickRing _ _ _ (hcounted.keys hs))) fun _ => hcounted
    have hreported : Bounded blitMargin s.dev reported := hkicked.nSet _
    have hraised : Bounded blitMargin s.dev raised :=
      .ite (fun _ => .ite (fun _ => hreported.raise _) fun _ => hreported) fun _ => hreported.raise _
    exact hraised.withDev advanced

theorem frameBlitCommandComplete : FrameBlitCommandComplete := by
  intro r s u hs hnext
  obtain rfl := Host.Outcome.next.inj hnext
  exact differOnly_of_bounded (bounded_doBlitCommandComplete r s hs).mono (.inr rfl)

/-- Settles O56, clause by clause. -/
theorem framePanelsMovers : Obligations.FramePanelsMovers :=
  ⟨frameIdResponse, frameIdResponseTimeout, frameReadReply, frameCommitted, frameCommittedTimeout, frameWriteRetryExpiry, frameDoseSnapshot,
    frameGainRecompute, frameOrbitStep, frameOperatingSecond, frameAckNew, frameRowRead, frameGainRead, framePost, frameAbort, frameDmaListStart,
    frameDmaListComplete, frameKick, frameRingEnableWrite, frameFill, frameBlitCommandComplete, frameSummaryWrite⟩

end Sys2Proof.Machine
end

section
/-!
Time, audio and the uplinks within their frames (O57): R531 to R606.
-/
-- One proof at a time: the tasks of many short proofs wait on one another, and each holds a stack of its own.
set_option Elab.async false
namespace Sys2Proof.Machine

theorem Margin.admits_mref {F : Margin} {c i m : Nat} (h : F.admits (c % 256) (m % 256) = true) :
    F.admits (mref c i m / 16777216) (refMember (mref c i m)) = true := by
  rw [Within.mref_div, refMember_mref]
  exact h

/-! ### The timebase and its servo (R592 to R600) -/

/-- What a step of the timebase changes. -/
def stepMargin : Margin :=
  raiseMargin.join ⟨[.tb, .time, .heads], [], [stepLog_TIME 0, stepLog_STEP 0, stepLog_CAUSE 0, time_TIME_VALID, epoch_WAKE_STEP 0, time_STEPS,
    time_LOG_NEXT]⟩

theorem bounded_tokenEnd (d : Dev) : Bounded ⟨[.dirty, .obs], [], [obs_TOKEN_STATE, obs_RECORDS_LOST]⟩ d (tokenEnd d) :=
  .whenever fun _ => ((Bounded.refl d).trace _ _ _).nSet _

theorem bounded_stepOrigins (d : Dev) (delta : Int) : Bounded ⟨[.heads], [], []⟩ d (stepOrigins d delta) := (Bounded.refl d).put .heads rfl

theorem bounded_timebaseStep (d : Dev) (delta : Int) (cause : Nat) : Bounded stepMargin d (timebaseStep d delta cause) := by
  unfold timebaseStep
  extract_lets before k stepped logged valid full pps cleared woken waked ended
  have hstepped : Bounded stepMargin d stepped := Bounded.add ((Bounded.refl d).put .tb rfl) (bounded_stepOrigins _ _)
  have hlogged : Bounded stepMargin d logged := ((((hstepped.nSet _).nSet _).nSet _).nSet _).nSet _
  have hvalid : Bounded stepMargin d valid := .ite (fun _ => hlogged.nSet _) fun _ => hlogged
  have hpps : Bounded stepMargin d pps := hvalid.put .time rfl
  have hwoken : Bounded stepMargin d woken := hpps.put .time rfl
  have hwaked : Bounded stepMargin d waked := by
    unfold waked
    split
    · exact .ite (fun _ => hwoken.nSet _) fun _ => hwoken
    · exact hpps
  have hended : Bounded stepMargin d ended := .ite (fun _ => hwaked.add (bounded_tokenEnd _)) fun _ => hwaked
  exact hended.raise 855

theorem bounded_servoAdjust (d : Dev) : Bounded ⟨[.tbInc, .dirty, .free], [], [time_RATE_PPB]⟩ d (servoAdjust d) :=
  Bounded.put ((Bounded.refl d).useFree.nSet _) .tbInc rfl

/-- What the servo's state changes (R599). -/
def servoStateMargin : Margin := raiseMargin.join ⟨[], [], [time_STATE]⟩

theorem bounded_servoState (d : Dev) (st : Nat) : Bounded servoStateMargin d (servoState d st) := by
  have hset : Bounded servoStateMargin d (nSet d time_STATE st) := (Bounded.refl d).nSet _
  exact .ite (fun _ => hset.raise _) fun _ => hset

/-- What a sample of the servo changes (R593 to R597). -/
def servoMargin : Margin := stepMargin.join ⟨[.tbInc], [], [time_STATE, time_OFFSET_NS, time_RATE_PPB]⟩

theorem bounded_servoSample (d : Dev) (e : Int) (cause : Nat) : Bounded servoMargin d (servoSample d e cause) := by
  unfold servoSample
  extract_lets set moved run full counted
  have hset : Bounded servoMargin d set := (Bounded.refl d).nSet _
  have hmoved : Bounded servoMargin d moved :=
    .ite (fun _ => hset.add (bounded_timebaseStep _ _ _)) fun _ => hset.add (bounded_servoAdjust _)
  have hcounted : Bounded servoMargin d counted := hmoved.put .time rfl
  exact .ite (fun _ => hcounted.add (bounded_servoState _ 2)) fun _ => .ite (fun _ => hcounted) fun _ => hcounted.add (bounded_servoState _ 1)

/-! ### What an uplink sends (R559 to R574) -/

/-- What a frame changes that waits in a queue. -/
def txMargin : Margin := ⟨[.dirty, .net], [], [upl_TX_DISCARDS 0]⟩

theorem bounded_sendFrame (d : Dev) (u q : Nat) (mark : TxMark) (f : List Byte) : Bounded txMargin d (sendFrame d u q mark f) :=
  .ite (fun _ => (Bounded.refl d).nInc) fun _ => (Bounded.refl d).put .net rfl

theorem bounded_sendIp (d : Dev) (u : Nat) (dst : List Byte) (typ : Nat) (body : List Byte) : Bounded txMargin d (sendIp d u dst typ body) :=
  .whenever fun _ => bounded_sendFrame d u 3 .plain _

theorem bounded_sendNoap (d : Dev) (p : Peer) (b : List Byte) : Bounded txMargin d (sendNoap d p b) :=
  .otherwise fun _ => bounded_sendFrame d _ 3 .plain _

theorem bounded_sendMessage (d : Dev) (sess : Nat) (peer : Peer) (typ flags seq : Nat) (body : List Byte) :
    Bounded txMargin d (sendMessage d sess peer typ flags seq body) := bounded_sendNoap d peer _

theorem bounded_sendGptp (d : Dev) (u : Nat) (mark : TxMark) (b : List Byte) : Bounded txMargin d (sendGptp d u mark b) :=
  bounded_sendFrame d u 0 mark _

theorem Bounded.updGptp {F : Margin} {d e : Dev} (h : Bounded F d e) (u : Nat) (f : Gptp → Gptp)
    (hp : (F.parts.contains .net && Part.net != .scene) = true := by decide) : Bounded F d (updGptp e u f) := h.put .net rfl hp

theorem frameTalkerPduSend : FrameTalkerPduSend := fun t =>
  onlyChanges_of_dev (F := txMargin.join ⟨[.audio], [], []⟩) (fun _ => rfl) fun s => by
    have hput (a : Audio) : Bounded (txMargin.join ⟨[.audio], [], []⟩) s.dev { s.dev with audio := a } := (Bounded.refl _).put .audio rfl
    exact .otherwise fun _ => .ite (fun _ => hput _) fun _ => (hput _).add (bounded_sendFrame _ _ _ _ _)

theorem bounded_doGptpSyncSend (u : Fin 2) (d : Dev) : Bounded (txMargin.join ⟨[.timers], [], []⟩) d (doGptpSyncSend u d) :=
  .otherwise fun _ => (((Bounded.refl d).updGptp _ _).arm _ _ _).add (bounded_sendGptp _ _ _ _)

theorem frameGptpSyncSend : FrameGptpSyncSend := fun u => onlyChanges_of_dev (fun _ => rfl) fun s => bounded_doGptpSyncSend u s.dev

theorem bounded_linkDelay (d : Dev) (u : Nat) (t1 t2 t3 t4 : Int) : Bounded ⟨[.dirty], [], [upl_LINK_DELAY_NS 0]⟩ d (linkDelay d u t1 t2 t3 t4) :=
  (Bounded.refl d).nSet _

theorem framePdelayExchange : FramePdelayExchange := fun u t1 t2 t3 t4 =>
  onlyChanges_of_dev (fun _ => rfl) fun s => .otherwise fun _ => bounded_linkDelay s.dev u.val _ _ _ _

/-! ### Links that come up and fall (R559, R560, R566) -/

/-- What a link changes that comes up. -/
def linkUpMargin : Margin :=
  txMargin.join ⟨[.timers], [], [addr_ACTIVE, upl_LINK 0, upl_SPEED 0, addr_ADDR_STATE, upl_IDLE_SLOPE_A 0, upl_IDLE_SLOPE_B 0, upl_LINK_DOWNS 0]⟩

theorem bounded_updSlopes (d : Dev) : Bounded linkUpMargin d (updSlopes d) := ((((Bounded.refl d).nSet _).nSet _).nSet _).nSet _

theorem bounded_addrState (d : Dev) : Bounded ⟨[.dirty], [], [addr_ADDR_STATE]⟩ d (addrState d) := (Bounded.refl d).nSet _

theorem bounded_firstActive (d : Dev) (u : Nat) : Bounded linkUpMargin d (firstActive d u) := by
  have hset (n : Net) : Bounded linkUpMargin d { d with net := n } := (Bounded.refl d).put .net rfl
  exact .otherwise fun _ => .ite (fun _ => (hset _).nSet _) fun _ => .whenever fun _ => (hset _).nSet _

theorem bounded_holdDown (d : Dev) (u : Nat) : Bounded linkUpMargin d (holdDown d u) :=
  .otherwise fun _ => Bounded.nInc ((Bounded.refl d).put .net rfl)

theorem bounded_probe (d : Dev) (u k : Nat) : Bounded txMargin d (probe d u k) := bounded_sendIp d u _ _ _

theorem bounded_advert (d : Dev) (u : Nat) (a : List Byte) (flags : Nat) (dstMac dst : List Byte) :
    Bounded txMargin d (advert d u a flags dstMac dst) := bounded_sendIp d u _ _ _

theorem bounded_doUplinkLinkUp (u : Fin 2) (rate : Fin 6) (d : Dev) : Bounded linkUpMargin d (doUplinkLinkUp u rate d) := by
  unfold doUplinkLinkUp
  extract_lets k m sped armed full linked active shown
  have harmed : Bounded linkUpMargin d armed := ((Bounded.refl d).nSet _).arm _ _ _
  have hlinked : Bounded linkUpMargin d linked := Bounded.nSet (harmed.put .net rfl) _
  have hshown : Bounded linkUpMargin d shown :=
    ((hlinked.trans (bounded_firstActive _ _)).add (bounded_addrState _)).trans (bounded_updSlopes _)
  exact .otherwise fun _ => .ite (fun _ => bounded_holdDown d _) fun _ => hshown.foldl _ fun e k _ => .whenever fun _ => (bounded_probe e _ k).mono

theorem bounded_dropQueues (d : Dev) (u : Nat) : Bounded txMargin d (dropQueues d u) := Bounded.nSet ((Bounded.refl d).put .net rfl) _

/-- What a link changes that falls. -/
def linkDownMargin : Margin := raiseMargin.join (linkUpMargin.join ⟨[], [], [addr_FAILOVERS]⟩)

theorem bounded_failover (d : Dev) (u : Nat) : Bounded linkDownMargin d (failover d u) := by
  unfold failover
  extract_lets active told
  have hactive : Bounded linkDownMargin d active := ((Bounded.refl d).nSet _).nInc.add (bounded_updSlopes _)
  have htold : Bounded linkDownMargin d told := .ite (fun _ => hactive) fun _ => hactive.add (bounded_sendIp _ u _ _ _)
  exact (htold.foldl _ fun e k _ => .whenever fun _ => (bounded_advert e u _ _ _ _).mono).raise _

theorem bounded_linkDown (d : Dev) (u : Nat) : Bounded linkDownMargin d (linkDown d u) := by
  unfold linkDown
  extract_lets cut own full cleared shown
  have hcut : Bounded linkDownMargin d cut := ((((Bounded.refl d).nSet _).nSet _).nInc.add (bounded_dropQueues _ u)).arm _ _ _
  have hcleared : Bounded linkDownMargin d cleared := Bounded.disarm (hcut.put .net rfl) _ _
  have hshown : Bounded linkDownMargin d shown := hcleared.add (bounded_addrState _)
  exact .otherwise fun _ => .ite (fun _ => .ite (fun _ => hshown.trans (bounded_failover _ _)) fun _ => (hshown.nSet _).add (bounded_updSlopes _))
    fun _ => hshown

theorem frameUplinkLinkUp : FrameUplinkLinkUp := fun link =>
  onlyChanges_of_dev (fun _ => rfl) fun s => bounded_doUplinkLinkUp link.uplink link.rate s.dev

theorem frameUplinkLinkDown : FrameUplinkLinkDown := fun u => onlyChanges_of_dev (fun _ => rfl) fun s =>
  .whenever fun _ => bounded_linkDown s.dev u.val

theorem frameDuplicateAddressDetectionDone : FrameDuplicateAddressDetectionDone := fun u conflict =>
  onlyChanges_of_dev (F := ⟨[.dirty, .net], [], [addr_ADDR_STATE]⟩) (fun _ => rfl) fun s =>
    .otherwise fun _ => Bounded.add ((Bounded.refl s.dev).put .net rfl) (bounded_addrState _)

/-! ### Sessions that close (R54, R566) -/

/-- What the end of sessions changes. -/
def closeMargin : Margin :=
  ⟨[.timers, .dirty, .noap, .scene, .events], [], [commitCtl_STAGED_COUNT, noap_SESSIONS, noap_CONTROLLER, ev_STATE 0, ev_COUNT 0]⟩

theorem bounded_discardOp (d : Dev) (arg : Nat) : Bounded closeMargin d (discardOp d arg).1 := by
  unfold discardOp
  split
  · exact .refl d
  · have hstaged : Bounded closeMargin d { d with scene.staging := [] } := (Bounded.refl d).setScene id
    exact hstaged.nSet _

theorem bounded_endNotified (d : Dev) (l : List Notif) : Bounded closeMargin d (endNotified d l) := by
  refine (Bounded.refl d).foldl _ fun e n _ => ?_
  split
  · exact .whenever fun _ => (bounded_endSource e _).mono
  · exact .refl e

theorem bounded_closeSession (d : Dev) (sess : Nat) : Bounded closeMargin d (closeSession d sess) := by
  unfold closeSession
  split
  · exact .refl d
  · next x _ =>
    extract_lets full counted ended
    have hcounted : Bounded closeMargin d counted := Bounded.nSet (Bounded.nSet ((Bounded.refl d).put .noap rfl) _) _
    have hended : Bounded closeMargin d ended := hcounted.trans (bounded_endNotified _ _)
    exact .ite (fun _ => (hended.trans (bounded_discardOp _ 0)).arm _ _ _) fun _ => hended

theorem bounded_closeIfAsked (d : Dev) : Bounded closeMargin d (closeIfAsked d) := by
  have hput (x : Noap) : Bounded closeMargin d { d with noap := x } := (Bounded.refl d).put .noap rfl
  exact .whenever fun _ => (hput _).foldl _ fun e n _ => bounded_closeSession e n

/-- What a write of REDUNDANCY changes. -/
def redundancyMargin : Margin := closeMargin.join (answerMargin.join ⟨[.net], [], [addr_REDUNDANCY, addr_ACTIVE]⟩)

theorem bounded_redundancyWrite (d : Dev) (v : Val) : Bounded redundancyMargin d (redundancyWrite d v).1 := by
  have hwrite : Bounded redundancyMargin d (plainWrite d addr_REDUNDANCY v).1 := bounded_plainWrite d v (by decide)
  unfold redundancyWrite
  dsimp only
  split
  · have hasked : Bounded redundancyMargin d { (plainWrite d addr_REDUNDANCY v).1 with noap.closing := true } := hwrite.put .noap rfl
    exact Bounded.nSet (hasked.put .net rfl) _
  · exact hwrite

theorem frameRedundancyWrite : FrameRedundancyWrite := fun sess v =>
  onlyChanges_of_dev (F := redundancyMargin) (fun _ => rfl) fun s =>
    (Bounded.withGate (bounded_redundancyWrite s.dev (.num v))).add (bounded_closeIfAsked _)

/-! ### Frames that an uplink takes (R560 to R574) -/

/-- What samples change that are heard (R571). -/
def hearMargin : Margin := raiseMargin.join ⟨[.audio], [], [avtp_LATE_SAMPLES 0]⟩

theorem bounded_hear (d : Dev) (base channels rate t : Nat) {late : Option Ref} (samples : Nat → Nat → Int) (frames : Nat)
    (hlate : ∀ r, late = some r → hearMargin.admits (r / 16777216) (refMember r) = true) :
    Bounded hearMargin d (hear d base channels rate t late samples frames) := by
  have hput (e : Dev) (x : SMap (List (Nat × Int))) : Bounded hearMargin e { e with audio.heard := x } := (Bounded.refl e).put .audio rfl
  refine (Bounded.refl d).foldl _ fun e k _ => .ite (fun _ => Bounded.raise ?_ 870) fun _ =>
    (Bounded.refl e).foldl _ fun f c _ => .otherwise fun _ => hput f _
  cases late with
  | none => exact .refl e
  | some r => exact (Bounded.refl e).mSet _ (hlate r rfl)

/-- What a frame changes that an uplink receives. -/
def frameMargin : Margin :=
  servoMargin.join (closeMargin.join (hearMargin.join (txMargin.join ⟨[.net], [], [avtp_MISMATCHES 0, noap_TAG_FAIL, noap_DUP_COUNT, strm_PDUS 0,
    strm_SEQ_GAPS 0, noap_FRAG_DROPPED, upl_LINK_DELAY_NS 0, upl_RX_FRAMES 0, upl_RX_ERRORS 0, upl_RX_DROPPED 0, upl_RX_OVERSIZE 0]⟩)))

theorem bounded_aafAt (d : Dev) (p : List Byte) (n : Nat) : Bounded frameMargin d (aafAt d p n) := by
  unfold aafAt
  extract_lets ch nsr w rate seq gap full counted t
  have hgap : Bounded frameMargin d gap := by
    unfold gap
    split
    · exact .otherwise fun _ => (Bounded.refl d).nInc
    · exact .refl d
  have hcounted : Bounded frameMargin d counted := Bounded.nInc (hgap.put .audio rfl)
  have hlate (r : Ref) (hr : some (avtp_LATE_SAMPLES n) = some r) : hearMargin.admits (r / 16777216) (refMember r) = true := by
    obtain rfl := Option.some.inj hr
    exact Margin.admits_mref rfl
  exact .otherwise fun _ => .ite (fun _ => (Bounded.refl d).nInc) fun _ => hcounted.add (bounded_hear _ _ _ _ _ _ _ hlate)

theorem bounded_noteIn (d : Dev) (u : Nat) : Bounded frameMargin d (noteIn d u) := (Bounded.refl d).useFree.updGptp _ _

theorem bounded_gptpSample (d : Dev) (u : Nat) (e : Int) : Bounded frameMargin d (gptpSample d u e) :=
  .whenever fun _ => (((Bounded.refl d).disarm _ _).arm _ _ _).add (bounded_servoSample _ e 1)

theorem bounded_gptpIn (d : Dev) (u : Nat) (p : List Byte) : Bounded frameMargin d (gptpIn d u p) := by
  have hnote := bounded_noteIn d u
  have hupd (f : Gptp → Gptp) : Bounded frameMargin d (updGptp d u f) := (Bounded.refl d).updGptp u f
  unfold gptpIn
  dsimp only
  refine .otherwise fun _ => ?_
  split
  · exact hnote.updGptp _ _
  · exact .whenever fun _ => (hupd _).trans (bounded_gptpSample _ _ _)
  · exact hnote.add (bounded_sendGptp _ _ _ _)
  · exact .whenever fun _ => hnote.updGptp _ _
  · exact .whenever fun _ => (hupd _).add (bounded_linkDelay _ _ _ _ _ _)
  · exact .refl d

theorem bounded_arpIn (d : Dev) (u : Nat) (p : List Byte) : Bounded txMargin d (arpIn d u p) := .whenever fun _ => bounded_sendIp d u _ _ _

theorem Bounded.updSession {F : Margin} {d e : Dev} (h : Bounded F d e) (sess : Nat) (f : Session → Session)
    (hp : (F.parts.contains .noap && Part.noap != .scene) = true := by decide) : Bounded F d (updSession e sess f) := h.put .noap rfl hp

theorem bounded_answer (d : Dev) (sess seq typ : Nat) (body : List Byte) : Bounded frameMargin d (answer d sess seq typ body) :=
  .otherwise fun _ => ((Bounded.refl d).updSession _ _).add (bounded_sendMessage _ _ _ _ _ _ _)

theorem bounded_requestIn (x : Session) (r : Req) (n : Nat) (d : Dev) : Bounded frameMargin d (requestIn x r n d) := by
  have hupd (f : Session → Session) : Bounded frameMargin d (updSession d x.id f) := (Bounded.refl d).updSession _ _
  unfold requestIn
  split
  · exact (hupd _).add (bounded_sendMessage _ _ _ _ _ _ _)
  · exact .otherwise fun _ => .ite (fun _ => (Bounded.refl d).nInc) fun _ => .ite (fun _ => (hupd _).trans (bounded_answer _ _ _ _ _)) fun _ => hupd _

theorem bounded_limitCheck (d : Dev) (sess : Nat) : Bounded frameMargin d (limitCheck d sess) := by
  unfold limitCheck
  split
  · exact .whenever fun _ => (bounded_closeSession d sess).mono
  · exact .refl d

theorem bounded_noapReceive (d : Dev) (fragment : Bool) (peer : Peer) (b : List Byte) : Bounded frameMargin d (noapReceive d fragment peer b) := by
  have hhost (sess : Nat) : Bounded frameMargin d (hearHost d sess) := (Bounded.refl d).updSession _ _
  unfold noapReceive
  dsimp only
  refine .otherwise fun _ => .ite (fun _ => (Bounded.refl d).nInc) fun _ => .otherwise fun _ => ?_
  split
  · exact .refl d
  · refine .ite (fun _ => (Bounded.refl d).nInc) fun _ => .otherwise fun _ => .ite (fun _ => ?_) fun _ => ?_
    · exact ((hhost _).updSession _ _).trans (bounded_limitCheck _ _)
    · refine Bounded.trans (.ite (fun _ => (hhost _).updSession _ _) fun _ => ?_) (bounded_limitCheck _ _)
      exact ((hhost _).updSession _ _).trans (bounded_requestIn _ _ _ _)

theorem bounded_ip4In (d : Dev) (u : Nat) (src p : List Byte) : Bounded frameMargin d (ip4In d u src p) :=
  .otherwise fun _ => .ite (fun _ => (bounded_sendIp d u _ _ _).mono) fun _ => .whenever fun _ => bounded_noapReceive d _ _ _

theorem bounded_ip6In (d : Dev) (u : Nat) (src p : List Byte) : Bounded frameMargin d (ip6In d u src p) :=
  .ite (fun _ => .whenever fun _ => .ite (fun _ => (bounded_advert d u _ _ _ _).mono) fun _ => (bounded_advert d u _ _ _ _).mono) fun _ =>
    .otherwise fun _ => .ite (fun _ => (bounded_sendIp d u _ _ _).mono) fun _ => .whenever fun _ => bounded_noapReceive d _ _ _

theorem bounded_aafIn (d : Dev) (u : Nat) (f p : List Byte) : Bounded frameMargin d (aafIn d u f p) :=
  (Bounded.refl d).foldl _ fun e n _ => bounded_aafAt e p n

theorem bounded_frameIn (d : Dev) (u : Nat) (f : List Byte) : Bounded frameMargin d (frameIn d u f) :=
  .ite (fun _ => (bounded_arpIn d u _).mono) fun _ => .ite (fun _ => bounded_ip4In d u _ _) fun _ => .ite (fun _ => bounded_ip6In d u _ _) fun _ =>
    .ite (fun _ => (bounded_noteIn d u).trans (bounded_aafIn _ u f _)) fun _ => bounded_gptpIn d u _

theorem bounded_ethReceive (d : Dev) (u : Nat) (fcsOk : Bool) (f : List Byte) : Bounded frameMargin d (ethReceive d u fcsOk f) := by
  have hcount : Bounded frameMargin d (nSet d (upl_RX_FRAMES u) (satAdd 64 (nGet d (upl_RX_FRAMES u)) 1)) := (Bounded.refl d).nSet _
  have hdropped : Bounded frameMargin d (nInc d (upl_RX_DROPPED u)) := (Bounded.refl d).nInc
  exact .otherwise fun _ => .ite (fun _ => (Bounded.refl d).nInc) fun _ => .ite (fun _ => (Bounded.refl d).nInc) fun _ =>
    .ite (fun _ => hdropped) fun _ =>
    .ite (fun _ => .ite (fun _ => hdropped.trans (bounded_noapReceive _ _ _ _)) fun _ => hdropped) fun _ => hcount.trans (bounded_frameIn _ u f)

theorem frameAafPduReceived : FrameAafPduReceived := by
  intro u frame
  simp only [List.forall_mem_cons, List.not_mem_nil, false_imp_iff, implies_true, and_true]
  exact ⟨onlyChanges_of_dev (fun _ => rfl) fun s => .whenever fun _ => bounded_ethReceive s.dev u.val true frame,
    onlyChanges_of_dev (fun _ => rfl) fun s => .whenever fun _ => bounded_ethReceive s.dev u.val true frame,
    onlyChanges_of_dev (fun _ => rfl) fun s => .whenever fun _ => bounded_ethReceive s.dev u.val true frame,
    onlyChanges_of_dev (fun _ => rfl) fun s => .whenever fun _ => bounded_ethReceive s.dev u.val true frame⟩

theorem frameUplinkFrameReceived : FrameUplinkFrameReceived := fun u fcsOk frame =>
  onlyChanges_of_dev (fun _ => rfl) fun s => bounded_ethReceive s.dev u.val fcsOk frame

/-! ### Voices, the crosspoint and the sequencers (R531 to R548) -/

theorem Bounded.updVoice {F : Margin} {d e : Dev} (h : Bounded F d e) (v : Nat) (f : Voice → Voice)
    (hp : (F.parts.contains .audio && Part.audio != .scene) = true := by decide) : Bounded F d (updVoice e v f) := h.put .audio rfl hp

theorem bounded_keyVoice (d : Dev) (v : Nat) (on : Bool) : Bounded ⟨[.audio], [], []⟩ d (keyVoice d v on) :=
  .otherwise fun _ => (Bounded.refl d).updVoice _ _

theorem bounded_keyOp (d : Dev) (v arg : Nat) : Bounded (answerMargin.join ⟨[.audio], [], []⟩) d (keyOp d v arg).1 := by
  unfold keyOp
  split
  · exact .refl d
  · exact (bounded_keyVoice d v _).mono

theorem frameKeyOn : FrameKeyOn := by
  intro sess v
  simp only [List.forall_mem_cons, List.not_mem_nil, false_imp_iff, implies_true, and_true]
  exact ⟨onlyChanges_of_dev (fun _ => rfl) fun s => .withGate (bounded_keyOp s.dev v.val 1),
    onlyChanges_of_dev (fun _ => rfl) fun s => .withGate (bounded_keyOp s.dev v.val 0)⟩

theorem bounded_doVoiceDurationExpiry (v : Fin 128) (d : Dev) : Bounded ⟨[.audio], [], []⟩ d (doVoiceDurationExpiry v d) := by
  unfold doVoiceDurationExpiry
  dsimp only
  split
  · exact .whenever fun _ => ((Bounded.refl d).updVoice _ _).trans (bounded_keyVoice _ _ _)
  · exact .refl d

theorem frameVoiceDurationExpiry : FrameVoiceDurationExpiry := fun v =>
  onlyChanges_of_dev (fun _ => rfl) fun s => bounded_doVoiceDurationExpiry v s.dev

theorem frameWaveTableWrite : FrameWaveTableWrite := fun _ t samples =>
  onlyChanges_of_dev (F := answerMargin.join ⟨[.dirty], [], [wtab_SAMPLES 0]⟩) (fun _ => rfl) fun s => .withGate
    (bounded_plainWrite s.dev (.bytes samples) (Margin.admits_mref rfl))

theorem bounded_gainsOp (d : Dev) (o : Nat) (b : List Byte) :
    Bounded (answerMargin.join ⟨[.dirty, .audio], [], [xout_GAINS 0]⟩) d (gainsOp d o b).1 := by
  have hwrite : Bounded (answerMargin.join ⟨[.dirty, .audio], [], [xout_GAINS 0]⟩) d (plainWrite d (xout_GAINS o) (.bytes b)).1 :=
    bounded_plainWrite d _ (Margin.admits_mref rfl)
  unfold gainsOp
  dsimp only
  split
  · exact hwrite
  · exact hwrite.put .audio rfl

theorem frameGainsWrite : FrameGainsWrite := fun _ o gains => onlyChanges_of_dev (fun _ => rfl) fun s => .withGate (bounded_gainsOp s.dev o.val gains)

theorem bounded_filterOp (d : Dev) (o : Nat) (b : List Byte) :
    Bounded (answerMargin.join ⟨[.dirty, .audio], [], [xout_FILTER 0]⟩) d (filterOp d o b).1 := by
  have hwrite : Bounded (answerMargin.join ⟨[.dirty, .audio], [], [xout_FILTER 0]⟩) d (plainWrite d (xout_FILTER o) (.bytes b)).1 :=
    bounded_plainWrite d _ (Margin.admits_mref rfl)
  unfold filterOp
  dsimp only
  split
  · exact hwrite.put .audio rfl
  · exact hwrite

theorem frameFilterWrite : FrameFilterWrite := fun _ o coefs => onlyChanges_of_dev (fun _ => rfl) fun s =>
  .withGate (bounded_filterOp s.dev o.val coefs)

/-- What a sequencer changes. -/
def seqMargin : Margin := ⟨[.dirty, .audio], [], [seqr_RUNNING 0]⟩

theorem bounded_endSeq (d : Dev) (q : Nat) : Bounded seqMargin d (endSeq d q) := Bounded.put ((Bounded.refl d).nSet _) .audio rfl

theorem bounded_runSteps (q n k : Nat) (d : Dev) : Bounded seqMargin d (runSteps q n k d) := by
  have hput (e : Dev) (x : Audio) : Bounded seqMargin e { e with audio := x } := (Bounded.refl e).put .audio rfl
  induction n generalizing k d with
  | zero => exact hput d _
  | succ n ih =>
    unfold runSteps
    extract_lets b v act keyed next w
    have hkeyed : Bounded seqMargin d keyed :=
      .ite (fun _ => (bounded_keyVoice d v _).mono) fun _ => .whenever fun _ => (bounded_keyVoice d v _).mono
    exact .ite (fun _ => bounded_endSeq d q) fun _ => .ite (fun _ => bounded_endSeq d q) fun _ => .ite
      (fun _ => hkeyed.trans (bounded_endSeq _ q)) fun _ => .ite (fun _ => hkeyed.trans (ih _ _)) fun _ => hkeyed.trans (hput _ _)

theorem bounded_startSeq (d : Dev) (q arg : Nat) : Bounded (answerMargin.join seqMargin) d (startSeq d q arg).1 := by
  unfold startSeq
  split
  · exact .refl d
  split
  · exact .refl d
  · exact Bounded.put ((Bounded.refl d).nSet _) .audio rfl

theorem bounded_stopSeq (d : Dev) (q arg : Nat) : Bounded (answerMargin.join seqMargin) d (stopSeq d q arg).1 := by
  unfold stopSeq
  split
  · exact .refl d
  · exact (bounded_endSeq d q).mono

theorem frameStart : FrameStart := by
  intro sess q arg
  simp only [List.forall_mem_cons, List.not_mem_nil, false_imp_iff, implies_true, and_true]
  exact ⟨onlyChanges_of_dev (fun _ => rfl) fun s => .withGate (bounded_startSeq s.dev q.val arg),
    onlyChanges_of_dev (fun _ => rfl) fun s => .withGate (bounded_stopSeq s.dev q.val arg)⟩

theorem bounded_doSequencerTick (q : Fin 4) (d : Dev) : Bounded seqMargin d (doSequencerTick q d) := by
  have hput (x : Audio) : Bounded seqMargin d { d with audio := x } := (Bounded.refl d).put .audio rfl
  exact .otherwise fun _ => .ite (fun _ => (hput _).trans (bounded_runSteps _ 16 _ _)) fun _ => hput _

theorem frameSequencerTick : FrameSequencerTick := fun q => onlyChanges_of_dev (fun _ => rfl) fun s => bounded_doSequencerTick q s.dev

/-! ### TDM ports (R549 to R553) -/

/-- What a frame of a TDM port changes. -/
def tdmMargin : Margin := raiseMargin.join ⟨[.audio], [], [tdm_SLIPS 0]⟩

theorem bounded_tdmInput (d : Dev) (p : Nat) (slots : List Word) : Bounded tdmMargin d (tdmInput d p slots) :=
  .ite (fun _ => .whenever fun _ => (Bounded.refl d).nInc.raise _) fun _ => (Bounded.refl d).foldl _ fun e _ _ => (Bounded.refl e).put .audio rfl

theorem bounded_doTdmFrame (p : Fin 4) (slots : List Word) (d : Dev) : Bounded (tdmMargin.join ⟨[.out], [], []⟩) d (doTdmFrame p slots d) := by
  have hput (x : Audio) : Bounded (tdmMargin.join ⟨[.out], [], []⟩) d { d with audio := x } := (Bounded.refl d).put .audio rfl
  refine .otherwise fun _ => Bounded.emit (Bounded.add ?_ (bounded_tdmInput _ _ _)) _
  exact .ite (fun _ => hput _) fun _ => .refl d

theorem frameTdmFrame : FrameTdmFrame := fun p slots => onlyChanges_of_dev (fun _ => rfl) fun s => bounded_doTdmFrame p slots s.dev

theorem bounded_pushPast (d : Dev) (k : Nat) (x : Int) : Bounded ⟨[.audio], [], []⟩ d (pushPast d k x) := (Bounded.refl d).put .audio rfl

theorem bounded_tdmSample (n : Nat) (d : Dev) (p : Nat) : Bounded tdmMargin d (tdmSample n d p) := by
  unfold tdmSample
  extract_lets slow slots waits repeats slipped pushed
  have hslipped : Bounded tdmMargin d slipped := .whenever fun _ => (Bounded.refl d).nInc.raise _
  have hpushed : Bounded tdmMargin d pushed := hslipped.foldl _ fun e _ _ => (bounded_pushPast e _ _).mono
  exact .otherwise fun _ => .ite (fun _ => (Bounded.refl d).foldl _ fun e _ _ => (bounded_pushPast e _ _).mono) fun _ => hpushed.put .audio rfl

/-- What an audio packet changes that a lane receives. -/
def rxAudioMargin : Margin := rxMargin.join hearMargin

theorem bounded_doRxAudioPacket (l : Fin 32) (p : List Byte) (d : Dev) : Bounded rxAudioMargin d (doRxAudioPacket l p d) := by
  have htaken : Bounded rxAudioMargin d (rxTake d l.val p).1 := (bounded_rxTake d l.val p).mono
  have hput (x : Audio) : Bounded rxAudioMargin d { (rxTake d l.val p).1 with audio := x } := htaken.put .audio rfl
  unfold doRxAudioPacket
  dsimp only
  refine .ite (fun _ => htaken) fun _ => ?_
  split
  · exact htaken
  · exact (hput _).add (bounded_hear _ _ _ _ _ _ _ fun r hr => absurd hr (by simp))

theorem frameRxAudioPacket : FrameRxAudioPacket := fun l pkt => onlyChanges_of_dev (fun _ => rfl) fun s => bounded_doRxAudioPacket l pkt s.dev

/-! ### Samples of the audio engine (R531 to R558) -/

/-- What a sample of the audio engine changes. -/
def sampleMargin : Margin :=
  tdmMargin.join ⟨[.lanes], [], [voice_STATE 0, voice_KEY_ONS 0, avas_SPEED_KMH, avas_SOUNDING, xout_LIMITING 0, xout_CLIPS 0]⟩

theorem bounded_setSounding (d : Dev) (on : Bool) : Bounded sampleMargin d (setSounding d on) :=
  (Bounded.nSet ((Bounded.refl d).foldl _ fun e v _ => .whenever fun _ => (bounded_keyVoice e v on).mono) _).raise 871

theorem bounded_avasLook (d : Dev) : Bounded sampleMargin d (avasLook d) := by
  unfold avasLook
  extract_lets sped s cut on
  have hsped : Bounded sampleMargin d sped := .whenever fun _ => (Bounded.refl d).nSet _
  have hset (b : Bool) : Bounded sampleMargin d (setSounding sped b) := hsped.trans (bounded_setSounding sped b)
  exact .ite (fun _ => hsped) fun _ => .ite (fun _ => .ite (fun _ => hset _) fun _ => hsped) fun _ => .ite (fun _ => hset _) fun _ =>
    .ite (fun _ => hset _) fun _ => hsped

theorem bounded_triggerVoice (last now : Nat) (edges : SMap Nat) (d : Dev) (v : Nat) :
    Bounded ⟨[.audio], [], []⟩ d (triggerVoice last now edges d v) := by
  have hkey (on : Bool) := bounded_keyVoice d v on
  have hlast {e : Dev} (he : Bounded ⟨[.audio], [], []⟩ d e) (c : Prop) [Decidable c] :
      Bounded ⟨[.audio], [], []⟩ d (if c then keyVoice e v false else e) := .ite (fun _ => he.trans (bounded_keyVoice e v false)) fun _ => he
  unfold triggerVoice
  dsimp only
  refine .otherwise fun _ => .ite (fun _ => hlast (.whenever fun _ => hkey true) _) fun _ => ?_
  split
  · exact .whenever fun _ => hkey true
  · exact .refl d

theorem bounded_applyKeys (d : Dev) (v : Nat) : Bounded sampleMargin d (applyKeys d v) := by
  unfold applyKeys
  extract_lets x off on sweeps keyed started
  have hoff : Bounded sampleMargin d off := .whenever fun _ => ((Bounded.refl d).nSet _).updVoice _ _
  have hkeyed : Bounded sampleMargin d keyed := ((hoff.nSet _).nInc).updVoice _ _
  have hstarted : Bounded sampleMargin d started := .ite (fun _ => hkeyed) fun _ => hoff
  exact .ite (fun _ => hstarted.updVoice _ _) fun _ => hstarted

theorem bounded_sampleVoice (d : Dev) (v : Nat) : Bounded sampleMargin d (sampleVoice d v) := by
  unfold sampleVoice
  extract_lets x st e inc ph lfsr i fr s out moved timed
  have hmoved : Bounded sampleMargin d moved := .otherwise fun _ => (Bounded.refl d).nSet _
  have htimed : Bounded sampleMargin d timed := hmoved.updVoice _ _
  exact .ite (fun _ => htimed.updVoice _ _) fun _ => htimed.updVoice _ _

theorem bounded_streamSample (t : Nat) (d : Dev) (k : Nat) : Bounded ⟨[.audio], [], []⟩ d (streamSample t d k) :=
  Bounded.trans ((Bounded.refl d).put .audio rfl) (bounded_pushPast _ _ _)

theorem bounded_stepNodes (d : Dev) : Bounded ⟨[.audio], [], []⟩ d (stepNodes d) := (Bounded.refl d).put .audio rfl

theorem Bounded.updOut {F : Margin} {d e : Dev} (h : Bounded F d e) (o : Nat) (f : OutCh → OutCh)
    (hp : (F.parts.contains .audio && Part.audio != .scene) = true := by decide) : Bounded F d (updOut e o f) := h.put .audio rfl hp

theorem bounded_sampleOutput (d : Dev) (o : Nat) : Bounded sampleMargin d (sampleOutput d o) := by
  unfold sampleOutput
  extract_lets raw s clipped x f ahead line padded g low v y was limited told full shown
  have hclipped : Bounded sampleMargin d clipped := .otherwise fun _ => (Bounded.refl d).nInc.raise 865
  have hlimited : Bounded sampleMargin d limited := .ite (fun _ => hclipped.nInc) fun _ => hclipped
  have htold : Bounded sampleMargin d told := .ite (fun _ => hlimited.raise 864) fun _ => hlimited
  have hshown : Bounded sampleMargin d shown := htold.put .audio rfl
  exact .ite (fun _ => hclipped.updOut _ _) fun _ => hshown.updOut _ _

theorem bounded_gather (d : Dev) (n t channels first rate : Nat) : Bounded ⟨[.audio], [], []⟩ d (gather d n t channels first rate) := by
  unfold gather
  dsimp only
  exact .otherwise fun _ => (Bounded.refl d).put .audio rfl

theorem bounded_laneStream (n : Nat) (d : Dev) (k : Nat) : Bounded sampleMargin d (laneStream n d k) := by
  unfold laneStream
  extract_lets l ch rate gathered q full left t
  have hgathered : Bounded sampleMargin d gathered := (bounded_gather d _ _ _ _ _).mono
  have hleft : Bounded sampleMargin d left := hgathered.put .audio rfl
  exact .otherwise fun _ => .ite (fun _ => hgathered) fun _ => .ite (fun _ => hleft.updLane _ _) fun _ => hleft

theorem bounded_doEngineSample (d : Dev) : Bounded sampleMargin d (doEngineSample d) := by
  unfold doEngineSample
  extract_lets n last edges full looked triggered voiced tdm streamed ins held stepped output freed gathered
  have hlooked : Bounded sampleMargin d looked := Bounded.trans ((Bounded.refl d).put .audio rfl) (bounded_avasLook _)
  have htriggered : Bounded sampleMargin d triggered := hlooked.foldl _ fun e v _ => (bounded_triggerVoice _ _ _ e v).mono
  have hvoiced : Bounded sampleMargin d voiced := htriggered.foldl _ fun e v _ => (bounded_applyKeys e v).trans (bounded_sampleVoice _ v)
  have hstreamed : Bounded sampleMargin d streamed :=
    Bounded.foldl (hvoiced.foldl _ fun e p _ => (bounded_tdmSample n e p).mono) _ fun e k _ => (bounded_streamSample _ e k).mono
  have hstepped : Bounded sampleMargin d stepped := Bounded.add (hstreamed.put .audio rfl) (bounded_stepNodes _)
  have houtput : Bounded sampleMargin d output := hstepped.foldl _ fun e o _ => bounded_sampleOutput e o
  have hfreed : Bounded sampleMargin d freed := .ite (fun _ => houtput.useFree) fun _ => houtput
  have hgathered : Bounded sampleMargin d gathered :=
    hfreed.foldl _ fun e t _ => .whenever fun _ => (bounded_gather e _ _ _ _ _).mono
  exact .otherwise fun _ => hgathered.foldl _ fun e k _ => bounded_laneStream n e k

theorem frameEngineSample : FrameEngineSample := onlyChanges_of_dev (fun _ => rfl) fun s => bounded_doEngineSample s.dev

/-- Settles O57, clause by clause. -/
theorem frameAudioNetwork : Obligations.FrameAudioNetwork :=
  ⟨frameRxAudioPacket, frameKeyOn, frameVoiceDurationExpiry, frameWaveTableWrite, frameGainsWrite, frameFilterWrite, frameStart, frameSequencerTick,
    frameTdmFrame, frameAafPduReceived, frameTalkerPduSend, frameUplinkLinkUp, frameUplinkLinkDown, frameUplinkFrameReceived,
    frameRedundancyWrite, framePdelayExchange, frameGptpSyncSend, frameDuplicateAddressDetectionDone, frameEngineSample⟩

end Sys2Proof.Machine
end

section
/-!
Signals, fieldbuses, time and observation within their frames (O52): R68 to R86, R272 to R306, R575 to R607, R722 to R733.
-/
-- One proof at a time: the tasks of many short proofs wait on one another, and each holds a stack of its own.
set_option Elab.async false
namespace Sys2Proof.Machine

/-! ### Entries that frames carry (R281 to R299) -/

/-- What a frame changes that carries entries. -/
def carriedMargin : Margin := entryMargin.join ⟨[.timers, .free], [], [sig_E2E_FAILS 0, avas_SPEED_KMH]⟩

theorem bounded_rejectFrame (d : Dev) (n : Nat) : Bounded carriedMargin d (rejectFrame d n) := (Bounded.refl d).nInc

theorem bounded_setRef (d : Dev) (n c : Nat) : Bounded carriedMargin d (setRef d n c) := (Bounded.refl d).put .hearth rfl

theorem bounded_rearmEntry (d : Dev) (n : Nat) : Bounded carriedMargin d (rearmEntry d n) :=
  .ite (fun _ => (Bounded.refl d).disarm _ _) fun _ => (Bounded.refl d).arm _ _ _

theorem bounded_speedFrame (d : Dev) (n : Nat) (b : List Byte) : Bounded carriedMargin d (speedFrame d n b) := by
  unfold speedFrame
  dsimp only
  exact .otherwise fun _ => .ite (fun _ => (Bounded.refl d).nSet _) fun _ => (Bounded.refl d).useFree.nSet _

theorem bounded_applyFrame (lag : Nat) (d : Dev) (n : Nat) (b : List Byte) : Bounded carriedMargin d (applyFrame lag d n b) :=
  ((bounded_rearmEntry d n).add (bounded_applyValue lag _ n _)).trans (bounded_speedFrame _ n b)

theorem bounded_entryFrame (lag : Nat) (d : Dev) (n : Nat) (b : List Byte) : Bounded carriedMargin d (entryFrame lag d n b) := by
  unfold entryFrame
  dsimp only
  refine .ite (fun _ => bounded_rejectFrame d n) fun _ => .ite (fun _ => bounded_applyFrame lag d n b) fun _ => ?_
  split
  · exact bounded_setRef d n _
  · exact .ite (fun _ => bounded_rejectFrame d n) fun _ => .ite (fun _ => (bounded_setRef d n _).trans (bounded_applyFrame lag _ n b)) fun _ =>
      (bounded_setRef d n _).trans (bounded_rejectFrame _ n)

theorem bounded_entriesFrame (lag : Nat) (d : Dev) (es : List Nat) (b : List Byte) : Bounded carriedMargin d (entriesFrame lag d es b) :=
  (Bounded.refl d).foldl _ fun e x _ => bounded_entryFrame _ e x.2 b

/-- What an entry's loss changes. -/
def lossMargin : Margin := entryMargin.join ⟨[.timers], [], [sig_TIMEOUTS 0]⟩

theorem bounded_enterLoss (d : Dev) (n : Nat) : Bounded lossMargin d (enterLoss d n) := by
  have hput (x : Hearth) : Bounded lossMargin d { d with hearth := x } := (Bounded.refl d).put .hearth rfl
  unfold enterLoss
  refine (hput _).trans (bounded_entryChange (F := lossMargin) 0 { d with hearth.refs := mapErase d.hearth.refs n } n fun e => ?_)
  have hset : Bounded lossMargin e (disarm (nSet e (sig_IN_LOSS n) 1) tkSignal n) := ((Bounded.refl e).nSet _).disarm _ _
  exact .ite (fun _ => hset) fun _ => hset.add (bounded_writeEntryState _ n _)

theorem frameSignalTimeout : FrameSignalTimeout := fun n => onlyChanges_of_dev (fun _ => rfl) fun s =>
  .whenever fun _ => (Bounded.refl s.dev).nInc.trans (bounded_enterLoss _ n.val)

/-! ### T1S ports (R575 to R584) -/

/-- What a frame of a T1S port changes. -/
def t1sMargin : Margin := carriedMargin.join ⟨[], [], [t1s_RX_FRAMES 0, t1s_RX_UNMATCHED 0, t1s_RX_ERRORS 0]⟩

theorem bounded_doT1sFrameReceived (port : Fin 2) (frame : List Byte) (d : Dev) : Bounded t1sMargin d (doT1sFrameReceived port frame d) := by
  unfold doT1sFrameReceived
  extract_lets p f counted es
  have hcounted : Bounded t1sMargin d counted := (Bounded.refl d).nInc
  exact .otherwise fun _ => .ite (fun _ => (Bounded.refl d).nInc) fun _ => .otherwise fun _ => .ite (fun _ => hcounted.nInc) fun _ =>
    hcounted.add (bounded_entriesFrame _ _ _ _)

theorem frameT1sFrameReceived : FrameT1sFrameReceived := fun port frame =>
  onlyChanges_of_dev (fun _ => rfl) fun s => bounded_doT1sFrameReceived port frame s.dev

theorem framePlcaBeaconReceived : FramePlcaBeaconReceived := fun port =>
  onlyChanges_of_dev (F := ⟨[.timers, .dirty], [], [t1s_PLCA_STATUS 0]⟩) (fun _ => rfl) fun s => .whenever fun _ =>
    ((Bounded.refl s.dev).nSet _).arm _ _ _

theorem framePlcaBeaconSend : FramePlcaBeaconSend := fun port =>
  onlyChanges_of_dev (F := ⟨[.dirty, .out], [], [t1s_PLCA_STATUS 0]⟩) (fun _ => rfl) fun s => .whenever fun _ => ((Bounded.refl s.dev).nSet _).emit _

/-- What a lost beacon changes. -/
def beaconMargin : Margin := raiseMargin.join ⟨[], [], [t1s_PLCA_STATUS 0, t1s_BEACON_LOSSES 0]⟩

theorem bounded_plcaLost (d : Dev) (p : Nat) : Bounded beaconMargin d (plcaLost d p) := by
  have hdisarm : Bounded beaconMargin d (disarm d tkBeacon p) := (Bounded.refl d).disarm _ _
  exact .ite (fun _ => (hdisarm.nSet _).nInc.raise _) fun _ => hdisarm

theorem framePlcaBeaconLoss : FramePlcaBeaconLoss := fun port => onlyChanges_of_dev (fun _ => rfl) fun s =>
  .whenever fun _ => bounded_plcaLost s.dev port.val

/-! ### CAN ports (R585 to R591) -/

/-- What the error counters of a CAN port change. -/
def canMargin : Margin := ⟨[.dirty, .net, .free], [], [can_STATE 0, can_TEC 0, can_REC 0]⟩

theorem bounded_canFresh (d : Dev) (c st : Nat) : Bounded ⟨[.dirty, .net], [], [can_STATE 0, can_TEC 0, can_REC 0]⟩ d (canFresh d c st) :=
  Bounded.nSet (Bounded.nSet (Bounded.nSet ((Bounded.refl d).put .net rfl) _) _) _

theorem bounded_canGrade (d : Dev) (c : Nat) : Bounded ⟨[.dirty], [], [can_STATE 0]⟩ d (canGrade d c) := .whenever fun _ => (Bounded.refl d).nSet _

theorem bounded_canHeard (d : Dev) (c : Nat) : Bounded canMargin d (canHeard d c) := by
  have hput (x : Net) : Bounded canMargin d { freeUsed d with net := x } := (Bounded.refl d).useFree.put .net rfl
  exact .otherwise fun _ => .ite (fun _ => ((hput _).nSet _).add (bounded_canGrade _ c)) fun _ => ((Bounded.refl d).nSet _).add (bounded_canGrade _ c)

/-- What a port changes that goes bus-off. -/
def busOffMargin : Margin := raiseMargin.join ⟨[], [], [can_STATE 0, can_BUS_OFFS 0]⟩

theorem bounded_canBusOff (d : Dev) (c : Nat) : Bounded busOffMargin d (canBusOff d c) := .whenever fun _ => ((Bounded.refl d).nSet _).nInc.raise _

theorem frameCanBusOff : FrameCanBusOff := fun port => onlyChanges_of_dev (fun _ => rfl) fun s => bounded_canBusOff s.dev port.val

theorem frameCanBusOffRecovery : FrameCanBusOffRecovery := fun port => onlyChanges_of_dev (fun _ => rfl) fun s =>
  .whenever fun _ => bounded_canFresh s.dev port.val 2

theorem bounded_canRestart (d : Dev) (c arg : Nat) : Bounded (answerMargin.join canMargin) d (canRestart d c arg).1 := by
  unfold canRestart
  split
  · exact .refl d
  split
  · exact .refl d
  · dsimp only
    exact (bounded_canFresh d c 1).mono

theorem frameRestart : FrameRestart := fun _ port arg => onlyChanges_of_dev (fun _ => rfl) fun s => .withGate (bounded_canRestart s.dev port.val arg)

theorem frameCanIntegrated : FrameCanIntegrated := fun port =>
  onlyChanges_of_dev (F := ⟨[.dirty], [], [can_STATE 0]⟩) (fun _ => rfl) fun s => .whenever fun _ => (Bounded.refl s.dev).nSet _

/-- What a protocol error changes. -/
def canErrorMargin : Margin := busOffMargin.join ⟨[.net], [], [can_TEC 0, can_REC 0, can_PROTOCOL_ERRORS 0]⟩

theorem bounded_doCanProtocolError (port : Fin 4) (transmitter : Bool) (tecAdd recAdd : Nat) (d : Dev) :
    Bounded canErrorMargin d (doCanProtocolError port transmitter tecAdd recAdd d) := by
  have hput {e : Dev} (he : Bounded canErrorMargin d e) (x : Net) : Bounded canErrorMargin d { e with net := x } := he.put .net rfl
  have hcounted : Bounded canErrorMargin d (nInc d (can_PROTOCOL_ERRORS port.val)) := (Bounded.refl d).nInc
  have hset (x : Net) (y z : Nat) : Bounded canErrorMargin d (nSets { nInc d (can_PROTOCOL_ERRORS port.val) with net := x }
      [(can_TEC port.val, y), (can_REC port.val, z)]) := ((hput hcounted x).nSet _).nSet _
  exact .otherwise fun _ => .ite (fun _ => hcounted) fun _ => .ite (fun _ => (hset _ _ _).add (bounded_canBusOff _ _)) fun _ =>
    (hset _ _ _).add (bounded_canGrade _ _)

theorem frameCanProtocolError : FrameCanProtocolError := fun port transmitter tecAdd recAdd =>
  onlyChanges_of_dev (fun _ => rfl) fun s => bounded_doCanProtocolError port transmitter tecAdd recAdd s.dev

/-! ### Time (R592 to R600) -/

theorem frameGptpSync : FrameGptpSync := fun u origin correction rx =>
  onlyChanges_of_dev (F := servoMargin) (fun _ => rfl) fun s => .whenever fun _ =>
    (((Bounded.refl s.dev).disarm _ _).arm _ _ _).trans (bounded_servoSample _ _ 1)

theorem bounded_setTime (d : Dev) (t : Nat) : Bounded (answerMargin.join stepMargin) d (setTime d t).1 := by
  unfold setTime
  split
  · exact .refl d
  split
  · exact .refl d
  · dsimp only
    exact (bounded_timebaseStep d _ 3).mono

theorem frameSetTime : FrameSetTime := fun _ t => onlyChanges_of_dev (fun _ => rfl) fun s => .withGate (bounded_setTime s.dev t)

/-- What an edge of PPS_IN changes. -/
def ppsMargin : Margin := servoMargin.join ⟨[], [], [time_PPS_REJECTED]⟩

theorem bounded_doPpsEdge (d : Dev) : Bounded ppsMargin d (doPpsEdge d) := by
  have hput {e : Dev} (he : Bounded ppsMargin d e) (x : TimeSt) : Bounded ppsMargin d { e with time := x } := he.put .time rfl
  have harmed (x : TimeSt) : Bounded ppsMargin d (arm { d with time := x } tkSync 1 (ms 2000)) := (hput (.refl d) x).arm _ _ _
  unfold doPpsEdge
  dsimp only
  refine .otherwise fun _ => ?_
  split
  · exact harmed _
  · exact .ite (fun _ => .ite (fun _ => harmed _) fun _ => hput ((harmed _).add (bounded_servoSample _ _ 2)) _) fun _ => (Bounded.refl d).nInc

theorem framePpsEdge : FramePpsEdge := onlyChanges_of_dev (fun _ => rfl) fun s => bounded_doPpsEdge s.dev

/-- What a timeout of Sync or PPS changes. -/
def timeoutMargin : Margin := servoStateMargin.join ⟨[.time], [], []⟩

theorem bounded_doSyncTimeout (d : Dev) : Bounded timeoutMargin d (doSyncTimeout d) := by
  unfold doSyncTimeout
  extract_lets g p gptp disarmed full pps now
  have hgptp : Bounded timeoutMargin d gptp := .whenever fun _ => ((Bounded.refl d).disarm _ _).disarm _ _
  have hdisarmed : Bounded timeoutMargin d disarmed := hgptp.disarm _ _
  have hpps : Bounded timeoutMargin d pps := .ite (fun _ => hdisarmed.put .time rfl) fun _ => hgptp
  exact .ite (fun _ => Bounded.add (hpps.put .time rfl) (bounded_servoState _ 3)) fun _ => hpps

theorem frameSyncTimeout : FrameSyncTimeout := onlyChanges_of_dev (fun _ => rfl) fun s => bounded_doSyncTimeout s.dev

theorem framePpsOutRise : FramePpsOutRise := by
  have hput {d e : Dev} (he : Bounded ⟨[.timers, .time], [], []⟩ d e) (x : TimeSt) : Bounded ⟨[.timers, .time], [], []⟩ d { e with time := x } :=
    he.put .time rfl
  intro c hc
  simp only [List.mem_cons, List.not_mem_nil, or_false] at hc
  rcases hc with rfl | rfl
  · exact onlyChanges_of_dev (fun _ => rfl) fun s => .whenever fun _ => (hput (.refl s.dev) _).arm _ _ _
  · exact onlyChanges_of_dev (fun _ => rfl) fun s => .whenever fun _ => hput ((Bounded.refl s.dev).disarm _ _) _

/-! ### Timer blocks (R601 to R607) -/

/-- What a timer changes. -/
def timerMargin : Margin := raiseMargin.join ⟨[.time], [], []⟩

theorem frameTimerPeriod : FrameTimerPeriod := fun n => onlyChanges_of_dev (F := timerMargin) (fun _ => rfl) fun s =>
  .ofWithin (within_timerReload s.dev n.val)

theorem frameTimerCompare : FrameTimerCompare := fun n k => onlyChanges_of_dev (F := timerMargin) (fun _ => rfl) fun s =>
  .ofWithin (within_timerFire s.dev n.val k.val)

theorem Bounded.updTimer {F : Margin} {d e : Dev} (h : Bounded F d e) (n : Nat) (f : Timer → Timer)
    (hp : (F.parts.contains .time && Part.time != .scene) = true := by decide) : Bounded F d (updTimer e n f) := h.put .time rfl hp

theorem bounded_timerCapture (d : Dev) (n : Nat) (rising : Bool) : Bounded timerMargin d (timerCapture d n rising) := by
  unfold timerCapture
  extract_lets t c selected inside
  exact .otherwise fun _ => .ite (fun _ => (Bounded.refl d).updTimer _ _) fun _ => .ite (fun _ => (Bounded.refl d).updTimer _ _) fun _ =>
    ((Bounded.refl d).updTimer _ _).raise _

theorem frameTimerCapture : FrameTimerCapture := fun n rising => onlyChanges_of_dev (fun _ => rfl) fun s =>
  .otherwise fun _ => ((Bounded.refl s.dev).updTimer _ _).trans (bounded_timerCapture _ n.val rising)

theorem bounded_timerAccess (d : Dev) (m : List Host.Cell) (c off : Nat) (v : Word) (isRead : Bool) (hd : SceneKeys d.scene.alloc) :
    Bounded registerMargin d (timerAccess d m c off v isRead) := .ofWithin (within_arriveReg d m _ hd)

theorem frameCaptureRead : FrameCaptureRead := fun n =>
  onlyChangesScene_of_dev (fun _ => rfl) fun s hs => bounded_timerAccess s.dev s.mem _ _ _ _ hs

theorem frameTimerEnableWrite : FrameTimerEnableWrite := by
  intro n v
  simp only [List.forall_mem_cons, List.not_mem_nil, false_imp_iff, implies_true, and_true]
  exact ⟨onlyChangesScene_of_dev (fun _ => rfl) fun s hs => bounded_timerAccess s.dev s.mem _ _ _ _ hs,
    onlyChangesScene_of_dev (fun _ => rfl) fun s hs => bounded_timerAccess s.dev s.mem _ _ _ _ hs⟩

theorem frameStartMaskWrite : FrameStartMaskWrite := fun c v =>
  onlyChangesScene_of_dev (fun _ => rfl) fun s hs => bounded_timerAccess s.dev s.mem _ _ _ _ hs

theorem frameGroupStart : FrameGroupStart := fun c =>
  onlyChanges_of_dev (F := ⟨[.time], [], []⟩) (fun _ => rfl) fun s => .whenever fun _ =>
    Bounded.put ((Bounded.refl s.dev).foldl _ fun e k _ => (Bounded.refl e).updTimer _ _) .time rfl

/-! ### Observation (R722 to R733) -/

/-- What the action of a token changes. -/
def tokenMargin : Margin := answerMargin.join ⟨[.dirty, .obs], [], [obs_TOKEN_STATE, obs_SCOPE, obs_NOT_AFTER, obs_RECORDS_LOST]⟩

theorem bounded_tokenWrite (d : Dev) (b : List Byte) : Bounded tokenMargin d (tokenWrite d b).1 := by
  have hput (o : Obs) : Bounded tokenMargin d { d with obs := o } := (Bounded.refl d).put .obs rfl
  unfold tokenWrite
  dsimp only
  split
  · exact .refl d
  split
  · exact .refl d
  split
  · exact .refl d
  split
  · exact .refl d
  split
  · exact .refl d
  · exact ((((hput _).nSet _).nSet _).nSet _).trace _ _ _

theorem frameToken : FrameToken := fun _ b => onlyChanges_of_dev (fun _ => rfl) fun s => .withGate (bounded_tokenWrite s.dev b)

theorem frameEndToken : FrameEndToken := fun _ arg =>
  onlyChanges_of_dev (F := answerMargin.join ⟨[.dirty, .obs], [], [obs_TOKEN_STATE, obs_RECORDS_LOST]⟩) (fun _ => rfl) fun s => .withGate (by
    unfold endTokenOp
    split
    · exact .refl _
    · exact (bounded_tokenEnd _).mono)

theorem frameTokenExpiry : FrameTokenExpiry := onlyChanges_of_dev (fun _ => rfl) fun s => .whenever fun _ => bounded_tokenEnd s.dev

theorem bounded_runOp (d : Dev) (arg : Nat) : Bounded (answerMargin.join ⟨[.obs], [], []⟩) d (runOp d arg).1 := by
  unfold runOp
  split
  · exact .refl d
  · exact (Bounded.refl d).put .obs rfl

theorem frameCountersRun : FrameCountersRun := by
  intro sess
  simp only [List.forall_mem_cons, List.not_mem_nil, false_imp_iff, implies_true, and_true]
  exact ⟨onlyChanges_of_dev (fun _ => rfl) fun s => .withGate (bounded_runOp s.dev 1),
    onlyChanges_of_dev (fun _ => rfl) fun s => .withGate (bounded_runOp s.dev 0)⟩

theorem frameClear : FrameClear := fun _ arg =>
  onlyChanges_of_dev (F := answerMargin.join ⟨[.dirty], [], [ctr_VALUE 0]⟩) (fun _ => rfl) fun s => .withGate (by
    unfold clearOp
    split
    · exact .refl _
    · dsimp only
      exact (Bounded.refl _).foldl _ fun e k _ => (Bounded.refl e).nSet _)

theorem frameArm : FrameArm := fun _ arg =>
  onlyChanges_of_dev (F := answerMargin.join ⟨[.dirty], [], [snap_ARMED]⟩) (fun _ => rfl) fun s => .withGate (by
    unfold armOp
    split
    · exact .refl _
    · exact (Bounded.refl _).nSet _)

/-- What a snapshot changes (R730 to R733). -/
def snapMargin : Margin := ⟨[.timers, .dirty, .obs, .free], [0x70], []⟩

theorem bounded_snapIsland (d : Dev) (t i : Nat) : Bounded snapMargin d (snapIsland d t i) := by
  have hfree : Bounded snapMargin d (if 92 ≤ i ∧ i < 100 then freeUsed d else d) := .whenever fun _ => (Bounded.refl d).useFree
  exact (((((hfree.nSet _).nSet _).nSet _).nSet _).nSet _).nSet _

theorem bounded_snapTrigger (d : Dev) (cause : Nat) : Bounded snapMargin d (snapTrigger d cause) := by
  unfold snapTrigger
  extract_lets en t armed islands counters full
  have harmed : Bounded snapMargin d armed := ((((Bounded.refl d).nSet _).nSet _).nSet _).nSet _
  have hcounters : Bounded snapMargin d counters :=
    Bounded.foldl (harmed.foldl _ fun e i _ => bounded_snapIsland e t i) _ fun e k _ => (Bounded.refl e).nSet _
  exact .otherwise fun _ => .ite (fun _ => (Bounded.refl d).nSet _) fun _ => .ite (fun _ => (Bounded.refl d).nInc) fun _ =>
    Bounded.arm (hcounters.put .obs rfl) _ _ _

theorem frameTrigger : FrameTrigger := fun _ arg =>
  onlyChanges_of_dev (F := answerMargin.join snapMargin) (fun _ => rfl) fun s => .withGate (by
    unfold triggerOp
    split
    · exact .refl _
    · exact (bounded_snapTrigger _ 2).mono)

theorem frameSnapIn : FrameSnapIn := onlyChanges_of_dev (fun _ => rfl) fun s => bounded_snapTrigger s.dev 1

theorem frameSnapOutEnd : FrameSnapOutEnd := onlyChanges_of_dev (F := ⟨[.timers, .obs], [], []⟩) (fun _ => rfl) fun s =>
  .whenever fun _ => Bounded.put ((Bounded.refl s.dev).disarm _ _) .obs rfl

/-- What a record changes that leaves the Chimney port (R726). -/
def chimneyMargin : Margin := ⟨[.dirty, .obs, .out], [], [obs_RECORDS_SENT]⟩

theorem bounded_sendTrace (d : Dev) (r : TraceRecord) : Bounded chimneyMargin d (sendTrace d r) :=
  Bounded.emit (Bounded.nSet ((Bounded.refl d).put .obs rfl) _) _

theorem bounded_doChimneyRecordSend (d : Dev) : Bounded chimneyMargin d (doChimneyRecordSend d) := by
  have hput (o : Obs) : Bounded chimneyMargin d { d with obs := o } := (Bounded.refl d).put .obs rfl
  unfold doChimneyRecordSend
  refine .otherwise fun _ => ?_
  split
  · exact .refl d
  · exact .ite (fun _ => (hput _).trans (bounded_sendTrace _ _)) fun _ => (hput _).trans (bounded_sendTrace _ _)

theorem frameChimneyRecordSend : FrameChimneyRecordSend := onlyChanges_of_dev (fun _ => rfl) fun s => bounded_doChimneyRecordSend s.dev

/-! ### NOAP-lite over CAN (R68 to R86) -/

theorem refClass_refInst_of_refObj {r : Ref} {c i : Nat} (hc : c < 256) (hi : i < 65536) (h : refObj r = mref c i 0) :
    refClass r = c ∧ refInst r = i := by
  have hobj (n : Nat) (hn : n / 256 * 256 = c % 256 * 16777216 + i % 65536 * 256 + 0 % 256) :
      n / 16777216 % 256 = c ∧ n / 256 % 65536 = i := by omega
  exact hobj r h

/-- A member that NOAP-lite reaches and may change is of the Hearth plane: the others that it reaches are read only (R75, R84). -/
theorem hearth_of_liteReaches {r : Ref} {row : MemberRow} (hreach : liteReaches r = true) (hrow : rowOf r = some row) (hacc : row.acc ≠ .r) :
    refClass r = 0x20 ∨ refClass r = 0x21 := by
  have hdevice : ∀ x ∈ dictOf 1, x.lo ≤ 0 → x.acc = .r := by decide
  have hheat : ∀ x ∈ dictOf 2, x.lo ≤ 3 → 3 ≤ x.hi → x.acc = .r := by decide
  have hpanel : ∀ x ∈ dictOf 0x28, x.m0 ≤ 1 → 1 ≤ x.m1 → x.acc = .r := by decide
  have hfound := List.mem_of_find?_eq_some hrow
  have hfits := List.find?_some hrow
  simp only [Bool.and_eq_true, decide_eq_true_eq] at hfits
  obtain ⟨⟨⟨hlo, hhi⟩, hm0⟩, hm1⟩ := hfits
  simp only [liteReaches, Bool.or_eq_true, Bool.and_eq_true, beq_iff_eq, decide_eq_true_eq] at hreach
  rcases hreach with (((h | h) | ⟨h, -⟩) | ⟨⟨h, -⟩, -⟩) | ⟨h, hk⟩
  · exact .inl h
  · exact .inr h
  · obtain ⟨hclass, hinst⟩ := refClass_refInst_of_refObj (by decide) (by decide) h
    rw [hclass] at hfound
    rw [hinst] at hlo
    exact absurd (hdevice _ hfound hlo) hacc
  · obtain ⟨hclass, hinst⟩ := refClass_refInst_of_refObj (by decide) (by decide) h
    rw [hclass] at hfound
    rw [hinst] at hlo hhi
    exact absurd (hheat _ hfound hlo hhi) hacc
  · rw [h] at hfound
    rw [hk] at hm0 hm1
    exact absurd (hpanel _ hfound hm0 hm1) hacc

/-- What a write of a member of the Hearth plane changes. -/
def hearthMargin : Margin := lossMargin.join ⟨[.wear, .trust, .free], [0x20, 0x21], []⟩

theorem bounded_updPins (d : Dev) : Bounded hearthMargin d (updPins d) := .otherwise fun _ => (Bounded.refl d).nSet _

theorem bounded_faultClear (d : Dev) (mask : Nat) : Bounded hearthMargin d (faultClear d mask).1 := by
  have hhead (e : Dev) (h : Nat) : Bounded hearthMargin e (faultClearHead e h).1 := by
    unfold faultClearHead
    dsimp only
    split
    · exact ((Bounded.refl e).nSet _).add (bounded_hoCauseClear _ h 5)
    · exact .refl e
  have hfold (l : List Nat) (a : Dev × Nat) (ha : Bounded hearthMargin d a.1) :
      Bounded hearthMargin d (l.foldl (fun (a : Dev × Nat) h =>
        let x := faultClearHead a.1 h
        (x.1, if x.2 then a.2 + 2 ^ h else a.2)) a).1 := by
    induction l generalizing a with
    | nil => exact ha
    | cons h l ih => exact ih _ (ha.trans (hhead a.1 h))
  unfold faultClear
  split
  · exact .refl d
  · exact (hfold _ (d, 0) (.refl d)).trans (bounded_updPins _)

theorem bounded_noteCut (d : Dev) (i lag : Nat) : Bounded ⟨[.hearth], [], []⟩ d (noteCut d i lag) :=
  .otherwise fun _ => (Bounded.refl d).put .hearth rfl

theorem bounded_recombine (d : Dev) (i : Nat) : Bounded hearthMargin d (recombine d i) :=
  .otherwise fun _ => ((Bounded.refl d).add (bounded_noteCut d i 0)).nSet _

theorem bounded_slotWrite (m : List Host.Cell) (d : Dev) (i mem v : Nat) : Bounded hearthMargin d (slotWrite m d i mem v).1 := by
  have hset : Bounded hearthMargin d (nSet d (mref 0x20 (0x1000 + i) mem) v) := (Bounded.refl d).nSet _ rfl
  unfold slotWrite
  split
  · exact .refl d
  dsimp only
  split
  · exact .refl d
  split
  · exact .refl d
  split
  · exact .refl d
  split
  · exact .refl d
  split
  · exact .refl d
  split
  · exact .refl d
  · exact hset.trans (bounded_recombine _ i)

theorem bounded_signalMapWrite (d : Dev) (n mem v : Nat) : Bounded hearthMargin d (signalMapWrite d n mem v).1 := by
  have hset : Bounded hearthMargin d (nSet d (mref 0x21 n mem) v) := (Bounded.refl d).nSet _ rfl
  unfold signalMapWrite
  split
  · exact .refl d
  split
  · exact .refl d
  split
  · exact .refl d
  split
  · exact .refl d
  split
  · exact .refl d
  dsimp only
  split
  · exact ((hset.nSet _).disarm _ _).add (bounded_recombineFor _ _ n)
  · exact hset.add (bounded_enterLoss _ n)

theorem bounded_hoRequestWrite (d : Dev) (h v : Nat) : Bounded hearthMargin d (hoRequestWrite d h v).1 := by
  have hpanel (x : Wear) : Bounded hearthMargin d { d with wear := x } := (Bounded.refl d).put .wear rfl
  unfold hoRequestWrite
  split
  · exact .refl d
  split
  · exact ((hpanel _).nSet _).add (bounded_hoCauseSet _ h 4)
  split
  · exact .refl d
  split
  · exact Bounded.put (((Bounded.refl d).nSet _).add (bounded_hoCauseClear _ h 4)) .trust rfl
  · exact .refl d

theorem bounded_hheadWrite (m : List Host.Cell) (d : Dev) (h mem : Nat) (v : Val) : Bounded hearthMargin d (hheadWrite m d h mem v).1 := by
  have hplain : Bounded hearthMargin d (plainWrite d (mref 0x20 h mem) v).1 := bounded_plainWrite d v (Margin.admits_mref rfl)
  unfold hheadWrite
  split
  · exact .refl d
  split
  · split
    · exact bounded_hoRequestWrite d h _
    · exact hplain.trans (bounded_updPins _)
  · split
    · exact .refl d
    · exact hplain

theorem bounded_blinkWrite (d : Dev) (mem v : Nat) : Bounded hearthMargin d (blinkWrite d mem v).1 := by
  have hset : Bounded hearthMargin d (nSet d (mref 0x20 0x100 mem) v) := (Bounded.refl d).nSet _ rfl
  unfold blinkWrite
  split
  · exact .refl d
  split
  · split
    · exact hset
    · exact .refl d
  split
  · exact hset
  · exact .refl d

theorem bounded_writeHearth (m : List Host.Cell) (d : Dev) {r : Ref} (v : Val) (hr : hearthMargin.admits (r / 16777216) (refMember r) = true) :
    Bounded hearthMargin d (writeHearth m d r v).1 := by
  unfold writeHearth
  dsimp only
  split
  · exact bounded_signalMapWrite d _ _ _
  split
  · exact bounded_slotWrite m d _ _ _
  split
  · exact bounded_hheadWrite m d _ _ v
  split
  · exact bounded_faultClear d _
  split
  · exact .refl d
  split
  · exact bounded_plainWrite d v hr
  · exact bounded_blinkWrite d _ _

/-- What a write over NOAP-lite changes. -/
def liteMargin : Margin := hearthMargin.join ⟨[.noap, .scene, .out], [], [commitCtl_STAGED_COUNT, lite_LITE_TAG_FAIL]⟩

theorem bounded_stageWrite (d : Dev) (r : Ref) (v : Val) : Bounded liteMargin d (stageWrite d r v).1 := by
  have hstaged (l : List Staged) : Bounded liteMargin d { d with scene.staging := l } := (Bounded.refl d).setScene id
  unfold stageWrite
  dsimp only
  split
  · exact .refl d
  split
  · exact .refl d
  split
  · exact hstaged _
  · exact (hstaged _).nSet _

theorem bounded_writeLive_hearth (s : State) (sess : Nat) {r : Ref} (v : Val) (hclass : refClass r = 0x20 ∨ refClass r = 0x21) (hr : r < 2 ^ 32) :
    Bounded hearthMargin s.dev (writeLive s sess r v).1.dev := by
  have hadmits : hearthMargin.admits (r / 16777216) (refMember r) = true := by
    rw [div_of_lt hr]
    rcases hclass with h | h <;> rw [h] <;> rfl
  have hlow : ¬ refClass r ≤ 0x08 ∧ ¬ refClass r ≤ 0x18 ∧ refClass r ≤ 0x21 := by omega
  unfold writeLive
  dsimp only
  rw [if_neg hlow.1, if_neg hlow.2.1, if_pos hlow.2.2]
  exact bounded_writeHearth s.mem s.dev v hadmits

theorem bounded_writeStaged (d : Dev) (r : Ref) (v : Val) : Bounded liteMargin d (writeStaged d r v).1 := by
  unfold writeStaged
  split
  · exact .refl d
  · exact bounded_stageWrite d r v

theorem bounded_actionResult {F : Margin} {d e : Dev} (h : Bounded F d e) (r : Ref) (x : Status × List Byte)
    (hp : (F.parts.contains .free && Part.free != .scene) = true := by decide) : Bounded F d (actionResult r (e, x)).1 := by
  unfold actionResult
  split
  · split
    · exact h.useFreeN _ hp
    · exact h
  · exact h

/-- A write of a member by a message changes no more than its staging or its operation. -/
theorem bounded_memberWrite_message {F : Margin} (s : State) (sess : Nat) (it : WriteItem)
    (hstaged : ∀ v, Bounded F s.dev (writeStaged s.dev it.ref v).1)
    (hlive : ∀ row v, rowOf it.ref = some row → row.acc ≠ .r → Bounded F s.dev (writeLive s sess it.ref v).1.dev)
    (hp : (F.parts.contains .free && Part.free != .scene) = true := by decide) :
    Bounded F s.dev (memberWrite s sess .message it).1.dev := by
  unfold memberWrite
  split
  · exact .refl _
  split
  · exact .refl _
  next row hrow =>
  split
  · exact .refl _
  next hread =>
  have hacc : row.acc ≠ .r := fun h => hread ⟨h, rfl⟩
  split
  · exact .refl _
  split
  · exact .refl _
  split
  · exact .refl _
  split
  · exact .refl _
  next v _ =>
  split
  · exact .refl _
  split
  · exact hstaged v
  · exact bounded_actionResult (hlive row v hrow hacc) _ _ hp

theorem bounded_liteWriteMember (s : State) (r : Ref) (vtype : Nat) (val : List Byte) (hr : r < 2 ^ 32) :
    Bounded liteMargin s.dev (liteWriteMember s r vtype val).1.dev := by
  unfold liteWriteMember
  split
  · exact .refl _
  next hreach =>
  split
  · exact .refl _
  split
  · exact .refl _
  · refine bounded_memberWrite_message s 0 _ (fun v => bounded_writeStaged s.dev r v) fun row v hrow hacc => ?_
    exact (bounded_writeLive_hearth s 0 v (hearth_of_liteReaches (by simpa using hreach) hrow hacc) hr).mono

/-- What a frame of a CAN port changes, with the request that it may carry (R68 to R86, R585 to R591). -/
def canFrameMargin : Margin :=
  liteMargin.join (carriedMargin.join (canMargin.join ⟨[.out], [], [can_RX_FRAMES 0]⟩))

theorem bounded_liteAccept (d : Dev) (fresh : Nat) : Bounded canFrameMargin d (liteAccept d fresh) := by
  have hput {e : Dev} (he : Bounded canFrameMargin d e) (x : Noap) : Bounded canFrameMargin d { e with noap := x } := he.put .noap rfl
  exact .ite (fun _ => hput (hput (hput (.refl d) _) _) _) fun _ => hput (.refl d) _

theorem bounded_liteRespond (d : Dev) (brs : Bool) (typ : Nat) (st : Status) (r : Ref) (vtype : Nat) (val : List Byte) :
    Bounded canFrameMargin d (liteRespond d brs typ st r vtype val) := Bounded.emit ((Bounded.refl d).put .noap rfl) _

theorem foldl_be_lt (b : List Byte) (a k : Nat) (ha : a < 256 ^ k) :
    b.foldl (fun a x => a * 256 + x.toNat) a < 256 ^ (k + b.length) := by
  induction b generalizing a k with
  | nil => simpa using ha
  | cons x xs ih =>
    have hx := x.isLt
    have hstep : a * 256 + x.toNat < 256 ^ (k + 1) := by rw [pow_succ]; omega
    have h := ih _ _ hstep
    rwa [Nat.add_assoc, Nat.add_comm 1] at h

theorem ofBe_sliceOf_lt (b : List Byte) (i : Nat) : ofBe (sliceOf b i 4) < 2 ^ 32 := by
  have h := foldl_be_lt (sliceOf b i 4) 0 0 (by norm_num)
  rw [sliceOf_length] at h
  simpa [ofBe] using h

theorem bounded_runLite (s : State) (f : LiteFrame) : Bounded canFrameMargin s.dev (runLite s f).dev := by
  unfold runLite
  extract_lets brs id b d typ r vtype vlen e
  have haccepted : Bounded canFrameMargin s.dev e := bounded_liteAccept s.dev _
  refine .iteState (fun _ => (Bounded.refl s.dev).nInc.withDev s) fun _ => .iteState (fun _ => .refl _) fun _ => .iteState (fun _ => ?_) fun _ =>
    .iteState (fun _ => ?_) fun _ => ?_
  · exact (haccepted.trans (bounded_liteRespond _ _ _ _ _ _ _)).withDev s
  · exact (haccepted.trans (bounded_liteRespond _ _ _ _ _ _ _)).withDev s
  · have hwritten : Bounded canFrameMargin s.dev (liteWriteMember (withDev s e) r vtype (sliceOf (b.take 56) 12 vlen)).1.dev :=
      haccepted.add (bounded_liteWriteMember (withDev s e) r vtype _ (ofBe_sliceOf_lt b 6))
    exact (hwritten.trans (bounded_liteRespond _ _ _ _ _ _ _)).withDev _

theorem bounded_liteFrame (s : State) (fd : Bool) (f : LiteFrame) : Bounded canFrameMargin s.dev (liteFrame s fd f).dev := by
  have hput (x : Noap) : Bounded canFrameMargin s.dev { s.dev with noap := x } := (Bounded.refl _).put .noap rfl
  exact .iteState (fun _ => .refl _) fun _ => .iteState (fun _ => (Bounded.refl s.dev).nInc.withDev s) fun _ =>
    .iteState (fun _ => (hput _).withDev s) fun _ => bounded_runLite s f

theorem bounded_canFrame (port : Nat) (fmt : CanFormat) (id : Nat) (data : List Byte) (s : State) :
    Bounded canFrameMargin s.dev (canFrame port fmt id data s).dev := by
  unfold canFrame
  extract_lets acked heard
  have hacked : Bounded canFrameMargin s.dev acked := .otherwise fun _ => (Bounded.refl _).emit _
  have hheard : Bounded canFrameMargin s.dev heard := (hacked.nInc.add (bounded_canHeard _ port)).add (bounded_entriesFrame _ _ _ _)
  exact .iteState (fun _ => .refl _) fun _ => .iteState (fun _ => (hacked.add (bounded_canHeard _ port)).withDev s) fun _ =>
    .iteState (fun _ => hheard.trans (bounded_liteFrame (withDev s heard) _ _)) fun _ => hheard.withDev s

theorem frameCanFdFrameReceived : FrameCanFdFrameReceived := by
  intro port fmt id data s u hnext
  obtain rfl := Host.Outcome.next.inj hnext
  exact differOnly_of_bounded (bounded_canFrame port.val fmt id data s).mono (.inr rfl)

/-- Settles O52, clause by clause. -/
theorem frameSignalsTimeObservation : Obligations.FrameSignalsTimeObservation :=
  ⟨frameCanFdFrameReceived, frameT1sFrameReceived, frameSignalTimeout, frameGptpSync, frameSetTime, frameCanBusOff, frameCanBusOffRecovery,
    frameRestart, frameTimerPeriod, frameTimerCompare, frameTimerCapture, frameCaptureRead, frameTimerEnableWrite, frameStartMaskWrite,
    frameGroupStart, frameToken, frameEndToken, frameCountersRun, frameClear, frameArm, frameTrigger, frameCanIntegrated, frameCanProtocolError,
    framePlcaBeaconReceived, framePlcaBeaconSend, framePlcaBeaconLoss, framePpsEdge, frameSyncTimeout, framePpsOutRise, frameTokenExpiry,
    frameChimneyRecordSend, frameSnapIn, frameSnapOutEnd⟩

end Sys2Proof.Machine
end

section
/-!
CRANK_EXIT in a state whose allocation names an object of no scene class (R659, R91): the lines that waited for DRAM retire a channel, and
the leases looked at anew write STATE of that object.
-/
-- One proof at a time: the tasks of many short proofs wait on one another, and each holds a stack of its own.
set_option Elab.async false
namespace Sys2Proof.Machine

/-- In CRANK: video input 0 holds a line that waits for DRAM and writes octet 1 of block 0 alone. -/
def lineAwaitsDram : Dev :=
  nSet (updVin Dev.reset 0 fun x => { x with held := [{ line := 0, base := 0, parts := [(1, [0])] }] }) supply_SUPPLY_STATE 1

/-- Block 0 holds more errors than the decoder corrects, and one such block retires its channel (R469, R472, R494); the allocation names the
supply object; a commit is under evaluation, so that the channel's end leaves the model as it is. -/
def supplyAllocated : State :=
  withDev State.reset { nSet lineAwaitsDram mem_RETIRE_LIMIT 1 with
    dram := { Dram.reset with ready := true, errors := [(0, [0, 2, 4, 6, 8].map fun octet => (octet, 1))] }
    scene.alloc := [(mref 0x02 2 0, 1)]
    scene.evaluating := some { sess := 0, seq := 0, number := 0, mask := 0, dryRun := false, received := 0, taken := [] } }

theorem whenCrankExit_supplyAllocated : WhenCrankExit supplyAllocated := by decide +kernel

/-- STATE of the allocated object is SUPPLY_STATE. -/
theorem supplyState_doCrankExit_supplyAllocated : nGet (doCrankExit supplyAllocated).dev supply_SUPPLY_STATE = 1 := by decide +kernel

/-- Refutes O46: the conditions of CrankExitDoes leave out that every allocated object is of a scene class. In `supplyAllocated` CRANK_EXIT
sets SUPPLY_STATE to 0 and then writes 1 to it as STATE of an allocated object, where the statement wants 0. -/
theorem not_supplyAndSleep : ¬ Obligations.SupplyAndSleep := by
  unfold Obligations.SupplyAndSleep
  rintro ⟨-, -, -, -, -, -, -, -, -, -, hexit, -⟩
  obtain ⟨u, hexec, hstate, -⟩ := hexit supplyAllocated whenCrankExit_supplyAllocated
  have hu : doCrankExit supplyAllocated = u := Host.Outcome.next.inj hexec
  rw [← hu, supplyState_doCrankExit_supplyAllocated] at hstate
  exact absurd hstate (by decide)

end Sys2Proof.Machine
end
